-- ==== Sys2Proof/Word.lean ====
section
/-! DEFINITION. The word types of the PX4816: bytes and 32-bit register words (spec/00_scope.md, R5). -/
namespace Sys2Proof

/-- One byte of a flit, a message or a buffer. -/
abbrev Byte := BitVec 8

/-- One register word: registers are 32 bits wide (R5). -/
abbrev Word := BitVec 32

end Sys2Proof
end

