-- ==== Sys2Proof/Syntax/Types.lean ====
section
/-! DEFINITION. The operand types of the commands that are more than a number, a word or a byte list. -/
namespace Sys2Proof

/-- What EQUALIZE measured (R108, R109, R130, R163): for each rate (25.6, 12.8, 6.4 Gb/s) the lanes that met the checks at this end
and at the peer, one bit a lane, the peer's `OVC_HOLD` and its rate ceiling; for each lane the two FFE taps that the peer's requests
left at its transmitter, and the peaking kept at its receiver. -/
structure EqResult where
  own : List Nat
  peer : List Nat
  peerHold : Bool
  peerCeil : Nat
  pre : List Nat
  post : List Nat
  peak : List Nat
  deriving DecidableEq, Repr, Inhabited

/-- A cell that the start-up march found faulty (R493, R496): its macro, row and column. -/
structure FaultCell where
  mac : Nat
  row : Nat
  col : Nat
  deriving DecidableEq, Repr, Inhabited

/-- A scratchpad word that a core's program or its DMA engine wrote (R435): core, word number, data. -/
structure CoreWrite where
  core : Nat
  word : Nat
  data : Nat
  deriving DecidableEq, Repr, Inhabited

end Sys2Proof
end

