-- ==== Sys2Proof/Syntax.lean ====
section
/-! DEFINITION. The commands of the PX4816: one constructor for each row of spec/opcode_table.json. Operands are what
the outside world gives: a port, lane or channel number, a management word, a received payload, a measured value. -/
namespace Sys2Proof

/-- A command or event of the block. The docstrings name the row and its rule. -/
inductive Instr where
  /-- `REGISTER_WRITE` (R6). -/
  | registerWrite (addr : Word) (data : Word) (hit : Fin 3)
  /-- `SUPERFRAME_START` (R29). -/
  | superframeStart
  /-- `SYNC_RECEIVE` (R31). -/
  | syncReceive (p : Fin 4) (y : Option (List Byte)) (via : Nat)
  /-- `SYNC_LOST` (R31). -/
  | syncLost (p : Fin 4)
  /-- `SLOT_COMMIT` (R42). -/
  | slotCommit (p : Fin 4) (slot : Nat)
  /-- `FLIT_PRESENTATION` (R44). -/
  | flitPresentation (p : Fin 4) (slot : Nat)
  /-- `ISO_DEPARTURE` (R45). -/
  | isoDeparture (p : Fin 4) (tix : Nat)
  /-- `GUAR_DEPARTURE` (R46). -/
  | guarDeparture (p : Fin 4) (tix : Nat)
  /-- `PLAN_WINDOW_WRITE` (R38). -/
  | planWindowWrite (addr : Word) (data : Word)
  /-- `TUNNEL_ENTRY_WRITE` (R71). -/
  | tunnelEntryWrite (addr : Word) (data : Word)
  /-- `FRONT_REQ_RECEIVE` (R50). -/
  | frontReqReceive (p : Fin 4) (y : List Byte)
  /-- `FRONT_ACK_RECEIVE` (R50). -/
  | frontAckReceive (p : Fin 4) (y : List Byte)
  /-- `FRONT_NACK_RECEIVE` (R50). -/
  | frontNackReceive (p : Fin 4) (y : List Byte)
  /-- `FRONT_ACK_DEADLINE` (R50). -/
  | frontAckDeadline (p : Fin 4)
  /-- `PLAN_SHIFT_EFFECT` (R50). -/
  | planShiftEffect (p : Fin 4)
  /-- `LINK_SHIFT_GO` (R50). -/
  | linkShiftGo (p : Fin 4) (data : Word)
  /-- `ZSHIFT_GO` (R58). -/
  | zshiftGo (data : Word)
  /-- `ZONE_REQ_FORWARD` (R57). -/
  | zoneReqForward (p : Fin 4)
  /-- `ZONE_SHIFT_CATCHUP` (R57). -/
  | zoneShiftCatchup (p : Fin 4)
  /-- `SELECTOR_EVALUATE` (R60). -/
  | selectorEvaluate
  /-- `PRESENCE_BACKSTOP` (R59). -/
  | presenceBackstop (hub : Fin 64)
  /-- `VALIDATE` (R63). -/
  | validate (data : Word)
  /-- `INVALIDATE` (R66). -/
  | invalidate (data : Word)
  /-- `ROUTE_LOOKUP` (R80). -/
  | routeLookup (data : Word)
  /-- `ROUTE_INSERT` (R80). -/
  | routeInsert (data : Word)
  /-- `ROUTE_DELETE` (R80). -/
  | routeDelete (data : Word)
  /-- `ROUTE_READ` (R98). -/
  | routeRead (data : Word)
  /-- `TUNNEL_FRAME_RECEIVE` (R75). -/
  | tunnelFrameReceive
  /-- `POINT_IMAGE_TIMEOUT` (R88). -/
  | pointImageTimeout (i : Fin 64)
  /-- `PELOG_ENTRY_CLEAR` (R93). -/
  | pelogEntryClear (e : Fin 16) (data : Word)
  /-- `LANE_FAIL` (R121). -/
  | laneFail (p : Fin 4) (lane : Fin 10) (cause : Fin 6)
  /-- `LANE_REQ_RECEIVE` (R124). -/
  | laneReqReceive (p : Fin 4) (y : List Byte)
  /-- `LANE_ACK_RECEIVE` (R124). -/
  | laneAckReceive (p : Fin 4) (y : List Byte)
  /-- `LANE_NACK_RECEIVE` (R125). -/
  | laneNackReceive (p : Fin 4) (y : List Byte)
  /-- `LANE_SUBST_EFFECT` (R124). -/
  | laneSubstEffect (p : Fin 4)
  /-- `SUBST_COMPLETE` (R124). -/
  | substComplete (p : Fin 4)
  /-- `PROBATION_PASS` (R127). -/
  | probationPass (p : Fin 4) (lane : Fin 10)
  /-- `PROBATION_FAIL` (R127). -/
  | probationFail (p : Fin 4) (lane : Fin 10)
  /-- `FENCE` (R122). -/
  | fence (p : Fin 4) (lane : Fin 16)
  /-- `RESTORE` (R128). -/
  | restore (p : Fin 4) (lane : Fin 16)
  /-- `WIDEN` (R131). -/
  | widen (p : Fin 4)
  /-- `RESET_LANES` (R133). -/
  | resetLanes (p : Fin 4)
  /-- `HORIZON_START` (R113). -/
  | horizonStart (p : Fin 4)
  /-- `HORIZON_STOP` (R115). -/
  | horizonStop (p : Fin 4)
  /-- `HORIZON_SCAN_DONE` (R115). -/
  | horizonScanDone (p : Fin 4) (counts : List Nat)
  /-- `PRBS_CHECKER_LOCK` (R118). -/
  | prbsCheckerLock (p : Fin 4) (lane : Fin 10)
  /-- `PRBS_LOCK_LOSS` (R118). -/
  | prbsLockLoss (p : Fin 4) (lane : Fin 10) (errs : Nat) (nbits : Nat)
  /-- `ERROR_INJECT` (R119). -/
  | errorInject (p : Fin 4) (lane : Fin 10) (data : Word)
  /-- `INJECT_RATE_BIT` (R119). -/
  | injectRateBit (p : Fin 4) (lane : Fin 10)
  /-- `DFE_ADAPT` (R111). -/
  | dfeAdapt (p : Fin 4) (lane : Fin 10) (up : Bool) (ds : List Bool)
  /-- `FLIT_RECEIVE` (R140). -/
  | flitReceive (p : Fin 4) (slot : Nat) (raw : List Byte) (hits : Nat)
  /-- `REPLAY_TIMEOUT` (R146). -/
  | replayTimeout (p : Fin 4)
  /-- `TAG_VERIFY` (R156). -/
  | tagVerify (p : Fin 4)
  /-- `CREDIT_RECEIVE` (R150). -/
  | creditReceive (p : Fin 4) (y : List Byte)
  /-- `CREDIT_TIMEOUT` (R150). -/
  | creditTimeout (p : Fin 4) (vc : Fin 64)
  /-- `CREDIT_SYNC_SEND` (R151). -/
  | creditSyncSend (p : Fin 4)
  /-- `CREDIT_SYNC_RECEIVE` (R151). -/
  | creditSyncReceive (p : Fin 4) (y : List Byte)
  /-- `REKEY_TIMER` (R159). -/
  | rekeyTimer (p : Fin 4)
  /-- `REKEY` (R159). -/
  | rekey (p : Fin 4)
  /-- `REKEY_RECEIVE` (R159). -/
  | rekeyReceive (p : Fin 4) (y : List Byte)
  /-- `REKEY_ACK_RECEIVE` (R159). -/
  | rekeyAckReceive (p : Fin 4) (y : List Byte)
  /-- `REKEY_NO_ACK` (R159). -/
  | rekeyNoAck (p : Fin 4)
  /-- `REKEY_EFFECT` (R159). -/
  | rekeyEffect (p : Fin 4)
  /-- `OLD_KEY_RETIRE` (R159). -/
  | oldKeyRetire (p : Fin 4)
  /-- `RETRAIN` (R164). -/
  | retrain (p : Fin 4)
  /-- `JXK_EN_WRITE` (R170). -/
  | jxkEnWrite (p : Fin 4) (data : Word)
  /-- `DETECT_DONE` (R163). -/
  | detectDone (p : Fin 4)
  /-- `EQUALIZE_DONE` (R130). -/
  | equalizeDone (p : Fin 4) (r : EqResult)
  /-- `DESKEW_DONE` (R163). -/
  | deskewDone (p : Fin 4) (pol : Nat)
  /-- `ALIGN_ID_RECEIVE` (R162). -/
  | alignIdReceive (p : Fin 4) (y : List Byte)
  /-- `ALIGN_CRED_RECEIVE` (R160). -/
  | alignCredReceive (p : Fin 4) (y : List Byte)
  /-- `AUTH_MESSAGE_RECEIVE` (R481). -/
  | authMessageReceive (p : Fin 4) (y : List Byte) (ok : Bool)
  /-- `AUTH_DONE_RECEIVE` (R481). -/
  | authDoneReceive (p : Fin 4) (y : List Byte)
  /-- `TRAINING_TIMEOUT` (R165). -/
  | trainingTimeout (p : Fin 4)
  /-- `BACKOFF_END` (R165). -/
  | backoffEnd (p : Fin 4)
  /-- `RECOVER_END` (R163). -/
  | recoverEnd (p : Fin 4)
  /-- `PEER_TRAINING_DETECT` (R164). -/
  | peerTrainingDetect (p : Fin 4)
  /-- `PEER_LOSS` (R546). -/
  | peerLoss (p : Fin 4)
  /-- `LOOP_MEASURE` (R168). -/
  | loopMeasure (p : Fin 4) (v : Nat)
  /-- `SWITCH_CELL_ALLOCATE` (R193). -/
  | switchCellAllocate (p : Fin 18)
  /-- `SWITCH_FRAME_COMPLETE` (R176). -/
  | switchFrameComplete
  /-- `SCHEDULER_SELECT` (R206). -/
  | schedulerSelect
  /-- `EGRESS_READ` (R180). -/
  | egressRead (p : Fin 18) (ce : List (Fin 32)) (ueBank : Option (Fin 32)) (ueAddr : Fin 32768)
  /-- `AGEING_SWEEP` (R185). -/
  | ageingSweep
  /-- `BUFFER_SCRUB` (R196). -/
  | bufferScrub (ce : List (Fin 34)) (ue : List (Fin 34))
  /-- `BANK_MARK_FAILING` (R197). -/
  | bankMarkFailing (data : Word)
  /-- `BANK_COPY_DONE` (R198). -/
  | bankCopyDone
  /-- `FDB_LOOKUP` (R187). -/
  | fdbLookup (data : Word)
  /-- `FDB_INSERT` (R187). -/
  | fdbInsert (data : Word)
  /-- `FDB_DELETE` (R187). -/
  | fdbDelete (data : Word)
  /-- `FDB_READ` (R187). -/
  | fdbRead (data : Word)
  /-- `FDB_FLUSH` (R187). -/
  | fdbFlush (data : Word)
  /-- `NODE_REFILL` (R214). -/
  | nodeRefill (j : Fin 4258)
  /-- `METER_REFILL` (R221). -/
  | meterRefill (m : Fin 2048)
  /-- `WFQ_REBASE` (R210). -/
  | wfqRebase
  /-- `QUEUE_PARENT_WRITE` (R205). -/
  | queueParentWrite (q : Fin 4096) (data : Word)
  /-- `SHAPER_WRITE` (R215). -/
  | shaperWrite (addr : Word) (data : Word)
  /-- `METER_WRITE` (R221). -/
  | meterWrite (addr : Word) (data : Word)
  /-- `FS_FRAME_RECEIVE` (R235). -/
  | fsFrameReceive (g : Fin 4) (frame : List Byte) (fcsOk : Bool) (opp : Fin 32)
  /-- `SEG_NOISE` (R233). -/
  | segNoise (g : Fin 4) (noise : Nat) (coll : Nat) (plca : List (Fin 32))
  /-- `DROP_TIMEOUT` (R238). -/
  | dropTimeout (e : Fin 256)
  /-- `LINE_FAULT` (R234). -/
  | lineFault (g : Fin 4)
  /-- `LINE_PROBE` (R234). -/
  | lineProbe (g : Fin 4) (clean : Bool)
  /-- `DI_EDGE` (R240). -/
  | diEdge (i : Fin 16) (level : Bool) (time : Nat)
  /-- `DI_ACCEPT` (R240). -/
  | diAccept (i : Fin 16) (now : Nat)
  /-- `CHATTER_END` (R243). -/
  | chatterEnd (i : Fin 16)
  /-- `DI_STUCK` (R242). -/
  | diStuck (i : Fin 16)
  /-- `FIELD_LOW` (R244). -/
  | fieldLow
  /-- `FIELD_OK_RETURN` (R244). -/
  | fieldOkReturn (time : Nat)
  /-- `TS_POP` (R241). -/
  | tsPop (data : Word)
  /-- `POINT_WRITE` (R230). -/
  | pointWrite (n : Fin 4096) (data : Word)
  /-- `OUTPUT_WD_KICK` (R248). -/
  | outputWdKick (data : Word)
  /-- `OUTPUT_WD_LAPSE` (R248). -/
  | outputWdLapse
  /-- `D2D_FRAME_TIMEOUT` (R249). -/
  | d2dFrameTimeout
  /-- `ARM` (R250). -/
  | arm (data : Word)
  /-- `AUTOARM` (R250). -/
  | autoarm
  /-- `ETH_FRAME_RECEIVE` (R257). -/
  | ethFrameReceive (p : Fin 8) (frame : List Byte) (fcsOk : Bool) (time : Nat) (corr : Nat) (unc : Nat)
  /-- `ETH_LINK_UP` (R256). -/
  | ethLinkUp (p : Fin 8) (speed : Fin 4)
  /-- `ETH_LINK_DOWN` (R256). -/
  | ethLinkDown (p : Fin 8)
  /-- `TXTS_POP` (R262). -/
  | txtsPop (p : Fin 8) (data : Word)
  /-- `TIME_STEP` (R268). -/
  | timeStep (data : Word)
  /-- `TSU_RATE_WRITE` (R268). -/
  | tsuRateWrite (data : Word)
  /-- `TIME_STEP_APPLY` (R268). -/
  | timeStepApply
  /-- `TIME_SERVICE_MESSAGE` (R264). -/
  | timeServiceMessage (hfn : Fin 16777216) (loop : Fin 1048576)
  /-- `PCIE_TLP_RECEIVE` (R279). -/
  | pcieTlpReceive (tlp : List Byte)
  /-- `PCIE_ITEM_RECEIVE` (R280). -/
  | pcieItemReceive (c : Fin 31) (sub : Fin 4) (item : List Byte) (inBar : Bool)
  /-- `READ_AHEAD_EXPIRE` (R290). -/
  | readAheadExpire (a : Nat)
  /-- `PCIE_CREDIT_SEND` (R281). -/
  | pcieCreditSend (c : Fin 31)
  /-- `NP_TIMEOUT` (R287). -/
  | npTimeout (c : Fin 31) (key : Nat)
  /-- `VDSP_RESET` (R286). -/
  | vdspReset (kind : Fin 3) (c : Fin 31)
  /-- `PCIE_RESET_REQUEST` (R286). -/
  | pcieResetRequest
  /-- `PERST_RELEASE` (R276). -/
  | perstRelease
  /-- `PCIE_LINK_UP` (R292). -/
  | pcieLinkUp (gen : Fin 5) (width : Fin 5)
  /-- `PCIE_LINK_DOWN` (R292). -/
  | pcieLinkDown
  /-- `DP_LINE_RECEIVE` (R297). -/
  | dpLineReceive (d : Fin 2) (unit : List Byte) (clk : Nat)
  /-- `CLOCK_PAIR_SEND` (R298). -/
  | clockPairSend (d : Fin 2) (pix : Nat) (t : Nat)
  /-- `VIDEO_UNIT_RECEIVE` (R297). -/
  | videoUnitReceive (d : Fin 2) (unit : List Byte) (lost : List Nat) (played : Nat)
  /-- `CLOCK_PAIR_RECEIVE` (R300). -/
  | clockPairReceive (d : Fin 2) (pix : Nat) (t : Nat) (err : Nat)
  /-- `CLOCK_PAIR_LOST` (R301). -/
  | clockPairLost (d : Fin 2)
  /-- `PLAYOUT_UNDERRUN` (R302). -/
  | playoutUnderrun (d : Fin 2)
  /-- `AUX_REQUEST` (R305). -/
  | auxRequest (d : Fin 2) (cmd : Fin 16) (addr : Fin 1048576) (len : Fin 17) (data : List Byte)
  /-- `AUX_MESSAGE_RECEIVE` (R304). -/
  | auxMessageReceive (d : Fin 2) (msg : List Byte) (code : Fin 16) (answer : List Byte)
  /-- `AUX_REPLY_RECEIVE` (R305). -/
  | auxReplyReceive (d : Fin 2) (msg : List Byte)
  /-- `AUX_TIMEOUT` (R305). -/
  | auxTimeout (d : Fin 2)
  /-- `SINK_ATTACH` (R306). -/
  | sinkAttach (d : Fin 2) (caps : List Byte) (edid : List Byte) (ok : Bool) (fec : Bool)
  /-- `ROOT_ATTACH_RECEIVE` (R307). -/
  | rootAttachReceive (d : Fin 2) (msg : List Byte)
  /-- `SINK_DETACH` (R307). -/
  | sinkDetach (d : Fin 2)
  /-- `SINK_IRQ_HPD` (R306). -/
  | sinkIrqHpd (d : Fin 2) (link : Bool) (ok : Bool) (fec : Bool) (vector : Fin 256)
  /-- `DP_TRAIN_RETRY` (R306). -/
  | dpTrainRetry (d : Fin 2) (ok : Bool) (fec : Bool)
  /-- `BURST` (R320). -/
  | burst (msg : List Byte)
  /-- `BURST_DONE` (R319). -/
  | burstDone (codes : List Nat) (datas : List (List Byte))
  /-- `NAK_TIMEOUT` (R319). -/
  | nakTimeout (codes : List Nat) (datas : List (List Byte))
  /-- `GET_HUB_DESCRIPTOR` (R321). -/
  | getHubDescriptor (mseq : Fin 256)
  /-- `GET_HUB_STATUS` (R321). -/
  | getHubStatus (mseq : Fin 256)
  /-- `GET_PORT_STATUS` (R321). -/
  | getPortStatus (mseq : Fin 256) (k : Fin 4)
  /-- `SET_PORT_RESET` (R322). -/
  | setPortReset (mseq : Fin 256) (k : Fin 4)
  /-- `SET_PORT_SUSPEND` (R321). -/
  | setPortSuspend (mseq : Fin 256) (k : Fin 4)
  /-- `SET_PORT_POWER` (R314). -/
  | setPortPower (mseq : Fin 256) (k : Fin 4)
  /-- `SET_PORT_TEST` (R321). -/
  | setPortTest (mseq : Fin 256) (k : Fin 4) (sel : Fin 256)
  /-- `CLEAR_PORT_ENABLE` (R322). -/
  | clearPortEnable (mseq : Fin 256) (k : Fin 4)
  /-- `CLEAR_PORT_SUSPEND` (R324). -/
  | clearPortSuspend (mseq : Fin 256) (k : Fin 4)
  /-- `CLEAR_PORT_POWER` (R314). -/
  | clearPortPower (mseq : Fin 256) (k : Fin 4)
  /-- `CLEAR_C_PORT_FEATURE` (R321). -/
  | clearCPortFeature (mseq : Fin 256) (k : Fin 4) (c : Fin 5)
  /-- `CLEAR_TT_BUFFER` (R321). -/
  | clearTtBuffer (mseq : Fin 256) (k : Fin 4)
  /-- `RESET_TT` (R321). -/
  | resetTt (mseq : Fin 256) (k : Fin 4)
  /-- `PORT_RESET_DONE` (R322). -/
  | portResetDone (k : Fin 4) (chirp : Bool)
  /-- `PLOAD` (R327). -/
  | pload (mseq : Fin 256) (body : List Byte)
  /-- `PUNLOAD` (R327). -/
  | punload (mseq : Fin 256) (entry : Fin 256)
  /-- `SUSPEND` (R323). -/
  | suspend (mseq : Fin 256)
  /-- `RESUME` (R323). -/
  | resume (mseq : Fin 256)
  /-- `RESUME_DONE` (R323). -/
  | resumeDone (target : Fin 5)
  /-- `REMOTE_WAKE` (R324). -/
  | remoteWake (k : Fin 4)
  /-- `USB_CONNECT` (R315). -/
  | usbConnect (k : Fin 4) (low : Bool)
  /-- `USB_DISCONNECT` (R322). -/
  | usbDisconnect (k : Fin 4)
  /-- `USB_OVERCURRENT` (R314). -/
  | usbOvercurrent (k : Fin 4)
  /-- `MICROFRAME_START` (R312). -/
  | microframeStart (ents : List Nat) (codes : List Nat) (datas : List (List Byte))
  /-- `OUT_RECORD_RECEIVE` (R328). -/
  | outRecordReceive (rec : List Byte) (lost : Bool)
  /-- `ORPHAN_TIMEOUT` (R325). -/
  | orphanTimeout
  /-- `TC_ATTACH` (R336). -/
  | tcAttach (n : Fin 2) (src : Bool) (cc2 : Bool) (ra : Bool) (rp : Fin 4)
  /-- `TC_DETACH` (R346). -/
  | tcDetach (n : Fin 2)
  /-- `PD_MESSAGE_RECEIVE` (R337). -/
  | pdMessageReceive (n : Fin 2) (sop : Fin 4) (msg : List Byte)
  /-- `GOODCRC_TIMEOUT` (R337). -/
  | goodcrcTimeout (n : Fin 2)
  /-- `TXREQ` (R340). -/
  | txreq (n : Fin 2) (sop : Fin 4) (rseq : Fin 256) (msg : List Byte)
  /-- `HARD_RESET` (R340). -/
  | hardReset (n : Fin 2) (rseq : Fin 256)
  /-- `SEND_CAPS` (R340). -/
  | sendCaps (n : Fin 2) (rseq : Fin 256)
  /-- `ERROR_RECOVERY` (R340). -/
  | errorRecovery (n : Fin 2) (rseq : Fin 256)
  /-- `POLICY_WAIT_EXPIRE` (R341). -/
  | policyWaitExpire (n : Fin 2)
  /-- `SRC_TRANSITION_END` (R342). -/
  | srcTransitionEnd (n : Fin 2)
  /-- `VBUS_FAULT` (R342). -/
  | vbusFault (n : Fin 2)
  /-- `PS_TRANSITION_TIMEOUT` (R342). -/
  | psTransitionTimeout (n : Fin 2)
  /-- `SWAP_TIMEOUT` (R342). -/
  | swapTimeout (n : Fin 2)
  /-- `SINK_TX_WAIT_END` (R344). -/
  | sinkTxWaitEnd (n : Fin 2)
  /-- `FEED_VALID` (R353). -/
  | feedValid (f : Fin 2)
  /-- `FEED_LOST` (R353). -/
  | feedLost (f : Fin 2)
  /-- `FEED_OV` (R353). -/
  | feedOv (f : Fin 2)
  /-- `FEED_OV_EXIT` (R353). -/
  | feedOvExit (f : Fin 2)
  /-- `REVERSE_TURN_OFF` (R354). -/
  | reverseTurnOff (f : Fin 2) (back : Bool)
  /-- `INPUT_RAMP_DONE` (R355). -/
  | inputRampDone
  /-- `INPUT_RAMP_TIMEOUT` (R355). -/
  | inputRampTimeout
  /-- `INPUT_TRIP` (R356). -/
  | inputTrip (fast : Bool)
  /-- `INPUT_RETRY` (R356). -/
  | inputRetry
  /-- `INPUT_HOLD_CLEAR` (R356). -/
  | inputHoldClear
  /-- `IN_GOOD_LOSS` (R357). -/
  | inGoodLoss
  /-- `EF_ENABLE` (R371). -/
  | efEnable (c : Fin 3) (data : Word)
  /-- `EF_RAMP_DONE` (R359). -/
  | efRampDone (c : Fin 3)
  /-- `EF_SAMPLE` (R360). -/
  | efSample (v : List Nat) (i : List Int) (lim : List Bool)
  /-- `EF_TIMER_TRIP` (R360). -/
  | efTimerTrip (c : Fin 3)
  /-- `EF_FAST_TRIP` (R361). -/
  | efFastTrip (c : Fin 3)
  /-- `EF_FET_FAIL` (R363). -/
  | efFetFail (c : Fin 3)
  /-- `EF_FET_SHORT` (R364). -/
  | efFetShort (c : Fin 3)
  /-- `EF_PG_UP` (R365). -/
  | efPgUp (c : Fin 3)
  /-- `EF_PRESENCE_CHANGE` (R367). -/
  | efPresenceChange (c : Fin 3) (present : Bool)
  /-- `EF_COOLDOWN_END` (R368). -/
  | efCooldownEnd (c : Fin 3)
  /-- `TELEMETRY_UPDATE` (R369). -/
  | telemetryUpdate (va : Fin 65536) (vb : Fin 65536)
  /-- `ENERGY_CLEAR` (R370). -/
  | energyClear (data : Word)
  /-- `ENERGY_LATCH` (R370). -/
  | energyLatch (t : Fin 4)
  /-- `PWP_ACCESS_TIMEOUT` (R352). -/
  | pwpAccessTimeout
  /-- `DOMAIN_GATE` (R381). -/
  | domainGate (d : Fin 13) (done : Bool)
  /-- `DRAIN_ABORT` (R385). -/
  | drainAbort (d : Fin 13) (n : Fin 65536)
  /-- `DOMAIN_WAKE` (R383). -/
  | domainWake (d : Fin 13)
  /-- `DOMAIN_RESTORE` (R383). -/
  | domainRestore (d : Fin 13)
  /-- `DOZE` (R387). -/
  | doze
  /-- `SHIP` (R387). -/
  | ship
  /-- `ULP_EXPIRE` (R387). -/
  | ulpExpire
  /-- `DOZE_REACHED` (R388). -/
  | dozeReached
  /-- `DOZE_WAKE_EVENT` (R389). -/
  | dozeWakeEvent (src : Fin 6) (i : Fin 16)
  /-- `FAB_PG_TIMEOUT` (R389). -/
  | fabPgTimeout
  /-- `SHIP_WAKE` (R390). -/
  | shipWake (feed : Bool) (vbat : Bool)
  /-- `PLL_HOLDOVER` (R393). -/
  | pllHoldover
  /-- `PLL_RELOCK` (R393). -/
  | pllRelock
  /-- `PLL_UNLOCK` (R393). -/
  | pllUnlock (k : Fin 5)
  /-- `AVS_UPDATE` (R394). -/
  | avsUpdate (target : Fin 41) (ack : Bool)
  /-- `NPOR_LOW` (R397). -/
  | nporLow (vbat : Bool)
  /-- `NRESET_LOW` (R397). -/
  | nresetLow
  /-- `FABRIC_RESET_RELEASE` (R414). -/
  | fabricResetRelease (src : Fin 4) (faults : List FaultCell) (copyA : List Byte) (copyB : List Byte) (idOk : Bool) (drbgOk : Bool)
  /-- `BOOT_LOCK` (R416). -/
  | bootLock (ms : Nat)
  /-- `CONFIRM` (R413). -/
  | confirm
  /-- `RESET` (R397). -/
  | reset
  /-- `LOAD` (R408). -/
  | load
  /-- `SVN_RAISE` (R420). -/
  | svnRaise
  /-- `BIDWRITE` (R409). -/
  | bidwrite
  /-- `TEST` (R418). -/
  | test
  /-- `PUSH_WRITE` (R408). -/
  | pushWrite (data : Word)
  /-- `BOOT_BLOCK_RECEIVE` (R410). -/
  | bootBlockReceive (tag : Fin 65536) (status : Fin 256) (body : List Byte)
  /-- `BOOT_BLOCK_TIMEOUT` (R410). -/
  | bootBlockTimeout (i : Nat)
  /-- `NET_BOOT_RETRY` (R410). -/
  | netBootRetry
  /-- `SVC_WDT_WARN` (R440). -/
  | svcWdtWarn
  /-- `SVC_WDT_LAPSE` (R440). -/
  | svcWdtLapse
  /-- `CIRRUS_RELAY` (R422). -/
  | cirrusRelay (hit : Fin 3)
  /-- `RD32` (R424). -/
  | rd32 (path : Fin 2) (src : Fin 128) (tag : Fin 65536) (addr : Word) (hit : Fin 3)
  /-- `WR32` (R426). -/
  | wr32 (path : Fin 2) (src : Fin 128) (tag : Fin 65536) (addr : Word) (data : Word) (hit : Fin 3)
  /-- `WRC32` (R424). -/
  | wrc32 (path : Fin 2) (src : Fin 128) (tag : Fin 65536) (addr : Word) (data : Word) (hit : Fin 3)
  /-- `RDBLK` (R425). -/
  | rdblk (path : Fin 2) (src : Fin 128) (tag : Fin 65536) (addr : Word) (n : Fin 65536) (hit : Fin 3)
  /-- `WRBLK` (R425). -/
  | wrblk (path : Fin 2) (src : Fin 128) (tag : Fin 65536) (addr : Word) (data : List Word) (hit : Fin 3)
  /-- `EVENT` (R424). -/
  | event (path : Fin 2) (src : Fin 128) (words : List Byte)
  /-- `ERR` (R426). -/
  | err (path : Fin 2) (src : Fin 128) (words : List Byte)
  /-- `PRESENCE_REPORT` (R433). -/
  | presenceReport (hub : Fin 64) (kinds : Fin 8192) (ready : Bool) (speed : Fin 8) (width : Fin 8) (sfn : Word)
  /-- `LOSS_REPORT` (R433). -/
  | lossReport (hub : Fin 64) (mask : Nat) (sfn : Word)
  /-- `CHALLENGE` (R432). -/
  | challenge (path : Fin 2) (src : Fin 128) (tag : Fin 65536)
  /-- `ARM_PS` (R431). -/
  | armPs (path : Fin 2) (src : Fin 128) (tag : Fin 65536) (auth : Bool) (nonce : List Byte) (mac : List Byte)
  /-- `ARM_BOOT` (R431). -/
  | armBoot (path : Fin 2) (src : Fin 128) (tag : Fin 65536) (auth : Bool) (nonce : List Byte) (mac : List Byte)
  /-- `READ_STATUS` (R429). -/
  | readStatus
  /-- `MSG_WRITE` (R430). -/
  | msgWrite (b : List Byte) (hit : Fin 3)
  /-- `RSP_READ` (R429). -/
  | rspRead
  /-- `MSG_WRITE_Q` (R429). -/
  | msgWriteQ (b : List Byte) (hit : Fin 3)
  /-- `RSP_READ_Q` (R429). -/
  | rspReadQ
  /-- `NIMBUS_PERIOD` (R438). -/
  | nimbusPeriod (late : List (Fin 16)) (coll : List (Fin 4)) (xfer : List (Fin 4)) (writes : List CoreWrite)
  /-- `CORE_TRAP` (R440). -/
  | coreTrap (n : Fin 4) (mcause : Word) (plug : Option (Fin 16))
  /-- `HALT` (R450). -/
  | halt (n : Fin 4) (data : Word)
  /-- `EVENT_ARRIVAL` (R444). -/
  | eventArrival
  /-- `EVQ_POP` (R445). -/
  | evqPop (data : Word)
  /-- `EVENT_SOURCE_CLEAR` (R442). -/
  | eventSourceClear (i : Fin 1024) (data : Word)
  /-- `TAMPER_DETECT` (R458). -/
  | tamperDetect (src : Fin 6) (active : Bool)
  /-- `LC_PROVISION` (R461). -/
  | lcProvision
  /-- `LC_FIELD` (R461). -/
  | lcField
  /-- `LC_RETURN` (R461). -/
  | lcReturn
  /-- `LC_END` (R461). -/
  | lcEnd
  /-- `ID_ENROLL` (R461). -/
  | idEnroll
  /-- `CERT_WRITE` (R461). -/
  | certWrite
  /-- `KEY_IMPORT` (R470). -/
  | keyImport
  /-- `KEY_DESTROY` (R471). -/
  | keyDestroy
  /-- `TAMPER_CLEAR` (R461). -/
  | tamperClear
  /-- `LC_RESET` (R461). -/
  | lcReset
  /-- `NONCE_DRAW` (R463). -/
  | nonceDraw
  /-- `SLOT_TAG_CHECK` (R468). -/
  | slotTagCheck (bad : List (Fin 64))
  /-- `JOURNAL_UPDATE_DONE` (R474). -/
  | journalUpdateDone (good : Bool)
  /-- `JOURNAL_UPDATE_TIMEOUT` (R474). -/
  | journalUpdateTimeout
  /-- `TRNG_FAIL` (R479). -/
  | trngFail
  /-- `TRNG_RETEST` (R479). -/
  | trngRetest (pass : Bool)
  /-- `MACRO_SCRUB` (R488). -/
  | macroScrub (m : Fin 616) (word : Fin 4096) (synd : Fin 512) (loc : Nat) (err : Fin 3) (scrub : Bool) (iso : Bool)
  /-- `CAPTURE_CLEAR` (R491). -/
  | captureClear (c : Fin 14) (data : Word)
  /-- `FCLR` (R492). -/
  | fclr (data : Word)
  /-- `MARCH_START` (R494). -/
  | marchStart (ss : Bool) (destr : Bool) (first : Fin 1024) (count : Fin 1024)
  /-- `MARCH_STOP` (R494). -/
  | marchStop
  /-- `MARCH_DONE` (R494). -/
  | marchDone (faults : List Nat) (done : Nat)
  /-- `FUSE_REPAIR` (R498). -/
  | fuseRepair (data : Word)
  /-- `D2D_LANE_SPARE` (R499). -/
  | d2dLaneSpare (lane : Fin 17)
  /-- `D2D_FRAME_RETRY` (R501). -/
  | d2dFrameRetry (corr : Nat)
  /-- `D2D_FAIL` (R501). -/
  | d2dFail
  /-- `D2D_RETRAIN` (R501). -/
  | d2dRetrain (ok : Bool)
  /-- `UNLOCK` (R505). -/
  | unlock
  /-- `LOCK` (R505). -/
  | lock
  /-- `DEBUG_UNLOCK_EXPIRE` (R505). -/
  | debugUnlockExpire
  /-- `JTAG_INSTRUCTION` (R502). -/
  | jtagInstruction (i : Fin 9)
  /-- `RESET_RELEASE` (R398). -/
  | resetRelease (src : Fin 4)
  /-- `POWER_PATH_POWER_UP` (R351). -/
  | powerPathPowerUp
  /-- `BOTH_FEEDS_BELOW_20V` (R351). -/
  | bothFeedsBelow20v
  /-- `INPUT_FET_FAIL` (R356). -/
  | inputFetFail
  /-- `PS_ARM_EXPIRE` (R387). -/
  | psArmExpire
  /-- `BOOT_ARM_EXPIRE` (R420). -/
  | bootArmExpire
  /-- `DRP_TOGGLE` (R335). -/
  | drpToggle (n : Fin 2)
  /-- `PD_TIMER_EXPIRY` (R338). -/
  | pdTimerExpiry (n : Fin 2) (t : Fin 8)
  /-- `VBUS_LEVEL_REACHED` (R342). -/
  | vbusLevelReached (n : Fin 2)
  /-- `CC_RP_CHANGE` (R344). -/
  | ccRpChange (n : Fin 2) (rp : Fin 4)
  /-- `SINK_TX_HOLD_TIMEOUT` (R340). -/
  | sinkTxHoldTimeout (n : Fin 2)
  /-- `UNSUPPORTED_HUB_REQUEST` (R321). -/
  | unsupportedHubRequest (mseq : Fin 256)
  /-- `RTE_MESSAGE_MALFORMED` (R316). -/
  | rteMessageMalformed (msg : List Byte)
  /-- `SERVICE_COMMAND` (R431). -/
  | serviceCommand (path : Fin 2) (src : Fin 128) (tag : Fin 65536) (auth : Bool) (body : List Byte)
  /-- `GRANDMASTER_LOST` (R269). -/
  | grandmasterLost
  /-- `NIRQ_PULSE_END` (R446). -/
  | nirqPulseEnd
  deriving DecidableEq, Repr

end Sys2Proof
end

