-- ==== Sys2Proof/Machine/Bits.lean ====
section
/-! DEFINITION. Bit fields, byte order, signed values and the CRC of R139. -/
namespace Sys2Proof.Machine

/-- Bits [lsb+w-1:lsb] of a number. -/
def bits (v lsb w : Nat) : Nat := v / 2 ^ lsb % 2 ^ w

/-- Bit `i` of a number. -/
def bitAt (v i : Nat) : Bool := v / 2 ^ i % 2 == 1

/-- Byte `i` of a byte list; 0 beyond its end. -/
def byteAt (l : List Byte) (i : Nat) : Nat := (l.getD i 0).toNat

/-- `n` bytes from byte `i`, little-endian. -/
def leAt (l : List Byte) (i n : Nat) : Nat :=
  match n with
  | 0 => 0
  | n + 1 => byteAt l i + 256 * leAt l (i + 1) n

/-- `n` bytes from byte `i`, big-endian. -/
def beAt (l : List Byte) (i n : Nat) : Nat :=
  match n with
  | 0 => 0
  | n + 1 => byteAt l i * 256 ^ n + beAt l (i + 1) n

/-- A number as `n` little-endian bytes. -/
def le (n v : Nat) : List Byte :=
  match n with
  | 0 => []
  | n + 1 => BitVec.ofNat 8 v :: le n (v / 256)

/-- A number as `n` big-endian bytes. -/
def be (n v : Nat) : List Byte := (le n v).reverse

/-- A byte list cut or padded with zeros to `n` bytes. -/
def fit (n : Nat) (l : List Byte) : List Byte := l.take n ++ List.replicate (n - l.length) 0

/-- A `w`-bit two's-complement value as an integer. -/
def sgn (w v : Nat) : Int := if v < 2 ^ (w - 1) then (v : Int) else (v : Int) - (2 ^ w : Nat)

/-- An integer as a `w`-bit two's-complement value. -/
def unsgn (w : Nat) (x : Int) : Nat := (x % ((2 ^ w : Nat) : Int)).toNat

/-- An integer held between two bounds. -/
def clamp (lo hi x : Int) : Int := if x < lo then lo else if hi < x then hi else x

/-- One bit of the CRC-24 of R139. -/
def crc24Bit (crc : Nat) (bit : Bool) : Nat :=
  let fb := (bitAt crc 23) != bit
  let sh := crc * 2 % 2 ^ 24
  if fb then sh ^^^ 0x5D6DCB else sh

/-- One byte of the CRC-24, most significant bit first. -/
def crc24Byte (crc : Nat) (b : Byte) : Nat :=
  [7, 6, 5, 4, 3, 2, 1, 0].foldl (fun c i => crc24Bit c (bitAt b.toNat i)) crc

/-- The CRC-24 of a byte list (R139): initial value 0xFF_FFFF, no final inversion. -/
def crc24 (l : List Byte) : Nat := l.foldl crc24Byte 0xFFFFFF

/-- Numbers in ascending order. -/
def insertNat (x : Nat) (l : List Nat) : List Nat :=
  match l with
  | [] => [x]
  | y :: r => if x ≤ y then x :: y :: r else y :: insertNat x r

/-- A list sorted into ascending order. -/
def sortNat (l : List Nat) : List Nat := l.foldr insertNat []

/-- A list without repeats, first occurrences kept. -/
def distinct (l : List Nat) : List Nat := l.foldl (fun acc x => if acc.contains x then acc else acc ++ [x]) []

/-- How many of the bits 0 to `n` - 1 of a number are set. -/
def popcount (n v : Nat) : Nat := ((List.range n).filter (fun i => bitAt v i)).length

/-- The set bits of a number among bits 0 to `n` - 1, ascending. -/
def bitList (n v : Nat) : List Nat := (List.range n).filter (fun i => bitAt v i)

/-- The first element of a list that satisfies `p`, and the list without it. -/
def takeFirst {α : Type} (p : α → Bool) (l : List α) : Option (α × List α) :=
  match l with
  | [] => none
  | x :: r => if p x then some (x, r) else (takeFirst p r).map (fun e => (e.1, x :: e.2))

end Sys2Proof.Machine
end

