-- ==== Sys2Proof/Machine/Flags.lean ====
section
/-! DEFINITION. Status codes (R9), the order in which checks are answered (R10), counters and modular comparisons. -/
namespace Sys2Proof.Machine

namespace St
def OK : Nat := 0x00
def ADDR : Nat := 0x01
def VALUE : Nat := 0x02
def STATE : Nat := 0x03
def LIFECYCLE : Nat := 0x04
def AUTH : Nat := 0x05
def BUSY : Nat := 0x06
def RANGE : Nat := 0x07
def CONFLICT : Nat := 0x08
def TIMEOUT : Nat := 0x09
def INTEGRITY : Nat := 0x0A
def NOSPACE : Nat := 0x0B
def ABORTED : Nat := 0x0C
end St

/-- The order in which R10 answers failing checks. -/
def checkOrder : List Nat :=
  [St.ADDR, St.LIFECYCLE, St.AUTH, St.STATE, St.BUSY, St.VALUE, St.RANGE, St.CONFLICT, St.NOSPACE, St.INTEGRITY]

/-- The status of a request from its checks, each a status and whether it fails: the first failing one in the order of
R10, or OK. -/
def firstStatus (checks : List (Nat × Bool)) : Nat :=
  (checkOrder.find? (fun c => checks.any (fun k => k.1 == c && k.2))).getD St.OK

/-- A counter of `w` bits increased by `n`, saturating. -/
def satAdd (w v n : Nat) : Nat := if v + n < 2 ^ w then v + n else 2 ^ w - 1

/-- The hyperframe number of a superframe number (R29). -/
def hfnOf (sfn : Nat) : Nat := sfn / 256 % 2 ^ 24

/-- How far hyperframe `e` lies ahead of `h`, modulo 2^24 (R29). -/
def hfnAhead (e h : Nat) : Nat := (e + 2 ^ 24 - h % 2 ^ 24) % 2 ^ 24

/-- R29: hyperframe `e` is ahead of `h` by at least `n`. -/
def hfnAtLeast (e h n : Nat) : Bool := decide (n ≤ hfnAhead e h) && decide (hfnAhead e h ≤ 8388607)

/-- The sequence number after `n` (R141). -/
def seqNext (n : Nat) : Nat := if n = 4094 then 0 else n + 1

/-- The distance from sequence number `b` up to `a`, modulo 4,095 (R142, R144). -/
def seqDist (a b : Nat) : Nat := (a + 4095 - b % 4095) % 4095

/-- `ACK` for a receiver that expects `n` next: `n` - 1 modulo 4,095, 0xFFE before the first (R143). -/
def ackFor (n : Nat) : Nat := if n = 0 then 4094 else n - 1

end Sys2Proof.Machine
end

