-- ==== Sys2Proof/Machine/NMap.lean ====
section
/-! DEFINITION. Sparse tables: a list of (key, value) pairs, keys strictly rising, in which a key that is not listed
reads as the table's default and no listed value equals that default. -/
namespace Sys2Proof.Machine

/-- A sparse table. The default is an argument of each operation. -/
abbrev NMap (α : Type) := List (Nat × α)

namespace NMap

/-- The value at key `k`: the listed one, else the default `d`. -/
def get {α : Type} (m : NMap α) (d : α) (k : Nat) : α :=
  match m with
  | [] => d
  | e :: r => if e.1 = k then e.2 else get r d k

/-- The table without key `k`. -/
def del {α : Type} (m : NMap α) (k : Nat) : NMap α :=
  match m with
  | [] => []
  | e :: r => if e.1 = k then del r k else e :: del r k

/-- The table with a new pair put before the first larger key. -/
def ins {α : Type} (m : NMap α) (k : Nat) (v : α) : NMap α :=
  match m with
  | [] => [(k, v)]
  | e :: r => if k < e.1 then (k, v) :: e :: r else e :: ins r k v

/-- Key `k` set to `v`; setting the default removes the pair. -/
def set {α : Type} [DecidableEq α] (m : NMap α) (d : α) (k : Nat) (v : α) : NMap α :=
  if v = d then del m k else ins (del m k) k v

/-- Every pair's key lies above `n`, rising, and no value is the default. -/
def above {α : Type} [DecidableEq α] (d : α) (n : Nat) (m : NMap α) : Bool :=
  match m with
  | [] => true
  | e :: r => decide (n ≤ e.1) && decide (e.2 ≠ d) && above d (e.1 + 1) r

/-- The canonical form of a table. -/
def wf {α : Type} [DecidableEq α] (m : NMap α) (d : α) : Bool := above d 0 m

/-- Keep the pairs whose key satisfies `p`. -/
def keep {α : Type} (m : NMap α) (p : Nat → Bool) : NMap α := m.filter (fun e => p e.1)

end NMap

theorem NMap.get_del {α : Type} (m : NMap α) (d : α) (k j : Nat) :
    NMap.get (NMap.del m k) d j = if k = j then d else NMap.get m d j := by
  induction m with
  | nil => simp [NMap.get, NMap.del]
  | cons e r ih =>
    simp only [NMap.del]
    by_cases h : e.1 = k
    · simp only [h, if_true, ih, NMap.get]
      by_cases h2 : k = j <;> simp [h2]
    · simp only [if_neg h, NMap.get, ih]
      by_cases h2 : e.1 = j
      · have : k ≠ j := fun h3 => h (h2.trans h3.symm)
        simp [h2, this]
      · simp [h2]

theorem NMap.get_ins {α : Type} (m : NMap α) (d : α) (k j : Nat) (v : α) (h : NMap.get m d k = d)
    (hd : ∀ e ∈ m, e.1 ≠ k) :
    NMap.get (NMap.ins m k v) d j = if k = j then v else NMap.get m d j := by
  induction m with
  | nil => simp [NMap.get, NMap.ins]
  | cons e r ih =>
    have he : e.1 ≠ k := hd e (by simp)
    have hr : ∀ x ∈ r, x.1 ≠ k := fun x hx => hd x (by simp [hx])
    simp only [NMap.get, if_neg he] at h
    simp only [NMap.ins]
    by_cases hlt : k < e.1
    · simp [hlt, NMap.get]
    · simp only [if_neg hlt, NMap.get, ih h hr]
      by_cases h2 : e.1 = j
      · have : k ≠ j := fun h3 => he (h2.trans h3.symm)
        simp [h2, this]
      · simp [h2]

theorem NMap.del_ne {α : Type} (m : NMap α) (k : Nat) : ∀ e ∈ NMap.del m k, e.1 ≠ k := by
  induction m with
  | nil => simp [NMap.del]
  | cons e r ih =>
    intro x hx
    simp only [NMap.del] at hx
    by_cases h : e.1 = k
    · simp only [h, if_true] at hx; exact ih x hx
    · simp only [if_neg h, List.mem_cons] at hx
      rcases hx with rfl | hx
      · exact h
      · exact ih x hx

/-- What a read after a write gives, whatever the table: no premise on its form. -/
theorem NMap.get_set {α : Type} [DecidableEq α] (m : NMap α) (d : α) (k j : Nat) (v : α) :
    NMap.get (NMap.set m d k v) d j = if k = j then v else NMap.get m d j := by
  unfold NMap.set
  by_cases h : v = d
  · simp only [if_pos h, NMap.get_del]; by_cases h2 : k = j <;> simp [h2, h]
  · simp only [if_neg h]
    rw [NMap.get_ins _ _ _ _ _ (by simp [NMap.get_del]) (NMap.del_ne m k), NMap.get_del]
    by_cases h2 : k = j <;> simp [h2]

@[simp] theorem NMap.get_nil {α : Type} (d : α) (k : Nat) : NMap.get ([] : NMap α) d k = d := rfl

@[simp] theorem NMap.get_set_same {α : Type} [DecidableEq α] (m : NMap α) (d : α) (k : Nat) (v : α) :
    NMap.get (NMap.set m d k v) d k = v := by simp [NMap.get_set]

theorem NMap.get_set_ne {α : Type} [DecidableEq α] (m : NMap α) (d : α) (k j : Nat) (v : α) (h : k ≠ j) :
    NMap.get (NMap.set m d k v) d j = NMap.get m d j := by simp [NMap.get_set, h]

theorem NMap.get_keep {α : Type} (m : NMap α) (d : α) (p : Nat → Bool) (j : Nat) :
    NMap.get (NMap.keep m p) d j = if p j then NMap.get m d j else d := by
  induction m with
  | nil => simp [NMap.keep, NMap.get]
  | cons e r ih =>
    simp only [NMap.keep, NMap.get, List.filter_cons] at ih ⊢
    by_cases hp : p e.1 = true
    · simp only [hp, if_true, NMap.get]
      by_cases h2 : e.1 = j
      · subst h2; simp [hp]
      · simp only [if_neg h2]; exact ih
    · simp only [hp, Bool.false_eq_true, if_false]
      by_cases h2 : e.1 = j
      · subst h2; rw [ih]; simp [hp]
      · simp only [if_neg h2]; exact ih

theorem NMap.above_mono {α : Type} [DecidableEq α] (m : NMap α) (d : α) (a b : Nat) (h : b ≤ a)
    (hm : NMap.above d a m = true) : NMap.above d b m = true := by
  cases m with
  | nil => rfl
  | cons e r =>
    simp only [NMap.above, Bool.and_eq_true, decide_eq_true_eq] at hm ⊢
    exact ⟨⟨by omega, hm.1.2⟩, hm.2⟩

theorem NMap.above_del {α : Type} [DecidableEq α] (m : NMap α) (d : α) (n k : Nat)
    (h : NMap.above d n m = true) : NMap.above d n (NMap.del m k) = true := by
  induction m generalizing n with
  | nil => rfl
  | cons e r ih =>
    simp only [NMap.above, Bool.and_eq_true, decide_eq_true_eq] at h
    simp only [NMap.del]
    by_cases hk : e.1 = k
    · simp only [hk, if_true]
      exact ih n (NMap.above_mono r d _ n (by omega) h.2)
    · simp only [if_neg hk, NMap.above, Bool.and_eq_true, decide_eq_true_eq]
      exact ⟨h.1, ih _ h.2⟩

theorem NMap.above_ins {α : Type} [DecidableEq α] (m : NMap α) (d : α) (n k : Nat) (v : α) (hv : v ≠ d)
    (hn : n ≤ k) (hne : ∀ e ∈ m, e.1 ≠ k) (h : NMap.above d n m = true) :
    NMap.above d n (NMap.ins m k v) = true := by
  induction m generalizing n with
  | nil => simp [NMap.ins, NMap.above, hv, hn]
  | cons e r ih =>
    simp only [NMap.above, Bool.and_eq_true, decide_eq_true_eq] at h
    have he : e.1 ≠ k := hne e (by simp)
    simp only [NMap.ins]
    by_cases hlt : k < e.1
    · simp only [if_pos hlt, NMap.above, Bool.and_eq_true, decide_eq_true_eq]
      exact ⟨⟨hn, hv⟩, ⟨⟨by omega, h.1.2⟩, h.2⟩⟩
    · simp only [if_neg hlt, NMap.above, Bool.and_eq_true, decide_eq_true_eq]
      exact ⟨h.1, ih _ (by omega) (fun x hx => hne x (by simp [hx])) h.2⟩

/-- A write keeps the canonical form. -/
theorem NMap.wf_set {α : Type} [DecidableEq α] (m : NMap α) (d : α) (k : Nat) (v : α)
    (h : NMap.wf m d = true) : NMap.wf (NMap.set m d k v) d = true := by
  unfold NMap.wf NMap.set at *
  by_cases hv : v = d
  · simp only [if_pos hv]; exact NMap.above_del m d 0 k h
  · simp only [if_neg hv]
    exact NMap.above_ins _ d 0 k v hv (by omega) (NMap.del_ne m k) (NMap.above_del m d 0 k h)

theorem NMap.above_keep {α : Type} [DecidableEq α] (m : NMap α) (d : α) (n : Nat) (p : Nat → Bool)
    (h : NMap.above d n m = true) : NMap.above d n (NMap.keep m p) = true := by
  induction m generalizing n with
  | nil => rfl
  | cons e r ih =>
    simp only [NMap.above, Bool.and_eq_true, decide_eq_true_eq] at h
    have ih' := ih (e.1 + 1) h.2
    simp only [NMap.keep, List.filter_cons] at ih' ⊢
    by_cases hp : p e.1 = true
    · simp only [hp, if_true, NMap.above, Bool.and_eq_true, decide_eq_true_eq]
      exact ⟨h.1, ih'⟩
    · simp only [hp, Bool.false_eq_true, if_false]
      exact NMap.above_mono _ d _ n (by omega) ih'

/-- Dropping keys keeps the canonical form. -/
theorem NMap.wf_keep {α : Type} [DecidableEq α] (m : NMap α) (d : α) (p : Nat → Bool)
    (h : NMap.wf m d = true) : NMap.wf (NMap.keep m p) d = true := NMap.above_keep m d 0 p h

end Sys2Proof.Machine
end

