-- ==== Sys2Proof/Machine/StLink.lean ====
section
/-! DEFINITION. State of a JXL port that no register shows: flits on their way, crypto groups, the pending shift,
substitutions and training (spec/02, spec/04, spec/05). What a register shows is held in the register file. -/
namespace Sys2Proof.Machine

/-- A flit as R134 lays it out, less its CHECK. -/
structure Flit where
  kind : Nat
  chan : Nat
  first : Bool
  last : Bool
  payload : List Byte
  seq : Nat
  ack : Nat
  deriving DecidableEq, Repr, Inhabited

/-- A FRONT or CONTROL flit waiting for a slot (R41). `sequenced` per R141. -/
structure CtlMsg where
  kind : Nat
  payload : List Byte
  sequenced : Bool
  deriving DecidableEq, Repr, Inhabited

/-- An entry of the replay buffer (R145). `stream` is the TID the LCN is written from; 0x0001 is the OPEN stream. -/
structure RbEnt where
  seq : Nat
  kind : Nat
  chan : Nat
  first : Bool
  last : Bool
  payload : List Byte
  stream : Nat
  guar : Bool
  prot : Bool
  tag : Bool
  group : Nat
  deriving DecidableEq, Repr, Inhabited

/-- A flit that a running replay has still to send: a buffered one, or a restore flit (R146). -/
structure ReplayItem where
  ent : RbEnt
  restore : Bool
  deriving DecidableEq, Repr, Inhabited

/-- A flit waiting to leave on a JXL port: staged by express transit (`rx` is the port whose staging memory holds it)
or handed over by a local endpoint (`rx = none`). `due` is the absolute tick t + D (R45, R46). -/
structure TxItem where
  tix : Nat
  due : Nat
  iso : Bool
  first : Bool
  last : Bool
  sub : Nat
  isVoid : Bool
  loss : Bool
  payload : List Byte
  rx : Option Nat
  deriving DecidableEq, Repr, Inhabited

/-- A received ISO or GUAR flit staged at its port, waiting for its presentation (R44) and, on a protected link, for its
group (R157). -/
structure RxItem where
  slot : Nat
  tix : Nat
  iso : Bool
  first : Bool
  last : Bool
  sub : Nat
  isVoid : Bool
  loss : Bool
  payload : List Byte
  held : Bool           -- its group has not verified
  late : Bool           -- its tick has passed while it was held
  deriving DecidableEq, Repr, Inhabited

/-- A flit of the OPEN stream, waiting to be sent or accepted and not yet delivered. -/
structure OpenItem where
  vc : Nat
  first : Bool
  last : Bool
  payload : List Byte
  deriving DecidableEq, Repr, Inhabited

/-- The open group of a stream at its sender (R153): data flits so far, the group counter, and the bytes the tag covers. -/
structure TxGroup where
  count : Nat
  gctr : Nat
  keygen : Nat
  hist : List Byte
  deriving DecidableEq, Repr, Inhabited

/-- The group of a stream at its receiver: flits held or seen, the counter expected, the bytes the tag covers, and whether
the group was discarded and waits for its restore flits (R156). -/
structure RxGroup where
  count : Nat
  gctr : Nat
  keygen : Nat
  hist : List Byte
  discarded : Bool
  openHeld : List OpenItem
  deriving DecidableEq, Repr, Inhabited

/-- A TAG flit under verification and the sequenced flits held behind it (R142, R156). -/
structure TagWait where
  stream : Nat
  chan : Nat
  payload : List Byte
  seq : Nat
  after : List (Nat × Flit)
  deriving DecidableEq, Repr, Inhabited

/-- The plan-shift state of a link (R50 to R57). -/
structure PlanLink where
  committed : Bool      -- upstream end: a valid ACK arrived and the shift will take effect
  requested : Bool      -- upstream end: a REQ is out
  zone : Bool           -- the pending shift is part of a zone shift
  group : Nat           -- the group the pending shift belongs to
  fseq : Nat            -- FSEQ of the request in force
  nextFseq : Nat
  waitZone : Bool       -- a zone REQ waits for the pending shift to take effect (R57)
  waitGroup : Nat
  waitEffect : Nat
  missed : Bool         -- the link missed a zone shift and is owed a catch-up REQ (R57)
  missedAt : Nat        -- effective hyperframe of the missed shift
  bootReq : Bool        -- the REQ of R54 was answered NACK STATE and is to be repeated (R410)
  bootAt : Nat          -- HFN of the last REQ under R54
  syncFails : Nat       -- failed SYNC flits in a row (R31)
  provisional : Bool    -- R52
  rxPlan : Nat          -- the RX table in force, and whether it is the bootstrap schedule
  rxBoot : Bool
  oldPlan : Option Nat  -- upstream end: the plan left, until the peer names the new one
  lastSfn : Nat         -- SFN of the last SYNC received or predicted on this port
  deriving DecidableEq, Repr, Inhabited

/-- A substitution asked for by this receiver (R124 to R126). -/
structure SubstRx where
  logical : Nat
  src : Nat
  dst : Nat
  effect : Nat
  lseq : Nat
  acked : Bool
  earlier : List Nat    -- targets of superseded requests, newest first
  used : Option Nat     -- the lane the SYNC at E showed in use
  deriving DecidableEq, Repr, Inhabited

/-- A substitution this sender has committed (R124). -/
structure SubstTx where
  logical : Nat
  src : Nat
  dst : Nat
  effect : Nat
  deriving DecidableEq, Repr, Inhabited

/-- A key renewal in progress (R159). -/
structure Rekey where
  keygen : Nat
  effect : Nat
  attempts : Nat
  acked : Bool
  deriving DecidableEq, Repr, Inhabited

/-- Lane state of one port that no register shows. -/
structure LanePort where
  substRx : List SubstRx
  substTx : List SubstTx
  lseq : Nat
  subFails : NMap Nat      -- failed requests by logical lane
  waiting : List Nat       -- FAILING lanes whose request waits for a place (R126)
  hzHeld : Bool            -- a Horizon start held during EQUALIZE (R113)
  charges : NMap Nat       -- CRC charges of this hyperframe by physical lane (R121)
  probFails : NMap Nat     -- failed probations in a row by lane (R127); PROBFAILS shows it, saturating
  deriving DecidableEq, Repr, Inhabited

/-- Everything else of a link. -/
structure Link where
  ctl : List CtlMsg
  rbuf : List RbEnt
  resend : List ReplayItem
  txq : List TxItem
  openq : List OpenItem
  rxStage : List RxItem
  groupsTx : NMap TxGroup       -- by TID of the stream
  groupsRx : NMap RxGroup
  tagWait : Option TagWait
  ackMoved : Bool               -- ACKED has moved since the last expiry (R147)
  peerInit : NMap Nat           -- the peer's INIT by VC
  freedNow : NMap Nat           -- credits freed and not yet returned, by VC (R150)
  freed : NMap Nat              -- FREED, modulo 1,024 (R151)
  sent : NMap Nat               -- SENT, modulo 1,024
  creditGap : Nat               -- slots committed since the last CREDIT flit, up to 64 (R150)
  secret : List Byte            -- session secret of the last AUTH
  oldKey : Option Nat           -- key generation kept until its groups are done (R159)
  oldKeyAt : Nat                -- SFN at which it was replaced
  rekey : Option Rekey
  epoch : Nat                   -- epoch of the training or link in progress
  prevEpoch : Nat               -- last epoch used on this port; 0 before the first (R166)
  -- training
  attempt : Bool                -- a training attempt is running (blocks seen)
  idOk : Bool
  credOk : NMap Bool            -- ALIGN_CRED received, by BASE
  loopOk : Bool
  syncOk : Bool
  alignPos : Nat                -- next ALIGN_CRED to send
  authOwn : NMap (List Byte)    -- this end's AUTH messages, by AMSG (R480)
  authKey : Nat                 -- the draw that gave the ephemeral key pair
  authStage : Nat               -- 0: sends HELLO and CERT; 1: SIG; 2: DONE (R481)
  authPos : Nat                 -- next segment to send
  authSent : Bool               -- this end has sent DONE
  authDone : Bool               -- the peer's DONE has been received
  authTotal : NMap Nat          -- TOTAL + 1 of each message under assembly
  authBytes : NMap (NMap Nat)   -- its bytes received, each + 1
  modeRate : Nat                -- mode chosen in EQUALIZE
  modeNarrow : Bool
  modeQual : Nat                -- lanes qualified in it at this end, one bit each
  modePeer : Nat                -- and at the peer
  -- the image's view of the other end (GLOBAL section)
  expHub : Nat
  expPort : Nat
  subtree : List Nat
  plan : PlanLink
  lane : LanePort
  deriving DecidableEq, Repr, Inhabited

/-- A port's plan-shift state at reset. -/
def PlanLink.init : PlanLink where
  committed := false
  requested := false
  zone := false
  group := 0
  fseq := 0
  nextFseq := 0
  waitZone := false
  waitGroup := 0
  waitEffect := 0
  missed := false
  missedAt := 0
  bootReq := false
  bootAt := 0
  syncFails := 0
  provisional := false
  rxPlan := 0
  rxBoot := true
  oldPlan := none
  lastSfn := 0

/-- A port's lane state at reset. -/
def LanePort.init : LanePort where
  substRx := []
  substTx := []
  lseq := 0
  subFails := []
  waiting := []
  hzHeld := false
  charges := []
  probFails := []

/-- A link at reset: nothing queued, no epoch used, no peer known (log entry 5). -/
def Link.init : Link where
  ctl := []
  rbuf := []
  resend := []
  txq := []
  openq := []
  rxStage := []
  groupsTx := []
  groupsRx := []
  tagWait := none
  ackMoved := true
  peerInit := []
  freedNow := []
  freed := []
  sent := []
  creditGap := 64
  secret := []
  oldKey := none
  oldKeyAt := 0
  rekey := none
  epoch := 0
  prevEpoch := 0
  attempt := false
  idOk := false
  credOk := []
  loopOk := false
  syncOk := false
  alignPos := 0
  authOwn := []
  authKey := 0
  authStage := 0
  authPos := 0
  authSent := false
  authDone := false
  authTotal := []
  authBytes := []
  modeRate := 0
  modeNarrow := false
  modeQual := 0
  modePeer := 0
  expHub := 0
  expPort := 0
  subtree := []
  plan := PlanLink.init
  lane := LanePort.init

end Sys2Proof.Machine
end

