-- ==== Sys2Proof/Machine/StCommon.lean ====
section
/-! DEFINITION. State shared by every block: what the hub puts out, the Event Queue, frames on their way
between blocks. -/
namespace Sys2Proof.Machine

/-- What the hub puts out. `State.out` lists all of it since reset, oldest first. -/
inductive Out where
  /-- The answer to a management request: its status code (R9) and its data. -/
  | status (code : Nat) (data : List Nat)
  /-- A flit put into a slot of a JXL port. -/
  | flit (port slot : Nat) (f : Flit)
  /-- A flit or message payload handed to a local tunnel endpoint (R70), with its tunnel and its marks. -/
  | toEndpoint (ep tix : Nat) (first last loss : Bool) (sub : Nat) (payload : List Byte)
  /-- A frame sent on an Ethernet port, a field segment, or handed to Nimbus: endpoint code and bytes. -/
  | frame (ep : Nat) (bytes : List Byte)
  /-- A message to another hub, 0x40 the zone controller (R424): kind and fields. -/
  | msg (dst : Nat) (kind : String) (fields : List Nat)
  /-- A signal driven on balls or an action on a device outside: what, and its values. -/
  | act (what : String) (values : List Nat)
  deriving DecidableEq, Repr

/-- A message of the Event Queue (R443); `complete` once it has come to rest (R444). -/
structure EvMsg where
  seq : Nat
  id : Nat
  sev : Nat
  time : Nat
  cap : Nat
  complete : Bool
  deriving DecidableEq, Repr, Inhabited

/-- A frame completed at a local endpoint or at a switch port: where it came from, the tunnel it came in (`none` for plain
Ethernet and for frames from a local port), its identifier, its loss mark and its bytes without header and FCS. -/
structure Frame where
  port : Nat               -- switch port or endpoint code it came in by
  tix : Option Nat
  ident : Nat
  loss : Bool
  bytes : List Byte
  deriving DecidableEq, Repr, Inhabited

/-- Bytes of a frame or message under assembly from its FIRST flit on, and whether a loss mark fell inside it (R68). -/
structure Asm where
  bytes : List Byte
  bad : Bool
  deriving DecidableEq, Repr, Inhabited

/-- A whole frame or message that a tunnel delivered: the endpoint code, the tunnel, the JXL port it came by, its sub-channel
(R89), the gateway `TYPE` it makes (R83) and its bytes from the tunnel frame header on. -/
structure TunUnit where
  ep : Nat
  tix : Nat
  port : Nat
  sub : Nat
  kind : Nat
  bad : Bool
  bytes : List Byte
  deriving DecidableEq, Repr, Inhabited

/-- State of the tunnel block that no register shows (spec/03). -/
structure Tun where
  asm : NMap Asm              -- by TIX + 8192 * sub-channel; Cirrus by 4096 + port
  inbox : List TunUnit        -- frames completed at their LAST flit, oldest first
  cirrusIn : List TunUnit     -- Cirrus messages waiting for the relay
  txLoss : NMap Bool          -- the next frame of this TIX carries LOSS (R548); at 4096 + TIX, the next gateway frame (R83)
  pimgNext : NMap Nat         -- next offset of a sending point map (R87)
  pimgSeen : NMap Nat         -- copy of a point last sent by a map, by map * 4096 + offset
  pimgRep : NMap Nat          -- cycles that have sent that copy
  gseqTx : NMap Nat           -- GSEQ by TID (R84)
  gseqRx : NMap Nat
  peOrder : List Nat          -- VALID posted-error entries, oldest first (R93)
  lastReport : List Byte      -- sources and readiness last reported to the root (R59)
  peFull : Bool               -- TUN_PELOG_FULL raised and no entry cleared since
  deriving DecidableEq, Repr, Inhabited

def Tun.init : Tun where
  asm := []
  inbox := []
  cirrusIn := []
  txLoss := []
  pimgNext := []
  pimgSeen := []
  pimgRep := []
  gseqTx := []
  gseqRx := []
  peOrder := []
  lastReport := []
  peFull := false

end Sys2Proof.Machine
end

