-- ==== Sys2Proof/Machine/Operands.lean ====
section
/-! DEFINITION. The payload formats of the flits: how their fields are read and written (R30, R49, R123, R134, R136, R155,
R160, R162, R480), and the flit check of R139. -/
namespace Sys2Proof.Machine

namespace Kind
def IDLE : Nat := 0
def SLOT : Nat := 1
def OPEN : Nat := 2
def CONTROL : Nat := 3
def FRONT : Nat := 4
def SYNC : Nat := 5
def TAG : Nat := 6
end Kind

/-- The unsequenced mark of SEQ (R141). -/
def noSeq : Nat := 0xFFF

/-- The first 29 bytes of a flit, which the CRC covers (R134). -/
def Flit.body (f : Flit) : List Byte :=
  le 2 (f.chan % 1024 + 1024 * (if f.last then 1 else 0) + 2048 * (if f.first then 1 else 0) + 4096 * (f.kind % 16))
    ++ fit 24 f.payload ++ le 3 (f.seq % 4096 + 4096 * (f.ack % 4096))

/-- CHECK of a flit in an epoch (R139). -/
def flitCheck (body : List Byte) (epoch : Nat) : Nat := crc24 body ^^^ (epoch * 0x010101 % 2 ^ 24)

/-- A flit's 32 bytes in an epoch (R134). -/
def Flit.raw (f : Flit) (epoch : Nat) : List Byte := f.body ++ le 3 (flitCheck f.body epoch)

/-- The fields of 32 received bytes (R134). -/
def Flit.ofRaw (r : List Byte) : Flit :=
  let h := leAt r 0 2
  let t := leAt r 26 3
  { kind := bits h 12 4, chan := bits h 0 10, first := bitAt h 11, last := bitAt h 10,
    payload := fit 24 (r.drop 2), seq := bits t 0 12, ack := bits t 12 12 }

/-- Whether 32 received bytes pass their check in an epoch (R139). -/
def rawPasses (r : List Byte) (epoch : Nat) : Bool := leAt r 29 3 == flitCheck (fit 29 r) epoch

/-- The SYNC payload (R30). -/
structure Sync where
  sfn : Nat
  time : Nat
  map : Nat
  plan : Nat
  group : Nat
  boot : Bool
  variant : Nat
  narrow : Bool
  zone : Nat
  deriving DecidableEq, Repr

def Sync.ofPayload (y : List Byte) : Sync :=
  { sfn := leAt y 0 4, time := leAt y 4 8, map := leAt y 12 4, plan := bits (byteAt y 16) 0 4,
    group := bits (byteAt y 16) 4 4, boot := bitAt (byteAt y 17) 0, variant := bits (byteAt y 17) 1 2,
    narrow := bitAt (byteAt y 17) 3, zone := leAt y 20 4 }

def Sync.payload (y : Sync) : List Byte :=
  le 4 y.sfn ++ le 8 y.time ++ le 4 y.map ++ le 1 (y.plan % 16 + 16 * (y.group % 16))
    ++ le 1 ((if y.boot then 1 else 0) + 2 * (y.variant % 4) + (if y.narrow then 8 else 0)) ++ le 2 0 ++ le 4 y.zone

/-- The FRONT payload (R49). -/
structure Front where
  op : Nat
  plan : Nat
  variant : Nat
  group : Nat
  zoneShift : Bool
  status : Nat
  effect : Nat
  fseq : Nat
  digTx : Nat
  digRx : Nat
  deriving DecidableEq, Repr

def Front.ofPayload (y : List Byte) : Front :=
  { op := bits (byteAt y 0) 0 4, plan := bits (byteAt y 1) 0 4, variant := bits (byteAt y 1) 4 2,
    group := bits (byteAt y 2) 0 4, zoneShift := bitAt (byteAt y 2) 4, status := byteAt y 3, effect := leAt y 4 3,
    fseq := byteAt y 7, digTx := leAt y 8 8, digRx := leAt y 16 8 }

def Front.payload (y : Front) : List Byte :=
  le 1 (y.op % 16) ++ le 1 (y.plan % 16 + 16 * (y.variant % 4))
    ++ le 1 (y.group % 16 + (if y.zoneShift then 16 else 0)) ++ le 1 y.status ++ le 3 y.effect ++ le 1 y.fseq
    ++ le 8 y.digTx ++ le 8 y.digRx

/-- A lane-change payload (R123). -/
structure LaneMsg where
  code : Nat
  logical : Nat
  supersede : Bool
  src : Nat
  dst : Nat
  effect : Nat
  lseq : Nat
  status : Nat
  deriving DecidableEq, Repr

def LaneMsg.ofPayload (y : List Byte) : LaneMsg :=
  { code := byteAt y 0, logical := bits (byteAt y 1) 0 3, supersede := bitAt (byteAt y 1) 7,
    src := bits (byteAt y 2) 0 4, dst := bits (byteAt y 3) 0 4, effect := leAt y 4 4, lseq := byteAt y 8,
    status := byteAt y 9 }

def LaneMsg.payload (y : LaneMsg) : List Byte :=
  fit 24 (le 1 y.code ++ le 1 (y.logical % 8 + (if y.supersede then 128 else 0)) ++ le 1 (y.src % 16)
    ++ le 1 (y.dst % 16) ++ le 4 y.effect ++ le 1 y.lseq ++ le 1 y.status)

/-- `n` values of `w` bits each, packed from bit 0 (R160). -/
def unpack (w n v : Nat) : List Nat := (List.range n).map (fun i => bits v (i * w) w)

/-- Values of `w` bits each packed from bit 0. -/
def pack (w : Nat) (l : List Nat) : Nat :=
  match l with
  | [] => 0
  | x :: r => x % 2 ^ w + 2 ^ w * pack w r

/-- The 16 counts of a CREDIT payload. -/
def creditCounts (y : List Byte) : List Nat := unpack 11 16 (leAt y 2 22)

/-- The 16 values of a CREDIT_SYNC payload. -/
def creditSyncCounts (y : List Byte) : List Nat := unpack 10 16 (leAt y 4 20)

/-- The 16 values of an ALIGN_CRED payload. -/
def alignCredCounts (y : List Byte) : List Nat := unpack 10 16 (leAt y 2 20)

/-- An ALIGN_ID payload (R162). -/
structure AlignId where
  up : Bool
  prot : Bool
  hub : Nat
  port : Nat
  zone : Nat
  epoch : Nat
  vcs : Nat
  expHub : Nat
  expPort : Nat
  deriving DecidableEq, Repr

def AlignId.ofPayload (y : List Byte) : AlignId :=
  { up := bitAt (byteAt y 1) 0, prot := bitAt (byteAt y 1) 1, hub := byteAt y 2, port := byteAt y 3, zone := leAt y 4 4,
    epoch := byteAt y 8, vcs := byteAt y 9, expHub := byteAt y 10, expPort := byteAt y 11 }

def AlignId.payload (y : AlignId) : List Byte :=
  fit 24 (le 1 0x20 ++ le 1 ((if y.up then 1 else 0) + (if y.prot then 2 else 0)) ++ le 1 y.hub ++ le 1 y.port
    ++ le 4 y.zone ++ le 1 y.epoch ++ le 1 y.vcs ++ le 1 y.expHub ++ le 1 y.expPort)

/-- A TAG payload (R155). -/
def tagPayload (tag : List Byte) (tid count keygen gctr : Nat) : List Byte :=
  fit 16 tag ++ le 2 tid ++ le 1 count ++ le 1 keygen ++ le 4 gctr

end Sys2Proof.Machine
end

