-- ==== Sys2Proof/Config.lean ====
section
/-! DEFINITION. What one implementation fixes and the spec does not: free values, silicon identity, fuse contents, and
the results of keyed cryptography. Every constant here is opaque, so no proof can see a value of it. -/
namespace Sys2Proof.Config

/-- A value the spec leaves open, numbered by the counter `State.fresh` that a step reads and advances
(log entry 3). -/
opaque freeValue : Nat → Nat

/-- `GLB_ID.REV`: "silicon" in the reset column of the GLB table (spec/17, R421). -/
opaque revision : Nat

/-- `SEC_UID`: the 64-bit unique identifier fused into OTP (spec/18, R485). -/
opaque uid : Nat

/-- `MEM_MACRO(m).HROWS`: spare rows a macro has had fused at test (spec/19, R498). -/
opaque hardRows : Nat → Nat

/-- `MEM_MACRO(m).HCOLS`: spare columns a macro has had fused at test (spec/19, R498). -/
opaque hardCols : Nat → Nat

/-- The hub number at the far end of the tunnel with a TID: the tree's own layout, which no table of one hub holds (R83,
`PCB_VDSP.HUB`). -/
opaque farHub : Nat → Nat

/-- Where the PCIe configuration proxy puts capability `c` (R278: 0 PM, 1 PCI Express, 2 MSI, 3 AER, 4 ACS) of a function, in 32-bit
words from the start of its configuration space. The spec lists the capabilities and not their places. -/
opaque pcieCapAt : Nat → Nat → Nat

/-- AES-256-GCM, CMAC, ECDH and the other keyed primitives of spec/18: the bytes they give for a list of inputs.
The spec names the standard and not the number; the number is never needed, only that equal inputs give equal
outputs. -/
opaque crypto : String → List Nat → List Byte

/-- Whether a signature, a certificate chain, an unwrapped key or a MAC that a list of numbers holds is right (spec/18). -/
opaque verdict : String → List Nat → Bool

/-- The identity public key and the Dusk helper with its check value, byte by byte, as the SEC windows show them (R453, R477). -/
opaque identityKey : Nat → Byte
opaque duskHelper : Nat → Byte

end Sys2Proof.Config
end

