-- ==== Sys2Proof/Machine/Events.lean ====
section
/-! DEFINITION. The event sources: identifiers and severities of the event tables of spec/02 to spec/19 (R13, R14). -/
namespace Sys2Proof.Machine.Ev

def PLN_SHIFT_DONE : Nat := 0x140
def PLN_FRONT_FAIL : Nat := 0x141
def PLN_SYNC_LOST : Nat := 0x142
def PLN_SYNC_MISMATCH : Nat := 0x143
def PLN_XMISS : Nat := 0x144
def PLN_ZONE_LATE : Nat := 0x145
def PLN_NO_VARIANT : Nat := 0x146
def PLN_SEL_NOMATCH : Nat := 0x147
def PLN_GROUP_SHIFT : Nat := 0x148
def PLN_VALIDATE_FAIL : Nat := 0x149
def PLN_ALIGN_RANGE : Nat := 0x14A
def PLN_BOOTSTRAP : Nat := 0x14B
def TUN_PERR : Nat := 0x160
def TUN_PELOG_FULL : Nat := 0x161
def TUN_ROUTE_MISS : Nat := 0x162
def TUN_ROUTE_DROP : Nat := 0x163
def TUN_STAGE_OVF : Nat := 0x164
def TUN_GW_GAP : Nat := 0x165
def TUN_GW_BAD : Nat := 0x166
def TUN_PIMG_LOST : Nat := 0x167
def JXP_LANE_FAIL (p : Nat) : Nat := 0x40 + 64 * p
def JXP_SPARE_FAIL (p : Nat) : Nat := 0x41 + 64 * p
def JXP_LANE_SUBST (p : Nat) : Nat := 0x42 + 64 * p
def JXP_SUBST_FAIL (p : Nat) : Nat := 0x43 + 64 * p
def JXP_OVERCAST (p : Nat) : Nat := 0x44 + 64 * p
def JXP_PROB_PASS (p : Nat) : Nat := 0x45 + 64 * p
def JXP_PROB_FAIL (p : Nat) : Nat := 0x46 + 64 * p
def JXP_LANE_RETIRED (p : Nat) : Nat := 0x47 + 64 * p
def JXP_HZ_DONE (p : Nat) : Nat := 0x48 + 64 * p
def JXP_PRBS_LOCKLOSS (p : Nat) : Nat := 0x49 + 64 * p
def JXP_RATE_FALL (p : Nat) : Nat := 0x4A + 64 * p
def JXK_ACTIVE (p : Nat) : Nat := 0x50 + 64 * p
def JXK_DOWN (p : Nat) : Nat := 0x51 + 64 * p
def JXK_TRAIN_FAIL (p : Nat) : Nat := 0x52 + 64 * p
def JXK_AUTH_FAIL (p : Nat) : Nat := 0x53 + 64 * p
def JXK_CONFLICT (p : Nat) : Nat := 0x54 + 64 * p
def JXK_REPLAY_LIM (p : Nat) : Nat := 0x55 + 64 * p
def JXK_CREDIT_TIMEOUT (p : Nat) : Nat := 0x56 + 64 * p
def JXK_TAG_FAIL (p : Nat) : Nat := 0x57 + 64 * p
def JXK_ISO_LOSS (p : Nat) : Nat := 0x58 + 64 * p
def JXK_REKEY_DONE (p : Nat) : Nat := 0x59 + 64 * p
def JXK_REKEY_FAIL (p : Nat) : Nat := 0x5A + 64 * p
def JXK_STALE (p : Nat) : Nat := 0x5B + 64 * p
def SWB_DROP_SEEN : Nat := 0x180
def SWB_ECC_CE : Nat := 0x181
def SWB_ECC_UE : Nat := 0x182
def SWB_BANK_SUBST : Nat := 0x183
def SWB_BANK_DONE : Nat := 0x184
def SWB_BANK_RETIRED : Nat := 0x185
def SWB_BANK_FATAL : Nat := 0x186
def SWB_CREDIT_VIOL : Nat := 0x187
def SWB_FDB_FULL : Nat := 0x188
def SWB_FDB_MOVE : Nat := 0x189
def TMG_METER_DROP : Nat := 0x1A0
def TMG_CIR_OVERSUB : Nat := 0x1A1
def FLD_STRANGER_SEEN : Nat := 0x280
def FLD_QUAR_FULL : Nat := 0x281
def FLD_PLCA_COLL : Nat := 0x282
def FLD_SEG_NOISE : Nat := 0x283
def FLD_SEG_FAULT : Nat := 0x284
def FLD_DROP_LOST : Nat := 0x285
def FLD_DI_STUCK : Nat := 0x286
def FLD_DI_CHATTER : Nat := 0x287
def FLD_DI_FIFO_OVF : Nat := 0x288
def FLD_FIELD_LOW : Nat := 0x289
def FLD_OUT_SAFE : Nat := 0x28A
def ETH_LINK_UP (n : Nat) : Nat := 0x200 + 8 * n
def ETH_LINK_DOWN (n : Nat) : Nat := 0x201 + 8 * n
def ETH_FEC_UNCORR (n : Nat) : Nat := 0x202 + 8 * n
def ETH_TXTS_OVF (n : Nat) : Nat := 0x203 + 8 * n
def TSU_VALID : Nat := 0x240
def TSU_HOLDOVER : Nat := 0x241
def TSU_STEP : Nat := 0x242
def TSU_PTP_LOCK : Nat := 0x243
def TSU_PTP_LOST : Nat := 0x244
def PCB_LINK_UP : Nat := 0x300
def PCB_LINK_DOWN : Nat := 0x301
def PCB_VDSP_ARRIVE : Nat := 0x302
def PCB_VDSP_DEPART : Nat := 0x303
def PCB_NP_TIMEOUT : Nat := 0x304
def PCB_UNSUP_SEEN : Nat := 0x305
def DPT_SINK_ATTACH (d : Nat) : Nat := 0x340 + 16 * d
def DPT_SINK_DETACH (d : Nat) : Nat := 0x341 + 16 * d
def DPT_LINK_FAIL (d : Nat) : Nat := 0x342 + 16 * d
def DPT_STREAM_FIT (d : Nat) : Nat := 0x343 + 16 * d
def DPT_CLK_LOCK (d : Nat) : Nat := 0x344 + 16 * d
def DPT_CLK_LOST (d : Nat) : Nat := 0x345 + 16 * d
def DPT_VLOSS (d : Nat) : Nat := 0x346 + 16 * d
def DPT_BUF_SLIP (d : Nat) : Nat := 0x347 + 16 * d
def USB_PORT_CONNECT : Nat := 0x360
def USB_PORT_DISCONNECT : Nat := 0x361
def USB_PORT_OVERCURRENT : Nat := 0x362
def USB_REMOTE_WAKE : Nat := 0x363
def USB_RESUME_COLLISION : Nat := 0x364
def USB_PERIODIC_MISS : Nat := 0x365
def USB_BURST_SEQ : Nat := 0x366
def USB_ORPHAN : Nat := 0x367
def USB_PFIT : Nat := 0x368
def TCP_ATTACH (n : Nat) : Nat := 0x3A0 + 16 * n
def TCP_DETACH (n : Nat) : Nat := 0x3A1 + 16 * n
def TCP_CONTRACT (n : Nat) : Nat := 0x3A2 + 16 * n
def TCP_HARD_RESET (n : Nat) : Nat := 0x3A3 + 16 * n
def TCP_FALLBACK (n : Nat) : Nat := 0x3A4 + 16 * n
def TCP_POLICY_TO (n : Nat) : Nat := 0x3A5 + 16 * n
def TCP_SWAP_DONE (n : Nat) : Nat := 0x3A6 + 16 * n
def TCP_COLLISION (n : Nat) : Nat := 0x3A7 + 16 * n
def TCP_VBUS_FAULT (n : Nat) : Nat := 0x3A8 + 16 * n
def TCP_PROTO_ERR (n : Nat) : Nat := 0x3A9 + 16 * n
def PWP_FEED_UP : Nat := 0x3C0
def PWP_FEED_LOST : Nat := 0x3C1
def PWP_FEED_OV : Nat := 0x3C2
def PWP_REVERSE : Nat := 0x3C3
def PWP_INRUSH_FAIL : Nat := 0x3C4
def PWP_INPUT_GOOD : Nat := 0x3C5
def PWP_CFG_HELD : Nat := 0x3C6
/-- Channel `c` counts from 0 here; the spec counts channels from 1. -/
def PWP_EF_PG_UP (c : Nat) : Nat := 0x3C8 + 8 * c
/-- Channel `c` counts from 0 here; the spec counts channels from 1. -/
def PWP_EF_PG_DOWN (c : Nat) : Nat := 0x3C9 + 8 * c
/-- Channel `c` counts from 0 here; the spec counts channels from 1. -/
def PWP_EF_TRIP (c : Nat) : Nat := 0x3CA + 8 * c
/-- Channel `c` counts from 0 here; the spec counts channels from 1. -/
def PWP_EF_FETFAIL (c : Nat) : Nat := 0x3CB + 8 * c
/-- Channel `c` counts from 0 here; the spec counts channels from 1. -/
def PWP_EF_FETSHORT (c : Nat) : Nat := 0x3CC + 8 * c
/-- Channel `c` counts from 0 here; the spec counts channels from 1. -/
def PWP_EF_PRES_ON (c : Nat) : Nat := 0x3CD + 8 * c
/-- Channel `c` counts from 0 here; the spec counts channels from 1. -/
def PWP_EF_PRES_OFF (c : Nat) : Nat := 0x3CE + 8 * c
def CPM_DOMAIN_WAKE : Nat := 0x3F0
def CPM_DRAIN_ABORT : Nat := 0x3F1
def CPM_PS_ENTRY : Nat := 0x3F2
def CPM_ULP_ARMED : Nat := 0x3F3
def CPM_PLL_UNLOCK : Nat := 0x3F4
def CPM_PLL_HOLDOVER : Nat := 0x3F5
def CPM_AVS_FAIL : Nat := 0x3F6
def BOOT_DONE : Nat := 0x10
def BOOT_COPY_FAIL : Nat := 0x11
def BOOT_FALLBACK : Nat := 0x12
def BOOT_SECTION_FAIL : Nat := 0x13
def BOOT_TRIAL : Nat := 0x14
def BOOT_TRIAL_EXHAUSTED : Nat := 0x15
def BOOT_RECOVERY : Nat := 0x16
def BOOT_MARCH_FAIL : Nat := 0x17
def BOOT_VBAT_LOST : Nat := 0x18
def BOOT_NET_RETRY : Nat := 0x19
def BOOT_CFG_HELD : Nat := 0x1A
def NIM_TRAP : Nat := 0x0
def NIM_PLUGIN_STOP : Nat := 0x1
def NIM_WDT_WARN : Nat := 0x2
def NIM_AUTH_FAIL : Nat := 0x3
def NIM_DMA_BUSY : Nat := 0x4
def SEC_TAMPER : Nat := 0x3E0
def SEC_DAWN_NEW : Nat := 0x3E1
def SEC_PUF_FAIL : Nat := 0x3E2
def SEC_KEY_BAD : Nat := 0x3E3
def SEC_KEY_EXHAUSTED : Nat := 0x3E4
def SEC_JOURNAL_FAIL : Nat := 0x3E5
def SEC_LC_CHANGE : Nat := 0x3E6
def SEC_TOKEN_FAIL : Nat := 0x3E7
def SEC_TRNG_FAIL : Nat := 0x3E8
def SEC_BLOB_REJECT : Nat := 0x3E9
def MEM_CE : Nat := 0x3F8
def MEM_UE : Nat := 0x3F9
def MEM_CE_HIGH : Nat := 0x3FA
def MEM_MARCH_DONE : Nat := 0x3FB
def D2D_LANE_SPARE : Nat := 0x3FC
def D2D_FAIL : Nat := 0x3FD
def DBG_ACCESS : Nat := 0x3FE

/-- Severities by identifier, first half. -/
def sevA : List (Nat × Nat) :=
  [(0x140, 0), (0x141, 1), (0x142, 2), (0x143, 2), (0x144, 1), (0x145, 1), (0x146, 2), (0x147, 1), (0x148, 0), (0x149, 2), (0x14A, 2), (0x14B, 0), (0x160, 1), (0x161, 1), (0x162, 0), (0x163, 1), (0x164, 1), (0x165, 1), (0x166, 1), (0x167, 2), (0x180, 1), (0x181, 0), (0x182, 2), (0x183, 1), (0x184, 0), (0x185, 2), (0x186, 3), (0x187, 2), (0x188, 1), (0x189, 0), (0x1A0, 0), (0x1A1, 1), (0x280, 1), (0x281, 1), (0x282, 1), (0x283, 1), (0x284, 2), (0x285, 1), (0x286, 1), (0x287, 1), (0x288, 1), (0x289, 2), (0x28A, 2), (0x240, 0), (0x241, 1), (0x242, 1), (0x243, 0), (0x244, 1), (0x300, 0), (0x301, 1), (0x302, 0), (0x303, 1), (0x304, 1), (0x305, 0), (0x360, 0)]

/-- Severities by identifier, second half. -/
def sevB : List (Nat × Nat) :=
  [(0x361, 1), (0x362, 2), (0x363, 0), (0x364, 0), (0x365, 1), (0x366, 1), (0x367, 2), (0x368, 1), (0x3C0, 0), (0x3C1, 1), (0x3C2, 2), (0x3C3, 1), (0x3C4, 2), (0x3C5, 0), (0x3C6, 1), (0x3F0, 0), (0x3F1, 1), (0x3F2, 0), (0x3F3, 1), (0x3F4, 2), (0x3F5, 1), (0x3F6, 2), (0x10, 0), (0x11, 1), (0x12, 1), (0x13, 2), (0x14, 0), (0x15, 1), (0x16, 3), (0x17, 2), (0x18, 1), (0x19, 1), (0x1A, 1), (0x0, 2), (0x1, 2), (0x2, 1), (0x3, 1), (0x4, 1), (0x3E0, 3), (0x3E1, 1), (0x3E2, 2), (0x3E3, 2), (0x3E4, 1), (0x3E5, 1), (0x3E6, 0), (0x3E7, 1), (0x3E8, 2), (0x3E9, 1), (0x3F8, 0), (0x3F9, 2), (0x3FA, 1), (0x3FB, 0), (0x3FC, 1), (0x3FD, 3), (0x3FE, 0)]

/-- Severities of a JXL port by local number. -/
def sevPort : List (Nat × Nat) :=
  [(0x0, 1), (0x1, 1), (0x2, 0), (0x3, 2), (0x4, 2), (0x5, 0), (0x6, 1), (0x7, 1), (0x8, 0), (0x9, 1), (0xA, 2), (0x10, 0), (0x11, 1), (0x12, 2), (0x13, 2), (0x14, 2), (0x15, 2), (0x16, 2), (0x17, 1), (0x18, 1), (0x19, 0), (0x1A, 2), (0x1B, 0)]

/-- Severities of an Ethernet port by local number. -/
def sevEth : List (Nat × Nat) :=
  [(0x0, 0), (0x1, 1), (0x2, 1), (0x3, 1)]

/-- Severities of a DisplayPort port by local number. -/
def sevDp : List (Nat × Nat) :=
  [(0x0, 0), (0x1, 1), (0x2, 2), (0x3, 2), (0x4, 0), (0x5, 1), (0x6, 1), (0x7, 1)]

/-- Severities of a Type-C port by local number. -/
def sevTc : List (Nat × Nat) :=
  [(0x0, 0), (0x1, 1), (0x2, 0), (0x3, 1), (0x4, 1), (0x5, 1), (0x6, 0), (0x7, 0), (0x8, 2), (0x9, 1)]

/-- Severities of an eFuse channel by local number. -/
def sevEf : List (Nat × Nat) :=
  [(0x0, 0), (0x1, 1), (0x2, 2), (0x3, 2), (0x4, 3), (0x5, 0), (0x6, 0)]

/-- The severity an identifier resets to: 0 INFO, 1 WARN, 2 ERROR, 3 FATAL; `none` where no chapter defines it (R14). -/
def severity? (i : Nat) : Option Nat :=
  if 0x40 ≤ i ∧ i < 0x140 then sevPort.lookup ((i - 0x40) % 64)
  else if 0x200 ≤ i ∧ i < 0x240 then sevEth.lookup ((i - 0x200) % 8)
  else if 0x340 ≤ i ∧ i < 0x360 then sevDp.lookup ((i - 0x340) % 16)
  else if 0x3A0 ≤ i ∧ i < 0x3C0 then sevTc.lookup ((i - 0x3A0) % 16)
  else if 0x3C8 ≤ i ∧ i < 0x3E0 then sevEf.lookup ((i - 0x3C8) % 8)
  else (sevA ++ sevB).lookup i

end Sys2Proof.Machine.Ev
end

