-- ==== Sys2Proof/Machine/Field.lean ====
section
/-! DEFINITION. What a register field is: its place in its register, its type (R6) and its reset value. -/
namespace Sys2Proof.Machine

/-- The types of R6, and `cnt`: an RW counter that a write of 0 clears and any other write leaves, with VALUE. -/
inductive FKind where
  | rw | ro | w1c | wo | rwl | rs | cnt
  deriving DecidableEq, Repr

/-- How a field's reset value is given: a constant, or the rule of the chapter that owns it. -/
inductive ResetRule where
  | const (n : Nat)
  | index        -- the register's own index (SWB_PCFG: queue p)
  | tunClass     -- R72: TIX 0 is GUAR
  | tunFixed     -- R72: 1 at TIX 0
  | tunEp        -- R72: 0x10 at TIX 0, else 0xFF
  | ovhC | ovhUnit | ovhU     -- R218
  | parent       -- R205
  | vmemb        -- 2 in word 0 of each port
  | srcCap       -- TCP_SRCCAP(n, 0): 5 V, 3 A
  | spareBank    -- banks 32 and 33 reset to 1
  | severity     -- R442: the event tables
  | revision | uidLo | uidHi | hardRows | hardCols
  deriving DecidableEq, Repr

/-- A register field. `lo` and `hi` bound the values a write may carry (RANGE otherwise). -/
structure Field where
  id : Fin 1024
  lsb : Nat
  width : Nat
  kind : FKind
  reset : ResetRule
  lo : Nat
  hi : Nat
  deriving DecidableEq, Repr

/-- A register: `n1` × `n2` copies, copy (i1, i2) at `base + i1 * s1 + i2 * s2`, with field index `i1 * n2 + i2`. -/
structure RegDesc where
  name : String
  base : Nat
  n1 : Nat
  s1 : Nat
  n2 : Nat
  s2 : Nat
  fields : List Field
  deriving DecidableEq, Repr

/-- The reset value of copy `i` of a field. -/
def Field.resetAt (f : Field) (i : Nat) : Nat :=
  match f.reset with
  | .const n => n
  | .index => i
  | .tunClass => if i = 0 then 1 else 0
  | .tunFixed => if i = 0 then 1 else 0
  | .tunEp => if i = 0 then 0x10 else 0xFF
  | .ovhC => if 4 ≤ i ∧ i < 16 then 20 else 0
  | .ovhUnit => if i < 4 then 24 else 0
  | .ovhU => if i < 4 then 8 else 0
  | .parent => if i < 4096 then 8 * (i % 18) else if i < 4240 then (i - 4096) / 8 else 0
  | .vmemb => if i % 128 = 0 then 2 else 0
  | .srcCap => if i % 7 = 0 then 0x0001912C else 0
  | .spareBank => if 32 ≤ i then 1 else 0
  | .severity => (Ev.severity? i).getD 0
  | .revision => Config.revision % 2 ^ f.width
  | .uidLo => Config.uid % 2 ^ 32
  | .uidHi => Config.uid / 2 ^ 32 % 2 ^ 32
  | .hardRows => Config.hardRows i % 2 ^ f.width
  | .hardCols => Config.hardCols i % 2 ^ f.width

/-- The key of copy `i` of a field in the register table. -/
def Field.key (f : Field) (i : Nat) : Nat := f.id.val + 1024 * i

/-- The register file: what each field holds, XORed with its reset value, so that a field at its reset value is
not listed. -/
abbrev RegFile := NMap Nat

/-- The value of copy `i` of a field. -/
def RegFile.rd (m : RegFile) (f : Field) (i : Nat) : Nat := NMap.get m 0 (f.key i) ^^^ f.resetAt i

/-- Copy `i` of a field set to `v`, cut to the field's width. -/
def RegFile.wr (m : RegFile) (f : Field) (i v : Nat) : RegFile :=
  NMap.set m 0 (f.key i) ((v % 2 ^ f.width) ^^^ f.resetAt i)

/-- Copy `i` of a field back at its reset value. -/
def RegFile.clr (m : RegFile) (f : Field) (i : Nat) : RegFile := NMap.del m (f.key i)

theorem Field.key_inj (f g : Field) (i j : Nat) : f.key i = g.key j ↔ f.id = g.id ∧ i = j := by
  unfold Field.key
  have hf := f.id.isLt
  have hg := g.id.isLt
  constructor
  · intro h
    have h1 : f.id.val = g.id.val := by omega
    exact ⟨Fin.ext h1, by omega⟩
  · rintro ⟨h1, h2⟩
    rw [h1, h2]

/-- A field reads what was last written to it, and a write of another field or copy does not touch it. -/
theorem RegFile.rd_wr (m : RegFile) (f g : Field) (i j v : Nat) :
    (m.wr f i v).rd g j =
      if f.id = g.id ∧ i = j then (v % 2 ^ f.width ^^^ f.resetAt i) ^^^ g.resetAt j else m.rd g j := by
  unfold RegFile.rd RegFile.wr
  rw [NMap.get_set]
  by_cases h : f.id = g.id ∧ i = j
  · rw [if_pos ((Field.key_inj f g i j).2 h), if_pos h]
  · rw [if_neg (fun hk => h ((Field.key_inj f g i j).1 hk)), if_neg h]

theorem RegFile.rd_wr_same (m : RegFile) (f : Field) (i v : Nat) : (m.wr f i v).rd f i = v % 2 ^ f.width := by
  rw [RegFile.rd_wr]; simp [Nat.xor_assoc]

theorem RegFile.rd_wr_idx (m : RegFile) (f : Field) (i j v : Nat) :
    (m.wr f i v).rd f j = if i = j then v % 2 ^ f.width else m.rd f j := by
  by_cases h : i = j
  · subst h; simp [RegFile.rd_wr_same]
  · rw [RegFile.rd_wr]; simp [h]

theorem RegFile.rd_wr_ne (m : RegFile) (f g : Field) (i j v : Nat) (h : f.id ≠ g.id) :
    (m.wr f i v).rd g j = m.rd g j := by rw [RegFile.rd_wr, if_neg (fun hk => h hk.1)]

/-- At reset every field reads its reset value. -/
theorem RegFile.rd_nil (f : Field) (i : Nat) : RegFile.rd [] f i = f.resetAt i := by
  simp [RegFile.rd]

end Sys2Proof.Machine
end

