-- ==== Sys2Proof/Machine/Fields02.lean ====
section
/-! DEFINITION. The register fields of spec/02_superframes_and_plans.md, one constant each: place, width, type and reset value, from that
file's register tables (log entry 4 says how multi-word tables are named). -/
namespace Sys2Proof.Machine

def PLN_CTRL.SEL_EN : Field := ⟨0, 0, 1, .rw, .const 0, 0, 1⟩
def PLN_CTRL.SEL_HOLD : Field := ⟨1, 1, 1, .rw, .const 0, 0, 1⟩
def PLN_CTRL.ZLEAD : Field := ⟨2, 8, 8, .rw, .const 6, 3, 64⟩
def PLN_SETTLE.SETTLE_MS : Field := ⟨3, 0, 14, .rw, .const 1000, 50, 10000⟩
def PLN_STATUS.GROUP : Field := ⟨4, 0, 4, .ro, .const 0, 0, 15⟩
def PLN_STATUS.ZPEND : Field := ⟨5, 4, 1, .ro, .const 0, 0, 1⟩
def PLN_STATUS.ZTARGET : Field := ⟨6, 8, 4, .ro, .const 0, 0, 15⟩
def PLN_STATUS.ROOT : Field := ⟨7, 16, 1, .ro, .const 0, 0, 1⟩
def PLN_STATUS.SELGROUP : Field := ⟨8, 20, 4, .ro, .const 0, 0, 15⟩
def PLN_STATUS.SELMATCH : Field := ⟨9, 24, 1, .ro, .const 0, 0, 1⟩
def PLN_SFN.SFN : Field := ⟨10, 0, 32, .ro, .const 0, 0, 4294967295⟩
def PLN_ZSHIFT.GROUP : Field := ⟨11, 0, 4, .wo, .const 0, 0, 15⟩
def PLN_ZSHIFT.GO : Field := ⟨12, 31, 1, .wo, .const 0, 0, 1⟩
def PLN_CMD.OP : Field := ⟨13, 0, 4, .wo, .const 0, 0, 15⟩
def PLN_CMD.PORT : Field := ⟨14, 8, 2, .wo, .const 0, 0, 3⟩
def PLN_CMD.PLAN : Field := ⟨15, 12, 4, .wo, .const 0, 0, 15⟩
def PLN_WINSEL.PORT : Field := ⟨16, 0, 2, .rw, .const 0, 0, 3⟩
def PLN_WINSEL.DIR : Field := ⟨17, 2, 1, .rw, .const 0, 0, 1⟩
def PLN_VFAIL.STATUS : Field := ⟨18, 0, 8, .ro, .const 0, 0, 255⟩
def PLN_VFAIL.SLOT : Field := ⟨19, 8, 12, .ro, .const 0, 0, 4095⟩
def PLN_VFAIL.PORT : Field := ⟨20, 20, 2, .ro, .const 0, 0, 3⟩
def PLN_VFAIL.DIR : Field := ⟨21, 22, 1, .ro, .const 0, 0, 1⟩
def PLN_VFAIL.PLAN : Field := ⟨22, 24, 4, .ro, .const 0, 0, 15⟩
def PLN_VFAIL.CHECK : Field := ⟨23, 28, 4, .ro, .const 0, 0, 15⟩
def PLN_PRES.PRES : Field := ⟨24, 0, 32, .ro, .const 0, 0, 4294967295⟩
def PLN_LSTAT.PLAN : Field := ⟨25, 0, 4, .ro, .const 0, 0, 15⟩
def PLN_LSTAT.BOOT : Field := ⟨26, 4, 1, .ro, .const 1, 0, 1⟩
def PLN_LSTAT.VARIANT : Field := ⟨27, 5, 2, .ro, .const 0, 0, 3⟩
def PLN_LSTAT.PEND : Field := ⟨28, 7, 1, .ro, .const 0, 0, 1⟩
def PLN_LSTAT.PTARGET : Field := ⟨29, 8, 4, .ro, .const 0, 0, 15⟩
def PLN_LSTAT.UPSTREAM : Field := ⟨30, 12, 1, .ro, .const 0, 0, 1⟩
def PLN_LSTAT.ACTIVE : Field := ⟨31, 13, 1, .ro, .const 0, 0, 1⟩
def PLN_LHFN.PEFFECT : Field := ⟨32, 0, 24, .ro, .const 0, 0, 16777215⟩
def PLN_LSHIFT.PLAN : Field := ⟨33, 0, 4, .wo, .const 0, 0, 15⟩
def PLN_LSHIFT.LEAD : Field := ⟨34, 8, 7, .wo, .const 0, 0, 127⟩
def PLN_LSHIFT.GO : Field := ⟨35, 31, 1, .wo, .const 0, 0, 1⟩
def PLN_ALIGN.OFFSET : Field := ⟨36, 0, 10, .rwl, .const 512, 0, 1023⟩
def PLN_ALIGN.LOOP : Field := ⟨37, 16, 10, .ro, .const 0, 0, 1023⟩
def PLN_XMISS.COUNT : Field := ⟨38, 0, 32, .cnt, .const 0, 0, 4294967295⟩
def PLN_LENT.COUNT : Field := ⟨39, 0, 32, .ro, .const 0, 0, 4294967295⟩
def PLN_FRONTERR.NACKS : Field := ⟨40, 0, 16, .cnt, .const 0, 0, 65535⟩
def PLN_FRONTERR.FAILS : Field := ⟨41, 16, 16, .cnt, .const 0, 0, 65535⟩
def PLN_PDESC.TXVALID : Field := ⟨42, 0, 1, .ro, .const 0, 0, 1⟩
def PLN_PDESC.RXVALID : Field := ⟨43, 1, 1, .ro, .const 0, 0, 1⟩
def PLN_PDESC.VARIANT : Field := ⟨44, 2, 2, .ro, .const 0, 0, 3⟩
def PLN_PDESC.VSTATUS : Field := ⟨45, 8, 8, .ro, .const 0, 0, 255⟩
def PLN_DTXLO.DIG : Field := ⟨46, 0, 32, .ro, .const 0, 0, 4294967295⟩
def PLN_DTXHI.DIG : Field := ⟨47, 0, 32, .ro, .const 0, 0, 4294967295⟩
def PLN_DRXLO.DIG : Field := ⟨48, 0, 32, .ro, .const 0, 0, 4294967295⟩
def PLN_DRXHI.DIG : Field := ⟨49, 0, 32, .ro, .const 0, 0, 4294967295⟩
def PLN_GMAP.FULL : Field := ⟨50, 0, 4, .rwl, .const 0, 0, 15⟩
def PLN_GMAP.FULL_V : Field := ⟨51, 7, 1, .rwl, .const 0, 0, 1⟩
def PLN_GMAP.HALF : Field := ⟨52, 8, 4, .rwl, .const 0, 0, 15⟩
def PLN_GMAP.HALF_V : Field := ⟨53, 15, 1, .rwl, .const 0, 0, 1⟩
def PLN_GMAP.QTR : Field := ⟨54, 16, 4, .rwl, .const 0, 0, 15⟩
def PLN_GMAP.QTR_V : Field := ⟨55, 23, 1, .rwl, .const 0, 0, 1⟩
def PLN_SVALLO.BITS : Field := ⟨56, 0, 32, .rw, .const 0, 0, 4294967295⟩
def PLN_SVALHI.BITS : Field := ⟨57, 0, 32, .rw, .const 0, 0, 4294967295⟩
def PLN_SCARELO.BITS : Field := ⟨58, 0, 32, .rw, .const 0, 0, 4294967295⟩
def PLN_SCAREHI.BITS : Field := ⟨59, 0, 32, .rw, .const 0, 0, 4294967295⟩
def PLN_SCTRL.GROUP : Field := ⟨60, 0, 4, .rw, .const 0, 0, 15⟩
def PLN_SCTRL.VALID : Field := ⟨61, 31, 1, .rw, .const 0, 0, 1⟩
def PLN_PSRC.HUB : Field := ⟨62, 0, 6, .rw, .const 0, 0, 63⟩
def PLN_PSRC.KIND : Field := ⟨63, 8, 4, .rw, .const 0, 0, 15⟩
def PLN_PSRC.VALID : Field := ⟨64, 31, 1, .rw, .const 0, 0, 1⟩

end Sys2Proof.Machine
end

