-- ==== Sys2Proof/Machine/Fields03.lean ====
section
/-! DEFINITION. The register fields of spec/03_tunnels_transactions_routes.md, one constant each: place, width, type and reset value, from that
file's register tables (log entry 4 says how multi-word tables are named). -/
namespace Sys2Proof.Machine

def TUN_CTRL.GW_EN : Field := ⟨65, 0, 1, .rw, .const 0, 0, 1⟩
def TUN_CTRL.MISS_NIM : Field := ⟨66, 1, 1, .rw, .const 0, 0, 1⟩
def TUN_RSEED.SEED : Field := ⟨67, 0, 32, .rwl, .const 0, 0, 4294967295⟩
def TUN_RSTAT.COUNT : Field := ⟨68, 0, 16, .ro, .const 0, 0, 65535⟩
def TUN_RSTAT.BUSY : Field := ⟨69, 16, 1, .ro, .const 0, 0, 1⟩
def TUN_RCMD.OP : Field := ⟨70, 0, 3, .wo, .const 0, 0, 7⟩
def TUN_RCMD.INDEX : Field := ⟨71, 16, 15, .wo, .const 0, 0, 32767⟩
def TUN_RBUF.WORD : Field := ⟨72, 0, 32, .rw, .const 0, 0, 4294967295⟩
def TUN_RRES.INDEX : Field := ⟨73, 0, 15, .ro, .const 0, 0, 32767⟩
def TUN_RRES.MOVES : Field := ⟨74, 16, 6, .ro, .const 0, 0, 63⟩
def TUN_RRES.STATUS : Field := ⟨75, 24, 8, .ro, .const 0, 0, 255⟩
def TUN_RMISS.COUNT : Field := ⟨76, 0, 32, .cnt, .const 0, 0, 4294967295⟩
def TUN_RDROP.COUNT : Field := ⟨77, 0, 32, .cnt, .const 0, 0, 4294967295⟩
def TUN_GWCTRL.GW_PORT : Field := ⟨78, 0, 3, .rwl, .const 0, 0, 7⟩
def TUN_GWCTRL.TAG_EN : Field := ⟨79, 3, 1, .rwl, .const 0, 0, 1⟩
def TUN_GWCTRL.VID : Field := ⟨80, 4, 12, .rwl, .const 0, 0, 4095⟩
def TUN_GWCTRL.PCP : Field := ⟨81, 16, 3, .rwl, .const 0, 0, 7⟩
def TUN_GWETYPE.ETYPE : Field := ⟨82, 0, 16, .rwl, .const 0x88B5, 1536, 65535⟩
def TUN_GWDMAC_LO.MAC : Field := ⟨83, 0, 32, .rwl, .const 0, 0, 4294967295⟩
def TUN_GWDMAC_HI.MAC : Field := ⟨84, 0, 16, .rwl, .const 0, 0, 65535⟩
def TUN_GWSMAC_LO.MAC : Field := ⟨85, 0, 32, .rwl, .const 0, 0, 4294967295⟩
def TUN_GWSMAC_HI.MAC : Field := ⟨86, 0, 16, .rwl, .const 0, 0, 65535⟩
def TUN_GWGAP.COUNT : Field := ⟨87, 0, 32, .cnt, .const 0, 0, 4294967295⟩
def TUN_GWBAD.COUNT : Field := ⟨88, 0, 32, .cnt, .const 0, 0, 4294967295⟩
def TUN_PESTAT.COUNT : Field := ⟨89, 0, 5, .ro, .const 0, 0, 31⟩
def TUN_PESTAT.OLDEST : Field := ⟨90, 8, 4, .ro, .const 0, 0, 15⟩
def TUN_PELOST.COUNT : Field := ⟨91, 0, 32, .cnt, .const 0, 0, 4294967295⟩
def TUN_STAGEDROP.COUNT : Field := ⟨92, 0, 32, .cnt, .const 0, 0, 4294967295⟩
def TUN_STAGEUSE.RESERVED_FLITS : Field := ⟨93, 0, 12, .ro, .const 0, 0, 4095⟩
def TUN_STAGEUSE.PEAK : Field := ⟨94, 16, 12, .ro, .const 0, 0, 4095⟩
def TUN_PELOG0.TID : Field := ⟨95, 0, 16, .ro, .const 0, 0, 65535⟩
def TUN_PELOG0.CAUSE : Field := ⟨96, 16, 8, .ro, .const 0, 0, 255⟩
def TUN_PELOG0.STATUS : Field := ⟨97, 24, 8, .ro, .const 0, 0, 255⟩
def TUN_PELOG1.ADDR_LO : Field := ⟨98, 0, 32, .ro, .const 0, 0, 4294967295⟩
def TUN_PELOG2.ADDR_HI : Field := ⟨99, 0, 32, .ro, .const 0, 0, 4294967295⟩
def TUN_PELOG3.BYTES : Field := ⟨100, 0, 16, .ro, .const 0, 0, 65535⟩
def TUN_PELOG3.VALID : Field := ⟨101, 16, 1, .w1c, .const 0, 0, 1⟩
def TUN_PELOG4.TIME_LO : Field := ⟨102, 0, 32, .ro, .const 0, 0, 4294967295⟩
def TUN_PELOG5.TIME_HI : Field := ⟨103, 0, 32, .ro, .const 0, 0, 4294967295⟩
def TUN_PMAP0.TIX : Field := ⟨104, 0, 12, .rw, .const 0, 0, 4095⟩
def TUN_PMAP0.DIR : Field := ⟨105, 12, 1, .rw, .const 0, 0, 1⟩
def TUN_PMAP0.VALID : Field := ⟨106, 31, 1, .rw, .const 0, 0, 1⟩
def TUN_PMAP1.BASE : Field := ⟨107, 0, 12, .rw, .const 0, 0, 4095⟩
def TUN_PMAP1.COUNT : Field := ⟨108, 16, 13, .rw, .const 0, 0, 4096⟩
def TUN_PMAP2.TIMEOUT : Field := ⟨109, 0, 16, .rw, .const 0, 0, 65535⟩
def TUN_CLS0.PORT : Field := ⟨110, 0, 3, .rw, .const 0, 0, 7⟩
def TUN_CLS0.ANYPORT : Field := ⟨111, 3, 1, .rw, .const 0, 0, 1⟩
def TUN_CLS0.VID : Field := ⟨112, 4, 12, .rw, .const 0, 0, 4095⟩
def TUN_CLS0.VID_EN : Field := ⟨113, 16, 1, .rw, .const 0, 0, 1⟩
def TUN_CLS0.ET_EN : Field := ⟨114, 17, 1, .rw, .const 0, 0, 1⟩
def TUN_CLS0.SMAC_EN : Field := ⟨115, 18, 1, .rw, .const 0, 0, 1⟩
def TUN_CLS0.L4_EN : Field := ⟨116, 19, 1, .rw, .const 0, 0, 1⟩
def TUN_CLS0.DIP_EN : Field := ⟨117, 20, 1, .rw, .const 0, 0, 1⟩
def TUN_CLS0.VALID : Field := ⟨118, 31, 1, .rw, .const 0, 0, 1⟩
def TUN_CLS1.ETYPE : Field := ⟨119, 0, 16, .rw, .const 0, 0, 65535⟩
def TUN_CLS1.L4DPORT : Field := ⟨120, 16, 16, .rw, .const 0, 0, 65535⟩
def TUN_CLS2.SMAC : Field := ⟨121, 0, 32, .rw, .const 0, 0, 4294967295⟩
def TUN_CLS3.SMAC : Field := ⟨122, 0, 16, .rw, .const 0, 0, 65535⟩
def TUN_CLS4.DIP : Field := ⟨123, 0, 32, .rw, .const 0, 0, 4294967295⟩
def TUN_CLS5.DIPLEN : Field := ⟨124, 0, 6, .rw, .const 0, 0, 32⟩
def TUN_CLS6.ID : Field := ⟨125, 0, 28, .rw, .const 0, 0, 268435455⟩
def TUN_CLS7.HITS : Field := ⟨126, 0, 32, .rw, .const 0, 0, 4294967295⟩
def TUN_ENT0.TID : Field := ⟨127, 0, 16, .rw, .const 0, 0, 65535⟩
def TUN_ENT0.CLASS : Field := ⟨128, 16, 2, .rw, .tunClass, 0, 3⟩
def TUN_ENT0.LEND : Field := ⟨129, 18, 1, .rw, .const 0, 0, 1⟩
def TUN_ENT0.ENC : Field := ⟨130, 19, 1, .rw, .tunFixed, 0, 1⟩
def TUN_ENT0.TXN : Field := ⟨131, 20, 1, .rw, .const 0, 0, 1⟩
def TUN_ENT0.CTX : Field := ⟨132, 21, 5, .rw, .const 0, 0, 31⟩
def TUN_ENT0.VALID : Field := ⟨133, 31, 1, .rw, .tunFixed, 0, 1⟩
def TUN_ENT1.EP_A : Field := ⟨134, 0, 8, .rw, .tunEp, 0, 255⟩
def TUN_ENT1.EP_B : Field := ⟨135, 8, 8, .rw, .tunEp, 0, 255⟩
def TUN_ENT2.D_AB : Field := ⟨136, 0, 11, .rw, .const 0, 0, 2047⟩
def TUN_ENT2.D_BA : Field := ⟨137, 16, 11, .rw, .const 0, 0, 2047⟩
def TUN_ENT3.STAGE : Field := ⟨138, 0, 12, .rw, .const 0, 0, 4095⟩
def TUN_ENT3.VC : Field := ⟨139, 12, 6, .rw, .const 0, 0, 63⟩
def TUN_ENT3.SQ : Field := ⟨140, 18, 12, .rw, .const 0, 0, 4095⟩

end Sys2Proof.Machine
end

