-- ==== Sys2Proof/Machine/Fields04.lean ====
section
/-! DEFINITION. The register fields of spec/04_lanes.md, one constant each: place, width, type and reset value, from that
file's register tables (log entry 4 says how multi-word tables are named). -/
namespace Sys2Proof.Machine

def JXP_CTRL.MAXRATE : Field := ⟨141, 0, 2, .rwl, .const 0, 0, 3⟩
def JXP_CTRL.PRESET : Field := ⟨142, 2, 3, .rw, .const 5, 0, 7⟩
def JXP_CTRL.AUTO_RESTORE : Field := ⟨143, 5, 1, .rw, .const 1, 0, 1⟩
def JXP_CTRL.PROB_EN : Field := ⟨144, 6, 1, .rw, .const 1, 0, 1⟩
def JXP_CTRL.QUAL_EW : Field := ⟨145, 8, 6, .rw, .const 24, 0, 63⟩
def JXP_CTRL.QUAL_EH : Field := ⟨146, 16, 6, .rw, .const 8, 0, 63⟩
def JXP_STATUS.RATE : Field := ⟨147, 0, 2, .ro, .const 0, 0, 3⟩
def JXP_STATUS.NARROW : Field := ⟨148, 2, 1, .ro, .const 0, 0, 1⟩
def JXP_STATUS.OVC_HOLD : Field := ⟨149, 3, 1, .rs, .const 0, 0, 1⟩
def JXP_STATUS.FAILS : Field := ⟨150, 4, 2, .ro, .const 0, 0, 3⟩
def JXP_STATUS.SPARES : Field := ⟨151, 6, 3, .ro, .const 0, 0, 7⟩
def JXP_STATUS.PENDING : Field := ⟨152, 9, 2, .ro, .const 0, 0, 3⟩
def JXP_STATUS.RATE_CAP : Field := ⟨153, 11, 2, .ro, .const 0, 0, 3⟩
def JXP_CMD.OP : Field := ⟨154, 0, 4, .wo, .const 0, 0, 15⟩
def JXP_CMD.LANE : Field := ⟨155, 4, 4, .wo, .const 0, 0, 15⟩
def JXP_TXMAP.MAP : Field := ⟨156, 0, 32, .ro, .const 0, 0, 4294967295⟩
def JXP_RXMAP.MAP : Field := ⟨157, 0, 32, .ro, .const 0, 0, 4294967295⟩
def JXP_LSTATE.S0 : Field := ⟨158, 0, 3, .ro, .const 0, 0, 7⟩
def JXP_LSTATE.S1 : Field := ⟨159, 3, 3, .ro, .const 0, 0, 7⟩
def JXP_LSTATE.S2 : Field := ⟨160, 6, 3, .ro, .const 0, 0, 7⟩
def JXP_LSTATE.S3 : Field := ⟨161, 9, 3, .ro, .const 0, 0, 7⟩
def JXP_LSTATE.S4 : Field := ⟨162, 12, 3, .ro, .const 0, 0, 7⟩
def JXP_LSTATE.S5 : Field := ⟨163, 15, 3, .ro, .const 0, 0, 7⟩
def JXP_LSTATE.S6 : Field := ⟨164, 18, 3, .ro, .const 0, 0, 7⟩
def JXP_LSTATE.S7 : Field := ⟨165, 21, 3, .ro, .const 0, 0, 7⟩
def JXP_LSTATE.S8 : Field := ⟨166, 24, 3, .ro, .const 0, 0, 7⟩
def JXP_LSTATE.S9 : Field := ⟨167, 27, 3, .ro, .const 0, 0, 7⟩
def JXP_FAILCFG.MARGIN : Field := ⟨168, 0, 5, .rw, .const 6, 1, 31⟩
def JXP_FAILCFG.MHIT_EXP : Field := ⟨169, 5, 5, .rw, .const 16, 8, 31⟩
def JXP_FAILCFG.CRC_LIM : Field := ⟨170, 10, 8, .rw, .const 8, 1, 255⟩
def JXP_FAILCFG.SPARE_ERRLIM : Field := ⟨171, 18, 8, .rw, .const 16, 0, 255⟩
def JXP_PROBCFG.PROB_TIME : Field := ⟨172, 0, 10, .rw, .const 60, 10, 600⟩
def JXP_PROBCFG.PROB_ERRLIM : Field := ⟨173, 16, 8, .rw, .const 0, 0, 255⟩
def JXP_PROBCFG.PROB_RETRY : Field := ⟨174, 24, 4, .rw, .const 3, 0, 15⟩
def JXP_HZCTRL.LANE : Field := ⟨175, 0, 4, .rw, .const 0, 0, 15⟩
def JXP_HZCTRL.DWELL : Field := ⟨176, 4, 6, .rw, .const 20, 10, 32⟩
def JXP_HZCTRL.THRESH : Field := ⟨177, 10, 16, .rw, .const 0, 0, 65535⟩
def JXP_HZCTRL.PH_STEP : Field := ⟨178, 26, 2, .rw, .const 0, 0, 3⟩
def JXP_HZCTRL.V_STEP : Field := ⟨179, 28, 2, .rw, .const 0, 0, 3⟩
def JXP_HZRANGE.PH_MIN : Field := ⟨180, 0, 8, .rw, .const 0xC0, 0, 255⟩
def JXP_HZRANGE.PH_MAX : Field := ⟨181, 8, 8, .rw, .const 0x3F, 0, 255⟩
def JXP_HZRANGE.V_MIN : Field := ⟨182, 16, 8, .rw, .const 0xE0, 0, 255⟩
def JXP_HZRANGE.V_MAX : Field := ⟨183, 24, 8, .rw, .const 0x1F, 0, 255⟩
def JXP_HZSTAT.RUN : Field := ⟨184, 0, 1, .ro, .const 0, 0, 1⟩
def JXP_HZSTAT.DONE : Field := ⟨185, 1, 1, .w1c, .const 0, 0, 1⟩
def JXP_HZSTAT.EW : Field := ⟨186, 8, 8, .ro, .const 0, 0, 255⟩
def JXP_HZSTAT.EH : Field := ⟨187, 16, 8, .ro, .const 0, 0, 255⟩
def JXP_FFE.C_PRE : Field := ⟨188, 0, 4, .rw, .const 4, 0, 12⟩
def JXP_FFE.C_POST : Field := ⟨189, 8, 5, .rw, .const 8, 0, 24⟩
def JXP_FFE.MAIN : Field := ⟨190, 16, 6, .ro, .const 51, 0, 63⟩
def JXP_RXEQ.PEAK : Field := ⟨191, 0, 4, .rw, .const 6, 0, 15⟩
def JXP_RXEQ.FREEZE : Field := ⟨192, 4, 1, .rw, .const 0, 0, 1⟩
def JXP_RXEQ.ADAPT_INT : Field := ⟨193, 8, 5, .rw, .const 12, 8, 20⟩
def JXP_RXEQ.POLINV : Field := ⟨194, 13, 1, .ro, .const 0, 0, 1⟩
def JXP_DFE0.H0 : Field := ⟨195, 0, 8, .rw, .const 0, 0, 255⟩
def JXP_DFE0.H1 : Field := ⟨196, 8, 7, .rw, .const 0, 0, 127⟩
def JXP_DFE1.H2 : Field := ⟨197, 0, 6, .rw, .const 0, 0, 63⟩
def JXP_DFE1.H3 : Field := ⟨198, 6, 6, .rw, .const 0, 0, 63⟩
def JXP_DFE1.H4 : Field := ⟨199, 12, 6, .rw, .const 0, 0, 63⟩
def JXP_DFE1.H5 : Field := ⟨200, 18, 6, .rw, .const 0, 0, 63⟩
def JXP_DFE1.H6 : Field := ⟨201, 24, 6, .rw, .const 0, 0, 63⟩
def JXP_DFE2.H7 : Field := ⟨202, 0, 6, .rw, .const 0, 0, 63⟩
def JXP_DFE2.H8 : Field := ⟨203, 6, 6, .rw, .const 0, 0, 63⟩
def JXP_PRBSCTL.GEN_EN : Field := ⟨204, 0, 1, .rw, .const 0, 0, 1⟩
def JXP_PRBSCTL.GEN_PAT : Field := ⟨205, 1, 3, .rw, .const 4, 0, 7⟩
def JXP_PRBSCTL.CHK_EN : Field := ⟨206, 4, 1, .rw, .const 0, 0, 1⟩
def JXP_PRBSCTL.CHK_PAT : Field := ⟨207, 5, 3, .rw, .const 4, 0, 7⟩
def JXP_PRBSCTL.LOCK : Field := ⟨208, 8, 1, .ro, .const 0, 0, 1⟩
def JXP_PRBSCTL.SPAREMODE : Field := ⟨209, 9, 1, .ro, .const 0, 0, 1⟩
def JXP_PRBSCTL.LOCKLOSS : Field := ⟨210, 16, 16, .cnt, .const 0, 0, 65535⟩
def JXP_PRBSERR.COUNT : Field := ⟨211, 0, 32, .cnt, .const 0, 0, 4294967295⟩
def JXP_PRBSBITS.COUNT : Field := ⟨212, 0, 32, .cnt, .const 0, 0, 4294967295⟩
def JXP_USERPAT_LO.PAT : Field := ⟨213, 0, 32, .rw, .const 0, 0, 4294967295⟩
def JXP_USERPAT_HI.PAT : Field := ⟨214, 0, 32, .rw, .const 0, 0, 4294967295⟩
def JXP_INJ.MODE : Field := ⟨215, 0, 2, .rw, .const 0, 0, 3⟩
def JXP_INJ.GO : Field := ⟨216, 2, 1, .wo, .const 0, 0, 1⟩
def JXP_INJ.LEN : Field := ⟨217, 8, 6, .rw, .const 0, 0, 63⟩
def JXP_INJ.RATE : Field := ⟨218, 16, 6, .rw, .const 10, 10, 40⟩
def JXP_INJ.INJCNT : Field := ⟨219, 22, 10, .cnt, .const 0, 0, 1023⟩
def JXP_LHEALTH.MHITS : Field := ⟨220, 0, 16, .ro, .const 0, 0, 65535⟩
def JXP_LHEALTH.CHARGES : Field := ⟨221, 16, 8, .ro, .const 0, 0, 255⟩
def JXP_LHEALTH.CAUSE : Field := ⟨222, 24, 3, .rs, .const 0, 0, 7⟩
def JXP_LHEALTH.PROBFAILS : Field := ⟨223, 27, 4, .ro, .const 0, 0, 15⟩

end Sys2Proof.Machine
end

