-- ==== Sys2Proof/Machine/Fields05.lean ====
section
/-! DEFINITION. The register fields of spec/05_link_layer.md, one constant each: place, width, type and reset value, from that
file's register tables (log entry 4 says how multi-word tables are named). -/
namespace Sys2Proof.Machine

def JXK_CTRL.EN : Field := ⟨224, 0, 1, .rw, .const 0, 0, 1⟩
def JXK_CTRL.PROT : Field := ⟨225, 1, 1, .rwl, .const 1, 0, 1⟩
def JXK_CTRL.VCS : Field := ⟨226, 8, 7, .rwl, .const 8, 1, 64⟩
def JXK_CTRL.REPLAY_T : Field := ⟨227, 16, 8, .rw, .const 8, 1, 128⟩
def JXK_CTRL.REPLAY_LIM : Field := ⟨228, 24, 4, .rw, .const 8, 1, 15⟩
def JXK_STATUS.STATE : Field := ⟨229, 0, 3, .ro, .const 0, 0, 7⟩
def JXK_STATUS.UP : Field := ⟨230, 3, 1, .ro, .const 0, 0, 1⟩
def JXK_STATUS.PROT_ON : Field := ⟨231, 4, 1, .ro, .const 0, 0, 1⟩
def JXK_STATUS.CMODE : Field := ⟨232, 5, 1, .ro, .const 0, 0, 1⟩
def JXK_STATUS.REPLAYING : Field := ⟨233, 6, 1, .ro, .const 0, 0, 1⟩
def JXK_STATUS.BACKOFF : Field := ⟨234, 7, 1, .ro, .const 0, 0, 1⟩
def JXK_STATUS.EPOCH : Field := ⟨235, 8, 8, .ro, .const 0, 0, 255⟩
def JXK_STATUS.KEYGEN : Field := ⟨236, 16, 8, .ro, .const 0, 0, 255⟩
def JXK_TRFAIL.STATE : Field := ⟨237, 0, 3, .ro, .const 0, 0, 7⟩
def JXK_TRFAIL.STATUS : Field := ⟨238, 8, 8, .ro, .const 0, 0, 255⟩
def JXK_TRFAIL.FAILS : Field := ⟨239, 16, 8, .ro, .const 0, 0, 255⟩
def JXK_CTO.CTO_MS : Field := ⟨240, 0, 12, .rw, .const 100, 10, 4000⟩
def JXK_CMD.OP : Field := ⟨241, 0, 4, .wo, .const 0, 0, 15⟩
def JXK_TXSEQ.NEWEST : Field := ⟨242, 0, 12, .ro, .const 0xFFE, 0, 4095⟩
def JXK_TXSEQ.ACKED : Field := ⟨243, 16, 12, .ro, .const 0xFFE, 0, 4095⟩
def JXK_TXSEQ.EXPIRIES : Field := ⟨244, 28, 4, .ro, .const 0, 0, 15⟩
def JXK_RXSEQ.EXPECTED : Field := ⟨245, 0, 12, .ro, .const 0, 0, 4095⟩
def JXK_RXSEQ.ACK_TX : Field := ⟨246, 16, 12, .ro, .const 0xFFE, 0, 4095⟩
def JXK_RBUF.UNACKED : Field := ⟨247, 0, 12, .ro, .const 0, 0, 4095⟩
def JXK_RBUF.RETAINED : Field := ⟨248, 16, 12, .ro, .const 0, 0, 4095⟩
def JXK_LOOP.LOOP : Field := ⟨249, 0, 20, .ro, .const 0, 0, 1048575⟩
def JXK_CRCERR.COUNT : Field := ⟨250, 0, 32, .cnt, .const 0, 0, 4294967295⟩
def JXK_EPOCHDROP.COUNT : Field := ⟨251, 0, 32, .cnt, .const 0, 0, 4294967295⟩
def JXK_OOS.COUNT : Field := ⟨252, 0, 32, .cnt, .const 0, 0, 4294967295⟩
def JXK_DUP.COUNT : Field := ⟨253, 0, 32, .cnt, .const 0, 0, 4294967295⟩
def JXK_REPLAYS.COUNT : Field := ⟨254, 0, 32, .cnt, .const 0, 0, 4294967295⟩
def JXK_RPLFLITS.COUNT : Field := ⟨255, 0, 32, .cnt, .const 0, 0, 4294967295⟩
def JXK_TAGFAIL.COUNT : Field := ⟨256, 0, 32, .cnt, .const 0, 0, 4294967295⟩
def JXK_ISOLOSS.COUNT : Field := ⟨257, 0, 32, .cnt, .const 0, 0, 4294967295⟩
def JXK_VOIDDROP.COUNT : Field := ⟨258, 0, 32, .cnt, .const 0, 0, 4294967295⟩
def JXK_FLUSHED.COUNT : Field := ⟨259, 0, 32, .cnt, .const 0, 0, 4294967295⟩
def JXK_RETRAINS.COUNT : Field := ⟨260, 0, 32, .cnt, .const 0, 0, 4294967295⟩
def JXK_CTOCNT.COUNT : Field := ⟨261, 0, 32, .cnt, .const 0, 0, 4294967295⟩
def JXK_BADKIND.COUNT : Field := ⟨262, 0, 32, .cnt, .const 0, 0, 4294967295⟩
def JXK_VC.INIT : Field := ⟨263, 0, 10, .rwl, .const 64, 0, 1023⟩
def JXK_VC.AVAIL : Field := ⟨264, 16, 10, .ro, .const 0, 0, 1023⟩
def JXK_VC.STALL : Field := ⟨265, 31, 1, .ro, .const 0, 0, 1⟩

end Sys2Proof.Machine
end

