-- ==== Sys2Proof/Machine/Fields06.lean ====
section
/-! DEFINITION. The register fields of spec/06_shared_buffer_switch.md, one constant each: place, width, type and reset value, from that
file's register tables (log entry 4 says how multi-word tables are named). -/
namespace Sys2Proof.Machine

def SWB_STATUS.SPARES : Field := ⟨266, 0, 2, .ro, .const 2, 0, 3⟩
def SWB_STATUS.RETIRED : Field := ⟨267, 2, 1, .ro, .const 0, 0, 1⟩
def SWB_STATUS.HALTED : Field := ⟨268, 3, 1, .ro, .const 0, 0, 1⟩
def SWB_STATUS.COPY : Field := ⟨269, 4, 1, .ro, .const 0, 0, 1⟩
def SWB_STATUS.COPYBANK : Field := ⟨270, 5, 5, .ro, .const 0, 0, 31⟩
def SWB_POOL.SHARED : Field := ⟨271, 0, 18, .ro, .const 131072, 0, 262143⟩
def SWB_RESV.RESERVED : Field := ⟨272, 0, 18, .ro, .const 0, 0, 262143⟩
def SWB_FREE.FREE : Field := ⟨273, 0, 18, .ro, .const 131072, 0, 262143⟩
def SWB_DESC.FREE : Field := ⟨274, 0, 17, .ro, .const 65536, 0, 131071⟩
def SWB_FDBCFG.AGE_T : Field := ⟨275, 0, 12, .rw, .const 300, 0, 4095⟩
def SWB_FCMD.OP : Field := ⟨276, 0, 3, .wo, .const 0, 0, 7⟩
def SWB_FCMD.BYPORT : Field := ⟨277, 3, 1, .wo, .const 0, 0, 1⟩
def SWB_FCMD.PORT : Field := ⟨278, 4, 5, .wo, .const 0, 0, 31⟩
def SWB_FCMD.WAY : Field := ⟨279, 9, 2, .wo, .const 0, 0, 3⟩
def SWB_FCMD.INDEX : Field := ⟨280, 16, 12, .wo, .const 0, 0, 4095⟩
def SWB_FBUF.WORD : Field := ⟨281, 0, 32, .rw, .const 0, 0, 4294967295⟩
def SWB_FSTAT.COUNT : Field := ⟨282, 0, 15, .ro, .const 0, 0, 32767⟩
def SWB_FSTAT.FULLCOUNT : Field := ⟨283, 15, 1, .ro, .const 0, 0, 1⟩
def SWB_FSTAT.MOVES : Field := ⟨284, 16, 8, .cnt, .const 0, 0, 255⟩
def SWB_FSTAT.SVIOL : Field := ⟨285, 24, 4, .cnt, .const 0, 0, 15⟩
def SWB_FSTAT.LFAIL : Field := ⟨286, 28, 4, .cnt, .const 0, 0, 15⟩
def SWB_ECCCFG.SCRUB_EN : Field := ⟨287, 0, 1, .rw, .const 1, 0, 1⟩
def SWB_ECCCFG.UE_LIM : Field := ⟨288, 4, 4, .rw, .const 1, 1, 15⟩
def SWB_ECCCFG.CE_LIM : Field := ⟨289, 8, 12, .rw, .const 64, 1, 4095⟩
def SWB_BCMD.BANK : Field := ⟨290, 0, 5, .wo, .const 0, 0, 31⟩
def SWB_BCMD.GO : Field := ⟨291, 31, 1, .wo, .const 0, 0, 1⟩
def SWB_SPARE.LOG0 : Field := ⟨292, 0, 5, .ro, .const 0, 0, 31⟩
def SWB_SPARE.USED0 : Field := ⟨293, 5, 1, .ro, .const 0, 0, 1⟩
def SWB_SPARE.LOG1 : Field := ⟨294, 8, 5, .ro, .const 0, 0, 31⟩
def SWB_SPARE.USED1 : Field := ⟨295, 13, 1, .ro, .const 0, 0, 1⟩
def SWB_JVCMAP.VC0 : Field := ⟨296, 0, 6, .rwl, .const 0, 0, 63⟩
def SWB_JVCMAP.VC1 : Field := ⟨297, 8, 6, .rwl, .const 0, 0, 63⟩
def SWB_JVCMAP.VC2 : Field := ⟨298, 16, 6, .rwl, .const 0, 0, 63⟩
def SWB_JVCMAP.VC3 : Field := ⟨299, 24, 6, .rwl, .const 0, 0, 63⟩
def SWB_PROF.KG : Field := ⟨300, 0, 4, .rw, .const 0, 0, 15⟩
def SWB_PROF.KY : Field := ⟨301, 4, 4, .rw, .const 15, 0, 15⟩
def SWB_PROF.MIN : Field := ⟨302, 8, 16, .rw, .const 0, 0, 65535⟩
def SWB_BANK.STATE : Field := ⟨303, 0, 2, .ro, .spareBank, 0, 3⟩
def SWB_BANK.UE : Field := ⟨304, 8, 8, .cnt, .const 0, 0, 255⟩
def SWB_BANK.CE : Field := ⟨305, 16, 12, .ro, .const 0, 0, 4095⟩
def SWB_PCFG.LEARN : Field := ⟨306, 0, 1, .rw, .const 1, 0, 1⟩
def SWB_PCFG.PCP_Q : Field := ⟨307, 1, 1, .rw, .const 0, 0, 1⟩
def SWB_PCFG.DEI_YELLOW : Field := ⟨308, 2, 1, .rw, .const 0, 0, 1⟩
def SWB_PCFG.LEARN_SQ : Field := ⟨309, 4, 12, .rw, .index, 0, 4095⟩
def SWB_PCFG.FLOOD_SQ : Field := ⟨310, 16, 12, .rw, .index, 0, 4095⟩
def SWB_FLOOD.MASK : Field := ⟨311, 0, 18, .rw, .const 0, 0, 262143⟩
def SWB_DROP.COUNT : Field := ⟨312, 0, 32, .cnt, .const 0, 0, 4294967295⟩
def SWB_QCFG.PROFILE : Field := ⟨313, 0, 4, .rw, .const 0, 0, 15⟩
def SWB_QLEN.CELLS : Field := ⟨314, 0, 18, .ro, .const 0, 0, 262143⟩
def SWB_QLEN.PEAK : Field := ⟨315, 18, 14, .ro, .const 0, 0, 16383⟩

end Sys2Proof.Machine
end

