-- ==== Sys2Proof/Machine/Fields07.lean ====
section
/-! DEFINITION. The register fields of spec/07_scheduling_shaping_policing.md, one constant each: place, width, type and reset value, from that
file's register tables (log entry 4 says how multi-word tables are named). -/
namespace Sys2Proof.Machine

def TMG_STATUS.OVERSUB : Field := ⟨316, 0, 1, .ro, .const 0, 0, 1⟩
def TMG_STATUS.OVNODE : Field := ⟨317, 16, 13, .ro, .const 0, 0, 8191⟩
def TMG_GWQ.SQ : Field := ⟨318, 0, 12, .rw, .const 0, 0, 4095⟩
def TMG_POVH.OVH_C : Field := ⟨319, 0, 7, .rw, .ovhC, 0, 127⟩
def TMG_POVH.UNIT : Field := ⟨320, 8, 8, .rw, .ovhUnit, 0, 255⟩
def TMG_POVH.OVH_U : Field := ⟨321, 16, 6, .rw, .ovhU, 0, 63⟩
def TMG_MSEL.MODE : Field := ⟨322, 0, 2, .rw, .const 0, 0, 3⟩
def TMG_MSEL.BASE : Field := ⟨323, 4, 11, .rw, .const 0, 0, 2047⟩
def TMG_NCFG.WEIGHT : Field := ⟨324, 0, 12, .rw, .const 1, 0, 4095⟩
def TMG_NCFG.PRIO : Field := ⟨325, 12, 3, .rw, .const 0, 0, 7⟩
def TMG_NCFG.PARENT : Field := ⟨326, 16, 8, .rw, .parent, 0, 255⟩
def TMG_CIR.RATE : Field := ⟨327, 0, 29, .rw, .const 0, 0, 536870911⟩
def TMG_PIR.RATE : Field := ⟨328, 0, 29, .rw, .const 0, 0, 536870911⟩
def TMG_CBS.BURST : Field := ⟨329, 0, 18, .rw, .const 0, 0, 262143⟩
def TMG_PBS.BURST : Field := ⟨330, 0, 18, .rw, .const 0, 0, 262143⟩
def TMG_NSTAT.ACTIVE : Field := ⟨331, 0, 1, .ro, .const 0, 0, 1⟩
def TMG_NSTAT.ELIGIBLE : Field := ⟨332, 1, 1, .ro, .const 0, 0, 1⟩
def TMG_NSTAT.COMMITTED : Field := ⟨333, 2, 1, .ro, .const 0, 0, 1⟩
def TMG_NSTAT.PEND : Field := ⟨334, 3, 1, .ro, .const 0, 0, 1⟩
def TMG_NSTAT.PEAKNEG : Field := ⟨335, 4, 1, .ro, .const 0, 0, 1⟩
def TMG_NTXF.FRAMES : Field := ⟨336, 0, 32, .ro, .const 0, 0, 4294967295⟩
def TMG_QMETER.METER : Field := ⟨337, 0, 11, .rw, .const 0, 0, 2047⟩
def TMG_QMETER.MEN : Field := ⟨338, 31, 1, .rw, .const 0, 0, 1⟩
def TMG_MCFG.MODE : Field := ⟨339, 0, 2, .rw, .const 0, 0, 3⟩
def TMG_MCFG.AWARE : Field := ⟨340, 2, 1, .rw, .const 0, 0, 1⟩
def TMG_MCFG.CF : Field := ⟨341, 3, 1, .rw, .const 0, 0, 1⟩
def TMG_MCIR.RATE : Field := ⟨342, 0, 29, .rw, .const 0, 0, 536870911⟩
def TMG_MPIR.RATE : Field := ⟨343, 0, 29, .rw, .const 0, 0, 536870911⟩
def TMG_MCBS.BURST : Field := ⟨344, 0, 18, .rw, .const 0, 0, 262143⟩
def TMG_MPBS.BURST : Field := ⟨345, 0, 18, .rw, .const 0, 0, 262143⟩
def TMG_MACT.GREEN : Field := ⟨346, 0, 6, .rw, .const 0, 0, 63⟩
def TMG_MACT.YELLOW : Field := ⟨347, 8, 6, .rw, .const 0, 0, 63⟩
def TMG_MACT.RED : Field := ⟨348, 16, 6, .rw, .const 1, 0, 63⟩
def TMG_MCNT_GREEN.COUNT : Field := ⟨349, 0, 32, .cnt, .const 0, 0, 4294967295⟩
def TMG_MCNT_YELLOW.COUNT : Field := ⟨350, 0, 32, .cnt, .const 0, 0, 4294967295⟩
def TMG_MCNT_RED.COUNT : Field := ⟨351, 0, 32, .cnt, .const 0, 0, 4294967295⟩
def TMG_MCNT_DROPS.COUNT : Field := ⟨352, 0, 32, .cnt, .const 0, 0, 4294967295⟩

end Sys2Proof.Machine
end

