-- ==== Sys2Proof/Machine/Fields08.lean ====
section
/-! DEFINITION. The register fields of spec/08_field_segments_and_points.md, one constant each: place, width, type and reset value, from that
file's register tables (log entry 4 says how multi-word tables are named). -/
namespace Sys2Proof.Machine

def FLD_STATUS.D2D_UP : Field := ⟨353, 0, 1, .ro, .const 0, 0, 1⟩
def FLD_STATUS.FIELD_OK : Field := ⟨354, 1, 1, .ro, .const 0, 0, 1⟩
def FLD_STATUS.VFIELD : Field := ⟨355, 8, 8, .ro, .const 0, 0, 255⟩
def FLD_DIBASE.DIBASE : Field := ⟨356, 0, 12, .rw, .const 0, 0, 4095⟩
def FLD_DIBASE.DIEN : Field := ⟨357, 31, 1, .rw, .const 0, 0, 1⟩
def FLD_TSCMD.POP : Field := ⟨358, 0, 1, .wo, .const 0, 0, 1⟩
def FLD_TSSTAT.COUNT : Field := ⟨359, 0, 7, .ro, .const 0, 0, 127⟩
def FLD_TSSTAT.OVF : Field := ⟨360, 16, 16, .cnt, .const 0, 0, 65535⟩
def FLD_TSLO.TIME : Field := ⟨361, 0, 32, .ro, .const 0, 0, 4294967295⟩
def FLD_TSHI.TIME : Field := ⟨362, 0, 32, .ro, .const 0, 0, 4294967295⟩
def FLD_TSINFO.INPUT : Field := ⟨363, 0, 4, .ro, .const 0, 0, 15⟩
def FLD_TSINFO.LEVEL : Field := ⟨364, 4, 1, .ro, .const 0, 0, 1⟩
def FLD_TSINFO.CLEAR : Field := ⟨365, 5, 1, .ro, .const 0, 0, 1⟩
def FLD_OCTRL.ARM : Field := ⟨366, 0, 1, .wo, .const 0, 0, 1⟩
def FLD_OCTRL.AUTOARM : Field := ⟨367, 1, 1, .rw, .const 0, 0, 1⟩
def FLD_OCTRL.ULOSS_EN : Field := ⟨368, 2, 1, .rw, .const 1, 0, 1⟩
def FLD_OCTRL.SAFE : Field := ⟨369, 3, 1, .ro, .const 1, 0, 1⟩
def FLD_OWD.WD_MS : Field := ⟨370, 0, 14, .rw, .const 100, 1, 10000⟩
def FLD_OWD.KSRC : Field := ⟨371, 14, 1, .rw, .const 0, 0, 1⟩
def FLD_OWD.KPT : Field := ⟨372, 16, 12, .rw, .const 0, 0, 4095⟩
def FLD_OKICK.KEY : Field := ⟨373, 0, 32, .wo, .const 0, 0, 4294967295⟩
def FLD_OSTAT.LEVEL : Field := ⟨374, 0, 8, .ro, .const 0, 0, 255⟩
def FLD_OSTAT.PSAFE : Field := ⟨375, 8, 8, .ro, .const 0, 0, 255⟩
def FLD_OSTAT.WDLAPSE : Field := ⟨376, 16, 1, .rs, .const 0, 0, 1⟩
def FLD_OSTAT.ULOSS : Field := ⟨377, 17, 1, .rs, .const 0, 0, 1⟩
def FLD_OSTAT.D2DLOSS : Field := ⟨378, 18, 1, .rs, .const 0, 0, 1⟩
def FLD_OCFG.PT : Field := ⟨379, 0, 12, .rw, .const 0, 0, 4095⟩
def FLD_OCFG.BIT : Field := ⟨380, 12, 4, .rw, .const 0, 0, 15⟩
def FLD_OCFG.SAFE : Field := ⟨381, 16, 2, .rw, .const 2, 0, 3⟩
def FLD_OCFG.INV : Field := ⟨382, 18, 1, .rw, .const 0, 0, 1⟩
def FLD_OCFG.OAGE : Field := ⟨383, 19, 12, .rw, .const 0, 0, 4095⟩
def FLD_OCFG.EN : Field := ⟨384, 31, 1, .rw, .const 0, 0, 1⟩
def FLD_SCTRL.EN : Field := ⟨385, 0, 1, .rw, .const 0, 0, 1⟩
def FLD_SCTRL.PLCA_EN : Field := ⟨386, 1, 1, .rw, .const 1, 0, 1⟩
def FLD_SCTRL.QUAR : Field := ⟨387, 2, 1, .rw, .const 0, 0, 1⟩
def FLD_SCTRL.NOISE_LIM : Field := ⟨388, 8, 8, .rw, .const 0, 0, 255⟩
def FLD_SPLCA.NODECNT : Field := ⟨389, 0, 6, .rw, .const 8, 2, 32⟩
def FLD_SPLCA.TO_TMR : Field := ⟨390, 8, 8, .rw, .const 32, 1, 255⟩
def FLD_SPLCA.MAX_BC : Field := ⟨391, 16, 8, .rw, .const 0, 0, 255⟩
def FLD_SPLCA.BURST_TMR : Field := ⟨392, 24, 8, .rw, .const 128, 1, 255⟩
def FLD_SSTAT.UP : Field := ⟨393, 0, 1, .ro, .const 0, 0, 1⟩
def FLD_SSTAT.LINEFAULT : Field := ⟨394, 1, 1, .ro, .const 0, 0, 1⟩
def FLD_SSTAT.PLCA_ON : Field := ⟨395, 2, 1, .ro, .const 0, 0, 1⟩
def FLD_SSTAT.LAST_COLL_ID : Field := ⟨396, 8, 5, .ro, .const 0, 0, 31⟩
def FLD_STRANGER.COUNT : Field := ⟨397, 0, 32, .cnt, .const 0, 0, 4294967295⟩
def FLD_QDROP.COUNT : Field := ⟨398, 0, 32, .cnt, .const 0, 0, 4294967295⟩
def FLD_SNOISE.COUNT : Field := ⟨399, 0, 32, .cnt, .const 0, 0, 4294967295⟩
def FLD_SCOLL.COUNT : Field := ⟨400, 0, 32, .cnt, .const 0, 0, 4294967295⟩
def FLD_SPCOLL.COUNT : Field := ⟨401, 0, 32, .cnt, .const 0, 0, 4294967295⟩
def FLD_SSHORT.COUNT : Field := ⟨402, 0, 32, .cnt, .const 0, 0, 4294967295⟩
def FLD_DICFG.EN : Field := ⟨403, 0, 1, .rw, .const 0, 0, 1⟩
def FLD_DICFG.TYPE : Field := ⟨404, 1, 1, .rw, .const 0, 0, 1⟩
def FLD_DICFG.POL : Field := ⟨405, 2, 1, .rw, .const 0, 0, 1⟩
def FLD_DICFG.DEB : Field := ⟨406, 16, 16, .rw, .const 0, 0, 65535⟩
def FLD_DISTUCK.STUCK_MS : Field := ⟨407, 0, 22, .rw, .const 0, 0, 3600000⟩
def FLD_DICHAT.CHAT_N : Field := ⟨408, 0, 8, .rw, .const 0, 0, 255⟩
def FLD_DICHAT.CHAT_WIN : Field := ⟨409, 16, 16, .rw, .const 100, 1, 65535⟩
def FLD_DISTAT.RAW : Field := ⟨410, 0, 1, .ro, .const 0, 0, 1⟩
def FLD_DISTAT.LEVEL : Field := ⟨411, 1, 1, .ro, .const 0, 0, 1⟩
def FLD_DISTAT.STABLE : Field := ⟨412, 2, 1, .ro, .const 0, 0, 1⟩
def FLD_DISTAT.STUCK : Field := ⟨413, 3, 1, .ro, .const 0, 0, 1⟩
def FLD_DISTAT.CHATTER : Field := ⟨414, 4, 1, .ro, .const 0, 0, 1⟩
def FLD_ADM0.MAC_LO : Field := ⟨415, 0, 32, .rw, .const 0, 0, 4294967295⟩
def FLD_ADM1.MAC_HI : Field := ⟨416, 0, 16, .rw, .const 0, 0, 65535⟩
def FLD_ADM1.SEG : Field := ⟨417, 16, 2, .rw, .const 0, 0, 3⟩
def FLD_ADM1.NODE : Field := ⟨418, 18, 5, .rw, .const 0, 0, 31⟩
def FLD_ADM1.CHK_ID : Field := ⟨419, 23, 1, .rw, .const 0, 0, 1⟩
def FLD_ADM1.VALID : Field := ⟨420, 31, 1, .rw, .const 0, 0, 1⟩
def FLD_ADM2.CYC_ETYPE : Field := ⟨421, 0, 16, .rw, .const 0, 0, 65535⟩
def FLD_ADM3.BASE : Field := ⟨422, 0, 12, .rw, .const 0, 0, 4095⟩
def FLD_ADM3.COUNT : Field := ⟨423, 16, 10, .rw, .const 0, 0, 1023⟩
def FLD_ADM4.CYC_TO : Field := ⟨424, 0, 16, .rw, .const 0, 0, 65535⟩
def FLD_ADM5.CYCFRAMES : Field := ⟨425, 0, 32, .ro, .const 0, 0, 4294967295⟩
def FLD_ADM6.ACYCFRAMES : Field := ⟨426, 0, 32, .ro, .const 0, 0, 4294967295⟩

end Sys2Proof.Machine
end

