-- ==== Sys2Proof/Machine/Fields09.lean ====
section
/-! DEFINITION. The register fields of spec/09_ethernet_and_time.md, one constant each: place, width, type and reset value, from that
file's register tables (log entry 4 says how multi-word tables are named). -/
namespace Sys2Proof.Machine

def ETH_CTRL.EN : Field := ⟨427, 0, 1, .rw, .const 0, 0, 1⟩
def ETH_CTRL.MODE : Field := ⟨428, 1, 3, .rwl, .const 0, 0, 7⟩
def ETH_CTRL.FEC_EN : Field := ⟨429, 4, 1, .rwl, .const 1, 0, 1⟩
def ETH_CTRL.PTP_TRAP : Field := ⟨430, 5, 1, .rw, .const 0, 0, 1⟩
def ETH_CTRL.MAXLEN : Field := ⟨431, 8, 14, .rw, .const 1522, 64, 9220⟩
def ETH_STATUS.LINK : Field := ⟨432, 0, 1, .ro, .const 0, 0, 1⟩
def ETH_STATUS.SPEED : Field := ⟨433, 1, 3, .ro, .const 0, 0, 7⟩
def ETH_STATUS.FEC_ON : Field := ⟨434, 4, 1, .ro, .const 0, 0, 1⟩
def ETH_STATUS.TRAINED : Field := ⟨435, 5, 1, .ro, .const 0, 0, 1⟩
def ETH_VLAN.PVID : Field := ⟨436, 0, 12, .rw, .const 1, 1, 4094⟩
def ETH_VLAN.ACCEPT : Field := ⟨437, 12, 2, .rw, .const 0, 0, 3⟩
def ETH_VLAN.ING_FILT : Field := ⟨438, 14, 1, .rw, .const 0, 0, 1⟩
def ETH_TSLAT.RX_LAT : Field := ⟨439, 0, 16, .rw, .const 0, 0, 65535⟩
def ETH_TSLAT.TX_LAT : Field := ⟨440, 16, 16, .rw, .const 0, 0, 65535⟩
def ETH_TXTSCMD.POP : Field := ⟨441, 0, 1, .wo, .const 0, 0, 1⟩
def ETH_TXTSCMD.COUNT : Field := ⟨442, 16, 5, .ro, .const 0, 0, 31⟩
def ETH_TXTSCMD.OVF : Field := ⟨443, 24, 8, .cnt, .const 0, 0, 255⟩
def ETH_TXTS_LO.TIME : Field := ⟨444, 0, 32, .ro, .const 0, 0, 4294967295⟩
def ETH_TXTS_HI.TIME : Field := ⟨445, 0, 32, .ro, .const 0, 0, 4294967295⟩
def ETH_TXTS_INFO.TAG : Field := ⟨446, 0, 16, .ro, .const 0, 0, 65535⟩
def ETH_RXFRAMES.COUNT : Field := ⟨447, 0, 32, .cnt, .const 0, 0, 4294967295⟩
def ETH_RXBYTES.COUNT : Field := ⟨448, 0, 32, .cnt, .const 0, 0, 4294967295⟩
def ETH_RXFCS.COUNT : Field := ⟨449, 0, 32, .cnt, .const 0, 0, 4294967295⟩
def ETH_RXLEN.COUNT : Field := ⟨450, 0, 32, .cnt, .const 0, 0, 4294967295⟩
def ETH_RXVLAN.COUNT : Field := ⟨451, 0, 32, .cnt, .const 0, 0, 4294967295⟩
def ETH_RXCTL.COUNT : Field := ⟨452, 0, 32, .cnt, .const 0, 0, 4294967295⟩
def ETH_RXTRAP.COUNT : Field := ⟨453, 0, 32, .cnt, .const 0, 0, 4294967295⟩
def ETH_TXFRAMES.COUNT : Field := ⟨454, 0, 32, .cnt, .const 0, 0, 4294967295⟩
def ETH_TXBYTES.COUNT : Field := ⟨455, 0, 32, .cnt, .const 0, 0, 4294967295⟩
def ETH_EGFILT.COUNT : Field := ⟨456, 0, 32, .cnt, .const 0, 0, 4294967295⟩
def ETH_FECCORR.COUNT : Field := ⟨457, 0, 32, .cnt, .const 0, 0, 4294967295⟩
def ETH_FECUNC.COUNT : Field := ⟨458, 0, 32, .cnt, .const 0, 0, 4294967295⟩
def ETH_VMEMB.MAP : Field := ⟨459, 0, 32, .rw, .vmemb, 0, 4294967295⟩
def ETH_VUNTAG.MAP : Field := ⟨460, 0, 32, .rw, .vmemb, 0, 4294967295⟩
def TSU_CTRL.PTP_LOCK : Field := ⟨461, 0, 1, .rw, .const 0, 0, 1⟩
def TSU_STATUS.VALID : Field := ⟨462, 0, 1, .ro, .const 0, 0, 1⟩
def TSU_STATUS.HOLDOVER : Field := ⟨463, 1, 1, .ro, .const 0, 0, 1⟩
def TSU_STATUS.ROOT : Field := ⟨464, 2, 1, .ro, .const 0, 0, 1⟩
def TSU_STATUS.STEP_PEND : Field := ⟨465, 3, 1, .ro, .const 0, 0, 1⟩
def TSU_TIME_LO.TIME : Field := ⟨466, 0, 32, .ro, .const 0, 0, 4294967295⟩
def TSU_TIME_HI.TIME : Field := ⟨467, 0, 32, .ro, .const 0, 0, 4294967295⟩
def TSU_RATE.RATE : Field := ⟨468, 0, 32, .rw, .const 0, 0, 4294967295⟩
def TSU_STEP_LO.STEP : Field := ⟨469, 0, 32, .rw, .const 0, 0, 4294967295⟩
def TSU_STEP_HI.STEP : Field := ⟨470, 0, 32, .rw, .const 0, 0, 4294967295⟩
def TSU_STEPCMD.GO : Field := ⟨471, 31, 1, .wo, .const 0, 0, 1⟩
def TSU_DELAY.LOOP : Field := ⟨472, 0, 20, .rw, .const 0, 0, 1048575⟩
def TSU_ASYM.ASYM : Field := ⟨473, 0, 16, .rw, .const 0, 0, 65535⟩
def TSU_STEPTHR.STEPTHR : Field := ⟨474, 0, 16, .rw, .const 100, 1, 65535⟩
def TSU_LASTCORR.CORR : Field := ⟨475, 0, 32, .ro, .const 0, 0, 4294967295⟩

end Sys2Proof.Machine
end

