-- ==== Sys2Proof/Machine/Fields10.lean ====
section
/-! DEFINITION. The register fields of spec/10_storage_bridge.md, one constant each: place, width, type and reset value, from that
file's register tables (log entry 4 says how multi-word tables are named). -/
namespace Sys2Proof.Machine

def PCB_CTRL.EN : Field := ⟨476, 0, 1, .rw, .const 0, 0, 1⟩
def PCB_CTRL.MAXSPD : Field := ⟨477, 1, 2, .rwl, .const 0, 0, 3⟩
def PCB_CTRL.NPTO : Field := ⟨478, 8, 8, .rw, .const 50, 1, 255⟩
def PCB_CTRL.RST_MS : Field := ⟨479, 16, 10, .rw, .const 100, 1, 1000⟩
def PCB_STATUS.LINK : Field := ⟨480, 0, 1, .ro, .const 0, 0, 1⟩
def PCB_STATUS.SPEED : Field := ⟨481, 1, 3, .ro, .const 0, 0, 7⟩
def PCB_STATUS.WIDTH : Field := ⟨482, 4, 3, .ro, .const 0, 0, 7⟩
def PCB_STATUS.ROOT : Field := ⟨483, 7, 1, .ro, .const 0, 0, 1⟩
def PCB_STATUS.PRESENT : Field := ⟨484, 8, 5, .ro, .const 0, 0, 31⟩
def PCB_STATUS.PERST : Field := ⟨485, 13, 1, .ro, .const 0, 0, 1⟩
def PCB_RACFG.RA_SIZE : Field := ⟨486, 0, 7, .rw, .const 0, 0, 64⟩
def PCB_RACFG.RA_LIFE : Field := ⟨487, 16, 10, .rw, .const 20, 1, 1000⟩
def PCB_UNSUP.COUNT : Field := ⟨488, 0, 32, .cnt, .const 0, 0, 4294967295⟩
def PCB_NPTOCNT.COUNT : Field := ⟨489, 0, 32, .cnt, .const 0, 0, 4294967295⟩
def PCB_CPLLATE.COUNT : Field := ⟨490, 0, 32, .cnt, .const 0, 0, 4294967295⟩
def PCB_RAHIT.COUNT : Field := ⟨491, 0, 32, .cnt, .const 0, 0, 4294967295⟩
def PCB_RAMISS.COUNT : Field := ⟨492, 0, 32, .cnt, .const 0, 0, 4294967295⟩
def PCB_RADISC.COUNT : Field := ⟨493, 0, 32, .cnt, .const 0, 0, 4294967295⟩
def PCB_PDISC.COUNT : Field := ⟨494, 0, 32, .cnt, .const 0, 0, 4294967295⟩
def PCB_RAWIN_BLO.PREF : Field := ⟨495, 0, 1, .rw, .const 0, 0, 1⟩
def PCB_RAWIN_BLO.BASE : Field := ⟨496, 12, 20, .rw, .const 0, 0, 1048575⟩
def PCB_RAWIN_BHI.BASE : Field := ⟨497, 0, 32, .rw, .const 0, 0, 4294967295⟩
def PCB_RAWIN_LLO.LIMIT : Field := ⟨498, 12, 20, .rw, .const 0, 0, 1048575⟩
def PCB_RAWIN_LHI.LIMIT : Field := ⟨499, 0, 32, .rw, .const 0, 0, 4294967295⟩
def PCB_VDSP.PRESENT : Field := ⟨500, 0, 1, .ro, .const 0, 0, 1⟩
def PCB_VDSP.SSDUP : Field := ⟨501, 1, 1, .ro, .const 0, 0, 1⟩
def PCB_VDSP.TUNREADY : Field := ⟨502, 2, 1, .ro, .const 0, 0, 1⟩
def PCB_VDSP.SPEED : Field := ⟨503, 3, 3, .ro, .const 0, 0, 7⟩
def PCB_VDSP.WIDTH : Field := ⟨504, 6, 3, .ro, .const 0, 0, 7⟩
def PCB_VDSP.HUB : Field := ⟨505, 16, 6, .ro, .const 0, 0, 63⟩
def PCB_VOUT.NP : Field := ⟨506, 0, 6, .ro, .const 0, 0, 63⟩
def PCB_VOUT.PCRED : Field := ⟨507, 6, 6, .ro, .const 0, 0, 63⟩

end Sys2Proof.Machine
end

