-- ==== Sys2Proof/Machine/Fields11.lean ====
section
/-! DEFINITION. The register fields of spec/11_display_tunnels.md, one constant each: place, width, type and reset value, from that
file's register tables (log entry 4 says how multi-word tables are named). -/
namespace Sys2Proof.Machine

def DPT_CTRL.EN : Field := ⟨508, 0, 1, .rw, .const 0, 0, 1⟩
def DPT_CTRL.MAXRATE : Field := ⟨509, 1, 2, .rwl, .const 0, 0, 3⟩
def DPT_CTRL.MAXLANES : Field := ⟨510, 3, 2, .rwl, .const 0, 0, 3⟩
def DPT_CTRL.CONCEAL : Field := ⟨511, 5, 1, .rw, .const 0, 0, 1⟩
def DPT_CTRL.PLAYOUT : Field := ⟨512, 8, 8, .rw, .const 40, 10, 200⟩
def DPT_STATUS.SINK : Field := ⟨513, 0, 1, .ro, .const 0, 0, 1⟩
def DPT_STATUS.LINK : Field := ⟨514, 1, 1, .ro, .const 0, 0, 1⟩
def DPT_STATUS.RATE : Field := ⟨515, 2, 3, .ro, .const 0, 0, 7⟩
def DPT_STATUS.LANES : Field := ⟨516, 5, 3, .ro, .const 0, 0, 7⟩
def DPT_STATUS.FEC : Field := ⟨517, 8, 1, .ro, .const 0, 0, 1⟩
def DPT_STATUS.DSC : Field := ⟨518, 9, 1, .ro, .const 0, 0, 1⟩
def DPT_STATUS.STREAM : Field := ⟨519, 10, 1, .ro, .const 0, 0, 1⟩
def DPT_STATUS.LOCK : Field := ⟨520, 11, 1, .ro, .const 0, 0, 1⟩
def DPT_STATUS.EDID : Field := ⟨521, 12, 1, .ro, .const 0, 0, 1⟩
def DPT_STATUS.NOFIT : Field := ⟨522, 13, 1, .ro, .const 0, 0, 1⟩
def DPT_CVLOSS.COUNT : Field := ⟨523, 0, 32, .cnt, .const 0, 0, 4294967295⟩
def DPT_CCONCEAL.COUNT : Field := ⟨524, 0, 32, .cnt, .const 0, 0, 4294967295⟩
def DPT_CUNDERRUN.COUNT : Field := ⟨525, 0, 32, .cnt, .const 0, 0, 4294967295⟩
def DPT_COVERRUN.COUNT : Field := ⟨526, 0, 32, .cnt, .const 0, 0, 4294967295⟩
def DPT_CAUXFWD.COUNT : Field := ⟨527, 0, 32, .cnt, .const 0, 0, 4294967295⟩
def DPT_CAUXDEFER.COUNT : Field := ⟨528, 0, 32, .cnt, .const 0, 0, 4294967295⟩
def DPT_CAUXFAIL.COUNT : Field := ⟨529, 0, 32, .cnt, .const 0, 0, 4294967295⟩

end Sys2Proof.Machine
end

