-- ==== Sys2Proof/Machine/Fields12.lean ====
section
/-! DEFINITION. The register fields of spec/12_usb_hub.md, one constant each: place, width, type and reset value, from that
file's register tables (log entry 4 says how multi-word tables are named). -/
namespace Sys2Proof.Machine

def USB_CTRL.EN : Field := ⟨530, 0, 1, .rw, .const 0, 0, 1⟩
def USB_CTRL.TCSEL2 : Field := ⟨531, 1, 1, .rwl, .const 0, 0, 1⟩
def USB_CTRL.TCSEL3 : Field := ⟨532, 2, 1, .rwl, .const 0, 0, 1⟩
def USB_CTRL.NAK_MS : Field := ⟨533, 8, 8, .rw, .const 10, 1, 255⟩
def USB_CTRL.ORPHAN_MS : Field := ⟨534, 16, 14, .rw, .const 1000, 100, 10000⟩
def USB_STATUS.RUN : Field := ⟨535, 0, 1, .ro, .const 0, 0, 1⟩
def USB_STATUS.SUSPENDED : Field := ⟨536, 1, 1, .ro, .const 0, 0, 1⟩
def USB_STATUS.ORPHAN : Field := ⟨537, 2, 1, .ro, .const 0, 0, 1⟩
def USB_STATUS.NOFIT : Field := ⟨538, 3, 1, .ro, .const 0, 0, 1⟩
def USB_STATUS.ENTRIES : Field := ⟨539, 4, 7, .ro, .const 0, 0, 127⟩
def USB_STATUS.HBCOUNT : Field := ⟨540, 11, 5, .ro, .const 0, 0, 31⟩
def USB_STATUS.NEXT_BSEQ : Field := ⟨541, 16, 8, .ro, .const 0, 0, 255⟩
def USB_UFRAME.UFRAME : Field := ⟨542, 0, 14, .ro, .const 0, 0, 16383⟩
def USB_PORT.CONNECT : Field := ⟨543, 0, 1, .ro, .const 0, 0, 1⟩
def USB_PORT.ENABLE : Field := ⟨544, 1, 1, .ro, .const 0, 0, 1⟩
def USB_PORT.SUSPEND : Field := ⟨545, 2, 1, .ro, .const 0, 0, 1⟩
def USB_PORT.OVERCURRENT : Field := ⟨546, 3, 1, .ro, .const 0, 0, 1⟩
def USB_PORT.RESET : Field := ⟨547, 4, 1, .ro, .const 0, 0, 1⟩
def USB_PORT.POWER : Field := ⟨548, 5, 1, .ro, .const 0, 0, 1⟩
def USB_PORT.SPEED : Field := ⟨549, 6, 2, .ro, .const 3, 0, 3⟩
def USB_PORT.TCPORT : Field := ⟨550, 8, 1, .ro, .const 0, 0, 1⟩
def USB_PORT.CHANGE : Field := ⟨551, 16, 5, .ro, .const 0, 0, 31⟩
def USB_PORT.WAKE : Field := ⟨552, 21, 1, .rs, .const 0, 0, 1⟩
def RTE_DUP.COUNT : Field := ⟨553, 0, 32, .cnt, .const 0, 0, 4294967295⟩
def RTE_BADSEQ.COUNT : Field := ⟨554, 0, 32, .cnt, .const 0, 0, 4294967295⟩
def RTE_QFULL.COUNT : Field := ⟨555, 0, 32, .cnt, .const 0, 0, 4294967295⟩
def RTE_BADMSG.COUNT : Field := ⟨556, 0, 32, .cnt, .const 0, 0, 4294967295⟩
def USB_PXERR.COUNT : Field := ⟨557, 0, 32, .cnt, .const 0, 0, 4294967295⟩
def USB_POUNDER.COUNT : Field := ⟨558, 0, 32, .cnt, .const 0, 0, 4294967295⟩
def USB_POLATE.COUNT : Field := ⟨559, 0, 32, .cnt, .const 0, 0, 4294967295⟩
def USB_POOVR.COUNT : Field := ⟨560, 0, 32, .cnt, .const 0, 0, 4294967295⟩
def USB_POLOSS.COUNT : Field := ⟨561, 0, 32, .cnt, .const 0, 0, 4294967295⟩
def USB_PIDROP.COUNT : Field := ⟨562, 0, 32, .cnt, .const 0, 0, 4294967295⟩
def USB_PENT0.DEV : Field := ⟨563, 0, 7, .ro, .const 0, 0, 127⟩
def USB_PENT0.EPN : Field := ⟨564, 7, 4, .ro, .const 0, 0, 15⟩
def USB_PENT0.DIR : Field := ⟨565, 11, 1, .ro, .const 0, 0, 1⟩
def USB_PENT0.TYPE : Field := ⟨566, 12, 1, .ro, .const 0, 0, 1⟩
def USB_PENT0.SPEED : Field := ⟨567, 13, 2, .ro, .const 0, 0, 3⟩
def USB_PENT0.PORT : Field := ⟨568, 15, 2, .ro, .const 0, 0, 3⟩
def USB_PENT0.MULT_M1 : Field := ⟨569, 17, 2, .ro, .const 0, 0, 3⟩
def USB_PENT0.INTERVAL : Field := ⟨570, 19, 4, .ro, .const 0, 0, 15⟩
def USB_PENT0.TOG : Field := ⟨571, 23, 1, .ro, .const 0, 0, 1⟩
def USB_PENT0.VALID : Field := ⟨572, 31, 1, .ro, .const 0, 0, 1⟩
def USB_PENT1.MPS : Field := ⟨573, 0, 11, .ro, .const 0, 0, 2047⟩
def USB_PENT1.PHASE : Field := ⟨574, 16, 14, .ro, .const 0, 0, 16383⟩
def USB_PENT2.START : Field := ⟨575, 0, 14, .ro, .const 0, 0, 16383⟩
def USB_PENT2.DEPTH : Field := ⟨576, 16, 6, .ro, .const 0, 0, 63⟩
def USB_PENT3.MISS : Field := ⟨577, 0, 16, .ro, .const 0, 0, 65535⟩

end Sys2Proof.Machine
end

