-- ==== Sys2Proof/Machine/Fields13.lean ====
section
/-! DEFINITION. The register fields of spec/13_typec_power_negotiation.md, one constant each: place, width, type and reset value, from that
file's register tables (log entry 4 says how multi-word tables are named). -/
namespace Sys2Proof.Machine

def TCP_CTRL.EN : Field := ⟨578, 0, 1, .rw, .const 0, 0, 1⟩
def TCP_CTRL.ROLE : Field := ⟨579, 1, 2, .rw, .const 0, 0, 3⟩
def TCP_CTRL.PREF : Field := ⟨580, 3, 2, .rw, .const 0, 0, 3⟩
def TCP_CTRL.VCONN_EN : Field := ⟨581, 5, 1, .rw, .const 1, 0, 1⟩
def TCP_CTRL.WAKE_ATT : Field := ⟨582, 6, 1, .rw, .const 0, 0, 1⟩
def TCP_CTRL.RP_DEF : Field := ⟨583, 7, 2, .rw, .const 2, 0, 3⟩
def TCP_CTRL.POLICY_MS : Field := ⟨584, 16, 4, .rw, .const 10, 5, 12⟩
def TCP_STATUS.TCSTATE : Field := ⟨585, 0, 4, .ro, .const 0, 0, 15⟩
def TCP_STATUS.ORIENT : Field := ⟨586, 4, 1, .ro, .const 0, 0, 1⟩
def TCP_STATUS.PROLE : Field := ⟨587, 5, 1, .ro, .const 0, 0, 1⟩
def TCP_STATUS.DROLE : Field := ⟨588, 6, 1, .ro, .const 0, 0, 1⟩
def TCP_STATUS.VCONN_ON : Field := ⟨589, 7, 1, .ro, .const 0, 0, 1⟩
def TCP_STATUS.CONTRACT : Field := ⟨590, 8, 1, .ro, .const 0, 0, 1⟩
def TCP_STATUS.FALLBACK : Field := ⟨591, 9, 1, .ro, .const 0, 0, 1⟩
def TCP_STATUS.PDREV : Field := ⟨592, 10, 2, .ro, .const 0, 0, 3⟩
def TCP_STATUS.RP_SEEN : Field := ⟨593, 12, 2, .ro, .const 0, 0, 3⟩
def TCP_STATUS.TRANSITION : Field := ⟨594, 14, 1, .ro, .const 0, 0, 1⟩
def TCP_CONTRACT.VOLT : Field := ⟨595, 0, 10, .ro, .const 0, 0, 1023⟩
def TCP_CONTRACT.CURRENT : Field := ⟨596, 10, 10, .ro, .const 0, 0, 1023⟩
def TCP_CONTRACT.OBJPOS : Field := ⟨597, 20, 3, .ro, .const 0, 0, 7⟩
def TCP_VBUS.VBUS : Field := ⟨598, 0, 11, .ro, .const 0, 0, 2047⟩
def TCP_SRCCAP.PDO : Field := ⟨599, 0, 32, .rw, .srcCap, 0, 4294967295⟩
def TCP_RXMSG.COUNT : Field := ⟨600, 0, 32, .cnt, .const 0, 0, 4294967295⟩
def TCP_TXMSG.COUNT : Field := ⟨601, 0, 32, .cnt, .const 0, 0, 4294967295⟩
def TCP_RETRY.COUNT : Field := ⟨602, 0, 32, .cnt, .const 0, 0, 4294967295⟩
def TCP_TXFAIL.COUNT : Field := ⟨603, 0, 32, .cnt, .const 0, 0, 4294967295⟩
def TCP_RXDUP.COUNT : Field := ⟨604, 0, 32, .cnt, .const 0, 0, 4294967295⟩
def TCP_HARDRST.COUNT : Field := ⟨605, 0, 32, .cnt, .const 0, 0, 4294967295⟩
def TCP_POLTO.COUNT : Field := ⟨606, 0, 32, .cnt, .const 0, 0, 4294967295⟩
def TCP_COLL.COUNT : Field := ⟨607, 0, 32, .cnt, .const 0, 0, 4294967295⟩
def TCP_FALLBACK.FB_SRC_MA : Field := ⟨608, 0, 9, .rw, .const 300, 50, 300⟩
def TCP_FALLBACK.FB_SNK_MA : Field := ⟨609, 16, 9, .rw, .const 300, 10, 300⟩

end Sys2Proof.Machine
end

