-- ==== Sys2Proof/Machine/Fields14.lean ====
section
/-! DEFINITION. The register fields of spec/14_48v_power_path.md, one constant each: place, width, type and reset value, from that
file's register tables (log entry 4 says how multi-word tables are named). -/
namespace Sys2Proof.Machine

def PWP_STATUS.A_VALID : Field := ⟨610, 0, 1, .ro, .const 0, 0, 1⟩
def PWP_STATUS.B_VALID : Field := ⟨611, 1, 1, .ro, .const 0, 0, 1⟩
def PWP_STATUS.A_ON : Field := ⟨612, 2, 1, .ro, .const 0, 0, 1⟩
def PWP_STATUS.B_ON : Field := ⟨613, 3, 1, .ro, .const 0, 0, 1⟩
def PWP_STATUS.A_OV : Field := ⟨614, 4, 1, .ro, .const 0, 0, 1⟩
def PWP_STATUS.B_OV : Field := ⟨615, 5, 1, .ro, .const 0, 0, 1⟩
def PWP_STATUS.IN_GOOD : Field := ⟨616, 6, 1, .ro, .const 0, 0, 1⟩
def PWP_STATUS.IN_LATCH : Field := ⟨617, 7, 1, .ro, .const 0, 0, 1⟩
def PWP_STATUS.IN_TRIES : Field := ⟨618, 8, 2, .ro, .const 0, 0, 3⟩
def PWP_INCFG.DVDT : Field := ⟨619, 0, 5, .rw, .const 4, 1, 16⟩
def PWP_INCFG.FT_IN : Field := ⟨620, 8, 10, .rw, .const 10, 1, 1000⟩
def PWP_INCFG.ILIM_IN : Field := ⟨621, 18, 9, .rw, .const 300, 10, 500⟩
def PWP_INSNS.RSNS : Field := ⟨622, 0, 16, .rw, .const 1000, 100, 50000⟩
def PWP_WAKE.WFEED : Field := ⟨623, 0, 1, .rw, .const 0, 0, 1⟩
def PWP_WAKE.WTRIP : Field := ⟨624, 1, 1, .rw, .const 0, 0, 1⟩
def PWP_WAKE.WPRES : Field := ⟨625, 2, 3, .rw, .const 0, 0, 7⟩
def PWP_FEEDV.VIN_A : Field := ⟨626, 0, 16, .ro, .const 0, 0, 65535⟩
def PWP_FEEDV.VIN_B : Field := ⟨627, 16, 16, .ro, .const 0, 0, 65535⟩
def PWP_TELCMD.ECLR : Field := ⟨628, 0, 4, .wo, .const 0, 0, 15⟩
def PWP_REVCNT.REV_A : Field := ⟨629, 0, 16, .cnt, .const 0, 0, 65535⟩
def PWP_REVCNT.REV_B : Field := ⟨630, 16, 16, .cnt, .const 0, 0, 65535⟩
def PWP_TV.V : Field := ⟨631, 0, 16, .ro, .const 0, 0, 65535⟩
def PWP_TI.I : Field := ⟨632, 0, 32, .ro, .const 0, 0, 4294967295⟩
def PWP_TP.P : Field := ⟨633, 0, 32, .ro, .const 0, 0, 4294967295⟩
def PWP_TE_LO.E : Field := ⟨634, 0, 32, .ro, .const 0, 0, 4294967295⟩
def PWP_TE_HI.E : Field := ⟨635, 0, 32, .ro, .const 0, 0, 4294967295⟩
def PWP_TIPK.IPK : Field := ⟨636, 0, 16, .ro, .const 0, 0, 65535⟩
def PWP_EFCTL.EN : Field := ⟨637, 0, 1, .rw, .const 0, 0, 1⟩
def PWP_EFCTL.PRES_EN : Field := ⟨638, 1, 1, .rw, .const 1, 0, 1⟩
def PWP_EFCTL.PG_HOLD : Field := ⟨639, 2, 1, .rw, .const 1, 0, 1⟩
def PWP_EFCTL.PORT : Field := ⟨640, 4, 3, .rwl, .const 7, 0, 7⟩
def PWP_EFCTL.COOL : Field := ⟨641, 16, 10, .rw, .const 10, 1, 600⟩
def PWP_EFCFG.ILIM : Field := ⟨642, 0, 8, .rw, .const 40, 10, 240⟩
def PWP_EFCFG.FT : Field := ⟨643, 8, 10, .rw, .const 10, 1, 1000⟩
def PWP_EFCFG.SS : Field := ⟨644, 18, 5, .rw, .const 4, 1, 16⟩
def PWP_EFSNS.RSNS : Field := ⟨645, 0, 16, .rw, .const 5000, 100, 50000⟩
def PWP_EFSTAT.STATE : Field := ⟨646, 0, 3, .ro, .const 0, 0, 7⟩
def PWP_EFSTAT.PG : Field := ⟨647, 3, 1, .ro, .const 0, 0, 1⟩
def PWP_EFSTAT.LIMIT : Field := ⟨648, 4, 1, .ro, .const 0, 0, 1⟩
def PWP_EFSTAT.PRES : Field := ⟨649, 5, 1, .ro, .const 0, 0, 1⟩
def PWP_EFSTAT.CAUSE : Field := ⟨650, 6, 3, .ro, .const 0, 0, 7⟩
def PWP_EFSTAT.SHORT : Field := ⟨651, 9, 1, .ro, .const 0, 0, 1⟩
def PWP_EFSTAT.FTIMER : Field := ⟨652, 18, 14, .ro, .const 0, 0, 16383⟩
def PWP_EFCNT.TRIPS : Field := ⟨653, 0, 16, .cnt, .const 0, 0, 65535⟩
def PWP_EFCNT.REINS : Field := ⟨654, 16, 16, .cnt, .const 0, 0, 65535⟩

end Sys2Proof.Machine
end

