-- ==== Sys2Proof/Machine/Fields15.lean ====
section
/-! DEFINITION. The register fields of spec/15_power_states_domains_clocks.md, one constant each: place, width, type and reset value, from that
file's register tables (log entry 4 says how multi-word tables are named). -/
namespace Sys2Proof.Machine

def CPM_STATE.STATE : Field := ⟨655, 0, 2, .ro, .const 0, 0, 3⟩
def CPM_STATE.PS_ARM : Field := ⟨656, 2, 1, .ro, .const 0, 0, 1⟩
def CPM_PSCMD.OP : Field := ⟨657, 0, 2, .wo, .const 0, 0, 3⟩
def CPM_PSCMD.GO : Field := ⟨658, 31, 1, .wo, .const 0, 0, 1⟩
def CPM_TRIM.GATE_EN : Field := ⟨659, 1, 12, .rw, .const 0, 0, 4095⟩
def CPM_TRIM.IDLE_MS : Field := ⟨660, 16, 8, .rw, .const 10, 1, 255⟩
def CPM_DSTAT.D0 : Field := ⟨661, 0, 2, .ro, .const 0, 0, 3⟩
def CPM_DSTAT.D1 : Field := ⟨662, 2, 2, .ro, .const 0, 0, 3⟩
def CPM_DSTAT.D2 : Field := ⟨663, 4, 2, .ro, .const 0, 0, 3⟩
def CPM_DSTAT.D3 : Field := ⟨664, 6, 2, .ro, .const 0, 0, 3⟩
def CPM_DSTAT.D4 : Field := ⟨665, 8, 2, .ro, .const 0, 0, 3⟩
def CPM_DSTAT.D5 : Field := ⟨666, 10, 2, .ro, .const 0, 0, 3⟩
def CPM_DSTAT.D6 : Field := ⟨667, 12, 2, .ro, .const 0, 0, 3⟩
def CPM_DSTAT.D7 : Field := ⟨668, 14, 2, .ro, .const 0, 0, 3⟩
def CPM_DSTAT.D8 : Field := ⟨669, 16, 2, .ro, .const 0, 0, 3⟩
def CPM_DSTAT.D9 : Field := ⟨670, 18, 2, .ro, .const 0, 0, 3⟩
def CPM_DSTAT.D10 : Field := ⟨671, 20, 2, .ro, .const 0, 0, 3⟩
def CPM_DSTAT.D11 : Field := ⟨672, 22, 2, .ro, .const 0, 0, 3⟩
def CPM_DSTAT.D12 : Field := ⟨673, 24, 2, .ro, .const 0, 0, 3⟩
def CPM_WAKEF.WAKEF : Field := ⟨674, 1, 12, .w1c, .const 0, 0, 4095⟩
def CPM_DOZEWAKE.WPIN : Field := ⟨675, 0, 1, .rw, .const 1, 0, 1⟩
def CPM_DOZEWAKE.WRTC : Field := ⟨676, 1, 1, .rw, .const 0, 0, 1⟩
def CPM_DOZEWAKE.WSPI : Field := ⟨677, 2, 1, .rw, .const 0, 0, 1⟩
def CPM_DOZEWAKE.WDI : Field := ⟨678, 16, 16, .rw, .const 0, 0, 65535⟩
def CPM_ALARM.ALARM_S : Field := ⟨679, 0, 24, .rw, .const 0, 0, 16777215⟩
def CPM_ULP.ULP_ACT : Field := ⟨680, 0, 2, .rwl, .const 0, 0, 3⟩
def CPM_ULP.ULP_S : Field := ⟨681, 4, 12, .rwl, .const 60, 1, 3600⟩
def CPM_PLLSTAT.LOCK : Field := ⟨682, 0, 5, .ro, .const 0, 0, 31⟩
def CPM_PLLSTAT.ROOTSRC : Field := ⟨683, 5, 1, .ro, .const 0, 0, 1⟩
def CPM_PLLSTAT.HOLDOVER : Field := ⟨684, 6, 1, .ro, .const 0, 0, 1⟩
def CPM_AVS.AVS_EN : Field := ⟨685, 0, 1, .rwl, .const 1, 0, 1⟩
def CPM_AVS.FAIL : Field := ⟨686, 1, 1, .rs, .const 0, 0, 1⟩
def CPM_AVS.AVS_FIX : Field := ⟨687, 2, 6, .rwl, .const 20, 0, 40⟩
def CPM_AVS.AVS_MIN : Field := ⟨688, 8, 6, .rwl, .const 0, 0, 63⟩
def CPM_AVS.AVS_MAX : Field := ⟨689, 14, 6, .rwl, .const 40, 0, 63⟩
def CPM_AVS.AVS_NOW : Field := ⟨690, 20, 6, .ro, .const 20, 0, 63⟩
def CPM_DRAINCNT.ABORTS : Field := ⟨691, 0, 16, .cnt, .const 0, 0, 65535⟩
def CPM_DRAINCNT.DRAINS : Field := ⟨692, 16, 16, .cnt, .const 0, 0, 65535⟩
def CPM_WAKESRC.SRC : Field := ⟨693, 0, 8, .ro, .const 0, 0, 255⟩

end Sys2Proof.Machine
end

