-- ==== Sys2Proof/Machine/Fields16.lean ====
section
/-! DEFINITION. The register fields of spec/16_start_up_and_image.md, one constant each: place, width, type and reset value, from that
file's register tables (log entry 4 says how multi-word tables are named). -/
namespace Sys2Proof.Machine

def BOOT_STATUS.MODE : Field := ⟨694, 0, 2, .ro, .const 0, 0, 3⟩
def BOOT_STATUS.LOCK : Field := ⟨695, 2, 1, .ro, .const 0, 0, 1⟩
def BOOT_STATUS.SRC : Field := ⟨696, 3, 2, .ro, .const 0, 0, 3⟩
def BOOT_STATUS.COPY : Field := ⟨697, 5, 2, .ro, .const 0, 0, 3⟩
def BOOT_STATUS.TRIAL : Field := ⟨698, 7, 1, .ro, .const 0, 0, 1⟩
def BOOT_STATUS.STEP : Field := ⟨699, 8, 4, .ro, .const 0, 0, 15⟩
def BOOT_STATUS.STATUS : Field := ⟨700, 12, 8, .ro, .const 0, 0, 255⟩
def BOOT_STATUS.ARM : Field := ⟨701, 20, 1, .ro, .const 0, 0, 1⟩
def BOOT_STATUS.PUSHWAIT : Field := ⟨702, 21, 1, .ro, .const 0, 0, 1⟩
def BOOT_CAUSE.CAUSE : Field := ⟨703, 0, 6, .ro, .const 0, 0, 63⟩
def BOOT_CAUSE.VBAT_LOST : Field := ⟨704, 6, 1, .ro, .const 0, 0, 1⟩
def BOOT_GEN_LO.GEN : Field := ⟨705, 0, 32, .ro, .const 0, 0, 4294967295⟩
def BOOT_GEN_HI.GEN : Field := ⟨706, 0, 32, .ro, .const 0, 0, 4294967295⟩
def BOOT_SVN.RUN_SVN : Field := ⟨707, 0, 7, .ro, .const 0, 0, 127⟩
def BOOT_SVN.FLOOR : Field := ⟨708, 8, 7, .ro, .const 0, 0, 127⟩
def BOOT_ZSTATE.TRIES : Field := ⟨709, 0, 2, .ro, .const 0, 0, 3⟩
def BOOT_CONF_LO.GEN : Field := ⟨710, 0, 32, .ro, .const 0, 0, 4294967295⟩
def BOOT_CONF_HI.GEN : Field := ⟨711, 0, 32, .ro, .const 0, 0, 4294967295⟩
def BOOT_TRIAL_LO.GEN : Field := ⟨712, 0, 32, .ro, .const 0, 0, 4294967295⟩
def BOOT_TRIAL_HI.GEN : Field := ⟨713, 0, 32, .ro, .const 0, 0, 4294967295⟩
def BOOT_NEXT.MARCH : Field := ⟨714, 0, 2, .rw, .const 0, 0, 3⟩
def BOOT_NEXT.FORCE_COPY : Field := ⟨715, 4, 2, .rw, .const 0, 0, 3⟩
def BOOT_CMD.OP : Field := ⟨716, 0, 4, .wo, .const 0, 0, 15⟩
def BOOT_PUSHPTR.PTR : Field := ⟨717, 0, 24, .rw, .const 0, 0, 16777215⟩
def BOOT_PUSHDATA.DATA : Field := ⟨718, 0, 32, .wo, .const 0, 0, 4294967295⟩
def BOOT_SECTFAIL.TYPE : Field := ⟨719, 0, 8, .ro, .const 0, 0, 255⟩
def BOOT_SECTFAIL.STATUS : Field := ⟨720, 8, 8, .ro, .const 0, 0, 255⟩
def BOOT_SECTFAIL.RECORD : Field := ⟨721, 16, 16, .ro, .const 0, 0, 65535⟩
def BOOT_COPYSTAT.A_STATUS : Field := ⟨722, 0, 8, .ro, .const 0, 0, 255⟩
def BOOT_COPYSTAT.B_STATUS : Field := ⟨723, 8, 8, .ro, .const 0, 0, 255⟩
def BOOT_TIME.T_LOCK : Field := ⟨724, 0, 16, .ro, .const 0, 0, 65535⟩
def BOOT_TIME.T_ACTIVE : Field := ⟨725, 16, 16, .ro, .const 0, 0, 65535⟩
def BOOT_BIDBUF.WORD : Field := ⟨726, 0, 32, .rw, .const 0, 0, 4294967295⟩
def BOOT_BIDSTAT.USED : Field := ⟨727, 0, 3, .ro, .const 0, 0, 7⟩

end Sys2Proof.Machine
end

