-- ==== Sys2Proof/Machine/Fields17.lean ====
section
/-! DEFINITION. The register fields of spec/17_management_services_events.md, one constant each: place, width, type and reset value, from that
file's register tables (log entry 4 says how multi-word tables are named). -/
namespace Sys2Proof.Machine

def GLB_ID.PART : Field := ⟨728, 0, 16, .ro, .const 0x4816, 0, 65535⟩
def GLB_ID.REV : Field := ⟨729, 16, 4, .ro, .revision, 0, 15⟩
def GLB_HUB.HUB : Field := ⟨730, 0, 6, .ro, .const 0, 0, 63⟩
def GLB_HUB.ROOT : Field := ⟨731, 7, 1, .ro, .const 0, 0, 1⟩
def GLB_ZONE.ZONE : Field := ⟨732, 0, 32, .ro, .const 0, 0, 4294967295⟩
def EVU_CTRL.NOTIFY : Field := ⟨733, 0, 1, .rw, .const 1, 0, 1⟩
def EVU_CTRL.DEST : Field := ⟨734, 8, 7, .rw, .const 0x7F, 0, 127⟩
def EVU_CTRL.HIWM : Field := ⟨735, 16, 6, .rw, .const 48, 1, 63⟩
def EVU_CTRL.LOWM : Field := ⟨736, 24, 6, .rw, .const 16, 0, 63⟩
def EVU_STATUS.COUNT : Field := ⟨737, 0, 7, .ro, .const 0, 0, 127⟩
def EVU_STATUS.FC : Field := ⟨738, 7, 1, .ro, .const 0, 0, 1⟩
def EVU_STATUS.OVF : Field := ⟨739, 8, 1, .rs, .const 0, 0, 1⟩
def EVU_EVQ.WORD : Field := ⟨740, 0, 32, .ro, .const 0, 0, 4294967295⟩
def EVU_EVQPOP.EVSEQ : Field := ⟨741, 0, 16, .wo, .const 0, 0, 65535⟩
def EVU_EVQPOP.CLR : Field := ⟨742, 31, 1, .wo, .const 0, 0, 1⟩
def EVU_LOST.COUNT : Field := ⟨743, 0, 32, .cnt, .const 0, 0, 4294967295⟩
def EVU_SRC.STATUS : Field := ⟨744, 0, 1, .w1c, .const 0, 0, 1⟩
def EVU_SRC.EN : Field := ⟨745, 1, 1, .rw, .const 1, 0, 1⟩
def EVU_SRC.SEV : Field := ⟨746, 2, 2, .rw, .severity, 0, 3⟩
def EVU_SRC.REPEAT : Field := ⟨747, 16, 16, .cnt, .const 0, 0, 65535⟩
def NIM_CCTRL.HALT : Field := ⟨748, 0, 1, .rw, .const 0, 0, 1⟩
def NIM_CSTAT.RUNNING : Field := ⟨749, 0, 1, .ro, .const 0, 0, 1⟩
def NIM_CSTAT.TRAPPED : Field := ⟨750, 1, 1, .rs, .const 0, 0, 1⟩
def NIM_CSTAT.BUILTIN : Field := ⟨751, 2, 11, .ro, .const 0, 0, 2047⟩
def NIM_CSTAT.USED : Field := ⟨752, 13, 12, .ro, .const 0, 0, 4095⟩
def NIM_DMASTAT.SPB : Field := ⟨753, 0, 1, .w1c, .const 0, 0, 1⟩
def NIM_DMASTAT.XFER : Field := ⟨754, 1, 1, .ro, .const 0, 0, 1⟩
def NIM_DMASTAT.SPBCNT : Field := ⟨755, 16, 16, .cnt, .const 0, 0, 65535⟩
def NIM_WINSEL.CORE : Field := ⟨756, 0, 2, .rw, .const 0, 0, 3⟩
def NIM_WDOG.WD_S : Field := ⟨757, 0, 6, .rw, .const 10, 1, 60⟩
def NIM_PSTAT.SERVICE : Field := ⟨758, 0, 5, .ro, .const 0, 0, 31⟩
def NIM_PSTAT.CORE : Field := ⟨759, 5, 2, .ro, .const 0, 0, 3⟩
def NIM_PSTAT.STOPPED : Field := ⟨760, 7, 1, .ro, .const 0, 0, 1⟩
def NIM_PSTAT.BUDGET : Field := ⟨761, 8, 12, .ro, .const 0, 0, 4095⟩
def NIM_POVR.OVR : Field := ⟨762, 0, 16, .cnt, .const 0, 0, 65535⟩
def NIM_POVR.OVR_LIM : Field := ⟨763, 16, 8, .rw, .const 16, 1, 255⟩

end Sys2Proof.Machine
end

