-- ==== Sys2Proof/Machine/Fields18.lean ====
section
/-! DEFINITION. The register fields of spec/18_keys_lifecycle_crypto.md, one constant each: place, width, type and reset value, from that
file's register tables (log entry 4 says how multi-word tables are named). -/
namespace Sys2Proof.Machine

def SEC_STATUS.LC : Field := ⟨764, 0, 3, .ro, .const 0, 0, 7⟩
def SEC_STATUS.DAWN_VALID : Field := ⟨765, 3, 1, .ro, .const 0, 0, 1⟩
def SEC_STATUS.TAMPERED : Field := ⟨766, 4, 1, .ro, .const 0, 0, 1⟩
def SEC_STATUS.DUSK_OK : Field := ⟨767, 5, 1, .ro, .const 0, 0, 1⟩
def SEC_STATUS.ID_OK : Field := ⟨768, 6, 1, .ro, .const 0, 0, 1⟩
def SEC_STATUS.CERT_OK : Field := ⟨769, 7, 1, .ro, .const 0, 0, 1⟩
def SEC_STATUS.DRBG_OK : Field := ⟨770, 8, 1, .ro, .const 0, 0, 1⟩
def SEC_STATUS.TAMP_NOW : Field := ⟨771, 9, 1, .ro, .const 0, 0, 1⟩
def SEC_STATUS.JBUSY : Field := ⟨772, 10, 1, .ro, .const 0, 0, 1⟩
def SEC_TAMPER.CAUSE : Field := ⟨773, 0, 6, .w1c, .const 0, 0, 63⟩
def SEC_TAMPCFG.EN : Field := ⟨774, 0, 6, .rw, .const 0x3F, 0, 63⟩
def SEC_UID_LO.UID : Field := ⟨775, 0, 32, .ro, .uidLo, 0, 4294967295⟩
def SEC_UID_HI.UID : Field := ⟨776, 0, 32, .ro, .uidHi, 0, 4294967295⟩
def SEC_CMD.OP : Field := ⟨777, 0, 4, .wo, .const 0, 0, 15⟩
def SEC_TOKLEN.LEN : Field := ⟨778, 0, 14, .rw, .const 0, 36, 8192⟩
def SEC_CMDRES.STATUS : Field := ⟨779, 0, 8, .ro, .const 0, 0, 255⟩
def SEC_CMDRES.RECORD : Field := ⟨780, 8, 6, .ro, .const 0, 0, 63⟩
def SEC_CMDRES.OP : Field := ⟨781, 16, 4, .ro, .const 0, 0, 15⟩
def SEC_NONCE.WORD : Field := ⟨782, 0, 32, .ro, .const 0, 0, 4294967295⟩
def SEC_JSTAT.J0_VALID : Field := ⟨783, 0, 1, .ro, .const 0, 0, 1⟩
def SEC_JSTAT.J1_VALID : Field := ⟨784, 1, 1, .ro, .const 0, 0, 1⟩
def SEC_JSTAT.CUR : Field := ⟨785, 2, 1, .ro, .const 0, 0, 1⟩
def SEC_JSTAT.BUSY : Field := ⟨786, 3, 1, .ro, .const 0, 0, 1⟩
def SEC_JGEN.WORD : Field := ⟨787, 0, 32, .ro, .const 0, 0, 4294967295⟩
def SEC_JMASK.WORD : Field := ⟨788, 0, 32, .ro, .const 0, 0, 4294967295⟩
def SEC_SLOT.STATE : Field := ⟨789, 0, 2, .ro, .const 0, 0, 3⟩
def SEC_SLOT.KTYPE : Field := ⟨790, 2, 3, .ro, .const 0, 0, 7⟩
def SEC_SLOT.LIMIT : Field := ⟨791, 5, 2, .ro, .const 0, 0, 3⟩
def SEC_SLOT.PERSIST : Field := ⟨792, 7, 1, .ro, .const 0, 0, 1⟩
def SEC_SLOT.DAWNBOUND : Field := ⟨793, 8, 1, .ro, .const 0, 0, 1⟩
def SEC_SLOT.SOURCE : Field := ⟨794, 9, 2, .ro, .const 0, 0, 3⟩
def SEC_SCOUNT.COUNT : Field := ⟨795, 0, 24, .ro, .const 0, 0, 16777215⟩
def SEC_SKCV.KCV : Field := ⟨796, 0, 32, .ro, .const 0, 0, 4294967295⟩

end Sys2Proof.Machine
end

