-- ==== Sys2Proof/Machine/Fields19.lean ====
section
/-! DEFINITION. The register fields of spec/19_errors_repair_observation.md, one constant each: place, width, type and reset value, from that
file's register tables (log entry 4 says how multi-word tables are named). -/
namespace Sys2Proof.Machine

def MEM_SCRUB.SCRUB_EN : Field := ⟨797, 0, 1, .rw, .const 1, 0, 1⟩
def MEM_SCRUB.SCRUB_EXP : Field := ⟨798, 8, 5, .rw, .const 12, 8, 16⟩
def MEM_SCRUB.CE_LIM : Field := ⟨799, 16, 12, .rw, .const 64, 1, 4095⟩
def MEM_MCMD.OP : Field := ⟨800, 0, 2, .wo, .const 0, 0, 3⟩
def MEM_MCMD.ALG : Field := ⟨801, 2, 1, .wo, .const 0, 0, 1⟩
def MEM_MCMD.DESTR : Field := ⟨802, 3, 1, .wo, .const 0, 0, 1⟩
def MEM_MCMD.FIRST : Field := ⟨803, 4, 10, .wo, .const 0, 0, 1023⟩
def MEM_MCMD.COUNT : Field := ⟨804, 14, 10, .wo, .const 0, 0, 1023⟩
def MEM_MSTAT.RUN : Field := ⟨805, 0, 1, .ro, .const 0, 0, 1⟩
def MEM_MSTAT.DONE : Field := ⟨806, 1, 1, .w1c, .const 0, 0, 1⟩
def MEM_MSTAT.FAULTY : Field := ⟨807, 2, 10, .ro, .const 0, 0, 1023⟩
def MEM_MSTAT.FIRSTBAD : Field := ⟨808, 12, 10, .ro, .const 0, 0, 1023⟩
def MEM_FUSECMD.GO : Field := ⟨809, 0, 1, .wo, .const 0, 0, 1⟩
def MEM_CAP0.VALID : Field := ⟨810, 0, 1, .w1c, .const 0, 0, 1⟩
def MEM_CAP0.MULTI : Field := ⟨811, 1, 1, .ro, .const 0, 0, 1⟩
def MEM_CAP0.COUNT : Field := ⟨812, 8, 8, .ro, .const 0, 0, 255⟩
def MEM_CAP0.MACRO : Field := ⟨813, 16, 10, .ro, .const 0, 0, 1023⟩
def MEM_CAP1.WORD : Field := ⟨814, 0, 12, .ro, .const 0, 0, 4095⟩
def MEM_CAP1.SYNDROME : Field := ⟨815, 12, 9, .ro, .const 0, 0, 511⟩
def MEM_CAP1.SCRUB : Field := ⟨816, 21, 1, .ro, .const 0, 0, 1⟩
def MEM_CAP2.TIME : Field := ⟨817, 0, 32, .ro, .const 0, 0, 4294967295⟩
def MEM_CAP3.TIME : Field := ⟨818, 0, 32, .ro, .const 0, 0, 4294967295⟩
def MEM_MACRO.HROWS : Field := ⟨819, 0, 3, .ro, .hardRows, 0, 7⟩
def MEM_MACRO.HCOLS : Field := ⟨820, 3, 2, .ro, .hardCols, 0, 3⟩
def MEM_MACRO.SROWS : Field := ⟨821, 5, 3, .ro, .const 0, 0, 7⟩
def MEM_MACRO.SCOLS : Field := ⟨822, 8, 2, .ro, .const 0, 0, 3⟩
def MEM_MACRO.FAILED : Field := ⟨823, 10, 1, .ro, .const 0, 0, 1⟩
def MEM_MACRO.CEHIGH : Field := ⟨824, 11, 1, .ro, .const 0, 0, 1⟩
def MEM_MACRO.FAULTS : Field := ⟨825, 12, 8, .ro, .const 0, 0, 255⟩
def MEM_MACRO.CE : Field := ⟨826, 20, 12, .ro, .const 0, 0, 4095⟩
def DBG_STATUS.DBG_TMUX : Field := ⟨827, 0, 1, .ro, .const 0, 0, 1⟩
def DBG_STATUS.DBG_JTAG : Field := ⟨828, 1, 1, .ro, .const 0, 0, 1⟩
def DBG_STATUS.REMAIN : Field := ⟨829, 2, 30, .ro, .const 0, 0, 1073741823⟩
def DBG_CMD.OP : Field := ⟨830, 0, 2, .wo, .const 0, 0, 3⟩
def DBG_TMSEL.GROUP : Field := ⟨831, 0, 8, .rw, .const 0, 0, 255⟩
def DBG_TMSEL.TM_EN : Field := ⟨832, 31, 1, .rw, .const 0, 0, 1⟩
def DBG_FCAP.MSG : Field := ⟨833, 0, 32, .rs, .const 0, 0, 4294967295⟩
def DBG_FCTL.FCLR : Field := ⟨834, 0, 1, .wo, .const 0, 0, 1⟩
def DBG_FCTL.FCOUNT : Field := ⟨835, 16, 16, .rs, .const 0, 0, 65535⟩
def DBG_D2D.UP : Field := ⟨836, 0, 1, .ro, .const 0, 0, 1⟩
def DBG_D2D.SPARE_USED : Field := ⟨837, 1, 1, .ro, .const 0, 0, 1⟩
def DBG_D2D.EXPOSED : Field := ⟨838, 2, 1, .ro, .const 0, 0, 1⟩
def DBG_D2D.SPARE_FOR : Field := ⟨839, 3, 5, .ro, .const 0, 0, 31⟩
def DBG_D2D.FAILED : Field := ⟨840, 8, 17, .ro, .const 0, 0, 131071⟩
def DBG_D2DCNT.CORR : Field := ⟨841, 0, 16, .cnt, .const 0, 0, 65535⟩
def DBG_D2DCNT.RETRY : Field := ⟨842, 16, 16, .cnt, .const 0, 0, 65535⟩
def DBG_D2DCFG.D2D_LIM : Field := ⟨843, 0, 8, .rw, .const 16, 1, 255⟩

end Sys2Proof.Machine
end

