-- ==== Sys2Proof/Machine/RegMap.lean ====
section
/-! DEFINITION. The address map: every register of the spec with its address, its index strides and its fields
(the offset tables of spec/02 to spec/19). -/
namespace Sys2Proof.Machine

def Reg.PLN_CTRL : RegDesc := ⟨"PLN_CTRL", 0x180000, 1, 0x0, 1, 0x0, [PLN_CTRL.SEL_EN, PLN_CTRL.SEL_HOLD, PLN_CTRL.ZLEAD]⟩
def Reg.PLN_SETTLE : RegDesc := ⟨"PLN_SETTLE", 0x180004, 1, 0x0, 1, 0x0, [PLN_SETTLE.SETTLE_MS]⟩
def Reg.PLN_STATUS : RegDesc := ⟨"PLN_STATUS", 0x180008, 1, 0x0, 1, 0x0, [PLN_STATUS.GROUP, PLN_STATUS.ZPEND, PLN_STATUS.ZTARGET, PLN_STATUS.ROOT, PLN_STATUS.SELGROUP, PLN_STATUS.SELMATCH]⟩
def Reg.PLN_SFN : RegDesc := ⟨"PLN_SFN", 0x18000C, 1, 0x0, 1, 0x0, [PLN_SFN.SFN]⟩
def Reg.PLN_ZSHIFT : RegDesc := ⟨"PLN_ZSHIFT", 0x180010, 1, 0x0, 1, 0x0, [PLN_ZSHIFT.GROUP, PLN_ZSHIFT.GO]⟩
def Reg.PLN_CMD : RegDesc := ⟨"PLN_CMD", 0x180014, 1, 0x0, 1, 0x0, [PLN_CMD.OP, PLN_CMD.PORT, PLN_CMD.PLAN]⟩
def Reg.PLN_WINSEL : RegDesc := ⟨"PLN_WINSEL", 0x180018, 1, 0x0, 1, 0x0, [PLN_WINSEL.PORT, PLN_WINSEL.DIR]⟩
def Reg.PLN_VFAIL : RegDesc := ⟨"PLN_VFAIL", 0x18001C, 1, 0x0, 1, 0x0, [PLN_VFAIL.STATUS, PLN_VFAIL.SLOT, PLN_VFAIL.PORT, PLN_VFAIL.DIR, PLN_VFAIL.PLAN, PLN_VFAIL.CHECK]⟩
def Reg.PLN_PRES : RegDesc := ⟨"PLN_PRES", 0x180020, 2, 0x4, 1, 0x0, [PLN_PRES.PRES]⟩
def Reg.PLN_LSTAT : RegDesc := ⟨"PLN_LSTAT", 0x180100, 4, 0x40, 1, 0x0, [PLN_LSTAT.PLAN, PLN_LSTAT.BOOT, PLN_LSTAT.VARIANT, PLN_LSTAT.PEND, PLN_LSTAT.PTARGET, PLN_LSTAT.UPSTREAM, PLN_LSTAT.ACTIVE]⟩
def Reg.PLN_LHFN : RegDesc := ⟨"PLN_LHFN", 0x180104, 4, 0x40, 1, 0x0, [PLN_LHFN.PEFFECT]⟩
def Reg.PLN_LSHIFT : RegDesc := ⟨"PLN_LSHIFT", 0x180108, 4, 0x40, 1, 0x0, [PLN_LSHIFT.PLAN, PLN_LSHIFT.LEAD, PLN_LSHIFT.GO]⟩
def Reg.PLN_ALIGN : RegDesc := ⟨"PLN_ALIGN", 0x18010C, 4, 0x40, 1, 0x0, [PLN_ALIGN.OFFSET, PLN_ALIGN.LOOP]⟩
def Reg.PLN_XMISS : RegDesc := ⟨"PLN_XMISS", 0x180110, 4, 0x40, 1, 0x0, [PLN_XMISS.COUNT]⟩
def Reg.PLN_LENT : RegDesc := ⟨"PLN_LENT", 0x180114, 4, 0x40, 1, 0x0, [PLN_LENT.COUNT]⟩
def Reg.PLN_FRONTERR : RegDesc := ⟨"PLN_FRONTERR", 0x180118, 4, 0x40, 1, 0x0, [PLN_FRONTERR.NACKS, PLN_FRONTERR.FAILS]⟩
def Reg.PLN_PDESC : RegDesc := ⟨"PLN_PDESC", 0x181000, 4, 0x400, 16, 0x20, [PLN_PDESC.TXVALID, PLN_PDESC.RXVALID, PLN_PDESC.VARIANT, PLN_PDESC.VSTATUS]⟩
def Reg.PLN_DTXLO : RegDesc := ⟨"PLN_DTXLO", 0x181008, 4, 0x400, 16, 0x20, [PLN_DTXLO.DIG]⟩
def Reg.PLN_DTXHI : RegDesc := ⟨"PLN_DTXHI", 0x18100C, 4, 0x400, 16, 0x20, [PLN_DTXHI.DIG]⟩
def Reg.PLN_DRXLO : RegDesc := ⟨"PLN_DRXLO", 0x181010, 4, 0x400, 16, 0x20, [PLN_DRXLO.DIG]⟩

/-- Registers of spec/02_superframes_and_plans.md. -/
def regMap02a : List RegDesc :=
  [Reg.PLN_CTRL, Reg.PLN_SETTLE, Reg.PLN_STATUS, Reg.PLN_SFN,
   Reg.PLN_ZSHIFT, Reg.PLN_CMD, Reg.PLN_WINSEL, Reg.PLN_VFAIL,
   Reg.PLN_PRES, Reg.PLN_LSTAT, Reg.PLN_LHFN, Reg.PLN_LSHIFT,
   Reg.PLN_ALIGN, Reg.PLN_XMISS, Reg.PLN_LENT, Reg.PLN_FRONTERR,
   Reg.PLN_PDESC, Reg.PLN_DTXLO, Reg.PLN_DTXHI, Reg.PLN_DRXLO]

def Reg.PLN_DRXHI : RegDesc := ⟨"PLN_DRXHI", 0x181014, 4, 0x400, 16, 0x20, [PLN_DRXHI.DIG]⟩
def Reg.PLN_GMAP : RegDesc := ⟨"PLN_GMAP", 0x182000, 16, 0x10, 4, 0x4, [PLN_GMAP.FULL, PLN_GMAP.FULL_V, PLN_GMAP.HALF, PLN_GMAP.HALF_V, PLN_GMAP.QTR, PLN_GMAP.QTR_V]⟩
def Reg.PLN_SVALLO : RegDesc := ⟨"PLN_SVALLO", 0x183000, 256, 0x20, 1, 0x0, [PLN_SVALLO.BITS]⟩
def Reg.PLN_SVALHI : RegDesc := ⟨"PLN_SVALHI", 0x183004, 256, 0x20, 1, 0x0, [PLN_SVALHI.BITS]⟩
def Reg.PLN_SCARELO : RegDesc := ⟨"PLN_SCARELO", 0x183008, 256, 0x20, 1, 0x0, [PLN_SCARELO.BITS]⟩
def Reg.PLN_SCAREHI : RegDesc := ⟨"PLN_SCAREHI", 0x18300C, 256, 0x20, 1, 0x0, [PLN_SCAREHI.BITS]⟩
def Reg.PLN_SCTRL : RegDesc := ⟨"PLN_SCTRL", 0x183010, 256, 0x20, 1, 0x0, [PLN_SCTRL.GROUP, PLN_SCTRL.VALID]⟩
def Reg.PLN_PSRC : RegDesc := ⟨"PLN_PSRC", 0x185000, 64, 0x4, 1, 0x0, [PLN_PSRC.HUB, PLN_PSRC.KIND, PLN_PSRC.VALID]⟩

/-- Registers of spec/02_superframes_and_plans.md. -/
def regMap02b : List RegDesc :=
  [Reg.PLN_DRXHI, Reg.PLN_GMAP, Reg.PLN_SVALLO, Reg.PLN_SVALHI,
   Reg.PLN_SCARELO, Reg.PLN_SCAREHI, Reg.PLN_SCTRL, Reg.PLN_PSRC]

def Reg.TUN_CTRL : RegDesc := ⟨"TUN_CTRL", 0x200000, 1, 0x0, 1, 0x0, [TUN_CTRL.GW_EN, TUN_CTRL.MISS_NIM]⟩
def Reg.TUN_RSEED : RegDesc := ⟨"TUN_RSEED", 0x200004, 1, 0x0, 1, 0x0, [TUN_RSEED.SEED]⟩
def Reg.TUN_RSTAT : RegDesc := ⟨"TUN_RSTAT", 0x200008, 1, 0x0, 1, 0x0, [TUN_RSTAT.COUNT, TUN_RSTAT.BUSY]⟩
def Reg.TUN_RCMD : RegDesc := ⟨"TUN_RCMD", 0x20000C, 1, 0x0, 1, 0x0, [TUN_RCMD.OP, TUN_RCMD.INDEX]⟩
def Reg.TUN_RBUF : RegDesc := ⟨"TUN_RBUF", 0x200010, 4, 0x4, 1, 0x0, [TUN_RBUF.WORD]⟩
def Reg.TUN_RRES : RegDesc := ⟨"TUN_RRES", 0x200020, 1, 0x0, 1, 0x0, [TUN_RRES.INDEX, TUN_RRES.MOVES, TUN_RRES.STATUS]⟩
def Reg.TUN_RMISS : RegDesc := ⟨"TUN_RMISS", 0x200024, 1, 0x0, 1, 0x0, [TUN_RMISS.COUNT]⟩
def Reg.TUN_RDROP : RegDesc := ⟨"TUN_RDROP", 0x200028, 1, 0x0, 1, 0x0, [TUN_RDROP.COUNT]⟩
def Reg.TUN_GWCTRL : RegDesc := ⟨"TUN_GWCTRL", 0x200030, 1, 0x0, 1, 0x0, [TUN_GWCTRL.GW_PORT, TUN_GWCTRL.TAG_EN, TUN_GWCTRL.VID, TUN_GWCTRL.PCP]⟩
def Reg.TUN_GWETYPE : RegDesc := ⟨"TUN_GWETYPE", 0x200034, 1, 0x0, 1, 0x0, [TUN_GWETYPE.ETYPE]⟩
def Reg.TUN_GWDMAC_LO : RegDesc := ⟨"TUN_GWDMAC_LO", 0x200038, 1, 0x0, 1, 0x0, [TUN_GWDMAC_LO.MAC]⟩
def Reg.TUN_GWDMAC_HI : RegDesc := ⟨"TUN_GWDMAC_HI", 0x20003C, 1, 0x0, 1, 0x0, [TUN_GWDMAC_HI.MAC]⟩
def Reg.TUN_GWSMAC_LO : RegDesc := ⟨"TUN_GWSMAC_LO", 0x200040, 1, 0x0, 1, 0x0, [TUN_GWSMAC_LO.MAC]⟩
def Reg.TUN_GWSMAC_HI : RegDesc := ⟨"TUN_GWSMAC_HI", 0x200044, 1, 0x0, 1, 0x0, [TUN_GWSMAC_HI.MAC]⟩
def Reg.TUN_GWGAP : RegDesc := ⟨"TUN_GWGAP", 0x200048, 1, 0x0, 1, 0x0, [TUN_GWGAP.COUNT]⟩
def Reg.TUN_GWBAD : RegDesc := ⟨"TUN_GWBAD", 0x20004C, 1, 0x0, 1, 0x0, [TUN_GWBAD.COUNT]⟩
def Reg.TUN_PESTAT : RegDesc := ⟨"TUN_PESTAT", 0x200050, 1, 0x0, 1, 0x0, [TUN_PESTAT.COUNT, TUN_PESTAT.OLDEST]⟩
def Reg.TUN_PELOST : RegDesc := ⟨"TUN_PELOST", 0x200054, 1, 0x0, 1, 0x0, [TUN_PELOST.COUNT]⟩
def Reg.TUN_STAGEDROP : RegDesc := ⟨"TUN_STAGEDROP", 0x200100, 4, 0x4, 1, 0x0, [TUN_STAGEDROP.COUNT]⟩
def Reg.TUN_STAGEUSE : RegDesc := ⟨"TUN_STAGEUSE", 0x200200, 4, 0x4, 1, 0x0, [TUN_STAGEUSE.RESERVED_FLITS, TUN_STAGEUSE.PEAK]⟩

/-- Registers of spec/03_tunnels_transactions_routes.md. -/
def regMap03a : List RegDesc :=
  [Reg.TUN_CTRL, Reg.TUN_RSEED, Reg.TUN_RSTAT, Reg.TUN_RCMD,
   Reg.TUN_RBUF, Reg.TUN_RRES, Reg.TUN_RMISS, Reg.TUN_RDROP,
   Reg.TUN_GWCTRL, Reg.TUN_GWETYPE, Reg.TUN_GWDMAC_LO, Reg.TUN_GWDMAC_HI,
   Reg.TUN_GWSMAC_LO, Reg.TUN_GWSMAC_HI, Reg.TUN_GWGAP, Reg.TUN_GWBAD,
   Reg.TUN_PESTAT, Reg.TUN_PELOST, Reg.TUN_STAGEDROP, Reg.TUN_STAGEUSE]

def Reg.TUN_PELOG0 : RegDesc := ⟨"TUN_PELOG0", 0x201000, 16, 0x20, 1, 0x0, [TUN_PELOG0.TID, TUN_PELOG0.CAUSE, TUN_PELOG0.STATUS]⟩
def Reg.TUN_PELOG1 : RegDesc := ⟨"TUN_PELOG1", 0x201004, 16, 0x20, 1, 0x0, [TUN_PELOG1.ADDR_LO]⟩
def Reg.TUN_PELOG2 : RegDesc := ⟨"TUN_PELOG2", 0x201008, 16, 0x20, 1, 0x0, [TUN_PELOG2.ADDR_HI]⟩
def Reg.TUN_PELOG3 : RegDesc := ⟨"TUN_PELOG3", 0x20100C, 16, 0x20, 1, 0x0, [TUN_PELOG3.BYTES, TUN_PELOG3.VALID]⟩
def Reg.TUN_PELOG4 : RegDesc := ⟨"TUN_PELOG4", 0x201010, 16, 0x20, 1, 0x0, [TUN_PELOG4.TIME_LO]⟩
def Reg.TUN_PELOG5 : RegDesc := ⟨"TUN_PELOG5", 0x201014, 16, 0x20, 1, 0x0, [TUN_PELOG5.TIME_HI]⟩
def Reg.TUN_PELOG6 : RegDesc := ⟨"TUN_PELOG6", 0x201018, 16, 0x20, 1, 0x0, []⟩
def Reg.TUN_PELOG7 : RegDesc := ⟨"TUN_PELOG7", 0x20101C, 16, 0x20, 1, 0x0, []⟩
def Reg.TUN_PMAP0 : RegDesc := ⟨"TUN_PMAP0", 0x202000, 64, 0x10, 1, 0x0, [TUN_PMAP0.TIX, TUN_PMAP0.DIR, TUN_PMAP0.VALID]⟩
def Reg.TUN_PMAP1 : RegDesc := ⟨"TUN_PMAP1", 0x202004, 64, 0x10, 1, 0x0, [TUN_PMAP1.BASE, TUN_PMAP1.COUNT]⟩
def Reg.TUN_PMAP2 : RegDesc := ⟨"TUN_PMAP2", 0x202008, 64, 0x10, 1, 0x0, [TUN_PMAP2.TIMEOUT]⟩
def Reg.TUN_PMAP3 : RegDesc := ⟨"TUN_PMAP3", 0x20200C, 64, 0x10, 1, 0x0, []⟩
def Reg.TUN_CLS0 : RegDesc := ⟨"TUN_CLS0", 0x210000, 512, 0x20, 1, 0x0, [TUN_CLS0.PORT, TUN_CLS0.ANYPORT, TUN_CLS0.VID, TUN_CLS0.VID_EN, TUN_CLS0.ET_EN, TUN_CLS0.SMAC_EN, TUN_CLS0.L4_EN, TUN_CLS0.DIP_EN, TUN_CLS0.VALID]⟩
def Reg.TUN_CLS1 : RegDesc := ⟨"TUN_CLS1", 0x210004, 512, 0x20, 1, 0x0, [TUN_CLS1.ETYPE, TUN_CLS1.L4DPORT]⟩
def Reg.TUN_CLS2 : RegDesc := ⟨"TUN_CLS2", 0x210008, 512, 0x20, 1, 0x0, [TUN_CLS2.SMAC]⟩
def Reg.TUN_CLS3 : RegDesc := ⟨"TUN_CLS3", 0x21000C, 512, 0x20, 1, 0x0, [TUN_CLS3.SMAC]⟩
def Reg.TUN_CLS4 : RegDesc := ⟨"TUN_CLS4", 0x210010, 512, 0x20, 1, 0x0, [TUN_CLS4.DIP]⟩
def Reg.TUN_CLS5 : RegDesc := ⟨"TUN_CLS5", 0x210014, 512, 0x20, 1, 0x0, [TUN_CLS5.DIPLEN]⟩
def Reg.TUN_CLS6 : RegDesc := ⟨"TUN_CLS6", 0x210018, 512, 0x20, 1, 0x0, [TUN_CLS6.ID]⟩
def Reg.TUN_CLS7 : RegDesc := ⟨"TUN_CLS7", 0x21001C, 512, 0x20, 1, 0x0, [TUN_CLS7.HITS]⟩

/-- Registers of spec/03_tunnels_transactions_routes.md. -/
def regMap03b : List RegDesc :=
  [Reg.TUN_PELOG0, Reg.TUN_PELOG1, Reg.TUN_PELOG2, Reg.TUN_PELOG3,
   Reg.TUN_PELOG4, Reg.TUN_PELOG5, Reg.TUN_PELOG6, Reg.TUN_PELOG7,
   Reg.TUN_PMAP0, Reg.TUN_PMAP1, Reg.TUN_PMAP2, Reg.TUN_PMAP3,
   Reg.TUN_CLS0, Reg.TUN_CLS1, Reg.TUN_CLS2, Reg.TUN_CLS3,
   Reg.TUN_CLS4, Reg.TUN_CLS5, Reg.TUN_CLS6, Reg.TUN_CLS7]

def Reg.TUN_ENT0 : RegDesc := ⟨"TUN_ENT0", 0x220000, 4096, 0x10, 1, 0x0, [TUN_ENT0.TID, TUN_ENT0.CLASS, TUN_ENT0.LEND, TUN_ENT0.ENC, TUN_ENT0.TXN, TUN_ENT0.CTX, TUN_ENT0.VALID]⟩
def Reg.TUN_ENT1 : RegDesc := ⟨"TUN_ENT1", 0x220004, 4096, 0x10, 1, 0x0, [TUN_ENT1.EP_A, TUN_ENT1.EP_B]⟩
def Reg.TUN_ENT2 : RegDesc := ⟨"TUN_ENT2", 0x220008, 4096, 0x10, 1, 0x0, [TUN_ENT2.D_AB, TUN_ENT2.D_BA]⟩
def Reg.TUN_ENT3 : RegDesc := ⟨"TUN_ENT3", 0x22000C, 4096, 0x10, 1, 0x0, [TUN_ENT3.STAGE, TUN_ENT3.VC, TUN_ENT3.SQ]⟩

/-- Registers of spec/03_tunnels_transactions_routes.md. -/
def regMap03c : List RegDesc :=
  [Reg.TUN_ENT0, Reg.TUN_ENT1, Reg.TUN_ENT2, Reg.TUN_ENT3]

def Reg.JXP_CTRL : RegDesc := ⟨"JXP_CTRL", 0x100000, 4, 0x10000, 1, 0x0, [JXP_CTRL.MAXRATE, JXP_CTRL.PRESET, JXP_CTRL.AUTO_RESTORE, JXP_CTRL.PROB_EN, JXP_CTRL.QUAL_EW, JXP_CTRL.QUAL_EH]⟩
def Reg.JXP_STATUS : RegDesc := ⟨"JXP_STATUS", 0x100004, 4, 0x10000, 1, 0x0, [JXP_STATUS.RATE, JXP_STATUS.NARROW, JXP_STATUS.OVC_HOLD, JXP_STATUS.FAILS, JXP_STATUS.SPARES, JXP_STATUS.PENDING, JXP_STATUS.RATE_CAP]⟩
def Reg.JXP_CMD : RegDesc := ⟨"JXP_CMD", 0x100008, 4, 0x10000, 1, 0x0, [JXP_CMD.OP, JXP_CMD.LANE]⟩
def Reg.JXP_TXMAP : RegDesc := ⟨"JXP_TXMAP", 0x10000C, 4, 0x10000, 1, 0x0, [JXP_TXMAP.MAP]⟩
def Reg.JXP_RXMAP : RegDesc := ⟨"JXP_RXMAP", 0x100010, 4, 0x10000, 1, 0x0, [JXP_RXMAP.MAP]⟩
def Reg.JXP_LSTATE : RegDesc := ⟨"JXP_LSTATE", 0x100014, 4, 0x10000, 1, 0x0, [JXP_LSTATE.S0, JXP_LSTATE.S1, JXP_LSTATE.S2, JXP_LSTATE.S3, JXP_LSTATE.S4, JXP_LSTATE.S5, JXP_LSTATE.S6, JXP_LSTATE.S7, JXP_LSTATE.S8, JXP_LSTATE.S9]⟩
def Reg.JXP_FAILCFG : RegDesc := ⟨"JXP_FAILCFG", 0x100018, 4, 0x10000, 1, 0x0, [JXP_FAILCFG.MARGIN, JXP_FAILCFG.MHIT_EXP, JXP_FAILCFG.CRC_LIM, JXP_FAILCFG.SPARE_ERRLIM]⟩
def Reg.JXP_PROBCFG : RegDesc := ⟨"JXP_PROBCFG", 0x10001C, 4, 0x10000, 1, 0x0, [JXP_PROBCFG.PROB_TIME, JXP_PROBCFG.PROB_ERRLIM, JXP_PROBCFG.PROB_RETRY]⟩
def Reg.JXP_HZCTRL : RegDesc := ⟨"JXP_HZCTRL", 0x100020, 4, 0x10000, 1, 0x0, [JXP_HZCTRL.LANE, JXP_HZCTRL.DWELL, JXP_HZCTRL.THRESH, JXP_HZCTRL.PH_STEP, JXP_HZCTRL.V_STEP]⟩
def Reg.JXP_HZRANGE : RegDesc := ⟨"JXP_HZRANGE", 0x100024, 4, 0x10000, 1, 0x0, [JXP_HZRANGE.PH_MIN, JXP_HZRANGE.PH_MAX, JXP_HZRANGE.V_MIN, JXP_HZRANGE.V_MAX]⟩
def Reg.JXP_HZSTAT : RegDesc := ⟨"JXP_HZSTAT", 0x100028, 4, 0x10000, 1, 0x0, [JXP_HZSTAT.RUN, JXP_HZSTAT.DONE, JXP_HZSTAT.EW, JXP_HZSTAT.EH]⟩
def Reg.JXP_FFE : RegDesc := ⟨"JXP_FFE", 0x100100, 4, 0x10000, 10, 0x40, [JXP_FFE.C_PRE, JXP_FFE.C_POST, JXP_FFE.MAIN]⟩
def Reg.JXP_RXEQ : RegDesc := ⟨"JXP_RXEQ", 0x100104, 4, 0x10000, 10, 0x40, [JXP_RXEQ.PEAK, JXP_RXEQ.FREEZE, JXP_RXEQ.ADAPT_INT, JXP_RXEQ.POLINV]⟩
def Reg.JXP_DFE0 : RegDesc := ⟨"JXP_DFE0", 0x100108, 4, 0x10000, 10, 0x40, [JXP_DFE0.H0, JXP_DFE0.H1]⟩
def Reg.JXP_DFE1 : RegDesc := ⟨"JXP_DFE1", 0x10010C, 4, 0x10000, 10, 0x40, [JXP_DFE1.H2, JXP_DFE1.H3, JXP_DFE1.H4, JXP_DFE1.H5, JXP_DFE1.H6]⟩
def Reg.JXP_DFE2 : RegDesc := ⟨"JXP_DFE2", 0x100110, 4, 0x10000, 10, 0x40, [JXP_DFE2.H7, JXP_DFE2.H8]⟩
def Reg.JXP_PRBSCTL : RegDesc := ⟨"JXP_PRBSCTL", 0x100114, 4, 0x10000, 10, 0x40, [JXP_PRBSCTL.GEN_EN, JXP_PRBSCTL.GEN_PAT, JXP_PRBSCTL.CHK_EN, JXP_PRBSCTL.CHK_PAT, JXP_PRBSCTL.LOCK, JXP_PRBSCTL.SPAREMODE, JXP_PRBSCTL.LOCKLOSS]⟩
def Reg.JXP_PRBSERR : RegDesc := ⟨"JXP_PRBSERR", 0x100118, 4, 0x10000, 10, 0x40, [JXP_PRBSERR.COUNT]⟩
def Reg.JXP_PRBSBITS : RegDesc := ⟨"JXP_PRBSBITS", 0x10011C, 4, 0x10000, 10, 0x40, [JXP_PRBSBITS.COUNT]⟩
def Reg.JXP_USERPAT_LO : RegDesc := ⟨"JXP_USERPAT_LO", 0x100120, 4, 0x10000, 10, 0x40, [JXP_USERPAT_LO.PAT]⟩

/-- Registers of spec/04_lanes.md. -/
def regMap04a : List RegDesc :=
  [Reg.JXP_CTRL, Reg.JXP_STATUS, Reg.JXP_CMD, Reg.JXP_TXMAP,
   Reg.JXP_RXMAP, Reg.JXP_LSTATE, Reg.JXP_FAILCFG, Reg.JXP_PROBCFG,
   Reg.JXP_HZCTRL, Reg.JXP_HZRANGE, Reg.JXP_HZSTAT, Reg.JXP_FFE,
   Reg.JXP_RXEQ, Reg.JXP_DFE0, Reg.JXP_DFE1, Reg.JXP_DFE2,
   Reg.JXP_PRBSCTL, Reg.JXP_PRBSERR, Reg.JXP_PRBSBITS, Reg.JXP_USERPAT_LO]

def Reg.JXP_USERPAT_HI : RegDesc := ⟨"JXP_USERPAT_HI", 0x100124, 4, 0x10000, 10, 0x40, [JXP_USERPAT_HI.PAT]⟩
def Reg.JXP_INJ : RegDesc := ⟨"JXP_INJ", 0x100128, 4, 0x10000, 10, 0x40, [JXP_INJ.MODE, JXP_INJ.GO, JXP_INJ.LEN, JXP_INJ.RATE, JXP_INJ.INJCNT]⟩
def Reg.JXP_LHEALTH : RegDesc := ⟨"JXP_LHEALTH", 0x10012C, 4, 0x10000, 10, 0x40, [JXP_LHEALTH.MHITS, JXP_LHEALTH.CHARGES, JXP_LHEALTH.CAUSE, JXP_LHEALTH.PROBFAILS]⟩

/-- Registers of spec/04_lanes.md. -/
def regMap04b : List RegDesc :=
  [Reg.JXP_USERPAT_HI, Reg.JXP_INJ, Reg.JXP_LHEALTH]

def Reg.JXK_CTRL : RegDesc := ⟨"JXK_CTRL", 0x140000, 4, 0x10000, 1, 0x0, [JXK_CTRL.EN, JXK_CTRL.PROT, JXK_CTRL.VCS, JXK_CTRL.REPLAY_T, JXK_CTRL.REPLAY_LIM]⟩
def Reg.JXK_STATUS : RegDesc := ⟨"JXK_STATUS", 0x140004, 4, 0x10000, 1, 0x0, [JXK_STATUS.STATE, JXK_STATUS.UP, JXK_STATUS.PROT_ON, JXK_STATUS.CMODE, JXK_STATUS.REPLAYING, JXK_STATUS.BACKOFF, JXK_STATUS.EPOCH, JXK_STATUS.KEYGEN]⟩
def Reg.JXK_TRFAIL : RegDesc := ⟨"JXK_TRFAIL", 0x140008, 4, 0x10000, 1, 0x0, [JXK_TRFAIL.STATE, JXK_TRFAIL.STATUS, JXK_TRFAIL.FAILS]⟩
def Reg.JXK_CTO : RegDesc := ⟨"JXK_CTO", 0x14000C, 4, 0x10000, 1, 0x0, [JXK_CTO.CTO_MS]⟩
def Reg.JXK_CMD : RegDesc := ⟨"JXK_CMD", 0x140010, 4, 0x10000, 1, 0x0, [JXK_CMD.OP]⟩
def Reg.JXK_TXSEQ : RegDesc := ⟨"JXK_TXSEQ", 0x140014, 4, 0x10000, 1, 0x0, [JXK_TXSEQ.NEWEST, JXK_TXSEQ.ACKED, JXK_TXSEQ.EXPIRIES]⟩
def Reg.JXK_RXSEQ : RegDesc := ⟨"JXK_RXSEQ", 0x140018, 4, 0x10000, 1, 0x0, [JXK_RXSEQ.EXPECTED, JXK_RXSEQ.ACK_TX]⟩
def Reg.JXK_RBUF : RegDesc := ⟨"JXK_RBUF", 0x14001C, 4, 0x10000, 1, 0x0, [JXK_RBUF.UNACKED, JXK_RBUF.RETAINED]⟩
def Reg.JXK_LOOP : RegDesc := ⟨"JXK_LOOP", 0x140020, 4, 0x10000, 1, 0x0, [JXK_LOOP.LOOP]⟩
def Reg.JXK_CRCERR : RegDesc := ⟨"JXK_CRCERR", 0x140040, 4, 0x10000, 1, 0x0, [JXK_CRCERR.COUNT]⟩
def Reg.JXK_EPOCHDROP : RegDesc := ⟨"JXK_EPOCHDROP", 0x140044, 4, 0x10000, 1, 0x0, [JXK_EPOCHDROP.COUNT]⟩
def Reg.JXK_OOS : RegDesc := ⟨"JXK_OOS", 0x140048, 4, 0x10000, 1, 0x0, [JXK_OOS.COUNT]⟩
def Reg.JXK_DUP : RegDesc := ⟨"JXK_DUP", 0x14004C, 4, 0x10000, 1, 0x0, [JXK_DUP.COUNT]⟩
def Reg.JXK_REPLAYS : RegDesc := ⟨"JXK_REPLAYS", 0x140050, 4, 0x10000, 1, 0x0, [JXK_REPLAYS.COUNT]⟩
def Reg.JXK_RPLFLITS : RegDesc := ⟨"JXK_RPLFLITS", 0x140054, 4, 0x10000, 1, 0x0, [JXK_RPLFLITS.COUNT]⟩
def Reg.JXK_TAGFAIL : RegDesc := ⟨"JXK_TAGFAIL", 0x140058, 4, 0x10000, 1, 0x0, [JXK_TAGFAIL.COUNT]⟩
def Reg.JXK_ISOLOSS : RegDesc := ⟨"JXK_ISOLOSS", 0x14005C, 4, 0x10000, 1, 0x0, [JXK_ISOLOSS.COUNT]⟩
def Reg.JXK_VOIDDROP : RegDesc := ⟨"JXK_VOIDDROP", 0x140060, 4, 0x10000, 1, 0x0, [JXK_VOIDDROP.COUNT]⟩
def Reg.JXK_FLUSHED : RegDesc := ⟨"JXK_FLUSHED", 0x140064, 4, 0x10000, 1, 0x0, [JXK_FLUSHED.COUNT]⟩
def Reg.JXK_RETRAINS : RegDesc := ⟨"JXK_RETRAINS", 0x140068, 4, 0x10000, 1, 0x0, [JXK_RETRAINS.COUNT]⟩

/-- Registers of spec/05_link_layer.md. -/
def regMap05a : List RegDesc :=
  [Reg.JXK_CTRL, Reg.JXK_STATUS, Reg.JXK_TRFAIL, Reg.JXK_CTO,
   Reg.JXK_CMD, Reg.JXK_TXSEQ, Reg.JXK_RXSEQ, Reg.JXK_RBUF,
   Reg.JXK_LOOP, Reg.JXK_CRCERR, Reg.JXK_EPOCHDROP, Reg.JXK_OOS,
   Reg.JXK_DUP, Reg.JXK_REPLAYS, Reg.JXK_RPLFLITS, Reg.JXK_TAGFAIL,
   Reg.JXK_ISOLOSS, Reg.JXK_VOIDDROP, Reg.JXK_FLUSHED, Reg.JXK_RETRAINS]

def Reg.JXK_CTOCNT : RegDesc := ⟨"JXK_CTOCNT", 0x14006C, 4, 0x10000, 1, 0x0, [JXK_CTOCNT.COUNT]⟩
def Reg.JXK_BADKIND : RegDesc := ⟨"JXK_BADKIND", 0x140070, 4, 0x10000, 1, 0x0, [JXK_BADKIND.COUNT]⟩
def Reg.JXK_VC : RegDesc := ⟨"JXK_VC", 0x140100, 4, 0x10000, 64, 0x4, [JXK_VC.INIT, JXK_VC.AVAIL, JXK_VC.STALL]⟩

/-- Registers of spec/05_link_layer.md. -/
def regMap05b : List RegDesc :=
  [Reg.JXK_CTOCNT, Reg.JXK_BADKIND, Reg.JXK_VC]

def Reg.SWB_STATUS : RegDesc := ⟨"SWB_STATUS", 0x300000, 1, 0x0, 1, 0x0, [SWB_STATUS.SPARES, SWB_STATUS.RETIRED, SWB_STATUS.HALTED, SWB_STATUS.COPY, SWB_STATUS.COPYBANK]⟩
def Reg.SWB_POOL : RegDesc := ⟨"SWB_POOL", 0x300004, 1, 0x0, 1, 0x0, [SWB_POOL.SHARED]⟩
def Reg.SWB_RESV : RegDesc := ⟨"SWB_RESV", 0x300008, 1, 0x0, 1, 0x0, [SWB_RESV.RESERVED]⟩
def Reg.SWB_FREE : RegDesc := ⟨"SWB_FREE", 0x30000C, 1, 0x0, 1, 0x0, [SWB_FREE.FREE]⟩
def Reg.SWB_DESC : RegDesc := ⟨"SWB_DESC", 0x300010, 1, 0x0, 1, 0x0, [SWB_DESC.FREE]⟩
def Reg.SWB_FDBCFG : RegDesc := ⟨"SWB_FDBCFG", 0x300014, 1, 0x0, 1, 0x0, [SWB_FDBCFG.AGE_T]⟩
def Reg.SWB_FCMD : RegDesc := ⟨"SWB_FCMD", 0x300018, 1, 0x0, 1, 0x0, [SWB_FCMD.OP, SWB_FCMD.BYPORT, SWB_FCMD.PORT, SWB_FCMD.WAY, SWB_FCMD.INDEX]⟩
def Reg.SWB_FBUF : RegDesc := ⟨"SWB_FBUF", 0x30001C, 4, 0x4, 1, 0x0, [SWB_FBUF.WORD]⟩
def Reg.SWB_FSTAT : RegDesc := ⟨"SWB_FSTAT", 0x30002C, 1, 0x0, 1, 0x0, [SWB_FSTAT.COUNT, SWB_FSTAT.FULLCOUNT, SWB_FSTAT.MOVES, SWB_FSTAT.SVIOL, SWB_FSTAT.LFAIL]⟩
def Reg.SWB_ECCCFG : RegDesc := ⟨"SWB_ECCCFG", 0x300030, 1, 0x0, 1, 0x0, [SWB_ECCCFG.SCRUB_EN, SWB_ECCCFG.UE_LIM, SWB_ECCCFG.CE_LIM]⟩
def Reg.SWB_BCMD : RegDesc := ⟨"SWB_BCMD", 0x300034, 1, 0x0, 1, 0x0, [SWB_BCMD.BANK, SWB_BCMD.GO]⟩
def Reg.SWB_SPARE : RegDesc := ⟨"SWB_SPARE", 0x300038, 1, 0x0, 1, 0x0, [SWB_SPARE.LOG0, SWB_SPARE.USED0, SWB_SPARE.LOG1, SWB_SPARE.USED1]⟩
def Reg.SWB_JVCMAP : RegDesc := ⟨"SWB_JVCMAP", 0x300040, 4, 0x8, 2, 0x4, [SWB_JVCMAP.VC0, SWB_JVCMAP.VC1, SWB_JVCMAP.VC2, SWB_JVCMAP.VC3]⟩
def Reg.SWB_PROF : RegDesc := ⟨"SWB_PROF", 0x300100, 16, 0x4, 1, 0x0, [SWB_PROF.KG, SWB_PROF.KY, SWB_PROF.MIN]⟩
def Reg.SWB_BANK : RegDesc := ⟨"SWB_BANK", 0x300200, 34, 0x4, 1, 0x0, [SWB_BANK.STATE, SWB_BANK.UE, SWB_BANK.CE]⟩
def Reg.SWB_PCFG : RegDesc := ⟨"SWB_PCFG", 0x300400, 18, 0x10, 1, 0x0, [SWB_PCFG.LEARN, SWB_PCFG.PCP_Q, SWB_PCFG.DEI_YELLOW, SWB_PCFG.LEARN_SQ, SWB_PCFG.FLOOD_SQ]⟩
def Reg.SWB_FLOOD : RegDesc := ⟨"SWB_FLOOD", 0x300404, 18, 0x10, 1, 0x0, [SWB_FLOOD.MASK]⟩
def Reg.SWB_DROP : RegDesc := ⟨"SWB_DROP", 0x301004, 18, 0x40, 9, 0x4, [SWB_DROP.COUNT]⟩
def Reg.SWB_QCFG : RegDesc := ⟨"SWB_QCFG", 0x308000, 4096, 0x8, 1, 0x0, [SWB_QCFG.PROFILE]⟩
def Reg.SWB_QLEN : RegDesc := ⟨"SWB_QLEN", 0x308004, 4096, 0x8, 1, 0x0, [SWB_QLEN.CELLS, SWB_QLEN.PEAK]⟩

/-- Registers of spec/06_shared_buffer_switch.md. -/
def regMap06a : List RegDesc :=
  [Reg.SWB_STATUS, Reg.SWB_POOL, Reg.SWB_RESV, Reg.SWB_FREE,
   Reg.SWB_DESC, Reg.SWB_FDBCFG, Reg.SWB_FCMD, Reg.SWB_FBUF,
   Reg.SWB_FSTAT, Reg.SWB_ECCCFG, Reg.SWB_BCMD, Reg.SWB_SPARE,
   Reg.SWB_JVCMAP, Reg.SWB_PROF, Reg.SWB_BANK, Reg.SWB_PCFG,
   Reg.SWB_FLOOD, Reg.SWB_DROP, Reg.SWB_QCFG, Reg.SWB_QLEN]

def Reg.TMG_STATUS : RegDesc := ⟨"TMG_STATUS", 0x340000, 1, 0x0, 1, 0x0, [TMG_STATUS.OVERSUB, TMG_STATUS.OVNODE]⟩
def Reg.TMG_GWQ : RegDesc := ⟨"TMG_GWQ", 0x340004, 1, 0x0, 1, 0x0, [TMG_GWQ.SQ]⟩
def Reg.TMG_POVH : RegDesc := ⟨"TMG_POVH", 0x340100, 18, 0x8, 1, 0x0, [TMG_POVH.OVH_C, TMG_POVH.UNIT, TMG_POVH.OVH_U]⟩
def Reg.TMG_MSEL : RegDesc := ⟨"TMG_MSEL", 0x340104, 18, 0x8, 1, 0x0, [TMG_MSEL.MODE, TMG_MSEL.BASE]⟩
def Reg.TMG_NCFG : RegDesc := ⟨"TMG_NCFG", 0x350000, 4258, 0x20, 1, 0x0, [TMG_NCFG.WEIGHT, TMG_NCFG.PRIO, TMG_NCFG.PARENT]⟩
def Reg.TMG_CIR : RegDesc := ⟨"TMG_CIR", 0x350004, 4258, 0x20, 1, 0x0, [TMG_CIR.RATE]⟩
def Reg.TMG_PIR : RegDesc := ⟨"TMG_PIR", 0x350008, 4258, 0x20, 1, 0x0, [TMG_PIR.RATE]⟩
def Reg.TMG_CBS : RegDesc := ⟨"TMG_CBS", 0x35000C, 4258, 0x20, 1, 0x0, [TMG_CBS.BURST]⟩
def Reg.TMG_PBS : RegDesc := ⟨"TMG_PBS", 0x350010, 4258, 0x20, 1, 0x0, [TMG_PBS.BURST]⟩
def Reg.TMG_NSTAT : RegDesc := ⟨"TMG_NSTAT", 0x350014, 4258, 0x20, 1, 0x0, [TMG_NSTAT.ACTIVE, TMG_NSTAT.ELIGIBLE, TMG_NSTAT.COMMITTED, TMG_NSTAT.PEND, TMG_NSTAT.PEAKNEG]⟩
def Reg.TMG_NTXF : RegDesc := ⟨"TMG_NTXF", 0x350018, 4258, 0x20, 1, 0x0, [TMG_NTXF.FRAMES]⟩
def Reg.TMG_QMETER : RegDesc := ⟨"TMG_QMETER", 0x35001C, 4258, 0x20, 1, 0x0, [TMG_QMETER.METER, TMG_QMETER.MEN]⟩
def Reg.TMG_MCFG : RegDesc := ⟨"TMG_MCFG", 0x3C0000, 2048, 0x20, 1, 0x0, [TMG_MCFG.MODE, TMG_MCFG.AWARE, TMG_MCFG.CF]⟩
def Reg.TMG_MCIR : RegDesc := ⟨"TMG_MCIR", 0x3C0004, 2048, 0x20, 1, 0x0, [TMG_MCIR.RATE]⟩
def Reg.TMG_MPIR : RegDesc := ⟨"TMG_MPIR", 0x3C0008, 2048, 0x20, 1, 0x0, [TMG_MPIR.RATE]⟩
def Reg.TMG_MCBS : RegDesc := ⟨"TMG_MCBS", 0x3C000C, 2048, 0x20, 1, 0x0, [TMG_MCBS.BURST]⟩
def Reg.TMG_MPBS : RegDesc := ⟨"TMG_MPBS", 0x3C0010, 2048, 0x20, 1, 0x0, [TMG_MPBS.BURST]⟩
def Reg.TMG_MACT : RegDesc := ⟨"TMG_MACT", 0x3C0014, 2048, 0x20, 1, 0x0, [TMG_MACT.GREEN, TMG_MACT.YELLOW, TMG_MACT.RED]⟩
def Reg.TMG_MRSV0 : RegDesc := ⟨"TMG_MRSV0", 0x3C0018, 2048, 0x20, 1, 0x0, []⟩
def Reg.TMG_MRSV1 : RegDesc := ⟨"TMG_MRSV1", 0x3C001C, 2048, 0x20, 1, 0x0, []⟩

/-- Registers of spec/07_scheduling_shaping_policing.md. -/
def regMap07a : List RegDesc :=
  [Reg.TMG_STATUS, Reg.TMG_GWQ, Reg.TMG_POVH, Reg.TMG_MSEL,
   Reg.TMG_NCFG, Reg.TMG_CIR, Reg.TMG_PIR, Reg.TMG_CBS,
   Reg.TMG_PBS, Reg.TMG_NSTAT, Reg.TMG_NTXF, Reg.TMG_QMETER,
   Reg.TMG_MCFG, Reg.TMG_MCIR, Reg.TMG_MPIR, Reg.TMG_MCBS,
   Reg.TMG_MPBS, Reg.TMG_MACT, Reg.TMG_MRSV0, Reg.TMG_MRSV1]

def Reg.TMG_MCNT_GREEN : RegDesc := ⟨"TMG_MCNT_GREEN", 0x3D0000, 2048, 0x10, 1, 0x0, [TMG_MCNT_GREEN.COUNT]⟩
def Reg.TMG_MCNT_YELLOW : RegDesc := ⟨"TMG_MCNT_YELLOW", 0x3D0004, 2048, 0x10, 1, 0x0, [TMG_MCNT_YELLOW.COUNT]⟩
def Reg.TMG_MCNT_RED : RegDesc := ⟨"TMG_MCNT_RED", 0x3D0008, 2048, 0x10, 1, 0x0, [TMG_MCNT_RED.COUNT]⟩
def Reg.TMG_MCNT_DROPS : RegDesc := ⟨"TMG_MCNT_DROPS", 0x3D000C, 2048, 0x10, 1, 0x0, [TMG_MCNT_DROPS.COUNT]⟩

/-- Registers of spec/07_scheduling_shaping_policing.md. -/
def regMap07b : List RegDesc :=
  [Reg.TMG_MCNT_GREEN, Reg.TMG_MCNT_YELLOW, Reg.TMG_MCNT_RED, Reg.TMG_MCNT_DROPS]

def Reg.FLD_STATUS : RegDesc := ⟨"FLD_STATUS", 0x500000, 1, 0x0, 1, 0x0, [FLD_STATUS.D2D_UP, FLD_STATUS.FIELD_OK, FLD_STATUS.VFIELD]⟩
def Reg.FLD_DIBASE : RegDesc := ⟨"FLD_DIBASE", 0x500004, 1, 0x0, 1, 0x0, [FLD_DIBASE.DIBASE, FLD_DIBASE.DIEN]⟩
def Reg.FLD_TSCMD : RegDesc := ⟨"FLD_TSCMD", 0x500008, 1, 0x0, 1, 0x0, [FLD_TSCMD.POP]⟩
def Reg.FLD_TSSTAT : RegDesc := ⟨"FLD_TSSTAT", 0x50000C, 1, 0x0, 1, 0x0, [FLD_TSSTAT.COUNT, FLD_TSSTAT.OVF]⟩
def Reg.FLD_TSLO : RegDesc := ⟨"FLD_TSLO", 0x500010, 1, 0x0, 1, 0x0, [FLD_TSLO.TIME]⟩
def Reg.FLD_TSHI : RegDesc := ⟨"FLD_TSHI", 0x500014, 1, 0x0, 1, 0x0, [FLD_TSHI.TIME]⟩
def Reg.FLD_TSINFO : RegDesc := ⟨"FLD_TSINFO", 0x500018, 1, 0x0, 1, 0x0, [FLD_TSINFO.INPUT, FLD_TSINFO.LEVEL, FLD_TSINFO.CLEAR]⟩
def Reg.FLD_OCTRL : RegDesc := ⟨"FLD_OCTRL", 0x500020, 1, 0x0, 1, 0x0, [FLD_OCTRL.ARM, FLD_OCTRL.AUTOARM, FLD_OCTRL.ULOSS_EN, FLD_OCTRL.SAFE]⟩
def Reg.FLD_OWD : RegDesc := ⟨"FLD_OWD", 0x500024, 1, 0x0, 1, 0x0, [FLD_OWD.WD_MS, FLD_OWD.KSRC, FLD_OWD.KPT]⟩
def Reg.FLD_OKICK : RegDesc := ⟨"FLD_OKICK", 0x500028, 1, 0x0, 1, 0x0, [FLD_OKICK.KEY]⟩
def Reg.FLD_OSTAT : RegDesc := ⟨"FLD_OSTAT", 0x50002C, 1, 0x0, 1, 0x0, [FLD_OSTAT.LEVEL, FLD_OSTAT.PSAFE, FLD_OSTAT.WDLAPSE, FLD_OSTAT.ULOSS, FLD_OSTAT.D2DLOSS]⟩
def Reg.FLD_OCFG : RegDesc := ⟨"FLD_OCFG", 0x500040, 8, 0x4, 1, 0x0, [FLD_OCFG.PT, FLD_OCFG.BIT, FLD_OCFG.SAFE, FLD_OCFG.INV, FLD_OCFG.OAGE, FLD_OCFG.EN]⟩
def Reg.FLD_SCTRL : RegDesc := ⟨"FLD_SCTRL", 0x500100, 4, 0x40, 1, 0x0, [FLD_SCTRL.EN, FLD_SCTRL.PLCA_EN, FLD_SCTRL.QUAR, FLD_SCTRL.NOISE_LIM]⟩
def Reg.FLD_SPLCA : RegDesc := ⟨"FLD_SPLCA", 0x500104, 4, 0x40, 1, 0x0, [FLD_SPLCA.NODECNT, FLD_SPLCA.TO_TMR, FLD_SPLCA.MAX_BC, FLD_SPLCA.BURST_TMR]⟩
def Reg.FLD_SSTAT : RegDesc := ⟨"FLD_SSTAT", 0x500108, 4, 0x40, 1, 0x0, [FLD_SSTAT.UP, FLD_SSTAT.LINEFAULT, FLD_SSTAT.PLCA_ON, FLD_SSTAT.LAST_COLL_ID]⟩
def Reg.FLD_STRANGER : RegDesc := ⟨"FLD_STRANGER", 0x500110, 4, 0x40, 1, 0x0, [FLD_STRANGER.COUNT]⟩
def Reg.FLD_QDROP : RegDesc := ⟨"FLD_QDROP", 0x500114, 4, 0x40, 1, 0x0, [FLD_QDROP.COUNT]⟩
def Reg.FLD_SNOISE : RegDesc := ⟨"FLD_SNOISE", 0x500118, 4, 0x40, 1, 0x0, [FLD_SNOISE.COUNT]⟩
def Reg.FLD_SCOLL : RegDesc := ⟨"FLD_SCOLL", 0x50011C, 4, 0x40, 1, 0x0, [FLD_SCOLL.COUNT]⟩
def Reg.FLD_SPCOLL : RegDesc := ⟨"FLD_SPCOLL", 0x500120, 4, 0x40, 1, 0x0, [FLD_SPCOLL.COUNT]⟩

/-- Registers of spec/08_field_segments_and_points.md. -/
def regMap08a : List RegDesc :=
  [Reg.FLD_STATUS, Reg.FLD_DIBASE, Reg.FLD_TSCMD, Reg.FLD_TSSTAT,
   Reg.FLD_TSLO, Reg.FLD_TSHI, Reg.FLD_TSINFO, Reg.FLD_OCTRL,
   Reg.FLD_OWD, Reg.FLD_OKICK, Reg.FLD_OSTAT, Reg.FLD_OCFG,
   Reg.FLD_SCTRL, Reg.FLD_SPLCA, Reg.FLD_SSTAT, Reg.FLD_STRANGER,
   Reg.FLD_QDROP, Reg.FLD_SNOISE, Reg.FLD_SCOLL, Reg.FLD_SPCOLL]

def Reg.FLD_SSHORT : RegDesc := ⟨"FLD_SSHORT", 0x500124, 4, 0x40, 1, 0x0, [FLD_SSHORT.COUNT]⟩
def Reg.FLD_DICFG : RegDesc := ⟨"FLD_DICFG", 0x500400, 16, 0x10, 1, 0x0, [FLD_DICFG.EN, FLD_DICFG.TYPE, FLD_DICFG.POL, FLD_DICFG.DEB]⟩
def Reg.FLD_DISTUCK : RegDesc := ⟨"FLD_DISTUCK", 0x500404, 16, 0x10, 1, 0x0, [FLD_DISTUCK.STUCK_MS]⟩
def Reg.FLD_DICHAT : RegDesc := ⟨"FLD_DICHAT", 0x500408, 16, 0x10, 1, 0x0, [FLD_DICHAT.CHAT_N, FLD_DICHAT.CHAT_WIN]⟩
def Reg.FLD_DISTAT : RegDesc := ⟨"FLD_DISTAT", 0x50040C, 16, 0x10, 1, 0x0, [FLD_DISTAT.RAW, FLD_DISTAT.LEVEL, FLD_DISTAT.STABLE, FLD_DISTAT.STUCK, FLD_DISTAT.CHATTER]⟩
def Reg.FLD_ADM0 : RegDesc := ⟨"FLD_ADM0", 0x501000, 256, 0x20, 1, 0x0, [FLD_ADM0.MAC_LO]⟩
def Reg.FLD_ADM1 : RegDesc := ⟨"FLD_ADM1", 0x501004, 256, 0x20, 1, 0x0, [FLD_ADM1.MAC_HI, FLD_ADM1.SEG, FLD_ADM1.NODE, FLD_ADM1.CHK_ID, FLD_ADM1.VALID]⟩
def Reg.FLD_ADM2 : RegDesc := ⟨"FLD_ADM2", 0x501008, 256, 0x20, 1, 0x0, [FLD_ADM2.CYC_ETYPE]⟩
def Reg.FLD_ADM3 : RegDesc := ⟨"FLD_ADM3", 0x50100C, 256, 0x20, 1, 0x0, [FLD_ADM3.BASE, FLD_ADM3.COUNT]⟩
def Reg.FLD_ADM4 : RegDesc := ⟨"FLD_ADM4", 0x501010, 256, 0x20, 1, 0x0, [FLD_ADM4.CYC_TO]⟩
def Reg.FLD_ADM5 : RegDesc := ⟨"FLD_ADM5", 0x501014, 256, 0x20, 1, 0x0, [FLD_ADM5.CYCFRAMES]⟩
def Reg.FLD_ADM6 : RegDesc := ⟨"FLD_ADM6", 0x501018, 256, 0x20, 1, 0x0, [FLD_ADM6.ACYCFRAMES]⟩
def Reg.FLD_ADM7 : RegDesc := ⟨"FLD_ADM7", 0x50101C, 256, 0x20, 1, 0x0, []⟩

/-- Registers of spec/08_field_segments_and_points.md. -/
def regMap08b : List RegDesc :=
  [Reg.FLD_SSHORT, Reg.FLD_DICFG, Reg.FLD_DISTUCK, Reg.FLD_DICHAT,
   Reg.FLD_DISTAT, Reg.FLD_ADM0, Reg.FLD_ADM1, Reg.FLD_ADM2,
   Reg.FLD_ADM3, Reg.FLD_ADM4, Reg.FLD_ADM5, Reg.FLD_ADM6,
   Reg.FLD_ADM7]

def Reg.ETH_CTRL : RegDesc := ⟨"ETH_CTRL", 0x400000, 8, 0x10000, 1, 0x0, [ETH_CTRL.EN, ETH_CTRL.MODE, ETH_CTRL.FEC_EN, ETH_CTRL.PTP_TRAP, ETH_CTRL.MAXLEN]⟩
def Reg.ETH_STATUS : RegDesc := ⟨"ETH_STATUS", 0x400004, 8, 0x10000, 1, 0x0, [ETH_STATUS.LINK, ETH_STATUS.SPEED, ETH_STATUS.FEC_ON, ETH_STATUS.TRAINED]⟩
def Reg.ETH_VLAN : RegDesc := ⟨"ETH_VLAN", 0x400008, 8, 0x10000, 1, 0x0, [ETH_VLAN.PVID, ETH_VLAN.ACCEPT, ETH_VLAN.ING_FILT]⟩
def Reg.ETH_TSLAT : RegDesc := ⟨"ETH_TSLAT", 0x40000C, 8, 0x10000, 1, 0x0, [ETH_TSLAT.RX_LAT, ETH_TSLAT.TX_LAT]⟩
def Reg.ETH_TXTSCMD : RegDesc := ⟨"ETH_TXTSCMD", 0x400010, 8, 0x10000, 1, 0x0, [ETH_TXTSCMD.POP, ETH_TXTSCMD.COUNT, ETH_TXTSCMD.OVF]⟩
def Reg.ETH_TXTS_LO : RegDesc := ⟨"ETH_TXTS_LO", 0x400014, 8, 0x10000, 1, 0x0, [ETH_TXTS_LO.TIME]⟩
def Reg.ETH_TXTS_HI : RegDesc := ⟨"ETH_TXTS_HI", 0x400018, 8, 0x10000, 1, 0x0, [ETH_TXTS_HI.TIME]⟩
def Reg.ETH_TXTS_INFO : RegDesc := ⟨"ETH_TXTS_INFO", 0x40001C, 8, 0x10000, 1, 0x0, [ETH_TXTS_INFO.TAG]⟩
def Reg.ETH_RXFRAMES : RegDesc := ⟨"ETH_RXFRAMES", 0x400040, 8, 0x10000, 1, 0x0, [ETH_RXFRAMES.COUNT]⟩
def Reg.ETH_RXBYTES : RegDesc := ⟨"ETH_RXBYTES", 0x400044, 8, 0x10000, 1, 0x0, [ETH_RXBYTES.COUNT]⟩
def Reg.ETH_RXFCS : RegDesc := ⟨"ETH_RXFCS", 0x400048, 8, 0x10000, 1, 0x0, [ETH_RXFCS.COUNT]⟩
def Reg.ETH_RXLEN : RegDesc := ⟨"ETH_RXLEN", 0x40004C, 8, 0x10000, 1, 0x0, [ETH_RXLEN.COUNT]⟩
def Reg.ETH_RXVLAN : RegDesc := ⟨"ETH_RXVLAN", 0x400050, 8, 0x10000, 1, 0x0, [ETH_RXVLAN.COUNT]⟩
def Reg.ETH_RXCTL : RegDesc := ⟨"ETH_RXCTL", 0x400054, 8, 0x10000, 1, 0x0, [ETH_RXCTL.COUNT]⟩
def Reg.ETH_RXTRAP : RegDesc := ⟨"ETH_RXTRAP", 0x400058, 8, 0x10000, 1, 0x0, [ETH_RXTRAP.COUNT]⟩
def Reg.ETH_TXFRAMES : RegDesc := ⟨"ETH_TXFRAMES", 0x40005C, 8, 0x10000, 1, 0x0, [ETH_TXFRAMES.COUNT]⟩
def Reg.ETH_TXBYTES : RegDesc := ⟨"ETH_TXBYTES", 0x400060, 8, 0x10000, 1, 0x0, [ETH_TXBYTES.COUNT]⟩
def Reg.ETH_EGFILT : RegDesc := ⟨"ETH_EGFILT", 0x400064, 8, 0x10000, 1, 0x0, [ETH_EGFILT.COUNT]⟩
def Reg.ETH_FECCORR : RegDesc := ⟨"ETH_FECCORR", 0x400068, 8, 0x10000, 1, 0x0, [ETH_FECCORR.COUNT]⟩
def Reg.ETH_FECUNC : RegDesc := ⟨"ETH_FECUNC", 0x40006C, 8, 0x10000, 1, 0x0, [ETH_FECUNC.COUNT]⟩

/-- Registers of spec/09_ethernet_and_time.md. -/
def regMap09a : List RegDesc :=
  [Reg.ETH_CTRL, Reg.ETH_STATUS, Reg.ETH_VLAN, Reg.ETH_TSLAT,
   Reg.ETH_TXTSCMD, Reg.ETH_TXTS_LO, Reg.ETH_TXTS_HI, Reg.ETH_TXTS_INFO,
   Reg.ETH_RXFRAMES, Reg.ETH_RXBYTES, Reg.ETH_RXFCS, Reg.ETH_RXLEN,
   Reg.ETH_RXVLAN, Reg.ETH_RXCTL, Reg.ETH_RXTRAP, Reg.ETH_TXFRAMES,
   Reg.ETH_TXBYTES, Reg.ETH_EGFILT, Reg.ETH_FECCORR, Reg.ETH_FECUNC]

def Reg.ETH_VMEMB : RegDesc := ⟨"ETH_VMEMB", 0x401000, 8, 0x10000, 128, 0x4, [ETH_VMEMB.MAP]⟩
def Reg.ETH_VUNTAG : RegDesc := ⟨"ETH_VUNTAG", 0x401200, 8, 0x10000, 128, 0x4, [ETH_VUNTAG.MAP]⟩
def Reg.TSU_CTRL : RegDesc := ⟨"TSU_CTRL", 0x480000, 1, 0x0, 1, 0x0, [TSU_CTRL.PTP_LOCK]⟩
def Reg.TSU_STATUS : RegDesc := ⟨"TSU_STATUS", 0x480004, 1, 0x0, 1, 0x0, [TSU_STATUS.VALID, TSU_STATUS.HOLDOVER, TSU_STATUS.ROOT, TSU_STATUS.STEP_PEND]⟩
def Reg.TSU_TIME_LO : RegDesc := ⟨"TSU_TIME_LO", 0x480008, 1, 0x0, 1, 0x0, [TSU_TIME_LO.TIME]⟩
def Reg.TSU_TIME_HI : RegDesc := ⟨"TSU_TIME_HI", 0x48000C, 1, 0x0, 1, 0x0, [TSU_TIME_HI.TIME]⟩
def Reg.TSU_RATE : RegDesc := ⟨"TSU_RATE", 0x480010, 1, 0x0, 1, 0x0, [TSU_RATE.RATE]⟩
def Reg.TSU_STEP_LO : RegDesc := ⟨"TSU_STEP_LO", 0x480014, 1, 0x0, 1, 0x0, [TSU_STEP_LO.STEP]⟩
def Reg.TSU_STEP_HI : RegDesc := ⟨"TSU_STEP_HI", 0x480018, 1, 0x0, 1, 0x0, [TSU_STEP_HI.STEP]⟩
def Reg.TSU_STEPCMD : RegDesc := ⟨"TSU_STEPCMD", 0x48001C, 1, 0x0, 1, 0x0, [TSU_STEPCMD.GO]⟩
def Reg.TSU_DELAY : RegDesc := ⟨"TSU_DELAY", 0x480020, 1, 0x0, 1, 0x0, [TSU_DELAY.LOOP]⟩
def Reg.TSU_ASYM : RegDesc := ⟨"TSU_ASYM", 0x480024, 1, 0x0, 1, 0x0, [TSU_ASYM.ASYM]⟩
def Reg.TSU_STEPTHR : RegDesc := ⟨"TSU_STEPTHR", 0x480028, 1, 0x0, 1, 0x0, [TSU_STEPTHR.STEPTHR]⟩
def Reg.TSU_LASTCORR : RegDesc := ⟨"TSU_LASTCORR", 0x48002C, 1, 0x0, 1, 0x0, [TSU_LASTCORR.CORR]⟩

/-- Registers of spec/09_ethernet_and_time.md. -/
def regMap09b : List RegDesc :=
  [Reg.ETH_VMEMB, Reg.ETH_VUNTAG, Reg.TSU_CTRL, Reg.TSU_STATUS,
   Reg.TSU_TIME_LO, Reg.TSU_TIME_HI, Reg.TSU_RATE, Reg.TSU_STEP_LO,
   Reg.TSU_STEP_HI, Reg.TSU_STEPCMD, Reg.TSU_DELAY, Reg.TSU_ASYM,
   Reg.TSU_STEPTHR, Reg.TSU_LASTCORR]

def Reg.PCB_CTRL : RegDesc := ⟨"PCB_CTRL", 0x580000, 1, 0x0, 1, 0x0, [PCB_CTRL.EN, PCB_CTRL.MAXSPD, PCB_CTRL.NPTO, PCB_CTRL.RST_MS]⟩
def Reg.PCB_STATUS : RegDesc := ⟨"PCB_STATUS", 0x580004, 1, 0x0, 1, 0x0, [PCB_STATUS.LINK, PCB_STATUS.SPEED, PCB_STATUS.WIDTH, PCB_STATUS.ROOT, PCB_STATUS.PRESENT, PCB_STATUS.PERST]⟩
def Reg.PCB_RACFG : RegDesc := ⟨"PCB_RACFG", 0x580008, 1, 0x0, 1, 0x0, [PCB_RACFG.RA_SIZE, PCB_RACFG.RA_LIFE]⟩
def Reg.PCB_UNSUP : RegDesc := ⟨"PCB_UNSUP", 0x580040, 1, 0x0, 1, 0x0, [PCB_UNSUP.COUNT]⟩
def Reg.PCB_NPTOCNT : RegDesc := ⟨"PCB_NPTOCNT", 0x580044, 1, 0x0, 1, 0x0, [PCB_NPTOCNT.COUNT]⟩
def Reg.PCB_CPLLATE : RegDesc := ⟨"PCB_CPLLATE", 0x580048, 1, 0x0, 1, 0x0, [PCB_CPLLATE.COUNT]⟩
def Reg.PCB_RAHIT : RegDesc := ⟨"PCB_RAHIT", 0x58004C, 1, 0x0, 1, 0x0, [PCB_RAHIT.COUNT]⟩
def Reg.PCB_RAMISS : RegDesc := ⟨"PCB_RAMISS", 0x580050, 1, 0x0, 1, 0x0, [PCB_RAMISS.COUNT]⟩
def Reg.PCB_RADISC : RegDesc := ⟨"PCB_RADISC", 0x580054, 1, 0x0, 1, 0x0, [PCB_RADISC.COUNT]⟩
def Reg.PCB_PDISC : RegDesc := ⟨"PCB_PDISC", 0x580058, 1, 0x0, 1, 0x0, [PCB_PDISC.COUNT]⟩
def Reg.PCB_RAWIN_BLO : RegDesc := ⟨"PCB_RAWIN_BLO", 0x580100, 4, 0x10, 1, 0x0, [PCB_RAWIN_BLO.PREF, PCB_RAWIN_BLO.BASE]⟩
def Reg.PCB_RAWIN_BHI : RegDesc := ⟨"PCB_RAWIN_BHI", 0x580104, 4, 0x10, 1, 0x0, [PCB_RAWIN_BHI.BASE]⟩
def Reg.PCB_RAWIN_LLO : RegDesc := ⟨"PCB_RAWIN_LLO", 0x580108, 4, 0x10, 1, 0x0, [PCB_RAWIN_LLO.LIMIT]⟩
def Reg.PCB_RAWIN_LHI : RegDesc := ⟨"PCB_RAWIN_LHI", 0x58010C, 4, 0x10, 1, 0x0, [PCB_RAWIN_LHI.LIMIT]⟩
def Reg.PCB_VDSP : RegDesc := ⟨"PCB_VDSP", 0x580200, 31, 0x8, 1, 0x0, [PCB_VDSP.PRESENT, PCB_VDSP.SSDUP, PCB_VDSP.TUNREADY, PCB_VDSP.SPEED, PCB_VDSP.WIDTH, PCB_VDSP.HUB]⟩
def Reg.PCB_VOUT : RegDesc := ⟨"PCB_VOUT", 0x580204, 31, 0x8, 1, 0x0, [PCB_VOUT.NP, PCB_VOUT.PCRED]⟩

/-- Registers of spec/10_storage_bridge.md. -/
def regMap10a : List RegDesc :=
  [Reg.PCB_CTRL, Reg.PCB_STATUS, Reg.PCB_RACFG, Reg.PCB_UNSUP,
   Reg.PCB_NPTOCNT, Reg.PCB_CPLLATE, Reg.PCB_RAHIT, Reg.PCB_RAMISS,
   Reg.PCB_RADISC, Reg.PCB_PDISC, Reg.PCB_RAWIN_BLO, Reg.PCB_RAWIN_BHI,
   Reg.PCB_RAWIN_LLO, Reg.PCB_RAWIN_LHI, Reg.PCB_VDSP, Reg.PCB_VOUT]

def Reg.DPT_CTRL : RegDesc := ⟨"DPT_CTRL", 0x5C0000, 2, 0x100, 1, 0x0, [DPT_CTRL.EN, DPT_CTRL.MAXRATE, DPT_CTRL.MAXLANES, DPT_CTRL.CONCEAL, DPT_CTRL.PLAYOUT]⟩
def Reg.DPT_STATUS : RegDesc := ⟨"DPT_STATUS", 0x5C0004, 2, 0x100, 1, 0x0, [DPT_STATUS.SINK, DPT_STATUS.LINK, DPT_STATUS.RATE, DPT_STATUS.LANES, DPT_STATUS.FEC, DPT_STATUS.DSC, DPT_STATUS.STREAM, DPT_STATUS.LOCK, DPT_STATUS.EDID, DPT_STATUS.NOFIT]⟩
def Reg.DPT_CVLOSS : RegDesc := ⟨"DPT_CVLOSS", 0x5C0040, 2, 0x100, 1, 0x0, [DPT_CVLOSS.COUNT]⟩
def Reg.DPT_CCONCEAL : RegDesc := ⟨"DPT_CCONCEAL", 0x5C0044, 2, 0x100, 1, 0x0, [DPT_CCONCEAL.COUNT]⟩
def Reg.DPT_CUNDERRUN : RegDesc := ⟨"DPT_CUNDERRUN", 0x5C0048, 2, 0x100, 1, 0x0, [DPT_CUNDERRUN.COUNT]⟩
def Reg.DPT_COVERRUN : RegDesc := ⟨"DPT_COVERRUN", 0x5C004C, 2, 0x100, 1, 0x0, [DPT_COVERRUN.COUNT]⟩
def Reg.DPT_CAUXFWD : RegDesc := ⟨"DPT_CAUXFWD", 0x5C0050, 2, 0x100, 1, 0x0, [DPT_CAUXFWD.COUNT]⟩
def Reg.DPT_CAUXDEFER : RegDesc := ⟨"DPT_CAUXDEFER", 0x5C0054, 2, 0x100, 1, 0x0, [DPT_CAUXDEFER.COUNT]⟩
def Reg.DPT_CAUXFAIL : RegDesc := ⟨"DPT_CAUXFAIL", 0x5C0058, 2, 0x100, 1, 0x0, [DPT_CAUXFAIL.COUNT]⟩

/-- Registers of spec/11_display_tunnels.md. -/
def regMap11a : List RegDesc :=
  [Reg.DPT_CTRL, Reg.DPT_STATUS, Reg.DPT_CVLOSS, Reg.DPT_CCONCEAL,
   Reg.DPT_CUNDERRUN, Reg.DPT_COVERRUN, Reg.DPT_CAUXFWD, Reg.DPT_CAUXDEFER,
   Reg.DPT_CAUXFAIL]

def Reg.USB_CTRL : RegDesc := ⟨"USB_CTRL", 0x600000, 1, 0x0, 1, 0x0, [USB_CTRL.EN, USB_CTRL.TCSEL2, USB_CTRL.TCSEL3, USB_CTRL.NAK_MS, USB_CTRL.ORPHAN_MS]⟩
def Reg.USB_STATUS : RegDesc := ⟨"USB_STATUS", 0x600004, 1, 0x0, 1, 0x0, [USB_STATUS.RUN, USB_STATUS.SUSPENDED, USB_STATUS.ORPHAN, USB_STATUS.NOFIT, USB_STATUS.ENTRIES, USB_STATUS.HBCOUNT, USB_STATUS.NEXT_BSEQ]⟩
def Reg.USB_UFRAME : RegDesc := ⟨"USB_UFRAME", 0x600008, 1, 0x0, 1, 0x0, [USB_UFRAME.UFRAME]⟩
def Reg.USB_PORT : RegDesc := ⟨"USB_PORT", 0x600010, 4, 0x4, 1, 0x0, [USB_PORT.CONNECT, USB_PORT.ENABLE, USB_PORT.SUSPEND, USB_PORT.OVERCURRENT, USB_PORT.RESET, USB_PORT.POWER, USB_PORT.SPEED, USB_PORT.TCPORT, USB_PORT.CHANGE, USB_PORT.WAKE]⟩
def Reg.RTE_DUP : RegDesc := ⟨"RTE_DUP", 0x600040, 1, 0x0, 1, 0x0, [RTE_DUP.COUNT]⟩
def Reg.RTE_BADSEQ : RegDesc := ⟨"RTE_BADSEQ", 0x600044, 1, 0x0, 1, 0x0, [RTE_BADSEQ.COUNT]⟩
def Reg.RTE_QFULL : RegDesc := ⟨"RTE_QFULL", 0x600048, 1, 0x0, 1, 0x0, [RTE_QFULL.COUNT]⟩
def Reg.RTE_BADMSG : RegDesc := ⟨"RTE_BADMSG", 0x60004C, 1, 0x0, 1, 0x0, [RTE_BADMSG.COUNT]⟩
def Reg.USB_PXERR : RegDesc := ⟨"USB_PXERR", 0x600050, 1, 0x0, 1, 0x0, [USB_PXERR.COUNT]⟩
def Reg.USB_POUNDER : RegDesc := ⟨"USB_POUNDER", 0x600054, 1, 0x0, 1, 0x0, [USB_POUNDER.COUNT]⟩
def Reg.USB_POLATE : RegDesc := ⟨"USB_POLATE", 0x600058, 1, 0x0, 1, 0x0, [USB_POLATE.COUNT]⟩
def Reg.USB_POOVR : RegDesc := ⟨"USB_POOVR", 0x60005C, 1, 0x0, 1, 0x0, [USB_POOVR.COUNT]⟩
def Reg.USB_POLOSS : RegDesc := ⟨"USB_POLOSS", 0x600060, 1, 0x0, 1, 0x0, [USB_POLOSS.COUNT]⟩
def Reg.USB_PIDROP : RegDesc := ⟨"USB_PIDROP", 0x600064, 1, 0x0, 1, 0x0, [USB_PIDROP.COUNT]⟩
def Reg.USB_PENT0 : RegDesc := ⟨"USB_PENT0", 0x601000, 64, 0x10, 1, 0x0, [USB_PENT0.DEV, USB_PENT0.EPN, USB_PENT0.DIR, USB_PENT0.TYPE, USB_PENT0.SPEED, USB_PENT0.PORT, USB_PENT0.MULT_M1, USB_PENT0.INTERVAL, USB_PENT0.TOG, USB_PENT0.VALID]⟩
def Reg.USB_PENT1 : RegDesc := ⟨"USB_PENT1", 0x601004, 64, 0x10, 1, 0x0, [USB_PENT1.MPS, USB_PENT1.PHASE]⟩
def Reg.USB_PENT2 : RegDesc := ⟨"USB_PENT2", 0x601008, 64, 0x10, 1, 0x0, [USB_PENT2.START, USB_PENT2.DEPTH]⟩
def Reg.USB_PENT3 : RegDesc := ⟨"USB_PENT3", 0x60100C, 64, 0x10, 1, 0x0, [USB_PENT3.MISS]⟩

/-- Registers of spec/12_usb_hub.md. -/
def regMap12a : List RegDesc :=
  [Reg.USB_CTRL, Reg.USB_STATUS, Reg.USB_UFRAME, Reg.USB_PORT,
   Reg.RTE_DUP, Reg.RTE_BADSEQ, Reg.RTE_QFULL, Reg.RTE_BADMSG,
   Reg.USB_PXERR, Reg.USB_POUNDER, Reg.USB_POLATE, Reg.USB_POOVR,
   Reg.USB_POLOSS, Reg.USB_PIDROP, Reg.USB_PENT0, Reg.USB_PENT1,
   Reg.USB_PENT2, Reg.USB_PENT3]

def Reg.TCP_CTRL : RegDesc := ⟨"TCP_CTRL", 0x640000, 2, 0x100, 1, 0x0, [TCP_CTRL.EN, TCP_CTRL.ROLE, TCP_CTRL.PREF, TCP_CTRL.VCONN_EN, TCP_CTRL.WAKE_ATT, TCP_CTRL.RP_DEF, TCP_CTRL.POLICY_MS]⟩
def Reg.TCP_STATUS : RegDesc := ⟨"TCP_STATUS", 0x640004, 2, 0x100, 1, 0x0, [TCP_STATUS.TCSTATE, TCP_STATUS.ORIENT, TCP_STATUS.PROLE, TCP_STATUS.DROLE, TCP_STATUS.VCONN_ON, TCP_STATUS.CONTRACT, TCP_STATUS.FALLBACK, TCP_STATUS.PDREV, TCP_STATUS.RP_SEEN, TCP_STATUS.TRANSITION]⟩
def Reg.TCP_CONTRACT : RegDesc := ⟨"TCP_CONTRACT", 0x640008, 2, 0x100, 1, 0x0, [TCP_CONTRACT.VOLT, TCP_CONTRACT.CURRENT, TCP_CONTRACT.OBJPOS]⟩
def Reg.TCP_VBUS : RegDesc := ⟨"TCP_VBUS", 0x64000C, 2, 0x100, 1, 0x0, [TCP_VBUS.VBUS]⟩
def Reg.TCP_SRCCAP : RegDesc := ⟨"TCP_SRCCAP", 0x640010, 2, 0x100, 7, 0x4, [TCP_SRCCAP.PDO]⟩
def Reg.TCP_RXMSG : RegDesc := ⟨"TCP_RXMSG", 0x640040, 2, 0x100, 1, 0x0, [TCP_RXMSG.COUNT]⟩
def Reg.TCP_TXMSG : RegDesc := ⟨"TCP_TXMSG", 0x640044, 2, 0x100, 1, 0x0, [TCP_TXMSG.COUNT]⟩
def Reg.TCP_RETRY : RegDesc := ⟨"TCP_RETRY", 0x640048, 2, 0x100, 1, 0x0, [TCP_RETRY.COUNT]⟩
def Reg.TCP_TXFAIL : RegDesc := ⟨"TCP_TXFAIL", 0x64004C, 2, 0x100, 1, 0x0, [TCP_TXFAIL.COUNT]⟩
def Reg.TCP_RXDUP : RegDesc := ⟨"TCP_RXDUP", 0x640050, 2, 0x100, 1, 0x0, [TCP_RXDUP.COUNT]⟩
def Reg.TCP_HARDRST : RegDesc := ⟨"TCP_HARDRST", 0x640054, 2, 0x100, 1, 0x0, [TCP_HARDRST.COUNT]⟩
def Reg.TCP_POLTO : RegDesc := ⟨"TCP_POLTO", 0x640058, 2, 0x100, 1, 0x0, [TCP_POLTO.COUNT]⟩
def Reg.TCP_COLL : RegDesc := ⟨"TCP_COLL", 0x64005C, 2, 0x100, 1, 0x0, [TCP_COLL.COUNT]⟩
def Reg.TCP_FALLBACK : RegDesc := ⟨"TCP_FALLBACK", 0x640200, 1, 0x0, 1, 0x0, [TCP_FALLBACK.FB_SRC_MA, TCP_FALLBACK.FB_SNK_MA]⟩

/-- Registers of spec/13_typec_power_negotiation.md. -/
def regMap13a : List RegDesc :=
  [Reg.TCP_CTRL, Reg.TCP_STATUS, Reg.TCP_CONTRACT, Reg.TCP_VBUS,
   Reg.TCP_SRCCAP, Reg.TCP_RXMSG, Reg.TCP_TXMSG, Reg.TCP_RETRY,
   Reg.TCP_TXFAIL, Reg.TCP_RXDUP, Reg.TCP_HARDRST, Reg.TCP_POLTO,
   Reg.TCP_COLL, Reg.TCP_FALLBACK]

def Reg.PWP_STATUS : RegDesc := ⟨"PWP_STATUS", 0x680000, 1, 0x0, 1, 0x0, [PWP_STATUS.A_VALID, PWP_STATUS.B_VALID, PWP_STATUS.A_ON, PWP_STATUS.B_ON, PWP_STATUS.A_OV, PWP_STATUS.B_OV, PWP_STATUS.IN_GOOD, PWP_STATUS.IN_LATCH, PWP_STATUS.IN_TRIES]⟩
def Reg.PWP_INCFG : RegDesc := ⟨"PWP_INCFG", 0x680004, 1, 0x0, 1, 0x0, [PWP_INCFG.DVDT, PWP_INCFG.FT_IN, PWP_INCFG.ILIM_IN]⟩
def Reg.PWP_INSNS : RegDesc := ⟨"PWP_INSNS", 0x680008, 1, 0x0, 1, 0x0, [PWP_INSNS.RSNS]⟩
def Reg.PWP_WAKE : RegDesc := ⟨"PWP_WAKE", 0x68000C, 1, 0x0, 1, 0x0, [PWP_WAKE.WFEED, PWP_WAKE.WTRIP, PWP_WAKE.WPRES]⟩
def Reg.PWP_FEEDV : RegDesc := ⟨"PWP_FEEDV", 0x680010, 1, 0x0, 1, 0x0, [PWP_FEEDV.VIN_A, PWP_FEEDV.VIN_B]⟩
def Reg.PWP_TELCMD : RegDesc := ⟨"PWP_TELCMD", 0x680014, 1, 0x0, 1, 0x0, [PWP_TELCMD.ECLR]⟩
def Reg.PWP_REVCNT : RegDesc := ⟨"PWP_REVCNT", 0x680018, 1, 0x0, 1, 0x0, [PWP_REVCNT.REV_A, PWP_REVCNT.REV_B]⟩
def Reg.PWP_TV : RegDesc := ⟨"PWP_TV", 0x680100, 4, 0x20, 1, 0x0, [PWP_TV.V]⟩
def Reg.PWP_TI : RegDesc := ⟨"PWP_TI", 0x680104, 4, 0x20, 1, 0x0, [PWP_TI.I]⟩
def Reg.PWP_TP : RegDesc := ⟨"PWP_TP", 0x680108, 4, 0x20, 1, 0x0, [PWP_TP.P]⟩
def Reg.PWP_TE_LO : RegDesc := ⟨"PWP_TE_LO", 0x68010C, 4, 0x20, 1, 0x0, [PWP_TE_LO.E]⟩
def Reg.PWP_TE_HI : RegDesc := ⟨"PWP_TE_HI", 0x680110, 4, 0x20, 1, 0x0, [PWP_TE_HI.E]⟩
def Reg.PWP_TIPK : RegDesc := ⟨"PWP_TIPK", 0x680114, 4, 0x20, 1, 0x0, [PWP_TIPK.IPK]⟩
def Reg.PWP_EFCTL : RegDesc := ⟨"PWP_EFCTL", 0x680200, 3, 0x20, 1, 0x0, [PWP_EFCTL.EN, PWP_EFCTL.PRES_EN, PWP_EFCTL.PG_HOLD, PWP_EFCTL.PORT, PWP_EFCTL.COOL]⟩
def Reg.PWP_EFCFG : RegDesc := ⟨"PWP_EFCFG", 0x680204, 3, 0x20, 1, 0x0, [PWP_EFCFG.ILIM, PWP_EFCFG.FT, PWP_EFCFG.SS]⟩
def Reg.PWP_EFSNS : RegDesc := ⟨"PWP_EFSNS", 0x680208, 3, 0x20, 1, 0x0, [PWP_EFSNS.RSNS]⟩
def Reg.PWP_EFSTAT : RegDesc := ⟨"PWP_EFSTAT", 0x68020C, 3, 0x20, 1, 0x0, [PWP_EFSTAT.STATE, PWP_EFSTAT.PG, PWP_EFSTAT.LIMIT, PWP_EFSTAT.PRES, PWP_EFSTAT.CAUSE, PWP_EFSTAT.SHORT, PWP_EFSTAT.FTIMER]⟩
def Reg.PWP_EFCNT : RegDesc := ⟨"PWP_EFCNT", 0x680210, 3, 0x20, 1, 0x0, [PWP_EFCNT.TRIPS, PWP_EFCNT.REINS]⟩

/-- Registers of spec/14_48v_power_path.md. -/
def regMap14a : List RegDesc :=
  [Reg.PWP_STATUS, Reg.PWP_INCFG, Reg.PWP_INSNS, Reg.PWP_WAKE,
   Reg.PWP_FEEDV, Reg.PWP_TELCMD, Reg.PWP_REVCNT, Reg.PWP_TV,
   Reg.PWP_TI, Reg.PWP_TP, Reg.PWP_TE_LO, Reg.PWP_TE_HI,
   Reg.PWP_TIPK, Reg.PWP_EFCTL, Reg.PWP_EFCFG, Reg.PWP_EFSNS,
   Reg.PWP_EFSTAT, Reg.PWP_EFCNT]

def Reg.CPM_STATE : RegDesc := ⟨"CPM_STATE", 0x20000, 1, 0x0, 1, 0x0, [CPM_STATE.STATE, CPM_STATE.PS_ARM]⟩
def Reg.CPM_PSCMD : RegDesc := ⟨"CPM_PSCMD", 0x20004, 1, 0x0, 1, 0x0, [CPM_PSCMD.OP, CPM_PSCMD.GO]⟩
def Reg.CPM_TRIM : RegDesc := ⟨"CPM_TRIM", 0x20008, 1, 0x0, 1, 0x0, [CPM_TRIM.GATE_EN, CPM_TRIM.IDLE_MS]⟩
def Reg.CPM_DSTAT : RegDesc := ⟨"CPM_DSTAT", 0x2000C, 1, 0x0, 1, 0x0, [CPM_DSTAT.D0, CPM_DSTAT.D1, CPM_DSTAT.D2, CPM_DSTAT.D3, CPM_DSTAT.D4, CPM_DSTAT.D5, CPM_DSTAT.D6, CPM_DSTAT.D7, CPM_DSTAT.D8, CPM_DSTAT.D9, CPM_DSTAT.D10, CPM_DSTAT.D11, CPM_DSTAT.D12]⟩
def Reg.CPM_WAKEF : RegDesc := ⟨"CPM_WAKEF", 0x20010, 1, 0x0, 1, 0x0, [CPM_WAKEF.WAKEF]⟩
def Reg.CPM_DOZEWAKE : RegDesc := ⟨"CPM_DOZEWAKE", 0x20014, 1, 0x0, 1, 0x0, [CPM_DOZEWAKE.WPIN, CPM_DOZEWAKE.WRTC, CPM_DOZEWAKE.WSPI, CPM_DOZEWAKE.WDI]⟩
def Reg.CPM_ALARM : RegDesc := ⟨"CPM_ALARM", 0x20018, 1, 0x0, 1, 0x0, [CPM_ALARM.ALARM_S]⟩
def Reg.CPM_ULP : RegDesc := ⟨"CPM_ULP", 0x2001C, 1, 0x0, 1, 0x0, [CPM_ULP.ULP_ACT, CPM_ULP.ULP_S]⟩
def Reg.CPM_PLLSTAT : RegDesc := ⟨"CPM_PLLSTAT", 0x20020, 1, 0x0, 1, 0x0, [CPM_PLLSTAT.LOCK, CPM_PLLSTAT.ROOTSRC, CPM_PLLSTAT.HOLDOVER]⟩
def Reg.CPM_AVS : RegDesc := ⟨"CPM_AVS", 0x20024, 1, 0x0, 1, 0x0, [CPM_AVS.AVS_EN, CPM_AVS.FAIL, CPM_AVS.AVS_FIX, CPM_AVS.AVS_MIN, CPM_AVS.AVS_MAX, CPM_AVS.AVS_NOW]⟩
def Reg.CPM_DRAINCNT : RegDesc := ⟨"CPM_DRAINCNT", 0x20028, 1, 0x0, 1, 0x0, [CPM_DRAINCNT.ABORTS, CPM_DRAINCNT.DRAINS]⟩
def Reg.CPM_WAKESRC : RegDesc := ⟨"CPM_WAKESRC", 0x2002C, 1, 0x0, 1, 0x0, [CPM_WAKESRC.SRC]⟩

/-- Registers of spec/15_power_states_domains_clocks.md. -/
def regMap15a : List RegDesc :=
  [Reg.CPM_STATE, Reg.CPM_PSCMD, Reg.CPM_TRIM, Reg.CPM_DSTAT,
   Reg.CPM_WAKEF, Reg.CPM_DOZEWAKE, Reg.CPM_ALARM, Reg.CPM_ULP,
   Reg.CPM_PLLSTAT, Reg.CPM_AVS, Reg.CPM_DRAINCNT, Reg.CPM_WAKESRC]

def Reg.BOOT_STATUS : RegDesc := ⟨"BOOT_STATUS", 0x30000, 1, 0x0, 1, 0x0, [BOOT_STATUS.MODE, BOOT_STATUS.LOCK, BOOT_STATUS.SRC, BOOT_STATUS.COPY, BOOT_STATUS.TRIAL, BOOT_STATUS.STEP, BOOT_STATUS.STATUS, BOOT_STATUS.ARM, BOOT_STATUS.PUSHWAIT]⟩
def Reg.BOOT_CAUSE : RegDesc := ⟨"BOOT_CAUSE", 0x30004, 1, 0x0, 1, 0x0, [BOOT_CAUSE.CAUSE, BOOT_CAUSE.VBAT_LOST]⟩
def Reg.BOOT_GEN_LO : RegDesc := ⟨"BOOT_GEN_LO", 0x30008, 1, 0x0, 1, 0x0, [BOOT_GEN_LO.GEN]⟩
def Reg.BOOT_GEN_HI : RegDesc := ⟨"BOOT_GEN_HI", 0x3000C, 1, 0x0, 1, 0x0, [BOOT_GEN_HI.GEN]⟩
def Reg.BOOT_SVN : RegDesc := ⟨"BOOT_SVN", 0x30010, 1, 0x0, 1, 0x0, [BOOT_SVN.RUN_SVN, BOOT_SVN.FLOOR]⟩
def Reg.BOOT_ZSTATE : RegDesc := ⟨"BOOT_ZSTATE", 0x30014, 1, 0x0, 1, 0x0, [BOOT_ZSTATE.TRIES]⟩
def Reg.BOOT_CONF_LO : RegDesc := ⟨"BOOT_CONF_LO", 0x30018, 1, 0x0, 1, 0x0, [BOOT_CONF_LO.GEN]⟩
def Reg.BOOT_CONF_HI : RegDesc := ⟨"BOOT_CONF_HI", 0x3001C, 1, 0x0, 1, 0x0, [BOOT_CONF_HI.GEN]⟩
def Reg.BOOT_TRIAL_LO : RegDesc := ⟨"BOOT_TRIAL_LO", 0x30020, 1, 0x0, 1, 0x0, [BOOT_TRIAL_LO.GEN]⟩
def Reg.BOOT_TRIAL_HI : RegDesc := ⟨"BOOT_TRIAL_HI", 0x30024, 1, 0x0, 1, 0x0, [BOOT_TRIAL_HI.GEN]⟩
def Reg.BOOT_NEXT : RegDesc := ⟨"BOOT_NEXT", 0x30028, 1, 0x0, 1, 0x0, [BOOT_NEXT.MARCH, BOOT_NEXT.FORCE_COPY]⟩
def Reg.BOOT_CMD : RegDesc := ⟨"BOOT_CMD", 0x3002C, 1, 0x0, 1, 0x0, [BOOT_CMD.OP]⟩
def Reg.BOOT_PUSHPTR : RegDesc := ⟨"BOOT_PUSHPTR", 0x30030, 1, 0x0, 1, 0x0, [BOOT_PUSHPTR.PTR]⟩
def Reg.BOOT_PUSHDATA : RegDesc := ⟨"BOOT_PUSHDATA", 0x30034, 1, 0x0, 1, 0x0, [BOOT_PUSHDATA.DATA]⟩
def Reg.BOOT_SECTFAIL : RegDesc := ⟨"BOOT_SECTFAIL", 0x30038, 1, 0x0, 1, 0x0, [BOOT_SECTFAIL.TYPE, BOOT_SECTFAIL.STATUS, BOOT_SECTFAIL.RECORD]⟩
def Reg.BOOT_COPYSTAT : RegDesc := ⟨"BOOT_COPYSTAT", 0x3003C, 1, 0x0, 1, 0x0, [BOOT_COPYSTAT.A_STATUS, BOOT_COPYSTAT.B_STATUS]⟩
def Reg.BOOT_TIME : RegDesc := ⟨"BOOT_TIME", 0x30040, 1, 0x0, 1, 0x0, [BOOT_TIME.T_LOCK, BOOT_TIME.T_ACTIVE]⟩
def Reg.BOOT_BIDBUF : RegDesc := ⟨"BOOT_BIDBUF", 0x30050, 4, 0x4, 1, 0x0, [BOOT_BIDBUF.WORD]⟩
def Reg.BOOT_BIDSTAT : RegDesc := ⟨"BOOT_BIDSTAT", 0x30060, 1, 0x0, 1, 0x0, [BOOT_BIDSTAT.USED]⟩

/-- Registers of spec/16_start_up_and_image.md. -/
def regMap16a : List RegDesc :=
  [Reg.BOOT_STATUS, Reg.BOOT_CAUSE, Reg.BOOT_GEN_LO, Reg.BOOT_GEN_HI,
   Reg.BOOT_SVN, Reg.BOOT_ZSTATE, Reg.BOOT_CONF_LO, Reg.BOOT_CONF_HI,
   Reg.BOOT_TRIAL_LO, Reg.BOOT_TRIAL_HI, Reg.BOOT_NEXT, Reg.BOOT_CMD,
   Reg.BOOT_PUSHPTR, Reg.BOOT_PUSHDATA, Reg.BOOT_SECTFAIL, Reg.BOOT_COPYSTAT,
   Reg.BOOT_TIME, Reg.BOOT_BIDBUF, Reg.BOOT_BIDSTAT]

def Reg.GLB_ID : RegDesc := ⟨"GLB_ID", 0x0, 1, 0x0, 1, 0x0, [GLB_ID.PART, GLB_ID.REV]⟩
def Reg.GLB_HUB : RegDesc := ⟨"GLB_HUB", 0x4, 1, 0x0, 1, 0x0, [GLB_HUB.HUB, GLB_HUB.ROOT]⟩
def Reg.GLB_ZONE : RegDesc := ⟨"GLB_ZONE", 0x8, 1, 0x0, 1, 0x0, [GLB_ZONE.ZONE]⟩
def Reg.EVU_CTRL : RegDesc := ⟨"EVU_CTRL", 0x10000, 1, 0x0, 1, 0x0, [EVU_CTRL.NOTIFY, EVU_CTRL.DEST, EVU_CTRL.HIWM, EVU_CTRL.LOWM]⟩
def Reg.EVU_STATUS : RegDesc := ⟨"EVU_STATUS", 0x10004, 1, 0x0, 1, 0x0, [EVU_STATUS.COUNT, EVU_STATUS.FC, EVU_STATUS.OVF]⟩
def Reg.EVU_EVQ : RegDesc := ⟨"EVU_EVQ", 0x10010, 4, 0x4, 1, 0x0, [EVU_EVQ.WORD]⟩
def Reg.EVU_EVQPOP : RegDesc := ⟨"EVU_EVQPOP", 0x10020, 1, 0x0, 1, 0x0, [EVU_EVQPOP.EVSEQ, EVU_EVQPOP.CLR]⟩
def Reg.EVU_LOST : RegDesc := ⟨"EVU_LOST", 0x10024, 1, 0x0, 1, 0x0, [EVU_LOST.COUNT]⟩
def Reg.EVU_SRC : RegDesc := ⟨"EVU_SRC", 0x11000, 1024, 0x4, 1, 0x0, [EVU_SRC.STATUS, EVU_SRC.EN, EVU_SRC.SEV, EVU_SRC.REPEAT]⟩
def Reg.NIM_CCTRL : RegDesc := ⟨"NIM_CCTRL", 0x700000, 4, 0x10, 1, 0x0, [NIM_CCTRL.HALT]⟩
def Reg.NIM_CSTAT : RegDesc := ⟨"NIM_CSTAT", 0x700004, 4, 0x10, 1, 0x0, [NIM_CSTAT.RUNNING, NIM_CSTAT.TRAPPED, NIM_CSTAT.BUILTIN, NIM_CSTAT.USED]⟩
def Reg.NIM_DMASTAT : RegDesc := ⟨"NIM_DMASTAT", 0x700008, 4, 0x10, 1, 0x0, [NIM_DMASTAT.SPB, NIM_DMASTAT.XFER, NIM_DMASTAT.SPBCNT]⟩
def Reg.NIM_WINSEL : RegDesc := ⟨"NIM_WINSEL", 0x700040, 1, 0x0, 1, 0x0, [NIM_WINSEL.CORE]⟩
def Reg.NIM_WDOG : RegDesc := ⟨"NIM_WDOG", 0x700044, 1, 0x0, 1, 0x0, [NIM_WDOG.WD_S]⟩
def Reg.NIM_PSTAT : RegDesc := ⟨"NIM_PSTAT", 0x700100, 16, 0x8, 1, 0x0, [NIM_PSTAT.SERVICE, NIM_PSTAT.CORE, NIM_PSTAT.STOPPED, NIM_PSTAT.BUDGET]⟩
def Reg.NIM_POVR : RegDesc := ⟨"NIM_POVR", 0x700104, 16, 0x8, 1, 0x0, [NIM_POVR.OVR, NIM_POVR.OVR_LIM]⟩

/-- Registers of spec/17_management_services_events.md. -/
def regMap17a : List RegDesc :=
  [Reg.GLB_ID, Reg.GLB_HUB, Reg.GLB_ZONE, Reg.EVU_CTRL,
   Reg.EVU_STATUS, Reg.EVU_EVQ, Reg.EVU_EVQPOP, Reg.EVU_LOST,
   Reg.EVU_SRC, Reg.NIM_CCTRL, Reg.NIM_CSTAT, Reg.NIM_DMASTAT,
   Reg.NIM_WINSEL, Reg.NIM_WDOG, Reg.NIM_PSTAT, Reg.NIM_POVR]

def Reg.SEC_STATUS : RegDesc := ⟨"SEC_STATUS", 0x40000, 1, 0x0, 1, 0x0, [SEC_STATUS.LC, SEC_STATUS.DAWN_VALID, SEC_STATUS.TAMPERED, SEC_STATUS.DUSK_OK, SEC_STATUS.ID_OK, SEC_STATUS.CERT_OK, SEC_STATUS.DRBG_OK, SEC_STATUS.TAMP_NOW, SEC_STATUS.JBUSY]⟩
def Reg.SEC_TAMPER : RegDesc := ⟨"SEC_TAMPER", 0x40004, 1, 0x0, 1, 0x0, [SEC_TAMPER.CAUSE]⟩
def Reg.SEC_TAMPCFG : RegDesc := ⟨"SEC_TAMPCFG", 0x40008, 1, 0x0, 1, 0x0, [SEC_TAMPCFG.EN]⟩
def Reg.SEC_UID_LO : RegDesc := ⟨"SEC_UID_LO", 0x4000C, 1, 0x0, 1, 0x0, [SEC_UID_LO.UID]⟩
def Reg.SEC_UID_HI : RegDesc := ⟨"SEC_UID_HI", 0x40010, 1, 0x0, 1, 0x0, [SEC_UID_HI.UID]⟩
def Reg.SEC_CMD : RegDesc := ⟨"SEC_CMD", 0x40014, 1, 0x0, 1, 0x0, [SEC_CMD.OP]⟩
def Reg.SEC_TOKLEN : RegDesc := ⟨"SEC_TOKLEN", 0x40018, 1, 0x0, 1, 0x0, [SEC_TOKLEN.LEN]⟩
def Reg.SEC_CMDRES : RegDesc := ⟨"SEC_CMDRES", 0x4001C, 1, 0x0, 1, 0x0, [SEC_CMDRES.STATUS, SEC_CMDRES.RECORD, SEC_CMDRES.OP]⟩
def Reg.SEC_NONCE : RegDesc := ⟨"SEC_NONCE", 0x40020, 4, 0x4, 1, 0x0, [SEC_NONCE.WORD]⟩
def Reg.SEC_JSTAT : RegDesc := ⟨"SEC_JSTAT", 0x40030, 1, 0x0, 1, 0x0, [SEC_JSTAT.J0_VALID, SEC_JSTAT.J1_VALID, SEC_JSTAT.CUR, SEC_JSTAT.BUSY]⟩
def Reg.SEC_JGEN : RegDesc := ⟨"SEC_JGEN", 0x40034, 2, 0x4, 1, 0x0, [SEC_JGEN.WORD]⟩
def Reg.SEC_JMASK : RegDesc := ⟨"SEC_JMASK", 0x4003C, 2, 0x4, 1, 0x0, [SEC_JMASK.WORD]⟩
def Reg.SEC_SLOT : RegDesc := ⟨"SEC_SLOT", 0x40200, 64, 0x10, 1, 0x0, [SEC_SLOT.STATE, SEC_SLOT.KTYPE, SEC_SLOT.LIMIT, SEC_SLOT.PERSIST, SEC_SLOT.DAWNBOUND, SEC_SLOT.SOURCE]⟩
def Reg.SEC_SCOUNT : RegDesc := ⟨"SEC_SCOUNT", 0x40204, 64, 0x10, 1, 0x0, [SEC_SCOUNT.COUNT]⟩
def Reg.SEC_SKCV : RegDesc := ⟨"SEC_SKCV", 0x40208, 64, 0x10, 1, 0x0, [SEC_SKCV.KCV]⟩

/-- Registers of spec/18_keys_lifecycle_crypto.md. -/
def regMap18a : List RegDesc :=
  [Reg.SEC_STATUS, Reg.SEC_TAMPER, Reg.SEC_TAMPCFG, Reg.SEC_UID_LO,
   Reg.SEC_UID_HI, Reg.SEC_CMD, Reg.SEC_TOKLEN, Reg.SEC_CMDRES,
   Reg.SEC_NONCE, Reg.SEC_JSTAT, Reg.SEC_JGEN, Reg.SEC_JMASK,
   Reg.SEC_SLOT, Reg.SEC_SCOUNT, Reg.SEC_SKCV]

def Reg.MEM_SCRUB : RegDesc := ⟨"MEM_SCRUB", 0x800000, 1, 0x0, 1, 0x0, [MEM_SCRUB.SCRUB_EN, MEM_SCRUB.SCRUB_EXP, MEM_SCRUB.CE_LIM]⟩
def Reg.MEM_MCMD : RegDesc := ⟨"MEM_MCMD", 0x800010, 1, 0x0, 1, 0x0, [MEM_MCMD.OP, MEM_MCMD.ALG, MEM_MCMD.DESTR, MEM_MCMD.FIRST, MEM_MCMD.COUNT]⟩
def Reg.MEM_MSTAT : RegDesc := ⟨"MEM_MSTAT", 0x800014, 1, 0x0, 1, 0x0, [MEM_MSTAT.RUN, MEM_MSTAT.DONE, MEM_MSTAT.FAULTY, MEM_MSTAT.FIRSTBAD]⟩
def Reg.MEM_FUSECMD : RegDesc := ⟨"MEM_FUSECMD", 0x800018, 1, 0x0, 1, 0x0, [MEM_FUSECMD.GO]⟩
def Reg.MEM_CAP0 : RegDesc := ⟨"MEM_CAP0", 0x800100, 14, 0x10, 1, 0x0, [MEM_CAP0.VALID, MEM_CAP0.MULTI, MEM_CAP0.COUNT, MEM_CAP0.MACRO]⟩
def Reg.MEM_CAP1 : RegDesc := ⟨"MEM_CAP1", 0x800104, 14, 0x10, 1, 0x0, [MEM_CAP1.WORD, MEM_CAP1.SYNDROME, MEM_CAP1.SCRUB]⟩
def Reg.MEM_CAP2 : RegDesc := ⟨"MEM_CAP2", 0x800108, 14, 0x10, 1, 0x0, [MEM_CAP2.TIME]⟩
def Reg.MEM_CAP3 : RegDesc := ⟨"MEM_CAP3", 0x80010C, 14, 0x10, 1, 0x0, [MEM_CAP3.TIME]⟩
def Reg.MEM_MACRO : RegDesc := ⟨"MEM_MACRO", 0x801000, 616, 0x4, 1, 0x0, [MEM_MACRO.HROWS, MEM_MACRO.HCOLS, MEM_MACRO.SROWS, MEM_MACRO.SCOLS, MEM_MACRO.FAILED, MEM_MACRO.CEHIGH, MEM_MACRO.FAULTS, MEM_MACRO.CE]⟩
def Reg.DBG_STATUS : RegDesc := ⟨"DBG_STATUS", 0x880000, 1, 0x0, 1, 0x0, [DBG_STATUS.DBG_TMUX, DBG_STATUS.DBG_JTAG, DBG_STATUS.REMAIN]⟩
def Reg.DBG_CMD : RegDesc := ⟨"DBG_CMD", 0x880004, 1, 0x0, 1, 0x0, [DBG_CMD.OP]⟩
def Reg.DBG_TMSEL : RegDesc := ⟨"DBG_TMSEL", 0x880008, 1, 0x0, 1, 0x0, [DBG_TMSEL.GROUP, DBG_TMSEL.TM_EN]⟩
def Reg.DBG_FCAP : RegDesc := ⟨"DBG_FCAP", 0x880010, 4, 0x4, 1, 0x0, [DBG_FCAP.MSG]⟩
def Reg.DBG_FCTL : RegDesc := ⟨"DBG_FCTL", 0x880020, 1, 0x0, 1, 0x0, [DBG_FCTL.FCLR, DBG_FCTL.FCOUNT]⟩
def Reg.DBG_D2D : RegDesc := ⟨"DBG_D2D", 0x880030, 1, 0x0, 1, 0x0, [DBG_D2D.UP, DBG_D2D.SPARE_USED, DBG_D2D.EXPOSED, DBG_D2D.SPARE_FOR, DBG_D2D.FAILED]⟩
def Reg.DBG_D2DCNT : RegDesc := ⟨"DBG_D2DCNT", 0x880034, 1, 0x0, 1, 0x0, [DBG_D2DCNT.CORR, DBG_D2DCNT.RETRY]⟩
def Reg.DBG_D2DCFG : RegDesc := ⟨"DBG_D2DCFG", 0x880038, 1, 0x0, 1, 0x0, [DBG_D2DCFG.D2D_LIM]⟩

/-- Registers of spec/19_errors_repair_observation.md. -/
def regMap19a : List RegDesc :=
  [Reg.MEM_SCRUB, Reg.MEM_MCMD, Reg.MEM_MSTAT, Reg.MEM_FUSECMD,
   Reg.MEM_CAP0, Reg.MEM_CAP1, Reg.MEM_CAP2, Reg.MEM_CAP3,
   Reg.MEM_MACRO, Reg.DBG_STATUS, Reg.DBG_CMD, Reg.DBG_TMSEL,
   Reg.DBG_FCAP, Reg.DBG_FCTL, Reg.DBG_D2D, Reg.DBG_D2DCNT,
   Reg.DBG_D2DCFG]

/-- Every register that has fields of its own. Windows and tables of words are decoded beside it (Machine/Mgmt.lean). -/
def regMap : List RegDesc :=
  regMap02a ++ regMap02b ++ regMap03a ++ regMap03b ++ regMap03c ++ regMap04a ++ regMap04b ++ regMap05a ++ regMap05b ++ regMap06a ++ regMap07a ++ regMap07b ++ regMap08a ++ regMap08b ++ regMap09a ++ regMap09b ++ regMap10a ++ regMap11a ++ regMap12a ++ regMap13a ++ regMap14a ++ regMap15a ++ regMap16a ++ regMap17a ++ regMap18a ++ regMap19a

end Sys2Proof.Machine
end

