-- ==== Sys2Proof/Machine/StChip.lean ====
section
/-! DEFINITION. State of the package as a whole: power, resets and domains (spec/15, spec/16), start-up, the Nimbus runtime, the SPI target
and the security block (spec/16 to spec/18), as far as no register shows it. -/
namespace Sys2Proof.Machine

/-- Where the hub stands between its resets and its power states (R388, R389, R397, R414). -/
inductive Phase where
  | running      -- the fabric die is out of reset
  | reset        -- nPOR or nRESET low, or a reset not yet released
  | powering     -- FAB_EN high, waiting for FAB_PG
  | entering     -- entry into DOZE or SHIP
  | doze
  | ship
  deriving DecidableEq, Repr, Inhabited

/-- A management access held by a domain that drains (R382): whether it writes, its address, and the message it came in with the path
(0 Cirrus, 1 SPI), if it came in one. -/
structure Held where
  write : Bool
  addr : Nat
  msg : Option (Nat × List Byte)
  deriving DecidableEq, Repr, Inhabited

structure Chip where
  phase : Phase
  cause : Nat                -- bit of BOOT_CAUSE for the start to come
  test : Bool                -- that start enters TEST
  vbatLost : Bool            -- VBAT had fallen at the last check (R399)
  target : Nat               -- state being entered: 1 DOZE, 2 SHIP
  dozeMask : Nat             -- CPM_DOZEWAKE as recorded at entry (R388 step 4)
  alarm : Nat                -- CPM_ALARM as recorded
  wakes : Nat                -- wake sources recorded, coded as CPM_WAKESRC
  ulp : Bool                 -- the uplink-loss timer runs (R387)
  held : List Held
  avsFixed : Bool            -- AVS_FIX has been written since the boot lock (R394)
  image : List (Nat × Nat)   -- register words the image set, in order (R383)
  pinmux : List (List Nat)   -- PINMUX records: group, function, pad settings (R407)
  push : NMap Nat            -- words pushed (R408), each + 1, by number
  pushFull : Bool            -- the push pointer has passed 16 MiB
  bids : List (List Byte)    -- boot-identity records in OTP (R409)
  bootId : Bool              -- the boot identity stands in for GLOBAL
  net : NMap (List Byte)     -- blocks fetched (R410)
  netGen : Nat               -- generation they are of, 0 before the first
  netTry : NMap Nat          -- repeats of a block request
  netNext : Nat              -- next block to ask for
  netRun : Bool              -- a fetch is running
  irq : Bool                 -- an nIRQ pulse is being driven, and how many are owed (R446)
  owed : Nat
  march : Option (Nat × Nat) -- first macro and count of a march on request, and whether it was told to stop (R494)
  marchStop : Bool
  jtag : Nat                 -- JTAG instruction in force (R502)
  reports : NMap Nat         -- SFN of the last presence report accepted from a hub, plus 1 (R433)
  deriving DecidableEq, Repr, Inhabited

def Chip.init : Chip where
  phase := .powering
  cause := 0
  test := false
  vbatLost := false
  target := 0
  dozeMask := 0
  alarm := 0
  wakes := 0
  ulp := false
  held := []
  avsFixed := false
  image := []
  pinmux := []
  push := []
  pushFull := false
  bids := []
  bootId := false
  net := []
  netGen := 0
  netTry := []
  netNext := 0
  netRun := false
  irq := false
  owed := 0
  march := none
  marchStop := false
  jtag := 1
  reports := []

/-- The Nimbus runtime: scratchpad words by core * 131,072 + word, periods in a row with an overrun by plug-in, entry addresses, and the
built-in services that have not reported progress (R439, R440). -/
structure Nim where
  scratch : NMap Nat
  overrun : NMap Nat
  entry : NMap Nat
  coreEntry : NMap Nat
  loaded : Bool
  deriving DecidableEq, Repr, Inhabited

def Nim.init : Nim where
  scratch := []
  overrun := []
  entry := []
  coreEntry := []
  loaded := false

/-- The SPI target (R430): a request is in progress, the held response, a message was discarded. -/
structure Spi where
  busy : Bool
  resp : Option (List Byte)
  discard : Bool
  deriving DecidableEq, Repr, Inhabited

def Spi.init : Spi where
  busy := false
  resp := none
  discard := false

/-- A key as a record brings it, unwrapped (R466). -/
structure KeyRec where
  slot : Nat
  ktype : Nat
  limit : Nat
  persist : Bool
  dawnBound : Bool
  overlay : Bool
  count : Nat
  kcv : Nat
  value : List Byte
  deriving DecidableEq, Repr, Inhabited

/-- A journal record in flash (R472): the root its keys are wrapped under, its generation and its entries. -/
structure JRec where
  root : Nat
  gen : Nat
  keys : List KeyRec
  deriving DecidableEq, Repr, Inhabited

/-- A journal sector (R473). -/
inductive JSector where
  | erased
  | bad
  | holds (r : JRec)
  deriving DecidableEq, Repr, Inhabited

/-- A journal update that runs (R474): the op that started it (0 for the rewrite of R476), the keys to make current, the slots to clear
and the record being written. -/
structure JUpd where
  op : Nat
  load : List KeyRec
  drop : List Nat
  put : JRec
  deriving DecidableEq, Repr, Inhabited

structure Sec where
  active : Nat                    -- tamper sources whose condition holds (R457)
  custRoot : List Byte            -- fused customer root hash (R461)
  enrolled : Bool                 -- identity helper in OTP
  helper : Bool                   -- Dusk-helper window filled by ID_ENROLL
  keys : NMap (List Byte)         -- key values by slot
  nonce : Bool                    -- SEC_NONCE is in force (R463), drawn at this tree time
  nonceAt : Nat
  token : NMap Nat                -- token buffer, by word
  journal : NMap JSector          -- flash records 0 and 1
  update : Option JUpd
  noJournal : Bool                -- journal updates return STATE until the next start (R458)
  lcReset : Bool                  -- a reset follows 10 ms after a life-cycle change (R461)
  rewrite : Bool                  -- the journal is to be rewritten after the boot lock (R476)
  chal : NMap (List Byte)         -- CHALLENGE nonces in force: path 0 Cirrus, 1 SPI (R432), and the tree times of drawing
  chalAt : NMap Nat
  dbgTime : Nat                   -- seconds of debug unlock granted, at this tree time (R505)
  dbgAt : Nat
  dawn : Nat                      -- number of the Dawn in Zenith (log entry 95)
  deriving DecidableEq, Repr, Inhabited

def Sec.init : Sec where
  active := 0
  custRoot := []
  enrolled := false
  helper := false
  keys := []
  nonce := false
  nonceAt := 0
  token := []
  journal := []
  update := none
  noJournal := false
  lcReset := false
  rewrite := false
  chal := []
  chalAt := []
  dbgTime := 0
  dbgAt := 0
  dawn := 0

end Sys2Proof.Machine
end

