-- ==== Sys2Proof/Machine/StDisplay.lean ====
section
/-! DEFINITION. State of the two DisplayPort ports that no register shows (spec/11). -/
namespace Sys2Proof.Machine

/-- The forwarded AUX request of a root port: what the source asked, its number, and the reply stored for its repeat (R305). -/
structure AuxReq where
  cmd : Nat
  addr : Nat
  len : Nat
  data : List Byte
  mseq : Nat
  reply : Option (Nat × List Byte)
  deriving DecidableEq, Repr, Inhabited

structure Dp where
  -- root
  clk : Nat                    -- stream clock in kHz, 0 = no stream
  msa : List Byte              -- the MSA in force (root: received; node: from the tunnel)
  mirror : List Byte           -- DPCD 0x00000 to 0x000FF of the sink
  nodeRate : Nat               -- the node's trained link, as the attach message gave it
  nodeLanes : Nat
  attached : Bool              -- the node reports a sink with its EDID cached
  away : Bool                  -- the node's hub was last reported lost (R307)
  irq : Nat                    -- DPCD 0x00201 of the last IRQ message
  dpcd : NMap Nat              -- the root's own link registers 0x00100 to 0x001FF
  aux : Option AuxReq
  mseq : Nat
  -- node
  edid : List Byte
  caps : List Byte             -- DPCD 0x00000 to 0x000FF read at attach
  edidAt : Nat                 -- I2C offset and segment of the EDID cache
  edidSeg : Nat
  buf : List Byte              -- playout buffer
  line : List Byte             -- data of the previous line
  pair : Option (Nat × Nat)    -- last clock pair: P, and T in units of 2^-16 ns
  good : Nat                   -- consecutive pairs with an error below 16 clocks
  deriving DecidableEq, Repr, Inhabited

def Dp.init : Dp where
  clk := 0
  msa := []
  mirror := []
  nodeRate := 0
  nodeLanes := 0
  attached := false
  away := false
  irq := 0
  dpcd := []
  aux := none
  mseq := 0
  edid := []
  caps := []
  edidAt := 0
  edidSeg := 0
  buf := []
  line := []
  pair := none
  good := 0

end Sys2Proof.Machine
end

