-- ==== Sys2Proof/Machine/StEth.lean ====
section
/-! DEFINITION. State of the Ethernet ports and the time unit that no register shows (spec/09). -/
namespace Sys2Proof.Machine

structure Tsu where
  rate : Nat                   -- rate in force, two's complement in units of 2^-32 (R263, R265)
  ratePend : Bool              -- a rate written at the root waits for slot 0 (R268)
  step : Nat                   -- the pending step, two's complement of 64 bits
  lastZero : Option Nat        -- TREE_TIME of the last accepted SYNC with SFN[7:0] = 0 since training (R265)
  synced : Bool                -- a SYNC has been accepted since training (R264)
  delayed : Bool               -- TSU_DELAY has been written since training
  deriving DecidableEq, Repr, Inhabited

structure Eth where
  txts : NMap (List (Nat × Nat))   -- transmit-timestamp FIFOs by port: tag and time, oldest first (R262)
  tsu : Tsu
  deriving DecidableEq, Repr, Inhabited

def Tsu.init : Tsu where
  rate := 0
  ratePend := false
  step := 0
  lastZero := none
  synced := false
  delayed := false

def Eth.init : Eth where
  txts := []
  tsu := Tsu.init

end Sys2Proof.Machine
end

