-- ==== Sys2Proof/Machine/StField.lean ====
section
/-! DEFINITION. State of the field side that no register shows (spec/08). -/
namespace Sys2Proof.Machine

/-- A direct input (R240 to R243): the raw edge whose debounce runs, the times of its accepted transitions (newest first) for the
chatter check, its point value, when it last accepted a transition and the raw edge of that one. -/
structure DiRun where
  edge : Option Nat
  times : List Nat
  value : Nat
  lastAt : Option Nat
  lastEdge : Nat
  deriving DecidableEq, Repr, Inhabited

/-- An entry of the timestamp FIFO (R241). -/
structure TsEnt where
  input : Nat
  level : Bool
  clear : Bool
  time : Nat
  deriving DecidableEq, Repr, Inhabited

structure Fld where
  di : NMap DiRun
  tsFifo : List TsEnt
  probes : NMap Nat            -- clean probes of a faulted segment (R234)
  noiseAt : NMap Nat           -- HFN + 1 of the last FLD_SEG_NOISE of a segment (R233)
  lost : NMap Bool             -- admission entries whose drop is lost (R238)
  quar : List (List Nat)       -- quarantine buffer: segment, transmit opportunity, bytes (R236)
  out : NMap Nat               -- level driven on each output: 0 low, 1 high, 2 high impedance (log entry 5)
  wdFresh : Bool               -- the watchdog was refreshed within WD_MS (R248)
  loaded : Bool                -- the FIELD section has loaded (R247)
  deriving DecidableEq, Repr, Inhabited

def DiRun.init : DiRun where
  edge := none
  times := []
  value := 0
  lastAt := none
  lastEdge := 0

def Fld.init : Fld where
  di := []
  tsFifo := []
  probes := []
  noiseAt := []
  lost := []
  quar := []
  out := []
  wdFresh := false
  loaded := false

end Sys2Proof.Machine
end

