-- ==== Sys2Proof/Machine/StPower.lean ====
section
/-! DEFINITION. State of the 48 V power path that no register shows (spec/14). -/
namespace Sys2Proof.Machine

/-- What one sampled channel or the input stage has added up since the last telemetry set (R369), and its energy in units of 10^-5 µJ. -/
structure PwSum where
  v : Nat                  -- mV
  i : Int                  -- mA
  p : Int                  -- mV mA
  peak : Int               -- mA
  energy : Int
  deriving DecidableEq, Repr, Inhabited

def PwSum.init : PwSum where
  v := 0
  i := 0
  p := 0
  peak := 0
  energy := 0

/-- A channel between its registers: non-limiting samples toward the decay of its fault timer and toward power-good, its cool-down, the
current of its last sample and how many samples its output has stayed below 2 V (R360, R364, R365, R368). -/
structure Ef where
  quiet : Nat
  good : Nat
  cool : Bool
  last : Int
  low : Nat
  deriving DecidableEq, Repr, Inhabited

def Ef.init : Ef where
  quiet := 0
  good := 0
  cool := false
  last := 0
  low := 0

/-- The power path: a feed is above 20 V, the input stage is in its ramp, waits 1 s after a failed attempt, its fault timer (R356),
channels EF1 to EF3 as 0 to 2, telemetry 0 to 3, samples since the last set and the accumulators to clear at the next one. -/
structure Pw where
  powered : Bool
  ramping : Bool
  waiting : Bool
  inTimer : Nat
  inQuiet : Nat
  ef : NMap Ef
  sum : NMap PwSum
  count : Nat
  clear : Nat
  deriving DecidableEq, Repr, Inhabited

def Pw.init : Pw where
  powered := true
  ramping := false
  waiting := false
  inTimer := 0
  inQuiet := 0
  ef := []
  sum := []
  count := 0
  clear := 0

end Sys2Proof.Machine
end

