-- ==== Sys2Proof/Machine/StStorage.lean ====
section
/-! DEFINITION. State of the PCIe storage bridge that no register shows (spec/10). -/
namespace Sys2Proof.Machine

/-- A non-posted request whose completion is awaited: requester ID and tag, its header, its address, the bytes it returns, and the bytes
returned so far. `want` is what the requester asked for, less than `len` where the node reads ahead (R289). -/
structure NpReq where
  key : Nat
  head : List Byte
  addr : Nat
  len : Nat
  want : Nat
  done : Nat
  keep : Bool            -- what was read ahead may still be kept
  deriving DecidableEq, Repr, Inhabited

/-- A read-ahead entry: its first address and its bytes, each with whether a completion has used it (R289, R290). -/
structure RaEnt where
  addr : Nat
  data : List (Byte × Bool)
  deriving DecidableEq, Repr, Inhabited

/-- One end of a storage tunnel: credits (R281), requests, items that wait for credit (R90), requests that wait for buffer space
(R282). -/
structure Vdsp where
  present : Bool
  sent : NMap Nat              -- items sent since arrival, by sub-channel
  acked : NMap Nat             -- freed counts last received
  freed : NMap Nat             -- items freed here
  outNp : List NpReq           -- sent into the tunnel, oldest first
  inNp : List NpReq            -- taken from the tunnel and issued on the link
  waiting : List (Nat × List Byte)
  hold : List (List Byte)
  sentHeads : List (List Byte) -- headers of the last posted TLPs sent, newest first
  deriving DecidableEq, Repr, Inhabited

structure Pcb where
  vdsp : NMap Vdsp
  cfg : NMap Nat               -- configuration words written, by function * 1024 + word
  ids : List Byte              -- Vendor ID to Revision ID from the PCIE section
  intx : NMap Bool             -- INTx wires asserted by vDSP c, by 4 * c + wire
  ra : List RaEnt              -- most recently used last
  ready : NMap Bool            -- the node's last report that its tunnel is ready (R283)
  perst : Bool                 -- PE_nPERST low
  loaded : Bool                -- the PCIE section has loaded
  deriving DecidableEq, Repr, Inhabited

def Vdsp.init : Vdsp where
  present := false
  sent := []
  acked := []
  freed := []
  outNp := []
  inNp := []
  waiting := []
  hold := []
  sentHeads := []

def Pcb.init : Pcb where
  vdsp := []
  cfg := []
  ids := []
  intx := []
  ra := []
  ready := []
  perst := true
  loaded := false

end Sys2Proof.Machine
end

