-- ==== Sys2Proof/Machine/StSwitch.lean ====
section
/-! DEFINITION. State of the shared-buffer switch that no register shows (spec/06, spec/07). -/
namespace Sys2Proof.Machine

/-- An accepted OPEN flit on its way into the switch, with the epoch it was received in. `cut` marks the end of an epoch: what
is then incomplete stays so (R167). -/
structure OpenIn where
  port : Nat
  item : OpenItem
  epoch : Nat
  cut : Bool
  deriving DecidableEq, Repr, Inhabited

/-- An OPEN frame under reception on a VC: its bytes so far from the tunnel frame header on, its cells, the flits taken, and
whether it has been dropped and its rest is to be ignored. -/
structure RxPart where
  bytes : List Byte
  cells : List Nat
  flits : Nat
  epoch : Nat
  dropped : Bool
  deriving DecidableEq, Repr, Inhabited

/-- A frame in the switch: where it came from, how its header was classified, its cells, and how many admitted copies are
still to be read. `flits` counts the credits it holds on a JXL port (R149). `bytes` starts at the destination address and
holds the tag as received, without FCS. -/
structure SwFrame where
  port : Nat
  vc : Nat
  flits : Nat
  epoch : Nat
  tid : Nat
  ident : Nat
  vid : Nat
  pcp : Nat
  dei : Bool
  asIs : Bool            -- sent as its source built it (gateway, Nimbus: R260)
  loss : Bool
  ts : Option Nat        -- tag of a timestamp request (R262)
  bytes : List Byte
  cells : List Nat
  copies : Nat
  deriving DecidableEq, Repr, Inhabited

/-- A frame that waits for its decision (R176): the queue its source gives it (R177), and whether it is metered (R219) and
learned from (R184). -/
structure SwIn where
  frame : SwFrame
  sq : Option Nat
  metered : Bool
  learn : Bool
  deriving DecidableEq, Repr, Inhabited

/-- A forwarding-database entry (R183). -/
structure FdbEnt where
  mac : Nat
  vid : Nat
  isStatic : Bool
  port : Nat
  sq : Nat
  pmask : Nat
  age : Nat
  deriving DecidableEq, Repr, Inhabited

/-- A copy in a subscriber queue or an egress frame buffer: its frame's number, its queue, and the priority and DEI it leaves
with (R222). -/
structure Copy where
  frame : Nat
  queue : Nat
  pcp : Nat
  dei : Bool
  deriving DecidableEq, Repr, Inhabited

structure Sw where
  openIn : List OpenIn
  rx : NMap RxPart             -- by port * 64 + VC
  inq : NMap (List SwIn)       -- whole frames under reception, by port; their cells come one by one
  done : List SwIn
  frames : NMap SwFrame        -- frames in the buffer, by number
  nextFrame : Nat
  queues : NMap (List Copy)    -- by subscriber queue, oldest first
  egress : NMap (List Copy)    -- egress frame buffers by port, oldest first
  used : NMap Bool             -- cells in use
  lastBank : NMap Nat          -- last bank each port wrote (R174)
  charged : NMap Nat           -- cells charged to each queue; SWB_QLEN shows it
  profCount : NMap Nat         -- queues of each profile but profile 0
  fdb : NMap (Option FdbEnt)   -- by set * 4 + way
  headUse : NMap Nat           -- flits held, by port * 64 + VC (R193)
  bankWait : List Nat          -- logical banks waiting for the copy (R197)
  copyTo : Nat                 -- spare the running copy writes
  retiredBank : Option Nat
  scrubAddr : Nat
  deriving DecidableEq, Repr, Inhabited

def Sw.init : Sw where
  openIn := []
  rx := []
  inq := []
  done := []
  frames := []
  nextFrame := 0
  queues := []
  egress := []
  used := []
  lastBank := []
  charged := []
  profCount := []
  fdb := []
  headUse := []
  bankWait := []
  copyTo := 32
  retiredBank := none
  scrubAddr := 0

/-- A scheduler node (R204): the rates and bursts in force (R215), the levels of its buckets (R212), its virtual time and its
tag (R209). -/
structure NodeRun where
  cir : Nat
  pir : Nat
  cbs : Nat
  pbs : Nat
  c : Int
  p : Int
  v : Nat
  t : Nat
  deriving DecidableEq, Repr, Inhabited

/-- A meter (R221): its algorithm, rates and bursts in force and its two buckets. -/
structure MeterRun where
  mode : Nat
  aware : Bool
  cf : Bool
  cir : Nat
  pir : Nat
  cbs : Nat
  pbs : Nat
  c : Nat
  e : Nat
  deriving DecidableEq, Repr, Inhabited

/-- State of the traffic manager that no register shows (spec/07). -/
structure Tm where
  nodes : NMap NodeRun
  meters : NMap MeterRun
  lastPort : Nat               -- the port served last (R206)
  oversub : List Nat              -- oversubscribed parents, ascending (R216)
  deriving DecidableEq, Repr, Inhabited

def NodeRun.init : NodeRun where
  cir := 0
  pir := 0
  cbs := 0
  pbs := 0
  c := 0
  p := 0
  v := 0
  t := 0

def MeterRun.init : MeterRun where
  mode := 0
  aware := false
  cf := false
  cir := 0
  pir := 0
  cbs := 0
  pbs := 0
  c := 0
  e := 0

def Tm.init : Tm where
  nodes := []
  meters := []
  lastPort := 17
  oversub := []

end Sys2Proof.Machine
end

