-- ==== Sys2Proof/Machine/StTypec.lean ====
section
/-! DEFINITION. State of the two Type-C ports that no register shows (spec/13). -/
namespace Sys2Proof.Machine

/-- A PD message of this port: its SOP type, its bytes, how often it has been sent again, and the policy request it serves (R337,
R340). -/
structure PdMsg where
  sop : Nat
  bytes : List Byte
  tries : Nat
  rseq : Option Nat
  deriving DecidableEq, Repr, Inhabited

/-- What a port is doing after an Accept (R342). -/
inductive TcPhase where
  | idle
  | srcRequest       -- source: tSrcTransition before the new voltage
  | srcVoltage       -- source: VBUS on its way to the new voltage
  | srcReady         -- source: PS_RDY on its way
  | snkRequest       -- sink: waits for PS_RDY within PSTransitionTimer
  | swapSrcWait      -- PR_Swap from source: tSrcTransition
  | swapSrcFall      -- VBUS on its way to vSafe0V
  | swapSrcReady     -- PS_RDY on its way, then the partner's PS_RDY within PSSourceOnTimer
  | swapSnkWait      -- PR_Swap from sink: waits for PS_RDY within PSSourceOffTimer
  | swapSnkRise      -- VBUS on its way to vSafe5V
  | swapSnkReady     -- PS_RDY on its way
  | vconnTake        -- turned VCONN on, PS_RDY on its way
  | vconnGive        -- waits for the partner's PS_RDY to turn VCONN off
  | recover          -- source after Hard Reset: VBUS off until tSrcRecover
  deriving DecidableEq, Repr, Inhabited

/-- The exchange a port is in: 0 none, 1 Request, 2 PR_Swap, 3 DR_Swap, 4 VCONN_Swap, 5 Source_Capabilities, 6 any other. -/
structure Tc where
  txId : NMap Nat              -- next MessageID by SOP type
  rxId : NMap Nat              -- last MessageID received, plus 1
  pend : Option PdMsg          -- sent, no GoodCRC yet
  queue : List PdMsg           -- to be sent after it
  held : Option PdMsg          -- waits for tSinkTx or SinkTxOk (R344)
  wait : Option (Nat × List Byte)  -- message whose policy wait is open (R341)
  exch : Nat
  mine : Bool                  -- this port started the exchange
  rdo : Nat                    -- Request in force in the exchange
  caps : List Nat              -- PDOs last received as sink
  phase : TcPhase
  srcEn : Bool
  snkEn : Bool
  vsel : Nat
  disch : Bool
  txNg : Bool                  -- Rp stands at SinkTxNG
  capsSent : Nat
  hardResets : Nat
  deriving DecidableEq, Repr, Inhabited

def Tc.init : Tc where
  txId := []
  rxId := []
  pend := none
  queue := []
  held := none
  wait := none
  exch := 0
  mine := false
  rdo := 0
  caps := []
  phase := .idle
  srcEn := false
  snkEn := false
  vsel := 0
  disch := false
  txNg := false
  capsSent := 0
  hardResets := 0

end Sys2Proof.Machine
end

