-- ==== Sys2Proof/Machine/StUsb.lean ====
section
/-! DEFINITION. State of the USB hub core and the Remote Transaction Engine that no register shows (spec/12). -/
namespace Sys2Proof.Machine

/-- A transaction of a burst (R317). `bad` marks a descriptor that breaks its layout; `kill` is the status it ends with when its turn
comes: 7 RESET, 8 ABORTED, 9 NOTCONN, 0 none (R322, R323). -/
structure UsbTx where
  dev : Nat
  epn : Nat
  pid : Nat
  tog : Nat
  port : Nat
  speed : Nat
  mps : Nat
  len : Nat
  data : List Byte
  bad : Bool
  kill : Nat
  deriving DecidableEq, Repr, Inhabited

structure Burst where
  mseq : Nat
  txs : List UsbTx
  deriving DecidableEq, Repr, Inhabited

/-- What a transaction ended with (R318). -/
structure UsbEnd where
  xstat : Nat
  tog : Nat
  len : Nat
  data : List Byte
  deriving DecidableEq, Repr, Inhabited

/-- An OUT record held for its microframe (R328). -/
structure OutRec where
  entry : Nat
  uframe : Nat
  data : List Byte
  deriving DecidableEq, Repr, Inhabited

structure Usb where
  bursts : List Burst          -- held, the executing one first
  dones : List (Nat × List Byte)  -- stored DONE messages by MSEQ, newest first
  recs : List OutRec
  started : NMap Bool          -- periodic entries whose START has come
  unloaded : NMap Nat          -- PUNLOADED of each port's next PORTCHG
  line : NMap Nat              -- connect line state: 1 full speed, 2 low speed
  test : NMap Nat              -- test selector of a port in test mode
  resume : Nat                 -- bus resume signalling: 0 none, 1 the host's, 2 a device's
  resumeSeq : Nat              -- MSEQ of the RESUME to answer
  wakers : Nat                 -- ports whose devices signalled wake during it
  portResume : NMap Nat        -- the same for a selectively suspended port
  deriving DecidableEq, Repr, Inhabited

def Usb.init : Usb where
  bursts := []
  dones := []
  recs := []
  started := []
  unloaded := []
  line := []
  test := []
  resume := 0
  resumeSeq := 0
  wakers := 0
  portResume := []

end Sys2Proof.Machine
end

