-- ==== Sys2Proof/Machine/State.lean ====
section
/-! DEFINITION. The state of the hub: its register file, what no register shows, and the queue of waiting commands. -/
namespace Sys2Proof.Machine

/-- Reasons for a stop that the spec describes as one. The model has none: every command of the table has an effect. -/
inductive Fault where
  /-- Never raised: the block has no condition that stops it. Safe. -/
  | none
  deriving DecidableEq, Repr

/-- Reasons to answer no state. -/
inductive Refusal where
  /-- Raised by exec for a command whose meaning is not written yet. Safe: no claim can be made of it. -/
  | notModelled (mnemonic : String)
  deriving DecidableEq, Repr

structure State where
  /-- Commands waiting, first in first out. -/
  pending : List Instr
  /-- Everything the hub has put out since reset, oldest first (log entry 10). -/
  out : List Out
  /-- Counts free values drawn; the model's own field (log entry 3). -/
  fresh : Nat
  /-- Every register field of the spec. -/
  regs : RegFile
  /-- The four JXL ports. -/
  link : NMap Link
  /-- The plan store: 4 ports, 2 directions, 16 plans, 4,096 entries (R38). -/
  planStore : NMap Nat
  /-- The route table: 32,768 entries of 4 words (R77, R78). -/
  routes : NMap Nat
  /-- ISO losses to be marked, by egress endpoint and tunnel (R148). -/
  lossMark : NMap Bool
  /-- The Horizon result windows of the four ports (R114). -/
  horizon : NMap Nat
  /-- The point image: 4,096 points (R227). -/
  points : NMap Nat
  /-- How often each point has been written, so that a sender can tell a fresh copy from a repeat (R87). -/
  pointGen : NMap Nat
  /-- Tunnel endpoints, point-image senders, gateway, posted-error log. -/
  tun : Tun
  /-- The shared-buffer switch. -/
  sw : Sw
  /-- The traffic manager. -/
  tm : Tm
  /-- The field side. -/
  fld : Fld
  /-- The Ethernet ports and the time unit. -/
  eth : Eth
  /-- The PCIe bridge. -/
  pcb : Pcb
  /-- The DisplayPort ports. -/
  dp : NMap Dp
  /-- The USB hub core and its Remote Transaction Engine. -/
  usb : Usb
  /-- The Type-C ports. -/
  tc : NMap Tc
  /-- The 48 V power path. -/
  pw : Pw
  /-- Power, resets, start-up. -/
  chip : Chip
  /-- The Nimbus runtime. -/
  nim : Nim
  /-- The SPI target. -/
  spi : Spi
  /-- The security block. -/
  sec : Sec
  /-- Tree time in units of 2^-32 ns at the last slot 0 (R263). -/
  treeTime : Nat
  /-- A superframe has begun since the start (R29). -/
  sfStarted : Bool
  /-- A node has accepted an upstream SYNC since the start and so has a group in force (R55). -/
  groupKnown : Bool
  /-- Effective hyperframe of the zone shift pending at this hub (R56). -/
  zoneEffect : Nat
  /-- The Event Queue, oldest first (R444), the next message number, and the limited events of this hyperframe (R544). -/
  evq : List EvMsg
  evSeq : Nat
  limited : List (Nat × Nat)
  /-- Links that came up (1), went down (0) or shifted their plan (2), or the gateway's Ethernet port that changed (3), with the port: what
  the rest of the hub has not yet answered. The model's own field, empty between commands. -/
  news : List (Nat × Nat)
  /-- The hub's certificate list in OTP (CERT_WRITE, R461). -/
  certList : List Byte
  deriving DecidableEq, Repr

/-- The hub right after reset: every register at its reset value, nothing queued, nothing stored. -/
def State.reset : State where
  pending := []
  out := []
  fresh := 0
  regs := []
  link := []
  planStore := []
  routes := []
  lossMark := []
  horizon := []
  points := []
  pointGen := []
  tun := Tun.init
  sw := Sw.init
  tm := Tm.init
  fld := Fld.init
  eth := Eth.init
  pcb := Pcb.init
  dp := []
  usb := Usb.init
  tc := []
  pw := Pw.init
  chip := Chip.init
  nim := Nim.init
  spi := Spi.init
  sec := Sec.init
  treeTime := 0
  sfStarted := false
  groupKnown := false
  zoneEffect := 0
  evq := []
  evSeq := 0
  limited := []
  news := []
  certList := []

end Sys2Proof.Machine
end

