-- ==== Sys2Proof/Machine/Ops.lean ====
section
/-! DEFINITION. The named operations over State that every block uses: register fields, links, outputs, free values,
events (R442 to R444, R492, R544) and the hub's own place in the tree. -/
namespace Sys2Proof.Machine

/-- What a command answers. -/
abbrev Res := Host.Outcome State Fault Refusal

/-- Copy `i` of a register field. -/
def State.rd (s : State) (f : Field) (i : Nat := 0) : Nat := s.regs.rd f i

/-- Copy `i` of a register field set to `v`. -/
def State.wr (s : State) (f : Field) (v : Nat) (i : Nat := 0) : State := { s with regs := s.regs.wr f i v }

/-- A one-bit field as a truth value. -/
def State.on (s : State) (f : Field) (i : Nat := 0) : Bool := s.rd f i != 0

/-- A field set from a truth value. -/
def State.setBit (s : State) (f : Field) (b : Bool) (i : Nat := 0) : State := s.wr f (if b then 1 else 0) i

/-- A counter increased by `n`, saturating. -/
def State.bump (s : State) (f : Field) (i : Nat := 0) (n : Nat := 1) : State := s.wr f (satAdd f.width (s.rd f i) n) i

/-- A counter increased by `n`, wrapping. -/
def State.wrap (s : State) (f : Field) (i : Nat := 0) (n : Nat := 1) : State := s.wr f (s.rd f i + n) i

/-- A field back at its reset value. -/
def State.toReset (s : State) (f : Field) (i : Nat := 0) : State := { s with regs := s.regs.clr f i }

/-- JXL port `p`. -/
def State.lk (s : State) (p : Nat) : Link := NMap.get s.link Link.init p

def State.setLk (s : State) (p : Nat) (l : Link) : State := { s with link := NMap.set s.link Link.init p l }

/-- Port `p` changed by `f`. -/
def State.modLk (s : State) (p : Nat) (f : Link → Link) : State := s.setLk p (f (s.lk p))

/-- Port `p`'s plan-shift state changed by `f`. -/
def State.modPlan (s : State) (p : Nat) (f : PlanLink → PlanLink) : State :=
  s.modLk p (fun l => { l with plan := f l.plan })

/-- Port `p`'s lane state changed by `f`. -/
def State.modLane (s : State) (p : Nat) (f : LanePort → LanePort) : State :=
  s.modLk p (fun l => { l with lane := f l.lane })

/-- One more thing put out. -/
def State.emit (s : State) (o : Out) : State := { s with out := s.out ++ [o] }

/-- The request in this command is answered with a status code. -/
def State.answer (s : State) (code : Nat) : State := s.emit (.status code [])

/-- The request is answered with OK and data. -/
def State.answerData (s : State) (d : List Nat) : State := s.emit (.status St.OK d)

/-- A free value, not used before (log entry 3); the counter advances with `State.drew`. -/
def State.freeVal (s : State) : Nat := Config.freeValue s.fresh

def State.drew (s : State) : State := { s with fresh := s.fresh + 1 }

/-- The first of a list of checks that fails decides the answer; if none fails, `f` acts (R10, R11). -/
def State.checked (s : State) (checks : List (Nat × Bool)) (f : State → State) : State :=
  if firstStatus checks = St.OK then f s else s.answer (firstStatus checks)

/-- The superframe number now. -/
def State.sfn (s : State) : Nat := s.rd PLN_SFN.SFN

/-- The hyperframe number now. -/
def State.hfn (s : State) : Nat := hfnOf s.sfn

/-- Tree time in whole ns at the last slot 0. -/
def State.timeAtSlot0 (s : State) : Nat := s.treeTime / 2 ^ 32 % 2 ^ 64

/-- Tree time now: the time at the last slot 0 and what has elapsed since, which is free below one superframe
(log entry 7). -/
def State.now (s : State) : Nat := (s.timeAtSlot0 + s.freeVal % 5120) % 2 ^ 64

/-- This hub is the root (R1). -/
def State.isRoot (s : State) : Bool := s.on GLB_HUB.ROOT

/-- Port `p` is the node's upstream port (R15). -/
def State.isUpPort (s : State) (p : Nat) : Bool := s.on PLN_LSTAT.UPSTREAM p

/-- Port `p`'s link is ACTIVE. -/
def State.linkActive (s : State) (p : Nat) : Bool := s.rd JXK_STATUS.STATE p == 6

/-- The node's upstream port, if the hub is a node with one. -/
def State.upPort (s : State) : Option Nat := (List.range 4).find? (fun p => s.isUpPort p)

/-- A node's uplink is ACTIVE; a root has its own schedule. -/
def State.uplinkUp (s : State) : Bool :=
  match s.upPort with
  | none => false
  | some p => s.linkActive p

/-- The words of a message (R443); `unq` is bit 12 of the fatal capture (R492). -/
def EvMsg.words (m : EvMsg) (unq : Bool) : List Nat :=
  [m.id % 1024 + 1024 * (m.sev % 4) + (if unq then 4096 else 0) + 32768 + 65536 * (m.seq % 65536),
   m.time % 2 ^ 32, m.time / 2 ^ 32 % 65536 + 65536 * (m.cap / 2 ^ 32 % 65536), m.cap % 2 ^ 32]

/-- The queue with `EVU_STATUS.COUNT` at its complete messages; outside NORMAL `nEVQFC` follows the watermarks (R447, R450). -/
def State.setEvq (s : State) (q : List EvMsg) : State :=
  let s := ({ s with evq := q }).wr EVU_STATUS.COUNT (q.filter (fun (m : EvMsg) => m.complete)).length
  if s.rd BOOT_STATUS.MODE = 1 then s
  else if s.rd EVU_CTRL.HIWM ≤ q.length then s.wr EVU_STATUS.FC 1
  else if q.length ≤ s.rd EVU_CTRL.LOWM then s.wr EVU_STATUS.FC 0
  else s

/-- The index of the message to displace (R444): lowest severity, the youngest of these. -/
def victimAt (q : List EvMsg) (best : Option (Nat × Nat)) (i : Nat) : Option Nat :=
  match q with
  | [] => best.map (·.2)
  | m :: r =>
    victimAt r (match best with
      | none => some (m.sev, i)
      | some b => if m.sev ≤ b.1 then some (m.sev, i) else some b) (i + 1)

/-- A message enters the Event Queue (R443, R444); the flag says whether it did. -/
def State.enqueue (s : State) (id sev time cap : Nat) : State × Bool :=
  let m : EvMsg := { seq := s.evSeq, id := id, sev := sev, time := time, cap := cap, complete := false }
  let s' := { s with evSeq := (s.evSeq + 1) % 65536 }
  if s.evq.length < 64 then (s'.setEvq (s.evq ++ [m]), true)
  else
    let lost := (s.bump EVU_LOST.COUNT).wr EVU_STATUS.OVF 1
    match victimAt s.evq none 0 with
    | none => (lost, false)
    | some v =>
      if (s.evq.getD v m).sev < sev then
        (((s'.setEvq (s.evq.eraseIdx v ++ [m])).bump EVU_LOST.COUNT).wr EVU_STATUS.OVF 1, true)
      else (lost, false)

/-- The fatal capture (R492): the first FATAL raising is kept, later ones are counted. -/
def State.fatal (s : State) (m : EvMsg) (entered : Bool) : State :=
  if s.rd DBG_FCAP.MSG 0 / 32768 % 2 = 1 then s.bump DBG_FCTL.FCOUNT
  else
    let w := ({ m with seq := if entered then m.seq else 0 } : EvMsg).words (!entered)
    (((s.wr DBG_FCAP.MSG (w.getD 0 0) 0).wr DBG_FCAP.MSG (w.getD 1 0) 1).wr DBG_FCAP.MSG (w.getD 2 0) 2).wr
      DBG_FCAP.MSG (w.getD 3 0) 3

/-- Source `id` is raised with its capture (R442): the status sets and, if enabled, a message enters the queue; a source
already raised counts a repeat. -/
def State.raise (s : State) (id : Nat) (cap : Nat := 0) : State :=
  let t := s.now
  let s := s.drew
  let sev := s.rd EVU_SRC.SEV id
  let m : EvMsg := { seq := s.evSeq, id := id, sev := sev, time := t, cap := cap, complete := false }
  let r : State × Bool :=
    if s.on EVU_SRC.STATUS id then (s.bump EVU_SRC.REPEAT id, false)
    else
      let s := s.wr EVU_SRC.STATUS 1 id
      if s.on EVU_SRC.EN id then s.enqueue id sev t cap else (s, false)
  if sev = 3 then r.1.fatal m r.2 else r.1

/-- An event raised at most once per hyperframe for each `key` (R544). -/
def State.raiseOnce (s : State) (id : Nat) (key : Nat := 0) (cap : Nat := 0) : State :=
  if s.limited.contains (id, key) then s
  else ({ s with limited := (id, key) :: s.limited }).raise id cap

/-- A message for another hub or the zone controller. -/
def State.send (s : State) (dst : Nat) (kind : String) (fields : List Nat) : State := s.emit (.msg dst kind fields)

/-- The zone controller as a destination: the reset value of EVU_CTRL.DEST (R446). -/
def zoneController : Nat := 0x7F

end Sys2Proof.Machine
end

