-- ==== Sys2Proof/Machine/Slots.lean ====
section
/-! DEFINITION. Superframe and slot arithmetic, the plan store, tunnel entries and link channel numbers (R28, R33 to R40,
R69, R72, R137). -/
namespace Sys2Proof.Machine

/-- Ticks per slot of port `p`'s link (R28). -/
def State.ticksPerSlot (s : State) (p : Nat) : Nat :=
  2 ^ s.rd JXP_STATUS.RATE p * (if s.on JXP_STATUS.NARROW p then 2 else 1)

/-- Slots per superframe of port `p`'s link (R28). -/
def State.slotsPerSf (s : State) (p : Nat) : Nat := 4096 / s.ticksPerSlot p

/-- The variant code of port `p`'s slot count (R28, R30): 3 = 512 slots. -/
def State.variantOf (s : State) (p : Nat) : Nat :=
  s.rd JXP_STATUS.RATE p + (if s.on JXP_STATUS.NARROW p then 1 else 0)

/-- The key of a plan-store entry: direction 0 = TX, 1 = RX (R38). -/
def planKey (p dir plan slot : Nat) : Nat := ((p * 2 + dir) * 16 + plan) * 4096 + slot

/-- Entry `slot` of a table of the plan store. -/
def State.planEntry (s : State) (p dir plan slot : Nat) : Nat := NMap.get s.planStore 0 (planKey p dir plan slot)

/-- The bootstrap schedule of a link with `n` slots (R40). -/
def bootEntry (n slot : Nat) : Nat :=
  if slot = 0 then 0xFFE
  else if slot * 32 % n = 0 ∧ slot * 32 / n % 2 = 1 then 0x000
  else 0xFFF

/-- Which table governs a direction: the bootstrap schedule, or a plan. -/
structure Table where
  boot : Bool
  plan : Nat
  deriving DecidableEq, Repr

/-- The entry of `slot` in a table of port `p`. -/
def State.entry (s : State) (p dir : Nat) (t : Table) (slot : Nat) : Nat :=
  if t.boot then bootEntry (s.slotsPerSf p) slot else s.planEntry p dir t.plan slot

/-- The TX table in force. -/
def State.txTable (s : State) (p : Nat) : Table := { boot := s.on PLN_LSTAT.BOOT p, plan := s.rd PLN_LSTAT.PLAN p }

/-- The RX table in force: at the upstream end it follows the TX table at the presentation of receive slot 0 (R50). -/
def State.rxTable (s : State) (p : Nat) : Table := { boot := (s.lk p).plan.rxBoot, plan := (s.lk p).plan.rxPlan }

/-- The target of the pending shift. -/
def State.target (s : State) (p : Nat) : Table := { boot := false, plan := s.rd PLN_LSTAT.PTARGET p }

/-- The TX table that governs `slot`: a slot whose commit point lies in the superframe before (R42) is governed by the
target when the shift takes effect at the next slot 0 (R48). -/
def State.txTableFor (s : State) (p slot : Nat) : Table :=
  if slot * s.ticksPerSlot p < 24 ∧ s.on PLN_LSTAT.PEND p ∧
      ((s.lk p).plan.committed ∨ s.isUpPort p) ∧
      (s.sfn + 1) % 2 ^ 32 = s.rd PLN_LHFN.PEFFECT p * 256 % 2 ^ 32 then s.target p
  else s.txTable p

/-- The absolute tick at which `slot` of port `p` starts, as seen at its commit point 24 ticks before (R42). -/
def State.startTick (s : State) (p slot : Nat) : Nat :=
  let t := slot * s.ticksPerSlot p
  (if t < 24 then s.sfn + 1 else s.sfn) * 4096 + t

/-- The alignment offset of port `p`; 0 at a node's upstream port (R44). -/
def State.offsetOf (s : State) (p : Nat) : Nat := if s.isUpPort p then 0 else s.rd PLN_ALIGN.OFFSET p

/-- The tick of the present superframe at which receive slot `slot` is presented (R44). -/
def State.presentTick (s : State) (p slot : Nat) : Nat := s.sfn * 4096 + slot * s.ticksPerSlot p + s.offsetOf p

/-- Endpoint A or B of a tunnel entry (R69). -/
def State.epA (s : State) (tix : Nat) : Nat := s.rd TUN_ENT1.EP_A tix
def State.epB (s : State) (tix : Nat) : Nat := s.rd TUN_ENT1.EP_B tix

def State.tunValid (s : State) (tix : Nat) : Bool := s.on TUN_ENT0.VALID tix
def State.tunClass (s : State) (tix : Nat) : Nat := s.rd TUN_ENT0.CLASS tix
def State.isIso (s : State) (tix : Nat) : Bool := s.tunClass tix == 0
def State.isGuar (s : State) (tix : Nat) : Bool := s.tunClass tix == 1

/-- A tunnel has port `p` as an endpoint; Cirrus is terminated on every port (R72). -/
def State.usesPort (s : State) (tix p : Nat) : Bool := tix == 0 || s.epA tix == p || s.epB tix == p

/-- Where a flit of a tunnel received at endpoint `ep` leaves (R69). -/
def State.farEnd (s : State) (tix ep : Nat) : Nat :=
  if tix = 0 then 0x10 else if s.epA tix = ep then s.epB tix else s.epA tix

/-- The express delay of a tunnel received at endpoint `ep`. -/
def State.delayFrom (s : State) (tix ep : Nat) : Nat :=
  if s.epA tix = ep then s.rd TUN_ENT2.D_AB tix else s.rd TUN_ENT2.D_BA tix

/-- The JXL port by which a local endpoint's tunnel leaves. -/
def State.jxlOf (s : State) (tix : Nat) : Option Nat :=
  if s.epA tix < 4 then some (s.epA tix) else if s.epB tix < 4 then some (s.epB tix) else none

/-- The hub's index from TID to TIX (R71). -/
def State.tixOf (s : State) (tid : Nat) : Option Nat :=
  (List.range 4096).find? (fun x => s.tunValid x && s.rd TUN_ENT0.TID x == tid)

/-- The TIDs of the GUAR tunnels a table names, ascending (R137). -/
def State.guarTids (s : State) (p dir : Nat) (t : Table) : List Nat :=
  if t.boot then [0]
  else
    let named := distinct ((List.range (s.slotsPerSf p)).map (fun i => s.planEntry p dir t.plan i))
    sortNat (distinct ((named.filter (fun x => x < 0xFF0 && s.tunValid x && s.isGuar x)).map
      (fun x => s.rd TUN_ENT0.TID x)))

/-- The link channel number of a TID in a table (R137), `none` where the table does not name it. -/
def State.lcnOf (s : State) (p dir : Nat) (t : Table) (tid : Nat) : Option Nat :=
  let l := s.guarTids p dir t
  if l.contains tid then some (l.idxOf tid) else none

/-- The tunnel an LCN names in a table. -/
def State.tunnelOfLcn (s : State) (p dir : Nat) (t : Table) (lcn : Nat) : Option Nat :=
  ((s.guarTids p dir t)[lcn]?).bind (fun tid => s.tixOf tid)

/-- A tunnel owns at least one slot of a table. -/
def State.ownsSlot (s : State) (p dir : Nat) (t : Table) (tix : Nat) : Bool :=
  (List.range (s.slotsPerSf p)).any (fun i => s.entry p dir t i == tix)

/-- The plan that group `g` gives port `p` for a variant (R55), if its valid bit is set. -/
def State.groupPlan (s : State) (g p variant : Nat) : Option Nat :=
  let i := g * 4 + p
  match variant with
  | 0 => if s.on PLN_GMAP.FULL_V i then some (s.rd PLN_GMAP.FULL i) else none
  | 1 => if s.on PLN_GMAP.HALF_V i then some (s.rd PLN_GMAP.HALF i) else none
  | 2 => if s.on PLN_GMAP.QTR_V i then some (s.rd PLN_GMAP.QTR i) else none
  | _ => none

/-- Both tables of a plan are VALID and compiled for port `p`'s slot count. -/
def State.planUsable (s : State) (p plan : Nat) : Bool :=
  let i := p * 16 + plan
  s.on PLN_PDESC.TXVALID i && s.on PLN_PDESC.RXVALID i && s.rd PLN_PDESC.VARIANT i == s.variantOf p

/-- The valid plan of group `g` for port `p`'s trained variant. -/
def State.validGroupPlan (s : State) (g p : Nat) : Option Nat :=
  (s.groupPlan g p (s.variantOf p)).bind (fun q => if s.planUsable p q then some q else none)

/-- The TX and RX digests of a plan as the descriptor shows them. -/
def State.digTx (s : State) (p plan : Nat) : Nat :=
  s.rd PLN_DTXLO.DIG (p * 16 + plan) + 2 ^ 32 * s.rd PLN_DTXHI.DIG (p * 16 + plan)
def State.digRx (s : State) (p plan : Nat) : Nat :=
  s.rd PLN_DRXLO.DIG (p * 16 + plan) + 2 ^ 32 * s.rd PLN_DRXHI.DIG (p * 16 + plan)

/-- The TID word of a slot entry (R37). -/
def State.digestWord (s : State) (e : Nat) : Nat :=
  if e = 0xFFF then 1 else if e = 0xFFE then 2 else if e = 0xFFD then 3 else s.rd TUN_ENT0.TID e

/-- The plan digest of a table (R37): the first 8 bytes of SHA-384 over the variant code and the 4,096 TID words. -/
def State.planDigest (s : State) (p dir plan variant : Nat) : Nat :=
  leAt (sha384 (BitVec.ofNat 8 variant ::
    (List.range 4096).flatMap (fun i => le 2 (s.digestWord (s.planEntry p dir plan i))))) 0 8

end Sys2Proof.Machine
end

