-- ==== Sys2Proof/Machine/Points.lean ====
section
/-! DEFINITION. The point image (R227), the outputs that follow it (R246 to R249), and the point-image tunnels
that carry ranges of it (R85 to R88). -/
namespace Sys2Proof.Machine

/-- A point at reset and the codes the spec names: quality 0xF (spec/08), lost source 0xE (R88). -/
def pointReset : Nat := 0x000F0000

/-- Point `n` of the local image: value [15:0], quality [19:16], age [31:20] (R227). -/
def State.point (s : State) (n : Nat) : Nat := NMap.get s.points pointReset n

/-- Output `k` may follow its point: quality GOOD and, with an age limit, young enough (R246). -/
def State.outputGood (s : State) (k : Nat) : Bool :=
  let w := s.point (s.rd FLD_OCFG.PT k)
  bits w 16 4 == 0 && (!s.on FLD_OCFG.OAGE k || decide (bits w 20 12 ≤ s.rd FLD_OCFG.OAGE k))

/-- The level present on output `k`: 0 low, 1 high, 2 high impedance. -/
def State.outputLevel (s : State) (k : Nat) : Nat := NMap.get s.fld.out 2 k

/-- The safe state of output `k` (R247): 3 holds the present level. -/
def State.safeLevel (s : State) (k : Nat) : Nat :=
  if s.rd FLD_OCFG.SAFE k = 3 then s.outputLevel k else s.rd FLD_OCFG.SAFE k

/-- What output `k` drives (R246, R247, R249). -/
def State.outputDrive (s : State) (k : Nat) : Nat :=
  if !s.on FLD_OCFG.EN k || !s.fld.loaded then 2
  else if s.on FLD_OCTRL.SAFE || !s.outputGood k then s.safeLevel k
  else if bitAt (s.point (s.rd FLD_OCFG.PT k)) (s.rd FLD_OCFG.BIT k) != s.on FLD_OCFG.INV k then 1 else 0

/-- Bit `k` of a field set from a truth value. -/
def State.wrBit (s : State) (f : Field) (k : Nat) (b : Bool) (i : Nat := 0) : State :=
  let v := s.rd f i
  s.wr f (if bitAt v k = b then v else if b then v + 2 ^ k else v - 2 ^ k) i

/-- Output `k` brought to what it must drive; `LEVEL` and `PSAFE` follow. -/
def State.refreshOutput (s : State) (k : Nat) : State :=
  let d := s.outputDrive k
  let s := if d = s.outputLevel k then s
    else ({ s with fld := { s.fld with out := NMap.set s.fld.out 2 k d } }).emit (.act "output" [k, d])
  (s.wrBit FLD_OSTAT.LEVEL k (d == 1)).wrBit FLD_OSTAT.PSAFE k (s.on FLD_OCFG.EN k && !s.outputGood k)

/-- All eight outputs. -/
def State.refreshOutputs (s : State) : State := (List.range 8).foldl (fun s k => s.refreshOutput k) s

/-- A cause latches the safe state of the outputs (R249); only the first raises the event. -/
def State.safeLatch (s : State) (cause : Field) : State :=
  let s := s.wr cause 1
  if s.on FLD_OCTRL.SAFE then s
  else
    ((s.wr FLD_OCTRL.SAFE 1).raise Ev.FLD_OUT_SAFE
      (s.rd FLD_OSTAT.WDLAPSE + 2 * s.rd FLD_OSTAT.ULOSS + 4 * s.rd FLD_OSTAT.D2DLOSS)).refreshOutputs

/-- Point `n` written with a fresh copy; the outputs that follow it change with it (R246). -/
def State.setPoint (s : State) (n v : Nat) : State :=
  let s := { s with points := NMap.set s.points pointReset n (v % 2 ^ 32)
                    pointGen := NMap.set s.pointGen 0 n (NMap.get s.pointGen 0 n + 1) }
  ((List.range 8).filter (fun k => s.rd FLD_OCFG.PT k == n)).foldl (fun s k => s.refreshOutput k) s

/-- A write of point `n` by its producer, which refreshes the output watchdog where `KPT` names the point (R248). -/
def State.producePoint (s : State) (n v : Nat) : State :=
  let s := s.setPoint n v
  if s.on FLD_OWD.KSRC ∧ s.rd FLD_OWD.KPT = n then { s with fld := { s.fld with wdFresh := true } } else s

/-- A point word from its parts. -/
def pointWord (value quality age : Nat) : Nat := value % 65536 + 65536 * (quality % 16) + 2 ^ 20 * (age % 4096)

/-- The point map that sends over tunnel `tix` (R85). -/
def State.sendMap (s : State) (tix : Nat) : Option Nat :=
  (List.range 64).find? (fun i => s.on TUN_PMAP0.VALID i && !s.on TUN_PMAP0.DIR i && s.rd TUN_PMAP0.TIX i == tix)

/-- The point maps that receive from tunnel `tix`. -/
def State.recvMap (s : State) (tix : Nat) : Option Nat :=
  (List.range 64).find? (fun i => s.on TUN_PMAP0.VALID i && s.on TUN_PMAP0.DIR i && s.rd TUN_PMAP0.TIX i == tix)

/-- One point of a sending range as it is sent: its age grows by the earlier cycles that sent the same copy (R87).
Answers the word and the state with the repeat count advanced. -/
def State.sendPoint (s : State) (i off : Nat) : Nat × State :=
  if s.rd TUN_PMAP1.COUNT i ≤ off then (0, s)
  else
    let n := s.rd TUN_PMAP1.BASE i + off
    let key := i * 4096 + off
    let gen := NMap.get s.pointGen 0 n + 1
    let same := NMap.get s.tun.pimgSeen 0 key == gen
    let r := if same then NMap.get s.tun.pimgRep 0 key else 0
    let w := s.point n
    let age := bits w 20 12 + r
    (pointWord (bits w 0 16) (bits w 16 4) (if age < 4096 then age else 4095),
     { s with tun := { s.tun with pimgSeen := NMap.set s.tun.pimgSeen 0 key gen
                                  pimgRep := NMap.set s.tun.pimgRep 0 key (r + 1) } })

/-- `n` points from offset `off`, little-endian. -/
def State.sendPoints (s : State) (i off n : Nat) : List Byte × State :=
  match n with
  | 0 => ([], s)
  | n + 1 =>
    let a := s.sendPoint i off
    let r := a.2.sendPoints i (off + 1) n
    (le 4 a.1 ++ r.1, r.2)

/-- The next flit payload of sending map `i` (R86, R87). -/
def State.pimgFlit (s : State) (i : Nat) : List Byte × State :=
  let off := NMap.get s.tun.pimgNext 0 i
  let r := s.sendPoints i off 5
  let next := if off + 5 < s.rd TUN_PMAP1.COUNT i then off + 5 else 0
  (le 2 off ++ le 2 0 ++ r.1,
   { r.2 with tun := { r.2.tun with pimgNext := NMap.set r.2.tun.pimgNext 0 i next } })

/-- The points of an arriving flit written into the range of map `i` (R88). -/
def State.recvPoints (s : State) (i off : Nat) (y : List Byte) (at_ n : Nat) : State :=
  match n with
  | 0 => s
  | n + 1 =>
    let s' := if off < s.rd TUN_PMAP1.COUNT i then s.producePoint (s.rd TUN_PMAP1.BASE i + off) (leAt y at_ 4) else s
    s'.recvPoints i (off + 1) y (at_ + 4) n

/-- A point-image flit arrives for tunnel `tix`. -/
def State.pimgRecv (s : State) (tix : Nat) (y : List Byte) : State :=
  match s.recvMap tix with
  | none => s
  | some i => s.recvPoints i (bits (leAt y 0 2) 0 12) y 4 5

/-- Every point of a range gets a quality; values and ages stay. -/
def State.setQuality (s : State) (base n q : Nat) : State :=
  (List.range n).foldl (fun s k =>
    let w := s.point (base + k)
    s.setPoint (base + k) (pointWord (bits w 0 16) q (bits w 20 12))) s

end Sys2Proof.Machine
end

