-- ==== Sys2Proof/Machine/LinkTx.lean ====
section
/-! DEFINITION. Sending on a JXL link: sequence numbers, the replay buffer, crypto groups, and what a slot carries
(R41, R141 to R149, R152 to R155). -/
namespace Sys2Proof.Machine

/-- The session key of a direction and generation (R483): opaque, a function of the session secret. -/
def sessionKey (secret : List Byte) (dir keygen : Nat) : List Byte :=
  Config.crypto "KDF PX-LINK-KEY" (secret.map BitVec.toNat ++ [dir, keygen])

/-- The nonce of a group (R154). -/
def groupNonce (tid dir keygen gctr : Nat) : List Byte := be 2 tid ++ be 1 dir ++ be 1 keygen ++ be 8 gctr

/-- Payload `i` of a group under AES-256-GCM: the payload XORed with the standard's key stream. -/
def cryptPayload (key nonce : List Byte) (i : Nat) (y : List Byte) : List Byte :=
  List.zipWith (· ^^^ ·) (fit 24 y)
    (fit 24 (Config.crypto "AES-256-GCM keystream" ((key ++ nonce).map BitVec.toNat ++ [i])))

/-- The tag of a group over its headers and payloads (R154). -/
def groupTag (key nonce hist : List Byte) : List Byte :=
  fit 16 (Config.crypto "AES-256-GCM tag" ((key ++ nonce ++ hist).map BitVec.toNat))

/-- The header bytes a group authenticates: CHAN [7:0] is 0 for SLOT flits (R154). -/
def authHeader (kind chan : Nat) (first last : Bool) : List Byte :=
  let c := if kind = Kind.SLOT then chan / 256 * 256 else chan
  le 2 (c % 1024 + 1024 * (if last then 1 else 0) + 2048 * (if first then 1 else 0) + 4096 * kind)

/-- The direction byte of flits this end sends on port `p` (R154). -/
def State.txDir (s : State) (p : Nat) : Nat := if s.isUpPort p then 1 else 0
def State.rxDir (s : State) (p : Nat) : Nat := if s.isUpPort p then 0 else 1

/-- The stream a flit's tunnel belongs to: its TID, or 0x0001 for the OPEN stream (R154). -/
def State.tidOf (s : State) (tix : Nat) : Nat := s.rd TUN_ENT0.TID tix

/-- A tunnel's flits are protected on port `p` (R152). -/
def State.protects (s : State) (p tix : Nat) : Bool :=
  s.on JXK_STATUS.PROT_ON p && (!s.isIso tix || s.on TUN_ENT0.ENC tix)

def TxGroup.init : TxGroup where
  count := 0
  gctr := 0
  keygen := 0
  hist := []

def RxGroup.init : RxGroup where
  count := 0
  gctr := 0
  keygen := 0
  hist := []
  discarded := false
  openHeld := []

/-- The number of a group at its sender: its counter, under its key generation. -/
def TxGroup.number (g : TxGroup) : Nat := g.gctr + 2 ^ 64 * g.keygen

def State.txGroup (s : State) (p tid : Nat) : TxGroup := NMap.get (s.lk p).groupsTx TxGroup.init tid
def State.rxGroup (s : State) (p tid : Nat) : RxGroup := NMap.get (s.lk p).groupsRx RxGroup.init tid

def State.setTxGroup (s : State) (p tid : Nat) (g : TxGroup) : State :=
  s.modLk p (fun l => { l with groupsTx := NMap.set l.groupsTx TxGroup.init tid g })
def State.setRxGroup (s : State) (p tid : Nat) (g : RxGroup) : State :=
  s.modLk p (fun l => { l with groupsRx := NMap.set l.groupsRx RxGroup.init tid g })

/-- A data flit joins its stream's group: its payload as sent, and the state with the group grown (R153, R154). A group
that opens takes the key generation in force; a new generation starts GCTR at 0 (R159). -/
def State.protectTx (s : State) (p tid kind chan : Nat) (first last : Bool) (y : List Byte) : List Byte × State :=
  let g0 := s.txGroup p tid
  let kg := s.rd JXK_STATUS.KEYGEN p
  let g := if g0.count = 0 ∧ g0.keygen ≠ kg then { g0 with keygen := kg, gctr := 0 } else g0
  let key := sessionKey (s.lk p).secret (s.txDir p) g.keygen
  let c := cryptPayload key (groupNonce tid (s.txDir p) g.keygen g.gctr) g.count y
  (c, s.setTxGroup p tid { g with count := g.count + 1, hist := g.hist ++ authHeader kind chan first last ++ c })

/-- The replay registers kept at what the buffer holds (R145). -/
def State.countRbuf (s : State) (p : Nat) : State :=
  let newest := s.rd JXK_TXSEQ.NEWEST p
  let acked := s.rd JXK_TXSEQ.ACKED p
  let win := seqDist newest acked
  let un := ((s.lk p).rbuf.filter (fun e => decide (1 ≤ seqDist e.seq acked ∧ seqDist e.seq acked ≤ win))).length
  (s.wr JXK_RBUF.UNACKED un p).wr JXK_RBUF.RETAINED ((s.lk p).rbuf.length - un) p

/-- A new sequenced flit may be sent (R145). -/
def State.txReady (s : State) (p : Nat) : Bool :=
  decide (seqDist (s.rd JXK_TXSEQ.NEWEST p) (s.rd JXK_TXSEQ.ACKED p) < 2047) &&
  decide ((s.lk p).rbuf.length < 2048) && !s.on JXK_STATUS.REPLAYING p

/-- A flit put into a slot, with the present ACK (R143). -/
def State.put (s : State) (p slot kind chan : Nat) (first last : Bool) (y : List Byte) (seq : Nat) : State :=
  s.emit (.flit p slot { kind := kind, chan := chan, first := first, last := last, payload := fit 24 y, seq := seq,
                         ack := s.rd JXK_RXSEQ.ACK_TX p })

/-- A sequenced flit: numbered, kept in the replay buffer and sent (R141, R145). -/
def State.putSequenced (s : State) (p slot : Nat) (e : RbEnt) : State :=
  let seq := seqNext (s.rd JXK_TXSEQ.NEWEST p)
  let s := s.wr JXK_TXSEQ.NEWEST seq p
  let s := s.modLk p (fun l => { l with rbuf := l.rbuf ++ [{ e with seq := seq }] })
  (s.countRbuf p).put p slot e.kind e.chan e.first e.last e.payload seq

/-- The TAG flit that closes a stream's open group, in one of the stream's slots (R153, R155). `lcn` is what CHAN carries. -/
def State.putTag (s : State) (p slot tid lcn : Nat) (sequenced : Bool) : State :=
  let g := s.txGroup p tid
  let key := sessionKey (s.lk p).secret (s.txDir p) g.keygen
  let y := tagPayload (groupTag key (groupNonce tid (s.txDir p) g.keygen g.gctr) g.hist) tid g.count g.keygen g.gctr
  let s := s.setTxGroup p tid { g with count := 0, gctr := g.gctr + 1, hist := [] }
  if sequenced then
    s.putSequenced p slot { seq := 0, kind := Kind.TAG, chan := lcn, first := false, last := false, payload := y,
                            stream := tid, guar := tid != 1, prot := false, tag := true, group := g.number }
  else s.put p slot Kind.TAG lcn false false y noSeq

/-- A FRONT or CONTROL flit waiting to be sent, or none (R41). -/
def State.tryCtl (s : State) (p slot : Nat) : Option State :=
  match takeFirst (fun (m : CtlMsg) => !m.sequenced || s.txReady p) (s.lk p).ctl with
  | none => none
  | some (m, rest) =>
    let s := s.modLk p (fun l => { l with ctl := rest })
    if m.sequenced then
      some (s.putSequenced p slot { seq := 0, kind := m.kind, chan := 0, first := false, last := false,
                                    payload := m.payload, stream := 0, guar := false, prot := false, tag := false,
                                    group := 0 })
    else some (s.put p slot m.kind 0 false false m.payload noSeq)

/-- CHAN of a buffered flit in the table that governs the slot (R137, R138): 0xFE where the table no longer names the
tunnel. -/
def State.chanNow (s : State) (p slot : Nat) (e : RbEnt) : Nat :=
  if e.guar then
    match s.lcnOf p 0 (s.txTableFor p slot) e.stream with
    | some c => e.chan / 256 * 256 + c
    | none => e.chan / 256 * 256 + 0xFE
  else e.chan

/-- A discard under R22, R48, R52, R547 or R548 on port `p`: counted, and raised once per hyperframe and port. -/
def State.xmiss (s : State) (p : Nat) : State := (s.bump PLN_XMISS.COUNT p).raiseOnce Ev.PLN_XMISS p p

/-- The next flit of a running replay (R146), or none. -/
def State.tryReplay (s : State) (p slot : Nat) : Option State :=
  match (s.lk p).resend with
  | [] => none
  | r :: rest =>
    let e := r.ent
    let c := s.chanNow p slot e
    let s := s.modLk p (fun l => { l with resend := rest })
    let s := s.bump JXK_RPLFLITS.COUNT p
    let s := if rest.isEmpty then s.wr JXK_STATUS.REPLAYING 0 p else s
    let s := if e.guar ∧ c % 256 = 0xFE ∧ !e.tag then s.xmiss p else s
    some (s.put p slot e.kind c e.first e.last e.payload (if r.restore then noSeq else e.seq))

/-- The OPEN stream's next flit for one of its slots: a full group's TAG, a flit whose VC has credit, or the TAG of an open
group with nothing ready (R149, R153). -/
def State.tryOpen (s : State) (p slot : Nat) : Option State :=
  let prot := s.on JXK_STATUS.PROT_ON p
  let g := s.txGroup p 1
  if s.linkActive p = false ∨ s.txReady p = false then none
  else if prot ∧ g.count = 16 then some (s.putTag p slot 1 0xFD true)
  else
    match takeFirst (fun (i : OpenItem) => s.on JXK_VC.AVAIL (p * 64 + i.vc)) (s.lk p).openq with
    | some (i, rest) =>
      let v := p * 64 + i.vc
      let s := s.modLk p (fun l => { l with openq := rest, sent := NMap.set l.sent 0 i.vc ((NMap.get l.sent 0 i.vc + 1) % 1024) })
      let s := s.wr JXK_VC.AVAIL (s.rd JXK_VC.AVAIL v - 1) v
      let r := if prot then s.protectTx p 1 Kind.OPEN i.vc i.first i.last i.payload else (i.payload, s)
      some (r.2.putSequenced p slot { seq := 0, kind := Kind.OPEN, chan := i.vc, first := i.first, last := i.last,
                                      payload := r.1, stream := 1, guar := false, prot := prot, tag := false,
                                      group := (r.2.txGroup p 1).number })
    | none => if prot ∧ 0 < g.count then some (s.putTag p slot 1 0xFD true) else none

/-- Key of a loss mark: the endpoint a tunnel's flits leave by, and the tunnel (R148). -/
def lossKey (ep tix : Nat) : Nat := ep * 4096 + tix

def State.lossMarked (s : State) (ep tix : Nat) : Bool := NMap.get s.lossMark false (lossKey ep tix)
def State.setLoss (s : State) (ep tix : Nat) (b : Bool) : State :=
  { s with lossMark := NMap.set s.lossMark false (lossKey ep tix) b }

/-- A flit of an ISO tunnel into its slot: LOSS carries the marks received and recorded (R136, R148). -/
def State.sendIso (s : State) (p slot : Nat) (i : TxItem) : State :=
  let loss := i.loss || s.lossMarked p i.tix
  let s := s.setLoss p i.tix false
  let chan := 0xFF + (if i.isVoid then 256 else 0) + (if loss then 512 else 0)
  let r := if s.protects p i.tix then s.protectTx p (s.tidOf i.tix) Kind.SLOT chan i.first i.last i.payload
    else (i.payload, s)
  r.2.put p slot Kind.SLOT chan i.first i.last r.1 noSeq

/-- A flit of a GUAR tunnel into a slot (R137, R141). -/
def State.sendGuar (s : State) (p slot : Nat) (i : TxItem) : State :=
  let tid := s.tidOf i.tix
  let lcn := (s.lcnOf p 0 (s.txTableFor p slot) tid).getD 0xFE
  let chan := lcn + 256 * (i.sub % 4)
  let prot := s.protects p i.tix
  let r := if prot then s.protectTx p tid Kind.SLOT chan i.first i.last i.payload else (i.payload, s)
  r.2.putSequenced p slot { seq := 0, kind := Kind.SLOT, chan := chan, first := i.first, last := i.last, payload := r.1,
                            stream := tid, guar := true, prot := prot, tag := false, group := (r.2.txGroup p tid).number }

/-- The next flit of tunnel `tix` that may leave by port `p` in a slot that starts at tick `t`, with the rest of the queue. -/
def State.nextItem (s : State) (p tix t : Nat) : Option (TxItem × List TxItem) :=
  takeFirst (fun (i : TxItem) => i.tix == tix && decide (i.due ≤ t)) (s.lk p).txq

/-- A tunnel's flit or TAG flit for its own slot, or none (R41, R45, R46, R87, R153). -/
def State.tryTunnel (s : State) (p slot tix : Nat) : Option State :=
  let tid := s.tidOf tix
  let iso := s.isIso tix
  let prot := s.protects p tix
  let g := s.txGroup p tid
  let lcn := if iso then 0xFF else (s.lcnOf p 0 (s.txTableFor p slot) tid).getD 0xFE
  if !iso && !s.txReady p then none
  else if prot ∧ g.count = 16 then some (s.putTag p slot tid lcn (!iso))
  else
    match s.nextItem p tix (s.startTick p slot) with
    | some (i, rest) =>
      let s := s.modLk p (fun l => { l with txq := rest })
      some (if iso then s.sendIso p slot i else s.sendGuar p slot i)
    | none =>
      match (if s.farEnd tix p = 0x37 then s.sendMap tix else none) with
      | some m =>
        let r := s.pimgFlit m
        let i : TxItem := { tix := tix, due := 0, iso := iso, first := false, last := false, sub := 0, isVoid := false,
                            loss := false, payload := r.1, rx := none }
        some (if iso then r.2.sendIso p slot i else r.2.sendGuar p slot i)
      | none => if prot ∧ 0 < g.count then some (s.putTag p slot tid lcn (!iso)) else none

/-- An IDLE flit. -/
def State.putIdle (s : State) (p slot : Nat) : State := s.put p slot Kind.IDLE 0 false false [] noSeq

/-- The SYNC flit of port `p` (R30): its own lane map and plan index, the group in force and tree time. -/
def State.putSync (s : State) (p : Nat) : State :=
  let y : Sync :=
    { sfn := s.sfn, time := s.timeAtSlot0, map := s.rd JXP_TXMAP.MAP p, plan := s.rd PLN_LSTAT.PLAN p,
      group := s.rd PLN_STATUS.GROUP, boot := s.on PLN_LSTAT.BOOT p, variant := s.variantOf p,
      narrow := s.on JXP_STATUS.NARROW p, zone := s.rd GLB_ZONE.ZONE }
  s.put p 0 Kind.SYNC 0 false false y.payload noSeq

/-- A lent slot of port `p` counted (R41). -/
def State.lent (s : State) (p : Nat) : State := s.wrap PLN_LENT.COUNT p

/-- The first of a list of attempts that has something to send, else IDLE. -/
def firstOf (idle : State) (l : List (Option State)) : State :=
  match l with
  | [] => idle
  | some s :: _ => s
  | none :: r => firstOf idle r

/-- The owner of a slot differs between the old TX table and the pending target (R52). -/
def State.txDiffers (s : State) (p slot : Nat) : Bool :=
  s.entry p 0 (s.txTable p) slot != s.entry p 0 (s.target p) slot

/-- What a slot with entry `e` carries, by the precedence of R41. -/
def State.fillSlot (s : State) (p slot e : Nat) : State :=
  if e = 0xFFE then s.putSync p
  else if e = 0xFFF then
    firstOf (s.putIdle p slot) [s.tryCtl p slot, s.tryReplay p slot, s.tryOpen p slot]
  else if 0xFF0 ≤ e then s.putIdle p slot
  else
    let lend := s.on TUN_ENT0.LEND e || (e == 0 && s.on PLN_LSTAT.BOOT p)
    let lentTo := if lend then [(s.lent p).tryReplay p slot, (s.lent p).tryOpen p slot] else []
    firstOf (s.putIdle p slot) ((if e = 0 then [s.tryCtl p slot] else []) ++ s.tryTunnel p slot e :: lentTo)

/-- The counts of a CREDIT flit from the credits freed (R150, R160). -/
def creditPayload (freed : NMap Nat) : List Byte :=
  le 1 0x01 ++ le 1 0 ++ le 22 (pack 11 ((List.range 16).map (fun v => NMap.get freed 0 v)))

/-- The credits freed on port `p` are put into a CREDIT flit when one is due (R150): some VC has freed credits, 16 or fewer
VCs, and 64 slots since the last. -/
def State.creditSend (s : State) (p : Nat) : State :=
  let l := s.lk p
  let s := s.modLk p (fun l => { l with creditGap := if l.creditGap < 64 then l.creditGap + 1 else 64 })
  if s.linkActive p ∧ s.rd JXK_CTRL.VCS p ≤ 16 ∧ l.creditGap = 64 ∧ l.freedNow ≠ [] then
    s.modLk p (fun l => { l with creditGap := 0, freedNow := [],
                                 ctl := l.ctl ++ [{ kind := Kind.CONTROL, payload := creditPayload l.freedNow, sequenced := true }] })
  else s

/-- A frame endpoint's or a block's flit handed to its tunnel's outgoing port. -/
def State.queueTx (s : State) (p : Nat) (i : TxItem) : State := s.modLk p (fun l => { l with txq := l.txq ++ [i] })

/-- A FRONT or CONTROL flit handed to port `p`. -/
def State.pushCtl (s : State) (p kind : Nat) (y : List Byte) (sequenced : Bool) : State :=
  s.modLk p (fun l => { l with ctl := l.ctl ++ [{ kind := kind, payload := fit 24 y, sequenced := sequenced }] })

end Sys2Proof.Machine
end

