-- ==== Sys2Proof/Machine/LinkRx.lean ====
section
/-! DEFINITION. Receiving on a JXL link: acknowledgements, staging, loss marks, groups, presentation and delivery to local
endpoints (R44, R68, R73, R138, R142 to R148, R156 to R158, R547). -/
namespace Sys2Proof.Machine

/-- EXPECTED and the ACK that follows from it (R142, R143). -/
def State.setExpected (s : State) (p n : Nat) : State :=
  (s.wr JXK_RXSEQ.EXPECTED n p).wr JXK_RXSEQ.ACK_TX (ackFor n) p

/-- A sequence number lies in the window (ACKED, NEWEST] (R144). -/
def State.unacked (s : State) (p seq : Nat) : Bool :=
  let d := seqDist seq (s.rd JXK_TXSEQ.ACKED p)
  decide (1 ≤ d) && decide (d ≤ seqDist (s.rd JXK_TXSEQ.NEWEST p) (s.rd JXK_TXSEQ.ACKED p))

/-- The buffer entries that stay after an acknowledgement (R145): the unacknowledged ones, and protected data whose
group's TAG is not covered. -/
def State.keepRbuf (s : State) (p : Nat) (b : List RbEnt) : List RbEnt :=
  let tags := b.filter (fun t => t.tag && !s.unacked p t.seq)
  b.filter (fun e => s.unacked p e.seq ||
    (e.prot && !(tags.any (fun t => t.stream == e.stream && t.group == e.group))))

/-- An `ACK` field is read (R144). A number in the window moves ACKED, frees what it covers and clears the expiry count
(R147). -/
def State.takeAck (s : State) (p a : Nat) : State :=
  if s.unacked p a then
    let s := (s.wr JXK_TXSEQ.ACKED a p).wr JXK_TXSEQ.EXPIRIES 0 p
    let s := s.modLk p (fun l =>
      { l with rbuf := s.keepRbuf p l.rbuf, ackMoved := true,
               resend := l.resend.filter (fun r => r.restore || s.unacked p r.ent.seq) })
    let s := if (s.lk p).resend.isEmpty then s.wr JXK_STATUS.REPLAYING 0 p else s
    s.countRbuf p
  else s

/-- Credits of VC `v` freed at this receiver (R149): returned by CREDIT flits or counted in FREED (R150, R151). -/
def State.freeCredit (s : State) (p v n : Nat) : State :=
  s.modLk p (fun l =>
    { l with freedNow := if s.rd JXK_CTRL.VCS p ≤ 16 then NMap.set l.freedNow 0 v (NMap.get l.freedNow 0 v + n) else l.freedNow
             freed := NMap.set l.freed 0 v ((NMap.get l.freed 0 v + n) % 1024) })

/-- Flits of tunnel `tix` that port `p`'s staging memory holds (R73). -/
def State.staged (s : State) (p tix : Nat) : Nat :=
  ((s.lk p).rxStage.filter (fun i => i.tix == tix)).length +
  ((List.range 4).map (fun q => ((s.lk q).txq.filter (fun i => i.tix == tix && i.rx == some p)).length)).sum

/-- All flits port `p`'s staging memory holds. -/
def State.stagedAll (s : State) (p : Nat) : Nat :=
  (s.lk p).rxStage.length + ((List.range 4).map (fun q => ((s.lk q).txq.filter (fun i => i.rx == some p)).length)).sum

/-- The highest occupancy of port `p`'s staging memory noted. -/
def State.notePeak (s : State) (p : Nat) : State :=
  if s.rd TUN_STAGEUSE.PEAK p < s.stagedAll p then s.wr TUN_STAGEUSE.PEAK (s.stagedAll p) p else s

/-- A loss recorded against ISO tunnel `tix` received on port `p` (R148): counted, raised, and marked on the next flit that
leaves. -/
def State.isoLoss (s : State) (p tix : Nat) : State :=
  ((s.bump JXK_ISOLOSS.COUNT p).raiseOnce (Ev.JXK_ISO_LOSS p) 0).setLoss (s.farEnd tix p) tix true

/-- A loss of the flit of receive slot `slot`, whose own departure slot then carries a VOID flit if it comes first
(R148). -/
def State.isoLossAt (s : State) (p tix slot : Nat) : State :=
  let q := s.farEnd tix p
  let s := s.isoLoss p tix
  if q < 4 ∧ s.linkActive q then
    s.queueTx q { tix := tix, due := s.presentTick p slot + s.delayFrom tix p, iso := true, first := false, last := false,
                  sub := 0, isVoid := true, loss := true, payload := [], rx := none }
  else s

/-- A frame or message completed at a local frame endpoint waits for its step. -/
def State.inboxAdd (s : State) (u : TunUnit) : State :=
  { s with tun := { s.tun with inbox := s.tun.inbox ++ [u] } }

/-- Assembly of frames from FIRST to LAST (R74); a loss mark inside a frame spoils it (R68). -/
def State.assemble (s : State) (key kind : Nat) (p ep : Nat) (i : RxItem) : State :=
  let a0 := NMap.get s.tun.asm { bytes := [], bad := true } key
  let a : Asm := if i.first then { bytes := i.payload, bad := false }
    else { bytes := a0.bytes ++ i.payload, bad := a0.bad || i.loss }
  if i.last then
    ({ s with tun := { s.tun with asm := NMap.del s.tun.asm key } }).inboxAdd
      { ep := ep, tix := i.tix, port := p, sub := i.sub, kind := kind, bad := a.bad, bytes := a.bytes }
  else { s with tun := { s.tun with asm := NMap.set s.tun.asm { bytes := [], bad := true } key a } }

/-- Endpoint codes that take frames or messages (R70). -/
def frameEndpoint (ep : Nat) : Bool :=
  ep == 0x10 || ep == 0x11 || ep == 0x12 || (decide (0x20 ≤ ep) && decide (ep ≤ 0x2B))

/-- A frame of this key is under assembly. -/
def State.assembling (s : State) (key : Nat) : Bool := s.tun.asm.any (fun e => e.1 == key)

/-- The next gateway frame of tunnel `tix` towards the zone controller tells of a loss (R83). -/
def State.gwLost (s : State) (tix : Nat) : State :=
  { s with tun := { s.tun with txLoss := NMap.set s.tun.txLoss false (4096 + tix) true } }

/-- A flit handed to a local endpoint (R70). At the gateway, a flit that belongs to no frame is a point-image flit, and a
transaction tunnel's flits make an item (R83; log entry 30). -/
def State.deliverLocal (s : State) (p ep : Nat) (i : RxItem) : State :=
  let key := if i.tix = 0 then 4096 + p + 8192 * i.sub else i.tix + 8192 * i.sub
  if ep = 0x37 then (if i.isVoid then s else s.pimgRecv i.tix i.payload)
  else if ep = 0x11 ∧ s.on TUN_ENT0.TXN i.tix then s.assemble key 2 p ep i
  else if ep = 0x11 ∧ !i.first ∧ !i.last ∧ !s.assembling key then
    (if i.isVoid then s.gwLost i.tix
     else s.inboxAdd { ep := ep, tix := i.tix, port := p, sub := 0, kind := 1, bad := i.loss, bytes := i.payload })
  else if frameEndpoint ep then s.assemble key 0 p ep i
  else s.emit (.toEndpoint ep i.tix i.first i.last i.loss i.sub (if i.isVoid then [] else i.payload))

/-- A staged flit is presented (R44): discarded where no valid entry owns it (R547), handed to express transit with its due
tick t + D, or delivered to its local endpoint. A flit bound for a link that is not ACTIVE is discarded (R22). -/
def State.present (s : State) (p : Nat) (i : RxItem) : State :=
  if s.tunValid i.tix = false ∨ s.usesPort i.tix p = false then
    let s := s.xmiss p
    if i.iso then s.isoLoss p i.tix else s
  else
    let q := s.farEnd i.tix p
    if q < 4 then
      if s.linkActive q then
        s.queueTx q { tix := i.tix, due := s.presentTick p i.slot + s.delayFrom i.tix p, iso := i.iso, first := i.first,
                      last := i.last, sub := i.sub, isVoid := i.isVoid, loss := i.loss, payload := i.payload, rx := some p }
      else
        let s := s.xmiss q
        if i.iso then s.isoLoss p i.tix else s
    else
      let mark := i.iso && s.lossMarked q i.tix
      let s := if i.iso then s.setLoss q i.tix false else s
      s.deliverLocal p q { i with loss := i.loss || mark }

/-- A received flit's part in its stream's group: counted, and its bytes kept for the tag (R154). -/
def State.growRx (s : State) (p tid kind chan : Nat) (first last : Bool) (c : List Byte) : State :=
  let g := s.rxGroup p tid
  s.setRxGroup p tid { g with count := g.count + 1, hist := g.hist ++ authHeader kind chan first last ++ fit 24 c }

/-- The group counter a receiver expects under a key generation: the next of the generation it holds, 0 of a new one
(R154, R159). -/
def RxGroup.expects (g : RxGroup) (keygen : Nat) : Nat := if g.keygen = keygen then g.gctr else 0

/-- Flit `i` of a stream's group in plain, under a key generation (R154). -/
def State.plainRx (s : State) (p tid keygen i : Nat) (c : List Byte) : List Byte :=
  cryptPayload (sessionKey (s.lk p).secret (s.rxDir p) keygen)
    (groupNonce tid (s.rxDir p) keygen ((s.rxGroup p tid).expects keygen)) i c

/-- An ISO group that opens takes the key generation in force, and a new generation starts GCTR at 0 (R154, R159). -/
def State.openIsoGroup (s : State) (p tid : Nat) : State :=
  let g := s.rxGroup p tid
  let kg := s.rd JXK_STATUS.KEYGEN p
  if g.count = 0 ∧ g.keygen ≠ kg then s.setRxGroup p tid { g with keygen := kg, gctr := 0 } else s

/-- A SLOT flit of tunnel `tix` joins the port's staging memory (R73); on a protected stream a GUAR flit is held, as
received, for its group (R156), an ISO flit is not (R158). -/
def State.stage (s : State) (p slot tix : Nat) (iso : Bool) (f : Flit) : State :=
  let prot := s.protects p tix
  let tid := s.tidOf tix
  let s := if prot ∧ iso then s.openIsoGroup p tid else s
  let y := if prot ∧ iso then s.plainRx p tid (s.rxGroup p tid).keygen (s.rxGroup p tid).count f.payload else f.payload
  let s := if prot then s.growRx p tid Kind.SLOT f.chan f.first f.last f.payload else s
  (s.modLk p (fun l => { l with rxStage := l.rxStage ++ [
    { slot := slot, tix := tix, iso := iso, first := f.first, last := f.last,
      sub := if iso then 0 else bits f.chan 8 2, isVoid := iso && bitAt f.chan 8, loss := iso && bitAt f.chan 9,
      payload := y, held := prot && !iso, late := false }] })).notePeak p

/-- Staging is full for tunnel `tix` on port `p` (R73). Cirrus has no STAGE limit: its entry is fixed (R72). -/
def State.stageFull (s : State) (p tix : Nat) : Bool :=
  tix != 0 && decide (s.rd TUN_ENT3.STAGE tix ≤ s.staged p tix)

def State.stageDrop (s : State) (p : Nat) : State :=
  (s.bump TUN_STAGEDROP.COUNT p).raiseOnce Ev.TUN_STAGE_OVF p p

/-- An OPEN flit enters the switch, in order. -/
def State.openEnter (s : State) (p : Nat) (i : OpenItem) : State :=
  { s with sw := { s.sw with openIn := s.sw.openIn ++ [{ port := p, item := i, epoch := s.rd JXK_STATUS.EPOCH p, cut := false }] } }

/-- An accepted OPEN flit: into the switch, or held for the OPEN stream's group (R156, R157). -/
def State.takeOpen (s : State) (p : Nat) (f : Flit) : State :=
  let i : OpenItem := { vc := bits f.chan 0 6, first := f.first, last := f.last, payload := f.payload }
  if s.on JXK_STATUS.PROT_ON p then
    let s := s.growRx p 1 Kind.OPEN f.chan f.first f.last f.payload
    let g := s.rxGroup p 1
    s.setRxGroup p 1 { g with openHeld := g.openHeld ++ [i] }
  else s.openEnter p i

/-- An unsequenced flit of a protected stream outside a running group is a restore flit (R156): taken only for a stream
whose group was discarded. -/
def State.takeRestore (s : State) (p slot tid : Nat) (tix : Option Nat) (f : Flit) : State :=
  if (s.rxGroup p tid).discarded then
    match tix with
    | some x => s.stage p slot x false f
    | none => s.takeOpen p f
  else s

/-- The checks of a TAG against the group at the receiver (R155): COUNT, KEYGEN, GCTR, then the tag. The generation is the
one in force or the one kept (R159). -/
def State.tagVerifies (s : State) (p tid : Nat) (y : List Byte) : Bool :=
  let g := s.rxGroup p tid
  let kg := byteAt y 19
  let gc := g.expects kg
  (byteAt y 18 == g.count) && (leAt y 16 2 == tid) &&
  (kg == s.rd JXK_STATUS.KEYGEN p || (s.lk p).oldKey == some kg) &&
  (leAt y 20 4 == gc % 2 ^ 32) &&
  (y.take 16 == groupTag (sessionKey (s.lk p).secret (s.rxDir p) kg) (groupNonce tid (s.rxDir p) kg gc) g.hist)

/-- A tag failure counted and raised (R156). -/
def State.tagFailed (s : State) (p : Nat) : State :=
  (s.bump JXK_TAGFAIL.COUNT p).raiseOnce (Ev.JXK_TAG_FAIL p) 0

/-- An ISO group's TAG: checked at once; a group that cannot be verified is one loss (R158). The next group is counted from the one
the TAG names, if it names a generation that is held (log entry 102). -/
def State.isoTag (s : State) (p tix : Nat) (y : List Byte) : State :=
  let tid := s.tidOf tix
  let ok := s.tagVerifies p tid y
  let g := s.rxGroup p tid
  let kg := byteAt y 19
  let known := kg == s.rd JXK_STATUS.KEYGEN p || (s.lk p).oldKey == some kg
  let s := if ok then s else (s.tagFailed p).isoLoss p tix
  s.setRxGroup p tid { g with count := 0, hist := [], gctr := (if known then leAt y 20 4 else g.gctr) + 1,
                              keygen := if known then kg else g.keygen }

/-- The released flits of a list whose tick has passed are presented at once (R157). -/
def State.presentAll (s : State) (p : Nat) (l : List RxItem) : State := l.foldl (fun s i => s.present p i) s

/-- A GUAR or OPEN group has verified: its flits are released and its counter advances (R156, R157). -/
def State.releaseGroup (s : State) (p tid kg : Nat) : State :=
  let g := s.rxGroup p tid
  let plain := fun (i : Nat) (y : List Byte) => s.plainRx p tid kg i y
  let s' := s.setRxGroup p tid { RxGroup.init with gctr := g.expects kg + 1, keygen := kg }
  if tid = 1 then
    (g.openHeld.zipIdx.map (fun e => { e.1 with payload := plain e.2 e.1.payload })).foldl (fun s i => s.openEnter p i) s'
  else
    let mine : RxItem → Bool := fun i => i.held && s.tidOf i.tix == tid && !i.iso
    let st := (s.lk p).rxStage
    let out := ((st.filter mine).zipIdx.map (fun e => { e.1 with held := false, payload := plain e.2 e.1.payload }))
    let s' := s'.modLk p (fun l => { l with rxStage := st.filter (fun i => !mine i) ++ out.filter (fun i => !i.late) })
    s'.presentAll p (out.filter (fun i => i.late))

/-- A GUAR or OPEN group failed: its held data are discarded and it waits for its restore flits (R156). -/
def State.discardGroup (s : State) (p tid : Nat) : State :=
  let g := s.rxGroup p tid
  let s := s.tagFailed p
  let s := s.setRxGroup p tid { g with count := 0, hist := [], discarded := true, openHeld := [] }
  s.modLk p (fun l => { l with rxStage := l.rxStage.filter (fun i => !(i.held && s.tidOf i.tix == tid && !i.iso)) })

/-- The tunnel that owns receive slot `slot` in the table in force, if a tunnel owns it. -/
def State.rxOwner (s : State) (p slot : Nat) : Option Nat :=
  let e := s.entry p 1 (s.rxTable p) slot
  if e < 0xFF0 then some e else none

/-- The owner of a receive slot differs between the old and the target RX table (R52). -/
def State.rxDiffers (s : State) (p slot : Nat) : Bool :=
  s.entry p 1 (s.rxTable p) slot != s.entry p 1 (s.target p) slot

end Sys2Proof.Machine
end

