-- ==== Sys2Proof/Machine/Hooks.lean ====
section
/-! DEFINITION. What a change of a JXL link means for the other blocks of the hub. -/
namespace Sys2Proof.Machine

/-- Something the rest of the hub has to answer when the command ends (Machine/Settle.lean). -/
def State.tell (s : State) (kind p : Nat) : State := { s with news := s.news ++ [(kind, p)] }

/-- A link has left ACTIVE. -/
def State.onLinkDown (s : State) (p : Nat) : State := s.tell 0 p

/-- A link has reached ACTIVE. -/
def State.onLinkUp (s : State) (p : Nat) : State := s.tell 1 p

/-- A plan shift has taken effect on port `p`. -/
def State.onPlanShift (s : State) (p : Nat) : State := s.tell 2 p

end Sys2Proof.Machine
end

