-- ==== Sys2Proof/Machine/LanesOps.lean ====
section
/-! DEFINITION. Lane states, failures and substitutions at the receiver and the sender (R120 to R128). -/
namespace Sys2Proof.Machine

namespace LaneSt
def UNQUAL : Nat := 0
def DATA : Nat := 1
def SPARE : Nat := 2
def FAILING : Nat := 3
def FENCED : Nat := 4
def PROBATION : Nat := 5
def PASSED : Nat := 6
def RETIRED : Nat := 7
end LaneSt

/-- The field of `JXP_LSTATE` that holds lane `k`'s state. -/
def laneField (k : Nat) : Field :=
  match k with
  | 0 => JXP_LSTATE.S0
  | 1 => JXP_LSTATE.S1
  | 2 => JXP_LSTATE.S2
  | 3 => JXP_LSTATE.S3
  | 4 => JXP_LSTATE.S4
  | 5 => JXP_LSTATE.S5
  | 6 => JXP_LSTATE.S6
  | 7 => JXP_LSTATE.S7
  | 8 => JXP_LSTATE.S8
  | _ => JXP_LSTATE.S9

/-- Lane `k`'s registers of port `p`. -/
def laneIx (p k : Nat) : Nat := p * 10 + k

def State.laneSt (s : State) (p k : Nat) : Nat := s.rd (laneField k) p

/-- How many receive lanes are SPARE. -/
def State.spareCount (s : State) (p : Nat) : Nat := ((List.range 10).filter (fun k => s.laneSt p k == LaneSt.SPARE)).length

/-- Lane `k` of port `p` in state `v`; `SPARES` follows. -/
def State.setLane (s : State) (p k v : Nat) : State :=
  let s := s.wr (laneField k) v p
  s.wr JXP_STATUS.SPARES (s.spareCount p) p

/-- PROBATION, or FENCED while `PROB_EN` is 0 (R120, R122). -/
def State.exclude (s : State) (p k : Nat) : State :=
  s.setLane p k (if s.on JXP_CTRL.PROB_EN p then LaneSt.PROBATION else LaneSt.FENCED)

/-- The physical lane that a lane map gives logical lane `l`. -/
def mapLane (m l : Nat) : Nat := bits m (4 * l) 4

/-- A lane map with logical lane `l` on physical lane `k`. -/
def setMapLane (m l k : Nat) : Nat := m - mapLane m l * 2 ^ (4 * l) + k % 16 * 2 ^ (4 * l)

/-- Logical lanes in use at the present width (R100). -/
def State.width (s : State) (p : Nat) : Nat := if s.on JXP_STATUS.NARROW p then 4 else 8

/-- The logical lane that physical lane `k` carries in a map. -/
def State.logicalOf (s : State) (p m k : Nat) : Option Nat :=
  (List.range (s.width p)).find? (fun l => mapLane m l == k)

/-- `PENDING` follows the substitutions asked for. -/
def State.countPending (s : State) (p : Nat) : State :=
  s.wr JXP_STATUS.PENDING (s.lk p).lane.substRx.length p

def State.setSubst (s : State) (p : Nat) (l : List SubstRx) : State :=
  (s.modLane p (fun a => { a with substRx := l })).countPending p

/-- The lowest SPARE lane that no pending substitution names (R124, R126). -/
def State.freeSpare (s : State) (p : Nat) : Option Nat :=
  (List.range 10).find? (fun k => s.laneSt p k == LaneSt.SPARE &&
    !((s.lk p).lane.substRx.any (fun r => r.dst == k || r.earlier.contains k)))

/-- A LANE_REQ flit (R123, R124). -/
def State.sendLaneReq (s : State) (p : Nat) (r : SubstRx) (supersede : Bool) : State :=
  s.pushCtl p Kind.CONTROL
    ({ code := 0x10, logical := r.logical, supersede := supersede, src := r.src, dst := r.dst, effect := r.effect,
       lseq := r.lseq, status := 0 } : LaneMsg).payload false

/-- Requests that have failed for a logical lane (R125). -/
def State.subFails (s : State) (p l : Nat) : Nat := NMap.get (s.lk p).lane.subFails 0 l

def State.setSubFails (s : State) (p l n : Nat) : State :=
  s.modLane p (fun a => { a with subFails := NMap.set a.subFails 0 l n })

/-- The next request number of port `p`. -/
def State.nextLseq (s : State) (p : Nat) : Nat := (s.lk p).lane.lseq

def State.usedLseq (s : State) (p : Nat) : State := s.modLane p (fun a => { a with lseq := (a.lseq + 1) % 256 })

/-- A new request to move logical lane `l` from `src` to `dst`, four superframes ahead (R124). -/
def State.requestSubst (s : State) (p l src dst : Nat) : State :=
  let r : SubstRx := { logical := l, src := src, dst := dst, effect := (s.sfn + 4) % 2 ^ 32, lseq := s.nextLseq p,
                       acked := false, earlier := [], used := none }
  ((s.setSubst p ((s.lk p).lane.substRx ++ [r])).usedLseq p).sendLaneReq p r false

/-- What became of an attempt to start a substitution. -/
inductive SubstStart where
  | started | waits | noSpare
  deriving DecidableEq, Repr

/-- R124, R126: a FAILING lane asks for the lowest spare, waits while two substitutions are pending, or has none. -/
def State.substStart (s : State) (p : Nat) : SubstStart :=
  if 2 ≤ (s.lk p).lane.substRx.length then .waits
  else match s.freeSpare p with
    | some _ => .started
    | none => .noSpare

def State.startSubst (s : State) (p k : Nat) : State :=
  match s.substStart p, s.freeSpare p, s.logicalOf p (s.rd JXP_RXMAP.MAP p) k with
  | .started, some q, some l => s.requestSubst p l k q
  | .waits, _, _ => s.modLane p (fun a => { a with waiting := a.waiting ++ [k] })
  | _, _, _ => s

/-- Clears everything of a direction's substitutions when the link leaves ACTIVE; a FAILING lane is excluded (R120, R167). -/
def State.flushLanes (s : State) (p : Nat) : State :=
  let s := (List.range 10).foldl (fun s k => if s.laneSt p k = LaneSt.FAILING then s.exclude p k else s) s
  (s.modLane p (fun a => { a with substRx := [], substTx := [], subFails := [], waiting := [] })).countPending p

/-- The combinations of lanes a SYNC may be decoded on while substitutions are due (R124 step 4): for each one due, its
target, then the targets of superseded requests, newest first, then the failing lane. -/
def candidateMaps (m : Nat) (due : List SubstRx) : List Nat :=
  match due with
  | [] => [m]
  | r :: rest => (r.dst :: r.earlier ++ [r.src]).flatMap (fun k => candidateMaps (setMapLane m r.logical k) rest)

/-- The scan starts: the result window of the port reads 0 (R113). -/
def State.scanBegin (s : State) (p : Nat) : State :=
  let s := { s with horizon := NMap.keep s.horizon (fun k => k / 8192 != p) }
  ((s.wr JXP_HZSTAT.RUN 1 p).modLane p (fun a => { a with hzHeld := false }))

/-- A scan held during EQUALIZE begins when EQUALIZE ends (R113). -/
def State.releaseScan (s : State) (p : Nat) : State := if (s.lk p).lane.hzHeld then s.scanBegin p else s

end Sys2Proof.Machine
end

