-- ==== Sys2Proof/Machine/LinkState.lean ====
section
/-! DEFINITION. Training states and epochs of a JXL link (R22, R23, R54, R163 to R167, R546), and the plan requests that follow
from them (R50, R57). -/
namespace Sys2Proof.Machine

namespace LinkSt
def DISABLED : Nat := 0
def DETECT : Nat := 1
def EQUALIZE : Nat := 2
def DESKEW : Nat := 3
def ALIGN : Nat := 4
def AUTH : Nat := 5
def ACTIVE : Nat := 6
def RECOVER : Nat := 7
end LinkSt

def State.linkSt (s : State) (p : Nat) : Nat := s.rd JXK_STATUS.STATE p
def State.setLinkSt (s : State) (p v : Nat) : State :=
  (s.wr JXK_STATUS.STATE v p).setBit PLN_LSTAT.ACTIVE (v == LinkSt.ACTIVE) p

/-- The pending shift of a link is gone (R51). -/
def State.clearPending (s : State) (p : Nat) : State :=
  ((s.wr PLN_LSTAT.PEND 0 p).modPlan p (fun a => { a with committed := false, requested := false, zone := false }))

/-- Restarts the numbering, credits and groups of a link (R142, R144, R167). -/
def State.resetSeq (s : State) (p : Nat) : State :=
  let s := s.setExpected p 0
  let s := ((s.wr JXK_TXSEQ.NEWEST 0xFFE p).wr JXK_TXSEQ.ACKED 0xFFE p).wr JXK_TXSEQ.EXPIRIES 0 p
  let s := s.wr JXK_STATUS.REPLAYING 0 p
  let s := (List.range 64).foldl (fun s v => (s.wr JXK_VC.AVAIL 0 (p * 64 + v)).wr JXK_VC.STALL 0 (p * 64 + v)) s
  (s.modLk p (fun l =>
    { l with rbuf := [], resend := [], rxStage := [], groupsTx := [], groupsRx := [], tagWait := none, ackMoved := true,
             freedNow := [], freed := [], sent := [], creditGap := 64, secret := [], oldKey := none, rekey := none,
             ctl := [], openq := [], txq := [] })).countRbuf p

/-- Flits of the link that R167 discards and counts: the replay buffer and every flit held, staged or retained, those that
express transit still holds in this port's staging memory included. -/
def State.flushCount (s : State) (p : Nat) : Nat :=
  let l := s.lk p
  l.rbuf.length + l.rxStage.length + (match l.tagWait with | none => 0 | some t => 1 + t.after.length)
    + (l.groupsRx.map (fun g => g.2.openHeld.length)).sum
    + ((List.range 4).map (fun q => if q = p then 0 else ((s.lk q).txq.filter (fun i => i.rx == some p)).length)).sum

/-- Flits waiting to leave by port `p` are discarded at this hub (R22). -/
def State.dropTxq (s : State) (p : Nat) : State :=
  (s.lk p).txq.foldl (fun s i =>
    let s := s.xmiss p
    match i.iso, i.rx with
    | true, some q => s.isoLoss q i.tix
    | _, _ => s) s

/-- Flits staged from port `p` and waiting on other ports go with the link; an ISO loss is recorded for each (R148, R167). -/
def State.dropStagedFrom (s : State) (p : Nat) : State :=
  (List.range 4).foldl (fun s q =>
    if q = p then s
    else
      let gone := (s.lk q).txq.filter (fun i => i.rx == some p && i.iso)
      let s := s.modLk q (fun l => { l with txq := l.txq.filter (fun i => i.rx != some p) })
      gone.foldl (fun s i => s.isoLoss p i.tix) s) s

/-- R167: what both ends do when a link leaves ACTIVE. -/
def State.flush (s : State) (p : Nat) : State :=
  let n := s.flushCount p
  let s := s.bump JXK_FLUSHED.COUNT p n
  let s := s.dropTxq p
  let s := s.dropStagedFrom p
  let s := s.resetSeq p
  let s := s.clearPending p
  let s := s.flushLanes p
  let s := s.modPlan p (fun a =>
    { a with syncFails := 0, provisional := false, oldPlan := none, rxBoot := true, rxPlan := 0, waitZone := false,
             bootReq := false })
  ((s.wr PLN_LSTAT.BOOT 1 p).wr PLN_LSTAT.PLAN 0 p)

/-- What one training attempt gathers is empty; `seen`: an attempt is running. -/
def State.freshAttempt (s : State) (p : Nat) (seen : Bool) : State :=
  s.modLk p (fun l => { l with attempt := seen, idOk := false, credOk := [], loopOk := false, syncOk := false, alignPos := 0,
                               authOwn := [], authKey := 0, authStage := 0, authPos := 0, authSent := false,
                               authDone := false, authTotal := [], authBytes := [], secret := [], ctl := [] })

/-- A link leaves ACTIVE for `to` (R51, R54, R167, R546): flushed, without an active plan, its epoch over. -/
def State.leaveActive (s : State) (p dest cause : Nat) : State :=
  let s := s.flush p
  let e := s.rd JXK_STATUS.EPOCH p
  let s := (s.freshAttempt p true).modLk p (fun l => { l with prevEpoch := e })
  let s := ((s.wr JXK_STATUS.EPOCH 0 p).wr JXK_STATUS.KEYGEN 0 p).wr JXK_STATUS.PROT_ON 0 p
  let s := s.setLinkSt p dest
  let s := s.raise (Ev.JXK_DOWN p) cause
  let s := if s.on JXP_HZSTAT.RUN p then ((s.wr JXP_HZSTAT.RUN 0 p).wr JXP_HZSTAT.EW 0 p).wr JXP_HZSTAT.EH 0 p else s
  s.onLinkDown p

/-- Causes that `JXK_DOWN` captures; the spec names the cause and gives it no code (log entry 8). -/
def downRecover : Nat := 1
def downPeerLoss : Nat := 2
def downDisabled : Nat := 3

/-- R164: the link leaves ACTIVE for RECOVER. Outside ACTIVE nothing happens. -/
def State.recover (s : State) (p : Nat) : State :=
  if s.linkActive p then (s.bump JXK_RETRAINS.COUNT p).leaveActive p LinkSt.RECOVER downRecover else s

/-- Every ACTIVE downstream link retrains (R23). -/
def State.retrainDownstream (s : State) : State :=
  (List.range 4).foldl (fun s p => if s.isUpPort p then s else s.recover p) s

/-- A training attempt fails with a status (R165): recorded, raised, and the back-off runs in DETECT. -/
def State.trainFail (s : State) (p status : Nat) : State :=
  let s := (s.wr JXK_TRFAIL.STATE (s.linkSt p) p).wr JXK_TRFAIL.STATUS status p
  let s := s.bump JXK_TRFAIL.FAILS p
  let s := s.raise (if status = St.CONFLICT then Ev.JXK_CONFLICT p
    else if status = St.AUTH then Ev.JXK_AUTH_FAIL p else Ev.JXK_TRAIN_FAIL p) status
  let s := (s.freshAttempt p false).releaseScan p
  (s.setLinkSt p LinkSt.DETECT).wr JXK_STATUS.BACKOFF 1 p

/-- A REQ for plan `q`, group `g`, at hyperframe `e` (R50 step 1); the shift becomes pending at the upstream end. -/
def State.sendReq (s : State) (p q e g : Nat) (zone : Bool) : State :=
  let n := (s.lk p).plan.nextFseq
  let s := s.modPlan p (fun a => { a with committed := false, requested := true, zone := zone, group := g, fseq := n,
                                          nextFseq := (n + 1) % 256 })
  let s := ((s.wr PLN_LSTAT.PEND 1 p).wr PLN_LSTAT.PTARGET q p).wr PLN_LHFN.PEFFECT e p
  s.pushCtl p Kind.FRONT
    ({ op := 1, plan := q, variant := s.variantOf p, group := g, zoneShift := zone, status := 0, effect := e % 2 ^ 24,
       fseq := n, digTx := s.digTx p q, digRx := s.digRx p q } : Front).payload false

/-- The group in force at hyperframe `e` (R54): the target of a zone shift that takes effect by then. -/
def State.groupAt (s : State) (e : Nat) : Nat :=
  if s.on PLN_STATUS.ZPEND ∧ hfnAhead e s.zoneEffect ≤ 8388607 then s.rd PLN_STATUS.ZTARGET
  else s.rd PLN_STATUS.GROUP

/-- R54, R57: the upstream end asks for the plan of the group in force, two hyperframes ahead; with no valid plan the link
stays on the bootstrap schedule. A node without a group in force asks for nothing (R55). -/
def State.requestGroupPlan (s : State) (p : Nat) : State :=
  if s.isUpPort p ∨ (s.isRoot = false ∧ s.groupKnown = false) then s
  else
    let e := (s.hfn + 2) % 2 ^ 24
    let g := s.groupAt e
    match s.validGroupPlan g p with
    | some q => (s.sendReq p q e g false).modPlan p (fun a => { a with bootReq := false, bootAt := s.hfn })
    | none => s.raise Ev.PLN_NO_VARIANT (p + 4 * g)

/-- R130: training that ends at narrow width sets `OVC_HOLD`; one that ends below the receiver's ceiling lowers `RATE_CAP`. -/
def State.keepMode (s : State) (p : Nat) : State :=
  let s := if s.on JXP_STATUS.NARROW p then s.wr JXP_STATUS.OVC_HOLD 1 p else s
  let r := s.rd JXP_STATUS.RATE p
  if max (s.rd JXP_CTRL.MAXRATE p) (s.rd JXP_STATUS.RATE_CAP p) < r then s.wr JXP_STATUS.RATE_CAP r p else s

/-- R163: the link reaches ACTIVE with the agreed epoch, on the bootstrap schedule (R21, R54), with the peer's credits
(R149). A node's upstream link re-aligns the hub, which retrains its downstream links (R23). -/
def State.reachActive (s : State) (p : Nat) : State :=
  let l := s.lk p
  let s := (s.resetSeq p).modLk p (fun x => { x with secret := l.secret })
  let s := s.wr JXK_STATUS.EPOCH l.epoch p
  let s := ((s.wr JXK_TRFAIL.FAILS 0 p).setLinkSt p LinkSt.ACTIVE).wr JXK_STATUS.KEYGEN 0 p
  let s := (s.setBit JXK_STATUS.PROT_ON (s.on JXK_CTRL.PROT p) p).setBit JXK_STATUS.CMODE (decide (16 < s.rd JXK_CTRL.VCS p)) p
  let s := s.setBit JXK_STATUS.UP (!s.isUpPort p) p
  let s := s.keepMode p
  let s := (List.range (s.rd JXK_CTRL.VCS p)).foldl (fun s v => s.wr JXK_VC.AVAIL (NMap.get l.peerInit 0 v) (p * 64 + v)) s
  let s := ((s.wr PLN_LSTAT.BOOT 1 p).wr PLN_LSTAT.PLAN 0 p).wr PLN_LSTAT.VARIANT (s.variantOf p) p
  let s := s.modPlan p (fun a => { PlanLink.init with nextFseq := a.nextFseq, lastSfn := a.lastSfn, missed := a.missed,
                                                      missedAt := a.missedAt })
  let s := s.raise (Ev.JXK_ACTIVE p) (s.rd JXP_STATUS.RATE p + 4 * s.rd JXP_STATUS.NARROW p + 8 * l.epoch)
  let s := s.raise Ev.PLN_BOOTSTRAP p
  let s := if s.isUpPort p then s.retrainDownstream else s.requestGroupPlan p
  s.onLinkUp p

/-- Lane `k` is declared failed with a cause (R121, R122, R126, R129). -/
def State.laneFail (s : State) (p k cause : Nat) : State :=
  let st := s.laneSt p k
  if st ≠ LaneSt.DATA ∧ st ≠ LaneSt.SPARE then s
  else
    let s := s.wr JXP_LHEALTH.CAUSE cause (laneIx p k)
    let counts := cause ≠ 6 ∧ s.on JXP_STATUS.NARROW p = false ∧ s.rd JXP_STATUS.FAILS p < 3
    let s := if counts then s.wr JXP_STATUS.FAILS (s.rd JXP_STATUS.FAILS p + 1) p else s
    let third := counts ∧ s.rd JXP_STATUS.FAILS p = 3
    let s :=
      if st = LaneSt.DATA then
        let s := s.raise (Ev.JXP_LANE_FAIL p) (k + 16 * cause)
        if s.linkActive p then
          let s := s.setLane p k LaneSt.FAILING
          if third then s
          else if s.substStart p = .noSpare then s.recover p else s.startSubst p k
        else s.exclude p k
      else
        let s := s.raise (Ev.JXP_SPARE_FAIL p) (k + 16 * cause)
        let s := s.exclude p k
        match (s.lk p).lane.substRx.find? (fun r => r.dst == k && r.used == none) with
        | none => s
        | some r =>
          match s.freeSpare p with
          | none => s.recover p
          | some q =>
            let r' := { r with dst := q, effect := (s.sfn + 4) % 2 ^ 32, lseq := s.nextLseq p, acked := false,
                               earlier := r.dst :: r.earlier }
            ((s.setSubst p ((s.lk p).lane.substRx.map (fun x => if x = r then r' else x))).usedLseq p).sendLaneReq p r' true
    if third then ((s.wr JXP_STATUS.OVC_HOLD 1 p).raise (Ev.JXP_OVERCAST p)).recover p else s

/-- One more failed request for logical lane `l` (R125): after three the link recovers; otherwise the request is made
anew, from lane `src` to lane `dst`. -/
def State.retrySubst (s : State) (p : Nat) (r : SubstRx) (src dst : Nat) : State :=
  let n := s.subFails p r.logical + 1
  let s := s.setSubFails p r.logical n
  let s := s.setSubst p ((s.lk p).lane.substRx.filter (fun x => x != r))
  if 3 ≤ n then (s.raise (Ev.JXP_SUBST_FAIL p) r.logical).recover p
  else
    let r' : SubstRx := { logical := r.logical, src := src, dst := dst, effect := (s.sfn + 4) % 2 ^ 32,
                          lseq := s.nextLseq p, acked := false, earlier := [], used := none }
    ((s.setSubst p ((s.lk p).lane.substRx ++ [r'])).usedLseq p).sendLaneReq p r' false

/-- What the LANE_MAP of a passing SYNC says of a substitution that is due (R125). -/
def State.decideSubst (s : State) (p map : Nat) (r : SubstRx) : State :=
  let k := mapLane map r.logical
  if k = r.dst then
    (s.setSubst p ((s.lk p).lane.substRx.map (fun x => if x = r then { r with used := some k } else x)))
  else if r.earlier.contains k then
    let s := (s.exclude p r.src).setLane p k LaneSt.FAILING
    match s.freeSpare p with
    | some q => s.retrySubst p r k q
    | none => s.recover p
  else s.retrySubst p r r.src r.dst

/-- Substitutions whose effect has come and that no SYNC has decided. -/
def State.substDue (s : State) (p sfn : Nat) : List SubstRx :=
  (s.lk p).lane.substRx.filter (fun r => r.used == none && decide ((sfn + 2 ^ 32 - r.effect) % 2 ^ 32 < 2 ^ 31))

end Sys2Proof.Machine
end

