-- ==== Sys2Proof/Machine/LinkAuth.lean ====
section
/-! DEFINITION. Link key agreement: AUTH messages, their segments, and the way to ACTIVE (R163, R480 to R483). -/
namespace Sys2Proof.Machine

namespace Amsg
def HELLO : Nat := 1
def CERT : Nat := 2
def SIG : Nat := 3
def DONE : Nat := 4
end Amsg

/-- The life-cycle states (`SEC_STATUS.LC`). -/
def lcBlank : Nat := 0
def lcProvision : Nat := 1
def lcField : Nat := 2
def lcReturn : Nat := 3
def lcEnd : Nat := 4

/-- BLANK and RETURN use the test identity (R482). -/
def State.testIdentity (s : State) : Bool := s.rd SEC_STATUS.LC == lcBlank || s.rd SEC_STATUS.LC == lcReturn

/-- An end that may take part in AUTH at all (R479, R482). -/
def State.mayAuth (s : State) : Bool :=
  s.on SEC_STATUS.DRBG_OK && s.rd SEC_STATUS.LC != lcEnd && (s.testIdentity || s.on SEC_STATUS.CERT_OK)

/-- The HELLO of a draw (R480): the ephemeral public key, a random value and the kind of identity. -/
def State.ownHello (s : State) (draw : Nat) : List Byte :=
  fit 97 (Config.crypto "P-384 public key" [draw]) ++ fit 16 (Config.crypto "DRBG" [draw])
    ++ le 1 (if s.testIdentity then 1 else 0)

/-- The CERT message: the certificate list in OTP, or none for the test identity (R480, R482). -/
def State.ownCert (s : State) : List Byte := if s.testIdentity then le 4 0 else s.certList

/-- AUTH starts: an ephemeral key pair is drawn (R481). An end that may not authenticate fails with AUTH. -/
def State.startAuth (s : State) (p : Nat) : State :=
  let s := s.setLinkSt p LinkSt.AUTH
  if s.mayAuth = false then s.trainFail p St.AUTH
  else
    let draw := s.freeVal
    let own := NMap.set (NMap.set [] [] Amsg.HELLO (s.ownHello draw)) [] Amsg.CERT s.ownCert
    s.drew.modLk p (fun l => { l with authKey := draw, authOwn := own })

/-- The VCs whose ALIGN_CRED an end needs, by BASE (R160). -/
def State.credBases (s : State) (p : Nat) : List Nat :=
  [0, 16, 32, 48].filter (fun b => decide (b < s.rd JXK_CTRL.VCS p))

/-- ALIGN is complete (R163): the peer's ALIGN_ID and credits are known, and the loop delay at the upstream end, the first SYNC at
a node's upstream port. -/
def State.tryAuth (s : State) (p : Nat) : State :=
  let l := s.lk p
  if s.linkSt p = LinkSt.ALIGN ∧ l.idOk ∧ (s.credBases p).all (fun b => NMap.get l.credOk false b) ∧
      (if s.isUpPort p then l.syncOk else l.loopOk) then s.startAuth p
  else s

/-- Segment `i` of an AUTH message (R480). -/
def authSegment (amsg : Nat) (m : List Byte) (i : Nat) : List Byte :=
  le 1 0x22 ++ le 1 amsg ++ le 2 (18 * i) ++ le 2 m.length ++ fit 18 (m.drop (18 * i))

/-- How many segments a message takes; DONE takes one. -/
def segmentCount (m : List Byte) : Nat := if m.isEmpty then 1 else (m.length + 17) / 18

/-- The segments an end repeats in its present step (R481). -/
def Link.authSegments (l : Link) : List (List Byte) :=
  let msg := fun (a : Nat) =>
    let m := NMap.get l.authOwn [] a
    (List.range (segmentCount m)).map (fun i => authSegment a m i)
  match l.authStage with
  | 0 => msg Amsg.HELLO ++ msg Amsg.CERT
  | 1 => msg Amsg.SIG
  | _ => msg Amsg.DONE

/-- The next AUTH segment into a free OPEN slot (R481). An end that has sent and received DONE reaches ACTIVE. -/
def State.putAuth (s : State) (p slot : Nat) : State :=
  let l := s.lk p
  let segs := l.authSegments
  let s := s.put p slot Kind.CONTROL 0 false false (segs.getD (l.authPos % segs.length) []) noSeq
  let s := s.modLk p (fun l => { l with authPos := (l.authPos + 1) % segs.length, authSent := l.authSent || decide (l.authStage = 2) })
  if (s.lk p).authStage = 2 ∧ (s.lk p).authDone then s.reachActive p else s

/-- The message `a` under assembly, once it is whole. -/
def Link.authMessage (l : Link) (a : Nat) : Option (List Byte) :=
  let total := NMap.get l.authTotal 0 a
  if total = 0 then none
  else
    let m := NMap.get l.authBytes [] a
    if (List.range (total - 1)).all (fun j => NMap.get m 0 j != 0) then
      some ((List.range (total - 1)).map (fun j => BitVec.ofNat 8 (NMap.get m 0 j - 1)))
    else none

/-- A segment joins its message; one at or beyond TOTAL, or with another TOTAL, is discarded (R480). DONE has TOTAL 0. -/
def Link.takeSegment (l : Link) (y : List Byte) : Link :=
  let a := bits (byteAt y 1) 0 3
  let off := leAt y 2 2
  let total := leAt y 4 2
  let have_ := NMap.get l.authTotal 0 a
  if (total ≤ off ∧ !(a = Amsg.DONE ∧ total = 0)) ∨ (have_ ≠ 0 ∧ have_ ≠ total + 1) then l
  else
    let m := (List.range (min 18 (total - off))).foldl (fun m i => NMap.set m 0 (off + i) (byteAt y (6 + i) + 1))
      (NMap.get l.authBytes [] a)
    { l with authTotal := NMap.set l.authTotal 0 a (total + 1), authBytes := NMap.set l.authBytes [] a m }

/-- The transcript hash T (R481): the upstream end's HELLO and CERT come first. -/
def State.transcript (s : State) (p : Nat) (peer : List Byte) : List Byte :=
  let own := NMap.get (s.lk p).authOwn [] Amsg.HELLO ++ NMap.get (s.lk p).authOwn [] Amsg.CERT
  let ascii := ("PX-AUTH".toList.map (fun c => BitVec.ofNat 8 c.toNat) : List Byte)
  sha384 (ascii ++ le 4 (s.rd GLB_ZONE.ZONE) ++ le 1 (s.lk p).epoch ++
    (if s.isUpPort p then peer ++ own else own ++ peer))

/-- The session secret from the two ephemeral keys and the transcript (R483). -/
def sessionSecret (draw : Nat) (peerHello t : List Byte) : List Byte :=
  let z := Config.crypto "ECDH P-384" (draw :: (fit 97 peerHello).map BitVec.toNat)
  fit 48 (Config.crypto "KDF PX-LINK" ((z ++ t).map BitVec.toNat))

/-- The peer's HELLO and CERT are whole: the peer is checked (R482), `ok` telling whether its chain passes, and this end signs
(R481 steps 2 and 3). -/
def State.checkPeer (s : State) (p : Nat) (hello cert : List Byte) (ok : Bool) : State :=
  let kind := byteAt hello 113
  if hello.length ≠ 114 ∨ ok = false ∨ kind ≠ (if s.testIdentity then 1 else 0) then s.trainFail p St.AUTH
  else
    let t := s.transcript p (hello ++ cert)
    let role : List Byte := le 1 (if s.isUpPort p then 1 else 0)
    let sig := fit 96 (Config.crypto "ECDSA P-384 with slot 0" ((sha384 (t ++ role)).map BitVec.toNat))
    s.modLk p (fun l => { l with secret := sessionSecret l.authKey hello t, authStage := 1, authPos := 0,
                                 authOwn := NMap.set l.authOwn [] Amsg.SIG sig })

/-- `AUTH_MESSAGE_RECEIVE`: a segment of HELLO, CERT or SIG; `ok` is what the chain or signature check of a message that this segment
completes gives. -/
def State.authSegmentIn (s : State) (p : Nat) (y : List Byte) (ok : Bool) : State :=
  if s.linkSt p ≠ LinkSt.AUTH then s
  else
    let s := s.modLk p (fun l => l.takeSegment y)
    let l := s.lk p
    if l.authStage = 0 then
      match l.authMessage Amsg.HELLO, l.authMessage Amsg.CERT with
      | some h, some c => s.checkPeer p h c ok
      | _, _ => s
    else if l.authStage = 1 then
      match l.authMessage Amsg.SIG with
      | some _ => if ok then s.modLk p (fun l => { l with authStage := 2, authPos := 0 }) else s.trainFail p St.AUTH
      | none => s
    else s

/-- `AUTH_DONE_RECEIVE`: the port reaches ACTIVE when it has both sent and received DONE (R481 step 4). -/
def State.authDoneIn (s : State) (p : Nat) : State :=
  if s.linkSt p ≠ LinkSt.AUTH then s
  else
    let s := s.modLk p (fun l => { l with authDone := true })
    if (s.lk p).authSent then s.reachActive p else s

/-- An AUTH flit by its AMSG; reserved values are discarded. -/
def State.authReceive (s : State) (p : Nat) (y : List Byte) (ok : Bool) : State :=
  let a := bits (byteAt y 1) 0 3
  if a = Amsg.DONE then (if leAt y 4 2 = 0 then s.authDoneIn p else s)
  else if a = Amsg.HELLO ∨ a = Amsg.CERT ∨ a = Amsg.SIG then s.authSegmentIn p y ok
  else s

end Sys2Proof.Machine
end

