-- ==== Sys2Proof/Machine/Access.lean ====
section
/-! DEFINITION. A management access before it reaches its register: the start-up restriction (R400), power states (R386) and power domains
(R379 to R384). -/
namespace Sys2Proof.Machine

def State.setChip (s : State) (c : Chip) : State := { s with chip := c }
def State.modChip (s : State) (f : Chip → Chip) : State := s.setChip (f s.chip)

/-- The field of `CPM_DSTAT` of domain `d`. -/
def dstat (d : Nat) : Field :=
  [CPM_DSTAT.D0, CPM_DSTAT.D1, CPM_DSTAT.D2, CPM_DSTAT.D3, CPM_DSTAT.D4, CPM_DSTAT.D5, CPM_DSTAT.D6, CPM_DSTAT.D7, CPM_DSTAT.D8,
   CPM_DSTAT.D9, CPM_DSTAT.D10, CPM_DSTAT.D11, CPM_DSTAT.D12].getD d CPM_DSTAT.D0

/-- The power domain of an address (R379, R421); the scratchpad window shows a core's domain (log entry 92). -/
def State.domainOf (s : State) (a : Nat) : Nat :=
  if 0x100000 ≤ a ∧ a < 0x140000 then 1 + (a - 0x100000) / 0x10000
  else if 0x140000 ≤ a ∧ a < 0x180000 then 1 + (a - 0x140000) / 0x10000
  else if 0x400000 ≤ a ∧ a < 0x440000 then 5
  else if 0x440000 ≤ a ∧ a < 0x480000 then 6
  else if 0x580000 ≤ a ∧ a < 0x5C0000 then 7
  else if 0x5C0000 ≤ a ∧ a < 0x600000 then 8
  else if 0x600000 ≤ a ∧ a < 0x640000 then 9
  else if 0x740000 ≤ a ∧ a < 0x7C0000 ∧ 0 < s.rd NIM_WINSEL.CORE then 9 + s.rd NIM_WINSEL.CORE
  else 0

/-- The bit of domain `d` in `CPM_WAKEF` and `GATE_EN`. -/
def State.awaitsRestore (s : State) (d : Nat) : Bool := decide (0 < d) && bitAt (s.rd CPM_WAKEF.WAKEF) (d - 1)
def State.gateEnabled (s : State) (d : Nat) : Bool := decide (0 < d) && bitAt (s.rd CPM_TRIM.GATE_EN) (d - 1)

/-- RUN or TRIM, by the domains that are gated (R378). -/
def State.powerState (s : State) : State :=
  if s.rd CPM_STATE.STATE = 2 then s
  else s.setBit CPM_STATE.STATE ((List.range 13).any (fun d => s.rd (dstat d) == 2))

/-- A gated domain is powered at its reset values (R383). -/
def State.domainWake (s : State) (d : Nat) : State :=
  if s.rd (dstat d) = 2 then
    (((s.wr (dstat d) 0).wr CPM_WAKEF.WAKEF (s.rd CPM_WAKEF.WAKEF ||| 2 ^ (d - 1))).powerState).raise 0x3F0 d
  else s

/-- An access to a domain (R382 to R384). -/
def State.domainAccess (s : State) (a : Nat) (write : Bool) (f : State → State) : State :=
  let d := s.domainOf a
  if s.rd (dstat d) = 2 then
    if write then (s.domainWake d).answer St.BUSY else f (s.domainWake d)
  else if s.rd (dstat d) = 1 then s.modChip (fun c => { c with held := c.held ++ [⟨write, a, none⟩] })
  else if write ∧ s.awaitsRestore d then s.answer St.BUSY
  else f s

/-- BOOT, GLB and EVU answer in START (R400). -/
def startBlock (a : Nat) : Bool := decide (a < 0x20000) || (decide (0x30000 ≤ a) && decide (a < 0x40000))

/-- A management access to address `a` (R386, R400). -/
def State.access (s : State) (a : Nat) (write : Bool) (f : State → State) : State :=
  match s.chip.phase with
  | .entering => s.answer St.ABORTED
  | .running => if s.rd BOOT_STATUS.MODE = 0 ∧ startBlock a = false then s.answer St.BUSY else s.domainAccess a write f
  | _ => s

/-- An access whose address may be one that no block decodes (R5), which is answered before anything else is checked (R10). -/
def State.addrAccess (s : State) (bad : Bool) (a : Nat) (write : Bool) (f : State → State) : State :=
  if s.chip.phase = .running ∧ bad then s.answer St.ADDR else s.access a write f

end Sys2Proof.Machine
end

