-- ==== Sys2Proof/Machine/RegOps.lean ====
section
/-! DEFINITION. Reading and writing one register by the types of its fields (R6, R7, R9 to R11). -/
namespace Sys2Proof.Machine

/-- A field's bits in a register word. -/
def Field.of (f : Field) (data : Nat) : Nat := bits data f.lsb f.width

/-- A write carries a 1 outside the register's fields (R7). -/
def RegDesc.reservedSet (d : RegDesc) (data : Nat) : Bool :=
  (List.range 32).any (fun b => bitAt data b && !(d.fields.any (fun f => decide (f.lsb ≤ b) && decide (b < f.lsb + f.width))))

/-- A counter is written with something other than 0. -/
def Field.badCount (f : Field) (data : Nat) : Bool := f.kind == .cnt && f.of data != 0

/-- A written value lies outside the field's range. -/
def Field.outOfRange (f : Field) (data : Nat) : Bool :=
  (f.kind == .rw || f.kind == .rwl) && (decide (f.of data < f.lo) || decide (f.hi < f.of data))

/-- A locked field would change (R6). -/
def State.locks (s : State) (f : Field) (i data : Nat) : Bool :=
  f.kind == .rwl && s.on BOOT_STATUS.LOCK && f.of data != s.rd f i

/-- The checks that every register write meets (R6, R7). -/
def State.writeChecks (s : State) (d : RegDesc) (i data : Nat) : List (Nat × Bool) :=
  [(St.VALUE, d.reservedSet data || d.fields.any (fun f => f.badCount data)),
   (St.STATE, d.fields.any (fun f => s.locks f i data)),
   (St.RANGE, d.fields.any (fun f => f.outOfRange data))]

/-- What a write does to one field, by its type (R6). -/
def State.writeField (s : State) (f : Field) (i data : Nat) : State :=
  match f.kind with
  | .rw | .rwl => s.wr f (f.of data) i
  | .w1c | .rs => s.wr f (s.rd f i - (s.rd f i &&& f.of data)) i
  | .cnt => s.wr f 0 i
  | .ro | .wo => s

/-- What a write does to the register's fields. -/
def State.writeFields (s : State) (d : RegDesc) (i data : Nat) : State :=
  d.fields.foldl (fun s f => s.writeField f i data) s

/-- A register write with the checks of its own chapter beside the common ones, and what follows from it. -/
def State.writeReg (s : State) (d : RegDesc) (i data : Nat) (checks : List (Nat × Bool)) (after : State → State) : State :=
  s.checked (s.writeChecks d i data ++ checks) (fun s => (after (s.writeFields d i data)).answer St.OK)

/-- The word a register reads; write-only fields read 0 (R6). -/
def State.readReg (s : State) (d : RegDesc) (i : Nat) : Nat :=
  (d.fields.map (fun f => if f.kind = .wo then 0 else s.rd f i * 2 ^ f.lsb)).sum

/-- The address of copy `i1`, `i2` of a register. -/
def RegDesc.addr (d : RegDesc) (i1 i2 : Nat) : Nat := d.base + i1 * d.s1 + i2 * d.s2

/-- The copy of a row of `n` registers, `st` apart, that an offset names. -/
def stride (n st off : Nat) : Option Nat :=
  if n ≤ 1 then (if off = 0 then some 0 else none)
  else if off % st = 0 ∧ off / st < n then some (off / st) else none

/-- The copy of a register that an address names. -/
def RegDesc.indexOf (d : RegDesc) (a : Nat) : Option Nat :=
  if a < d.base then none
  else if d.n2 ≤ 1 then stride d.n1 d.s1 (a - d.base)
  else (List.range d.n1).findSome? (fun i =>
    if a < d.base + i * d.s1 then none
    else (stride d.n2 d.s2 (a - d.base - i * d.s1)).map (fun j => i * d.n2 + j))

end Sys2Proof.Machine
end

