-- ==== Sys2Proof/Machine/Plan.lean ====
section
/-! DEFINITION. The plan engine's commands: superframes, SYNC, slots, plan shifts, groups, the selector and validation
(spec/02). -/
namespace Sys2Proof.Machine

/-- A zone shift that takes effect at this hyperframe changes the group in force (R55, R56). -/
def State.zoneAtHyperframe (s : State) : State :=
  if s.on PLN_STATUS.ZPEND ∧ s.hfn = s.zoneEffect then
    (s.wr PLN_STATUS.GROUP (s.rd PLN_STATUS.ZTARGET)).wr PLN_STATUS.ZPEND 0
  else s

/-- The CRC charges of port `p`'s last complete hyperframe stay readable, with its margin hits, which are measured and so free while
lanes receive (log entry 103); the running counts restart (R121). -/
def State.rollCharges (s : State) (p : Nat) : State :=
  let c := (s.lk p).lane.charges
  let hits := if s.on JXK_STATUS.STATE p then s.freeVal else 0
  let s := (List.range 10).foldl (fun s k => s.wr JXP_LHEALTH.MHITS (bits hits (16 * k) 16) (laneIx p k)) s.drew
  let s := (List.range 10).foldl (fun s k => s.wr JXP_LHEALTH.CHARGES (min 255 (NMap.get c 0 k)) (laneIx p k)) s
  s.modLane p (fun a => { a with charges := [] })

/-- A REQ under R54 that a starting node refused is repeated every 16 hyperframes (R410). -/
def State.repeatBootReq (s : State) (p : Nat) : State :=
  let a := (s.lk p).plan
  if a.bootReq ∧ s.linkActive p ∧ s.on PLN_LSTAT.PEND p = false ∧ 16 ≤ hfnAhead s.hfn a.bootAt then s.requestGroupPlan p else s

/-- What a new hyperframe restarts (R55, R56, R121, R410, R544). -/
def State.hyperframeStart (s : State) : State :=
  let s := ((List.range 4).foldl (fun (s : State) p => s.rollCharges p) { s with limited := [] }).zoneAtHyperframe
  (List.range 4).foldl (fun (s : State) p => s.repeatBootReq p) s

/-- `SUPERFRAME_START` (R29): the first superframe after a start is number 0, each later one is the next; tree time advances by
4,096 ticks at the hub's rate (R263). -/
def State.superframe (s : State) : State :=
  let n := if s.sfStarted then (s.sfn + 1) % 2 ^ 32 else 0
  let adv := ((2 ^ 32 : Int) + sgn 32 s.eth.tsu.rate) * 5120
  let s := { s with sfStarted := true, treeTime := if s.sfStarted then (s.treeTime + adv.toNat) % 2 ^ 96 else s.treeTime }
  let s := s.wr PLN_SFN.SFN n
  if n % 256 = 0 then s.hyperframeStart else s

def execSuperframeStart (s : State) : Res := .next s.superframe

/-- A shift is abandoned or cleared without a NACK (R50, R51). -/
def State.shiftFails (s : State) (p : Nat) : State :=
  let zone := (s.lk p).plan.zone
  let at_ := s.rd PLN_LHFN.PEFFECT p
  let plan := s.rd PLN_LSTAT.PTARGET p
  let s := (s.clearPending p).raise Ev.PLN_FRONT_FAIL (p + 4 * plan)
  if zone && !s.isUpPort p then
    (s.modPlan p (fun a => { a with missed := true, missedAt := at_ })).raise Ev.PLN_ZONE_LATE p
  else s

/-- The pending target becomes the active plan (R50 steps 4 and 5). -/
def State.switchTables (s : State) (p : Nat) : State :=
  let t := s.rd PLN_LSTAT.PTARGET p
  let s := (s.wr PLN_LSTAT.PLAN t p).wr PLN_LSTAT.BOOT 0 p
  let s := (s.clearPending p).raise Ev.PLN_SHIFT_DONE (p + 4 * t)
  s.onPlanShift p

/-- The fourth failed SYNC in a row (R31). -/
def State.syncLost (s : State) (p : Nat) : State := (s.raise Ev.PLN_SYNC_LOST p).recover p

/-- A failed SYNC (R31): the receiver carries on with the predicted values; at slot 0 of a pending shift the downstream end runs
the superframe as provisional (R52). Substitutions that are due follow the last request seen acknowledged (R125). -/
def State.syncFailed (s : State) (p sfn : Nat) : State :=
  let s := (s.substDue p sfn).foldl (fun s r =>
    s.wr JXP_RXMAP.MAP (setMapLane (s.rd JXP_RXMAP.MAP p) r.logical (if r.acked then r.dst else r.src)) p) s
  let prov := s.isUpPort p && s.on PLN_LSTAT.PEND p &&
    sfn == s.rd PLN_LHFN.PEFFECT p * 256 % 2 ^ 32
  let n := (s.lk p).plan.syncFails + 1
  let s := s.modPlan p (fun a => { a with syncFails := n, lastSfn := sfn, provisional := a.provisional || prov })
  if 4 ≤ n then s.syncLost p else s

/-- The plan that an accepted SYNC on the upstream port names decides a pending shift (R51, R52); any other disagreement sends
the link to RECOVER (R32). -/
def State.syncPlanDown (s : State) (p : Nat) (y : Sync) : State :=
  let boot := s.on PLN_LSTAT.BOOT p
  let pend := s.on PLN_LSTAT.PEND p
  let due := pend && !hfnAtLeast (s.rd PLN_LHFN.PEFFECT p) (hfnOf y.sfn) 1
  let keeps := y.boot == boot && (boot || y.plan == s.rd PLN_LSTAT.PLAN p) && y.variant == s.variantOf p
  let takes := pend && !y.boot && y.plan == s.rd PLN_LSTAT.PTARGET p && y.variant == s.variantOf p
  if due && takes then
    let s := s.switchTables p
    s.modPlan p (fun a => { a with provisional := false, rxBoot := false, rxPlan := y.plan })
  else if due && keeps then
    (((s.bump PLN_FRONTERR.FAILS p).modPlan p (fun a => { a with provisional := false })).shiftFails p)
  else if keeps then s.modPlan p (fun a => { a with provisional := false })
  else (s.raise Ev.PLN_SYNC_MISMATCH (p + 4 * y.plan)).recover p

/-- The plan named by a SYNC that arrives on a downstream port: the upstream end's RX table follows its TX table at this slot 0
(R50 step 4); the peer may still name the plan left while it is provisional (log entry 9). -/
def State.syncPlanUp (s : State) (p : Nat) (y : Sync) : State :=
  let boot := s.on PLN_LSTAT.BOOT p
  let now := y.boot == boot && (boot || y.plan == s.rd PLN_LSTAT.PLAN p)
  let old := match (s.lk p).plan.oldPlan with
    | none => false
    | some q => if q = 16 then y.boot else !y.boot && y.plan == q
  if (now || old) && y.variant == s.variantOf p then
    s.modPlan p (fun a => { a with rxBoot := boot, rxPlan := s.rd PLN_LSTAT.PLAN p, oldPlan := if now then none else a.oldPlan })
  else (s.raise Ev.PLN_SYNC_MISMATCH (p + 4 * y.plan)).recover p

/-- The node's tree time from an accepted upstream SYNC (R264): TREE_TIME plus the delay, in units of 2^-32 ns. -/
def State.syncDelay (s : State) : Int :=
  if s.on TSU_STATUS.VALID then
    (s.rd TSU_DELAY.LOOP : Int) * 5 * 2 ^ 32 / 512 + sgn 16 (s.rd TSU_ASYM.ASYM) * 2 ^ 32 / 16
  else 0

/-- A node's rate estimate from two accepted SYNC flits with SFN[7:0] = 0 (R265): in units of 2^-32, 1,310,720 ns a hyperframe at
rate 0. -/
def rateEstimate (t1 t2 : Nat) : Nat :=
  unsgn 32 (clamp (-(2 ^ 31)) (2 ^ 31 - 1) (((t2 : Int) - (t1 : Int) - 1310720) * 2 ^ 32 / 1310720))

def State.modTsu (s : State) (f : Tsu → Tsu) : State := { s with eth := { s.eth with tsu := f s.eth.tsu } }

/-- `VALID` becomes 1 once a SYNC has been accepted and the delay written (R264). -/
def State.tsuValid (s : State) : State :=
  if s.eth.tsu.synced ∧ s.eth.tsu.delayed ∧ s.on TSU_STATUS.VALID = false then (s.wr TSU_STATUS.VALID 1).raise Ev.TSU_VALID
  else s

/-- Tree time from an accepted upstream SYNC (R264 to R267): the difference recorded and applied, the rate estimated, the
holdover ended. -/
def State.syncTime (s : State) (y : Sync) : State :=
  let want : Int := (y.time : Int) * 2 ^ 32 + s.syncDelay
  let diff := want - (s.treeTime : Int)
  let ns := diff.tdiv (2 ^ 32)
  let s := { s with treeTime := (want % (2 ^ 96 : Int)).toNat }
  let s := s.wr TSU_LASTCORR.CORR (unsgn 32 (clamp (-(2 ^ 31)) (2 ^ 31 - 1) ns))
  let s := if (s.rd TSU_STEPTHR.STEPTHR : Int) * 2 ^ 32 < diff.natAbs then s.raise Ev.TSU_STEP (unsgn 48 ns) else s
  let s := (s.wr TSU_STATUS.HOLDOVER 0).modTsu (fun t => { t with synced := true })
  let s := if y.sfn % 256 = 0 then
      let s := match s.eth.tsu.lastZero with
        | none => s
        | some t1 => (s.modTsu (fun t => { t with rate := rateEstimate t1 y.time })).wr TSU_RATE.RATE (rateEstimate t1 y.time)
      s.modTsu (fun t => { t with lastZero := some y.time })
    else s
  s.tsuValid

/-- An accepted SYNC (R31 passed): lane map, plan, and on a node's upstream port SFN, group and, while it is ACTIVE, tree time (R267). -/
def State.syncAccepted (s : State) (p : Nat) (y : Sync) : State :=
  let due := s.substDue p y.sfn
  let s := s.wr JXP_RXMAP.MAP y.map p
  let s := due.foldl (fun s r => s.decideSubst p y.map r) s
  let s := s.modPlan p (fun a => { a with syncFails := 0, lastSfn := y.sfn })
  if s.isUpPort p then
    let s := s.wr PLN_SFN.SFN y.sfn
    let s := { (s.wr PLN_STATUS.GROUP y.group) with groupKnown := true }
    let s := if s.linkActive p then s.syncTime y else s
    s.syncPlanDown p y
  else s.syncPlanUp p y

/-- `SYNC_RECEIVE` (R31, R32, R50 to R52, R125): `y` is the payload where a copy passes its CRC, decoded on the `via`-th of the lane
maps the receiver tries (R124 step 4). In ALIGN the first SYNC is adopted (R163). -/
def State.syncReceive (s : State) (p : Nat) (y : Option (List Byte)) (via : Nat) : State :=
  let st := s.linkSt p
  if st = LinkSt.ALIGN then
    match y with
    | none => s
    | some b =>
      let y := Sync.ofPayload b
      if y.zone ≠ s.rd GLB_ZONE.ZONE then s
      else
        let s := s.modLk p (fun l => { l with syncOk := true, plan := { l.plan with lastSfn := y.sfn, syncFails := 0 } })
        let s := s.wr JXP_RXMAP.MAP y.map p
        if s.isUpPort p then { (s.wr PLN_SFN.SFN y.sfn) with sfStarted := true } else s
  else if st = LinkSt.AUTH ∨ st = LinkSt.ACTIVE then
    let want := ((s.lk p).plan.lastSfn + 1) % 2 ^ 32
    let tries := (candidateMaps (s.rd JXP_RXMAP.MAP p) (s.substDue p want)).length
    match y with
    | some b =>
      let y := Sync.ofPayload b
      if via < tries ∧ y.zone = s.rd GLB_ZONE.ZONE ∧ y.sfn = want then s.syncAccepted p y else s.syncFailed p want
    | none => s.syncFailed p want
  else s

/-- ISO flits of port `p` that were due in an unsent slot of a provisional superframe are lost (R52). -/
def State.provisionalDrop (s : State) (p slot : Nat) : State :=
  let t := s.startTick p slot
  let gone := (s.lk p).txq.filter (fun i => i.iso && decide (i.due ≤ t))
  let s := s.modLk p (fun l => { l with txq := l.txq.filter (fun i => !(i.iso && decide (i.due ≤ t))) })
  gone.foldl (fun s i => (s.xmiss p).setLoss p i.tix true) s

/-- ISO tunnels that own an unsent or discarded slot of a provisional superframe record a loss (R52). -/
def State.provisionalLoss (s : State) (p dir slot : Nat) (t : Table) : State :=
  [s.entry p dir t slot, s.entry p dir (s.target p) slot].foldl (fun s e =>
    if e < 0xFF0 ∧ e ≠ 0 ∧ s.tunValid e ∧ s.isIso e then
      (if dir = 0 then s.setLoss p e true else s.isoLoss p e) else s) s

/-- A VC with a flit waiting and no credit runs its timer (R150). -/
def State.noteStalls (s : State) (p : Nat) : State :=
  if s.rd JXK_CTRL.VCS p ≤ 16 then
    (List.range (s.rd JXK_CTRL.VCS p)).foldl (fun s v =>
      s.setBit JXK_VC.STALL (!s.on JXK_VC.AVAIL (p * 64 + v) && (s.lk p).openq.any (fun i => i.vc == v)) (p * 64 + v)) s
  else s

/-- This end's ALIGN_ID (R162). -/
def State.alignId (s : State) (p : Nat) : List Byte :=
  ({ up := !s.isUpPort p, prot := s.on JXK_CTRL.PROT p, hub := s.rd GLB_HUB.HUB, port := p, zone := s.rd GLB_ZONE.ZONE,
     epoch := if s.isUpPort p then 0 else (s.lk p).epoch, vcs := s.rd JXK_CTRL.VCS p, expHub := (s.lk p).expHub,
     expPort := (s.lk p).expPort } : AlignId).payload

/-- The next ALIGN_CRED of this end (R160), 16 VCs a flit. -/
def State.putCred (s : State) (p slot : Nat) : State :=
  let bases := s.credBases p
  let b := bases.getD ((s.lk p).alignPos % bases.length) 0
  let y := le 1 0x21 ++ le 1 b ++ le 20 (pack 10 ((List.range 16).map (fun i => s.rd JXK_VC.INIT (p * 64 + b + i))))
  (s.modLk p (fun l => { l with alignPos := (l.alignPos + 1) % bases.length })).put p slot Kind.CONTROL 0 false false y noSeq

/-- What an OPEN or Cirrus slot carries in ALIGN and AUTH (R162, R163, R481; log entry 17). -/
def State.trainingFlit (s : State) (p slot e : Nat) : State :=
  if e ≠ 0xFFF then s.putCred p slot
  else if s.linkSt p = LinkSt.AUTH then s.putAuth p slot
  else if (s.lk p).idOk then s.putCred p slot
  else s.put p slot Kind.CONTROL 0 false false (s.alignId p) noSeq

/-- `SLOT_COMMIT` (R41, R42): the slot's content at its commit point. Flits flow in ALIGN, AUTH and ACTIVE only (R163). -/
def State.slotCommit (s : State) (p slot : Nat) : State :=
  let st := s.linkSt p
  if st < LinkSt.ALIGN ∨ LinkSt.ACTIVE < st ∨ s.slotsPerSf p ≤ slot then s
  else
    let e := s.entry p 0 (s.txTableFor p slot) slot
    if (s.lk p).plan.provisional && s.txDiffers p slot then
      ((s.provisionalDrop p slot).provisionalLoss p 0 slot (s.txTable p)).putIdle p slot
    else if st = LinkSt.ACTIVE then ((s.creditSend p).fillSlot p slot e).noteStalls p
    else if e = 0xFFE then s.putSync p
    else s.trainingFlit p slot e

/-- `FLIT_PRESENTATION` (R44, R157): what port `p` staged from receive slot `slot` is presented; a flit whose group has not
verified is presented when it does. -/
def State.flitPresentation (s : State) (p slot : Nat) : State :=
  let st := (s.lk p).rxStage
  let now := st.filter (fun i => i.slot == slot && !i.held)
  let rest := st.filter (fun i => !(i.slot == slot && !i.held))
  let marked := rest.map (fun (i : RxItem) => if i.slot = slot then { i with late := true } else i)
  let s := s.modLk p (fun l => { l with rxStage := marked })
  s.presentAll p now

def execFlitPresentation (p : Fin 4) (slot : Nat) (s : State) : Res := .next (s.flitPresentation p.val slot)

/-- The first slot of port `p` that starts at or after tick `t` mod 4,096 (R45). -/
def State.slotAfter (s : State) (p t : Nat) : Nat :=
  let k := s.ticksPerSlot p
  (t % 4096 + k - 1) / k % s.slotsPerSf p

/-- The TX table in force at the departure slot: the table that governs it when its commit point lies ahead (R48). -/
def State.ownsDeparture (s : State) (p tix slot : Nat) : Bool := s.entry p 0 (s.txTableFor p slot) slot == tix

/-- `ISO_DEPARTURE` (R45, R48): the oldest staged ISO flit of the tunnel leaves in the first slot at or after t + D, or, where that
slot is not its tunnel's, is discarded, counted and marked lost. -/
def State.isoDeparture (s : State) (p tix : Nat) : State :=
  if s.linkActive p = false then s
  else
    match takeFirst (fun (i : TxItem) => i.tix == tix && i.iso && i.rx.isSome) (s.lk p).txq with
    | none => s
    | some (i, rest) =>
      let slot := s.slotAfter p i.due
      let s := s.modLk p (fun l => { l with txq := rest })
      if s.ownsDeparture p tix slot && !((s.lk p).plan.provisional && s.txDiffers p slot) then s.sendIso p slot i
      else
        let s := s.xmiss p
        match i.rx with
        | some q => s.isoLoss q tix
        | none => s

def execIsoDeparture (p : Fin 4) (tix : Nat) (s : State) : Res := .next (s.isoDeparture p.val tix)

/-- The first slot a tunnel owns at or after tick `t` mod 4,096, wrapping into the next superframe (R46). -/
def State.ownSlotAfter (s : State) (p tix t : Nat) : Option Nat :=
  let n := s.slotsPerSf p
  let a := s.slotAfter p t
  ((List.range n).map (fun i => (a + i) % n)).find? (fun sl => s.ownsDeparture p tix sl)

/-- `GUAR_DEPARTURE` (R46, R48): the oldest staged GUAR flit of the tunnel leaves in its tunnel's first slot at or after t + D. It
waits while no sequenced flit may be sent (R145); with no slot in the plan in force it is discarded. -/
def State.guarDeparture (s : State) (p tix : Nat) : State :=
  if s.linkActive p = false ∨ s.isIso tix then s
  else
    match takeFirst (fun (i : TxItem) => i.tix == tix && i.rx.isSome) (s.lk p).txq with
    | none => s
    | some (i, rest) =>
      match s.ownSlotAfter p tix i.due with
      | none => (s.modLk p (fun l => { l with txq := rest })).xmiss p
      | some slot =>
        if s.txReady p && !((s.lk p).plan.provisional && s.txDiffers p slot) then
          (s.modLk p (fun l => { l with txq := rest })).sendGuar p slot i
        else s

def execGuarDeparture (p : Fin 4) (tix : Nat) (s : State) : Res := .next (s.guarDeparture p.val tix)

/-- A table is that of the active plan or of the target of a pending shift (R38). -/
def State.planBusy (s : State) (p plan : Nat) : Bool :=
  (!s.on PLN_LSTAT.BOOT p && s.linkActive p && s.rd PLN_LSTAT.PLAN p == plan) ||
  (s.on PLN_LSTAT.PEND p && s.rd PLN_LSTAT.PTARGET p == plan)

/-- The VALID bit of a table. -/
def validField (dir : Nat) : Field := if dir = 0 then PLN_PDESC.TXVALID else PLN_PDESC.RXVALID

/-- `PLAN_WINDOW_WRITE` (R38): two entries of a table; refused for an active or target table, clearing VALID otherwise. -/
def State.planWindowWrite (s : State) (off data : Nat) : State :=
  let p := s.rd PLN_WINSEL.PORT
  let dir := s.rd PLN_WINSEL.DIR
  let plan := off / 0x2000 % 16
  let slot := off % 0x2000 / 4 * 2
  s.checked [(St.STATE, s.planBusy p plan)] (fun s =>
    let st := NMap.set s.planStore 0 (planKey p dir plan slot) (data % 65536)
    let s := { s with planStore := NMap.set st 0 (planKey p dir plan (slot + 1)) (data / 65536 % 65536) }
    (s.wr (validField dir) 0 (p * 16 + plan)).answer St.OK)

/-- The window's place in the address map (R38). -/
def inPlanWindow (addr : Nat) : Bool := decide (0x1C0000 ≤ addr) && decide (addr < 0x1E0000)

def execPlanWindowWrite (addr data : Word) (s : State) : Res :=
  .next (s.addrAccess (addr.toNat % 4 != 0 || !inPlanWindow addr.toNat) addr.toNat true
    (fun s => s.planWindowWrite (addr.toNat - 0x1C0000) data.toNat))

/-- A NACK with a status (R50). -/
def State.sendNack (s : State) (p : Nat) (f : Front) (status : Nat) : State :=
  (s.bump PLN_FRONTERR.NACKS p).pushCtl p Kind.FRONT
    ({ f with op := 3, status := status, digTx := 0, digRx := 0 } : Front).payload false

/-- A node's downstream links are owed a zone REQ (R56 step 3); one that comes less than two hyperframes before its effect is
missed on all of them (R57). -/
def State.zoneAccepted (s : State) (g e : Nat) : State :=
  let s := ({ ((s.wr PLN_STATUS.ZPEND 1).wr PLN_STATUS.ZTARGET g) with zoneEffect := e }).raise Ev.PLN_GROUP_SHIFT g
  let late := !hfnAtLeast e s.hfn 2
  (List.range 4).foldl (fun s p =>
    if s.isUpPort p ∨ s.on JXK_CTRL.EN p = false then s
    else if late then (s.modPlan p (fun a => { a with missed := true, missedAt := e })).raise Ev.PLN_ZONE_LATE p
    else s.modPlan p (fun a => { a with waitZone := true, waitGroup := g, waitEffect := e })) s

/-- `FRONT_REQ_RECEIVE` (R50): the downstream end's checks, its ACK with its digests or its NACK. -/
def State.frontReq (s : State) (p : Nat) (f : Front) : State :=
  if s.linkActive p = false then s
  else if s.isUpPort p = false then s.sendNack p f St.STATE
  else
    let st := firstStatus
      [(St.RANGE, !hfnAtLeast f.effect s.hfn 1),
       (St.BUSY, s.on PLN_LSTAT.PEND p),
       (St.STATE, !(s.on PLN_PDESC.TXVALID (p * 16 + f.plan) && s.on PLN_PDESC.RXVALID (p * 16 + f.plan))),
       (St.CONFLICT, f.variant != s.variantOf p || f.digTx != s.digRx p f.plan || f.digRx != s.digTx p f.plan)]
    if st ≠ St.OK then s.sendNack p f st
    else
      let s := ((s.wr PLN_LSTAT.PEND 1 p).wr PLN_LSTAT.PTARGET f.plan p).wr PLN_LHFN.PEFFECT f.effect p
      let s := s.modPlan p (fun a => { a with zone := f.zoneShift, group := f.group, fseq := f.fseq })
      let s := s.pushCtl p Kind.FRONT ({ f with op := 2, status := 0, digTx := s.digTx p f.plan, digRx := s.digRx p f.plan } : Front).payload false
      if f.zoneShift then s.zoneAccepted f.group f.effect else s

def execFrontReqReceive (p : Fin 4) (y : List Byte) (s : State) : Res := .next (s.frontReq p.val (Front.ofPayload y))

/-- `FRONT_ACK_RECEIVE` (R50 step 3): digests that match commit the shift; otherwise it is abandoned. An answer to another request,
or one that comes at hyperframe E - 1 or later, changes nothing. -/
def State.frontAck (s : State) (p : Nat) (f : Front) : State :=
  let a := (s.lk p).plan
  let q := s.rd PLN_LSTAT.PTARGET p
  if s.on PLN_LSTAT.PEND p = false ∨ a.requested = false ∨ a.committed ∨ f.fseq ≠ a.fseq ∨
      hfnAtLeast (s.rd PLN_LHFN.PEFFECT p) s.hfn 2 = false then s
  else if f.digTx = s.digRx p q ∧ f.digRx = s.digTx p q then s.modPlan p (fun a => { a with committed := true })
  else (s.bump PLN_FRONTERR.FAILS p).shiftFails p

def execFrontAckReceive (p : Fin 4) (y : List Byte) (s : State) : Res := .next (s.frontAck p.val (Front.ofPayload y))

/-- `FRONT_NACK_RECEIVE` (R50): the upstream end abandons the shift. -/
def State.frontNack (s : State) (p : Nat) (f : Front) : State :=
  let a := (s.lk p).plan
  if s.on PLN_LSTAT.PEND p = false ∨ a.requested = false ∨ a.committed ∨ f.fseq ≠ a.fseq then s
  else
    let again := f.status == St.STATE && s.on PLN_LSTAT.BOOT p
    ((s.bump PLN_FRONTERR.NACKS p).shiftFails p).modPlan p (fun a => { a with bootReq := again })

def execFrontNackReceive (p : Fin 4) (y : List Byte) (s : State) : Res := .next (s.frontNack p.val (Front.ofPayload y))

/-- A received FRONT flit by its OP; reserved values are discarded (R49). -/
def State.frontReceive (s : State) (p : Nat) (y : List Byte) : State :=
  let f := Front.ofPayload y
  match f.op with
  | 1 => s.frontReq p f
  | 2 => s.frontAck p f
  | 3 => s.frontNack p f
  | _ => s

/-- `FRONT_ACK_DEADLINE` (R50 step 3): slot 0 of hyperframe E - 1 arrives without a valid ACK. -/
def State.frontDeadline (s : State) (p : Nat) : State :=
  let a := (s.lk p).plan
  if s.on PLN_LSTAT.PEND p ∧ a.requested ∧ a.committed = false ∧
      hfnAtLeast (s.rd PLN_LHFN.PEFFECT p) s.hfn 2 = false then
    (s.bump PLN_FRONTERR.FAILS p).shiftFails p
  else s

def execFrontAckDeadline (p : Fin 4) (s : State) : Res := .next (s.frontDeadline p.val)

/-- `PLAN_SHIFT_EFFECT` (R50 step 4): at slot 0 of hyperframe E the upstream end switches its TX table and names it in SYNC; its RX
table follows at the presentation of receive slot 0 (`State.syncPlanUp`). -/
def State.shiftEffect (s : State) (p : Nat) : State :=
  let a := (s.lk p).plan
  if s.on PLN_LSTAT.PEND p ∧ a.committed ∧ s.hfn = s.rd PLN_LHFN.PEFFECT p then
    let old := if s.on PLN_LSTAT.BOOT p then 16 else s.rd PLN_LSTAT.PLAN p
    (s.switchTables p).modPlan p (fun a => { a with oldPlan := some old })
  else s

/-- `LINK_SHIFT_GO` (R53, `PLN_LSHIFT`): a REQ for the named plan on one link. -/
def State.linkShift (s : State) (p data : Nat) : State :=
  let q := bits data 0 4
  let lead := bits data 8 7
  let go := bitAt data 31
  s.checked
    [(St.VALUE, bits data 4 4 != 0 || bits data 15 16 != 0),
     (St.RANGE, go && (decide (lead < 2) || decide (64 < lead))),
     (St.STATE, go && (s.isUpPort p || !s.linkActive p)),
     (St.BUSY, go && s.on PLN_LSTAT.PEND p),
     (St.CONFLICT, go && !s.planUsable p q)]
    (fun s => (if go then s.sendReq p q ((s.hfn + lead) % 2 ^ 24) (s.rd PLN_STATUS.GROUP) false else s).answer St.OK)

def execLinkShiftGo (p : Fin 4) (data : Word) (s : State) : Res := .next (s.access (Reg.PLN_LSHIFT.addr p.val 0) true (fun s => s.linkShift p.val data.toNat))

/-- A zone REQ on one downstream link, or the record that the link misses the shift (R56, R57). -/
def State.zoneReqOn (s : State) (p g e : Nat) : State :=
  match (if s.linkActive p then s.validGroupPlan g p else none) with
  | some q => s.sendReq p q e g true
  | none => (s.modPlan p (fun a => { a with missed := true, missedAt := e })).raise Ev.PLN_ZONE_LATE p

/-- The root starts a zone-wide shift (R56): REQs on its ACTIVE links; a link with a shift pending waits (R57). A port that is disabled has
no link. -/
def State.startZoneShift (s : State) (g : Nat) : State :=
  let e := (s.hfn + s.rd PLN_CTRL.ZLEAD) % 2 ^ 24
  let s := ({ ((s.wr PLN_STATUS.ZPEND 1).wr PLN_STATUS.ZTARGET g) with zoneEffect := e }).raise Ev.PLN_GROUP_SHIFT g
  (List.range 4).foldl (fun s p =>
    if s.on JXK_CTRL.EN p = false then s
    else if s.linkActive p && s.on PLN_LSTAT.PEND p then
      s.modPlan p (fun a => { a with waitZone := true, waitGroup := g, waitEffect := e })
    else s.zoneReqOn p g e) s

/-- `ZSHIFT_GO` (R58): refused at a node, while one is pending, and where the root's own map lacks a valid plan. -/
def State.zshift (s : State) (data : Nat) : State :=
  let g := bits data 0 4
  let go := bitAt data 31
  s.checked
    [(St.VALUE, bits data 4 27 != 0),
     (St.STATE, go && !s.isRoot),
     (St.BUSY, go && s.on PLN_STATUS.ZPEND),
     (St.CONFLICT, go && (List.range 4).any (fun p => s.linkActive p && (s.validGroupPlan g p).isNone))]
    (fun s => (if go then s.startZoneShift g else s).answer St.OK)

def execZshiftGo (data : Word) (s : State) : Res := .next (s.access Reg.PLN_ZSHIFT.base true (fun s => s.zshift data.toNat))

/-- `ZONE_REQ_FORWARD` (R56 step 3, R57): the zone REQ owed on a link is sent, or waits for the pending shift, or is missed once
fewer than two hyperframes are left. -/
def State.zoneForward (s : State) (p : Nat) : State :=
  let a := (s.lk p).plan
  if a.waitZone = false then s
  else if s.linkActive p && s.on PLN_LSTAT.PEND p && hfnAtLeast a.waitEffect s.hfn 3 then s
  else
    let s := s.modPlan p (fun a => { a with waitZone := false })
    if hfnAtLeast a.waitEffect s.hfn 2 && !s.on PLN_LSTAT.PEND p then s.zoneReqOn p a.waitGroup a.waitEffect
    else (s.modPlan p (fun b => { b with missed := true, missedAt := a.waitEffect })).raise Ev.PLN_ZONE_LATE p

def execZoneReqForward (p : Fin 4) (s : State) : Res := .next (s.zoneForward p.val)

/-- `ZONE_SHIFT_CATCHUP` (R57): in the hyperframe after E, a link that missed the zone shift is asked for the group in force. A link
that is not ACTIVE catches up through R54. -/
def State.zoneCatchup (s : State) (p : Nat) : State :=
  let a := (s.lk p).plan
  if a.missed ∧ hfnAtLeast a.missedAt s.hfn 0 = false ∧ s.isUpPort p = false then
    let s := s.modPlan p (fun a => { a with missed := false })
    if s.linkActive p && !s.on PLN_LSTAT.PEND p then s.requestGroupPlan p else s
  else s

def execZoneShiftCatchup (p : Fin 4) (s : State) : Res := .next (s.zoneCatchup p.val)

/-- The presence mask (R59). -/
def State.presence (s : State) : Nat := s.rd PLN_PRES.PRES 0 + 2 ^ 32 * s.rd PLN_PRES.PRES 1

/-- Presence bit `i`. -/
def State.setPresence (s : State) (i : Nat) (b : Bool) : State :=
  let w := s.rd PLN_PRES.PRES (i / 32)
  let m := 2 ^ (i % 32)
  s.wr PLN_PRES.PRES (if bitAt w (i % 32) = b then w else if b then w + m else w - m) (i / 32)

/-- Selector entry `i` matches a mask (R60). -/
def State.selMatches (s : State) (mask i : Nat) : Bool :=
  let v := s.rd PLN_SVALLO.BITS i + 2 ^ 32 * s.rd PLN_SVALHI.BITS i
  let c := s.rd PLN_SCARELO.BITS i + 2 ^ 32 * s.rd PLN_SCAREHI.BITS i
  s.on PLN_SCTRL.VALID i && ((mask ^^^ v) &&& c) == 0

/-- `SELECTOR_EVALUATE` (R60): the mask has been unchanged for the settle time. The lowest matching entry gives the group. -/
def State.selectorEvaluate (s : State) : State :=
  if s.isRoot = false ∨ s.on PLN_CTRL.SEL_EN = false ∨ s.on BOOT_STATUS.LOCK = false ∨ s.on PLN_STATUS.ZPEND then s
  else
    match (List.range 256).find? (fun i => s.selMatches s.presence i) with
    | none => (s.wr PLN_STATUS.SELMATCH 0).raise Ev.PLN_SEL_NOMATCH
    | some i =>
      let g := s.rd PLN_SCTRL.GROUP i
      let s := (s.wr PLN_STATUS.SELMATCH 1).wr PLN_STATUS.SELGROUP g
      if g = s.rd PLN_STATUS.GROUP ∨ s.on PLN_CTRL.SEL_HOLD then s else s.startZoneShift g

def execSelectorEvaluate (s : State) : Res := .next s.selectorEvaluate

/-- Every presence source of a hub goes absent (R59). -/
def State.hubAbsent (s : State) (hub : Nat) : State :=
  (List.range 64).foldl (fun s i =>
    if s.on PLN_PSRC.VALID i ∧ s.rd PLN_PSRC.HUB i = hub then s.setPresence i false else s) s

/-- `PRESENCE_BACKSTOP` (R59): no report from a node for 512 hyperframes. Hub 0 is the root itself, which sends none. -/
def execPresenceBackstop (hub : Fin 64) (s : State) : Res :=
  .next (if s.isRoot ∧ hub.val ≠ 0 then s.hubAbsent hub.val else s)

/-- The outcome of validating a table: the failing check of R63, its status and slot; check 0 = passed. -/
structure Verdict where
  check : Nat
  status : Nat
  slot : Nat
  deriving DecidableEq, Repr

/-- The first slot of a table that fails a test. -/
def firstSlot (l : List Nat) (bad : Nat → Nat → Bool) : Option Nat :=
  (l.zipIdx.find? (fun e => bad e.2 e.1)).map (·.2)

/-- The slot entry names a tunnel. -/
def namesTunnel (e : Nat) : Bool := decide (e < 0xFF0)

/-- The delay of a tunnel between two JXL ports in the direction that leaves (TX) or enters (RX) by port `p` (R63 check 5). -/
def State.delayVia (s : State) (p dir tix : Nat) : Nat :=
  if (s.epB tix == p) == (dir == 0) then s.rd TUN_ENT2.D_AB tix else s.rd TUN_ENT2.D_BA tix

/-- Group-map entries that name plan `q` of port `p` for a variant other than `v` (R63 check 8). -/
def State.mapConflict (s : State) (p q v : Nat) : Bool :=
  (List.range 16).any (fun g => (List.range 3).any (fun w => w != v && s.groupPlan g p w == some q))

/-- The ten checks of R63 on one table, in order. -/
def State.validateTable (s : State) (p dir q : Nat) : Verdict :=
  let v := s.rd PLN_PDESC.VARIANT (p * 16 + q)
  let n := 4096 / 2 ^ v
  let t := (List.range 4096).map (fun i => s.planEntry p dir q i)
  let tun := t.map (fun e => if namesTunnel e then some e else none)
  let fails : List (Nat × Nat × Option Nat) :=
    [(1, St.VALUE, firstSlot t (fun _ e => decide (0x1000 ≤ e) || (decide (0xFF0 ≤ e) && decide (e ≤ 0xFFC)))),
     (2, St.VALUE, firstSlot t (fun i e => (i == 0) != (e == 0xFFE))),
     (3, St.RANGE, firstSlot t (fun i e => decide (n ≤ i) && e != 0xFFD)),
     (4, St.RANGE, if (t.filter (fun e => e == 0)).length < 16 then some 0 else none),
     (5, St.RANGE, firstSlot t (fun _ e => namesTunnel e && decide (s.epA e < 4) && decide (s.epB e < 4) &&
        (decide (s.delayVia p dir e < 48 * 2 ^ v) || decide (1024 < s.delayVia p dir e)))),
     (6, St.CONFLICT, firstSlot t (fun _ e => namesTunnel e && !s.tunValid e)),
     (7, St.CONFLICT, firstSlot t (fun _ e => namesTunnel e &&
        ((!s.isIso e && !s.isGuar e) || (e == 0 && !s.isGuar e) || !s.usesPort e p))),
     (8, St.CONFLICT, if s.mapConflict p q v then some 0 else none),
     (9, St.INTEGRITY, if s.planDigest p dir q v ≠ (if dir = 0 then s.digTx p q else s.digRx p q) then some 0 else none),
     (10, St.CONFLICT, if 253 < (distinct (tun.filterMap (fun o => o.bind (fun e => if s.isGuar e then some (s.tidOf e) else none)))).length
        then some 0 else none)]
  match fails.find? (fun f => f.2.2.isSome) with
  | some f => { check := f.1, status := f.2.1, slot := f.2.2.getD 0 }
  | none => { check := 0, status := St.OK, slot := 0 }

/-- The result of one table recorded (R63, `PLN_VFAIL`, `PLN_PDESC`). -/
def State.recordVerdict (s : State) (p dir q : Nat) (v : Verdict) : State :=
  let s := s.setBit (validField dir) (v.check == 0) (p * 16 + q)
  let s := s.wr PLN_PDESC.VSTATUS v.status (p * 16 + q)
  let s := ((s.wr PLN_VFAIL.STATUS v.status).wr PLN_VFAIL.SLOT v.slot).wr PLN_VFAIL.PORT p
  let s := ((s.wr PLN_VFAIL.DIR dir).wr PLN_VFAIL.PLAN q).wr PLN_VFAIL.CHECK v.check
  if v.check = 0 then s else s.raise Ev.PLN_VALIDATE_FAIL (p + 4 * q)

/-- Both tables of a plan validated; the first failing one is what `PLN_VFAIL` and the answer report. -/
def State.validatePlan (s : State) (p q : Nat) : State × Nat :=
  let tx := s.validateTable p 0 q
  let rx := s.validateTable p 1 q
  if tx.check ≠ 0 ∧ rx.check ≠ 0 then ((s.recordVerdict p 1 q rx).recordVerdict p 0 q tx, tx.status)
  else if tx.check ≠ 0 then ((s.recordVerdict p 1 q rx).recordVerdict p 0 q tx, tx.status)
  else ((s.recordVerdict p 0 q tx).recordVerdict p 1 q rx, rx.status)

/-- The reserved bits and OP of a write to `PLN_CMD`. -/
def planCmdBad (data op : Nat) : Bool := bits data 4 4 != 0 || bits data 10 2 != 0 || bits data 16 16 != 0 || bits data 0 4 != op

/-- `VALIDATE` (R63, `PLN_CMD` OP 1). -/
def State.validateCmd (s : State) (data : Nat) : State :=
  s.checked [(St.VALUE, planCmdBad data 1)] (fun s =>
    let r := s.validatePlan (bits data 8 2) (bits data 12 4)
    r.1.answer r.2)

def execValidate (data : Word) (s : State) : Res := .next (s.access Reg.PLN_CMD.base true (fun s => s.validateCmd data.toNat))

/-- `INVALIDATE` (R66, `PLN_CMD` OP 2). -/
def State.invalidateCmd (s : State) (data : Nat) : State :=
  let p := bits data 8 2
  let q := bits data 12 4
  s.checked [(St.VALUE, planCmdBad data 2), (St.STATE, s.planBusy p q)] (fun s =>
    ((s.wr PLN_PDESC.TXVALID 0 (p * 16 + q)).wr PLN_PDESC.RXVALID 0 (p * 16 + q)).answer St.OK)

def execInvalidate (data : Word) (s : State) : Res := .next (s.access Reg.PLN_CMD.base true (fun s => s.invalidateCmd data.toNat))

end Sys2Proof.Machine
end

