-- ==== Sys2Proof/Machine/SwitchOps.lean ====
section
/-! DEFINITION. The shared-buffer switch: pools and cells, credits, drops, descriptors, the ports' state, and how frames enter
(R171 to R178, R188, R191 to R195, R199). -/
namespace Sys2Proof.Machine

def State.modSw (s : State) (f : Sw → Sw) : State := { s with sw := f s.sw }

/-- The service node of a queue and the port it feeds (R204, R205). -/
def State.parentOf (s : State) (q : Nat) : Nat := s.rd TMG_NCFG.PARENT q
def State.queuePort (s : State) (q : Nat) : Nat := s.parentOf q / 8

/-- A switch port's link is up (R194, R234, R256). Nimbus is always up; the gateway port runs at a root with `GW_EN`. -/
def State.swPortUp (s : State) (p : Nat) : Bool :=
  if p < 4 then s.linkActive p
  else if p < 12 then s.on ETH_STATUS.LINK (p - 4)
  else if p < 16 then s.on FLD_SSTAT.UP (p - 12)
  else if p = 16 then true
  else s.isRoot && s.on TUN_CTRL.GW_EN

/-- Cells of a frame of `n` bytes without FCS (R172). -/
def cellsFor (n : Nat) : Nat := (n + 8 + 255) / 256

/-- Queues of each profile. -/
def State.profileCount (s : State) (i : Nat) : Nat :=
  if i = 0 then 4096 - ((List.range 15).map (fun j => NMap.get s.sw.profCount 0 (j + 1))).sum
  else NMap.get s.sw.profCount 0 i

/-- The reserve: the sum of `MIN` over all queues (R188). -/
def State.reserve (s : State) : Nat := ((List.range 16).map (fun i => s.profileCount i * s.rd SWB_PROF.MIN i)).sum

/-- The headroom of JXL port `p` (R188). -/
def State.headroom (s : State) (p : Nat) : Nat :=
  ((List.range (s.rd JXK_CTRL.VCS p)).map (fun v => s.rd JXK_VC.INIT (p * 64 + v))).sum

def State.reservedCells (s : State) : Nat := s.reserve + ((List.range 4).map (fun p => s.headroom p)).sum

/-- `SWB_RESV` and `SWB_POOL` brought to what the configuration gives (R188, R199). -/
def State.recomputePool (s : State) : State :=
  let r := s.reservedCells
  (s.wr SWB_RESV.RESERVED r).wr SWB_POOL.SHARED (131072 - r - (if s.on SWB_STATUS.RETIRED then 32768 else 0))

/-- The minimum reservation of queue `q`. -/
def State.minOf (s : State) (q : Nat) : Nat := s.rd SWB_PROF.MIN (s.rd SWB_QCFG.PROFILE q)

/-- Cells that frames under reception outside the OPEN streams hold (R188, R193). -/
def State.receptionCells (s : State) : Nat :=
  let held := fun (f : SwIn) => if f.frame.flits = 0 then f.frame.cells.length else 0
  (s.sw.inq.map (fun e => (e.2.map held).sum)).sum + (s.sw.done.map held).sum

/-- Free cells of the shared pool (R188, R189). -/
def State.sharedFree (s : State) : Nat :=
  s.rd SWB_POOL.SHARED - (s.sw.charged.map (fun e => e.2 - s.minOf e.1)).sum - s.receptionCells

/-- A drop counted and raised once per hyperframe and port (R195). -/
def State.swDrop (s : State) (port cause : Nat) : State :=
  (s.bump SWB_DROP.COUNT (port * 9 + (cause - 1))).raiseOnce Ev.SWB_DROP_SEEN port (port + 32 * cause)

namespace Drop
def FCS : Nat := 1
def FORMAT : Nat := 2
def NOBUF : Nat := 3
def CREDIT : Nat := 4
def FILTER : Nat := 5
def THRESH : Nat := 6
def NODESC : Nat := 7
def ECC : Nat := 8
def PORTDOWN : Nat := 9
end Drop

/-- `n` flits of a VC leave the buffer or are discarded: their credits are freed (R149) unless their epoch is over (R167). -/
def State.giveCredit (s : State) (p v n epoch : Nat) : State :=
  if n ≠ 0 ∧ s.linkActive p ∧ s.rd JXK_STATUS.EPOCH p = epoch then
    let k := p * 64 + v
    (s.freeCredit p v n).modSw (fun w => { w with headUse := NMap.set w.headUse 0 k (NMap.get w.headUse 0 k - n) })
  else s

/-- Cells given back to the free lists. -/
def State.freeCells (s : State) (l : List Nat) : State :=
  s.modSw (fun w => { w with used := NMap.keep w.used (fun c => !l.contains c) })

/-- A frame's cells and credits freed. -/
def State.freeFrame (s : State) (f : SwFrame) : State := (s.freeCells f.cells).giveCredit f.port f.vc f.flits f.epoch

/-- Cells with start bank `b` use the retired bank (R173, R199). -/
def State.bankBarred (s : State) (b : Nat) : Bool :=
  match s.sw.retiredBank with
  | none => false
  | some r => decide ((r + 32 - b) % 32 < 8)

/-- The lowest free cell of start bank `b` from row `i` on (R173). -/
def State.freeInBank (s : State) (b i fuel : Nat) : Option Nat :=
  match fuel with
  | 0 => none
  | fuel + 1 => if NMap.get s.sw.used false (b + 32 * i) then s.freeInBank b (i + 1) fuel else some (b + 32 * i)

/-- The cell the allocator serves to port `p` (R174). -/
def State.nextCell (s : State) (p : Nat) : Option Nat :=
  (List.range 32).findSome? (fun k =>
    let b := (NMap.get s.sw.lastBank 31 p + 1 + k) % 32
    if s.bankBarred b then none else s.freeInBank b 0 4096)

/-- Cell `c` taken by port `p`, which writes it to its last bank. -/
def State.takeCell (s : State) (p c : Nat) : State :=
  s.modSw (fun w => { w with used := NMap.set w.used false c true, lastBank := NMap.set w.lastBank 31 p ((c + 7) % 32) })

/-- The last bank a port wrote once its frame of `n` bytes is complete in `cells`. -/
def State.noteLastBank (s : State) (p n : Nat) (cells : List Nat) : State :=
  match cells.getLast? with
  | none => s
  | some c =>
    let words := (n + 8 - 256 * (cells.length - 1) + 31) / 32
    s.modSw (fun w => { w with lastBank := NMap.set w.lastBank 31 p ((c + words - 1) % 32) })

/-- An outer tag with TPID 0x8100 (R258). -/
def tagged (b : List Byte) : Bool := decide (16 ≤ b.length) && beAt b 12 2 == 0x8100
def tagWord (b : List Byte) : Nat := if tagged b then beAt b 14 2 else 0

/-- A frame as its first bytes tell it (R259): VID of the outer tag or 1, PCP and DEI of the tag or 0. -/
def frameOf (port : Nat) (b : List Byte) : SwFrame :=
  { port := port, vc := 0, flits := 0, epoch := 0, tid := 1, ident := 0, vid := if tagged b then tagWord b % 4096 else 1,
    pcp := tagWord b / 8192, dei := bitAt (tagWord b) 12, asIs := false, loss := false, ts := none, bytes := b, cells := [],
    copies := 0 }

/-- A whole frame starts its reception at a switch port; its cells come one by one (R193). -/
def State.swEnter (s : State) (f : SwIn) : State :=
  s.modSw (fun w => { w with inq := NMap.set w.inq [] f.frame.port (NMap.get w.inq [] f.frame.port ++ [f]) })

/-- A frame handed to queue `q` (R177, R178): green, not metered, not learned from. -/
def State.handOver (s : State) (f : SwFrame) (q : Nat) : State :=
  s.swEnter { frame := f, sq := some q, metered := false, learn := false }

/-- A copy's reading ends or it is discarded: its descriptor and its charge to the queue go back, and with the last copy the
frame's cells and credits (R191, R192). -/
def State.releaseCopy (s : State) (c : Copy) : State :=
  match NMap.get s.sw.frames default c.frame with
  | f =>
    let n := f.cells.length
    let q := NMap.get s.sw.charged 0 c.queue - n
    let s := (s.wr SWB_DESC.FREE (s.rd SWB_DESC.FREE + 1)).wr SWB_QLEN.CELLS q c.queue
    let s := s.modSw (fun w => { w with charged := NMap.set w.charged 0 c.queue q })
    if f.copies ≤ 1 then (s.modSw (fun w => { w with frames := NMap.del w.frames c.frame })).freeFrame f
    else s.modSw (fun w => { w with frames := NMap.set w.frames default c.frame { f with copies := f.copies - 1 } })

/-- The frames queued for a port that goes down are discarded (R194). -/
def State.portDownDiscard (s : State) (p : Nat) : State :=
  let mine := s.sw.queues.filter (fun e => s.queuePort e.1 == p)
  let s := s.modSw (fun w => { w with queues := w.queues.filter (fun e => s.queuePort e.1 != p) })
  (mine.flatMap (fun e => e.2)).foldl (fun s c => (s.releaseCopy c).swDrop p Drop.PORTDOWN) s

/-- A JXL link leaves ACTIVE: its OPEN stream ends, its credits are forgotten (R167), and the frames queued for it are
discarded (R194). -/
def State.swLinkDown (s : State) (p : Nat) : State :=
  (s.modSw (fun w => { w with
    openIn := w.openIn ++ [{ port := p, item := { vc := 0, first := false, last := false, payload := [] }, epoch := 0, cut := true }],
    headUse := NMap.keep w.headUse (fun k => k / 64 != p) })).portDownDiscard p

end Sys2Proof.Machine
end

