-- ==== Sys2Proof/Machine/TunnelOps.lean ====
section
/-! DEFINITION. Tunnels at their local ends: frames into and out of tunnels (R74, R75, R548), the route table (R76 to R80), the
root gateway (R82 to R84) and the posted-error log (R92 to R94). -/
namespace Sys2Proof.Machine

def State.modTun (s : State) (f : Tun → Tun) : State := { s with tun := f s.tun }

/-- A list cut into pieces of `n`. -/
def chunks {α : Type} (n fuel : Nat) (l : List α) : List (List α) :=
  match fuel with
  | 0 => []
  | fuel + 1 => if l.isEmpty then [] else l.take n :: chunks n fuel (l.drop n)

/-- The 24-byte flit payloads of a byte list. -/
def flitPayloads (l : List Byte) : List (List Byte) := (chunks 24 l.length l).map (fit 24)

/-- The tunnel frame header (R74). -/
def tunHeader (tid ident len : Nat) (loss : Bool) : List Byte :=
  le 2 tid ++ le 4 ident ++ le 2 (len % 16384 + (if loss then 16384 else 0))

/-- LEN and LOSS of a header. -/
def tunLen (b : List Byte) : Nat := bits (leAt b 6 2) 0 14
def tunLoss (b : List Byte) : Bool := bitAt (leAt b 6 2) 14

/-- R75: LEN in range and in agreement with the flits from FIRST to LAST. -/
def lenFits (b : List Byte) (flits : Nat) : Bool :=
  let n := tunLen b
  decide (1 ≤ n) && decide (n ≤ 9216) && (flits == (8 + n + 23) / 24)

/-- Flits of one frame or item queued on port `p` for tunnel `tix`. -/
def State.queueFlits (s : State) (p tix sub : Nat) (framed : Bool) (l : List (List Byte)) : State :=
  l.zipIdx.foldl (fun s e => s.queueTx p
    { tix := tix, due := 0, iso := s.isIso tix, first := framed && e.2 == 0, last := framed && e.2 + 1 == l.length,
      sub := sub, isVoid := false, loss := false, payload := e.1, rx := none }) s

/-- A tunnel can send from a local endpoint on port `p` now (R548). -/
def State.canSend (s : State) (p tix : Nat) : Bool := s.linkActive p && s.ownsSlot p 0 (s.txTable p) tix

/-- A frame handed to tunnel `tix` by a local frame endpoint: OPEN tunnels through the switch (R177), ISO and GUAR tunnels by
their JXL port, unless R548 discards it. -/
def State.tunnelSend (s : State) (tix ident : Nat) (f : SwFrame) : State :=
  let tid := s.tidOf tix
  let f := { f with tid := tid, ident := ident }
  if s.tunClass tix = 2 then s.handOver f (s.rd TUN_ENT3.SQ tix)
  else
    match s.jxlOf tix with
    | none => s.handOver f (s.rd TUN_ENT3.SQ tix)
    | some p =>
      if s.canSend p tix then
        let loss := f.loss || NMap.get s.tun.txLoss false tix
        let s := s.modTun (fun t => { t with txLoss := NMap.set t.txLoss false tix false })
        s.queueFlits p tix 0 true (flitPayloads (tunHeader tid ident f.bytes.length loss ++ f.bytes))
      else (s.xmiss p).modTun (fun t => { t with txLoss := NMap.set t.txLoss false tix true })

/-- Endpoint codes from which frames are sent into tunnels (R70, R79). -/
def senderEndpoint (ep : Nat) : Bool := ep == 0x11 || ep == 0x12 || (decide (0x20 ≤ ep) && decide (ep ≤ 0x2B))

def State.hasSender (s : State) (tix : Nat) : Bool := senderEndpoint (s.epA tix) || senderEndpoint (s.epB tix)

/-- Word `w` of route entry `i` (R77). -/
def State.route (s : State) (i w : Nat) : Nat := NMap.get s.routes 0 (i * 4 + w)
def State.setRoute (s : State) (i w v : Nat) : State := { s with routes := NMap.set s.routes 0 (i * 4 + w) v }
def State.routeValid (s : State) (i : Nat) : Bool := bitAt (s.route i 1) 24

/-- The two candidate indices of a key (R78). -/
def routeH0 (key : Nat) : Nat := key * 0x9E3779B1 % 2 ^ 32 / 2 ^ 18
def routeH1 (key seed : Nat) : Nat := 16384 + (key ^^^ seed) * 0x85EBCA77 % 2 ^ 32 / 2 ^ 18

/-- The entry that holds a key (R78, R79). -/
def State.routeFind (s : State) (key : Nat) : Option Nat :=
  [routeH0 key, routeH1 key (s.rd TUN_RSEED.SEED)].find? (fun i => s.routeValid i && s.route i 0 == key)

/-- The classes of identifiers that a lookup may find (R76). -/
def identClass (ident : Nat) : Nat := ident / 2 ^ 28 % 16
def State.identFind (s : State) (ident : Nat) : Option Nat :=
  if 1 ≤ identClass ident ∧ identClass ident ≤ 4 then s.routeFind ident else none

/-- A lookup that missed and is counted (R79). -/
def State.routeMiss (s : State) : State := s.bump TUN_RMISS.COUNT

/-- A frame handed to a local endpoint outside the switch's ports. -/
def State.toNimbus (s : State) (b : List Byte) : State := s.emit (.frame 0x12 b)

/-- R79: a frame whose identifier is looked up. -/
def State.identFrame (s : State) (ident : Nat) (f : SwFrame) : State :=
  match s.identFind ident with
  | none =>
    let s := s.raiseOnce Ev.TUN_ROUTE_MISS
    if identClass ident = 1 then s.swEnter { frame := f, sq := none, metered := true, learn := true }
    else if identClass ident = 3 ∧ s.on TUN_CTRL.MISS_NIM then s.routeMiss.toNimbus f.bytes
    else s.routeMiss
  | some i =>
    let w1 := s.route i 1
    let w3 := s.route i 3
    let s := s.setRoute i 3 (w3 % 65536 + 65536 * satAdd 16 (w3 / 65536) 1)
    let f := if bitAt w3 15 then { f with pcp := bits w3 12 3 } else f
    let id' := if s.route i 2 = 0 then ident else s.route i 2
    let dtid := bits w1 0 16
    if dtid = 0xFFFF then s.handOver { f with ident := id' } (bits w3 0 12)
    else
      match s.tixOf dtid with
      | some x => if s.hasSender x then s.tunnelSend x id' f else (s.bump TUN_RDROP.COUNT).raiseOnce Ev.TUN_ROUTE_DROP
      | none => (s.bump TUN_RDROP.COUNT).raiseOnce Ev.TUN_ROUTE_DROP

/-- A 48-bit address held in two words, on the wire (R182). -/
def macBytes (hi lo : Nat) : List Byte := be 6 (hi * 2 ^ 32 + lo)

/-- The gateway runs (R82). -/
def State.gwRuns (s : State) : Bool := s.isRoot && s.on TUN_CTRL.GW_EN

/-- A gateway frame (R82, R83): padded to 64 bytes with its FCS, it enters the queue in `TMG_GWQ` (R178). -/
def State.gwSend (s : State) (kind hub tid ident sub : Nat) (loss : Bool) (y : List Byte) : State :=
  if s.gwRuns then
    let seq := NMap.get s.tun.gseqTx 0 tid
    let s := s.modTun (fun t => { t with gseqTx := NMap.set t.gseqTx 0 tid ((seq + 1) % 65536) })
    let vid := s.rd TUN_GWCTRL.VID
    let tag := if s.on TUN_GWCTRL.TAG_EN then be 2 0x8100 ++ be 2 (vid + 8192 * s.rd TUN_GWCTRL.PCP) else []
    let head := be 1 (1 + 16 * kind) ++ be 1 (hub % 64) ++ be 2 tid ++ be 4 ident ++ be 2 y.length
      ++ be 1 (sub % 4 + (if loss then 4 else 0)) ++ be 1 0 ++ be 2 seq ++ be 2 0
    let b := macBytes (s.rd TUN_GWDMAC_HI.MAC) (s.rd TUN_GWDMAC_LO.MAC) ++ macBytes (s.rd TUN_GWSMAC_HI.MAC) (s.rd TUN_GWSMAC_LO.MAC)
      ++ tag ++ be 2 (s.rd TUN_GWETYPE.ETYPE) ++ head ++ y
    let b := b ++ List.replicate (60 - b.length) 0
    s.handOver { frameOf 17 b with asIs := true } (s.rd TMG_GWQ.SQ)
  else s

/-- What a tunnel delivers at the gateway (R82, R83); the hub at its far end is the tree's (log entry 31). -/
def State.gwDeliver (s : State) (kind tix ident sub : Nat) (loss : Bool) (y : List Byte) : State :=
  let lost := loss || NMap.get s.tun.txLoss false (4096 + tix)
  let s := s.modTun (fun t => { t with txLoss := NMap.set t.txLoss false (4096 + tix) false })
  s.gwSend kind (Config.farHub (s.tidOf tix)) (s.tidOf tix) ident sub lost y

/-- A rejected gateway frame (R84). -/
def State.gwBad (s : State) : State := (s.bump TUN_GWBAD.COUNT).raiseOnce Ev.TUN_GW_BAD

/-- The sequence number of an accepted gateway frame (R84). -/
def State.gwSeq (s : State) (tid seq : Nat) : State :=
  let want := NMap.get s.tun.gseqRx 0 tid
  let s := s.modTun (fun t => { t with gseqRx := NMap.set t.gseqRx 0 tid ((seq + 1) % 65536) })
  if seq = want then s else (s.bump TUN_GWGAP.COUNT).raise Ev.TUN_GW_GAP

/-- A tunnel with the gateway as an endpoint. -/
def State.gwTunnel (s : State) (tid : Nat) : Option Nat :=
  (s.tixOf tid).bind (fun x => if s.epA x = 0x11 ∨ s.epB x = 0x11 then some x else none)

/-- A point-image or transaction payload taken by the gateway goes on as flits; a transaction item is framed. -/
def State.gwFlits (s : State) (tix sub : Nat) (framed : Bool) (y : List Byte) : State :=
  match s.jxlOf tix with
  | none => s
  | some p => if s.canSend p tix then s.queueFlits p tix sub framed (flitPayloads y) else s.xmiss p

/-- `GATEWAY_FRAME_RECEIVE` (R83, R84): a frame taken into the gateway, from its header on. A Cirrus message goes to the relay. -/
def State.gwReceive (s : State) (b : List Byte) : State :=
  let ver := byteAt b 0 % 16
  let kind := byteAt b 0 / 16
  let tid := beAt b 2 2
  let len := beAt b 8 2
  let sub := byteAt b 10 % 4
  let loss := bitAt (byteAt b 10) 2
  let y := (b.drop 16).take len
  let whole := len % 24 = 0
  if ver ≠ 1 ∨ 3 < kind ∨ b.length < 16 + len ∨ len < 1 ∨ 9216 < len then s.gwBad
  else if kind = 3 then
    if tid = 0 then
      (s.gwSeq tid (beAt b 12 2)).modTun (fun t => { t with cirrusIn := t.cirrusIn ++
        [{ ep := 0x11, tix := 0, port := 0x11, sub := sub, kind := 3, bad := false, bytes := y }] })
    else s.gwBad
  else if tid = 0xFFFF then
    if kind = 0 then (s.gwSeq tid (beAt b 12 2)).identFrame (beAt b 4 4) { frameOf 17 y with loss := loss } else s.gwBad
  else
    match s.gwTunnel tid with
    | none => s.gwBad
    | some x =>
      let txn := s.on TUN_ENT0.TXN x
      if kind = 0 ∧ txn = false then
        (s.gwSeq tid (beAt b 12 2)).tunnelSend x (beAt b 4 4) { frameOf 17 y with loss := loss }
      else if kind = 1 ∧ txn = false ∧ s.tunClass x ≠ 2 ∧ whole then (s.gwSeq tid (beAt b 12 2)).gwFlits x 0 false y
      else if kind = 2 ∧ txn ∧ whole then (s.gwSeq tid (beAt b 12 2)).gwFlits x sub true y
      else s.gwBad

/-- `PESTAT` kept at what the log holds (R93). -/
def State.peStat (s : State) : State :=
  (s.wr TUN_PESTAT.COUNT s.tun.peOrder.length).wr TUN_PESTAT.OLDEST (s.tun.peOrder.headD 0)

/-- A posted write failed (R92, R93): written into the lowest free log entry, or counted as lost. -/
def State.postedError (s : State) (tid cause status addr bytes time : Nat) : State :=
  match (List.range 16).find? (fun e => !s.on TUN_PELOG3.VALID e) with
  | none =>
    let s := s.bump TUN_PELOST.COUNT
    if s.tun.peFull then s else (s.modTun (fun t => { t with peFull := true })).raise Ev.TUN_PELOG_FULL
  | some e =>
    let s := ((s.wr TUN_PELOG0.TID tid e).wr TUN_PELOG0.CAUSE cause e).wr TUN_PELOG0.STATUS
      (if cause = 4 ∨ cause = 5 then status else 0) e
    let s := ((s.wr TUN_PELOG1.ADDR_LO addr e).wr TUN_PELOG2.ADDR_HI (addr / 2 ^ 32) e).wr TUN_PELOG3.BYTES bytes e
    let s := ((s.wr TUN_PELOG3.VALID 1 e).wr TUN_PELOG4.TIME_LO time e).wr TUN_PELOG5.TIME_HI (time / 2 ^ 32) e
    ((s.modTun (fun t => { t with peOrder := t.peOrder ++ [e] })).peStat).raise Ev.TUN_PERR e

/-- Posted-error causes (R94). -/
def peNotarget : Nat := 1
def peRefused : Nat := 2
def pePoisoned : Nat := 3
def peStatus : Nat := 4
def peDrained : Nat := 5
def pePath : Nat := 6

end Sys2Proof.Machine
end

