-- ==== Sys2Proof/Machine/Cirrus.lean ====
section
/-! DEFINITION. Cirrus messages: the envelope (R423), their way through the tree (R72, R422) and what a hub sends of its own. -/
namespace Sys2Proof.Machine

/-- A message (R423). -/
structure Msg where
  op : Nat
  rsp : Bool
  auth : Bool
  dst : Nat
  src : Nat
  tag : Nat
  status : Nat
  addr : Nat
  body : List Byte
  deriving DecidableEq, Repr, Inhabited

/-- Opcodes (R424). -/
def opRd32 : Nat := 1
def opWr32 : Nat := 2
def opWrc32 : Nat := 3
def opRdblk : Nat := 4
def opWrblk : Nat := 5
def opCmd : Nat := 6
def opEvent : Nat := 7
def opSvc : Nat := 8
def opErr : Nat := 0xF

/-- A message as bytes. -/
def Msg.bytes (m : Msg) : List Byte :=
  le 1 m.op ++ le 1 ((if m.rsp then 1 else 0) + (if m.auth then 2 else 0)) ++ le 1 (m.dst % 128) ++ le 1 (m.src % 128)
    ++ le 2 m.tag ++ le 1 m.status ++ le 1 0 ++ le 4 m.addr ++ le 2 m.body.length ++ le 2 0 ++ m.body

/-- The envelope of a byte list, with all that follows it as its body. -/
def Msg.ofBytes (b : List Byte) : Msg :=
  { op := byteAt b 0, rsp := bitAt (byteAt b 1) 0, auth := bitAt (byteAt b 1) 1, dst := byteAt b 2 % 128, src := byteAt b 3 % 128,
    tag := leAt b 4 2, status := byteAt b 6, addr := leAt b 8 4, body := b.drop 16 }

/-- The sub-channel of a message (R424): 0 P, 1 NP, 2 CPL, 3 ERR. -/
def Msg.sub (m : Msg) : Nat :=
  if m.rsp then 2 else if m.op = opErr then 3 else if m.op = opWr32 ∨ m.op = opEvent ∨ m.op = opSvc then 0 else 1

/-- The port by which a hub is reached: the downstream port whose subtree holds it, else upstream (R72). -/
def State.cirrusPort (s : State) (dst : Nat) : Option Nat :=
  match (List.range 4).find? (fun p => !s.isUpPort p && (s.lk p).subtree.contains dst) with
  | some p => some p
  | none => s.upPort

/-- A message has a way out of this hub (R22, R422). -/
def State.cirrusReaches (s : State) (dst : Nat) : Bool :=
  if dst = zoneController ∧ s.isRoot then s.gwRuns
  else match s.cirrusPort dst with
    | some p => s.linkActive p
    | none => false

/-- A message leaves this hub: the root's for the zone controller go through the gateway as `TYPE` 3, with the hub they come from in
`HUB` (log entry 56); others as a frame of TID 0 with `IDENT` 0. -/
def State.cirrusOut (s : State) (m : Msg) : State :=
  if m.dst = zoneController ∧ s.isRoot then s.gwSend 3 m.src 0 0 m.sub false m.bytes
  else
    match s.cirrusPort m.dst with
    | none => s
    | some p =>
      if s.linkActive p then s.queueFlits p 0 m.sub true (flitPayloads (tunHeader 0 0 m.bytes.length false ++ m.bytes)) else s

/-- A message of this hub's own that asks for no answer; its `TAG` is 0 (log entry 56). -/
def State.cirrusPost (s : State) (op dst : Nat) (body : List Byte) : State :=
  s.cirrusOut { op := op, rsp := false, auth := false, dst := dst, src := s.rd GLB_HUB.HUB, tag := 0, status := 0, addr := 0, body := body }

/-- A service message (R424, R433). -/
def State.svcSend (s : State) (dst service : Nat) (content : List Byte) : State :=
  s.cirrusPost opSvc dst (le 1 service ++ le 3 0 ++ content)

/-- The six words of a posted-error entry, in the order of `TUN_PELOG` words 0 to 5 (R288, R424). -/
def peWords (tid cause status addr bytes time : Nat) : List Byte :=
  le 4 (tid * 2 ^ TUN_PELOG0.TID.lsb + cause * 2 ^ TUN_PELOG0.CAUSE.lsb + status * 2 ^ TUN_PELOG0.STATUS.lsb)
    ++ le 4 addr ++ le 4 (addr / 2 ^ 32) ++ le 4 (bytes * 2 ^ TUN_PELOG3.BYTES.lsb + 2 ^ TUN_PELOG3.VALID.lsb)
    ++ le 4 time ++ le 4 (time / 2 ^ 32)

/-- A posted-error entry received from the far side is logged here (R92). -/
def State.logPeWords (s : State) (w : List Byte) : State :=
  let w0 := leAt w 0 4
  s.postedError (bits w0 TUN_PELOG0.TID.lsb TUN_PELOG0.TID.width) (bits w0 TUN_PELOG0.CAUSE.lsb TUN_PELOG0.CAUSE.width)
    (bits w0 TUN_PELOG0.STATUS.lsb TUN_PELOG0.STATUS.width) (leAt w 4 8)
    (bits (leAt w 12 4) TUN_PELOG3.BYTES.lsb TUN_PELOG3.BYTES.width) (leAt w 16 8)

/-- A frame with `IDENT` 0 sent on a sub-channel of a tunnel by an endpoint outside the switch. -/
def State.endpointSend (s : State) (x sub : Nat) (b : List Byte) : State :=
  match s.jxlOf x with
  | none => s
  | some p =>
    if s.canSend p x then s.queueFlits p x sub true (flitPayloads (tunHeader (s.tidOf x) 0 b.length false ++ b)) else s.xmiss p

/-- The valid tunnel entry at a local endpoint. -/
def State.tixAt (s : State) (ep : Nat) : Option Nat :=
  (List.range 4096).find? (fun x => s.tunValid x && (s.epA x == ep || s.epB x == ep))

/-- The storage tunnel of context `c` (R274). -/
def State.pcieTix (s : State) (c : Nat) : Option Nat :=
  (List.range 4096).find? (fun x => s.tunValid x && (s.epA x == 0x30 || s.epB x == 0x30) && s.rd TUN_ENT0.CTX x == c)

/-- Both tables in force on port `p` give a tunnel slots. -/
def State.slotsBothWays (s : State) (p tix : Nat) : Bool :=
  s.ownsSlot p 0 (s.txTable p) tix && s.ownsSlot p 1 (s.rxTable p) tix

/-- The storage tunnel of a node is ready at its upstream port (R283, R433). -/
def State.tunnelReady (s : State) : Bool :=
  match s.pcieTix 0, s.upPort with
  | some x, some p => s.linkActive p && s.slotsBothWays p x
  | _, _ => false

/-- The presence sources of this hub by `KIND` (R59). A Type-C port is attached in Attached.SNK and Attached.SRC; eFuse channel EFk
is index k - 1 of the channel registers. -/
def State.sourceKinds (s : State) : List Bool :=
  [s.uplinkUp, s.on PCB_STATUS.LINK, s.on DPT_STATUS.SINK 0, s.on DPT_STATUS.SINK 1, s.on USB_PORT.CONNECT 0, s.on USB_PORT.CONNECT 1,
   s.on USB_PORT.CONNECT 2, s.on USB_PORT.CONNECT 3,
   s.rd TCP_STATUS.TCSTATE 0 == 9 || s.rd TCP_STATUS.TCSTATE 0 == 10, s.rd TCP_STATUS.TCSTATE 1 == 9 || s.rd TCP_STATUS.TCSTATE 1 == 10,
   s.on PWP_EFSTAT.PRES 0, s.on PWP_EFSTAT.PRES 1, s.on PWP_EFSTAT.PRES 2]

/-- A list of bits as a number, first in bit 0. -/
def ofBits (l : List Bool) : Nat := l.foldr (fun b v => (if b then 1 else 0) + 2 * v) 0

/-- The source report of a node (R433). -/
def State.sourceReport (s : State) : List Byte :=
  le 2 (ofBits s.sourceKinds)
    ++ le 1 ((if s.tunnelReady then 1 else 0) + 2 * s.rd PCB_STATUS.SPEED + 16 * s.rd PCB_STATUS.WIDTH)
    ++ le 1 0 ++ le 4 s.sfn

/-- The services of core `n` run: the image's firmware is loaded and the core runs. -/
def State.coreRuns (s : State) (n : Nat) : Bool := s.nim.loaded && s.on NIM_CSTAT.RUNNING n

/-- A node's presence service reports its sources to the root (R59, R433); the root has none to report and takes its own at once. -/
def State.reportPresence (s : State) : State :=
  if s.isRoot then
    (List.range 64).foldl (fun s i =>
      if s.on PLN_PSRC.VALID i ∧ s.rd PLN_PSRC.HUB i = 0 then
        s.setPresence i (if s.rd PLN_PSRC.KIND i = 0 then true else s.sourceKinds.getD (s.rd PLN_PSRC.KIND i) false)
      else s) s
  else if s.coreRuns 0 then (s.modTun (fun t => { t with lastReport := s.sourceReport.take 3 })).svcSend 0 4 s.sourceReport
  else s

/-- A report where something in it has changed (R433). -/
def State.reportChange (s : State) : State := if s.tun.lastReport = s.sourceReport.take 3 then s else s.reportPresence

/-- A report is due whatever has changed: the uplink has come up (R59). The next period of the runtime sends it, behind the SYNC that sets
`SFN`. -/
def State.reportDue (s : State) : State := s.modTun (fun t => { t with lastReport := [] })

/-- What the presence service does each period (R433): a report where something has changed, and every 256 hyperframes. -/
def State.presencePeriod (s : State) : State :=
  if s.isRoot ∨ s.coreRuns 0 = false then s
  else if s.sfn % 65536 = 0 then s.reportPresence
  else s.reportChange

/-- The time service of the upstream end tells the child the loop delay just measured (R264, R433). -/
def State.timeSend (s : State) (p : Nat) : State :=
  if s.coreRuns 0 ∧ s.isUpPort p = false ∧ s.linkActive p then
    s.svcSend (s.lk p).expHub 1 (le 3 s.hfn ++ le 1 p ++ le 4 (s.rd JXK_LOOP.LOOP p))
  else s

/-- A node reports the loss of one of its downstream links (R59, R433). -/
def State.reportLoss (s : State) (p : Nat) : State :=
  s.svcSend 0 4 (le 3 0 ++ le 1 (p + 1) ++ le 4 s.sfn ++ le 8 ((s.lk p).subtree.foldl (fun a h => a + 2 ^ h) 0))

end Sys2Proof.Machine
end

