-- ==== Sys2Proof/Machine/EventOps.lean ====
section
/-! DEFINITION. The Event Queue as its readers see it (R443 to R445), notices (R446, R447), and the writes of the event unit (R450). -/
namespace Sys2Proof.Machine

/-- The better of two messages: higher severity, else the older (R445). -/
def EvMsg.before (a b : EvMsg) : Bool := decide (b.sev < a.sev)

/-- The complete message of highest priority (R445). -/
def bestEvent (q : List EvMsg) : Option EvMsg :=
  q.foldl (fun r m => if m.complete = false then r else match r with
    | none => some m
    | some b => if m.before b then some m else r) none

/-- `EVU_EVQ0` to `EVU_EVQ3` (R443, R445). -/
def State.evqWord (s : State) (i : Nat) : Nat :=
  match bestEvent s.evq with
  | none => 0
  | some m => (m.words false).getD i 0

/-- An nIRQ pulse, driven now or owed (R446). -/
def State.irqPulse (s : State) : State :=
  if s.chip.irq then s.modChip (fun c => { c with owed := min 64 (c.owed + 1) })
  else (s.modChip (fun c => { c with irq := true })).emit (.act "nIRQ" [])

/-- A notice of a message (R446): one pulse and one EVENT message to the hub or zone controller in `DEST`. -/
def State.notice (s : State) (m : EvMsg) : State :=
  s.irqPulse.cirrusPost opEvent (s.rd EVU_CTRL.DEST) ((m.words false).flatMap (le 4))

/-- The oldest message still falling forward comes to rest (R444, R446). -/
def State.eventArrive (s : State) : State :=
  match takeFirst (fun m => !m.complete) s.evq with
  | none => s
  | some (m, _) =>
    let s := s.setEvq (s.evq.map (fun x => if x.seq = m.seq ∧ x.complete = false then { x with complete := true } else x))
    if s.rd BOOT_STATUS.MODE = 1 ∧ s.on EVU_CTRL.NOTIFY then s.notice { m with complete := true } else s

/-- Messages in priority order. -/
def byPriority (q : List EvMsg) : List EvMsg := [3, 2, 1, 0].flatMap (fun v => q.filter (fun m => m.sev == v))

/-- The change to NORMAL (R447): `nEVQFC` goes high, and each message in the queue gets its notice. -/
def State.eventsNormal (s : State) : State :=
  let s := s.wr EVU_STATUS.FC 0
  if s.on EVU_CTRL.NOTIFY then (byPriority (s.evq.filter (fun m => m.complete))).foldl (fun s m => s.notice m) s else s

/-- A write of `EVU_EVQPOP` (R445). -/
def State.evqPop (s : State) (data : Nat) : State :=
  let seq := EVU_EVQPOP.EVSEQ.of data
  match s.evq.find? (fun m => m.complete && m.seq == seq) with
  | none => s.answer St.VALUE
  | some m =>
    if Reg.EVU_EVQPOP.reservedSet data then s.answer St.VALUE
    else
      let s := s.setEvq (s.evq.filter (fun x => !(x.complete && x.seq == seq)))
      (if EVU_EVQPOP.CLR.of data = 1 then s.wr EVU_SRC.STATUS 0 m.id else s).answer St.OK

/-- A write of `EVU_SRC`(i) (R442, R450): `EN` of a reserved identifier is ignored, `SEV` of a FATAL source is read-only. -/
def State.evuSrcWrite (s : State) (i data : Nat) : State :=
  s.checked (s.writeChecks Reg.EVU_SRC i data) (fun s =>
    let s := (s.writeField EVU_SRC.STATUS i data).writeField EVU_SRC.REPEAT i data
    let s := match Ev.severity? i with
      | none => s
      | some v => if v = 3 then s.writeField EVU_SRC.EN i data else (s.writeField EVU_SRC.EN i data).writeField EVU_SRC.SEV i data
    s.answer St.OK)

/-- A write of `EVU_CTRL` (R450). -/
def State.evuCtrlWrite (s : State) (data : Nat) : State :=
  s.writeReg Reg.EVU_CTRL 0 data
    [(St.VALUE, decide (64 ≤ EVU_CTRL.DEST.of data) && decide (EVU_CTRL.DEST.of data ≤ 126)),
     (St.CONFLICT, decide (EVU_CTRL.HIWM.of data ≤ EVU_CTRL.LOWM.of data))] (fun s => s.setEvq s.evq)

end Sys2Proof.Machine
end

