-- ==== Sys2Proof/Machine/MemCap.lean ====
section
/-! DEFINITION. Errors of the on-chip memories: macros and kinds (R486), captures (R490, R491), their events and counts (R487, R489). -/
namespace Sys2Proof.Machine

/-- The memory kind of a macro (R486). -/
def macroKind (m : Nat) : Nat :=
  if m < 544 then 0 else if m < 560 then 1 else if m < 592 then 2 else if m < 600 then 3 else if m < 604 then 4
  else if m < 608 then 5 else 6

/-- An error into the capture record of its class (R490, R491). -/
def State.capture (s : State) (m word synd : Nat) (scrub ue : Bool) : State :=
  let c := 2 * macroKind m + (if ue then 1 else 0)
  if s.on MEM_CAP0.VALID c then (s.bump MEM_CAP0.COUNT c).wr MEM_CAP0.MULTI 1 c
  else
    let t := s.now
    let s := (((s.drew.wr MEM_CAP0.VALID 1 c).wr MEM_CAP0.MACRO m c).wr MEM_CAP1.WORD word c).wr MEM_CAP1.SYNDROME synd c
    ((s.setBit MEM_CAP1.SCRUB scrub c).wr MEM_CAP2.TIME (t % 2 ^ 32) c).wr MEM_CAP3.TIME (t / 2 ^ 32) c

/-- A correctable error: captured, told and counted (R487, R489). -/
def State.memCe (s : State) (m word synd : Nat) (scrub : Bool) : State :=
  let s := ((s.capture m word synd scrub false).raiseOnce 0x3F8).bump MEM_MACRO.CE m
  if s.rd MEM_SCRUB.CE_LIM < s.rd MEM_MACRO.CE m ∧ s.on MEM_MACRO.CEHIGH m = false then (s.wr MEM_MACRO.CEHIGH 1 m).raise 0x3FA m else s

/-- An uncorrectable error: captured and told (R487). The capture of the event is class and macro. -/
def State.memUe (s : State) (m word synd : Nat) (scrub : Bool) : State :=
  (s.capture m word synd scrub true).raise 0x3F9 (2 * macroKind m + 1 + 16 * m)

/-- An error in a physical buffer bank; the macro within the bank, the word and the syndrome are free (log entry 97). -/
def State.bufferError (s : State) (b : Nat) (scrub ue : Bool) : State :=
  let v := s.freeVal
  let s := s.drew
  let m := 16 * b + v % 16
  if ue then s.memUe m (v / 16 % 4096) (v / 65536 % 512) scrub else s.memCe m (v / 16 % 4096) (v / 65536 % 512) scrub

end Sys2Proof.Machine
end

