-- ==== Sys2Proof/Machine/TmOps.lean ====
section
/-! DEFINITION. The traffic manager: lengths, buckets, virtual time, choosing the next frame, and the meters (R204 to R222). -/
namespace Sys2Proof.Machine

def State.modTm (s : State) (f : Tm → Tm) : State := { s with tm := f s.tm }

/-- Node `j` of the scheduler (R204). -/
def State.node (s : State) (j : Nat) : NodeRun := NMap.get s.tm.nodes NodeRun.init j
def State.setNode (s : State) (j : Nat) (n : NodeRun) : State :=
  s.modTm (fun t => { t with nodes := NMap.set t.nodes NodeRun.init j n })

/-- The index of the parent of node `j`; a port has none (R204). -/
def State.nodeParent (s : State) (j : Nat) : Option Nat :=
  if j < 4096 then some (4096 + s.parentOf j) else if j < 4240 then some (4240 + (j - 4096) / 8) else none

def State.queueOf (s : State) (q : Nat) : List Copy := NMap.get s.sw.queues [] q
def State.setQueue (s : State) (q : Nat) (l : List Copy) : State :=
  s.modSw (fun w => { w with queues := NMap.set w.queues [] q l })
def State.egressOf (s : State) (p : Nat) : List Copy := NMap.get s.sw.egress [] p
def State.setEgress (s : State) (p : Nat) (l : List Copy) : State :=
  s.modSw (fun w => { w with egress := NMap.set w.egress [] p l })

/-- The accounting length of a frame of counted length `n` at port `p` (R217). -/
def State.accounted (s : State) (p n : Nat) : Nat :=
  let u := s.rd TMG_POVH.UNIT p
  let unit := if u = 0 then 0 else s.rd TMG_POVH.OVH_U p * ((n + u - 1) / u)
  (max 1 ((n : Int) + sgn 7 (s.rd TMG_POVH.OVH_C p) + (unit : Int))).toNat

/-- The frame without its outer tag. -/
def untagged (b : List Byte) : List Byte := if tagged b then b.take 12 ++ b.drop 16 else b

/-- The frame with an outer tag. -/
def withTag (b : List Byte) (vid pcp : Nat) (dei : Bool) : List Byte :=
  let u := untagged b
  u.take 12 ++ be 2 0x8100 ++ be 2 (vid % 4096 + (if dei then 4096 else 0) + 8192 * (pcp % 8)) ++ u.drop 12

/-- ETH port `k` sends VID `v` untagged (R260). -/
def State.sendsUntagged (s : State) (k v : Nat) : Bool := bitAt (s.rd ETH_VUNTAG.MAP (k * 128 + v / 32)) (v % 32)

/-- ETH port `k` is a member of VID `v` (R258, R260). -/
def State.isMember (s : State) (k v : Nat) : Bool := bitAt (s.rd ETH_VMEMB.MAP (k * 128 + v / 32)) (v % 32)

/-- The bytes of a copy as port `p` sends them, without FCS and tunnel header (R260, R222). -/
def State.sentBytes (s : State) (p : Nat) (f : SwFrame) (c : Copy) : List Byte :=
  if f.asIs then f.bytes
  else if p < 4 then
    if f.tid = 1 ∨ tagged f.bytes then withTag f.bytes f.vid c.pcp c.dei else f.bytes
  else if p < 12 then
    if s.sendsUntagged (p - 4) f.vid then untagged f.bytes else withTag f.bytes f.vid c.pcp c.dei
  else if p < 16 then untagged f.bytes
  else f.bytes

/-- The length `L` of a copy at its egress port (R217). -/
def State.sentLength (s : State) (p : Nat) (f : SwFrame) (c : Copy) : Nat :=
  let n := (s.sentBytes p f c).length
  if p < 4 then n + 8 else if p < 16 then n + 4 else n

/-- The length `L` of a received frame at its ingress port (R217). -/
def receivedLength (f : SwFrame) : Nat :=
  if f.port < 4 then f.bytes.length + 8 else if f.port < 16 then f.bytes.length + 4 else f.bytes.length

/-- The VC on which JXL port `p` sends a copy (R179). -/
def State.copyVc (s : State) (p : Nat) (f : SwFrame) (c : Copy) : Nat :=
  if f.tid = 1 then
    let i := p * 2 + c.pcp / 4 % 2
    match c.pcp % 4 with
    | 0 => s.rd SWB_JVCMAP.VC0 i
    | 1 => s.rd SWB_JVCMAP.VC1 i
    | 2 => s.rd SWB_JVCMAP.VC2 i
    | _ => s.rd SWB_JVCMAP.VC3 i
  else (s.tixOf f.tid).elim 0 (fun x => s.rd TUN_ENT3.VC x)

def State.frameNo (s : State) (n : Nat) : SwFrame := NMap.get s.sw.frames default n

/-- The VCs that have a frame in progress on JXL port `p` (R180). -/
def State.vcsBusy (s : State) (p : Nat) : List Nat :=
  distinct (((s.lk p).openq.map (fun i => i.vc)) ++ (s.egressOf p).map (fun c => s.copyVc p (s.frameNo c.frame) c))

/-- Frames in port `p`'s egress frame buffer (R180). -/
def State.egressHeld (s : State) (p : Nat) : Nat :=
  if p < 4 then (s.vcsBusy p).length else (s.egressOf p).length

/-- The egress can take the head frame of a queue now (R207). -/
def State.canTake (s : State) (p : Nat) (c : Copy) : Bool :=
  if p < 4 then
    let v := s.copyVc p (s.frameNo c.frame) c
    s.on JXK_VC.AVAIL (p * 64 + v) && !(s.vcsBusy p).contains v
  else true

/-- The peak test of node `j` (R207, R213). -/
def State.peakOk (s : State) (j : Nat) : Bool := (s.node j).pir == 0 || decide (0 ≤ (s.node j).p)

/-- Committed state of node `j` (R208): 0 committed, 1 in excess. -/
def State.excess (s : State) (j : Nat) : Nat := if (s.node j).cir ≠ 0 ∧ 0 ≤ (s.node j).c then 0 else 1

def State.queueEligible (s : State) (q : Nat) : Bool :=
  s.peakOk q && (match s.queueOf q with
    | [] => false
    | c :: _ => s.canTake (s.queuePort q) c)

/-- The queues that hold frames under service node `n` (0 to 143). -/
def State.activeQueues (s : State) (n : Nat) : List Nat :=
  (s.sw.queues.filter (fun e => s.parentOf e.1 == n)).map (fun e => e.1)

def State.nodeEligible (s : State) (n : Nat) : Bool :=
  s.peakOk (4096 + n) && (s.activeQueues n).any (fun q => s.queueEligible q)

def State.portEligible (s : State) (p : Nat) : Bool :=
  s.peakOk (4240 + p) && (List.range 8).any (fun k => s.nodeEligible (8 * p + k))

/-- A port is ready (R206). -/
def State.portReady (s : State) (p : Nat) : Bool := s.swPortUp p && decide (s.egressHeld p < 2)

/-- The WFQ tag of child `j` as it is compared (R209): never below its parent's virtual time. -/
def State.tagOf (s : State) (j : Nat) : Nat :=
  match s.nodeParent j with
  | none => (s.node j).t
  | some k => max (s.node j).t (s.node k).v

/-- The key by which children are compared (R208). -/
def State.keyOf (s : State) (j : Nat) : Nat × Nat × Nat :=
  (s.excess j, if 4096 ≤ j then s.rd TMG_NCFG.PRIO j else 0, s.tagOf j)

def keyLess (a b : Nat × Nat × Nat) : Bool :=
  decide (a.1 < b.1) || (a.1 == b.1 && (decide (a.2.1 < b.2.1) || (a.2.1 == b.2.1 && decide (a.2.2 < b.2.2))))

/-- The child with the lowest key, the lowest index among equals; the list ascends (R208). -/
def State.lowest (s : State) (l : List Nat) : Option Nat :=
  l.foldl (fun best j =>
    match best with
    | none => some j
    | some b => if keyLess (s.keyOf j) (s.keyOf b) then some j else some b) none

/-- A child that is compared is brought up to its parent's virtual time (R209). -/
def State.catchUp (s : State) (l : List Nat) : State :=
  l.foldl (fun s j => s.setNode j { s.node j with t := s.tagOf j }) s

/-- The child selected sends a frame of accounting length `n` (R209). -/
def State.serveChild (s : State) (j n : Nat) : State :=
  let t := s.tagOf j
  let w := s.rd TMG_NCFG.WEIGHT j
  let s := match s.nodeParent j with
    | none => s
    | some k => s.setNode k { s.node k with v := t }
  s.setNode j { s.node j with t := (t + (n * 4096 + w - 1) / w) % 2 ^ 48 }

/-- Both buckets of node `j` charged (R212). A bucket without a rate has no level. -/
def State.charge (s : State) (j n : Nat) : State :=
  let a := s.node j
  s.setNode j { a with c := if a.cir = 0 then a.c else a.c - n * 100000, p := if a.pir = 0 then a.p else a.p - n * 100000 }

/-- A frame selected through node `j`. -/
def State.countNode (s : State) (j n : Nat) : State := (s.charge j n).wrap TMG_NTXF.FRAMES j

/-- A selection at port `p` (R206 to R209, R212), or none. -/
def State.selectAt (s : State) (p : Nat) : State :=
  let nodes := ((List.range 8).map (fun k => 8 * p + k)).filter (fun n => s.nodeEligible n)
  match s.lowest (nodes.map (fun n => 4096 + n)) with
  | none => s
  | some j =>
    let queues := (s.activeQueues (j - 4096)).filter (fun q => s.queueEligible q)
    match s.lowest queues with
    | none => s
    | some q =>
      match s.queueOf q with
      | [] => s
      | c :: rest =>
        let n := s.accounted p (s.sentLength p (s.frameNo c.frame) c)
        let s := (s.catchUp (nodes.map (fun n => 4096 + n))).catchUp queues
        let s := (s.serveChild j n).serveChild q n
        let s := ((s.countNode q n).countNode j n).countNode (4240 + p) n
        (s.setQueue q rest).setEgress p (s.egressOf p ++ [c])

/-- Up to five selections in one cycle, round-robin after the port served last (R206); `ready` is judged at the start of the
cycle. -/
def State.selectCycle (s : State) : State :=
  let order := (List.range 18).map (fun k => (s.tm.lastPort + 1 + k) % 18)
  let chosen := (order.filter (fun p => s.portReady p && s.portEligible p)).take 5
  chosen.foldl (fun s p => (s.selectAt p).modTm (fun t => { t with lastPort := p })) s

/-- Child `j` becomes active (R209). -/
def State.wake (s : State) (j : Nat) : State :=
  match s.nodeParent j with
  | none => s
  | some k => s.setNode j { s.node j with t := (s.node k).v }

/-- A copy enters queue `q`; a queue that was empty, and its service node if it had no active queue, become active (R209). -/
def State.enqueueCopy (s : State) (q : Nat) (c : Copy) : State :=
  let n := s.parentOf q
  let s := if (s.queueOf q).isEmpty then
      let s := if (s.activeQueues n).isEmpty then s.wake (4096 + n) else s
      s.wake q
    else s
  s.setQueue q (s.queueOf q ++ [c])

/-- The level of a bucket after a refill (R214, R215): a rate that comes from 0 starts full; otherwise the level gains 16 units a
kb/s and is clipped to the burst. -/
def refill (old rate burst : Nat) (level : Int) : Int :=
  let full : Int := burst * 6400000
  if rate = 0 then 0
  else if old = 0 then full
  else min full (level + 16 * rate)

/-- The refill of node `j` with its pending writes applied (R214, R215). -/
def State.refillNode (s : State) (j : Nat) : State :=
  let a := s.node j
  let cir := s.rd TMG_CIR.RATE j
  let pir := s.rd TMG_PIR.RATE j
  let cbs := s.rd TMG_CBS.BURST j
  let pbs := s.rd TMG_PBS.BURST j
  (s.setNode j { a with cir := cir, pir := pir, cbs := cbs, pbs := pbs, c := refill a.cir cir cbs a.c,
                        p := refill a.pir pir pbs a.p }).wr TMG_NSTAT.PEND 0 j

/-- Rates of a meter's two buckets in an algorithm (R221): C, and E or P. In mode 1 the second is fed by C's overflow. -/
def meterRates (mode cir pir : Nat) : Nat × Nat :=
  match mode with
  | 1 => (cir, cir)
  | 0 => (0, 0)
  | _ => (cir, pir)

/-- What is left above `full`, and the level clipped to it. -/
def clip (full n : Nat) : Nat × Nat := if full < n then (full, n - full) else (n, 0)

/-- The refill of meter `m` with its pending writes applied (R221). -/
def State.refillMeter (s : State) (m : Nat) : State :=
  let a := NMap.get s.tm.meters MeterRun.init m
  let mode := s.rd TMG_MCFG.MODE m
  let cir := s.rd TMG_MCIR.RATE m
  let pir := s.rd TMG_MPIR.RATE m
  let cbs := s.rd TMG_MCBS.BURST m
  let pbs := s.rd TMG_MPBS.BURST m
  let old := meterRates a.mode a.cir a.pir
  let new := meterRates mode cir pir
  let cf := s.on TMG_MCFG.CF m
  let cFull := cbs * 6400000
  let eFull := pbs * 6400000
  let c0 := clip cFull (if new.1 = 0 then 0 else if old.1 = 0 then cFull else a.c + 16 * new.1)
  let spill := if mode = 1 ∨ (mode = 3 ∧ cf) then c0.2 else 0
  let gain := if mode = 1 then 0 else 16 * new.2
  let e := (clip eFull (if new.2 = 0 then 0 else if old.2 = 0 then eFull else a.e + gain + spill)).1
  let b : MeterRun := { mode := mode, aware := s.on TMG_MCFG.AWARE m, cf := cf, cir := cir, pir := pir, cbs := cbs, pbs := pbs,
                        c := c0.1, e := e }
  s.modTm (fun t => { t with meters := NMap.set t.meters MeterRun.init m b })

/-- Colours. -/
inductive Colour where
  | green | yellow | red
  deriving DecidableEq, Repr

/-- The colour of a frame of `b` units, given as yellow or not, and the meter's buckets after it (RFC 2697, RFC 2698, RFC 4115;
R221). -/
def meterFrame (a : MeterRun) (yellowIn : Bool) (b : Nat) : Colour × MeterRun :=
  let y := a.aware && yellowIn
  if a.mode = 2 then
    if a.e < b then (.red, a)
    else if y || decide (a.c < b) then (.yellow, { a with e := a.e - b })
    else (.green, { a with c := a.c - b, e := a.e - b })
  else
    if !y && decide (b ≤ a.c) then (.green, { a with c := a.c - b })
    else if b ≤ a.e then (.yellow, { a with e := a.e - b })
    else (.red, a)

/-- The action of a colour (R222). -/
def State.meterAction (s : State) (m : Nat) (k : Colour) : Nat :=
  match k with
  | .green => s.rd TMG_MACT.GREEN m
  | .yellow => s.rd TMG_MACT.YELLOW m
  | .red => s.rd TMG_MACT.RED m

/-- A frame or copy metered by meter `m` (R219 to R222): its colour, counted, and the state after. A meter that is off gives
none. -/
def State.meter (s : State) (m : Nat) (f : SwFrame) : Option Colour × State :=
  let a := NMap.get s.tm.meters MeterRun.init m
  if a.mode = 0 then (none, s)
  else
    let r := meterFrame a f.dei (s.accounted f.port (receivedLength f) * 100000)
    let s := s.modTm (fun t => { t with meters := NMap.set t.meters MeterRun.init m r.2 })
    (some r.1, match r.1 with
      | .green => s.bump TMG_MCNT_GREEN.COUNT m
      | .yellow => s.bump TMG_MCNT_YELLOW.COUNT m
      | .red => s.bump TMG_MCNT_RED.COUNT m)

/-- A copy dropped by a meter's action (R222). -/
def State.meterDrop (s : State) (m : Nat) (k : Colour) : State :=
  (s.bump TMG_MCNT_DROPS.COUNT m).raiseOnce Ev.TMG_METER_DROP 0
    (m + 2048 * (match k with | .green => 0 | .yellow => 1 | .red => 2))

/-- The children of a parent node. -/
def State.childrenOf (s : State) (k : Nat) : List Nat :=
  if 4240 ≤ k then (List.range 8).map (fun n => 4096 + 8 * (k - 4240) + n)
  else (List.range 4096).filter (fun q => s.parentOf q == k - 4096)

/-- The line rate of a port in kb/s (R216): JXL by its trained rate and width, ETH by its speed, FS 10 Mb/s; Nimbus
and the gateway by the demand R25's table gives them (log entry 33). -/
def State.lineRate (s : State) (p : Nat) : Option Nat :=
  if p < 4 then some (204800000 / s.ticksPerSlot p)
  else if p < 12 then
    match s.rd ETH_STATUS.SPEED (p - 4) with
    | 1 => some 1000000
    | 2 => some 2500000
    | 3 => some 5000000
    | 4 => some 10000000
    | 5 => some 25000000
    | _ => none
  else if p < 16 then some 10000
  else if p = 16 then some 3200000
  else some 12800000

/-- Parent `k` is oversubscribed (R216). -/
def State.oversubscribed (s : State) (k : Nat) : Bool :=
  let sum := ((s.childrenOf k).map (fun j => s.rd TMG_CIR.RATE j)).sum
  let pir := s.rd TMG_PIR.RATE k
  if pir ≠ 0 then decide (pir < sum)
  else if 4240 ≤ k then
    match s.lineRate (k - 4240) with
    | none => false
    | some r => decide (5 * r < 4 * sum)
  else false

/-- R216 after an accepted write: each affected parent is checked; the status shows the lowest parent oversubscribed. -/
def State.checkParents (s : State) (l : List Nat) : State :=
  let s := l.foldl (fun s k =>
    let rest := s.tm.oversub.filter (fun x => x != k)
    if s.oversubscribed k then (s.modTm (fun t => { t with oversub := insertNat k rest })).raise Ev.TMG_CIR_OVERSUB k
    else s.modTm (fun t => { t with oversub := rest })) s
  (s.setBit TMG_STATUS.OVERSUB (!s.tm.oversub.isEmpty)).wr TMG_STATUS.OVNODE (s.tm.oversub.headD 0)

end Sys2Proof.Machine
end

