-- ==== Sys2Proof/Machine/SwitchFwd.lean ====
section
/-! DEFINITION. The switch from reception to queue: cells, the forwarding database, destinations, metering, admission, and the
bank substitutions (R172 to R199). -/
namespace Sys2Proof.Machine

/-- An OPEN frame under reception is dropped: its cells and the credits of its flits are freed, and its rest is ignored (R193). -/
def State.dropPart (s : State) (k cause : Nat) (last : Bool) (a : RxPart) : State :=
  let s := ((s.swDrop (k / 64) cause).freeCells a.cells).giveCredit (k / 64) (k % 64) a.flits a.epoch
  let gone : RxPart := { a with bytes := [], cells := [], flits := 0, dropped := true }
  s.modSw (fun w => { w with rx := if last then NMap.del w.rx k else NMap.set w.rx default k gone })

/-- The frame that an OPEN frame complete on its VC makes, and the queue of its tunnel (R75, R177); `none` where R75 rejects it. -/
def State.openFrame (s : State) (p v : Nat) (a : RxPart) : Option SwIn :=
  let tid := leAt a.bytes 0 2
  let n := tunLen a.bytes
  let x := s.tixOf tid
  let isOpen := match x with
    | none => false
    | some x => s.tunClass x == 2
  if lenFits a.bytes a.flits && (tid == 1 || isOpen) then
    let f : SwFrame := { frameOf p ((a.bytes.drop 8).take n) with
      vc := v, flits := a.flits, epoch := a.epoch, tid := tid, ident := leAt a.bytes 2 4, loss := tunLoss a.bytes,
      cells := a.cells }
    some { frame := f, sq := if tid = 1 then none else x.map (fun x => s.rd TUN_ENT3.SQ x), metered := true, learn := true }
  else none

/-- Cells an OPEN frame under reception needs so far: its LEN bounds them once the header is there (R172). -/
def partCells (a : RxPart) : Nat := (min a.bytes.length (tunLen a.bytes + 8) + 255) / 256

/-- An OPEN flit joins the frame under reception on its VC (R193). -/
def State.openFlit (s : State) (k : Nat) (i : OpenIn) (a0 : RxPart) : State :=
  let p := k / 64
  let v := k % 64
  let a := { a0 with bytes := a0.bytes ++ fit 24 i.item.payload, flits := a0.flits + 1 }
  if s.on SWB_STATUS.HALTED then s.dropPart k Drop.NOBUF i.item.last a
  else if s.rd JXK_VC.INIT k < NMap.get s.sw.headUse 0 k then
    (s.dropPart k Drop.CREDIT i.item.last a).raise Ev.SWB_CREDIT_VIOL (p + 32 * v)
  else
    let next := if a.cells.length < partCells a then (s.nextCell p).map (fun c => [c]) else some []
    match next with
    | none => s.dropPart k Drop.NOBUF i.item.last a
    | some l =>
      let s := l.foldl (fun s c => s.takeCell p c) s
      let a := { a with cells := a.cells ++ l }
      if i.item.last then
        match s.openFrame p v a with
        | none => s.dropPart k Drop.FORMAT true a
        | some f =>
          (s.noteLastBank p f.frame.bytes.length a.cells).modSw (fun w => { w with rx := NMap.del w.rx k, done := w.done ++ [f] })
      else s.modSw (fun w => { w with rx := NMap.set w.rx default k a })

/-- An accepted OPEN flit enters the buffer. A flit outside a frame, or of a dropped one, only gives its credit back. -/
def State.openAllocate (s : State) (i : OpenIn) : State :=
  let k := i.port * 64 + i.item.vc
  if i.cut then
    (s.sw.rx.filter (fun e => e.1 / 64 == i.port)).foldl (fun s e =>
      if e.2.dropped then s.modSw (fun w => { w with rx := NMap.del w.rx e.1 }) else s.dropPart e.1 Drop.FORMAT true e.2) s
  else
    let s := if s.linkActive i.port ∧ s.rd JXK_STATUS.EPOCH i.port = i.epoch then
        s.modSw (fun w => { w with headUse := NMap.set w.headUse 0 k (NMap.get w.headUse 0 k + 1) })
      else s
    let cur := s.sw.rx.find? (fun e => e.1 == k)
    if i.item.first then
      let s := match cur with
        | some e => if e.2.dropped then s else s.dropPart k Drop.FORMAT true e.2
        | none => s
      s.openFlit k i { bytes := [], cells := [], flits := 0, epoch := i.epoch, dropped := false }
    else
      match cur with
      | none => s.giveCredit i.port i.item.vc 1 i.epoch
      | some e =>
        if e.2.dropped then
          (s.giveCredit i.port i.item.vc 1 i.epoch).modSw (fun w => if i.item.last then { w with rx := NMap.del w.rx k } else w)
        else s.openFlit k i e.2

/-- The frame under reception at a port other than the OPEN streams gets its next cell, is dropped, or waits (R193). -/
def State.frameAllocate (s : State) (p : Nat) : State :=
  match NMap.get s.sw.inq [] p with
  | [] => s
  | f :: rest =>
    let n := f.frame.bytes.length
    let pop := fun (s : State) => s.modSw (fun w => { w with inq := NMap.set w.inq [] p rest })
    let drop := fun (cause : Nat) => ((pop s).freeCells f.frame.cells).swDrop p cause
    if s.on SWB_STATUS.HALTED then drop Drop.NOBUF
    else if 9216 < n then drop Drop.FORMAT
    else
      match (if s.sharedFree = 0 then none else s.nextCell p) with
      | none => if p = 16 ∨ p = 17 then s else drop Drop.NOBUF
      | some c =>
        let s := s.takeCell p c
        let f := { f with frame := { f.frame with cells := f.frame.cells ++ [c] } }
        if f.frame.cells.length < cellsFor n then s.modSw (fun w => { w with inq := NMap.set w.inq [] p (f :: rest) })
        else
          (s.noteLastBank p n f.frame.cells).modSw (fun w => { w with inq := NMap.set w.inq [] p rest, done := w.done ++ [f] })

/-- `SWITCH_CELL_ALLOCATE`: the next OPEN flit of a JXL port, else the next cell of the frame under reception at the port. -/
def State.cellAllocate (s : State) (p : Nat) : State :=
  match takeFirst (fun (i : OpenIn) => i.port == p) s.sw.openIn with
  | some (i, rest) => (s.modSw (fun w => { w with openIn := rest })).openAllocate i
  | none => s.frameAllocate p

/-- The set of a key (R182). -/
def fdbSet (mac vid : Nat) : Nat :=
  ((mac % 2 ^ 32) ^^^ (mac / 2 ^ 32 * 65536 % 2 ^ 32) ^^^ vid) * 0x9E3779B1 % 2 ^ 32 / 2 ^ 20

/-- The group bit of an address (R182). -/
def isGroup (mac : Nat) : Bool := bitAt mac 40

def State.fdbAt (s : State) (k : Nat) : Option FdbEnt := NMap.get s.sw.fdb none k

/-- `COUNT` and `FULLCOUNT` kept at the entries in use. -/
def State.fdbCount (s : State) : State :=
  let n := s.sw.fdb.length
  (s.wr SWB_FSTAT.COUNT n).setBit SWB_FSTAT.FULLCOUNT (n == 16384)

def State.setFdb (s : State) (k : Nat) (e : Option FdbEnt) : State :=
  (s.modSw (fun w => { w with fdb := NMap.set w.fdb none k e })).fdbCount

/-- The place of a key's entry. -/
def State.fdbFind (s : State) (mac vid : Nat) : Option Nat :=
  ((List.range 4).map (fun w => fdbSet mac vid * 4 + w)).find? (fun k =>
    match s.fdbAt k with
    | none => false
    | some e => e.mac == mac && e.vid == vid)

/-- A free way of a key's set. -/
def State.fdbFree (s : State) (mac vid : Nat) : Option Nat :=
  ((List.range 4).map (fun w => fdbSet mac vid * 4 + w)).find? (fun k => (s.fdbAt k).isNone)

/-- The addresses of a frame. -/
def dmacOf (f : SwFrame) : Nat := beAt f.bytes 0 6
def smacOf (f : SwFrame) : Nat := beAt f.bytes 6 6

/-- Learning (R184). A frame too short for a source address teaches nothing. -/
def State.learn (s : State) (f : SwFrame) : State :=
  let mac := smacOf f
  let p := f.port
  if s.on SWB_PCFG.LEARN p = false ∨ f.bytes.length < 12 ∨ isGroup mac then s
  else
    match s.fdbFind mac f.vid with
    | some k =>
      match s.fdbAt k with
      | none => s
      | some e =>
        if e.port = p then s.setFdb k (some { e with age := 0 })
        else if e.isStatic then s.bump SWB_FSTAT.SVIOL
        else ((s.setFdb k (some { e with port := p, sq := s.rd SWB_PCFG.LEARN_SQ p, age := 0 })).bump SWB_FSTAT.MOVES).raiseOnce
          Ev.SWB_FDB_MOVE
    | none =>
      match s.fdbFree mac f.vid with
      | some k => s.setFdb k (some { mac := mac, vid := f.vid, isStatic := false, port := p, sq := s.rd SWB_PCFG.LEARN_SQ p,
                                     pmask := 0, age := 0 })
      | none => (s.bump SWB_FSTAT.LFAIL).raiseOnce Ev.SWB_FDB_FULL

/-- What a destination lookup gives (R186): the queues, or the frame filtered. -/
def State.lookupQueues (s : State) (f : SwFrame) : Option (List Nat) :=
  let flood := fun (mask : Nat) => ((bitList 18 mask).filter (fun p => p != f.port)).map (fun p => s.rd SWB_PCFG.FLOOD_SQ p)
  match (s.fdbFind (dmacOf f) f.vid).bind (fun k => s.fdbAt k) with
  | none => some (flood (s.rd SWB_FLOOD.MASK f.port))
  | some e =>
    if isGroup e.mac then some (flood e.pmask)
    else if e.port = f.port then none
    else some [if s.on SWB_PCFG.PCP_Q e.port then (e.sq + f.pcp) % 4096 else e.sq]

/-- The admission test of R189 for `n` cells and queue `q`. -/
def State.admits (s : State) (q n : Nat) (yellow : Bool) : Bool :=
  let prof := s.rd SWB_QCFG.PROFILE q
  let k := sgn 4 (if yellow then s.rd SWB_PROF.KY prof else s.rd SWB_PROF.KG prof)
  let len := s.rd SWB_QLEN.CELLS q
  let f := s.sharedFree
  let lim := if 0 ≤ k then f * 2 ^ k.toNat else f / 2 ^ (-k).toNat
  let after := len + n - s.minOf q
  let need := after - (len - s.minOf q)
  after == 0 || (decide (need ≤ f) && decide (after ≤ lim))

/-- A copy is admitted: charged, given a descriptor and queued (R189, R191, R192). -/
def State.admitCopy (s : State) (no n q pcp : Nat) (dei : Bool) : State :=
  let len := s.rd SWB_QLEN.CELLS q + n
  let s := (s.wr SWB_QLEN.CELLS len q).wr SWB_QLEN.PEAK (max (s.rd SWB_QLEN.PEAK q) (min 16383 (len / 16))) q
  let s := s.wr SWB_DESC.FREE (s.rd SWB_DESC.FREE - 1)
  let f := s.frameNo no
  let s := s.modSw (fun w => { w with charged := NMap.set w.charged 0 q len,
                                      frames := NMap.set w.frames default no { f with copies := f.copies + 1 } })
  s.enqueueCopy q { frame := no, queue := q, pcp := pcp, dei := dei }

/-- What a colour's action leaves of PCP and DEI (R222). -/
def remark (act pcp : Nat) (dei : Bool) : Nat × Bool :=
  (if bitAt act 2 then bits act 3 3 else pcp, dei || bitAt act 1)

/-- A copy for queue `q` of frame `no`, coloured or not (R190, R194): port state, threshold, descriptor. -/
def State.placeCopy (s : State) (no q pcp : Nat) (dei yellow : Bool) : State :=
  let p := s.queuePort q
  let n := (s.frameNo no).cells.length
  if s.swPortUp p = false then s.swDrop p Drop.PORTDOWN
  else if s.admits q n yellow = false then s.swDrop p Drop.THRESH
  else if s.rd SWB_DESC.FREE = 0 then s.swDrop p Drop.NODESC
  else s.admitCopy no n q pcp dei

/-- A copy whose colour is known: its action, then admission. -/
def State.colouredCopy (s : State) (no q : Nat) (m : Nat) (k : Option Colour) : State :=
  let f := s.frameNo no
  match k with
  | none => s.placeCopy no q f.pcp f.dei (f.dei && s.on SWB_PCFG.DEI_YELLOW f.port)
  | some k =>
    let act := s.meterAction m k
    if bitAt act 0 then s.meterDrop m k
    else
      let r := remark act f.pcp f.dei
      s.placeCopy no q r.1 r.2 (k != .green)

/-- The copies of a metered frame (R219 to R222), by `TMG_MSEL` of its ingress port. -/
def State.meteredCopies (s : State) (no : Nat) (queues : List Nat) : State :=
  let f := s.frameNo no
  let base := s.rd TMG_MSEL.BASE f.port
  let once := fun (m : Nat) =>
    let r := s.meter m f
    queues.foldl (fun s q => s.colouredCopy no q m r.1) r.2
  match s.rd TMG_MSEL.MODE f.port with
  | 1 => once base
  | 2 => once (base + f.pcp)
  | 3 => (sortNat queues).foldl (fun s q =>
      if s.on TMG_QMETER.MEN q then
        let m := s.rd TMG_QMETER.METER q
        let r := s.meter m f
        r.2.colouredCopy no q m r.1
      else s.colouredCopy no q 0 none) s
  | _ => queues.foldl (fun s q => s.colouredCopy no q 0 none) s

/-- The copies that are made at all (R260): a copy for an ETH port that is no member of the VID is counted in EGFILT. -/
def State.madeCopies (s : State) (f : SwFrame) (queues : List Nat) : List Nat × State :=
  let filtered := fun (q : Nat) =>
    let p := s.queuePort q
    decide (4 ≤ p) && decide (p < 12) && !s.isMember (p - 4) f.vid
  (queues.filter (fun q => !filtered q),
   (queues.filter filtered).foldl (fun s q => s.bump ETH_EGFILT.COUNT (s.queuePort q - 4)) s)

/-- The decision on a complete frame (R176, R177, R184, R186, R189 to R194, R219). -/
def State.frameDecide (s : State) (d : SwIn) : State :=
  if s.on SWB_STATUS.HALTED then (s.freeFrame d.frame).swDrop d.frame.port Drop.NOBUF
  else
    let s := if d.learn then s.learn d.frame else s
    match (match d.sq with
      | some q => some [q]
      | none => s.lookupQueues d.frame) with
    | none => (s.freeFrame d.frame).swDrop d.frame.port Drop.FILTER
    | some queues =>
      let m := s.madeCopies d.frame queues
      let no := m.2.sw.nextFrame
      let s := m.2.modSw (fun w => { w with nextFrame := no + 1, frames := NMap.set w.frames default no { d.frame with copies := 0 } })
      let s := if d.metered then s.meteredCopies no m.1
        else m.1.foldl (fun s q => s.placeCopy no q d.frame.pcp d.frame.dei false) s
      let f := s.frameNo no
      if f.copies = 0 then (s.modSw (fun w => { w with frames := NMap.del w.frames no })).freeFrame f else s

/-- `SWITCH_FRAME_COMPLETE`: the oldest complete frame. -/
def State.frameComplete (s : State) : State :=
  match s.sw.done with
  | [] => s
  | d :: rest => (s.modSw (fun w => { w with done := rest })).frameDecide d

/-- The lowest-numbered free spare (R197). -/
def State.freeSpareBank (s : State) : Option Nat := [32, 33].find? (fun b => s.rd SWB_BANK.STATE b == 1)

/-- `SPARES` kept at the free spares. -/
def State.spareBankCount (s : State) : State :=
  s.wr SWB_STATUS.SPARES (([32, 33].filter (fun b => s.rd SWB_BANK.STATE b == 1)).length)

/-- A substitution starts (R198 step 1). -/
def State.startCopy (s : State) (bank spare : Nat) : State :=
  let s := (s.wr SWB_BANK.STATE 0 spare).spareBankCount
  let s := (s.wr SWB_STATUS.COPY 1).wr SWB_STATUS.COPYBANK bank
  let s := if spare = 32 then (s.wr SWB_SPARE.LOG0 bank).wr SWB_SPARE.USED0 1 else (s.wr SWB_SPARE.LOG1 bank).wr SWB_SPARE.USED1 1
  (s.modSw (fun w => { w with copyTo := spare })).raise Ev.SWB_BANK_SUBST (bank + 32 * spare)

/-- The halt of R199: every frame in the buffer is discarded and nothing further is admitted. -/
def State.haltSwitch (s : State) : State :=
  let s := (s.wr SWB_STATUS.HALTED 1).raise Ev.SWB_BANK_FATAL
  let copies := (s.sw.queues.flatMap (fun e => e.2)) ++ (s.sw.egress.flatMap (fun e => e.2))
  let s := copies.foldl (fun s c => s.releaseCopy c) (s.modSw (fun w => { w with queues := [], egress := [] }))
  let s := s.sw.done.foldl (fun s d => (s.freeFrame d.frame).swDrop d.frame.port Drop.NOBUF) (s.modSw (fun w => { w with done := [] }))
  let s := (s.sw.rx.filter (fun e => !e.2.dropped)).foldl (fun s e => s.dropPart e.1 Drop.NOBUF false e.2) s
  (s.sw.inq.flatMap (fun e => e.2)).foldl (fun s d => (s.freeCells d.frame.cells).swDrop d.frame.port Drop.NOBUF)
    (s.modSw (fun w => { w with inq := [] }))

/-- The physical bank that serves a logical bank: itself, or the spare that took its place (R198). -/
def State.physBank (s : State) (bank : Nat) : Nat :=
  if s.on SWB_STATUS.COPY ∧ s.rd SWB_STATUS.COPYBANK = bank then bank
  else if s.on SWB_SPARE.USED0 ∧ s.rd SWB_SPARE.LOG0 = bank ∧ s.rd SWB_BANK.STATE 32 = 0 then 32
  else if s.on SWB_SPARE.USED1 ∧ s.rd SWB_SPARE.LOG1 = bank ∧ s.rd SWB_BANK.STATE 33 = 0 then 33
  else bank

/-- A bank fails with no spare free (R199): the first is retired, a second halts the switch. -/
def State.retireBank (s : State) (bank : Nat) : State :=
  if s.on SWB_STATUS.RETIRED then s.haltSwitch
  else
    let s := (s.wr SWB_STATUS.RETIRED 1).wr SWB_BANK.STATE 3 (s.physBank bank)
    (s.modSw (fun w => { w with retiredBank := some bank })).recomputePool.raise Ev.SWB_BANK_RETIRED bank

/-- The logical bank's data still lie in a physical bank in use, and it waits for no substitution. -/
def State.bankSound (s : State) (bank : Nat) : Bool :=
  s.rd SWB_BANK.STATE (s.physBank bank) == 0 && !s.sw.bankWait.contains bank &&
  !(s.on SWB_STATUS.COPY && s.rd SWB_STATUS.COPYBANK == bank)

/-- A logical bank is marked failing (R197): substituted, queued behind the running copy, or retired. -/
def State.bankFailing (s : State) (bank : Nat) : State :=
  if s.bankSound bank = false then s
  else if s.on SWB_STATUS.COPY then s.modSw (fun w => { w with bankWait := w.bankWait ++ [bank] })
  else
    match s.freeSpareBank with
    | some b => s.startCopy bank b
    | none => s.retireBank bank

/-- The next bank that waits is taken up, in the order the banks were marked (R197). -/
def State.nextBank (s : State) (fuel : Nat) : State :=
  match fuel with
  | 0 => s
  | fuel + 1 =>
    match s.sw.bankWait with
    | [] => s
    | b :: rest =>
      let s := (s.modSw (fun w => { w with bankWait := rest })).bankFailing b
      if s.on SWB_STATUS.COPY then s else s.nextBank fuel

/-- The spare itself fails during the copy (R198): the copy starts again with the other spare, if one is free. -/
def State.copyFails (s : State) : State :=
  let bank := s.rd SWB_STATUS.COPYBANK
  let spare := s.sw.copyTo
  let s := ((s.wr SWB_BANK.STATE 2 spare).wr SWB_STATUS.COPY 0).spareBankCount
  let s := if spare = 32 then s.wr SWB_SPARE.USED0 0 else s.wr SWB_SPARE.USED1 0
  match s.freeSpareBank with
  | some b => s.startCopy bank b
  | none => (s.retireBank bank).nextBank 32

/-- The copy ends (R198 step 4). -/
def State.copyDone (s : State) : State :=
  if s.on SWB_STATUS.COPY then
    let bank := s.rd SWB_STATUS.COPYBANK
    let old := if s.sw.copyTo = 33 ∧ s.on SWB_SPARE.USED0 ∧ s.rd SWB_SPARE.LOG0 = bank ∧ s.rd SWB_BANK.STATE 32 = 0 then 32
      else bank
    let s := ((s.wr SWB_STATUS.COPY 0).wr SWB_BANK.STATE 2 old).raise Ev.SWB_BANK_DONE
    s.nextBank 32
  else s

/-- A correctable error in bank `b`, a physical bank (R196, R197). -/
def State.bankCe (s : State) (b : Nat) (scrub : Bool) : State :=
  ((s.bump SWB_BANK.CE b).raiseOnce Ev.SWB_ECC_CE).bufferError b scrub false

/-- An uncorrectable error in a logical bank (R196, R197). -/
def State.bankUe (s : State) (bank addr : Nat) (scrub : Bool := false) : State :=
  let b := s.physBank bank
  let s := ((s.bump SWB_BANK.UE b).raise Ev.SWB_ECC_UE (bank + 32 * addr)).bufferError b scrub true
  if s.rd SWB_ECCCFG.UE_LIM ≤ s.rd SWB_BANK.UE b then s.bankFailing bank else s

/-- Correctable errors found in logical banks, and the banks they carry over the limit (R197). -/
def State.bankCes (s : State) (l : List Nat) (scrub : Bool := false) : State :=
  l.foldl (fun s bank =>
    let b := s.physBank bank
    let s := s.bankCe b scrub
    if s.rd SWB_ECCCFG.CE_LIM < s.rd SWB_BANK.CE b then s.bankFailing bank else s) s

end Sys2Proof.Machine
end

