-- ==== Sys2Proof/Machine/EthOps.lean ====
section
/-! DEFINITION. Ethernet ports: what a received frame passes through (R81, R82, R255 to R258, R261), transmission (R260, R262), link
state (R256) and the clock commands (R263 to R268). -/
namespace Sys2Proof.Machine

/-- Where the EtherType stands after any VLAN tags (TPID 0x8100 or 0x88A8), and the EtherType. -/
def etherAt (b : List Byte) (i fuel : Nat) : Nat × Nat :=
  let e := beAt b i 2
  match fuel with
  | 0 => (i, e)
  | fuel + 1 => if e = 0x8100 ∨ e = 0x88A8 then etherAt b (i + 4) fuel else (i, e)

def etherType (b : List Byte) : Nat := (etherAt b 12 4).2

/-- The protocol and the destination port of a UDP (17) or TCP (6) segment over IPv4 or IPv6. -/
def l4Port (b : List Byte) : Option (Nat × Nat) :=
  let e := etherAt b 12 4
  let i := e.1 + 2
  let ok := fun (proto : Nat) => proto == 17 || proto == 6
  if e.2 = 0x0800 then
    let ihl := byteAt b i % 16 * 4
    if ok (byteAt b (i + 9)) ∧ beAt b (i + 6) 2 % 8192 = 0 then some (byteAt b (i + 9), beAt b (i + ihl + 2) 2) else none
  else if e.2 = 0x86DD then
    if ok (byteAt b (i + 6)) then some (byteAt b (i + 6), beAt b (i + 42) 2) else none
  else none

/-- The IPv4 destination address of a frame. -/
def ipv4Dst (b : List Byte) : Option Nat :=
  let e := etherAt b 12 4
  if e.2 = 0x0800 then some (beAt b (e.1 + 18) 4) else none

/-- A frame the PTP trap takes (R261). -/
def isPtp (b : List Byte) : Bool :=
  etherType b == 0x88F7 || (match l4Port b with
    | some (17, p) => p == 319 || p == 320
    | _ => false)

/-- Classifier entry `i` matches a frame received on ETH port `k` (R81). -/
def State.clsMatches (s : State) (i k : Nat) (b : List Byte) : Bool :=
  s.on TUN_CLS0.VALID i &&
  (s.on TUN_CLS0.ANYPORT i || s.rd TUN_CLS0.PORT i == k) &&
  (!s.on TUN_CLS0.VID_EN i || s.rd TUN_CLS0.VID i == tagWord b % 4096) &&
  (!s.on TUN_CLS0.ET_EN i || s.rd TUN_CLS1.ETYPE i == etherType b) &&
  (!s.on TUN_CLS0.SMAC_EN i || s.rd TUN_CLS3.SMAC i * 2 ^ 32 + s.rd TUN_CLS2.SMAC i == beAt b 6 6) &&
  (!s.on TUN_CLS0.L4_EN i || (match l4Port b with
    | some (_, p) => s.rd TUN_CLS1.L4DPORT i == p
    | none => false)) &&
  (!s.on TUN_CLS0.DIP_EN i || (match ipv4Dst b with
    | some a => a / 2 ^ (32 - s.rd TUN_CLS5.DIPLEN i) == s.rd TUN_CLS4.DIP i / 2 ^ (32 - s.rd TUN_CLS5.DIPLEN i)
    | none => false))

/-- The gateway takes a frame received on ETH port `k` (R82): the bytes from the gateway header on. -/
def State.gwTakes (s : State) (k : Nat) (b : List Byte) : Option (List Byte) :=
  let tag := s.on TUN_GWCTRL.TAG_EN
  let off := if tag then 16 else 12
  if s.gwRuns && s.rd TUN_GWCTRL.GW_PORT == k && beAt b off 2 == s.rd TUN_GWETYPE.ETYPE &&
      b.take 6 == macBytes (s.rd TUN_GWSMAC_HI.MAC) (s.rd TUN_GWSMAC_LO.MAC) &&
      (tagged b == tag) && (!tag || tagWord b % 4096 == s.rd TUN_GWCTRL.VID) && decide (b.length + 4 ≤ 9270)
  then some (b.drop (off + 2)) else none

/-- The VID a received frame is classified to, or none where R258 fails it. -/
def State.classify (s : State) (k : Nat) (b : List Byte) : Option Nat :=
  let v := tagWord b % 4096
  let plain := !tagged b || v == 0
  let vid := if plain then s.rd ETH_VLAN.PVID k else v
  if v = 4095 ∧ tagged b then none
  else if s.rd ETH_VLAN.ACCEPT k = 1 ∧ plain then none
  else if s.rd ETH_VLAN.ACCEPT k = 2 ∧ !plain then none
  else if s.on ETH_VLAN.ING_FILT k ∧ !s.isMember k vid then none
  else some vid

/-- A received timestamp corrected by the port's latency (R261). -/
def State.rxStamp (s : State) (k t : Nat) : Nat := t - s.rd ETH_TSLAT.RX_LAT k / 16

/-- Step 7 of R257: the pinned-flow classifier, then the switch. -/
def State.ethToSwitch (s : State) (k : Nat) (b : List Byte) (vid : Nat) : State :=
  let f := { frameOf (4 + k) b with vid := vid }
  match (List.range 512).find? (fun i => s.clsMatches i k b) with
  | some i => (s.wrap TUN_CLS7.HITS i).identFrame (2 * 2 ^ 28 + s.rd TUN_CLS6.ID i) f
  | none => s.swEnter { frame := f, sq := none, metered := true, learn := true }

/-- `ETH_FRAME_RECEIVE` (R257): `b` is the frame without FCS, `fcs` whether its FCS was right, `t` the tree time at its start
delimiter; `corr` and `unc` count the RS-FEC codewords since the last frame. -/
def State.ethReceive (s : State) (k : Nat) (b : List Byte) (fcs : Bool) (t corr unc : Nat) : State :=
  if s.on ETH_STATUS.LINK k = false then s
  else
    let s := (s.bump ETH_FECCORR.COUNT k corr).bump ETH_FECUNC.COUNT k unc
    let s := if unc = 0 then s else s.raiseOnce (Ev.ETH_FEC_UNCORR k)
    let len := b.length + 4
    if fcs = false then (s.bump ETH_RXFCS.COUNT k).swDrop (4 + k) Drop.FCS
    else
      let s := (s.bump ETH_RXFRAMES.COUNT k).wrap ETH_RXBYTES.COUNT k len
      if len < 64 then (s.bump ETH_RXLEN.COUNT k).swDrop (4 + k) Drop.FCS
      else
        match s.gwTakes k b with
        | some h => s.gwReceive h
        | none =>
          if beAt b 12 2 = 0x8808 then s.bump ETH_RXCTL.COUNT k
          else if s.rd ETH_CTRL.MAXLEN k < len + (if tagged b then 0 else 4) then
            (s.bump ETH_RXLEN.COUNT k).swDrop (4 + k) Drop.FCS
          else if s.on ETH_CTRL.PTP_TRAP k ∧ isPtp b then
            ((s.bump ETH_RXTRAP.COUNT k).emit (.act "ptp receive timestamp" [k, s.rxStamp k t])).toNimbus b
          else
            match s.classify k b with
            | none => (s.bump ETH_RXVLAN.COUNT k).swDrop (4 + k) Drop.FCS
            | some vid => s.ethToSwitch k b vid

/-- A frame with a timestamp request has been sent (R262). -/
def State.txStamp (s : State) (k tag : Nat) : State :=
  let l := NMap.get s.eth.txts [] k
  let t := s.now + s.rd ETH_TSLAT.TX_LAT k / 16
  let s := s.drew
  if l.length < 16 then
    ({ s with eth := { s.eth with txts := NMap.set s.eth.txts [] k (l ++ [(tag, t)]) } }).wr ETH_TXTSCMD.COUNT (l.length + 1) k
  else (s.bump ETH_TXTSCMD.OVF k).raiseOnce (Ev.ETH_TXTS_OVF k)

/-- A frame sent on ETH port `k`, without its FCS (log entry 34). -/
def State.ethSend (s : State) (k : Nat) (b : List Byte) (ts : Option Nat) : State :=
  let s := ((s.bump ETH_TXFRAMES.COUNT k).wrap ETH_TXBYTES.COUNT k (b.length + 4)).emit (.frame (0x20 + k) b)
  match ts with
  | none => s
  | some tag => s.txStamp k tag

/-- ETH port `k` comes up (R256). `sp` is the speed code a mode-4 PHY gave. -/
def State.ethUp (s : State) (k sp : Nat) : State :=
  let m := s.rd ETH_CTRL.MODE k
  if s.on ETH_CTRL.EN k = false ∨ m = 0 ∨ s.on ETH_STATUS.LINK k then s
  else
    let speed := if m = 1 ∨ m = 2 then 5 else if m = 3 then 4 else if m = 4 then sp else 1
    let s := (s.wr ETH_STATUS.LINK 1 k).wr ETH_STATUS.SPEED speed k
    let s := (s.setBit ETH_STATUS.FEC_ON ((m == 1 || m == 2) && s.on ETH_CTRL.FEC_EN k) k).setBit ETH_STATUS.TRAINED (decide (m ≤ 3)) k
    (s.raise (Ev.ETH_LINK_UP k)).tell 3 k

/-- ETH port `k` goes down (R256, R194); at a root whose gateway uses it, the outputs lose their uplink (R249). -/
def State.ethDown (s : State) (k : Nat) : State :=
  if s.on ETH_STATUS.LINK k = false then s
  else
    let s := (s.wr ETH_STATUS.LINK 0 k).wr ETH_STATUS.SPEED 0 k
    let s := (s.wr ETH_STATUS.FEC_ON 0 k).wr ETH_STATUS.TRAINED 0 k
    let s := (s.raise (Ev.ETH_LINK_DOWN k)).portDownDiscard (4 + k)
    (if s.gwRuns ∧ s.rd TUN_GWCTRL.GW_PORT = k ∧ s.on FLD_OCTRL.ULOSS_EN then s.safeLatch FLD_OSTAT.ULOSS else s).tell 3 k

/-- A copy sent by its port (R179, R180, R260). -/
def State.sendCopy (s : State) (p : Nat) (f : SwFrame) (c : Copy) : State :=
  let b := s.sentBytes p f c
  if p < 4 then
    let v := s.copyVc p f c
    let l := flitPayloads (tunHeader f.tid (if f.tid = 1 then 0 else f.ident) b.length f.loss ++ b)
    let items : List OpenItem := l.zipIdx.map (fun e =>
      { vc := v, first := e.2 == 0, last := e.2 + 1 == l.length, payload := e.1 })
    s.modLk p (fun k => { k with openq := k.openq ++ items })
  else if p < 12 then s.ethSend (p - 4) b f.ts
  else if p < 16 then s.emit (.frame (0x28 + (p - 12)) b)
  else if p = 16 then s.toNimbus b
  else s.gwSend 0 (Config.farHub f.tid) f.tid f.ident 0 f.loss b

/-- `EGRESS_READ` (R180, R196): the oldest copy in port `p`'s egress frame buffer has been read; `ce` names the banks in which
words were corrected, `ue` the bank and address of an uncorrectable word. -/
def State.egressRead (s : State) (p : Nat) (ce : List Nat) (ue : Option (Nat × Nat)) : State :=
  match s.egressOf p with
  | [] => s
  | c :: rest =>
    let f := s.frameNo c.frame
    let s := (s.setEgress p rest).bankCes ce
    match ue with
    | some (bank, addr) => ((s.releaseCopy c).swDrop p Drop.ECC).bankUe bank addr
    | none => if s.swPortUp p then (s.sendCopy p f c).releaseCopy c else (s.releaseCopy c).swDrop p Drop.PORTDOWN

/-- `TXTS_POP` (R262): a write to `ETH_TXTSCMD`. -/
def State.txtsPop (s : State) (k data : Nat) : State :=
  let l := NMap.get s.eth.txts [] k
  let pop := ETH_TXTSCMD.POP.of data = 1
  s.writeReg Reg.ETH_TXTSCMD k data [(St.STATE, decide pop && l.isEmpty)] (fun s =>
    if pop then
      match l with
      | [] => s
      | e :: r =>
        let s := { s with eth := { s.eth with txts := NMap.set s.eth.txts [] k r } }
        (((s.wr ETH_TXTSCMD.COUNT r.length k).wr ETH_TXTS_LO.TIME e.2 k).wr ETH_TXTS_HI.TIME (e.2 / 2 ^ 32) k).wr ETH_TXTS_INFO.TAG e.1 k
    else s)

/-- `TIME_STEP` (R268): a write to `TSU_STEPCMD`. -/
def State.timeStep (s : State) (data : Nat) : State :=
  let go := TSU_STEPCMD.GO.of data = 1
  s.writeReg Reg.TSU_STEPCMD 0 data [(St.STATE, !s.isRoot), (St.BUSY, decide go && s.on TSU_STATUS.STEP_PEND)] (fun s =>
    if go then
      (s.wr TSU_STATUS.STEP_PEND 1).modTsu (fun t => { t with step := s.rd TSU_STEP_LO.STEP + 2 ^ 32 * s.rd TSU_STEP_HI.STEP })
    else s)

/-- `TSU_RATE_WRITE` (R268). -/
def State.rateWrite (s : State) (data : Nat) : State :=
  let r := sgn 32 data
  s.writeReg Reg.TSU_RATE 0 data [(St.STATE, !s.isRoot), (St.RANGE, decide (r < -4194304) || decide (4194304 < r))]
    (fun s => s.modTsu (fun t => { t with ratePend := true }))

/-- `TIME_STEP_APPLY` (R268): at slot 0 the pending step is added first, then the new rate applies. -/
def State.stepApply (s : State) : State :=
  let s := if s.on TSU_STATUS.STEP_PEND then
      let t := ((s.treeTime : Int) + sgn 64 s.eth.tsu.step * 2 ^ 32) % (2 ^ 96 : Int)
      ({ s with treeTime := t.toNat }).wr TSU_STATUS.STEP_PEND 0
    else s
  if s.eth.tsu.ratePend then s.modTsu (fun t => { t with rate := s.rd TSU_RATE.RATE, ratePend := false }) else s

/-- The delay of a node's uplink is written by its time service or by management (R264). -/
def State.setDelay (s : State) (v : Nat) : State :=
  ((s.wr TSU_DELAY.LOOP v).modTsu (fun t => { t with delayed := true })).tsuValid

/-- The uplink leaves ACTIVE (R265, R267). -/
def State.tsuHoldover (s : State) : State :=
  let s := ((s.wr TSU_STATUS.HOLDOVER 1).wr TSU_STATUS.VALID 0).raise Ev.TSU_HOLDOVER
  s.modTsu (fun t => { t with lastZero := none, synced := false, delayed := false })

end Sys2Proof.Machine
end

