-- ==== Sys2Proof/Machine/FieldSide.lean ====
section
/-! DEFINITION. Commands of the field side: field segments, admission, direct inputs, points and outputs (spec/08). -/
namespace Sys2Proof.Machine

def State.modFld (s : State) (f : Fld → Fld) : State := { s with fld := f s.fld }

/-- A segment's state bits follow `EN`, `PLCA_EN` and `LINEFAULT` (R231, R234). -/
def State.segRefresh (s : State) (g : Nat) : State :=
  let up := s.on FLD_SCTRL.EN g && !s.on FLD_SSTAT.LINEFAULT g
  let s := if s.on FLD_SSTAT.UP g && !up then (s.wr FLD_SSTAT.UP 0 g).portDownDiscard (12 + g) else s.setBit FLD_SSTAT.UP up g
  s.setBit FLD_SSTAT.PLCA_ON (up && s.on FLD_SCTRL.PLCA_EN g) g

/-- The admission entry of a source address on a segment (R235). -/
def State.admission (s : State) (g mac : Nat) : Option Nat :=
  (List.range 256).find? (fun e => s.on FLD_ADM1.VALID e && s.rd FLD_ADM1.SEG e == g &&
    s.rd FLD_ADM1.MAC_HI e * 2 ^ 32 + s.rd FLD_ADM0.MAC_LO e == mac)

/-- A stranger (R236). -/
def State.stranger (s : State) (g opp : Nat) (b : List Byte) : State :=
  let s := ((s.bump FLD_STRANGER.COUNT g).swDrop (12 + g) Drop.FCS).raiseOnce Ev.FLD_STRANGER_SEEN g (beAt b 6 6)
  if s.on FLD_SCTRL.QUAR g then
    if s.fld.quar.length < 16 then s.modFld (fun f => { f with quar := f.quar ++ [g :: opp :: b.map BitVec.toNat] })
    else (s.bump FLD_QDROP.COUNT g).raiseOnce Ev.FLD_QUAR_FULL
  else s

/-- The values of a cyclic frame from point `n` on, in ascending order (R237). -/
def State.writeCyclic (s : State) (n count : Nat) (y : List Byte) (q : Nat) : State :=
  (List.range (min count ((y.length - 2) / 2))).foldl (fun s i =>
    s.producePoint (n + i) (pointWord (beAt y (2 + 2 * i) 2) q 0)) s

/-- A cyclic frame of admission entry `e` (R237, R238); `y` is its payload. -/
def State.cyclic (s : State) (g e : Nat) (y : List Byte) : State :=
  let count := s.rd FLD_ADM3.COUNT e
  let s := (s.wrap FLD_ADM5.CYCFRAMES e).modFld (fun f => { f with lost := NMap.set f.lost false e false })
  let s := if (y.length - 2) / 2 < count then s.bump FLD_SSHORT.COUNT g else s
  s.writeCyclic (s.rd FLD_ADM3.BASE e) count y (if byteAt y 0 % 16 = 0 then 0 else 1)

/-- `FS_FRAME_RECEIVE` (R235): the frame without FCS, and the transmit opportunity it started in. -/
def State.fsReceive (s : State) (g : Nat) (b : List Byte) (fcs : Bool) (opp : Nat) : State :=
  if s.on FLD_SCTRL.EN g = false then s
  else if fcs = false then s.swDrop (12 + g) Drop.FCS
  else
    match s.admission g (beAt b 6 6) with
    | none => s.stranger g opp b
    | some e =>
      let et := etherAt b 12 4
      if s.on FLD_ADM1.CHK_ID e ∧ s.on FLD_SSTAT.PLCA_ON g ∧ s.rd FLD_ADM1.NODE e ≠ opp then s.stranger g opp b
      else if s.on FLD_ADM2.CYC_ETYPE e ∧ et.2 = s.rd FLD_ADM2.CYC_ETYPE e then s.cyclic g e (b.drop (et.1 + 2))
      else
        (s.wrap FLD_ADM6.ACYCFRAMES e).identFrame (2 ^ 28 + g * 2 ^ 26 + s.rd FLD_ADM1.NODE e * 2 ^ 21 + et.2)
          (frameOf (12 + g) b)

def execFsFrameReceive (g : Fin 4) (frame : List Byte) (fcsOk : Bool) (opp : Fin 32) (s : State) : Res :=
  .next (s.fsReceive g.val frame fcsOk opp.val)

/-- A PLCA collision in the opportunity of a node (R233). -/
def State.plcaCollision (s : State) (g node : Nat) : State :=
  ((s.bump FLD_SPCOLL.COUNT g).wr FLD_SSTAT.LAST_COLL_ID node g).raiseOnce Ev.FLD_PLCA_COLL g (g + 4 * node)

/-- `SEG_NOISE` (R233): what a segment counted in a hyperframe: noise, CSMA/CD collisions and the nodes of PLCA collisions. -/
def State.segNoise (s : State) (g noise coll : Nat) (plca : List Nat) : State :=
  let s := s.bump FLD_SNOISE.COUNT g noise
  let s := if s.on FLD_SCTRL.PLCA_EN g then plca.foldl (fun s n => s.plcaCollision g n) s else s.bump FLD_SCOLL.COUNT g coll
  let last := NMap.get s.fld.noiseAt 0 g
  let again := last = 0 ∨ 1024 ≤ hfnAhead s.hfn (last - 1)
  if s.on FLD_SCTRL.NOISE_LIM g ∧ s.rd FLD_SCTRL.NOISE_LIM g < noise ∧ again then
    (s.modFld (fun f => { f with noiseAt := NMap.set f.noiseAt 0 g (s.hfn + 1) })).raise Ev.FLD_SEG_NOISE g
  else s

def execSegNoise (g : Fin 4) (noise coll : Nat) (plca : List (Fin 32)) (s : State) : Res :=
  .next (s.segNoise g.val noise coll (plca.map Fin.val))

/-- `DROP_TIMEOUT` (R238): no cyclic frame of entry `e` for `CYC_TO` ms. -/
def State.dropTimeout (s : State) (e : Nat) : State :=
  if s.on FLD_ADM1.VALID e ∧ s.on FLD_ADM2.CYC_ETYPE e ∧ s.on FLD_ADM4.CYC_TO e ∧ NMap.get s.fld.lost false e = false then
    ((s.modFld (fun f => { f with lost := NMap.set f.lost false e true })).setQuality (s.rd FLD_ADM3.BASE e)
      (s.rd FLD_ADM3.COUNT e) 0xE).raise Ev.FLD_DROP_LOST e
  else s

def execDropTimeout (e : Fin 256) (s : State) : Res := .next (s.dropTimeout e.val)

/-- `LINE_FAULT` (R234): the segment goes down. -/
def State.lineFault (s : State) (g : Nat) : State :=
  if s.on FLD_SCTRL.EN g ∧ s.on FLD_SSTAT.LINEFAULT g = false then
    (((s.wr FLD_SSTAT.LINEFAULT 1 g).modFld (fun f => { f with probes := NMap.set f.probes 0 g 0 })).raise Ev.FLD_SEG_FAULT g).segRefresh g
  else s

def execLineFault (g : Fin 4) (s : State) : Res := .next (s.lineFault g.val)

/-- `LINE_PROBE` (R234): a probe, clean or not; the eighth clean one in a row ends the fault. -/
def State.lineProbe (s : State) (g : Nat) (clean : Bool) : State :=
  if s.on FLD_SSTAT.LINEFAULT g = false then s
  else
    let s := s.emit (.act (if s.on FLD_SCTRL.PLCA_EN g then "beacon" else "idle probe") [g])
    let n := if clean then NMap.get s.fld.probes 0 g + 1 else 0
    if 8 ≤ n then
      ((s.wr FLD_SSTAT.LINEFAULT 0 g).modFld (fun f => { f with probes := NMap.set f.probes 0 g 0 })).segRefresh g
    else s.modFld (fun f => { f with probes := NMap.set f.probes 0 g n })

def execLineProbe (g : Fin 4) (clean : Bool) (s : State) : Res := .next (s.lineProbe g.val clean)

/-- Direct input `i`. -/
def State.di (s : State) (i : Nat) : DiRun := NMap.get s.fld.di DiRun.init i
def State.setDi (s : State) (i : Nat) (d : DiRun) : State :=
  s.modFld (fun f => { f with di := NMap.set f.di DiRun.init i d })

/-- The quality of input `i`'s point (R245). -/
def State.diQuality (s : State) (i : Nat) : Nat :=
  if s.on FLD_STATUS.D2D_UP = false then 0xE
  else if s.on FLD_STATUS.FIELD_OK = false then 4
  else if s.on FLD_DISTAT.CHATTER i then 2
  else if s.on FLD_DISTAT.STUCK i then 3
  else 0

/-- The point of an enabled input written with its value and quality (R239). -/
def State.diWrite (s : State) (i : Nat) : State :=
  if s.on FLD_DIBASE.DIEN ∧ s.on FLD_DICFG.EN i then
    s.producePoint (s.rd FLD_DIBASE.DIBASE + i) (pointWord (s.di i).value (s.diQuality i) 0)
  else s

/-- Every enabled input's point gets the quality that now applies (R244, R245). -/
def State.requalifyInputs (s : State) : State := (List.range 16).foldl (fun s i => s.diWrite i) s

/-- An entry of the timestamp FIFO (R241). -/
def State.tsPush (s : State) (e : TsEnt) : State :=
  if s.fld.tsFifo.length < 64 then
    (s.modFld (fun f => { f with tsFifo := f.tsFifo ++ [e] })).wr FLD_TSSTAT.COUNT (s.fld.tsFifo.length + 1)
  else (s.bump FLD_TSSTAT.OVF).raiseOnce Ev.FLD_DI_FIFO_OVF

/-- `DI_EDGE` (R240): the raw level of an input changes at tree time `t`. -/
def State.diEdge (s : State) (i : Nat) (level : Bool) (t : Nat) : State :=
  let raw := level != s.on FLD_DICFG.POL i
  let s := s.setBit FLD_DISTAT.RAW raw i
  let starts := s.on FLD_STATUS.FIELD_OK && raw != s.on FLD_DISTAT.LEVEL i
  s.setDi i { s.di i with edge := if starts then some t else none }

def execDiEdge (i : Fin 16) (level : Bool) (time : Nat) (s : State) : Res := .next (s.diEdge i.val level time)

/-- A point value: level in bit 0, counted transitions modulo 32,768 above it (R240). -/
def diValue (level : Bool) (count : Nat) : Nat := (if level then 1 else 0) + 2 * (count % 32768)

/-- One counted transition to a level with the timestamp of its raw edge (R240, R241, R243). -/
def State.diCount (s : State) (i : Nat) (level clear : Bool) (edge : Nat) : State :=
  let d := s.di i
  ((s.setDi i { d with value := diValue level (d.value / 2 + 1) }).diWrite i).tsPush
    { input := i, level := level, clear := clear, time := edge }

/-- The input enters chatter (R243): the point shows S and freezes. -/
def State.chatterEnter (s : State) (i : Nat) : State :=
  let d := s.di i
  let s := s.setDi i { d with value := diValue (s.on FLD_DISTAT.STABLE i) (d.value / 2), times := [] }
  ((s.wr FLD_DISTAT.CHATTER 1 i).diWrite i).raise Ev.FLD_DI_CHATTER i

/-- `DI_ACCEPT` (R240, R242, R243): the new level has held for `DEB`, at tree time `now`. -/
def State.diAccept (s : State) (i now : Nat) : State :=
  match (s.di i).edge with
  | none => s
  | some t =>
    if s.on FLD_DICFG.EN i = false ∨ s.on FLD_STATUS.FIELD_OK = false then s
    else
      let old := s.on FLD_DISTAT.LEVEL i
      let level := s.on FLD_DISTAT.RAW i
      let d := s.di i
      let win := s.rd FLD_DICHAT.CHAT_WIN i * 1000000
      let held := match d.lastAt with
        | none => true
        | some a => decide (a + win ≤ now)
      let s := if held then s.setBit FLD_DISTAT.STABLE old i else s
      let s := s.setBit FLD_DISTAT.LEVEL level i
      let s := if level then s else s.wr FLD_DISTAT.STUCK 0 i
      let times := now :: d.times
      let s := s.setDi i { d with edge := none, times := times.take 255, lastAt := some now, lastEdge := t }
      let n := s.rd FLD_DICHAT.CHAT_N i
      if s.on FLD_DISTAT.CHATTER i then s
      else if n ≠ 0 ∧ n ≤ times.length ∧ now - times.getD (n - 1) 0 ≤ win then s.chatterEnter i
      else s.diCount i level false t

def execDiAccept (i : Fin 16) (now : Nat) (s : State) : Res := .next (s.diAccept i.val now)

/-- `CHATTER_END` (R243): the accepted level has held for `CHAT_WIN`. -/
def State.chatterEnd (s : State) (i : Nat) : State :=
  if s.on FLD_DISTAT.CHATTER i ∧ s.on FLD_DICFG.EN i ∧ s.on FLD_STATUS.FIELD_OK then
    let level := s.on FLD_DISTAT.LEVEL i
    let s := (s.setBit FLD_DISTAT.STABLE level i).wr FLD_DISTAT.CHATTER 0 i
    let d := s.di i
    let s := s.setDi i { d with times := [] }
    if level != (d.value % 2 == 1) then s.diCount i level true d.lastEdge else s.diWrite i
  else s

def execChatterEnd (i : Fin 16) (s : State) : Res := .next (s.chatterEnd i.val)

/-- `DI_STUCK` (R242). -/
def State.diStuck (s : State) (i : Nat) : State :=
  if s.on FLD_DICFG.EN i ∧ s.on FLD_STATUS.FIELD_OK ∧ s.on FLD_DISTUCK.STUCK_MS i ∧ s.on FLD_DISTAT.LEVEL i ∧
      s.on FLD_DISTAT.STUCK i = false then
    ((s.wr FLD_DISTAT.STUCK 1 i).diWrite i).raise Ev.FLD_DI_STUCK i
  else s

def execDiStuck (i : Fin 16) (s : State) : Res := .next (s.diStuck i.val)

/-- `FIELD_LOW` (R244). -/
def State.fieldLow (s : State) : State :=
  if s.on FLD_STATUS.FIELD_OK then ((s.wr FLD_STATUS.FIELD_OK 0).requalifyInputs).raise Ev.FLD_FIELD_LOW else s

def execFieldLow (s : State) : Res := .next s.fieldLow

/-- `FIELD_OK_RETURN` (R244): debounce restarts from the present raw levels, at tree time `t`. -/
def State.fieldReturn (s : State) (t : Nat) : State :=
  if s.on FLD_STATUS.FIELD_OK then s
  else
    let s := (s.wr FLD_STATUS.FIELD_OK 1).requalifyInputs
    (List.range 16).foldl (fun s i =>
      s.setDi i { s.di i with edge := if s.on FLD_DISTAT.RAW i != s.on FLD_DISTAT.LEVEL i then some t else none }) s

def execFieldOkReturn (time : Nat) (s : State) : Res := .next (s.fieldReturn time)

/-- `TS_POP` (R241): a write to `FLD_TSCMD`. -/
def State.tsPop (s : State) (data : Nat) : State :=
  let pop := FLD_TSCMD.POP.of data = 1
  s.writeReg Reg.FLD_TSCMD 0 data [(St.STATE, decide pop && s.fld.tsFifo.isEmpty)] (fun s =>
    if pop then
      match s.fld.tsFifo with
      | [] => s
      | e :: r =>
        let s := (s.modFld (fun f => { f with tsFifo := r })).wr FLD_TSSTAT.COUNT r.length
        let s := (s.wr FLD_TSLO.TIME e.time).wr FLD_TSHI.TIME (e.time / 2 ^ 32)
        ((s.wr FLD_TSINFO.INPUT e.input).setBit FLD_TSINFO.LEVEL e.level).setBit FLD_TSINFO.CLEAR e.clear
    else s)

def execTsPop (data : Word) (s : State) : Res := .next (s.access Reg.FLD_TSCMD.base true (fun s => s.tsPop data.toNat))

/-- Point `n` lies in a range of `count` points from `base`. -/
def inRange (n base count : Nat) : Bool := decide (base ≤ n) && decide (n < base + count)

/-- The producers of a point (R229), by kind and index: 0 the direct inputs, 1 an admission entry, 2 a receive range. -/
def State.producers (s : State) (n : Nat) : List (Nat × Nat) :=
  (if s.on FLD_DIBASE.DIEN && inRange n (s.rd FLD_DIBASE.DIBASE) 16 then [(0, 0)] else []) ++
  ((List.range 256).filter (fun e => s.on FLD_ADM1.VALID e && s.on FLD_ADM2.CYC_ETYPE e &&
    inRange n (s.rd FLD_ADM3.BASE e) (s.rd FLD_ADM3.COUNT e))).map (fun e => (1, e)) ++
  ((List.range 64).filter (fun i => s.on TUN_PMAP0.VALID i && s.on TUN_PMAP0.DIR i &&
    inRange n (s.rd TUN_PMAP1.BASE i) (s.rd TUN_PMAP1.COUNT i))).map (fun i => (2, i))

/-- `POINT_WRITE` (R230). -/
def State.pointWrite (s : State) (n data : Nat) : State :=
  s.checked [(St.CONFLICT, !(s.producers n).isEmpty)] (fun s => (s.setPoint n data).answer St.OK)

def execPointWrite (n : Fin 4096) (data : Word) (s : State) : Res := .next (s.access (0x510000 + 4 * n.val) true (fun s => s.pointWrite n.val data.toNat))

/-- The output watchdog is refreshed (R248). -/
def State.kick (s : State) : State := s.modFld (fun f => { f with wdFresh := true })

/-- `OUTPUT_WD_KICK` (R248): a write to `FLD_OKICK`. -/
def State.outputKick (s : State) (data : Nat) : State :=
  s.checked [(St.STATE, s.on FLD_OWD.KSRC), (St.VALUE, data != 0x5A5A)] (fun s => s.kick.answer St.OK)

def execOutputWdKick (data : Word) (s : State) : Res := .next (s.access Reg.FLD_OKICK.base true (fun s => s.outputKick data.toNat))

/-- `OUTPUT_WD_LAPSE` (R248, R249). -/
def execOutputWdLapse (s : State) : Res :=
  .next ((s.modFld (fun f => { f with wdFresh := false })).safeLatch FLD_OSTAT.WDLAPSE)

/-- `D2D_FRAME_TIMEOUT` (R249). -/
def execD2dFrameTimeout (s : State) : Res := .next (s.safeLatch FLD_OSTAT.D2DLOSS)

/-- The uplink that R250 asks for: a node's upstream link, or the gateway port of a root that runs a gateway. -/
def State.armUplink (s : State) : Bool :=
  if s.isRoot then !s.on TUN_CTRL.GW_EN || s.on ETH_STATUS.LINK (s.rd TUN_GWCTRL.GW_PORT) else s.uplinkUp

/-- The conditions of R250. -/
def State.mayArm (s : State) : Bool :=
  s.fld.wdFresh && s.on FLD_STATUS.D2D_UP && (s.armUplink || !s.on FLD_OCTRL.ULOSS_EN)

/-- The outputs return to R246. -/
def State.armOutputs (s : State) : State := (s.wr FLD_OCTRL.SAFE 0).refreshOutputs

/-- `ARM` (R250): a write to `FLD_OCTRL`. -/
def State.octrlWrite (s : State) (data : Nat) : State :=
  let arm := FLD_OCTRL.ARM.of data = 1
  s.writeReg Reg.FLD_OCTRL 0 data
    [(St.STATE, decide arm && !(s.writeFields Reg.FLD_OCTRL 0 data).mayArm)]
    (fun s => if arm then s.armOutputs else s)

def execArm (data : Word) (s : State) : Res := .next (s.access Reg.FLD_OCTRL.base true (fun s => s.octrlWrite data.toNat))

/-- `AUTOARM` (R250): the conditions have held for `WD_MS`. -/
def execAutoarm (s : State) : Res :=
  .next (if s.on FLD_OCTRL.AUTOARM ∧ s.on FLD_OCTRL.SAFE ∧ s.mayArm then s.armOutputs else s)

end Sys2Proof.Machine
end

