-- ==== Sys2Proof/Machine/PowerOps.lean ====
section
/-! DEFINITION. The 48 V power path: the input stage (R355 to R357), when a channel is on (R359), trips and latches (R360 to R363),
power-good (R365, R366) and the checks of its registers (R358, R371, R372). -/
namespace Sys2Proof.Machine

def State.setPw (s : State) (p : Pw) : State := { s with pw := p }
def State.modPw (s : State) (f : Pw → Pw) : State := s.setPw (f s.pw)
def State.efs (s : State) (c : Nat) : Ef := NMap.get s.pw.ef Ef.init c
def State.modEf (s : State) (c : Nat) (f : Ef → Ef) : State :=
  s.modPw (fun p => { p with ef := NMap.set p.ef Ef.init c (f (s.efs c)) })

/-- Event `l` of channel EF`c + 1` (R376). -/
def efEvent (c l : Nat) : Nat := 0x3C8 + 8 * c + l

/-- Power-good changes, with its event (R366). -/
def State.setPg (s : State) (c : Nat) (on : Bool) : State :=
  if s.on PWP_EFSTAT.PG c = on then s
  else (s.setBit PWP_EFSTAT.PG on c).raise (efEvent c (if on then 0 else 1))

/-- The conditions of R359 other than the latch. -/
def State.efWant (s : State) (c : Nat) : Bool :=
  s.on PWP_EFCTL.EN c && s.on PWP_STATUS.IN_GOOD &&
  (!s.on PWP_EFCTL.PRES_EN c || (s.on PWP_EFSTAT.PRES c && !(s.efs c).cool))

/-- The state of a channel that is off and not latched (log entry 85). -/
def State.efIdle (s : State) (c : Nat) : Nat :=
  if s.on PWP_EFCTL.EN c = false then 0
  else if s.on PWP_EFCTL.PRES_EN c ∧ (s.efs c).cool then 1
  else if s.on PWP_EFCTL.PRES_EN c ∧ s.on PWP_EFSTAT.PRES c = false then 0
  else 2

/-- The channel's gate is on: RAMP, QUAL and ON. -/
def State.efRuns (s : State) (c : Nat) : Bool := [3, 4, 5].contains (s.rd PWP_EFSTAT.STATE c)

/-- The gate is turned off at once, into a state; PG drops with it (R359, R366). -/
def State.efOff (s : State) (c st : Nat) : State :=
  let was := s.efRuns c
  let s := ((s.wr PWP_EFSTAT.STATE st c).wr PWP_EFSTAT.LIMIT 0 c).setPg c false
  if was then s.emit (.act "ef gate" [c + 1, 0]) else s

/-- A channel follows its conditions (R357, R359, R368). -/
def State.efRefresh (s : State) (c : Nat) : State :=
  if s.rd PWP_EFSTAT.STATE c = 6 then s
  else if s.efWant c then
    if s.efRuns c then s
    else
      (((s.modEf c (fun e => { e with quiet := 0, good := 0, low := 0 })).wr PWP_EFSTAT.FTIMER 0 c).wr PWP_EFSTAT.STATE 3 c).emit
        (.act "ef gate" [c + 1, 1, s.rd PWP_EFCFG.SS c])
  else s.efOff c (s.efIdle c)

def State.efRefreshAll (s : State) : State := [0, 1, 2].foldl (fun s c => s.efRefresh c) s

/-- A trip latches the channel off with its cause (R362, R363; log entry 86). -/
def State.efTrip (s : State) (c cause : Nat) : State :=
  let s := ((s.efOff c 6).wr PWP_EFSTAT.CAUSE cause c).bump PWP_EFCNT.TRIPS c
  if cause = 3 then s.raise (efEvent c 3)
  else s.raise (efEvent c 2) (cause + 8 * ((s.efs c).last % 65536).toNat + 2 ^ 19 * s.rd PWP_EFCTL.PORT c)

/-- A feed is valid. -/
def State.feedOk (s : State) : Bool := s.on PWP_STATUS.A_VALID || s.on PWP_STATUS.B_VALID

/-- The input stage starts its ramp where nothing holds it (R355, R356). -/
def State.inputStart (s : State) : State :=
  if s.pw.powered ∧ s.feedOk ∧ s.pw.ramping = false ∧ s.pw.waiting = false ∧ s.on PWP_STATUS.IN_GOOD = false ∧
      s.on PWP_STATUS.IN_LATCH = false then
    (s.modPw (fun p => { p with ramping := true, inTimer := 0, inQuiet := 0 })).emit (.act "hs gate" [1, s.rd PWP_INCFG.DVDT])
  else s

/-- The input stage turns off; with `IN_GOOD` go the channels (R357). -/
def State.inputOff (s : State) : State :=
  let was := s.pw.ramping || s.on PWP_STATUS.IN_GOOD
  let s := ((s.modPw (fun p => { p with ramping := false })).wr PWP_STATUS.IN_GOOD 0).efRefreshAll
  if was then s.emit (.act "hs gate" [0]) else s

/-- A failed attempt (R356): 0 ramp timeout, 1 TIMER, 2 FAST, 3 FET_FAIL. -/
def State.inputFail (s : State) (cause : Nat) : State :=
  let s := s.inputOff
  let n := s.rd PWP_STATUS.IN_TRIES + 1
  let s := (s.wr PWP_STATUS.IN_TRIES n).raise 0x3C4 (cause + 8 * n)
  if 3 ≤ n then s.wr PWP_STATUS.IN_LATCH 1 else s.modPw (fun p => { p with waiting := true })

/-- A feed's FET and its validity (R353). -/
def feedField (f : Nat) (a b : Field) : Field := if f = 0 then a else b
def State.setFet (s : State) (f : Nat) (on : Bool) : State :=
  let x := feedField f PWP_STATUS.A_ON PWP_STATUS.B_ON
  if s.on x = on then s else (s.setBit x on).emit (.act "or gate" [f, if on then 1 else 0])

/-- A feed leaves valid; without a valid feed the input stage turns off (R353, R357). -/
def State.feedDrop (s : State) (f : Nat) : State :=
  let x := feedField f PWP_STATUS.A_VALID PWP_STATUS.B_VALID
  if s.on x = false then s.setFet f false
  else
    let s := ((s.wr x 0).setFet f false).raise 0x3C1 f
    if s.feedOk then s else s.inputOff

/-- Every PWP register at its reset value (R377). -/
def State.pwpReset (s : State) : State :=
  let one := [Reg.PWP_STATUS, Reg.PWP_INCFG, Reg.PWP_INSNS, Reg.PWP_WAKE, Reg.PWP_FEEDV, Reg.PWP_TELCMD, Reg.PWP_REVCNT]
  let tel := [Reg.PWP_TV, Reg.PWP_TI, Reg.PWP_TP, Reg.PWP_TE_LO, Reg.PWP_TE_HI, Reg.PWP_TIPK]
  let ch := [Reg.PWP_EFCTL, Reg.PWP_EFCFG, Reg.PWP_EFSNS, Reg.PWP_EFSTAT, Reg.PWP_EFCNT]
  let s := one.foldl (fun s d => d.fields.foldl (fun s f => s.toReset f) s) s
  let s := [0, 1, 2, 3].foldl (fun s i => tel.foldl (fun s d => d.fields.foldl (fun s f => s.toReset f i) s) s) s
  [0, 1, 2].foldl (fun s i => ch.foldl (fun s d => d.fields.foldl (fun s f => s.toReset f i) s) s) s

/-- The power path at power-path power-up, or without supply (R351). -/
def State.pwpPower (s : State) (on : Bool) : State := s.pwpReset.setPw { Pw.init with powered := on }

/-- An access to a PWP register (R352). -/
def State.pwpAccess (s : State) (f : State → State) : State := if s.on FLD_STATUS.D2D_UP then f s else s.answer St.TIMEOUT

/-- The sense voltage of a limit in mA and a resistance in µΩ lies from 2.5 to 60 mV (R358). -/
def senseOk (ma uohm : Nat) : Bool := decide (2500000 ≤ ma * uohm) && decide (ma * uohm ≤ 60000000)

/-- Another channel has the port, or it is the upstream port (R372). -/
def State.efPortBad (s : State) (c port : Nat) : Bool :=
  decide (port < 4) && (s.isUpPort port || [0, 1, 2].any (fun k => k != c && s.rd PWP_EFCTL.PORT k == port))

/-- Checks of a write of `PWP_EFCTL` (R362, R371, R372). -/
def State.efctlChecks (s : State) (c data : Nat) : List (Nat × Bool) :=
  let st := s.rd PWP_EFSTAT.STATE c
  let held := st != 0 && st != 6 &&
    [PWP_EFCTL.PRES_EN, PWP_EFCTL.PG_HOLD, PWP_EFCTL.PORT, PWP_EFCTL.COOL].any (fun f => f.of data != s.rd f c)
  [(St.STATE, held || (st == 6 && bitAt data 0)),
   (St.VALUE, decide (3 < PWP_EFCTL.PORT.of data) && decide (PWP_EFCTL.PORT.of data < 7)),
   (St.CONFLICT, s.efPortBad c (PWP_EFCTL.PORT.of data))]

/-- What follows a write of `PWP_EFCTL`: `EN` = 0 clears a latch and its cause (R362, R371). -/
def State.efctlAfter (s : State) (c : Nat) : State :=
  let s := if s.on PWP_EFCTL.EN c = false ∧ s.rd PWP_EFSTAT.STATE c = 6 then (s.wr PWP_EFSTAT.STATE 0 c).wr PWP_EFSTAT.CAUSE 0 c else s
  s.efRefresh c

/-- Checks of a write of `PWP_EFCFG` or `PWP_EFSNS`, of `PWP_INCFG` or `PWP_INSNS` (R358, R371). -/
def State.efSenseChecks (s : State) (c ilim rsns : Nat) : List (Nat × Bool) :=
  [(St.STATE, s.rd PWP_EFSTAT.STATE c != 0 && s.rd PWP_EFSTAT.STATE c != 6), (St.CONFLICT, !senseOk (ilim * 50) rsns)]

def State.inSenseChecks (s : State) (ilim rsns : Nat) : List (Nat × Bool) :=
  [(St.STATE, s.pw.ramping || s.on PWP_STATUS.IN_GOOD), (St.CONFLICT, !senseOk (ilim * 100) rsns)]

/-- One step of a fault timer (R360): the timer and the non-limiting samples toward its decay; it waits at its end. -/
def faultStep (lim : Bool) (t quiet top : Nat) : Nat × Nat :=
  if lim then (if t < top then t + 1 else t, 0)
  else if quiet + 1 < 16 then (t, quiet + 1)
  else (if t < top then t - 1 else t, 0)

/-- A sample of channel `c` (R360, R364 to R366). -/
def State.efSample (s : State) (c volt : Nat) (cur : Int) (lim : Bool) : State :=
  let lim := lim && s.efRuns c
  let e := s.efs c
  let st := s.rd PWP_EFSTAT.STATE c
  let r := faultStep lim (s.rd PWP_EFSTAT.FTIMER c) e.quiet (s.rd PWP_EFCFG.FT c * 10)
  let good := if st = 4 then (if lim then 0 else e.good + 1) else 0
  let low := if volt < 2000 then e.low + 1 else 0
  let s := s.modEf c (fun e => { e with quiet := r.2, good := good, last := cur, low := low })
  let s := (s.wr PWP_EFSTAT.FTIMER r.1 c).setBit PWP_EFSTAT.LIMIT lim c
  let s := if 1000 ≤ low then s.wr PWP_EFSTAT.SHORT 0 c else s
  if st = 5 ∧ lim ∧ s.on PWP_EFCTL.PG_HOLD c = false then (s.wr PWP_EFSTAT.STATE 4 c).setPg c false else s

/-- A sample of the input stage's fault timer: it is a breaker once its ramp is complete (R356). -/
def State.inSample (s : State) (lim : Bool) : State :=
  let r := faultStep (lim && s.on PWP_STATUS.IN_GOOD) s.pw.inTimer s.pw.inQuiet (s.rd PWP_INCFG.FT_IN * 10)
  s.modPw (fun p => { p with inTimer := r.1, inQuiet := r.2 })

/-- Telemetry `t` takes a sample (R369); an accumulator to clear starts with it (R370). -/
def State.telSample (s : State) (t volt : Nat) (cur : Int) : State :=
  let a := NMap.get s.pw.sum PwSum.init t
  let p : Int := volt * cur
  let e := if bitAt s.pw.clear t then p else a.energy + p
  let peak := if s.pw.count = 0 ∨ a.peak < cur then cur else a.peak
  s.modPw (fun w => { w with sum := NMap.set w.sum PwSum.init t { v := a.v + volt, i := a.i + cur, p := a.p + p, peak := peak, energy := e } })

/-- The mean of a sum over `n` samples, in whole units; which neighbour an inexact mean takes is free. -/
def State.mean (s : State) (sum : Int) (n : Nat) : Int :=
  sum / n + (if sum % n = 0 then 0 else (s.freeVal % 2 : Nat))

/-- Telemetry `t` shows its means and its peak, and starts again (R369). -/
def State.telShow (s : State) (t n : Nat) : State :=
  let a := NMap.get s.pw.sum PwSum.init t
  let s := (s.wr PWP_TV.V (unsgn 16 (s.mean a.v n)) t).drew
  let s := (s.wr PWP_TI.I (unsgn 32 (s.mean a.i n)) t).drew
  let s := (s.wr PWP_TP.P (unsgn 32 (s.mean a.p (1000 * n))) t).drew
  let s := s.wr PWP_TIPK.IPK (unsgn 16 a.peak) t
  s.modPw (fun w => { w with sum := NMap.set w.sum PwSum.init t { PwSum.init with energy := a.energy } })

/-- The accumulator of telemetry `t` in µJ, 64 bits (R369, R370). -/
def State.energyOf (s : State) (t : Nat) : Nat := unsgn 64 ((NMap.get s.pw.sum PwSum.init t).energy / 100000)

/-- A read of `PWP_TE_LO`(t) latches the accumulator for `PWP_TE_HI`(t) (R370). -/
def State.energyLatch (s : State) (t : Nat) : State :=
  let e := s.energyOf t
  ((s.wr PWP_TE_LO.E (e % 2 ^ 32) t).wr PWP_TE_HI.E (e / 2 ^ 32) t).answerData [e % 2 ^ 32]

/-- A write of `PWP_TELCMD` (R370). -/
def State.telcmdWrite (s : State) (data : Nat) : State :=
  s.writeReg Reg.PWP_TELCMD 0 data [] (fun s => s.modPw (fun p => { p with clear := p.clear ||| PWP_TELCMD.ECLR.of data }))

/-- A write of `PWP_EFCTL`(c) (R371). -/
def State.efctlWrite (s : State) (c data : Nat) : State :=
  s.writeReg Reg.PWP_EFCTL c data (s.efctlChecks c data) (fun s => s.efctlAfter c)

end Sys2Proof.Machine
end

