-- ==== Sys2Proof/Machine/UsbOps.lean ====
section
/-! DEFINITION. The USB hub core and the RTE: messages (R316 to R318), ports (R314, R315, R322), periodic entries and their budgets
(R326 to R330), suspend and orphaning (R323, R325). -/
namespace Sys2Proof.Machine

def State.modUsb (s : State) (f : Usb → Usb) : State := { s with usb := f s.usb }

/-- The hub core and the RTE run: a node with `EN` = 1 (R311). -/
def State.usbOn (s : State) : Bool := !s.isRoot && s.on USB_CTRL.EN

/-- An RTE message of the node (R316). -/
def rteMessage (rtype mseq ntx : Nat) (body : List Byte) : List Byte :=
  le 1 rtype ++ le 1 mseq ++ le 1 ntx ++ le 1 0 ++ le 2 body.length ++ le 2 0 ++ body

/-- A message on the GUAR tunnel at endpoint 0x36. -/
def State.rteSend (s : State) (b : List Byte) : State :=
  match s.tixAt 0x36 with
  | none => s
  | some x => s.endpointSend x 0 b

/-- A message whose type is the one its row names and whose BLEN agrees with the frame. -/
def rteFits (b : List Byte) (rtype : Nat) : Bool := byteAt b 0 == rtype && b.length == 8 + leAt b 4 2

def State.rteBad (s : State) : State := s.bump RTE_BADMSG.COUNT

/-- HUBRSP: ACK with data, and STALL. -/
def State.hubAck (s : State) (mseq : Nat) (data : List Byte) : State := s.rteSend (rteMessage 4 mseq 0 (le 4 0 ++ data))
def State.hubStall (s : State) (mseq : Nat) : State := s.rteSend (rteMessage 4 mseq 0 (le 4 1))

/-- wPortStatus and wPortChange of port `k` (R316). -/
def State.portStatus (s : State) (k : Nat) : Nat :=
  s.rd USB_PORT.CONNECT k + 2 * s.rd USB_PORT.ENABLE k + 4 * s.rd USB_PORT.SUSPEND k + 8 * s.rd USB_PORT.OVERCURRENT k
    + 16 * s.rd USB_PORT.RESET k + 256 * s.rd USB_PORT.POWER k + (if s.rd USB_PORT.SPEED k = 2 then 512 else 0)
    + (if s.rd USB_PORT.SPEED k = 0 then 1024 else 0) + (if NMap.get s.usb.test 0 k = 0 then 0 else 2048)

/-- PORTCHG of port `k` with its flags; it reports the periodic entries unloaded since the one before (R316, R322). -/
def State.portChg (s : State) (k : Nat) (wake collided : Bool) : State :=
  let mask := NMap.get s.usb.unloaded 0 k
  let b := le 1 k ++ le 1 ((if wake then 1 else 0) + (if collided then 2 else 0)) ++ le 2 (s.portStatus k)
    ++ le 2 (s.rd USB_PORT.CHANGE k) ++ le 2 0 ++ le 8 mask
  (s.modUsb (fun u => { u with unloaded := NMap.set u.unloaded 0 k 0 })).rteSend (rteMessage 5 0 0 b)

/-- Change bit `c` of port `k` becomes 1, and a PORTCHG goes out (R321). -/
def State.changeBit (s : State) (k c : Nat) (wake : Bool := false) : State :=
  if bitAt (s.rd USB_PORT.CHANGE k) c then s
  else (s.wr USB_PORT.CHANGE (s.rd USB_PORT.CHANGE k + 2 ^ c) k).portChg k wake false

/-- VALID entries, and those with MULT above 1 (`USB_STATUS`). -/
def State.entries (s : State) : List Nat := (List.range 64).filter (fun i => s.on USB_PENT0.VALID i)
def State.noteEntries (s : State) : State :=
  (s.wr USB_STATUS.ENTRIES s.entries.length).wr USB_STATUS.HBCOUNT (s.entries.filter (fun i => s.on USB_PENT0.MULT_M1 i)).length

/-- Entry `i` unloaded; its OUT records go with it. -/
def State.unload (s : State) (i : Nat) : State :=
  let s := s.modUsb (fun u => { u with recs := u.recs.filter (fun r => r.entry != i), started := NMap.set u.started false i false })
  ([USB_PENT0.DEV, USB_PENT0.EPN, USB_PENT0.DIR, USB_PENT0.TYPE, USB_PENT0.SPEED, USB_PENT0.PORT, USB_PENT0.MULT_M1, USB_PENT0.INTERVAL,
    USB_PENT0.TOG, USB_PENT0.VALID, USB_PENT1.MPS, USB_PENT1.PHASE, USB_PENT2.START, USB_PENT2.DEPTH, USB_PENT3.MISS].foldl
    (fun s f => s.wr f 0 i) s).noteEntries

/-- Every entry of port `k` unloaded and noted for its next PORTCHG (R322). -/
def State.unloadPort (s : State) (k : Nat) : State :=
  (s.entries.filter (fun i => s.rd USB_PENT0.PORT i == k)).foldl (fun s i =>
    (s.unload i).modUsb (fun u => { u with unloaded := NMap.set u.unloaded 0 k (NMap.get u.unloaded 0 k ||| 2 ^ i) })) s

/-- Transactions of port `k` accepted so far end with a status when their turn comes (R322). -/
def State.killPort (s : State) (k status : Nat) : State :=
  s.modUsb (fun u => { u with bursts := u.bursts.map (fun b =>
    { b with txs := b.txs.map (fun t => if t.port = k ∧ t.kill = 0 then { t with kill := status } else t) }) })

/-- What a reset, a disconnect, an over-current and a disable do to the port's work (R322). -/
def State.portCut (s : State) (k status : Nat) : State :=
  ((s.killPort k status).unloadPort k).emit (.act "tt clear" [k])

/-- Port `k` loses its device: not connected, not enabled, no speed. -/
def State.portGone (s : State) (k : Nat) : State :=
  let s := [USB_PORT.CONNECT, USB_PORT.ENABLE, USB_PORT.SUSPEND, USB_PORT.RESET].foldl (fun s f => s.wr f 0 k) s
  (s.wr USB_PORT.SPEED 3 k).modUsb (fun u => { u with portResume := NMap.set u.portResume 0 k 0, line := NMap.set u.line 0 k 0 })

/-- The device of port `k` is gone (R315, R322): its work ends NOTCONN, the event is raised and presence is reported. -/
def State.portLost (s : State) (k : Nat) : State :=
  if s.on USB_PORT.CONNECT k then (((s.portGone k).portCut k 9).raise Ev.USB_PORT_DISCONNECT k).reportPresence else s

/-- `USB_VBUSEN` of an unrouted port follows PORT_POWER (R314). -/
def State.portPower (s : State) (k : Nat) (on : Bool) : State :=
  let s := s.setBit USB_PORT.POWER on k
  if s.on USB_PORT.TCPORT k then s else s.emit (.act "USB_VBUSEN" [k, if on then 1 else 0])

/-- A routed port follows its Type-C port: powered only while that port sources VBUS as DFP (R314). -/
def State.usbRouted (s : State) (k : Nat) (on : Bool) : State :=
  if s.usbOn = false ∨ s.on USB_PORT.TCPORT k = false then s
  else if on then s.wr USB_PORT.POWER 1 k
  else
    let s := s.wr USB_PORT.POWER 0 k
    if s.on USB_PORT.CONNECT k then (s.portLost k).changeBit k 0 else s

/-- The results of a burst: `o` are the outcomes the bus gave, in order, as status, and data for IN (R317 to R319, R322). -/
def State.runTxs (s : State) (l : List UsbTx) (o : List (Nat × List Byte)) (stopped : Bool) : List UsbEnd :=
  match l with
  | [] => []
  | t :: r =>
    if stopped then { xstat := 6, tog := t.tog, len := 0, data := [] } :: s.runTxs r o true
    else if t.bad then { xstat := 3, tog := t.tog, len := 0, data := [] } :: s.runTxs r o true
    else if t.kill ≠ 0 then { xstat := t.kill, tog := t.tog, len := 0, data := [] } :: s.runTxs r o true
    else if s.on USB_PORT.ENABLE t.port = false ∨ s.on USB_PORT.SUSPEND t.port then
      { xstat := 9, tog := t.tog, len := 0, data := [] } :: s.runTxs r o true
    else
      match o with
      | [] => []
      | e :: o' =>
        let d := if t.pid = 2 then e.2.take t.len else []
        let x := if e.1 = 0 ∧ t.pid = 2 ∧ e.2.length < t.len then 1 else if e.1 = 0 ∧ t.pid = 2 ∧ t.len < e.2.length then 4 else e.1
        let next := if x = 0 ∨ x = 1 then (if t.pid = 0 then 1 else 1 - t.tog) else t.tog
        let moved := x == 0 || x == 1
        { xstat := x, tog := next, len := if moved then (if t.pid = 2 then d.length else t.len) else 0,
          data := if moved then d else [] } :: s.runTxs r o' (x != 0)

/-- The outcomes given end every transaction of the oldest burst. -/
def State.burstOver (s : State) (o : List (Nat × List Byte)) : Bool :=
  match s.usb.bursts with
  | [] => false
  | b :: _ => (s.runTxs b.txs o false).length == b.txs.length

/-- A DONE message (R318). -/
def doneMessage (mseq : Nat) (l : List UsbEnd) : List Byte :=
  rteMessage 2 mseq l.length ((l.flatMap (fun e => le 4 (e.xstat % 16 + 16 * (e.tog % 2) + 65536 * (e.len % 2048)))) ++ l.flatMap (fun e => e.data))

/-- The oldest held burst has ended (R319, R320): its DONE is sent and stored. -/
def State.burstEnd (s : State) (o : List (Nat × List Byte)) : State :=
  match s.usb.bursts with
  | [] => s
  | b :: r =>
    let d := doneMessage b.mseq (s.runTxs b.txs o false)
    (s.modUsb (fun u => { u with bursts := r, dones := ((b.mseq, d) :: u.dones).take 4 })).rteSend d

/-- The oldest held burst ends with every transaction ABORTED (R318, R323; log entry 107). -/
def State.burstAbort (s : State) : State :=
  match s.usb.bursts with
  | [] => s
  | b :: r =>
    let d := doneMessage b.mseq (b.txs.map (fun t => { xstat := 8, tog := t.tog, len := 0, data := [] }))
    (s.modUsb (fun u => { u with bursts := r, dones := ((b.mseq, d) :: u.dones).take 4 })).rteSend d

/-- Every held transaction ends ABORTED and the DONE messages go out (R323). -/
def State.abortAll (s : State) : State := s.usb.bursts.foldl (fun s _ => s.burstAbort) s

/-- The bus stops (R323). -/
def State.busSuspend (s : State) : State :=
  ((s.wr USB_STATUS.RUN 0).wr USB_STATUS.SUSPENDED 1).modUsb (fun u => { u with resume := 0, wakers := 0 })

/-- The RTE is orphaned (R325): a tunnel without a slot on the upstream port, or the uplink not ACTIVE. -/
def State.usbOrphaned (s : State) : Bool :=
  match s.upPort with
  | none => true
  | some p =>
    !s.linkActive p || (match s.tixAt 0x35, s.tixAt 0x36 with
      | some a, some b => !(s.slotsBothWays p a && s.slotsBothWays p b)
      | _, _ => true)

/-- `USB_STATUS.ORPHAN` follows the links and plans. -/
def State.orphanRefresh (s : State) : State := if s.usbOn then s.setBit USB_STATUS.ORPHAN s.usbOrphaned else s

/-- A periodic entry as PLOAD gives it. -/
structure PEnt where
  dir : Nat
  typ : Nat
  speed : Nat
  port : Nat
  mult : Nat
  interval : Nat
  mps : Nat
  phase : Nat
  depth : Nat
  deriving DecidableEq, Repr

def State.pent (s : State) (i : Nat) : PEnt :=
  { dir := s.rd USB_PENT0.DIR i, typ := s.rd USB_PENT0.TYPE i, speed := s.rd USB_PENT0.SPEED i, port := s.rd USB_PENT0.PORT i,
    mult := s.rd USB_PENT0.MULT_M1 i + 1, interval := s.rd USB_PENT0.INTERVAL i, mps := s.rd USB_PENT1.MPS i,
    phase := s.rd USB_PENT1.PHASE i, depth := s.rd USB_PENT2.DEPTH i }

def PEnt.period (e : PEnt) : Nat := 2 ^ (e.interval - 1)

/-- The entry runs in microframe `u` (R326). -/
def PEnt.runs (e : PEnt) (u : Nat) : Bool := (u + 32768 - e.phase) % e.period == 0

/-- The entry runs in some microframe of the frame of `u`. -/
def PEnt.inFrame (e : PEnt) (u : Nat) : Bool := (List.range 8).any (fun i => e.runs (u / 8 * 8 + i))

/-- Bytes of a microframe's budget (R329). -/
def PEnt.cost (e : PEnt) (u : Nat) : Nat :=
  if e.speed = 0 then (if e.runs u then e.mult * ((e.mps * 7 + 5) / 6 + 55) else 0)
  else if e.inFrame u then 64 else 0

/-- Bytes of a TT's budget in the frame of `u` (R329). -/
def PEnt.ttCost (e : PEnt) (u : Nat) : Nat :=
  if e.speed = 0 ∨ e.inFrame u = false then 0
  else
    let n := (e.mps * 7 + 5) / 6 + 20
    if e.speed = 2 then 8 * n else n

/-- The microframes that show every combination of a set of entries. -/
def span (l : List PEnt) : List Nat := List.range (l.foldl (fun m e => if m < e.period then e.period else m) 8)

/-- The high-speed and TT budgets hold in every microframe (R329). -/
def budgetsFit (l : List PEnt) : Bool :=
  (span l).all (fun u => decide ((l.map (fun e => e.cost u)).sum ≤ 6000) &&
    (List.range 4).all (fun k => decide (((l.filter (fun e => e.port == k)).map (fun e => e.ttCost u)).sum ≤ 1157)))

/-- Storage of OUT records (R328). -/
def outStorage (l : List PEnt) : Nat := ((l.filter (fun e => e.dir == 0)).map (fun e => e.depth * e.mult * e.mps)).sum

/-- Demand of a direction in flits per second times 2^14 (R330): 1 IN, 0 OUT. -/
def demand (l : List PEnt) (dir : Nat) : Nat :=
  ((l.filter (fun e => e.dir == dir)).map (fun e => (8 + e.mult * e.mps + 23) / 24 * 8000 * 2 ^ (15 - e.interval))).sum
    + (if dir = 1 then 8 * 2 ^ 14 else 0)

/-- Slots of a tunnel in a table in force. -/
def State.slotsOf (s : State) (p dir x : Nat) : Nat :=
  let t := if dir = 0 then s.txTable p else s.rxTable p
  ((List.range (s.slotsPerSf p)).filter (fun i => s.entry p dir t i == x)).length

/-- The ISO tunnel carries the demand of a set of entries (R330). -/
def State.demandFits (s : State) (l : List PEnt) : Bool :=
  match s.upPort, s.tixAt 0x35 with
  | some p, some x =>
    let cap := fun (dir : Nat) => s.slotsOf p dir x * 390625 * 2 ^ 13
    let ok := fun (d c : Nat) => if s.protects p x then decide (d * 17 ≤ c * 16) else decide (d ≤ c)
    ok (demand l 1) (cap 0) && ok (demand l 0) (cap 1)
  | _, _ => l.isEmpty

/-- PERIODIC_FIT_CHECK (R330): at a plan shift. -/
def State.periodicFit (s : State) : State :=
  if s.usbOn = false ∨ s.entries.isEmpty then (if s.on USB_STATUS.NOFIT then s.wr USB_STATUS.NOFIT 0 else s)
  else if s.demandFits (s.entries.map (fun i => s.pent i)) then s.wr USB_STATUS.NOFIT 0
  else (s.wr USB_STATUS.NOFIT 1).raise Ev.USB_PFIT

/-- A record (R328). -/
def recordBytes (ptype entry uframe pstat : Nat) (data : List Byte) : List Byte :=
  le 1 ptype ++ le 1 (entry % 64) ++ le 2 (uframe % 16384) ++ le 2 (data.length % 4096 + 4096 * (pstat % 16)) ++ le 2 0 ++ data

/-- Flits of the ISO tunnel that wait on the upstream port. -/
def State.isoWaiting (s : State) (p x : Nat) : Nat := ((s.lk p).txq.filter (fun i => i.tix == x)).length

/-- A record enters the transmit queue of 32 KiB (R330); while the RTE is orphaned it is discarded (R325). -/
def State.recordSend (s : State) (b : List Byte) : State :=
  match s.upPort, s.tixAt 0x35 with
  | some p, some x =>
    let l := flitPayloads b
    if s.canSend p x = false then s.xmiss p
    else if (s.isoWaiting p x + l.length) * 24 ≤ 32768 then s.queueFlits p x 0 true l
    else s.bump USB_PIDROP.COUNT
  | _, _ => s

/-- The hub core comes on with `EN` (R313, R320), or goes off. -/
def State.usbStart (s : State) : State :=
  let s := { s with usb := Usb.init }
  let s := ((s.wr USB_UFRAME.UFRAME 0).wr USB_STATUS.NEXT_BSEQ 0).wr USB_STATUS.RUN 1
  ((s.wr USB_STATUS.SUSPENDED 0).setBit USB_PORT.TCPORT (s.on USB_CTRL.TCSEL2) 2).setBit USB_PORT.TCPORT (s.on USB_CTRL.TCSEL3) 3

def State.usbStop (s : State) : State :=
  let s := s.entries.foldl (fun s i => s.unload i) s
  let s := (List.range 4).foldl (fun s k => ((s.portGone k).wr USB_PORT.CHANGE 0 k).portPower k false) s
  let s := { s with usb := Usb.init }
  let s := [USB_STATUS.RUN, USB_STATUS.SUSPENDED, USB_STATUS.ORPHAN, USB_STATUS.NOFIT].foldl (fun s f => s.wr f 0) s
  s.reportPresence

end Sys2Proof.Machine
end

