-- ==== Sys2Proof/Machine/TypecOps.lean ====
section
/-! DEFINITION. Type-C ports: PD messages and their delivery (R337), messages of the policy (R340), what follows an Accept (R342), the
fallback policy (R343), detach and resets (R346). -/
namespace Sys2Proof.Machine

def State.tcp (s : State) (n : Nat) : Tc := NMap.get s.tc Tc.init n
def State.setTc (s : State) (n : Nat) (v : Tc) : State := { s with tc := NMap.set s.tc Tc.init n v }
def State.modTc (s : State) (n : Nat) (f : Tc → Tc) : State := s.setTc n (f (s.tcp n))

/-- Event `local` of port `n` (R349). -/
def tcEvent (n l : Nat) : Nat := 0x3A0 + 16 * n + l

/-- TCSTATE 9 and 10: attached as sink, as source. -/
def State.tcAttached (s : State) (n : Nat) : Bool := s.rd TCP_STATUS.TCSTATE n == 9 || s.rd TCP_STATUS.TCSTATE n == 10

/-- Header of a PD message: type, number of objects, message ID, revision (log entry 78). -/
def pdType (b : List Byte) : Nat := leAt b 0 2 % 32
def pdRev (b : List Byte) : Nat := bits (leAt b 0 2) 6 2
def pdId (b : List Byte) : Nat := bits (leAt b 0 2) 9 3
def pdObjs (b : List Byte) : Nat := bits (leAt b 0 2) 12 3
def pdExt (b : List Byte) : Bool := bitAt (leAt b 0 2) 15
def pdObj (b : List Byte) (i : Nat) : Nat := leAt b (2 + 4 * i) 4

/-- Kind of a message: control types as they are, data types + 32, extended ones + 64. -/
def pdKind (b : List Byte) : Nat := if pdExt b then 64 + pdType b else if pdObjs b = 0 then pdType b else 32 + pdType b

namespace Pd
def goodCrc : Nat := 1
def accept : Nat := 3
def reject : Nat := 4
def psRdy : Nat := 6
def getSourceCap : Nat := 7
def getSinkCap : Nat := 8
def drSwap : Nat := 9
def prSwap : Nat := 10
def waitMsg : Nat := 12
def vconnSwap : Nat := 11
def softReset : Nat := 13
def notSupported : Nat := 16
def sourceCaps : Nat := 33
def request : Nat := 34
end Pd

/-- The message has as many bytes as its header says; extended messages are chunked. -/
def pdWhole (b : List Byte) : Bool := decide (2 ≤ b.length) && b.length == 2 + 4 * pdObjs b

/-- A message that needs an answer (R341): requests, swaps, capabilities, Soft_Reset, every Get message, a structured VDM command, an
extended request. -/
def pdNeedsAnswer (b : List Byte) : Bool :=
  let k := pdKind b
  [7, 8, 9, 10, 11, 13, 17, 18, 19, 20, 21, 22, 23, 24, 33, 34].contains k || (k == 47 && bitAt (pdObj b 0) 15 && bits (pdObj b 0) 6 2 == 0) ||
  decide (64 < k)

/-- A message that only answers. -/
def pdAnswers (b : List Byte) : Bool := [3, 4, 12, 16, 34, 36].contains (pdKind b)

/-- Pins of a port that changed are shown. -/
def State.tcPins (s : State) (n : Nat) (f : Tc → Tc) : State :=
  let a := s.tcp n
  let b := f a
  let s := s.setTc n b
  if a.srcEn = b.srcEn ∧ a.snkEn = b.snkEn ∧ a.vsel = b.vsel ∧ a.disch = b.disch then s
  else s.emit (.act "typec switches" [n, if b.srcEn then 1 else 0, if b.snkEn then 1 else 0, b.vsel, if b.disch then 1 else 0])

/-- A Type-C message to the policy (R340). -/
def State.tcTell (s : State) (n tctype sop rseq status : Nat) (y : List Byte) : State :=
  s.svcSend zoneController 8 (le 1 tctype ++ le 1 (n + 2 * sop) ++ le 1 rseq ++ le 1 status ++ y)

def State.txRes (s : State) (n : Nat) (m : PdMsg) (status : Nat) : State :=
  match m.rseq with
  | some r => s.tcTell n 3 m.sop r status []
  | none => s

/-- The policy can be reached (R339). -/
def State.policyUp (s : State) : Bool :=
  if s.isRoot then s.gwRuns && s.on ETH_STATUS.LINK (s.rd TUN_GWCTRL.GW_PORT) else s.uplinkUp

/-- A message put on CC. -/
def State.pdPut (s : State) (n : Nat) (m : PdMsg) : State :=
  let id := NMap.get (s.tcp n).txId 0 m.sop
  let h := leAt m.bytes 0 2
  let b := le 2 (h - bits h 9 3 * 512 + id * 512) ++ m.bytes.drop 2
  (s.modTc n (fun v => { v with pend := some { m with bytes := b } })).emit (.act "pd send" ([n, m.sop] ++ b.map (·.toNat)))

/-- A message is sent, or waits behind the one that has no GoodCRC yet. -/
def State.pdSend (s : State) (n : Nat) (m : PdMsg) : State :=
  match (s.tcp n).pend with
  | none => s.pdPut n m
  | some _ => s.modTc n (fun v => { v with queue := v.queue ++ [m] })

/-- A message of the port's own with SOP (log entry 78): kind and objects. -/
def State.pdOwn (s : State) (n kind : Nat) (objs : List Nat) : State :=
  let h := kind % 32 + 32 * s.rd TCP_STATUS.DROLE n + 64 * (if s.rd TCP_STATUS.PDREV n = 1 then 1 else 2)
    + 256 * s.rd TCP_STATUS.PROLE n + 4096 * objs.length
  s.pdSend n { sop := 0, bytes := le 2 h ++ objs.flatMap (fun o => le 4 o), tries := 0, rseq := none }

/-- A fixed PDO of a voltage in 50 mV and a current in 10 mA. -/
def fixedPdo (volt cur : Nat) : Nat := volt % 1024 * 1024 + cur % 1024

/-- The source capabilities offered (R339, R343). -/
def State.sourcePdos (s : State) (n : Nat) : List Nat :=
  if s.on TCP_STATUS.FALLBACK n then [fixedPdo 100 (s.rd TCP_FALLBACK.FB_SRC_MA)]
  else ((List.range 7).map (fun i => s.rd TCP_SRCCAP.PDO (n * 7 + i))).filter (fun p => p != 0)

/-- Source_Capabilities are sent (R339). -/
def State.sendCaps (s : State) (n : Nat) : State :=
  (s.modTc n (fun v => { v with exch := 5, mine := true, capsSent := v.capsSent + 1 })).pdOwn n Pd.sourceCaps (s.sourcePdos n)

/-- The exchange is over; Rp returns to SinkTxOk (R344). -/
def State.exchEnd (s : State) (n : Nat) : State := s.modTc n (fun v => { v with exch := 0, mine := false, phase := .idle, txNg := false })

/-- The power role changes with the resistor on CC; a routed USB port follows (R314). -/
def State.tcRouted (s : State) (n : Nat) : State :=
  s.usbRouted (2 + n) (s.rd TCP_STATUS.TCSTATE n == 10 && s.on TCP_STATUS.DROLE n && (s.tcp n).srcEn)

def State.setPowerRole (s : State) (n : Nat) (src : Bool) : State :=
  ((s.setBit TCP_STATUS.PROLE src n).wr TCP_STATUS.TCSTATE (if src then 10 else 9) n).tcRouted n

/-- Voltage of a PDO with its Request, in 50 mV (log entry 78). -/
def pdoVolt (pdo rdo : Nat) : Nat :=
  if pdo / 2 ^ 30 = 0 then bits pdo 10 10
  else if pdo / 2 ^ 30 = 3 then bits rdo 9 12 * 2 / 5
  else bits pdo 20 10

/-- A contract comes into force (R342). -/
def State.contract (s : State) (n volt : Nat) : State :=
  let rdo := (s.tcp n).rdo
  let s := ((s.wr TCP_CONTRACT.VOLT volt n).wr TCP_CONTRACT.CURRENT (bits rdo 10 10) n).wr TCP_CONTRACT.OBJPOS (bits rdo 28 3) n
  (((s.wr TCP_STATUS.CONTRACT 1 n).wr TCP_STATUS.TRANSITION 0 n).raise (tcEvent n 2)).exchEnd n

/-- A completed swap: the exchange is its capture (R342). -/
def State.swapDone (s : State) (n exch : Nat) : State := (s.exchEnd n).raise (tcEvent n 6) exch

def State.setPhase (s : State) (n : Nat) (p : TcPhase) : State := s.modTc n (fun v => { v with phase := p })

/-- Contract, phase and messages of a port are dropped; requests of the policy end with a status. -/
def State.tcClear (s : State) (n status : Nat) : State :=
  let v := s.tcp n
  let l := v.pend.toList ++ v.queue ++ v.held.toList
  let s := l.foldl (fun s m => s.txRes n m status) s
  let s := s.modTc n (fun v => { v with txId := [], rxId := [], pend := none, queue := [], held := none, wait := none, exch := 0,
                                        mine := false, rdo := 0, phase := .idle, txNg := false })
  [TCP_CONTRACT.VOLT, TCP_CONTRACT.CURRENT, TCP_CONTRACT.OBJPOS, TCP_STATUS.CONTRACT, TCP_STATUS.TRANSITION].foldl (fun s f => s.wr f 0 n) s

/-- Hard Reset sent or received (R337, R342): counters of messages return to 0; a source takes VBUS off until tSrcRecover. -/
def State.hardReset (s : State) (n : Nat) (sent : Bool) : State :=
  let s := ((s.bump TCP_HARDRST.COUNT n).raise (tcEvent n 3)).tcClear n St.ABORTED
  let s := if sent then (s.modTc n (fun v => { v with hardResets := v.hardResets + 1 })).emit (.act "pd hard reset" [n]) else s
  if s.on TCP_STATUS.PROLE n then
    (((s.tcPins n (fun v => { v with srcEn := false, vsel := 0, disch := true })).wr TCP_STATUS.VCONN_ON 0 n).wr TCP_STATUS.DROLE 1 n).setPhase n
      .recover
  else s.wr TCP_STATUS.DROLE 0 n

/-- The unattached state a port returns to. -/
def State.tcUnattached (s : State) (n : Nat) : Nat :=
  if s.on TCP_CTRL.EN n = false then 0 else if s.rd TCP_CTRL.ROLE n = 1 then 2 else 1

/-- Both switches open, VCONN off, discharge on (R346). -/
def State.tcOff (s : State) (n : Nat) : State :=
  let s := s.tcPins n (fun v => { v with srcEn := false, snkEn := false, vsel := 0, disch := true, capsSent := 0, hardResets := 0 })
  let s := [TCP_STATUS.VCONN_ON, TCP_STATUS.PROLE, TCP_STATUS.DROLE, TCP_STATUS.ORIENT, TCP_STATUS.PDREV, TCP_STATUS.RP_SEEN].foldl
    (fun s f => s.wr f 0 n) s
  s.tcRouted n

/-- Error Recovery: CC open, everything ended. -/
def State.errorRecovery (s : State) (n : Nat) : State :=
  ((s.tcClear n St.ABORTED).wr TCP_STATUS.TCSTATE 11 n).tcOff n

/-- Action after an Accept (R342); `sent` says that this port sent it. -/
def State.accepted (s : State) (n : Nat) (sent : Bool) : State :=
  let v := s.tcp n
  let src := s.on TCP_STATUS.PROLE n
  if v.mine = sent then s
  else
    match v.exch with
    | 1 => if src then s.setPhase n .srcRequest else (s.wr TCP_STATUS.TRANSITION 1 n).setPhase n .snkRequest
    | 2 =>
      if src then s.setPhase n .swapSrcWait
      else (s.tcPins n (fun v => { v with snkEn := false })).setPhase n .swapSnkWait
    | 3 => (((s.setBit TCP_STATUS.DROLE (!s.on TCP_STATUS.DROLE n) n)).tcRouted n).swapDone n 3
    | 4 =>
      if s.on TCP_STATUS.VCONN_ON n then s.setPhase n .vconnGive
      else ((s.wr TCP_STATUS.VCONN_ON 1 n).setPhase n .vconnTake).pdOwn n Pd.psRdy []
    | _ => s

/-- A message has its GoodCRC: what it starts. -/
def State.pdSent (s : State) (n : Nat) (b : List Byte) : State :=
  let k := pdKind b
  if k = Pd.accept then s.accepted n true
  else if k = Pd.reject ∨ k = Pd.waitMsg ∨ k = Pd.notSupported then s.exchEnd n
  else if k = Pd.request then s.modTc n (fun v => { v with exch := 1, mine := true, rdo := pdObj b 0 })
  else if k = Pd.prSwap then s.modTc n (fun v => { v with exch := 2, mine := true })
  else if k = Pd.drSwap then s.modTc n (fun v => { v with exch := 3, mine := true })
  else if k = Pd.vconnSwap then s.modTc n (fun v => { v with exch := 4, mine := true })
  else if k = Pd.softReset then s.modTc n (fun v => { v with txId := [], rxId := [] })
  else if k = Pd.psRdy then
    match (s.tcp n).phase with
    | .srcReady => s.contract n (pdoVolt ((s.sourcePdos n).getD (bits (s.tcp n).rdo 28 3 - 1) 0) (s.tcp n).rdo)
    | .swapSnkReady => s.swapDone n 2
    | .vconnTake => s.swapDone n 4
    | _ => s
  else s

/-- GoodCRC for the message that waits for it (R337): the next one follows. -/
def State.pdAcked (s : State) (n sop id : Nat) : State :=
  match (s.tcp n).pend with
  | none => s
  | some m =>
    if m.sop = sop ∧ pdId m.bytes = id then
      let s := (s.modTc n (fun v => { v with pend := none, txId := NMap.set v.txId 0 sop ((id + 1) % 8) })).bump TCP_TXMSG.COUNT n
      let s := (s.txRes n m St.OK).pdSent n m.bytes
      match (s.tcp n).queue with
      | [] => s
      | q :: r => (s.modTc n (fun v => { v with queue := r })).pdSend n q
    else s

/-- The fallback's answer (R343). -/
def State.fallbackAnswer (s : State) (n : Nat) (b : List Byte) : State :=
  let k := pdKind b
  if k = Pd.request then
    let o := pdObj b 0
    s.pdOwn n (if bits o 28 3 = 1 ∧ bits o 10 10 ≤ s.rd TCP_FALLBACK.FB_SRC_MA then Pd.accept else Pd.reject) []
  else if k = Pd.sourceCaps then
    let offered := bits (pdObj b 0) 0 10
    let cur := if offered ≤ s.rd TCP_FALLBACK.FB_SNK_MA then offered else s.rd TCP_FALLBACK.FB_SNK_MA
    s.pdOwn n Pd.request [2 ^ 28 + cur * 1024 + cur]
  else if k = Pd.prSwap ∨ k = Pd.drSwap ∨ k = Pd.vconnSwap then s.pdOwn n Pd.reject []
  else s.pdOwn n Pd.notSupported []

/-- A message of the partner discards what waits to be sent (R337, R344). -/
def State.pdCollide (s : State) (n : Nat) : State :=
  let v := s.tcp n
  let l := v.pend.toList ++ v.queue ++ v.held.toList
  let s := s.modTc n (fun v => { v with pend := none, queue := [], held := none, txNg := v.txNg && v.held.isNone })
  let s := l.foldl (fun s m => (s.txRes n m St.CONFLICT).bump TCP_COLL.COUNT n) s
  if v.held.isSome ∧ s.on TCP_STATUS.PROLE n then s.raise (tcEvent n 7) else s

/-- What a received message starts or continues (R342). -/
def State.pdActs (s : State) (n : Nat) (b : List Byte) : State :=
  let k := pdKind b
  if k = Pd.softReset then s.modTc n (fun v => { v with txId := [], rxId := [], exch := 6, mine := false })
  else if k = Pd.request then s.modTc n (fun v => { v with exch := 1, mine := false, rdo := pdObj b 0 })
  else if k = Pd.sourceCaps then
    s.modTc n (fun v => { v with exch := 5, mine := false, caps := (List.range (pdObjs b)).map (fun i => pdObj b i) })
  else if k = Pd.prSwap then s.modTc n (fun v => { v with exch := 2, mine := false })
  else if k = Pd.drSwap then s.modTc n (fun v => { v with exch := 3, mine := false })
  else if k = Pd.vconnSwap then s.modTc n (fun v => { v with exch := 4, mine := false })
  else if k = Pd.accept then s.accepted n false
  else if k = Pd.reject ∨ k = Pd.waitMsg ∨ k = Pd.notSupported then s.exchEnd n
  else if k = Pd.psRdy then
    match (s.tcp n).phase with
    | .snkRequest =>
      let v := s.tcp n
      s.contract n (pdoVolt (v.caps.getD (bits v.rdo 28 3 - 1) 0) v.rdo)
    | .swapSrcReady => ((s.tcPins n (fun v => { v with snkEn := true, disch := false })).tcRouted n).swapDone n 2
    | .swapSnkWait =>
      ((s.tcPins n (fun v => { v with srcEn := true, vsel := 0, disch := false })).setPowerRole n true).setPhase n .swapSnkRise
    | .vconnGive => (s.wr TCP_STATUS.VCONN_ON 0 n).swapDone n 4
    | _ => s
  else s

/-- A port's own policy or the fallback answers a message that needs it (R341, R343). -/
def State.pdWait (s : State) (n sop : Nat) (b : List Byte) : State :=
  if pdNeedsAnswer b = false then s
  else if s.on TCP_STATUS.FALLBACK n then s.fallbackAnswer n b
  else s.modTc n (fun v => { v with wait := some (sop, b) })

/-- A change of `TCP_STATUS` is told to the policy (R340). -/
def State.tcTold (s : State) (n : Nat) (f : State → State) : State :=
  let was := s.readReg Reg.TCP_STATUS n
  let s := f s
  if s.readReg Reg.TCP_STATUS n = was then s
  else s.tcTell n 4 0 0 0 (le 4 (s.readReg Reg.TCP_STATUS n) ++ le 4 (s.readReg Reg.TCP_CONTRACT n))

/-- FALLBACK_ENTER and FALLBACK_EXIT (R343): the policy's reach has changed. -/
def State.fallbackRefresh (s : State) (n : Nat) (doze : Bool := false) : State :=
  let want := s.on TCP_CTRL.EN n && (!s.policyUp || doze)
  if want = s.on TCP_STATUS.FALLBACK n then s
  else
    s.tcTold n (fun s =>
      let s := (s.setBit TCP_STATUS.FALLBACK want n).raise (tcEvent n 4)
      if want ∧ s.on TCP_STATUS.PROLE n ∧ 100 < s.rd TCP_CONTRACT.VOLT n then s.sendCaps n else s)

/-- Both ports after a change of the policy's reach. -/
def State.tcPolicyChange (s : State) : State := [0, 1].foldl (fun s n => s.fallbackRefresh n) s

end Sys2Proof.Machine
end

