-- ==== Sys2Proof/Machine/ResetOps.lean ====
section
/-! DEFINITION. What a reset reaches and what it leaves (R6, R130, R380, R391, R397, R420, R485). -/
namespace Sys2Proof.Machine

/-- Field identifiers of registers. -/
def idsOf (l : List RegDesc) : List Nat := l.flatMap (fun d => d.fields.map (fun f => f.id.val))

/-- Held in Zenith (R420, R459, R485). -/
def zenithIds : List Nat :=
  idsOf [Reg.BOOT_ZSTATE, Reg.BOOT_CONF_LO, Reg.BOOT_CONF_HI, Reg.BOOT_TRIAL_LO, Reg.BOOT_TRIAL_HI, Reg.BOOT_NEXT, Reg.SEC_TAMPER,
    Reg.SEC_TAMPCFG, Reg.SEC_JGEN]
  ++ [SEC_STATUS.DAWN_VALID, SEC_STATUS.TAMPERED].map (fun f => f.id.val)

/-- `VBAT` is checked at nPOR and at a SHIP wake (R399, R451): when it has fallen, what Zenith held is lost. -/
def State.vbatCheck (s : State) (lost : Bool) : State :=
  let s := s.modChip (fun c => { c with vbatLost := lost })
  if lost then { s with regs := NMap.keep s.regs (fun k => !zenithIds.contains (k % 1024)) } else s

/-- Held in OTP and fuses. -/
def otpIds : List Nat :=
  [SEC_STATUS.LC, SEC_STATUS.CERT_OK, BOOT_SVN.FLOOR, BOOT_BIDSTAT.USED, MEM_MACRO.HROWS, MEM_MACRO.HCOLS].map (fun f => f.id.val)

def powerPathIds : List Nat := idsOf regMap14a

/-- On the field die: outputs, inputs, segment PHYs and Type-C ports (log entry 93). -/
def fieldDieIds : List Nat :=
  idsOf ([Reg.FLD_OCTRL, Reg.FLD_OWD, Reg.FLD_OSTAT, Reg.FLD_OCFG, Reg.FLD_SCTRL, Reg.FLD_SPLCA, Reg.FLD_SSTAT, Reg.FLD_SNOISE,
    Reg.FLD_SCOLL, Reg.FLD_SPCOLL, Reg.FLD_SSHORT, Reg.FLD_DICFG, Reg.FLD_DISTUCK, Reg.FLD_DICHAT, Reg.FLD_DISTAT] ++ regMap13a)
  ++ [FLD_STATUS.FIELD_OK, FLD_STATUS.VFIELD].map (fun f => f.id.val)

/-- Sticky fields and the rate ceiling, which a warm reset leaves (R6, R130). -/
def stickyIds : List Nat :=
  (regMap.flatMap (fun d => (d.fields.filter (fun f => f.kind == .rs)).map (fun f => f.id.val))) ++ [JXP_STATUS.RATE_CAP.id.val]

/-- nRESET, `BOOT_CMD` RESET and the service watchdog leave sticky fields; the causes are the bits of `BOOT_CAUSE` (R397). -/
def warmCause (cause : Nat) : Bool := decide (1 ≤ cause) && decide (cause ≤ 3)

/-- The field die other than power path and Zenith is reset by nPOR and at the end of SHIP (R397). -/
def fieldDieReset (cause : Nat) : Bool := cause == 0 || cause == 5

/-- Fields a reset with a cause leaves. -/
def keptIds (cause : Nat) : List Nat :=
  zenithIds ++ otpIds ++ powerPathIds ++ (if fieldDieReset cause then [] else fieldDieIds) ++ (if warmCause cause then stickyIds else [])

/-- The field side after a reset: what the field die holds stays with it. -/
def Fld.afterReset (f : Fld) (cause : Nat) : Fld :=
  if fieldDieReset cause then Fld.init else { Fld.init with di := f.di, out := f.out, probes := f.probes, loaded := f.loaded }

/-- What of the security block lies in OTP, Zenith or flash, and the tamper sources. -/
def Sec.afterReset (c : Sec) : Sec :=
  { Sec.init with active := c.active, custRoot := c.custRoot, enrolled := c.enrolled, journal := c.journal, dawn := c.dawn }

/-- What of the package's state a reset leaves. -/
def Chip.afterReset (c : Chip) : Chip :=
  { Chip.init with phase := c.phase, cause := c.cause, test := c.test, vbatLost := c.vbatLost, wakes := c.wakes, bids := c.bids }

/-- Everything a reset with a cause reaches, at its reset value (R397). -/
def State.clearDies (s : State) (cause : Nat) : State :=
  { State.reset with
    pending := s.pending
    out := s.out
    fresh := s.fresh
    regs := NMap.keep s.regs (fun k => (keptIds cause).contains (k % 1024))
    pw := s.pw
    tc := if fieldDieReset cause then [] else s.tc
    fld := s.fld.afterReset cause
    certList := s.certList
    chip := s.chip.afterReset
    sec := s.sec.afterReset }

/-- The die-to-die link is lost: outputs safe, ports on the fallback policy (R20, R249, R343). -/
def State.fieldAlone (s : State) : State :=
  ((s.safeLatch FLD_OSTAT.D2DLOSS).tcPolicyChange).wr FLD_STATUS.D2D_UP 0

/-- A reset with a cause (R397). -/
def State.resetBy (s : State) (cause : Nat) : State :=
  let src := s.rd BOOT_STATUS.SRC
  (((s.modChip (fun c => { c with cause := cause })).clearDies cause).fieldAlone).wr BOOT_STATUS.SRC src

/-- The reset is asserted. -/
def State.enterReset (s : State) (cause : Nat) (test : Bool) : State :=
  (s.modChip (fun c => { c with phase := .reset, test := test })).resetBy cause

/-- Registers that lie in a power domain, and the copies of each (R379). -/
def State.domainRegs (s : State) (d : Nat) : List (RegDesc × Nat) :=
  regMap.flatMap (fun r => ((List.range r.n1).flatMap (fun i => (List.range r.n2).map (fun j => (i, j)))).filterMap (fun c =>
    if s.domainOf (r.addr c.1 c.2) = d then some (r, c.1 * r.n2 + c.2) else none))

/-- Fields of a JXL domain held in CORE (R380). -/
def heldInCore : List Nat :=
  idsOf [Reg.JXP_LSTATE] ++ [JXP_STATUS.FAILS, JXP_STATUS.OVC_HOLD, JXP_STATUS.RATE_CAP].map (fun f => f.id.val)

/-- The parts of a link that survive gating: its place in the tree and its lane states (R380). -/
def Link.afterGate (l : Link) : Link :=
  { Link.init with expHub := l.expHub, expPort := l.expPort, subtree := l.subtree,
                   lane := { LanePort.init with probFails := l.lane.probFails } }

/-- What a domain holds outside registers goes back to reset. -/
def State.domainState (s : State) (d : Nat) : State :=
  if 1 ≤ d ∧ d ≤ 4 then s.modLk (d - 1) Link.afterGate
  else if d = 7 then { s with pcb := Pcb.init }
  else if d = 8 then { s with dp := [] }
  else if d = 9 then { s with usb := Usb.init }
  else if 10 ≤ d then { s with nim := { s.nim with scratch := NMap.keep s.nim.scratch (fun k => k / 131072 != d - 9) } }
  else s

/-- A domain loses power (R380, R381). -/
def State.domainReset (s : State) (d : Nat) : State :=
  ((s.domainRegs d).foldl (fun s r => r.1.fields.foldl (fun s f =>
    if heldInCore.contains f.id.val then s else s.toReset f r.2) s) s).domainState d

end Sys2Proof.Machine
end

