-- ==== Sys2Proof/Machine/SecOps.lean ====
section
/-! DEFINITION. The security block: tamper (R457 to R460), tokens and life cycle (R461 to R463), the key store (R464 to R471) and its
journal (R472 to R474). Signatures, unwrapping and MACs are `Config.verdict` and `Config.crypto` of their bytes. -/
namespace Sys2Proof.Machine

def State.setSec (s : State) (c : Sec) : State := { s with sec := c }
def State.modSec (s : State) (f : Sec → Sec) : State := s.setSec (f s.sec)

/-- The life-cycle state (R485). -/
def State.lc (s : State) : Nat := s.rd SEC_STATUS.LC

/-- Every active port recovers (R458). -/
def State.retrainAll (s : State) : State := [0, 1, 2, 3].foldl (fun s p => s.recover p) s

/-- Slot `i` becomes EMPTY (R458, R471). -/
def State.slotClear (s : State) (i : Nat) : State :=
  let s := [SEC_SLOT.STATE, SEC_SLOT.KTYPE, SEC_SLOT.LIMIT, SEC_SLOT.PERSIST, SEC_SLOT.DAWNBOUND, SEC_SLOT.SOURCE, SEC_SCOUNT.COUNT,
    SEC_SKCV.KCV].foldl (fun s f => s.wr f 0 i) s
  s.modSec (fun c => { c with keys := NMap.set c.keys [] i [] })

/-- Slots 1 to 63. -/
def State.slotsClear (s : State) : State := (List.range 63).foldl (fun s i => s.slotClear (i + 1)) s

/-- A key becomes current in its slot (R470): `source` 1 KEYBLOBS, 2 journal, 3 import. -/
def State.slotLoad (s : State) (source : Nat) (k : KeyRec) : State :=
  let i := k.slot
  let s := ((s.wr SEC_SLOT.STATE 1 i).wr SEC_SLOT.KTYPE k.ktype i).wr SEC_SLOT.LIMIT k.limit i
  let s := ((s.setBit SEC_SLOT.PERSIST k.persist i).setBit SEC_SLOT.DAWNBOUND k.dawnBound i).wr SEC_SLOT.SOURCE source i
  ((s.wr SEC_SCOUNT.COUNT k.count i).wr SEC_SKCV.KCV k.kcv i).modSec (fun c => { c with keys := NMap.set c.keys [] i k.value })

/-- An operation under the key of a slot (R469). -/
def State.useKey (s : State) (i : Nat) : State :=
  if s.rd SEC_SLOT.LIMIT i ≠ 1 then s
  else if 1 < s.rd SEC_SCOUNT.COUNT i then s.wr SEC_SCOUNT.COUNT (s.rd SEC_SCOUNT.COUNT i - 1) i
  else ((s.wr SEC_SCOUNT.COUNT 0 i).wr SEC_SLOT.STATE 3 i).raise 0x3E4 i

/-- A tamper source that is enabled and whose condition holds. -/
def State.tampNow (s : State) : Nat := s.sec.active &&& s.rd SEC_TAMPCFG.EN

/-- `TAMP_NOW` follows the sources (R485). -/
def State.tampShow (s : State) : State := s.setBit SEC_STATUS.TAMP_NOW (s.tampNow != 0)

/-- The response to sources newly enabled and active (R458). -/
def State.tamperAct (s : State) (bitsNew : Nat) : State :=
  if bitsNew = 0 then s
  else
    let s := (s.wr SEC_STATUS.DAWN_VALID 0).wr SEC_TAMPER.CAUSE (s.rd SEC_TAMPER.CAUSE ||| bitsNew)
    if s.chip.phase ≠ .running ∧ s.chip.phase ≠ .entering then s
    else
      let s := ((s.slotsClear.retrainAll).modSec (fun c => { c with noJournal := true })).raise 0x3E0 bitsNew
      match s.sec.update with
      | none => s
      | some _ => (((s.modSec (fun c => { c with update := none })).wr SEC_STATUS.JBUSY 0).wr SEC_JSTAT.BUSY 0).wr SEC_CMDRES.STATUS St.STATE

/-- A source's condition begins or ends (R457, R458). -/
def State.tamperLevel (s : State) (k : Nat) (on : Bool) : State :=
  let was := s.tampNow
  let a := s.sec.active
  let s := s.modSec (fun c => { c with active := if bitAt a k = on then a else if on then a + 2 ^ k else a - 2 ^ k })
  (s.tamperAct (s.tampNow - (s.tampNow &&& was))).tampShow

/-- A write of `SEC_TAMPCFG` (R459). -/
def State.tampcfgWrite (s : State) (data : Nat) : State :=
  let new := SEC_TAMPCFG.EN.of data
  let old := s.rd SEC_TAMPCFG.EN
  s.writeReg Reg.SEC_TAMPCFG 0 data [(St.LIFECYCLE, s.lc == 4 || (s.lc == 2 && (old &&& new) != old))] (fun s =>
    (s.tamperAct ((s.sec.active &&& new) - (s.sec.active &&& new &&& old))).tampShow)

/-- A new Dawn, held at 0 while a source is active (R451, R458). -/
def State.drawDawn (s : State) : State :=
  ((s.setBit SEC_STATUS.DAWN_VALID (s.tampNow == 0)).modSec (fun c => { c with dawn := c.dawn + 1 }))

/-- The device root that keys are wrapped under (R454, R456; log entry 95). -/
def State.rootId (s : State) : Nat := if s.lc = 2 then 16 + s.sec.dawn else s.lc

/-- The bytes of the token in the token buffer (R462). -/
def State.tokenBytes (s : State) : List Byte :=
  (List.range (s.rd SEC_TOKLEN.LEN)).map (fun i => BitVec.ofNat 8 (NMap.get s.sec.token 0 (i / 4) / 256 ^ (i % 4)))

/-- The nonce as 16 bytes. -/
def State.nonceBytes (s : State) : List Byte := [0, 1, 2, 3].flatMap (fun i => le 4 (s.rd SEC_NONCE.WORD i))

/-- Trust anchors of R412 and R461: 0 Evowyn provisioning root, 1 customer root, 2 Evowyn return root. -/
def State.lcAnchor (s : State) : Nat := if s.lc = 0 then 0 else if s.lc = 3 then 2 else 1

/-- A signature block verifies against an anchor (R412). -/
def State.verifies (s : State) (anchor : Nat) (b : List Byte) : Bool :=
  Config.verdict "signature" (anchor :: (if anchor = 1 then s.sec.custRoot.map (·.toNat) else []) ++ b.map (·.toNat))

/-- A token fails AUTH for an op under an anchor (R462, R463). -/
def State.tokenBad (s : State) (op anchor : Nat) (t : List Byte) : Bool :=
  leAt t 0 4 != 0x5A544B31 || byteAt t 4 != op || leAt t 8 8 != Config.uid || !s.sec.nonce ||
  decide (60000000000 ≤ s.timeAtSlot0 - s.sec.nonceAt) || (t.drop 16).take 16 != s.nonceBytes || !s.verifies anchor t

/-- Reserved bytes of a token, and its body. -/
def tokenReserved (t : List Byte) : Bool := leAt t 5 3 != 0 || leAt t 34 2 != 0
def tokenBody (t : List Byte) : List Byte := (t.drop 36).take (leAt t 32 2)

/-- A token command consumes the nonce in force; a failed token is told (R462, R463). -/
def State.tokenUsed (s : State) (status : Nat) : State :=
  let s := s.modSec (fun c => { c with nonce := false })
  if status = St.AUTH then s.raiseOnce 0x3E7 else s

/-- What the key that wraps the records of an import or of KEYBLOBS follows from (R470): the identity in slot 0, which is the ROM's in
BLANK and RETURN (R453), and the ephemeral public key. -/
def State.wrapKey (s : State) (ephemeral : List Byte) : List Nat :=
  (if s.lc = 0 ∨ s.lc = 3 then 1 else 0) :: ephemeral.map (·.toNat)

/-- The key record at the front of a byte list (R466), wrapped under `key`. -/
def keyRecOf (key : List Nat) (b : List Byte) : KeyRec :=
  let a := leAt b 2 2
  { slot := byteAt b 0, ktype := byteAt b 1, limit := a % 4, persist := bitAt a 2, dawnBound := bitAt a 3, overlay := bitAt a 4,
    count := leAt b 4 3, kcv := leAt b 8 4, value := Config.crypto "keywrap" (key ++ (b.take 72).map (·.toNat)) }

/-- The checks of R467 on a record; `blob`: in KEYBLOBS; `twice`: another record names the slot; the last verdict is that of the
unwrapping and the `KCV`. -/
def State.keyStatus (s : State) (key : List Nat) (b : List Byte) (blob twice : Bool) : Nat :=
  let k := keyRecOf key b
  let a := leAt b 2 2
  firstStatus
    [(St.STATE, k.dawnBound && s.on SEC_STATUS.TAMPERED),
     (St.VALUE, k.ktype == 0 || decide (5 < k.ktype) || a / 32 != 0 || byteAt b 7 != 0 || leAt b 12 4 != 0 || k.limit == 3 ||
        (k.limit == 1 && k.count == 0) || (k.limit != 1 && k.count != 0) || (blob && k.limit == 2) ||
        (k.ktype == 1 && (leAt b 56 8 != 0 || leAt b 64 8 != 0))),
     (St.RANGE, k.slot == 0 || decide (63 < k.slot)),
     (St.CONFLICT, (k.slot == 1 && k.ktype != 2) || (k.persist && k.limit != 0) ||
        (k.persist && !bitAt (s.rd SEC_JMASK.WORD (k.slot / 32)) (k.slot % 32)) || twice),
     (St.INTEGRITY, !Config.verdict "keywrap" (key ++ (b.take 72).map (·.toNat)))]

/-- The records of a body from a byte offset on. -/
def recordsAt (b : List Byte) (off n : Nat) : List (List Byte) := (List.range n).map (fun i => (b.drop (off + 72 * i)).take 72)

/-- The first record of a list that fails, with its index and status. -/
def State.firstBadKey (s : State) (key : List Nat) (l : List (List Byte)) : Option (Nat × Nat) :=
  (List.range l.length).findSome? (fun i =>
    let b := l.getD i []
    let st := s.keyStatus key b false ((l.take i).any (fun r => byteAt r 0 == byteAt b 0))
    if st = St.OK then none else some (i, st))

/-- The journal record in use, if any (R473). -/
def State.journalNow (s : State) : Option JRec :=
  let v := if s.rd SEC_JSTAT.CUR = 0 then s.on SEC_JSTAT.J0_VALID else s.on SEC_JSTAT.J1_VALID
  match NMap.get s.sec.journal JSector.erased (s.rd SEC_JSTAT.CUR) with
  | .holds r => if v then some r else none
  | _ => none

def State.journalled (s : State) (slot : Nat) : Bool :=
  match s.journalNow with
  | some r => r.keys.any (fun k => k.slot == slot)
  | none => false

def State.jgen (s : State) : Nat := s.rd SEC_JGEN.WORD 0 + 2 ^ 32 * s.rd SEC_JGEN.WORD 1

/-- A journal update begins (R474): the sector not in use is erased. -/
def State.journalStart (s : State) (op : Nat) (load : List KeyRec) (drop : List Nat) : State :=
  let old := (s.journalNow.map (·.keys)).getD []
  let kept := old.filter (fun k => !drop.contains k.slot && !load.any (fun n => n.slot == k.slot))
  let gen := ((s.journalNow.map (·.gen)).getD s.jgen) + 1
  let r : JRec := { root := s.rootId, gen := gen, keys := kept ++ load.filter (·.persist) }
  let u : JUpd := { op := op, load := load, drop := drop, put := r }
  let other := if s.journalNow.isSome then 1 - s.rd SEC_JSTAT.CUR else s.rd SEC_JSTAT.CUR
  let s := (s.wr SEC_STATUS.JBUSY 1).wr SEC_JSTAT.BUSY 1
  let s := s.wr (if other = 0 then SEC_JSTAT.J0_VALID else SEC_JSTAT.J1_VALID) 0
  s.modSec (fun c => { c with update := some u, journal := NMap.set c.journal JSector.erased other .bad })

/-- All shadows become current at one instant (R470 step 3, R471). -/
def State.keysCommit (s : State) (load : List KeyRec) (drop : List Nat) : State :=
  load.foldl (fun s k => s.slotLoad 3 k) (drop.foldl (fun s i => s.slotClear i) s)

/-- An update ends (R474): done with a good read-back, with a bad one, or timed out. -/
def State.journalEnd (s : State) (status : Nat) : State :=
  match s.sec.update with
  | none => s
  | some u =>
    let other := if s.journalNow.isSome then 1 - s.rd SEC_JSTAT.CUR else s.rd SEC_JSTAT.CUR
    let s := ((s.modSec (fun c => { c with update := none })).wr SEC_STATUS.JBUSY 0).wr SEC_JSTAT.BUSY 0
    let s :=
      if status = St.OK then
        let s := s.modSec (fun c => { c with journal := NMap.set c.journal JSector.erased other (.holds u.put) })
        let s := ((s.wr SEC_JSTAT.CUR other).wr (if other = 0 then SEC_JSTAT.J0_VALID else SEC_JSTAT.J1_VALID) 1)
        let s := (s.wr SEC_JGEN.WORD (u.put.gen % 2 ^ 32) 0).wr SEC_JGEN.WORD (u.put.gen / 2 ^ 32) 1
        if u.op = 0 then s else s.keysCommit u.load u.drop
      else s
    if u.op = 0 then s else (s.wr SEC_CMDRES.STATUS status).answer status

/-- The life-cycle states an op is allowed in (R461). -/
def opAllowed (op lc : Nat) : Bool :=
  match op with
  | 1 => lc == 0
  | 2 => lc == 1
  | 3 => lc == 2
  | 4 => lc != 4
  | 5 => lc == 0
  | 6 => lc == 1
  | 7 => lc == 1 || lc == 2
  | 8 => lc == 1 || lc == 2
  | 9 => lc == 2
  | _ => true

/-- The anchor of an op's token (R461). -/
def State.opAnchor (s : State) (op : Nat) : Nat :=
  match op with
  | 1 => 0
  | 3 => 2
  | 4 => s.lcAnchor
  | 5 => 0
  | _ => 1

/-- An import or destruction that must rewrite the journal (R470 step 2, R471). -/
def State.needsJournal (s : State) (load : List KeyRec) (drop : List Nat) : Bool :=
  load.any (fun k => k.persist || s.journalled k.slot) || drop.any (fun i => s.journalled i)

/-- The body has the length its op requires (log entry 94). -/
def bodyFits (op : Nat) (b : List Byte) : Bool :=
  match op with
  | 1 => b.length == 48
  | 6 => decide (b.length ≤ 2048)
  | 7 => b.length == 100 + 72 * byteAt b 99
  | 8 => b.length == 8
  | _ => b.isEmpty

/-- The checks of a `SEC_CMD` beside those of its records (R461, R462, R474, R479). -/
def State.secChecks (s : State) (op : Nat) (t : List Byte) : List (Nat × Bool) :=
  let b := tokenBody t
  let drop := if op = 8 then bitList 64 (leAt b 0 8) else []
  let load := if op = 7 then (recordsAt b 100 (byteAt b 99)).map (keyRecOf (s.wrapKey (b.take 97))) else []
  [(St.VALUE, op == 0 || decide (9 < op) || tokenReserved t || !bodyFits op b),
   (St.LIFECYCLE, !opAllowed op s.lc),
   (St.AUTH, s.tokenBad op (s.opAnchor op) t || (op == 6 && !Config.verdict "chain" ((s.sec.custRoot ++ b).map (·.toNat)))),
   (St.STATE, ((op == 1 || op == 2) && !s.on SEC_STATUS.ID_OK) || (op == 2 && (!s.on SEC_STATUS.CERT_OK || !s.on SEC_STATUS.DRBG_OK)) ||
      ((op == 7 || op == 8) && s.sec.noJournal && s.needsJournal load drop)),
   (St.BUSY, (op == 7 || op == 8) && s.sec.update.isSome),
   (St.RANGE, decide (6144 < leAt t 32 2) || (op == 7 && (byteAt b 99 == 0 || decide (63 < byteAt b 99)))),
   (St.CONFLICT, (op == 5 && s.sec.enrolled) || (op == 6 && (s.on SEC_STATUS.CERT_OK || !Config.verdict "certificate key" (b.map (·.toNat)))) ||
      (op == 8 && drop.contains 0))]

/-- A life-cycle change (R461): the key store is zeroed and the hub resets 10 ms later. -/
def State.lcChange (s : State) (new : Nat) : State :=
  (((s.wr SEC_STATUS.LC new).slotsClear.slotClear 0).modSec (fun c => { c with lcReset := true })).raise 0x3E6 new

/-- What an op does once its checks have passed (R461); ops 7 and 8 may leave their answer to the journal update. -/
def State.secAct (s : State) (op : Nat) (b : List Byte) : State :=
  match op with
  | 1 => (s.modSec (fun c => { c with custRoot := b })).lcChange 1
  | 2 => (s.drawDawn.wr SEC_STATUS.TAMPERED 0).lcChange 2
  | 3 => (s.wr SEC_STATUS.DAWN_VALID 0).lcChange 3
  | 4 => ((s.wr SEC_STATUS.DAWN_VALID 0).modSec (fun c => { c with enrolled := false })).lcChange 4
  | 5 => s.modSec (fun c => { c with enrolled := true, helper := true })
  | 6 => ({ s with certList := b }).wr SEC_STATUS.CERT_OK 1
  | 7 =>
    let load := (recordsAt b 100 (byteAt b 99)).map (keyRecOf (s.wrapKey (b.take 97)))
    if s.needsJournal load [] then s.journalStart 7 load [] else s.keysCommit load []
  | 8 =>
    let drop := bitList 64 (leAt b 0 8)
    if s.needsJournal [] drop then s.journalStart 8 [] drop else s.keysCommit [] drop
  | 9 => s.wr SEC_STATUS.TAMPERED 0
  | _ => s

/-- A write of `SEC_CMD` (R461 to R463, R470, R471): the nonce is consumed whatever the result. -/
def State.secCmd (s : State) (data : Nat) : State :=
  if Reg.SEC_CMD.reservedSet data then s.answer St.VALUE
  else
    let op := SEC_CMD.OP.of data
    let t := s.tokenBytes
    let st := firstStatus (s.secChecks op t)
    let bad := if st = St.OK ∧ op = 7 then s.firstBadKey (s.wrapKey ((tokenBody t).take 97)) (recordsAt (tokenBody t) 100 (byteAt (tokenBody t) 99)) else none
    let status := match bad with
      | some r => r.2
      | none => st
    let s := ((s.wr SEC_CMDRES.OP op).wr SEC_CMDRES.STATUS status).wr SEC_CMDRES.RECORD ((bad.map (·.1)).getD 0)
    let s := s.tokenUsed status
    if status ≠ St.OK then s.answer status
    else
      let s := s.secAct op (tokenBody t)
      if (op = 7 ∨ op = 8) ∧ s.sec.update.isSome then s else s.answer St.OK

/-- A read of `SEC_NONCE0` draws a nonce (R463, R479). -/
def State.nonceDraw (s : State) : State :=
  if s.on SEC_STATUS.DRBG_OK = false then s.answer St.STATE
  else
    let s := [0, 1, 2, 3].foldl (fun s i => (s.wr SEC_NONCE.WORD (s.freeVal % 2 ^ 32) i).drew) s
    (s.modSec (fun c => { c with nonce := true, nonceAt := s.timeAtSlot0 })).answerData [s.rd SEC_NONCE.WORD 0]

end Sys2Proof.Machine
end

