-- ==== Sys2Proof/Machine/MemOps.lean ====
section
/-! DEFINITION. Uncorrectable words by kind (R487), marches on request (R494), fuse repair (R498), the die-to-die link (R499 to R501),
debug unlock (R505) and JTAG (R502). -/
namespace Sys2Proof.Machine

/-- What an uncorrectable word does by its kind (R487); `at_` names the entry in the terms of its memory: a plan-store entry, for a
scratchpad 1 where a DMA transfer read the word (a core that read it traps by CORE_TRAP), a route, a tunnel of the flit, or table * 65,536 + index with tables 0 tunnels, 1 forwarding database, 3 classifier, 6 points; `iso` the flit. -/
def State.ueEffect (s : State) (m at_ : Nat) (iso : Bool) : State :=
  match macroKind m with
  | 1 =>
    let plan := at_ / 4096 % 16
    let dir := at_ / 65536 % 2
    s.wr (validField dir) 0 (at_ / 131072 % 4 * 16 + plan)
  | 2 => if at_ = 1 then s.wr NIM_DMASTAT.XFER 0 ((m - 560) / 8) else s
  | 3 => s.setRoute (at_ % 32768) 1 (s.route (at_ % 32768) 1 - (s.route (at_ % 32768) 1 &&& 2 ^ 24))
  | 4 => s.recover (m - 600)
  | 5 =>
    if iso then
      match takeFirst (fun i => i.tix == at_) (s.lk (m - 604)).rxStage with
      | some (_, rest) => (s.modLk (m - 604) (fun l => { l with rxStage := rest })).isoLoss (m - 604) at_
      | none => s.isoLoss (m - 604) at_
    else s.recover (m - 604)
  | 6 =>
    let i := at_ % 65536
    match at_ / 65536 with
    | 0 => if i = 0 then s else s.wr TUN_ENT0.VALID 0 i
    | 1 => s.setFdb i none
    | 3 => s.wr TUN_CLS0.VALID 0 i
    | 6 => s.setPoint (i % 4096) pointReset
    | _ => s
  | _ => s

/-- An error that a read of a macro of kinds 1 to 6 finds. -/
def State.macroError (s : State) (m word synd at_ : Nat) (scrub ue iso : Bool) : State :=
  if ue then (s.memUe m word synd scrub).ueEffect m at_ iso else s.memCe m word synd scrub

/-- The domain that holds a macro (R379, R486). -/
def macroDomain (m : Nat) : Nat :=
  if 560 ≤ m ∧ m < 592 then (let n := (m - 560) / 8; if n = 0 then 0 else 9 + n)
  else if 600 ≤ m ∧ m < 604 then m - 600 + 1
  else if 604 ≤ m ∧ m < 608 then m - 604 + 1
  else 0

/-- A macro under a march on request. -/
def State.marching (s : State) (m : Nat) : Bool :=
  match s.chip.march with
  | some (f, n) => decide (f ≤ m) && decide (m < f + n)
  | none => false

/-- A buffer macro in a bank that serves a logical bank, or one of a gated domain (R494). -/
def State.marchRefused (s : State) (m : Nat) : Bool :=
  if m < 544 then (List.range 32).any (fun l => s.physBank l == m / 16 && s.sw.retiredBank != some l)
  else s.rd (dstat (macroDomain m)) != 0

/-- A write of `MEM_MCMD` (R494). -/
def State.mcmdWrite (s : State) (data : Nat) : State :=
  let op := MEM_MCMD.OP.of data
  let f := MEM_MCMD.FIRST.of data
  let n := MEM_MCMD.COUNT.of data
  s.checked
    [(St.VALUE, Reg.MEM_MCMD.reservedSet data || op == 0 || op == 3),
     (St.BUSY, op == 1 && s.on MEM_MSTAT.RUN),
     (St.STATE, op == 1 && ((MEM_MCMD.DESTR.of data == 1 && s.rd BOOT_STATUS.MODE != 3) ||
        (List.range n).any (fun i => decide (f + i < 616) && s.marchRefused (f + i)))),
     (St.RANGE, op == 1 && (n == 0 || decide (616 < f + n)))]
    (fun s =>
      if op = 1 then
        (((s.wr MEM_MSTAT.RUN 1).wr MEM_MSTAT.DONE 0).modChip (fun c => { c with march := some (f, n), marchStop := false })).answer St.OK
      else (s.modChip (fun c => { c with marchStop := c.march.isSome })).answer St.OK)

/-- A march ends (R494, R495): `faults` are the faulty cells of its macros in order, `done` how many it completed. -/
def State.marchDone (s : State) (faults : List Nat) (done : Nat) : State :=
  match s.chip.march with
  | none => s
  | some (f, n) =>
    let n := if s.chip.marchStop then min done n else n
    let l := (List.range n).map (fun i => (f + i, faults.getD i 0))
    let s := l.foldl (fun s e => s.wr MEM_MACRO.FAULTS (min e.2 255) e.1) s
    let bad := l.filter (fun e => e.2 != 0)
    let s := ((s.wr MEM_MSTAT.RUN 0).wr MEM_MSTAT.DONE 1).wr MEM_MSTAT.FAULTY bad.length
    let s := s.wr MEM_MSTAT.FIRSTBAD ((bad.head?.map (·.1)).getD 0)
    (s.modChip (fun c => { c with march := none, marchStop := false })).raise 0x3FB (bad.map (·.2)).sum

/-- Soft repairs of macro `m` that its fuses can take: rows, columns (R496, R498). -/
def State.burnable (s : State) (m : Nat) : Nat × Nat :=
  (min (s.rd MEM_MACRO.SROWS m) (4 - s.rd MEM_MACRO.HROWS m), min (s.rd MEM_MACRO.SCOLS m) (2 - s.rd MEM_MACRO.HCOLS m))

/-- FUSE_REPAIR (R498): what can be burnt is burnt. -/
def State.fuseRepair (s : State) (data : Nat) : State :=
  let go := MEM_FUSECMD.GO.of data = 1
  s.checked
    [(St.VALUE, Reg.MEM_FUSECMD.reservedSet data), (St.LIFECYCLE, decide go && s.lc != 1 && s.lc != 3), (St.BUSY, decide go && s.on MEM_MSTAT.RUN)]
    (fun s =>
      if ¬go then s.answer St.OK
      else
        let left := (List.range 616).any (fun m => (s.burnable m).1 != s.rd MEM_MACRO.SROWS m || (s.burnable m).2 != s.rd MEM_MACRO.SCOLS m)
        let s := (List.range 616).foldl (fun s m =>
          let b := s.burnable m
          let s := (s.wr MEM_MACRO.HROWS (s.rd MEM_MACRO.HROWS m + b.1) m).wr MEM_MACRO.HCOLS (s.rd MEM_MACRO.HCOLS m + b.2) m
          (s.wr MEM_MACRO.SROWS (s.rd MEM_MACRO.SROWS m - b.1) m).wr MEM_MACRO.SCOLS (s.rd MEM_MACRO.SCOLS m - b.2) m) s
        s.answer (if left then St.NOSPACE else St.OK))

/-- The die-to-die link comes up or goes down (R20, R245, R249). -/
def State.d2dSet (s : State) (up : Bool) : State :=
  let s := (s.setBit DBG_D2D.UP up).setBit FLD_STATUS.D2D_UP up
  if up then s.requalifyInputs else (s.requalifyInputs).safeLatch FLD_OSTAT.D2DLOSS

def State.d2dDown (s : State) : State :=
  if s.on DBG_D2D.UP then (s.raise 0x3FD).d2dSet false else s

/-- Lane `k` of the die-to-die link is declared failed (R499 to R501). -/
def State.d2dLane (s : State) (k : Nat) : State :=
  if bitAt (s.rd DBG_D2D.FAILED) k then s
  else
    let s := s.wrBit DBG_D2D.FAILED k true
    let n := popcount 17 (s.rd DBG_D2D.FAILED)
    if 3 ≤ n then s.d2dDown
    else if n = 2 then s.wr DBG_D2D.EXPOSED 1
    else if k = 16 then s
    else ((s.wr DBG_D2D.SPARE_USED 1).wr DBG_D2D.SPARE_FOR k).raise 0x3FC k

/-- Debug access of either kind is withdrawn (R505). -/
def State.debugLock (s : State) : State := ((s.wr DBG_STATUS.DBG_TMUX 0).wr DBG_STATUS.DBG_JTAG 0).wr DBG_STATUS.REMAIN 0

/-- A write of `DBG_CMD` (R505). -/
def State.dbgCmd (s : State) (data : Nat) : State :=
  let op := DBG_CMD.OP.of data
  if Reg.DBG_CMD.reservedSet data ∨ op = 0 ∨ op = 3 then s.answer St.VALUE
  else if op = 2 then s.debugLock.answer St.OK
  else
    let t := s.tokenBytes
    let b := tokenBody t
    let v := leAt b 0 4
    let dur := v % 2 ^ 17
    let st := firstStatus
      [(St.LIFECYCLE, s.lc != 2), (St.AUTH, s.tokenBad 0x20 1 t),
       (St.VALUE, tokenReserved t || b.length != 4 || bits v 17 7 != 0 || bits v 26 6 != 0), (St.RANGE, dur == 0 || decide (86400 < dur))]
    let s := s.tokenUsed st
    if st ≠ St.OK then s.answer st
    else
      let s := ((s.setBit DBG_STATUS.DBG_TMUX (bitAt v 24)).setBit DBG_STATUS.DBG_JTAG (bitAt v 25)).wr DBG_STATUS.REMAIN dur
      ((s.modSec (fun c => { c with dbgTime := dur, dbgAt := s.timeAtSlot0 })).raise 0x3FE).answer St.OK

/-- Test-multiplexer access is allowed (R504). -/
def State.tmuxAllowed (s : State) : Bool := s.lc == 1 || s.lc == 3 || (s.lc == 2 && s.on DBG_STATUS.DBG_TMUX)

/-- A write of `DBG_TMSEL` (R503, R504). -/
def State.tmselWrite (s : State) (data : Nat) : State :=
  s.writeReg Reg.DBG_TMSEL 0 data [(St.LIFECYCLE, DBG_TMSEL.TM_EN.of data == 1 && !s.tmuxAllowed)]
    (fun s => s.emit (.act "tmux" [s.rd DBG_TMSEL.TM_EN, s.rd DBG_TMSEL.GROUP]))

/-- A write of `DBG_FCTL` (R492). -/
def State.fctlWrite (s : State) (data : Nat) : State :=
  s.writeReg Reg.DBG_FCTL 0 data [] (fun s =>
    if DBG_FCTL.FCLR.of data = 1 then ([0, 1, 2, 3].foldl (fun s i => s.wr DBG_FCAP.MSG 0 i) s).wr DBG_FCTL.FCOUNT 0 else s)

/-- A write of word 0 of a capture record (R491). -/
def State.capWrite (s : State) (c data : Nat) : State :=
  s.writeReg Reg.MEM_CAP0 c data [] (fun s => if MEM_CAP0.VALID.of data = 1 then (s.wr MEM_CAP0.MULTI 0 c).wr MEM_CAP0.COUNT 0 c else s)

/-- JTAG instructions: 0 BYPASS, 1 IDCODE, 2 SAMPLE/PRELOAD, 3 EXTEST, 4 EXTEST_PULSE, 5 EXTEST_TRAIN, 6 CLAMP, 7 HIGHZ, 8 internal scan and
core debug (R502): the one that acts. -/
def State.jtagActs (s : State) (i : Nat) : Nat :=
  if i ≤ 2 then i
  else if i ≤ 7 then (if s.lc = 4 then 0 else i)
  else if s.lc = 1 ∨ s.lc = 3 ∨ (s.lc = 2 ∧ s.on DBG_STATUS.DBG_JTAG) then i
  else 0

/-- The identification code (R502). -/
def State.idcode (s : State) : Nat := 0x04816A6B + 2 ^ 28 * s.rd GLB_ID.REV

end Sys2Proof.Machine
end

