-- ==== Sys2Proof/Machine/CpmOps.lean ====
section
/-! DEFINITION. Power states and domains: gating, draining and restoring (R379 to R385), entry into DOZE and SHIP (R386 to R388), wakes
(R388 to R390). -/
namespace Sys2Proof.Machine

/-- The idle condition of a domain (R379). -/
def State.domainIdle (s : State) (d : Nat) : Bool :=
  if 1 ≤ d ∧ d ≤ 4 then !s.on JXK_CTRL.EN (d - 1)
  else if d = 5 then [0, 1, 2, 3].all (fun k => !s.on ETH_CTRL.EN k)
  else if d = 6 then [4, 5, 6, 7].all (fun k => !s.on ETH_CTRL.EN k)
  else if d = 7 then !s.on PCB_CTRL.EN
  else if d = 8 then !s.on DPT_CTRL.EN 0 && !s.on DPT_CTRL.EN 1
  else if d = 9 then !s.on USB_CTRL.EN
  else if d = 11 ∨ d = 12 then
    !s.on NIM_CSTAT.RUNNING (d - 9) &&
      (List.range 16).all (fun p => s.rd NIM_PSTAT.SERVICE p == 0 || s.rd NIM_PSTAT.CORE p != d - 9)
  else false

/-- A drain begins (R385). -/
def State.drainStart (s : State) (d : Nat) : State := (s.wr (dstat d) 1).bump CPM_DRAINCNT.DRAINS

/-- Entry into DOZE (1) or SHIP (2) begins (R388 steps 1 and 2); cause 0 command, 1 policy. -/
def State.psEnter (s : State) (target cause : Nat) : State :=
  let s := (s.wr CPM_STATE.STATE 2).raise 0x3F2 (target + 4 * cause)
  let s := (List.range 13).foldl (fun s d => if s.rd (dstat d) = 0 then s.drainStart d else s) s
  (s.wr CPM_STATE.PS_ARM 0).modChip (fun c => { c with
    phase := .entering, target := target, wakes := 0, ulp := false
    dozeMask := s.readReg Reg.CPM_DOZEWAKE 0, alarm := s.rd CPM_ALARM.ALARM_S })

/-- A write of `CPM_PSCMD` (R387). -/
def State.pscmdWrite (s : State) (data : Nat) : State :=
  let go := CPM_PSCMD.GO.of data = 1
  let op := CPM_PSCMD.OP.of data
  s.checked
    [(St.VALUE, Reg.CPM_PSCMD.reservedSet data || op == 0 || op == 3), (St.AUTH, decide go && !s.on CPM_STATE.PS_ARM),
     (St.STATE, decide go && s.rd CPM_STATE.STATE == 2)]
    (fun s => if go then (s.answer St.OK).psEnter op 0 else s.answer St.OK)

/-- Wake events: 0 `WAKE`, 1 alarm, 2 `nSPI_CS`, 3 direct input `i`, 4 power path (`i`: 0 feed, 1 trip, 2 to 4 presence of EF1 to EF3),
5 Type-C port `i` (R388). -/
def State.wakeEnabled (s : State) (src i : Nat) : Bool :=
  let m := s.chip.dozeMask
  match src with
  | 0 => CPM_DOZEWAKE.WPIN.of m == 1
  | 1 => CPM_DOZEWAKE.WRTC.of m == 1 && s.chip.alarm != 0
  | 2 => CPM_DOZEWAKE.WSPI.of m == 1
  | 3 => decide (i < 16) && bitAt (CPM_DOZEWAKE.WDI.of m) i
  | 4 => if i = 0 then s.on PWP_WAKE.WFEED else if i = 1 then s.on PWP_WAKE.WTRIP else decide (i < 5) && bitAt (s.rd PWP_WAKE.WPRES) (i - 2)
  | 5 => decide (i < 2) && s.on TCP_CTRL.WAKE_ATT i
  | _ => false

/-- The hub leaves DOZE or SHIP by its recorded sources (R389, R390): `FAB_EN` goes high. -/
def State.psWake (s : State) : State :=
  let ship := s.chip.target = 2
  let s := if ship then s.pwpPower true else s
  (s.modChip (fun c => { c with phase := .powering, cause := if ship then 5 else 4, target := 0 })).emit (.act "fab_en" [1])

/-- DOZE or SHIP is reached (R388 steps 3 to 6). -/
def State.psReached (s : State) : State :=
  let ship := s.chip.target = 2
  let c := s.chip
  let s := [0, 1].foldl (fun s n => s.fallbackRefresh n true) s
  let s := (s.emit (.act "fab_en" [0])).resetBy (if ship then 5 else 4)
  let s := s.setChip { s.chip with phase := if ship then .ship else .doze, target := c.target, dozeMask := c.dozeMask, alarm := c.alarm, wakes := c.wakes }
  let s := if ship then s.pwpPower false else s
  if c.wakes = 0 ∨ (ship ∧ bitAt c.wakes 0 = false) then s else s.psWake

/-- The configuration service's fields of a domain's idle condition stay 0 (R383). -/
def idleMask (d : RegDesc) (data : Nat) : Nat :=
  if [Reg.JXK_CTRL, Reg.ETH_CTRL, Reg.PCB_CTRL, Reg.DPT_CTRL, Reg.USB_CTRL].any (fun r => r.base == d.base) then
    (d.fields.filter (fun f => f.lsb + f.width ≤ 32)).foldl (fun v f =>
      if [JXK_CTRL.EN, ETH_CTRL.EN, PCB_CTRL.EN, DPT_CTRL.EN, USB_CTRL.EN].any (fun e => e.id == f.id) then v - f.of v * 2 ^ f.lsb else v) data
  else data

/-- The registers of a woken domain are re-applied from the image, past the boot lock (R383). -/
def State.domainRestore (s : State) (d : Nat) : State :=
  if s.awaitsRestore d = false then s
  else
    let s := s.chip.image.foldl (fun s w =>
      if s.domainOf w.1 = d then
        match regMap.findSome? (fun r => (r.indexOf w.1).map (fun i => (r, i))) with
        | some (r, i) => s.writeFields r i (idleMask r w.2)
        | none => s
      else s) s
    s.wr CPM_WAKEF.WAKEF (s.rd CPM_WAKEF.WAKEF - 2 ^ (d - 1))

/-- The uplink-loss policy (R387): its timer starts, or stops. -/
def State.ulpStart (s : State) : State :=
  if s.rd CPM_ULP.ULP_ACT = 0 ∨ s.chip.ulp ∨ s.chip.phase ≠ .running then s
  else (s.modChip (fun c => { c with ulp := true })).raise 0x3F3

def State.ulpStop (s : State) : State := s.modChip (fun c => { c with ulp := false })

end Sys2Proof.Machine
end

