-- ==== Sys2Proof/Machine/Display.lean ====
section
/-! DEFINITION. The display tunnels: video units, stream clock, playout, the AUX proxy and hot-plug (spec/11). -/
namespace Sys2Proof.Machine

def State.dpt (s : State) (d : Nat) : Dp := NMap.get s.dp Dp.init d
def State.setDp (s : State) (d : Nat) (v : Dp) : State := { s with dp := NMap.set s.dp Dp.init d v }
def State.modDp (s : State) (d : Nat) (f : Dp → Dp) : State := s.setDp d (f (s.dpt d))

/-- Event `local` of port `d` (R309). -/
def dptEvent (d n : Nat) : Nat := 0x340 + 16 * d + n

/-- The video and AUX tunnels of port `d` at this hub (R295). -/
def State.videoTix (s : State) (d : Nat) : Option Nat := s.tixAt (0x31 + d)
def State.auxTix (s : State) (d : Nat) : Option Nat := s.tixAt (0x33 + d)

/-- Slots of a tunnel in the transmit table in force. -/
def State.slotCount (s : State) (p x : Nat) : Nat :=
  ((List.range (s.slotsPerSf p)).filter (fun i => s.entry p 0 (s.txTable p) i == x)).length

/-- The stream fits its tunnel (R299): stream clock times bits per pixel against slots times 37.5 or 35.3 Mb/s. -/
def State.streamFits (s : State) (d : Nat) : Bool :=
  let b := s.dpt d
  match s.videoTix d with
  | none => false
  | some x =>
    match s.jxlOf x with
    | none => false
    | some p => decide (b.clk * leAt b.msa 20 2 ≤ 16 * (s.slotCount p x * (if s.protects p x then 35300 else 37500)))

/-- STREAM_FIT_CHECK (R299): at stream start and at a plan shift on the path. -/
def State.streamFitCheck (s : State) (d : Nat) : State :=
  if s.isRoot = false ∨ s.on DPT_CTRL.EN d = false ∨ (s.dpt d).clk = 0 then s
  else if s.streamFits d then (s.wr DPT_STATUS.NOFIT 0 d).wr DPT_STATUS.STREAM 1 d
  else ((s.wr DPT_STATUS.NOFIT 1 d).wr DPT_STATUS.STREAM 0 d).raise (dptEvent d 3)

/-- A unit sent on the video tunnel as flits from FIRST to LAST (R297). -/
def State.unitSend (s : State) (d : Nat) (u : List Byte) : State :=
  match s.videoTix d with
  | none => s
  | some x =>
    match s.jxlOf x with
    | none => s
    | some p => if s.canSend p x then s.queueFlits p x 0 true (flitPayloads u) else s.xmiss p

/-- The bytes a unit's first flit and data take (R297). -/
def unitLength (u : List Byte) : Nat :=
  match byteAt u 0 with
  | 0 => 6 + leAt u 4 2
  | 3 => 6 + byteAt u 1
  | _ => 24

/-- `DP_LINE_RECEIVE` (R297 to R299) at the root: a line, an MSA or an SDP received from the source, as its unit; with an MSA the stream
clock in kHz. A stream starts with the first MSA, or with one that differs in clock or format (log entry 66). -/
def State.dpLine (s : State) (d : Nat) (u : List Byte) (clk : Nat) : State :=
  if s.isRoot = false ∨ s.on DPT_CTRL.EN d = false ∨ byteAt u 0 = 2 ∨ 3 < byteAt u 0 ∨ u.length < unitLength u then s
  else if byteAt u 0 = 1 then
    let b := s.dpt d
    let start := clk != b.clk || u.drop 20 != b.msa.drop 20
    let s := s.modDp d (fun b => { b with msa := u, clk := clk })
    let s := if start then s.streamFitCheck d else s
    if s.on DPT_STATUS.STREAM d then s.unitSend d u else s
  else if s.on DPT_STATUS.STREAM d then
    let s := if byteAt u 0 = 0 then s.setBit DPT_STATUS.DSC (bitAt (byteAt u 1) 1) d else s
    s.unitSend d u
  else s

def execDpLineReceive (d : Fin 2) (unit : List Byte) (clk : Nat) (s : State) : Res := .next (s.dpLine d.val unit clk)

/-- `CLOCK_PAIR_SEND` (R298): pixel count `P` and tree time `t` in units of 2^-16 ns. -/
def State.clockPairSend (s : State) (d pix t : Nat) : State :=
  if s.isRoot ∧ s.on DPT_CTRL.EN d ∧ s.on DPT_STATUS.STREAM d then
    s.unitSend d (fit 24 (le 2 2 ++ le 6 pix ++ le 8 (t / 65536) ++ le 2 t))
  else s

def execClockPairSend (d : Fin 2) (pix : Nat) (t : Nat) (s : State) : Res := .next (s.clockPairSend d.val pix t)

/-- A node port that takes units: on, with its sink attached (R307). -/
def State.dpShows (s : State) (d : Nat) : Bool := !s.isRoot && s.on DPT_CTRL.EN d && s.on DPT_STATUS.SINK d

/-- The first `n` bytes of the playout buffer leave on the main link. -/
def State.playOut (s : State) (d n : Nat) : State :=
  let b := (s.dpt d).buf
  if n = 0 ∨ b.isEmpty then s
  else (s.modDp d (fun v => { v with buf := b.drop n })).emit (.frame (0x31 + d) (b.take n))

/-- Bytes enter the playout buffer; those that find it full are discarded and counted (R302). -/
def State.bufAdd (s : State) (d : Nat) (l : List Byte) : State :=
  let b := (s.dpt d).buf
  let room := 65536 - b.length
  let s := s.modDp d (fun v => { v with buf := b ++ l.take room })
  if l.length ≤ room then s
  else (s.bump DPT_COVERRUN.COUNT d (l.length - room)).raiseOnce (dptEvent d 7)

/-- A line's data with the bytes of lost flits replaced (R303): flit `k` carries bytes 24 k - 6 and on. -/
def conceal (data repl : List Byte) (lost : List Nat) : List Byte :=
  data.zipIdx.map (fun e => if lost.contains 0 || lost.contains ((e.2 + 6) / 24) then repl.getD e.2 0 else e.1)

/-- A line's data shown, and kept for the next line's concealment. -/
def State.lineShow (s : State) (d : Nat) (l : List Byte) : State := (s.modDp d (fun v => { v with line := l })).bufAdd d l

/-- LINE_CONCEAL (R303). -/
def State.lineConceal (s : State) (d : Nat) (data : List Byte) (lost : List Nat) : State :=
  let repl := if s.on DPT_CTRL.CONCEAL d then [] else (s.dpt d).line
  ((s.bump DPT_CCONCEAL.COUNT d).raiseOnce (dptEvent d 6)).lineShow d (conceal data repl lost)

/-- A unit with no lost flit. -/
def State.unitWhole (s : State) (d : Nat) (u : List Byte) : State :=
  match byteAt u 0 with
  | 0 => (s.setBit DPT_STATUS.DSC (bitAt (byteAt u 1) 1) d).lineShow d ((u.drop 6).take (leAt u 4 2))
  | 1 => s.modDp d (fun v => { v with msa := u.take 24 })
  | 3 => s.emit (.act "dp sdp" (d :: ((u.drop 2).take (4 + byteAt u 1)).map (·.toNat)))
  | _ => s

/-- A unit with lost flits (R303): one whose first flit is lost is a line where it is as long as the line before it; a lost MSA, clock
pair or SDP is skipped. -/
def State.unitLost (s : State) (d : Nat) (u : List Byte) (lost : List Nat) : State :=
  let s := s.bump DPT_CVLOSS.COUNT d lost.length
  let old := (s.dpt d).line
  if lost.contains 0 then
    (if u.length = (6 + old.length + 23) / 24 * 24 ∧ old ≠ [] then s.lineConceal d old lost else s)
  else if byteAt u 0 = 0 then s.lineConceal d ((u.drop 6).take (leAt u 4 2)) lost
  else s

/-- `VIDEO_UNIT_RECEIVE` (R297, R302, R303): the unit's flits with the numbers of those lost, and how many bytes have been played out
since the unit before. -/
def State.videoUnit (s : State) (d : Nat) (u : List Byte) (lost : List Nat) (played : Nat) : State :=
  if s.dpShows d = false then s
  else
    let s := (s.wr DPT_STATUS.STREAM 1 d).playOut d played
    if lost.isEmpty then s.unitWhole d u else s.unitLost d u lost

def execVideoUnitReceive (d : Fin 2) (unit : List Byte) (lost : List Nat) (played : Nat) (s : State) : Res :=
  .next (s.videoUnit d.val unit lost played)

/-- `CLOCK_PAIR_RECEIVE` (R300): `err` is the error of the output clock in clocks. -/
def State.clockPair (s : State) (d pix t err : Nat) : State :=
  if s.dpShows d = false then s
  else
    let g := if err < 16 then (if (s.dpt d).good < 16 then (s.dpt d).good + 1 else 16) else 0
    let s := s.modDp d (fun v => { v with pair := some (pix % 2 ^ 48, t), good := g })
    if g = 16 ∧ s.on DPT_STATUS.LOCK d = false then (s.wr DPT_STATUS.LOCK 1 d).raise (dptEvent d 4) else s

def execClockPairReceive (d : Fin 2) (pix : Nat) (t : Nat) (err : Nat) (s : State) : Res := .next (s.clockPair d.val pix t err)

/-- `CLOCK_PAIR_LOST` (R301). -/
def State.clockPairLost (s : State) (d : Nat) : State :=
  if s.dpShows d = false ∨ (s.dpt d).pair = none then s
  else ((s.modDp d (fun v => { v with pair := none, good := 0 })).wr DPT_STATUS.LOCK 0 d).raise (dptEvent d 5)

def execClockPairLost (d : Fin 2) (s : State) : Res := .next (s.clockPairLost d.val)

/-- `PLAYOUT_UNDERRUN` (R302): what the buffer held has been played out and a byte is due. -/
def State.underrun (s : State) (d : Nat) : State :=
  if s.dpShows d = false then s
  else ((s.playOut d 65536).bump DPT_CUNDERRUN.COUNT d).raiseOnce (dptEvent d 7)

def execPlayoutUnderrun (d : Fin 2) (s : State) : Res := .next (s.underrun d.val)

/-- An AUX message (R304). -/
def auxMessage (mtype mseq cmd addr len : Nat) (data : List Byte) : List Byte :=
  le 1 mtype ++ le 1 mseq ++ le 1 (cmd % 16) ++ le 3 (addr % 2 ^ 20) ++ le 1 len ++ le 1 0 ++ data

def State.auxSend (s : State) (d : Nat) (b : List Byte) : State :=
  match s.auxTix d with
  | none => s
  | some x => s.endpointSend x 0 b

/-- Reply codes of AUX (log entry 65). -/
def auxAck : Nat := 0
def auxNack : Nat := 1
def auxDefer : Nat := 2

/-- The proxy's answer to the source. -/
def State.auxAnswer (s : State) (d code : Nat) (data : List Byte) : State :=
  let s := s.emit (.act "aux reply" (d :: code :: data.map (·.toNat)))
  if code = auxDefer then s.bump DPT_CAUXDEFER.COUNT d else s

def auxIsNative (cmd : Nat) : Bool := decide (8 ≤ cmd)
def auxIsRead (cmd : Nat) : Bool := cmd == 9

/-- Link rates by code 1 to 4, in DPCD units. -/
def dpRateCode (v : Nat) : Nat := if v < 0x0A then 1 else if v < 0x14 then 2 else if v < 0x1E then 3 else 4
def dpRateDpcd (r : Nat) : Nat := if r = 1 then 0x06 else if r = 2 then 0x0A else if r = 3 then 0x14 else if r = 4 then 0x1E else 0
def State.dpMaxRate (s : State) (d : Nat) : Nat := 4 - s.rd DPT_CTRL.MAXRATE d
def State.dpMaxLanes (s : State) (d : Nat) : Nat := 4 / 2 ^ s.rd DPT_CTRL.MAXLANES d

def minNat (a b : Nat) : Nat := if a ≤ b then a else b

/-- The mirror as the source reads it (R305). -/
def State.mirrorByte (s : State) (d i : Nat) : Byte :=
  let b := s.dpt d
  let v := byteAt b.mirror i
  if i = 1 then BitVec.ofNat 8 (dpRateDpcd (minNat (s.dpMaxRate d) b.nodeRate))
  else if i = 2 then BitVec.ofNat 8 (v / 32 * 32 + minNat (s.dpMaxLanes d) b.nodeLanes)
  else if i = 0x21 then BitVec.ofNat 8 (v / 2 * 2)
  else BitVec.ofNat 8 v

/-- The root's own link registers: those of 0x001xx read as written, status bytes of 0x002xx are free (log entry 65). -/
def State.ownLink (s : State) (d cmd addr len : Nat) (data : List Byte) : State :=
  if auxIsRead cmd then
    if addr < 0x200 then
      s.auxAnswer d auxAck ((List.range len).map (fun i => BitVec.ofNat 8 (NMap.get (s.dpt d).dpcd 0 (addr + i))))
    else s.drew.auxAnswer d auxAck (le len s.freeVal)
  else
    let m := data.zipIdx.foldl (fun m e => NMap.set m 0 (addr + e.2) e.1.toNat) (s.dpt d).dpcd
    (s.modDp d (fun v => { v with dpcd := m })).auxAnswer d auxAck []

/-- A request for the node (R305): one at a time; its repeat gets the stored reply. -/
def State.auxForward (s : State) (d cmd addr len : Nat) (data : List Byte) : State :=
  match (s.dpt d).aux with
  | none =>
    let n := (s.dpt d).mseq
    let r : AuxReq := { cmd := cmd, addr := addr, len := len, data := data, mseq := n, reply := none }
    let s := s.modDp d (fun v => { v with aux := some r, mseq := (n + 1) % 256 })
    ((s.auxSend d (auxMessage 1 n cmd addr len data)).bump DPT_CAUXFWD.COUNT d).auxAnswer d auxDefer []
  | some r =>
    if r.cmd = cmd ∧ r.addr = addr ∧ r.len = len ∧ r.data = data then
      match r.reply with
      | some a => (s.modDp d (fun v => { v with aux := none })).auxAnswer d a.1 a.2
      | none => s.auxAnswer d auxDefer []
    else s.auxAnswer d auxDefer []

/-- `AUX_REQUEST` (R305) at the root: command, address, length and data as the source sent them. -/
def State.auxRequest (s : State) (d cmd addr len : Nat) (data : List Byte) : State :=
  if s.isRoot = false ∨ s.on DPT_CTRL.EN d = false ∨ 16 < len then s
  else if auxIsNative cmd = false then s.auxForward d cmd addr len data
  else if auxIsRead cmd ∧ addr ≤ 0xFF then s.auxAnswer d auxAck ((List.range len).map (fun i => s.mirrorByte d (addr + i)))
  else if addr = 0x201 ∧ auxIsRead cmd then s.auxAnswer d auxAck (le len (s.dpt d).irq)
  else if 0x100 ≤ addr ∧ addr ≤ 0x2FF ∧ addr ≠ 0x201 then s.ownLink d cmd addr len data
  else if 0x68000 ≤ addr ∧ addr ≤ 0x6FFFF then s.auxAnswer d auxNack []
  else s.auxForward d cmd addr len data

def execAuxRequest (d : Fin 2) (cmd : Fin 16) (addr : Fin 1048576) (len : Fin 17) (data : List Byte) (s : State) : Res :=
  .next (s.auxRequest d.val cmd.val addr.val len.val data)

/-- An I2C access to the EDID cache (R305): a write to 0x50 sets the offset and one to 0x30 the segment. -/
def State.edidAccess (s : State) (d cmd addr len : Nat) (data : List Byte) : List Byte × State :=
  let b := s.dpt d
  if cmd % 4 = 1 then
    let i := b.edidSeg * 256 + b.edidAt
    (fit len ((b.edid.drop i).take len), s.modDp d (fun v => { v with edidAt := (b.edidAt + len) % 256 }))
  else if data.isEmpty then ([], s)
  else if addr = 0x30 then ([], s.modDp d (fun v => { v with edidSeg := byteAt data 0 }))
  else ([], s.modDp d (fun v => { v with edidAt := byteAt data 0 }))

/-- `AUX_MESSAGE_RECEIVE` (R304, R305) at a node: a forwarded request, with the code and data of the sink's answer where the sink is
asked. -/
def State.auxMessageReceive (s : State) (d : Nat) (b : List Byte) (code : Nat) (answer : List Byte) : State :=
  let cmd := byteAt b 2 % 16
  let addr := leAt b 3 3 % 2 ^ 20
  let len := byteAt b 6
  if s.isRoot ∨ s.on DPT_CTRL.EN d = false ∨ byteAt b 0 ≠ 1 then s
  else if auxIsNative cmd = false ∧ (addr = 0x50 ∨ addr = 0x30) ∧ s.on DPT_STATUS.EDID d then
    let r := s.edidAccess d cmd addr len (b.drop 8)
    r.2.auxSend d (auxMessage 2 (byteAt b 1) auxAck addr r.1.length r.1)
  else s.auxSend d (auxMessage 2 (byteAt b 1) code addr answer.length answer)

def execAuxMessageReceive (d : Fin 2) (msg : List Byte) (code : Fin 16) (answer : List Byte) (s : State) : Res :=
  .next (s.auxMessageReceive d.val msg code.val answer)

/-- `AUX_REPLY_RECEIVE` (R305) at the root. -/
def State.auxReply (s : State) (d : Nat) (b : List Byte) : State :=
  match (s.dpt d).aux with
  | none => s
  | some r =>
    if s.isRoot ∧ byteAt b 0 = 2 ∧ byteAt b 1 = r.mseq ∧ r.reply = none then
      let a : AuxReq := { r with reply := some (byteAt b 2 % 16, (b.drop 8).take (byteAt b 6)) }
      s.modDp d (fun v => { v with aux := some a })
    else s

def execAuxReplyReceive (d : Fin 2) (msg : List Byte) (s : State) : Res := .next (s.auxReply d.val msg)

/-- The pending request gets AUX_NACK, which its repeat reads (R305). -/
def State.auxFail (s : State) (d : Nat) : State :=
  match (s.dpt d).aux with
  | none => s
  | some r =>
    if r.reply = none then
      let a : AuxReq := { r with reply := some (auxNack, []) }
      (s.modDp d (fun v => { v with aux := some a })).bump DPT_CAUXFAIL.COUNT d
    else s

/-- `AUX_TIMEOUT` (R305): 10 ms without a reply. -/
def execAuxTimeout (d : Fin 2) (s : State) : Res := .next (if s.isRoot then s.auxFail d.val else s)

/-- Training gives the highest rate and lane count that both ends support (R306). -/
def State.dpTrained (s : State) (d : Nat) (ok fec : Bool) : State :=
  let c := (s.dpt d).caps
  if ok then
    ((((s.wr DPT_STATUS.LINK 1 d).wr DPT_STATUS.RATE (minNat (s.dpMaxRate d) (dpRateCode (byteAt c 1))) d).wr DPT_STATUS.LANES
      (minNat (s.dpMaxLanes d) (byteAt c 2 % 32)) d).setBit DPT_STATUS.FEC fec d)
  else ((((s.wr DPT_STATUS.LINK 0 d).wr DPT_STATUS.RATE 0 d).wr DPT_STATUS.LANES 0 d).wr DPT_STATUS.FEC 0 d).raise (dptEvent d 2)

/-- Step 4 of R306: mirror, attach and the presence source. The attach message names the trained rate and lanes (log entry 67). -/
def State.dpAnnounce (s : State) (d : Nat) : State :=
  let n := (s.dpt d).mseq
  let s := s.modDp d (fun v => { v with mseq := (n + 2) % 256 })
  let s := ((s.wr DPT_STATUS.SINK 1 d).raise (dptEvent d 0)).auxSend d (auxMessage 6 n 0 0 0 (fit 256 (s.dpt d).caps))
  (s.auxSend d (auxMessage 3 ((n + 1) % 256) 0 0 2 (le 1 (s.rd DPT_STATUS.RATE d) ++ le 1 (s.rd DPT_STATUS.LANES d)))).reportPresence

/-- A training attempt of R306: success announces the sink if it is not announced yet. -/
def State.dpTrain (s : State) (d : Nat) (ok fec : Bool) : State :=
  let s := s.dpTrained d ok fec
  if ok ∧ s.on DPT_STATUS.SINK d = false then s.dpAnnounce d else s

/-- `SINK_ATTACH` (R306) at a node: DPCD 0x00000 to 0x000FF, the EDID, and whether training succeeded, with FEC. -/
def State.sinkAttach (s : State) (d : Nat) (caps edid : List Byte) (ok fec : Bool) : State :=
  if s.isRoot ∨ s.on DPT_CTRL.EN d = false ∨ s.on DPT_STATUS.EDID d then s
  else
    ((s.modDp d (fun v => { v with caps := fit 256 caps, edid := edid.take 512, edidAt := 0, edidSeg := 0 })).wr DPT_STATUS.EDID 1 d).dpTrain
      d ok fec

def execSinkAttach (d : Fin 2) (caps edid : List Byte) (ok fec : Bool) (s : State) : Res := .next (s.sinkAttach d.val caps edid ok fec)

/-- `DP_TRAIN_RETRY` (R306). -/
def execDpTrainRetry (d : Fin 2) (ok fec : Bool) (s : State) : Res :=
  .next (if s.isRoot ∨ s.on DPT_CTRL.EN d.val = false ∨ s.on DPT_STATUS.EDID d.val = false ∨ s.on DPT_STATUS.LINK d.val then s
    else s.dpTrain d.val ok fec)

/-- `SINK_DETACH` (R307) at a node: output stops, the EDID is forgotten, and the root hears of it. -/
def State.sinkDetach (s : State) (d : Nat) : State :=
  if s.isRoot ∨ s.on DPT_STATUS.EDID d = false then s
  else
    let n := (s.dpt d).mseq
    let s := [DPT_STATUS.SINK, DPT_STATUS.LINK, DPT_STATUS.RATE, DPT_STATUS.LANES, DPT_STATUS.FEC, DPT_STATUS.DSC, DPT_STATUS.STREAM,
      DPT_STATUS.LOCK, DPT_STATUS.EDID].foldl (fun s f => s.wr f 0 d) s
    let s := s.modDp d (fun _ => { Dp.init with mseq := (n + 1) % 256 })
    (s.auxSend d (auxMessage 4 n 0 0 0 [])).reportPresence

def execSinkDetach (d : Fin 2) (s : State) : Res := .next (s.sinkDetach d.val)

/-- `SINK_IRQ_HPD` (R306): for link status the node retrains; any other cause is sent on, with DPCD 0x00201. -/
def State.sinkIrq (s : State) (d : Nat) (link ok fec : Bool) (vector : Nat) : State :=
  if s.isRoot ∨ s.on DPT_CTRL.EN d = false ∨ s.on DPT_STATUS.EDID d = false then s
  else if link then s.dpTrain d ok fec
  else
    let n := (s.dpt d).mseq
    (s.modDp d (fun v => { v with mseq := (n + 1) % 256 })).auxSend d (auxMessage 5 n 0 0x201 1 (le 1 vector))

def execSinkIrqHpd (d : Fin 2) (link ok fec : Bool) (vector : Fin 256) (s : State) : Res :=
  .next (s.sinkIrq d.val link ok fec vector.val)

/-- The conditions of R307 for HPD high that the root can see. -/
def State.hpdShould (s : State) (d : Nat) : Bool :=
  s.on DPT_CTRL.EN d && (s.dpt d).attached && !(s.dpt d).away && (match s.videoTix d, s.auxTix d with
    | some v, some a => (match s.jxlOf v, s.jxlOf a with
      | some p, some q => s.linkActive p && s.linkActive q && s.ownsSlot p 0 (s.txTable p) v && s.slotsBothWays q a
      | _, _ => false)
    | _, _ => false)

/-- The root's HPD follows R307; the pending AUX request fails with it (R305). -/
def State.hpdRefresh (s : State) (d : Nat) : State :=
  let want := s.hpdShould d
  if s.isRoot = false ∨ want = s.on DPT_STATUS.SINK d then s
  else if want then ((s.wr DPT_STATUS.SINK 1 d).raise (dptEvent d 0)).emit (.act "DP HPD" [d, 1])
  else (((s.wr DPT_STATUS.SINK 0 d).raise (dptEvent d 1)).emit (.act "DP HPD" [d, 0])).auxFail d

/-- `ROOT_ATTACH_RECEIVE` (R304, R306, R307): mirror, attach, detach and IRQ messages at the root. -/
def State.rootAttach (s : State) (d : Nat) (b : List Byte) : State :=
  if s.isRoot = false ∨ s.on DPT_CTRL.EN d = false then s
  else
    match byteAt b 0 with
    | 3 => (s.modDp d (fun v => { v with attached := true, nodeRate := byteAt b 8, nodeLanes := byteAt b 9 })).hpdRefresh d
    | 4 => (s.modDp d (fun v => { v with attached := false })).hpdRefresh d
    | 5 =>
      let s := s.modDp d (fun v => { v with irq := byteAt b 8 })
      if s.on DPT_STATUS.SINK d then s.emit (.act "DP HPD pulse" [d]) else s
    | 6 => s.modDp d (fun v => { v with mirror := fit 256 (b.drop 8) })
    | _ => s

def execRootAttachReceive (d : Fin 2) (msg : List Byte) (s : State) : Res := .next (s.rootAttach d.val msg)

/-- The root hears that a hub is lost, or hears from it again: the path to its display ports (R307; log entry 106). -/
def State.dpPath (s : State) (hub : Nat) (away : Bool) : State :=
  [0, 1].foldl (fun s d =>
    match s.videoTix d with
    | some x => if Config.farHub (s.tidOf x) % 64 = hub then s.modDp d (fun v => { v with away := away }) else s
    | none => s) s

/-- Both ports after a link or plan change (R307). -/
def State.dpLinkChange (s : State) : State :=
  if s.isRoot then [0, 1].foldl (fun s d => s.hpdRefresh d) s else s

end Sys2Proof.Machine
end

