-- ==== Sys2Proof/Machine/Tlp.lean ====
section
/-! DEFINITION. Transaction-layer packets of PCI Express as the bridge reads and makes them (R279, R280; log entry 58). -/
namespace Sys2Proof.Machine

def tlpFmt (b : List Byte) : Nat := byteAt b 0 / 32 % 4
def tlpType (b : List Byte) : Nat := byteAt b 0 % 32

/-- Bytes of the header: 12 or 16. -/
def tlpHead (b : List Byte) : Nat := if tlpFmt b % 2 = 1 then 16 else 12
def tlpHasData (b : List Byte) : Bool := decide (2 ≤ tlpFmt b)

/-- Length in bytes that the header gives. -/
def tlpBytes (b : List Byte) : Nat :=
  let n := byteAt b 2 % 4 * 256 + byteAt b 3
  4 * (if n = 0 then 1024 else n)

def tlpPoisoned (b : List Byte) : Bool := bitAt (byteAt b 2) 6

/-- Requester ID and tag of a request. -/
def tlpKey (b : List Byte) : Nat := beAt b 4 2 * 256 + byteAt b 6

/-- Address of a memory request. -/
def tlpAddr (b : List Byte) : Nat :=
  let a := if tlpHead b = 16 then beAt b 8 8 else beAt b 8 4
  a / 4 * 4

def tlpData (b : List Byte) : List Byte := if tlpHasData b then (b.drop (tlpHead b)).take (tlpBytes b) else []

/-- The header, its data and its digest are all there. -/
def tlpWhole (b : List Byte) : Bool :=
  b.length == tlpHead b + (if tlpHasData b then tlpBytes b else 0) + (if bitAt (byteAt b 2) 7 then 4 else 0)

def tlpIsMem (b : List Byte) : Bool := tlpType b == 0
def tlpIsCfg (b : List Byte) : Bool := tlpType b == 4 || tlpType b == 5
def tlpIsIo (b : List Byte) : Bool := tlpType b == 2
def tlpIsLocked (b : List Byte) : Bool := tlpType b == 1
def tlpIsMsg (b : List Byte) : Bool := tlpType b / 8 == 2
def tlpIsCpl (b : List Byte) : Bool := tlpType b == 10
def tlpPosted (b : List Byte) : Bool := tlpIsMsg b || (tlpIsMem b && tlpHasData b)

/-- The sub-channel of a TLP (R89): 0 P, 1 NP, 2 CPL. -/
def tlpSub (b : List Byte) : Nat := if tlpIsCpl b then 2 else if tlpPosted b then 0 else 1

/-- Target of a configuration request: bus, device and function, register word, byte enables. -/
def cfgBus (b : List Byte) : Nat := byteAt b 8
def cfgDev (b : List Byte) : Nat := byteAt b 9 / 8
def cfgFn (b : List Byte) : Nat := byteAt b 9 % 8
def cfgDw (b : List Byte) : Nat := byteAt b 10 % 16 * 64 + byteAt b 11 / 4

/-- Bits of a word that the first byte enables let through. -/
def cfgMask (b : List Byte) : Nat :=
  ((List.range 4).map (fun i => if bitAt (byteAt b 7) i then 255 * 256 ^ i else 0)).sum

/-- A configuration request made Type 0. -/
def cfgAsType0 (b : List Byte) : List Byte := le 1 (byteAt b 0 / 32 * 32 + 4) ++ b.drop 1

/-- Message codes (byte 7) that R279 forwards: INTx, PME and ERR. -/
def msgCode (b : List Byte) : Nat := byteAt b 7
def msgIsIntx (b : List Byte) : Bool := decide (0x20 ≤ msgCode b) && decide (msgCode b ≤ 0x27)
def msgIsPme (b : List Byte) : Bool := [0x14, 0x18, 0x19, 0x1B].contains (msgCode b)
def msgIsErr (b : List Byte) : Bool := [0x30, 0x31, 0x33].contains (msgCode b)

/-- Requester ID and tag that a completion answers, its status and the bus of the requester. -/
def cplKey (b : List Byte) : Nat := beAt b 8 2 * 256 + byteAt b 10
def cplStatus (b : List Byte) : Nat := byteAt b 6 / 32
def cplBus (b : List Byte) : Nat := byteAt b 8

/-- Bytes that a non-posted request can return (R282). -/
def npReturn (b : List Byte) : Nat := if tlpIsMem b then tlpBytes b else 4

/-- A completion of a request: status, data, and the bytes still to come from `addr` on with these. -/
def cplFor (head : List Byte) (status : Nat) (data : List Byte) (left addr : Nat) : List Byte :=
  let dws := data.length / 4
  let target := if tlpIsCfg head then beAt head 8 2 else 0
  le 1 (if data.isEmpty then 0x0A else 0x4A) ++ (head.drop 1).take 1
    ++ be 2 (byteAt head 2 / 16 % 4 * 4096 + dws % 1024) ++ be 2 target ++ be 2 (status * 8192 + left % 4096)
    ++ (head.drop 4).take 3 ++ le 1 (addr % 128)

/-- An Unsupported Request completion. -/
def cplUr (head : List Byte) : List Byte := cplFor head 1 [] (npReturn head) (if tlpIsMem head then tlpAddr head else 0)

/-- Completions of a read with data, at most 512 bytes each (R278). -/
def cplData (head : List Byte) (data : List Byte) (left addr fuel : Nat) : List (List Byte) :=
  match fuel with
  | 0 => []
  | fuel + 1 =>
    if data.isEmpty then []
    else (cplFor head 0 (data.take 512) left addr ++ data.take 512)
      :: cplData head (data.drop 512) (left - 512) (addr + 512) fuel

/-- A memory read with another length. -/
def readOf (b : List Byte) (bytes : Nat) : List Byte :=
  b.take 2 ++ be 2 (beAt b 2 2 / 1024 * 1024 + bytes / 4 % 1024) ++ b.drop 4

/-- A 64-bit memory write of one word. -/
def msiWrite (addr data : Nat) : List Byte :=
  le 1 0x60 ++ le 1 0 ++ be 2 1 ++ be 2 0 ++ le 1 0 ++ le 1 0x0F ++ be 8 (addr / 4 * 4) ++ le 4 data

/-- An INTx message: wire 0 to 3, asserted or not. -/
def intxMsg (wire : Nat) (on : Bool) : List Byte :=
  le 1 0x34 ++ le 3 0 ++ le 3 0 ++ le 1 ((if on then 0x20 else 0x24) + wire % 4) ++ le 8 0

end Sys2Proof.Machine
end

