-- ==== Sys2Proof/Machine/PcieOps.lean ====
section
/-! DEFINITION. The PCIe bridge: items and credits (R280 to R282, R288), the configuration proxy (R277, R278), presence, arrival and
departure of vDSPs (R283 to R286), and read-ahead (R289, R290). -/
namespace Sys2Proof.Machine

def State.modPcb (s : State) (f : Pcb → Pcb) : State := { s with pcb := f s.pcb }
def State.vd (s : State) (c : Nat) : Vdsp := NMap.get s.pcb.vdsp Vdsp.init c
def State.setVd (s : State) (c : Nat) (v : Vdsp) : State := s.modPcb (fun b => { b with vdsp := NMap.set b.vdsp Vdsp.init c v })
def State.modVd (s : State) (c : Nat) (f : Vdsp → Vdsp) : State := s.setVd c (f (s.vd c))

/-- A TLP issued on the bridge's own PCIe link. -/
def State.pcieLink (s : State) (b : List Byte) : State := s.emit (.frame 0x30 b)

/-- The TID of context `c`'s storage tunnel. -/
def State.pcieTid (s : State) (c : Nat) : Nat :=
  match s.pcieTix c with
  | some x => s.tidOf x
  | none => 0

/-- The hub at the far end of context `c`'s tunnel (log entry 31). -/
def State.vdspHub (s : State) (c : Nat) : Nat := Config.farHub (s.pcieTid c) % 64

/-- An item (R280). -/
def pcieItemBytes (ityp : Nat) (y : List Byte) : List Byte := le 2 y.length ++ le 1 ityp ++ le 5 0 ++ y

/-- An item sent on a sub-channel as one frame of the tunnel with `IDENT` 0. -/
def State.itemSend (s : State) (c sub ityp : Nat) (y : List Byte) : State :=
  match s.pcieTix c with
  | none => s
  | some x => s.endpointSend x sub (pcieItemBytes ityp y)

/-- Credits granted (R281). -/
def pcieGrant (sub : Nat) : Nat := if sub = 3 then 16 else 32

/-- Credit of a metered sub-channel: the grant less the sent count plus the freed count received, modulo 65,536 (R281). -/
def Vdsp.credit (v : Vdsp) (sub : Nat) : Nat :=
  (pcieGrant sub + 65536 - NMap.get v.sent 0 sub % 65536 + NMap.get v.acked 0 sub) % 65536

/-- One more item sent, or freed, on a sub-channel. -/
def Vdsp.noteSent (v : Vdsp) (sub : Nat) : Vdsp := { v with sent := NMap.set v.sent 0 sub ((NMap.get v.sent 0 sub + 1) % 65536) }
def Vdsp.noteFreed (v : Vdsp) (sub : Nat) : Vdsp := { v with freed := NMap.set v.freed 0 sub ((NMap.get v.freed 0 sub + 1) % 65536) }

/-- `PCB_VOUT` at the root. -/
def State.vout (s : State) (c : Nat) : State :=
  if s.isRoot then
    (s.wr PCB_VOUT.NP (if (s.vd c).outNp.length < 32 then (s.vd c).outNp.length else 32) c).wr PCB_VOUT.PCRED
      (if (s.vd c).present then (s.vd c).credit 0 else 0) c
  else s

/-- An accepted item leaves: its credit is taken, and the header of a posted TLP is kept for an ERROR item (log entry 63). -/
def State.itemGo (s : State) (c sub : Nat) (b : List Byte) : State :=
  let s := s.modVd c (fun v =>
    let v := v.noteSent sub
    if sub = 0 then { v with sentHeads := (b.take (tlpHead b) :: v.sentHeads).take 32 } else v)
  s.itemSend c sub 0 b

/-- Waiting items leave in the order accepted, except that P may pass stalled NP and CPL (R90). `any` and `pst` say that an earlier
item, or an earlier P, stays. -/
def State.drainItems (s : State) (c : Nat) (l : List (Nat × List Byte)) (any pst : Bool) : State × List (Nat × List Byte) :=
  match l with
  | [] => (s, [])
  | e :: r =>
    let free := e.1 == 2 || decide (0 < (s.vd c).credit e.1)
    if free && !(if e.1 = 0 then pst else any) then (s.itemGo c e.1 e.2).drainItems c r any pst
    else
      let k := s.drainItems c r true (pst || e.1 == 0)
      (k.1, e :: k.2)

def State.pcieDrain (s : State) (c : Nat) : State :=
  let k := s.drainItems c (s.vd c).waiting false false
  (k.1.modVd c (fun v => { v with waiting := k.2 })).vout c

/-- A TLP is accepted for the tunnel of context `c`. -/
def State.itemAccept (s : State) (c sub : Nat) (b : List Byte) : State :=
  (s.modVd c (fun v => { v with waiting := v.waiting ++ [(sub, b)] })).pcieDrain c

/-- Completion buffer of one bridge (R282). -/
def State.cplBuffer (s : State) : Nat := if s.isRoot then 16384 else 65536

/-- Bytes of completion buffer reserved. -/
def Vdsp.reserved (v : Vdsp) : Nat := (v.outNp.map (fun r => r.len)).sum

def npReqOf (b : List Byte) : NpReq :=
  { key := tlpKey b, head := b.take (tlpHead b), addr := if tlpIsMem b then tlpAddr b else 0, len := npReturn b,
    want := npReturn b, done := 0, keep := true }

/-- Requests that wait for buffer space enter in order while there is room. -/
def State.npEnter (s : State) (c : Nat) (l : List (List Byte)) : State :=
  match l with
  | [] => s.modVd c (fun v => { v with hold := [] })
  | b :: r =>
    if (s.vd c).reserved + npReturn b ≤ s.cplBuffer then
      ((s.modVd c (fun v => { v with outNp := v.outNp ++ [npReqOf b] })).itemAccept c 1 b).npEnter c r
    else s.modVd c (fun v => { v with hold := b :: r })

/-- A non-posted TLP is forwarded once its completion fits (R282). -/
def State.npAccept (s : State) (c : Nat) (b : List Byte) : State := s.npEnter c ((s.vd c).hold ++ [b])

/-- A request leaves the outstanding list and frees its reservation. -/
def State.npDone (s : State) (c key : Nat) : State :=
  let s := s.modVd c (fun v => { v with outNp := v.outNp.filter (fun r => r.key != key) })
  (s.npEnter c (s.vd c).hold).vout c

/-- A late completion is discarded (R285, R287). -/
def State.cplLate (s : State) : State := s.bump PCB_CPLLATE.COUNT

/-- Something not forwarded (R279, R280). -/
def State.pcieUnsup (s : State) : State := (s.bump PCB_UNSUP.COUNT).raiseOnce Ev.PCB_UNSUP_SEEN

/-- A failed posted TLP is reported to the far side by an ERROR item, or lost where its credit is exhausted (R288). -/
def State.pcieErr (s : State) (c cause : Nat) (b : List Byte) : State :=
  if 0 < (s.vd c).credit 3 then
    let t := s.now
    let s := s.drew.modVd c (fun v => v.noteSent 3)
    s.itemSend c 3 2 (peWords (s.pcieTid c) cause 0 (if tlpIsMem b then tlpAddr b else 0) (tlpData b).length t)
  else s.bump TUN_PELOST.COUNT

/-- A posted TLP discarded because its vDSP is gone (R285). -/
def State.pcieDropP (s : State) (c : Nat) (b : List Byte) : State :=
  let t := s.now
  (s.drew.bump PCB_PDISC.COUNT).postedError (s.pcieTid c) pePath 0 (if tlpIsMem b then tlpAddr b else 0) (tlpData b).length t

/-- Configuration words of function 0 (the upstream port) and 1 + c (vDSP c); from 512 on, words of the capabilities. -/
def State.cfgWord (s : State) (fn w : Nat) : Nat := NMap.get s.pcb.cfg 0 (fn * 1024 + w)
def State.setCfg (s : State) (fn w v : Nat) : State :=
  s.modPcb (fun b => { b with cfg := NMap.set b.cfg 0 (fn * 1024 + w) (v % 2 ^ 32) })

/-- Capability words with a meaning here. -/
def capLink : Nat := 512
def capSlotCap : Nat := 513
def capSlot : Nat := 514
def capDev2 : Nat := 515
def capAer : Nat := 516
def capHead : Nat := 517
def capMsi : Nat := 521
def capAcs : Nat := 526

/-- The capability word at a place in configuration space. -/
def capWordAt (fn dw : Nat) : Option Nat :=
  let e := Config.pcieCapAt fn 1
  let m := Config.pcieCapAt fn 2
  let a := Config.pcieCapAt fn 3
  if dw = e + 4 then some capLink
  else if dw = e + 5 then some capSlotCap
  else if dw = e + 6 then some capSlot
  else if dw = e + 10 then some capDev2
  else if dw = a + 1 then some capAer
  else if a + 7 ≤ dw ∧ dw < a + 11 then some (capHead + (dw - (a + 7)))
  else if m ≤ dw ∧ dw < m + 5 then some (capMsi + (dw - m))
  else if dw = Config.pcieCapAt fn 4 + 1 then some capAcs
  else none

/-- What a function's capability word reads. -/
def State.capRead (s : State) (fn w : Nat) : Nat :=
  let v := s.cfgWord fn w
  let up := 1 ≤ fn ∧ (s.vd (fn - 1)).present
  if w = capLink then v % 65536 + (if 1 ≤ fn then 65536 * s.rd PCB_VDSP.SPEED (fn - 1) + 2 ^ 20 * s.rd PCB_VDSP.WIDTH (fn - 1)
      else 65536 * s.rd PCB_STATUS.SPEED + 2 ^ 20 * s.rd PCB_STATUS.WIDTH) + (if up then 2 ^ 29 else 0)
  else if w = capSlotCap then 0x60
  else if w = capSlot then v + (if up then 2 ^ 22 else 0)
  else v

/-- What a configuration word reads; `none` where the spec gives it no place or meaning. -/
def State.cfgRead (s : State) (fn dw : Nat) : Option Nat :=
  let v := s.cfgWord fn dw
  if dw = 0 then some (leAt s.pcb.ids 0 4)
  else if dw = 1 then some (v + 0x00100000)
  else if dw = 2 then some (0x060400 * 256 + byteAt s.pcb.ids 8)
  else if dw = 3 then some (v + 0x00010000)
  else if dw = 9 then some (v + 0x00010001)
  else if dw = 13 then some (Config.pcieCapAt fn 0 * 4 % 256)
  else if dw < 16 then some v
  else (capWordAt fn dw).map (fun w => s.capRead fn w)

/-- Bits that a configuration write changes. -/
def cfgWritable (dw : Nat) : Nat :=
  if dw = 1 then 0x00000546
  else if dw = 3 then 0x000000FF
  else if dw = 6 then 0x00FFFFFF
  else if dw = 8 then 0xFFF0FFF0
  else if dw = 9 then 0xFFF0FFF0
  else if dw = 10 ∨ dw = 11 then 0xFFFFFFFF
  else if dw = 15 then 0x004300FF
  else if dw = capLink ∨ dw = capSlot then 0x0000FFFF
  else if dw = capDev2 then 0x00000020
  else if dw = capMsi then 0x00010000
  else if dw = capMsi + 1 then 0xFFFFFFFC
  else if dw = capMsi + 2 then 0xFFFFFFFF
  else if dw = capMsi + 3 then 0x0000FFFF
  else if dw = capMsi + 4 then 0x00000001
  else if dw = capAcs then 0xFFFF0000
  else 0

/-- Bits that a configuration write of 1 clears. -/
def cfgClears (dw : Nat) : Nat :=
  if dw = capSlot then 0x01180000 else if dw = capAer then 0xFFFFFFFF else 0

/-- A configuration write; `m` is what the byte enables let through. -/
def State.cfgWrite (s : State) (fn dw m data : Nat) : State :=
  match (if dw < 16 then some dw else capWordAt fn dw) with
  | none => s
  | some w =>
    let v := s.cfgWord fn w
    let k := cfgWritable w &&& m
    let c := cfgClears w &&& m &&& data
    let kept := v - (v &&& k)
    s.setCfg fn w (kept - (kept &&& c) + (data &&& k))

/-- Bus numbers and memory windows of a function. -/
def State.secBus (s : State) (fn : Nat) : Nat := bits (s.cfgWord fn 6) 8 8
def State.subBus (s : State) (fn : Nat) : Nat := bits (s.cfgWord fn 6) 16 8

def State.inWindow (s : State) (fn a : Nat) : Bool :=
  let m := s.cfgWord fn 8
  let p := s.cfgWord fn 9
  bitAt (s.cfgWord fn 1) 1 &&
  ((decide (bits m 4 12 * 2 ^ 20 ≤ a) && decide (a < (bits m 20 12 + 1) * 2 ^ 20)) ||
   (decide (bits p 4 12 * 2 ^ 20 + s.cfgWord fn 10 * 2 ^ 32 ≤ a) &&
    decide (a < (bits p 20 12 + 1) * 2 ^ 20 + s.cfgWord fn 11 * 2 ^ 32)))

/-- vDSP `c` is present in configuration space (R277). -/
def State.vdspExists (s : State) (c : Nat) : Bool := decide (c ≤ 30) && (s.pcieTix c).isSome

/-- The vDSP below which an address, or a bus, lies. -/
def State.vdspOfAddr (s : State) (a : Nat) : Option Nat := (List.range 31).find? (fun c => s.vdspExists c && s.inWindow (c + 1) a)
def State.vdspOfBus (s : State) (bus : Nat) : Option Nat :=
  (List.range 31).find? (fun c => s.vdspExists c && s.secBus (c + 1) != 0 && decide (s.secBus (c + 1) ≤ bus) && decide (bus ≤ s.subBus (c + 1)))

/-- Bytes of a read-ahead entry that no completion has used. -/
def RaEnt.unused (e : RaEnt) : Nat := (e.data.filter (fun b => !b.2)).length

/-- Read-ahead entries dropped, and the bytes no completion has used (R290). -/
def State.raDrop (s : State) (p : RaEnt → Bool) : State :=
  let n := ((s.pcb.ra.filter p).map RaEnt.unused).sum
  (s.modPcb (fun b => { b with ra := b.ra.filter (fun e => !p e) })).bump PCB_RADISC.COUNT 0 n

/-- Bytes added to the entry that ends where they begin, else as a new one; of 8 the least recently used gives way. -/
def State.raAdd (s : State) (a : Nat) (d : List Byte) : State :=
  let new := d.map (fun b => (b, false))
  match takeFirst (fun (e : RaEnt) => e.addr + e.data.length == a) s.pcb.ra with
  | some (e, r) => s.modPcb (fun b => { b with ra := r ++ [{ e with data := e.data ++ new }] })
  | none =>
    let s := if s.pcb.ra.length < 8 then s
      else s.raDrop (fun e => (s.pcb.ra.head?).any (fun h => h.addr == e.addr))
    s.modPcb (fun b => { b with ra := b.ra ++ [{ addr := a, data := new }] })

def RaEnt.overlaps (e : RaEnt) (a n : Nat) : Bool := decide (a < e.addr + e.data.length) && decide (e.addr < a + n)
def RaEnt.holds (e : RaEnt) (a n : Nat) : Bool := decide (e.addr ≤ a) && decide (a + n ≤ e.addr + e.data.length)

/-- The first address after read-ahead window `w`, if it allows read-ahead and holds the bytes. -/
def State.raWindow (s : State) (a n : Nat) : Option Nat :=
  (List.range 4).findSome? (fun w =>
    let lo := s.rd PCB_RAWIN_BLO.BASE w * 4096 + s.rd PCB_RAWIN_BHI.BASE w * 2 ^ 32
    let hi := s.rd PCB_RAWIN_LLO.LIMIT w * 4096 + s.rd PCB_RAWIN_LHI.LIMIT w * 2 ^ 32 + 4096
    if s.on PCB_RAWIN_BLO.PREF w ∧ lo ≤ a ∧ a + n ≤ hi then some hi else none)

/-- How many bytes are read beyond a read of `n` bytes at `a` (R289). -/
def State.raExtra (s : State) (a n : Nat) : Nat :=
  match s.raWindow a n with
  | none => 0
  | some hi =>
    let page := ((a + n - 1) / 4096 + 1) * 4096
    let stop := if hi < page then hi else page
    let want := s.rd PCB_RACFG.RA_SIZE * 64
    if a + n + want ≤ stop then want else stop - (a + n)

/-- A completion that the link partner, or a far requester, owes to a request taken from the tunnel of `c`: forwarded as it is, or cut to
what was asked where the node read ahead; the rest of a read-ahead is kept (R289). -/
def State.cplFromLink (s : State) (c : Nat) (b : List Byte) : State :=
  match (s.vd c).inNp.find? (fun r => r.key == cplKey b) with
  | none => s.cplLate
  | some r =>
    let d := tlpData b
    let o := r.done
    let ended := cplStatus b != 0 || d.isEmpty || decide (r.len ≤ o + d.length)
    let l := if ended then (s.vd c).inNp.filter (fun e => e.key != r.key)
      else (s.vd c).inNp.map (fun e => if e.key = r.key then { e with done := o + d.length } else e)
    let s := s.modVd c (fun v => { v with inNp := l })
    if r.len = r.want ∨ cplStatus b ≠ 0 then s.itemAccept c 2 b
    else
      let front := d.take (r.want - o)
      let rest := d.drop (r.want - o)
      let s := if front.isEmpty then s else s.itemAccept c 2 (cplFor r.head 0 front (r.want - o) (r.addr + o) ++ front)
      if rest.isEmpty ∨ r.keep = false then s else s.raAdd (r.addr + (if o < r.want then r.want else o)) rest

/-- A completion goes to its requester: at a node the SSD; at the root the zone controller, or the vDSP below which the requester's bus
lies. -/
def State.toRequester (s : State) (b : List Byte) : State :=
  if s.isRoot then
    match s.vdspOfBus (cplBus b) with
    | some d => s.cplFromLink d b
    | none => s.pcieLink b
  else s.pcieLink b

/-- INTx wire `w` of the upstream port: any vDSP's, with the swizzle of its device number (R279). -/
def Pcb.wire (b : Pcb) (w : Nat) : Bool :=
  b.intx.any (fun e => e.2 && (e.1 / 4 + e.1 % 4) % 4 == w)

/-- A vDSP's wire changes; the upstream port tells the zone controller of a wire of its own that changes. -/
def State.intxSet (s : State) (c w : Nat) (on : Bool) : State :=
  let u := (c + w) % 4
  let was := s.pcb.wire u
  let s := s.modPcb (fun b => { b with intx := NMap.set b.intx false (4 * c + w % 4) on })
  if s.pcb.wire u = was then s else s.pcieLink (intxMsg u (s.pcb.wire u))

/-- R284: the slot's status and the hot-plug interrupt. -/
def State.hotPlug (s : State) (c : Nat) : State :=
  let fn := c + 1
  let v := s.cfgWord fn capSlot
  let s := s.setCfg fn capSlot (v ||| 0x01080000)
  let asked := bitAt v 5 && (bitAt v 3 || bitAt v 12)
  if asked ∧ bitAt (s.cfgWord fn capMsi) 16 ∧ bitAt (s.cfgWord fn (capMsi + 4)) 0 = false then
    s.pcieLink (msiWrite (s.cfgWord fn (capMsi + 1) + 2 ^ 32 * s.cfgWord fn (capMsi + 2)) (s.cfgWord fn (capMsi + 3)))
  else s

/-- `PCB_STATUS.PRESENT` and `PCB_VDSP.PRESENT` at the root. -/
def State.notePresent (s : State) (c : Nat) : State :=
  if s.isRoot then
    let s := s.setBit PCB_VDSP.PRESENT (s.vd c).present c
    (s.wr PCB_STATUS.PRESENT ((List.range 31).filter (fun d => (s.vd d).present)).length).vout c
  else s

/-- Arrival (R281, R284): both sides set their counts to 0. -/
def State.vdspArrive (s : State) (c : Nat) : State :=
  let s := (s.setVd c { Vdsp.init with present := true }).notePresent c
  if s.isRoot then (s.raise Ev.PCB_VDSP_ARRIVE c).hotPlug c else s

/-- VDSP_DEPART (R285): outstanding requests are completed with UR, queued posted items are discarded and logged. -/
def State.vdspDepart (s : State) (c : Nat) : State :=
  let v := s.vd c
  let s := (s.setVd c Vdsp.init).notePresent c
  let s := (v.outNp.map (fun r => r.head) ++ v.hold).foldl (fun s h => s.toRequester (cplUr h)) s
  let s := (v.waiting.filter (fun e => e.1 == 0)).foldl (fun s e => s.pcieDropP c e.2) s
  let s := (List.range 4).foldl (fun s w => if NMap.get s.pcb.intx false (4 * c + w) then s.intxSet c w false else s) s
  let s := s.raDrop (fun _ => true)
  if s.isRoot then (s.raise Ev.PCB_VDSP_DEPART c).hotPlug c else s

/-- What makes context `c` present (R283): at the root the node's report and the root's own tables; at a node its own part. -/
def State.vdspShould (s : State) (c : Nat) : Bool :=
  match s.pcieTix c with
  | none => false
  | some x =>
    match s.jxlOf x with
    | none => false
    | some p =>
      s.on PCB_CTRL.EN && s.linkActive p && s.slotsBothWays p x &&
      (if s.isRoot then s.on PCB_VDSP.SSDUP c && NMap.get s.pcb.ready false c && !s.on PCB_STATUS.PERST
       else s.on PCB_STATUS.LINK && !s.pcb.perst)

/-- The storage tunnel of context `c` has slots at both ends, as far as the root knows (`PCB_VDSP.TUNREADY`). -/
def State.tunReady (s : State) (c : Nat) : Bool :=
  NMap.get s.pcb.ready false c && (match s.pcieTix c with
    | none => false
    | some x => match s.jxlOf x with
      | none => false
      | some p => s.linkActive p && s.slotsBothWays p x)

/-- VDSP_ARRIVE or VDSP_DEPART where presence changes. -/
def State.vdspRefresh (s : State) (c : Nat) : State :=
  let now := s.vdspShould c
  let s := if s.isRoot then s.setBit PCB_VDSP.TUNREADY (s.tunReady c) c else s
  if now = (s.vd c).present then s else if now then s.vdspArrive c else s.vdspDepart c

/-- The contexts of this bridge. -/
def State.contexts (s : State) : List Nat := if s.isRoot then List.range 31 else [0]

/-- Presence of every context of the bridge. -/
def State.pcieRefresh (s : State) : State := s.contexts.foldl (fun s c => s.vdspRefresh c) s

/-- The root takes a node's report for its vDSP (R283, R433). -/
def State.vdspReport (s : State) (hub : Nat) (ssd ready : Bool) (speed width : Nat) : State :=
  (List.range 31).foldl (fun s c =>
    if s.vdspExists c ∧ s.vdspHub c = hub then
      let s := ((s.setBit PCB_VDSP.SSDUP ssd c).wr PCB_VDSP.HUB hub c).modPcb (fun b => { b with ready := NMap.set b.ready false c ready })
      ((s.wr PCB_VDSP.SPEED speed c).wr PCB_VDSP.WIDTH width c).vdspRefresh c
    else s) s

/-- Every source of a hub is absent: its vDSP departs. -/
def State.vdspHubLost (s : State) (hub : Nat) : State := s.vdspReport hub false false 0 0

/-- The pin that holds the SSD in reset (R276). -/
def State.setPerst (s : State) (low : Bool) : State :=
  ((s.modPcb (fun b => { b with perst := low })).setBit PCB_STATUS.PERST low).emit (.act "PE_nPERST" [if low then 0 else 1])

/-- The link is down: no speed, no width. -/
def State.pcieLinkOff (s : State) : State := ((s.wr PCB_STATUS.LINK 0).wr PCB_STATUS.SPEED 0).wr PCB_STATUS.WIDTH 0

end Sys2Proof.Machine
end

