-- ==== Sys2Proof/Machine/Pcie.lean ====
section
/-! DEFINITION. Commands of the PCIe storage bridge (spec/10). -/
namespace Sys2Proof.Machine

/-- A TLP for the tunnel of `c` (R282, R285): with the vDSP away a request gets UR and a posted TLP is discarded and logged. -/
def State.pcieForward (s : State) (c : Nat) (b : List Byte) : State :=
  if (s.vd c).present = false then
    (if tlpIsCpl b then s.cplLate else if tlpPosted b then s.pcieDropP c b else s.toRequester (cplUr b))
  else if tlpIsCpl b then s.cplFromLink c b
  else if tlpPosted b then s.itemAccept c 0 b
  else s.npAccept c b

/-- The configuration proxy's answer for a function (CONFIG_PROXY_ACCESS, R277, R278). -/
def State.cfgProxy (s : State) (fn : Nat) (b : List Byte) : State :=
  if tlpHasData b then (s.cfgWrite fn (cfgDw b) (cfgMask b) (leAt (tlpData b) 0 4)).pcieLink (cplFor b 0 [] 4 0)
  else
    match s.cfgRead fn (cfgDw b) with
    | some v => s.pcieLink (cplFor b 0 (le 4 v) 4 0 ++ le 4 v)
    | none => s.drew.pcieLink (cplFor b 0 (le 4 s.freeVal) 4 0 ++ le 4 s.freeVal)

/-- A configuration request from the zone controller (R277). -/
def State.rootCfg (s : State) (b : List Byte) : State :=
  if tlpType b = 4 then (if cfgFn b = 0 then s.cfgProxy 0 b else s.pcieLink (cplUr b))
  else if cfgBus b = s.secBus 0 then
    if cfgFn b = 0 ∧ s.vdspExists (cfgDev b) then s.cfgProxy (cfgDev b + 1) b else s.pcieLink (cplUr b)
  else
    match s.vdspOfBus (cfgBus b) with
    | none => s.pcieLink (cplUr b)
    | some c =>
      if cfgBus b = s.secBus (c + 1) then
        if cfgDev b = 0 ∨ bitAt (s.cfgWord (c + 1) capDev2) 5 then s.pcieForward c (cfgAsType0 b) else s.pcieLink (cplUr b)
      else s.pcieForward c b

/-- A memory request from the zone controller, routed by the windows of the upstream port and the vDSPs. -/
def State.rootMem (s : State) (b : List Byte) : State :=
  match (if s.inWindow 0 (tlpAddr b) then s.vdspOfAddr (tlpAddr b) else none) with
  | some c => s.pcieForward c b
  | none =>
    if tlpPosted b then
      let t := s.now
      s.drew.postedError 0 peNotarget 0 (tlpAddr b) (tlpData b).length t
    else s.pcieLink (cplUr b)

/-- A message from the zone controller: PME messages go to every vDSP. -/
def State.rootMsg (s : State) (b : List Byte) : State :=
  if msgIsPme b then ((List.range 31).filter (fun c => (s.vd c).present)).foldl (fun s c => s.itemAccept c 0 b) s
  else s.pcieUnsup

/-- A message from the SSD (R279). -/
def State.nodeMsg (s : State) (b : List Byte) : State :=
  if msgIsIntx b || msgIsPme b || msgIsErr b then s.pcieForward 0 b else s.pcieUnsup

/-- `PCIE_TLP_RECEIVE` (R277, R279, R280, R282). -/
def State.pcieTlp (s : State) (b : List Byte) : State :=
  if s.on PCB_CTRL.EN = false ∨ s.on PCB_STATUS.LINK = false then s
  else if tlpWhole b = false then s.pcieUnsup
  else if tlpIsIo b ∨ tlpIsLocked b then (s.pcieLink (cplUr b)).pcieUnsup
  else if tlpIsMsg b then (if s.isRoot then s.rootMsg b else s.nodeMsg b)
  else if tlpIsCpl b then
    if s.isRoot then
      match s.vdspOfBus (cplBus b) with
      | some c => s.pcieForward c b
      | none => s.cplLate
    else s.pcieForward 0 b
  else if tlpIsCfg b then (if s.isRoot then s.rootCfg b else s.pcieUnsup)
  else if tlpIsMem b then (if s.isRoot then s.rootMem b else s.pcieForward 0 b)
  else s.pcieUnsup

def execPcieTlpReceive (b : List Byte) (s : State) : Res := .next (s.pcieTlp b)

/-- The SSD can be reached. -/
def State.ssdUp (s : State) : Bool := s.on PCB_STATUS.LINK && !s.pcb.perst

/-- A request taken from the tunnel is issued on the link; its completion is awaited. -/
def State.issueNp (s : State) (c : Nat) (r : NpReq) (b : List Byte) : State :=
  (s.modVd c (fun v => { v with inNp := v.inNp ++ [r] })).pcieLink b

/-- A read of SSD memory at the node (READ_AHEAD, R289, R290). -/
def State.nodeRead (s : State) (b : List Byte) : State :=
  let a := tlpAddr b
  let n := tlpBytes b
  match takeFirst (fun (e : RaEnt) => e.holds a n) s.pcb.ra with
  | some (e, r) =>
    let i := a - e.addr
    let d := (e.data.drop i).take n
    let used := { e with data := e.data.take i ++ d.map (fun x => (x.1, true)) ++ e.data.drop (i + n) }
    let s := (s.modPcb (fun p => { p with ra := r ++ [used] })).bump PCB_RAHIT.COUNT
    (cplData b (d.map (·.1)) n a 9).foldl (fun s t => s.itemAccept 0 2 t) s
  | none =>
    let s := s.raDrop (fun e => e.overlaps a n)
    let s := if (s.raWindow a n).isSome then s.bump PCB_RAMISS.COUNT else s
    let extra := s.raExtra a n
    s.issueNp 0 { npReqOf b with len := n + extra } (readOf b (n + extra))

/-- A non-posted item at the node. -/
def State.nodeNp (s : State) (b : List Byte) : State :=
  if s.ssdUp = false ∨ tlpType b = 5 then s.itemAccept 0 2 (cplUr b)
  else if tlpIsMem b then s.nodeRead b
  else s.issueNp 0 (npReqOf b) b

/-- A posted write overlaps what was read ahead, or is being read (R290). -/
def State.raWrite (s : State) (a n : Nat) : State :=
  let hits := fun (r : NpReq) => decide (a < r.addr + r.len) && decide (r.addr < a + n)
  (s.raDrop (fun e => e.overlaps a n)).modVd 0 (fun v =>
    { v with inNp := v.inNp.map (fun r => if hits r then { r with keep := false } else r) })

/-- A posted item at the node; `inBar` says that a memory address lies in a memory BAR of the SSD (R288). -/
def State.nodeP (s : State) (b : List Byte) (inBar : Bool) : State :=
  if tlpPoisoned b then s.pcieErr 0 pePoisoned b
  else if s.ssdUp = false then s.pcieErr 0 peRefused b
  else if tlpIsMem b ∧ inBar = false then s.pcieErr 0 peNotarget b
  else (if tlpIsMem b then s.raWrite (tlpAddr b) (tlpBytes b) else s).pcieLink b

/-- A memory request from vDSP `c` leads to another one where ACS does not redirect it. -/
def State.peerOf (s : State) (c : Nat) (b : List Byte) : Option Nat :=
  if tlpIsMem b ∧ bitAt (s.cfgWord (c + 1) capAcs) 18 = false then
    (s.vdspOfAddr (tlpAddr b)).bind (fun d => if d = c then none else some d)
  else none

/-- A posted item at the root. -/
def State.rootP (s : State) (c : Nat) (b : List Byte) : State :=
  if tlpPoisoned b then s.pcieErr c pePoisoned b
  else
    match s.peerOf c b with
    | some d => s.pcieForward d b
    | none =>
      if s.on PCB_STATUS.LINK = false then s.pcieErr c peRefused b
      else if tlpIsMsg b ∧ msgIsIntx b then s.intxSet c (msgCode b % 4) (decide (msgCode b < 0x24))
      else s.pcieLink b

/-- A non-posted item at the root. -/
def State.rootNp (s : State) (c : Nat) (b : List Byte) : State :=
  match s.peerOf c b with
  | some d => (s.modVd c (fun v => { v with inNp := v.inNp ++ [npReqOf b] })).pcieForward d b
  | none => if s.on PCB_STATUS.LINK then s.issueNp c (npReqOf b) b else s.itemAccept c 2 (cplUr b)

/-- A completion from the tunnel for a request this bridge forwarded; it frees the reservation with its last byte (R282, R287). -/
def State.cplItem (s : State) (c : Nat) (b : List Byte) : State :=
  match (s.vd c).outNp.find? (fun r => r.key == cplKey b) with
  | none => s.cplLate
  | some r =>
    let o := r.done + (tlpData b).length
    let last := cplStatus b != 0 || (tlpData b).isEmpty || decide (r.len ≤ o)
    let s := if last then s.npDone c r.key
      else
        let l := (s.vd c).outNp.map (fun e => if e.key = r.key then { e with done := o } else e)
        s.modVd c (fun v => { v with outNp := l })
    s.toRequester b

/-- A TLP item is freed and issued. -/
def State.tlpItem (s : State) (c sub : Nat) (b : List Byte) (inBar : Bool) : State :=
  let s := s.modVd c (fun v => v.noteFreed sub)
  if tlpIsCpl b then s.cplItem c b
  else if tlpPosted b then (if s.isRoot then s.rootP c b else s.nodeP b inBar)
  else (if s.isRoot then s.rootNp c b else s.nodeNp b)

/-- The AER bit of the root vDSP for a posted-error cause (R288). -/
def aerBit (cause : Nat) : Nat :=
  if cause = 2 then 2 ^ 5 else if cause = 1 then 2 ^ 20 else if cause = 3 then 2 ^ 12 else 0

/-- An ERROR item (R288): logged here; at the root the vDSP's AER shows it with the header of the failed TLP (log entry 63). -/
def State.errorItem (s : State) (c : Nat) (w : List Byte) : State :=
  let s := (s.modVd c (fun v => v.noteFreed 3)).logPeWords w
  let fn := c + 1
  let bit := aerBit (bits (leAt w 0 4) TUN_PELOG0.CAUSE.lsb TUN_PELOG0.CAUSE.width)
  if s.isRoot = false ∨ bit = 0 then s
  else
    let s := s.setCfg fn capAer (s.cfgWord fn capAer ||| bit)
    match (s.vd c).sentHeads.find? (fun h => tlpIsMem h && tlpAddr h == leAt w 4 8) with
    | none => s
    | some h => (List.range 4).foldl (fun s i => s.setCfg fn (capHead + i) (beAt h (4 * i) 4)) s

/-- A CREDIT item (R281). -/
def State.creditItem (s : State) (c : Nat) (y : List Byte) : State :=
  let a := [0, 1, 2, 3].foldl (fun m i => NMap.set m 0 i (leAt y (2 * i) 2)) ((s.vd c).acked)
  (s.modVd c (fun v => { v with acked := a })).pcieDrain c

/-- R280: the item's length and type fit. -/
def itemBad (sub : Nat) (b : List Byte) : Bool :=
  let n := bits (leAt b 0 2) 0 10
  let t := byteAt b 2 % 16
  decide (n < 8) || decide (532 < n) || b.length != 8 + n || decide (2 < t) || (t == 0) != decide (sub < 3) ||
  (t == 1 && n != 16) || (t == 2 && n != 24) || (t == 0 && !tlpWhole (b.drop 8))

/-- `PCIE_ITEM_RECEIVE` (R280, R281, R288): an item of context `c` on a sub-channel. -/
def State.pcieItem (s : State) (c sub : Nat) (b : List Byte) (inBar : Bool) : State :=
  let y := b.drop 8
  if (s.vd c).present = false then s
  else if itemBad sub b then (if sub = 0 then s.pcieErr c pePoisoned y else s).pcieUnsup
  else if byteAt b 2 % 16 = 1 then s.creditItem c y
  else if byteAt b 2 % 16 = 2 then s.errorItem c y
  else s.tlpItem c sub y inBar

def execPcieItemReceive (c : Fin 31) (sub : Fin 4) (b : List Byte) (inBar : Bool) (s : State) : Res :=
  .next (s.pcieItem c.val sub.val b inBar)

/-- `READ_AHEAD_EXPIRE` (R290): the entry that begins at `a` has reached `RA_LIFE`. -/
def execReadAheadExpire (a : Nat) (s : State) : Res := .next (s.raDrop (fun e => e.addr == a))

/-- `PCIE_CREDIT_SEND` (R281). -/
def State.pcieCreditSend (s : State) (c : Nat) : State :=
  let v := s.vd c
  if v.present then s.itemSend c 3 1 ([0, 1, 2, 3].flatMap (fun i => le 2 (NMap.get v.freed 0 i)) ++ le 8 0) else s

def execPcieCreditSend (c : Fin 31) (s : State) : Res := .next (s.pcieCreditSend c.val)

/-- `NP_TIMEOUT` (R287): the request with a requester ID and tag has been out for `NPTO`. -/
def State.npTimeout (s : State) (c key : Nat) : State :=
  match (s.vd c).outNp.find? (fun r => r.key == key) with
  | none => s
  | some r =>
    ((((s.modVd c (fun v => { v with waiting := v.waiting.filter (fun e => !(e.1 == 1 && tlpKey e.2 == key)) })).toRequester
      (cplUr r.head)).npDone c key).bump PCB_NPTOCNT.COUNT).raiseOnce Ev.PCB_NP_TIMEOUT

def execNpTimeout (c : Fin 31) (key : Nat) (s : State) : Res := .next (s.npTimeout c.val key)

/-- The vDSP of context `c` reads not present until its node reports its link up again (R286). -/
def State.vdspAsk (s : State) (c : Nat) : State :=
  if s.vdspExists c then ((s.svcSend (s.vdspHub c) 9 (le 4 1)).wr PCB_VDSP.SSDUP 0 c).vdspRefresh c else s

/-- Every vDSP is reset with the switch, whose configuration space is reset too (log entry 58). -/
def State.vdspAskAll (s : State) : State :=
  ((List.range 31).foldl (fun s c => s.vdspAsk c) s).modPcb (fun b => { b with cfg := [] })

/-- `VDSP_RESET` (R276, R286) at the root: kind 0 a Secondary Bus Reset of vDSP `c`, which its Bridge Control shows; 1 a hot reset at the
upstream port; 2 `PE_nPERST` low. -/
def State.vdspReset (s : State) (kind c : Nat) : State :=
  if s.isRoot = false then s
  else
    match kind with
    | 0 => if bitAt (s.cfgWord (c + 1) 15) 22 then s.vdspAsk c else s
    | 1 => s.vdspAskAll
    | _ =>
    let s := if s.on PCB_STATUS.LINK then s.raise Ev.PCB_LINK_DOWN else s
    ((s.wr PCB_STATUS.PERST 1).pcieLinkOff).vdspAskAll

def execVdspReset (kind : Fin 3) (c : Fin 31) (s : State) : Res := .next (s.vdspReset kind.val c.val)

/-- `PCIE_RESET_REQUEST` (R286) at a node: `PE_nPERST` goes low and stays low for `RST_MS`. -/
def State.pcieResetRequest (s : State) : State :=
  if s.isRoot then s else ((s.setPerst true).raDrop (fun _ => true)).pcieRefresh

def execPcieResetRequest (s : State) : Res := .next s.pcieResetRequest

/-- `PERST_RELEASE` (R276): `RST_MS` after the reset began, or after the PCIE section has loaded with `EN` = 1. -/
def State.perstRelease (s : State) : State :=
  if s.isRoot ∨ s.pcb.loaded = false ∨ s.on PCB_CTRL.EN = false ∨ s.pcb.perst = false then s else s.setPerst false

def execPerstRelease (s : State) : Res := .next s.perstRelease

/-- The highest generation that `MAXSPD` allows. -/
def State.pcieMaxGen (s : State) : Nat := 4 - s.rd PCB_CTRL.MAXSPD

/-- `PCIE_LINK_UP` (R275, R283, R292): generation 1 to 4, width 1, 2 or 4. A node reports its SSD to the root. -/
def State.pcieLinkUp (s : State) (gen width : Nat) : State :=
  if s.on PCB_CTRL.EN = false ∨ s.on PCB_STATUS.LINK ∨ (s.isRoot = false ∧ s.pcb.perst) ∨ gen = 0 ∨ s.pcieMaxGen < gen ∨
      [1, 2, 4].contains width = false then s
  else
    let s := (((s.wr PCB_STATUS.LINK 1).wr PCB_STATUS.SPEED gen).wr PCB_STATUS.WIDTH width).raise Ev.PCB_LINK_UP
    let s := if s.isRoot then s.wr PCB_STATUS.PERST 0 else s
    let s := s.pcieRefresh
    if s.isRoot then s else s.reportPresence

def execPcieLinkUp (gen : Fin 5) (width : Fin 5) (s : State) : Res := .next (s.pcieLinkUp gen.val width.val)

/-- `PCIE_LINK_DOWN` (R283, R292). -/
def State.pcieLinkDown (s : State) : State :=
  if s.on PCB_STATUS.LINK = false then s
  else
    let s := (s.pcieLinkOff.raise Ev.PCB_LINK_DOWN).pcieRefresh
    if s.isRoot then s else s.reportPresence

def execPcieLinkDown (s : State) : Res := .next s.pcieLinkDown

end Sys2Proof.Machine
end

