-- ==== Sys2Proof/Machine/Power.lean ====
section
/-! DEFINITION. Commands of the 48 V power path (spec/14). Feeds A and B are 0 and 1; channels EF1 to EF3 are 0 to 2. -/
namespace Sys2Proof.Machine

/-- `FEED_VALID` (R353, R355). -/
def State.feedValid (s : State) (f : Nat) : State :=
  let x := feedField f PWP_STATUS.A_VALID PWP_STATUS.B_VALID
  if s.pw.powered = false ∨ s.on x ∨ s.on (feedField f PWP_STATUS.A_OV PWP_STATUS.B_OV) then s
  else (((s.wr x 1).setFet f true).raise 0x3C0 f).inputStart

def execFeedValid (f : Fin 2) (s : State) : Res := .next (s.feedValid f.val)

/-- `FEED_LOST` (R353). -/
def execFeedLost (f : Fin 2) (s : State) : Res :=
  .next (if s.on (feedField f.val PWP_STATUS.A_VALID PWP_STATUS.B_VALID) then s.feedDrop f.val else s)

/-- `FEED_OV` (R353): an over-voltage feed is not valid. -/
def State.feedOv (s : State) (f : Nat) : State :=
  let x := feedField f PWP_STATUS.A_OV PWP_STATUS.B_OV
  if s.pw.powered = false ∨ s.on x then s else ((s.wr x 1).raise 0x3C2 f).feedDrop f

def execFeedOv (f : Fin 2) (s : State) : Res := .next (s.feedOv f.val)

/-- `FEED_OV_EXIT` (R353). -/
def execFeedOvExit (f : Fin 2) (s : State) : Res := .next (s.wr (feedField f.val PWP_STATUS.A_OV PWP_STATUS.B_OV) 0)

/-- `REVERSE_TURN_OFF` (R354): the gate goes off, or, with `back`, on again 20 mV above `VOR`. -/
def State.reverseOff (s : State) (f : Nat) (back : Bool) : State :=
  if s.on (feedField f PWP_STATUS.A_VALID PWP_STATUS.B_VALID) = false then s
  else if back then s.setFet f true
  else if s.on (feedField f PWP_STATUS.A_ON PWP_STATUS.B_ON) = false then s
  else ((s.setFet f false).bump (feedField f PWP_REVCNT.REV_A PWP_REVCNT.REV_B)).raiseOnce 0x3C3 0 f

def execReverseTurnOff (f : Fin 2) (back : Bool) (s : State) : Res := .next (s.reverseOff f.val back)

/-- `INPUT_RAMP_DONE` (R355). -/
def State.rampDone (s : State) : State :=
  if s.pw.ramping = false then s
  else (((s.modPw (fun p => { p with ramping := false })).wr PWP_STATUS.IN_GOOD 1).raise 0x3C5).efRefreshAll

def execInputRampDone (s : State) : Res := .next s.rampDone

/-- `INPUT_RAMP_TIMEOUT` (R355). -/
def execInputRampTimeout (s : State) : Res := .next (if s.pw.ramping then s.inputFail 0 else s)

/-- `INPUT_TRIP` (R356): the fault timer at its end, or a fast trip. -/
def State.inputTrip (s : State) (fast : Bool) : State :=
  if s.on PWP_STATUS.IN_GOOD = false then s
  else if fast then s.inputFail 2
  else if s.rd PWP_INCFG.FT_IN * 10 ≤ s.pw.inTimer then s.inputFail 1
  else s

def execInputTrip (fast : Bool) (s : State) : Res := .next (s.inputTrip fast)

/-- `INPUT_RETRY` (R356). -/
def execInputRetry (s : State) : Res :=
  .next (if s.pw.waiting then (s.modPw (fun p => { p with waiting := false })).inputStart else s)

/-- `INPUT_HOLD_CLEAR` (R356). -/
def execInputHoldClear (s : State) : Res := .next (if s.on PWP_STATUS.IN_GOOD then s.wr PWP_STATUS.IN_TRIES 0 else s)

/-- `IN_GOOD_LOSS` (R357). -/
def execInGoodLoss (s : State) : Res := .next (if s.on PWP_STATUS.IN_GOOD then s.inputOff.inputStart else s)

/-- `INPUT_FET_FAIL` (R356, R363). -/
def execInputFetFail (s : State) : Res := .next (if s.pw.ramping then s.inputFail 3 else s)

/-- `EF_ENABLE` (R371): a write of `PWP_EFCTL`. -/
def execEfEnable (c : Fin 3) (data : Word) (s : State) : Res := .next (s.access (Reg.PWP_EFCTL.addr c.val 0) true (fun s => s.pwpAccess (fun s => s.efctlWrite c.val data.toNat)))

/-- `EF_RAMP_DONE` (R359, R365). -/
def execEfRampDone (c : Fin 3) (s : State) : Res :=
  .next (if s.rd PWP_EFSTAT.STATE c.val = 3 then (s.wr PWP_EFSTAT.STATE 4 c.val).modEf c.val (fun e => { e with good := 0 }) else s)

/-- `EF_SAMPLE` (R360, R365, R366, R369): voltages in mV, currents in mA and whether the loop limited, of the input stage and EF1 to
EF3. -/
def State.sampleAll (s : State) (v : List Nat) (i : List Int) (lim : List Bool) : State :=
  if s.pw.powered = false then s
  else
    let s := [0, 1, 2].foldl (fun s c => s.efSample c (v.getD (c + 1) 0) (i.getD (c + 1) 0) (lim.getD (c + 1) false)) (s.inSample (lim.getD 0 false))
    let s := [0, 1, 2, 3].foldl (fun s t => s.telSample t (v.getD t 0) (i.getD t 0)) s
    s.modPw (fun p => { p with count := p.count + 1, clear := 0 })

def execEfSample (v : List Nat) (i : List Int) (lim : List Bool) (s : State) : Res := .next (s.sampleAll v i lim)

/-- `EF_TIMER_TRIP` (R360). -/
def execEfTimerTrip (c : Fin 3) (s : State) : Res :=
  .next (if s.efRuns c.val ∧ s.rd PWP_EFCFG.FT c.val * 10 ≤ s.rd PWP_EFSTAT.FTIMER c.val then s.efTrip c.val 1 else s)

/-- `EF_FAST_TRIP` (R361). -/
def execEfFastTrip (c : Fin 3) (s : State) : Res := .next (if s.efRuns c.val then s.efTrip c.val 2 else s)

/-- `EF_FET_FAIL` (R363): 2 ms after a turn-on. -/
def execEfFetFail (c : Fin 3) (s : State) : Res := .next (if s.efRuns c.val then s.efTrip c.val 3 else s)

/-- `EF_FET_SHORT` (R364). -/
def execEfFetShort (c : Fin 3) (s : State) : Res :=
  .next (if s.efRuns c.val ∨ s.on PWP_EFSTAT.SHORT c.val ∨ s.pw.powered = false then s
    else (s.wr PWP_EFSTAT.SHORT 1 c.val).raise (efEvent c.val 4))

/-- `EF_PG_UP` (R365). -/
def execEfPgUp (c : Fin 3) (s : State) : Res :=
  .next (if s.rd PWP_EFSTAT.STATE c.val = 4 ∧ 100 ≤ (s.efs c.val).good then (s.wr PWP_EFSTAT.STATE 5 c.val).setPg c.val true else s)

/-- `EF_PRESENCE_CHANGE` (R367, R368). -/
def State.efPresence (s : State) (c : Nat) (present : Bool) : State :=
  if s.pw.powered = false ∨ s.on PWP_EFSTAT.PRES c = present then s
  else
    let s := (s.setBit PWP_EFSTAT.PRES present c).raise (efEvent c (if present then 5 else 6))
    let s := if present then (if (s.efs c).cool then s.bump PWP_EFCNT.REINS c else s) else s.modEf c (fun e => { e with cool := true })
    (s.efRefresh c).reportPresence

def execEfPresenceChange (c : Fin 3) (present : Bool) (s : State) : Res := .next (s.efPresence c.val present)

/-- `EF_COOLDOWN_END` (R368). -/
def execEfCooldownEnd (c : Fin 3) (s : State) : Res :=
  .next (if (s.efs c.val).cool then (s.modEf c.val (fun e => { e with cool := false })).efRefresh c.val else s)

/-- `TELEMETRY_UPDATE` (R369), with the mean feed voltages in units of 10 mV. -/
def State.telemetry (s : State) (va vb : Nat) : State :=
  if s.pw.powered = false ∨ s.pw.count = 0 then s
  else
    let n := s.pw.count
    let s := [0, 1, 2, 3].foldl (fun s t => s.telShow t n) ((s.wr PWP_FEEDV.VIN_A va).wr PWP_FEEDV.VIN_B vb)
    s.modPw (fun p => { p with count := 0 })

def execTelemetryUpdate (va vb : Fin 65536) (s : State) : Res := .next (s.telemetry va.val vb.val)

/-- `ENERGY_CLEAR` (R370): a write of `PWP_TELCMD`. -/
def execEnergyClear (data : Word) (s : State) : Res := .next (s.access Reg.PWP_TELCMD.base true (fun s => s.pwpAccess (fun s => s.telcmdWrite data.toNat)))

/-- `ENERGY_LATCH` (R370): a read of `PWP_TE_LO`(t). -/
def execEnergyLatch (t : Fin 4) (s : State) : Res := .next (s.access (Reg.PWP_TE_LO.addr t.val 0) false (fun s => s.pwpAccess (fun s => s.energyLatch t.val)))

/-- `PWP_ACCESS_TIMEOUT` (R352). -/
def execPwpAccessTimeout (s : State) : Res := .next (if s.on FLD_STATUS.D2D_UP then s else s.answer St.TIMEOUT)

/-- `POWER_PATH_POWER_UP` (R351). -/
def execPowerPathPowerUp (s : State) : Res := .next (if s.pw.powered then s else s.pwpPower true)

/-- `BOTH_FEEDS_BELOW_20V` (R351). -/
def execBothFeedsBelow20v (s : State) : Res := .next (if s.pw.powered then s.pwpPower false else s)

end Sys2Proof.Machine
end

