-- ==== Sys2Proof/Machine/Ethernet.lean ====
section
/-! DEFINITION. Commands of the Ethernet ports and the time unit (spec/09). -/
namespace Sys2Proof.Machine

/-- `ETH_FRAME_RECEIVE` (R257). -/
def execEthFrameReceive (p : Fin 8) (frame : List Byte) (fcsOk : Bool) (time corr unc : Nat) (s : State) : Res :=
  .next (s.ethReceive p.val frame fcsOk time corr unc)

/-- `TXTS_POP` (R262). -/
def execTxtsPop (p : Fin 8) (data : Word) (s : State) : Res := .next (s.access (Reg.ETH_TXTSCMD.addr p.val 0) true (fun s => s.txtsPop p.val data.toNat))

/-- `TIME_STEP` (R268). -/
def execTimeStep (data : Word) (s : State) : Res := .next (s.access Reg.TSU_STEPCMD.base true (fun s => s.timeStep data.toNat))

/-- `TSU_RATE_WRITE` (R268). -/
def execTsuRateWrite (data : Word) (s : State) : Res := .next (s.access Reg.TSU_RATE.base true (fun s => s.rateWrite data.toNat))

/-- `TIME_STEP_APPLY` (R268). -/
def execTimeStepApply (s : State) : Res := .next s.stepApply

/-- `TIME_SERVICE_MESSAGE` (R264, R433): the loop delay of a node's uplink in 1/64 tick, measured in hyperframe `hfn`; one older than 2
hyperframes is discarded. -/
def State.timeContent (s : State) (hfn loop : Nat) : State :=
  if s.isRoot ∨ 2 < hfnAhead s.hfn hfn then s else s.setDelay (loop % 2 ^ 20)

def execTimeServiceMessage (hfn : Fin 16777216) (loop : Fin 1048576) (s : State) : Res := .next (s.timeContent hfn.val loop.val)

/-- `GRANDMASTER_LOST` (R269): the root's time service loses its grandmaster. -/
def execGrandmasterLost (s : State) : Res :=
  .next (if s.on TSU_CTRL.PTP_LOCK then (s.wr TSU_CTRL.PTP_LOCK 0).raise Ev.TSU_PTP_LOST else s)

end Sys2Proof.Machine
end

