-- ==== Sys2Proof/Machine/Lanes.lean ====
section
/-! DEFINITION. The lane commands: failures, substitutions, probation, Horizon, PRBS, error injection and DFE adaptation
(spec/04). -/
namespace Sys2Proof.Machine

/-- Causes 4 and 5 hold only for the lanes they count (R121): CRC charges for DATA lanes at `CRC_LIM`, pattern errors for SPARE
lanes. The others are measurements. -/
def State.causeHolds (s : State) (p k cause : Nat) : Bool :=
  if cause = 4 then
    s.laneSt p k == LaneSt.DATA && decide (s.rd JXP_FAILCFG.CRC_LIM p ≤ NMap.get (s.lk p).lane.charges 0 k)
  else if cause = 5 then s.laneSt p k == LaneSt.SPARE
  else true

/-- The sender's answer to a LANE_REQ (R124): OK, or the status of its LANE_NACK. -/
def State.laneReqStatus (s : State) (p : Nat) (m : LaneMsg) : Nat :=
  let a := (s.lk p).lane
  let map := s.rd JXP_TXMAP.MAP p
  let lead := (m.effect + 2 ^ 32 - s.sfn) % 2 ^ 32
  firstStatus
    [(St.VALUE, decide (9 < m.src) || decide (9 < m.dst) || decide (s.width p ≤ m.logical)),
     (St.RANGE, decide (lead < 2) || decide (2 ^ 31 ≤ lead)),
     (St.BUSY, decide (2 ≤ a.substTx.length) && !m.supersede),
     (St.CONFLICT, mapLane map m.logical != m.src || (s.logicalOf p map m.dst).isSome)]

/-- `LANE_REQ_RECEIVE` (R124 step 2, R126): the newest committed request for a logical lane is the one in force. -/
def State.laneReq (s : State) (p : Nat) (m : LaneMsg) : State :=
  if s.linkActive p = false then s
  else
    let st := s.laneReqStatus p m
    if st = St.OK then
      (s.modLane p (fun a => { a with substTx := a.substTx.filter (fun r => r.logical != m.logical) ++
        [{ logical := m.logical, src := m.src, dst := m.dst, effect := m.effect }] })).pushCtl p Kind.CONTROL
        ({ m with code := 0x11, status := 0 } : LaneMsg).payload false
    else s.pushCtl p Kind.CONTROL ({ m with code := 0x12, status := st } : LaneMsg).payload false

def execLaneReqReceive (p : Fin 4) (y : List Byte) (s : State) : Res := .next (s.laneReq p.val (LaneMsg.ofPayload y))

/-- `LANE_ACK_RECEIVE`: the request that the answer repeats has been acknowledged (R124, R125). -/
def State.laneAck (s : State) (p : Nat) (m : LaneMsg) : State :=
  s.setSubst p ((s.lk p).lane.substRx.map (fun r => if r.lseq = m.lseq ∧ r.logical = m.logical then { r with acked := true } else r))

def execLaneAckReceive (p : Fin 4) (y : List Byte) (s : State) : Res := .next (s.laneAck p.val (LaneMsg.ofPayload y))

/-- `LANE_NACK_RECEIVE`: the request failed and is made anew (R125). -/
def State.laneNack (s : State) (p : Nat) (m : LaneMsg) : State :=
  match (s.lk p).lane.substRx.find? (fun r => r.lseq == m.lseq && r.logical == m.logical && r.used == none) with
  | some r => s.retrySubst p r r.src r.dst
  | none => s

/-- `LANE_SUBST_EFFECT` (R124 step 3): at slot 0 of E the sender moves the logical lane. -/
def State.substEffect (s : State) (p : Nat) : State :=
  let now := (s.lk p).lane.substTx.filter (fun r => r.effect == s.sfn)
  let s := now.foldl (fun s r => s.wr JXP_TXMAP.MAP (setMapLane (s.rd JXP_TXMAP.MAP p) r.logical r.dst) p) s
  s.modLane p (fun a => { a with substTx := a.substTx.filter (fun r => r.effect != s.sfn) })

def execLaneSubstEffect (p : Fin 4) (s : State) : Res := .next (s.substEffect p.val)

/-- FAILING lanes that waited for a place make their requests; with no spare left the link recovers (R126). -/
def State.startWaiting (s : State) (p : Nat) : State :=
  let w := (s.lk p).lane.waiting
  let s := s.modLane p (fun a => { a with waiting := [] })
  w.foldl (fun s k =>
    if s.laneSt p k ≠ LaneSt.FAILING then s
    else if s.substStart p = .noSpare then s.recover p else s.startSubst p k) s

/-- One substitution that took effect is completed (R124 step 5). -/
def State.finishSubst (s : State) (p : Nat) (r : SubstRx) : State :=
  let s := (s.setLane p r.dst LaneSt.DATA).exclude p r.src
  let s := (s.setSubst p ((s.lk p).lane.substRx.filter (fun x => x != r))).setSubFails p r.logical 0
  s.raise (Ev.JXP_LANE_SUBST p) (r.dst + 16 * r.src)

/-- `SUBST_COMPLETE` (R124 step 5): in superframe E + 1. -/
def State.substComplete (s : State) (p : Nat) : State :=
  let now := (s.lk p).lane.substRx.filter (fun r => r.used == some r.dst &&
    decide (1 ≤ (s.sfn + 2 ^ 32 - r.effect) % 2 ^ 32) && decide ((s.sfn + 2 ^ 32 - r.effect) % 2 ^ 32 < 2 ^ 31))
  if now.isEmpty then s else (now.foldl (fun s r => s.finishSubst p r) s).startWaiting p

/-- Failed probations in a row of a lane, and the field that shows them. -/
def State.setProbFails (s : State) (p k n : Nat) : State :=
  (s.modLane p (fun a => { a with probFails := NMap.set a.probFails 0 k n })).wr JXP_LHEALTH.PROBFAILS (min 15 n) (laneIx p k)

/-- `PROBATION_PASS` (R127). -/
def State.probationPass (s : State) (p k : Nat) : State :=
  if s.laneSt p k ≠ LaneSt.PROBATION then s
  else
    let s := s.setProbFails p k 0
    (s.setLane p k (if s.on JXP_CTRL.AUTO_RESTORE p then LaneSt.SPARE else LaneSt.PASSED)).raise (Ev.JXP_PROB_PASS p) k

def execProbationPass (p : Fin 4) (lane : Fin 10) (s : State) : Res := .next (s.probationPass p.val lane.val)

/-- `PROBATION_FAIL` (R127): a new probation, or RETIRED after `PROB_RETRY` + 1 failures in a row. -/
def State.probationFail (s : State) (p k : Nat) : State :=
  if s.laneSt p k ≠ LaneSt.PROBATION then s
  else
    let n := NMap.get (s.lk p).lane.probFails 0 k + 1
    let s := (s.setProbFails p k n).raise (Ev.JXP_PROB_FAIL p) k
    if s.rd JXP_PROBCFG.PROB_RETRY p < n then (s.setLane p k LaneSt.RETIRED).raise (Ev.JXP_LANE_RETIRED p) k else s

def execProbationFail (p : Fin 4) (lane : Fin 10) (s : State) : Res := .next (s.probationFail p.val lane.val)

/-- `FENCE` (`JXP_CMD` op 1): cause MANUAL. -/
def State.fence (s : State) (p k : Nat) : State :=
  let st := s.laneSt p k
  s.checked
    [(St.VALUE, decide (9 < k)),
     (St.STATE, decide (k ≤ 9) && st != LaneSt.DATA && st != LaneSt.SPARE),
     (St.CONFLICT, st == LaneSt.DATA && s.spareCount p == 0)]
    (fun s => (s.laneFail p k 6).answer St.OK)

/-- `RESTORE` (`JXP_CMD` op 2, R128). -/
def State.restore (s : State) (p k : Nat) : State :=
  s.checked
    [(St.VALUE, decide (9 < k)), (St.STATE, decide (k ≤ 9) && s.laneSt p k != LaneSt.PASSED)]
    (fun s => (s.setLane p k LaneSt.SPARE).answer St.OK)

def execRestore (p : Fin 4) (lane : Fin 16) (s : State) : Res := .next (s.access (Reg.JXP_CMD.addr p.val 0) true (fun s => s.restore p.val lane.val))

/-- `WIDEN` (`JXP_CMD` op 3, R131). -/
def State.widen (s : State) (p : Nat) : State :=
  ((((s.wr JXP_STATUS.OVC_HOLD 0 p).wr JXP_STATUS.FAILS 0 p).wr JXP_STATUS.RATE_CAP 0 p).recover p).answer St.OK

/-- `RESET_LANES` (`JXP_CMD` op 4): lanes in states 4 to 7 become UNQUAL. -/
def State.resetLanes (s : State) (p : Nat) : State :=
  let s := (List.range 10).foldl (fun s k => if 4 ≤ s.laneSt p k then s.setLane p k LaneSt.UNQUAL else s) s
  (s.wr JXP_STATUS.FAILS 0 p).answer St.OK

def execResetLanes (p : Fin 4) (s : State) : Res := .next (s.access (Reg.JXP_CMD.addr p.val 0) true (fun s => s.resetLanes p.val))

/-- `HORIZON_START` (`JXP_CMD` op 5, R113): held while the port is in EQUALIZE. -/
def State.horizonStart (s : State) (p : Nat) : State :=
  s.checked
    [(St.BUSY, s.on JXP_HZSTAT.RUN p),
     (St.RANGE, decide (sgn 8 (s.rd JXP_HZRANGE.PH_MAX p) < sgn 8 (s.rd JXP_HZRANGE.PH_MIN p)) ||
        decide (sgn 8 (s.rd JXP_HZRANGE.V_MAX p) < sgn 8 (s.rd JXP_HZRANGE.V_MIN p)))]
    (fun s => (if s.linkSt p = LinkSt.EQUALIZE then s.modLane p (fun a => { a with hzHeld := true })
      else s.scanBegin p).answer St.OK)

def execHorizonStart (p : Fin 4) (s : State) : Res := .next (s.access (Reg.JXP_CMD.addr p.val 0) true (fun s => s.horizonStart p.val))

/-- A scan ends early: the counts stay, the summaries are 0 (R115). -/
def State.scanStop (s : State) (p : Nat) : State :=
  let s := s.modLane p (fun a => { a with hzHeld := false })
  if s.on JXP_HZSTAT.RUN p then ((s.wr JXP_HZSTAT.RUN 0 p).wr JXP_HZSTAT.EW 0 p).wr JXP_HZSTAT.EH 0 p else s

/-- `HORIZON_STOP` (`JXP_CMD` op 6). -/
def execHorizonStop (p : Fin 4) (s : State) : Res := .next (s.access (Reg.JXP_CMD.addr p.val 0) true (fun s => (s.scanStop p.val).answer St.OK))

/-- The values from `lo` to `hi` in steps of `st`. -/
def scanValues (lo hi : Int) (st : Nat) : List Int :=
  if hi < lo then [] else (List.range ((hi - lo).toNat / st + 1)).map (fun i => lo + (i * st : Nat))

def State.scanPhases (s : State) (p : Nat) : List Int :=
  scanValues (sgn 8 (s.rd JXP_HZRANGE.PH_MIN p)) (sgn 8 (s.rd JXP_HZRANGE.PH_MAX p)) (2 ^ s.rd JXP_HZCTRL.PH_STEP p)
def State.scanVolts (s : State) (p : Nat) : List Int :=
  scanValues (sgn 8 (s.rd JXP_HZRANGE.V_MIN p)) (sgn 8 (s.rd JXP_HZRANGE.V_MAX p)) (2 ^ s.rd JXP_HZCTRL.V_STEP p)

/-- The key of a count: phase and voltage as R114 places them in the window. -/
def hzKey (p : Nat) (ph v : Int) : Nat := p * 8192 + ((ph + 64).toNat * 64 + (v + 32).toNat) % 8192

/-- The points of a scan in visiting order (R113). -/
def State.scanPoints (s : State) (p : Nat) : List (Int × Int) :=
  (s.scanPhases p).flatMap (fun ph => (s.scanVolts p).map (fun v => (ph, v)))

/-- The length of the contiguous run around 0 of visited values that pass: 0 itself must be visited and pass. -/
def runAround (visited : List Int) (ok : Int → Bool) : Nat :=
  if visited.contains 0 && ok 0 then
    ((visited.filter (fun x => decide (0 ≤ x))).takeWhile ok).length +
    (((visited.filter (fun x => decide (x < 0))).reverse).takeWhile ok).length
  else 0

def State.hzCount (s : State) (p : Nat) (ph v : Int) : Nat := NMap.get s.horizon 0 (hzKey p ph v)

/-- `HORIZON_SCAN_DONE` (R114, R115): `counts` are the mismatches at the points in visiting order, saturating at 0xFFFF. -/
def State.scanDone (s : State) (p : Nat) (counts : List Nat) : State :=
  if s.on JXP_HZSTAT.RUN p = false then s
  else
    let s := { s with horizon := (List.zip (s.scanPoints p) counts).foldl (fun (h : NMap Nat) (e : (Int × Int) × Nat) =>
      NMap.set h 0 (hzKey p e.1.1 e.1.2) (min e.2 0xFFFF)) s.horizon }
    let th := s.rd JXP_HZCTRL.THRESH p
    let ew := if (s.scanVolts p).contains 0 then runAround (s.scanPhases p) (fun x => decide (s.hzCount p x 0 ≤ th)) else 0
    let eh := if (s.scanPhases p).contains 0 then runAround (s.scanVolts p) (fun x => decide (s.hzCount p 0 x ≤ th)) else 0
    ((((s.wr JXP_HZSTAT.RUN 0 p).wr JXP_HZSTAT.DONE 1 p).wr JXP_HZSTAT.EW ew p).wr JXP_HZSTAT.EH eh p).raise (Ev.JXP_HZ_DONE p) (s.rd JXP_HZCTRL.LANE p)

def execHorizonScanDone (p : Fin 4) (counts : List Nat) (s : State) : Res := .next (s.scanDone p.val counts)

/-- Flits flow, and the lane carries no logical lane: its checker runs in spare-pattern mode (R103, R117). -/
def State.spareMode (s : State) (p k : Nat) : Bool :=
  decide (LinkSt.ALIGN ≤ s.linkSt p) && decide (s.linkSt p ≤ LinkSt.ACTIVE) && (s.logicalOf p (s.rd JXP_RXMAP.MAP p) k).isNone

/-- A free-mode checker runs only while the link is DISABLED (R117). -/
def State.freeMode (s : State) (p k : Nat) : Bool :=
  s.on JXP_PRBSCTL.CHK_EN (laneIx p k) && s.linkSt p == LinkSt.DISABLED

/-- `PRBS_CHECKER_LOCK` (R118). -/
def State.prbsLock (s : State) (p k : Nat) : State :=
  if s.freeMode p k || s.spareMode p k then s.wr JXP_PRBSCTL.LOCK 1 (laneIx p k) else s

def execPrbsCheckerLock (p : Fin 4) (lane : Fin 10) (s : State) : Res := .next (s.prbsLock p.val lane.val)

/-- `PRBS_LOCK_LOSS` (R118): with the errors and bits counted since the lock, bits in units of 2^16. -/
def State.prbsLoss (s : State) (p k errs nbits : Nat) : State :=
  let i := laneIx p k
  if s.on JXP_PRBSCTL.LOCK i then
    let s := (s.wr JXP_PRBSCTL.LOCK 0 i).bump JXP_PRBSCTL.LOCKLOSS i
    let s := (s.bump JXP_PRBSERR.COUNT i errs).bump JXP_PRBSBITS.COUNT i nbits
    if s.freeMode p k then s.raise (Ev.JXP_PRBS_LOCKLOSS p) k else s
  else s

def execPrbsLockLoss (p : Fin 4) (lane : Fin 10) (errs nbits : Nat) (s : State) : Res :=
  .next (s.prbsLoss p.val lane.val errs nbits)

/-- `n` bits inverted on lane `k`'s transmitter, and counted (R119). -/
def State.invertBits (s : State) (p k n : Nat) : State :=
  (s.bump JXP_INJ.INJCNT (laneIx p k) n).emit (.act "invert bits" [p, k, n])

/-- A write of `JXP_INJ` (R119): GO injects once in the single and burst modes. -/
def State.injWrite (s : State) (p k data : Nat) : State :=
  let i := laneIx p k
  s.writeReg Reg.JXP_INJ i data [] (fun s =>
    if bitAt data 2 then
      match s.rd JXP_INJ.MODE i with
      | 1 => s.invertBits p k 1
      | 2 => s.invertBits p k (s.rd JXP_INJ.LEN i + 1)
      | _ => s
    else s)

/-- `ERROR_INJECT`. -/
def execErrorInject (p : Fin 4) (lane : Fin 10) (data : Word) (s : State) : Res := .next (s.access (Reg.JXP_INJ.addr p.val lane.val) true (fun s => s.injWrite p.val lane.val data.toNat))

/-- `INJECT_RATE_BIT` (R119). -/
def execInjectRateBit (p : Fin 4) (lane : Fin 10) (s : State) : Res :=
  .next (if s.rd JXP_INJ.MODE (laneIx p.val lane.val) = 3 then s.invertBits p.val lane.val 1 else s)

/-- The taps h2 to h8. -/
def dfeTap (j : Nat) : Field :=
  match j with
  | 2 => JXP_DFE1.H2
  | 3 => JXP_DFE1.H3
  | 4 => JXP_DFE1.H4
  | 5 => JXP_DFE1.H5
  | 6 => JXP_DFE1.H6
  | 7 => JXP_DFE2.H7
  | _ => JXP_DFE2.H8

/-- sign(e) * d as one step. -/
def lmsStep (up d : Bool) : Int := if up = d then 1 else -1

/-- One sign-sign LMS update (R111): `up` is the sign of the error, `ds` the decisions d[0] to d[8]. -/
def State.dfeAdapt (s : State) (p k : Nat) (up : Bool) (ds : List Bool) : State :=
  let i := laneIx p k
  if s.on JXP_RXEQ.FREEZE i then s
  else
    let st := fun (j : Nat) => lmsStep up (ds.getD j true)
    let s := s.wr JXP_DFE0.H0 (clamp 0 255 ((s.rd JXP_DFE0.H0 i : Int) + st 0)).toNat i
    let s := s.wr JXP_DFE0.H1 (clamp 0 127 ((s.rd JXP_DFE0.H1 i : Int) + st 1)).toNat i
    [2, 3, 4, 5, 6, 7, 8].foldl (fun s j =>
      s.wr (dfeTap j) (unsgn 6 (clamp (-32) 31 (sgn 6 (s.rd (dfeTap j) i) + st j))) i) s

/-- `DFE_ADAPT`. -/
def execDfeAdapt (p : Fin 4) (lane : Fin 10) (up : Bool) (ds : List Bool) (s : State) : Res :=
  .next (s.dfeAdapt p.val lane.val up ds)

end Sys2Proof.Machine
end

