-- ==== Sys2Proof/Machine/LinkFlit.lean ====
section
/-! DEFINITION. What a received flit does (R135 to R148, R156, R160), and the link control messages it may carry (R149 to R151,
R159, R162). -/
namespace Sys2Proof.Machine

namespace Ctl
def CREDIT : Nat := 0x01
def CREDIT_SYNC : Nat := 0x02
def REKEY : Nat := 0x04
def REKEY_ACK : Nat := 0x05
def LANE_REQ : Nat := 0x10
def LANE_ACK : Nat := 0x11
def LANE_NACK : Nat := 0x12
def ALIGN_ID : Nat := 0x20
def ALIGN_CRED : Nat := 0x21
def AUTH : Nat := 0x22
end Ctl

/-- Credit of a VC set, cut to the field. A VC at or above `VCS` keeps 0. -/
def State.setAvail (s : State) (p v n : Nat) : State :=
  if v < s.rd JXK_CTRL.VCS p then s.wr JXK_VC.AVAIL (min 1023 n) (p * 64 + v) else s

/-- A CREDIT flit adds each count to its VC's credit (R150). -/
def State.creditIn (s : State) (p : Nat) (y : List Byte) : State :=
  if s.linkActive p = false ∨ s.on JXK_STATUS.CMODE p then s
  else (creditCounts y).zipIdx.foldl (fun s e => s.setAvail p e.2 (s.rd JXK_VC.AVAIL (p * 64 + e.2) + e.1)) s

/-- A CREDIT_SYNC flit sets each VC's credit to INIT - ((SENT - FREED) mod 1,024) (R151). -/
def State.creditSyncIn (s : State) (p : Nat) (y : List Byte) : State :=
  if s.linkActive p = false ∨ s.on JXK_STATUS.CMODE p = false then s
  else
    let base := byteAt y 1
    (creditSyncCounts y).zipIdx.foldl (fun s e =>
      let v := base + e.2
      let out := (NMap.get (s.lk p).sent 0 v + 1024 - e.1) % 1024
      s.setAvail p v (NMap.get (s.lk p).peerInit 0 v - out)) s

/-- A REKEY flit for generation `kg` at superframe `e` (R160). -/
def rekeyPayload (kg e : Nat) : List Byte := le 1 Ctl.REKEY ++ le 1 kg ++ le 4 e

/-- The upstream end asks for a new key generation, four superframes ahead (R159). -/
def State.sendRekey (s : State) (p attempts : Nat) : State :=
  let kg := s.rd JXK_STATUS.KEYGEN p + 1
  let e := (s.sfn + 4) % 2 ^ 32
  (s.modLk p (fun l => { l with rekey := some { keygen := kg, effect := e, attempts := attempts, acked := false } })).pushCtl
    p Kind.CONTROL (rekeyPayload kg e) true

/-- A renewal starts, or the link retrains where the generation is 255 (R483). -/
def State.startRekey (s : State) (p : Nat) : State :=
  if s.rd JXK_STATUS.KEYGEN p = 255 then s.recover p else s.sendRekey p 1

/-- The downstream end takes a REKEY and answers it (R159). -/
def State.rekeyIn (s : State) (p : Nat) (y : List Byte) : State :=
  if s.linkActive p = false ∨ s.isUpPort p = false then s
  else
    (s.modLk p (fun l => { l with rekey := some { keygen := byteAt y 1, effect := leAt y 2 4, attempts := 1, acked := true } })).pushCtl
      p Kind.CONTROL (le 1 Ctl.REKEY_ACK ++ le 1 (byteAt y 1)) true

/-- The upstream end records the acknowledgement of the generation it asked for. -/
def State.rekeyAckIn (s : State) (p : Nat) (y : List Byte) : State :=
  if s.isUpPort p then s
  else
    match (s.lk p).rekey with
    | some r =>
      if r.keygen % 256 = byteAt y 1 then s.modLk p (fun l => { l with rekey := some { r with acked := true } }) else s
    | none => s

/-- The peer's ALIGN_ID (R162): a mismatch fails training with CONFLICT; the downstream end adopts the epoch (R166). -/
def State.alignIdIn (s : State) (p : Nat) (a : AlignId) : State :=
  if s.linkSt p ≠ LinkSt.ALIGN then s
  else
    let up := !s.isUpPort p
    let bad := a.zone != s.rd GLB_ZONE.ZONE || a.up == up || a.hub != (s.lk p).expHub || a.port != (s.lk p).expPort ||
      a.expHub != s.rd GLB_HUB.HUB || a.expPort != p || a.vcs != s.rd JXK_CTRL.VCS p || a.prot != s.on JXK_CTRL.PROT p
    if bad then s.trainFail p St.CONFLICT
    else
      (s.modLk p (fun l => { l with idOk := true, epoch := if up then l.epoch else a.epoch })).tryAuth p

/-- The peer's advertised credits (R149, R160). -/
def State.alignCredIn (s : State) (p : Nat) (y : List Byte) : State :=
  if s.linkSt p ≠ LinkSt.ALIGN then s
  else
    let base := byteAt y 1
    let init := (alignCredCounts y).zipIdx.foldl (fun m e => NMap.set m 0 (base + e.2) e.1) (s.lk p).peerInit
    (s.modLk p (fun l => { l with peerInit := init, credOk := NMap.set l.credOk false base true })).tryAuth p

/-- A CONTROL code that needs a sequence number (R160). -/
def sequencedCode (c : Nat) : Bool := c == Ctl.CREDIT || c == Ctl.REKEY || c == Ctl.REKEY_ACK

def State.badKind (s : State) (p : Nat) : State := s.bump JXK_BADKIND.COUNT p

/-- A CONTROL flit by its code (R160). An AUTH message's checks pass: a failing one comes as AUTH_MESSAGE_RECEIVE. -/
def State.controlIn (s : State) (p : Nat) (y : List Byte) : State :=
  let c := byteAt y 0
  if c = Ctl.CREDIT then s.creditIn p y
  else if c = Ctl.CREDIT_SYNC then s.creditSyncIn p y
  else if c = Ctl.REKEY then s.rekeyIn p y
  else if c = Ctl.REKEY_ACK then s.rekeyAckIn p y
  else if c = Ctl.LANE_REQ then s.laneReq p (LaneMsg.ofPayload y)
  else if c = Ctl.LANE_ACK then s.laneAck p (LaneMsg.ofPayload y)
  else if c = Ctl.LANE_NACK then s.laneNack p (LaneMsg.ofPayload y)
  else if c = Ctl.ALIGN_ID then s.alignIdIn p (AlignId.ofPayload y)
  else if c = Ctl.ALIGN_CRED then s.alignCredIn p y
  else if c = Ctl.AUTH then s.authReceive p y true
  else s.badKind p

/-- `EXPECTED` moves past an accepted flit (R142). -/
def State.advance (s : State) (p : Nat) : State := s.setExpected p (seqNext (s.rd JXK_RXSEQ.EXPECTED p))

/-- A GUAR flit accepted in order: staged, or void (R138), or refused while its tunnel's staging is full (R73). -/
def State.acceptGuar (s : State) (p slot : Nat) (f : Flit) : State :=
  let lcn := f.chan % 256
  if lcn = 0xFE then (s.advance p).bump JXK_VOIDDROP.COUNT p
  else
    match s.tunnelOfLcn p 1 (s.rxTable p) lcn with
    | none => s
    | some tix => if s.stageFull p tix then s.stageDrop p else (s.advance p).stage p slot tix false f

/-- The stream that a TAG flit closes by its LCN (R136): 0xFD is the OPEN stream. -/
def State.tagStream (s : State) (p lcn : Nat) : Option Nat :=
  if lcn = 0xFD then some 1 else (s.tunnelOfLcn p 1 (s.rxTable p) lcn).map (fun tix => s.tidOf tix)

/-- A sequenced flit accepted in order (R142), by its kind. A TAG waits for its verification. -/
def State.acceptInOrder (s : State) (p slot : Nat) (f : Flit) : State :=
  if f.kind = Kind.SLOT then s.acceptGuar p slot f
  else if f.kind = Kind.OPEN then (s.advance p).takeOpen p f
  else if f.kind = Kind.TAG then
    match s.tagStream p (f.chan % 256) with
    | some tid => s.modLk p (fun l => { l with tagWait := some { stream := tid, chan := f.chan, payload := f.payload, seq := f.seq, after := [] } })
    | none => s.advance p
  else if f.kind = Kind.CONTROL then (s.advance p).controlIn p f.payload
  else s.advance p

/-- The table of R142; behind a TAG that awaits verification, sequenced flits are held. -/
def State.sequenced (s : State) (p slot : Nat) (f : Flit) : State :=
  match (s.lk p).tagWait with
  | some t => s.modLk p (fun l => { l with tagWait := some { t with after := t.after ++ [(slot, f)] } })
  | none =>
    let d := seqDist f.seq (s.rd JXK_RXSEQ.EXPECTED p)
    if d = 0 then s.acceptInOrder p slot f
    else if d ≤ 2047 then s.bump JXK_OOS.COUNT p
    else s.bump JXK_DUP.COUNT p

/-- An ISO flit in a slot (R136, R73): staged for the slot's tunnel. -/
def State.isoIn (s : State) (p slot : Nat) (f : Flit) : State :=
  match s.rxOwner p slot with
  | none => s.xmiss p
  | some tix => if s.stageFull p tix then (s.stageDrop p).isoLossAt p tix slot else s.stage p slot tix true f

/-- An unsequenced flit: ISO data and tags, restore flits, and the control messages that carry no number (R141). -/
def State.unsequenced (s : State) (p slot : Nat) (f : Flit) : State :=
  if f.kind = Kind.SLOT then
    if f.chan % 256 = 0xFF then s.isoIn p slot f
    else
      match s.tunnelOfLcn p 1 (s.rxTable p) (f.chan % 256) with
      | some tix => s.takeRestore p slot (s.tidOf tix) (some tix) f
      | none => s
  else if f.kind = Kind.OPEN then s.takeRestore p slot 1 none f
  else if f.kind = Kind.TAG then
    match s.rxOwner p slot with
    | some tix => if s.isIso tix then s.isoTag p tix f.payload else s
    | none => s
  else if f.kind = Kind.CONTROL then
    if sequencedCode (byteAt f.payload 0) then s else s.controlIn p f.payload
  else s

/-- A flit that passed its check, before ACTIVE: only SYNC and the training messages (R163). -/
def State.trainingIn (s : State) (p : Nat) (f : Flit) : State :=
  if f.kind = Kind.SYNC then s.syncReceive p (some f.payload) 0
  else if f.kind = Kind.CONTROL then s.controlIn p f.payload
  else if 7 ≤ f.kind then s.badKind p
  else s

/-- A flit that passed its check in ACTIVE (R142 to R144). In a provisional superframe a slot whose owner differs is discarded
(R52). -/
def State.flitIn (s : State) (p slot : Nat) (f : Flit) : State :=
  let s := s.takeAck p f.ack
  if (s.lk p).plan.provisional && s.rxDiffers p slot then s.provisionalLoss p 1 slot (s.rxTable p)
  else if 7 ≤ f.kind then s.badKind p
  else if f.kind = Kind.IDLE then s
  else if f.kind = Kind.SYNC then s.syncReceive p (some f.payload) 0
  else if f.kind = Kind.FRONT then s.frontReceive p f.payload
  else if f.seq = noSeq then s.unsequenced p slot f
  else s.sequenced p slot f

/-- Every DATA lane with a margin hit inside a failing flit is charged (R121). `hits` has one bit a lane. -/
def State.chargeLanes (s : State) (p hits : Nat) : State :=
  (bitList 10 hits).foldl (fun s k =>
    if s.laneSt p k = LaneSt.DATA then
      s.modLane p (fun a => { a with charges := NMap.set a.charges 0 k (NMap.get a.charges 0 k + 1) })
    else s) s

/-- A flit that fails its check (R140): counted, its lanes charged, and a loss recorded for an ISO tunnel that owns the slot
(R148). In slot 0 it is a failed SYNC. -/
def State.flitFails (s : State) (p slot hits : Nat) : State :=
  let s := (s.bump JXK_CRCERR.COUNT p).chargeLanes p hits
  let s := match s.rxOwner p slot with
    | some tix => if s.linkActive p && s.tunValid tix && s.isIso tix then s.isoLossAt p tix slot else s
    | none => s
  if slot = 0 then s.syncReceive p none 0 else s

/-- A stale flit of the previous epoch (R140). -/
def State.staleFlit (s : State) (p : Nat) : State := (s.bump JXK_EPOCHDROP.COUNT p).raiseOnce (Ev.JXK_STALE p) 0

/-- A GUAR flit in a slot its own tunnel owns, with the LCN of another (R138). A lendable slot may carry another tunnel's
replayed flit (log entry 18). -/
def State.wrongLcn (s : State) (p slot : Nat) (f : Flit) : Bool :=
  if f.kind = Kind.SLOT ∧ f.chan % 256 ≠ 0xFF ∧ f.chan % 256 ≠ 0xFE then
    match s.rxOwner p slot with
    | some tix => s.isGuar tix && !s.on TUN_ENT0.LEND tix && tix != 0 && s.tunnelOfLcn p 1 (s.rxTable p) (f.chan % 256) != some tix
    | none => false
  else false

/-- A received flit of 32 bytes in `slot` (R139, R140). -/
def State.flitReceive (s : State) (p slot : Nat) (raw : List Byte) (hits : Nat) : State :=
  let st := s.linkSt p
  if st < LinkSt.ALIGN ∨ LinkSt.ACTIVE < st ∨ s.slotsPerSf p ≤ slot then s
  else
    let epoch := if st = LinkSt.ACTIVE then s.rd JXK_STATUS.EPOCH p else 0
    let prev := (s.lk p).prevEpoch
    let f := Flit.ofRaw raw
    if rawPasses raw epoch then
      if st ≠ LinkSt.ACTIVE then s.trainingIn p f
      else if s.wrongLcn p slot f then s.flitFails p slot hits
      else s.flitIn p slot f
    else if prev ≠ 0 ∧ rawPasses raw prev then s.staleFlit p
    else s.flitFails p slot hits

end Sys2Proof.Machine
end

