-- ==== Sys2Proof/Machine/Link.lean ====
section
/-! DEFINITION. The link-layer commands: received flits, replay, tags, credits, key renewal and training (spec/05, R480 to R483). -/
namespace Sys2Proof.Machine

/-- What a replay sends for one unacknowledged flit: a TAG is preceded by the retained data of its group (R146). -/
def replayOf (retained : List RbEnt) (e : RbEnt) : List ReplayItem :=
  (if e.tag then (retained.filter (fun d => d.prot && d.stream == e.stream && d.group == e.group)).map
      (fun d => { ent := d, restore := true }) else [])
    ++ [{ ent := e, restore := false }]

/-- The flits of a replay from the oldest unacknowledged flit on (R146). -/
def State.replayList (s : State) (p : Nat) : List ReplayItem :=
  let b := (s.lk p).rbuf
  (b.filter (fun e => s.unacked p e.seq)).flatMap (replayOf (b.filter (fun e => !s.unacked p e.seq)))

/-- `REPLAY_TIMEOUT` (R146, R147): the count of expiries without progress, or RECOVER at `REPLAY_LIM`. -/
def State.replayTimeout (s : State) (p : Nat) : State :=
  let items := s.replayList p
  if s.linkActive p = false ∨ items.isEmpty then s
  else
    let s := s.bump JXK_REPLAYS.COUNT p
    let s := if (s.lk p).ackMoved then s.modLk p (fun l => { l with ackMoved := false }) else s.bump JXK_TXSEQ.EXPIRIES p
    if s.rd JXK_CTRL.REPLAY_LIM p ≤ s.rd JXK_TXSEQ.EXPIRIES p then (s.raise (Ev.JXK_REPLAY_LIM p)).recover p
    else (s.modLk p (fun l => { l with resend := items })).wr JXK_STATUS.REPLAYING 1 p

/-- `TAG_VERIFY` (R142, R155, R156): the group is released and the held flits are processed in order, or it is discarded and they are
out of sequence. -/
def State.tagVerify (s : State) (p : Nat) : State :=
  match (s.lk p).tagWait with
  | none => s
  | some t =>
    let ok := s.tagVerifies p t.stream t.payload
    let s := s.modLk p (fun l => { l with tagWait := none })
    if ok then
      t.after.foldl (fun s e => s.sequenced p e.1 e.2) ((s.releaseGroup p t.stream (byteAt t.payload 19)).advance p)
    else t.after.foldl (fun s _ => s.bump JXK_OOS.COUNT p) (s.discardGroup p t.stream)

/-- `CREDIT_RECEIVE` (R150). -/
def execCreditReceive (p : Fin 4) (y : List Byte) (s : State) : Res := .next (s.creditIn p.val y)

/-- `CREDIT_TIMEOUT` (R150): a VC has waited without credit for `CTO`. -/
def State.creditTimeout (s : State) (p v : Nat) : State :=
  if s.linkActive p ∧ s.on JXK_STATUS.CMODE p = false ∧ s.on JXK_VC.STALL (p * 64 + v) then
    ((s.bump JXK_CTOCNT.COUNT p).raise (Ev.JXK_CREDIT_TIMEOUT p) v).recover p
  else s

/-- `CREDIT_SYNC_SEND` (R151): FREED of every VC, 16 a flit, in the first superframe of a hyperframe. -/
def State.creditSyncSend (s : State) (p : Nat) : State :=
  if s.linkActive p ∧ s.on JXK_STATUS.CMODE p ∧ s.sfn % 256 = 0 then
    (s.credBases p).foldl (fun s b =>
      s.pushCtl p Kind.CONTROL (le 1 Ctl.CREDIT_SYNC ++ le 1 b ++ le 2 0 ++
        le 20 (pack 10 ((List.range 16).map (fun i => NMap.get (s.lk p).freed 0 (b + i))))) false) s
  else s

def execCreditSyncSend (p : Fin 4) (s : State) : Res := .next (s.creditSyncSend p.val)

/-- `CREDIT_SYNC_RECEIVE` (R151). -/
def execCreditSyncReceive (p : Fin 4) (y : List Byte) (s : State) : Res := .next (s.creditSyncIn p.val y)

/-- `REKEY_TIMER` (R159): the renewal period has passed at the upstream end. -/
def State.rekeyTimer (s : State) (p : Nat) : State :=
  if s.linkActive p ∧ s.isUpPort p = false ∧ (s.lk p).rekey = none then s.startRekey p else s

/-- The checks of `JXK_CMD` that both ops share. -/
def State.jxkCmdChecks (s : State) (p : Nat) : List (Nat × Bool) :=
  [(St.STATE, !s.linkActive p), (St.BUSY, (s.lk p).rekey.isSome)]

/-- `REKEY` (`JXK_CMD` op 2). -/
def State.rekeyCmd (s : State) (p : Nat) : State :=
  s.checked (s.jxkCmdChecks p ++ [(St.STATE, s.isUpPort p)]) (fun s => (s.startRekey p).answer St.OK)

/-- `REKEY_RECEIVE` (R159). -/
def execRekeyReceive (p : Fin 4) (y : List Byte) (s : State) : Res := .next (s.rekeyIn p.val y)

/-- `REKEY_ACK_RECEIVE` (R159). -/
def execRekeyAckReceive (p : Fin 4) (y : List Byte) (s : State) : Res := .next (s.rekeyAckIn p.val y)

/-- Superframe `a` has come by superframe `b`, modulo 2^32. -/
def sfnReached (a b : Nat) : Bool := decide ((b + 2 ^ 32 - a % 2 ^ 32) % 2 ^ 32 < 2 ^ 31)

/-- `REKEY_NO_ACK` (R159): E has come without a REKEY_ACK; after three attempts the link recovers. -/
def State.rekeyNoAck (s : State) (p : Nat) : State :=
  match (s.lk p).rekey with
  | some r =>
    if r.acked || !sfnReached r.effect s.sfn then s
    else if r.attempts < 3 then s.sendRekey p (r.attempts + 1)
    else ((s.modLk p (fun l => { l with rekey := none })).raise (Ev.JXK_REKEY_FAIL p)).recover p
  | none => s

/-- `REKEY_EFFECT` (R159): at slot 0 of E the new generation comes into force; the old one is kept for its groups. -/
def State.rekeyEffect (s : State) (p : Nat) : State :=
  match (s.lk p).rekey with
  | some r =>
    if r.acked && sfnReached r.effect s.sfn then
      let old := s.rd JXK_STATUS.KEYGEN p
      let s := s.modLk p (fun l => { l with rekey := none, oldKey := some old, oldKeyAt := s.sfn })
      (s.wr JXK_STATUS.KEYGEN r.keygen p).raise (Ev.JXK_REKEY_DONE p) r.keygen
    else s
  | none => s

def execRekeyEffect (p : Fin 4) (s : State) : Res := .next (s.rekeyEffect p.val)

/-- A group is open at the receiver that began before the new generation came into force. -/
def State.oldGroupOpen (s : State) (p : Nat) : Bool :=
  (s.lk p).groupsRx.any (fun g => decide (0 < g.2.count) || g.2.discarded)

/-- `OLD_KEY_RETIRE` (R159): every group under the old key is done, or one hyperframe has passed. -/
def State.oldKeyRetire (s : State) (p : Nat) : State :=
  let l := s.lk p
  if l.oldKey.isSome && (!s.oldGroupOpen p || sfnReached ((l.oldKeyAt + 256) % 2 ^ 32) s.sfn) then
    s.modLk p (fun l => { l with oldKey := none })
  else s

def execOldKeyRetire (p : Fin 4) (s : State) : Res := .next (s.oldKeyRetire p.val)

/-- `RETRAIN` (`JXK_CMD` op 1, R164). -/
def State.retrainCmd (s : State) (p : Nat) : State :=
  s.checked (s.jxkCmdChecks p) (fun s => (s.recover p).answer St.OK)

/-- The port becomes DISABLED (R170): the link is flushed under R167. -/
def State.disablePort (s : State) (p : Nat) : State :=
  if s.linkSt p = LinkSt.DISABLED then s
  else if s.linkActive p then s.leaveActive p LinkSt.DISABLED downDisabled
  else (((s.flush p).freshAttempt p false).releaseScan p).setLinkSt p LinkSt.DISABLED |>.wr JXK_STATUS.BACKOFF 0 p

/-- Ports train once the boot lock is set; a network-booting node's upstream port trains before (R410, R414 step 12). -/
def State.mayTrain (s : State) (p : Nat) : Bool :=
  s.on BOOT_STATUS.LOCK || (s.chip.bootId && s.isUpPort p)

/-- A port with `EN` = 1 trains once the hub has started (R163, R414 step 12). -/
def State.enablePort (s : State) (p : Nat) : State :=
  if s.linkSt p = LinkSt.DISABLED ∧ s.on JXK_CTRL.EN p ∧ s.mayTrain p then (s.freshAttempt p false).setLinkSt p LinkSt.DETECT
  else s

/-- `JXK_EN_WRITE`: a write of `JXK_CTRL`; `VCS` changes the headroom (R188). -/
def State.jxkCtrlWrite (s : State) (p data : Nat) : State :=
  s.writeReg Reg.JXK_CTRL p data [(St.NOSPACE, decide (65536 < (s.writeFields Reg.JXK_CTRL p data).reservedCells))] (fun s =>
    (if s.on JXK_CTRL.EN p then s.enablePort p else s.disablePort p).recomputePool)

/-- `DETECT_DONE` (R163): blocks on 4 lanes both ways, and the PLL locked. -/
def State.detectDone (s : State) (p : Nat) : State :=
  if s.linkSt p = LinkSt.DETECT ∧ s.on JXK_STATUS.BACKOFF p = false then (s.freshAttempt p true).setLinkSt p LinkSt.EQUALIZE else s

def execDetectDone (p : Fin 4) (s : State) : Res := .next (s.detectDone p.val)

/-- The lanes of `own` that are not in states 3 to 7 (R130). -/
def State.qualLanes (s : State) (p own : Nat) : List Nat :=
  (bitList 10 own).filter (fun k => decide (s.laneSt p k < LaneSt.FAILING))

/-- The mode available in both directions at a rate (R130, R163): `some false` full, `some true` narrow. -/
def State.modeAt (s : State) (p : Nat) (r : EqResult) (rate : Nat) : Option Bool :=
  let own := (s.qualLanes p (r.own.getD rate 0)).length
  let peer := popcount 10 (r.peer.getD rate 0)
  if 8 ≤ own ∧ 8 ≤ peer ∧ s.on JXP_STATUS.OVC_HOLD p = false ∧ r.peerHold = false then some false
  else if 4 ≤ own ∧ 4 ≤ peer then some true
  else none

/-- A mask from a list of lanes. -/
def laneMask (l : List Nat) : Nat := (l.map (fun k => 2 ^ k)).sum

/-- The taps and the peaking that EQUALIZE left (R106, R108, R109); a lane that the result does not name keeps its own. -/
def State.setEqualiser (s : State) (p : Nat) (r : EqResult) : State :=
  (List.range 10).foldl (fun s k =>
    let i := laneIx p k
    let pre := min 12 (r.pre.getD k (s.rd JXP_FFE.C_PRE i))
    let post := min 24 (r.post.getD k (s.rd JXP_FFE.C_POST i))
    let s := ((s.wr JXP_FFE.C_PRE pre i).wr JXP_FFE.C_POST post i).wr JXP_FFE.MAIN (63 - pre - post) i
    s.wr JXP_RXEQ.PEAK (min 15 (r.peak.getD k (s.rd JXP_RXEQ.PEAK i))) i) s

/-- `EQUALIZE_DONE` (R130): the first rate from the slower ceiling downwards at which a mode is available both ways. -/
def State.equalizeDone (s : State) (p : Nat) (r : EqResult) : State :=
  if s.linkSt p ≠ LinkSt.EQUALIZE then s
  else
    let s := s.setEqualiser p r
    let ceil := max (max (s.rd JXP_CTRL.MAXRATE p) (s.rd JXP_STATUS.RATE_CAP p)) r.peerCeil
    match ([0, 1, 2].filter (fun x => decide (ceil ≤ x))).findSome? (fun x => (s.modeAt p r x).map (fun n => (x, n))) with
    | none => s.trainFail p St.INTEGRITY
    | some (rate, narrow) =>
      let qual := laneMask (s.qualLanes p (r.own.getD rate 0))
      let s := (s.wr JXP_STATUS.RATE rate p).setBit JXP_STATUS.NARROW narrow p
      let s := s.modLk p (fun l => { l with modeQual := qual, modePeer := r.peer.getD rate 0 })
      let s := if s.rd JXP_CTRL.MAXRATE p < rate then s.raise (Ev.JXP_RATE_FALL p) rate else s
      (s.releaseScan p).setLinkSt p LinkSt.DESKEW

def execEqualizeDone (p : Fin 4) (r : EqResult) (s : State) : Res := .next (s.equalizeDone p.val r)

/-- The lane map that gives logical lanes 0 upwards to the lowest qualified lanes (R130); 0xF beyond the width (R100). -/
def mapOf (lanes : List Nat) (width : Nat) : Nat :=
  pack 4 ((List.range 8).map (fun l => if l < width then lanes.getD l 0xF else 0xF))

/-- Lane states after qualification (R130): the mapped lanes DATA, the other qualified lanes SPARE, the rest UNQUAL but for those in
states 3 to 7. -/
def State.placeLanes (s : State) (p : Nat) (lanes : List Nat) : State :=
  let data := lanes.take (s.width p)
  (List.range 10).foldl (fun s k =>
    if data.contains k then s.setLane p k LaneSt.DATA
    else if lanes.contains k then s.setLane p k LaneSt.SPARE
    else if s.laneSt p k < LaneSt.FAILING then s.setLane p k LaneSt.UNQUAL
    else s) s

/-- The next epoch of a port (R166). -/
def nextEpoch (e : Nat) : Nat := e % 255 + 1

/-- `DESKEW_DONE` (R163): `pol` has a bit for each lane found swapped; the maps are set and the upstream end picks the epoch. -/
def State.deskewDone (s : State) (p pol : Nat) : State :=
  if s.linkSt p ≠ LinkSt.DESKEW then s
  else
    let lanes := bitList 10 (s.lk p).modeQual
    let s := (List.range 10).foldl (fun s k => s.setBit JXP_RXEQ.POLINV (bitAt pol k) (laneIx p k)) s
    let s := s.placeLanes p lanes
    let s := s.wr JXP_RXMAP.MAP (mapOf lanes (s.width p)) p
    let s := s.wr JXP_TXMAP.MAP (mapOf (bitList 10 (s.lk p).modePeer) (s.width p)) p
    let s := s.freshAttempt p true
    (s.modLk p (fun l => { l with peerInit := [], epoch := if s.isUpPort p then 0 else nextEpoch l.prevEpoch })).setLinkSt p LinkSt.ALIGN

def execDeskewDone (p : Fin 4) (pol : Nat) (s : State) : Res := .next (s.deskewDone p.val pol)

/-- `ALIGN_ID_RECEIVE` (R162). -/
def execAlignIdReceive (p : Fin 4) (y : List Byte) (s : State) : Res := .next (s.alignIdIn p.val (AlignId.ofPayload y))

/-- `ALIGN_CRED_RECEIVE` (R160). -/
def execAlignCredReceive (p : Fin 4) (y : List Byte) (s : State) : Res := .next (s.alignCredIn p.val y)

/-- `TRAINING_TIMEOUT` (R163, R165): in DETECT the limit runs from the first block seen. -/
def State.trainingTimeout (s : State) (p : Nat) : State :=
  let st := s.linkSt p
  if (LinkSt.EQUALIZE ≤ st ∧ st ≤ LinkSt.AUTH) ∨ (st = LinkSt.DETECT ∧ (s.lk p).attempt ∧ s.on JXK_STATUS.BACKOFF p = false) then
    s.trainFail p St.TIMEOUT
  else s

def execTrainingTimeout (p : Fin 4) (s : State) : Res := .next (s.trainingTimeout p.val)

/-- `BACKOFF_END` (R165). -/
def execBackoffEnd (p : Fin 4) (s : State) : Res := .next (s.wr JXK_STATUS.BACKOFF 0 p.val)

/-- `RECOVER_END` (R163). -/
def State.recoverEnd (s : State) (p : Nat) : State :=
  if s.linkSt p = LinkSt.RECOVER then (s.freshAttempt p true).setLinkSt p LinkSt.EQUALIZE else s

def execRecoverEnd (p : Fin 4) (s : State) : Res := .next (s.recoverEnd p.val)

/-- `PEER_TRAINING_DETECT` (R163, R164): in ACTIVE the link recovers; in DETECT an attempt has begun. -/
def State.peerTraining (s : State) (p : Nat) : State :=
  if s.linkActive p then s.recover p
  else if s.linkSt p = LinkSt.DETECT ∧ s.on JXK_STATUS.BACKOFF p = false then s.modLk p (fun l => { l with attempt := true })
  else s

/-- `PEER_LOSS` (R546). -/
def State.peerLoss (s : State) (p : Nat) : State :=
  if s.linkActive p then (s.leaveActive p LinkSt.DETECT downPeerLoss).modLk p (fun l => { l with attempt := false })
  else if s.linkSt p = LinkSt.DISABLED ∨ s.on JXK_STATUS.BACKOFF p then s
  else ((s.freshAttempt p false).releaseScan p).setLinkSt p LinkSt.DETECT

/-- `LOOP_MEASURE` (R44, R168): `v` in 1/64 tick, at the upstream end. -/
def State.loopMeasure (s : State) (p v : Nat) : State :=
  let o := s.rd PLN_ALIGN.OFFSET p
  if s.isUpPort p then s
  else if s.linkSt p = LinkSt.ALIGN then
    let ticks := (v + 63) / 64
    let s := s.wr PLN_ALIGN.LOOP (min 1023 ticks) p
    if o < ticks then (s.raise Ev.PLN_ALIGN_RANGE p).trainFail p St.RANGE
    else (s.modLk p (fun l => { l with loopOk := true })).tryAuth p
  else if s.linkActive p then
    let s := s.wr JXK_LOOP.LOOP (min (2 ^ 20 - 1) v) p
    if o * 64 < v then s.recover p else s
  else s

end Sys2Proof.Machine
end

