-- ==== Sys2Proof/Machine/Switch.lean ====
section
/-! DEFINITION. Commands of the switch (spec/06). -/
namespace Sys2Proof.Machine

/-- `SWITCH_CELL_ALLOCATE` (R174, R193). -/
def execSwitchCellAllocate (p : Fin 18) (s : State) : Res := .next (s.cellAllocate p.val)

/-- `SWITCH_FRAME_COMPLETE` (R176, R177). -/
def execSwitchFrameComplete (s : State) : Res := .next s.frameComplete

/-- `SCHEDULER_SELECT` (R206): one cycle's selections. -/
def execSchedulerSelect (s : State) : Res := .next s.selectCycle

/-- `EGRESS_READ` (R180). -/
def execEgressRead (p : Fin 18) (ce : List (Fin 32)) (ueBank : Option (Fin 32)) (ueAddr : Fin 32768) (s : State) : Res :=
  .next (s.egressRead p.val (ce.map Fin.val) (ueBank.map (fun b => (b.val, ueAddr.val))))

/-- One entry aged (R185). -/
def State.ageEntry (s : State) (k : Nat) (e : FdbEnt) : State :=
  if e.isStatic then s
  else if 5 ≤ e.age + 1 then s.setFdb k none
  else s.setFdb k (some { e with age := e.age + 1 })

/-- `AGEING_SWEEP` (R185). `AGE_T` = 0 turns ageing off. -/
def State.ageingSweep (s : State) : State :=
  if s.on SWB_FDBCFG.AGE_T then
    s.sw.fdb.foldl (fun s e => match e.2 with
      | none => s
      | some x => s.ageEntry e.1 x) s
  else s

def execAgeingSweep (s : State) : Res := .next s.ageingSweep

/-- The logical bank that a physical bank serves, if it serves one (R198). -/
def State.logicalBank (s : State) (b : Nat) : Option Nat :=
  (List.range 32).find? (fun l => s.physBank l == b)

/-- An uncorrectable error that the scrubber finds in a physical bank: one in the spare being written ends the copy (R198). -/
def State.scrubUe (s : State) (b : Nat) : State :=
  match s.logicalBank b with
  | some l => s.bankUe l s.sw.scrubAddr true
  | none =>
    let s := ((s.bump SWB_BANK.UE b).raise Ev.SWB_ECC_UE (b + 64 * s.sw.scrubAddr)).bufferError b true true
    if s.on SWB_STATUS.COPY ∧ s.sw.copyTo = b ∧ s.rd SWB_ECCCFG.UE_LIM ≤ s.rd SWB_BANK.UE b then s.copyFails else s

/-- A correctable error that the scrubber finds in a physical bank. -/
def State.scrubCe (s : State) (b : Nat) : State :=
  match s.logicalBank b with
  | some l => s.bankCes [l] true
  | none =>
    let s := s.bankCe b true
    if s.on SWB_STATUS.COPY ∧ s.sw.copyTo = b ∧ s.rd SWB_ECCCFG.CE_LIM < s.rd SWB_BANK.CE b then s.copyFails else s

/-- `BUFFER_SCRUB` (R196): the next word of every bank; the correctable counts restart with each pass. -/
def State.bufferScrub (s : State) (ce ue : List Nat) : State :=
  if s.on SWB_ECCCFG.SCRUB_EN then
    let s := if s.sw.scrubAddr = 0 then (List.range 34).foldl (fun s b => s.wr SWB_BANK.CE 0 b) s else s
    let s := ue.foldl (fun s b => s.scrubUe b) (ce.foldl (fun s b => s.scrubCe b) s)
    s.modSw (fun w => { w with scrubAddr := (w.scrubAddr + 1) % 32768 })
  else s

def execBufferScrub (ce ue : List (Fin 34)) (s : State) : Res :=
  .next (s.bufferScrub (ce.map Fin.val) (ue.map Fin.val))

/-- A logical bank has been substituted or retired. -/
def State.bankReplaced (s : State) (b : Nat) : Bool :=
  s.physBank b != b || s.rd SWB_BANK.STATE b != 0 || s.sw.bankWait.contains b ||
  (s.on SWB_STATUS.COPY && s.rd SWB_STATUS.COPYBANK == b)

/-- `BANK_MARK_FAILING` (R197): a write to `SWB_BCMD`. -/
def State.bankMark (s : State) (data : Nat) : State :=
  let b := SWB_BCMD.BANK.of data
  let go := SWB_BCMD.GO.of data = 1
  s.writeReg Reg.SWB_BCMD 0 data
    [(St.STATE, decide go && s.bankReplaced b), (St.BUSY, decide go && s.on SWB_STATUS.COPY)]
    (fun s => if go then s.bankFailing b else s)

def execBankMarkFailing (data : Word) (s : State) : Res := .next (s.access Reg.SWB_BCMD.base true (fun s => s.bankMark data.toNat))

/-- `BANK_COPY_DONE` (R198). -/
def execBankCopyDone (s : State) : Res := .next s.copyDone

/-- The key in `SWB_FBUF0` and `SWB_FBUF1` (R183). -/
def State.fbufMac (s : State) : Nat := s.rd SWB_FBUF.WORD 0 + 2 ^ 32 * bits (s.rd SWB_FBUF.WORD 1) 0 16
def State.fbufVid (s : State) : Nat := bits (s.rd SWB_FBUF.WORD 1) 16 12

/-- The four words of an entry (R183). -/
def FdbEnt.words (e : FdbEnt) : List Nat :=
  [e.mac % 2 ^ 32, e.mac / 2 ^ 32 + 2 ^ 16 * e.vid + (if e.isStatic then 2 ^ 28 else 0) + 2 ^ 31,
   if isGroup e.mac then e.pmask else e.port + 256 * e.sq, e.age]

/-- Four words into `SWB_FBUF`. -/
def State.setFbuf (s : State) (l : List Nat) : State :=
  (List.range 4).foldl (fun s i => s.wr SWB_FBUF.WORD (l.getD i 0) i) s

/-- The command word with its reserved bits clear and the op its row names; the switch port it names exists (R187). -/
def fcmdChecks (data op : Nat) : List (Nat × Bool) :=
  [(St.VALUE, Reg.SWB_FCMD.reservedSet data || SWB_FCMD.OP.of data != op), (St.RANGE, decide (17 < SWB_FCMD.PORT.of data))]

/-- `FDB_LOOKUP` (R187). -/
def State.fdbLookup (s : State) (data : Nat) : State :=
  let k := s.fdbFind s.fbufMac s.fbufVid
  s.checked ((St.VALUE, k.isNone) :: fcmdChecks data 1) (fun s =>
    (s.setFbuf (((k.bind (fun k => s.fdbAt k)).map FdbEnt.words).getD [])).answer St.OK)

def execFdbLookup (data : Word) (s : State) : Res := .next (s.access Reg.SWB_FCMD.base true (fun s => s.fdbLookup data.toNat))

/-- The entry in `SWB_FBUF`. -/
def State.fbufEntry (s : State) : FdbEnt :=
  let w2 := s.rd SWB_FBUF.WORD 2
  { mac := s.fbufMac, vid := s.fbufVid, isStatic := bitAt (s.rd SWB_FBUF.WORD 1) 28, port := bits w2 0 5, sq := bits w2 8 12,
    pmask := bits w2 0 18, age := 0 }

/-- The checks of an entry (R183, R187). -/
def State.fdbInsertChecks (s : State) : List (Nat × Bool) :=
  let w1 := s.rd SWB_FBUF.WORD 1
  let w2 := s.rd SWB_FBUF.WORD 2
  let e := s.fbufEntry
  let g := isGroup e.mac
  [(St.VALUE, !bitAt w1 31 || bits w1 29 2 != 0 || (g && !e.isStatic) || decide (8 ≤ s.rd SWB_FBUF.WORD 3) ||
      (if g then decide (2 ^ 18 ≤ w2) else bits w2 5 3 != 0 || decide (2 ^ 20 ≤ w2))),
   (St.RANGE, !g && decide (17 < e.port)),
   (St.CONFLICT, (s.fdbFind e.mac e.vid).isSome || (!g && s.queuePort e.sq != e.port)),
   (St.NOSPACE, (s.fdbFree e.mac e.vid).isNone)]

/-- INSERT by the command or by the SWITCH section (R187, R202): its status, and the entry placed. -/
def State.fdbPlace (s : State) : State :=
  match s.fdbFree s.fbufMac s.fbufVid with
  | none => s
  | some k => s.setFdb k (some s.fbufEntry)

/-- `FDB_INSERT` (R187). -/
def State.fdbInsert (s : State) (data : Nat) : State :=
  s.checked (fcmdChecks data 2 ++ s.fdbInsertChecks) (fun s => s.fdbPlace.answer St.OK)

def execFdbInsert (data : Word) (s : State) : Res := .next (s.access Reg.SWB_FCMD.base true (fun s => s.fdbInsert data.toNat))

/-- `FDB_DELETE` (R187). -/
def State.fdbDelete (s : State) (data : Nat) : State :=
  let k := s.fdbFind s.fbufMac s.fbufVid
  s.checked ((St.VALUE, k.isNone) :: fcmdChecks data 3) (fun s =>
    (match k with
      | none => s
      | some k => s.setFdb k none).answer St.OK)

def execFdbDelete (data : Word) (s : State) : Res := .next (s.access Reg.SWB_FCMD.base true (fun s => s.fdbDelete data.toNat))

/-- `FDB_READ` (R187): an empty way reads as zeros. -/
def State.fdbRead (s : State) (data : Nat) : State :=
  s.checked (fcmdChecks data 4) (fun s =>
    (s.setFbuf (((s.fdbAt (SWB_FCMD.INDEX.of data * 4 + SWB_FCMD.WAY.of data)).map FdbEnt.words).getD [])).answer St.OK)

def execFdbRead (data : Word) (s : State) : Res := .next (s.access Reg.SWB_FCMD.base true (fun s => s.fdbRead data.toNat))

/-- `FDB_FLUSH` (R187): the dynamic entries, all or those of one port. -/
def State.fdbFlush (s : State) (data : Nat) : State :=
  s.checked (fcmdChecks data 5) (fun s =>
    let byPort := SWB_FCMD.BYPORT.of data = 1
    let port := SWB_FCMD.PORT.of data
    let goes := fun (e : FdbEnt) => !e.isStatic && (!decide byPort || e.port == port)
    let s := s.sw.fdb.foldl (fun s e => match e.2 with
      | none => s
      | some x => if goes x then s.setFdb e.1 none else s) s
    s.answer St.OK)

def execFdbFlush (data : Word) (s : State) : Res := .next (s.access Reg.SWB_FCMD.base true (fun s => s.fdbFlush data.toNat))

end Sys2Proof.Machine
end

