-- ==== Sys2Proof/Machine/TrafficMgr.lean ====
section
/-! DEFINITION. Commands of the traffic manager (spec/07). -/
namespace Sys2Proof.Machine

/-- `NODE_REFILL` (R214, R215). -/
def execNodeRefill (j : Fin 4258) (s : State) : Res := .next (s.refillNode j.val)

/-- `METER_REFILL` (R221). -/
def execMeterRefill (m : Fin 2048) (s : State) : Res := .next (s.refillMeter m.val)

/-- `WFQ_REBASE` (R210): every parent's virtual time is taken from itself and from its children's tags. -/
def State.rebase (s : State) : State :=
  let base := fun (j : Nat) => match s.nodeParent j with
    | none => 0
    | some k => (s.node k).v
  s.tm.nodes.foldl (fun t e => t.setNode e.1 { e.2 with v := 0, t := e.2.t - base e.1 }) s

def execWfqRebase (s : State) : Res := .next s.rebase

/-- A forwarding-database entry, a LEARN_SQ or a FLOOD_SQ names queue `q` (R205). -/
def State.queueNamed (s : State) (q : Nat) : Bool :=
  (List.range 18).any (fun p => s.rd SWB_PCFG.LEARN_SQ p == q || s.rd SWB_PCFG.FLOOD_SQ p == q) ||
  s.sw.fdb.any (fun e => match e.2 with
    | some x => !isGroup x.mac && x.sq == q
    | none => false)

/-- The queue holds a frame, or one of its frames is being read (R205). -/
def State.queueBusy (s : State) (q : Nat) : Bool :=
  !(s.queueOf q).isEmpty || s.sw.egress.any (fun e => e.2.any (fun c => c.queue == q))

/-- The checks of a write to `TMG_NCFG`(j) (R205, R213, R226). -/
def State.ncfgChecks (s : State) (j data : Nat) : List (Nat × Bool) :=
  let w := TMG_NCFG.WEIGHT.of data
  let prio := TMG_NCFG.PRIO.of data
  let par := TMG_NCFG.PARENT.of data
  if j < 4096 then
    let moves := par != s.parentOf j
    [(St.BUSY, moves && s.queueBusy j), (St.VALUE, prio != 0), (St.RANGE, w == 0 || decide (143 < par)),
     (St.CONFLICT, moves && par / 8 != s.queuePort j && s.queueNamed j)]
  else if j < 4240 then [(St.RANGE, w == 0)]
  else [(St.VALUE, data != 0)]

/-- What a write to `TMG_NCFG`(j) stores: the parent of a service node is fixed (R204), a port has no fields. -/
def State.ncfgStore (s : State) (j data : Nat) : State :=
  if j < 4096 then
    ((s.wr TMG_NCFG.WEIGHT (TMG_NCFG.WEIGHT.of data) j).wr TMG_NCFG.PARENT (TMG_NCFG.PARENT.of data) j)
  else if j < 4240 then (s.wr TMG_NCFG.WEIGHT (TMG_NCFG.WEIGHT.of data) j).wr TMG_NCFG.PRIO (TMG_NCFG.PRIO.of data) j
  else s

/-- `QUEUE_PARENT_WRITE` (R205): a write to `TMG_NCFG`(j). Both service nodes of a move are checked under R216. -/
def State.ncfgWrite (s : State) (j data : Nat) : State :=
  let old := 4096 + s.parentOf j
  s.checked ((St.VALUE, Reg.TMG_NCFG.reservedSet data) :: s.ncfgChecks j data) (fun s =>
    let s := s.ncfgStore j data
    (if j < 4096 then s.checkParents (distinct [old, 4096 + s.parentOf j]) else s).answer St.OK)

def execQueueParentWrite (q : Fin 4096) (data : Word) (s : State) : Res := .next (s.access (Reg.TMG_NCFG.addr q.val 0) true (fun s => s.ncfgWrite q.val data.toNat))

/-- A rate in range (R213). -/
def badRate (r : Nat) : Bool := r != 0 && (decide (r < 64) || decide (400000000 < r))

/-- A burst below the tokens of one refill (R213): rate / 6,250 bytes. -/
def shortBurst (rate burst : Nat) : Bool := decide (burst * 64 * 6250 < rate)

/-- The rate and burst registers of a node, by their place in the node's block (R226). -/
def shaperReg (w : Nat) : RegDesc :=
  match w with
  | 1 => Reg.TMG_CIR
  | 2 => Reg.TMG_PIR
  | 3 => Reg.TMG_CBS
  | _ => Reg.TMG_PBS

/-- The checks on what a write to a node's rates and bursts leaves (R213); `w` is the word written. -/
def State.shaperChecks (t : State) (j w : Nat) : List (Nat × Bool) :=
  let cir := t.rd TMG_CIR.RATE j
  let pir := t.rd TMG_PIR.RATE j
  let cbs := t.rd TMG_CBS.BURST j
  let pbs := t.rd TMG_PBS.BURST j
  [(St.VALUE, decide (4240 ≤ j) && cir != 0), (St.RANGE, badRate cir || badRate pir),
   (St.RANGE, (w == 3 && cbs == 0 && cir != 0) || (w == 4 && pbs == 0 && pir != 0)),
   (St.CONFLICT, (pir != 0 && decide (pir < cir)) || shortBurst cir cbs || shortBurst pir pbs)]

/-- `SHAPER_WRITE` (R213, R215, R216): a write to a rate or burst of node `j`; applied at the node's next refill. -/
def State.shaperWrite (s : State) (j w data : Nat) : State :=
  let t := s.writeFields (shaperReg w) j data
  s.checked (s.writeChecks (shaperReg w) j data ++ t.shaperChecks j w) (fun _ =>
    let t := t.wr TMG_NSTAT.PEND 1 j
    let own := if 4096 ≤ j then [j] else []
    let up := (t.nodeParent j).toList
    (t.checkParents (own ++ up)).answer St.OK)

/-- Node registers: 0x0035_0000 + j * 0x20. -/
def execShaperWrite (addr data : Word) (s : State) : Res :=
  .next (
    let a := addr.toNat - 0x350000
    s.addrAccess (decide (addr.toNat % 4 ≠ 0 ∨ addr.toNat < 0x350000 ∨ 4258 ≤ a / 32 ∨ a % 32 / 4 = 0 ∨ 4 < a % 32 / 4)) addr.toNat true
      (fun s => s.shaperWrite (a / 32) (a % 32 / 4) data.toNat))

/-- A meter's registers by their place in its block (R226). -/
def meterReg (w : Nat) : RegDesc :=
  match w with
  | 0 => Reg.TMG_MCFG
  | 1 => Reg.TMG_MCIR
  | 2 => Reg.TMG_MPIR
  | 3 => Reg.TMG_MCBS
  | 4 => Reg.TMG_MPBS
  | _ => Reg.TMG_MACT

/-- The checks on what a write leaves of meter `m` (R213, R221). A burst of 0 is allowed beside a rate. -/
def State.meterChecks (t : State) (m : Nat) : List (Nat × Bool) :=
  let mode := t.rd TMG_MCFG.MODE m
  let cir := t.rd TMG_MCIR.RATE m
  let pir := t.rd TMG_MPIR.RATE m
  let cbs := t.rd TMG_MCBS.BURST m
  let pbs := t.rd TMG_MPBS.BURST m
  [(St.VALUE, t.on TMG_MCFG.CF m && mode != 3), (St.RANGE, badRate cir || badRate pir),
   (St.CONFLICT, (mode == 1 && pir != 0) || (mode == 2 && decide (pir < cir)) || (cbs != 0 && shortBurst cir cbs) ||
      (pbs != 0 && shortBurst pir pbs))]

/-- `METER_WRITE` (R221): the meter applies its configuration at its next refill; actions take effect at once (R222). -/
def State.meterWrite (s : State) (m w data : Nat) : State :=
  let t := s.writeFields (meterReg w) m data
  s.checked (s.writeChecks (meterReg w) m data ++ t.meterChecks m) (fun _ => t.answer St.OK)

/-- Meter registers: 0x003C_0000 + m * 0x20. -/
def execMeterWrite (addr data : Word) (s : State) : Res :=
  .next (
    let a := addr.toNat - 0x3C0000
    s.addrAccess (decide (addr.toNat % 4 ≠ 0 ∨ addr.toNat < 0x3C0000 ∨ 2048 ≤ a / 32 ∨ 5 < a % 32 / 4)) addr.toNat true
      (fun s => s.meterWrite (a / 32) (a % 32 / 4) data.toNat))

end Sys2Proof.Machine
end

