-- ==== Sys2Proof/Machine/Tunnel.lean ====
section
/-! DEFINITION. Commands of the tunnel block: tunnel entries, the route table, frames at the end of their tunnel, point-image
timeouts and the posted-error log (spec/03). -/
namespace Sys2Proof.Machine

/-- The four words of a tunnel entry (R69). -/
def tunWordReg (w : Nat) : RegDesc :=
  match w with
  | 0 => Reg.TUN_ENT0
  | 1 => Reg.TUN_ENT1
  | 2 => Reg.TUN_ENT2
  | _ => Reg.TUN_ENT3

/-- Endpoint codes of R70 that are not reserved. -/
def endpointCode (ep : Nat) : Bool :=
  decide (ep ≤ 3) || (decide (0x10 ≤ ep) && decide (ep ≤ 0x12)) || (decide (0x20 ≤ ep) && decide (ep ≤ 0x2B)) ||
  (decide (0x30 ≤ ep) && decide (ep ≤ 0x37)) || ep == 0xFF

/-- An endpoint is allowed for a class (R70): 0 ISO, 1 GUAR, 2 OPEN. -/
def endpointFits (ep cls : Nat) (txn : Bool) : Bool :=
  if ep ≤ 3 then true
  else if ep = 0x10 ∨ ep = 0xFF then false
  else if ep = 0x11 then true
  else if ep = 0x12 then cls != 0
  else if ep < 0x30 then cls != 0
  else if ep = 0x30 then cls == 1 && txn
  else if ep = 0x31 ∨ ep = 0x32 ∨ ep = 0x35 then cls == 0
  else if ep = 0x33 ∨ ep = 0x34 ∨ ep = 0x36 then cls == 1
  else cls != 2

/-- Flits of staging promised on port `p` (R71). -/
def State.stageSum (s : State) (p : Nat) : Nat :=
  ((List.range 4096).map (fun x =>
    if s.tunValid x && s.tunClass x != 2 && (s.epA x == p || s.epB x == p) then s.rd TUN_ENT3.STAGE x else 0)).sum

/-- The (port, direction, plan) tables that name a TIX (R39). -/
def State.tablesNaming (s : State) (tix : Nat) : List (Nat × Nat × Nat) :=
  (s.planStore.filter (fun e => e.2 == tix)).map (fun e => (e.1 / 4096 / 32, e.1 / 4096 / 16 % 2, e.1 / 4096 % 16))

/-- VALUE under R69 and R71: what the entry's own fields rule out. -/
def State.entryBadValue (t : State) (x : Nat) : Bool :=
  let tid := t.tidOf x
  let cls := t.tunClass x
  (decide (1 ≤ tid) && decide (tid ≤ 15) && !(tid == 1 && cls == 2)) || tid == 0xFFFF || cls == 3 ||
  (t.on TUN_ENT0.LEND x && cls == 2) || (!t.on TUN_ENT0.ENC x && cls != 0) || (t.on TUN_ENT0.TXN x && cls != 1) ||
  !endpointCode (t.epA x) || !endpointCode (t.epB x)

/-- RANGE under R71. -/
def State.entryBadRange (t : State) (x : Nat) : Bool :=
  let d := fun (n : Nat) => decide (1024 < n) || (n != 0 && (decide (3 < t.epA x) || decide (3 < t.epB x)))
  decide (2048 < t.rd TUN_ENT3.STAGE x) || d (t.rd TUN_ENT2.D_AB x) || d (t.rd TUN_ENT2.D_BA x)

/-- CONFLICT under R71 and R311, for an entry that is VALID after the write. -/
def State.entryConflict (t : State) (x : Nat) : Bool :=
  t.tunValid x &&
  (!endpointFits (t.epA x) (t.tunClass x) (t.on TUN_ENT0.TXN x) || !endpointFits (t.epB x) (t.tunClass x) (t.on TUN_ENT0.TXN x) ||
   (!t.isRoot && (t.epA x == 0x11 || t.epB x == 0x11)) || t.epA x == t.epB x ||
   (t.isRoot && [0x35, 0x36].any (fun e => t.epA x == e || t.epB x == e)) ||
   (List.range 4096).any (fun y => y != x && t.tunValid y && t.tidOf y == t.tidOf x))

/-- `RESERVED_FLITS` of the four ports. -/
def State.noteStage (s : State) : State :=
  (List.range 4).foldl (fun s p => s.wr TUN_STAGEUSE.RESERVED_FLITS (s.stageSum p) p) s

/-- `TUNNEL_ENTRY_WRITE` (R39, R69 to R72): word `w` of entry `x`. TIX 0 has only its LEND bit writable. -/
def State.tunnelEntryWrite (s : State) (x w data : Nat) : State :=
  let d := tunWordReg w
  if x = 0 then
    s.checked [(St.STATE, w != 0 || (data &&& 0xFFFBFFFF) != (s.readReg d 0 &&& 0xFFFBFFFF))] (fun s =>
      (s.wr TUN_ENT0.LEND (TUN_ENT0.LEND.of data) 0).answer St.OK)
  else
    let t := s.writeFields d x data
    let changed := s.tidOf x != t.tidOf x || s.tunClass x != t.tunClass x || (s.tunValid x && !t.tunValid x)
    let named := if changed then s.tablesNaming x else []
    s.checked
      [(St.STATE, named.any (fun e => s.planBusy e.1 e.2.2)),
       (St.VALUE, d.reservedSet data || t.entryBadValue x), (St.RANGE, t.entryBadRange x), (St.CONFLICT, t.entryConflict x),
       (St.NOSPACE, t.tunValid x && (List.range 4).any (fun p => decide (2048 < t.stageSum p)))]
      (fun _ => ((named.foldl (fun t e => t.wr (validField e.2.1) 0 (e.1 * 16 + e.2.2)) t).noteStage).answer St.OK)

/-- The tunnel-table window: 0x0022_0000 to 0x0022_FFFF. -/
def inTunnelTable (addr : Nat) : Bool := decide (0x220000 ≤ addr) && decide (addr < 0x230000)

def execTunnelEntryWrite (addr data : Word) (s : State) : Res :=
  .next (s.addrAccess (addr.toNat % 4 != 0 || !inTunnelTable addr.toNat) addr.toNat true
    (fun s => s.tunnelEntryWrite ((addr.toNat - 0x220000) / 16) (addr.toNat % 16 / 4) data.toNat))

/-- What `TUN_RRES` shows of the last command (R98), and the command's status as the write's. -/
def State.routeDone (s : State) (status : Nat) : State := (s.wr TUN_RRES.STATUS status).answer status

/-- The command word of `TUN_RCMD` with its reserved bits clear and the op its row names. -/
def rcmdBad (data op : Nat) : Bool := TUN_RCMD.OP.of data != op || bits data 3 13 != 0 || bitAt data 31

/-- `ROUTE_LOOKUP` (R80): the index of the key in `TUN_RBUF0`; never counted in HITS. -/
def State.routeLookup (s : State) (data : Nat) : State :=
  match s.routeFind (s.rd TUN_RBUF.WORD 0) with
  | some i => if rcmdBad data 1 then s.routeDone St.VALUE else (s.wr TUN_RRES.INDEX i).routeDone St.OK
  | none => s.routeDone St.VALUE

def execRouteLookup (data : Word) (s : State) : Res := .next (s.access Reg.TUN_RCMD.base true (fun s => s.routeLookup data.toNat))

/-- Entry `i` copied to entry `j`. -/
def State.copyRoute (s : State) (i j : Nat) : State :=
  (List.range 4).foldl (fun s w => s.setRoute j w (s.route i w)) s

/-- Entry `i` emptied. -/
def State.clearRoute (s : State) (i : Nat) : State := (List.range 4).foldl (fun s w => s.setRoute i w 0) s

/-- The other candidate of the entry at index `i` (R80). -/
def State.otherIndex (s : State) (i : Nat) : Nat :=
  let k := s.route i 0
  if i < 16384 then routeH1 k (s.rd TUN_RSEED.SEED) else routeH0 k

/-- The chain of displacements from index `i`, `path` newest first: the indices visited, ending in a free one, within `fuel` moves;
it stops where it returns to an index already on it (R80). -/
def State.chainFrom (s : State) (path : List Nat) (i fuel : Nat) : Option (List Nat) :=
  if s.routeValid i = false then some (i :: path)
  else
    match fuel with
    | 0 => none
    | fuel + 1 => if path.contains i then none else s.chainFrom (i :: path) (s.otherIndex i) fuel

/-- The moves of a chain given newest index first: the move into the free index first (R80). -/
def State.makeMoves (s : State) (chain : List Nat) : State :=
  match chain with
  | [] => s
  | j :: r =>
    match r.head? with
    | none => s
    | some i => ((s.copyRoute i j).clearRoute i).makeMoves r

/-- The chain INSERT uses: the shorter, bank 0's when they are as long (R80). -/
def State.insertChain (s : State) (key : Nat) : Option (List Nat) :=
  let a := s.chainFrom [] (routeH0 key) 32
  let b := s.chainFrom [] (routeH1 key (s.rd TUN_RSEED.SEED)) 32
  match a, b with
  | some a, some b => if b.length < a.length then some b else some a
  | some a, none => some a
  | none, b => b

/-- The reserved bits and values of a route entry in `TUN_RBUF` (R77). -/
def State.rbufBad (s : State) : Bool :=
  let key := s.rd TUN_RBUF.WORD 0
  let w1 := s.rd TUN_RBUF.WORD 1
  let ep := bits w1 16 8
  !(decide (1 ≤ identClass key) && decide (identClass key ≤ 4)) || decide (2 ^ 25 ≤ w1) || !bitAt w1 24 ||
  (bits w1 0 16 == 0xFFFF && !senderEndpoint ep)

/-- A new key put where its chain leads, with HITS zeroed. -/
def State.routePut (s : State) (chain : List Nat) : State :=
  let s := s.makeMoves chain
  let i := chain.getLast?.getD 0
  let s := ((s.setRoute i 0 (s.rd TUN_RBUF.WORD 0)).setRoute i 1 (s.rd TUN_RBUF.WORD 1)).setRoute i 2 (s.rd TUN_RBUF.WORD 2)
  let s := s.setRoute i 3 (s.rd TUN_RBUF.WORD 3 % 65536)
  ((s.wr TUN_RRES.INDEX i).wr TUN_RRES.MOVES (chain.length - 1)).wr TUN_RSTAT.COUNT (s.rd TUN_RSTAT.COUNT + 1)

/-- The status of an INSERT of the entry in `TUN_RBUF` and its chain (R77, R80). -/
def State.insertStatus (s : State) (bad : Bool) : Nat :=
  firstStatus [(St.VALUE, bad || s.rbufBad), (St.CONFLICT, (s.routeFind (s.rd TUN_RBUF.WORD 0)).isSome),
    (St.NOSPACE, (s.insertChain (s.rd TUN_RBUF.WORD 0)).isNone)]

/-- INSERT by the command or by the ROUTES section (R80, R96), without its answer. -/
def State.insertRoute (s : State) (bad : Bool) : State :=
  let st := s.insertStatus bad
  if st = St.OK then (s.routePut ((s.insertChain (s.rd TUN_RBUF.WORD 0)).getD [])).wr TUN_RRES.STATUS st
  else (s.wr TUN_RRES.MOVES 0).wr TUN_RRES.STATUS st

def execRouteInsert (data : Word) (s : State) : Res :=
  .next (s.access Reg.TUN_RCMD.base true (fun s => (s.insertRoute (rcmdBad data.toNat 2)).answer (s.insertStatus (rcmdBad data.toNat 2))))

/-- `ROUTE_DELETE` (R80). -/
def State.routeDelete (s : State) (data : Nat) : State :=
  match s.routeFind (s.rd TUN_RBUF.WORD 0) with
  | some i =>
    if rcmdBad data 3 then s.routeDone St.VALUE
    else ((s.clearRoute i).wr TUN_RSTAT.COUNT (s.rd TUN_RSTAT.COUNT - 1)).routeDone St.OK
  | none => s.routeDone St.VALUE

def execRouteDelete (data : Word) (s : State) : Res := .next (s.access Reg.TUN_RCMD.base true (fun s => s.routeDelete data.toNat))

/-- `ROUTE_READ` (R98). -/
def State.routeRead (s : State) (data : Nat) : State :=
  if rcmdBad data 4 then s.routeDone St.VALUE
  else
    let i := TUN_RCMD.INDEX.of data
    ((List.range 4).foldl (fun s w => s.wr TUN_RBUF.WORD (s.route i w) w) s).routeDone St.OK

def execRouteRead (data : Word) (s : State) : Res := .next (s.access Reg.TUN_RCMD.base true (fun s => s.routeRead data.toNat))

/-- A frame that arrived whole at its tunnel's local endpoint (R68, R75, R76, R178): at a local port it goes to the queue of
its entry, or where its class-4 identifier leads; at the gateway it becomes a gateway frame; a Cirrus message waits for the
relay. -/
def State.tunnelFrame (s : State) (u : TunUnit) : State :=
  let tid := leAt u.bytes 0 2
  let ident := leAt u.bytes 2 4
  let body := (u.bytes.drop 8).take (tunLen u.bytes)
  let known := tid == 1 || (s.tixOf tid).isSome
  if u.kind = 1 then s.gwDeliver 1 u.tix 0 u.sub u.bad u.bytes
  else if u.bad then (if u.ep = 0x11 then s.gwLost u.tix else s).swDrop u.port Drop.FORMAT
  else if u.kind ≠ 0 then s.gwDeliver u.kind u.tix 0 u.sub false u.bytes
  else if lenFits u.bytes (u.bytes.length / 24) = false ∨ known = false then s.swDrop u.port Drop.FORMAT
  else if u.ep = 0x10 then s.modTun (fun t => { t with cirrusIn := t.cirrusIn ++ [{ u with bytes := body }] })
  else if u.ep = 0x11 then s.gwDeliver 0 u.tix ident 0 (tunLoss u.bytes) body
  else
    let f := { frameOf u.port body with tid := s.tidOf u.tix, ident := ident, loss := tunLoss u.bytes }
    if identClass ident = 4 then s.identFrame ident f else s.handOver f (s.rd TUN_ENT3.SQ u.tix)

/-- `TUNNEL_FRAME_RECEIVE`: the oldest completed frame. -/
def State.tunnelFrameReceive (s : State) : State :=
  match s.tun.inbox with
  | [] => s
  | u :: r => (s.modTun (fun t => { t with inbox := r })).tunnelFrame u

def execTunnelFrameReceive (s : State) : Res := .next s.tunnelFrameReceive

/-- `POINT_IMAGE_TIMEOUT` (R88): the range of a receiving map loses its source. -/
def State.pimgTimeout (s : State) (i : Nat) : State :=
  if s.on TUN_PMAP0.VALID i ∧ s.on TUN_PMAP0.DIR i ∧ s.on TUN_PMAP2.TIMEOUT i then
    (s.setQuality (s.rd TUN_PMAP1.BASE i) (s.rd TUN_PMAP1.COUNT i) 0xE).raise Ev.TUN_PIMG_LOST i
  else s

def execPointImageTimeout (i : Fin 64) (s : State) : Res := .next (s.pimgTimeout i.val)

/-- `PELOG_ENTRY_CLEAR` (R93): a write to word 3 of a log entry; a 1 in VALID frees it. -/
def State.pelogClear (s : State) (e data : Nat) : State :=
  s.writeReg Reg.TUN_PELOG3 e data [] (fun s =>
    if TUN_PELOG3.VALID.of data = 1 then
      (s.modTun (fun t => { t with peOrder := t.peOrder.filter (fun x => x != e), peFull := false })).peStat
    else s)

def execPelogEntryClear (e : Fin 16) (data : Word) (s : State) : Res := .next (s.access (Reg.TUN_PELOG3.addr e.val 0) true (fun s => s.pelogClear e.val data.toNat))

end Sys2Proof.Machine
end

