-- ==== Sys2Proof/Machine/RegLink.lean ====
section
/-! DEFINITION. Registers of spec/02 to spec/05 whose writes or reads do more than their field types say. -/
namespace Sys2Proof.Machine

/-- A register write by index and data, and a register read by index. -/
abbrev WriteOp := State → Nat → Nat → State
abbrev ReadOp := State → Nat → State

/-- The status answered last, if any. -/
def statusOf (o : List Out) : Option (Nat × List Nat) :=
  o.foldl (fun r x => match x with
    | .status c d => some (c, d)
    | _ => r) none

/-- What is put out beside the status. -/
def isStatus (o : Out) : Bool :=
  match o with
  | .status _ _ => true
  | _ => false

/-- `f` run with its answer taken back instead of put out. -/
def State.quietly (s : State) (f : State → State) : State × Option (Nat × List Nat) :=
  let t := f { s with out := [] }
  ({ t with out := s.out ++ t.out.filter (fun o => !isStatus o) }, statusOf t.out)

/-- A command register written with a reserved bit set: the checks before VALUE are still answered first (R7, R10). -/
def State.reservedFirst (s : State) (bad : Bool) (f : State → State) : State :=
  if bad then
    match (s.quietly f).2 with
    | some (c, _) => s.answer (firstStatus [(c, true), (St.VALUE, true)])
    | none => s.answer St.VALUE
  else f s

/-- A write that returns STATE at a node (R66, R98, R223). -/
def State.rootWrite (s : State) (d : RegDesc) (i data : Nat) (checks : List (Nat × Bool)) (after : State → State) : State :=
  s.writeReg d i data ((St.STATE, !s.isRoot) :: checks) after

/-- A read that gives 0 at a node. -/
def State.rootRead (s : State) (d : RegDesc) (i : Nat) : State := s.answerData [if s.isRoot then s.readReg d i else 0]

/-- `PLN_CMD` (R66). -/
def State.plnCmd (s : State) (data : Nat) : State :=
  match PLN_CMD.OP.of data with
  | 1 => s.validateCmd data
  | 2 => s.invalidateCmd data
  | _ => s.answer St.VALUE

/-- `PLN_PSRC`(i): with `VALID` 0 the bit of the mask reads 0 (R66). -/
def State.psrcWrite (s : State) (i data : Nat) : State :=
  s.rootWrite Reg.PLN_PSRC i data [] (fun s => if s.on PLN_PSRC.VALID i then s else s.setPresence i false)

def writes02 : List (Nat × WriteOp) :=
  [(Reg.PLN_SETTLE.base, fun s i data => s.rootWrite Reg.PLN_SETTLE i data [] id),
   (Reg.PLN_ZSHIFT.base, fun s _ data => s.zshift data),
   (Reg.PLN_CMD.base, fun s _ data => s.plnCmd data),
   (Reg.PLN_LSHIFT.base, fun s i data => s.linkShift i data),
   (Reg.PLN_ALIGN.base, fun s i data =>
      s.writeReg Reg.PLN_ALIGN i data [(St.STATE, s.isUpPort i), (St.VALUE, PLN_ALIGN.OFFSET.of data % 4 != 0)] id),
   (Reg.PLN_SVALLO.base, fun s i data => s.rootWrite Reg.PLN_SVALLO i data [] id),
   (Reg.PLN_SVALHI.base, fun s i data => s.rootWrite Reg.PLN_SVALHI i data [] id),
   (Reg.PLN_SCARELO.base, fun s i data => s.rootWrite Reg.PLN_SCARELO i data [] id),
   (Reg.PLN_SCAREHI.base, fun s i data => s.rootWrite Reg.PLN_SCAREHI i data [] id),
   (Reg.PLN_SCTRL.base, fun s i data => s.rootWrite Reg.PLN_SCTRL i data [] id),
   (Reg.PLN_PSRC.base, fun s i data => s.psrcWrite i data)]

def reads02 : List (Nat × ReadOp) :=
  [(Reg.PLN_SETTLE.base, fun s i => s.rootRead Reg.PLN_SETTLE i),
   (Reg.PLN_ALIGN.base, fun s i =>
      s.answerData [if s.isUpPort i then s.rd PLN_ALIGN.LOOP i * 2 ^ 16 else s.readReg Reg.PLN_ALIGN i]),
   (Reg.PLN_SVALLO.base, fun s i => s.rootRead Reg.PLN_SVALLO i),
   (Reg.PLN_SVALHI.base, fun s i => s.rootRead Reg.PLN_SVALHI i),
   (Reg.PLN_SCARELO.base, fun s i => s.rootRead Reg.PLN_SCARELO i),
   (Reg.PLN_SCAREHI.base, fun s i => s.rootRead Reg.PLN_SCAREHI i),
   (Reg.PLN_SCTRL.base, fun s i => s.rootRead Reg.PLN_SCTRL i),
   (Reg.PLN_PSRC.base, fun s i => s.rootRead Reg.PLN_PSRC i)]

/-- A read in the plan-store window (R38). -/
def State.planWindowRead (s : State) (off : Nat) : State :=
  let p := s.rd PLN_WINSEL.PORT
  let dir := s.rd PLN_WINSEL.DIR
  let plan := off / 0x2000 % 16
  let slot := off % 0x2000 / 4 * 2
  let e := fun n => NMap.get s.planStore 0 (planKey p dir plan n)
  s.answerData [e slot + 65536 * e (slot + 1)]

/-- `TUN_CTRL` (R84, R98, R194): enabling the gateway starts `GSEQ` at 0; its port goes down with `GW_EN`. -/
def State.tunCtrlWrite (s : State) (data : Nat) : State :=
  let was := s.on TUN_CTRL.GW_EN
  s.writeReg Reg.TUN_CTRL 0 data [(St.STATE, !s.isRoot && data % 4 != 0)] (fun s =>
    if !was && s.on TUN_CTRL.GW_EN then s.modTun (fun t => { t with gseqTx := [], gseqRx := [] })
    else if was && !s.on TUN_CTRL.GW_EN then s.swLinkDown 17
    else s)

/-- `TUN_RCMD` (R80, R98). -/
def State.rcmdWrite (s : State) (data : Nat) : State :=
  match TUN_RCMD.OP.of data with
  | 1 => s.routeLookup data
  | 2 => (s.insertRoute (rcmdBad data 2)).answer (s.insertStatus (rcmdBad data 2))
  | 3 => s.routeDelete data
  | 4 => s.routeRead data
  | _ => s.answer St.VALUE

/-- The gateway's queue feeds its port (R223). -/
def State.gwFits (s : State) (q port : Nat) : Bool := s.queuePort q == 4 + port

/-- A point of a range has two producers (R229). -/
def State.producedTwice (t : State) (base count : Nat) : Bool :=
  (List.range count).any (fun k => decide (1 < (t.producers (base + k)).length))

/-- The checks on what a write leaves of point map `i` (R85, R98, R229). -/
def State.pmapChecks (t : State) (i : Nat) (counted : Bool) : List (Nat × Bool) :=
  let v := t.on TUN_PMAP0.VALID i
  let base := t.rd TUN_PMAP1.BASE i
  let c := t.rd TUN_PMAP1.COUNT i
  [(St.RANGE, (counted && (c == 0 || decide (4096 < c))) || decide (4096 < base + c)),
   (St.CONFLICT, v && t.epA (t.rd TUN_PMAP0.TIX i) != 0x37 && t.epB (t.rd TUN_PMAP0.TIX i) != 0x37),
   (St.CONFLICT, v && t.on TUN_PMAP0.DIR i && t.producedTwice base c)]

/-- A write to a word of point map `i`; a changed map starts its cycle anew. -/
def State.pmapWrite (s : State) (d : RegDesc) (i data : Nat) : State :=
  let t := s.writeFields d i data
  s.checked (s.writeChecks d i data ++ t.pmapChecks i (d.base == Reg.TUN_PMAP1.base)) (fun _ =>
    (t.modTun (fun u => { u with pimgNext := NMap.set u.pimgNext 0 i 0 })).answer St.OK)

def writes03 : List (Nat × WriteOp) :=
  [(Reg.TUN_CTRL.base, fun s _ data => s.tunCtrlWrite data),
   (Reg.TUN_RSEED.base, fun s i data => s.writeReg Reg.TUN_RSEED i data [(St.STATE, s.on TUN_RSTAT.COUNT)] id),
   (Reg.TUN_RCMD.base, fun s _ data => s.rcmdWrite data),
   (Reg.TUN_GWCTRL.base, fun s i data => s.rootWrite Reg.TUN_GWCTRL i data
      [(St.CONFLICT, !s.gwFits (s.rd TMG_GWQ.SQ) (TUN_GWCTRL.GW_PORT.of data))] id),
   (Reg.TUN_GWETYPE.base, fun s i data => s.rootWrite Reg.TUN_GWETYPE i data [(St.RANGE, decide (data % 65536 < 0x600))] id),
   (Reg.TUN_GWDMAC_LO.base, fun s i data => s.rootWrite Reg.TUN_GWDMAC_LO i data [] id),
   (Reg.TUN_GWDMAC_HI.base, fun s i data => s.rootWrite Reg.TUN_GWDMAC_HI i data [] id),
   (Reg.TUN_GWSMAC_LO.base, fun s i data => s.rootWrite Reg.TUN_GWSMAC_LO i data [] id),
   (Reg.TUN_GWSMAC_HI.base, fun s i data => s.rootWrite Reg.TUN_GWSMAC_HI i data [] id),
   (Reg.TUN_GWGAP.base, fun s i data => s.rootWrite Reg.TUN_GWGAP i data [] id),
   (Reg.TUN_GWBAD.base, fun s i data => s.rootWrite Reg.TUN_GWBAD i data [] id),
   (Reg.TUN_PELOG3.base, fun s i data => s.pelogClear i data),
   (Reg.TUN_PMAP0.base, fun s i data => s.pmapWrite Reg.TUN_PMAP0 i data),
   (Reg.TUN_PMAP1.base, fun s i data => s.pmapWrite Reg.TUN_PMAP1 i data),
   (Reg.TUN_PMAP2.base, fun s i data => s.pmapWrite Reg.TUN_PMAP2 i data),
   (Reg.TUN_ENT0.base, fun s i data => s.tunnelEntryWrite i 0 data),
   (Reg.TUN_ENT1.base, fun s i data => s.tunnelEntryWrite i 1 data),
   (Reg.TUN_ENT2.base, fun s i data => s.tunnelEntryWrite i 2 data),
   (Reg.TUN_ENT3.base, fun s i data => s.tunnelEntryWrite i 3 data)]

def reads03 : List (Nat × ReadOp) :=
  [(Reg.TUN_CTRL.base, fun s i => s.rootRead Reg.TUN_CTRL i),
   (Reg.TUN_GWCTRL.base, fun s i => s.rootRead Reg.TUN_GWCTRL i),
   (Reg.TUN_GWETYPE.base, fun s i => s.rootRead Reg.TUN_GWETYPE i),
   (Reg.TUN_GWDMAC_LO.base, fun s i => s.rootRead Reg.TUN_GWDMAC_LO i),
   (Reg.TUN_GWDMAC_HI.base, fun s i => s.rootRead Reg.TUN_GWDMAC_HI i),
   (Reg.TUN_GWSMAC_LO.base, fun s i => s.rootRead Reg.TUN_GWSMAC_LO i),
   (Reg.TUN_GWSMAC_HI.base, fun s i => s.rootRead Reg.TUN_GWSMAC_HI i),
   (Reg.TUN_GWGAP.base, fun s i => s.rootRead Reg.TUN_GWGAP i),
   (Reg.TUN_GWBAD.base, fun s i => s.rootRead Reg.TUN_GWBAD i),
   (Reg.TUN_STAGEUSE.base, fun s i => (s.answerData [s.readReg Reg.TUN_STAGEUSE i]).wr TUN_STAGEUSE.PEAK 0 i)]

/-- `JXP_CMD` (R128, R131, R133). -/
def State.jxpCmd (s : State) (p data : Nat) : State :=
  let k := JXP_CMD.LANE.of data
  s.reservedFirst (Reg.JXP_CMD.reservedSet data) (fun s =>
    match JXP_CMD.OP.of data with
    | 1 => s.fence p k
    | 2 => s.restore p k
    | 3 => s.widen p
    | 4 => s.resetLanes p
    | 5 => s.horizonStart p
    | 6 => (s.scanStop p).answer St.OK
    | _ => s.answer St.VALUE)

/-- A signed byte outside −`n` to `n` − 1. -/
def beyond (n : Int) (b : Nat) : Bool := decide (sgn 8 b < -n) || decide (n ≤ sgn 8 b)

/-- Lane `k` of port `p` carries a logical lane: transmitting (`JXP_TXMAP`), receiving (DATA). -/
def State.txCarries (s : State) (p k : Nat) : Bool := (s.logicalOf p (s.rd JXP_TXMAP.MAP p) k).isSome

/-- `JXP_FFE` (R106, R108). -/
def State.ffeWrite (s : State) (i data : Nat) : State :=
  s.writeReg Reg.JXP_FFE i data [(St.STATE, s.linkActive (i / 10) && s.txCarries (i / 10) (i % 10))] (fun s =>
    s.wr JXP_FFE.MAIN (63 - s.rd JXP_FFE.C_PRE i - s.rd JXP_FFE.C_POST i) i)

/-- `JXP_RXEQ` (R109, R111): a write that leaves `PEAK` as it is may be made at any time (log entry 98). -/
def State.rxeqWrite (s : State) (i data : Nat) : State :=
  s.writeReg Reg.JXP_RXEQ i data
    [(St.STATE, s.linkActive (i / 10) && s.laneSt (i / 10) (i % 10) == LaneSt.DATA && JXP_RXEQ.PEAK.of data != s.rd JXP_RXEQ.PEAK i)] id

/-- A tap register (R111). -/
def State.dfeWrite (s : State) (d : RegDesc) (i data : Nat) : State :=
  s.writeReg d i data [(St.STATE, !s.on JXP_RXEQ.FREEZE i)] id

/-- `JXP_PRBSCTL` (R116 to R118): enabling the checker clears both counts. -/
def State.prbsWrite (s : State) (i data : Nat) : State :=
  let was := s.on JXP_PRBSCTL.CHK_EN i
  s.writeReg Reg.JXP_PRBSCTL i data
    [(St.STATE, bitAt data 0 && s.linkSt (i / 10) != LinkSt.DISABLED),
     (St.VALUE, decide (5 < JXP_PRBSCTL.GEN_PAT.of data) || decide (5 < JXP_PRBSCTL.CHK_PAT.of data))]
    (fun s => if !was && s.on JXP_PRBSCTL.CHK_EN i then ((s.wr JXP_PRBSERR.COUNT 0 i).wr JXP_PRBSBITS.COUNT 0 i).wr JXP_PRBSCTL.LOCK 0 i
      else s)

def writes04 : List (Nat × WriteOp) :=
  [(Reg.JXP_CTRL.base, fun s i data => s.writeReg Reg.JXP_CTRL i data [(St.VALUE, JXP_CTRL.MAXRATE.of data == 3)] id),
   (Reg.JXP_CMD.base, fun s i data => s.jxpCmd i data),
   (Reg.JXP_HZCTRL.base, fun s i data => s.writeReg Reg.JXP_HZCTRL i data
      [(St.BUSY, s.on JXP_HZSTAT.RUN i), (St.VALUE, decide (9 < JXP_HZCTRL.LANE.of data))] id),
   (Reg.JXP_HZRANGE.base, fun s i data => s.writeReg Reg.JXP_HZRANGE i data
      [(St.RANGE, beyond 64 (bits data 0 8) || beyond 64 (bits data 8 8) || beyond 32 (bits data 16 8) || beyond 32 (bits data 24 8))] id),
   (Reg.JXP_FFE.base, fun s i data => s.ffeWrite i data),
   (Reg.JXP_RXEQ.base, fun s i data => s.rxeqWrite i data),
   (Reg.JXP_DFE0.base, fun s i data => s.dfeWrite Reg.JXP_DFE0 i data),
   (Reg.JXP_DFE1.base, fun s i data => s.dfeWrite Reg.JXP_DFE1 i data),
   (Reg.JXP_DFE2.base, fun s i data => s.dfeWrite Reg.JXP_DFE2 i data),
   (Reg.JXP_PRBSCTL.base, fun s i data => s.prbsWrite i data),
   (Reg.JXP_INJ.base, fun s i data => s.injWrite (i / 10) (i % 10) data)]

def reads04 : List (Nat × ReadOp) :=
  [(Reg.JXP_PRBSCTL.base, fun s i =>
      s.answerData [(s.wr JXP_PRBSCTL.SPAREMODE (if s.spareMode (i / 10) (i % 10) then 1 else 0) i).readReg Reg.JXP_PRBSCTL i])]

/-- A word of the Horizon window (R114): two counts. -/
def State.horizonRead (s : State) (p off : Nat) : State :=
  let c := fun n => NMap.get s.horizon 0 (p * 8192 + n % 8192)
  s.answerData [c (off / 2) + 65536 * c (off / 2 + 1)]

/-- `JXK_CMD` (R170). -/
def State.jxkCmd (s : State) (p data : Nat) : State :=
  s.reservedFirst (Reg.JXK_CMD.reservedSet data) (fun s =>
    match JXK_CMD.OP.of data with
    | 1 => s.retrainCmd p
    | 2 => s.rekeyCmd p
    | _ => s.checked ((St.VALUE, true) :: s.jxkCmdChecks p) id)

/-- Reserve and headrooms exceed what R188 allows. -/
def State.poolBad (t : State) : Bool := decide (65536 < t.reservedCells)

/-- A write that changes what R188 sums up. -/
def State.poolWrite (s : State) (d : RegDesc) (i data : Nat) (checks : List (Nat × Bool)) (after : State → State) : State :=
  s.writeReg d i data ((St.NOSPACE, (s.writeFields d i data).poolBad) :: checks) (fun s => (after s).recomputePool)

def writes05 : List (Nat × WriteOp) :=
  [(Reg.JXK_CTRL.base, fun s i data => s.jxkCtrlWrite i data),
   (Reg.JXK_CMD.base, fun s i data => s.jxkCmd i data),
   (Reg.JXK_VC.base, fun s i data => s.poolWrite Reg.JXK_VC i data [] id)]

def reads05 : List (Nat × ReadOp) :=
  [(Reg.JXK_VC.base, fun s i =>
      s.answerData [if s.rd JXK_CTRL.VCS (i / 64) ≤ i % 64 then s.rd JXK_VC.INIT i else s.readReg Reg.JXK_VC i])]

end Sys2Proof.Machine
end

