-- ==== Sys2Proof/Machine/RegSwitch.lean ====
section
/-! DEFINITION. Registers of spec/06 to spec/09 whose writes or reads do more than their field types say. -/
namespace Sys2Proof.Machine

/-- `SWB_FCMD` (R187). -/
def State.fcmdWrite (s : State) (data : Nat) : State :=
  match SWB_FCMD.OP.of data with
  | 1 => s.fdbLookup data
  | 2 => s.fdbInsert data
  | 3 => s.fdbDelete data
  | 4 => s.fdbRead data
  | 5 => s.fdbFlush data
  | _ => s.answer St.VALUE

/-- `SWB_JVCMAP`: a VC at or above `VCS` (R203). -/
def State.jvcBad (s : State) (i data : Nat) : Bool :=
  [SWB_JVCMAP.VC0, SWB_JVCMAP.VC1, SWB_JVCMAP.VC2, SWB_JVCMAP.VC3].any (fun f => decide (s.rd JXK_CTRL.VCS (i / 2) ≤ f.of data))

/-- A threshold exponent outside −6 to +3 (R189). -/
def badExp (k : Nat) : Bool := decide (sgn 4 k < -6) || decide (3 < sgn 4 k)

/-- `SWB_PCFG`: both queues must feed the port (R203). -/
def State.pcfgBad (s : State) (p data : Nat) : Bool :=
  s.queuePort (SWB_PCFG.LEARN_SQ.of data) != p || s.queuePort (SWB_PCFG.FLOOD_SQ.of data) != p

/-- Queue `q` moved to a profile, with the count of queues per profile. -/
def State.setProfile (s : State) (q prof : Nat) : State :=
  let old := s.rd SWB_QCFG.PROFILE q
  let c := s.sw.profCount
  let c := if old = 0 then c else NMap.set c 0 old (NMap.get c 0 old - 1)
  let c := if prof = 0 then c else NMap.set c 0 prof (NMap.get c 0 prof + 1)
  (s.modSw (fun w => { w with profCount := c })).wr SWB_QCFG.PROFILE prof q

/-- `SWB_QCFG` (R188). -/
def State.qcfgWrite (s : State) (q data : Nat) : State :=
  let t := s.setProfile q (SWB_QCFG.PROFILE.of data)
  s.checked (s.writeChecks Reg.SWB_QCFG q data ++ [(St.NOSPACE, t.poolBad)]) (fun _ => t.recomputePool.answer St.OK)

def writes06 : List (Nat × WriteOp) :=
  [(Reg.SWB_FDBCFG.base, fun s i data => s.writeReg Reg.SWB_FDBCFG i data
      [(St.RANGE, SWB_FDBCFG.AGE_T.of data != 0 && (decide (SWB_FDBCFG.AGE_T.of data < 10) || decide (3600 < SWB_FDBCFG.AGE_T.of data)))] id),
   (Reg.SWB_FCMD.base, fun s _ data => s.fcmdWrite data),
   (Reg.SWB_BCMD.base, fun s _ data => s.bankMark data),
   (Reg.SWB_JVCMAP.base, fun s i data => s.writeReg Reg.SWB_JVCMAP i data [(St.RANGE, s.jvcBad i data)] id),
   (Reg.SWB_PROF.base, fun s i data => s.poolWrite Reg.SWB_PROF i data
      [(St.RANGE, badExp (SWB_PROF.KG.of data) || badExp (SWB_PROF.KY.of data))] id),
   (Reg.SWB_PCFG.base, fun s i data => s.writeReg Reg.SWB_PCFG i data [(St.CONFLICT, s.pcfgBad i data)] id),
   (Reg.SWB_QCFG.base, fun s i data => s.qcfgWrite i data)]

def reads06 : List (Nat × ReadOp) :=
  [(Reg.SWB_FREE.base, fun s _ => s.answerData [s.sharedFree]),
   (Reg.SWB_QLEN.base, fun s i => (s.answerData [s.readReg Reg.SWB_QLEN i]).wr SWB_QLEN.PEAK 0 i)]

/-- `TMG_NSTAT`(j) (R207, R226). -/
def State.nstat (s : State) (j : Nat) : Nat :=
  let active := if j < 4096 then !(s.queueOf j).isEmpty else if j < 4240 then !(s.activeQueues (j - 4096)).isEmpty
    else (List.range 8).any (fun n => !(s.activeQueues ((j - 4240) * 8 + n)).isEmpty)
  let eligible := if j < 4096 then s.queueEligible j else if j < 4240 then s.nodeEligible (j - 4096) else s.portEligible (j - 4240)
  (if active then 1 else 0) + (if eligible then 2 else 0) + (if (s.node j).cir ≠ 0 ∧ 0 ≤ (s.node j).c then 4 else 0) +
    8 * s.rd TMG_NSTAT.PEND j + (if s.peakOk j then 0 else 16)

def writes07 : List (Nat × WriteOp) :=
  [(Reg.TMG_GWQ.base, fun s i data => s.rootWrite Reg.TMG_GWQ i data
      [(St.CONFLICT, !s.gwFits (TMG_GWQ.SQ.of data) (s.rd TUN_GWCTRL.GW_PORT))] id),
   (Reg.TMG_POVH.base, fun s i data => s.writeReg Reg.TMG_POVH i data [(St.RANGE, decide (sgn 7 (TMG_POVH.OVH_C.of data) < -32))] id),
   (Reg.TMG_MSEL.base, fun s i data => s.writeReg Reg.TMG_MSEL i data
      [(St.RANGE, TMG_MSEL.MODE.of data == 2 && decide (2047 < TMG_MSEL.BASE.of data + 7))] id),
   (Reg.TMG_NCFG.base, fun s i data => s.ncfgWrite i data),
   (Reg.TMG_CIR.base, fun s i data => s.shaperWrite i 1 data),
   (Reg.TMG_PIR.base, fun s i data => s.shaperWrite i 2 data),
   (Reg.TMG_CBS.base, fun s i data => s.shaperWrite i 3 data),
   (Reg.TMG_PBS.base, fun s i data => s.shaperWrite i 4 data),
   (Reg.TMG_QMETER.base, fun s i data => s.writeReg Reg.TMG_QMETER i data [(St.VALUE, decide (4096 ≤ i) && data != 0)] id),
   (Reg.TMG_MCFG.base, fun s i data => s.meterWrite i 0 data),
   (Reg.TMG_MCIR.base, fun s i data => s.meterWrite i 1 data),
   (Reg.TMG_MPIR.base, fun s i data => s.meterWrite i 2 data),
   (Reg.TMG_MCBS.base, fun s i data => s.meterWrite i 3 data),
   (Reg.TMG_MPBS.base, fun s i data => s.meterWrite i 4 data),
   (Reg.TMG_MACT.base, fun s i data => s.meterWrite i 5 data)]

def reads07 : List (Nat × ReadOp) :=
  [(Reg.TMG_GWQ.base, fun s i => s.rootRead Reg.TMG_GWQ i),
   (Reg.TMG_NCFG.base, fun s i => s.answerData [if 4240 ≤ i then 0 else s.readReg Reg.TMG_NCFG i]),
   (Reg.TMG_NSTAT.base, fun s i => s.answerData [s.nstat i])]

/-- Two VALID entries name one address and segment (R235), or a point would get two producers (R229). -/
def State.admConflict (t : State) (e : Nat) : Bool :=
  t.on FLD_ADM1.VALID e &&
  ((List.range 256).any (fun k => k != e && t.on FLD_ADM1.VALID k && t.rd FLD_ADM1.SEG k == t.rd FLD_ADM1.SEG e &&
      t.rd FLD_ADM0.MAC_LO k == t.rd FLD_ADM0.MAC_LO e && t.rd FLD_ADM1.MAC_HI k == t.rd FLD_ADM1.MAC_HI e) ||
   (t.on FLD_ADM2.CYC_ETYPE e && t.producedTwice (t.rd FLD_ADM3.BASE e) (t.rd FLD_ADM3.COUNT e)))

/-- The checks on word `w` of an admission entry as a write leaves it. -/
def State.admChecks (t : State) (e w : Nat) : List (Nat × Bool) :=
  let et := t.rd FLD_ADM2.CYC_ETYPE e
  let c := t.rd FLD_ADM3.COUNT e
  [(St.VALUE, w == 3 && (if et = 0 then c != 0 else c == 0 || decide (749 < c))),
   (St.RANGE, (w == 1 && t.rd FLD_ADM1.NODE e == 0) || (w == 2 && et != 0 && decide (et < 0x600)) ||
      (w == 3 && decide (4096 < t.rd FLD_ADM3.BASE e + c))),
   (St.CONFLICT, t.admConflict e)]

/-- A write to word `w` of admission entry `e` (R253). -/
def State.admWrite (s : State) (d : RegDesc) (w e data : Nat) : State :=
  let t := s.writeFields d e data
  s.checked (s.writeChecks d e data ++ t.admChecks e w) (fun _ =>
    (t.modFld (fun f => { f with lost := NMap.set f.lost false e false })).answer St.OK)

/-- `FLD_DIBASE` (R229, R239). -/
def State.dibaseWrite (s : State) (data : Nat) : State :=
  let t := s.writeFields Reg.FLD_DIBASE 0 data
  s.writeReg Reg.FLD_DIBASE 0 data
    [(St.RANGE, decide (4080 < FLD_DIBASE.DIBASE.of data)),
     (St.CONFLICT, t.on FLD_DIBASE.DIEN && t.producedTwice (t.rd FLD_DIBASE.DIBASE) 16)] (fun s => s.requalifyInputs)

def writes08 : List (Nat × WriteOp) :=
  [(Reg.FLD_DIBASE.base, fun s _ data => s.dibaseWrite data),
   (Reg.FLD_TSCMD.base, fun s _ data => s.tsPop data),
   (Reg.FLD_OCTRL.base, fun s _ data => s.octrlWrite data),
   (Reg.FLD_OKICK.base, fun s _ data => s.outputKick data),
   (Reg.FLD_OCFG.base, fun s i data => s.writeReg Reg.FLD_OCFG i data [] (fun s => s.refreshOutput i)),
   (Reg.FLD_SCTRL.base, fun s i data => s.writeReg Reg.FLD_SCTRL i data
      [(St.STATE, s.on FLD_SCTRL.EN i && FLD_SCTRL.PLCA_EN.of data != s.rd FLD_SCTRL.PLCA_EN i)] (fun s => s.segRefresh i)),
   (Reg.FLD_SPLCA.base, fun s i data => s.writeReg Reg.FLD_SPLCA i data [(St.STATE, s.on FLD_SCTRL.EN i)] id),
   (Reg.FLD_DICFG.base, fun s i data => s.writeReg Reg.FLD_DICFG i data [] (fun s => s.diWrite i)),
   (Reg.FLD_DICHAT.base, fun s i data => s.writeReg Reg.FLD_DICHAT i data [(St.RANGE, FLD_DICHAT.CHAT_N.of data == 1)] id),
   (Reg.FLD_ADM0.base, fun s i data => s.admWrite Reg.FLD_ADM0 0 i data),
   (Reg.FLD_ADM1.base, fun s i data => s.admWrite Reg.FLD_ADM1 1 i data),
   (Reg.FLD_ADM2.base, fun s i data => s.admWrite Reg.FLD_ADM2 2 i data),
   (Reg.FLD_ADM3.base, fun s i data => s.admWrite Reg.FLD_ADM3 3 i data),
   (Reg.FLD_ADM4.base, fun s i data => s.admWrite Reg.FLD_ADM4 4 i data)]

/-- A register with a measured field `f`, which reads a free value (log entry 83). -/
def State.measuredRead (s : State) (d : RegDesc) (i : Nat) (f : Field) : State :=
  (s.answerData [s.readReg d i - s.rd f i * 2 ^ f.lsb + s.freeVal % 2 ^ f.width * 2 ^ f.lsb]).drew

def reads08 : List (Nat × ReadOp) :=
  [(Reg.FLD_STATUS.base, fun s i => s.measuredRead Reg.FLD_STATUS i FLD_STATUS.VFIELD)]

/-- `ETH_CTRL` (R254, R256): the port is down while `EN` or `MODE` is 0. -/
def State.ethCtrlWrite (s : State) (k data : Nat) : State :=
  s.writeReg Reg.ETH_CTRL k data [(St.VALUE, ETH_CTRL.MODE.of data == 7)] (fun s =>
    if s.on ETH_CTRL.EN k && s.on ETH_CTRL.MODE k then s else s.ethDown k)

/-- `TSU_CTRL` (R269). -/
def State.tsuCtrlWrite (s : State) (data : Nat) : State :=
  let was := s.on TSU_CTRL.PTP_LOCK
  s.writeReg Reg.TSU_CTRL 0 data [] (fun s =>
    if !was && s.on TSU_CTRL.PTP_LOCK then s.raise Ev.TSU_PTP_LOCK
    else if was && !s.on TSU_CTRL.PTP_LOCK then s.raise Ev.TSU_PTP_LOST
    else s)

def writes09 : List (Nat × WriteOp) :=
  [(Reg.ETH_CTRL.base, fun s i data => s.ethCtrlWrite i data),
   (Reg.ETH_VLAN.base, fun s i data => s.writeReg Reg.ETH_VLAN i data
      [(St.VALUE, ETH_VLAN.ACCEPT.of data == 3), (St.RANGE, ETH_VLAN.PVID.of data == 0 || ETH_VLAN.PVID.of data == 4095)] id),
   (Reg.ETH_TXTSCMD.base, fun s i data => s.txtsPop i data),
   (Reg.TSU_CTRL.base, fun s _ data => s.tsuCtrlWrite data),
   (Reg.TSU_RATE.base, fun s _ data => s.rateWrite data),
   (Reg.TSU_STEP_LO.base, fun s i data => s.rootWrite Reg.TSU_STEP_LO i data [] id),
   (Reg.TSU_STEP_HI.base, fun s i data => s.rootWrite Reg.TSU_STEP_HI i data [] id),
   (Reg.TSU_STEPCMD.base, fun s _ data => s.timeStep data),
   (Reg.TSU_DELAY.base, fun s i data => s.writeReg Reg.TSU_DELAY i data [(St.STATE, s.isRoot)] (fun s => s.setDelay (data % 2 ^ 20)))]

def reads09 : List (Nat × ReadOp) :=
  [(Reg.TSU_TIME_LO.base, fun s _ =>
      let t := s.now
      (((s.drew.wr TSU_TIME_LO.TIME t).wr TSU_TIME_HI.TIME (t / 2 ^ 32))).answerData [t % 2 ^ 32])]

end Sys2Proof.Machine
end

