-- ==== Sys2Proof/Machine/Typec.lean ====
section
/-! DEFINITION. Commands of the Type-C ports (spec/13). -/
namespace Sys2Proof.Machine

/-- `TC_ATTACH` (R335, R336, R339): as source or sink, on CC1 or CC2, with Ra on the other pin, or with the partner's Rp as sink sees it. -/
def State.tcAttach (s : State) (n : Nat) (src cc2 ra : Bool) (rp : Nat) : State :=
  let role := s.rd TCP_CTRL.ROLE n
  if s.on TCP_CTRL.EN n = false ∨ s.tcAttached n ∨ s.rd TCP_STATUS.TCSTATE n = 11 ∨ (src ∧ role = 2) ∨ (src = false ∧ role = 1) then s
  else
    s.tcTold n (fun s =>
      let s := ((s.setBit TCP_STATUS.ORIENT cc2 n).setBit TCP_STATUS.PROLE src n).setBit TCP_STATUS.DROLE src n
      let s := (s.wr TCP_STATUS.TCSTATE (if src then 10 else 9) n).setBit TCP_STATUS.VCONN_ON (src && ra && s.on TCP_CTRL.VCONN_EN n) n
      let s := s.wr TCP_STATUS.RP_SEEN (if src then 0 else rp) n
      let s := s.setTc n { Tc.init with srcEn := (s.tcp n).srcEn, snkEn := (s.tcp n).snkEn, disch := (s.tcp n).disch }
      let s := s.tcPins n (fun v => { v with srcEn := src, snkEn := !src, vsel := 0, disch := false })
      let s := ((s.raise (tcEvent n 0) ((if src then 1 else 0) + (if cc2 then 2 else 0))).tcRouted n).reportPresence
      if src then s.sendCaps n else s)

def execTcAttach (n : Fin 2) (src cc2 ra : Bool) (rp : Fin 4) (s : State) : Res := .next (s.tcAttach n.val src cc2 ra rp.val)

/-- `TC_DETACH` (R345, R346): the capture says whether a transition or swap was in progress. -/
def State.tcDetach (s : State) (n : Nat) : State :=
  if s.tcAttached n = false then s
  else
    s.tcTold n (fun s =>
      let busy := s.on TCP_STATUS.TRANSITION n || decide ((s.tcp n).phase ≠ .idle)
      let s := ((s.tcClear n St.ABORTED).wr TCP_STATUS.TCSTATE (s.tcUnattached n) n).tcOff n
      (s.raise (tcEvent n 1) (if busy then 1 else 0)).reportPresence)

def execTcDetach (n : Fin 2) (s : State) : Res := .next (s.tcDetach n.val)

/-- A message other than GoodCRC, past its GoodCRC and its MessageID check (R337, R339, R341). -/
def State.pdTake (s : State) (n sop : Nat) (b : List Byte) : State :=
  let s := s.pdCollide n
  let s := s.modTc n (fun v => { v with rxId := NMap.set v.rxId 0 sop (pdId b + 1) })
  let s := s.wr TCP_STATUS.PDREV (if 2 ≤ pdRev b then 2 else 1) n
  let s := s.tcTell n 1 sop 0 0 b
  if sop = 0 then (s.pdActs n b).pdWait n sop b else s

/-- `PD_MESSAGE_RECEIVE` (R337): a message with a right CRC, or Hard Reset signalling from the partner (`sop` 3; log entry 108). -/
def State.pdReceive (s : State) (n sop : Nat) (b : List Byte) : State :=
  if sop = 3 then (if s.tcAttached n then s.tcTold n (fun s => s.hardReset n false) else s)
  else if s.tcAttached n = false ∨ pdWhole b = false ∨ (0 < sop ∧ s.on TCP_STATUS.VCONN_ON n = false) then s
  else
    s.tcTold n (fun s =>
      if pdKind b = Pd.goodCrc then s.pdAcked n sop (pdId b)
      else
        let s := (s.bump TCP_RXMSG.COUNT n).emit (.act "pd goodcrc" [n, sop, pdId b])
        if pdKind b ≠ Pd.softReset ∧ NMap.get (s.tcp n).rxId 0 sop = pdId b + 1 then s.bump TCP_RXDUP.COUNT n
        else s.pdTake n sop b)

def execPdMessageReceive (n : Fin 2) (sop : Fin 4) (msg : List Byte) (s : State) : Res := .next (s.pdReceive n.val sop.val msg)

/-- `GOODCRC_TIMEOUT` (R337, R340). -/
def State.goodCrcTimeout (s : State) (n : Nat) : State :=
  match (s.tcp n).pend with
  | none => s
  | some m =>
    if m.tries < 2 then (s.bump TCP_RETRY.COUNT n).pdPut n { m with tries := m.tries + 1 }
    else
      let s := ((s.modTc n (fun v => { v with pend := none })).bump TCP_TXFAIL.COUNT n).raiseOnce (tcEvent n 9)
      let s := s.txRes n m St.TIMEOUT
      match (s.tcp n).queue with
      | [] => s
      | q :: r => (s.modTc n (fun v => { v with queue := r })).pdSend n q

def execGoodcrcTimeout (n : Fin 2) (s : State) : Res := .next (s.goodCrcTimeout n.val)

/-- A message that starts an exchange waits for tSinkTx as source, or for SinkTxOk as sink, at Revision 3.x (R344). -/
def State.pdStart (s : State) (n : Nat) (m : PdMsg) : State :=
  if s.on TCP_STATUS.CONTRACT n = false ∨ s.rd TCP_STATUS.PDREV n ≠ 2 then s.pdSend n m
  else if s.on TCP_STATUS.PROLE n then
    (s.modTc n (fun v => { v with held := some m, txNg := true })).emit (.act "typec rp" [n, 2])
  else if s.rd TCP_STATUS.RP_SEEN n = 3 then s.pdSend n m
  else s.modTc n (fun v => { v with held := some m })

/-- The status of a TXREQ before it is sent (R340, R341). -/
def State.txReqStatus (s : State) (n sop : Nat) (b : List Byte) : Nat :=
  if s.tcAttached n = false ∨ (0 < sop ∧ s.on TCP_STATUS.VCONN_ON n = false) then St.STATE
  else if pdWhole b = false ∨ pdKind b = Pd.goodCrc ∨ 30 < b.length ∨ 2 < sop then St.VALUE
  else if pdAnswers b ∧ (s.tcp n).wait = none then St.STATE
  else St.OK

/-- `TXREQ` (R340, R341, R344): the content of a TXREQ from its byte 1 on: port and SOP, RSEQ, and the message. -/
def State.txReq (s : State) (n sop rseq : Nat) (b : List Byte) : State :=
  let st := s.txReqStatus n sop b
  let m : PdMsg := { sop := sop, bytes := b, tries := 0, rseq := some rseq }
  if st ≠ St.OK then s.txRes n m st
  else if (s.tcp n).wait.isSome then (s.modTc n (fun v => { v with wait := none })).pdSend n m
  else s.pdStart n m

def execTxreq (n : Fin 2) (sop : Fin 4) (rseq : Fin 256) (msg : List Byte) (s : State) : Res :=
  .next (s.txReq n.val sop.val rseq.val msg)

/-- A CMD is answered (R340); an unattached port refuses it with STATE. -/
def State.tcCmd (s : State) (n rseq : Nat) (f : State → State) : State :=
  if s.tcAttached n then (s.tcTold n f).tcTell n 6 0 rseq St.OK [] else s.tcTell n 6 0 rseq St.STATE []

def execHardReset (n : Fin 2) (rseq : Fin 256) (s : State) : Res := .next (s.tcCmd n.val rseq.val (fun s => s.hardReset n.val true))

/-- `SEND_CAPS` (R340): only a source has capabilities to send. -/
def execSendCaps (n : Fin 2) (rseq : Fin 256) (s : State) : Res :=
  .next (if s.on TCP_STATUS.PROLE n.val then s.tcCmd n.val rseq.val (fun s => s.sendCaps n.val)
    else s.tcTell n.val 6 0 rseq.val St.STATE [])

def execErrorRecovery (n : Fin 2) (rseq : Fin 256) (s : State) : Res :=
  .next (s.tcCmd n.val rseq.val (fun s => (s.errorRecovery n.val).reportPresence))

/-- `POLICY_WAIT_EXPIRE` (R341). -/
def State.policyExpire (s : State) (n : Nat) : State :=
  match (s.tcp n).wait with
  | none => s
  | some (_, b) =>
    ((((s.modTc n (fun v => { v with wait := none })).bump TCP_POLTO.COUNT n).raiseOnce (tcEvent n 5)).fallbackAnswer n b)

def execPolicyWaitExpire (n : Fin 2) (s : State) : Res := .next (s.policyExpire n.val)

/-- `TC_VSEL` of a voltage in 50 mV. -/
def vselOf (volt : Nat) : Nat := if volt < 180 then 0 else if volt < 300 then 1 else if volt < 400 then 2 else 3

/-- `SRC_TRANSITION_END` (R342): tSrcTransition is over. -/
def State.srcTransitionEnd (s : State) (n : Nat) : State :=
  match (s.tcp n).phase with
  | .srcRequest =>
    let v := pdoVolt ((s.sourcePdos n).getD (bits (s.tcp n).rdo 28 3 - 1) 0) (s.tcp n).rdo
    (s.tcPins n (fun t => { t with vsel := vselOf v })).setPhase n .srcVoltage
  | .swapSrcWait => ((s.tcPins n (fun t => { t with srcEn := false, disch := true })).tcRouted n).setPhase n .swapSrcFall
  | _ => s

def execSrcTransitionEnd (n : Fin 2) (s : State) : Res := .next (s.srcTransitionEnd n.val)

/-- `VBUS_LEVEL_REACHED` (R336, R342, R346): the target of the transition, or vSafe0V after a discharge. -/
def State.vbusReached (s : State) (n : Nat) : State :=
  match (s.tcp n).phase with
  | .srcVoltage => (s.setPhase n .srcReady).pdOwn n Pd.psRdy []
  | .swapSrcFall =>
    let s := (s.tcPins n (fun t => { t with disch := false })).setPowerRole n false
    (s.setPhase n .swapSrcReady).pdOwn n Pd.psRdy []
  | .swapSnkRise => (s.setPhase n .swapSnkReady).pdOwn n Pd.psRdy []
  | .idle => s.tcPins n (fun t => if t.srcEn then t else { t with disch := false })
  | _ => s

def execVbusLevelReached (n : Fin 2) (s : State) : Res := .next (s.tcTold n.val (fun s => s.vbusReached n.val))

/-- `VBUS_FAULT` (R342): not in range 275 ms after the Accept. -/
def State.vbusFault (s : State) (n : Nat) : State :=
  if (s.tcp n).phase = .srcVoltage ∨ (s.tcp n).phase = .srcRequest then
    s.tcTold n (fun s => (s.raise (tcEvent n 8)).hardReset n true)
  else s

def execVbusFault (n : Fin 2) (s : State) : Res := .next (s.vbusFault n.val)

/-- `PS_TRANSITION_TIMEOUT` (R342). -/
def State.psTimeout (s : State) (n : Nat) : State :=
  if (s.tcp n).phase = .snkRequest then s.tcTold n (fun s => s.hardReset n true) else s

def execPsTransitionTimeout (n : Fin 2) (s : State) : Res := .next (s.psTimeout n.val)

/-- `SWAP_TIMEOUT` (R342): a power-role swap ends in Error Recovery. -/
def State.swapTimeout (s : State) (n : Nat) : State :=
  if [TcPhase.swapSrcReady, .swapSnkWait, .swapSrcFall, .swapSnkRise, .swapSnkReady].contains (s.tcp n).phase then
    s.tcTold n (fun s => (s.errorRecovery n).reportPresence)
  else s

def execSwapTimeout (n : Fin 2) (s : State) : Res := .next (s.swapTimeout n.val)

/-- The held message is sent. -/
def State.heldGo (s : State) (n : Nat) : State :=
  match (s.tcp n).held with
  | none => s
  | some m => (s.modTc n (fun v => { v with held := none })).pdSend n m

/-- `SINK_TX_WAIT_END` (R344). -/
def execSinkTxWaitEnd (n : Fin 2) (s : State) : Res := .next (if s.on TCP_STATUS.PROLE n.val then s.heldGo n.val else s)

/-- `DRP_TOGGLE` (R335). -/
def State.drpToggle (s : State) (n : Nat) : State :=
  if s.on TCP_CTRL.EN n = false ∨ s.rd TCP_CTRL.ROLE n ≠ 0 then s
  else if s.rd TCP_STATUS.TCSTATE n = 1 then s.tcTold n (fun s => s.wr TCP_STATUS.TCSTATE 2 n)
  else if s.rd TCP_STATUS.TCSTATE n = 2 then s.tcTold n (fun s => s.wr TCP_STATUS.TCSTATE 1 n)
  else s

def execDrpToggle (n : Fin 2) (s : State) : Res := .next (s.drpToggle n.val)

/-- What PD 3.1 and Type-C 2.2 require at a timer's end (R338; log entry 80): 0 SenderResponseTimer, 1 SourceCapabilityTimer,
2 NoResponseTimer, 3 HardResetCompleteTimer, 4 tSrcRecover, 5 tDRPTry, 6 tTryTimeout, 7 the end of Error Recovery. -/
def State.pdTimer (s : State) (n t : Nat) : State :=
  let v := s.tcp n
  match t with
  | 0 =>
    if s.tcAttached n = false ∨ v.mine = false ∨ v.exch = 0 then s
    else if v.exch = 1 ∨ v.exch = 5 then s.hardReset n true
    else s.exchEnd n
  | 1 => if s.rd TCP_STATUS.TCSTATE n = 10 ∧ s.on TCP_STATUS.CONTRACT n = false ∧ v.capsSent < 50 then s.sendCaps n else s
  | 2 =>
    if s.tcAttached n = false ∨ s.on TCP_STATUS.CONTRACT n then s
    else if v.hardResets ≤ 2 then s.hardReset n true
    else s.errorRecovery n
  | 4 =>
    if v.phase = .recover then
      ((((s.tcPins n (fun v => { v with srcEn := true, disch := false })).setBit TCP_STATUS.VCONN_ON (s.on TCP_CTRL.VCONN_EN n) n).setPhase n
        .idle).tcRouted n).sendCaps n
    else s
  | 5 =>
    if s.rd TCP_STATUS.TCSTATE n = 5 then s.wr TCP_STATUS.TCSTATE 8 n
    else if s.rd TCP_STATUS.TCSTATE n = 6 then s.wr TCP_STATUS.TCSTATE 7 n
    else s
  | 6 =>
    if [5, 6, 7, 8].contains (s.rd TCP_STATUS.TCSTATE n) then s.wr TCP_STATUS.TCSTATE (s.tcUnattached n) n else s
  | 7 => if s.rd TCP_STATUS.TCSTATE n = 11 then s.wr TCP_STATUS.TCSTATE (s.tcUnattached n) n else s
  | _ => s

def execPdTimerExpiry (n : Fin 2) (t : Fin 8) (s : State) : Res := .next (s.tcTold n.val (fun s => s.pdTimer n.val t.val))

/-- `CC_RP_CHANGE` (R344): as sink, the partner's Rp, coded as `RP_SEEN`; SinkTxOk releases the held message. -/
def State.rpChange (s : State) (n rp : Nat) : State :=
  if s.rd TCP_STATUS.TCSTATE n ≠ 9 then s
  else s.tcTold n (fun s => let s := s.wr TCP_STATUS.RP_SEEN rp n; if rp = 3 then s.heldGo n else s)

def execCcRpChange (n : Fin 2) (rp : Fin 4) (s : State) : Res := .next (s.rpChange n.val rp.val)

/-- `SINK_TX_HOLD_TIMEOUT` (R340). -/
def State.holdTimeout (s : State) (n : Nat) : State :=
  match (s.tcp n).held with
  | none => s
  | some m => if s.on TCP_STATUS.PROLE n then s else (s.modTc n (fun v => { v with held := none })).txRes n m St.BUSY

def execSinkTxHoldTimeout (n : Fin 2) (s : State) : Res := .next (s.holdTimeout n.val)

end Sys2Proof.Machine
end

