-- ==== Sys2Proof/Machine/Usb.lean ====
section
/-! DEFINITION. Commands of the USB hub core and the Remote Transaction Engine (spec/12). -/
namespace Sys2Proof.Machine

/-- A descriptor's fields (R317). -/
def descOf (d : List Byte) : UsbTx :=
  let b1 := byteAt d 1
  let b2 := byteAt d 2
  let mps := bits (leAt d 4 2) 0 11
  let len := bits (leAt d 6 2) 0 11
  let pid := bits b1 4 2
  let fields := decide (128 ≤ byteAt d 0) || decide (128 ≤ b1) || pid == 3 || bits b2 2 2 == 3 || decide (16 ≤ b2) || byteAt d 3 != 0 ||
    decide (2048 ≤ leAt d 4 2) || decide (2048 ≤ leAt d 6 2) || leAt d 8 8 != 0
  let sizes := decide (mps < 8) || decide (512 < mps) || (pid == 0 && len != 8) || (pid == 1 && decide (mps < len)) ||
    (pid == 2 && (decide (len < 1) || decide (mps < len)))
  { dev := byteAt d 0 % 128, epn := bits b1 0 4, pid := pid, tog := bits b1 6 1, port := bits b2 0 2, speed := bits b2 2 2, mps := mps,
    len := len, data := [], bad := fields || sizes, kill := 0 }

/-- The transactions of a burst from its descriptors and the data that follows them; one whose data is missing breaks the layout. -/
def burstTxs (d data : List Byte) (n : Nat) : List UsbTx :=
  match n with
  | 0 => []
  | n + 1 =>
    let t := descOf (d.take 16)
    let k := if t.pid = 2 ∨ t.bad then 0 else t.len
    { t with data := data.take k, bad := t.bad || decide (data.length < k) } :: burstTxs (d.drop 16) (data.drop k) n

/-- `BURST` (R316, R317, R320): a BURST message. -/
def State.burst (s : State) (b : List Byte) : State :=
  let m := byteAt b 1
  let n := byteAt b 2
  let next := s.rd USB_STATUS.NEXT_BSEQ
  let back := (next + 256 - m) % 256
  if s.usbOn = false then s
  else if rteFits b 1 = false ∨ n < 1 ∨ 16 < n ∨ b.length < 8 + 16 * n then s.rteBad
  else if m = next then
    if s.usb.bursts.length < 4 then
      (s.modUsb (fun u => { u with bursts := u.bursts ++ [{ mseq := m, txs := burstTxs (b.drop 8) (b.drop (8 + 16 * n)) n }] })).wr
        USB_STATUS.NEXT_BSEQ (next + 1)
    else s.bump RTE_QFULL.COUNT
  else if 1 ≤ back ∧ back ≤ 4 ∧ s.usb.bursts.any (fun e => e.mseq == m) then s.bump RTE_DUP.COUNT
  else
    match (if 1 ≤ back ∧ back ≤ 4 then s.usb.dones.find? (fun e => e.1 == m) else none) with
    | some d => (s.rteSend d.2).bump RTE_DUP.COUNT
    | none => ((s.rteSend (rteMessage 11 m 0 (le 1 next))).bump RTE_BADSEQ.COUNT).raiseOnce Ev.USB_BURST_SEQ

def execBurst (msg : List Byte) (s : State) : Res := .next (s.burst msg)

/-- The bus executes bursts now (R323, R325). -/
def State.burstRuns (s : State) : Bool :=
  s.usbOn && s.on USB_STATUS.RUN && !s.on USB_STATUS.SUSPENDED && !s.on USB_STATUS.ORPHAN

/-- What the devices did, one status and the IN data for each transaction that reached the bus. -/
def outcomes (codes : List Nat) (datas : List (List Byte)) : List (Nat × List Byte) :=
  codes.zipIdx.map (fun e => (e.1, datas.getD e.2 []))

/-- `BURST_DONE` (R318 to R320): the oldest burst's last transaction has ended; outcomes that leave one unfinished are no end. -/
def execBurstDone (codes : List Nat) (datas : List (List Byte)) (s : State) : Res :=
  .next (if s.burstRuns ∧ s.burstOver (outcomes codes datas) then s.burstEnd (outcomes codes datas) else s)

/-- `NAK_TIMEOUT` (R319): after the transactions given, the next one has been NAKed for `NAK_MS`. -/
def execNakTimeout (codes : List Nat) (datas : List (List Byte)) (s : State) : Res :=
  .next (if s.burstRuns ∧ s.burstOver (outcomes (codes ++ [5]) datas) then s.burstEnd (outcomes (codes ++ [5]) datas)
    else s)

/-- `GET_HUB_DESCRIPTOR` (R321): the controller current, which the spec leaves out, is a free value. -/
def State.hubDescriptor (s : State) (mseq : Nat) : State :=
  if s.usbOn then
    s.drew.hubAck mseq (le 1 9 ++ le 1 0x29 ++ le 1 4 ++ le 2 0x0009 ++ le 1 50 ++ le 1 s.freeVal ++ le 1 0 ++ le 1 0xFF)
  else s

def execGetHubDescriptor (mseq : Fin 256) (s : State) : Res := .next (s.hubDescriptor mseq.val)

/-- `GET_HUB_STATUS` (R321): no local power fault and no hub over-current, with no change. -/
def execGetHubStatus (mseq : Fin 256) (s : State) : Res := .next (if s.usbOn then s.hubAck mseq.val (le 4 0) else s)

/-- `GET_PORT_STATUS` (R321). -/
def execGetPortStatus (mseq : Fin 256) (k : Fin 4) (s : State) : Res :=
  .next (if s.usbOn then s.hubAck mseq.val (le 2 (s.portStatus k.val) ++ le 2 (s.rd USB_PORT.CHANGE k.val)) else s)

/-- `SET_PORT_RESET` (R315, R322). -/
def State.setPortReset (s : State) (mseq k : Nat) : State :=
  if s.usbOn = false then s
  else if s.on USB_PORT.CONNECT k then
    ((((s.wr USB_PORT.RESET 1 k).wr USB_PORT.ENABLE 0 k).wr USB_PORT.SUSPEND 0 k).portCut k 7).hubAck mseq []
  else s.hubAck mseq []

def execSetPortReset (mseq : Fin 256) (k : Fin 4) (s : State) : Res := .next (s.setPortReset mseq.val k.val)

/-- `SET_PORT_SUSPEND` (R321). -/
def execSetPortSuspend (mseq : Fin 256) (k : Fin 4) (s : State) : Res :=
  .next (if s.usbOn then (if s.on USB_PORT.ENABLE k.val then s.wr USB_PORT.SUSPEND 1 k.val else s).hubAck mseq.val [] else s)

/-- `SET_PORT_POWER` (R314). -/
def execSetPortPower (mseq : Fin 256) (k : Fin 4) (s : State) : Res :=
  .next (if s.usbOn = false then s
    else if s.on USB_PORT.TCPORT k.val then s.hubStall mseq.val
    else (s.portPower k.val true).hubAck mseq.val [])

/-- `SET_PORT_TEST` (R321): the port enters the test mode of a selector. -/
def execSetPortTest (mseq : Fin 256) (k : Fin 4) (sel : Fin 256) (s : State) : Res :=
  .next (if s.usbOn then
    ((s.modUsb (fun u => { u with test := NMap.set u.test 0 k.val sel.val })).emit (.act "usb test" [k.val, sel.val])).hubAck mseq.val []
    else s)

/-- `CLEAR_PORT_ENABLE` (R322). -/
def State.clearPortEnable (s : State) (mseq k : Nat) : State :=
  if s.usbOn then (((s.wr USB_PORT.ENABLE 0 k).wr USB_PORT.SUSPEND 0 k).portCut k 9).hubAck mseq [] else s

def execClearPortEnable (mseq : Fin 256) (k : Fin 4) (s : State) : Res := .next (s.clearPortEnable mseq.val k.val)

/-- A wake and a host resume overlap (R324): recorded as a port change only. -/
def State.wakeCollides (s : State) (k : Nat) : State :=
  ((s.wr USB_PORT.WAKE 1 k).portChg k true true).raise Ev.USB_RESUME_COLLISION (2 ^ k)

/-- `CLEAR_PORT_SUSPEND` (R324): the port resumes for 20 ms; a wake's resume in progress completes as the host's. -/
def State.clearPortSuspend (s : State) (mseq k : Nat) : State :=
  if s.usbOn = false then s
  else if s.on USB_PORT.SUSPEND k = false then s.hubAck mseq []
  else
    let was := NMap.get s.usb.portResume 0 k
    let s := s.modUsb (fun u => { u with portResume := NMap.set u.portResume 0 k 1 })
    (if was = 2 then s.wakeCollides k else s).hubAck mseq []

def execClearPortSuspend (mseq : Fin 256) (k : Fin 4) (s : State) : Res := .next (s.clearPortSuspend mseq.val k.val)

/-- `CLEAR_PORT_POWER` (R314): an unpowered port has no device. -/
def execClearPortPower (mseq : Fin 256) (k : Fin 4) (s : State) : Res :=
  .next (if s.usbOn = false then s
    else if s.on USB_PORT.TCPORT k.val then s.hubStall mseq.val
    else ((s.portLost k.val).portPower k.val false).hubAck mseq.val [])

/-- `CLEAR_C_PORT_FEATURE` (R321): change bit 0 to 4. -/
def execClearCPortFeature (mseq : Fin 256) (k : Fin 4) (c : Fin 5) (s : State) : Res :=
  .next (if s.usbOn then (s.wrBit USB_PORT.CHANGE c.val false k.val).hubAck mseq.val [] else s)

/-- `CLEAR_TT_BUFFER` (R321). -/
def execClearTtBuffer (mseq : Fin 256) (k : Fin 4) (s : State) : Res :=
  .next (if s.usbOn then (s.emit (.act "tt clear" [k.val])).hubAck mseq.val [] else s)

/-- `RESET_TT` (R321). -/
def execResetTt (mseq : Fin 256) (k : Fin 4) (s : State) : Res :=
  .next (if s.usbOn then (s.emit (.act "tt reset" [k.val])).hubAck mseq.val [] else s)

/-- `PORT_RESET_DONE` (R315, R322): high speed if the device chirped, else the speed of the connect line state. -/
def State.portResetDone (s : State) (k : Nat) (chirp : Bool) : State :=
  if s.usbOn = false ∨ s.on USB_PORT.RESET k = false then s
  else
    ((((s.wr USB_PORT.RESET 0 k).wr USB_PORT.ENABLE 1 k).wr USB_PORT.SPEED (if chirp then 0 else NMap.get s.usb.line 0 k) k).wrBit
      USB_PORT.CHANGE 4 false k).changeBit k 4

def execPortResetDone (k : Fin 4) (chirp : Bool) (s : State) : Res := .next (s.portResetDone k.val chirp)

/-- The entry in a PLOAD body (R316): its 16 bytes from byte 4 on. -/
def pentOf (b : List Byte) : PEnt :=
  let w0 := leAt b 4 4
  { dir := bits w0 11 1, typ := bits w0 12 1, speed := bits w0 13 2, port := bits w0 15 2, mult := bits w0 17 2 + 1,
    interval := bits w0 19 4, mps := bits (leAt b 8 4) 0 11, phase := bits (leAt b 8 4) 16 14, depth := bits (leAt b 12 4) 16 6 }

/-- The largest packet of a kind of entry (R327). -/
def PEnt.maxPacket (e : PEnt) : Nat :=
  if e.speed = 0 then 1024 else if e.speed = 2 then 8 else if e.typ = 1 then 1023 else 64

/-- The checks of PLOAD (R327). -/
def State.ploadChecks (s : State) (b : List Byte) : List (Nat × Bool) :=
  let i := byteAt b 0
  let e := pentOf b
  let all := e :: s.entries.map (fun j => s.pent j)
  let reserved := decide (64 ≤ i) || leAt b 1 3 != 0 || bits (leAt b 4 4) 24 7 != 0 || bits (leAt b 8 4) 11 5 != 0 ||
    bits (leAt b 8 4) 30 2 != 0 || bits (leAt b 12 4) 14 2 != 0 || bits (leAt b 12 4) 22 10 != 0 || bits (leAt b 16 4) 16 16 != 0 ||
    b.length != 20
  [(St.VALUE, reserved || e.speed == 3 || e.mult == 4 || (decide (1 < e.mult) && !(e.speed == 0 && e.typ == 1)) ||
      (e.speed != 0 && decide (e.interval < 4)) || decide (2 ^ (e.interval - 1) ≤ e.phase)),
   (St.RANGE, decide (e.interval < 1) || decide (e.mps < 1) || decide (e.maxPacket < e.mps) ||
      (if e.dir = 1 then e.depth != 0 else decide (e.depth < 1) || decide (32 < e.depth))),
   (St.CONFLICT, s.on USB_PENT0.VALID i),
   (St.STATE, !s.on USB_PORT.ENABLE e.port || s.on USB_STATUS.SUSPENDED),
   (St.NOSPACE, decide (16 < (all.filter (fun e => decide (1 < e.mult))).length) || !budgetsFit all || decide (262144 < outStorage all) ||
      !s.demandFits all)]

/-- The entry written into `USB_PENT`. -/
def State.loadEntry (s : State) (b : List Byte) : State :=
  let i := byteAt b 0
  let w0 := leAt b 4 4
  let w1 := leAt b 8 4
  let w2 := leAt b 12 4
  let s := [USB_PENT0.DEV, USB_PENT0.EPN, USB_PENT0.DIR, USB_PENT0.TYPE, USB_PENT0.SPEED, USB_PENT0.PORT, USB_PENT0.MULT_M1,
    USB_PENT0.INTERVAL, USB_PENT0.TOG].foldl (fun s f => s.wr f (bits w0 f.lsb f.width) i) s
  let s := ((s.wr USB_PENT1.MPS (bits w1 0 11) i).wr USB_PENT1.PHASE (bits w1 16 14) i).wr USB_PENT2.START (bits w2 0 14) i
  (((s.wr USB_PENT2.DEPTH (bits w2 16 6) i).wr USB_PENT3.MISS 0 i).wr USB_PENT0.VALID 1 i).noteEntries

/-- `PLOAD` (R327): the body of a PLOAD message, answered by PRSP. -/
def State.pload (s : State) (mseq : Nat) (b : List Byte) : State :=
  if s.usbOn = false then s
  else
    let st := firstStatus (s.ploadChecks b)
    (if st = St.OK then (s.loadEntry b).periodicFit else s).rteSend (rteMessage 8 mseq 0 (le 1 st))

def execPload (mseq : Fin 256) (body : List Byte) (s : State) : Res := .next (s.pload mseq.val body)

/-- `PUNLOAD` (R327). -/
def State.punload (s : State) (mseq i : Nat) : State :=
  if s.usbOn = false then s
  else if i < 64 ∧ s.on USB_PENT0.VALID i then (s.unload i).rteSend (rteMessage 8 mseq 0 (le 1 St.OK))
  else s.rteSend (rteMessage 8 mseq 0 (le 1 St.VALUE))

def execPunload (mseq : Fin 256) (entry : Fin 256) (s : State) : Res := .next (s.punload mseq.val entry.val)

/-- BUSRSP. -/
def State.busRsp (s : State) (mseq status ports : Nat) : State := s.rteSend (rteMessage 10 mseq 0 (le 1 status ++ le 1 ports))

/-- `SUSPEND` (R323). -/
def State.suspend (s : State) (mseq : Nat) : State :=
  if s.usbOn = false then s
  else if s.on USB_STATUS.SUSPENDED then s.busRsp mseq St.STATE 0
  else (s.abortAll.busSuspend).busRsp mseq St.OK 0

def execSuspend (mseq : Fin 256) (s : State) : Res := .next (s.suspend mseq.val)

/-- `RESUME` (R323, R324): a resume that a device started completes as the host's. -/
def State.resume (s : State) (mseq : Nat) : State :=
  if s.usbOn = false then s
  else if s.on USB_STATUS.SUSPENDED = false ∨ s.usb.resume = 1 then s.busRsp mseq St.STATE 0
  else
    let ports := bitList 4 s.usb.wakers
    let was := s.usb.resume
    let s := s.modUsb (fun u => { u with resume := 1, resumeSeq := mseq })
    if was = 2 then (ports.foldl (fun s k => (s.wr USB_PORT.WAKE 1 k).portChg k true true) s).raise Ev.USB_RESUME_COLLISION s.usb.wakers
    else s.emit (.act "usb resume" [])

def execResume (mseq : Fin 256) (s : State) : Res := .next (s.resume mseq.val)

/-- The bus resume ends: SOF tokens restart, and a host's RESUME is answered (R323, R324). -/
def State.busResumed (s : State) : State :=
  if s.usb.resume = 0 then s
  else
    let u := s.usb
    let s := ((s.wr USB_STATUS.RUN 1).wr USB_STATUS.SUSPENDED 0).modUsb (fun u => { u with resume := 0, wakers := 0 })
    if u.resume = 1 then s.busRsp u.resumeSeq St.OK u.wakers else s

/-- The resume of port `k` ends: `C_PORT_SUSPEND` is set. -/
def State.portResumed (s : State) (k : Nat) : State :=
  match NMap.get s.usb.portResume 0 k with
  | 0 => s
  | n => ((s.modUsb (fun u => { u with portResume := NMap.set u.portResume 0 k 0 })).wr USB_PORT.SUSPEND 0 k).changeBit k 2 (n == 2)

/-- `RESUME_DONE`: 20 ms of resume signalling have ended, on the bus (4) or on a port (0 to 3). -/
def execResumeDone (target : Fin 5) (s : State) : Res :=
  .next (if s.usbOn = false then s else if target.val = 4 then s.busResumed else s.portResumed target.val)

/-- `REMOTE_WAKE` (R324). -/
def State.remoteWake (s : State) (k : Nat) : State :=
  if s.usbOn = false ∨ s.on USB_PORT.CONNECT k = false then s
  else if s.on USB_STATUS.SUSPENDED then
    let s' := s.modUsb (fun u => { u with wakers := u.wakers ||| 2 ^ k, resume := if u.resume = 0 then 2 else u.resume })
    if s.usb.resume = 1 then s'.wakeCollides k
    else ((s'.wr USB_PORT.WAKE 1 k).portChg k true false).raise Ev.USB_REMOTE_WAKE k
  else if s.on USB_PORT.SUSPEND k then
    match NMap.get s.usb.portResume 0 k with
    | 0 => ((s.modUsb (fun u => { u with portResume := NMap.set u.portResume 0 k 2 })).wr USB_PORT.WAKE 1 k).raise Ev.USB_REMOTE_WAKE k
    | 1 => s.wakeCollides k
    | _ => s
  else s

def execRemoteWake (k : Fin 4) (s : State) : Res := .next (s.remoteWake k.val)

/-- `USB_CONNECT` (R315): a device held for the debounce, with the speed its line state shows: low or full. -/
def State.usbConnect (s : State) (k : Nat) (low : Bool) : State :=
  if s.usbOn = false ∨ s.on USB_PORT.POWER k = false ∨ s.on USB_PORT.CONNECT k then s
  else
    let sp := if low then 2 else 1
    let s := ((s.wr USB_PORT.CONNECT 1 k).wr USB_PORT.SPEED sp k).modUsb (fun u => { u with line := NMap.set u.line 0 k sp })
    ((s.changeBit k 0).raise Ev.USB_PORT_CONNECT k).reportPresence

def execUsbConnect (k : Fin 4) (low : Bool) (s : State) : Res := .next (s.usbConnect k.val low)

/-- `USB_DISCONNECT` (R315, R322). -/
def execUsbDisconnect (k : Fin 4) (s : State) : Res :=
  .next (if s.usbOn ∧ s.on USB_PORT.CONNECT k.val then (s.portLost k.val).changeBit k.val 0 else s)

/-- `USB_OVERCURRENT` (R314, R322): the port's power is removed and its over-current bits are set. -/
def State.overcurrent (s : State) (k : Nat) : State :=
  if s.usbOn = false ∨ s.on USB_PORT.TCPORT k ∨ s.on USB_PORT.POWER k = false then s
  else ((((s.portLost k).portPower k false).wr USB_PORT.OVERCURRENT 1 k).changeBit k 3).raise Ev.USB_PORT_OVERCURRENT k

def execUsbOvercurrent (k : Fin 4) (s : State) : Res := .next (s.overcurrent k.val)

/-- An error or underrun of an entry, saturating. -/
def State.missed (s : State) (i : Nat) : State := s.bump USB_PENT3.MISS i

/-- A transaction error of a periodic entry (R326). -/
def State.pxErr (s : State) (i : Nat) : State := ((s.bump USB_PXERR.COUNT).missed i).raiseOnce Ev.USB_PERIODIC_MISS

/-- PERIODIC_RUN of an IN entry (R326): code 0 data, 2 STALL, 3 XERR, 4 BABBLE, anything else NAK. -/
def State.runIn (s : State) (i u code : Nat) (data : List Byte) : State :=
  let e := s.pent i
  let full := e.mult * e.mps
  let d := data.take full
  match code with
  | 0 => s.recordSend (recordBytes 0 i u (if d.length < full then 1 else 0) d)
  | 2 =>
    if e.typ = 0 then ((s.recordSend (recordBytes 0 i u 2 [])).unload i).raiseOnce Ev.USB_PERIODIC_MISS
    else s.recordSend (recordBytes 0 i u 2 [])
  | 3 => if e.typ = 1 then (s.recordSend (recordBytes 0 i u 3 [])).pxErr i else s.pxErr i
  | 4 => if e.typ = 1 then (s.recordSend (recordBytes 0 i u 4 [])).pxErr i else s.pxErr i
  | _ => if e.typ = 1 then s.recordSend (recordBytes 0 i u 1 []) else s

/-- PERIODIC_RUN of an OUT entry (R326, R328). -/
def State.runOut (s : State) (i u code : Nat) : State :=
  match takeFirst (fun (r : OutRec) => r.entry == i && r.uframe == u) s.usb.recs with
  | none => if s.on USB_PENT0.TYPE i then (s.bump USB_POUNDER.COUNT).missed i else s
  | some (r, rest) =>
    let s := (s.modUsb (fun v => { v with recs := rest })).emit (.act "usb out" ([i, u] ++ r.data.map (·.toNat)))
    if code = 2 ∧ s.on USB_PENT0.TYPE i = false then (s.unload i).raiseOnce Ev.USB_PERIODIC_MISS
    else if code = 3 ∨ code = 4 then s.pxErr i
    else s

/-- Entry `i` runs if it is due in microframe `u`. -/
def State.periodicRun (s : State) (u i : Nat) (out : Nat × List Byte) : State :=
  let go := NMap.get s.usb.started false i || s.rd USB_PENT2.START i == u
  if s.on USB_PENT0.VALID i = false ∨ go = false then s
  else
    let s := s.modUsb (fun v => { v with started := NMap.set v.started false i true })
    if (s.pent i).runs u = false ∨ s.on USB_PORT.SUSPEND (s.rd USB_PENT0.PORT i) then s
    else if s.on USB_PENT0.DIR i then s.runIn i u out.1 out.2 else s.runOut i u out.1

/-- `MICROFRAME_START` (R312, R313, R326, R328): SOF, the frame-time record of every 1,024th microframe, then the due entries in index
order; `codes` and `datas` give what the device of each entry of `ents` does, NAK where an entry is not named. -/
def State.microframe (s : State) (ents codes : List Nat) (datas : List (List Byte)) : State :=
  if s.usbOn = false ∨ s.on USB_STATUS.RUN = false then s
  else
    let u := (s.rd USB_UFRAME.UFRAME + 1) % 16384
    let s := s.wr USB_UFRAME.UFRAME u
    let s := if u % 1024 = 0 then s.drew.recordSend (recordBytes 2 0 u 0 [] ++ le 8 s.now) else s
    let act := fun (i : Nat) => if ents.contains i then (codes.getD (ents.idxOf i) 9, datas.getD (ents.idxOf i) []) else (9, [])
    s.entries.foldl (fun s i => s.periodicRun u i (act i)) s

def execMicroframeStart (ents codes : List Nat) (datas : List (List Byte)) (s : State) : Res := .next (s.microframe ents codes datas)

/-- `OUT_RECORD_RECEIVE` (R328): a record, and whether one of its flits carries a loss mark. -/
def State.outRecord (s : State) (b : List Byte) (lost : Bool) : State :=
  let i := byteAt b 1 % 64
  let u := leAt b 2 2 % 16384
  let ahead := (u + 16384 - s.rd USB_UFRAME.UFRAME) % 16384
  let held := s.usb.recs.filter (fun r => r.entry == i)
  if s.usbOn = false then s
  else if lost then s.bump USB_POLOSS.COUNT
  else if byteAt b 0 ≠ 1 ∨ s.on USB_PENT0.VALID i = false ∨ s.on USB_PENT0.DIR i then s
  else if ahead < 2 ∨ 1024 < ahead then s.bump USB_POLATE.COUNT
  else if s.rd USB_PENT2.DEPTH i ≤ held.length ∨ held.any (fun r => r.uframe == u) then s.bump USB_POOVR.COUNT
  else s.modUsb (fun v => { v with recs := v.recs ++ [{ entry := i, uframe := u, data := (b.drop 8).take (leAt b 4 2 % 4096) }] })

def execOutRecordReceive (rec : List Byte) (lost : Bool) (s : State) : Res := .next (s.outRecord rec lost)

/-- `ORPHAN_TIMEOUT` (R325): orphaned for `ORPHAN_MS`. -/
def State.orphanTimeout (s : State) : State :=
  if s.usbOn = false ∨ s.on USB_STATUS.ORPHAN = false then s
  else
    let s := s.entries.foldl (fun s i => s.unload i) s
    let s := (s.modUsb (fun u => { u with bursts := [], dones := [] })).wr USB_STATUS.NEXT_BSEQ 0
    s.busSuspend.raise Ev.USB_ORPHAN

def execOrphanTimeout (s : State) : Res := .next s.orphanTimeout

/-- `UNSUPPORTED_HUB_REQUEST` (R321). -/
def execUnsupportedHubRequest (mseq : Fin 256) (s : State) : Res := .next (if s.usbOn then s.hubStall mseq.val else s)

/-- `RTE_MESSAGE_MALFORMED` (R316): a reserved type, or a length that disagrees with the frame. -/
def State.rteMalformed (s : State) (b : List Byte) : State :=
  if s.usbOn = false then s
  else if byteAt b 0 = 0 ∨ 11 < byteAt b 0 ∨ b.length ≠ 8 + leAt b 4 2 then s.rteBad
  else s

def execRteMessageMalformed (msg : List Byte) (s : State) : Res := .next (s.rteMalformed msg)

end Sys2Proof.Machine
end

