-- ==== Sys2Proof/Machine/RegPeriph.lean ====
section
/-! DEFINITION. Registers of spec/10 to spec/15 whose writes or reads do more than their field types say. -/
namespace Sys2Proof.Machine

/-- `PCB_CTRL` (R276, R294): with `EN` 0 the link is held in reset and every vDSP is not present. -/
def State.pcbCtrlWrite (s : State) (data : Nat) : State :=
  let was := s.on PCB_CTRL.EN
  s.writeReg Reg.PCB_CTRL 0 data [] (fun s =>
    if was && !s.on PCB_CTRL.EN then
      let s := if s.isRoot || s.pcb.perst then s else s.setPerst true
      s.pcieLinkDown.pcieRefresh
    else s)

/-- A register that the root does not have: it reads 0, and a write of anything but 0 returns STATE (R294). -/
def State.nodeWrite (s : State) (d : RegDesc) (i data : Nat) (checks : List (Nat × Bool)) : State :=
  if s.isRoot then s.answer (if data = 0 then St.OK else St.STATE) else s.writeReg d i data checks id

def State.nodeRead0 (s : State) (d : RegDesc) (i : Nat) : State := s.answerData [if s.isRoot then 0 else s.readReg d i]

/-- A read-ahead window: its first byte, and the first byte of its last 4 KiB block. -/
def State.rawBase (s : State) (w : Nat) : Nat := s.rd PCB_RAWIN_BLO.BASE w * 4096 + s.rd PCB_RAWIN_BHI.BASE w * 2 ^ 32
def State.rawLimit (s : State) (w : Nat) : Nat := s.rd PCB_RAWIN_LLO.LIMIT w * 4096 + s.rd PCB_RAWIN_LHI.LIMIT w * 2 ^ 32

/-- Two windows with `PREF` overlap. -/
def State.rawOverlap (t : State) : Bool :=
  (List.range 4).any (fun w => t.on PCB_RAWIN_BLO.PREF w && (List.range 4).any (fun v =>
    w != v && t.on PCB_RAWIN_BLO.PREF v && decide (t.rawBase v ≤ t.rawLimit w) && decide (t.rawBase w ≤ t.rawLimit v)))

/-- A word of `PCB_RAWIN` (R294). -/
def State.rawinWrite (s : State) (d : RegDesc) (i data : Nat) : State :=
  let t := s.writeFields d i data
  s.nodeWrite d i data
    [(St.CONFLICT, (d.base == Reg.PCB_RAWIN_BLO.base && bitAt data 0 && decide (t.rawLimit i < t.rawBase i)) || t.rawOverlap)]

def writes10 : List (Nat × WriteOp) :=
  [(Reg.PCB_CTRL.base, fun s _ data => s.pcbCtrlWrite data),
   (Reg.PCB_RACFG.base, fun s i data => s.nodeWrite Reg.PCB_RACFG i data []),
   (Reg.PCB_RAWIN_BLO.base, fun s i data => s.rawinWrite Reg.PCB_RAWIN_BLO i data),
   (Reg.PCB_RAWIN_BHI.base, fun s i data => s.rawinWrite Reg.PCB_RAWIN_BHI i data),
   (Reg.PCB_RAWIN_LLO.base, fun s i data => s.rawinWrite Reg.PCB_RAWIN_LLO i data),
   (Reg.PCB_RAWIN_LHI.base, fun s i data => s.rawinWrite Reg.PCB_RAWIN_LHI i data)]

def reads10 : List (Nat × ReadOp) :=
  [(Reg.PCB_RACFG.base, fun s i => s.nodeRead0 Reg.PCB_RACFG i),
   (Reg.PCB_RAWIN_BLO.base, fun s i => s.nodeRead0 Reg.PCB_RAWIN_BLO i),
   (Reg.PCB_RAWIN_BHI.base, fun s i => s.nodeRead0 Reg.PCB_RAWIN_BHI i),
   (Reg.PCB_RAWIN_LLO.base, fun s i => s.nodeRead0 Reg.PCB_RAWIN_LLO i),
   (Reg.PCB_RAWIN_LHI.base, fun s i => s.nodeRead0 Reg.PCB_RAWIN_LHI i),
   (Reg.PCB_VDSP.base, fun s i => s.rootRead Reg.PCB_VDSP i),
   (Reg.PCB_VOUT.base, fun s i => s.rootRead Reg.PCB_VOUT i)]

/-- `DPT_CTRL` (R307, R310): a port switched off loses its sink (log entry 98). -/
def State.dptCtrlWrite (s : State) (d data : Nat) : State :=
  let was := s.on DPT_CTRL.EN d
  s.writeReg Reg.DPT_CTRL d data [(St.VALUE, DPT_CTRL.MAXLANES.of data == 3)] (fun s =>
    if s.isRoot then (s.hpdRefresh d).streamFitCheck d
    else if was && !s.on DPT_CTRL.EN d then s.sinkDetach d
    else s)

def writes11 : List (Nat × WriteOp) := [(Reg.DPT_CTRL.base, fun s i data => s.dptCtrlWrite i data)]

/-- A word of the EDID cache (R310). -/
def State.edidRead (s : State) (d off : Nat) : State := s.answerData [if s.isRoot then 0 else leAt (s.dpt d).edid off 4]

/-- `USB_CTRL` (R313, R314, R333). -/
def State.usbCtrlWrite (s : State) (data : Nat) : State :=
  let was := s.on USB_CTRL.EN
  s.writeReg Reg.USB_CTRL 0 data [] (fun s =>
    let s := (s.setBit USB_PORT.TCPORT (s.on USB_CTRL.TCSEL2) 2).setBit USB_PORT.TCPORT (s.on USB_CTRL.TCSEL3) 3
    if !was && s.on USB_CTRL.EN then (s.usbStart.tcRouted 0).tcRouted 1
    else if was && !s.on USB_CTRL.EN then s.usbStop
    else s)

def writes12 : List (Nat × WriteOp) := [(Reg.USB_CTRL.base, fun s _ data => s.usbCtrlWrite data)]

/-- A port goes off or on (R335). -/
def State.tcSwitch (s : State) (n : Nat) (was : Bool) : State :=
  if was = s.on TCP_CTRL.EN n then s
  else if was then s.tcTold n (fun s => ((s.tcClear n St.STATE).wr TCP_STATUS.TCSTATE 0 n).tcOff n)
  else s.tcTold n (fun s => s.wr TCP_STATUS.TCSTATE (s.tcUnattached n) n)

/-- `TCP_CTRL` (R350). -/
def State.tcpCtrlWrite (s : State) (n data : Nat) : State :=
  let was := s.on TCP_CTRL.EN n
  let rest := [TCP_CTRL.ROLE, TCP_CTRL.PREF, TCP_CTRL.VCONN_EN, TCP_CTRL.WAKE_ATT, TCP_CTRL.RP_DEF, TCP_CTRL.POLICY_MS]
  s.writeReg Reg.TCP_CTRL n data
    [(St.STATE, s.tcAttached n && rest.any (fun f => f.of data != s.rd f n)),
     (St.VALUE, [TCP_CTRL.ROLE, TCP_CTRL.PREF, TCP_CTRL.RP_DEF].any (fun f => f.of data == 3))]
    (fun s => (s.tcSwitch n was).fallbackRefresh n)

/-- The voltage field of a fixed PDO, in units of 50 mV, and its current in units of 10 mA. -/
def pdoV (p : Nat) : Nat := bits p 10 10
def pdoI (p : Nat) : Nat := bits p 0 10
def pdoFixed (p : Nat) : Bool := bits p 30 2 == 0

/-- Source PDOs 2 to 7 that R350 allows after a voltage. -/
def pdosRise (last : Nat) (l : List Nat) : Bool :=
  match l with
  | [] => true
  | p :: r => if p = 0 then r.all (fun x => x == 0)
    else pdoFixed p && [180, 300, 400].contains (pdoV p) && decide (last < pdoV p) && pdosRise (pdoV p) r

/-- The seven source PDOs of port `n` are as R350 wants them. -/
def State.srccapOk (t : State) (n : Nat) : Bool :=
  let p := fun k => t.rd TCP_SRCCAP.PDO (n * 7 + k)
  pdoFixed (p 0) && pdoV (p 0) == 100 && pdosRise 100 ((List.range 6).map (fun k => p (k + 1)))

/-- `TCP_SRCCAP`(n, i). -/
def State.srccapWrite (s : State) (i data : Nat) : State :=
  s.writeReg Reg.TCP_SRCCAP i data
    [(St.STATE, s.tcAttached (i / 7)), (St.VALUE, !(s.wr TCP_SRCCAP.PDO data i).srccapOk (i / 7)), (St.RANGE, decide (300 < pdoI data))] id

def writes13 : List (Nat × WriteOp) :=
  [(Reg.TCP_CTRL.base, fun s i data => s.tcpCtrlWrite i data),
   (Reg.TCP_SRCCAP.base, fun s i data => s.srccapWrite i data)]

def reads13 : List (Nat × ReadOp) := [(Reg.TCP_VBUS.base, fun s i => s.measuredRead Reg.TCP_VBUS i TCP_VBUS.VBUS)]

def writes14 : List (Nat × WriteOp) :=
  [(Reg.PWP_INCFG.base, fun s i data => s.writeReg Reg.PWP_INCFG i data
      (s.inSenseChecks (PWP_INCFG.ILIM_IN.of data) (s.rd PWP_INSNS.RSNS)) id),
   (Reg.PWP_INSNS.base, fun s i data => s.writeReg Reg.PWP_INSNS i data
      (s.inSenseChecks (s.rd PWP_INCFG.ILIM_IN) (PWP_INSNS.RSNS.of data)) id),
   (Reg.PWP_TELCMD.base, fun s _ data => s.telcmdWrite data),
   (Reg.PWP_EFCTL.base, fun s i data => s.efctlWrite i data),
   (Reg.PWP_EFCFG.base, fun s i data => s.writeReg Reg.PWP_EFCFG i data
      (s.efSenseChecks i (PWP_EFCFG.ILIM.of data) (s.rd PWP_EFSNS.RSNS i)) id),
   (Reg.PWP_EFSNS.base, fun s i data => s.writeReg Reg.PWP_EFSNS i data
      (s.efSenseChecks i (s.rd PWP_EFCFG.ILIM i) (PWP_EFSNS.RSNS.of data)) id)]

def reads14 : List (Nat × ReadOp) := [(Reg.PWP_TE_LO.base, fun s i => s.energyLatch i)]

def writes15 : List (Nat × WriteOp) :=
  [(Reg.CPM_PSCMD.base, fun s _ data => s.pscmdWrite data),
   (Reg.CPM_ULP.base, fun s i data => s.writeReg Reg.CPM_ULP i data [(St.VALUE, CPM_ULP.ULP_ACT.of data == 3)] id),
   (Reg.CPM_AVS.base, fun s i data => s.writeReg Reg.CPM_AVS i data
      [(St.RANGE, decide (40 < CPM_AVS.AVS_MIN.of data) || decide (40 < CPM_AVS.AVS_MAX.of data)),
       (St.CONFLICT, decide (CPM_AVS.AVS_MAX.of data < CPM_AVS.AVS_MIN.of data))] id)]

/-- The USB registers at a root (R311): they read 0, and writes return STATE. -/
def inUsb (a : Nat) : Bool := decide (0x600000 ≤ a) && decide (a < 0x640000)

/-- The power-path registers (R352). -/
def inPwp (a : Nat) : Bool := decide (0x680000 ≤ a) && decide (a < 0x6C0000)

end Sys2Proof.Machine
end

