-- ==== Sys2Proof/Machine/RegChip.lean ====
section
/-! DEFINITION. Registers of spec/16 to spec/19 whose writes or reads do more than their field types say, the windows of the address map,
and the way from an address to its register (R5, R421). `BOOT_CMD` and `BOOT_PUSHDATA` act in Machine/Mgmt.lean. -/
namespace Sys2Proof.Machine

def writes16 : List (Nat × WriteOp) :=
  [(Reg.BOOT_NEXT.base, fun s i data => s.writeReg Reg.BOOT_NEXT i data
      [(St.VALUE, BOOT_NEXT.MARCH.of data == 3 || BOOT_NEXT.FORCE_COPY.of data == 3)] id),
   (Reg.BOOT_PUSHPTR.base, fun s i data => s.writeReg Reg.BOOT_PUSHPTR i data [(St.VALUE, data % 4 != 0)]
      (fun s => s.modChip (fun c => { c with pushFull := false })))]

/-- A write of `NIM_CCTRL`(n) (R450): cores 0 and 1 are not halted; a core that holds code runs while it is neither halted nor trapped. -/
def State.cctrlWrite (s : State) (n data : Nat) : State :=
  s.writeReg Reg.NIM_CCTRL n data [(St.STATE, decide (n < 2) && bitAt data 0)] (fun s =>
    if n < 2 then s
    else s.setBit NIM_CSTAT.RUNNING (!s.on NIM_CCTRL.HALT n && !s.on NIM_CSTAT.TRAPPED n && NMap.get s.nim.coreEntry 0 n != 0) n)

def writes17 : List (Nat × WriteOp) :=
  [(Reg.EVU_CTRL.base, fun s _ data => s.evuCtrlWrite data),
   (Reg.EVU_EVQPOP.base, fun s _ data => s.evqPop data),
   (Reg.EVU_SRC.base, fun s i data => s.evuSrcWrite i data),
   (Reg.NIM_CCTRL.base, fun s i data => s.cctrlWrite i data)]

def reads17 : List (Nat × ReadOp) :=
  [(Reg.EVU_EVQ.base, fun s i => s.answerData [s.evqWord i]),
   (Reg.EVU_SRC.base, fun s i =>
      s.answerData [(if (Ev.severity? i).isNone then s.wr EVU_SRC.EN 0 i else s).readReg Reg.EVU_SRC i])]

def writes18 : List (Nat × WriteOp) :=
  [(Reg.SEC_TAMPCFG.base, fun s _ data => s.tampcfgWrite data),
   (Reg.SEC_CMD.base, fun s _ data => s.secCmd data)]

def reads18 : List (Nat × ReadOp) :=
  [(Reg.SEC_NONCE.base, fun s i => if i = 0 then s.nonceDraw else s.answerData [s.readReg Reg.SEC_NONCE i])]

def writes19 : List (Nat × WriteOp) :=
  [(Reg.MEM_MCMD.base, fun s _ data => s.mcmdWrite data),
   (Reg.MEM_FUSECMD.base, fun s _ data => s.fuseRepair data),
   (Reg.MEM_CAP0.base, fun s i data => s.capWrite i data),
   (Reg.DBG_CMD.base, fun s _ data => s.dbgCmd data),
   (Reg.DBG_TMSEL.base, fun s _ data => s.tmselWrite data),
   (Reg.DBG_FCTL.base, fun s _ data => s.fctlWrite data)]

/-- Seconds of debug unlock that remain (R505), by the tree time of the last slot 0. -/
def State.unlockRemain (s : State) : Nat :=
  if s.on DBG_STATUS.DBG_TMUX || s.on DBG_STATUS.DBG_JTAG then s.sec.dbgTime - (s.timeAtSlot0 - s.sec.dbgAt) / 1000000000 else 0

def reads19 : List (Nat × ReadOp) :=
  [(Reg.DBG_STATUS.base, fun s i => s.answerData [(s.wr DBG_STATUS.REMAIN s.unlockRemain).readReg Reg.DBG_STATUS i])]

/-- Every register with a write or a read of its own, by its base. -/
def allWrites : List (Nat × WriteOp) :=
  writes02 ++ writes03 ++ writes04 ++ writes05 ++ writes06 ++ writes07 ++ writes08 ++ writes09 ++ writes10 ++ writes11 ++ writes12 ++
  writes13 ++ writes14 ++ writes15 ++ writes16 ++ writes17 ++ writes18 ++ writes19

def allReads : List (Nat × ReadOp) :=
  reads02 ++ reads03 ++ reads04 ++ reads05 ++ reads06 ++ reads07 ++ reads08 ++ reads09 ++ reads10 ++ reads13 ++ reads14 ++ reads17 ++
  reads18 ++ reads19

/-- The register at an address. -/
def findReg (a : Nat) : Option (RegDesc × Nat) := regMap.findSome? (fun d => (d.indexOf a).map (fun i => (d, i)))

/-- Windows: plan store, Horizon, points, EDID, scratchpad, tokens, identity key, Dusk helper. -/
inductive Window where
  | plan | horizon | points | edid | scratch | token | identity | dusk
  deriving DecidableEq, Repr

/-- The window at an address, and the offset in it (R38, R114, R227, R310, R435, spec/18). -/
def findWindow (a : Nat) : Option (Window × Nat) :=
  if 0x1C0000 ≤ a ∧ a < 0x1E0000 then some (.plan, a - 0x1C0000)
  else if 0x100000 ≤ a ∧ a < 0x140000 ∧ 0x8000 ≤ a % 0x10000 ∧ a % 0x10000 < 0xC000 then some (.horizon, a - 0x100000)
  else if 0x510000 ≤ a ∧ a < 0x514000 then some (.points, a - 0x510000)
  else if 0x5C1000 ≤ a ∧ a < 0x5C1400 then some (.edid, a - 0x5C1000)
  else if 0x740000 ≤ a ∧ a < 0x7C0000 then some (.scratch, a - 0x740000)
  else if 0x41000 ≤ a ∧ a < 0x43000 then some (.token, a - 0x41000)
  else if 0x43000 ≤ a ∧ a < 0x43064 then some (.identity, a - 0x43000)
  else if 0x43400 ≤ a ∧ a < 0x43820 then some (.dusk, a - 0x43400)
  else none

/-- The key of a scratchpad word of the core shown (R435). -/
def State.scratchKey (s : State) (off : Nat) : Nat := s.rd NIM_WINSEL.CORE * 131072 + off / 4

/-- A scratchpad word written. -/
def State.scratchWrite (s : State) (off data : Nat) : State :=
  let k := s.scratchKey off
  { s with nim := { s.nim with scratch := NMap.set s.nim.scratch 0 k data } }

/-- A token-buffer word written (R462). -/
def State.tokenWrite (s : State) (off data : Nat) : State :=
  s.modSec (fun c => { c with token := NMap.set c.token 0 (off / 4) data })

/-- A write in a window; a read-only one ignores it (R6). -/
def State.windowWrite (s : State) (w : Window) (off data : Nat) : State :=
  match w with
  | .plan => s.planWindowWrite off data
  | .points => s.pointWrite (off / 4) data
  | .scratch => (s.scratchWrite off data).answer St.OK
  | .token => (s.tokenWrite off data).answer St.OK
  | .horizon | .edid | .identity | .dusk => s.answer St.OK

/-- A read in a window. -/
def State.windowRead (s : State) (w : Window) (off : Nat) : State :=
  match w with
  | .plan => s.planWindowRead off
  | .horizon => s.horizonRead (off / 0x10000) (off % 0x10000 - 0x8000)
  | .points => s.answerData [s.point (off / 4)]
  | .edid => s.edidRead (off / 0x200) (off % 0x200)
  | .scratch => s.answerData [NMap.get s.nim.scratch 0 (s.scratchKey off)]
  | .token => s.answerData [NMap.get s.sec.token 0 (off / 4)]
  | .identity => s.answerData [leAt ((List.range 97).map Config.identityKey) off 4]
  | .dusk => s.answerData [if s.sec.helper then leAt ((List.range 1056).map Config.duskHelper) off 4 else 0]

/-- A write of a register by its own rule, else by its field types. -/
def State.regWrite (s : State) (d : RegDesc) (i data : Nat) : State :=
  match allWrites.lookup d.base with
  | some f => f s i data
  | none => s.writeReg d i data [] id

def State.regRead (s : State) (d : RegDesc) (i : Nat) : State :=
  match allReads.lookup d.base with
  | some f => f s i
  | none => s.answerData [s.readReg d i]

/-- No block decodes the address (R5). -/
def badAddr (a : Nat) : Bool := a % 4 != 0 || ((findWindow a).isNone && (findReg a).isNone)

/-- A write that has reached its block (R311, R352). -/
def State.coreWrite (s : State) (a data : Nat) : State :=
  if a % 4 ≠ 0 then s.answer St.ADDR
  else match findWindow a with
    | some w => s.windowWrite w.1 w.2 data
    | none =>
      match findReg a with
      | none => s.answer St.ADDR
      | some r =>
        if inUsb a ∧ s.isRoot then s.answer St.STATE
        else if inPwp a then s.pwpAccess (fun s => s.regWrite r.1 r.2 data)
        else s.regWrite r.1 r.2 data

/-- A read that has reached its block. -/
def State.coreRead (s : State) (a : Nat) : State :=
  if a % 4 ≠ 0 then s.answer St.ADDR
  else match findWindow a with
    | some w => s.windowRead w.1 w.2
    | none =>
      match findReg a with
      | none => s.answer St.ADDR
      | some r =>
        if inUsb a ∧ s.isRoot then s.answerData [0]
        else if inPwp a then s.pwpAccess (fun s => s.regRead r.1 r.2)
        else s.regRead r.1 r.2

end Sys2Proof.Machine
end

