-- ==== Sys2Proof/Machine/NetOps.lean ====
section
/-! DEFINITION. Fetching an image over the network (R410, R434): the block requests of a node that boots from its parent. -/
namespace Sys2Proof.Machine

/-- GETBLOCK for block `i` (R434); the request's `TAG` is the block (log entry 100). -/
def State.netAsk (s : State) (i : Nat) : State :=
  s.cirrusOut { op := opCmd, rsp := false, auth := false, dst := zoneController, src := s.rd GLB_HUB.HUB, tag := i % 65536, status := 0,
                addr := 0, body := le 1 11 ++ le 1 1 ++ le 2 0 ++ le 4 i ++ le 8 s.chip.netGen }

/-- A fetch begins with 8 requests outstanding (R410). -/
def State.netStart (s : State) : State :=
  (List.range 8).foldl (fun s i => s.netAsk i)
    (s.modChip (fun c => { c with net := [], netGen := 0, netTry := [], netNext := 8, netRun := true }))

/-- A block fetched. -/
def State.netBlock (s : State) (i : Nat) : List Byte := NMap.get s.chip.net [] i

/-- How many blocks the image has, once its header has come. -/
def State.netBlocks (s : State) : Option Nat :=
  if (s.netBlock 0).isEmpty then none else some ((leAt (s.netBlock 0) 0x10 4 + 4095) / 4096)

/-- Block `i` is asked for and has not come. -/
def State.netWaits (s : State) (i : Nat) : Bool :=
  s.chip.netRun && decide (i < s.chip.netNext) && (s.netBlock i).isEmpty &&
    (match s.netBlocks with
     | none => true
     | some n => decide (i < max n 1))

/-- Requests outstanding are kept at 8 (R410). -/
def State.netMore (s : State) (fuel : Nat) : State :=
  match fuel with
  | 0 => s
  | fuel + 1 =>
    match s.netBlocks with
    | none => s
    | some n =>
      if s.chip.netNext < n ∧ ((List.range s.chip.netNext).filter (fun i => s.netWaits i)).length < 8 then
        ((s.netAsk s.chip.netNext).modChip (fun c => { c with netNext := c.netNext + 1 })).netMore fuel
      else s

/-- An attempt fails (R410). -/
def State.netFail (s : State) : State := (s.modChip (fun c => { c with netRun := false })).raise 0x019

/-- The uplink of a node that boots from the network has come up: its fetch begins. -/
def State.netLinkUp (s : State) : State :=
  if s.chip.bootId ∧ s.chip.netRun = false ∧ s.chip.netNext = 0 then s.netStart else s

end Sys2Proof.Machine
end

