-- ==== Sys2Proof/Machine/Settle.lean ====
section
/-! DEFINITION. What a link that comes up, goes down or shifts its plan means for the other blocks of the hub. -/
namespace Sys2Proof.Machine

/-- The hub's uplink is gone (R249, R267, R285, R325, R343, R387). -/
def State.uplinkLost (s : State) : State :=
  let s := s.tsuHoldover
  let s := if s.on FLD_OCTRL.ULOSS_EN then s.safeLatch FLD_OSTAT.ULOSS else s
  s.tcPolicyChange.orphanRefresh.pcieRefresh.ulpStart

/-- The hubs beyond port `p` are gone (R59): a root marks them absent, a node tells it. -/
def State.subtreeLost (s : State) (p : Nat) : State :=
  if s.isRoot then (((s.lk p).subtree.foldl (fun s h => ((s.hubAbsent h).vdspHubLost h).dpPath h true) s).pcieRefresh).dpLinkChange
  else s.reportLoss p

/-- Port `p` has left ACTIVE (R194). -/
def State.linkDownNews (s : State) (p : Nat) : State :=
  let s := s.swLinkDown p
  if s.isUpPort p then s.uplinkLost else s.subtreeLost p

/-- The first ACTIVE link after a start: step 13 (R414). -/
def State.firstActive (s : State) : State :=
  let s := if s.on BOOT_TIME.T_ACTIVE then s else (s.wr BOOT_TIME.T_ACTIVE s.freeVal).drew
  if s.on BOOT_STATUS.LOCK then s.wr BOOT_STATUS.STEP 13 else s

/-- Port `p` has reached ACTIVE (R59, R325, R343, R387, R410). -/
def State.linkUpNews (s : State) (p : Nat) : State :=
  let s := s.firstActive
  if s.isUpPort p then s.reportDue.tcPolicyChange.orphanRefresh.pcieRefresh.ulpStop.netLinkUp
  else if s.isRoot then s.pcieRefresh.dpLinkChange
  else s

/-- Port `p` has shifted its plan (R283, R299, R325, R330). -/
def State.shiftNews (s : State) (p : Nat) : State :=
  if s.isRoot then ((s.streamFitCheck 0).streamFitCheck 1).dpLinkChange.pcieRefresh
  else if s.isUpPort p then s.periodicFit.orphanRefresh.pcieRefresh.reportChange
  else s

/-- The gateway's Ethernet port has changed (R249, R339, R387). -/
def State.gatewayNews (s : State) (k : Nat) : State :=
  if s.gwRuns ∧ s.rd TUN_GWCTRL.GW_PORT = k then
    if s.on ETH_STATUS.LINK k then s.tcPolicyChange.ulpStop else s.tcPolicyChange.ulpStart
  else s

/-- One piece of news. -/
def State.answerNews (s : State) (n : Nat × Nat) : State :=
  match n.1 with
  | 0 => s.linkDownNews n.2
  | 1 => s.linkUpNews n.2
  | 2 => s.shiftNews n.2
  | _ => s.gatewayNews n.2

/-- Everything told during a command is answered, in order. -/
def State.settled (s : State) : State := { s.news.foldl (fun s n => s.answerNews n) s with news := [] }

/-- A command that other blocks may have to answer: `f` acts, and what it tells them is answered. -/
def State.settling (s : State) (f : State → State) : State := (f { s with news := [] }).settled

end Sys2Proof.Machine
end

