-- ==== Sys2Proof/Machine/Load.lean ====
section
/-! DEFINITION. Loading the sections of an image (R405, R416, R545): how a section's header and records are checked and applied, and the
sections that configure the tree, the tunnels and the switch. -/
namespace Sys2Proof.Machine

/-- A section being loaded: the hub so far and, once a check has failed, the record and the status. -/
abbrev Loaded := State × Option (Nat × Nat)

/-- Words of registers to be written, with their indices. -/
abbrev RegWords := List (RegDesc × Nat × Nat)

/-- Bytes `i` to `i` + `n` - 1 are 0. -/
def zeros (b : List Byte) (i n : Nat) : Bool := leAt b i n == 0

/-- Word `k` of the bytes from `i` on. -/
def wordAt (b : List Byte) (i : Nat) (k : Nat := 0) : Nat := leAt b (i + 4 * k) 4

/-- The words that a woken domain gets back (R383). -/
def State.noteImage (s : State) (d : RegDesc) (i data : Nat) : State :=
  let a := d.addr (i / d.n2) (i % d.n2)
  if s.domainOf a = 0 then s else s.modChip (fun c => { c with image := c.image ++ [(a, data)] })

/-- One word written as the equivalent register write (R414 step 9), with that write's status. -/
def State.putBy (s : State) (d : RegDesc) (i data : Nat) (write : State → State) : State × Nat :=
  let r := s.quietly write
  let st := (r.2.map (fun x => x.1)).getD St.OK
  if st = St.OK then (r.1.noteImage d i data, St.OK) else (s, st)

def State.putReg (s : State) (d : RegDesc) (i data : Nat) : State × Nat := s.putBy d i data (fun s => s.regWrite d i data)

/-- One word written with the checks of its field types only. -/
def State.putPlain (s : State) (d : RegDesc) (i data : Nat) : State × Nat :=
  s.putBy d i data (fun s => s.writeReg d i data [] id)

/-- Two failing statuses together, in the order of R10. -/
def worse (a b : Nat) : Nat := if a = St.OK then b else if b = St.OK then a else firstStatus [(a, true), (b, true)]

/-- One step after another, each applied if it succeeds. -/
def State.steps (s : State) (l : List (State → State × Nat)) : State × Nat :=
  l.foldl (fun r f => let t := f r.1; (t.1, worse r.2 t.2)) (s, St.OK)

/-- Words written one after the other. -/
def State.putRegs (s : State) (l : RegWords) : State × Nat :=
  s.steps (l.map (fun w => fun s => s.putReg w.1 w.2.1 w.2.2))

/-- Checks of a record beside those of its writes. -/
def State.guarded (s : State) (checks : List (Nat × Bool)) (f : State → State × Nat) : State × Nat :=
  let r := f s
  let st := worse (firstStatus checks) r.2
  if st = St.OK then r else (s, st)

/-- The header of a section (R545): a fault is recorded against record 0xFFFF, and nothing is loaded. -/
def State.header (s : State) (checks : List (Nat × Bool)) (f : State → State × Nat) : Loaded :=
  let r := s.guarded checks f
  if r.2 = St.OK then (r.1, none) else (s, some (0xFFFF, r.2))

/-- The first byte of every section and its reserved bytes; a section too small for its counts. -/
def versionBad (b : List Byte) (reserved : List (Nat × Nat)) : Bool := byteAt b 0 != 1 || reserved.any (fun r => !zeros b r.1 r.2)
def tooSmall (b : List Byte) (n : Nat) : Bool := decide (b.length < n)

/-- One record: whole or not at all; after a failure nothing more is loaded. -/
def record (l : Loaded) (n : Nat) (f : State → State × Nat) : Loaded :=
  match l.2 with
  | some _ => l
  | none =>
    let r := f l.1
    if r.2 = St.OK then (r.1, none) else (l.1, some (n, r.2))

/-- Records `first` to `first` + `n` - 1. -/
def records (l : Loaded) (first n : Nat) (f : Nat → State → State × Nat) : Loaded :=
  (List.range n).foldl (fun l k => record l (first + k) (f k)) l

/-- What follows once everything has loaded. -/
def finish (l : Loaded) (f : State → State) : Loaded :=
  match l.2 with
  | some _ => l
  | none => (f l.1, none)

/-- The hub's place in the tree: from GLOBAL, or from the boot identity until then (R409). -/
def State.takePlace (s : State) (root : Bool) (hub zone up : Nat) : State :=
  let s := (s.wr GLB_HUB.HUB hub).wr GLB_ZONE.ZONE zone
  let s := [GLB_HUB.ROOT, PLN_STATUS.ROOT, TSU_STATUS.ROOT, PCB_STATUS.ROOT].foldl (fun s f => s.setBit f root) s
  (List.range 4).foldl (fun s p => s.setBit PLN_LSTAT.UPSTREAM (!root && p == up) p) s

/-- The registers in GLOBAL. The reservations of R188 are judged with all of them in place, so every port starts from one VC. -/
def globalWords (b : List Byte) : RegWords :=
  (List.range 256).map (fun k => (Reg.JXK_VC, k, wordAt b 0x60 k)) ++
  (List.range 4).map (fun p => (Reg.JXP_CTRL, p, wordAt b (0x30 + 8 * p))) ++
  (List.range 4).map (fun p => (Reg.JXK_CTRL, p, wordAt b (0x34 + 8 * p))) ++
  [(Reg.CPM_ULP, 0, wordAt b 0x50), (Reg.CPM_AVS, 0, wordAt b 0x54), (Reg.CPM_TRIM, 0, wordAt b 0x58)]

/-- Two subtree masks share a hub, or one holds this hub (R406). -/
def masksBad (b : List Byte) (hub : Nat) : Bool :=
  (List.range 64).any (fun h =>
    let n := ((List.range 4).filter (fun p => bitAt (leAt b (0x10 + 8 * p) 8) h)).length
    decide (1 < n) || (h == hub && n != 0))

/-- GLOBAL (R406), with the zone and hub number of the image header. The root's tree time starts from the RTC (R263), whose value is free. -/
def State.loadGlobal (s : State) (b : List Byte) (zone hub : Nat) : Loaded :=
  let root := byteAt b 1 == 0
  let h := byteAt b 2
  let up := byteAt b 3
  let checks :=
    [(St.VALUE, versionBad b [(0x5C, 4)] || decide (1 < byteAt b 1) || zeros b 4 4), (St.RANGE, tooSmall b 0x460),
     (St.CONFLICT, (if root then h != 0 || up != 0xFF else h == 0 || decide (63 < h) || decide (3 < up)) || masksBad b h ||
        wordAt b 4 != zone || h != hub),
     (St.STATE, root && s.rd BOOT_STATUS.SRC == 3)]
  let one := (List.range 4).foldl (fun s p => s.wr JXK_CTRL.VCS 1 p) s
  let r := one.header checks (fun s => s.putRegs (globalWords b))
  match r.2 with
  | some f => (s, some f)
  | none =>
    let t := (r.1.takePlace root h (wordAt b 4) up).modChip (fun c => { c with bootId := false })
    let t := (List.range 4).foldl (fun t p => t.modLk p (fun l => { l with
      expHub := byteAt b (8 + 2 * p), expPort := byteAt b (9 + 2 * p), subtree := bitList 64 (leAt b (0x10 + 8 * p) 8) })) t
    let t := if root then { t.drew with treeTime := t.freeVal % 2 ^ 34 * 1000000000 * 2 ^ 32 } else t
    (t.recomputePool, none)

/-- A record of PINMUX (R407, R525): group, function and pad settings. Group 0 serves the image source, group 3 carries AVS. -/
def State.pinRecord (s : State) (b : List Byte) (at_ : Nat) : State × Nat :=
  let g := leAt b at_ 2
  let fn := byteAt b (at_ + 2)
  let pad := byteAt b (at_ + 3)
  let src := s.rd BOOT_STATUS.SRC
  s.guarded
    [(St.VALUE, decide (7 < g) || decide ((if g = 0 then 2 else 1) < fn) || pad % 4 == 3 || decide (16 ≤ pad)),
     (St.CONFLICT, (g == 0 && ((src == 0 && fn != 1) || (src == 1 && fn != 2))) || (g == 3 && fn == 0 && s.on CPM_AVS.AVS_EN))]
    (fun s => (s.modChip (fun c => { c with pinmux := c.pinmux ++ [[g, fn, pad]] }), St.OK))

/-- PINMUX (R407). -/
def State.loadPinmux (s : State) (b : List Byte) : Loaded :=
  let n := byteAt b 1
  let h := s.header [(St.VALUE, versionBad b [(2, 2)]), (St.RANGE, n == 0 || tooSmall b (4 + 4 * n))] (fun s => (s, St.OK))
  records h 0 n (fun k s => s.pinRecord b (4 + 4 * k))

/-- A record of EVENTS (R448). -/
def State.eventRecord (s : State) (b : List Byte) (at_ : Nat) : State × Nat :=
  let id := leAt b at_ 2
  let v := byteAt b (at_ + 2)
  let sev := bits v 1 2
  let base := Ev.severity? id
  s.guarded
    [(St.VALUE, decide (1024 ≤ id) || base.isNone || decide (8 ≤ v) || !zeros b (at_ + 3) 1),
     (St.STATE, base == some 3 && decide (sev < 3))]
    (fun s => ((s.wr EVU_SRC.EN (v % 2) id).wr EVU_SRC.SEV sev id, St.OK))

/-- EVENTS (R448). -/
def State.loadEvents (s : State) (b : List Byte) : Loaded :=
  let n := leAt b 2 2
  let h := s.header [(St.VALUE, versionBad b [(1, 1)]), (St.RANGE, decide (1024 < n) || tooSmall b (4 + 4 * n))] (fun s => (s, St.OK))
  records h 0 n (fun k s => s.eventRecord b (4 + 4 * k))

/-- An endpoint that holds at most one VALID tunnel (R276, R295, R311): the root's NVMe tunnels are told apart by `CTX`. -/
def State.endpointTaken (s : State) (x : Nat) : Bool :=
  let at_ := fun (y e : Nat) => s.epA y == e || s.epB y == e
  let single := [0x30, 0x31, 0x32, 0x33, 0x34, 0x35, 0x36].filter (fun e => at_ x e)
  s.tunValid x &&
  (single.any (fun e => (List.range 4096).any (fun y => y != x && s.tunValid y && at_ y e &&
      (e != 0x30 || !s.isRoot || s.rd TUN_ENT0.CTX y == s.rd TUN_ENT0.CTX x))) ||
   (!s.isRoot && at_ x 0x30 && s.rd TUN_ENT0.CTX x != 0))

/-- A tunnel record (R95): its entry's four words together, as one write of the entry. TIX 0 takes only LEND. -/
def State.tunnelRecord (s : State) (b : List Byte) (at_ : Nat) : State × Nat :=
  let x := leAt b at_ 2
  let w := fun k => wordAt b (at_ + 4) k
  let resv := !zeros b (at_ + 2) 2
  if x = 0 then
    s.guarded
      [(St.VALUE, resv),
       (St.STATE, (List.range 4).any (fun k => if k = 0 then (w 0 &&& 0xFFFBFFFF) != (s.readReg (tunWordReg 0) 0 &&& 0xFFFBFFFF)
          else w k != s.readReg (tunWordReg k) 0))]
      (fun s => (s.wr TUN_ENT0.LEND (TUN_ENT0.LEND.of (w 0)) 0, St.OK))
  else if 4096 ≤ x then (s, if resv then St.VALUE else St.RANGE)
  else
    let t := (List.range 4).foldl (fun t k => t.writeFields (tunWordReg k) x (w k)) s
    s.guarded
      [(St.VALUE, resv || (List.range 4).any (fun k => (tunWordReg k).reservedSet (w k)) || t.entryBadValue x),
       (St.RANGE, t.entryBadRange x), (St.CONFLICT, t.entryConflict x || t.endpointTaken x),
       (St.NOSPACE, t.tunValid x && (List.range 4).any (fun p => decide (2048 < t.stageSum p)))]
      (fun _ => (t.noteStage, St.OK))

/-- TUNNELS (R95): tunnel records, then point maps at indices 0 upwards. -/
def State.loadTunnels (s : State) (b : List Byte) : Loaded :=
  let m := byteAt b 1
  let n := leAt b 2 2
  let h := s.header
    [(St.VALUE, versionBad b [(4, 12)]), (St.RANGE, decide (64 < m) || n == 0 || decide (4096 < n) || tooSmall b (16 + 20 * n + 12 * m))]
    (fun s => (s, St.OK))
  let h := records h 0 n (fun k s => s.tunnelRecord b (16 + 20 * k))
  records h n m (fun k s =>
    let a := 16 + 20 * n + 12 * k
    s.putRegs [(Reg.TUN_PMAP1, k, wordAt b a 1), (Reg.TUN_PMAP2, k, wordAt b a 2), (Reg.TUN_PMAP0, k, wordAt b a)])

/-- Slots 0 to 4,095 of a table, 2 bytes each from `at_` on (R61). -/
def State.storeTable (s : State) (p dir plan : Nat) (b : List Byte) (at_ : Nat) : State :=
  { s with planStore := (List.range 4096).foldl (fun m n => NMap.set m 0 (planKey p dir plan n) (leAt b (at_ + 2 * n) 2)) s.planStore }

/-- A plan record (R61): `seen` holds the ports and plans already loaded. A table that fails its validation stays not VALID (R63). -/
def State.planRecord (s : State) (b : List Byte) (at_ : Nat) (seen : List (Nat × Nat)) : State × Nat :=
  let p := byteAt b at_
  let q := byteAt b (at_ + 1)
  let v := byteAt b (at_ + 2)
  let k := p * 16 + q
  s.guarded
    [(St.VALUE, !zeros b (at_ + 3) 5 || !zeros b (at_ + 0x18) 8), (St.RANGE, decide (3 < p) || decide (15 < q) || decide (2 < v)),
     (St.CONFLICT, seen.contains (p, q))]
    (fun s =>
      let s := (s.storeTable p 0 q b (at_ + 0x20)).storeTable p 1 q b (at_ + 0x2020)
      let s := (s.wr PLN_PDESC.VARIANT v k).wr PLN_DTXLO.DIG (wordAt b (at_ + 8)) k
      let s := (s.wr PLN_DTXHI.DIG (wordAt b (at_ + 12)) k).wr PLN_DRXLO.DIG (wordAt b (at_ + 16)) k
      (((s.wr PLN_DRXHI.DIG (wordAt b (at_ + 20)) k).validatePlan p q).1, St.OK))

/-- An alignment offset of the PLANS header: 0 at a node's upstream port. -/
def State.alignPut (s : State) (p v : Nat) : State × Nat :=
  if s.isUpPort p then (s, if v = 0 then St.OK else St.CONFLICT) else s.putReg Reg.PLN_ALIGN p v

/-- PLANS (R61). -/
def State.loadPlans (s : State) (b : List Byte) : Loaded :=
  let n := byteAt b 1
  let place := fun k => 0x110 + 0x4020 * k
  let h := s.header
    [(St.VALUE, versionBad b [(2, 2), (12, 4)]), (St.RANGE, n == 0 || decide (64 < n) || tooSmall b (place n))]
    (fun s => s.steps ((List.range 4).map (fun p => fun s => s.alignPut p (leAt b (4 + 2 * p) 2)) ++
      (List.range 64).map (fun k => fun s => s.putReg Reg.PLN_GMAP k (wordAt b 0x10 k))))
  records h 0 n (fun k s => s.planRecord b (place k) ((List.range k).map (fun j => (byteAt b (place j), byteAt b (place j + 1)))))

/-- An entry of SELECTOR (R62). -/
def State.selectorRecord (s : State) (b : List Byte) (at_ k : Nat) : State × Nat :=
  let c := byteAt b (at_ + 16)
  s.guarded [(St.VALUE, bits c 4 3 != 0 || !zeros b (at_ + 17) 7)] (fun s =>
    let s := (s.wr PLN_SVALLO.BITS (wordAt b at_) k).wr PLN_SVALHI.BITS (wordAt b at_ 1) k
    let s := (s.wr PLN_SCARELO.BITS (wordAt b at_ 2) k).wr PLN_SCAREHI.BITS (wordAt b at_ 3) k
    ((s.wr PLN_SCTRL.GROUP (c % 16) k).wr PLN_SCTRL.VALID (c / 128) k, St.OK))

/-- SELECTOR (R62): only a root's image holds one; loading it starts the selector. -/
def State.loadSelector (s : State) (b : List Byte) : Loaded :=
  let n := leAt b 2 2
  let g := byteAt b 1
  let h := s.header
    [(St.VALUE, versionBad b [(7, 1)]), (St.RANGE, decide (15 < g) || n == 0 || decide (256 < n) || tooSmall b (0x108 + 24 * n)),
     (St.CONFLICT, !s.isRoot)]
    (fun s => s.putRegs ([(Reg.PLN_SETTLE, 0, leAt b 4 2), (Reg.PLN_CTRL, 0, 1 + 256 * byteAt b 6)] ++
      (List.range 64).map (fun k => (Reg.PLN_PSRC, k, wordAt b 8 k))))
  records (finish h (fun s => s.wr PLN_STATUS.GROUP g)) 0 n (fun k s => s.selectorRecord b (0x108 + 24 * k) k)

/-- The gateway's registers in the ROUTES header. Its queue is given by TMG, so R223 is checked there (log entry 99). -/
def State.gatewayHeader (s : State) (b : List Byte) : State × Nat :=
  s.steps
    [fun s => s.putReg Reg.TUN_GWETYPE 0 (leAt b 6 2), fun s => s.putPlain Reg.TUN_GWCTRL 0 (wordAt b 12),
     fun s => s.putReg Reg.TUN_GWDMAC_LO 0 (wordAt b 0x10), fun s => s.putReg Reg.TUN_GWDMAC_HI 0 (leAt b 0x14 2),
     fun s => s.putReg Reg.TUN_GWSMAC_LO 0 (wordAt b 0x18), fun s => s.putReg Reg.TUN_GWSMAC_HI 0 (leAt b 0x1C 2),
     fun s => s.putReg Reg.TUN_CTRL 0 (byteAt b 1 % 4)]

/-- A route record (R96): inserted as by INSERT, whose buffer and result stay as they are. -/
def State.routeRecord (s : State) (b : List Byte) (at_ : Nat) : State × Nat :=
  let t := (List.range 4).foldl (fun t w => t.wr TUN_RBUF.WORD (wordAt b at_ w) w) s
  let st := t.insertStatus false
  if st ≠ St.OK then (s, st)
  else
    let u := t.routePut ((t.insertChain (t.rd TUN_RBUF.WORD 0)).getD [])
    ({ s with routes := u.routes }.wr TUN_RSTAT.COUNT (u.rd TUN_RSTAT.COUNT), St.OK)

/-- The words of a classifier entry (R81). -/
def clsReg (w : Nat) : RegDesc :=
  [Reg.TUN_CLS0, Reg.TUN_CLS1, Reg.TUN_CLS2, Reg.TUN_CLS3, Reg.TUN_CLS4, Reg.TUN_CLS5, Reg.TUN_CLS6].getD w Reg.TUN_CLS7

/-- ROUTES (R96): at a node the gateway's words are left alone (log entry 99). -/
def State.loadRoutes (s : State) (b : List Byte) : Loaded :=
  let n := leAt b 2 2
  let m := leAt b 4 2
  let gw := bitAt (byteAt b 1) 0
  let h := s.header
    [(St.VALUE, versionBad b [(0x16, 2), (0x1E, 2)] || decide (4 ≤ byteAt b 1)),
     (St.RANGE, decide (32768 < n) || decide (512 < m) || tooSmall b (0x20 + 16 * n + 32 * m)), (St.CONFLICT, gw && !s.isRoot)]
    (fun s => s.steps ((if s.isRoot then [fun s => s.gatewayHeader b] else []) ++ [fun s => s.putReg Reg.TUN_RSEED 0 (wordAt b 8)]))
  let h := records h 0 n (fun k s => s.routeRecord b (0x20 + 16 * k))
  records h n m (fun k s => s.putRegs ((List.range 8).map (fun w => (clsReg w, k, wordAt b (0x20 + 16 * n + 32 * k) w))))

end Sys2Proof.Machine
end

