-- ==== Sys2Proof/Machine/LoadEdge.lean ====
section
/-! DEFINITION. Loading the sections of an image that configure queues, switch, Ethernet, field side, PCIe, display, USB, Type-C, power path and
Nimbus (R202, R224, R251, R272, R293, R308, R331, R348, R373, R374, R417, R441). -/
namespace Sys2Proof.Machine

/-- `TMG_GWQ` in the TMG header (R223): a value it already holds is no write (log entry 99). -/
def State.gwqPut (s : State) (v : Nat) : State × Nat :=
  if v = s.readReg Reg.TMG_GWQ 0 then (s, St.OK) else s.putReg Reg.TMG_GWQ 0 v

/-- Words of a record stored in their fields, with the checks that every register write meets. -/
def State.storeWords (s : State) (l : RegWords) : State := l.foldl (fun s w => s.writeFields w.1 w.2.1 w.2.2) s
def State.wordChecks (s : State) (l : RegWords) : List (Nat × Bool) := l.flatMap (fun w => s.writeChecks w.1 w.2.1 w.2.2)

/-- A node record (R224). Rates and bursts are judged as the record leaves them (log entry 99). -/
def State.nodeRecord (s : State) (b : List Byte) (at_ : Nat) : State × Nat :=
  let j := leAt b at_ 2
  let w := fun k => wordAt b (at_ + 4) k
  let resv := !zeros b (at_ + 2) 2 || !zeros b (at_ + 28) 4
  if 4258 ≤ j then (s, if resv then St.VALUE else St.RANGE)
  else
    let rates : RegWords := (List.range 4).map (fun k => (shaperReg (k + 1), j, w (k + 1)))
    let t := s.storeWords rates
    s.guarded
      ([(St.VALUE, resv || Reg.TMG_NCFG.reservedSet (w 0) || (decide (4096 ≤ j) && w 5 != 0))] ++ s.ncfgChecks j (w 0) ++
        s.wordChecks (rates ++ [(Reg.TMG_QMETER, j, w 5)]) ++ [3, 4].flatMap (fun k => t.shaperChecks j k))
      (fun _ => (((t.ncfgStore j (w 0)).writeFields Reg.TMG_QMETER j (w 5)).wr TMG_NSTAT.PEND 1 j, St.OK))

/-- A meter record (R224). -/
def State.meterRecord (s : State) (b : List Byte) (at_ : Nat) : State × Nat :=
  let m := leAt b at_ 2
  let resv := !zeros b (at_ + 2) 2 || !zeros b (at_ + 28) 4
  if 2048 ≤ m then (s, if resv then St.VALUE else St.RANGE)
  else
    let l : RegWords := (List.range 6).map (fun k => (meterReg k, m, wordAt b (at_ + 4) k))
    let t := s.storeWords l
    s.guarded ([(St.VALUE, resv)] ++ s.wordChecks l ++ t.meterChecks m) (fun _ => (t, St.OK))

/-- TMG (R224): ports, nodes, meters; R216 is judged once, after the last record. -/
def State.loadTmg (s : State) (b : List Byte) : Loaded :=
  let n := leAt b 2 2
  let m := leAt b 4 2
  let h := s.header
    [(St.VALUE, versionBad b [(1, 1), (6, 2), (12, 4)]),
     (St.RANGE, decide (4258 < n) || decide (2048 < m) || tooSmall b (0x130 + 32 * n + 32 * m)), (St.STATE, !s.isRoot && !zeros b 8 4)]
    (fun s => s.gwqPut (wordAt b 8))
  let h := records h 0 18 (fun k s => s.guarded [(St.VALUE, !zeros b (0x18 + 16 * k) 8)]
    (fun s => s.putRegs [(Reg.TMG_POVH, k, wordAt b (0x10 + 16 * k)), (Reg.TMG_MSEL, k, wordAt b (0x14 + 16 * k))]))
  let h := records h 18 n (fun k s => s.nodeRecord b (0x130 + 32 * k))
  let h := records h (18 + n) m (fun k s => s.meterRecord b (0x130 + 32 * n + 32 * k))
  (h.1.checkParents ((List.range 162).map (fun k => 4096 + k)), h.2)

/-- One word with the checks of its field types and others, but not that of R188, which comes once all profiles are in. -/
def State.putPool (s : State) (d : RegDesc) (i data : Nat) (checks : List (Nat × Bool)) : State × Nat :=
  s.guarded (s.writeChecks d i data ++ checks) (fun s => (s.writeFields d i data, St.OK))

/-- The profiles and the queues' profiles as another hub state has them. -/
def State.profilesOf (s t : State) : State :=
  let s := (List.range 16).foldl (fun s i => s.wr SWB_PROF.MIN (t.rd SWB_PROF.MIN i) i) s
  (List.range 4096).foldl (fun s q => if s.rd SWB_QCFG.PROFILE q = t.rd SWB_QCFG.PROFILE q then s
    else s.setProfile q (t.rd SWB_QCFG.PROFILE q)) s

/-- R188 once all profiles and queue profiles have been loaded: the last of them is refused, and the reservations stay as they were (log
entry 99). -/
def poolCheck (l : Loaded) (before : State) (n : Nat) : Loaded :=
  if l.1.poolBad then
    (match l.2 with
     | some f => ((l.1.profilesOf before).recomputePool, some f)
     | none => ((l.1.profilesOf before).recomputePool, some (n, St.NOSPACE)))
  else (l.1.recomputePool, l.2)

/-- A static entry of SWITCH (R202), inserted as by INSERT, whose buffer stays as it is. -/
def State.staticRecord (s : State) (b : List Byte) (at_ : Nat) : State × Nat :=
  let t := s.setFbuf ((List.range 4).map (fun w => wordAt b at_ w))
  s.guarded ((St.VALUE, !bitAt (wordAt b at_ 1) 28) :: t.fdbInsertChecks) (fun s =>
    (t.fdbPlace.setFbuf ((List.range 4).map (fun w => s.rd SWB_FBUF.WORD w)), St.OK))

/-- SWITCH (R202). -/
def State.loadSwitch (s : State) (b : List Byte) : Loaded :=
  let n := leAt b 2 2
  let h := s.header
    [(St.VALUE, versionBad b [(1, 1), (12, 4)]), (St.RANGE, decide (16384 < n) || tooSmall b (0x1190 + 16 * n))]
    (fun s => s.putRegs [(Reg.SWB_FDBCFG, 0, wordAt b 4), (Reg.SWB_ECCCFG, 0, wordAt b 8)])
  let h := records h 0 16 (fun k s =>
    let v := wordAt b 0x10 k
    s.putPool Reg.SWB_PROF k v [(St.RANGE, badExp (SWB_PROF.KG.of v) || badExp (SWB_PROF.KY.of v))])
  let h := records h 16 18 (fun k s =>
    let a := 0x50 + 16 * k
    s.guarded [(St.VALUE, !zeros b (a + 8) 8)] (fun s => s.putRegs [(Reg.SWB_PCFG, k, wordAt b a), (Reg.SWB_FLOOD, k, wordAt b a 1)]))
  let h := records h 34 8 (fun k s => s.putReg Reg.SWB_JVCMAP k (wordAt b 0x170 k))
  let h := records h 42 4096 (fun q s =>
    let v := byteAt b (0x190 + q)
    s.guarded (s.writeChecks Reg.SWB_QCFG q v) (fun s => (s.setProfile q (SWB_QCFG.PROFILE.of v), St.OK)))
  records (poolCheck h s 4137) 4138 n (fun k s => s.staticRecord b (0x1190 + 16 * k))

/-- ETH (R272): port records 0 to 7, then the words of the port maps. -/
def State.loadEth (s : State) (b : List Byte) : Loaded :=
  let h := s.header [(St.VALUE, versionBad b [(1, 3), (12, 4)]), (St.RANGE, tooSmall b 0x2090)]
    (fun s => s.putRegs [(Reg.TSU_ASYM, 0, wordAt b 4), (Reg.TSU_STEPTHR, 0, wordAt b 8)])
  let h := records h 0 8 (fun k s =>
    let a := 0x10 + 16 * k
    s.guarded [(St.VALUE, !zeros b (a + 12) 4)] (fun s =>
      s.putRegs [(Reg.ETH_CTRL, k, wordAt b a), (Reg.ETH_VLAN, k, wordAt b a 1), (Reg.ETH_TSLAT, k, wordAt b a 2)]))
  records h 8 2048 (fun i s =>
    let k := i / 256
    let w := i % 256
    s.putReg (if w < 128 then Reg.ETH_VMEMB else Reg.ETH_VUNTAG) (k * 128 + w % 128) (wordAt b 0x90 i))

/-- A record of FIELD or TYPEC refused with STATE because its block is running is skipped (R417). -/
def held (type n : Nat) (f : State → State × Nat) (s : State) : State × Nat :=
  let r := f s
  if r.2 = St.STATE then (s.raise 0x01A (type + 256 * n), St.OK) else r

/-- FIELD (R251): segments, inputs, outputs, admission entries. From the load on the outputs drive their safe states (R247). -/
def State.loadField (s : State) (b : List Byte) : Loaded :=
  let n := leAt b 2 2
  let h := s.header
    [(St.VALUE, versionBad b [(1, 1)]), (St.RANGE, decide (256 < n) || tooSmall b (0x170 + 32 * n))]
    (fun s => s.putRegs [(Reg.FLD_DIBASE, 0, wordAt b 4), (Reg.FLD_OWD, 0, wordAt b 8), (Reg.FLD_OCTRL, 0, wordAt b 12 / 2 * 2)])
  let h := records h 0 4 (fun k => held 0x31 k (fun s =>
    let a := 0x10 + 16 * k
    s.guarded [(St.VALUE, !zeros b (a + 8) 8)] (fun s => s.putRegs [(Reg.FLD_SPLCA, k, wordAt b a), (Reg.FLD_SCTRL, k, wordAt b a 1)])))
  let h := records h 4 16 (fun k => held 0x31 (4 + k) (fun s =>
    let a := 0x50 + 16 * k
    s.guarded [(St.VALUE, !zeros b (a + 12) 4)] (fun s =>
      s.putRegs [(Reg.FLD_DICFG, k, wordAt b a), (Reg.FLD_DISTUCK, k, wordAt b a 1), (Reg.FLD_DICHAT, k, wordAt b a 2)])))
  let h := records h 20 8 (fun k => held 0x31 (20 + k) (fun s => s.putReg Reg.FLD_OCFG k (wordAt b 0x150 k)))
  let h := records h 28 n (fun k s =>
    let a := 0x170 + 32 * k
    s.guarded [(St.VALUE, !zeros b (a + 20) 12)] (fun s =>
      s.putRegs [(Reg.FLD_ADM0, k, wordAt b a), (Reg.FLD_ADM1, k, wordAt b a 1), (Reg.FLD_ADM2, k, wordAt b a 2),
        (Reg.FLD_ADM3, k, wordAt b a 3), (Reg.FLD_ADM4, k, wordAt b a 4)]))
  finish h (fun s => (s.modFld (fun f => { f with loaded := true })).refreshOutputs)

/-- PCIE (R293). `PE_nPERST` stays asserted until `PERST_RELEASE`. -/
def State.loadPcie (s : State) (b : List Byte) : Loaded :=
  let win := fun w => 0x20 + 16 * w
  let h := s.header
    [(St.VALUE, versionBad b [(1, 3), (12, 4), (0x19, 3), (0x1C, 4)]), (St.RANGE, tooSmall b 0x60),
     (St.CONFLICT, s.isRoot && ((List.range 4).any (fun w => bitAt (wordAt b (win w)) 0) || PCB_RACFG.RA_SIZE.of (wordAt b 8) != 0))]
    (fun s => s.putRegs ([(Reg.PCB_CTRL, 0, wordAt b 4), (Reg.PCB_RACFG, 0, wordAt b 8)] ++ (List.range 4).flatMap (fun w =>
      [(Reg.PCB_RAWIN_LLO, w, wordAt b (win w) 2), (Reg.PCB_RAWIN_LHI, w, wordAt b (win w) 3),
       (Reg.PCB_RAWIN_BHI, w, wordAt b (win w) 1), (Reg.PCB_RAWIN_BLO, w, wordAt b (win w))])))
  finish h (fun s =>
    let s := s.modPcb (fun p => { p with ids := (b.drop 0x10).take 12, loaded := true })
    if s.isRoot then s else s.setPerst true)

/-- DP (R308). -/
def State.loadDp (s : State) (b : List Byte) : Loaded :=
  let h := s.header [(St.VALUE, versionBad b [(1, 15)]), (St.RANGE, tooSmall b 0x30)] (fun s => (s, St.OK))
  records h 0 2 (fun k s => s.guarded [(St.VALUE, !zeros b (0x14 + 16 * k) 12)] (fun s => s.putReg Reg.DPT_CTRL k (wordAt b (0x10 + 16 * k))))

/-- USB (R331, R311): a root has no USB; one that switches it on is rejected. -/
def State.loadUsb (s : State) (b : List Byte) : Loaded :=
  s.header
    [(St.VALUE, versionBad b [(1, 3), (8, 8)]), (St.RANGE, tooSmall b 16), (St.CONFLICT, s.isRoot && bitAt (wordAt b 4) 0)]
    (fun s => s.putBy Reg.USB_CTRL 0 (wordAt b 4) (fun s => s.coreWrite Reg.USB_CTRL.base (wordAt b 4)))

/-- A port record of TYPEC (R348): the source capabilities are judged together. -/
def State.typecRecord (s : State) (b : List Byte) (at_ n : Nat) : State × Nat :=
  let caps : RegWords := (List.range 4).map (fun i => (Reg.TCP_SRCCAP, n * 7 + i, wordAt b (at_ + 4) i))
  let t := s.storeWords caps
  s.guarded
    ([(St.VALUE, !zeros b (at_ + 20) 12), (St.STATE, s.tcAttached n), (St.VALUE, !t.srccapOk n),
      (St.RANGE, caps.any (fun w => decide (300 < pdoI w.2.2)))] ++ s.wordChecks caps)
    (fun _ => t.putReg Reg.TCP_CTRL n (wordAt b at_))

/-- TYPEC (R348). -/
def State.loadTypec (s : State) (b : List Byte) : Loaded :=
  let h := s.header [(St.VALUE, versionBad b [(1, 3), (8, 8)]), (St.RANGE, tooSmall b 0x50)]
    (fun s => s.putReg Reg.TCP_FALLBACK 0 (wordAt b 4))
  records h 0 2 (fun k => held 0x35 k (fun s => s.typecRecord b (0x10 + 32 * k) k))

/-- A configuration of a running stage that differs from the section's is kept, with an event (R374). -/
def State.pwpHeld (s : State) (words : RegWords) (channel : Nat) : State :=
  if words.all (fun w => s.readReg w.1 w.2.1 == w.2.2) then s else s.raise 0x3C6 channel

/-- The input stage's words of POWERPATH: both together, since R358 joins them. -/
def State.inputPut (s : State) (b : List Byte) : State × Nat :=
  let l : RegWords := [(Reg.PWP_INCFG, 0, wordAt b 4), (Reg.PWP_INSNS, 0, wordAt b 8)]
  if s.pw.ramping ∨ s.on PWP_STATUS.IN_GOOD then (s.pwpHeld l 0, St.OK)
  else
    let t := s.storeWords l
    s.guarded (s.wordChecks l ++ t.inSenseChecks (t.rd PWP_INCFG.ILIM_IN) (t.rd PWP_INSNS.RSNS)) (fun _ => (t, St.OK))

/-- A channel record of POWERPATH (R373, R374): a latched channel takes all but `EN` and stays latched. -/
def State.channelRecord (s : State) (b : List Byte) (at_ c : Nat) : State × Nat :=
  let st := s.rd PWP_EFSTAT.STATE c
  let ctl := wordAt b at_
  let sense : RegWords := [(Reg.PWP_EFCFG, c, wordAt b at_ 1), (Reg.PWP_EFSNS, c, wordAt b at_ 2)]
  if st ≠ 0 ∧ st ≠ 6 then (s.pwpHeld ((Reg.PWP_EFCTL, c, ctl) :: sense) (c + 1), St.OK)
  else
    let ctl := if st = 6 then ctl / 2 * 2 + s.rd PWP_EFCTL.EN c else ctl
    let t := s.storeWords sense
    let port := PWP_EFCTL.PORT.of ctl
    s.guarded
      (s.wordChecks ((Reg.PWP_EFCTL, c, ctl) :: sense) ++ t.efSenseChecks c (t.rd PWP_EFCFG.ILIM c) (t.rd PWP_EFSNS.RSNS c) ++
        [(St.VALUE, !zeros b (at_ + 12) 4 || (decide (3 < port) && decide (port < 7))), (St.CONFLICT, s.efPortBad c port)])
      (fun _ =>
        let u := t.writeFields Reg.PWP_EFCTL c ctl
        (if st = 6 then u else u.efctlAfter c, St.OK))

/-- POWERPATH (R373, R374). Without the die-to-die link its registers answer TIMEOUT (R352). -/
def State.loadPowerpath (s : State) (b : List Byte) : Loaded :=
  let bad := firstStatus [(St.VALUE, versionBad b [(1, 3)]), (St.RANGE, tooSmall b 0x40)]
  if bad = St.OK ∧ s.on FLD_STATUS.D2D_UP = false then (s, some (0xFFFF, St.TIMEOUT))
  else
    let h := s.header [(bad, true)] (fun s => s.steps [fun s => s.inputPut b, fun s => s.putReg Reg.PWP_WAKE 0 (wordAt b 12)])
    records h 0 3 (fun k s => s.channelRecord b (0x10 + 16 * k) k)

/-- A core record of NIMBUS (R441): code offset, code length, entry, `BUILTIN`. -/
def coreField (b : List Byte) (n k : Nat) : Nat := if k = 3 then leAt b (0x1C + 16 * n) 2 else wordAt b (0x10 + 16 * n) k

/-- A plug-in record of NIMBUS: 0 service, 1 core, 2 budget, 3 `OVR_LIM`, 4 entry. -/
def pluginField (b : List Byte) (i k : Nat) : Nat :=
  let a := 0x50 + 16 * i
  match k with
  | 0 => byteAt b a
  | 1 => byteAt b (a + 1)
  | 2 => leAt b (a + 2) 2
  | 3 => byteAt b (a + 4)
  | _ => leAt b (a + 8) 4

/-- Cycles per period of core `n`: runtime, built-in services, budgets (R438). -/
def coreUsed (b : List Byte) (n : Nat) : Nat :=
  256 + coreField b n 3 + (((List.range (byteAt b 1)).filter (fun i => pluginField b i 1 == n)).map (fun i => pluginField b i 2)).sum

/-- A macro of core `n`'s scratchpad is beyond repair, and the core stays halted (R497). -/
def State.coreFailed (s : State) (n : Nat) : Bool := (List.range 8).any (fun k => s.on MEM_MACRO.FAILED (560 + 8 * n + k))

/-- The code of core `n`, word by word, in its scratchpad. -/
def State.loadCode (s : State) (b : List Byte) (n : Nat) : State :=
  let code := (b.drop (coreField b n 0)).take (coreField b n 1)
  let m := (List.range ((code.length + 3) / 4)).foldl (fun m k => NMap.set m 0 (n * 131072 + k) (wordAt code 0 k)) s.nim.scratch
  { s with nim := { s.nim with scratch := m } }

/-- Core `n` after the load: halted without code. -/
def State.loadCore (s : State) (b : List Byte) (n : Nat) : State :=
  let runs := coreField b n 1 != 0 && !s.coreFailed n
  let s := ((s.loadCode b n).wr NIM_CSTAT.BUILTIN (coreField b n 3) n).wr NIM_CSTAT.USED (if runs then coreUsed b n else 0) n
  let s := s.setBit NIM_CSTAT.RUNNING runs n
  { s with nim := { s.nim with coreEntry := NMap.set s.nim.coreEntry 0 n (if runs then coreField b n 2 + 1 else 0) } }

/-- Plug-in `i` after the load. -/
def State.loadPlugin (s : State) (b : List Byte) (i : Nat) : State :=
  let s := (s.wr NIM_PSTAT.SERVICE (pluginField b i 0) i).wr NIM_PSTAT.CORE (pluginField b i 1) i
  let s := (s.wr NIM_PSTAT.BUDGET (pluginField b i 2) i).wr NIM_POVR.OVR_LIM (pluginField b i 3) i
  { s with nim := { s.nim with entry := NMap.set s.nim.entry 0 i (pluginField b i 4) } }

/-- NIMBUS (R438, R441). -/
def State.loadNimbus (s : State) (b : List Byte) : Loaded :=
  let n := byteAt b 1
  let plug := List.range n
  let cores := List.range 4
  let halted := fun c => coreField b c 1 == 0 || s.coreFailed c
  let h := s.header
    [(St.VALUE, versionBad b [(4, 12)] || cores.any (fun c => !zeros b (0x1E + 16 * c) 2) ||
        plug.any (fun i => !zeros b (0x55 + 16 * i) 3 || !zeros b (0x5C + 16 * i) 4)),
     (St.RANGE, decide (16 < n) || tooSmall b (0x50 + 16 * n) || cores.any (fun c => coreField b c 1 != 0 &&
          (decide (b.length < coreField b c 0 + coreField b c 1))) ||
        plug.any (fun i => decide (pluginField b i 0 < 16) || decide (31 < pluginField b i 0) || pluginField b i 1 == 0 ||
          decide (3 < pluginField b i 1) || pluginField b i 3 == 0)),
     (St.CONFLICT, coreField b 0 1 == 0 || coreField b 1 1 == 0 || cores.any (fun c => decide (524288 < coreField b c 1)) ||
        plug.any (fun i => halted (pluginField b i 1)) ||
        plug.any (fun i => plug.any (fun k => k != i && pluginField b k 0 == pluginField b i 0))),
     (St.NOSPACE, cores.any (fun c => decide (2048 < coreUsed b c)))]
    (fun s => s.putReg Reg.NIM_WDOG 0 (leAt b 2 2))
  finish h (fun s =>
    let s := plug.foldl (fun s i => s.loadPlugin b i) (cores.foldl (fun s c => s.loadCore b c) s)
    { s with nim := { s.nim with loaded := true } })

end Sys2Proof.Machine
end

