-- ==== Sys2Proof/Machine/LoadKeys.lean ====
section
/-! DEFINITION. Loading the sections that bring keys (R405 orders 1 to 3): PUF helper (R452, R477), key journal (R473, R475), KEYBLOBS
(R476), and the Dawn of a start in FIELD (R460). -/
namespace Sys2Proof.Machine

/-- PUF helper (R452, R477): whether this start's PUF capture gives a Dusk that matches the check value is open (log entry 95). Ignored in
BLANK. -/
def State.loadPuf (s : State) (b : List Byte) : Loaded :=
  if s.lc = 0 then (s, none)
  else
    let h := s.header
      [(St.VALUE, versionBad b [(1, 3), (12, 4)]), (St.RANGE, tooSmall b 1072), (St.CONFLICT, leAt b 4 8 != Config.uid)]
      (fun s => (s.drew.wr SEC_STATUS.DUSK_OK 1, St.OK))
    if h.2 = none ∧ Config.verdict "dusk" (s.fresh :: b.map (·.toNat)) = false then (s.drew.raise 0x3E2, some (0, St.INTEGRITY)) else h

/-- A start in FIELD without a Dawn (R460). -/
def State.dawnCheck (s : State) : State :=
  if s.lc = 2 ∧ s.on SEC_STATUS.DAWN_VALID = false then (s.drawDawn.wr SEC_STATUS.TAMPERED 1).raise 0x3E1 else s

/-- The journal record in sector `i` is valid (R473): its CMAC passes under the present root, and it is no older copy. -/
def State.jValid (s : State) (i : Nat) : Option JRec :=
  match NMap.get s.sec.journal JSector.erased i with
  | .holds r => if r.root = s.rootId ∧ s.jgen ≤ r.gen then some r else none
  | _ => none

/-- Sector `i` is neither valid nor erased. -/
def State.jFails (s : State) (i : Nat) : Bool :=
  (s.jValid i).isNone && NMap.get s.sec.journal JSector.erased i != JSector.erased

/-- The journal is read (R473): the valid record of higher generation, and only entries that `JMASK` allows. -/
def State.readJournal (s : State) : State :=
  let s := [0, 1].foldl (fun s i => if s.jFails i then s.raise 0x3E5 i else s) s
  let a := s.jValid 0
  let b := s.jValid 1
  let cur := match a, b with
    | some x, some y => if x.gen < y.gen then 1 else 0
    | none, some _ => 1
    | _, _ => 0
  let s := ((s.setBit SEC_JSTAT.J0_VALID a.isSome).setBit SEC_JSTAT.J1_VALID b.isSome).wr SEC_JSTAT.CUR cur
  let keys := (((if cur = 0 then a else b).map (fun (r : JRec) => r.keys)).getD []).filter (fun k =>
    bitAt (s.rd SEC_JMASK.WORD (k.slot / 32)) (k.slot % 32))
  keys.foldl (fun s k => s.slotLoad 2 k) s

/-- Key journal (R475): only on flash (R402). -/
def State.loadJournal (s : State) (b : List Byte) : Loaded :=
  let h := s.header
    [(St.VALUE, versionBad b [(1, 7)] || bitAt (byteAt b 8) 0), (St.RANGE, tooSmall b 16),
     (St.CONFLICT, decide (2 ≤ s.rd BOOT_STATUS.SRC))]
    (fun s => ((s.wr SEC_JMASK.WORD (wordAt b 8) 0).wr SEC_JMASK.WORD (wordAt b 8 1) 1, St.OK))
  finish h (fun s => s.readJournal)

/-- A record of KEYBLOBS (R476). -/
def State.blobRecord (s : State) (b : List Byte) (at_ : Nat) (seen : List Nat) : State × Nat :=
  let key := s.wrapKey ((b.drop 0x10).take 97)
  let r := (b.drop at_).take 72
  let k := keyRecOf key r
  let st := s.keyStatus key r true (seen.contains k.slot)
  if st = St.STATE then (s.raise 0x3E9 k.slot, St.OK)
  else if st ≠ St.OK then (s, st)
  else if s.rd SEC_SLOT.STATE k.slot = 1 ∧ s.rd SEC_SLOT.SOURCE k.slot = 2 then
    if k.overlay then
      let again := s.on SEC_SLOT.PERSIST k.slot
      (((s.slotLoad 1 k).modSec (fun c => { c with rewrite := c.rewrite || again })), St.OK)
    else (s, St.OK)
  else (s.slotLoad 1 k, St.OK)

/-- KEYBLOBS (R476). -/
def State.loadBlobs (s : State) (b : List Byte) : Loaded :=
  let n := byteAt b 1
  let h := s.header
    [(St.VALUE, versionBad b [(2, 2), (12, 4), (0x71, 15)]), (St.RANGE, n == 0 || decide (63 < n) || tooSmall b (0x80 + 72 * n)),
     (St.CONFLICT, leAt b 4 8 != Config.uid)]
    (fun s => (s, St.OK))
  records h 0 n (fun k s => s.blobRecord b (0x80 + 72 * k) ((List.range k).map (fun i => byteAt b (0x80 + 72 * i))))

/-- The key record of a slot as the journal takes it. -/
def State.slotRecord (s : State) (i : Nat) : KeyRec where
  slot := i
  ktype := s.rd SEC_SLOT.KTYPE i
  limit := s.rd SEC_SLOT.LIMIT i
  persist := s.on SEC_SLOT.PERSIST i
  dawnBound := s.on SEC_SLOT.DAWNBOUND i
  overlay := true
  count := s.rd SEC_SCOUNT.COUNT i
  kcv := s.rd SEC_SKCV.KCV i
  value := NMap.get s.sec.keys [] i

/-- The journal rewritten after the boot lock (R476): slots that KEYBLOBS overrode take their new keys. -/
def State.journalRewrite (s : State) : State :=
  let overlay := (List.range 64).filter (fun i => s.journalled i && s.rd SEC_SLOT.SOURCE i == 1)
  if s.sec.rewrite then (s.journalStart 0 (overlay.map (fun i => s.slotRecord i)) overlay).modSec (fun c => { c with rewrite := false }) else s

end Sys2Proof.Machine
end

