-- ==== Sys2Proof/Machine/Image.lean ====
section
/-! DEFINITION. An image: its header and tables (R403, R404), its signature (R412), and its sections applied in the order of R405. -/
namespace Sys2Proof.Machine

/-- Header fields (R403). -/
def imgGen (b : List Byte) : Nat := leAt b 8 8
def imgLength (b : List Byte) : Nat := leAt b 0x10 4
def imgZone (b : List Byte) : Nat := leAt b 0x14 4
def imgHub (b : List Byte) : Nat := byteAt b 0x18
def imgSections (b : List Byte) : Nat := byteAt b 0x19
def imgSvn (b : List Byte) : Nat := byteAt b 0x1A
def imgSigOff (b : List Byte) : Nat := leAt b 0x1C 4

/-- Entry `i` of the section table (R404). -/
def secType (b : List Byte) (i : Nat) : Nat := byteAt b (0x100 + 16 * i)
def secFlags (b : List Byte) (i : Nat) : Nat := byteAt b (0x101 + 16 * i)
def secOffset (b : List Byte) (i : Nat) : Nat := leAt b (0x104 + 16 * i) 4
def secSize (b : List Byte) (i : Nat) : Nat := leAt b (0x108 + 16 * i) 4

/-- The end of the digest table. -/
def digestEnd (b : List Byte) : Nat := 0x100 + 64 * imgSections b

/-- Where the certificates of a signature block end, and so the block (R412). -/
def certsEnd (b : List Byte) (at_ n : Nat) : Nat :=
  match n with
  | 0 => at_
  | n + 1 => certsEnd b (at_ + 2 + beAt b at_ 2) n
def sigEnd (b : List Byte) : Nat := certsEnd b (imgSigOff b + 100) (min 4 (byteAt b (imgSigOff b)))

/-- Section types in the order in which they are applied, and whether each is required (R405). -/
def sectionOrder : List (Nat × Bool) :=
  [(0x51, true), (0x52, false), (0x50, false), (0x01, true), (0x02, true), (0x60, false), (0x10, true), (0x11, true), (0x12, false),
   (0x13, false), (0x21, false), (0x20, false), (0x30, false), (0x31, false), (0x32, false), (0x33, false), (0x34, false), (0x35, false),
   (0x36, false), (0x40, true)]

/-- Two stretches of bytes overlap. -/
def overlap (a n c m : Nat) : Bool := decide (a < c + m) && decide (c < a + n)

/-- The first fault of a copy's header and section table, in the order of R404. -/
def tableStatus (b : List Byte) : Nat :=
  let n := imgSections b
  let l := List.range (min n 64)
  let known := fun t => sectionOrder.any (fun e => e.1 == t)
  if leAt b 0 4 ≠ 0x5A544931 ∨ leAt b 4 2 ≠ 1 ∨ imgGen b = 0 ∨ leAt b 6 2 ≠ 0 ∨ byteAt b 0x1B ≠ 0 ∨ !zeros b 0x30 208 ∨
      imgSigOff b % 16 ≠ 0 ∨ l.any (fun i => secOffset b i % 16 != 0 || decide (2 ≤ secFlags b i) || !zeros b (0x102 + 16 * i) 2 ||
        !zeros b (0x10C + 16 * i) 4 || (!known (secType b i) && secFlags b i == 0)) then St.VALUE
  else if 16777216 < imgLength b ∨ b.length < imgLength b ∨ n = 0 ∨ 64 < n ∨ 64 < imgSvn b ∨ imgLength b < sigEnd b ∨
      l.any (fun i => secSize b i == 0 || decide (16777216 < secSize b i) || decide (secOffset b i < digestEnd b) ||
        decide (imgLength b < secOffset b i + secSize b i)) then St.RANGE
  else if l.any (fun i => overlap (secOffset b i) (secSize b i) (imgSigOff b) (sigEnd b - imgSigOff b) ||
        l.any (fun j => j != i && (secType b i == secType b j || overlap (secOffset b i) (secSize b i) (secOffset b j) (secSize b j)))) then
    St.CONFLICT
  else St.OK

/-- Whether a copy is valid (R411, R412): its header and table, its signature under the anchor of the life-cycle state, its `SVN`. -/
def State.copyStatus (s : State) (b : List Byte) : Nat :=
  let st := tableStatus b
  let certs := byteAt b (imgSigOff b)
  let signed := b.take (digestEnd b) ++ (b.drop (imgSigOff b)).take (sigEnd b - imgSigOff b)
  if s.lc = 4 then St.LIFECYCLE
  else if st ≠ St.OK then st
  else if certs = 0 ∨ 4 < certs ∨ s.verifies s.lcAnchor signed = false ∨ imgSvn b < s.rd BOOT_SVN.FLOOR then St.AUTH
  else St.OK

/-- The bytes of the section in table place `i`, and of the section of a type. -/
def secBytes (b : List Byte) (i : Nat) : List Byte := (b.drop (secOffset b i)).take (secSize b i)
def secOf (b : List Byte) (type : Nat) : Option (List Byte) :=
  ((List.range (imgSections b)).find? (fun i => secType b i == type)).map (fun i => secBytes b i)

/-- Every section has the SHA-384 of the digest table (R403, R412). -/
def digestsOk (b : List Byte) : Bool :=
  (List.range (imgSections b)).all (fun i =>
    sha384 (secBytes b i) == (b.drop (0x100 + 16 * imgSections b + 48 * i)).take 48)

/-- A section applied. -/
def State.loadSection (s : State) (img : List Byte) (type : Nat) (b : List Byte) : Loaded :=
  match type with
  | 0x51 => s.loadPuf b
  | 0x52 => s.loadJournal b
  | 0x50 => s.loadBlobs b
  | 0x01 => s.loadGlobal b (imgZone img) (imgHub img)
  | 0x02 => s.loadPinmux b
  | 0x60 => s.loadEvents b
  | 0x10 => s.loadTunnels b
  | 0x11 => s.loadPlans b
  | 0x12 => s.loadSelector b
  | 0x13 => s.loadRoutes b
  | 0x21 => s.loadTmg b
  | 0x20 => s.loadSwitch b
  | 0x30 => s.loadEth b
  | 0x31 => s.loadField b
  | 0x32 => s.loadPcie b
  | 0x33 => s.loadDp b
  | 0x34 => s.loadUsb b
  | 0x35 => s.loadTypec b
  | 0x36 => s.loadPowerpath b
  | _ => s.loadNimbus b

/-- A failure of an optional section (R416). -/
def State.sectFail (s : State) (type status n : Nat) : State :=
  (((s.wr BOOT_SECTFAIL.TYPE type).wr BOOT_SECTFAIL.STATUS status).wr BOOT_SECTFAIL.RECORD n).raise 0x013 (type + 256 * status + 65536 * n)

/-- The hub after what has been applied of a copy, and the status and step at which the copy failed, if it did. -/
abbrev Tried := State × Option (Nat × Nat)

/-- One section of a copy in its turn (R405, R416). Once the PUF helper has been taken, the Dawn is looked at (R460). The status of an
absent required section is free (log entry 99). -/
def tryBy (img : List Byte) (r : Tried) (type : Nat) (required : Bool) : Tried :=
  let step := if 0x50 ≤ type ∧ type ≤ 0x52 then 8 else 9
  match r.2 with
  | some _ => r
  | none =>
    let s := r.1.wr BOOT_STATUS.STEP step
    let t := match secOf img type with
      | none =>
        if required ∧ (type = 0x51 ∧ s.lc = 0) = False then (s.drew, some (1 + s.freeVal % 12, step)) else (s, none)
      | some b =>
        let l := s.loadSection img type b
        match l.2 with
        | none => (l.1, none)
        | some f => if required then (l.1, some (f.2, step)) else (l.1.sectFail type f.2 f.1, none)
    if type = 0x51 ∧ t.2 = none then (t.1.dawnCheck, none) else t

/-- A copy transferred and applied: steps 7 to 9 (R414). -/
def State.applyImage (s : State) (img : List Byte) : Tried :=
  let s := s.wr BOOT_STATUS.STEP 7
  if digestsOk img then sectionOrder.foldl (fun r e => tryBy img r e.1 e.2) (s, none)
  else (s, some (St.INTEGRITY, 7))

end Sys2Proof.Machine
end

