-- ==== Sys2Proof/Machine/Boot.lean ====
section
/-! DEFINITION. The start-up sequence (R397 to R399, R408 to R418): resets, the start march and its repairs (R415, R495 to R497), the choice
of a copy (R411, R413), RECOVERY, pushed images and the boot lock. -/
namespace Sys2Proof.Machine

/-- Columns of a macro that are faulty in 3 or more rows take spare columns; other faulty cells take spare rows (R496). -/
def spareCols (l : List FaultCell) : List Nat :=
  (distinct (l.map (fun c => c.col))).filter (fun k => decide (3 ≤ (distinct ((l.filter (fun c => c.col == k)).map (fun c => c.row))).length))
def spareRows (l : List FaultCell) : List Nat :=
  distinct ((l.filter (fun c => !(spareCols l).contains c.col)).map (fun c => c.row))

/-- The repairs of macro `m` for its faulty cells, from the spares that its fuses leave (R496, R497). -/
def State.repairMacro (s : State) (m : Nat) (l : List FaultCell) : State :=
  let r := (spareRows l).length
  let c := (spareCols l).length
  if r + s.rd MEM_MACRO.HROWS m ≤ 4 ∧ c + s.rd MEM_MACRO.HCOLS m ≤ 2 then (s.wr MEM_MACRO.SROWS r m).wr MEM_MACRO.SCOLS c m
  else (s.wr MEM_MACRO.FAILED 1 m).raise 0x017 m

/-- Macros beyond repair. -/
def State.failedMacros (s : State) : List Nat := (List.range 616).filter (fun m => s.on MEM_MACRO.FAILED m)

/-- Banks with a macro beyond repair (R197, R200, R497): a spare is lost, another bank is substituted before any frame is admitted. -/
def State.marchBanks (s : State) : State :=
  let banks := distinct ((s.failedMacros.filter (fun m => decide (m < 544))).map (fun m => m / 16))
  let spares := banks.filter (fun b => decide (32 ≤ b))
  let s := (spares.foldl (fun s b => s.wr SWB_BANK.STATE 2 b) s).spareBankCount
  (banks.filter (fun b => decide (b < 32))).foldl (fun s b => (s.bankFailing b).copyDone) s

/-- The start march (R415, R495): `MARCH` 2 leaves it out in BLANK, PROVISION and RETURN. -/
def State.startMarch (s : State) (faults : List FaultCell) : State :=
  if s.chip.test = false ∧ s.rd BOOT_NEXT.MARCH = 2 ∧ (s.lc = 0 ∨ s.lc = 1 ∨ s.lc = 3) then s
  else
    let faulty := (List.range 616).filter (fun m => faults.any (fun c => c.mac == m))
    (faulty.foldl (fun s m => s.repairMacro m (faults.filter (fun c => c.mac == m))) s).marchBanks

/-- A macro beyond repair without which the hub does not run (R497). -/
def State.marchFatal (s : State) : Bool := s.failedMacros.any (fun m => decide (544 ≤ m) && (decide (m < 576) || decide (592 ≤ m)))

/-- `PUSHWAIT` is set for a new image (R408). -/
def State.pushOpen (s : State) : State := (s.wr BOOT_STATUS.PUSHWAIT 1).modChip (fun c => { c with push := [] })

/-- RECOVERY (R411, R418): outputs are high impedance, pads as at reset, and a push is accepted. -/
def State.enterRecovery (s : State) (status : Nat) : State :=
  let was := s.rd BOOT_STATUS.MODE = 2
  let s := ((s.wr BOOT_STATUS.MODE 2).wr BOOT_STATUS.STATUS status).wr BOOT_STATUS.TRIAL 0
  let s := (s.modFld (fun f => { f with loaded := false })).refreshOutputs
  let s := (s.modChip (fun c => { c with pinmux := [] })).pushOpen
  if was then s else s.raise 0x016 status

/-- A copy fails (R411): 0 A, 1 B, 2 pushed, 3 network. -/
def State.copyFail (s : State) (c step status : Nat) : State :=
  let s := if c = 0 then s.wr BOOT_COPYSTAT.A_STATUS status else if c = 1 then s.wr BOOT_COPYSTAT.B_STATUS status else s
  (s.wr BOOT_STATUS.STATUS status).raise 0x011 (c + 4 * step + 64 * status)

def State.confGen (s : State) : Nat := s.rd BOOT_CONF_LO.GEN + 2 ^ 32 * s.rd BOOT_CONF_HI.GEN
def State.trialGen (s : State) : Nat := s.rd BOOT_TRIAL_LO.GEN + 2 ^ 32 * s.rd BOOT_TRIAL_HI.GEN

/-- A chosen copy of generation `g` (R413): whether it may start. `FORCE_COPY` starts it even with its tries used up (R411, R413). -/
def State.trialStart (s : State) (g : Nat) (forced : Bool) : State × Bool :=
  if g ≤ s.confGen then (s.wr BOOT_STATUS.TRIAL 0, true)
  else
    let s := if g = s.trialGen then s
      else ((s.wr BOOT_TRIAL_LO.GEN g).wr BOOT_TRIAL_HI.GEN (g / 2 ^ 32)).wr BOOT_ZSTATE.TRIES 0
    if s.rd BOOT_ZSTATE.TRIES = 3 ∧ forced = false then (s, false)
    else
      let n := min 3 (s.rd BOOT_ZSTATE.TRIES + 1)
      (((s.wr BOOT_ZSTATE.TRIES n).wr BOOT_STATUS.TRIAL 1).raise 0x014 n, true)

/-- Registers that a failed copy leaves as they have become: Zenith, OTP, the field die, start-up itself, and what the event unit and the
fatal capture have recorded (R411). -/
def keptByFailure : List Nat :=
  zenithIds ++ otpIds ++ powerPathIds ++ fieldDieIds ++
  idsOf [Reg.EVU_STATUS, Reg.EVU_LOST, Reg.DBG_FCAP, Reg.DBG_FCTL, Reg.BOOT_STATUS, Reg.BOOT_CAUSE, Reg.BOOT_SECTFAIL, Reg.BOOT_COPYSTAT,
    Reg.BOOT_PUSHPTR] ++ [EVU_SRC.STATUS, EVU_SRC.REPEAT].map (fun f => f.id.val)

/-- Two register files joined: the fields of `ids` as in `new`, the others as in `old`. -/
def joinRegs (old new : RegFile) (ids : List Nat) : RegFile :=
  (NMap.keep new (fun k => ids.contains (k % 1024))).foldl (fun m e => NMap.set m 0 e.1 e.2)
    (NMap.keep old (fun k => !ids.contains (k % 1024)))

/-- Every fabric block that a failed copy loaded is reset (R411): `base` is the hub before the transfer. -/
def State.dropCopy (s base : State) : State :=
  { base with
    out := s.out
    fresh := s.fresh
    regs := joinRegs base.regs s.regs keptByFailure
    evq := s.evq
    evSeq := s.evSeq
    limited := s.limited
    pw := s.pw
    tc := s.tc
    fld := { base.fld with out := s.fld.out, di := s.fld.di, probes := s.fld.probes, loaded := s.fld.loaded }
    sec := { base.sec with dawn := s.sec.dawn, journal := s.sec.journal } }

/-- The copy runs (R414 steps 9 to 11). -/
def State.runCopy (s : State) (c : Nat) (img : List Byte) : State :=
  let s := ((s.wr BOOT_STATUS.STEP 11).wr BOOT_STATUS.COPY c).wr BOOT_STATUS.PUSHWAIT 0
  let s := s.modChip (fun c => { c with netRun := false })
  ((s.wr BOOT_GEN_LO.GEN (imgGen img)).wr BOOT_GEN_HI.GEN (imgGen img / 2 ^ 32)).wr BOOT_SVN.RUN_SVN (imgSvn img)

/-- The copies are tried in order; when none is left, RECOVERY (R411). `first` is the one tried first. -/
def State.tryCopies (s : State) (l : List (Nat × List Byte)) (first : Nat) (forced : Bool) : State :=
  match l with
  | [] => s.enterRecovery (s.rd BOOT_STATUS.STATUS)
  | (c, img) :: rest =>
    let t := s.trialStart (imgGen img) forced
    if t.2 = false then ((t.1.copyFail c 6 St.TIMEOUT).raise 0x015).tryCopies rest first forced
    else
      let r := t.1.applyImage img
      match r.2 with
      | some f => ((r.1.dropCopy t.1).copyFail c f.2 f.1).tryCopies rest first forced
      | none => if c = first then r.1.runCopy c img else (r.1.runCopy c img).raise 0x012

/-- The candidates among copies: each that is not valid fails at step 6; the others by generation, a tie to the first (R411). -/
def State.chooseCopies (s : State) (l : List (Nat × List Byte)) (forced : Bool) : State :=
  let s := s.wr BOOT_STATUS.STEP 6
  let s := l.foldl (fun s e => if s.copyStatus e.2 = St.OK then s else s.copyFail e.1 6 (s.copyStatus e.2)) s
  let good := l.filter (fun e => s.copyStatus e.2 == St.OK)
  let order := match good with
    | [a, b] => if imgGen a.2 < imgGen b.2 then [b, a] else [a, b]
    | _ => good
  s.tryCopies order ((order.head?.map (fun e => e.1)).getD 0) forced

/-- The copies of flash (R402, R411): the one that `FORCE_COPY` names, which is cleared at this use, or both. -/
def State.bootFlash (s : State) (copyA copyB : List Byte) : State :=
  match s.rd BOOT_NEXT.FORCE_COPY with
  | 1 => (s.wr BOOT_NEXT.FORCE_COPY 0).chooseCopies [(0, copyA)] true
  | 2 => (s.wr BOOT_NEXT.FORCE_COPY 0).chooseCopies [(1, copyB)] true
  | _ => s.chooseCopies [(0, copyA), (1, copyB)] false

/-- The boot-identity record in force (R409). -/
def State.bootIdentity (s : State) : Option (List Byte) := s.chip.bids.getLast?

/-- The boot identity stands in for GLOBAL, and its upstream port trains (R409, R410). -/
def State.takeIdentity (s : State) (b : List Byte) : State :=
  let p := byteAt b 5
  let s := s.takePlace false (byteAt b 4) (leAt b 0 4) p
  let s := s.modLk p (fun l => { l with expHub := byteAt b 6, expPort := byteAt b 7 })
  let s := ((s.wr JXK_CTRL.VCS (byteAt b 8) p).setBit JXK_CTRL.PROT (bitAt (byteAt b 9) 0) p).wr JXP_CTRL.MAXRATE (bits (byteAt b 9) 1 2) p
  let s := (s.wr JXK_CTRL.EN 1 p).modChip (fun c => { c with bootId := true })
  s.recomputePool.enablePort p

/-- The security block at the release of the fabric reset (R453, R479): slot 0 holds the identity, or the test key of the ROM. -/
def State.secStart (s : State) (idOk drbgOk : Bool) : State :=
  let s := if drbgOk then s.wr SEC_STATUS.DRBG_OK 1 else s.raise 0x3E8
  let s := s.setBit SEC_STATUS.ID_OK (s.sec.enrolled && idOk)
  if s.lc = 0 ∨ s.lc = 3 ∨ s.on SEC_STATUS.ID_OK then (s.wr SEC_SLOT.STATE 1 0).wr SEC_SLOT.KTYPE 3 0 else s

/-- The fabric die comes out of reset (R397, R398, R414 step 4). The straps are sampled at the release of nPOR, nRESET or a reset by command
or watchdog; a wake samples them here. -/
def State.fabricOut (s : State) (src : Nat) (idOk drbgOk : Bool) : State :=
  let cause := s.chip.cause
  let lost := s.chip.vbatLost && fieldDieReset cause
  let s := s.resetBy (if fieldDieReset cause then 4 else cause)
  let s := s.modChip (fun c => { c with phase := .running, cause := cause, vbatLost := false })
  let s := if cause = 4 ∨ cause = 5 then s.wr BOOT_STATUS.SRC src else s
  let s := (s.wr BOOT_CAUSE.CAUSE (2 ^ cause)).setBit BOOT_CAUSE.VBAT_LOST lost
  let s := ((s.wr CPM_WAKESRC.SRC s.chip.wakes).wr CPM_PLLSTAT.LOCK 0x1F).wr BOOT_STATUS.STEP 4
  let s := ((s.d2dSet true).secStart idOk drbgOk).recomputePool
  if lost then s.raise 0x018 else s

/-- `FABRIC_RESET_RELEASE` (R414): with the straps, the cells the march finds faulty, the bytes of both copies, and whether the
identity and the random generator pass their checks. -/
def State.fabricRelease (s : State) (src : Nat) (faults : List FaultCell) (copyA copyB : List Byte) (idOk drbgOk : Bool) : State :=
  if s.chip.phase ≠ .powering then s
  else
    let s := (s.fabricOut src idOk drbgOk).startMarch faults
    let s := s.wr BOOT_STATUS.STEP 5
    if s.chip.test then (s.wr BOOT_STATUS.MODE 3).modChip (fun c => { c with test := false })
    else if s.marchFatal then s.enterRecovery St.INTEGRITY
    else if s.lc = 4 then s.enterRecovery St.LIFECYCLE
    else
      match s.rd BOOT_STATUS.SRC with
      | 0 => s.bootFlash copyA copyB
      | 1 => s.bootFlash copyA copyB
      | 2 => s.pushOpen
      | _ =>
        match s.bootIdentity with
        | none => s.enterRecovery St.STATE
        | some b => s.takeIdentity b

/-- Words pushed without a gap from the first, as bytes (R408). -/
def pushBytes (m : NMap Nat) (i fuel : Nat) : List Byte :=
  match fuel with
  | 0 => []
  | fuel + 1 =>
    let v := NMap.get m 0 i
    if v = 0 then [] else le 4 (v - 1) ++ pushBytes m (i + 1) fuel

/-- An image brought by a push or over the network (R404, R408, R410): `c` 2 or 3. -/
def State.bringImage (s : State) (c : Nat) (img : List Byte) : State := s.chooseCopies [(c, img)] false

/-- LOAD (R408): in END it returns LIFECYCLE (R412). The answer is the status of the image. -/
def State.bootLoad (s : State) : State :=
  s.checked [(St.LIFECYCLE, s.lc == 4), (St.STATE, !s.on BOOT_STATUS.PUSHWAIT)] (fun s =>
    let img := pushBytes s.chip.push 0 s.chip.push.length
    let t := ((s.wr BOOT_STATUS.PUSHWAIT 0).wr BOOT_STATUS.STATUS 0).bringImage 2 img
    if t.on BOOT_STATUS.PUSHWAIT then t.answer (t.rd BOOT_STATUS.STATUS)
    else (if s.rd BOOT_STATUS.STATUS = 0 then t else t.wr BOOT_STATUS.STATUS (s.rd BOOT_STATUS.STATUS)).answer St.OK)

/-- A write of `BOOT_PUSHDATA` (R408). -/
def State.pushWrite (s : State) (data : Nat) : State :=
  s.checked [(St.STATE, !s.on BOOT_STATUS.PUSHWAIT), (St.RANGE, s.chip.pushFull)] (fun s =>
    let at_ := s.rd BOOT_PUSHPTR.PTR
    let s := s.modChip (fun c => { c with push := NMap.set c.push 0 (at_ / 4) (data % 2 ^ 32 + 1), pushFull := at_ == 0xFFFFFC })
    (s.wr BOOT_PUSHPTR.PTR (at_ + 4)).answer St.OK)

/-- The boot lock (R414 step 12, R416) after `ms` from the release of the reset. -/
def State.bootLock (s : State) (ms : Nat) : State :=
  let mode := s.rd BOOT_STATUS.MODE
  if s.chip.phase ≠ .running ∨ s.rd BOOT_STATUS.STEP ≠ 11 ∨ (mode ≠ 0 ∧ mode ≠ 2) then s
  else
    let s := ((s.wr BOOT_STATUS.LOCK 1).wr BOOT_STATUS.MODE 1).wr BOOT_STATUS.STEP 12
    let s := s.wr BOOT_TIME.T_LOCK (min 65535 ms)
    let s := s.eventsNormal.raise 0x010 (s.rd BOOT_STATUS.COPY + 4 * s.rd BOOT_GEN_LO.GEN + 2 ^ 34 * s.rd BOOT_CAUSE.CAUSE)
    ([0, 1, 2, 3].foldl (fun s p => s.enablePort p) s).journalRewrite

end Sys2Proof.Machine
end

