-- ==== Sys2Proof/Machine/BootCmds.lean ====
section
/-! DEFINITION. Commands of resets and start-up (spec/16): the reset pins, the release of the fabric die, `BOOT_CMD`, pushes and the
network boot. -/
namespace Sys2Proof.Machine

/-- `NPOR_LOW` (R397, R399): `vbat` says that VBAT has fallen below 2.0 V since the last check. -/
def execNporLow (vbat : Bool) (s : State) : Res := .next ((s.enterReset 0 false).vbatCheck vbat)

/-- `NRESET_LOW` (R397): nRESET reaches the fabric die while that die is powered or about to be. -/
def execNresetLow (s : State) : Res :=
  .next (match s.chip.phase with
    | .running | .powering | .entering => s.enterReset 1 false
    | .reset | .doze | .ship => s)

/-- `RESET_RELEASE` (R398, R414 steps 1 and 2): the straps are sampled and `FAB_EN` goes high. -/
def execResetRelease (src : Fin 4) (s : State) : Res :=
  .next (if s.chip.phase = .reset then
      ((s.wr BOOT_STATUS.SRC src.val).emit (.act "fab_en" [1])).modChip (fun c => { c with phase := .powering })
    else s)

def execFabricResetRelease (src : Fin 4) (faults : List FaultCell) (copyA copyB : List Byte) (idOk drbgOk : Bool) (s : State) : Res :=
  .next (s.settling (fun s => s.fabricRelease src.val faults copyA copyB idOk drbgOk))

def execBootLock (ms : Nat) (s : State) : Res := .next (s.settling (fun s => s.bootLock ms))

/-- The bytes of `BOOT_BIDBUF0` to `BOOT_BIDBUF3`. -/
def State.bidBuf (s : State) : List Byte := [0, 1, 2, 3].flatMap (fun i => le 4 (s.rd BOOT_BIDBUF.WORD i))

/-- A boot-identity record that breaks R409 (log entry 100). -/
def bidBad (b : List Byte) : Bool :=
  decide (byteAt b 4 < 1) || decide (63 < byteAt b 4) || decide (3 < byteAt b 5) || decide (byteAt b 8 < 1) || decide (64 < byteAt b 8)
    || bits (byteAt b 9) 1 2 == 3 || decide (7 < byteAt b 9) || leAt b 10 6 != 0

/-- The checks of a `BOOT_CMD` op (R420). -/
def State.bootChecks (s : State) (data : Nat) : List (Nat × Bool) :=
  let op := BOOT_CMD.OP.of data
  [(St.LIFECYCLE, (op == 5 && s.lc != 1 && s.lc != 2) || (op == 6 && s.lc != 1 && s.lc != 3) || (op == 3 && s.lc == 4)),
   (St.AUTH, (op == 1 || op == 2 || op == 4 || op == 5 || op == 6) && !s.on BOOT_STATUS.ARM),
   (St.STATE, op == 3 && !s.on BOOT_STATUS.PUSHWAIT),
   (St.VALUE, Reg.BOOT_CMD.reservedSet data || op == 0 || decide (6 < op) || (op == 5 && bidBad s.bidBuf)),
   (St.NOSPACE, op == 5 && decide (4 ≤ s.rd BOOT_BIDSTAT.USED))]

/-- CONFIRM (R413): the running generation is confirmed. -/
def State.bootConfirm (s : State) : State :=
  if s.on BOOT_STATUS.TRIAL then
    ((((s.wr BOOT_CONF_LO.GEN (s.rd BOOT_GEN_LO.GEN)).wr BOOT_CONF_HI.GEN (s.rd BOOT_GEN_HI.GEN)).wr BOOT_ZSTATE.TRIES 0).wr
      BOOT_STATUS.TRIAL 0)
  else s

/-- BIDWRITE (R409, R420): the buffer is programmed into the next record. -/
def State.bidWrite (s : State) : State :=
  (s.modChip (fun c => { c with bids := c.bids ++ [s.bidBuf] })).wr BOOT_BIDSTAT.USED (s.rd BOOT_BIDSTAT.USED + 1)

/-- A write of `BOOT_CMD` (R420); an op that needs `ARM` uses it up. -/
def State.bootCmd (s : State) (data : Nat) : State :=
  s.checked (s.bootChecks data) (fun s =>
    let used := s.wr BOOT_STATUS.ARM 0
    match BOOT_CMD.OP.of data with
    | 1 => used.bootConfirm.answer St.OK
    | 2 => (used.answer St.OK).enterReset 2 false
    | 3 => s.bootLoad
    | 4 => (used.wr BOOT_SVN.FLOOR (max (s.rd BOOT_SVN.FLOOR) (s.rd BOOT_SVN.RUN_SVN))).answer St.OK
    | 5 => used.bidWrite.answer St.OK
    | _ => (used.answer St.OK).enterReset 2 true)

/-- An op of `BOOT_CMD` as a register write. -/
def State.bootOp (s : State) (op : Nat) : State := s.access Reg.BOOT_CMD.base true (fun s => s.bootCmd op)

def execConfirm (s : State) : Res := .next (s.bootOp 1)
def execReset (s : State) : Res := .next (s.bootOp 2)
def execLoad (s : State) : Res := .next (s.settling (fun s => s.bootOp 3))
def execSvnRaise (s : State) : Res := .next (s.bootOp 4)
def execBidwrite (s : State) : Res := .next (s.bootOp 5)
def execTest (s : State) : Res := .next (s.bootOp 6)

def execPushWrite (data : Word) (s : State) : Res := .next (s.access Reg.BOOT_PUSHDATA.base true (fun s => s.pushWrite data.toNat))

/-- `BOOT_ARM_EXPIRE` (R420). -/
def execBootArmExpire (s : State) : Res := .next (s.wr BOOT_STATUS.ARM 0)

/-- The service watchdog runs (R440). -/
def State.watchdogRuns (s : State) : Bool := s.nim.loaded && decide (s.chip.phase = .running)

def execSvcWdtWarn (s : State) : Res := .next (if s.watchdogRuns then s.raise Ev.NIM_WDT_WARN else s)
def execSvcWdtLapse (s : State) : Res := .next (if s.watchdogRuns then s.enterReset 3 false else s)

/-- A GETBLOCK response (R410, R434): block `tag`, its status and body. Blocks of another generation than the first one's are ignored, and an
answer that brings no block fails the attempt, but for a block asked for before the image's length was known (log entry 100). -/
def State.netIn (s : State) (tag status : Nat) (body : List Byte) : State :=
  if s.netWaits tag = false then s
  else if status = St.RANGE ∧ s.netBlocks = none ∧ tag ≠ 0 then s
  else if status ≠ St.OK ∨ body.length ≤ 8 then s.netFail
  else
    let g := leAt body 0 8
    if s.chip.netGen ≠ 0 ∧ s.chip.netGen ≠ g then s
    else
      let s := s.modChip (fun c => { c with netGen := g, net := NMap.set c.net [] tag (body.drop 8) })
      let n := (s.netBlocks.getD 0)
      if 0 < n ∧ (List.range n).all (fun i => !(s.netBlock i).isEmpty) then
        (s.modChip (fun c => { c with netRun := false })).bringImage 3 ((List.range n).flatMap (fun i => s.netBlock i))
      else s.netMore 8

def execBootBlockReceive (tag : Fin 65536) (status : Fin 256) (body : List Byte) (s : State) : Res :=
  .next (s.settling (fun s => s.netIn tag.val status.val body))

/-- `BOOT_BLOCK_TIMEOUT` (R410): block `i` has not come within 50 ms. -/
def State.netTimeout (s : State) (i : Nat) : State :=
  if s.netWaits i = false then s
  else if NMap.get s.chip.netTry 0 i < 5 then
    (s.netAsk i).modChip (fun c => { c with netTry := NMap.set c.netTry 0 i (NMap.get c.netTry 0 i + 1) })
  else s.netFail

def execBootBlockTimeout (i : Nat) (s : State) : Res := .next (s.netTimeout i)

/-- `NET_BOOT_RETRY` (R410, R418): 10 s after a failed attempt, and every 10 s in RECOVERY. -/
def State.netRetry (s : State) : State :=
  let mode := s.rd BOOT_STATUS.MODE
  if s.chip.netRun ∨ s.chip.phase ≠ .running ∨ s.on BOOT_STATUS.LOCK ∨ s.rd BOOT_STATUS.STEP = 11 ∨
      (mode ≠ 2 ∧ (mode ≠ 0 ∨ s.rd BOOT_STATUS.SRC ≠ 3)) then s
  else
    match s.bootIdentity with
    | none => s
    | some b =>
      let s := if s.chip.bootId then s else s.takeIdentity b
      if s.uplinkUp then s.netStart else s.modChip (fun c => { c with netNext := 0 })

def execNetBootRetry (s : State) : Res := .next (s.settling (fun s => s.netRetry))

end Sys2Proof.Machine
end

