-- ==== Sys2Proof/Machine/Mgmt.lean ====
section
/-! DEFINITION. Management: register requests by address (R5, R421, R424, R425), collisions in the scratchpads (R437), and how a request is
answered over Cirrus or the SPI target (R424, R426, R430). -/
namespace Sys2Proof.Machine

/-- A write that has reached its block, the commands of start-up among them. -/
def State.writeAt (s : State) (a data : Nat) : State :=
  if a = Reg.BOOT_CMD.base then s.bootCmd data
  else if a = Reg.BOOT_PUSHDATA.base then s.pushWrite data
  else s.coreWrite a data

/-- The scratchpad window (R435). -/
def inScratch (a : Nat) : Bool := decide (0x740000 ≤ a) && decide (a < 0x7C0000)

/-- Management and another agent meet at one word of the scratchpad shown (R437): its core or its DMA engine runs. -/
def State.scratchShared (s : State) : Bool := s.on NIM_CSTAT.RUNNING (s.rd NIM_WINSEL.CORE) || s.on NIM_DMASTAT.XFER (s.rd NIM_WINSEL.CORE)

/-- An uncorrectable word of the scratchpad shown (R486, R487). -/
def State.scratchUe (s : State) (a : Nat) : State :=
  let off := a - 0x740000
  ((s.drew.macroError (560 + 8 * s.rd NIM_WINSEL.CORE + off / 0x10000) (off % 0x10000 / 16) (s.freeVal % 512) 0 false true false)).answer
    St.INTEGRITY

/-- A management read of address `a`. `hit` says what it met in the scratchpads: 1 a write in the same cycle (R437), 2 an uncorrectable
word (R487). -/
def State.mgmtRead (s : State) (hit a : Nat) : State :=
  s.addrAccess (badAddr a) a false (fun s =>
    if inScratch a ∧ hit = 1 ∧ s.scratchShared then s.answer St.BUSY
    else if inScratch a ∧ hit = 2 then s.scratchUe a
    else s.coreRead a)

/-- A management write; `hit` 1 says that it met a read in the same cycle (R437). -/
def State.mgmtWrite (s : State) (hit a data : Nat) : State :=
  s.addrAccess (badAddr a) a true (fun s => if inScratch a ∧ hit = 1 ∧ s.scratchShared then s.answer St.BUSY else s.writeAt a data)

/-- `REGISTER_WRITE` (R5 to R7, R10, R11). -/
def execRegisterWrite (addr data : Word) (hit : Fin 3) (s : State) : Res :=
  .next (s.settling (fun s => s.mgmtWrite hit.val addr.toNat data.toNat))

/-- What a request answers: a status and a body; none while it is held, and where the hub is not powered. -/
abbrev Reply := Option (Nat × List Byte)

/-- The range of R421 that an address lies in, by its first address; a number outside every range stands for itself. -/
def rangeOf (a : Nat) : Nat :=
  match ([0x0, 0x10000, 0x20000, 0x30000, 0x40000, 0x50000, 0x100000, 0x140000, 0x180000, 0x200000, 0x280000, 0x300000, 0x340000, 0x400000,
      0x480000, 0x500000, 0x580000, 0x5C0000, 0x600000, 0x640000, 0x680000, 0x700000, 0x800000, 0x900000].filter (fun b => decide (b ≤ a))).getLast? with
  | some b => b
  | none => a

/-- One word read without putting its answer out. -/
def State.readWord (s : State) (hit a : Nat) : State × Reply :=
  let r := s.quietly (fun s => s.mgmtRead hit a)
  (r.1, r.2.map (fun e => (e.1, e.2.flatMap (le 4))))

/-- One word written without putting its answer out. -/
def State.writeWord (s : State) (hit a data : Nat) : State × Reply :=
  let r := s.quietly (fun s => s.mgmtWrite hit a data)
  (r.1, r.2.map (fun e => (e.1, [])))

/-- The status of a block from those of its words: the first failure by R10, else the first of its words that is not OK. -/
def blockStatus (l : List Nat) : Nat :=
  if firstStatus (l.map (fun c => (c, c != St.OK))) ≠ St.OK then firstStatus (l.map (fun c => (c, c != St.OK)))
  else (l.find? (fun c => c != St.OK)).getD St.OK

/-- The accesses of a block in ascending order, each in the state that the earlier ones leave: the state, the statuses and the data. -/
def blockRun (l : List (State → State × Reply)) (s : State) : State × List Nat × List Byte :=
  l.foldl (fun r f =>
    let e := f r.1
    match e.2 with
    | some a => (e.1, r.2.1 ++ [a.1], r.2.2 ++ a.2)
    | none => (e.1, r.2.1 ++ [St.BUSY], r.2.2)) (s, [], [])

/-- A block of accesses (R425): all of them or none. What the first one wakes or records stays. -/
def State.block (s : State) (l : List (State → State × Reply)) : State × Reply :=
  match l with
  | [] => (s, some (St.RANGE, []))
  | f :: _ =>
    let one := f s
    match one.2 with
    | none => (one.1, none)
    | some a =>
      let all := blockRun l s
      let st := blockStatus all.2.1
      if st = St.OK then (all.1, some (St.OK, all.2.2))
      else (if a.1 = St.OK then s else one.1, some (st, []))

/-- The addresses of a block of `n` words. -/
def blockAddrs (a n : Nat) : List Nat := (List.range n).map (fun i => a + 4 * i)

/-- A block lies in one range (R425). -/
def oneRange (a n : Nat) : Bool := n == 0 || rangeOf a == rangeOf (a + 4 * (n - 1))

/-- The first failing of a request's own checks, or its act. -/
def requestChecked (s : State) (checks : List (Nat × Bool)) (f : State → State × Reply) : State × Reply :=
  if firstStatus checks = St.OK then f s else (s, some (firstStatus checks, []))

/-- A register request (R424, R425). -/
def State.register (s : State) (m : Msg) (hit : Nat) : State × Reply :=
  let b := m.body
  if m.op = opRd32 then requestChecked s [(St.VALUE, b.length != 0)] (fun s => s.readWord hit m.addr)
  else if m.op = opWr32 ∨ m.op = opWrc32 then
    requestChecked s [(St.VALUE, b.length != 4)] (fun s => s.writeWord hit m.addr (leAt b 0 4))
  else if m.op = opRdblk then
    let n := leAt b 0 2
    requestChecked s [(St.VALUE, b.length != 2), (St.RANGE, decide (n < 1) || decide (64 < n)), (St.ADDR, b.length == 2 && !oneRange m.addr n)]
      (fun s => s.block ((blockAddrs m.addr n).map (fun a s => s.readWord hit a)))
  else
    let n := b.length / 4
    requestChecked s [(St.VALUE, b.length % 4 != 0), (St.RANGE, decide (n < 1) || decide (64 < n)), (St.ADDR, !oneRange m.addr n)]
      (fun s => s.block ((List.range n).map (fun i s => s.writeWord hit (m.addr + 4 * i) (leAt b (4 * i) 4))))

/-- This hub's number. -/
def State.hub (s : State) : Nat := s.rd GLB_HUB.HUB

/-- The response to a request (R424): an answer that is not OK has no body. -/
def State.response (s : State) (m : Msg) (st : Nat) (body : List Byte) : Msg :=
  { op := m.op, rsp := true, auth := false, dst := m.src, src := s.hub, tag := m.tag, status := st,
    addr := if 1 ≤ m.op ∧ m.op ≤ 5 then m.addr else 0, body := if st = St.OK then body else [] }

/-- A response goes back the way the request came: path 0 Cirrus, 1 the SPI target, which holds it until the next reset (R430). A request
that resets the hub is answered by no message. -/
def State.respond (s : State) (path : Nat) (m : Msg) (st : Nat) (body : List Byte) : State :=
  if s.chip.phase = .reset then s
  else if path = 0 then s.cirrusOut (s.response m st body)
  else { s with spi := { s.spi with resp := some (s.response m st body).bytes } }

/-- A posted message has been dealt with: on the SPI target its request is complete (R430). -/
def State.posted (s : State) (path : Nat) : State := if path = 0 then s else { s with spi := { s.spi with busy := false } }

/-- A WR32 that failed (R92, R426): an ERR message to its source hub, or an entry of the log here; the root stands in for the zone
controller, and a local MCU's writes are logged here. -/
def State.writeFailed (s : State) (path : Nat) (m : Msg) (cause st : Nat) : State :=
  let w := peWords 0 cause st m.addr 4 s.now
  let dest := if path = 1 then s.hub else if m.src = zoneController then 0 else m.src
  if dest = s.hub then s.logPeWords w else s.cirrusPost opErr dest w

/-- The cause of a write that failed with a status (R94). -/
def failCause (st : Nat) : Nat := if st = St.ABORTED then peDrained else peStatus

/-- A request that a draining domain holds is remembered with the access (R382). -/
def State.holdFor (s : State) (path : Nat) (m : Msg) : State :=
  s.modChip (fun c => match c.held.getLast? with
    | some h => { c with held := c.held.dropLast ++ [{ h with msg := some (path, m.bytes) }] }
    | none => c)

/-- A reply to a register request is sent. -/
def State.reply (s : State) (path : Nat) (m : Msg) (st : Nat) (body : List Byte) : State :=
  if m.op = opWr32 then (if st = St.OK then s.posted path else (s.writeFailed path m (failCause st) st).posted path)
  else s.respond path m st body

/-- A register request is carried out and answered. -/
def State.serveRegister (s : State) (path : Nat) (m : Msg) (hit : Nat) : State :=
  let r := s.register m hit
  match r.2 with
  | some a => r.1.reply path m a.1 a.2
  | none => r.1.holdFor path m

end Sys2Proof.Machine
end

