-- ==== Sys2Proof/Machine/Services.lean ====
section
/-! DEFINITION. The built-in services as messages reach them (R431 to R433): service messages, CHALLENGE and the authenticated commands,
plug-ins. -/
namespace Sys2Proof.Machine

/-- A report is older than the last one accepted from its hub (R433). -/
def State.reportOld (s : State) (hub sfn : Nat) : Bool :=
  let v := NMap.get s.chip.reports 0 hub
  let d := (v + 2 ^ 32 - 1 - sfn) % 2 ^ 32
  v != 0 && decide (1 ≤ d) && decide (d < 2 ^ 31)

/-- The root takes presence content of hub `hub` in SFN order (R433). -/
def State.presenceIn (s : State) (hub sfn : Nat) (f : State → State) : State :=
  if s.isRoot = false ∨ hub = 0 ∨ 63 < hub ∨ s.reportOld hub sfn then s
  else f (s.modChip (fun c => { c with reports := NMap.set c.reports 0 hub (sfn + 1) }))

/-- A source report (R59, R283, R433): bit k of `kinds` is `KIND` k; `ready` is the storage tunnel's. -/
def State.sourceReportIn (s : State) (hub kinds : Nat) (ready : Bool) (speed width sfn : Nat) : State :=
  s.presenceIn hub sfn (fun s =>
    let s := (List.range 64).foldl (fun s i =>
      if s.on PLN_PSRC.VALID i ∧ s.rd PLN_PSRC.HUB i = hub then
        s.setPresence i (decide (s.rd PLN_PSRC.KIND i < 13) && bitAt kinds (s.rd PLN_PSRC.KIND i))
      else s) s
    ((s.vdspReport hub (bitAt kinds 1) ready speed width).dpPath hub false).dpLinkChange)

/-- A loss report (R59, R433): every source of each hub in the mask is absent. -/
def State.lossReportIn (s : State) (hub mask sfn : Nat) : State :=
  s.presenceIn hub sfn (fun s => (((bitList 64 mask).foldl (fun s h => ((s.hubAbsent h).vdspHubLost h).dpPath h true) s).pcieRefresh).dpLinkChange)

/-- The answer to a Type-C CMD (R340): HARD_RESET, SEND_CAPS, ERROR_RECOVERY; another op is malformed. -/
def State.tcCommand (s : State) (n rseq op : Nat) : State :=
  match op with
  | 1 => s.tcCmd n rseq (fun s => s.hardReset n true)
  | 2 => if s.on TCP_STATUS.PROLE n then s.tcCmd n rseq (fun s => s.sendCaps n) else s.tcTell n 6 0 rseq St.STATE []
  | 3 => s.tcCmd n rseq (fun s => (s.errorRecovery n).reportPresence)
  | _ => s.tcTell n 6 0 rseq St.VALUE []

/-- Type-C content from the policy (R340). -/
def State.tcIn (s : State) (y : List Byte) : State :=
  let n := byteAt y 1 % 2
  if byteAt y 0 = 2 then s.txReq n (bits (byteAt y 1) 1 2) (byteAt y 2) (y.drop 4)
  else if byteAt y 0 = 5 then s.tcCommand n (byteAt y 2) (byteAt y 4)
  else s

/-- A service message for this hub (R433): content from byte 4 of its body. -/
def State.svcIn (s : State) (src : Nat) (b : List Byte) : State :=
  let y := b.drop 4
  match byteAt b 0 with
  | 1 => if s.coreRuns 0 then s.timeContent (leAt y 0 3) (leAt y 4 4) else s
  | 4 =>
    if s.coreRuns 0 = false then s
    else if byteAt y 3 % 8 = 0 then
      s.sourceReportIn src (leAt y 0 2) (bitAt (byteAt y 2) 0) (bits (byteAt y 2) 1 3) (bits (byteAt y 2) 4 3) (leAt y 4 4)
    else if byteAt y 3 % 8 ≤ 4 then s.lossReportIn src (leAt y 8 8) (leAt y 4 4)
    else s
  | 8 => if s.coreRuns 1 then s.tcIn y else s
  | 9 => if s.coreRuns 1 ∧ byteAt y 0 = 1 then s.pcieResetRequest else s
  | _ => s

/-- `n` bytes that the spec leaves open. -/
def State.freeBytes (s : State) (n : Nat) : List Byte := (List.range n).map (fun i => BitVec.ofNat 8 (Config.freeValue (s.fresh + i)))
def State.drewMany (s : State) (n : Nat) : State := { s with fresh := s.fresh + n }

/-- The fields of a CMD body (R431, R432): service, operation, arguments; an authenticated one ends in nonce and tag. -/
def cmdArgs (m : Msg) : List Byte := if m.auth then (m.body.drop 4).take (m.body.length - 68) else m.body.drop 4

/-- A command's authentication holds (R432, R465, R467): the nonce in force on its path, not older than 1 s, and the tag under the management
key of slot 1. -/
def State.cmdAuthentic (s : State) (path : Nat) (m : Msg) : Bool :=
  let nonce := NMap.get s.sec.chal [] path
  let n := m.body.length
  m.auth && decide (68 ≤ n) && s.rd SEC_SLOT.STATE 1 == 1 && s.rd SEC_SLOT.KTYPE 1 == 2 && decide (nonce.length = 16)
    && decide (s.timeAtSlot0 - NMap.get s.sec.chalAt 0 path ≤ 1000000000)
    && (m.body.drop (n - 64)).take 16 == nonce
    && m.body.drop (n - 48) == hmac384 (NMap.get s.sec.keys [] 1) (le 1 m.dst ++ m.body.take 2 ++ cmdArgs m ++ nonce)

/-- The nonce of a path has been used, and the management key once (R432, R469). -/
def State.nonceUsed (s : State) (path : Nat) : State := (s.modSec (fun c => { c with chal := NMap.set c.chal [] path [] })).useKey 1

/-- The plug-in with a service number (R441). -/
def State.plugin (s : State) (service : Nat) : Option Nat := (List.range 16).find? (fun p => s.rd NIM_PSTAT.SERVICE p == service && service != 0)

/-- A plug-in can take a command: it is not stopped and its core runs. -/
def State.pluginRuns (s : State) (p : Nat) : Bool := !s.on NIM_PSTAT.STOPPED p && s.coreRuns (s.rd NIM_PSTAT.CORE p)

/-- An operation that a built-in service has for this hub (R431): those of service 0. -/
def systemOp (service op : Nat) : Bool := service == 0 && decide (1 ≤ op) && decide (op ≤ 3)

/-- Who takes a command: service 0's core, or a plug-in. -/
def State.commandReady (s : State) (service : Nat) : Bool :=
  match s.plugin service with
  | some p => s.pluginRuns p
  | none => s.coreRuns 0

/-- The checks of a command but for its authentication; a hub that does not run the service yet is BUSY in START and answers STATE
otherwise (log entry 100). -/
def State.commandChecks (s : State) (m : Msg) : List (Nat × Bool) :=
  let service := byteAt m.body 0
  let op := byteAt m.body 1
  let ready := s.commandReady service
  [(St.BUSY, !ready && s.rd BOOT_STATUS.MODE == 0), (St.STATE, !ready && s.rd BOOT_STATUS.MODE != 0),
   (St.VALUE, decide (m.body.length < 4) || leAt m.body 2 2 != 0 || ((s.plugin service).isNone && !systemOp service op)
      || (systemOp service op && !(cmdArgs m).isEmpty))]

/-- CHALLENGE (R432): a fresh nonce that replaces the one of its path. -/
def State.challenge (s : State) (path : Nat) : State × Reply :=
  if s.on SEC_STATUS.DRBG_OK = false then (s, some (St.STATE, []))
  else
    let n := s.freeBytes 16
    ((s.drewMany 16).modSec (fun c => { c with chal := NMap.set c.chal [] path n, chalAt := NMap.set c.chalAt 0 path s.timeAtSlot0 }),
      some (St.OK, n))

/-- A command passed to a plug-in: what it answers is its own (log entry 100). -/
def State.pluginCommand (s : State) (m : Msg) : State × Reply :=
  let n := Config.freeValue (s.fresh + 1) % 8193
  ((s.emit (.act "plug-in command" (m.body.map (fun b => b.toNat)))).drewMany (n + 2),
    some (s.freeVal % 13, (({ s with fresh := s.fresh + 2 } : State).freeBytes n)))

/-- What a command does once its checks have passed. -/
def State.commandAct (s : State) (path : Nat) (m : Msg) : State × Reply :=
  match byteAt m.body 0, byteAt m.body 1 with
  | 0, 1 => s.challenge path
  | 0, 2 => (s.wr CPM_STATE.PS_ARM 1, some (St.OK, []))
  | 0, 3 => (s.wr BOOT_STATUS.ARM 1, some (St.OK, []))
  | _, _ => s.pluginCommand m

/-- A command that needs authentication, or claims it (R431, R432). -/
def needsAuth (m : Msg) : Bool := m.auth || (byteAt m.body 0 == 0 && (byteAt m.body 1 == 2 || byteAt m.body 1 == 3))

/-- A CMD (R431, R432). -/
def State.command (s : State) (path : Nat) (m : Msg) : State × Reply :=
  let refused := s.commandReady (byteAt m.body 0) && needsAuth m && !s.cmdAuthentic path m
  let st := firstStatus ((St.AUTH, refused) :: s.commandChecks m)
  if st = St.AUTH then (s.raiseOnce Ev.NIM_AUTH_FAIL, some (St.AUTH, []))
  else if st ≠ St.OK then (s, some (st, []))
  else (if m.auth then s.nonceUsed path else s).commandAct path m

end Sys2Proof.Machine
end

