-- ==== Sys2Proof/Machine/Messages.lean ====
section
/-! DEFINITION. Messages at this hub (R422 to R424): what is served, relayed, refused or discarded; the SPI target (R428 to R430); the Cirrus
relay (R72, R426). -/
namespace Sys2Proof.Machine

/-- Opcodes that the spec gives (R424). -/
def opKnown (op : Nat) : Bool := (decide (1 ≤ op) && decide (op ≤ 8)) || op == opErr

/-- Opcodes whose messages get no response. -/
def opPosted (op : Nat) : Bool := op == opWr32 || op == opEvent || op == opSvc || op == opErr

/-- A message that is discarded (R424): a reserved opcode or flag, or a `BLEN` that disagrees with its frame. -/
def malformed (b : List Byte) : Bool :=
  decide (b.length < 16) || !opKnown (byteAt b 0) || decide (4 ≤ byteAt b 1) || decide (8192 < leAt b 12 2) || b.length != 16 + leAt b 12 2

/-- The message asks for a response. -/
def Msg.asks (m : Msg) : Bool := !m.rsp && !opPosted m.op

/-- A message for this hub is carried out; `hit` as in `State.mgmtRead`. -/
def State.serve (s : State) (path : Nat) (m : Msg) (hit : Nat) : State :=
  if m.rsp then (if m.op = opCmd ∧ m.src = zoneController ∧ path = 0 then s.netIn m.tag m.status m.body else s).posted path
  else if 1 ≤ m.op ∧ m.op ≤ 5 then s.serveRegister path m hit
  else if m.op = opCmd then
    let r := s.command path m
    match r.2 with
    | some a => r.1.respond path m a.1 a.2
    | none => r.1
  else if m.op = opEvent then (s.emit (.act "event message" (m.body.map (fun b => b.toNat)))).posted path
  else if m.op = opSvc then (s.svcIn m.src m.body).posted path
  else (s.logPeWords m.body).posted path

/-- A discarded message: a request is answered VALUE (R424). -/
def State.refuse (s : State) (path : Nat) (m : Msg) : State := if m.asks then s.respond path m St.VALUE [] else s.posted path

/-- The hub receives messages: its fabric die is powered and out of reset. -/
def State.listening (s : State) : Bool := decide (s.chip.phase = .running) || decide (s.chip.phase = .entering)

/-- A message that has come to this hub as its destination. -/
def State.arrive (s : State) (path : Nat) (b : List Byte) (hit : Nat) : State :=
  if malformed b then s.refuse path (Msg.ofBytes b) else s.serve path (Msg.ofBytes b) hit

/-- A message that this hub cannot forward (R422, R426). -/
def State.unreachable (s : State) (m : Msg) : State :=
  if m.asks then s.respond 0 m St.ADDR []
  else if m.op = opWr32 ∧ m.rsp = false then s.writeFailed 0 m 6 0
  else s

/-- The relay (R72, R422): a message for this hub is served, another goes on towards its destination. -/
def State.relay (s : State) (b : List Byte) (hit : Nat) : State :=
  let m := Msg.ofBytes b
  if malformed b then s.refuse 0 m
  else if m.dst = s.hub then s.serve 0 m hit
  else if s.cirrusReaches m.dst then s.cirrusOut m
  else s.unreachable m

/-- `CIRRUS_RELAY` (R422, R427): the oldest message waiting. -/
def execCirrusRelay (hit : Fin 3) (s : State) : Res :=
  .next (s.settling (fun s => match s.tun.cirrusIn with
    | [] => s
    | u :: r => (s.modTun (fun t => { t with cirrusIn := r })).relay u.bytes hit.val))

/-- A message written on the SPI target (R428, R430). -/
def State.spiWrite (s : State) (b : List Byte) (hit : Nat) : State :=
  let m := Msg.ofBytes b
  let n := 16 + leAt b 12 2
  if s.listening = false then s
  else if s.spi.busy then { s with spi := { s.spi with discard := true } }
  else
    let s := { s with spi := { s.spi with busy := true } }
    if b.length < n ∨ malformed (b.take n) then s.refuse 1 m
    else if m.dst ≠ s.hub then
      if m.asks then s.respond 1 m St.ADDR []
      else if m.op = opWr32 ∧ m.rsp = false then (s.writeFailed 1 m peStatus St.ADDR).posted 1
      else s.posted 1
    else s.serve 1 (Msg.ofBytes (b.take n)) hit

/-- A message of opcode `op` for this hub on a path: 0 Cirrus, where it has come off the relay, 1 the SPI target. -/
def State.message (s : State) (path op : Nat) (auth : Bool) (src tag addr : Nat) (body : List Byte) (hit : Nat) : State :=
  let m : Msg := { op := op, rsp := false, auth := auth, dst := s.hub, src := src, tag := tag, status := 0, addr := addr, body := body }
  if s.listening = false then s
  else if path = 0 then s.arrive 0 m.bytes hit
  else s.spiWrite m.bytes hit

def execRd32 (path : Fin 2) (src : Fin 128) (tag : Fin 65536) (addr : Word) (hit : Fin 3) (s : State) : Res :=
  .next (s.settling (fun s => s.message path.val opRd32 false src.val tag.val addr.toNat [] hit.val))

def execWr32 (path : Fin 2) (src : Fin 128) (tag : Fin 65536) (addr data : Word) (hit : Fin 3) (s : State) : Res :=
  .next (s.settling (fun s => s.message path.val opWr32 false src.val tag.val addr.toNat (le 4 data.toNat) hit.val))

def execWrc32 (path : Fin 2) (src : Fin 128) (tag : Fin 65536) (addr data : Word) (hit : Fin 3) (s : State) : Res :=
  .next (s.settling (fun s => s.message path.val opWrc32 false src.val tag.val addr.toNat (le 4 data.toNat) hit.val))

def execRdblk (path : Fin 2) (src : Fin 128) (tag : Fin 65536) (addr : Word) (n : Fin 65536) (hit : Fin 3) (s : State) : Res :=
  .next (s.settling (fun s => s.message path.val opRdblk false src.val tag.val addr.toNat (le 2 n.val) hit.val))

def execWrblk (path : Fin 2) (src : Fin 128) (tag : Fin 65536) (addr : Word) (data : List Word) (hit : Fin 3) (s : State) : Res :=
  .next (s.settling (fun s => s.message path.val opWrblk false src.val tag.val addr.toNat (data.flatMap (fun w => le 4 w.toNat)) hit.val))

/-- `EVENT` (R424, R446): an Event Queue message of another hub. -/
def execEvent (path : Fin 2) (src : Fin 128) (words : List Byte) (s : State) : Res :=
  .next (s.settling (fun s => s.message path.val opEvent false src.val 0 0 words 0))

/-- `ERR` (R92, R426). -/
def execErr (path : Fin 2) (src : Fin 128) (words : List Byte) (s : State) : Res :=
  .next (s.settling (fun s => s.message path.val opErr false src.val 0 0 words 0))

def execPresenceReport (hub : Fin 64) (kinds : Fin 8192) (ready : Bool) (speed width : Fin 8) (sfn : Word) (s : State) : Res :=
  .next (s.settling (fun s => s.sourceReportIn hub.val kinds.val ready speed.val width.val sfn.toNat))

def execLossReport (hub : Fin 64) (mask : Nat) (sfn : Word) (s : State) : Res := .next (s.settling (fun s => s.lossReportIn hub.val mask sfn.toNat))

def execChallenge (path : Fin 2) (src : Fin 128) (tag : Fin 65536) (s : State) : Res :=
  .next (s.settling (fun s => s.message path.val opCmd false src.val tag.val 0 [0, 1, 0, 0] 0))

/-- `ARM_PS` (R431, R432): with the nonce and tag it carries, none where `auth` is false. -/
def execArmPs (path : Fin 2) (src : Fin 128) (tag : Fin 65536) (auth : Bool) (nonce mac : List Byte) (s : State) : Res :=
  .next (s.settling (fun s => s.message path.val opCmd auth src.val tag.val 0 ([0, 2, 0, 0] ++ nonce ++ mac) 0))

def execArmBoot (path : Fin 2) (src : Fin 128) (tag : Fin 65536) (auth : Bool) (nonce mac : List Byte) (s : State) : Res :=
  .next (s.settling (fun s => s.message path.val opCmd auth src.val tag.val 0 ([0, 3, 0, 0] ++ nonce ++ mac) 0))

/-- `SERVICE_COMMAND` (R431): a CMD by its body. -/
def execServiceCommand (path : Fin 2) (src : Fin 128) (tag : Fin 65536) (auth : Bool) (body : List Byte) (s : State) : Res :=
  .next (s.settling (fun s => s.message path.val opCmd auth src.val tag.val 0 body 0))

/-- The status byte of the SPI target (R429). -/
def State.spiStatus (s : State) : Nat :=
  ofBits [s.spi.resp.isSome, s.spi.busy, s.on EVU_STATUS.FC, !s.evq.isEmpty, s.spi.discard]

/-- Bytes put out on the SPI target. -/
def State.spiOut (s : State) (b : List Byte) : State := s.emit (.act "SPI" (b.map (fun x => x.toNat)))

def execReadStatus (s : State) : Res :=
  .next (if s.listening then ({ s with spi := { s.spi with discard := false } } : State).spiOut (le 1 s.spiStatus) else s)

def execMsgWrite (b : List Byte) (hit : Fin 3) (s : State) : Res := .next (s.settling (fun s => s.spiWrite b hit.val))
def execMsgWriteQ (b : List Byte) (hit : Fin 3) (s : State) : Res := .next (s.settling (fun s => s.spiWrite b hit.val))

/-- The response is read (R429, R430): 0x00 and the response, or 0xFF. -/
def State.spiRead (s : State) : State :=
  if s.listening = false then s
  else match s.spi.resp with
  | some r => ({ s with spi := { s.spi with resp := none, busy := false } } : State).spiOut (0x00 :: r)
  | none => s.spiOut [0xFF]

def execRspRead (s : State) : Res := .next s.spiRead
def execRspReadQ (s : State) : Res := .next s.spiRead

/-- A held access is answered once its domain is off and woken again (R382, R384): a read with the values of the woken domain, a write
with BUSY. -/
def State.heldDone (s : State) (h : Held) : State :=
  match h.msg with
  | none => if h.write then s.answer St.BUSY else s.mgmtRead 0 h.addr
  | some (path, b) => if h.write then s.reply path (Msg.ofBytes b) St.BUSY [] else s.serve path (Msg.ofBytes b) 0

/-- A held access is ended by an entry into DOZE or SHIP (R386, R388). -/
def State.heldAborted (s : State) (h : Held) : State :=
  match h.msg with
  | none => s.answer St.ABORTED
  | some (path, b) => s.reply path (Msg.ofBytes b) St.ABORTED []

/-- Power is removed from a drained domain; an access held meanwhile wakes it and is answered (R381, R382, R384). -/
def State.domainOff (s : State) (d : Nat) : State :=
  let mine := s.chip.held.filter (fun h => s.domainOf h.addr == d)
  let s := (((s.domainReset d).wr (dstat d) 2).powerState).modChip (fun c => { c with held := c.held.filter (fun h => !mine.contains h) })
  if mine.isEmpty then s
  else mine.foldl (fun s h => s.heldDone h) (s.domainWake d)

end Sys2Proof.Machine
end

