-- ==== Sys2Proof/Machine/Cpm.lean ====
section
/-! DEFINITION. Commands of power states, domains and clocks (spec/15). -/
namespace Sys2Proof.Machine

/-- `DOMAIN_GATE` (R379, R381, R385): a domain that has been idle for `IDLE_MS`; `done` says that its transfers ended in time. -/
def State.domainGate (s : State) (d : Nat) (done : Bool) : State :=
  if s.chip.phase ≠ .running ∨ s.gateEnabled d = false ∨ s.rd (dstat d) ≠ 0 ∨ s.domainIdle d = false then s
  else if done then (s.drainStart d).domainOff d
  else s.drainStart d

def execDomainGate (d : Fin 13) (done : Bool) (s : State) : Res := .next (s.settling (fun s => s.domainGate d.val done))

/-- `DRAIN_ABORT` (R385): what remains at 100 µs is aborted; outside an entry the domain then loses power. -/
def State.drainAbort (s : State) (d n : Nat) : State :=
  if s.rd (dstat d) ≠ 1 then s
  else
    let s := if n = 0 then s else (s.bump CPM_DRAINCNT.ABORTS 0 n).raise 0x3F1 (d + 16 * n)
    let s := if d = 9 ∧ 0 < n then s.abortAll else s
    if s.chip.phase = .entering then s else s.domainOff d

def execDrainAbort (d : Fin 13) (n : Fin 65536) (s : State) : Res := .next (s.settling (fun s => s.drainAbort d.val n.val))

/-- `DOMAIN_WAKE` (R382, R383): an access other than a management access reaches a gated domain. -/
def execDomainWake (d : Fin 13) (s : State) : Res := .next (s.domainWake d.val)

/-- `DOMAIN_RESTORE` (R383). -/
def execDomainRestore (d : Fin 13) (s : State) : Res := .next (s.domainRestore d.val)

/-- `DOZE` (R387): `CPM_PSCMD` is written with DOZE and `GO`. -/
def execDoze (s : State) : Res := .next (s.access Reg.CPM_PSCMD.base true (fun s => s.pscmdWrite (1 + 2 ^ 31)))

/-- `SHIP` (R387). -/
def execShip (s : State) : Res := .next (s.access Reg.CPM_PSCMD.base true (fun s => s.pscmdWrite (2 + 2 ^ 31)))

/-- `ULP_EXPIRE` (R387). -/
def execUlpExpire (s : State) : Res :=
  .next (if s.chip.ulp ∧ s.chip.phase = .running ∧ (s.rd CPM_ULP.ULP_ACT = 1 ∨ s.rd CPM_ULP.ULP_ACT = 2) then
    s.psEnter (s.rd CPM_ULP.ULP_ACT) 1 else s)

/-- `PS_ARM_EXPIRE` (R387). -/
def execPsArmExpire (s : State) : Res := .next (s.wr CPM_STATE.PS_ARM 0)

/-- `DOZE_REACHED` (R388). -/
def execDozeReached (s : State) : Res := .next (if s.chip.phase = .entering then (s.chip.held.foldl (fun s h => s.heldAborted h) s).psReached else s)

/-- `DOZE_WAKE_EVENT` (R388, R389): recorded during entry, acted on in DOZE. -/
def State.wakeEvent (s : State) (src i : Nat) : State :=
  if s.wakeEnabled src i = false then s
  else
    let t := s.modChip (fun c => { c with wakes := c.wakes ||| 2 ^ src })
    match s.chip.phase with
    | .entering => t
    | .doze => t.psWake
    | _ => s

def execDozeWakeEvent (src : Fin 6) (i : Fin 16) (s : State) : Res := .next (s.wakeEvent src.val i.val)

/-- `FAB_PG_TIMEOUT` (R389): `FAB_EN` goes low, and high again after 1 s. -/
def execFabPgTimeout (s : State) : Res :=
  .next (if s.chip.phase = .powering then (s.emit (.act "fab_en" [0])).emit (.act "fab_en" [1]) else s)

/-- `SHIP_WAKE` (R390, R399): `WAKE` held for 10 ms, or a feed re-applied; `vbat` says that VBAT had fallen below 2.0 V. -/
def State.shipWake (s : State) (feed vbat : Bool) : State :=
  if s.chip.phase ≠ .ship then s
  else ((s.modChip (fun c => { c with wakes := if feed then 64 else 1 })).vbatCheck vbat).psWake

def execShipWake (feed vbat : Bool) (s : State) : Res := .next (s.shipWake feed vbat)

/-- `PLL_HOLDOVER` (R393): the upstream clock of a node is lost. -/
def execPllHoldover (s : State) : Res :=
  .next (if s.isRoot ∨ s.on CPM_PLLSTAT.ROOTSRC = false ∨ s.on CPM_PLLSTAT.HOLDOVER then s
    else (s.wr CPM_PLLSTAT.HOLDOVER 1).raise 0x3F5)

/-- `PLL_RELOCK` (R163, R393): the root PLL of a node locks on the upstream clock. -/
def execPllRelock (s : State) : Res :=
  .next (if s.isRoot then s
    else ((s.wr CPM_PLLSTAT.HOLDOVER 0).wr CPM_PLLSTAT.ROOTSRC 1).wrBit CPM_PLLSTAT.LOCK 0 true)

/-- `PLL_UNLOCK` (R393): root, Ethernet, PCIe, DisplayPort, USB as 0 to 4. -/
def execPllUnlock (k : Fin 5) (s : State) : Res :=
  .next (if bitAt (s.rd CPM_PLLSTAT.LOCK) k.val then (s.wrBit CPM_PLLSTAT.LOCK k.val false).raise 0x3F4 k.val else s)

/-- One AVS step from `now` towards a target within bounds (R394). -/
def avsStep (now target lo hi : Nat) : Nat :=
  let t := if target < lo then lo else if hi < target then hi else target
  if now < t then min t (now + 2) else max t (now - 2)

/-- `AVS_UPDATE` (R394): with the target the monitors give, and whether the regulator acknowledged. -/
def State.avsUpdate (s : State) (target : Nat) (ack : Bool) : State :=
  if s.on BOOT_STATUS.LOCK = false then s
  else
    let now := s.rd CPM_AVS.AVS_NOW
    let v := if s.on CPM_AVS.AVS_EN then avsStep now target (s.rd CPM_AVS.AVS_MIN) (s.rd CPM_AVS.AVS_MAX) else s.rd CPM_AVS.AVS_FIX
    if s.on CPM_AVS.AVS_EN = false ∧ s.chip.avsFixed then s
    else if ack = false then (s.wr CPM_AVS.FAIL 1).raise 0x3F6
    else ((s.wr CPM_AVS.AVS_NOW v).modChip (fun c => { c with avsFixed := !s.on CPM_AVS.AVS_EN })).emit (.act "avsbus" [v])

def execAvsUpdate (target : Fin 41) (ack : Bool) (s : State) : Res := .next (s.avsUpdate target.val ack)

end Sys2Proof.Machine
end

