-- ==== Sys2Proof/Machine/LinkCmds.lean ====
section
/-! DEFINITION. Commands that may take a link down, bring it up or shift its plan (spec/02, spec/04, spec/05, spec/09). -/
namespace Sys2Proof.Machine

/-- `AUTH_DONE_RECEIVE` (R481 step 4). -/
def execAuthDoneReceive (p : Fin 4) (y : List Byte) (s : State) : Res :=
  .next (s.settling (fun s => if bits (byteAt y 1) 0 3 = Amsg.DONE ∧ leAt y 4 2 = 0 then s.authDoneIn p.val else s))

/-- `AUTH_MESSAGE_RECEIVE` (R480 to R482). -/
def execAuthMessageReceive (p : Fin 4) (y : List Byte) (ok : Bool) (s : State) : Res := .next (s.settling (fun s => s.authReceive p.val y ok))

def execCreditTimeout (p : Fin 4) (vc : Fin 64) (s : State) : Res := .next (s.settling (fun s => s.creditTimeout p.val vc.val))

/-- `FLIT_RECEIVE` (R139 to R143). -/
def execFlitReceive (p : Fin 4) (slot : Nat) (raw : List Byte) (hits : Nat) (s : State) : Res :=
  .next (s.settling (fun s => s.flitReceive p.val slot raw hits))

def execJxkEnWrite (p : Fin 4) (data : Word) (s : State) : Res := .next (s.settling (fun s => s.access (Reg.JXK_CTRL.addr p.val 0) true (fun s => s.jxkCtrlWrite p.val data.toNat)))

def execLoopMeasure (p : Fin 4) (v : Nat) (s : State) : Res := .next (s.settling (fun s => (s.loopMeasure p.val v).timeSend p.val))

def execPeerLoss (p : Fin 4) (s : State) : Res := .next (s.settling (fun s => s.peerLoss p.val))

def execPeerTrainingDetect (p : Fin 4) (s : State) : Res := .next (s.settling (fun s => s.peerTraining p.val))

def execRekey (p : Fin 4) (s : State) : Res := .next (s.settling (fun s => s.access (Reg.JXK_CMD.addr p.val 0) true (fun s => s.rekeyCmd p.val)))

def execRekeyNoAck (p : Fin 4) (s : State) : Res := .next (s.settling (fun s => s.rekeyNoAck p.val))

def execRekeyTimer (p : Fin 4) (s : State) : Res := .next (s.settling (fun s => s.rekeyTimer p.val))

def execReplayTimeout (p : Fin 4) (s : State) : Res := .next (s.settling (fun s => s.replayTimeout p.val))

def execRetrain (p : Fin 4) (s : State) : Res := .next (s.settling (fun s => s.access (Reg.JXK_CMD.addr p.val 0) true (fun s => s.retrainCmd p.val)))

def execTagVerify (p : Fin 4) (s : State) : Res := .next (s.settling (fun s => s.tagVerify p.val))

def execFence (p : Fin 4) (lane : Fin 16) (s : State) : Res := .next (s.settling (fun s => s.access (Reg.JXP_CMD.addr p.val 0) true (fun s => s.fence p.val lane.val)))

/-- `LANE_FAIL` (R121, R122): causes 1 to 5. -/
def execLaneFail (p : Fin 4) (lane : Fin 10) (cause : Fin 6) (s : State) : Res :=
  .next (s.settling (fun s => if cause.val ≠ 0 ∧ s.causeHolds p.val lane.val cause.val then s.laneFail p.val lane.val cause.val else s))

def execLaneNackReceive (p : Fin 4) (y : List Byte) (s : State) : Res := .next (s.settling (fun s => s.laneNack p.val (LaneMsg.ofPayload y)))

def execSubstComplete (p : Fin 4) (s : State) : Res := .next (s.settling (fun s => s.substComplete p.val))

def execWiden (p : Fin 4) (s : State) : Res := .next (s.settling (fun s => s.access (Reg.JXP_CMD.addr p.val 0) true (fun s => s.widen p.val)))

def execPlanShiftEffect (p : Fin 4) (s : State) : Res := .next (s.settling (fun s => s.shiftEffect p.val))

def execSlotCommit (p : Fin 4) (slot : Nat) (s : State) : Res := .next (s.settling (fun s => s.slotCommit p.val slot))

/-- `SYNC_LOST` (R31): a SYNC fails while three have failed in a row on an ACTIVE link. -/
def execSyncLost (p : Fin 4) (s : State) : Res :=
  .next (s.settling (fun s => if s.linkActive p.val ∧ 3 ≤ (s.lk p.val).plan.syncFails then s.syncFailed p.val (((s.lk p.val).plan.lastSfn + 1) % 2 ^ 32) else s))

def execSyncReceive (p : Fin 4) (y : Option (List Byte)) (via : Nat) (s : State) : Res :=
  .next (s.settling (fun s => s.syncReceive p.val y via))

/-- `ETH_LINK_UP` (R256): the PCS has reported link for 10 ms; `speed` is the code of a mode-4 PHY's link code word. -/
def execEthLinkUp (p : Fin 8) (speed : Fin 4) (s : State) : Res := .next (s.settling (fun s => s.ethUp p.val (speed.val + 1)))

/-- `ETH_LINK_DOWN` (R256). -/
def execEthLinkDown (p : Fin 8) (s : State) : Res := .next (s.settling (fun s => s.ethDown p.val))

end Sys2Proof.Machine
end

