-- ==== Sys2Proof/Machine/Mem.lean ====
section
/-! DEFINITION. Commands of errors, repair and observation (spec/19). -/
namespace Sys2Proof.Machine

/-- `MACRO_SCRUB` (R487 to R489): word `word` of macro `m` has been read, by the scrubber or (`scrub` = false) by the block that uses it,
with an error 1 correctable or 2 uncorrectable; the last word of a pass ends the macro's count. -/
def State.macroScrub (s : State) (m word synd at_ err : Nat) (scrub iso : Bool) : State :=
  if macroKind m = 0 ∨ (scrub ∧ (s.on MEM_SCRUB.SCRUB_EN = false ∨ s.marching m)) ∨ s.rd (dstat (macroDomain m)) = 2 then s
  else
    let s := if err = 0 then s else s.macroError m word synd at_ scrub (err == 2) iso
    if scrub ∧ word = 4095 then s.wr MEM_MACRO.CE 0 m else s

def execMacroScrub (m : Fin 616) (word : Fin 4096) (synd : Fin 512) (loc : Nat) (err : Fin 3) (scrub iso : Bool) (s : State) : Res :=
  .next (s.settling (fun s => s.macroScrub m.val word.val synd.val loc err.val scrub iso))

/-- `CAPTURE_CLEAR` (R491): a write of word 0 of record `c`. -/
def execCaptureClear (c : Fin 14) (data : Word) (s : State) : Res :=
  .next (s.access (Reg.MEM_CAP0.addr c.val 0) true (fun s => s.capWrite c.val data.toNat))

/-- `FCLR` (R492): a write of `DBG_FCTL`. -/
def execFclr (data : Word) (s : State) : Res := .next (s.access Reg.DBG_FCTL.base true (fun s => s.fctlWrite data.toNat))

/-- `MARCH_START` (R494): `MEM_MCMD` is written with op 1. -/
def execMarchStart (ss destr : Bool) (first count : Fin 1024) (s : State) : Res :=
  .next (s.access Reg.MEM_MCMD.base true (fun s =>
    s.mcmdWrite (1 + (if ss then 4 else 0) + (if destr then 8 else 0) + 16 * first.val + 2 ^ 14 * count.val)))

/-- `MARCH_STOP` (R494): op 2. -/
def execMarchStop (s : State) : Res := .next (s.access Reg.MEM_MCMD.base true (fun s => s.mcmdWrite 2))

/-- `MARCH_DONE` (R494). -/
def execMarchDone (faults : List Nat) (done : Nat) (s : State) : Res := .next (s.marchDone faults done)

/-- `FUSE_REPAIR` (R498): a write of `MEM_FUSECMD`. -/
def execFuseRepair (data : Word) (s : State) : Res := .next (s.access Reg.MEM_FUSECMD.base true (fun s => s.fuseRepair data.toNat))

/-- `D2D_LANE_SPARE` (R499, R500). -/
def execD2dLaneSpare (lane : Fin 17) (s : State) : Res := .next (if s.on DBG_D2D.UP then s.d2dLane lane.val else s)

/-- `D2D_FRAME_RETRY` (R501): with the frames corrected since the last one. -/
def execD2dFrameRetry (corr : Nat) (s : State) : Res := .next ((s.bump DBG_D2DCNT.CORR 0 corr).bump DBG_D2DCNT.RETRY)

/-- `D2D_FAIL` (R501). -/
def execD2dFail (s : State) : Res := .next s.d2dDown

/-- `D2D_RETRAIN` (R501): an attempt succeeds or not; three failed lanes keep the link down. -/
def execD2dRetrain (ok : Bool) (s : State) : Res :=
  .next (if s.on DBG_D2D.UP = false ∧ ok ∧ popcount 17 (s.rd DBG_D2D.FAILED) < 3 ∧ s.chip.phase = .running then s.d2dSet true else s)

/-- `UNLOCK` (R505): a write of `DBG_CMD`. -/
def execUnlock (s : State) : Res := .next (s.access Reg.DBG_CMD.base true (fun s => s.dbgCmd 1))

/-- `LOCK` (R505). -/
def execLock (s : State) : Res := .next (s.access Reg.DBG_CMD.base true (fun s => s.dbgCmd 2))

/-- `DEBUG_UNLOCK_EXPIRE` (R505). -/
def execDebugUnlockExpire (s : State) : Res := .next s.debugLock

/-- `JTAG_INSTRUCTION` (R502). -/
def State.jtagLoad (s : State) (i : Nat) : State :=
  let a := s.jtagActs i
  (s.modChip (fun c => { c with jtag := a })).emit (.act "jtag" (a :: (if a = 1 then [s.idcode] else [])))

def execJtagInstruction (i : Fin 9) (s : State) : Res := .next (s.jtagLoad i.val)

end Sys2Proof.Machine
end

