-- ==== Sys2Proof/Machine/Nimbus.lean ====
section
/-! DEFINITION. The Nimbus runtime (R435 to R441) and the event unit's own commands (R442 to R446). -/
namespace Sys2Proof.Machine

/-- A word that a running core or its DMA engine has written (R435). -/
def State.coreStore (s : State) (w : CoreWrite) : State :=
  if w.core < 4 ∧ w.word < 131072 ∧ (s.on NIM_CSTAT.RUNNING w.core || s.on NIM_DMASTAT.XFER w.core) then
    { s with nim := { s.nim with scratch := NMap.set s.nim.scratch 0 (w.core * 131072 + w.word) (w.data % 2 ^ 32) } }
  else s

/-- A DMA transfer met another agent at a word (R437): it stops after that word. -/
def State.dmaCollision (s : State) (n : Nat) : State :=
  (((s.wr NIM_DMASTAT.SPB 1 n).wr NIM_DMASTAT.XFER 0 n).bump NIM_DMASTAT.SPBCNT n).raiseOnce Ev.NIM_DMA_BUSY 0 n

/-- A plug-in is stopped until the next start (R439). -/
def State.pluginStop (s : State) (p : Nat) : State :=
  if s.on NIM_PSTAT.STOPPED p then s else (s.wr NIM_PSTAT.STOPPED 1 p).raise Ev.NIM_PLUGIN_STOP (s.rd NIM_PSTAT.SERVICE p)

/-- A plug-in has run in this period, within its budget or beyond it (R439). -/
def State.pluginPeriod (s : State) (p : Nat) (late : Bool) : State :=
  if s.rd NIM_PSTAT.SERVICE p = 0 ∨ s.on NIM_PSTAT.STOPPED p ∨ s.on NIM_CSTAT.RUNNING (s.rd NIM_PSTAT.CORE p) = false then s
  else
    let n := if late then NMap.get s.nim.overrun 0 p + 1 else 0
    let s := { s with nim := { s.nim with overrun := NMap.set s.nim.overrun 0 p n } }
    let s := if late then s.bump NIM_POVR.OVR p else s
    if late ∧ s.rd NIM_POVR.OVR_LIM p ≤ n then s.pluginStop p else s

/-- The admission service of core 1 takes the quarantine copies (R236, R431; log entry 104). -/
def State.admissionPeriod (s : State) : State :=
  if s.on NIM_CSTAT.RUNNING 1 then
    { (s.fld.quar.foldl (fun s q => s.emit (.act "quarantine copy" q)) s) with fld := { s.fld with quar := [] } }
  else s

/-- `NIMBUS_PERIOD` (R438, R439): the plug-ins that overran their budgets, the DMA engines that collided, those that have a transfer running,
and the scratchpad words written. -/
def State.nimbusPeriod (s : State) (late : List Nat) (coll xfer : List Nat) (writes : List CoreWrite) : State :=
  if s.nim.loaded = false then s
  else
    let s := [0, 1, 2, 3].foldl (fun s n => s.setBit NIM_DMASTAT.XFER (xfer.contains n) n) s
    let s := writes.foldl (fun s w => s.coreStore w) s
    let s := coll.foldl (fun s n => s.dmaCollision n) s
    ((List.range 16).foldl (fun s p => s.pluginPeriod p (late.contains p)) s).presencePeriod.admissionPeriod

def execNimbusPeriod (late : List (Fin 16)) (coll xfer : List (Fin 4)) (writes : List CoreWrite) (s : State) : Res :=
  .next (s.nimbusPeriod (late.map Fin.val) (coll.map Fin.val) (xfer.map Fin.val) writes)

/-- `CORE_TRAP` (R439, R440): in a plug-in, which is stopped for good, or in the runtime or a built-in service, which halts the core. -/
def State.coreTrap (s : State) (n mcause : Nat) (plug : Option Nat) : State :=
  if s.on NIM_CSTAT.RUNNING n = false then s
  else
    match plug with
    | some p =>
      if s.rd NIM_PSTAT.SERVICE p = 0 ∨ s.on NIM_PSTAT.STOPPED p ∨ s.rd NIM_PSTAT.CORE p ≠ n then s
      else (s.raise Ev.NIM_TRAP (n + 4 * mcause)).pluginStop p
    | none => ((s.wr NIM_CSTAT.RUNNING 0 n).wr NIM_CSTAT.TRAPPED 1 n).raise Ev.NIM_TRAP (n + 4 * mcause)

def execCoreTrap (n : Fin 4) (mcause : Word) (plug : Option (Fin 16)) (s : State) : Res :=
  .next (s.coreTrap n.val mcause.toNat (plug.map Fin.val))

/-- `HALT` (R450): a write of `NIM_CCTRL`(n). -/
def execHalt (n : Fin 4) (data : Word) (s : State) : Res :=
  .next (s.access (Reg.NIM_CCTRL.addr n.val 0) true (fun s => s.cctrlWrite n.val data.toNat))

def execEventArrival (s : State) : Res := .next s.eventArrive

def execEvqPop (data : Word) (s : State) : Res := .next (s.access Reg.EVU_EVQPOP.base true (fun s => s.evqPop data.toNat))

/-- `EVENT_SOURCE_CLEAR` (R442): a write of `EVU_SRC`(i). -/
def execEventSourceClear (i : Fin 1024) (data : Word) (s : State) : Res :=
  .next (s.access (Reg.EVU_SRC.addr i.val 0) true (fun s => s.evuSrcWrite i.val data.toNat))

/-- `NIRQ_PULSE_END` (R446): pulses owed are driven in turn. -/
def execNirqPulseEnd (s : State) : Res :=
  .next (if s.chip.irq = false then s
    else if s.chip.owed = 0 then s.modChip (fun c => { c with irq := false })
    else (s.modChip (fun c => { c with owed := c.owed - 1 })).emit (.act "nIRQ" []))

end Sys2Proof.Machine
end

