-- ==== Sys2Proof/Machine/Sec.lean ====
section
/-! DEFINITION. Commands of keys, life cycle and tamper (spec/18). -/
namespace Sys2Proof.Machine

/-- `TAMPER_DETECT` (R457, R458): the condition of a source begins, or ends. -/
def execTamperDetect (src : Fin 6) (active : Bool) (s : State) : Res := .next (s.settling (fun s => s.tamperLevel src.val active))

/-- A `SEC_CMD` as its row names it. -/
def State.secOp (s : State) (op : Nat) : State := s.access Reg.SEC_CMD.base true (fun s => s.secCmd op)

def execLcProvision (s : State) : Res := .next (s.secOp 1)
def execLcField (s : State) : Res := .next (s.secOp 2)
def execLcReturn (s : State) : Res := .next (s.secOp 3)
def execLcEnd (s : State) : Res := .next (s.secOp 4)
def execIdEnroll (s : State) : Res := .next (s.secOp 5)
def execCertWrite (s : State) : Res := .next (s.secOp 6)
def execKeyImport (s : State) : Res := .next (s.secOp 7)
def execKeyDestroy (s : State) : Res := .next (s.secOp 8)
def execTamperClear (s : State) : Res := .next (s.secOp 9)

/-- `LC_RESET` (R461): as `BOOT_CMD` RESET does. -/
def execLcReset (s : State) : Res := .next (if s.sec.lcReset then s.enterReset 2 false else s)

/-- `NONCE_DRAW` (R463). -/
def execNonceDraw (s : State) : Res := .next (s.access (Reg.SEC_NONCE.addr 0 0) false (fun s => s.nonceDraw))

/-- `SLOT_TAG_CHECK` (R468): `bad` names the slots whose tag fails. -/
def State.tagCheck (s : State) (bad : List Nat) : State :=
  bad.foldl (fun s i =>
    if s.rd SEC_SLOT.STATE i = 1 ∨ s.rd SEC_SLOT.STATE i = 3 then
      ((s.wr SEC_SLOT.STATE 2 i).modSec (fun c => { c with keys := NMap.set c.keys [] i [] })).raise 0x3E3 i
    else s) s

def execSlotTagCheck (bad : List (Fin 64)) (s : State) : Res := .next (s.tagCheck (bad.map Fin.val))

/-- `JOURNAL_UPDATE_DONE` (R474): with the verdict of the read-back. -/
def execJournalUpdateDone (good : Bool) (s : State) : Res := .next (s.journalEnd (if good then St.OK else St.INTEGRITY))

/-- `JOURNAL_UPDATE_TIMEOUT` (R474). -/
def execJournalUpdateTimeout (s : State) : Res := .next (s.journalEnd St.TIMEOUT)

/-- `TRNG_FAIL` (R479). -/
def execTrngFail (s : State) : Res := .next ((s.wr SEC_STATUS.DRBG_OK 0).raise 0x3E8)

/-- `TRNG_RETEST` (R479). -/
def execTrngRetest (pass : Bool) (s : State) : Res := .next (if pass then s.wr SEC_STATUS.DRBG_OK 1 else s)

end Sys2Proof.Machine
end

