-- ==== Sys2Proof/Machine/Dispatch.lean ====
section
/-! DEFINITION. What each command does: one direct call of its meaning. -/
namespace Sys2Proof.Machine

/-- The effect of a command on everything but the queue. -/
def exec (i : Instr) (s : State) : Host.Outcome State Fault Refusal :=
  match i with
  | .registerWrite addr data hit => Sys2Proof.Machine.execRegisterWrite addr data hit s
  | .superframeStart => Sys2Proof.Machine.execSuperframeStart s
  | .syncReceive p y via => Sys2Proof.Machine.execSyncReceive p y via s
  | .syncLost p => Sys2Proof.Machine.execSyncLost p s
  | .slotCommit p slot => Sys2Proof.Machine.execSlotCommit p slot s
  | .flitPresentation p slot => Sys2Proof.Machine.execFlitPresentation p slot s
  | .isoDeparture p tix => Sys2Proof.Machine.execIsoDeparture p tix s
  | .guarDeparture p tix => Sys2Proof.Machine.execGuarDeparture p tix s
  | .planWindowWrite addr data => Sys2Proof.Machine.execPlanWindowWrite addr data s
  | .tunnelEntryWrite addr data => Sys2Proof.Machine.execTunnelEntryWrite addr data s
  | .frontReqReceive p y => Sys2Proof.Machine.execFrontReqReceive p y s
  | .frontAckReceive p y => Sys2Proof.Machine.execFrontAckReceive p y s
  | .frontNackReceive p y => Sys2Proof.Machine.execFrontNackReceive p y s
  | .frontAckDeadline p => Sys2Proof.Machine.execFrontAckDeadline p s
  | .planShiftEffect p => Sys2Proof.Machine.execPlanShiftEffect p s
  | .linkShiftGo p data => Sys2Proof.Machine.execLinkShiftGo p data s
  | .zshiftGo data => Sys2Proof.Machine.execZshiftGo data s
  | .zoneReqForward p => Sys2Proof.Machine.execZoneReqForward p s
  | .zoneShiftCatchup p => Sys2Proof.Machine.execZoneShiftCatchup p s
  | .selectorEvaluate => Sys2Proof.Machine.execSelectorEvaluate s
  | .presenceBackstop hub => Sys2Proof.Machine.execPresenceBackstop hub s
  | .validate data => Sys2Proof.Machine.execValidate data s
  | .invalidate data => Sys2Proof.Machine.execInvalidate data s
  | .routeLookup data => Sys2Proof.Machine.execRouteLookup data s
  | .routeInsert data => Sys2Proof.Machine.execRouteInsert data s
  | .routeDelete data => Sys2Proof.Machine.execRouteDelete data s
  | .routeRead data => Sys2Proof.Machine.execRouteRead data s
  | .tunnelFrameReceive => Sys2Proof.Machine.execTunnelFrameReceive s
  | .pointImageTimeout idx => Sys2Proof.Machine.execPointImageTimeout idx s
  | .pelogEntryClear e data => Sys2Proof.Machine.execPelogEntryClear e data s
  | .laneFail p lane cause => Sys2Proof.Machine.execLaneFail p lane cause s
  | .laneReqReceive p y => Sys2Proof.Machine.execLaneReqReceive p y s
  | .laneAckReceive p y => Sys2Proof.Machine.execLaneAckReceive p y s
  | .laneNackReceive p y => Sys2Proof.Machine.execLaneNackReceive p y s
  | .laneSubstEffect p => Sys2Proof.Machine.execLaneSubstEffect p s
  | .substComplete p => Sys2Proof.Machine.execSubstComplete p s
  | .probationPass p lane => Sys2Proof.Machine.execProbationPass p lane s
  | .probationFail p lane => Sys2Proof.Machine.execProbationFail p lane s
  | .fence p lane => Sys2Proof.Machine.execFence p lane s
  | .restore p lane => Sys2Proof.Machine.execRestore p lane s
  | .widen p => Sys2Proof.Machine.execWiden p s
  | .resetLanes p => Sys2Proof.Machine.execResetLanes p s
  | .horizonStart p => Sys2Proof.Machine.execHorizonStart p s
  | .horizonStop p => Sys2Proof.Machine.execHorizonStop p s
  | .horizonScanDone p counts => Sys2Proof.Machine.execHorizonScanDone p counts s
  | .prbsCheckerLock p lane => Sys2Proof.Machine.execPrbsCheckerLock p lane s
  | .prbsLockLoss p lane errs nbits => Sys2Proof.Machine.execPrbsLockLoss p lane errs nbits s
  | .errorInject p lane data => Sys2Proof.Machine.execErrorInject p lane data s
  | .injectRateBit p lane => Sys2Proof.Machine.execInjectRateBit p lane s
  | .dfeAdapt p lane up ds => Sys2Proof.Machine.execDfeAdapt p lane up ds s
  | .flitReceive p slot raw hits => Sys2Proof.Machine.execFlitReceive p slot raw hits s
  | .replayTimeout p => Sys2Proof.Machine.execReplayTimeout p s
  | .tagVerify p => Sys2Proof.Machine.execTagVerify p s
  | .creditReceive p y => Sys2Proof.Machine.execCreditReceive p y s
  | .creditTimeout p vc => Sys2Proof.Machine.execCreditTimeout p vc s
  | .creditSyncSend p => Sys2Proof.Machine.execCreditSyncSend p s
  | .creditSyncReceive p y => Sys2Proof.Machine.execCreditSyncReceive p y s
  | .rekeyTimer p => Sys2Proof.Machine.execRekeyTimer p s
  | .rekey p => Sys2Proof.Machine.execRekey p s
  | .rekeyReceive p y => Sys2Proof.Machine.execRekeyReceive p y s
  | .rekeyAckReceive p y => Sys2Proof.Machine.execRekeyAckReceive p y s
  | .rekeyNoAck p => Sys2Proof.Machine.execRekeyNoAck p s
  | .rekeyEffect p => Sys2Proof.Machine.execRekeyEffect p s
  | .oldKeyRetire p => Sys2Proof.Machine.execOldKeyRetire p s
  | .retrain p => Sys2Proof.Machine.execRetrain p s
  | .jxkEnWrite p data => Sys2Proof.Machine.execJxkEnWrite p data s
  | .detectDone p => Sys2Proof.Machine.execDetectDone p s
  | .equalizeDone p r => Sys2Proof.Machine.execEqualizeDone p r s
  | .deskewDone p pol => Sys2Proof.Machine.execDeskewDone p pol s
  | .alignIdReceive p y => Sys2Proof.Machine.execAlignIdReceive p y s
  | .alignCredReceive p y => Sys2Proof.Machine.execAlignCredReceive p y s
  | .authMessageReceive p y ok => Sys2Proof.Machine.execAuthMessageReceive p y ok s
  | .authDoneReceive p y => Sys2Proof.Machine.execAuthDoneReceive p y s
  | .trainingTimeout p => Sys2Proof.Machine.execTrainingTimeout p s
  | .backoffEnd p => Sys2Proof.Machine.execBackoffEnd p s
  | .recoverEnd p => Sys2Proof.Machine.execRecoverEnd p s
  | .peerTrainingDetect p => Sys2Proof.Machine.execPeerTrainingDetect p s
  | .peerLoss p => Sys2Proof.Machine.execPeerLoss p s
  | .loopMeasure p v => Sys2Proof.Machine.execLoopMeasure p v s
  | .switchCellAllocate p => Sys2Proof.Machine.execSwitchCellAllocate p s
  | .switchFrameComplete => Sys2Proof.Machine.execSwitchFrameComplete s
  | .schedulerSelect => Sys2Proof.Machine.execSchedulerSelect s
  | .egressRead p ce ueBank ueAddr => Sys2Proof.Machine.execEgressRead p ce ueBank ueAddr s
  | .ageingSweep => Sys2Proof.Machine.execAgeingSweep s
  | .bufferScrub ce ue => Sys2Proof.Machine.execBufferScrub ce ue s
  | .bankMarkFailing data => Sys2Proof.Machine.execBankMarkFailing data s
  | .bankCopyDone => Sys2Proof.Machine.execBankCopyDone s
  | .fdbLookup data => Sys2Proof.Machine.execFdbLookup data s
  | .fdbInsert data => Sys2Proof.Machine.execFdbInsert data s
  | .fdbDelete data => Sys2Proof.Machine.execFdbDelete data s
  | .fdbRead data => Sys2Proof.Machine.execFdbRead data s
  | .fdbFlush data => Sys2Proof.Machine.execFdbFlush data s
  | .nodeRefill j => Sys2Proof.Machine.execNodeRefill j s
  | .meterRefill m => Sys2Proof.Machine.execMeterRefill m s
  | .wfqRebase => Sys2Proof.Machine.execWfqRebase s
  | .queueParentWrite q data => Sys2Proof.Machine.execQueueParentWrite q data s
  | .shaperWrite addr data => Sys2Proof.Machine.execShaperWrite addr data s
  | .meterWrite addr data => Sys2Proof.Machine.execMeterWrite addr data s
  | .fsFrameReceive g frame fcsOk opp => Sys2Proof.Machine.execFsFrameReceive g frame fcsOk opp s
  | .segNoise g noise coll plca => Sys2Proof.Machine.execSegNoise g noise coll plca s
  | .dropTimeout e => Sys2Proof.Machine.execDropTimeout e s
  | .lineFault g => Sys2Proof.Machine.execLineFault g s
  | .lineProbe g clean => Sys2Proof.Machine.execLineProbe g clean s
  | .diEdge idx level time => Sys2Proof.Machine.execDiEdge idx level time s
  | .diAccept idx now => Sys2Proof.Machine.execDiAccept idx now s
  | .chatterEnd idx => Sys2Proof.Machine.execChatterEnd idx s
  | .diStuck idx => Sys2Proof.Machine.execDiStuck idx s
  | .fieldLow => Sys2Proof.Machine.execFieldLow s
  | .fieldOkReturn time => Sys2Proof.Machine.execFieldOkReturn time s
  | .tsPop data => Sys2Proof.Machine.execTsPop data s
  | .pointWrite n data => Sys2Proof.Machine.execPointWrite n data s
  | .outputWdKick data => Sys2Proof.Machine.execOutputWdKick data s
  | .outputWdLapse => Sys2Proof.Machine.execOutputWdLapse s
  | .d2dFrameTimeout => Sys2Proof.Machine.execD2dFrameTimeout s
  | .arm data => Sys2Proof.Machine.execArm data s
  | .autoarm => Sys2Proof.Machine.execAutoarm s
  | .ethFrameReceive p frame fcsOk time corr unc => Sys2Proof.Machine.execEthFrameReceive p frame fcsOk time corr unc s
  | .ethLinkUp p speed => Sys2Proof.Machine.execEthLinkUp p speed s
  | .ethLinkDown p => Sys2Proof.Machine.execEthLinkDown p s
  | .txtsPop p data => Sys2Proof.Machine.execTxtsPop p data s
  | .timeStep data => Sys2Proof.Machine.execTimeStep data s
  | .tsuRateWrite data => Sys2Proof.Machine.execTsuRateWrite data s
  | .timeStepApply => Sys2Proof.Machine.execTimeStepApply s
  | .timeServiceMessage hfn loop => Sys2Proof.Machine.execTimeServiceMessage hfn loop s
  | .pcieTlpReceive tlp => Sys2Proof.Machine.execPcieTlpReceive tlp s
  | .pcieItemReceive c sub item inBar => Sys2Proof.Machine.execPcieItemReceive c sub item inBar s
  | .readAheadExpire a => Sys2Proof.Machine.execReadAheadExpire a s
  | .pcieCreditSend c => Sys2Proof.Machine.execPcieCreditSend c s
  | .npTimeout c key => Sys2Proof.Machine.execNpTimeout c key s
  | .vdspReset kind c => Sys2Proof.Machine.execVdspReset kind c s
  | .pcieResetRequest => Sys2Proof.Machine.execPcieResetRequest s
  | .perstRelease => Sys2Proof.Machine.execPerstRelease s
  | .pcieLinkUp gen width => Sys2Proof.Machine.execPcieLinkUp gen width s
  | .pcieLinkDown => Sys2Proof.Machine.execPcieLinkDown s
  | .dpLineReceive d unit clk => Sys2Proof.Machine.execDpLineReceive d unit clk s
  | .clockPairSend d pix t => Sys2Proof.Machine.execClockPairSend d pix t s
  | .videoUnitReceive d unit lost played => Sys2Proof.Machine.execVideoUnitReceive d unit lost played s
  | .clockPairReceive d pix t err => Sys2Proof.Machine.execClockPairReceive d pix t err s
  | .clockPairLost d => Sys2Proof.Machine.execClockPairLost d s
  | .playoutUnderrun d => Sys2Proof.Machine.execPlayoutUnderrun d s
  | .auxRequest d cmd addr len data => Sys2Proof.Machine.execAuxRequest d cmd addr len data s
  | .auxMessageReceive d msg code answer => Sys2Proof.Machine.execAuxMessageReceive d msg code answer s
  | .auxReplyReceive d msg => Sys2Proof.Machine.execAuxReplyReceive d msg s
  | .auxTimeout d => Sys2Proof.Machine.execAuxTimeout d s
  | .sinkAttach d caps edid ok fec => Sys2Proof.Machine.execSinkAttach d caps edid ok fec s
  | .rootAttachReceive d msg => Sys2Proof.Machine.execRootAttachReceive d msg s
  | .sinkDetach d => Sys2Proof.Machine.execSinkDetach d s
  | .sinkIrqHpd d link ok fec vector => Sys2Proof.Machine.execSinkIrqHpd d link ok fec vector s
  | .dpTrainRetry d ok fec => Sys2Proof.Machine.execDpTrainRetry d ok fec s
  | .burst msg => Sys2Proof.Machine.execBurst msg s
  | .burstDone codes datas => Sys2Proof.Machine.execBurstDone codes datas s
  | .nakTimeout codes datas => Sys2Proof.Machine.execNakTimeout codes datas s
  | .getHubDescriptor mseq => Sys2Proof.Machine.execGetHubDescriptor mseq s
  | .getHubStatus mseq => Sys2Proof.Machine.execGetHubStatus mseq s
  | .getPortStatus mseq k => Sys2Proof.Machine.execGetPortStatus mseq k s
  | .setPortReset mseq k => Sys2Proof.Machine.execSetPortReset mseq k s
  | .setPortSuspend mseq k => Sys2Proof.Machine.execSetPortSuspend mseq k s
  | .setPortPower mseq k => Sys2Proof.Machine.execSetPortPower mseq k s
  | .setPortTest mseq k sel => Sys2Proof.Machine.execSetPortTest mseq k sel s
  | .clearPortEnable mseq k => Sys2Proof.Machine.execClearPortEnable mseq k s
  | .clearPortSuspend mseq k => Sys2Proof.Machine.execClearPortSuspend mseq k s
  | .clearPortPower mseq k => Sys2Proof.Machine.execClearPortPower mseq k s
  | .clearCPortFeature mseq k c => Sys2Proof.Machine.execClearCPortFeature mseq k c s
  | .clearTtBuffer mseq k => Sys2Proof.Machine.execClearTtBuffer mseq k s
  | .resetTt mseq k => Sys2Proof.Machine.execResetTt mseq k s
  | .portResetDone k chirp => Sys2Proof.Machine.execPortResetDone k chirp s
  | .pload mseq body => Sys2Proof.Machine.execPload mseq body s
  | .punload mseq entry => Sys2Proof.Machine.execPunload mseq entry s
  | .suspend mseq => Sys2Proof.Machine.execSuspend mseq s
  | .resume mseq => Sys2Proof.Machine.execResume mseq s
  | .resumeDone target => Sys2Proof.Machine.execResumeDone target s
  | .remoteWake k => Sys2Proof.Machine.execRemoteWake k s
  | .usbConnect k low => Sys2Proof.Machine.execUsbConnect k low s
  | .usbDisconnect k => Sys2Proof.Machine.execUsbDisconnect k s
  | .usbOvercurrent k => Sys2Proof.Machine.execUsbOvercurrent k s
  | .microframeStart ents codes datas => Sys2Proof.Machine.execMicroframeStart ents codes datas s
  | .outRecordReceive rec lost => Sys2Proof.Machine.execOutRecordReceive rec lost s
  | .orphanTimeout => Sys2Proof.Machine.execOrphanTimeout s
  | .tcAttach n src cc2 ra rp => Sys2Proof.Machine.execTcAttach n src cc2 ra rp s
  | .tcDetach n => Sys2Proof.Machine.execTcDetach n s
  | .pdMessageReceive n sop msg => Sys2Proof.Machine.execPdMessageReceive n sop msg s
  | .goodcrcTimeout n => Sys2Proof.Machine.execGoodcrcTimeout n s
  | .txreq n sop rseq msg => Sys2Proof.Machine.execTxreq n sop rseq msg s
  | .hardReset n rseq => Sys2Proof.Machine.execHardReset n rseq s
  | .sendCaps n rseq => Sys2Proof.Machine.execSendCaps n rseq s
  | .errorRecovery n rseq => Sys2Proof.Machine.execErrorRecovery n rseq s
  | .policyWaitExpire n => Sys2Proof.Machine.execPolicyWaitExpire n s
  | .srcTransitionEnd n => Sys2Proof.Machine.execSrcTransitionEnd n s
  | .vbusFault n => Sys2Proof.Machine.execVbusFault n s
  | .psTransitionTimeout n => Sys2Proof.Machine.execPsTransitionTimeout n s
  | .swapTimeout n => Sys2Proof.Machine.execSwapTimeout n s
  | .sinkTxWaitEnd n => Sys2Proof.Machine.execSinkTxWaitEnd n s
  | .feedValid f => Sys2Proof.Machine.execFeedValid f s
  | .feedLost f => Sys2Proof.Machine.execFeedLost f s
  | .feedOv f => Sys2Proof.Machine.execFeedOv f s
  | .feedOvExit f => Sys2Proof.Machine.execFeedOvExit f s
  | .reverseTurnOff f back => Sys2Proof.Machine.execReverseTurnOff f back s
  | .inputRampDone => Sys2Proof.Machine.execInputRampDone s
  | .inputRampTimeout => Sys2Proof.Machine.execInputRampTimeout s
  | .inputTrip fast => Sys2Proof.Machine.execInputTrip fast s
  | .inputRetry => Sys2Proof.Machine.execInputRetry s
  | .inputHoldClear => Sys2Proof.Machine.execInputHoldClear s
  | .inGoodLoss => Sys2Proof.Machine.execInGoodLoss s
  | .efEnable c data => Sys2Proof.Machine.execEfEnable c data s
  | .efRampDone c => Sys2Proof.Machine.execEfRampDone c s
  | .efSample v idx lim => Sys2Proof.Machine.execEfSample v idx lim s
  | .efTimerTrip c => Sys2Proof.Machine.execEfTimerTrip c s
  | .efFastTrip c => Sys2Proof.Machine.execEfFastTrip c s
  | .efFetFail c => Sys2Proof.Machine.execEfFetFail c s
  | .efFetShort c => Sys2Proof.Machine.execEfFetShort c s
  | .efPgUp c => Sys2Proof.Machine.execEfPgUp c s
  | .efPresenceChange c present => Sys2Proof.Machine.execEfPresenceChange c present s
  | .efCooldownEnd c => Sys2Proof.Machine.execEfCooldownEnd c s
  | .telemetryUpdate va vb => Sys2Proof.Machine.execTelemetryUpdate va vb s
  | .energyClear data => Sys2Proof.Machine.execEnergyClear data s
  | .energyLatch t => Sys2Proof.Machine.execEnergyLatch t s
  | .pwpAccessTimeout => Sys2Proof.Machine.execPwpAccessTimeout s
  | .domainGate d done => Sys2Proof.Machine.execDomainGate d done s
  | .drainAbort d n => Sys2Proof.Machine.execDrainAbort d n s
  | .domainWake d => Sys2Proof.Machine.execDomainWake d s
  | .domainRestore d => Sys2Proof.Machine.execDomainRestore d s
  | .doze => Sys2Proof.Machine.execDoze s
  | .ship => Sys2Proof.Machine.execShip s
  | .ulpExpire => Sys2Proof.Machine.execUlpExpire s
  | .dozeReached => Sys2Proof.Machine.execDozeReached s
  | .dozeWakeEvent src idx => Sys2Proof.Machine.execDozeWakeEvent src idx s
  | .fabPgTimeout => Sys2Proof.Machine.execFabPgTimeout s
  | .shipWake feed vbat => Sys2Proof.Machine.execShipWake feed vbat s
  | .pllHoldover => Sys2Proof.Machine.execPllHoldover s
  | .pllRelock => Sys2Proof.Machine.execPllRelock s
  | .pllUnlock k => Sys2Proof.Machine.execPllUnlock k s
  | .avsUpdate target ack => Sys2Proof.Machine.execAvsUpdate target ack s
  | .nporLow vbat => Sys2Proof.Machine.execNporLow vbat s
  | .nresetLow => Sys2Proof.Machine.execNresetLow s
  | .fabricResetRelease src faults copyA copyB idOk drbgOk => Sys2Proof.Machine.execFabricResetRelease src faults copyA copyB idOk drbgOk s
  | .bootLock ms => Sys2Proof.Machine.execBootLock ms s
  | .confirm => Sys2Proof.Machine.execConfirm s
  | .reset => Sys2Proof.Machine.execReset s
  | .load => Sys2Proof.Machine.execLoad s
  | .svnRaise => Sys2Proof.Machine.execSvnRaise s
  | .bidwrite => Sys2Proof.Machine.execBidwrite s
  | .test => Sys2Proof.Machine.execTest s
  | .pushWrite data => Sys2Proof.Machine.execPushWrite data s
  | .bootBlockReceive tag status body => Sys2Proof.Machine.execBootBlockReceive tag status body s
  | .bootBlockTimeout idx => Sys2Proof.Machine.execBootBlockTimeout idx s
  | .netBootRetry => Sys2Proof.Machine.execNetBootRetry s
  | .svcWdtWarn => Sys2Proof.Machine.execSvcWdtWarn s
  | .svcWdtLapse => Sys2Proof.Machine.execSvcWdtLapse s
  | .cirrusRelay hit => Sys2Proof.Machine.execCirrusRelay hit s
  | .rd32 path src tag addr hit => Sys2Proof.Machine.execRd32 path src tag addr hit s
  | .wr32 path src tag addr data hit => Sys2Proof.Machine.execWr32 path src tag addr data hit s
  | .wrc32 path src tag addr data hit => Sys2Proof.Machine.execWrc32 path src tag addr data hit s
  | .rdblk path src tag addr n hit => Sys2Proof.Machine.execRdblk path src tag addr n hit s
  | .wrblk path src tag addr data hit => Sys2Proof.Machine.execWrblk path src tag addr data hit s
  | .event path src words => Sys2Proof.Machine.execEvent path src words s
  | .err path src words => Sys2Proof.Machine.execErr path src words s
  | .presenceReport hub kinds ready speed width sfn => Sys2Proof.Machine.execPresenceReport hub kinds ready speed width sfn s
  | .lossReport hub mask sfn => Sys2Proof.Machine.execLossReport hub mask sfn s
  | .challenge path src tag => Sys2Proof.Machine.execChallenge path src tag s
  | .armPs path src tag auth nonce mac => Sys2Proof.Machine.execArmPs path src tag auth nonce mac s
  | .armBoot path src tag auth nonce mac => Sys2Proof.Machine.execArmBoot path src tag auth nonce mac s
  | .readStatus => Sys2Proof.Machine.execReadStatus s
  | .msgWrite b hit => Sys2Proof.Machine.execMsgWrite b hit s
  | .rspRead => Sys2Proof.Machine.execRspRead s
  | .msgWriteQ b hit => Sys2Proof.Machine.execMsgWriteQ b hit s
  | .rspReadQ => Sys2Proof.Machine.execRspReadQ s
  | .nimbusPeriod late coll xfer writes => Sys2Proof.Machine.execNimbusPeriod late coll xfer writes s
  | .coreTrap n mcause plug => Sys2Proof.Machine.execCoreTrap n mcause plug s
  | .halt n data => Sys2Proof.Machine.execHalt n data s
  | .eventArrival => Sys2Proof.Machine.execEventArrival s
  | .evqPop data => Sys2Proof.Machine.execEvqPop data s
  | .eventSourceClear idx data => Sys2Proof.Machine.execEventSourceClear idx data s
  | .tamperDetect src active => Sys2Proof.Machine.execTamperDetect src active s
  | .lcProvision => Sys2Proof.Machine.execLcProvision s
  | .lcField => Sys2Proof.Machine.execLcField s
  | .lcReturn => Sys2Proof.Machine.execLcReturn s
  | .lcEnd => Sys2Proof.Machine.execLcEnd s
  | .idEnroll => Sys2Proof.Machine.execIdEnroll s
  | .certWrite => Sys2Proof.Machine.execCertWrite s
  | .keyImport => Sys2Proof.Machine.execKeyImport s
  | .keyDestroy => Sys2Proof.Machine.execKeyDestroy s
  | .tamperClear => Sys2Proof.Machine.execTamperClear s
  | .lcReset => Sys2Proof.Machine.execLcReset s
  | .nonceDraw => Sys2Proof.Machine.execNonceDraw s
  | .slotTagCheck bad => Sys2Proof.Machine.execSlotTagCheck bad s
  | .journalUpdateDone good => Sys2Proof.Machine.execJournalUpdateDone good s
  | .journalUpdateTimeout => Sys2Proof.Machine.execJournalUpdateTimeout s
  | .trngFail => Sys2Proof.Machine.execTrngFail s
  | .trngRetest pass => Sys2Proof.Machine.execTrngRetest pass s
  | .macroScrub m word synd loc err scrub iso => Sys2Proof.Machine.execMacroScrub m word synd loc err scrub iso s
  | .captureClear c data => Sys2Proof.Machine.execCaptureClear c data s
  | .fclr data => Sys2Proof.Machine.execFclr data s
  | .marchStart ss destr first count => Sys2Proof.Machine.execMarchStart ss destr first count s
  | .marchStop => Sys2Proof.Machine.execMarchStop s
  | .marchDone faults done => Sys2Proof.Machine.execMarchDone faults done s
  | .fuseRepair data => Sys2Proof.Machine.execFuseRepair data s
  | .d2dLaneSpare lane => Sys2Proof.Machine.execD2dLaneSpare lane s
  | .d2dFrameRetry corr => Sys2Proof.Machine.execD2dFrameRetry corr s
  | .d2dFail => Sys2Proof.Machine.execD2dFail s
  | .d2dRetrain ok => Sys2Proof.Machine.execD2dRetrain ok s
  | .unlock => Sys2Proof.Machine.execUnlock s
  | .lock => Sys2Proof.Machine.execLock s
  | .debugUnlockExpire => Sys2Proof.Machine.execDebugUnlockExpire s
  | .jtagInstruction idx => Sys2Proof.Machine.execJtagInstruction idx s
  | .resetRelease src => Sys2Proof.Machine.execResetRelease src s
  | .powerPathPowerUp => Sys2Proof.Machine.execPowerPathPowerUp s
  | .bothFeedsBelow20v => Sys2Proof.Machine.execBothFeedsBelow20v s
  | .inputFetFail => Sys2Proof.Machine.execInputFetFail s
  | .psArmExpire => Sys2Proof.Machine.execPsArmExpire s
  | .bootArmExpire => Sys2Proof.Machine.execBootArmExpire s
  | .drpToggle n => Sys2Proof.Machine.execDrpToggle n s
  | .pdTimerExpiry n t => Sys2Proof.Machine.execPdTimerExpiry n t s
  | .vbusLevelReached n => Sys2Proof.Machine.execVbusLevelReached n s
  | .ccRpChange n rp => Sys2Proof.Machine.execCcRpChange n rp s
  | .sinkTxHoldTimeout n => Sys2Proof.Machine.execSinkTxHoldTimeout n s
  | .unsupportedHubRequest mseq => Sys2Proof.Machine.execUnsupportedHubRequest mseq s
  | .rteMessageMalformed msg => Sys2Proof.Machine.execRteMessageMalformed msg s
  | .serviceCommand path src tag auth body => Sys2Proof.Machine.execServiceCommand path src tag auth body s
  | .grandmasterLost => Sys2Proof.Machine.execGrandmasterLost s
  | .nirqPulseEnd => Sys2Proof.Machine.execNirqPulseEnd s

end Sys2Proof.Machine
end

