-- ==== Sys2Proof/Safety.lean ====
section
/-! DEFINITION. What the statements about the hub are made of: the form every state keeps, what a command may have changed, and when the hub
answers requests. -/
namespace Sys2Proof.Machine

/-- The sparse tables are in their one canonical form: keys strictly rising, no entry at its default. -/
def State.tablesOk (s : State) : Bool :=
  NMap.wf s.regs 0 && NMap.wf s.link Link.init && NMap.wf s.planStore 0 && NMap.wf s.routes 0 && NMap.wf s.lossMark false &&
  NMap.wf s.horizon 0 && NMap.wf s.points pointReset && NMap.wf s.pointGen 0 && NMap.wf s.dp Dp.init && NMap.wf s.tc Tc.init

/-- What every step keeps: the tables are canonical, the Event Queue holds at most 64 messages (R444), and the next message number is one of
16 bits (R443). -/
def State.Inv (s : State) : Prop := s.tablesOk = true ∧ s.evq.length ≤ 64 ∧ s.evSeq < 65536

/-- The fields that raising an event may change (R442 to R444, R447, R492). -/
def eventFields : List (Fin 1024) :=
  [EVU_SRC.STATUS.id, EVU_SRC.REPEAT.id, EVU_STATUS.COUNT.id, EVU_STATUS.OVF.id, EVU_STATUS.FC.id, EVU_LOST.COUNT.id, DBG_FCAP.MSG.id,
   DBG_FCTL.FCOUNT.id]

/-- Everything but the registers, the Event Queue, what has been put out, and the model's own counters. -/
def State.rest (s : State) : State :=
  { s with regs := [], out := [], fresh := 0, evq := [], evSeq := 0, limited := [], news := [] }

/-- Every copy of every register field but those of `l` reads in `t` as in `s`. -/
def State.keepsRegs (s t : State) (l : List (Field × Nat)) : Prop :=
  ∀ (f : Field) (i : Nat), (∀ k ∈ l, ¬ (k.1.id = f.id ∧ k.2 = i)) → t.rd f i = s.rd f i

/-- The same, but for the fields that raising an event may change. -/
def State.keepsButEvents (s t : State) (l : List (Field × Nat)) : Prop :=
  ∀ (f : Field) (i : Nat), f.id ∉ eventFields → (∀ k ∈ l, ¬ (k.1.id = f.id ∧ k.2 = i)) → t.rd f i = s.rd f i

/-- From `s` to `t` nothing has changed but the fields of `l`: no other register, no event, nothing put out. -/
def State.onlyRegs (s t : State) (l : List (Field × Nat)) : Prop := t = { s with regs := t.regs } ∧ s.keepsRegs t l

/-- From `s` to `t` nothing has changed but the fields of `l`, and a request has been answered with `o`. -/
def State.onlyAnswer (s t : State) (l : List (Field × Nat)) (o : Out) : Prop :=
  t = { s with regs := t.regs, out := s.out ++ [o] } ∧ s.keepsRegs t l

/-- From `s` to `t` nothing has changed but the fields of `l`, the event unit with its queue, and what has been put out. -/
def State.onlyEvents (s t : State) (l : List (Field × Nat)) : Prop := t.rest = s.rest ∧ s.keepsButEvents t l

/-- The hub as a command finds it that other blocks may have to answer: with no news left over. In every state that a command of this kind
has left, it is the state itself. -/
def State.calm (s : State) : State := { s with news := [] }

/-- Every VALID entry of the route table lies at one of the two candidate indices of its key (R78). -/
def State.routesPlaced (s : State) : Prop :=
  ∀ i, i < 32768 → s.routeValid i = true → i = routeH0 (s.route i 0) ∨ i = routeH1 (s.route i 0) (s.rd TUN_RSEED.SEED)

/-- A management access to address `a` reaches its block: the hub runs, start-up is over (R400), and the power domain of the address is
powered and, for a write, restored (R382 to R386). -/
def State.serves (s : State) (a : Nat) (write : Bool) : Prop :=
  s.chip.phase = .running ∧ s.rd BOOT_STATUS.MODE ≠ 0 ∧ s.rd (dstat (s.domainOf a)) = 0 ∧
  (write = true → s.awaitsRestore (s.domainOf a) = false)

end Sys2Proof.Machine
end

