-- ==== Sys2Proof/Certificates/Slice0/Obligations.lean ====
section
/-! DEFINITION. The statements about the hub. -/
open Sys2Proof Sys2Proof.Machine

/-- A step is exec of the command at the front of the queue. That an empty queue idles is the model's choice (log entry 2). -/
def Obligations.StepTakesFront : Prop :=
  (∀ (c : Instr) (l : List Instr) (s : State), step { s with pending := c :: l } = exec c { s with pending := l }) ∧
  (∀ s : State, s.pending = [] → step s = .next s)

/-- Every command has a next state in every state. -/
def Obligations.EveryCommandCompletes : Prop :=
  (∀ (c : Instr) (s : State), ∃ t, exec c s = .next t) ∧ (∀ s : State, ∃ t, step s = .next t)

/-- The queue, the record of what was put out (log entry 10) and the counter of free values (log entry 3). -/
def Obligations.QueueAndRecordKept : Prop :=
  (∀ (c : Instr) (s t : State), exec c s = .next t → t.pending = s.pending ∧ (∃ o, t.out = s.out ++ o) ∧ s.fresh ≤ t.fresh) ∧
  (∀ s t : State, step s = .next t → t.pending = s.pending.tail ∧ (∃ o, t.out = s.out ++ o) ∧ s.fresh ≤ t.fresh)

/-- What every step keeps. -/
def Obligations.StepKeepsInv : Prop := ∀ s t : State, s.Inv → step s = .next t → t.Inv

/-- The state right after reset. -/
def Obligations.ResetState : Prop :=
  State.reset.Inv ∧ State.reset.pending = [] ∧ State.reset.out = [] ∧ State.reset.evq = [] ∧
  (∀ (f : Field) (i : Nat), State.reset.rd f i = f.resetAt i) ∧
  (∀ p : Fin 4, State.reset.linkSt p.val = LinkSt.DISABLED) ∧
  (∀ i : Fin 1024, State.reset.rd EVU_SRC.SEV i.val = (Ev.severity? i.val).getD 0) ∧
  State.reset.rd EVU_STATUS.COUNT = 0

/-- R5 to R7, R10, R11: management writes by field type. A command begins with no news of an earlier one. -/
def Obligations.RegisterWriteTypes : Prop :=
  (∀ (s : State) (addr data : Word) (hit : Fin 3), s.chip.phase = .running → badAddr addr.toNat = true →
    exec (.registerWrite addr data hit) s = .next (s.calm.answer St.ADDR)) ∧
  (∀ (s : State) (addr data : Word) (hit : Fin 3) (d : RegDesc) (i : Nat), s.serves addr.toNat true → addr.toNat % 4 = 0 →
    findWindow addr.toNat = none → findReg addr.toNat = some (d, i) → allWrites.lookup d.base = none → d.base ≠ Reg.BOOT_CMD.base →
    d.base ≠ Reg.BOOT_PUSHDATA.base → inUsb addr.toNat = false → inPwp addr.toNat = false →
    let lock := d.fields.any (fun f => s.locks f i data.toNat)
    let bad := d.reservedSet data.toNat || d.fields.any (fun f => f.badCount data.toNat)
    let out := d.fields.any (fun f => f.outOfRange data.toNat)
    (lock = true → exec (.registerWrite addr data hit) s = .next (s.calm.answer St.STATE)) ∧
    (lock = false → bad = true → exec (.registerWrite addr data hit) s = .next (s.calm.answer St.VALUE)) ∧
    (lock = false → bad = false → out = true → exec (.registerWrite addr data hit) s = .next (s.calm.answer St.RANGE)) ∧
    (lock = false → bad = false → out = false → ∃ t, exec (.registerWrite addr data hit) s = .next t ∧
      s.calm.onlyAnswer t (d.fields.map (fun f => (f, i))) (.status St.OK []) ∧
      ∀ f ∈ d.fields,
        (f.kind = .rw ∨ f.kind = .rwl → t.rd f i = f.of data.toNat) ∧
        (f.kind = .w1c ∨ f.kind = .rs → ∀ b, b < f.width → (t.rd f i).testBit b = ((s.rd f i).testBit b && !(f.of data.toNat).testBit b)) ∧
        (f.kind = .cnt → t.rd f i = 0) ∧
        (f.kind = .ro ∨ f.kind = .wo → t.rd f i = s.rd f i))) ∧
  (∀ d ∈ regMap, (d.fields.map (fun f => f.id)).Nodup ∧ d.fields.all (fun f => decide (f.lsb + f.width ≤ 32)) = true ∧
    d.fields.Pairwise (fun f g => f.lsb + f.width ≤ g.lsb ∨ g.lsb + g.width ≤ f.lsb))

/-- R38, R63, R66: the plan window and the two plan commands. -/
def Obligations.PlanTables : Prop :=
  (∀ (s : State) (addr data : Word), addr.toNat % 4 = 0 → 0x1C0000 ≤ addr.toNat → addr.toNat < 0x1E0000 → s.serves addr.toNat true →
    let p := s.rd PLN_WINSEL.PORT
    let dir := s.rd PLN_WINSEL.DIR
    let plan := (addr.toNat - 0x1C0000) / 0x2000
    let slot := addr.toNat % 0x2000 / 4 * 2
    (s.planBusy p plan = true → exec (.planWindowWrite addr data) s = .next (s.answer St.STATE)) ∧
    (s.planBusy p plan = false → ∃ t, exec (.planWindowWrite addr data) s = .next t ∧
      t.planEntry p dir plan slot = data.toNat % 65536 ∧ t.planEntry p dir plan (slot + 1) = data.toNat / 65536 ∧
      (∀ k, k ≠ planKey p dir plan slot → k ≠ planKey p dir plan (slot + 1) → NMap.get t.planStore 0 k = NMap.get s.planStore 0 k) ∧
      t.rd (validField dir) (p * 16 + plan) = 0 ∧ s.keepsRegs t [(validField dir, p * 16 + plan)] ∧
      t = { s with regs := t.regs, planStore := t.planStore, out := s.out ++ [.status St.OK []] })) ∧
  (∀ (s : State) (data : Word), s.serves Reg.PLN_CMD.base true → planCmdBad data.toNat 2 = false →
    let p := bits data.toNat 8 2
    let q := bits data.toNat 12 4
    (s.planBusy p q = true → exec (.invalidate data) s = .next (s.answer St.STATE)) ∧
    (s.planBusy p q = false → ∃ t, exec (.invalidate data) s = .next t ∧ t.rd PLN_PDESC.TXVALID (p * 16 + q) = 0 ∧
      t.rd PLN_PDESC.RXVALID (p * 16 + q) = 0 ∧
      s.onlyAnswer t [(PLN_PDESC.TXVALID, p * 16 + q), (PLN_PDESC.RXVALID, p * 16 + q)] (.status St.OK []))) ∧
  (∀ (s : State) (data : Word), s.serves Reg.PLN_CMD.base true → planCmdBad data.toNat 1 = false →
    let p := bits data.toNat 8 2
    let q := bits data.toNat 12 4
    ∃ t, exec (.validate data) s = .next t ∧
      t.rd PLN_PDESC.TXVALID (p * 16 + q) = (if (s.validateTable p 0 q).check = 0 then 1 else 0) ∧
      t.rd PLN_PDESC.RXVALID (p * 16 + q) = (if (s.validateTable p 1 q).check = 0 then 1 else 0) ∧
      t.rest = s.rest ∧ ∃ c, t.out = s.out ++ [.status c []])

/-- R29, R31, R41, R44 to R46: what slots and superframes do. -/
def Obligations.SuperframeTraffic : Prop :=
  (∀ s : State, s.sfStarted = true → (s.sfn + 1) % 256 ≠ 0 →
    exec .superframeStart s = .next (({ s with treeTime := (s.treeTime + ((2 ^ 32 + sgn 32 s.eth.tsu.rate) * 5120 : Int).toNat) % 2 ^ 96 }).wr
      PLN_SFN.SFN ((s.sfn + 1) % 2 ^ 32))) ∧
  (∀ (s : State) (p : Fin 4) (b : List Byte) (via : Nat), s.linkSt p.val = LinkSt.ALIGN → s.isUpPort p.val = false →
    (Sync.ofPayload b).zone = s.rd GLB_ZONE.ZONE →
    ∃ t, exec (.syncReceive p (some b) via) s = .next t ∧ t.rd JXP_RXMAP.MAP p.val = (Sync.ofPayload b).map % 2 ^ 32 ∧
      (t.lk p.val).syncOk = true ∧ (t.lk p.val).plan.lastSfn = (Sync.ofPayload b).sfn ∧ s.keepsRegs t [(JXP_RXMAP.MAP, p.val)] ∧
      t = { s with regs := t.regs, link := t.link, news := [] } ∧ ∀ q, q ≠ p.val → t.lk q = s.lk q) ∧
  (∀ (s : State) (p : Fin 4), s.linkActive p.val = true → 3 ≤ (s.lk p.val).plan.syncFails → s.isUpPort p.val = false →
    s.substDue p.val (((s.lk p.val).plan.lastSfn + 1) % 2 ^ 32) = [] →
    ∃ u : State, exec (.syncLost p) s = .next u.settled ∧ u.rd JXK_STATUS.STATE p.val = LinkSt.RECOVER ∧ (0, p.val) ∈ u.news) ∧
  (∀ (s : State) (p : Fin 4) (slot : Nat), s.linkSt p.val = LinkSt.ALIGN → slot < s.slotsPerSf p.val →
    (s.lk p.val).plan.provisional = false → s.entry p.val 0 (s.txTableFor p.val slot) slot = 0xFFE →
    exec (.slotCommit p slot) s = .next (s.calm.putSync p.val)) ∧
  (∀ (s : State) (p : Fin 4) (slot : Nat) (i : RxItem), (s.lk p.val).rxStage = [i] → i.slot = slot → i.held = false → i.iso = false →
    s.tunValid i.tix = false →
    exec (.flitPresentation p slot) s = .next ((s.modLk p.val (fun l => { l with rxStage := [] })).xmiss p.val)) ∧
  (∀ (s : State) (p : Fin 4) (i : TxItem) (q : Nat), s.linkActive p.val = true → (s.lk p.val).txq = [i] → i.iso = true → i.rx = some q →
    s.ownsDeparture p.val i.tix (s.slotAfter p.val i.due) = false →
    exec (.isoDeparture p i.tix) s = .next (((s.modLk p.val (fun l => { l with txq := [] })).xmiss p.val).isoLoss q i.tix)) ∧
  (∀ (s : State) (p : Fin 4) (i : TxItem), s.linkActive p.val = true → s.isIso i.tix = false → (s.lk p.val).txq = [i] → i.rx.isSome = true →
    s.ownSlotAfter p.val i.tix i.due = none →
    exec (.guarDeparture p i.tix) s = .next ((s.modLk p.val (fun l => { l with txq := [] })).xmiss p.val))

/-- R49, R50, R53: the two ends of a plan shift. -/
def Obligations.PlanShiftMessages : Prop :=
  (∀ (s : State) (p : Fin 4) (y : List Byte), s.linkActive p.val = true → s.isUpPort p.val = false →
    exec (.frontReqReceive p y) s = .next (s.sendNack p.val (Front.ofPayload y) St.STATE)) ∧
  (∀ (s : State) (p : Fin 4) (y : List Byte), let f := Front.ofPayload y
    s.linkActive p.val = true → s.isUpPort p.val = true → f.zoneShift = false → hfnAtLeast f.effect s.hfn 1 = true →
    s.on PLN_LSTAT.PEND p.val = false → s.on PLN_PDESC.TXVALID (p.val * 16 + f.plan) = true →
    s.on PLN_PDESC.RXVALID (p.val * 16 + f.plan) = true → f.variant = s.variantOf p.val → f.digTx = s.digRx p.val f.plan →
    f.digRx = s.digTx p.val f.plan →
    ∃ t, exec (.frontReqReceive p y) s = .next t ∧ t.rd PLN_LSTAT.PEND p.val = 1 ∧ t.rd PLN_LSTAT.PTARGET p.val = f.plan % 16 ∧
      t.rd PLN_LHFN.PEFFECT p.val = f.effect % 2 ^ 24 ∧ (t.lk p.val).plan.fseq = f.fseq ∧
      (t.lk p.val).ctl = (s.lk p.val).ctl ++ [{ kind := Kind.FRONT, sequenced := false, payload := fit 24 (Front.payload { f with op := 2, status := 0, digTx := s.digTx p.val f.plan, digRx := s.digRx p.val f.plan }) }] ∧
      t = { s with regs := t.regs, link := t.link } ∧ (∀ q, q ≠ p.val → t.lk q = s.lk q) ∧
      s.keepsRegs t [(PLN_LSTAT.PEND, p.val), (PLN_LSTAT.PTARGET, p.val), (PLN_LHFN.PEFFECT, p.val)]) ∧
  (∀ (s : State) (p : Fin 4) (y : List Byte), let f := Front.ofPayload y
    let q := s.rd PLN_LSTAT.PTARGET p.val
    s.on PLN_LSTAT.PEND p.val = true → (s.lk p.val).plan.requested = true → (s.lk p.val).plan.committed = false →
    f.fseq = (s.lk p.val).plan.fseq → hfnAtLeast (s.rd PLN_LHFN.PEFFECT p.val) s.hfn 2 = true → f.digTx = s.digRx p.val q →
    f.digRx = s.digTx p.val q →
    exec (.frontAckReceive p y) s = .next (s.modPlan p.val (fun a => { a with committed := true }))) ∧
  (∀ (s : State) (p : Fin 4) (y : List Byte), let f := Front.ofPayload y
    s.on PLN_LSTAT.PEND p.val = true → (s.lk p.val).plan.requested = true → (s.lk p.val).plan.committed = false →
    (s.lk p.val).plan.zone = false → f.fseq = (s.lk p.val).plan.fseq →
    ∃ t, exec (.frontNackReceive p y) s = .next t ∧ t.rd PLN_LSTAT.PEND p.val = 0 ∧
      t.rd PLN_FRONTERR.NACKS p.val = satAdd PLN_FRONTERR.NACKS.width (s.rd PLN_FRONTERR.NACKS p.val) 1 % 2 ^ PLN_FRONTERR.NACKS.width ∧
      (s.on EVU_SRC.STATUS Ev.PLN_FRONT_FAIL = true ∨ t.rd EVU_SRC.STATUS Ev.PLN_FRONT_FAIL = 1)) ∧
  (∀ (s : State) (p : Fin 4),
    s.on PLN_LSTAT.PEND p.val = true → (s.lk p.val).plan.requested = true → (s.lk p.val).plan.committed = false →
    (s.lk p.val).plan.zone = false → hfnAtLeast (s.rd PLN_LHFN.PEFFECT p.val) s.hfn 2 = false →
    ∃ t, exec (.frontAckDeadline p) s = .next t ∧ t.rd PLN_LSTAT.PEND p.val = 0 ∧
      (s.on EVU_SRC.STATUS Ev.PLN_FRONT_FAIL = true ∨ t.rd EVU_SRC.STATUS Ev.PLN_FRONT_FAIL = 1)) ∧
  (∀ (s : State) (p : Fin 4), s.on PLN_LSTAT.PEND p.val = true → (s.lk p.val).plan.committed = true →
    s.hfn = s.rd PLN_LHFN.PEFFECT p.val →
    ∃ u : State, exec (.planShiftEffect p) s = .next u.settled ∧ u.rd PLN_LSTAT.PLAN p.val = s.rd PLN_LSTAT.PTARGET p.val % 16 ∧
      u.rd PLN_LSTAT.BOOT p.val = 0 ∧ u.rd PLN_LSTAT.PEND p.val = 0 ∧ (2, p.val) ∈ u.news) ∧
  (∀ (s : State) (p : Fin 4) (data : Word), let q := bits data.toNat 0 4
    let lead := bits data.toNat 8 7
    s.serves (Reg.PLN_LSHIFT.addr p.val 0) true → bits data.toNat 4 4 = 0 → bits data.toNat 15 16 = 0 → bitAt data.toNat 31 = true →
    2 ≤ lead → lead ≤ 64 → s.isUpPort p.val = false → s.linkActive p.val = true → s.on PLN_LSTAT.PEND p.val = false →
    s.planUsable p.val q = true →
    exec (.linkShiftGo p data) s = .next ((s.sendReq p.val q ((s.hfn + lead) % 2 ^ 24) (s.rd PLN_STATUS.GROUP) false).answer St.OK))

/-- R56 to R60. -/
def Obligations.ZoneShift : Prop :=
  (∀ (s : State) (data : Word), s.serves Reg.PLN_ZSHIFT.base true → bits data.toNat 4 27 = 0 → bitAt data.toNat 31 = true →
    (s.isRoot = false → exec (.zshiftGo data) s = .next (s.answer St.STATE)) ∧
    (s.isRoot = true → s.on PLN_STATUS.ZPEND = false → (∀ p, s.linkActive p = false) →
      exec (.zshiftGo data) s = .next ((s.startZoneShift (bits data.toNat 0 4)).answer St.OK))) ∧
  (∀ (s : State) (p : Fin 4), (s.lk p.val).plan.waitZone = true → s.on PLN_LSTAT.PEND p.val = false →
    (hfnAtLeast (s.lk p.val).plan.waitEffect s.hfn 2 = true → exec (.zoneReqForward p) s =
      .next ((s.modPlan p.val (fun a => { a with waitZone := false })).zoneReqOn p.val (s.lk p.val).plan.waitGroup (s.lk p.val).plan.waitEffect)) ∧
    (hfnAtLeast (s.lk p.val).plan.waitEffect s.hfn 2 = false → ∃ t, exec (.zoneReqForward p) s = .next t ∧
      (t.lk p.val).plan.waitZone = false ∧ (t.lk p.val).plan.missed = true ∧
      (s.on EVU_SRC.STATUS Ev.PLN_ZONE_LATE = true ∨ t.rd EVU_SRC.STATUS Ev.PLN_ZONE_LATE = 1))) ∧
  (∀ (s : State) (p : Fin 4), (s.lk p.val).plan.missed = true → hfnAtLeast (s.lk p.val).plan.missedAt s.hfn 0 = false →
    s.isUpPort p.val = false → s.linkActive p.val = false →
    exec (.zoneShiftCatchup p) s = .next (s.modPlan p.val (fun a => { a with missed := false }))) ∧
  (∀ s : State, s.isRoot = true → s.on PLN_CTRL.SEL_EN = true → s.on BOOT_STATUS.LOCK = true → s.on PLN_STATUS.ZPEND = false →
    (∀ i, i < 256 → s.selMatches s.presence i = false) →
    exec .selectorEvaluate s = .next ((s.wr PLN_STATUS.SELMATCH 0).raise Ev.PLN_SEL_NOMATCH)) ∧
  (∀ (s : State) (hub : Fin 64), s.isRoot = true → hub.val ≠ 0 →
    exec (.presenceBackstop hub) s = .next (s.hubAbsent hub.val))

/-- R39, R69, R71, R72: TUNNEL_ENTRY_WRITE. -/
def Obligations.TunnelEntryWrites : Prop :=
  (∀ (s : State) (addr data : Word), addr.toNat % 4 = 0 → inTunnelTable addr.toNat = true → s.serves addr.toNat true →
    let x := (addr.toNat - 0x220000) / 16
    let w := addr.toNat % 16 / 4
    (x = 0 → w = 0 → (data.toNat &&& 0xFFFBFFFF) = (s.readReg Reg.TUN_ENT0 0 &&& 0xFFFBFFFF) →
      exec (.tunnelEntryWrite addr data) s = .next ((s.wr TUN_ENT0.LEND (TUN_ENT0.LEND.of data.toNat) 0).answer St.OK)) ∧
    (x = 0 → w ≠ 0 ∨ (data.toNat &&& 0xFFFBFFFF) ≠ (s.readReg Reg.TUN_ENT0 0 &&& 0xFFFBFFFF) →
      exec (.tunnelEntryWrite addr data) s = .next (s.answer St.STATE)) ∧
    (x ≠ 0 → s.tablesNaming x = [] → (tunWordReg w).reservedSet data.toNat = false →
      let t := s.writeFields (tunWordReg w) x data.toNat
      t.entryBadValue x = false → t.entryBadRange x = false → t.entryConflict x = false → (∀ p, p < 4 → t.stageSum p ≤ 2048) →
      exec (.tunnelEntryWrite addr data) s = .next (t.noteStage.answer St.OK))) ∧
  (∀ (s : State) (addr data : Word), s.chip.phase = .running → addr.toNat % 4 ≠ 0 ∨ inTunnelTable addr.toNat = false →
    exec (.tunnelEntryWrite addr data) s = .next (s.answer St.ADDR))

/-- R78, R80, R98: the route table's candidates, LOOKUP, DELETE and READ. -/
def Obligations.RouteCommands : Prop :=
  routeH0 0x20000105 = 7075 ∧ routeH1 0x20000105 0 = 23129 ∧
  (∀ key seed, routeH0 key < 16384 ∧ 16384 ≤ routeH1 key seed ∧ routeH1 key seed < 32768) ∧
  (∀ (s : State) (data : Word), s.serves Reg.TUN_RCMD.base true → let key := s.rd TUN_RBUF.WORD 0
    (∀ i, rcmdBad data.toNat 1 = false → s.routeFind key = some i →
      exec (.routeLookup data) s = .next (((s.wr TUN_RRES.INDEX i).wr TUN_RRES.STATUS St.OK).answer St.OK)) ∧
    (s.routeFind key = none → exec (.routeLookup data) s = .next ((s.wr TUN_RRES.STATUS St.VALUE).answer St.VALUE)) ∧
    (∀ i, rcmdBad data.toNat 3 = false → s.routeFind key = some i →
      exec (.routeDelete data) s = .next ((((s.clearRoute i).wr TUN_RSTAT.COUNT (s.rd TUN_RSTAT.COUNT - 1)).wr TUN_RRES.STATUS St.OK).answer St.OK) ∧
      (∀ w, w < 4 → (s.clearRoute i).route i w = 0) ∧ (∀ j w, w < 4 → j ≠ i → (s.clearRoute i).route j w = s.route j w)) ∧
    (s.routeFind key = none → exec (.routeDelete data) s = .next ((s.wr TUN_RRES.STATUS St.VALUE).answer St.VALUE)) ∧
    (rcmdBad data.toNat 4 = false → let j := TUN_RCMD.INDEX.of data.toNat
      exec (.routeRead data) s = .next ((((((s.wr TUN_RBUF.WORD (s.route j 0) 0).wr TUN_RBUF.WORD (s.route j 1) 1).wr TUN_RBUF.WORD
        (s.route j 2) 2).wr TUN_RBUF.WORD (s.route j 3) 3).wr TUN_RRES.STATUS St.OK).answer St.OK)))

/-- R78, R80: INSERT. -/
def Obligations.RouteInsert : Prop :=
  ∀ (s : State) (data : Word), s.serves Reg.TUN_RCMD.base true →
    let key := s.rd TUN_RBUF.WORD 0
    let st := s.insertStatus (rcmdBad data.toNat 2)
    ∃ t, exec (.routeInsert data) s = .next t ∧ t.out = s.out ++ [.status st []] ∧
      (s.routesPlaced → t.routesPlaced) ∧
      (st ≠ St.OK → t.routes = s.routes) ∧
      (s.routesPlaced → st = St.OK → (t.routeFind key).isSome = true ∧ ∀ k, (s.routeFind k).isSome = true → (t.routeFind k).isSome = true) ∧
      (rcmdBad data.toNat 2 = false → s.rbufBad = false → (s.routeFind key).isSome = true → st = St.CONFLICT) ∧
      (rcmdBad data.toNat 2 = false → s.rbufBad = false → s.routeFind key = none → s.insertChain key = none → st = St.NOSPACE)

/-- R68, R75, R88, R93. -/
def Obligations.TunnelEnds : Prop :=
  (∀ (s : State) (u : TunUnit) (r : List TunUnit), s.tun.inbox = u :: r → u.kind = 0 → let s' := s.modTun (fun t => { t with inbox := r })
    (u.bad = true → u.ep ≠ 0x11 → exec .tunnelFrameReceive s = .next (s'.swDrop u.port Drop.FORMAT)) ∧
    (u.bad = false → lenFits u.bytes (u.bytes.length / 24) = false → exec .tunnelFrameReceive s = .next (s'.swDrop u.port Drop.FORMAT)) ∧
    (u.bad = false → lenFits u.bytes (u.bytes.length / 24) = true → leAt u.bytes 0 2 = 1 ∨ (s.tixOf (leAt u.bytes 0 2)).isSome = true → u.ep = 0x10 →
      exec .tunnelFrameReceive s = .next (s'.modTun (fun t => { t with cirrusIn := t.cirrusIn ++
        [{ u with bytes := (u.bytes.drop 8).take (tunLen u.bytes) }] })))) ∧
  (∀ (s : State) (i : Fin 64), s.on TUN_PMAP0.VALID i.val = true → s.on TUN_PMAP0.DIR i.val = true → s.on TUN_PMAP2.TIMEOUT i.val = true →
    exec (.pointImageTimeout i) s = .next ((s.setQuality (s.rd TUN_PMAP1.BASE i.val) (s.rd TUN_PMAP1.COUNT i.val) 0xE).raise Ev.TUN_PIMG_LOST i.val)) ∧
  (∀ (s : State) (e : Fin 16) (data : Word), s.serves (Reg.TUN_PELOG3.addr e.val 0) true → Reg.TUN_PELOG3.reservedSet data.toNat = false →
    TUN_PELOG3.VALID.of data.toNat = 1 →
    exec (.pelogEntryClear e data) s = .next ((((s.wr TUN_PELOG3.VALID (s.rd TUN_PELOG3.VALID e.val - (s.rd TUN_PELOG3.VALID e.val &&& 1)) e.val).modTun
      (fun t => { t with peOrder := t.peOrder.filter (fun x => x != e.val), peFull := false })).peStat).answer St.OK))

/-- R124 to R126: lane requests. -/
def Obligations.LaneRequests : Prop :=
  (∀ (s : State) (p : Fin 4) (y : List Byte), let m := LaneMsg.ofPayload y
    s.linkActive p.val = true →
    (s.laneReqStatus p.val m = St.OK → exec (.laneReqReceive p y) s = .next ((s.modLane p.val (fun a =>
      { a with substTx := a.substTx.filter (fun r => r.logical != m.logical) ++ [⟨m.logical, m.src, m.dst, m.effect⟩] })).pushCtl p.val Kind.CONTROL
        (LaneMsg.payload { m with code := 0x11, status := 0 }) false)) ∧
    (s.laneReqStatus p.val m ≠ St.OK → exec (.laneReqReceive p y) s = .next (s.pushCtl p.val Kind.CONTROL
      (LaneMsg.payload { m with code := 0x12, status := s.laneReqStatus p.val m }) false))) ∧
  (∀ (s : State) (p : Fin 4) (y : List Byte), let m := LaneMsg.ofPayload y
    exec (.laneAckReceive p y) s = .next ((s.modLane p.val (fun a => { a with substRx := a.substRx.map (fun r =>
      if r.lseq = m.lseq ∧ r.logical = m.logical then { r with acked := true } else r) })).wr JXP_STATUS.PENDING (s.lk p.val).lane.substRx.length p.val)) ∧
  (∀ (s : State) (p : Fin 4) (y : List Byte) (r : SubstRx), let m := LaneMsg.ofPayload y
    (s.lk p.val).lane.substRx = [r] → r.lseq = m.lseq → r.logical = m.logical → r.used = none → s.subFails p.val r.logical < 2 →
    let n : SubstRx := ⟨r.logical, r.src, r.dst, (s.sfn + 4) % 2 ^ 32, s.nextLseq p.val, false, [], none⟩
    exec (.laneNackReceive p y) s = .next (((((s.calm.setSubFails p.val r.logical (s.subFails p.val r.logical + 1)).setSubst p.val []).setSubst p.val
      [n]).usedLseq p.val).sendLaneReq p.val n false)) ∧
  (∀ (s : State) (p : Fin 4) (r : SubstTx), (s.lk p.val).lane.substTx = [r] → r.effect = s.sfn →
    exec (.laneSubstEffect p) s = .next ((s.wr JXP_TXMAP.MAP (setMapLane (s.rd JXP_TXMAP.MAP p.val) r.logical r.dst) p.val).modLane p.val
      (fun a => { a with substTx := [] }))) ∧
  (∀ (s : State) (p : Fin 4), (s.lk p.val).lane.substRx = [] → exec (.substComplete p) s = .next s.calm) ∧
  (∀ (s : State) (p : Fin 4) (r : SubstRx), (s.lk p.val).lane.substRx = [r] → r.used = some r.dst → s.sfn = (r.effect + 1) % 2 ^ 32 →
    r.effect < 2 ^ 32 → (s.lk p.val).lane.waiting = [] →
    exec (.substComplete p) s = .next ((s.calm.finishSubst p.val r).startWaiting p.val))

/-- R121, R122, R127, R128, R131, R133: lanes that fail and come back. -/
def Obligations.LaneRecovery : Prop :=
  (∀ (s : State) (p : Fin 4) (k : Fin 10) (cause : Fin 6), cause.val ≠ 0 → s.causeHolds p.val k.val cause.val = true →
    s.laneSt p.val k.val = LaneSt.DATA → s.rd JXP_STATUS.FAILS p.val ≤ 1 → s.on JXP_STATUS.NARROW p.val = false →
    let u := ((s.calm.wr JXP_LHEALTH.CAUSE cause.val (laneIx p.val k.val)).wr JXP_STATUS.FAILS (s.rd JXP_STATUS.FAILS p.val + 1) p.val).raise
      (Ev.JXP_LANE_FAIL p.val) (k.val + 16 * cause.val)
    (s.linkActive p.val = false → exec (.laneFail p k cause) s = .next (u.exclude p.val k.val)) ∧
    (s.linkActive p.val = true → (u.setLane p.val k.val LaneSt.FAILING).substStart p.val = .started →
      exec (.laneFail p k cause) s = .next ((u.setLane p.val k.val LaneSt.FAILING).startSubst p.val k.val))) ∧
  (∀ (s : State) (p : Fin 4) (k : Fin 16), s.serves (Reg.JXP_CMD.addr p.val 0) true → k.val < 10 →
    (s.laneSt p.val k.val = LaneSt.DATA → s.spareCount p.val ≠ 0 → s.linkActive p.val = false → exec (.fence p k) s = .next ((((s.calm.wr
      JXP_LHEALTH.CAUSE 6 (laneIx p.val k.val)).raise (Ev.JXP_LANE_FAIL p.val) (k.val + 96)).exclude p.val k.val).answer St.OK)) ∧
    (s.laneSt p.val k.val ≠ LaneSt.DATA → s.laneSt p.val k.val ≠ LaneSt.SPARE → exec (.fence p k) s = .next (s.calm.answer St.STATE)) ∧
    (s.laneSt p.val k.val = LaneSt.PASSED → exec (.restore p k) s = .next ((s.setLane p.val k.val LaneSt.SPARE).answer St.OK)) ∧
    (s.laneSt p.val k.val ≠ LaneSt.PASSED → exec (.restore p k) s = .next (s.answer St.STATE))) ∧
  (∀ (s : State) (p : Fin 4) (k : Fin 10), s.laneSt p.val k.val = LaneSt.PROBATION →
    exec (.probationPass p k) s = .next (((s.setProbFails p.val k.val 0).setLane p.val k.val
      (if s.on JXP_CTRL.AUTO_RESTORE p.val then LaneSt.SPARE else LaneSt.PASSED)).raise (Ev.JXP_PROB_PASS p.val) k.val) ∧
    (let n := NMap.get (s.lk p.val).lane.probFails 0 k.val + 1
     let u := (s.setProbFails p.val k.val n).raise (Ev.JXP_PROB_FAIL p.val) k.val
     (n ≤ s.rd JXP_PROBCFG.PROB_RETRY p.val → exec (.probationFail p k) s = .next u) ∧
     (s.rd JXP_PROBCFG.PROB_RETRY p.val < n →
       exec (.probationFail p k) s = .next ((u.setLane p.val k.val LaneSt.RETIRED).raise (Ev.JXP_LANE_RETIRED p.val) k.val)))) ∧
  (∀ (s : State) (p : Fin 4), s.serves (Reg.JXP_CMD.addr p.val 0) true →
    (s.linkActive p.val = false → exec (.widen p) s = .next ((((s.calm.wr JXP_STATUS.OVC_HOLD 0 p.val).wr JXP_STATUS.FAILS 0 p.val).wr
      JXP_STATUS.RATE_CAP 0 p.val).answer St.OK)) ∧
    (∃ t, exec (.resetLanes p) s = .next t ∧ t.rd JXP_STATUS.FAILS p.val = 0 ∧
      (∀ k, k < 10 → t.laneSt p.val k = if 4 ≤ s.laneSt p.val k then LaneSt.UNQUAL else s.laneSt p.val k) ∧
      t.rest = s.rest ∧ t.out = s.out ++ [.status St.OK []] ∧
      (∀ f i, i ≠ p.val → t.rd f i = s.rd f i)))

/-- R111, R113, R115, R118, R119: measurements on lanes. -/
def Obligations.LaneMeasurements : Prop :=
  (∀ (s : State) (p : Fin 4), s.serves (Reg.JXP_CMD.addr p.val 0) true →
    let empty := sgn 8 (s.rd JXP_HZRANGE.PH_MAX p.val) < sgn 8 (s.rd JXP_HZRANGE.PH_MIN p.val) ∨
      sgn 8 (s.rd JXP_HZRANGE.V_MAX p.val) < sgn 8 (s.rd JXP_HZRANGE.V_MIN p.val)
    (s.on JXP_HZSTAT.RUN p.val = true → exec (.horizonStart p) s = .next (s.answer St.BUSY)) ∧
    (s.on JXP_HZSTAT.RUN p.val = false → empty → exec (.horizonStart p) s = .next (s.answer St.RANGE)) ∧
    (s.on JXP_HZSTAT.RUN p.val = false → ¬ empty →
      (s.linkSt p.val = LinkSt.EQUALIZE → exec (.horizonStart p) s = .next ((s.modLane p.val (fun a => { a with hzHeld := true })).answer St.OK)) ∧
      (s.linkSt p.val ≠ LinkSt.EQUALIZE → exec (.horizonStart p) s = .next ((s.scanBegin p.val).answer St.OK))) ∧
    (s.on JXP_HZSTAT.RUN p.val = true → exec (.horizonStop p) s = .next (((((s.modLane p.val (fun a => { a with hzHeld := false })).wr
      JXP_HZSTAT.RUN 0 p.val).wr JXP_HZSTAT.EW 0 p.val).wr JXP_HZSTAT.EH 0 p.val).answer St.OK))) ∧
  (∀ (s : State) (p : Fin 4) (counts : List Nat), s.on JXP_HZSTAT.RUN p.val = true →
    ∃ t, exec (.horizonScanDone p counts) s = .next t ∧ t.rd JXP_HZSTAT.RUN p.val = 0 ∧ t.rd JXP_HZSTAT.DONE p.val = 1 ∧
      t.horizon = (List.zip (s.scanPoints p.val) counts).foldl (fun h e => NMap.set h 0 (hzKey p.val e.1.1 e.1.2) (min e.2 0xFFFF)) s.horizon ∧
      (0 ∉ s.scanVolts p.val → t.rd JXP_HZSTAT.EW p.val = 0) ∧ (0 ∉ s.scanPhases p.val → t.rd JXP_HZSTAT.EH p.val = 0) ∧
      (s.on EVU_SRC.STATUS (Ev.JXP_HZ_DONE p.val) = true ∨ t.rd EVU_SRC.STATUS (Ev.JXP_HZ_DONE p.val) = 1) ∧
      s.keepsButEvents t [(JXP_HZSTAT.RUN, p.val), (JXP_HZSTAT.DONE, p.val), (JXP_HZSTAT.EW, p.val), (JXP_HZSTAT.EH, p.val)]) ∧
  (∀ (s : State) (p : Fin 4) (k : Fin 10) (errs nbits : Nat), let i := laneIx p.val k.val
    (s.freeMode p.val k.val = true ∨ s.spareMode p.val k.val = true → exec (.prbsCheckerLock p k) s = .next (s.wr JXP_PRBSCTL.LOCK 1 i)) ∧
    (s.on JXP_PRBSCTL.LOCK i = true →
      let u := (((s.wr JXP_PRBSCTL.LOCK 0 i).bump JXP_PRBSCTL.LOCKLOSS i).bump JXP_PRBSERR.COUNT i errs).bump JXP_PRBSBITS.COUNT i nbits
      (s.freeMode p.val k.val = true → exec (.prbsLockLoss p k errs nbits) s = .next (u.raise (Ev.JXP_PRBS_LOCKLOSS p.val) k.val)) ∧
      (s.freeMode p.val k.val = false → exec (.prbsLockLoss p k errs nbits) s = .next u))) ∧
  (∀ (s : State) (p : Fin 4) (k : Fin 10) (data : Word), let i := laneIx p.val k.val
    (s.serves (Reg.JXP_INJ.addr p.val k.val) true → Reg.JXP_INJ.reservedSet data.toNat = false → JXP_INJ.INJCNT.of data.toNat = 0 →
      10 ≤ JXP_INJ.RATE.of data.toNat → JXP_INJ.RATE.of data.toNat ≤ 40 → JXP_INJ.MODE.of data.toNat = 1 → bitAt data.toNat 2 = true →
      exec (.errorInject p k data) s = .next ((((((s.wr JXP_INJ.MODE 1 i).wr JXP_INJ.LEN (JXP_INJ.LEN.of data.toNat) i).wr JXP_INJ.RATE
        (JXP_INJ.RATE.of data.toNat) i).wr JXP_INJ.INJCNT 0 i).invertBits p.val k.val 1).answer St.OK)) ∧
    (s.rd JXP_INJ.MODE i = 3 → exec (.injectRateBit p k) s = .next ((s.bump JXP_INJ.INJCNT i 1).emit (.act "invert bits" [p.val, k.val, 1])))) ∧
  (∀ (s : State) (p : Fin 4) (k : Fin 10) (up : Bool) (ds : List Bool), let i := laneIx p.val k.val
    (s.on JXP_RXEQ.FREEZE i = true → exec (.dfeAdapt p k up ds) s = .next s) ∧
    (s.on JXP_RXEQ.FREEZE i = false → ∃ t, exec (.dfeAdapt p k up ds) s = .next t ∧
      (t.rd JXP_DFE0.H0 i : Int) = clamp 0 255 ((s.rd JXP_DFE0.H0 i : Int) + lmsStep up (ds.getD 0 true)) ∧
      (t.rd JXP_DFE0.H1 i : Int) = clamp 0 127 ((s.rd JXP_DFE0.H1 i : Int) + lmsStep up (ds.getD 1 true)) ∧
      (∀ j, 2 ≤ j → j ≤ 8 → t.rd (dfeTap j) i = unsgn 6 (clamp (-32) 31 (sgn 6 (s.rd (dfeTap j) i) + lmsStep up (ds.getD j true)))) ∧
      s.onlyRegs t [(JXP_DFE0.H0, i), (JXP_DFE0.H1, i), (JXP_DFE1.H2, i), (JXP_DFE1.H3, i), (JXP_DFE1.H4, i), (JXP_DFE1.H5, i),
        (JXP_DFE1.H6, i), (JXP_DFE2.H7, i), (JXP_DFE2.H8, i)]))

/-- R163 to R167 and R546: leaving ACTIVE, and the ends of attempts. -/
def Obligations.LeavingActive : Prop :=
  (∀ (s : State) (p : Fin 4) (dest cause : Nat), dest < 8 →
    let u := s.leaveActive p.val dest cause
    u.linkSt p.val = dest ∧ u.rd JXK_RXSEQ.EXPECTED p.val = 0 ∧ u.rd JXK_RXSEQ.ACK_TX p.val = 0xFFE ∧ u.rd JXK_TXSEQ.ACKED p.val = 0xFFE ∧
    u.rd JXK_TXSEQ.NEWEST p.val = 0xFFE ∧ (∀ v, v < 64 → u.rd JXK_VC.AVAIL (p.val * 64 + v) = 0) ∧ u.rd PLN_LSTAT.PEND p.val = 0 ∧
    u.rd PLN_LSTAT.BOOT p.val = 1 ∧ u.rd JXK_STATUS.EPOCH p.val = 0 ∧ u.rd JXK_STATUS.KEYGEN p.val = 0 ∧
    u.rd JXK_FLUSHED.COUNT p.val = satAdd JXK_FLUSHED.COUNT.width (s.rd JXK_FLUSHED.COUNT p.val) (s.flushCount p.val) ∧
    (u.lk p.val).rbuf = [] ∧ (u.lk p.val).rxStage = [] ∧ (u.lk p.val).openq = [] ∧ (u.lk p.val).sent = [] ∧ (u.lk p.val).freed = [] ∧
    (u.lk p.val).groupsRx = [] ∧ (u.lk p.val).lane.substRx = [] ∧ (u.lk p.val).prevEpoch = s.rd JXK_STATUS.EPOCH p.val ∧
    u.on EVU_SRC.STATUS (Ev.JXK_DOWN p.val) = true ∧ u.news = s.news ++ [(0, p.val)]) ∧
  (∀ (s : State) (p : Fin 4), s.serves (Reg.JXK_CMD.addr p.val 0) true →
    (s.linkActive p.val = false → exec (.retrain p) s = .next (s.calm.answer St.STATE)) ∧
    (s.linkActive p.val = true → (s.lk p.val).rekey.isSome = true → exec (.retrain p) s = .next (s.calm.answer St.BUSY)) ∧
    (s.linkActive p.val = true → (s.lk p.val).rekey = none → exec (.retrain p) s = .next ((((s.calm.bump JXK_RETRAINS.COUNT p.val).leaveActive
      p.val LinkSt.RECOVER downRecover).answer St.OK).settled))) ∧
  (∀ (s : State) (p : Fin 4), s.linkActive p.val = true →
    exec (.peerTrainingDetect p) s = .next (((s.calm.bump JXK_RETRAINS.COUNT p.val).leaveActive p.val LinkSt.RECOVER downRecover).settled) ∧
    exec (.peerLoss p) s = .next (((s.calm.leaveActive p.val LinkSt.DETECT downPeerLoss).modLk p.val
      (fun l => { l with attempt := false })).settled) ∧
    exec (.trainingTimeout p) s = .next s ∧ exec (.recoverEnd p) s = .next s) ∧
  (∀ (s : State) (p : Fin 4), s.linkSt p.val = LinkSt.DETECT → s.on JXK_STATUS.BACKOFF p.val = false →
    exec (.peerTrainingDetect p) s = .next (s.calm.modLk p.val (fun l => { l with attempt := true }))) ∧
  (∀ (s : State) (p : Fin 4), LinkSt.EQUALIZE ≤ s.linkSt p.val → s.linkSt p.val ≤ LinkSt.AUTH →
    exec (.trainingTimeout p) s = .next (s.trainFail p.val St.TIMEOUT) ∧
    (s.trainFail p.val St.TIMEOUT).rd JXK_TRFAIL.STATE p.val = s.linkSt p.val ∧
    (s.trainFail p.val St.TIMEOUT).rd JXK_TRFAIL.STATUS p.val = St.TIMEOUT ∧
    (s.trainFail p.val St.TIMEOUT).linkSt p.val = LinkSt.DETECT ∧ (s.trainFail p.val St.TIMEOUT).rd JXK_STATUS.BACKOFF p.val = 1) ∧
  (∀ (s : State) (p : Fin 4), exec (.backoffEnd p) s = .next (s.wr JXK_STATUS.BACKOFF 0 p.val) ∧
    (s.linkSt p.val = LinkSt.RECOVER → exec (.recoverEnd p) s = .next ((s.freshAttempt p.val true).setLinkSt p.val LinkSt.EQUALIZE))) ∧
  (∀ (s : State) (p : Fin 4) (v : Fin 64), s.linkActive p.val = true → s.on JXK_STATUS.CMODE p.val = false →
    s.on JXK_VC.STALL (p.val * 64 + v.val) = true →
    exec (.creditTimeout p v) s = .next ((((s.calm.bump JXK_CTOCNT.COUNT p.val).raise (Ev.JXK_CREDIT_TIMEOUT p.val) v.val).recover p.val).settled)) ∧
  (∀ (s : State) (p : Fin 4), s.linkActive p.val = true → s.replayList p.val ≠ [] → (s.lk p.val).ackMoved = false →
    let u := (s.calm.bump JXK_REPLAYS.COUNT p.val).bump JXK_TXSEQ.EXPIRIES p.val
    (u.rd JXK_TXSEQ.EXPIRIES p.val < s.rd JXK_CTRL.REPLAY_LIM p.val → exec (.replayTimeout p) s = .next ((u.modLk p.val
      (fun l => { l with resend := s.replayList p.val })).wr JXK_STATUS.REPLAYING 1 p.val)) ∧
    (s.rd JXK_CTRL.REPLAY_LIM p.val ≤ u.rd JXK_TXSEQ.EXPIRIES p.val →
      exec (.replayTimeout p) s = .next (((u.raise (Ev.JXK_REPLAY_LIM p.val)).recover p.val).settled)))

/-- R140 to R144, R150, R151, R156: what a received flit does. -/
def Obligations.FlitReception : Prop :=
  (∀ (s : State) (p : Fin 4) (slot : Nat) (raw : List Byte) (hits : Nat), s.linkSt p.val = LinkSt.ACTIVE → slot < s.slotsPerSf p.val → slot ≠ 0 →
    rawPasses raw (s.rd JXK_STATUS.EPOCH p.val) = false →
    (rawPasses raw (s.lk p.val).prevEpoch = true → (s.lk p.val).prevEpoch ≠ 0 →
      exec (.flitReceive p slot raw hits) s = .next ((s.calm.bump JXK_EPOCHDROP.COUNT p.val).raiseOnce (Ev.JXK_STALE p.val) 0)) ∧
    (rawPasses raw (s.lk p.val).prevEpoch = false → s.rxOwner p.val slot = none →
      exec (.flitReceive p slot raw hits) s = .next ((s.calm.bump JXK_CRCERR.COUNT p.val).chargeLanes p.val hits))) ∧
  (∀ (s : State) (p : Fin 4) (slot : Nat) (raw : List Byte) (hits : Nat), let f := Flit.ofRaw raw
    let u := s.calm.takeAck p.val f.ack
    s.linkSt p.val = LinkSt.ACTIVE → slot < s.slotsPerSf p.val → rawPasses raw (s.rd JXK_STATUS.EPOCH p.val) = true →
    s.wrongLcn p.val slot f = false → (s.lk p.val).plan.provisional = false →
    (7 ≤ f.kind → exec (.flitReceive p slot raw hits) s = .next (u.bump JXK_BADKIND.COUNT p.val)) ∧
    (f.kind = Kind.IDLE → exec (.flitReceive p slot raw hits) s = .next u) ∧
    (1 ≤ f.kind → f.kind ≤ 6 → f.kind ≠ Kind.SYNC → f.kind ≠ Kind.FRONT → f.seq ≠ noSeq → (s.lk p.val).tagWait = none →
      let d := seqDist f.seq (s.rd JXK_RXSEQ.EXPECTED p.val)
      (1 ≤ d → d ≤ 2047 → exec (.flitReceive p slot raw hits) s = .next (u.bump JXK_OOS.COUNT p.val)) ∧
      (2048 ≤ d → exec (.flitReceive p slot raw hits) s = .next (u.bump JXK_DUP.COUNT p.val)))) ∧
  (∀ (s : State) (p : Fin 4) (a : Nat), a < 4095 →
    (s.unacked p.val a = false → s.takeAck p.val a = s) ∧
    (s.unacked p.val a = true → (s.takeAck p.val a).rd JXK_TXSEQ.ACKED p.val = a ∧ (s.takeAck p.val a).rd JXK_TXSEQ.EXPIRIES p.val = 0 ∧
      ∀ e ∈ ((s.takeAck p.val a).lk p.val).rbuf, e ∈ (s.lk p.val).rbuf)) ∧
  (∀ (s : State) (p : Fin 4) (t : TagWait), (s.lk p.val).tagWait = some t → s.tagVerifies p.val t.stream t.payload = false → t.after = [] →
    exec (.tagVerify p) s = .next ((s.calm.modLk p.val (fun l => { l with tagWait := none })).discardGroup p.val t.stream)) ∧
  (∀ (s : State) (p : Fin 4) (t : TagWait), (s.lk p.val).tagWait = some t → s.tagVerifies p.val t.stream t.payload = true → t.after = [] →
    t.stream = 1 → (s.rxGroup p.val 1).openHeld = [] →
    ∃ u, exec (.tagVerify p) s = .next u ∧ (u.lk p.val).tagWait = none ∧
      u.rd JXK_RXSEQ.EXPECTED p.val = seqNext (s.rd JXK_RXSEQ.EXPECTED p.val) % 4096 ∧
      u.rxGroup p.val 1 = { RxGroup.init with gctr := (s.rxGroup p.val 1).expects (byteAt t.payload 19) + 1, keygen := byteAt t.payload 19 } ∧
      s.onlyRegs { u with link := s.link, news := s.news } [(JXK_RXSEQ.EXPECTED, p.val), (JXK_RXSEQ.ACK_TX, p.val)]) ∧
  (∀ (s : State) (p : Fin 4) (y : List Byte), s.linkActive p.val = true →
    (s.on JXK_STATUS.CMODE p.val = false → ∃ t, exec (.creditReceive p y) s = .next t ∧ (∀ v, v < 16 → v < s.rd JXK_CTRL.VCS p.val →
        t.rd JXK_VC.AVAIL (p.val * 64 + v) = min 1023 (s.rd JXK_VC.AVAIL (p.val * 64 + v) + (creditCounts y).getD v 0)) ∧
      s.onlyRegs t ((List.range 16).map (fun v => (JXK_VC.AVAIL, p.val * 64 + v)))) ∧
    (s.on JXK_STATUS.CMODE p.val = true → let b := byteAt y 1
      ∃ t, exec (.creditSyncReceive p y) s = .next t ∧ (∀ v, v < 16 → b + v < s.rd JXK_CTRL.VCS p.val → (NMap.get (s.lk p.val).peerInit 0 (b + v)) ≤ 1023 →
        t.rd JXK_VC.AVAIL (p.val * 64 + (b + v)) = NMap.get (s.lk p.val).peerInit 0 (b + v) -
          (NMap.get (s.lk p.val).sent 0 (b + v) + 1024 - (creditSyncCounts y).getD v 0) % 1024) ∧
      s.onlyRegs t ((List.range 16).map (fun v => (JXK_VC.AVAIL, p.val * 64 + (b + v)))))) ∧
  (∀ (s : State) (p : Fin 4), s.linkActive p.val = true → s.on JXK_STATUS.CMODE p.val = true → s.sfn % 256 = 0 →
    s.credBases p.val = [0, 16] →
    let msg := fun (b : Nat) => le 1 Ctl.CREDIT_SYNC ++ le 1 b ++ le 2 0 ++ le 20 (pack 10 ((List.range 16).map (fun i => NMap.get (s.lk p.val).freed 0 (b + i))))
    exec (.creditSyncSend p) s = .next ((s.pushCtl p.val Kind.CONTROL (msg 0) false).pushCtl p.val Kind.CONTROL (msg 16) false))

/-- R160 to R168, R480, R481: training. -/
def Obligations.TrainingSteps : Prop :=
  (∀ (s : State) (p : Fin 4) (data : Word), s.serves (Reg.JXK_CTRL.addr p.val 0) true →
    firstStatus (s.writeChecks Reg.JXK_CTRL p.val data.toNat ++ [(St.NOSPACE, decide (65536 < (s.calm.writeFields Reg.JXK_CTRL p.val data.toNat).reservedCells))]) = St.OK →
    let w := s.calm.writeFields Reg.JXK_CTRL p.val data.toNat
    s.linkSt p.val = LinkSt.DISABLED → s.mayTrain p.val = true →
    (bitAt data.toNat 0 = false → exec (.jxkEnWrite p data) s = .next (w.recomputePool.answer St.OK)) ∧
    (bitAt data.toNat 0 = true → exec (.jxkEnWrite p data) s = .next (((w.freshAttempt p.val false).setLinkSt p.val LinkSt.DETECT).recomputePool.answer St.OK))) ∧
  (∀ (s : State) (p : Fin 4), s.linkSt p.val = LinkSt.DETECT → s.on JXK_STATUS.BACKOFF p.val = false →
    exec (.detectDone p) s = .next ((s.freshAttempt p.val true).setLinkSt p.val LinkSt.EQUALIZE)) ∧
  (∀ (s : State) (p : Fin 4) (r : EqResult), s.linkSt p.val = LinkSt.EQUALIZE →
    let e := s.setEqualiser p.val r
    (e.modeAt p.val r 2 = none → e.modeAt p.val r 1 = none → e.modeAt p.val r 0 = none →
      exec (.equalizeDone p r) s = .next (e.trainFail p.val St.INTEGRITY)) ∧
    (max (max (s.rd JXP_CTRL.MAXRATE p.val) (s.rd JXP_STATUS.RATE_CAP p.val)) r.peerCeil = 0 → e.modeAt p.val r 0 = some false →
      exec (.equalizeDone p r) s = .next (((((e.wr JXP_STATUS.RATE 0 p.val).setBit JXP_STATUS.NARROW false p.val).modLk p.val
        (fun l => { l with modeQual := laneMask (e.qualLanes p.val (r.own.getD 0 0)), modePeer := r.peer.getD 0 0 })).releaseScan p.val).setLinkSt
          p.val LinkSt.DESKEW))) ∧
  (∀ (s : State) (p : Fin 4) (pol : Nat), s.linkSt p.val = LinkSt.DESKEW →
    ∃ t, exec (.deskewDone p pol) s = .next t ∧ t.linkSt p.val = LinkSt.ALIGN ∧ t.rd JXP_RXMAP.MAP p.val = mapOf (bitList 10 (s.lk p.val).modeQual) (s.width p.val) % 2 ^ 32 ∧
      t.rd JXP_TXMAP.MAP p.val = mapOf (bitList 10 (s.lk p.val).modePeer) (s.width p.val) % 2 ^ 32 ∧
      (∀ k, k < 10 → t.rd JXP_RXEQ.POLINV (laneIx p.val k) = if bitAt pol k then 1 else 0) ∧
      (t.lk p.val).epoch = (if s.isUpPort p.val then 0 else nextEpoch (s.lk p.val).prevEpoch) ∧ t.rest.setLk p.val Link.init = s.rest.setLk p.val Link.init) ∧
  (∀ (s : State) (p : Fin 4) (y : List Byte), s.linkSt p.val = LinkSt.ALIGN → let a := AlignId.ofPayload y
    (a.zone ≠ s.rd GLB_ZONE.ZONE → exec (.alignIdReceive p y) s = .next (s.trainFail p.val St.CONFLICT)) ∧
    (a.zone = s.rd GLB_ZONE.ZONE → a.up = s.isUpPort p.val → a.hub = (s.lk p.val).expHub → a.port = (s.lk p.val).expPort →
      a.expHub = s.rd GLB_HUB.HUB → a.expPort = p.val → a.vcs = s.rd JXK_CTRL.VCS p.val → a.prot = s.on JXK_CTRL.PROT p.val →
      exec (.alignIdReceive p y) s = .next ((s.modLk p.val (fun l => { l with idOk := true, epoch := if s.isUpPort p.val then a.epoch else l.epoch })).tryAuth p.val))) ∧
  (∀ (s : State) (p : Fin 4) (y : List Byte), s.linkSt p.val = LinkSt.ALIGN → (s.lk p.val).idOk = false →
    ∃ t, exec (.alignCredReceive p y) s = .next t ∧ NMap.get (t.lk p.val).credOk false (byteAt y 1) = true ∧
      (∀ v, v < 16 → NMap.get (t.lk p.val).peerInit 0 (byteAt y 1 + v) = (alignCredCounts y).getD v 0) ∧ t = { s with link := t.link }) ∧
  (∀ (s : State) (p : Fin 4) (v : Nat), s.isUpPort p.val = false →
    (s.linkSt p.val = LinkSt.ALIGN → s.rd PLN_ALIGN.OFFSET p.val < (v + 63) / 64 → exec (.loopMeasure p v) s = .next
      ((((s.calm.wr PLN_ALIGN.LOOP (min 1023 ((v + 63) / 64)) p.val).raise Ev.PLN_ALIGN_RANGE p.val).trainFail p.val St.RANGE).timeSend p.val)) ∧
    (s.linkActive p.val = true → v ≤ s.rd PLN_ALIGN.OFFSET p.val * 64 → exec (.loopMeasure p v) s = .next
      ((s.calm.wr JXK_LOOP.LOOP (min (2 ^ 20 - 1) v) p.val).timeSend p.val)) ∧
    (s.linkActive p.val = true → s.rd PLN_ALIGN.OFFSET p.val * 64 < v → exec (.loopMeasure p v) s = .next
      ((((s.calm.wr JXK_LOOP.LOOP (min (2 ^ 20 - 1) v) p.val).recover p.val).timeSend p.val).settled))) ∧
  (∀ (s : State) (p : Fin 4) (y : List Byte) (ok : Bool), s.linkSt p.val = LinkSt.AUTH → (s.lk p.val).authStage = 0 →
    bits (byteAt y 1) 0 3 = Amsg.HELLO → ((s.lk p.val).takeSegment y).authMessage Amsg.HELLO = none →
    exec (.authMessageReceive p y ok) s = .next (s.calm.modLk p.val (fun l => l.takeSegment y))) ∧
  (∀ (s : State) (p : Fin 4) (y : List Byte), s.linkSt p.val = LinkSt.AUTH → bits (byteAt y 1) 0 3 = Amsg.DONE → leAt y 4 2 = 0 →
    let u := s.calm.modLk p.val (fun l => { l with authDone := true })
    ((s.lk p.val).authSent = false → exec (.authDoneReceive p y) s = .next u) ∧
    ((s.lk p.val).authSent = true → exec (.authDoneReceive p y) s = .next (u.reachActive p.val).settled ∧
      (s.isUpPort p.val = true → (∀ q, q < 4 → s.linkActive q = true → q = p.val) →
        (u.reachActive p.val).linkSt p.val = LinkSt.ACTIVE ∧ (u.reachActive p.val).rd JXK_STATUS.EPOCH p.val = (s.lk p.val).epoch % 256 ∧
        (u.reachActive p.val).rd JXK_TRFAIL.FAILS p.val = 0 ∧ (1, p.val) ∈ (u.reachActive p.val).news)))

/-- R159, R483: key renewal. -/
def Obligations.KeyRenewal : Prop :=
  (∀ (s : State) (p : Fin 4), s.linkActive p.val = true → s.isUpPort p.val = false → (s.lk p.val).rekey = none →
    let kg := s.rd JXK_STATUS.KEYGEN p.val + 1
    let e := (s.sfn + 4) % 2 ^ 32
    let u := (s.calm.modLk p.val (fun l => { l with rekey := some { keygen := kg, effect := e, attempts := 1, acked := false } })).pushCtl p.val
      Kind.CONTROL (rekeyPayload kg e) true
    (s.rd JXK_STATUS.KEYGEN p.val ≠ 255 → exec (.rekeyTimer p) s = .next u ∧
      (s.serves (Reg.JXK_CMD.addr p.val 0) true → exec (.rekey p) s = .next (u.answer St.OK))) ∧
    (s.rd JXK_STATUS.KEYGEN p.val = 255 → exec (.rekeyTimer p) s = .next ((s.calm.recover p.val).settled))) ∧
  (∀ (s : State) (p : Fin 4), s.linkActive p.val = true → s.isUpPort p.val = true → (s.lk p.val).rekey = none →
    s.serves (Reg.JXK_CMD.addr p.val 0) true → exec (.rekey p) s = .next (s.calm.answer St.STATE)) ∧
  (∀ (s : State) (p : Fin 4) (y : List Byte), s.linkActive p.val = true → s.isUpPort p.val = true →
    exec (.rekeyReceive p y) s = .next ((s.modLk p.val (fun l => { l with rekey := some ⟨byteAt y 1, leAt y 2 4, 1, true⟩ })).pushCtl p.val Kind.CONTROL (le 1 Ctl.REKEY_ACK ++ le 1 (byteAt y 1)) true)) ∧
  (∀ (s : State) (p : Fin 4) (y : List Byte) (r : Rekey), (s.lk p.val).rekey = some r →
    (s.isUpPort p.val = false → r.keygen % 256 = byteAt y 1 → exec (.rekeyAckReceive p y) s = .next
      (s.modLk p.val (fun l => { l with rekey := some { r with acked := true } }))) ∧
    (sfnReached r.effect s.sfn = true → r.acked = true → exec (.rekeyEffect p) s = .next ((((s.modLk p.val (fun l =>
        { l with rekey := none, oldKey := some (s.rd JXK_STATUS.KEYGEN p.val), oldKeyAt := s.sfn })).wr JXK_STATUS.KEYGEN r.keygen p.val).raise
          (Ev.JXK_REKEY_DONE p.val) r.keygen)) ∧ exec (.rekeyNoAck p) s = .next s.calm) ∧
    (sfnReached r.effect s.sfn = true → r.acked = false →
      (r.attempts < 3 → exec (.rekeyNoAck p) s = .next (s.calm.sendRekey p.val (r.attempts + 1))) ∧
      (3 ≤ r.attempts → exec (.rekeyNoAck p) s = .next ((((s.calm.modLk p.val (fun l => { l with rekey := none })).raise (Ev.JXK_REKEY_FAIL p.val)).recover
        p.val).settled)) ∧
      exec (.rekeyEffect p) s = .next s)) ∧
  (∀ (s : State) (p : Fin 4), (s.lk p.val).oldKey.isSome = true → s.oldGroupOpen p.val = false →
    exec (.oldKeyRetire p) s = .next (s.modLk p.val (fun l => { l with oldKey := none })))

/-- R183 to R187: the forwarding database. -/
def Obligations.ForwardingDatabase : Prop :=
  (∀ (s : State) (data : Word), s.serves Reg.SWB_FCMD.base true → Reg.SWB_FCMD.reservedSet data.toNat = false → SWB_FCMD.PORT.of data.toNat ≤ 17 →
    let key := s.fdbFind s.fbufMac s.fbufVid
    (SWB_FCMD.OP.of data.toNat = 1 →
      (key = none → exec (.fdbLookup data) s = .next (s.answer St.VALUE)) ∧
      (∀ k e, key = some k → s.fdbAt k = some e → exec (.fdbLookup data) s = .next ((s.setFbuf e.words).answer St.OK))) ∧
    (SWB_FCMD.OP.of data.toNat = 2 →
      (firstStatus s.fdbInsertChecks ≠ St.OK → exec (.fdbInsert data) s = .next (s.answer (firstStatus s.fdbInsertChecks))) ∧
      (firstStatus s.fdbInsertChecks = St.OK → ∃ t, exec (.fdbInsert data) s = .next t ∧
        (t.fdbFind s.fbufMac s.fbufVid).bind (fun k => t.fdbAt k) = some s.fbufEntry ∧
        t = { s with regs := t.regs, sw := { s.sw with fdb := t.sw.fdb }, out := s.out ++ [.status St.OK []] } ∧
        s.keepsRegs t [(SWB_FSTAT.COUNT, 0), (SWB_FSTAT.FULLCOUNT, 0)])) ∧
    (SWB_FCMD.OP.of data.toNat = 3 →
      (key = none → exec (.fdbDelete data) s = .next (s.answer St.VALUE)) ∧
      (∀ k, key = some k → exec (.fdbDelete data) s = .next ((s.setFdb k none).answer St.OK))) ∧
    (SWB_FCMD.OP.of data.toNat = 4 → let e := s.fdbAt (SWB_FCMD.INDEX.of data.toNat * 4 + SWB_FCMD.WAY.of data.toNat)
      exec (.fdbRead data) s = .next ((s.setFbuf ((e.map FdbEnt.words).getD [])).answer St.OK)) ∧
    (SWB_FCMD.OP.of data.toNat = 5 → NMap.wf s.sw.fdb none = true → ∃ t, exec (.fdbFlush data) s = .next t ∧
      (∀ k, t.fdbAt k = (s.fdbAt k).filter (fun e => e.isStatic ||
        (decide (SWB_FCMD.BYPORT.of data.toNat = 1) && e.port != SWB_FCMD.PORT.of data.toNat))) ∧
      t.out = s.out ++ [.status St.OK []] ∧ s.keepsRegs t [(SWB_FSTAT.COUNT, 0), (SWB_FSTAT.FULLCOUNT, 0)])) ∧
  (∀ s : State,
    (s.on SWB_FDBCFG.AGE_T = false → exec .ageingSweep s = .next s) ∧
    (s.on SWB_FDBCFG.AGE_T = true → NMap.wf s.sw.fdb none = true → ∃ t, exec .ageingSweep s = .next t ∧
      (∀ k, t.fdbAt k = (s.fdbAt k).bind (fun e =>
        if e.isStatic then some e else if 5 ≤ e.age + 1 then none else some { e with age := e.age + 1 })) ∧
      t = { s with regs := t.regs, sw := { s.sw with fdb := t.sw.fdb } } ∧ s.keepsRegs t [(SWB_FSTAT.COUNT, 0), (SWB_FSTAT.FULLCOUNT, 0)])) ∧
  (∀ (s : State) (d : SwIn) (rest : List SwIn) (k : Nat), s.sw.done = d :: rest → s.on SWB_STATUS.HALTED = false → d.learn = true →
    s.on SWB_PCFG.LEARN d.frame.port = true → 12 ≤ d.frame.bytes.length → isGroup (smacOf d.frame) = false →
    s.fdbFind (smacOf d.frame) d.frame.vid = none → s.fdbFree (smacOf d.frame) d.frame.vid = some k →
    ∃ t, exec .switchFrameComplete s = .next t ∧ t.fdbAt k = some ⟨smacOf d.frame, d.frame.vid, false, d.frame.port, s.rd SWB_PCFG.LEARN_SQ d.frame.port, 0, 0⟩ ∧
      ∀ j, j ≠ k → t.fdbAt j = s.fdbAt j)

/-- R174, R189 to R194: cells, admission and drops. -/
def Obligations.FrameAdmission : Prop :=
  (∀ (s : State) (p : Fin 18) (f : SwIn), (∀ i ∈ s.sw.openIn, i.port ≠ p.val) → NMap.get s.sw.inq [] p.val = [f] → f.frame.bytes.length ≤ 9216 →
    let n := f.frame.bytes.length
    let pop := s.modSw (fun w => { w with inq := NMap.set w.inq [] p.val [] })
    (s.on SWB_STATUS.HALTED = true → exec (.switchCellAllocate p) s = .next ((pop.freeCells f.frame.cells).swDrop p.val Drop.NOBUF)) ∧
    (s.on SWB_STATUS.HALTED = false → (s.sharedFree = 0 ∨ s.nextCell p.val = none) → p.val < 16 →
      exec (.switchCellAllocate p) s = .next ((pop.freeCells f.frame.cells).swDrop p.val Drop.NOBUF)) ∧
    (∀ c, s.on SWB_STATUS.HALTED = false → s.sharedFree ≠ 0 → s.nextCell p.val = some c → f.frame.cells.length + 1 = cellsFor n →
      let g : SwIn := { f with frame := { f.frame with cells := f.frame.cells ++ [c] } }
      exec (.switchCellAllocate p) s = .next (((s.takeCell p.val c).noteLastBank p.val n g.frame.cells).modSw (fun w =>
        { w with inq := NMap.set w.inq [] p.val [], done := w.done ++ [g] })))) ∧
  (∀ (s : State) (q n : Nat) (yellow : Bool),
    let prof := s.rd SWB_QCFG.PROFILE q
    let k := sgn 4 (s.rd (if yellow then SWB_PROF.KY else SWB_PROF.KG) prof)
    let f := s.sharedFree
    let lim := if 0 ≤ k then f * 2 ^ k.toNat else f / 2 ^ (-k).toNat
    let len : Int := s.rd SWB_QLEN.CELLS q
    let excessAfter := max 0 (len + n - s.rd SWB_PROF.MIN prof)
    let need := excessAfter - max 0 (len - s.rd SWB_PROF.MIN prof)
    s.admits q n yellow = decide (excessAfter = 0 ∨ (need ≤ f ∧ excessAfter ≤ lim))) ∧
  (∀ (s : State) (d : SwIn), s.sw.done = [d] →
    let base := s.modSw (fun w => { w with done := [] })
    (s.on SWB_STATUS.HALTED = true → exec .switchFrameComplete s = .next ((base.freeFrame d.frame).swDrop d.frame.port Drop.NOBUF)) ∧
    (s.on SWB_STATUS.HALTED = false → d.learn = false → d.sq = none → base.lookupQueues d.frame = none →
      exec .switchFrameComplete s = .next ((base.freeFrame d.frame).swDrop d.frame.port Drop.FILTER)) ∧
    (∀ q, s.on SWB_STATUS.HALTED = false → d.learn = false → d.metered = false → d.sq = some q →
      (s.queuePort q < 4 ∨ 12 ≤ s.queuePort q) →
      let no := s.sw.nextFrame
      let u := base.modSw (fun w => { w with nextFrame := no + 1, frames := NMap.set w.frames default no { d.frame with copies := 0 } })
      let gone := fun (v : State) => (v.modSw (fun w => { w with frames := NMap.del w.frames no })).freeFrame { d.frame with copies := 0 }
      (s.swPortUp (s.queuePort q) = false → exec .switchFrameComplete s = .next (gone (u.swDrop (s.queuePort q) Drop.PORTDOWN))) ∧
      (s.swPortUp (s.queuePort q) = true → u.admits q d.frame.cells.length false = false →
        exec .switchFrameComplete s = .next (gone (u.swDrop (s.queuePort q) Drop.THRESH))) ∧
      (s.swPortUp (s.queuePort q) = true → u.admits q d.frame.cells.length false = true → s.rd SWB_DESC.FREE = 0 →
        exec .switchFrameComplete s = .next (gone (u.swDrop (s.queuePort q) Drop.NODESC))) ∧
      (s.swPortUp (s.queuePort q) = true → u.admits q d.frame.cells.length false = true → s.rd SWB_DESC.FREE ≠ 0 →
        ∃ t, exec .switchFrameComplete s = .next t ∧ t = u.admitCopy no d.frame.cells.length q d.frame.pcp d.frame.dei ∧
          t.rd SWB_QLEN.CELLS q = (s.rd SWB_QLEN.CELLS q + d.frame.cells.length) % 2 ^ SWB_QLEN.CELLS.width ∧
          t.rd SWB_DESC.FREE = (s.rd SWB_DESC.FREE - 1) % 2 ^ SWB_DESC.FREE.width ∧ (t.frameNo no).copies = 1 ∧
          t.queueOf q = s.queueOf q ++ [⟨no, q, d.frame.pcp, d.frame.dei⟩]))) ∧
  (∀ (s : State) (p : Fin 18) (c : Copy), s.egressOf p.val = [c] → let base := s.setEgress p.val []
    (s.swPortUp p.val = true → exec (.egressRead p [] none 0) s = .next ((base.sendCopy p.val (s.frameNo c.frame) c).releaseCopy c)) ∧
    (s.swPortUp p.val = false → exec (.egressRead p [] none 0) s = .next ((base.releaseCopy c).swDrop p.val Drop.PORTDOWN)) ∧
    (∀ (b : Fin 32) (a : Fin 32768), exec (.egressRead p [] (some b) a) s = .next (((base.releaseCopy c).swDrop p.val Drop.ECC).bankUe b.val a.val)))

/-- R196 to R199: banks that fail. -/
def Obligations.BankFailures : Prop :=
  (∀ s : State, (∀ ce ue, s.on SWB_ECCCFG.SCRUB_EN = false → exec (.bufferScrub ce ue) s = .next s) ∧
    (s.on SWB_ECCCFG.SCRUB_EN = true → s.sw.scrubAddr ≠ 0 →
      exec (.bufferScrub [] []) s = .next (s.modSw (fun w => { w with scrubAddr := (w.scrubAddr + 1) % 32768 })))) ∧
  (∀ (s : State) (data : Word), s.serves Reg.SWB_BCMD.base true → Reg.SWB_BCMD.reservedSet data.toNat = false → SWB_BCMD.GO.of data.toNat = 1 →
    let b := SWB_BCMD.BANK.of data.toNat
    (s.bankReplaced b = true → exec (.bankMarkFailing data) s = .next (s.answer St.STATE)) ∧
    (s.bankReplaced b = false → s.on SWB_STATUS.COPY = true → exec (.bankMarkFailing data) s = .next (s.answer St.BUSY)) ∧
    (∀ k, s.bankReplaced b = false → s.on SWB_STATUS.COPY = false → s.freeSpareBank = some k →
      ∃ t, exec (.bankMarkFailing data) s = .next t ∧ t = (s.startCopy b k).answer St.OK ∧ t.rd SWB_STATUS.COPY = 1 ∧
        t.rd SWB_STATUS.COPYBANK = b % 32 ∧ t.rd SWB_BANK.STATE k = 0 ∧ t.sw.copyTo = k) ∧
    (s.bankReplaced b = false → s.on SWB_STATUS.COPY = false → s.freeSpareBank = none → s.on SWB_STATUS.RETIRED = false →
      ∃ t, exec (.bankMarkFailing data) s = .next t ∧ t.rd SWB_STATUS.RETIRED = 1 ∧ t.rd SWB_BANK.STATE b = 3 ∧ t.sw.retiredBank = some b ∧
        t.rd SWB_POOL.SHARED = (131072 - s.reservedCells - 32768) % 2 ^ SWB_POOL.SHARED.width ∧
        t.out = s.out ++ [.status St.OK []]) ∧
    (s.bankReplaced b = false → s.on SWB_STATUS.COPY = false → s.freeSpareBank = none → s.on SWB_STATUS.RETIRED = true →
      ∃ t, exec (.bankMarkFailing data) s = .next t ∧ t.rd SWB_STATUS.HALTED = 1 ∧ t.sw.queues = [] ∧ t.sw.done = [] ∧ t.sw.inq = [] ∧
        t.sw.egress = [] ∧ t.out = s.out ++ [.status St.OK []])) ∧
  (∀ s : State, (s.on SWB_STATUS.COPY = false → exec .bankCopyDone s = .next s) ∧
    (s.on SWB_STATUS.COPY = true → s.sw.copyTo = 32 → s.sw.bankWait = [] → exec .bankCopyDone s = .next
      (((s.wr SWB_STATUS.COPY 0).wr SWB_BANK.STATE 2 (s.rd SWB_STATUS.COPYBANK)).raise Ev.SWB_BANK_DONE)))

/-- R215. -/
def Obligations.RatesApplied : Prop :=
  (∀ (s : State) (j w : Nat) (addr data : Word), j < 4258 → 1 ≤ w → w ≤ 4 → addr.toNat = 0x350000 + 32 * j + 4 * w → s.serves addr.toNat true →
    firstStatus (s.writeChecks (shaperReg w) j data.toNat ++ (s.writeFields (shaperReg w) j data.toNat).shaperChecks j w) = St.OK →
    ∃ t, exec (.shaperWrite addr data) s = .next t ∧ (∀ f ∈ (shaperReg w).fields, t.rd f j = f.of data.toNat) ∧ t.rd TMG_NSTAT.PEND j = 1 ∧
      t.tm.nodes = s.tm.nodes ∧ t.out = s.out ++ [.status St.OK []]) ∧
  (∀ (s : State) (j : Fin 4258), ∃ t, exec (.nodeRefill j) s = .next t ∧ t.rd TMG_NSTAT.PEND j.val = 0 ∧
    (let a := s.node j.val
     let b := t.node j.val
     let full := fun (burst : Nat) => (burst : Int) * 6400000
     b.cir = s.rd TMG_CIR.RATE j.val ∧ b.pir = s.rd TMG_PIR.RATE j.val ∧ b.cbs = s.rd TMG_CBS.BURST j.val ∧ b.pbs = s.rd TMG_PBS.BURST j.val ∧
     (b.cir ≠ 0 → a.cir = 0 → b.c = full b.cbs) ∧ (b.cir ≠ 0 → a.cir ≠ 0 → b.c = min (full b.cbs) (a.c + 16 * b.cir)) ∧
     (b.pir ≠ 0 → a.pir = 0 → b.p = full b.pbs) ∧ (b.pir ≠ 0 → a.pir ≠ 0 → b.p = min (full b.pbs) (a.p + 16 * b.pir)) ∧
     b.v = a.v ∧ b.t = a.t) ∧
    (∀ k, k ≠ j.val → t.node k = s.node k) ∧ s.keepsRegs t [(TMG_NSTAT.PEND, j.val)] ∧ t = { s with regs := t.regs, tm := { s.tm with nodes := t.tm.nodes } })

/-- R205 to R222: scheduling, policing and their registers. -/
def Obligations.SchedulerCommands : Prop :=
  (∀ s : State, (∀ p, p < 18 → (s.portReady p && s.portEligible p) = false) → exec .schedulerSelect s = .next s) ∧
  (∀ (s : State) (p n q : Nat) (c : Copy) (rest : List Copy), p < 18 → n < 144 → q < 4096 →
    (∀ k, k < 18 → (s.portReady k && s.portEligible k) = decide (k = p)) → ((List.range 8).map (fun k => 8 * p + k)).filter (fun m => s.nodeEligible m) = [n] →
    (s.activeQueues n).filter (fun x => s.queueEligible x) = [q] → s.parentOf q = n → s.queueOf q = c :: rest →
    let len := s.accounted p (s.sentLength p (s.frameNo c.frame) c)
    let level := fun (a : NodeRun) => if a.cir = 0 then a.c else a.c - len * 100000
    ∃ t, exec .schedulerSelect s = .next t ∧ t.queueOf q = rest ∧ t.egressOf p = s.egressOf p ++ [c] ∧ t.tm.lastPort = p ∧
      (∀ k ∈ [q, 4096 + n, 4240 + p], t.rd TMG_NTXF.FRAMES k = (s.rd TMG_NTXF.FRAMES k + 1) % 2 ^ TMG_NTXF.FRAMES.width ∧ (t.node k).c = level (s.node k)) ∧
      s.keepsRegs t [(TMG_NTXF.FRAMES, q), (TMG_NTXF.FRAMES, 4096 + n), (TMG_NTXF.FRAMES, 4240 + p)] ∧
      t = { s with regs := t.regs, tm := t.tm, sw := { s.sw with queues := t.sw.queues, egress := t.sw.egress } }) ∧
  (∀ s : State, NMap.wf s.tm.nodes NodeRun.init = true → ∃ t, exec .wfqRebase s = .next t ∧
    (∀ j, t.node j = { s.node j with v := 0, t := (s.node j).t - (match s.nodeParent j with | none => 0 | some k => (s.node k).v) }) ∧
    t = { s with tm := { s.tm with nodes := t.tm.nodes } }) ∧
  (∀ (s : State) (q : Fin 4096) (data : Word), s.serves (Reg.TMG_NCFG.addr q.val 0) true →
    let st := firstStatus ((St.VALUE, Reg.TMG_NCFG.reservedSet data.toNat) :: s.ncfgChecks q.val data.toNat)
    (st ≠ St.OK → exec (.queueParentWrite q data) s = .next (s.answer st)) ∧
    (TMG_NCFG.PARENT.of data.toNat ≠ s.parentOf q.val → s.queueBusy q.val = true → Reg.TMG_NCFG.reservedSet data.toNat = false → st = St.BUSY) ∧
    (st = St.OK → ∃ t, exec (.queueParentWrite q data) s = .next t ∧ t.rd TMG_NCFG.PARENT q.val = TMG_NCFG.PARENT.of data.toNat ∧
      t.rd TMG_NCFG.WEIGHT q.val = TMG_NCFG.WEIGHT.of data.toNat ∧ t.sw = s.sw ∧ t.tm.nodes = s.tm.nodes ∧ t.out = s.out ++ [.status St.OK []])) ∧
  (∀ (s : State) (m w : Nat) (addr data : Word), m < 2048 → w ≤ 5 → addr.toNat = 0x3C0000 + 32 * m + 4 * w → s.serves addr.toNat true →
    let u := s.writeFields (meterReg w) m data.toNat
    let st := firstStatus (s.writeChecks (meterReg w) m data.toNat ++ u.meterChecks m)
    (st ≠ St.OK → exec (.meterWrite addr data) s = .next (s.answer st)) ∧ (st = St.OK → exec (.meterWrite addr data) s = .next (u.answer St.OK))) ∧
  (∀ (s : State) (m : Fin 2048), ∃ t, exec (.meterRefill m) s = .next t ∧
    (let a := NMap.get s.tm.meters MeterRun.init m.val
     let b := NMap.get t.tm.meters MeterRun.init m.val
     let cFull := b.cbs * 6400000
     let eFull := b.pbs * 6400000
     b.mode = s.rd TMG_MCFG.MODE m.val ∧ b.cir = s.rd TMG_MCIR.RATE m.val ∧ b.pir = s.rd TMG_MPIR.RATE m.val ∧
     b.cbs = s.rd TMG_MCBS.BURST m.val ∧ b.pbs = s.rd TMG_MPBS.BURST m.val ∧
     (b.mode = 1 → a.mode = 1 → a.cir ≠ 0 → b.cir ≠ 0 → b.c = min cFull (a.c + 16 * b.cir) ∧ b.e = min eFull (a.e + (a.c + 16 * b.cir - cFull))) ∧
     (b.mode = 2 → a.mode = 2 → a.cir ≠ 0 → b.cir ≠ 0 → a.pir ≠ 0 → b.pir ≠ 0 →
       b.c = min cFull (a.c + 16 * b.cir) ∧ b.e = min eFull (a.e + 16 * b.pir))) ∧
    (∀ k, k ≠ m.val → NMap.get t.tm.meters MeterRun.init k = NMap.get s.tm.meters MeterRun.init k) ∧
    t = { s with tm := { s.tm with meters := t.tm.meters } })

/-- R241. -/
def Obligations.TimestampFifo : Prop :=
  (∀ (s : State) (i : Fin 16) (now edge : Nat), (s.di i.val).edge = some edge → s.on FLD_DICFG.EN i.val = true → s.on FLD_STATUS.FIELD_OK = true →
    s.on FLD_DISTAT.CHATTER i.val = false → s.rd FLD_DICHAT.CHAT_N i.val = 0 →
    ∃ t, exec (.diAccept i now) s = .next t ∧
      (s.fld.tsFifo.length < 64 → t.fld.tsFifo = s.fld.tsFifo ++ [⟨i.val, s.on FLD_DISTAT.RAW i.val, false, edge⟩] ∧
        t.rd FLD_TSSTAT.OVF = s.rd FLD_TSSTAT.OVF) ∧
      (64 ≤ s.fld.tsFifo.length → t.fld.tsFifo = s.fld.tsFifo ∧ t.rd FLD_TSSTAT.OVF = satAdd FLD_TSSTAT.OVF.width (s.rd FLD_TSSTAT.OVF) 1 ∧
        (s.limited.contains (Ev.FLD_DI_FIFO_OVF, 0) = true → t.evq = s.evq ∧ t.rd EVU_SRC.STATUS Ev.FLD_DI_FIFO_OVF = s.rd EVU_SRC.STATUS Ev.FLD_DI_FIFO_OVF) ∧
        (s.limited.contains (Ev.FLD_DI_FIFO_OVF, 0) = false → t.on EVU_SRC.STATUS Ev.FLD_DI_FIFO_OVF = true ∧
          t.limited.contains (Ev.FLD_DI_FIFO_OVF, 0) = true))) ∧
  (∀ (s : State) (i : Fin 16), s.on FLD_DISTAT.CHATTER i.val = true → s.on FLD_DICFG.EN i.val = true → s.on FLD_STATUS.FIELD_OK = true →
    s.on FLD_DISTAT.LEVEL i.val ≠ ((s.di i.val).value % 2 == 1) → s.fld.tsFifo.length < 64 →
    ∃ t, exec (.chatterEnd i) s = .next t ∧ t.fld.tsFifo = s.fld.tsFifo ++ [⟨i.val, s.on FLD_DISTAT.LEVEL i.val, true, (s.di i.val).lastEdge⟩]) ∧
  (∀ (s : State) (data : Word), s.serves Reg.FLD_TSCMD.base true → Reg.FLD_TSCMD.reservedSet data.toNat = false → FLD_TSCMD.POP.of data.toNat = 1 →
    (s.fld.tsFifo = [] → exec (.tsPop data) s = .next (s.answer St.STATE)) ∧
    (∀ e r, s.fld.tsFifo = e :: r → ∃ t, exec (.tsPop data) s = .next t ∧ t.fld = { s.fld with tsFifo := r } ∧
      t.rd FLD_TSLO.TIME = e.time % 2 ^ 32 ∧ t.rd FLD_TSHI.TIME = e.time / 2 ^ 32 % 2 ^ 32 ∧ t.rd FLD_TSINFO.INPUT = e.input % 2 ^ FLD_TSINFO.INPUT.width ∧
      t.on FLD_TSINFO.LEVEL = e.level ∧ t.on FLD_TSINFO.CLEAR = e.clear ∧ t.out = s.out ++ [.status St.OK []]))

/-- R240, R242 to R245: direct inputs. -/
def Obligations.DirectInputs : Prop :=
  (∀ (s : State) (i : Fin 16) (level : Bool) (time : Nat), let raw := level != s.on FLD_DICFG.POL i.val
    exec (.diEdge i level time) s = .next ((s.setBit FLD_DISTAT.RAW raw i.val).setDi i.val
      { s.di i.val with edge := if s.on FLD_STATUS.FIELD_OK && raw != s.on FLD_DISTAT.LEVEL i.val then some time else none })) ∧
  (∀ (s : State) (i : Fin 16) (now edge : Nat), (s.di i.val).edge = some edge → s.on FLD_DICFG.EN i.val = true →
    let n := s.rd FLD_DICHAT.CHAT_N i.val
    let win := s.rd FLD_DICHAT.CHAT_WIN i.val * 1000000
    let d := s.di i.val
    (s.on FLD_STATUS.FIELD_OK = false → exec (.diAccept i now) s = .next s) ∧
    (s.on FLD_STATUS.FIELD_OK = true → ∃ t, exec (.diAccept i now) s = .next t ∧ t.on FLD_DISTAT.LEVEL i.val = s.on FLD_DISTAT.RAW i.val ∧
      (t.di i.val).edge = none ∧ (t.di i.val).lastAt = some now ∧ (t.di i.val).lastEdge = edge ∧
      (s.on FLD_DISTAT.CHATTER i.val = true → (t.di i.val).value = d.value ∧ t.fld.tsFifo = s.fld.tsFifo) ∧
      (s.on FLD_DISTAT.CHATTER i.val = false → (n = 0 ∨ d.times.length + 1 < n) → (t.di i.val).value = diValue (s.on FLD_DISTAT.RAW i.val) (d.value / 2 + 1)) ∧
      (s.on FLD_DISTAT.CHATTER i.val = false → 2 ≤ n → n ≤ d.times.length + 1 → now - d.times.getD (n - 2) 0 ≤ win →
        t.rd FLD_DISTAT.CHATTER i.val = 1 ∧ (t.di i.val).value = diValue (t.on FLD_DISTAT.STABLE i.val) (d.value / 2) ∧ t.fld.tsFifo = s.fld.tsFifo ∧
        t.on EVU_SRC.STATUS (Ev.FLD_DI_CHATTER) = true))) ∧
  (∀ (s : State) (i : Fin 16), s.on FLD_DISTAT.CHATTER i.val = true → s.on FLD_DICFG.EN i.val = true → s.on FLD_STATUS.FIELD_OK = true →
    s.on FLD_DISTAT.LEVEL i.val = ((s.di i.val).value % 2 == 1) → exec (.chatterEnd i) s = .next
      ((((s.setBit FLD_DISTAT.STABLE (s.on FLD_DISTAT.LEVEL i.val) i.val).wr FLD_DISTAT.CHATTER 0 i.val).setDi i.val { s.di i.val with times := [] }).diWrite i.val)) ∧
  (∀ (s : State) (i : Fin 16), s.on FLD_DICFG.EN i.val = true → s.on FLD_STATUS.FIELD_OK = true → s.on FLD_DISTUCK.STUCK_MS i.val = true →
    s.on FLD_DISTAT.LEVEL i.val = true → s.on FLD_DISTAT.STUCK i.val = false →
    exec (.diStuck i) s = .next (((s.wr FLD_DISTAT.STUCK 1 i.val).diWrite i.val).raise Ev.FLD_DI_STUCK i.val) ∧
    (s.wr FLD_DISTAT.STUCK 1 i.val).diQuality i.val = (if s.on FLD_STATUS.D2D_UP then if s.on FLD_DISTAT.CHATTER i.val then 2 else 3 else 0xE)) ∧
  (∀ s : State, (s.on FLD_STATUS.FIELD_OK = true → exec .fieldLow s = .next (((s.wr FLD_STATUS.FIELD_OK 0).requalifyInputs).raise Ev.FLD_FIELD_LOW)) ∧
    (∀ time, s.on FLD_STATUS.FIELD_OK = false → ∃ t, exec (.fieldOkReturn time) s = .next t ∧ t.rd FLD_STATUS.FIELD_OK = 1 ∧
      ∀ i, i < 16 → (t.di i).edge = if s.on FLD_DISTAT.RAW i != s.on FLD_DISTAT.LEVEL i then some time else none))

/-- R230 to R250: segments, points and outputs. -/
def Obligations.SegmentsAndOutputs : Prop :=
  (∀ (s : State) (g : Fin 4) (b : List Byte) (opp : Fin 32),
    (∀ fcs, s.on FLD_SCTRL.EN g.val = false → exec (.fsFrameReceive g b fcs opp) s = .next s) ∧
    (s.on FLD_SCTRL.EN g.val = true → exec (.fsFrameReceive g b false opp) s = .next (s.swDrop (12 + g.val) Drop.FCS)) ∧
    (s.on FLD_SCTRL.EN g.val = true → s.admission g.val (beAt b 6 6) = none → s.on FLD_SCTRL.QUAR g.val = true → s.fld.quar.length < 16 →
      exec (.fsFrameReceive g b true opp) s = .next ((((s.bump FLD_STRANGER.COUNT g.val).swDrop (12 + g.val) Drop.FCS).raiseOnce Ev.FLD_STRANGER_SEEN g.val
        (beAt b 6 6)).modFld (fun f => { f with quar := f.quar ++ [g.val :: opp.val :: b.map BitVec.toNat] }))) ∧
    (∀ e, s.on FLD_SCTRL.EN g.val = true → s.admission g.val (beAt b 6 6) = some e → s.on FLD_ADM1.CHK_ID e = false → s.on FLD_ADM2.CYC_ETYPE e = true →
      (etherAt b 12 4).2 = s.rd FLD_ADM2.CYC_ETYPE e → exec (.fsFrameReceive g b true opp) s = .next (s.cyclic g.val e (b.drop ((etherAt b 12 4).1 + 2))))) ∧
  (∀ (s : State) (g : Fin 4) (noise coll : Nat), s.on FLD_SCTRL.PLCA_EN g.val = false → noise ≤ s.rd FLD_SCTRL.NOISE_LIM g.val →
    exec (.segNoise g noise coll []) s = .next ((s.bump FLD_SNOISE.COUNT g.val noise).bump FLD_SCOLL.COUNT g.val coll)) ∧
  (∀ (s : State) (e : Fin 256), s.on FLD_ADM1.VALID e.val = true → s.on FLD_ADM2.CYC_ETYPE e.val = true → s.on FLD_ADM4.CYC_TO e.val = true →
    (NMap.get s.fld.lost false e.val = true → exec (.dropTimeout e) s = .next s) ∧
    (NMap.get s.fld.lost false e.val = false → exec (.dropTimeout e) s = .next (((s.modFld (fun f => { f with lost := NMap.set f.lost false e.val true })).setQuality
      (s.rd FLD_ADM3.BASE e.val) (s.rd FLD_ADM3.COUNT e.val) 0xE).raise Ev.FLD_DROP_LOST e.val))) ∧
  (∀ (s : State) (g : Fin 4), s.on FLD_SCTRL.EN g.val = true → s.on FLD_SSTAT.LINEFAULT g.val = false →
    ∃ t, exec (.lineFault g) s = .next t ∧ t.rd FLD_SSTAT.LINEFAULT g.val = 1 ∧ t.rd FLD_SSTAT.UP g.val = 0 ∧ t.rd FLD_SSTAT.PLCA_ON g.val = 0 ∧
      t.on EVU_SRC.STATUS Ev.FLD_SEG_FAULT = true) ∧
  (∀ (s : State) (g : Fin 4), s.on FLD_SSTAT.LINEFAULT g.val = true → let kind := if s.on FLD_SCTRL.PLCA_EN g.val then "beacon" else "idle probe"
    exec (.lineProbe g false) s = .next ((s.emit (.act kind [g.val])).modFld (fun f => { f with probes := NMap.set f.probes 0 g.val 0 })) ∧
    (NMap.get s.fld.probes 0 g.val = 7 → s.on FLD_SCTRL.EN g.val = true → ∃ t, exec (.lineProbe g true) s = .next t ∧ t.rd FLD_SSTAT.LINEFAULT g.val = 0 ∧
      t.rd FLD_SSTAT.UP g.val = 1)) ∧
  (∀ (s : State) (n : Fin 4096) (data : Word), s.serves (0x510000 + 4 * n.val) true →
    (s.producers n.val ≠ [] → exec (.pointWrite n data) s = .next (s.answer St.CONFLICT)) ∧
    (s.producers n.val = [] → (∀ k, k < 8 → s.rd FLD_OCFG.PT k ≠ n.val) → ∃ t, exec (.pointWrite n data) s = .next t ∧ t.point n.val = data.toNat ∧
      (∀ k, k ≠ n.val → t.point k = s.point k) ∧ t = { s with points := t.points, pointGen := t.pointGen, out := s.out ++ [.status St.OK []] })) ∧
  (∀ (s : State) (data : Word), s.serves Reg.FLD_OKICK.base true →
    (s.on FLD_OWD.KSRC = true → exec (.outputWdKick data) s = .next (s.answer St.STATE)) ∧
    (s.on FLD_OWD.KSRC = false → data ≠ 0x5A5A → exec (.outputWdKick data) s = .next (s.answer St.VALUE)) ∧
    (s.on FLD_OWD.KSRC = false → data = 0x5A5A → exec (.outputWdKick data) s = .next ((s.modFld (fun f => { f with wdFresh := true })).answer St.OK))) ∧
  (∀ s : State, s.on FLD_OCTRL.SAFE = true →
    exec .outputWdLapse s = .next ((s.modFld (fun f => { f with wdFresh := false })).wr FLD_OSTAT.WDLAPSE 1) ∧
    exec .d2dFrameTimeout s = .next (s.wr FLD_OSTAT.D2DLOSS 1) ∧
    (s.on FLD_OCTRL.AUTOARM = true → s.mayArm = true → exec .autoarm s = .next ((s.wr FLD_OCTRL.SAFE 0).refreshOutputs)) ∧
    (s.mayArm = false → exec .autoarm s = .next s)) ∧
  (∀ s : State, s.on FLD_OCTRL.SAFE = false → 
    (∃ t, exec .outputWdLapse s = .next t ∧ t.rd FLD_OCTRL.SAFE = 1 ∧ t.rd FLD_OSTAT.WDLAPSE = 1 ∧ t.on EVU_SRC.STATUS Ev.FLD_OUT_SAFE = true) ∧
    (∃ t, exec .d2dFrameTimeout s = .next t ∧ t.rd FLD_OCTRL.SAFE = 1 ∧ t.rd FLD_OSTAT.D2DLOSS = 1 ∧ t.on EVU_SRC.STATUS Ev.FLD_OUT_SAFE = true)) ∧
  (∀ (s : State) (data : Word), s.serves Reg.FLD_OCTRL.base true → firstStatus (s.writeChecks Reg.FLD_OCTRL 0 data.toNat) = St.OK → FLD_OCTRL.ARM.of data.toNat = 1 →
    let u := s.writeFields Reg.FLD_OCTRL 0 data.toNat
    (u.mayArm = false → exec (.arm data) s = .next (s.answer St.STATE)) ∧
    (u.mayArm = true → exec (.arm data) s = .next (((u.wr FLD_OCTRL.SAFE 0).refreshOutputs).answer St.OK)))

/-- R256 to R262: Ethernet ports. -/
def Obligations.EthernetPorts : Prop :=
  (∀ (s : State) (k : Fin 8) (b : List Byte) (fcs : Bool) (time : Nat), s.on ETH_STATUS.LINK k.val = false →
    exec (.ethFrameReceive k b fcs time 0 0) s = .next s) ∧
  (∀ (s : State) (k : Fin 8) (b : List Byte) (time corr : Nat), s.on ETH_STATUS.LINK k.val = true →
    let base := (s.bump ETH_FECCORR.COUNT k.val corr).bump ETH_FECUNC.COUNT k.val 0
    let u := (base.bump ETH_RXFRAMES.COUNT k.val).wrap ETH_RXBYTES.COUNT k.val (b.length + 4)
    exec (.ethFrameReceive k b false time corr 0) s = .next ((base.bump ETH_RXFCS.COUNT k.val).swDrop (4 + k.val) Drop.FCS) ∧
    (b.length < 60 → exec (.ethFrameReceive k b true time corr 0) s = .next ((u.bump ETH_RXLEN.COUNT k.val).swDrop (4 + k.val) Drop.FCS)) ∧
    (60 ≤ b.length → s.gwTakes k.val b = none →
      (beAt b 12 2 = 0x8808 → exec (.ethFrameReceive k b true time corr 0) s = .next (u.bump ETH_RXCTL.COUNT k.val)) ∧
      (beAt b 12 2 ≠ 0x8808 → b.length + 8 ≤ s.rd ETH_CTRL.MAXLEN k.val → s.on ETH_CTRL.PTP_TRAP k.val = false →
        (s.classify k.val b = none → exec (.ethFrameReceive k b true time corr 0) s = .next ((u.bump ETH_RXVLAN.COUNT k.val).swDrop (4 + k.val) Drop.FCS)) ∧
        (∀ v, s.classify k.val b = some v → (∀ i, i < 512 → s.clsMatches i k.val b = false) → exec (.ethFrameReceive k b true time corr 0) s = .next
          (u.swEnter { frame := { frameOf (4 + k.val) b with vid := v }, sq := none, metered := true, learn := true }))))) ∧
  (∀ (s : State) (k : Fin 8) (sp : Fin 4), s.on ETH_CTRL.EN k.val = true → s.rd ETH_CTRL.MODE k.val = 4 → s.on ETH_STATUS.LINK k.val = false →
    let u := ((((s.calm.wr ETH_STATUS.LINK 1 k.val).wr ETH_STATUS.SPEED (sp.val + 1) k.val).setBit ETH_STATUS.FEC_ON false k.val).setBit ETH_STATUS.TRAINED
      false k.val).raise (Ev.ETH_LINK_UP k.val)
    exec (.ethLinkUp k sp) s = .next (u.tell 3 k.val).settled) ∧
  (∀ (s : State) (k : Fin 8), s.on ETH_STATUS.LINK k.val = true → s.gwRuns = false →
    let u := (((((s.calm.wr ETH_STATUS.LINK 0 k.val).wr ETH_STATUS.SPEED 0 k.val).wr ETH_STATUS.FEC_ON 0 k.val).wr ETH_STATUS.TRAINED 0 k.val).raise
      (Ev.ETH_LINK_DOWN k.val)).portDownDiscard (4 + k.val)
    exec (.ethLinkDown k) s = .next (u.tell 3 k.val).settled) ∧
  (∀ (s : State) (k : Fin 8) (data : Word), s.serves (Reg.ETH_TXTSCMD.addr k.val 0) true → firstStatus (s.writeChecks Reg.ETH_TXTSCMD k.val data.toNat) = St.OK →
    ETH_TXTSCMD.POP.of data.toNat = 1 →
    (NMap.get s.eth.txts [] k.val = [] → exec (.txtsPop k data) s = .next (s.answer St.STATE)) ∧
    (∀ e r, NMap.get s.eth.txts [] k.val = e :: r → ∃ t, exec (.txtsPop k data) s = .next t ∧ NMap.get t.eth.txts [] k.val = r ∧
      t.rd ETH_TXTSCMD.COUNT k.val = r.length % 2 ^ ETH_TXTSCMD.COUNT.width ∧ t.rd ETH_TXTS_LO.TIME k.val = e.2 % 2 ^ 32 ∧
      t.rd ETH_TXTS_HI.TIME k.val = e.2 / 2 ^ 32 % 2 ^ 32 ∧ t.rd ETH_TXTS_INFO.TAG k.val = e.1 % 2 ^ ETH_TXTS_INFO.TAG.width ∧ t.out = s.out ++ [.status St.OK []]))

/-- R264, R268, R269: tree time. -/
def Obligations.TreeTimeCommands : Prop :=
  (∀ (s : State) (data : Word), s.serves Reg.TSU_STEPCMD.base true → Reg.TSU_STEPCMD.reservedSet data.toNat = false → TSU_STEPCMD.GO.of data.toNat = 1 →
    (s.isRoot = false → exec (.timeStep data) s = .next (s.answer St.STATE)) ∧
    (s.isRoot = true → s.on TSU_STATUS.STEP_PEND = true → exec (.timeStep data) s = .next (s.answer St.BUSY)) ∧
    (s.isRoot = true → s.on TSU_STATUS.STEP_PEND = false → exec (.timeStep data) s = .next (((s.wr TSU_STATUS.STEP_PEND 1).modTsu (fun t =>
      { t with step := s.rd TSU_STEP_LO.STEP + 2 ^ 32 * s.rd TSU_STEP_HI.STEP })).answer St.OK))) ∧
  (∀ (s : State) (data : Word), s.serves Reg.TSU_RATE.base true → firstStatus (s.writeChecks Reg.TSU_RATE 0 data.toNat) = St.OK →
    (s.isRoot = false → exec (.tsuRateWrite data) s = .next (s.answer St.STATE)) ∧
    (s.isRoot = true → 4194304 < sgn 32 data.toNat ∨ sgn 32 data.toNat < -4194304 → exec (.tsuRateWrite data) s = .next (s.answer St.RANGE)) ∧
    (s.isRoot = true → -4194304 ≤ sgn 32 data.toNat → sgn 32 data.toNat ≤ 4194304 → ∃ t, exec (.tsuRateWrite data) s = .next t ∧
      t.rd TSU_RATE.RATE = data.toNat ∧ t.eth.tsu = { s.eth.tsu with ratePend := true } ∧ s.keepsRegs t [(TSU_RATE.RATE, 0)] ∧
      t.out = s.out ++ [.status St.OK []])) ∧
  (∀ s : State,
    (s.on TSU_STATUS.STEP_PEND = false → s.eth.tsu.ratePend = false → exec .timeStepApply s = .next s) ∧
    (s.on TSU_STATUS.STEP_PEND = true → s.eth.tsu.ratePend = true → exec .timeStepApply s = .next
      ((({ s with treeTime := (((s.treeTime : Int) + sgn 64 s.eth.tsu.step * 2 ^ 32) % (2 ^ 96 : Int)).toNat }).wr TSU_STATUS.STEP_PEND 0).modTsu (fun t =>
        { t with rate := s.rd TSU_RATE.RATE, ratePend := false })))) ∧
  (∀ (s : State) (hfn : Fin 16777216) (loop : Fin 1048576),
    (s.isRoot = true ∨ 2 < hfnAhead s.hfn hfn.val → exec (.timeServiceMessage hfn loop) s = .next s) ∧
    (s.isRoot = false → hfnAhead s.hfn hfn.val ≤ 2 → ∃ t, exec (.timeServiceMessage hfn loop) s = .next t ∧ t.rd TSU_DELAY.LOOP = loop.val ∧
      t.eth.tsu.delayed = true)) ∧
  (∀ s : State, (s.on TSU_CTRL.PTP_LOCK = true → exec .grandmasterLost s = .next ((s.wr TSU_CTRL.PTP_LOCK 0).raise Ev.TSU_PTP_LOST)) ∧
    (s.on TSU_CTRL.PTP_LOCK = false → exec .grandmasterLost s = .next s))

/-- R277 to R290: what passes the bridge. -/
def Obligations.PcieTraffic : Prop :=
  (∀ (s : State) (b : List Byte), s.on PCB_CTRL.EN = false ∨ s.on PCB_STATUS.LINK = false → exec (.pcieTlpReceive b) s = .next s) ∧
  (∀ (s : State) (b : List Byte), s.on PCB_CTRL.EN = true → s.on PCB_STATUS.LINK = true →
    (tlpWhole b = false → exec (.pcieTlpReceive b) s = .next ((s.bump PCB_UNSUP.COUNT).raiseOnce Ev.PCB_UNSUP_SEEN)) ∧
    (tlpWhole b = true → tlpIsMem b = true → s.isRoot = false → (s.vd 0).present = false →
      (tlpHasData b = true → exec (.pcieTlpReceive b) s = .next ((s.drew.bump PCB_PDISC.COUNT).postedError (s.pcieTid 0) pePath 0 (tlpAddr b)
        (tlpData b).length s.now)) ∧
      (tlpHasData b = false → exec (.pcieTlpReceive b) s = .next (s.emit (.frame 0x30 (cplUr b))))) ∧
    (tlpWhole b = true → tlpIsMem b = true → s.isRoot = false → (s.vd 0).present = true → tlpHasData b = true →
      exec (.pcieTlpReceive b) s = .next (s.itemAccept 0 0 b)) ∧
    (∀ v, tlpWhole b = true → tlpType b = 4 → s.isRoot = true → cfgFn b = 0 → tlpHasData b = false → s.cfgRead 0 (cfgDw b) = some v →
      exec (.pcieTlpReceive b) s = .next (s.emit (.frame 0x30 (cplFor b 0 (le 4 v) 4 0 ++ le 4 v))))) ∧
  (∀ (s : State) (c : Fin 31) (sub : Fin 4) (b : List Byte) (inBar : Bool), let y := b.drop 8
    ((s.vd c.val).present = false → exec (.pcieItemReceive c sub b inBar) s = .next s) ∧
    ((s.vd c.val).present = true → itemBad sub.val b = true → sub.val ≠ 0 → exec (.pcieItemReceive c sub b inBar) s = .next s.pcieUnsup) ∧
    ((s.vd c.val).present = true → itemBad sub.val b = false → byteAt b 2 % 16 = 1 → exec (.pcieItemReceive c sub b inBar) s = .next
      ((s.modVd c.val (fun v => { v with acked := [0, 1, 2, 3].foldl (fun m i => NMap.set m 0 i (leAt y (2 * i) 2)) v.acked })).pcieDrain c.val)) ∧
    ((s.vd c.val).present = true → itemBad sub.val b = false → byteAt b 2 % 16 = 0 → tlpIsCpl y = false → tlpPosted y = true → tlpPoisoned y = true →
      exec (.pcieItemReceive c sub b inBar) s = .next ((s.modVd c.val (fun v => v.noteFreed sub.val)).pcieErr c.val pePoisoned y))) ∧
  (∀ (s : State) (a : Nat), ∃ t, exec (.readAheadExpire a) s = .next t ∧ t.pcb = { s.pcb with ra := s.pcb.ra.filter (fun e => e.addr != a) } ∧
    t.rd PCB_RADISC.COUNT = satAdd PCB_RADISC.COUNT.width (s.rd PCB_RADISC.COUNT) ((s.pcb.ra.filter (fun e => e.addr == a)).map RaEnt.unused).sum ∧
    s.keepsRegs t [(PCB_RADISC.COUNT, 0)] ∧ t = { s with regs := t.regs, pcb := t.pcb }) ∧
  (∀ (s : State) (c : Fin 31),
    ((s.vd c.val).present = false → exec (.pcieCreditSend c) s = .next s) ∧
    (∀ x, (s.vd c.val).present = true → s.pcieTix c.val = some x → exec (.pcieCreditSend c) s = .next (s.endpointSend x 3 (pcieItemBytes 1
      ([0, 1, 2, 3].flatMap (fun i => le 2 (NMap.get (s.vd c.val).freed 0 i)) ++ le 8 0))))) ∧
  (∀ (s : State) (c : Fin 31) (key : Nat),
    ((∀ r ∈ (s.vd c.val).outNp, r.key ≠ key) → exec (.npTimeout c key) s = .next s) ∧
    (∀ r, s.isRoot = false → (s.vd c.val).outNp = [r] → r.key = key → (s.vd c.val).hold = [] → (s.vd c.val).waiting = [] →
      ∃ t, exec (.npTimeout c key) s = .next t ∧ t.out = s.out ++ [.frame 0x30 (cplUr r.head)] ∧ (t.vd c.val).outNp = [] ∧
        t.rd PCB_NPTOCNT.COUNT = satAdd PCB_NPTOCNT.COUNT.width (s.rd PCB_NPTOCNT.COUNT) 1 ∧
        s.keepsButEvents t [(PCB_NPTOCNT.COUNT, 0)]))

/-- R275, R276, R283, R286, R292: link and resets of the bridge. -/
def Obligations.PcieLinkAndResets : Prop :=
  (∀ (s : State) (gen width : Fin 5),
    (s.on PCB_CTRL.EN = false ∨ s.on PCB_STATUS.LINK = true ∨ (s.isRoot = false ∧ s.pcb.perst = true) → exec (.pcieLinkUp gen width) s = .next s) ∧
    (s.on PCB_CTRL.EN = true → s.on PCB_STATUS.LINK = false → gen.val ≠ 0 → gen.val ≤ s.pcieMaxGen → width.val ∈ [1, 2, 4] →
      let u := (((s.wr PCB_STATUS.LINK 1).wr PCB_STATUS.SPEED gen.val).wr PCB_STATUS.WIDTH width.val).raise Ev.PCB_LINK_UP
      (s.isRoot = false → s.pcb.perst = false → exec (.pcieLinkUp gen width) s = .next u.pcieRefresh.reportPresence) ∧
      (s.isRoot = true → exec (.pcieLinkUp gen width) s = .next (u.wr PCB_STATUS.PERST 0).pcieRefresh))) ∧
  (∀ s : State, (s.on PCB_STATUS.LINK = false → exec .pcieLinkDown s = .next s) ∧
    (s.on PCB_STATUS.LINK = true →
      let u := ((((s.wr PCB_STATUS.LINK 0).wr PCB_STATUS.SPEED 0).wr PCB_STATUS.WIDTH 0).raise Ev.PCB_LINK_DOWN).pcieRefresh
      (s.isRoot = true → exec .pcieLinkDown s = .next u) ∧ (s.isRoot = false → exec .pcieLinkDown s = .next u.reportPresence))) ∧
  (∀ s : State, (s.isRoot = true → exec .pcieResetRequest s = .next s) ∧
    (s.isRoot = false → (s.vd 0).present = false → s.pcieTix 0 = none → ∃ t, exec .pcieResetRequest s = .next t ∧ t.pcb.perst = true ∧
      t.rd PCB_STATUS.PERST = 1 ∧ t.pcb.ra = [] ∧ t.out = s.out ++ [.act "PE_nPERST" [0]] ∧
      s.keepsRegs t [(PCB_STATUS.PERST, 0), (PCB_RADISC.COUNT, 0)]) ∧
    (s.isRoot = false → s.pcb.loaded = true → s.on PCB_CTRL.EN = true → s.pcb.perst = true → exec .perstRelease s = .next
      (((s.modPcb (fun b => { b with perst := false })).wr PCB_STATUS.PERST 0).emit (.act "PE_nPERST" [1]))) ∧
    (s.isRoot = true ∨ s.pcb.loaded = false ∨ s.on PCB_CTRL.EN = false → exec .perstRelease s = .next s)) ∧
  (∀ (s : State) (kind : Fin 3) (c : Fin 31),
    (s.isRoot = false → exec (.vdspReset kind c) s = .next s) ∧
    (s.isRoot = true → bitAt (s.cfgWord (c.val + 1) 15) 22 = true → s.vdspExists c.val = true → exec (.vdspReset 0 c) s = .next
      (((s.svcSend (s.vdspHub c.val) 9 (le 4 1)).wr PCB_VDSP.SSDUP 0 c.val).vdspRefresh c.val)) ∧
    (s.isRoot = true → exec (.vdspReset 1 c) s = .next (((List.range 31).foldl (fun s c => s.vdspAsk c) s).modPcb (fun b => { b with cfg := [] }))))

/-- R298 to R303: a stream from source to sink. -/
def Obligations.DisplayStream : Prop :=
  (∀ (s : State) (d : Fin 2) (u : List Byte) (clk : Nat), s.isRoot = true → s.on DPT_CTRL.EN d.val = true → byteAt u 0 = 1 → 24 ≤ u.length → clk ≠ 0 →
    clk ≠ (s.dpt d.val).clk →
    let v := s.modDp d.val (fun b => { b with msa := u, clk := clk })
    (v.streamFits d.val = false → exec (.dpLineReceive d u clk) s = .next
      (((v.wr DPT_STATUS.NOFIT 1 d.val).wr DPT_STATUS.STREAM 0 d.val).raise (dptEvent d.val 3))) ∧
    (v.streamFits d.val = true → exec (.dpLineReceive d u clk) s = .next (((v.wr DPT_STATUS.NOFIT 0 d.val).wr DPT_STATUS.STREAM 1 d.val).unitSend d.val u))) ∧
  (∀ (s : State) (d : Fin 2) (pix time : Nat),
    (s.isRoot = false ∨ s.on DPT_STATUS.STREAM d.val = false → exec (.clockPairSend d pix time) s = .next s) ∧
    (∀ x p, s.isRoot = true → s.on DPT_CTRL.EN d.val = true → s.on DPT_STATUS.STREAM d.val = true → s.videoTix d.val = some x → s.jxlOf x = some p →
      s.canSend p x = false → exec (.clockPairSend d pix time) s = .next (s.xmiss p)) ∧
    (∀ x p, s.isRoot = true → s.on DPT_CTRL.EN d.val = true → s.on DPT_STATUS.STREAM d.val = true → s.videoTix d.val = some x → s.jxlOf x = some p →
      s.canSend p x = true → exec (.clockPairSend d pix time) s = .next (s.queueFlits p x 0 true
        (flitPayloads (fit 24 (le 2 2 ++ le 6 pix ++ le 8 (time / 65536) ++ le 2 time)))))) ∧
  (∀ (s : State) (d : Fin 2) (u : List Byte) (lost : List Nat) (played : Nat),
    (s.dpShows d.val = false → exec (.videoUnitReceive d u lost played) s = .next s) ∧
    (s.dpShows d.val = true → byteAt u 0 = 0 → let data := (u.drop 6).take (leAt u 4 2)
      let b := (s.dpt d.val).buf
      (b.length + data.length ≤ 65536 → ∃ t, exec (.videoUnitReceive d u [] 0) s = .next t ∧ (t.dpt d.val).buf = b ++ data ∧
        (t.dpt d.val).line = data ∧ t.rd DPT_STATUS.STREAM d.val = 1 ∧ s.onlyRegs { t with dp := s.dp } [(DPT_STATUS.STREAM, d.val), (DPT_STATUS.DSC, d.val)]) ∧
      (b.length = 65536 → data ≠ [] → ∃ t, exec (.videoUnitReceive d u [] 0) s = .next t ∧ (t.dpt d.val).buf = b ∧
        t.rd DPT_COVERRUN.COUNT d.val = satAdd DPT_COVERRUN.COUNT.width (s.rd DPT_COVERRUN.COUNT d.val) data.length) ∧
      (lost ≠ [] → lost.contains 0 = false → s.on DPT_CTRL.CONCEAL d.val = false → ∃ t, exec (.videoUnitReceive d u lost 0) s = .next t ∧
        (t.dpt d.val).line = conceal data (s.dpt d.val).line lost ∧
        t.rd DPT_CVLOSS.COUNT d.val = satAdd DPT_CVLOSS.COUNT.width (s.rd DPT_CVLOSS.COUNT d.val) lost.length ∧
        t.rd DPT_CCONCEAL.COUNT d.val = satAdd DPT_CCONCEAL.COUNT.width (s.rd DPT_CCONCEAL.COUNT d.val) 1))) ∧
  (∀ (s : State) (d : Fin 2) (pix time err : Nat), s.dpShows d.val = true →
    (16 ≤ err → exec (.clockPairReceive d pix time err) s = .next (s.modDp d.val (fun v => { v with pair := some (pix % 2 ^ 48, time), good := 0 }))) ∧
    (err < 16 → (s.dpt d.val).good < 15 → exec (.clockPairReceive d pix time err) s = .next (s.modDp d.val (fun v =>
      { v with pair := some (pix % 2 ^ 48, time), good := v.good + 1 }))) ∧
    (err < 16 → (s.dpt d.val).good = 15 → s.on DPT_STATUS.LOCK d.val = false → exec (.clockPairReceive d pix time err) s = .next (((s.modDp d.val (fun v =>
      { v with pair := some (pix % 2 ^ 48, time), good := 16 })).wr DPT_STATUS.LOCK 1 d.val).raise (dptEvent d.val 4))) ∧
    ((s.dpt d.val).pair = none → exec (.clockPairLost d) s = .next s) ∧
    ((s.dpt d.val).pair ≠ none → exec (.clockPairLost d) s = .next (((s.modDp d.val (fun v => { v with pair := none, good := 0 })).wr DPT_STATUS.LOCK 0 d.val).raise
      (dptEvent d.val 5))) ∧
    ((s.dpt d.val).buf = [] → exec (.playoutUnderrun d) s = .next ((s.bump DPT_CUNDERRUN.COUNT d.val).raiseOnce (dptEvent d.val 7)))) ∧
  (∀ (s : State) (d : Fin 2), s.dpShows d.val = false → exec (.playoutUnderrun d) s = .next s)

/-- R304 to R307: AUX and hot-plug. -/
def Obligations.AuxAndHotPlug : Prop :=
  (∀ (s : State) (d : Fin 2) (cmd : Fin 16) (addr : Fin 1048576) (len : Fin 17) (data : List Byte), s.isRoot = true → s.on DPT_CTRL.EN d.val = true →
    (cmd.val = 9 → addr.val ≤ 0xFF → exec (.auxRequest d cmd addr len data) s = .next (s.emit (.act "aux reply" (d.val :: auxAck ::
      ((List.range len.val).map (fun i => s.mirrorByte d.val (addr.val + i))).map (·.toNat))))) ∧
    (8 ≤ cmd.val → 0x68000 ≤ addr.val → addr.val ≤ 0x6FFFF → exec (.auxRequest d cmd addr len data) s = .next (s.emit (.act "aux reply" [d.val, auxNack]))) ∧
    (∀ x, cmd.val < 8 → (s.dpt d.val).aux = none → s.auxTix d.val = some x → let n := (s.dpt d.val).mseq
      exec (.auxRequest d cmd addr len data) s = .next ((((((s.modDp d.val (fun v => { v with aux := some ⟨cmd.val, addr.val, len.val, data, n, none⟩, mseq := (n + 1) % 256 })
        ).endpointSend x 0 (auxMessage 1 n cmd.val addr.val len.val data)).bump DPT_CAUXFWD.COUNT d.val).emit (.act "aux reply" [d.val, auxDefer])).bump
          DPT_CAUXDEFER.COUNT d.val))) ∧
    (∀ n a, cmd.val < 8 → (s.dpt d.val).aux = some ⟨cmd.val, addr.val, len.val, data, n, some (auxAck, a)⟩ → exec (.auxRequest d cmd addr len data) s = .next
      ((s.modDp d.val (fun v => { v with aux := none })).emit (.act "aux reply" (d.val :: auxAck :: a.map (·.toNat)))))) ∧
  (∀ (s : State) (d : Fin 2) (r : AuxReq), s.isRoot = true → (s.dpt d.val).aux = some r → r.reply = none →
    exec (.auxTimeout d) s = .next ((s.modDp d.val (fun v => { v with aux := some { r with reply := some (auxNack, []) } })).bump DPT_CAUXFAIL.COUNT d.val) ∧
    (∀ b, byteAt b 0 = 2 → byteAt b 1 = r.mseq → exec (.auxReplyReceive d b) s = .next (s.modDp d.val (fun v =>
      { v with aux := some { r with reply := some (byteAt b 2 % 16, (b.drop 8).take (byteAt b 6)) } })))) ∧
  (∀ (s : State) (d : Fin 2) (b : List Byte) (code : Fin 16) (ans : List Byte) (x : Nat), s.isRoot = false → s.on DPT_CTRL.EN d.val = true → byteAt b 0 = 1 →
    s.auxTix d.val = some x → let addr := leAt b 3 3 % 2 ^ 20
    (s.on DPT_STATUS.EDID d.val = false → exec (.auxMessageReceive d b code ans) s = .next
      (s.endpointSend x 0 (auxMessage 2 (byteAt b 1) code.val addr ans.length ans))) ∧
    (byteAt b 2 % 16 = 1 → addr = 0x50 → s.on DPT_STATUS.EDID d.val = true → let len := byteAt b 6
      let got := fit len (((s.dpt d.val).edid.drop ((s.dpt d.val).edidSeg * 256 + (s.dpt d.val).edidAt)).take len)
      exec (.auxMessageReceive d b code ans) s = .next ((s.modDp d.val (fun v => { v with edidAt := (v.edidAt + len) % 256 })).endpointSend x 0
        (auxMessage 2 (byteAt b 1) auxAck addr got.length got)))) ∧
  (∀ (s : State) (d : Fin 2) (caps edid : List Byte) (fec : Bool), s.isRoot = false → s.on DPT_CTRL.EN d.val = true → s.on DPT_STATUS.EDID d.val = false →
    let u := (s.modDp d.val (fun v => { v with caps := fit 256 caps, edid := edid.take 512, edidAt := 0, edidSeg := 0 })).wr DPT_STATUS.EDID 1 d.val
    exec (.sinkAttach d caps edid false fec) s = .next (((((u.wr DPT_STATUS.LINK 0 d.val).wr DPT_STATUS.RATE 0 d.val).wr DPT_STATUS.LANES 0 d.val).wr DPT_STATUS.FEC 0
      d.val).raise (dptEvent d.val 2)) ∧
    (s.on DPT_STATUS.SINK d.val = false → exec (.sinkAttach d caps edid true fec) s = .next ((u.dpTrained d.val true fec).dpAnnounce d.val)) ∧
    exec (.sinkDetach d) s = .next s ∧ exec (.dpTrainRetry d true fec) s = .next s) ∧
  (∀ (s : State) (d : Fin 2), s.isRoot = false → s.on DPT_STATUS.EDID d.val = true →
    (∀ fec, s.on DPT_CTRL.EN d.val = true → s.on DPT_STATUS.LINK d.val = false → s.on DPT_STATUS.SINK d.val = true →
      exec (.dpTrainRetry d true fec) s = .next (s.dpTrained d.val true fec)) ∧
    (∀ ok fec vec, s.on DPT_CTRL.EN d.val = true → exec (.sinkIrqHpd d false ok fec vec) s = .next ((s.modDp d.val (fun v => { v with mseq := (v.mseq + 1) % 256 })).auxSend
      d.val (auxMessage 5 (s.dpt d.val).mseq 0 0x201 1 (le 1 vec.val)))) ∧
    (let u := ([DPT_STATUS.SINK, DPT_STATUS.LINK, DPT_STATUS.RATE, DPT_STATUS.LANES, DPT_STATUS.FEC, DPT_STATUS.DSC, DPT_STATUS.STREAM, DPT_STATUS.LOCK,
        DPT_STATUS.EDID].foldl (fun s f => s.wr f 0 d.val) s).modDp d.val (fun v => { Dp.init with mseq := (v.mseq + 1) % 256 })
     exec (.sinkDetach d) s = .next ((u.auxSend d.val (auxMessage 4 (s.dpt d.val).mseq 0 0 0 [])).reportPresence))) ∧
  (∀ (s : State) (d : Fin 2) (b : List Byte), s.isRoot = true → s.on DPT_CTRL.EN d.val = true →
    (byteAt b 0 = 3 → exec (.rootAttachReceive d b) s = .next ((s.modDp d.val (fun v => { v with attached := true, nodeRate := byteAt b 8, nodeLanes := byteAt b 9 })
      ).hpdRefresh d.val)) ∧
    (byteAt b 0 = 4 → exec (.rootAttachReceive d b) s = .next ((s.modDp d.val (fun v => { v with attached := false })).hpdRefresh d.val)) ∧
    (byteAt b 0 = 5 → s.on DPT_STATUS.SINK d.val = true → exec (.rootAttachReceive d b) s = .next ((s.modDp d.val (fun v => { v with irq := byteAt b 8 })).emit
      (.act "DP HPD pulse" [d.val]))) ∧
    (byteAt b 0 = 6 → exec (.rootAttachReceive d b) s = .next (s.modDp d.val (fun v => { v with mirror := fit 256 (b.drop 8) }))))

/-- R316 to R320: bursts. -/
def Obligations.UsbBursts : Prop :=
  (∀ (s : State) (b : List Byte), s.usbOn = true → rteFits b 1 = true → 1 ≤ byteAt b 2 → byteAt b 2 ≤ 16 → 8 + 16 * byteAt b 2 ≤ b.length →
    let n := byteAt b 2
    let m := byteAt b 1
    let next := s.rd USB_STATUS.NEXT_BSEQ
    let back := (next + 256 - m) % 256
    (m = next → s.usb.bursts.length < 4 → exec (.burst b) s = .next ((s.modUsb (fun u =>
      { u with bursts := u.bursts ++ [⟨m, burstTxs (b.drop 8) (b.drop (8 + 16 * n)) n⟩] })).wr USB_STATUS.NEXT_BSEQ (next + 1))) ∧
    (m = next → 4 ≤ s.usb.bursts.length → exec (.burst b) s = .next (s.bump RTE_QFULL.COUNT)) ∧
    (m ≠ next → back ≤ 4 → (∃ e, e ∈ s.usb.bursts ∧ e.mseq = m) → exec (.burst b) s = .next (s.bump RTE_DUP.COUNT)) ∧
    (∀ d, m ≠ next → back ≤ 4 → (∀ e, e ∈ s.usb.bursts → e.mseq ≠ m) → s.usb.dones.find? (fun e => e.1 == m) = some (m, d) →
      exec (.burst b) s = .next ((s.rteSend d).bump RTE_DUP.COUNT)) ∧
    (m ≠ next → 4 < back → exec (.burst b) s = .next
      (((s.rteSend (rteMessage 11 m 0 (le 1 next))).bump RTE_BADSEQ.COUNT).raiseOnce Ev.USB_BURST_SEQ))) ∧
  (∀ (s : State) (b : List Byte), (s.usbOn = false → exec (.burst b) s = .next s ∧ exec (.rteMessageMalformed b) s = .next s) ∧
    (s.usbOn = true → byteAt b 0 ≠ 1 ∨ b.length ≠ 8 + leAt b 4 2 ∨ byteAt b 2 = 0 ∨ 16 < byteAt b 2 ∨ b.length < 8 + 16 * byteAt b 2 →
      exec (.burst b) s = .next (s.bump RTE_BADMSG.COUNT)) ∧
    (s.usbOn = true → byteAt b 0 = 0 ∨ 11 < byteAt b 0 ∨ b.length ≠ 8 + leAt b 4 2 →
      exec (.rteMessageMalformed b) s = .next (s.bump RTE_BADMSG.COUNT))) ∧
  (∀ (s : State) (m : Nat) (t : UsbTx) (r : List Burst), s.burstRuns = true → s.on USB_PORT.ENABLE t.port = true →
    s.on USB_PORT.SUSPEND t.port = false → t.bad = false → t.kill = 0 →
    let ended := fun (d : List Byte) => (s.modUsb (fun u => { u with bursts := r, dones := ((m, d) :: u.dones).take 4 })).rteSend d
    (∀ data, s.usb.bursts = ⟨m, [t]⟩ :: r → t.pid = 2 → data.length = t.len → exec (.burstDone [0] [data]) s = .next
      (ended (rteMessage 2 m 1 (le 4 (16 * ((1 - t.tog) % 2) + 65536 * (t.len % 2048)) ++ data)))) ∧
    (s.usb.bursts = ⟨m, [t]⟩ :: r → t.pid = 0 → exec (.burstDone [0] []) s = .next (ended (rteMessage 2 m 1 (le 4 (16 + 65536 * (t.len % 2048)))))) ∧
    (∀ x t', 2 ≤ x → x < 16 → s.usb.bursts = ⟨m, [t, t']⟩ :: r → exec (.burstDone [x] []) s = .next
      (ended (rteMessage 2 m 2 (le 4 (x + 16 * (t.tog % 2)) ++ le 4 (6 + 16 * (t'.tog % 2)))))) ∧
    (s.usb.bursts = ⟨m, [t]⟩ :: r → exec (.nakTimeout [] []) s = .next (ended (rteMessage 2 m 1 (le 4 (5 + 16 * (t.tog % 2)))))) ∧
    (∀ l, s.usb.bursts = ⟨m, t :: l⟩ :: r → exec (.burstDone [] []) s = .next s)) ∧
  (∀ (s : State) (l : List Nat) (d : List (List Byte)), s.burstRuns = false ∨ s.usb.bursts = [] →
    exec (.burstDone l d) s = .next s ∧ exec (.nakTimeout l d) s = .next s)

/-- R314, R315, R321, R322, R324: the hub core's requests and port events. -/
def Obligations.UsbHub : Prop :=
  (∀ (s : State) (q : Fin 256) (k : Fin 4), s.usbOn = true →
    exec (.getHubDescriptor q) s = .next (s.drew.hubAck q.val (le 1 9 ++ le 1 0x29 ++ le 1 4 ++ le 2 9 ++ le 1 50 ++ le 1 s.freeVal ++ le 1 0 ++ le 1 255)) ∧
    exec (.getHubStatus q) s = .next (s.hubAck q.val (le 4 0)) ∧
    exec (.getPortStatus q k) s = .next (s.hubAck q.val (le 2 (s.portStatus k.val) ++ le 2 (s.rd USB_PORT.CHANGE k.val))) ∧
    (s.on USB_PORT.CONNECT k.val = true → exec (.setPortReset q k) s = .next
      (((((s.wr USB_PORT.RESET 1 k.val).wr USB_PORT.ENABLE 0 k.val).wr USB_PORT.SUSPEND 0 k.val).portCut k.val 7).hubAck q.val [])) ∧
    (s.on USB_PORT.CONNECT k.val = false → exec (.setPortReset q k) s = .next (s.hubAck q.val [])) ∧
    (s.on USB_PORT.ENABLE k.val = true → exec (.setPortSuspend q k) s = .next ((s.wr USB_PORT.SUSPEND 1 k.val).hubAck q.val [])) ∧
    (s.on USB_PORT.ENABLE k.val = false → exec (.setPortSuspend q k) s = .next (s.hubAck q.val [])) ∧
    (∀ sel, exec (.setPortTest q k sel) s = .next (((s.modUsb (fun u => { u with test := NMap.set u.test 0 k.val sel.val })).emit
      (.act "usb test" [k.val, sel.val])).hubAck q.val [])) ∧
    exec (.clearPortEnable q k) s = .next ((((s.wr USB_PORT.ENABLE 0 k.val).wr USB_PORT.SUSPEND 0 k.val).portCut k.val 9).hubAck q.val []) ∧
    (∀ c, exec (.clearCPortFeature q k c) s = .next ((s.wrBit USB_PORT.CHANGE c.val false k.val).hubAck q.val [])) ∧
    exec (.clearTtBuffer q k) s = .next ((s.emit (.act "tt clear" [k.val])).hubAck q.val []) ∧
    exec (.resetTt q k) s = .next ((s.emit (.act "tt reset" [k.val])).hubAck q.val []) ∧
    exec (.unsupportedHubRequest q) s = .next (s.hubStall q.val)) ∧
  (∀ (s : State) (q : Fin 256) (k : Fin 4), s.usbOn = true →
    (s.on USB_PORT.TCPORT k.val = true → exec (.setPortPower q k) s = .next (s.hubStall q.val) ∧ exec (.clearPortPower q k) s = .next (s.hubStall q.val)) ∧
    (s.on USB_PORT.TCPORT k.val = false → exec (.setPortPower q k) s = .next
      (((s.wr USB_PORT.POWER 1 k.val).emit (.act "USB_VBUSEN" [k.val, 1])).hubAck q.val [])) ∧
    (s.on USB_PORT.TCPORT k.val = false → s.on USB_PORT.CONNECT k.val = false → exec (.clearPortPower q k) s = .next
      (((s.wr USB_PORT.POWER 0 k.val).emit (.act "USB_VBUSEN" [k.val, 0])).hubAck q.val [])) ∧
    (s.on USB_PORT.SUSPEND k.val = false → exec (.clearPortSuspend q k) s = .next (s.hubAck q.val [])) ∧
    (s.on USB_PORT.SUSPEND k.val = true → NMap.get s.usb.portResume 0 k.val = 0 → exec (.clearPortSuspend q k) s = .next
      ((s.modUsb (fun u => { u with portResume := NMap.set u.portResume 0 k.val 1 })).hubAck q.val [])) ∧
    (s.on USB_PORT.SUSPEND k.val = true → NMap.get s.usb.portResume 0 k.val = 2 → exec (.clearPortSuspend q k) s = .next
      ((((((s.modUsb (fun u => { u with portResume := NMap.set u.portResume 0 k.val 1 })).wr USB_PORT.WAKE 1 k.val).portChg k.val true true).raise
        Ev.USB_RESUME_COLLISION (2 ^ k.val))).hubAck q.val []))) ∧
  (∀ (s : State) (k : Fin 4), s.usbOn = true →
    (∀ low, s.on USB_PORT.POWER k.val = true → s.on USB_PORT.CONNECT k.val = false → let sp := if low then 2 else 1
      exec (.usbConnect k low) s = .next ((((((s.wr USB_PORT.CONNECT 1 k.val).wr USB_PORT.SPEED sp k.val).modUsb (fun u =>
        { u with line := NMap.set u.line 0 k.val sp })).changeBit k.val 0).raise Ev.USB_PORT_CONNECT k.val).reportPresence)) ∧
    (∀ low, s.on USB_PORT.POWER k.val = false ∨ s.on USB_PORT.CONNECT k.val = true → exec (.usbConnect k low) s = .next s) ∧
    (s.on USB_PORT.RESET k.val = true → exec (.portResetDone k true) s = .next (((((s.wr USB_PORT.RESET 0 k.val).wr USB_PORT.ENABLE 1 k.val).wr
      USB_PORT.SPEED 0 k.val).wrBit USB_PORT.CHANGE 4 false k.val).changeBit k.val 4) ∧
      exec (.portResetDone k false) s = .next (((((s.wr USB_PORT.RESET 0 k.val).wr USB_PORT.ENABLE 1 k.val).wr
        USB_PORT.SPEED (NMap.get s.usb.line 0 k.val) k.val).wrBit USB_PORT.CHANGE 4 false k.val).changeBit k.val 4)) ∧
    (s.on USB_PORT.RESET k.val = false → ∀ c, exec (.portResetDone k c) s = .next s) ∧
    (s.on USB_PORT.CONNECT k.val = false → exec (.usbDisconnect k) s = .next s) ∧
    (s.on USB_PORT.CONNECT k.val = true → let u := ((((s.portGone k.val).portCut k.val 9).raise Ev.USB_PORT_DISCONNECT k.val).reportPresence)
      exec (.usbDisconnect k) s = .next (u.changeBit k.val 0) ∧
      (s.on USB_PORT.TCPORT k.val = false → s.on USB_PORT.POWER k.val = true → exec (.usbOvercurrent k) s = .next
        ((((u.portPower k.val false).wr USB_PORT.OVERCURRENT 1 k.val).changeBit k.val 3).raise Ev.USB_PORT_OVERCURRENT k.val))) ∧
    (s.on USB_PORT.TCPORT k.val = true ∨ s.on USB_PORT.POWER k.val = false → exec (.usbOvercurrent k) s = .next s)) ∧
  (∀ (s : State) (q : Fin 256) (k : Fin 4) (low : Bool), s.usbOn = false → exec (.getHubDescriptor q) s = .next s ∧ exec (.getHubStatus q) s = .next s ∧
    exec (.getPortStatus q k) s = .next s ∧ exec (.setPortReset q k) s = .next s ∧ exec (.setPortPower q k) s = .next s ∧ exec (.usbConnect k low) s = .next s ∧
    exec (.usbOvercurrent k) s = .next s ∧ exec (.unsupportedHubRequest q) s = .next s)

/-- R313, R323 to R328: the bus as a whole and the periodic entries. -/
def Obligations.UsbPeriodic : Prop :=
  (∀ (s : State) (q : Fin 256), s.usbOn = true →
    (s.on USB_STATUS.SUSPENDED = true → exec (.suspend q) s = .next (s.busRsp q.val St.STATE 0)) ∧
    (s.on USB_STATUS.SUSPENDED = false → s.usb.bursts = [] → exec (.suspend q) s = .next (s.busSuspend.busRsp q.val St.OK 0)) ∧
    (∀ b, s.on USB_STATUS.SUSPENDED = false → s.usb.bursts = [b] → let d := doneMessage b.mseq (b.txs.map (fun t => ⟨8, t.tog, 0, []⟩))
      exec (.suspend q) s = .next ((((s.modUsb (fun u => { u with bursts := [], dones := ((b.mseq, d) :: u.dones).take 4 })).rteSend d).busSuspend).busRsp q.val St.OK 0)) ∧
    (s.on USB_STATUS.SUSPENDED = false ∨ s.usb.resume = 1 → exec (.resume q) s = .next (s.busRsp q.val St.STATE 0)) ∧
    (s.on USB_STATUS.SUSPENDED = true → s.usb.resume = 0 → exec (.resume q) s = .next
      ((s.modUsb (fun u => { u with resume := 1, resumeSeq := q.val })).emit (.act "usb resume" []))) ∧
    (s.usb.resume = 1 → exec (.resumeDone 4) s = .next ((((s.wr USB_STATUS.RUN 1).wr USB_STATUS.SUSPENDED 0).modUsb (fun u =>
      { u with resume := 0, wakers := 0 })).busRsp s.usb.resumeSeq St.OK s.usb.wakers)) ∧
    (∀ k : Fin 4, NMap.get s.usb.portResume 0 k.val = 1 → exec (.resumeDone (k.castLE (by decide))) s = .next (((s.modUsb (fun u =>
      { u with portResume := NMap.set u.portResume 0 k.val 0 })).wr USB_PORT.SUSPEND 0 k.val).changeBit k.val 2 false)) ∧
    (∀ k : Fin 4, s.on USB_PORT.CONNECT k.val = true → s.on USB_STATUS.SUSPENDED = true → s.usb.resume = 0 → exec (.remoteWake k) s = .next
      ((((s.modUsb (fun u => { u with wakers := u.wakers ||| 2 ^ k.val, resume := 2 })).wr USB_PORT.WAKE 1 k.val).portChg k.val true false).raise
        Ev.USB_REMOTE_WAKE k.val)) ∧
    (∀ k : Fin 4, s.on USB_PORT.CONNECT k.val = true → s.on USB_STATUS.SUSPENDED = true → s.usb.resume = 1 → exec (.remoteWake k) s = .next
      ((((s.modUsb (fun u => { u with wakers := u.wakers ||| 2 ^ k.val })).wr USB_PORT.WAKE 1 k.val).portChg k.val true true).raise
        Ev.USB_RESUME_COLLISION (2 ^ k.val))) ∧
    (∀ k : Fin 4, s.on USB_STATUS.SUSPENDED = false → s.on USB_PORT.SUSPEND k.val = false → exec (.remoteWake k) s = .next s)) ∧
  (∀ (s : State) (q : Fin 256) (b : List Byte), s.usbOn = true →
    (∀ st, firstStatus (s.ploadChecks b) = st → st ≠ St.OK → exec (.pload q b) s = .next (s.rteSend (rteMessage 8 q.val 0 (le 1 st)))) ∧
    (firstStatus (s.ploadChecks b) = St.OK → exec (.pload q b) s = .next ((s.loadEntry b).periodicFit.rteSend (rteMessage 8 q.val 0 (le 1 St.OK))))) ∧
  (∀ (s : State) (q i : Fin 256), s.usbOn = true →
    (i.val < 64 → s.on USB_PENT0.VALID i.val = true → exec (.punload q i) s = .next ((s.unload i.val).rteSend (rteMessage 8 q.val 0 (le 1 St.OK)))) ∧
    (64 ≤ i.val ∨ s.on USB_PENT0.VALID i.val = false → exec (.punload q i) s = .next (s.rteSend (rteMessage 8 q.val 0 (le 1 St.VALUE))))) ∧
  (∀ (s : State) (l m : List Nat) (d : List (List Byte)), s.usbOn = true → s.on USB_STATUS.RUN = true → let u := (s.rd USB_UFRAME.UFRAME + 1) % 16384
    let v := s.wr USB_UFRAME.UFRAME u
    (s.entries = [] → u % 1024 ≠ 0 → exec (.microframeStart l m d) s = .next v) ∧
    (s.entries = [] → u % 1024 = 0 → exec (.microframeStart l m d) s = .next (v.drew.recordSend (recordBytes 2 0 u 0 [] ++ le 8 v.drew.now))) ∧
    (∀ i a, s.entries = [i] → u % 1024 ≠ 0 → s.rd USB_PENT2.START i = u → (s.pent i).runs u = true → s.on USB_PORT.SUSPEND (s.rd USB_PENT0.PORT i) = false →
      let w := v.modUsb (fun x => { x with started := NMap.set x.started false i true })
      (s.on USB_PENT0.DIR i = true → a.length = (s.pent i).mult * (s.pent i).mps → exec (.microframeStart [i] [0] [a]) s = .next
        (w.recordSend (recordBytes 0 i u 0 a))) ∧
      (∀ r, s.on USB_PENT0.DIR i = false → s.usb.recs = [⟨i, u, r⟩] → exec (.microframeStart [i] [0] []) s = .next
        ((w.modUsb (fun x => { x with recs := [] })).emit (.act "usb out" ([i, u] ++ r.map (·.toNat))))) ∧
      (s.on USB_PENT0.DIR i = false → s.on USB_PENT0.TYPE i = true → s.usb.recs = [] → exec (.microframeStart [i] [0] []) s = .next
        ((w.bump USB_POUNDER.COUNT).bump USB_PENT3.MISS i)))) ∧
  (∀ (s : State) (b : List Byte), s.usbOn = true → exec (.outRecordReceive b true) s = .next (s.bump USB_POLOSS.COUNT) ∧
    (let i := byteAt b 1 % 64
     let u := leAt b 2 2 % 16384
     let ahead := (u + 16384 - s.rd USB_UFRAME.UFRAME) % 16384
     let held := s.usb.recs.filter (fun r => r.entry == i)
     byteAt b 0 = 1 → s.on USB_PENT0.VALID i = true → s.on USB_PENT0.DIR i = false →
      (ahead < 2 ∨ 1024 < ahead → exec (.outRecordReceive b false) s = .next (s.bump USB_POLATE.COUNT)) ∧
      (2 ≤ ahead → ahead ≤ 1024 → s.rd USB_PENT2.DEPTH i ≤ held.length → exec (.outRecordReceive b false) s = .next (s.bump USB_POOVR.COUNT)) ∧
      (2 ≤ ahead → ahead ≤ 1024 → held.length < s.rd USB_PENT2.DEPTH i → (∀ r, r ∈ held → r.uframe ≠ u) → exec (.outRecordReceive b false) s = .next
        (s.modUsb (fun v => { v with recs := v.recs ++ [⟨i, u, (b.drop 8).take (leAt b 4 2 % 4096)⟩] }))))) ∧
  (∀ s : State, s.usbOn = true → (s.on USB_STATUS.ORPHAN = false → exec .orphanTimeout s = .next s) ∧
    (s.on USB_STATUS.ORPHAN = true → exec .orphanTimeout s = .next (((((s.entries.foldl (fun t i => t.unload i) s).modUsb (fun u =>
      { u with bursts := [], dones := [] })).wr USB_STATUS.NEXT_BSEQ 0).busSuspend).raise Ev.USB_ORPHAN)))

/-- R335, R336, R339, R340, R344 to R346: attach and detach. -/
def Obligations.TypeCPorts : Prop :=
  (∀ (s : State) (n : Fin 2) (cc2 ra : Bool) (rp : Fin 4), s.on TCP_CTRL.EN n.val = true → s.tcAttached n.val = false →
    s.rd TCP_STATUS.TCSTATE n.val ≠ 11 →
    (s.rd TCP_CTRL.ROLE n.val ≠ 2 → exec (.tcAttach n true cc2 ra rp) s = .next (s.tcTold n.val (fun s =>
      let a := ((s.setBit TCP_STATUS.ORIENT cc2 n.val).wr TCP_STATUS.PROLE 1 n.val).wr TCP_STATUS.DROLE 1 n.val
      let b := ((a.wr TCP_STATUS.TCSTATE 10 n.val).setBit TCP_STATUS.VCONN_ON (ra && s.on TCP_CTRL.VCONN_EN n.val) n.val).wr TCP_STATUS.RP_SEEN 0 n.val
      let c := b.setTc n.val { Tc.init with srcEn := (s.tcp n.val).srcEn, snkEn := (s.tcp n.val).snkEn, disch := (s.tcp n.val).disch }
      let d := (c.tcPins n.val (fun v => { v with srcEn := true, snkEn := false, vsel := 0, disch := false })).raise (tcEvent n.val 0) (if cc2 then 3 else 1)
      ((d.tcRouted n.val).reportPresence).sendCaps n.val))) ∧
    (s.rd TCP_CTRL.ROLE n.val ≠ 1 → exec (.tcAttach n false cc2 ra rp) s = .next (s.tcTold n.val (fun s =>
      let a := ((s.setBit TCP_STATUS.ORIENT cc2 n.val).wr TCP_STATUS.PROLE 0 n.val).wr TCP_STATUS.DROLE 0 n.val
      let b := ((a.wr TCP_STATUS.TCSTATE 9 n.val).wr TCP_STATUS.VCONN_ON 0 n.val).wr TCP_STATUS.RP_SEEN rp.val n.val
      let c := b.setTc n.val { Tc.init with srcEn := (s.tcp n.val).srcEn, snkEn := (s.tcp n.val).snkEn, disch := (s.tcp n.val).disch }
      let d := (c.tcPins n.val (fun v => { v with srcEn := false, snkEn := true, vsel := 0, disch := false })).raise (tcEvent n.val 0) (if cc2 then 2 else 0)
      (d.tcRouted n.val).reportPresence)))) ∧
  (∀ (s : State) (n : Fin 2) (cc2 ra : Bool) (rp : Fin 4),
    (s.on TCP_CTRL.EN n.val = false ∨ s.tcAttached n.val = true ∨ s.rd TCP_STATUS.TCSTATE n.val = 11 →
      exec (.tcAttach n true cc2 ra rp) s = .next s ∧ exec (.tcAttach n false cc2 ra rp) s = .next s) ∧
    (s.rd TCP_CTRL.ROLE n.val = 2 → exec (.tcAttach n true cc2 ra rp) s = .next s) ∧
    (s.rd TCP_CTRL.ROLE n.val = 1 → exec (.tcAttach n false cc2 ra rp) s = .next s)) ∧
  (∀ (s : State) (n : Fin 2) (q : Fin 256), s.tcAttached n.val = true →
    (let busy := s.on TCP_STATUS.TRANSITION n.val || decide ((s.tcp n.val).phase ≠ .idle)
     exec (.tcDetach n) s = .next (s.tcTold n.val (fun s => (((((s.tcClear n.val St.ABORTED).wr TCP_STATUS.TCSTATE (s.tcUnattached n.val) n.val).tcOff n.val).raise
      (tcEvent n.val 1) (if busy then 1 else 0)).reportPresence)))) ∧
    exec (.errorRecovery n q) s = .next ((s.tcTold n.val (fun s => (((s.tcClear n.val St.ABORTED).wr TCP_STATUS.TCSTATE 11 n.val).tcOff n.val).reportPresence)).tcTell
      n.val 6 0 q.val St.OK []) ∧
    exec (.hardReset n q) s = .next ((s.tcTold n.val (fun s => s.hardReset n.val true)).tcTell n.val 6 0 q.val St.OK []) ∧
    (s.on TCP_STATUS.PROLE n.val = true → exec (.sendCaps n q) s = .next ((s.tcTold n.val (fun s => s.sendCaps n.val)).tcTell n.val 6 0 q.val St.OK [])) ∧
    (s.on TCP_STATUS.PROLE n.val = false → exec (.sendCaps n q) s = .next (s.tcTell n.val 6 0 q.val St.STATE []))) ∧
  (∀ (s : State) (n : Fin 2) (q : Fin 256), s.tcAttached n.val = false → exec (.tcDetach n) s = .next s ∧
    exec (.errorRecovery n q) s = .next (s.tcTell n.val 6 0 q.val St.STATE []) ∧ exec (.hardReset n q) s = .next (s.tcTell n.val 6 0 q.val St.STATE []) ∧
    exec (.sendCaps n q) s = .next (s.tcTell n.val 6 0 q.val St.STATE [])) ∧
  (∀ (s : State) (n : Fin 2) (rp : Fin 4),
    (s.on TCP_CTRL.EN n.val = true → s.rd TCP_CTRL.ROLE n.val = 0 → s.rd TCP_STATUS.TCSTATE n.val = 1 →
      exec (.drpToggle n) s = .next (s.tcTold n.val (fun s => s.wr TCP_STATUS.TCSTATE 2 n.val))) ∧
    (s.on TCP_CTRL.EN n.val = true → s.rd TCP_CTRL.ROLE n.val = 0 → s.rd TCP_STATUS.TCSTATE n.val = 2 →
      exec (.drpToggle n) s = .next (s.tcTold n.val (fun s => s.wr TCP_STATUS.TCSTATE 1 n.val))) ∧
    (s.on TCP_CTRL.EN n.val = false ∨ s.rd TCP_CTRL.ROLE n.val ≠ 0 → exec (.drpToggle n) s = .next s) ∧
    (s.rd TCP_STATUS.TCSTATE n.val ≠ 9 → exec (.ccRpChange n rp) s = .next s) ∧
    (s.rd TCP_STATUS.TCSTATE n.val = 9 → rp.val ≠ 3 ∨ (s.tcp n.val).held = none →
      exec (.ccRpChange n rp) s = .next (s.tcTold n.val (fun s => s.wr TCP_STATUS.RP_SEEN rp.val n.val))) ∧
    (∀ m, s.rd TCP_STATUS.TCSTATE n.val = 9 → rp.val = 3 → (s.tcp n.val).held = some m → exec (.ccRpChange n rp) s = .next (s.tcTold n.val (fun s =>
      ((s.wr TCP_STATUS.RP_SEEN 3 n.val).modTc n.val (fun v => { v with held := none })).pdSend n.val m))))

/-- R337, R340, R341, R343, R344: messages. -/
def Obligations.PdMessages : Prop :=
  (∀ (s : State) (n : Fin 2) (sop : Fin 4) (b : List Byte), sop.val < 3 →
    (s.tcAttached n.val = false ∨ pdWhole b = false ∨ (0 < sop.val ∧ s.on TCP_STATUS.VCONN_ON n.val = false) → exec (.pdMessageReceive n sop b) s = .next s) ∧
    (s.tcAttached n.val = true → pdWhole b = true → sop.val = 0 ∨ s.on TCP_STATUS.VCONN_ON n.val = true →
      let heard := fun (s : State) => (s.bump TCP_RXMSG.COUNT n.val).emit (.act "pd goodcrc" [n.val, sop.val, pdId b])
      (pdKind b = Pd.goodCrc → (s.tcp n.val).pend = none → exec (.pdMessageReceive n sop b) s = .next s) ∧
      (∀ m, pdKind b = Pd.goodCrc → (s.tcp n.val).pend = some m → m.sop = sop.val → pdId m.bytes = pdId b → pdKind m.bytes = Pd.getSinkCap →
        (s.tcp n.val).queue = [] → exec (.pdMessageReceive n sop b) s = .next (((s.modTc n.val (fun v =>
          { v with pend := none, txId := NMap.set v.txId 0 sop.val ((pdId b + 1) % 8) })).bump TCP_TXMSG.COUNT n.val).txRes n.val m St.OK)) ∧
      (pdKind b ≠ Pd.goodCrc → pdKind b ≠ Pd.softReset → NMap.get (s.tcp n.val).rxId 0 sop.val = pdId b + 1 → exec (.pdMessageReceive n sop b) s = .next
        ((heard s).bump TCP_RXDUP.COUNT n.val)) ∧
      (pdKind b ≠ Pd.goodCrc → NMap.get (s.tcp n.val).rxId 0 sop.val ≠ pdId b + 1 →
        let taken := fun (s : State) => (((((heard s).pdCollide n.val).modTc n.val (fun v => { v with rxId := NMap.set v.rxId 0 sop.val (pdId b + 1) })).wr
          TCP_STATUS.PDREV (if 2 ≤ pdRev b then 2 else 1) n.val).tcTell n.val 1 sop.val 0 0 b)
        (sop.val ≠ 0 → exec (.pdMessageReceive n sop b) s = .next (s.tcTold n.val taken)) ∧
        (sop.val = 0 → exec (.pdMessageReceive n sop b) s = .next (s.tcTold n.val (fun s => ((taken s).pdActs n.val b).pdWait n.val 0 b)))))) ∧
  (∀ (s : State) (n : Fin 2) (b : List Byte),
    (s.tcAttached n.val = true → exec (.pdMessageReceive n 3 b) s = .next (s.tcTold n.val (fun s => s.hardReset n.val false))) ∧
    (s.tcAttached n.val = false → exec (.pdMessageReceive n 3 b) s = .next s) ∧
    ((s.tcp n.val).pend = none → exec (.goodcrcTimeout n) s = .next s) ∧
    (∀ m, (s.tcp n.val).pend = some m → m.tries < 2 → exec (.goodcrcTimeout n) s = .next ((s.bump TCP_RETRY.COUNT n.val).pdPut n.val { m with tries := m.tries + 1 })) ∧
    (∀ m, (s.tcp n.val).pend = some m → 2 ≤ m.tries → (s.tcp n.val).queue = [] → exec (.goodcrcTimeout n) s = .next ((((s.modTc n.val (fun v =>
      { v with pend := none })).bump TCP_TXFAIL.COUNT n.val).raiseOnce (tcEvent n.val 9)).txRes n.val m St.TIMEOUT))) ∧
  (∀ (s : State) (n : Fin 2) (sop : Fin 4) (q : Fin 256) (b : List Byte), let m : PdMsg := ⟨sop.val, b, 0, some q.val⟩
    (s.tcAttached n.val = false → exec (.txreq n sop q b) s = .next (s.tcTell n.val 3 sop.val q.val St.STATE [])) ∧
    (s.tcAttached n.val = true → sop.val = 0 → pdWhole b = true → pdKind b ≠ Pd.goodCrc → b.length ≤ 30 →
      (∀ w, (s.tcp n.val).wait = some w → exec (.txreq n sop q b) s = .next ((s.modTc n.val (fun v => { v with wait := none })).pdSend n.val m)) ∧
      ((s.tcp n.val).wait = none → pdAnswers b = true → exec (.txreq n sop q b) s = .next (s.tcTell n.val 3 0 q.val St.STATE [])) ∧
      ((s.tcp n.val).wait = none → pdAnswers b = false →
        (s.on TCP_STATUS.CONTRACT n.val = false ∨ s.rd TCP_STATUS.PDREV n.val ≠ 2 ∨ (s.on TCP_STATUS.PROLE n.val = false ∧ s.rd TCP_STATUS.RP_SEEN n.val = 3) →
          exec (.txreq n sop q b) s = .next (s.pdSend n.val m)) ∧
        (s.on TCP_STATUS.CONTRACT n.val = true → s.rd TCP_STATUS.PDREV n.val = 2 → s.on TCP_STATUS.PROLE n.val = true → exec (.txreq n sop q b) s = .next
          ((s.modTc n.val (fun v => { v with held := some m, txNg := true })).emit (.act "typec rp" [n.val, 2]))) ∧
        (s.on TCP_STATUS.CONTRACT n.val = true → s.rd TCP_STATUS.PDREV n.val = 2 → s.on TCP_STATUS.PROLE n.val = false → s.rd TCP_STATUS.RP_SEEN n.val ≠ 3 →
          exec (.txreq n sop q b) s = .next (s.modTc n.val (fun v => { v with held := some m })))))) ∧
  (∀ (s : State) (n : Fin 2), ((s.tcp n.val).held = none → exec (.sinkTxWaitEnd n) s = .next s ∧ exec (.sinkTxHoldTimeout n) s = .next s) ∧
    (∀ m, (s.tcp n.val).held = some m → let u := s.modTc n.val (fun v => { v with held := none })
      (s.on TCP_STATUS.PROLE n.val = true → exec (.sinkTxWaitEnd n) s = .next (u.pdSend n.val m) ∧ exec (.sinkTxHoldTimeout n) s = .next s) ∧
      (s.on TCP_STATUS.PROLE n.val = false → exec (.sinkTxWaitEnd n) s = .next s ∧ exec (.sinkTxHoldTimeout n) s = .next (u.txRes n.val m St.BUSY)))) ∧
  (∀ (s : State) (n : Fin 2), ((s.tcp n.val).wait = none → exec (.policyWaitExpire n) s = .next s) ∧
    (∀ sop b, (s.tcp n.val).wait = some (sop, b) →
      let u := ((s.modTc n.val (fun v => { v with wait := none })).bump TCP_POLTO.COUNT n.val).raiseOnce (tcEvent n.val 5)
      (pdKind b = Pd.request → let ok := bits (pdObj b 0) 28 3 = 1 ∧ bits (pdObj b 0) 10 10 ≤ s.rd TCP_FALLBACK.FB_SRC_MA
        exec (.policyWaitExpire n) s = .next (u.pdOwn n.val (if ok then Pd.accept else Pd.reject) [])) ∧
      (pdKind b = Pd.prSwap ∨ pdKind b = Pd.drSwap ∨ pdKind b = Pd.vconnSwap → exec (.policyWaitExpire n) s = .next (u.pdOwn n.val Pd.reject [])) ∧
      (pdKind b = Pd.getSourceCap → exec (.policyWaitExpire n) s = .next (u.pdOwn n.val Pd.notSupported []))))

/-- R338, R342, R346: transitions, swaps, timers. -/
def Obligations.PdTransitions : Prop :=
  (∀ (s : State) (n : Fin 2), let v := s.tcp n.val
    (v.phase = .srcRequest → let volt := pdoVolt ((s.sourcePdos n.val).getD (bits v.rdo 28 3 - 1) 0) v.rdo
      exec (.srcTransitionEnd n) s = .next ((s.tcPins n.val (fun t => { t with vsel := vselOf volt })).setPhase n.val .srcVoltage)) ∧
    (v.phase = .swapSrcWait → exec (.srcTransitionEnd n) s = .next
      (((s.tcPins n.val (fun t => { t with srcEn := false, disch := true })).tcRouted n.val).setPhase n.val .swapSrcFall)) ∧
    (v.phase ≠ .srcRequest → v.phase ≠ .swapSrcWait → exec (.srcTransitionEnd n) s = .next s) ∧
    (v.phase = .srcVoltage → exec (.vbusLevelReached n) s = .next ((s.setPhase n.val .srcReady).pdOwn n.val Pd.psRdy [])) ∧
    (v.phase = .swapSnkRise → exec (.vbusLevelReached n) s = .next ((s.setPhase n.val .swapSnkReady).pdOwn n.val Pd.psRdy [])) ∧
    (v.phase = .swapSrcFall → exec (.vbusLevelReached n) s = .next (s.tcTold n.val (fun s =>
      ((((s.tcPins n.val (fun t => { t with disch := false })).setPowerRole n.val false).setPhase n.val .swapSrcReady).pdOwn n.val Pd.psRdy [])))) ∧
    (v.phase = .idle → v.srcEn = false → exec (.vbusLevelReached n) s = .next (s.tcPins n.val (fun t => { t with disch := false }))) ∧
    (v.phase = .srcVoltage ∨ v.phase = .srcRequest → exec (.vbusFault n) s = .next (s.tcTold n.val (fun s => (s.raise (tcEvent n.val 8)).hardReset n.val true))) ∧
    (v.phase ≠ .srcVoltage → v.phase ≠ .srcRequest → exec (.vbusFault n) s = .next s) ∧
    (v.phase = .snkRequest → exec (.psTransitionTimeout n) s = .next (s.tcTold n.val (fun s => s.hardReset n.val true))) ∧
    (v.phase ≠ .snkRequest → exec (.psTransitionTimeout n) s = .next s) ∧
    (v.phase = .swapSrcReady ∨ v.phase = .swapSnkWait → exec (.swapTimeout n) s = .next (s.tcTold n.val (fun s => (s.errorRecovery n.val).reportPresence))) ∧
    (v.phase = .idle → exec (.swapTimeout n) s = .next s)) ∧
  (∀ (s : State) (n : Fin 2) (b : List Byte) (m : PdMsg), s.tcAttached n.val = true → pdWhole b = true → pdKind b = Pd.goodCrc → (s.tcp n.val).pend = some m →
    m.sop = 0 → m.rseq = none → pdId m.bytes = pdId b → pdKind m.bytes = Pd.psRdy → (s.tcp n.val).queue = [] → (s.tcp n.val).phase = .srcReady →
    exec (.pdMessageReceive n 0 b) s = .next (s.tcTold n.val (fun s => ((s.modTc n.val (fun v =>
      { v with pend := none, txId := NMap.set v.txId 0 0 ((pdId b + 1) % 8) })).bump TCP_TXMSG.COUNT n.val).contract n.val
        (pdoVolt ((s.sourcePdos n.val).getD (bits (s.tcp n.val).rdo 28 3 - 1) 0) (s.tcp n.val).rdo)))) ∧
  (∀ (s : State) (n : Fin 2), let v := s.tcp n.val
    let st := s.rd TCP_STATUS.TCSTATE n.val
    let told := fun (f : State → State) => (Host.Outcome.next (s.tcTold n.val f) : Res)
    (s.tcAttached n.val = true → v.mine = true → v.exch = 1 → exec (.pdTimerExpiry n 0) s = told (fun s => s.hardReset n.val true)) ∧
    (s.tcAttached n.val = true → v.mine = true → v.exch = 2 → exec (.pdTimerExpiry n 0) s = .next (s.exchEnd n.val)) ∧
    (v.mine = false → exec (.pdTimerExpiry n 0) s = .next s) ∧
    (st = 10 → s.on TCP_STATUS.CONTRACT n.val = false → v.capsSent < 50 → exec (.pdTimerExpiry n 1) s = told (fun s => s.sendCaps n.val)) ∧
    (50 ≤ v.capsSent → exec (.pdTimerExpiry n 1) s = .next s) ∧
    (s.tcAttached n.val = true → s.on TCP_STATUS.CONTRACT n.val = false → v.hardResets ≤ 2 → exec (.pdTimerExpiry n 2) s = told (fun s => s.hardReset n.val true)) ∧
    (s.tcAttached n.val = true → s.on TCP_STATUS.CONTRACT n.val = false → 2 < v.hardResets → exec (.pdTimerExpiry n 2) s = told (fun s => s.errorRecovery n.val)) ∧
    (v.phase = .recover → exec (.pdTimerExpiry n 4) s = told (fun s => ((((s.tcPins n.val (fun v => { v with srcEn := true, disch := false })).setBit
      TCP_STATUS.VCONN_ON (s.on TCP_CTRL.VCONN_EN n.val) n.val).setPhase n.val .idle).tcRouted n.val).sendCaps n.val)) ∧
    (st = 5 → exec (.pdTimerExpiry n 5) s = told (fun s => s.wr TCP_STATUS.TCSTATE 8 n.val)) ∧
    (st = 6 → exec (.pdTimerExpiry n 5) s = told (fun s => s.wr TCP_STATUS.TCSTATE 7 n.val)) ∧
    (5 ≤ st → st ≤ 8 → exec (.pdTimerExpiry n 6) s = told (fun s => s.wr TCP_STATUS.TCSTATE (s.tcUnattached n.val) n.val)) ∧
    (st = 11 → exec (.pdTimerExpiry n 7) s = told (fun s => s.wr TCP_STATUS.TCSTATE (s.tcUnattached n.val) n.val)) ∧
    exec (.pdTimerExpiry n 3) s = .next s)

/-- R351, R353 to R357, R363: feeds and input stage. -/
def Obligations.PowerInput : Prop :=
  (∀ (s : State) (f : Fin 2), let valid := feedField f.val PWP_STATUS.A_VALID PWP_STATUS.B_VALID
    let other := feedField f.val PWP_STATUS.B_VALID PWP_STATUS.A_VALID
    let ovr := feedField f.val PWP_STATUS.A_OV PWP_STATUS.B_OV
    let gate := feedField f.val PWP_STATUS.A_ON PWP_STATUS.B_ON
    let up := ((s.wr valid 1).setFet f.val true).raise 0x3C0 f.val
    (s.pw.powered = true → s.on valid = false → s.on ovr = false → s.pw.ramping = false → s.pw.waiting = false → s.on PWP_STATUS.IN_GOOD = false →
      s.on PWP_STATUS.IN_LATCH = false → exec (.feedValid f) s = .next ((up.modPw (fun p => { p with ramping := true, inTimer := 0, inQuiet := 0 })).emit
        (.act "hs gate" [1, s.rd PWP_INCFG.DVDT]))) ∧
    (s.pw.powered = true → s.on valid = false → s.on ovr = false → s.pw.ramping = true ∨ s.pw.waiting = true ∨ s.on PWP_STATUS.IN_GOOD = true ∨
      s.on PWP_STATUS.IN_LATCH = true → exec (.feedValid f) s = .next up) ∧
    (s.pw.powered = false ∨ s.on valid = true ∨ s.on ovr = true → exec (.feedValid f) s = .next s) ∧
    (s.on valid = false → exec (.feedLost f) s = .next s) ∧
    (let down := fun (s : State) => ((s.wr valid 0).setFet f.val false).raise 0x3C1 f.val
     (s.on valid = true → s.on other = true → exec (.feedLost f) s = .next (down s)) ∧
     (s.on valid = true → s.on other = false → exec (.feedLost f) s = .next (down s).inputOff) ∧
     (s.pw.powered = true → s.on ovr = false → s.on valid = true → s.on other = true → exec (.feedOv f) s = .next (down ((s.wr ovr 1).raise 0x3C2 f.val))) ∧
     (s.pw.powered = true → s.on ovr = false → s.on valid = true → s.on other = false → exec (.feedOv f) s = .next (down ((s.wr ovr 1).raise 0x3C2 f.val)).inputOff)) ∧
    exec (.feedOvExit f) s = .next (s.wr ovr 0) ∧
    (s.on valid = true → s.on gate = true → exec (.reverseTurnOff f false) s = .next
      ((((s.wr gate 0).emit (.act "or gate" [f.val, 0])).bump (feedField f.val PWP_REVCNT.REV_A PWP_REVCNT.REV_B)).raiseOnce 0x3C3 0 f.val)) ∧
    (s.on valid = true → s.on gate = false → exec (.reverseTurnOff f true) s = .next ((s.wr gate 1).emit (.act "or gate" [f.val, 1])) ∧
      exec (.reverseTurnOff f false) s = .next s) ∧
    (s.on valid = false → ∀ b, exec (.reverseTurnOff f b) s = .next s)) ∧
  (∀ s : State, let n := s.rd PWP_STATUS.IN_TRIES + 1
    let fail := fun (cause : Nat) => (s.inputOff.wr PWP_STATUS.IN_TRIES n).raise 0x3C4 (cause + 8 * n)
    let after := fun (cause : Nat) => (Host.Outcome.next (if n < 3 then (fail cause).modPw (fun p => { p with waiting := true })
      else (fail cause).wr PWP_STATUS.IN_LATCH 1) : Res)
    (s.pw.ramping = true → exec .inputRampDone s = .next ((((s.modPw (fun p => { p with ramping := false })).wr PWP_STATUS.IN_GOOD 1).raise 0x3C5).efRefreshAll) ∧
      exec .inputRampTimeout s = after 0 ∧ exec .inputFetFail s = after 3) ∧
    (s.pw.ramping = false → exec .inputRampDone s = .next s ∧ exec .inputRampTimeout s = .next s ∧ exec .inputFetFail s = .next s) ∧
    (s.on PWP_STATUS.IN_GOOD = true → exec (.inputTrip true) s = after 2 ∧
      (s.rd PWP_INCFG.FT_IN * 10 ≤ s.pw.inTimer → exec (.inputTrip false) s = after 1) ∧
      (s.pw.inTimer < s.rd PWP_INCFG.FT_IN * 10 → exec (.inputTrip false) s = .next s) ∧
      exec .inputHoldClear s = .next (s.wr PWP_STATUS.IN_TRIES 0) ∧ exec .inGoodLoss s = .next s.inputOff.inputStart) ∧
    (s.on PWP_STATUS.IN_GOOD = false → exec (.inputTrip true) s = .next s ∧ exec .inputHoldClear s = .next s ∧ exec .inGoodLoss s = .next s) ∧
    (s.pw.waiting = false → exec .inputRetry s = .next s) ∧
    (s.pw.waiting = true → s.feedOk = false → exec .inputRetry s = .next (s.modPw (fun p => { p with waiting := false }))) ∧
    (s.pw.waiting = true → s.pw.powered = true → s.feedOk = true → s.pw.ramping = false → s.on PWP_STATUS.IN_GOOD = false → s.on PWP_STATUS.IN_LATCH = false →
      exec .inputRetry s = .next ((s.modPw (fun p => { p with waiting := false, ramping := true, inTimer := 0, inQuiet := 0 })).emit
        (.act "hs gate" [1, s.rd PWP_INCFG.DVDT])))) ∧
  (∀ s : State, let gone := s.pwpReset
    (s.pw.powered = false → exec .powerPathPowerUp s = .next (gone.setPw { Pw.init with powered := true }) ∧ exec .bothFeedsBelow20v s = .next s) ∧
    (s.pw.powered = true → exec .bothFeedsBelow20v s = .next (gone.setPw { Pw.init with powered := false }) ∧ exec .powerPathPowerUp s = .next s) ∧
    gone.rd PWP_STATUS.IN_GOOD = 0 ∧ gone.rd PWP_STATUS.IN_LATCH = 0 ∧ ∀ c : Fin 3, gone.rd PWP_EFSTAT.STATE c.val = 0 ∧ gone.rd PWP_EFCTL.EN c.val = 0)

/-- R352, R359 to R370: channels and telemetry. -/
def Obligations.PowerChannels : Prop :=
  (∀ (s : State) (c : Fin 3) (data : Word), s.serves (Reg.PWP_EFCTL.addr c.val 0) true →
    let st := firstStatus (s.writeChecks Reg.PWP_EFCTL c.val data.toNat ++ s.efctlChecks c.val data.toNat)
    let u := s.writeFields Reg.PWP_EFCTL c.val data.toNat
    (s.on FLD_STATUS.D2D_UP = false → exec (.efEnable c data) s = .next (s.answer St.TIMEOUT)) ∧
    (s.on FLD_STATUS.D2D_UP = true → st ≠ St.OK → exec (.efEnable c data) s = .next (s.answer st)) ∧
    (s.on FLD_STATUS.D2D_UP = true → st = St.OK → s.rd PWP_EFSTAT.STATE c.val = 0 → PWP_EFCTL.EN.of data.toNat = 1 → PWP_EFCTL.PRES_EN.of data.toNat = 0 →
      s.on PWP_STATUS.IN_GOOD = true → exec (.efEnable c data) s = .next (((((u.modEf c.val (fun e => { e with quiet := 0, good := 0, low := 0 })).wr
        PWP_EFSTAT.FTIMER 0 c.val).wr PWP_EFSTAT.STATE 3 c.val).emit (.act "ef gate" [c.val + 1, 1, s.rd PWP_EFCFG.SS c.val])).answer St.OK)) ∧
    (s.on FLD_STATUS.D2D_UP = true → st = St.OK → s.rd PWP_EFSTAT.STATE c.val = 6 → PWP_EFCTL.EN.of data.toNat = 0 → exec (.efEnable c data) s = .next
      ((((u.wr PWP_EFSTAT.STATE 0 c.val).wr PWP_EFSTAT.CAUSE 0 c.val).efOff c.val 0).answer St.OK))) ∧
  (∀ (s : State) (v : List Nat) (i : List Int) (lim : List Bool), s.pw.powered = true → ∃ t, exec (.efSample v i lim) s = .next t ∧
    (∀ c : Fin 3, let ft := s.rd PWP_EFSTAT.FTIMER c.val
      let now := lim.getD (c.val + 1) false && s.efRuns c.val
      (now = true → ft < s.rd PWP_EFCFG.FT c.val * 10 → t.rd PWP_EFSTAT.FTIMER c.val = ft + 1 ∧ (t.efs c.val).quiet = 0) ∧
      (now = false → (s.efs c.val).quiet < 15 → t.rd PWP_EFSTAT.FTIMER c.val = ft ∧ (t.efs c.val).quiet = (s.efs c.val).quiet + 1) ∧
      (now = false → (s.efs c.val).quiet = 15 → ft < s.rd PWP_EFCFG.FT c.val * 10 → t.rd PWP_EFSTAT.FTIMER c.val = ft - 1 ∧ (t.efs c.val).quiet = 0) ∧
      (now = false → s.rd PWP_EFSTAT.STATE c.val = 4 → (t.efs c.val).good = (s.efs c.val).good + 1) ∧
      (now = true → s.rd PWP_EFSTAT.STATE c.val = 5 → s.on PWP_EFCTL.PG_HOLD c.val = false → t.rd PWP_EFSTAT.STATE c.val = 4 ∧ t.on PWP_EFSTAT.PG c.val = false) ∧
      (v.getD (c.val + 1) 0 < 2000 → 999 ≤ (s.efs c.val).low → t.rd PWP_EFSTAT.SHORT c.val = 0)) ∧
    (∀ k : Fin 4, let a := NMap.get s.pw.sum PwSum.init k.val
      let p : Int := v.getD k.val 0 * i.getD k.val 0
      let b := NMap.get t.pw.sum PwSum.init k.val
      b.v = a.v + v.getD k.val 0 ∧ b.i = a.i + i.getD k.val 0 ∧ b.p = a.p + p ∧ b.energy = if bitAt s.pw.clear k.val then p else a.energy + p) ∧
    t.pw.count = s.pw.count + 1 ∧ t.pw.clear = 0 ∧ s.keepsButEvents t ([0, 1, 2].flatMap (fun c => [(PWP_EFSTAT.FTIMER, c), (PWP_EFSTAT.LIMIT, c),
      (PWP_EFSTAT.SHORT, c), (PWP_EFSTAT.STATE, c), (PWP_EFSTAT.PG, c)]))) ∧
  (∀ (s : State) (c : Fin 3), let off := fun (cause : Nat) => ((s.efOff c.val 6).wr PWP_EFSTAT.CAUSE cause c.val).bump PWP_EFCNT.TRIPS c.val
    let tail := 8 * ((s.efs c.val).last % 65536).toNat + 2 ^ 19 * s.rd PWP_EFCTL.PORT c.val
    (s.efRuns c.val = true → exec (.efFastTrip c) s = .next ((off 2).raise (efEvent c.val 2) (2 + tail)) ∧
      exec (.efFetFail c) s = .next ((off 3).raise (efEvent c.val 3)) ∧ exec (.efFetShort c) s = .next s ∧
      (s.rd PWP_EFCFG.FT c.val * 10 ≤ s.rd PWP_EFSTAT.FTIMER c.val → exec (.efTimerTrip c) s = .next ((off 1).raise (efEvent c.val 2) (1 + tail))) ∧
      (s.rd PWP_EFSTAT.FTIMER c.val < s.rd PWP_EFCFG.FT c.val * 10 → exec (.efTimerTrip c) s = .next s)) ∧
    (s.efRuns c.val = false → exec (.efFastTrip c) s = .next s ∧ exec (.efFetFail c) s = .next s ∧ exec (.efTimerTrip c) s = .next s ∧
      (s.pw.powered = true → s.on PWP_EFSTAT.SHORT c.val = false → exec (.efFetShort c) s = .next ((s.wr PWP_EFSTAT.SHORT 1 c.val).raise (efEvent c.val 4)))) ∧
    (s.rd PWP_EFSTAT.STATE c.val = 3 → exec (.efRampDone c) s = .next ((s.wr PWP_EFSTAT.STATE 4 c.val).modEf c.val (fun e => { e with good := 0 }))) ∧
    (s.rd PWP_EFSTAT.STATE c.val ≠ 3 → exec (.efRampDone c) s = .next s) ∧
    (s.rd PWP_EFSTAT.STATE c.val = 4 → 100 ≤ (s.efs c.val).good → exec (.efPgUp c) s = .next ((s.wr PWP_EFSTAT.STATE 5 c.val).setPg c.val true)) ∧
    ((s.efs c.val).good < 100 → exec (.efPgUp c) s = .next s) ∧
    (s.pw.powered = true → s.on PWP_EFSTAT.PRES c.val = true → exec (.efPresenceChange c false) s = .next (((((s.wr PWP_EFSTAT.PRES 0 c.val).raise (efEvent c.val 6)).modEf
      c.val (fun e => { e with cool := true })).efRefresh c.val).reportPresence)) ∧
    (s.pw.powered = true → s.on PWP_EFSTAT.PRES c.val = false → (s.efs c.val).cool = true → exec (.efPresenceChange c true) s = .next
      (((((s.wr PWP_EFSTAT.PRES 1 c.val).raise (efEvent c.val 5)).bump PWP_EFCNT.REINS c.val).efRefresh c.val).reportPresence)) ∧
    (∀ b, s.on PWP_EFSTAT.PRES c.val = b → exec (.efPresenceChange c b) s = .next s) ∧
    ((s.efs c.val).cool = true → exec (.efCooldownEnd c) s = .next ((s.modEf c.val (fun e => { e with cool := false })).efRefresh c.val)) ∧
    ((s.efs c.val).cool = false → exec (.efCooldownEnd c) s = .next s)) ∧
  (∀ (s : State) (va vb : Fin 65536), s.pw.powered = true → s.pw.count ≠ 0 → ∃ t, exec (.telemetryUpdate va vb) s = .next t ∧ t.pw.count = 0 ∧
    t.rd PWP_FEEDV.VIN_A = va.val ∧ t.rd PWP_FEEDV.VIN_B = vb.val ∧ (∀ k : Fin 4, let a := NMap.get s.pw.sum PwSum.init k.val
      (a.v % s.pw.count = 0 → t.rd PWP_TV.V k.val = unsgn 16 ((a.v : Int) / s.pw.count)) ∧
      (a.i % s.pw.count = 0 → t.rd PWP_TI.I k.val = unsgn 32 (a.i / s.pw.count)) ∧
      (a.p % (1000 * s.pw.count : Nat) = 0 → t.rd PWP_TP.P k.val = unsgn 32 (a.p / (1000 * s.pw.count : Nat))) ∧
      t.rd PWP_TIPK.IPK k.val = unsgn 16 a.peak ∧ NMap.get t.pw.sum PwSum.init k.val = ⟨0, 0, 0, 0, a.energy⟩)) ∧
  (∀ (s : State) (k : Fin 4) (data : Word), s.on FLD_STATUS.D2D_UP = true →
    (s.serves (Reg.PWP_TE_LO.addr k.val 0) false → let e := s.energyOf k.val
      exec (.energyLatch k) s = .next (((s.wr PWP_TE_LO.E (e % 2 ^ 32) k.val).wr PWP_TE_HI.E (e / 2 ^ 32) k.val).answerData [e % 2 ^ 32])) ∧
    (s.serves Reg.PWP_TELCMD.base true → Reg.PWP_TELCMD.reservedSet data.toNat = false → exec (.energyClear data) s = .next
      ((s.modPw (fun p => { p with clear := p.clear ||| PWP_TELCMD.ECLR.of data.toNat })).answer St.OK)) ∧
    exec .pwpAccessTimeout s = .next s) ∧
  (∀ (s : State) (v : List Nat) (i : List Int) (lim : List Bool) (va vb : Fin 65536), (s.pw.powered = false → exec (.efSample v i lim) s = .next s ∧
    exec (.telemetryUpdate va vb) s = .next s) ∧ (s.on FLD_STATUS.D2D_UP = false → exec .pwpAccessTimeout s = .next (s.answer St.TIMEOUT)))

/-- R379 to R383, R385: domains. -/
def Obligations.PowerDomains : Prop :=
  (∀ (s : State) (d : Fin 13), s.chip.phase = .running → s.gateEnabled d.val = true → s.rd (dstat d.val) = 0 → s.domainIdle d.val = true →
    let u := (s.calm.wr (dstat d.val) 1).bump CPM_DRAINCNT.DRAINS
    exec (.domainGate d false) s = .next u ∧
    ((∀ h, h ∈ s.chip.held → s.domainOf h.addr ≠ d.val) → exec (.domainGate d true) s = .next (((u.domainReset d.val).wr (dstat d.val) 2).powerState).settled)) ∧
  (∀ (s : State) (d : Fin 13) (b : Bool), s.chip.phase ≠ .running ∨ s.gateEnabled d.val = false ∨ s.rd (dstat d.val) ≠ 0 ∨ s.domainIdle d.val = false →
    exec (.domainGate d b) s = .next s.calm) ∧
  (∀ (s : State) (d : Nat) (r : RegDesc) (i : Nat) (f : Field), (r, i) ∈ s.domainRegs d → f ∈ r.fields →
    (heldInCore.contains f.id.val = false → (s.domainReset d).rd f i = f.resetAt i) ∧ (heldInCore.contains f.id.val = true → (s.domainReset d).rd f i = s.rd f i)) ∧
  (∀ (s : State) (d : Fin 13) (n : Fin 65536), (s.rd (dstat d.val) ≠ 1 → exec (.drainAbort d n) s = .next s.calm) ∧
    (s.rd (dstat d.val) = 1 → s.chip.phase = .entering → n.val = 0 → exec (.drainAbort d n) s = .next s.calm) ∧
    (s.rd (dstat d.val) = 1 → s.chip.phase = .entering → n.val ≠ 0 → d.val ≠ 9 → exec (.drainAbort d n) s = .next
      ((s.calm.bump CPM_DRAINCNT.ABORTS 0 n.val).raise 0x3F1 (d.val + 16 * n.val)).settled) ∧
    (s.rd (dstat d.val) = 1 → s.chip.phase = .running → n.val = 0 → (∀ h, h ∈ s.chip.held → s.domainOf h.addr ≠ d.val) → exec (.drainAbort d n) s = .next
      (((s.calm.domainReset d.val).wr (dstat d.val) 2).powerState).settled)) ∧
  (∀ (s : State) (d : Fin 13), (s.rd (dstat d.val) ≠ 2 → exec (.domainWake d) s = .next s) ∧
    (s.rd (dstat d.val) = 2 → exec (.domainWake d) s = .next ((((s.wr (dstat d.val) 0).wr CPM_WAKEF.WAKEF (s.rd CPM_WAKEF.WAKEF ||| 2 ^ (d.val - 1))).powerState).raise
      0x3F0 d.val)) ∧
    (s.awaitsRestore d.val = false → exec (.domainRestore d) s = .next s) ∧
    (s.awaitsRestore d.val = true → s.chip.image = [] → exec (.domainRestore d) s = .next (s.wr CPM_WAKEF.WAKEF (s.rd CPM_WAKEF.WAKEF - 2 ^ (d.val - 1)))) ∧
    (∀ a v r i, s.awaitsRestore d.val = true → s.chip.image = [(a, v)] → s.domainOf a = d.val →
      regMap.findSome? (fun r => (r.indexOf a).map (fun i => (r, i))) = some (r, i) → let u := s.writeFields r i (idleMask r v)
      exec (.domainRestore d) s = .next (u.wr CPM_WAKEF.WAKEF (u.rd CPM_WAKEF.WAKEF - 2 ^ (d.val - 1)))))

/-- R386 to R390: entries and wakes. -/
def Obligations.DozeAndShip : Prop :=
  (∀ (s : State), s.serves Reg.CPM_PSCMD.base true →
    (s.on CPM_STATE.PS_ARM = false → exec .doze s = .next (s.answer St.AUTH) ∧ exec .ship s = .next (s.answer St.AUTH)) ∧
    (s.on CPM_STATE.PS_ARM = true → s.rd CPM_STATE.STATE = 2 → exec .doze s = .next (s.answer St.STATE) ∧ exec .ship s = .next (s.answer St.STATE)) ∧
    (s.on CPM_STATE.PS_ARM = true → s.rd CPM_STATE.STATE ≠ 2 → exec .doze s = .next ((s.answer St.OK).psEnter 1 0) ∧
      exec .ship s = .next ((s.answer St.OK).psEnter 2 0))) ∧
  (∀ (s : State) (target cause : Nat), let t := s.psEnter target cause
    t.rd CPM_STATE.STATE = 2 ∧ t.rd CPM_STATE.PS_ARM = 0 ∧ (∀ d : Fin 13, t.rd (dstat d.val) = if s.rd (dstat d.val) = 0 then 1 else s.rd (dstat d.val)) ∧
    t.chip = { s.chip with phase := .entering, target := target, wakes := 0, ulp := false, dozeMask := s.readReg Reg.CPM_DOZEWAKE 0, alarm := s.rd CPM_ALARM.ALARM_S } ∧
    s.keepsButEvents t ([(CPM_STATE.STATE, 0), (CPM_STATE.PS_ARM, 0), (CPM_DRAINCNT.DRAINS, 0)] ++ (List.range 13).map (fun d => (dstat d, 0)))) ∧
  (∀ s : State, (s.chip.ulp = true → s.chip.phase = .running → s.rd CPM_ULP.ULP_ACT = 1 ∨ s.rd CPM_ULP.ULP_ACT = 2 →
      exec .ulpExpire s = .next (s.psEnter (s.rd CPM_ULP.ULP_ACT) 1)) ∧
    (s.chip.ulp = false → exec .ulpExpire s = .next s) ∧ exec .psArmExpire s = .next (s.wr CPM_STATE.PS_ARM 0)) ∧
  (∀ s : State, (s.chip.phase ≠ .entering → exec .dozeReached s = .next s) ∧
    (s.chip.phase = .entering → s.chip.held = [] → s.chip.target = 1 → s.chip.wakes = 0 → ∃ t, exec .dozeReached s = .next t ∧ t.chip.phase = .doze ∧
      t.chip.dozeMask = s.chip.dozeMask ∧ t.chip.alarm = s.chip.alarm ∧ t.pw = s.pw ∧ t.rd BOOT_STATUS.MODE = 0 ∧ t.usb = Usb.init ∧
      (∀ p : Fin 4, t.rd JXK_CTRL.EN p.val = 0 ∧ t.linkSt p.val = LinkSt.DISABLED)) ∧
    (s.chip.phase = .entering → s.chip.held = [] → s.chip.target = 2 → s.chip.wakes = 0 → ∃ t, exec .dozeReached s = .next t ∧ t.chip.phase = .ship ∧
      t.pw = { Pw.init with powered := false } ∧ t.rd PWP_STATUS.IN_GOOD = 0 ∧ t.rd BOOT_STATUS.MODE = 0) ∧
    (s.chip.phase = .entering → s.chip.held = [] → s.chip.target = 1 → s.chip.wakes ≠ 0 → ∃ t, exec .dozeReached s = .next t ∧ t.chip.phase = .powering ∧
      t.chip.cause = 4 ∧ t.chip.wakes = s.chip.wakes) ∧
    (∀ w a, s.chip.phase = .entering → s.chip.held = [⟨w, a, none⟩] → exec .dozeReached s = .next (s.answer St.ABORTED).psReached)) ∧
  (∀ (s : State) (src : Fin 6) (i : Fin 16), (s.wakeEnabled src.val i.val = false → exec (.dozeWakeEvent src i) s = .next s) ∧
    (s.wakeEnabled src.val i.val = true → s.chip.phase = .entering → exec (.dozeWakeEvent src i) s = .next
      (s.modChip (fun c => { c with wakes := c.wakes ||| 2 ^ src.val }))) ∧
    (s.wakeEnabled src.val i.val = true → s.chip.phase = .doze → s.chip.target = 1 → exec (.dozeWakeEvent src i) s = .next ((s.modChip (fun c =>
      { c with wakes := c.wakes ||| 2 ^ src.val, phase := .powering, cause := 4, target := 0 })).emit (.act "fab_en" [1]))) ∧
    (s.chip.phase = .running → exec (.dozeWakeEvent src i) s = .next s) ∧
    (s.wakeEnabled 0 i.val = true ↔ CPM_DOZEWAKE.WPIN.of s.chip.dozeMask = 1) ∧
    (s.wakeEnabled 3 i.val = true ↔ bitAt (CPM_DOZEWAKE.WDI.of s.chip.dozeMask) i.val = true)) ∧
  (∀ (s : State) (feed vbat : Bool), (s.chip.phase ≠ .ship → exec (.shipWake feed vbat) s = .next s) ∧
    (s.chip.phase = .ship → s.chip.target = 2 → exec (.shipWake feed vbat) s = .next ((((((s.modChip (fun c => { c with wakes := if feed then 64 else 1 })).vbatCheck
      vbat).pwpPower true).modChip (fun c => { c with phase := .powering, cause := 5, target := 0 })).emit (.act "fab_en" [1])))) ∧
    (s.chip.phase = .powering → exec .fabPgTimeout s = .next ((s.emit (.act "fab_en" [0])).emit (.act "fab_en" [1]))) ∧
    (s.chip.phase ≠ .powering → exec .fabPgTimeout s = .next s))

/-- R163, R393, R394: clocks and voltage. -/
def Obligations.ClocksAndVoltage : Prop :=
  (∀ s : State, (s.isRoot = true → exec .pllHoldover s = .next s ∧ exec .pllRelock s = .next s) ∧
    (s.isRoot = false → s.on CPM_PLLSTAT.ROOTSRC = true → s.on CPM_PLLSTAT.HOLDOVER = false → exec .pllHoldover s = .next ((s.wr CPM_PLLSTAT.HOLDOVER 1).raise 0x3F5)) ∧
    (s.on CPM_PLLSTAT.HOLDOVER = true → exec .pllHoldover s = .next s) ∧
    (s.isRoot = false → exec .pllRelock s = .next (((s.wr CPM_PLLSTAT.HOLDOVER 0).wr CPM_PLLSTAT.ROOTSRC 1).wrBit CPM_PLLSTAT.LOCK 0 true))) ∧
  (∀ (s : State) (k : Fin 5), (bitAt (s.rd CPM_PLLSTAT.LOCK) k.val = true → exec (.pllUnlock k) s = .next ((s.wrBit CPM_PLLSTAT.LOCK k.val false).raise 0x3F4 k.val)) ∧
    (bitAt (s.rd CPM_PLLSTAT.LOCK) k.val = false → exec (.pllUnlock k) s = .next s)) ∧
  (∀ (s : State) (target : Fin 41) (ack : Bool), s.on BOOT_STATUS.LOCK = false → exec (.avsUpdate target ack) s = .next s) ∧
  (∀ (s : State) (target : Fin 41), s.on BOOT_STATUS.LOCK = true → let now := s.rd CPM_AVS.AVS_NOW
    let lo := s.rd CPM_AVS.AVS_MIN
    let hi := s.rd CPM_AVS.AVS_MAX
    let v := avsStep now target.val lo hi
    (s.on CPM_AVS.AVS_EN = true → exec (.avsUpdate target false) s = .next ((s.wr CPM_AVS.FAIL 1).raise 0x3F6) ∧
      exec (.avsUpdate target true) s = .next (((s.wr CPM_AVS.AVS_NOW v).modChip (fun c => { c with avsFixed := false })).emit (.act "avsbus" [v])) ∧
      v ≤ now + 2 ∧ now ≤ v + 2 ∧ (lo ≤ target.val → target.val ≤ hi → now ≤ target.val → v = min target.val (now + 2)) ∧
      (lo ≤ target.val → target.val ≤ hi → target.val ≤ now → v = max target.val (now - 2)) ∧ (target.val < lo → lo + 2 ≤ now → v = now - 2) ∧
      (lo ≤ target.val → hi < target.val → now + 2 ≤ hi → v = now + 2)) ∧
    (s.on CPM_AVS.AVS_EN = false → s.chip.avsFixed = true → exec (.avsUpdate target true) s = .next s) ∧
    (s.on CPM_AVS.AVS_EN = false → s.chip.avsFixed = false → exec (.avsUpdate target true) s = .next
      (((s.wr CPM_AVS.AVS_NOW (s.rd CPM_AVS.AVS_FIX)).modChip (fun c => { c with avsFixed := true })).emit (.act "avsbus" [s.rd CPM_AVS.AVS_FIX]))))

/-- R397 to R399, R440: resets. -/
def Obligations.Resets : Prop :=
  (∀ (s : State), exec (.nporLow false) s = .next (((s.modChip (fun c => { c with phase := .reset, test := false })).resetBy 0).modChip (fun c =>
      { c with vbatLost := false })) ∧
    ∃ t, exec (.nporLow true) s = .next t ∧ t.chip.phase = .reset ∧ t.chip.cause = 0 ∧ t.chip.vbatLost = true ∧ ∀ f : Field, zenithIds.contains f.id.val = true →
      ∀ i, t.rd f i = f.resetAt i) ∧
  (∀ s : State, s.chip.phase = .running ∨ s.chip.phase = .powering ∨ s.chip.phase = .entering → exec .nresetLow s = .next
    ((s.modChip (fun c => { c with phase := .reset, test := false })).resetBy 1)) ∧
  (∀ s : State, s.chip.phase = .reset ∨ s.chip.phase = .doze ∨ s.chip.phase = .ship → exec .nresetLow s = .next s) ∧
  (∀ s : State, s.nim.loaded = true → s.chip.phase = .running → exec .svcWdtWarn s = .next (s.raise Ev.NIM_WDT_WARN) ∧
    exec .svcWdtLapse s = .next ((s.modChip (fun c => { c with phase := .reset, test := false })).resetBy 3)) ∧
  (∀ s : State, s.nim.loaded = false ∨ s.chip.phase ≠ .running → exec .svcWdtWarn s = .next s ∧ exec .svcWdtLapse s = .next s) ∧
  (∀ (s : State) (cause : Fin 6), let t := s.resetBy cause.val
    t.pw = s.pw ∧ t.chip.phase = s.chip.phase ∧ t.chip.cause = cause.val ∧ t.chip.bids = s.chip.bids ∧ t.rd BOOT_STATUS.SRC = s.rd BOOT_STATUS.SRC ∧
    t.rd BOOT_STATUS.MODE = 0 ∧ t.on BOOT_STATUS.LOCK = false ∧ t.on FLD_STATUS.D2D_UP = false ∧
    (∀ p : Fin 4, t.rd JXK_CTRL.EN p.val = 0 ∧ t.linkSt p.val = LinkSt.DISABLED) ∧ (∀ k : Fin 8, t.rd ETH_CTRL.EN k.val = 0) ∧ t.rd USB_CTRL.EN = 0 ∧
    t.rd PCB_CTRL.EN = 0 ∧ (∀ d : Fin 2, t.rd DPT_CTRL.EN d.val = 0) ∧
    (∀ (f : Field) (i : Nat), (zenithIds ++ otpIds ++ powerPathIds).contains f.id.val = true → t.rd f i = s.rd f i) ∧
    (1 ≤ cause.val → cause.val ≤ 3 → ∀ p : Fin 4, t.rd JXP_STATUS.RATE_CAP p.val = s.rd JXP_STATUS.RATE_CAP p.val) ∧
    (cause.val = 0 ∨ 4 ≤ cause.val → ∀ p : Fin 4, t.rd JXP_STATUS.RATE_CAP p.val = JXP_STATUS.RATE_CAP.resetAt p.val)) ∧
  (∀ (s : State) (src : Fin 4), (s.chip.phase = .reset → exec (.resetRelease src) s = .next (((s.wr BOOT_STATUS.SRC src.val).emit (.act "fab_en" [1])).modChip
      (fun c => { c with phase := .powering }))) ∧
    (s.chip.phase ≠ .reset → exec (.resetRelease src) s = .next s))

/-- R398, R410 to R412, R414 to R416, R418: start-up. -/
def Obligations.StartUp : Prop :=
  (∀ (s : State) (src : Fin 4) (l : List FaultCell) (a b : List Byte) (i g : Bool), s.chip.phase ≠ .powering →
    exec (.fabricResetRelease src l a b i g) s = .next s.calm) ∧
  (∀ (s : State) (src : Fin 4) (l : List FaultCell) (a b : List Byte) (i g : Bool), s.chip.phase = .powering →
    let u := ((s.calm.fabricOut src.val i g).startMarch l).wr BOOT_STATUS.STEP 5
    (s.chip.test = true → exec (.fabricResetRelease src l a b i g) s = .next ((u.wr BOOT_STATUS.MODE 3).modChip (fun c => { c with test := false })).settled) ∧
    (s.chip.test = false → u.marchFatal = true → exec (.fabricResetRelease src l a b i g) s = .next (u.enterRecovery St.INTEGRITY).settled) ∧
    (s.chip.test = false → u.marchFatal = false → s.lc = 4 → exec (.fabricResetRelease src l a b i g) s = .next (u.enterRecovery St.LIFECYCLE).settled) ∧
    (s.chip.test = false → u.marchFatal = false → s.lc ≠ 4 →
      (u.rd BOOT_STATUS.SRC ≤ 1 → exec (.fabricResetRelease src l a b i g) s = .next (u.bootFlash a b).settled) ∧
      (u.rd BOOT_STATUS.SRC = 2 → exec (.fabricResetRelease src l a b i g) s = .next
        ((u.wr BOOT_STATUS.PUSHWAIT 1).modChip (fun c => { c with push := [] })).settled) ∧
      (u.rd BOOT_STATUS.SRC = 3 → s.chip.bids = [] → exec (.fabricResetRelease src l a b i g) s = .next (u.enterRecovery St.STATE).settled) ∧
      (∀ r, u.rd BOOT_STATUS.SRC = 3 → s.chip.bids.getLast? = some r → exec (.fabricResetRelease src l a b i g) s = .next (u.takeIdentity r).settled))) ∧
  (∀ (s : State) (a b : List Byte), let u := s.wr BOOT_STATUS.STEP 6
    (s.rd BOOT_NEXT.FORCE_COPY = 0 → s.copyStatus a ≠ St.OK → s.copyStatus b ≠ St.OK → let v := (u.copyFail 0 6 (s.copyStatus a)).copyFail 1 6 (s.copyStatus b)
      s.bootFlash a b = v.enterRecovery (v.rd BOOT_STATUS.STATUS)) ∧
    (s.rd BOOT_NEXT.FORCE_COPY = 0 → s.copyStatus a = St.OK → s.copyStatus b = St.OK → imgGen a < imgGen b → s.bootFlash a b = u.tryCopies [(1, b), (0, a)] 1 false) ∧
    (s.rd BOOT_NEXT.FORCE_COPY = 0 → s.copyStatus a = St.OK → s.copyStatus b = St.OK → imgGen b ≤ imgGen a → s.bootFlash a b = u.tryCopies [(0, a), (1, b)] 0 false) ∧
    (s.rd BOOT_NEXT.FORCE_COPY = 2 → s.copyStatus b = St.OK →
      s.bootFlash a b = ((s.wr BOOT_NEXT.FORCE_COPY 0).wr BOOT_STATUS.STEP 6).tryCopies [(1, b)] 1 true) ∧
    (s.lc ≠ 4 → leAt a 0 4 ≠ 0x5A544931 → s.copyStatus a = St.VALUE)) ∧
  (∀ (s : State) (tag : Fin 65536) (st : Fin 256) (body : List Byte), (s.netWaits tag.val = false → exec (.bootBlockReceive tag st body) s = .next s.calm) ∧
    (s.netWaits tag.val = true → st.val ≠ St.OK → st.val ≠ St.RANGE ∨ s.netBlocks ≠ none ∨ tag.val = 0 → exec (.bootBlockReceive tag st body) s = .next
      ((s.calm.modChip (fun c => { c with netRun := false })).raise 0x019).settled) ∧
    (s.netWaits tag.val = true → st.val = St.OK → 8 < body.length → s.chip.netGen ≠ 0 → s.chip.netGen ≠ leAt body 0 8 →
      exec (.bootBlockReceive tag st body) s = .next s.calm) ∧
    (s.netWaits tag.val = true → st.val = St.OK → 8 < body.length → s.chip.netGen = 0 ∨ s.chip.netGen = leAt body 0 8 →
      let u := s.calm.modChip (fun c => { c with netGen := leAt body 0 8, net := NMap.set c.net [] tag.val (body.drop 8) })
      u.netBlocks = none → exec (.bootBlockReceive tag st body) s = .next u)) ∧
  (∀ (s : State) (i : Nat), (s.netWaits i = false → exec (.bootBlockTimeout i) s = .next s) ∧
    (s.netWaits i = true → NMap.get s.chip.netTry 0 i < 5 → exec (.bootBlockTimeout i) s = .next ((s.netAsk i).modChip (fun c =>
      { c with netTry := NMap.set c.netTry 0 i (NMap.get c.netTry 0 i + 1) }))) ∧
    (s.netWaits i = true → 5 ≤ NMap.get s.chip.netTry 0 i → exec (.bootBlockTimeout i) s = .next ((s.modChip (fun c => { c with netRun := false })).raise 0x019))) ∧
  (∀ s : State, (s.chip.netRun = true ∨ s.on BOOT_STATUS.LOCK = true ∨ s.chip.bids = [] → exec .netBootRetry s = .next s.calm) ∧
    (s.chip.netRun = false → s.chip.phase = .running → s.on BOOT_STATUS.LOCK = false → s.rd BOOT_STATUS.STEP ≠ 11 → s.rd BOOT_STATUS.MODE = 2 →
      s.chip.bids ≠ [] → s.chip.bootId = true → s.uplinkUp = true → exec .netBootRetry s = .next s.calm.netStart.settled)) ∧
  (∀ (s : State) (ms : Nat), (s.chip.phase ≠ .running ∨ s.rd BOOT_STATUS.STEP ≠ 11 ∨ s.rd BOOT_STATUS.MODE = 1 → exec (.bootLock ms) s = .next s.calm) ∧
    (s.chip.phase = .running → s.rd BOOT_STATUS.STEP = 11 → s.rd BOOT_STATUS.MODE = 0 ∨ s.rd BOOT_STATUS.MODE = 2 →
      let u := (((s.calm.wr BOOT_STATUS.LOCK 1).wr BOOT_STATUS.MODE 1).wr BOOT_STATUS.STEP 12).wr BOOT_TIME.T_LOCK (min 65535 ms)
      let v := u.eventsNormal.raise 0x010 (s.rd BOOT_STATUS.COPY + 4 * s.rd BOOT_GEN_LO.GEN + 2 ^ 34 * s.rd BOOT_CAUSE.CAUSE)
      exec (.bootLock ms) s = .next (([0, 1, 2, 3].foldl (fun s p => s.enablePort p) v).journalRewrite).settled))

/-- R408, R409, R412, R413, R420: the commands of start-up. -/
def Obligations.BootCommands : Prop :=
  (∀ s : State, s.serves Reg.BOOT_CMD.base true → s.on BOOT_STATUS.ARM = false → exec .confirm s = .next (s.answer St.AUTH) ∧
    exec .reset s = .next (s.answer St.AUTH) ∧ exec .svnRaise s = .next (s.answer St.AUTH) ∧
    (s.lc = 1 ∨ s.lc = 2 → exec .bidwrite s = .next (s.answer St.AUTH)) ∧ (s.lc = 1 ∨ s.lc = 3 → exec .test s = .next (s.answer St.AUTH))) ∧
  (∀ s : State, s.serves Reg.BOOT_CMD.base true → s.on BOOT_STATUS.ARM = true → let u := s.wr BOOT_STATUS.ARM 0
    (s.on BOOT_STATUS.TRIAL = true → exec .confirm s = .next (((((u.wr BOOT_CONF_LO.GEN (s.rd BOOT_GEN_LO.GEN)).wr BOOT_CONF_HI.GEN (s.rd BOOT_GEN_HI.GEN)).wr
      BOOT_ZSTATE.TRIES 0).wr BOOT_STATUS.TRIAL 0).answer St.OK)) ∧
    (s.on BOOT_STATUS.TRIAL = false → exec .confirm s = .next (u.answer St.OK)) ∧
    exec .reset s = .next (((u.answer St.OK).modChip (fun c => { c with phase := .reset, test := false })).resetBy 2) ∧
    exec .svnRaise s = .next ((u.wr BOOT_SVN.FLOOR (max (s.rd BOOT_SVN.FLOOR) (s.rd BOOT_SVN.RUN_SVN))).answer St.OK) ∧
    (s.lc = 1 ∨ s.lc = 3 → exec .test s = .next (((u.answer St.OK).modChip (fun c => { c with phase := .reset, test := true })).resetBy 2)) ∧
    (s.lc = 1 ∨ s.lc = 2 → bidBad s.bidBuf = true → exec .bidwrite s = .next (s.answer St.VALUE)) ∧
    (s.lc = 1 ∨ s.lc = 2 → bidBad s.bidBuf = false → 4 ≤ s.rd BOOT_BIDSTAT.USED → exec .bidwrite s = .next (s.answer St.NOSPACE)) ∧
    (s.lc = 1 ∨ s.lc = 2 → bidBad s.bidBuf = false → s.rd BOOT_BIDSTAT.USED < 4 → exec .bidwrite s = .next
      (((u.modChip (fun c => { c with bids := c.bids ++ [s.bidBuf] })).wr BOOT_BIDSTAT.USED (s.rd BOOT_BIDSTAT.USED + 1)).answer St.OK))) ∧
  (∀ s : State, s.serves Reg.BOOT_CMD.base true → (s.lc ≠ 1 → s.lc ≠ 2 → exec .bidwrite s = .next (s.answer St.LIFECYCLE)) ∧
    (s.lc ≠ 1 → s.lc ≠ 3 → exec .test s = .next (s.answer St.LIFECYCLE)) ∧ (s.lc = 4 → exec .load s = .next (s.calm.answer St.LIFECYCLE)) ∧
    (s.lc ≠ 4 → s.on BOOT_STATUS.PUSHWAIT = false → exec .load s = .next (s.calm.answer St.STATE)) ∧
    (s.lc ≠ 4 → s.on BOOT_STATUS.PUSHWAIT = true →
      let t := ((s.calm.wr BOOT_STATUS.PUSHWAIT 0).wr BOOT_STATUS.STATUS 0).bringImage 2 (pushBytes s.chip.push 0 s.chip.push.length)
      exec .load s = .next (if t.on BOOT_STATUS.PUSHWAIT then t.answer (t.rd BOOT_STATUS.STATUS)
        else (if s.rd BOOT_STATUS.STATUS = 0 then t else t.wr BOOT_STATUS.STATUS (s.rd BOOT_STATUS.STATUS)).answer St.OK).settled)) ∧
  (∀ (s : State) (data : Word), s.serves Reg.BOOT_PUSHDATA.base true →
    (s.on BOOT_STATUS.PUSHWAIT = false → exec (.pushWrite data) s = .next (s.answer St.STATE)) ∧
    (s.on BOOT_STATUS.PUSHWAIT = true → s.chip.pushFull = true → exec (.pushWrite data) s = .next (s.answer St.RANGE)) ∧
    (s.on BOOT_STATUS.PUSHWAIT = true → s.chip.pushFull = false → let p := s.rd BOOT_PUSHPTR.PTR
      exec (.pushWrite data) s = .next (((s.modChip (fun c => { c with push := NMap.set c.push 0 (p / 4) (data.toNat + 1), pushFull := p == 0xFFFFFC })).wr
        BOOT_PUSHPTR.PTR (p + 4)).answer St.OK))) ∧
  (∀ s : State, exec .bootArmExpire s = .next (s.wr BOOT_STATUS.ARM 0))

/-- R442 to R447, R450: the event unit. -/
def Obligations.EventUnit : Prop :=
  (∀ (s : State) (i : Fin 1024) (cap : Nat), let t := s.raise i.val cap
    let m : EvMsg := ⟨s.evSeq, i.val, s.rd EVU_SRC.SEV i.val, s.now, cap, false⟩
    (s.on EVU_SRC.STATUS i.val = true → t.rd EVU_SRC.REPEAT i.val = satAdd 16 (s.rd EVU_SRC.REPEAT i.val) 1 ∧ t.evq = s.evq ∧ t.evSeq = s.evSeq) ∧
    (s.on EVU_SRC.STATUS i.val = false → t.rd EVU_SRC.STATUS i.val = 1 ∧
      (s.on EVU_SRC.EN i.val = false → t.evq = s.evq ∧ t.evSeq = s.evSeq) ∧
      (s.on EVU_SRC.EN i.val = true → s.evq.length < 64 → t.evq = s.evq ++ [m] ∧ t.evSeq = (s.evSeq + 1) % 65536) ∧
      (s.on EVU_SRC.EN i.val = true → 64 ≤ s.evq.length → t.rd EVU_LOST.COUNT = satAdd EVU_LOST.COUNT.width (s.rd EVU_LOST.COUNT) 1 ∧ t.rd EVU_STATUS.OVF = 1 ∧
        ((∀ x, x ∈ s.evq → m.sev ≤ x.sev) → t.evq = s.evq ∧ t.evSeq = s.evSeq) ∧
        (∀ a v b, s.evq = a ++ v :: b → v.sev < m.sev → (∀ x, x ∈ a → v.sev ≤ x.sev) → (∀ x, x ∈ b → v.sev < x.sev) →
          t.evq = a ++ b ++ [m] ∧ t.evSeq = (s.evSeq + 1) % 65536))) ∧
    s.onlyEvents t []) ∧
  (∀ s : State, ((∀ m, m ∈ s.evq → m.complete = true) → exec .eventArrival s = .next s) ∧
    (∀ m r, takeFirst (fun x => !x.complete) s.evq = some (m, r) →
      let u := s.setEvq (s.evq.map (fun x => if x.seq = m.seq ∧ x.complete = false then { x with complete := true } else x))
      (s.rd BOOT_STATUS.MODE = 1 → s.on EVU_CTRL.NOTIFY = true → exec .eventArrival s = .next (u.irqPulse.cirrusPost opEvent (s.rd EVU_CTRL.DEST)
        ((m.words false).flatMap (le 4)))) ∧
      (s.rd BOOT_STATUS.MODE ≠ 1 ∨ s.on EVU_CTRL.NOTIFY = false → exec .eventArrival s = .next u))) ∧
  (∀ (s : State), (bestEvent s.evq = none ↔ ∀ m, m ∈ s.evq → m.complete = false) ∧
    (∀ b, bestEvent s.evq = some b → ∃ x y, s.evq = x ++ b :: y ∧ b.complete = true ∧ (∀ m, m ∈ x → m.complete = true → m.sev < b.sev) ∧
      (∀ m, m ∈ y → m.complete = true → m.sev ≤ b.sev)) ∧
    (∀ b, bestEvent s.evq = some b → s.evqWord 0 = b.id % 1024 + 1024 * (b.sev % 4) + 32768 + 65536 * (b.seq % 65536) ∧ s.evqWord 1 = b.time % 2 ^ 32)) ∧
  (∀ (s : State) (data : Word), s.serves Reg.EVU_EVQPOP.base true → let seq := EVU_EVQPOP.EVSEQ.of data.toNat
    ((∀ m, m ∈ s.evq → m.complete = true → m.seq ≠ seq) → exec (.evqPop data) s = .next (s.answer St.VALUE)) ∧
    (∀ m, s.evq.find? (fun x => x.complete && x.seq == seq) = some m → Reg.EVU_EVQPOP.reservedSet data.toNat = false →
      let u := s.setEvq (s.evq.filter (fun x => !(x.complete && x.seq == seq)))
      (EVU_EVQPOP.CLR.of data.toNat = 0 → exec (.evqPop data) s = .next (u.answer St.OK)) ∧
      (EVU_EVQPOP.CLR.of data.toNat = 1 → exec (.evqPop data) s = .next ((u.wr EVU_SRC.STATUS 0 m.id).answer St.OK)))) ∧
  (∀ (s : State) (i : Fin 1024) (data : Word), s.serves (Reg.EVU_SRC.addr i.val 0) true →
    let st := firstStatus (s.writeChecks Reg.EVU_SRC i.val data.toNat)
    let u := (s.writeField EVU_SRC.STATUS i.val data.toNat).writeField EVU_SRC.REPEAT i.val data.toNat
    (st ≠ St.OK → exec (.eventSourceClear i data) s = .next (s.answer st)) ∧
    (st = St.OK → Ev.severity? i.val = none → exec (.eventSourceClear i data) s = .next (u.answer St.OK)) ∧
    (st = St.OK → Ev.severity? i.val = some 3 → exec (.eventSourceClear i data) s = .next ((u.writeField EVU_SRC.EN i.val data.toNat).answer St.OK)) ∧
    (∀ v, st = St.OK → Ev.severity? i.val = some v → v ≠ 3 → exec (.eventSourceClear i data) s = .next
      (((u.writeField EVU_SRC.EN i.val data.toNat).writeField EVU_SRC.SEV i.val data.toNat).answer St.OK))) ∧
  (∀ s : State, (s.chip.irq = false → exec .nirqPulseEnd s = .next s) ∧
    (s.chip.irq = true → s.chip.owed = 0 → exec .nirqPulseEnd s = .next (s.modChip (fun c => { c with irq := false }))) ∧
    (s.chip.irq = true → s.chip.owed ≠ 0 → exec .nirqPulseEnd s = .next ((s.modChip (fun c => { c with owed := c.owed - 1 })).emit (.act "nIRQ" []))))

/-- R422 to R426: messages over Cirrus. -/
def Obligations.CirrusMessages : Prop :=
  (∀ (s : State) (src : Fin 128) (tag : Fin 65536) (addr data : Word) (hit : Fin 3), s.listening = true →
    let a := addr.toNat
    let msg := fun (op : Nat) (b : List Byte) => (⟨op, false, false, s.hub, src.val, tag.val, 0, a, b⟩ : Msg)
    let r := s.calm.readWord hit.val a
    let w := s.calm.writeWord hit.val a data.toNat
    (∀ st b, r.2 = some (st, b) → exec (.rd32 0 src tag addr hit) s = .next (r.1.respond 0 (msg opRd32 []) st b).settled) ∧
    (∀ st b, w.2 = some (st, b) → exec (.wrc32 0 src tag addr data hit) s = .next (w.1.respond 0 (msg opWrc32 (le 4 data.toNat)) st b).settled) ∧
    (∀ b, w.2 = some (St.OK, b) → exec (.wr32 0 src tag addr data hit) s = .next w.1.settled) ∧
    (∀ st b, w.2 = some (st, b) → st ≠ St.OK → exec (.wr32 0 src tag addr data hit) s = .next
      (w.1.writeFailed 0 (msg opWr32 (le 4 data.toNat)) (failCause st) st).settled)) ∧
  (∀ (s : State) (src : Fin 128) (tag : Fin 65536) (addr : Word) (n : Fin 65536) (hit : Fin 3), s.listening = true →
    let a := addr.toNat
    let msg : Msg := ⟨opRdblk, false, false, s.hub, src.val, tag.val, 0, a, le 2 n.val⟩
    (n.val = 0 ∨ 64 < n.val → oneRange a n.val = true → exec (.rdblk 0 src tag addr n hit) s = .next (s.calm.respond 0 msg St.RANGE []).settled) ∧
    (oneRange a n.val = false → exec (.rdblk 0 src tag addr n hit) s = .next (s.calm.respond 0 msg St.ADDR []).settled) ∧
    (1 ≤ n.val → n.val ≤ 64 → oneRange a n.val = true → let r := s.calm.block ((blockAddrs a n.val).map (fun x s => s.readWord hit.val x))
      ∀ st b, r.2 = some (st, b) → exec (.rdblk 0 src tag addr n hit) s = .next (r.1.respond 0 msg st b).settled)) ∧
  (∀ (s : State) (src : Fin 128) (tag : Fin 65536) (addr : Word) (l : List Word) (hit : Fin 3), s.listening = true →
    let a := addr.toNat
    let msg : Msg := ⟨opWrblk, false, false, s.hub, src.val, tag.val, 0, a, l.flatMap (fun w => le 4 w.toNat)⟩
    exec (.wrblk 0 src tag addr [] hit) s = .next (s.calm.respond 0 ⟨opWrblk, false, false, s.hub, src.val, tag.val, 0, a, []⟩ St.RANGE []).settled ∧
    (1 ≤ l.length → l.length ≤ 64 → oneRange a l.length = true →
      let r := s.calm.block ((List.range l.length).map (fun i s => s.writeWord hit.val (a + 4 * i) (l.getD i 0).toNat))
      ∀ st b, r.2 = some (st, b) → exec (.wrblk 0 src tag addr l hit) s = .next (r.1.respond 0 msg st b).settled)) ∧
  (∀ (s : State) (src : Fin 128) (w : List Byte), s.listening = true → w.length ≤ 8192 →
    exec (.event 0 src w) s = .next (s.calm.emit (.act "event message" (w.map (fun b => b.toNat)))) ∧ exec (.err 0 src w) s = .next (s.calm.logPeWords w).settled) ∧
  (∀ (s : State) (b : List Byte) (l : List TunUnit) (u : TunUnit) (hit : Fin 3), s.tun.cirrusIn = u :: l → u.bytes = b →
    let m := Msg.ofBytes b
    let t := s.calm.modTun (fun t => { t with cirrusIn := l })
    (malformed b = true → m.asks = true → exec (.cirrusRelay hit) s = .next (t.respond 0 m St.VALUE []).settled) ∧
    (malformed b = true → m.asks = false → exec (.cirrusRelay hit) s = .next t) ∧
    (malformed b = false → m.dst = s.hub → exec (.cirrusRelay hit) s = .next (t.serve 0 m hit.val).settled) ∧
    (malformed b = false → m.dst ≠ s.hub → s.cirrusReaches m.dst = true → exec (.cirrusRelay hit) s = .next (t.cirrusOut m).settled) ∧
    (malformed b = false → m.dst ≠ s.hub → s.cirrusReaches m.dst = false → m.asks = true → exec (.cirrusRelay hit) s = .next (t.respond 0 m St.ADDR []).settled)) ∧
  (∀ (s : State) (hit : Fin 3), s.tun.cirrusIn = [] → exec (.cirrusRelay hit) s = .next s.calm) ∧
  (∀ (s : State) (p : Fin 2) (src : Fin 128) (tag : Fin 65536) (addr data : Word) (hit : Fin 3), s.listening = false →
    exec (.rd32 p src tag addr hit) s = .next s.calm ∧ exec (.wr32 p src tag addr data hit) s = .next s.calm ∧ exec (.event p src []) s = .next s.calm)

/-- R428 to R430: the SPI target. -/
def Obligations.SpiTarget : Prop :=
  (∀ (s : State) (src : Fin 128) (tag : Fin 65536) (addr : Word) (hit : Fin 3), s.listening = true → s.spi.busy = false →
    let u : State := { s.calm with spi := { s.spi with busy := true } }
    let r := u.readWord hit.val addr.toNat
    ∀ st b, r.2 = some (st, b) → r.1.chip.phase ≠ .reset →
      let x := (r.1.response ⟨opRd32, false, false, s.hub, src.val, tag.val, 0, addr.toNat, []⟩ st b).bytes
      exec (.rd32 1 src tag addr hit) s = .next ({ r.1 with spi := { r.1.spi with resp := some x } } : State).settled) ∧
  (∀ (s : State) (b : List Byte) (hit : Fin 3), s.listening = true →
    (s.spi.busy = true → let u : State := { s.calm with spi := { s.spi with discard := true } }
      exec (.msgWrite b hit) s = .next u ∧ exec (.msgWriteQ b hit) s = .next u) ∧
    (s.spi.busy = false → let u : State := { s.calm with spi := { s.spi with busy := true } }
      let m := Msg.ofBytes b
      (b.length < 16 + leAt b 12 2 → m.asks = true → exec (.msgWrite b hit) s = .next (u.respond 1 m St.VALUE []).settled ∧
        exec (.msgWriteQ b hit) s = .next (u.respond 1 m St.VALUE []).settled) ∧
      (b.length = 16 + leAt b 12 2 → malformed b = false → m.dst ≠ s.hub → m.asks = true → exec (.msgWrite b hit) s = .next (u.respond 1 m St.ADDR []).settled ∧
        exec (.msgWriteQ b hit) s = .next (u.respond 1 m St.ADDR []).settled) ∧
      (b.length = 16 + leAt b 12 2 → malformed b = false → m.dst = s.hub → exec (.msgWrite b hit) s = .next (u.serve 1 m hit.val).settled ∧
        exec (.msgWriteQ b hit) s = .next (u.serve 1 m hit.val).settled))) ∧
  (∀ s : State, s.listening = true →
    (∀ r, s.spi.resp = some r → let u := ({ s with spi := { s.spi with resp := none, busy := false } } : State).emit (.act "SPI" ((0x00 :: r).map (fun x => x.toNat)))
      exec .rspRead s = .next u ∧ exec .rspReadQ s = .next u) ∧
    (s.spi.resp = none → exec .rspRead s = .next (s.emit (.act "SPI" [255])) ∧ exec .rspReadQ s = .next (s.emit (.act "SPI" [255]))) ∧
    exec .readStatus s = .next (({ s with spi := { s.spi with discard := false } } : State).emit (.act "SPI" [(if s.spi.resp.isSome then 1 else 0) +
      (if s.spi.busy then 2 else 0) + (if s.on EVU_STATUS.FC then 4 else 0) + (if s.evq.isEmpty then 0 else 8) + (if s.spi.discard then 16 else 0)]))) ∧
  (∀ (s : State) (b : List Byte) (hit : Fin 3), s.listening = false → exec .readStatus s = .next s ∧ exec .rspRead s = .next s ∧ exec .rspReadQ s = .next s ∧
    exec (.msgWrite b hit) s = .next s.calm ∧ exec (.msgWriteQ b hit) s = .next s.calm)

/-- R431 to R433, R435, R437, R439, R440, R450: services and cores. -/
def Obligations.ServicesAndCores : Prop :=
  (∀ (s : State) (src : Fin 128) (tag : Fin 65536), s.listening = true →
    let msg := fun (auth : Bool) (b : List Byte) => (⟨opCmd, false, auth, s.hub, src.val, tag.val, 0, 0, b⟩ : Msg)
    let say := fun (u : State) (m : Msg) (st : Nat) (b : List Byte) => (Host.Outcome.next (u.respond 0 m st b).settled : Res)
    (s.coreRuns 0 = true → s.on SEC_STATUS.DRBG_OK = true → let n := s.freeBytes 16
      exec (.challenge 0 src tag) s = say ((s.calm.drewMany 16).modSec (fun c => { c with chal := NMap.set c.chal [] 0 n, chalAt := NMap.set c.chalAt 0 0 s.timeAtSlot0 }))
        (msg false [0, 1, 0, 0]) St.OK n) ∧
    (s.coreRuns 0 = true → s.on SEC_STATUS.DRBG_OK = false → exec (.challenge 0 src tag) s = say s.calm (msg false [0, 1, 0, 0]) St.STATE []) ∧
    (s.coreRuns 0 = false → s.rd BOOT_STATUS.MODE = 0 → exec (.challenge 0 src tag) s = say s.calm (msg false [0, 1, 0, 0]) St.BUSY []) ∧
    (s.coreRuns 0 = false → s.rd BOOT_STATUS.MODE ≠ 0 → exec (.challenge 0 src tag) s = say s.calm (msg false [0, 1, 0, 0]) St.STATE []) ∧
    (s.coreRuns 0 = true → exec (.armPs 0 src tag false [] []) s = say (s.calm.raiseOnce Ev.NIM_AUTH_FAIL) (msg false [0, 2, 0, 0]) St.AUTH [] ∧
      exec (.armBoot 0 src tag false [] []) s = say (s.calm.raiseOnce Ev.NIM_AUTH_FAIL) (msg false [0, 3, 0, 0]) St.AUTH []) ∧
    (∀ (n t : List Byte), n.length = 16 → t.length = 48 → s.coreRuns 0 = true →
      (s.cmdAuthentic 0 (msg true ([0, 2, 0, 0] ++ n ++ t)) = true → exec (.armPs 0 src tag true n t) s = say ((s.calm.nonceUsed 0).wr CPM_STATE.PS_ARM 1)
        (msg true ([0, 2, 0, 0] ++ n ++ t)) St.OK []) ∧
      (s.cmdAuthentic 0 (msg true ([0, 3, 0, 0] ++ n ++ t)) = true → exec (.armBoot 0 src tag true n t) s = say ((s.calm.nonceUsed 0).wr BOOT_STATUS.ARM 1)
        (msg true ([0, 3, 0, 0] ++ n ++ t)) St.OK [])) ∧
    (s.coreRuns 0 = true → s.plugin 5 = none → exec (.serviceCommand 0 src tag false [5, 1, 0, 0]) s = say s.calm (msg false [5, 1, 0, 0]) St.VALUE []) ∧
    (∀ p, s.plugin 20 = some p → s.pluginRuns p = true → let m := msg false [20, 1, 0, 0]
      exec (.serviceCommand 0 src tag false [20, 1, 0, 0]) s = say (s.calm.pluginCommand m).1 m (s.freeVal % 13)
        (({ s with fresh := s.fresh + 2 } : State).freeBytes (Config.freeValue (s.fresh + 1) % 8193)))) ∧
  (∀ (s : State) (h : Fin 64) (kinds : Fin 8192) (ready : Bool) (sp wd : Fin 8) (sfn : Word) (mask : Nat),
    (s.isRoot = false ∨ h.val = 0 ∨ s.reportOld h.val sfn.toNat = true → exec (.presenceReport h kinds ready sp wd sfn) s = .next s.calm ∧
      exec (.lossReport h mask sfn) s = .next s.calm) ∧
    (s.isRoot = true → h.val ≠ 0 → s.reportOld h.val sfn.toNat = false →
      let u := s.calm.modChip (fun c => { c with reports := NMap.set c.reports 0 h.val (sfn.toNat + 1) })
      let marked := (List.range 64).foldl (fun s i => if s.on PLN_PSRC.VALID i ∧ s.rd PLN_PSRC.HUB i = h.val then
        s.setPresence i (decide (s.rd PLN_PSRC.KIND i < 13) && bitAt kinds.val (s.rd PLN_PSRC.KIND i)) else s) u
      exec (.presenceReport h kinds ready sp wd sfn) s = .next ((((marked.vdspReport h.val (bitAt kinds.val 1) ready sp.val wd.val).dpPath h.val false).dpLinkChange).settled) ∧
      (mask = 0 → exec (.lossReport h mask sfn) s = .next (u.pcieRefresh.dpLinkChange).settled) ∧
      (∀ k : Fin 64, mask = 2 ^ k.val → exec (.lossReport h mask sfn) s = .next ((((u.hubAbsent k.val).vdspHubLost k.val).dpPath k.val true).pcieRefresh.dpLinkChange).settled))) ∧
  (∀ (s : State) (late : List (Fin 16)) (coll xfer : List (Fin 4)) (w : List CoreWrite), s.nim.loaded = false → exec (.nimbusPeriod late coll xfer w) s = .next s) ∧
  (∀ (s : State) (late : List (Fin 16)) (coll xfer : List (Fin 4)) (w : List CoreWrite), s.nim.loaded = true → ∃ t, exec (.nimbusPeriod late coll xfer w) s = .next t ∧
    (∀ p : Fin 16, s.rd NIM_PSTAT.SERVICE p.val ≠ 0 → s.on NIM_PSTAT.STOPPED p.val = false → s.on NIM_CSTAT.RUNNING (s.rd NIM_PSTAT.CORE p.val) = true →
      let n := NMap.get s.nim.overrun 0 p.val + 1
      (p ∈ late → t.rd NIM_POVR.OVR p.val = satAdd NIM_POVR.OVR.width (s.rd NIM_POVR.OVR p.val) 1 ∧ NMap.get t.nim.overrun 0 p.val = n ∧
        t.on NIM_PSTAT.STOPPED p.val = decide (s.rd NIM_POVR.OVR_LIM p.val ≤ n)) ∧
      (p ∉ late → t.rd NIM_POVR.OVR p.val = s.rd NIM_POVR.OVR p.val ∧ NMap.get t.nim.overrun 0 p.val = 0 ∧ t.on NIM_PSTAT.STOPPED p.val = false)) ∧
    (∀ n : Fin 4, (n ∈ coll → t.rd NIM_DMASTAT.SPB n.val = 1 ∧ t.rd NIM_DMASTAT.XFER n.val = 0) ∧
      (n ∉ coll → t.rd NIM_DMASTAT.XFER n.val = (if n ∈ xfer then 1 else 0) ∧ t.rd NIM_DMASTAT.SPB n.val = s.rd NIM_DMASTAT.SPB n.val)) ∧
    (∀ x, w = [x] → x.core < 4 → x.word < 131072 → s.on NIM_CSTAT.RUNNING x.core = true → NMap.get t.nim.scratch 0 (x.core * 131072 + x.word) = x.data % 2 ^ 32) ∧
    (w = [] → t.nim.scratch = s.nim.scratch)) ∧
  (∀ (s : State) (n : Fin 4) (mcause : Word), (s.on NIM_CSTAT.RUNNING n.val = false → exec (.coreTrap n mcause none) s = .next s) ∧
    (s.on NIM_CSTAT.RUNNING n.val = true → exec (.coreTrap n mcause none) s = .next (((s.wr NIM_CSTAT.RUNNING 0 n.val).wr NIM_CSTAT.TRAPPED 1 n.val).raise
      Ev.NIM_TRAP (n.val + 4 * mcause.toNat))) ∧
    (∀ p : Fin 16, s.on NIM_CSTAT.RUNNING n.val = true → s.rd NIM_PSTAT.SERVICE p.val ≠ 0 → s.on NIM_PSTAT.STOPPED p.val = false → s.rd NIM_PSTAT.CORE p.val = n.val →
      exec (.coreTrap n mcause (some p)) s = .next (((s.raise Ev.NIM_TRAP (n.val + 4 * mcause.toNat)).wr NIM_PSTAT.STOPPED 1 p.val).raise Ev.NIM_PLUGIN_STOP
        (s.rd NIM_PSTAT.SERVICE p.val)))) ∧
  (∀ (s : State) (n : Fin 4) (data : Word), s.serves (Reg.NIM_CCTRL.addr n.val 0) true → data.toNat < 2 →
    (n.val < 2 → data.toNat = 1 → exec (.halt n data) s = .next (s.answer St.STATE)) ∧
    (2 ≤ n.val → exec (.halt n data) s = .next (((s.wr NIM_CCTRL.HALT data.toNat n.val).setBit NIM_CSTAT.RUNNING
      (data.toNat == 0 && !s.on NIM_CSTAT.TRAPPED n.val && NMap.get s.nim.coreEntry 0 n.val != 0) n.val).answer St.OK)))

/-- R459. -/
def Obligations.TamperConfiguration : Prop :=
  (∀ (s : State) (cause : Fin 6), (s.resetBy cause.val).rd SEC_TAMPCFG.EN = s.rd SEC_TAMPCFG.EN) ∧
  (∀ (s : State) (addr data : Word) (hit : Fin 3), addr.toNat = Reg.SEC_TAMPCFG.base → s.serves addr.toNat true →
    (s.lc = 4 → exec (.registerWrite addr data hit) s = .next (s.calm.answer St.LIFECYCLE)) ∧
    (s.lc = 2 → s.rd SEC_TAMPCFG.EN &&& data.toNat ≠ s.rd SEC_TAMPCFG.EN → exec (.registerWrite addr data hit) s = .next (s.calm.answer St.LIFECYCLE)) ∧
    (s.lc = 0 ∨ s.lc = 1 ∨ s.lc = 3 ∨ (s.lc = 2 ∧ s.rd SEC_TAMPCFG.EN &&& data.toNat = s.rd SEC_TAMPCFG.EN) → data.toNat < 64 →
      ∃ t, exec (.registerWrite addr data hit) s = .next t ∧ t.rd SEC_TAMPCFG.EN = data.toNat ∧ (t.out.drop s.out.length).contains (.status St.OK []) = true))

/-- R461 to R463, R470, R471: the commands of the security block. -/
def Obligations.SecurityCommands : Prop :=
  (∀ (s : State), s.serves Reg.SEC_CMD.base true → let t := s.tokenBytes
    let b := tokenBody t
    let st := fun (op : Nat) => firstStatus (s.secChecks op t)
    let noted := fun (op st rec : Nat) => (((s.wr SEC_CMDRES.OP op).wr SEC_CMDRES.STATUS st).wr SEC_CMDRES.RECORD rec).tokenUsed st
    let ok := fun (op : Nat) => noted op St.OK 0
    let changed := fun (s : State) (new : Nat) => ((((s.wr SEC_STATUS.LC new).slotsClear.slotClear 0).modSec (fun c => { c with lcReset := true })).raise 0x3E6 new)
    let bad := s.firstBadKey (s.wrapKey (b.take 97)) (recordsAt b 100 (byteAt b 99))
    let load := (recordsAt b 100 (byteAt b 99)).map (keyRecOf (s.wrapKey (b.take 97)))
    let drop := bitList 64 (leAt b 0 8)
    (st 1 ≠ St.OK → exec .lcProvision s = .next ((noted 1 (st 1) 0).answer (st 1))) ∧ (st 2 ≠ St.OK → exec .lcField s = .next ((noted 2 (st 2) 0).answer (st 2))) ∧
    (st 3 ≠ St.OK → exec .lcReturn s = .next ((noted 3 (st 3) 0).answer (st 3))) ∧ (st 4 ≠ St.OK → exec .lcEnd s = .next ((noted 4 (st 4) 0).answer (st 4))) ∧
    (st 5 ≠ St.OK → exec .idEnroll s = .next ((noted 5 (st 5) 0).answer (st 5))) ∧ (st 6 ≠ St.OK → exec .certWrite s = .next ((noted 6 (st 6) 0).answer (st 6))) ∧
    (st 7 ≠ St.OK → exec .keyImport s = .next ((noted 7 (st 7) 0).answer (st 7))) ∧ (st 8 ≠ St.OK → exec .keyDestroy s = .next ((noted 8 (st 8) 0).answer (st 8))) ∧
    (st 9 ≠ St.OK → exec .tamperClear s = .next ((noted 9 (st 9) 0).answer (st 9))) ∧
    (st 1 = St.OK → exec .lcProvision s = .next ((changed ((ok 1).modSec (fun c => { c with custRoot := b })) 1).answer St.OK)) ∧
    (st 2 = St.OK → exec .lcField s = .next ((changed ((ok 2).drawDawn.wr SEC_STATUS.TAMPERED 0) 2).answer St.OK)) ∧
    (st 3 = St.OK → exec .lcReturn s = .next ((changed ((ok 3).wr SEC_STATUS.DAWN_VALID 0) 3).answer St.OK)) ∧
    (st 4 = St.OK → exec .lcEnd s = .next ((changed (((ok 4).wr SEC_STATUS.DAWN_VALID 0).modSec (fun c => { c with enrolled := false })) 4).answer St.OK)) ∧
    (st 5 = St.OK → exec .idEnroll s = .next (((ok 5).modSec (fun c => { c with enrolled := true, helper := true })).answer St.OK)) ∧
    (st 6 = St.OK → exec .certWrite s = .next ((({ ok 6 with certList := b } : State).wr SEC_STATUS.CERT_OK 1).answer St.OK)) ∧
    (st 9 = St.OK → exec .tamperClear s = .next (((ok 9).wr SEC_STATUS.TAMPERED 0).answer St.OK)) ∧
    (st 8 = St.OK → s.needsJournal [] drop = false → exec .keyDestroy s = .next (((ok 8).keysCommit [] drop).answer St.OK)) ∧
    (st 8 = St.OK → s.needsJournal [] drop = true → exec .keyDestroy s = .next ((ok 8).journalStart 8 [] drop)) ∧
    (∀ r, st 7 = St.OK → bad = some r → exec .keyImport s = .next ((noted 7 r.2 r.1).answer r.2)) ∧
    (st 7 = St.OK → bad = none → s.sec.update = none → s.needsJournal load [] = false → exec .keyImport s = .next (((ok 7).keysCommit load []).answer St.OK)) ∧
    (st 7 = St.OK → bad = none → s.needsJournal load [] = true → exec .keyImport s = .next ((ok 7).journalStart 7 load []))) ∧
  (∀ (s : State) (op : Fin 10) (t : List Byte), op.val ≠ 0 → opAllowed op.val s.lc = false → firstStatus (s.secChecks op.val t) = St.LIFECYCLE) ∧
  (∀ (s : State) (t : List Byte), firstStatus (s.secChecks 8 t) = St.OK → bitAt (leAt (tokenBody t) 0 8) 0 = false) ∧
  (∀ (s : State) (i : Fin 64), i.val ≠ 0 → (s.keysCommit [] [i.val]).rd SEC_SLOT.STATE i.val = 0 ∧ NMap.get (s.keysCommit [] [i.val]).sec.keys [] i.val = [] ∧
    s.slotsClear.rd SEC_SLOT.STATE i.val = 0 ∧ NMap.get s.slotsClear.sec.keys [] i.val = []) ∧
  (∀ s : State, (s.sec.lcReset = true → exec .lcReset s = .next ((s.modChip (fun c => { c with phase := .reset, test := false })).resetBy 2)) ∧
    (s.sec.lcReset = false → exec .lcReset s = .next s))

/-- R457, R458, R463, R468, R474, R479: tamper and keys. -/
def Obligations.TamperAndKeys : Prop :=
  (∀ (s : State) (k : Fin 6), let lit := s.calm.modSec (fun c => { c with active := c.active + 2 ^ k.val })
    bitAt s.sec.active k.val = false → s.rd SEC_TAMPCFG.EN < 64 →
    (bitAt (s.rd SEC_TAMPCFG.EN) k.val = false → exec (.tamperDetect k true) s = .next lit.tampShow) ∧
    (bitAt (s.rd SEC_TAMPCFG.EN) k.val = true → let u := (lit.wr SEC_STATUS.DAWN_VALID 0).wr SEC_TAMPER.CAUSE (s.rd SEC_TAMPER.CAUSE ||| 2 ^ k.val)
      (s.chip.phase = .doze ∨ s.chip.phase = .ship → exec (.tamperDetect k true) s = .next u.tampShow) ∧
      (s.chip.phase = .running → s.sec.update = none → exec (.tamperDetect k true) s = .next
        (((u.slotsClear.retrainAll).modSec (fun c => { c with noJournal := true })).raise 0x3E0 (2 ^ k.val)).tampShow.settled)) ∧
    exec (.tamperDetect k false) s = .next s.calm.tampShow) ∧
  (∀ (s : State) (i : Fin 64), (s.rd SEC_SLOT.STATE i.val = 1 ∨ s.rd SEC_SLOT.STATE i.val = 3 → exec (.slotTagCheck [i]) s = .next
      (((s.wr SEC_SLOT.STATE 2 i.val).modSec (fun c => { c with keys := NMap.set c.keys [] i.val [] })).raise 0x3E3 i.val)) ∧
    (s.rd SEC_SLOT.STATE i.val = 0 → exec (.slotTagCheck [i]) s = .next s) ∧ exec (.slotTagCheck []) s = .next s) ∧
  (∀ (s : State), s.sec.update = none → exec (.journalUpdateDone true) s = .next s ∧ exec (.journalUpdateDone false) s = .next s ∧
    exec .journalUpdateTimeout s = .next s) ∧
  (∀ (s : State) (u : JUpd), s.sec.update = some u →
    let done := ((s.modSec (fun c => { c with update := none })).wr SEC_STATUS.JBUSY 0).wr SEC_JSTAT.BUSY 0
    (u.op = 0 → exec (.journalUpdateDone false) s = .next done ∧ exec .journalUpdateTimeout s = .next done) ∧
    (u.op ≠ 0 → exec (.journalUpdateDone false) s = .next ((done.wr SEC_CMDRES.STATUS St.INTEGRITY).answer St.INTEGRITY) ∧
      exec .journalUpdateTimeout s = .next ((done.wr SEC_CMDRES.STATUS St.TIMEOUT).answer St.TIMEOUT)) ∧
    (u.op ≠ 0 → s.journalNow = none → s.rd SEC_JSTAT.CUR = 0 → let v := done.modSec (fun c => { c with journal := NMap.set c.journal JSector.erased 0 (.holds u.put) })
      exec (.journalUpdateDone true) s = .next ((((((((v.wr SEC_JSTAT.CUR 0).wr SEC_JSTAT.J0_VALID 1).wr SEC_JGEN.WORD (u.put.gen % 2 ^ 32) 0).wr SEC_JGEN.WORD
        (u.put.gen / 2 ^ 32) 1).keysCommit u.load u.drop).wr SEC_CMDRES.STATUS St.OK).answer St.OK))) ∧
    (∀ r, u.op ≠ 0 → s.journalNow = some r → s.rd SEC_JSTAT.CUR = 0 → let v := done.modSec (fun c => { c with journal := NMap.set c.journal JSector.erased 1 (.holds u.put) })
      exec (.journalUpdateDone true) s = .next ((((((((v.wr SEC_JSTAT.CUR 1).wr SEC_JSTAT.J1_VALID 1).wr SEC_JGEN.WORD (u.put.gen % 2 ^ 32) 0).wr SEC_JGEN.WORD
        (u.put.gen / 2 ^ 32) 1).keysCommit u.load u.drop).wr SEC_CMDRES.STATUS St.OK).answer St.OK)))) ∧
  (∀ s : State, exec .trngFail s = .next ((s.wr SEC_STATUS.DRBG_OK 0).raise 0x3E8) ∧ exec (.trngRetest true) s = .next (s.wr SEC_STATUS.DRBG_OK 1) ∧
    exec (.trngRetest false) s = .next s) ∧
  (∀ s : State, s.serves (Reg.SEC_NONCE.addr 0 0) false → (s.on SEC_STATUS.DRBG_OK = false → exec .nonceDraw s = .next (s.answer St.STATE)) ∧
    (s.on SEC_STATUS.DRBG_OK = true → ∃ t, exec .nonceDraw s = .next t ∧ t.sec = { s.sec with nonce := true, nonceAt := s.timeAtSlot0 } ∧ t.fresh = s.fresh + 4 ∧
      (∀ i : Fin 4, t.rd SEC_NONCE.WORD i.val = Config.freeValue (s.fresh + i.val) % 2 ^ 32) ∧ t.out = s.out ++ [.status St.OK [t.rd SEC_NONCE.WORD 0]] ∧
      s.keepsRegs t ((List.range 4).map (fun i => (SEC_NONCE.WORD, i)))))

/-- R487 to R492. What an error's place means in each memory, and that a scrubbed word stands for the words between reports, are the
model's choice (log entry 97). -/
def Obligations.MemoryErrors : Prop :=
  (∀ (s : State) (m : Fin 616) (word : Fin 4096) (synd : Fin 512) (loc : Nat) (err : Fin 3) (scrub iso : Bool),
    let fin := fun (u : State) => if scrub = true ∧ word.val = 4095 then u.wr MEM_MACRO.CE 0 m.val else u
    let ce := ((s.calm.capture m.val word.val synd.val scrub false).raiseOnce 0x3F8).bump MEM_MACRO.CE m.val
    let ue := s.calm.memUe m.val word.val synd.val scrub
    (m.val < 544 ∨ (scrub = true ∧ (s.on MEM_SCRUB.SCRUB_EN = false ∨ s.marching m.val = true)) ∨ s.rd (dstat (macroDomain m.val)) = 2 →
      exec (.macroScrub m word synd loc err scrub iso) s = .next s.calm) ∧
    (544 ≤ m.val → (scrub = true → s.on MEM_SCRUB.SCRUB_EN = true ∧ s.marching m.val = false) → s.rd (dstat (macroDomain m.val)) ≠ 2 →
      (err.val = 0 → exec (.macroScrub m word synd loc err scrub iso) s = .next (fin s.calm)) ∧
      (err.val = 1 → s.rd MEM_MACRO.CE m.val < s.rd MEM_SCRUB.CE_LIM ∨ s.on MEM_MACRO.CEHIGH m.val = true →
        exec (.macroScrub m word synd loc err scrub iso) s = .next (fin ce).settled) ∧
      (err.val = 1 → s.rd MEM_MACRO.CE m.val = s.rd MEM_SCRUB.CE_LIM → s.rd MEM_MACRO.CE m.val < 4095 → s.on MEM_MACRO.CEHIGH m.val = false →
        exec (.macroScrub m word synd loc err scrub iso) s = .next (fin ((ce.wr MEM_MACRO.CEHIGH 1 m.val).raise 0x3FA m.val)).settled) ∧
      (err.val = 2 → m.val < 560 → exec (.macroScrub m word synd loc err scrub iso) s =
        .next (fin (ue.wr (if loc / 65536 % 2 = 0 then PLN_PDESC.TXVALID else PLN_PDESC.RXVALID) 0 (loc / 131072 % 4 * 16 + loc / 4096 % 16))).settled) ∧
      (err.val = 2 → 560 ≤ m.val → m.val < 592 → exec (.macroScrub m word synd loc err scrub iso) s =
        .next (fin (ue.wr NIM_DMASTAT.XFER 0 ((m.val - 560) / 8))).settled) ∧
      (err.val = 2 → 592 ≤ m.val → m.val < 600 → ∃ t, exec (.macroScrub m word synd loc err scrub iso) s = .next t ∧ t.routeValid (loc % 32768) = false ∧
        (∀ i w, i ≠ loc % 32768 → w < 4 → t.route i w = s.route i w)) ∧
      (err.val = 2 → 600 ≤ m.val → m.val < 604 → exec (.macroScrub m word synd loc err scrub iso) s = .next (fin (ue.recover (m.val - 600))).settled) ∧
      (err.val = 2 → 604 ≤ m.val → m.val < 608 →
        (iso = false → exec (.macroScrub m word synd loc err scrub iso) s = .next (fin (ue.recover (m.val - 604))).settled) ∧
        (iso = true → (∀ e ∈ (s.lk (m.val - 604)).rxStage, e.tix ≠ loc) →
          exec (.macroScrub m word synd loc err scrub iso) s = .next (fin (ue.isoLoss (m.val - 604) loc)).settled) ∧
        (∀ e rest, iso = true → (s.lk (m.val - 604)).rxStage = e :: rest → e.tix = loc → exec (.macroScrub m word synd loc err scrub iso) s =
          .next (fin ((ue.modLk (m.val - 604) (fun l => { l with rxStage := rest })).isoLoss (m.val - 604) loc)).settled)) ∧
      (err.val = 2 → 608 ≤ m.val → let i := loc % 65536
        (loc / 65536 = 0 → i ≠ 0 → exec (.macroScrub m word synd loc err scrub iso) s = .next (fin (ue.wr TUN_ENT0.VALID 0 i)).settled) ∧
        (loc / 65536 = 1 → exec (.macroScrub m word synd loc err scrub iso) s = .next (fin (ue.setFdb i none)).settled) ∧
        (loc / 65536 = 3 → exec (.macroScrub m word synd loc err scrub iso) s = .next (fin (ue.wr TUN_CLS0.VALID 0 i)).settled) ∧
        (loc / 65536 = 6 → exec (.macroScrub m word synd loc err scrub iso) s = .next (fin (ue.setPoint (i % 4096) pointReset)).settled)))) ∧
  (∀ (s : State) (m : Fin 616) (word : Fin 4096) (synd : Fin 512) (scrub ue : Bool), let c := 2 * macroKind m.val + (if ue then 1 else 0)
    let t := s.capture m.val word.val synd.val scrub ue
    (s.rd MEM_CAP0.VALID c = 0 → t.rd MEM_CAP0.VALID c = 1 ∧ t.rd MEM_CAP0.MACRO c = m.val ∧ t.rd MEM_CAP1.WORD c = word.val ∧
      t.rd MEM_CAP1.SYNDROME c = synd.val ∧ t.rd MEM_CAP1.SCRUB c = (if scrub then 1 else 0) ∧ t.rd MEM_CAP2.TIME c + 2 ^ 32 * t.rd MEM_CAP3.TIME c = s.now ∧
      s.keepsRegs t [(MEM_CAP0.VALID, c), (MEM_CAP0.MACRO, c), (MEM_CAP1.WORD, c), (MEM_CAP1.SYNDROME, c), (MEM_CAP1.SCRUB, c), (MEM_CAP2.TIME, c), (MEM_CAP3.TIME, c)]) ∧
    (s.rd MEM_CAP0.VALID c ≠ 0 → t.rd MEM_CAP0.COUNT c = min (s.rd MEM_CAP0.COUNT c + 1) 255 ∧ t.rd MEM_CAP0.MULTI c = 1 ∧
      s.onlyRegs t [(MEM_CAP0.COUNT, c), (MEM_CAP0.MULTI, c)])) ∧
  (∀ (s : State) (c : Fin 14) (data : Word), s.serves (Reg.MEM_CAP0.addr c.val 0) true →
    (Reg.MEM_CAP0.reservedSet data.toNat = true → exec (.captureClear c data) s = .next (s.answer St.VALUE)) ∧
    (Reg.MEM_CAP0.reservedSet data.toNat = false → data.toNat % 2 = 1 → ∃ t, exec (.captureClear c data) s = .next t ∧ t.rd MEM_CAP0.VALID c.val = 0 ∧
      t.rd MEM_CAP0.MULTI c.val = 0 ∧ t.rd MEM_CAP0.COUNT c.val = 0 ∧
      s.onlyAnswer t [(MEM_CAP0.VALID, c.val), (MEM_CAP0.MULTI, c.val), (MEM_CAP0.COUNT, c.val)] (.status St.OK [])) ∧
    (Reg.MEM_CAP0.reservedSet data.toNat = false → data.toNat % 2 = 0 → ∃ t, exec (.captureClear c data) s = .next t ∧ s.onlyAnswer t [] (.status St.OK []))) ∧
  (∀ (s : State) (data : Word), s.serves Reg.DBG_FCTL.base true →
    (Reg.DBG_FCTL.reservedSet data.toNat = true → exec (.fclr data) s = .next (s.answer St.VALUE)) ∧
    (Reg.DBG_FCTL.reservedSet data.toNat = false → data.toNat % 2 = 1 → ∃ t, exec (.fclr data) s = .next t ∧ t.rd DBG_FCTL.FCOUNT = 0 ∧
      (∀ i : Fin 4, t.rd DBG_FCAP.MSG i.val = 0) ∧
      s.onlyAnswer t ((DBG_FCTL.FCOUNT, 0) :: (List.range 4).map (fun i => (DBG_FCAP.MSG, i))) (.status St.OK [])))

/-- R494 to R498. -/
def Obligations.MarchAndRepair : Prop :=
  (∀ (s : State) (ss destr : Bool) (first count : Fin 1024), s.serves Reg.MEM_MCMD.base true →
    let barred := (destr = true ∧ s.rd BOOT_STATUS.MODE ≠ 3) ∨
      ∃ m : Fin 616, first.val ≤ m.val ∧ m.val < first.val + count.val ∧ s.marchRefused m.val = true
    (barred → exec (.marchStart ss destr first count) s = .next (s.answer St.STATE)) ∧
    (¬barred → s.on MEM_MSTAT.RUN = true → exec (.marchStart ss destr first count) s = .next (s.answer St.BUSY)) ∧
    (¬barred → s.on MEM_MSTAT.RUN = false → count.val = 0 ∨ 616 < first.val + count.val →
      exec (.marchStart ss destr first count) s = .next (s.answer St.RANGE)) ∧
    (¬barred → s.on MEM_MSTAT.RUN = false → count.val ≠ 0 → first.val + count.val ≤ 616 → exec (.marchStart ss destr first count) s =
      .next ((((s.wr MEM_MSTAT.RUN 1).wr MEM_MSTAT.DONE 0).modChip (fun c => { c with march := some (first.val, count.val), marchStop := false })).answer St.OK)) ∧
    exec .marchStop s = .next ((s.modChip (fun c => { c with marchStop := c.march.isSome })).answer St.OK)) ∧
  (∀ (s : State) (m : Nat), m < 544 →
    (s.marchRefused m = true ↔ ∃ l, l < 32 ∧ s.physBank l = m / 16 ∧ s.sw.retiredBank ≠ some l)) ∧
  (∀ (s : State) (m : Nat), 544 ≤ m → (s.marchRefused m = true ↔ s.rd (dstat (macroDomain m)) ≠ 0)) ∧
  (∀ (s : State) (faults : List Nat) (done : Nat), s.chip.march = none → exec (.marchDone faults done) s = .next s) ∧
  (∀ (s : State) (faults : List Nat) (done first count : Nat), s.chip.march = some (first, count) → first + count ≤ 616 →
    let n := if s.chip.marchStop then min done count else count
    let bad := (List.range n).filter (fun i => faults.getD i 0 != 0)
    ∃ t, exec (.marchDone faults done) s = .next t ∧ t.chip = { s.chip with march := none, marchStop := false } ∧
      (∀ i, i < n → t.rd MEM_MACRO.FAULTS (first + i) = min (faults.getD i 0) 255) ∧
      t.rd MEM_MSTAT.RUN = 0 ∧ t.rd MEM_MSTAT.DONE = 1 ∧ t.rd MEM_MSTAT.FAULTY = bad.length ∧
      t.rd MEM_MSTAT.FIRSTBAD = ((bad.head?).map (fun i => first + i)).getD 0 ∧ t.on EVU_SRC.STATUS 0x3FB = true ∧
      s.keepsButEvents t ([(MEM_MSTAT.RUN, 0), (MEM_MSTAT.DONE, 0), (MEM_MSTAT.FAULTY, 0), (MEM_MSTAT.FIRSTBAD, 0)] ++
        (List.range n).map (fun i => (MEM_MACRO.FAULTS, first + i)))) ∧
  (∀ (s : State) (data : Word), s.serves Reg.MEM_FUSECMD.base true →
    (data.toNat = 0 → exec (.fuseRepair data) s = .next (s.answer St.OK)) ∧
    (data.toNat = 1 → s.lc ≠ 1 → s.lc ≠ 3 → exec (.fuseRepair data) s = .next (s.answer St.LIFECYCLE)) ∧
    (data.toNat = 1 → s.lc = 1 ∨ s.lc = 3 → s.on MEM_MSTAT.RUN = true → exec (.fuseRepair data) s = .next (s.answer St.BUSY)) ∧
    (data.toNat = 1 → s.lc = 1 ∨ s.lc = 3 → s.on MEM_MSTAT.RUN = false → ∃ t, exec (.fuseRepair data) s = .next t ∧ (∀ m, m < 616 →
        (let rows := min (s.rd MEM_MACRO.SROWS m) (4 - s.rd MEM_MACRO.HROWS m)
         t.rd MEM_MACRO.HROWS m = s.rd MEM_MACRO.HROWS m + rows ∧ t.rd MEM_MACRO.SROWS m = s.rd MEM_MACRO.SROWS m - rows) ∧
        (let cols := min (s.rd MEM_MACRO.SCOLS m) (2 - s.rd MEM_MACRO.HCOLS m)
         t.rd MEM_MACRO.HCOLS m = s.rd MEM_MACRO.HCOLS m + cols ∧ t.rd MEM_MACRO.SCOLS m = s.rd MEM_MACRO.SCOLS m - cols)) ∧
      ((∃ m, m < 616 ∧ (t.rd MEM_MACRO.SROWS m ≠ 0 ∨ t.rd MEM_MACRO.SCOLS m ≠ 0)) → t.out = s.out ++ [.status St.NOSPACE []]) ∧
      ((∀ m, m < 616 → t.rd MEM_MACRO.SROWS m = 0 ∧ t.rd MEM_MACRO.SCOLS m = 0) → t.out = s.out ++ [.status St.OK []])))

/-- R499 to R501. -/
def Obligations.DieToDieLink : Prop :=
  (∀ (s : State) (k : Fin 17), let marked := s.wrBit DBG_D2D.FAILED k.val true
    let down := fun (u : State) => (((u.raise 0x3FD).wr DBG_D2D.UP 0).wr FLD_STATUS.D2D_UP 0).requalifyInputs.safeLatch FLD_OSTAT.D2DLOSS
    (s.on DBG_D2D.UP = false → exec (.d2dLaneSpare k) s = .next s ∧ exec .d2dFail s = .next s) ∧
    (s.on DBG_D2D.UP = true → exec .d2dFail s = .next (down s)) ∧
    (s.on DBG_D2D.UP = true → bitAt (s.rd DBG_D2D.FAILED) k.val = true → exec (.d2dLaneSpare k) s = .next s) ∧
    (s.on DBG_D2D.UP = true → s.rd DBG_D2D.FAILED = 0 → k.val < 16 →
      exec (.d2dLaneSpare k) s = .next (((marked.wr DBG_D2D.SPARE_USED 1).wr DBG_D2D.SPARE_FOR k.val).raise 0x3FC k.val)) ∧
    (s.on DBG_D2D.UP = true → s.rd DBG_D2D.FAILED = 0 → k.val = 16 → exec (.d2dLaneSpare k) s = .next marked) ∧
    (∀ j : Fin 17, s.on DBG_D2D.UP = true → s.rd DBG_D2D.FAILED = 2 ^ j.val → j ≠ k → exec (.d2dLaneSpare k) s = .next (marked.wr DBG_D2D.EXPOSED 1)) ∧
    (∀ i j : Fin 17, s.on DBG_D2D.UP = true → s.rd DBG_D2D.FAILED = 2 ^ i.val + 2 ^ j.val → i ≠ j → i ≠ k → j ≠ k →
      exec (.d2dLaneSpare k) s = .next (down marked))) ∧
  (∀ (s : State), s.on DBG_D2D.UP = true → ∃ t, exec .d2dFail s = .next t ∧ t.rd DBG_D2D.UP = 0 ∧ t.rd FLD_STATUS.D2D_UP = 0 ∧ t.rd FLD_OSTAT.D2DLOSS = 1 ∧
    t.rd FLD_OCTRL.SAFE ≠ 0) ∧
  (∀ (s : State) (corr : Nat), ∃ t, exec (.d2dFrameRetry corr) s = .next t ∧ t.rd DBG_D2DCNT.CORR = min (s.rd DBG_D2DCNT.CORR + corr) 65535 ∧
    t.rd DBG_D2DCNT.RETRY = min (s.rd DBG_D2DCNT.RETRY + 1) 65535 ∧ s.onlyRegs t [(DBG_D2DCNT.CORR, 0), (DBG_D2DCNT.RETRY, 0)]) ∧
  (∀ (s : State) (ok : Bool),
    (ok = false ∨ s.on DBG_D2D.UP = true ∨ 3 ≤ popcount 17 (s.rd DBG_D2D.FAILED) ∨ s.chip.phase ≠ .running → exec (.d2dRetrain ok) s = .next s) ∧
    (ok = true → s.on DBG_D2D.UP = false → popcount 17 (s.rd DBG_D2D.FAILED) < 3 → s.chip.phase = .running →
      exec (.d2dRetrain ok) s = .next ((s.wr DBG_D2D.UP 1).wr FLD_STATUS.D2D_UP 1).requalifyInputs ∧
      ∃ t, exec (.d2dRetrain ok) s = .next t ∧ t.rd FLD_OCTRL.SAFE = s.rd FLD_OCTRL.SAFE))

/-- R502 to R505. -/
def Obligations.DebugAccess : Prop :=
  (∀ (s : State), s.serves Reg.DBG_CMD.base true → let t := s.tokenBytes
    let b := tokenBody t
    let v := leAt b 0 4
    let bad := fun (st : Nat) => exec .unlock s = .next ((s.tokenUsed st).answer st)
    let sized := tokenReserved t = false ∧ b.length = 4 ∧ bits v 17 7 = 0 ∧ bits v 26 6 = 0
    let granted := s.tokenUsed St.OK
    (s.lc ≠ 2 → bad St.LIFECYCLE) ∧
    (s.lc = 2 → s.tokenBad 0x20 1 t = true → bad St.AUTH) ∧
    (s.lc = 2 → s.tokenBad 0x20 1 t = false → ¬sized → bad St.VALUE) ∧
    (s.lc = 2 → s.tokenBad 0x20 1 t = false → sized → v % 2 ^ 17 = 0 ∨ 86400 < v % 2 ^ 17 → bad St.RANGE) ∧
    (s.lc = 2 → s.tokenBad 0x20 1 t = false → sized → 1 ≤ v % 2 ^ 17 → v % 2 ^ 17 ≤ 86400 → exec .unlock s =
      .next ((((((granted.wr DBG_STATUS.DBG_TMUX (v / 2 ^ 24 % 2)).wr DBG_STATUS.DBG_JTAG (v / 2 ^ 25 % 2)).wr DBG_STATUS.REMAIN (v % 2 ^ 17)).modSec
        (fun c => { c with dbgTime := v % 2 ^ 17, dbgAt := s.timeAtSlot0 })).raise 0x3FE).answer St.OK)) ∧
    (∀ st, (s.tokenUsed st).sec.nonce = false) ∧
    ∃ t, exec .lock s = .next t ∧ t.rd DBG_STATUS.DBG_TMUX = 0 ∧ t.rd DBG_STATUS.DBG_JTAG = 0 ∧ t.rd DBG_STATUS.REMAIN = 0 ∧
      s.onlyAnswer t [(DBG_STATUS.DBG_TMUX, 0), (DBG_STATUS.DBG_JTAG, 0), (DBG_STATUS.REMAIN, 0)] (.status St.OK [])) ∧
  (∀ (s : State), ∃ t, exec .debugUnlockExpire s = .next t ∧ t.rd DBG_STATUS.DBG_TMUX = 0 ∧ t.rd DBG_STATUS.DBG_JTAG = 0 ∧
    s.onlyRegs t [(DBG_STATUS.DBG_TMUX, 0), (DBG_STATUS.DBG_JTAG, 0), (DBG_STATUS.REMAIN, 0)]) ∧
  (∀ (s : State) (addr data : Word) (hit : Fin 3), addr.toNat = Reg.DBG_TMSEL.base → s.serves addr.toNat true → Reg.DBG_TMSEL.reservedSet data.toNat = false →
    let free := s.lc = 1 ∨ s.lc = 3 ∨ (s.lc = 2 ∧ s.on DBG_STATUS.DBG_TMUX = true)
    (data.toNat / 2 ^ 31 = 1 → ¬free → exec (.registerWrite addr data hit) s = .next (s.calm.answer St.LIFECYCLE)) ∧
    (data.toNat / 2 ^ 31 = 0 ∨ free → ∃ t, exec (.registerWrite addr data hit) s = .next t ∧ t.rd DBG_TMSEL.GROUP = data.toNat % 256 ∧
      t.rd DBG_TMSEL.TM_EN = data.toNat / 2 ^ 31 ∧ t.out = s.out ++ [.act "tmux" [data.toNat / 2 ^ 31, data.toNat % 256], .status St.OK []] ∧
      s.keepsRegs t [(DBG_TMSEL.GROUP, 0), (DBG_TMSEL.TM_EN, 0)])) ∧
  (∀ (s : State) (i : Fin 9),
    let acts := fun (a : Nat) (d : List Nat) =>
      exec (.jtagInstruction i) s = .next ((s.modChip (fun c => { c with jtag := a })).emit (.act "jtag" (a :: d)))
    (i.val = 0 → acts 0 []) ∧ (i.val = 1 → acts 1 [0x04816A6B + 2 ^ 28 * s.rd GLB_ID.REV]) ∧ (i.val = 2 → acts 2 []) ∧
    (3 ≤ i.val → i.val ≤ 7 → (s.lc ≠ 4 → acts i.val []) ∧ (s.lc = 4 → acts 0 [])) ∧
    (i.val = 8 → (s.lc = 1 ∨ s.lc = 3 ∨ (s.lc = 2 ∧ s.on DBG_STATUS.DBG_JTAG = true) → acts 8 []) ∧
      (s.lc = 0 ∨ s.lc = 4 ∨ (s.lc = 2 ∧ s.on DBG_STATUS.DBG_JTAG = false) → acts 0 [])))
end

