-- ==== Sys2Proof/Laws/Ops.lean ====
section
/-! SUPPORT. What the operations of Machine/Ops.lean do: reads after writes, and what raising an event leaves alone. -/
namespace Sys2Proof.Machine

theorem State.rd_wr (s : State) (f g : Field) (i j v : Nat) :
    (s.wr f v i).rd g j = if f.id = g.id ∧ i = j then (v % 2 ^ f.width ^^^ f.resetAt i) ^^^ g.resetAt j else s.rd g j :=
  RegFile.rd_wr ..

@[simp] theorem State.rd_wr_same (s : State) (f : Field) (i v : Nat) : (s.wr f v i).rd f i = v % 2 ^ f.width :=
  RegFile.rd_wr_same ..

/-- Two copies of one field. -/
theorem State.rd_wr_idx (s : State) (f : Field) (i j v : Nat) (h : i ≠ j) : (s.wr f v i).rd f j = s.rd f j := by
  rw [State.rd_wr, if_neg (fun k => h k.2)]

/-- Two fields. -/
theorem State.rd_wr_ne (s : State) (f g : Field) (i j v : Nat) (h : f.id ≠ g.id) : (s.wr f v i).rd g j = s.rd g j := by
  rw [State.rd_wr, if_neg (fun k => h k.1)]

@[simp] theorem State.rest_wr (s : State) (f : Field) (v i : Nat) : (s.wr f v i).rest = s.rest := rfl
@[simp] theorem State.rest_bump (s : State) (f : Field) (i n : Nat) : (s.bump f i n).rest = s.rest := rfl
@[simp] theorem State.rest_emit (s : State) (o : Out) : (s.emit o).rest = s.rest := rfl
@[simp] theorem State.rest_answer (s : State) (c : Nat) : (s.answer c).rest = s.rest := rfl
@[simp] theorem State.rest_answerData (s : State) (d : List Nat) : (s.answerData d).rest = s.rest := rfl
@[simp] theorem State.rest_drew (s : State) : s.drew.rest = s.rest := rfl

@[simp] theorem State.rd_emit (s : State) (o : Out) (f : Field) (i : Nat) : (s.emit o).rd f i = s.rd f i := rfl
@[simp] theorem State.rd_answer (s : State) (c : Nat) (f : Field) (i : Nat) : (s.answer c).rd f i = s.rd f i := rfl
@[simp] theorem State.rd_answerData (s : State) (d : List Nat) (f : Field) (i : Nat) : (s.answerData d).rd f i = s.rd f i := rfl
@[simp] theorem State.rd_drew (s : State) (f : Field) (i : Nat) : s.drew.rd f i = s.rd f i := rfl
@[simp] theorem State.rd_setLk (s : State) (p : Nat) (l : Link) (f : Field) (i : Nat) : (s.setLk p l).rd f i = s.rd f i := rfl
@[simp] theorem State.rd_modLk (s : State) (p : Nat) (g : Link → Link) (f : Field) (i : Nat) : (s.modLk p g).rd f i = s.rd f i := rfl

@[simp] theorem State.lk_wr (s : State) (f : Field) (v i p : Nat) : (s.wr f v i).lk p = s.lk p := rfl

/-- Port `q` after port `p` has been changed. -/
theorem State.lk_modLk (s : State) (p q : Nat) (g : Link → Link) : (s.modLk p g).lk q = if p = q then g (s.lk p) else s.lk q := by
  unfold State.modLk State.setLk State.lk
  exact NMap.get_set ..

@[simp] theorem State.lk_modLk_same (s : State) (p : Nat) (g : Link → Link) : (s.modLk p g).lk p = g (s.lk p) := by
  simp [State.lk_modLk]

theorem State.rest_setEvq (s : State) (q : List EvMsg) : (s.setEvq q).rest = s.rest := by
  unfold State.setEvq
  dsimp only
  repeat' first | split | rfl

theorem State.rd_setEvq (s : State) (q : List EvMsg) (f : Field) (i : Nat) (h1 : EVU_STATUS.COUNT.id ≠ f.id) (h2 : EVU_STATUS.FC.id ≠ f.id) :
    (s.setEvq q).rd f i = s.rd f i := by
  unfold State.setEvq
  dsimp only
  repeat' first
    | split
    | rw [State.rd_wr_ne _ _ _ _ _ _ h2]
    | rw [State.rd_wr_ne _ _ _ _ _ _ h1]
    | rfl

theorem State.rest_enqueue (s : State) (id sev time cap : Nat) : (s.enqueue id sev time cap).1.rest = s.rest := by
  unfold State.enqueue
  dsimp only
  repeat' first
    | split
    | rfl
    | exact State.rest_setEvq _ _
    | (rw [State.rest_wr, State.rest_bump]; exact State.rest_setEvq _ _)

theorem State.rd_bump_ne (s : State) (f g : Field) (i j n : Nat) (h : f.id ≠ g.id) : (s.bump f i n).rd g j = s.rd g j :=
  State.rd_wr_ne _ _ _ _ _ _ h

theorem State.rd_enqueue (s : State) (id sev time cap : Nat) (f : Field) (i : Nat) (h1 : EVU_STATUS.COUNT.id ≠ f.id)
    (h2 : EVU_STATUS.FC.id ≠ f.id) (h3 : EVU_STATUS.OVF.id ≠ f.id) (h4 : EVU_LOST.COUNT.id ≠ f.id) :
    (s.enqueue id sev time cap).1.rd f i = s.rd f i := by
  unfold State.enqueue
  dsimp only
  repeat' first
    | split
    | rw [State.rd_wr_ne _ _ _ _ _ _ h3, State.rd_bump_ne _ _ _ _ _ _ h4]
    | rw [State.rd_setEvq _ _ _ _ h1 h2]
    | rfl

theorem State.rest_fatal (s : State) (m : EvMsg) (e : Bool) : (s.fatal m e).rest = s.rest := by
  unfold State.fatal
  split <;> rfl

theorem State.rd_fatal (s : State) (m : EvMsg) (e : Bool) (f : Field) (i : Nat) (h1 : DBG_FCAP.MSG.id ≠ f.id) (h2 : DBG_FCTL.FCOUNT.id ≠ f.id) :
    (s.fatal m e).rd f i = s.rd f i := by
  unfold State.fatal
  dsimp only
  split
  · exact State.rd_bump_ne _ _ _ _ _ _ h2
  · simp only [State.rd_wr_ne _ _ _ _ _ _ h1]

/-- Raising an event changes nothing but the event unit. -/
@[simp] theorem State.rest_raise (s : State) (id cap : Nat) : (s.raise id cap).rest = s.rest := by
  unfold State.raise
  dsimp only
  repeat' first
    | split
    | rw [State.rest_fatal]
    | rw [State.rest_enqueue]
    | rfl

theorem State.rd_raise (s : State) (id cap : Nat) (f : Field) (i : Nat) (h : f.id ∉ eventFields) : (s.raise id cap).rd f i = s.rd f i := by
  simp only [eventFields, List.mem_cons, List.not_mem_nil, or_false, not_or] at h
  obtain ⟨h1, h2, h3, h4, h5, h6, h7, h8⟩ := h
  unfold State.raise
  dsimp only
  repeat' first
    | split
    | rw [State.rd_fatal _ _ _ _ _ (Ne.symm h7) (Ne.symm h8)]
    | rw [State.rd_enqueue _ _ _ _ _ _ _ (Ne.symm h3) (Ne.symm h5) (Ne.symm h4) (Ne.symm h6)]
    | rw [State.rd_bump_ne _ _ _ _ _ _ (Ne.symm h2)]
    | rw [State.rd_wr_ne _ _ _ _ _ _ (Ne.symm h1)]
    | rfl

/-- A raised source reads as raised (R442). -/
theorem State.raise_status (s : State) (id cap : Nat) : s.on EVU_SRC.STATUS id ∨ (s.raise id cap).rd EVU_SRC.STATUS id = 1 := by
  by_cases h : s.on EVU_SRC.STATUS id
  · exact .inl h
  · right
    have h' : ¬ s.drew.on EVU_SRC.STATUS id = true := h
    have w : (s.drew.wr EVU_SRC.STATUS 1 id).rd EVU_SRC.STATUS id = 1 := by rw [State.rd_wr_same]; rfl
    unfold State.raise
    dsimp only
    simp only [h']
    repeat' first
      | split
      | contradiction
      | rw [State.rd_fatal _ _ _ _ _ (by decide) (by decide)]
      | rw [State.rd_enqueue _ _ _ _ _ _ _ (by decide) (by decide) (by decide) (by decide)]
      | exact w

@[simp] theorem State.rest_raiseOnce (s : State) (id key cap : Nat) : (s.raiseOnce id key cap).rest = s.rest := by
  unfold State.raiseOnce
  split
  · rfl
  · rw [State.rest_raise]; rfl

theorem State.rd_raiseOnce (s : State) (id key cap : Nat) (f : Field) (i : Nat) (h : f.id ∉ eventFields) :
    (s.raiseOnce id key cap).rd f i = s.rd f i := by
  unfold State.raiseOnce
  split
  · rfl
  · rw [State.rd_raise _ _ _ _ _ h]; rfl

/-- A request whose checks all pass acts. -/
theorem State.checked_ok (s : State) (c : List (Nat × Bool)) (f : State → State) (h : firstStatus c = St.OK) : s.checked c f = f s := by
  unfold State.checked; rw [if_pos h]

/-- A request that fails a check answers with the status and does nothing else (R11). -/
theorem State.checked_fail (s : State) (c : List (Nat × Bool)) (f : State → State) (h : firstStatus c ≠ St.OK) :
    s.checked c f = s.answer (firstStatus c) := by
  unfold State.checked; rw [if_neg h]

/-- An access that reaches its block acts there. -/
theorem State.access_serves (s : State) (a : Nat) (w : Bool) (f : State → State) (h : s.serves a w) : s.access a w f = f s := by
  obtain ⟨h1, h2, h3, h4⟩ := h
  unfold State.access
  rw [h1]
  dsimp only
  rw [if_neg (fun k => h2 k.1)]
  unfold State.domainAccess
  dsimp only
  rw [if_neg (by omega), if_neg (by omega), if_neg]
  rintro ⟨k1, k2⟩
  rw [h4 k1] at k2
  cases k2

end Sys2Proof.Machine
end

