-- ==== Sys2Proof/Laws/Frame.lean ====
section
/-! SUPPORT. What a chain of operations leaves alone: a write outside the named fields breaks none of the frames of Safety.lean, and raising
an event breaks only the exact ones. -/
namespace Sys2Proof.Machine

theorem State.keepsRegs_refl (s : State) (l : List (Field × Nat)) : s.keepsRegs s l := fun _ _ _ => rfl

/-- Any change that leaves the register file alone. -/
theorem State.keepsRegs_of_regs {s t : State} (u : State) {l : List (Field × Nat)} (h : s.keepsRegs t l) (e : u.regs = t.regs) :
    s.keepsRegs u l := by
  intro f i hl
  rw [← h f i hl]
  unfold State.rd
  rw [e]

/-- A write of a named field. -/
theorem State.keepsRegs_wr {s t : State} {l : List (Field × Nat)} (h : s.keepsRegs t l) (f : Field) (v i : Nat) (m : (f, i) ∈ l) :
    s.keepsRegs (t.wr f v i) l := by
  intro g j hl
  rw [State.rd_wr, if_neg (fun k => hl _ m ⟨k.1, k.2⟩)]
  exact h g j hl

theorem State.keepsButEvents_refl (s : State) (l : List (Field × Nat)) : s.keepsButEvents s l := fun _ _ _ _ => rfl

theorem State.keepsButEvents_of_regs {s t : State} (u : State) {l : List (Field × Nat)} (h : s.keepsButEvents t l) (e : u.regs = t.regs) :
    s.keepsButEvents u l := by
  intro f i hf hl
  rw [← h f i hf hl]
  unfold State.rd
  rw [e]

theorem State.keepsButEvents_wr {s t : State} {l : List (Field × Nat)} (h : s.keepsButEvents t l) (f : Field) (v i : Nat) (m : (f, i) ∈ l) :
    s.keepsButEvents (t.wr f v i) l := by
  intro g j hg hl
  rw [State.rd_wr, if_neg (fun k => hl _ m ⟨k.1, k.2⟩)]
  exact h g j hg hl

theorem State.keepsButEvents_raise {s t : State} {l : List (Field × Nat)} (h : s.keepsButEvents t l) (id cap : Nat) :
    s.keepsButEvents (t.raise id cap) l := by
  intro g j hg hl
  rw [State.rd_raise _ _ _ _ _ hg]
  exact h g j hg hl

theorem State.keepsButEvents_raiseOnce {s t : State} {l : List (Field × Nat)} (h : s.keepsButEvents t l) (id key cap : Nat) :
    s.keepsButEvents (t.raiseOnce id key cap) l := by
  intro g j hg hl
  rw [State.rd_raiseOnce _ _ _ _ _ _ hg]
  exact h g j hg hl

theorem State.onlyEvents_refl (s : State) (l : List (Field × Nat)) : s.onlyEvents s l := ⟨rfl, s.keepsButEvents_refl l⟩

theorem State.onlyEvents_wr {s t : State} {l : List (Field × Nat)} (h : s.onlyEvents t l) (f : Field) (v i : Nat) (m : (f, i) ∈ l) :
    s.onlyEvents (t.wr f v i) l := ⟨h.1, State.keepsButEvents_wr h.2 f v i m⟩

theorem State.onlyEvents_raise {s t : State} {l : List (Field × Nat)} (h : s.onlyEvents t l) (id cap : Nat) :
    s.onlyEvents (t.raise id cap) l := ⟨by rw [State.rest_raise]; exact h.1, State.keepsButEvents_raise h.2 id cap⟩

theorem State.onlyEvents_raiseOnce {s t : State} {l : List (Field × Nat)} (h : s.onlyEvents t l) (id key cap : Nat) :
    s.onlyEvents (t.raiseOnce id key cap) l := ⟨by rw [State.rest_raiseOnce]; exact h.1, State.keepsButEvents_raiseOnce h.2 id key cap⟩

theorem State.onlyEvents_emit {s t : State} {l : List (Field × Nat)} (h : s.onlyEvents t l) (o : Out) : s.onlyEvents (t.emit o) l :=
  ⟨h.1, h.2⟩

theorem State.onlyEvents_drew {s t : State} {l : List (Field × Nat)} (h : s.onlyEvents t l) : s.onlyEvents t.drew l :=
  ⟨h.1, h.2⟩

/-- A one-bit field that has just been set or cleared. -/
theorem State.on_wr_same (s : State) (f : Field) (v i : Nat) : (s.wr f v i).on f i = (v % 2 ^ f.width != 0) := by
  unfold State.on
  rw [State.rd_wr_same]

/-- A raised source reads as raised, as a truth value (R442). -/
theorem State.raised_status (s : State) (id cap : Nat) :
    s.on EVU_SRC.STATUS id = true ∨ (s.raise id cap).rd EVU_SRC.STATUS id = 1 := s.raise_status id cap

/-- Nothing told: a command that settles acts on the hub without news. -/
theorem State.settling_quiet (s : State) (f : State → State) (h : (f { s with news := [] }).news = []) :
    s.settling f = f { s with news := [] } := by
  unfold State.settling State.settled
  rw [h]
  show ({ f { s with news := [] } with news := [] } : State) = _
  conv => rhs; rw [show f { s with news := [] } = { f { s with news := [] } with news := (f { s with news := [] }).news } from rfl]
  rw [h]

@[simp] theorem State.news_wr (s : State) (f : Field) (v i : Nat) : (s.wr f v i).news = s.news := rfl
@[simp] theorem State.news_emit (s : State) (o : Out) : (s.emit o).news = s.news := rfl
@[simp] theorem State.news_modLk (s : State) (p : Nat) (f : Link → Link) : (s.modLk p f).news = s.news := rfl
@[simp] theorem State.news_drew (s : State) : s.drew.news = s.news := rfl
@[simp] theorem State.news_tell (s : State) (k p : Nat) : (s.tell k p).news = s.news ++ [(k, p)] := rfl

theorem State.news_setEvq (s : State) (q : List EvMsg) : (s.setEvq q).news = s.news := by
  unfold State.setEvq
  dsimp only
  repeat' first | split | rfl

theorem State.news_enqueue (s : State) (id sev time cap : Nat) : (s.enqueue id sev time cap).1.news = s.news := by
  unfold State.enqueue
  dsimp only
  repeat' first
    | split
    | rfl
    | exact State.news_setEvq _ _

theorem State.news_fatal (s : State) (m : EvMsg) (e : Bool) : (s.fatal m e).news = s.news := by
  unfold State.fatal
  split <;> rfl

@[simp] theorem State.news_raise (s : State) (id cap : Nat) : (s.raise id cap).news = s.news := by
  unfold State.raise
  dsimp only
  repeat' first
    | split
    | rw [State.news_fatal]
    | rw [State.news_enqueue]
    | rfl

@[simp] theorem State.news_raiseOnce (s : State) (id key cap : Nat) : (s.raiseOnce id key cap).news = s.news := by
  unfold State.raiseOnce
  split
  · rfl
  · rw [State.news_raise]

@[simp] theorem State.out_wr (s : State) (f : Field) (v i : Nat) : (s.wr f v i).out = s.out := rfl
@[simp] theorem State.out_modLk (s : State) (p : Nat) (f : Link → Link) : (s.modLk p f).out = s.out := rfl
@[simp] theorem State.out_drew (s : State) : s.drew.out = s.out := rfl

theorem State.out_setEvq (s : State) (q : List EvMsg) : (s.setEvq q).out = s.out := by
  unfold State.setEvq
  dsimp only
  repeat' first | split | rfl

theorem State.out_enqueue (s : State) (id sev time cap : Nat) : (s.enqueue id sev time cap).1.out = s.out := by
  unfold State.enqueue
  dsimp only
  repeat' first
    | split
    | rfl
    | exact State.out_setEvq _ _

theorem State.out_fatal (s : State) (m : EvMsg) (e : Bool) : (s.fatal m e).out = s.out := by
  unfold State.fatal
  split <;> rfl

@[simp] theorem State.out_raise (s : State) (id cap : Nat) : (s.raise id cap).out = s.out := by
  unfold State.raise
  dsimp only
  repeat' first
    | split
    | rw [State.out_fatal]
    | rw [State.out_enqueue]
    | rfl

@[simp] theorem State.out_raiseOnce (s : State) (id key cap : Nat) : (s.raiseOnce id key cap).out = s.out := by
  unfold State.raiseOnce
  split
  · rfl
  · rw [State.out_raise]

end Sys2Proof.Machine
end

