-- ==== Sys2Proof/Laws/Kept.lean ====
section
/-! SUPPORT. What every operation of the model leaves alone: the queue of commands, what has been put out, the count of free values drawn, and the
form of the state. The files of Laws/Kept/ hold one lemma for each operation. -/
namespace Sys2Proof.Machine

/-- `t` may follow `s` inside one command. -/
structure Kept (s t : State) : Prop where
  pending : t.pending = s.pending
  out : s.out <+: t.out
  fresh : s.fresh ≤ t.fresh
  inv : s.Inv → t.Inv

theorem Kept.refl (s : State) : Kept s s := ⟨rfl, List.prefix_rfl, Nat.le_refl _, id⟩

theorem Kept.trans {s t u : State} (h : Kept s t) (k : Kept t u) : Kept s u :=
  ⟨k.pending.trans h.pending, h.out.trans k.out, Nat.le_trans h.fresh k.fresh, fun i => k.inv (h.inv i)⟩

/-- A run of writes keeps a table canonical. -/
theorem NMap.wf_foldl {α β : Type} [DecidableEq α] (d : α) (k : β → Nat) (v : β → α) (l : List β) (m : NMap α)
    (h : NMap.wf m d = true) : NMap.wf (l.foldl (fun m e => NMap.set m d (k e) (v e)) m) d = true := by
  induction l generalizing m with
  | nil => exact h
  | cons e r ih => exact ih _ (NMap.wf_set m d (k e) (v e) h)

/-- An update of a record that the invariant does not speak of. -/
theorem Kept.same {r s t : State} (h : Kept r s) (h1 : t.pending = s.pending) (h2 : t.out = s.out) (h3 : t.fresh = s.fresh)
    (h4 : t.regs = s.regs) (h5 : t.link = s.link) (h6 : t.planStore = s.planStore) (h7 : t.routes = s.routes)
    (h8 : t.lossMark = s.lossMark) (h9 : t.horizon = s.horizon) (h10 : t.points = s.points) (h11 : t.pointGen = s.pointGen)
    (h12 : t.dp = s.dp) (h13 : t.tc = s.tc) (h14 : t.evq = s.evq) (h15 : t.evSeq = s.evSeq) : Kept r t :=
  h.trans ⟨h1, h2 ▸ List.prefix_rfl, Nat.le_of_eq h3.symm, fun i => by
    unfold State.Inv State.tablesOk at *
    rw [h4, h5, h6, h7, h8, h9, h10, h11, h12, h13, h14, h15]; exact i⟩

/-- The same, found from the form of the new state. -/
theorem Kept.lit {r s : State} (tun : Tun) (sw : Sw) (tm : Tm) (fld : Fld) (eth : Eth) (pcb : Pcb)
    (usb : Usb) (pw : Pw) (chip : Chip) (nim : Nim) (spi : Spi) (sec : Sec) (treeTime : Nat)
    (sfStarted : Bool) (groupKnown : Bool) (zoneEffect : Nat) (limited : List (Nat × Nat))
    (news : List (Nat × Nat)) (certList : List Byte)
    (h : Kept r s) : Kept r ⟨s.pending, s.out, s.fresh, s.regs, s.link, s.planStore, s.routes, s.lossMark, s.horizon, s.points, s.pointGen,
      tun, sw, tm, fld, eth, pcb, s.dp, usb, s.tc, pw, chip, nim, spi, sec, treeTime, sfStarted, groupKnown,
      zoneEffect, s.evq, s.evSeq, limited, news, certList⟩ :=
  h.same rfl rfl rfl rfl rfl rfl rfl rfl rfl rfl rfl rfl rfl rfl rfl

/-- An update that keeps the tables canonical. -/
theorem Kept.tables {r s t : State} (h : Kept r s) (h1 : t.pending = s.pending) (h2 : t.out = s.out) (h3 : t.fresh = s.fresh)
    (h5 : t.evq = s.evq) (h6 : t.evSeq = s.evSeq) (h4 : s.tablesOk = true → t.tablesOk = true) : Kept r t :=
  h.trans ⟨h1, h2 ▸ List.prefix_rfl, Nat.le_of_eq h3.symm, fun i => by unfold State.Inv at *; rw [h5, h6]; exact ⟨h4 i.1, i.2⟩⟩

theorem Kept.ite {r s t : State} {c : Prop} [Decidable c] (h : Kept r s) (k : Kept r t) : Kept r (if c then s else t) := by
  split <;> assumption

theorem Kept.ident {r s : State} (h : Kept r s) : Kept r (id s) := h

theorem Kept.foldl {α : Type} {r s : State} {f : State → α → State} {l : List α} (h : Kept r s)
    (hf : ∀ t a, Kept r t → Kept r (f t a)) : Kept r (l.foldl f s) := by
  induction l generalizing s with
  | nil => exact h
  | cons a l ih => exact ih (hf s a h)

/-- A run whose accumulator carries a state beside other things. -/
theorem Kept.foldlFst {α β : Type} {r : State} {e : State × β} {f : State × β → α → State × β} {l : List α} (h : Kept r e.1)
    (hf : ∀ (t : State × β) a, Kept r t.1 → Kept r (f t a).1) : Kept r (l.foldl f e).1 := by
  induction l generalizing e with
  | nil => exact h
  | cons a l ih => exact ih (hf e a h)

theorem Kept.foldlSnd {α β : Type} {r : State} {e : β × State} {f : β × State → α → β × State} {l : List α} (h : Kept r e.2)
    (hf : ∀ (t : β × State) a, Kept r t.2 → Kept r (f t a).2) : Kept r (l.foldl f e).2 := by
  induction l generalizing e with
  | nil => exact h
  | cons a l ih => exact ih (hf e a h)

/-- An attempt that may answer no state. -/
def KeptOpt (r : State) (o : Option State) : Prop := ∀ t, o = some t → Kept r t

theorem KeptOpt.none {r : State} : KeptOpt r none := by intro t h; cases h
theorem KeptOpt.some {r t : State} (h : Kept r t) : KeptOpt r (some t) := by intro u e; cases e; exact h
theorem KeptOpt.get {r t : State} {o : Option State} (e : o = .some t) (h : KeptOpt r o) : Kept r t := h t e

end Sys2Proof.Machine
end

