-- ==== Sys2Proof/Laws/Kept/Ops.lean ====
section
/-! SUPPORT. What the operations of Machine/Ops.lean keep. -/
namespace Sys2Proof.Machine

theorem State.wr_kept {r0 s : State} (f : Field) (v : Nat) (i : Nat) (hk : Kept r0 s) :
    Kept r0 (State.wr s f v i) := by
  refine hk.tables rfl rfl rfl rfl rfl (fun k => ?_)
  simp only [State.tablesOk, Bool.and_eq_true] at k ⊢
  simp_all [State.wr, RegFile.wr, NMap.wf_set]

theorem State.setBit_kept {r0 s : State} (f : Field) (b : Bool) (i : Nat) (hk : Kept r0 s) :
    Kept r0 (State.setBit s f b i) := by
  unfold State.setBit
  try dsimp only
  repeat' first
    | with_reducible (first
        | assumption | apply State.wr_kept)
    | with_reducible intro _
    | dsimp only
    | split

theorem State.bump_kept {r0 s : State} (f : Field) (i : Nat) (n : Nat) (hk : Kept r0 s) :
    Kept r0 (State.bump s f i n) := by
  unfold State.bump
  try dsimp only
  repeat' first
    | with_reducible (first
        | assumption | apply State.wr_kept)
    | with_reducible intro _
    | dsimp only
    | split

theorem State.wrap_kept {r0 s : State} (f : Field) (i : Nat) (n : Nat) (hk : Kept r0 s) :
    Kept r0 (State.wrap s f i n) := by
  unfold State.wrap
  try dsimp only
  repeat' first
    | with_reducible (first
        | assumption | apply State.wr_kept)
    | with_reducible intro _
    | dsimp only
    | split

theorem State.toReset_kept {r0 s : State} (f : Field) (i : Nat) (hk : Kept r0 s) :
    Kept r0 (State.toReset s f i) := by
  refine hk.tables rfl rfl rfl rfl rfl (fun k => ?_)
  simp only [State.tablesOk, Bool.and_eq_true] at k ⊢
  simp_all [State.toReset, RegFile.clr, NMap.wf, NMap.above_del]

theorem State.setLk_kept {r0 s : State} (p : Nat) (l : Link) (hk : Kept r0 s) :
    Kept r0 (State.setLk s p l) := by
  refine hk.tables rfl rfl rfl rfl rfl (fun k => ?_)
  simp only [State.tablesOk, Bool.and_eq_true] at k ⊢
  simp_all [State.setLk, NMap.wf_set]

theorem State.modLk_kept {r0 s : State} (p : Nat) (f : Link → Link) (hk : Kept r0 s) :
    Kept r0 (State.modLk s p f) := by
  unfold State.modLk
  try dsimp only
  repeat' first
    | with_reducible (first
        | assumption | apply State.setLk_kept)
    | with_reducible intro _
    | dsimp only
    | split

theorem State.modPlan_kept {r0 s : State} (p : Nat) (f : PlanLink → PlanLink) (hk : Kept r0 s) :
    Kept r0 (State.modPlan s p f) := by
  unfold State.modPlan
  try dsimp only
  repeat' first
    | with_reducible (first
        | assumption | apply State.modLk_kept)
    | with_reducible intro _
    | dsimp only
    | split

theorem State.modLane_kept {r0 s : State} (p : Nat) (f : LanePort → LanePort) (hk : Kept r0 s) :
    Kept r0 (State.modLane s p f) := by
  unfold State.modLane
  try dsimp only
  repeat' first
    | with_reducible (first
        | assumption | apply State.modLk_kept)
    | with_reducible intro _
    | dsimp only
    | split

theorem State.emit_kept {r0 s : State} (o : Out) (hk : Kept r0 s) :
    Kept r0 (State.emit s o) :=
  hk.trans ⟨rfl, List.prefix_append .., Nat.le_refl _, id⟩

theorem State.answer_kept {r0 s : State} (code : Nat) (hk : Kept r0 s) :
    Kept r0 (State.answer s code) := by
  unfold State.answer
  try dsimp only
  repeat' first
    | with_reducible (first
        | assumption | apply State.emit_kept)
    | with_reducible intro _
    | dsimp only
    | split

theorem State.answerData_kept {r0 s : State} (d : List Nat) (hk : Kept r0 s) :
    Kept r0 (State.answerData s d) := by
  unfold State.answerData
  try dsimp only
  repeat' first
    | with_reducible (first
        | assumption | apply State.emit_kept)
    | with_reducible intro _
    | dsimp only
    | split

theorem State.drew_kept {r0 s : State} (hk : Kept r0 s) :
    Kept r0 (State.drew s) :=
  hk.trans ⟨rfl, List.prefix_rfl, Nat.le_succ _, id⟩

theorem State.checked_kept {r0 s : State} (checks : List (Nat × Bool)) (f : State → State) (hk : Kept r0 s) (hf : ∀ t, Kept r0 t → Kept r0 (f t)) :
    Kept r0 (State.checked s checks f) := by
  unfold State.checked
  try dsimp only
  repeat' first
    | with_reducible (first
        | assumption | apply hf | apply State.answer_kept)
    | with_reducible intro _
    | dsimp only
    | split

theorem State.setEvq_kept {r s : State} (q : List EvMsg) (h : Kept r s) (hq : s.Inv → q.length ≤ 64) :
    Kept r (s.setEvq q) := by
  unfold State.setEvq
  dsimp only
  have k : Kept r { s with evq := q } := h.trans ⟨rfl, List.prefix_rfl, Nat.le_refl _, fun i => ⟨i.1, hq i, i.2.2⟩⟩
  repeat' first
    | with_reducible assumption
    | with_reducible apply State.wr_kept
    | split

theorem victimAt_lt (q : List EvMsg) (best : Option (Nat × Nat)) (i v : Nat) (h : victimAt q best i = some v) :
    (∃ b, best = some b ∧ b.2 = v) ∨ v < i + q.length := by
  induction q generalizing best i with
  | nil => simp only [victimAt, Option.map_eq_some_iff] at h; exact .inl h
  | cons m r ih =>
    simp only [victimAt] at h
    rcases ih _ _ h with ⟨b, hb, rfl⟩ | h
    · split at hb
      · cases hb; right; simp
      · split at hb
        · cases hb; right; simp
        · cases hb; left; exact ⟨_, rfl, rfl⟩
    · right; simp only [List.length_cons]; omega

theorem State.enqueue_kept {r s : State} (id sev time cap : Nat) (h : Kept r s) : Kept r (s.enqueue id sev time cap).1 := by
  have hs : Kept r { s with evSeq := (s.evSeq + 1) % 65536 } :=
    h.trans ⟨rfl, List.prefix_rfl, Nat.le_refl _, fun i => ⟨i.1, i.2.1, Nat.mod_lt _ (by omega)⟩⟩
  unfold State.enqueue
  dsimp only
  split
  · refine State.setEvq_kept _ hs fun i => ?_
    simp only [List.length_append, List.length_singleton]; omega
  · split
    · exact State.wr_kept _ _ _ (State.bump_kept _ _ _ h)
    · split
      · rename_i v hv _
        refine State.wr_kept _ _ _ (State.bump_kept _ _ _ (State.setEvq_kept _ hs fun i => ?_))
        rcases victimAt_lt _ _ _ _ hv with ⟨b, hb, _⟩ | h
        · cases hb
        · simp only [List.length_append, List.length_singleton, List.length_eraseIdx]
          have := i.2.1
          dsimp only at this
          split <;> omega
      · exact State.wr_kept _ _ _ (State.bump_kept _ _ _ h)

theorem State.fatal_kept {r0 s : State} (m : EvMsg) (entered : Bool) (hk : Kept r0 s) :
    Kept r0 (State.fatal s m entered) := by
  unfold State.fatal
  try dsimp only
  repeat' first
    | with_reducible (first
        | assumption | apply State.bump_kept | apply State.wr_kept)
    | with_reducible intro _
    | dsimp only
    | split

theorem State.raise_kept {r0 s : State} (id : Nat) (cap : Nat) (hk : Kept r0 s) :
    Kept r0 (State.raise s id cap) := by
  unfold State.raise
  try dsimp only
  repeat' first
    | with_reducible (first
        | assumption | apply State.drew_kept | apply State.bump_kept | apply State.wr_kept | apply State.enqueue_kept | apply State.fatal_kept)
    | with_reducible intro _
    | dsimp only
    | split

theorem State.raiseOnce_kept {r0 s : State} (id : Nat) (key : Nat) (cap : Nat) (hk : Kept r0 s) :
    Kept r0 (State.raiseOnce s id key cap) := by
  unfold State.raiseOnce
  try dsimp only
  repeat' first
    | with_reducible (first
        | assumption | apply State.raise_kept)
    | (with_reducible apply Kept.lit
       first
         | with_reducible (first
             | assumption | apply State.raise_kept)
         | split)
    | with_reducible intro _
    | dsimp only
    | split

theorem State.send_kept {r0 s : State} (dst : Nat) (kind : String) (fields : List Nat) (hk : Kept r0 s) :
    Kept r0 (State.send s dst kind fields) := by
  unfold State.send
  try dsimp only
  repeat' first
    | with_reducible (first
        | assumption | apply State.emit_kept)
    | with_reducible intro _
    | dsimp only
    | split

end Sys2Proof.Machine
end

