-- ==== Sys2Proof/Laws/Kept/Access.lean ====
section
/-! SUPPORT. What the operations of Machine/Access.lean keep. -/
namespace Sys2Proof.Machine

theorem State.setChip_kept {r0 s : State} (c : Chip) (hk : Kept r0 s) :
    Kept r0 (State.setChip s c) := by
  unfold State.setChip
  try dsimp only
  repeat' first
    | with_reducible (first
        | assumption)
    | (with_reducible apply Kept.lit
       first
         | with_reducible (first
             | assumption)
         | split)
    | with_reducible intro _
    | dsimp only
    | split

theorem State.modChip_kept {r0 s : State} (f : Chip → Chip) (hk : Kept r0 s) :
    Kept r0 (State.modChip s f) := by
  unfold State.modChip
  try dsimp only
  repeat' first
    | with_reducible (first
        | assumption | apply State.setChip_kept)
    | with_reducible intro _
    | dsimp only
    | split

theorem State.powerState_kept {r0 s : State} (hk : Kept r0 s) :
    Kept r0 (State.powerState s) := by
  unfold State.powerState
  try dsimp only
  repeat' first
    | with_reducible (first
        | assumption | apply State.setBit_kept)
    | with_reducible intro _
    | dsimp only
    | split

theorem State.domainWake_kept {r0 s : State} (d : Nat) (hk : Kept r0 s) :
    Kept r0 (State.domainWake s d) := by
  unfold State.domainWake
  try dsimp only
  repeat' first
    | with_reducible (first
        | assumption | apply State.raise_kept | apply State.powerState_kept | apply State.wr_kept)
    | with_reducible intro _
    | dsimp only
    | split

theorem State.domainAccess_kept {r0 s : State} (a : Nat) (write : Bool) (f : State → State) (hk : Kept r0 s) (hf : ∀ t, Kept r0 t → Kept r0 (f t)) :
    Kept r0 (State.domainAccess s a write f) := by
  unfold State.domainAccess
  try dsimp only
  repeat' first
    | with_reducible (first
        | assumption | apply hf | apply State.answer_kept | apply State.domainWake_kept | apply State.modChip_kept)
    | with_reducible intro _
    | dsimp only
    | split

theorem State.access_kept {r0 s : State} (a : Nat) (write : Bool) (f : State → State) (hk : Kept r0 s) (hf : ∀ t, Kept r0 t → Kept r0 (f t)) :
    Kept r0 (State.access s a write f) := by
  unfold State.access
  try dsimp only
  repeat' first
    | with_reducible (first
        | assumption | apply hf | apply State.answer_kept | apply State.domainAccess_kept)
    | with_reducible intro _
    | dsimp only
    | split

theorem State.addrAccess_kept {r0 s : State} (bad : Bool) (a : Nat) (write : Bool) (f : State → State) (hk : Kept r0 s) (hf : ∀ t, Kept r0 t → Kept r0 (f t)) :
    Kept r0 (State.addrAccess s bad a write f) := by
  unfold State.addrAccess
  try dsimp only
  repeat' first
    | with_reducible (first
        | assumption | apply hf | apply State.answer_kept | apply State.access_kept)
    | with_reducible intro _
    | dsimp only
    | split

end Sys2Proof.Machine
end

