-- ==== Sys2Proof/Laws/Kept/Points.lean ====
section
/-! SUPPORT. What the operations of Machine/Points.lean keep. -/
namespace Sys2Proof.Machine

theorem State.wrBit_kept {r0 s : State} (f : Field) (k : Nat) (b : Bool) (i : Nat) (hk : Kept r0 s) :
    Kept r0 (State.wrBit s f k b i) := by
  unfold State.wrBit
  try dsimp only
  repeat' first
    | with_reducible (first
        | assumption | apply State.wr_kept)
    | with_reducible intro _
    | dsimp only
    | split

theorem State.refreshOutput_kept {r0 s : State} (k : Nat) (hk : Kept r0 s) :
    Kept r0 (State.refreshOutput s k) := by
  unfold State.refreshOutput
  try dsimp only
  repeat' first
    | with_reducible (first
        | assumption | apply State.emit_kept | apply State.wrBit_kept)
    | (with_reducible apply Kept.lit
       first
         | with_reducible (first
             | assumption | apply State.emit_kept | apply State.wrBit_kept)
         | split)
    | with_reducible intro _
    | dsimp only
    | split

theorem State.refreshOutputs_kept {r0 s : State} (hk : Kept r0 s) :
    Kept r0 (State.refreshOutputs s) := by
  unfold State.refreshOutputs
  try dsimp only
  repeat' first
    | with_reducible (first
        | assumption | apply State.refreshOutput_kept | apply Kept.foldl)
    | with_reducible intro _
    | dsimp only
    | split

theorem State.safeLatch_kept {r0 s : State} (cause : Field) (hk : Kept r0 s) :
    Kept r0 (State.safeLatch s cause) := by
  unfold State.safeLatch
  try dsimp only
  repeat' first
    | with_reducible (first
        | assumption | apply State.wr_kept | apply State.refreshOutputs_kept | apply State.raise_kept)
    | with_reducible intro _
    | dsimp only
    | split

theorem State.setPoint_kept {r0 s : State} (n : Nat) (v : Nat) (hk : Kept r0 s) :
    Kept r0 (State.setPoint s n v) := by
  unfold State.setPoint
  dsimp only
  apply Kept.foldl
  · refine hk.tables rfl rfl rfl rfl rfl (fun k => ?_)
    simp only [State.tablesOk, Bool.and_eq_true] at k ⊢
    simp_all [NMap.wf_set]
  · intro t a h; exact State.refreshOutput_kept _ h

theorem State.producePoint_kept {r0 s : State} (n : Nat) (v : Nat) (hk : Kept r0 s) :
    Kept r0 (State.producePoint s n v) := by
  unfold State.producePoint
  try dsimp only
  repeat' first
    | with_reducible (first
        | assumption | apply State.setPoint_kept)
    | (with_reducible apply Kept.lit
       first
         | with_reducible (first
             | assumption | apply State.setPoint_kept)
         | split)
    | with_reducible intro _
    | dsimp only
    | split

theorem State.sendPoint_kept {r0 s : State} (i : Nat) (off : Nat) (hk : Kept r0 s) :
    Kept r0 (State.sendPoint s i off).2 := by
  unfold State.sendPoint
  try dsimp only
  repeat' first
    | with_reducible (first
        | assumption)
    | (with_reducible apply Kept.lit
       first
         | with_reducible (first
             | assumption)
         | split)
    | with_reducible intro _
    | dsimp only
    | split

theorem State.sendPoints_kept {r0 s : State} (i : Nat) (off : Nat) (n : Nat) (hk : Kept r0 s) :
    Kept r0 (State.sendPoints s i off n).2 := by
  induction n generalizing s off with
  | zero => exact hk
  | succ n ih => exact ih _ (State.sendPoint_kept _ _ hk)

theorem State.pimgFlit_kept {r0 s : State} (i : Nat) (hk : Kept r0 s) :
    Kept r0 (State.pimgFlit s i).2 := by
  unfold State.pimgFlit
  try dsimp only
  repeat' first
    | with_reducible (first
        | assumption | apply State.sendPoints_kept)
    | (with_reducible apply Kept.lit
       first
         | with_reducible (first
             | assumption | apply State.sendPoints_kept)
         | split)
    | with_reducible intro _
    | dsimp only
    | split

theorem State.recvPoints_kept {r0 s : State} (i : Nat) (off : Nat) (y : List Byte) (at_ : Nat) (n : Nat) (hk : Kept r0 s) :
    Kept r0 (State.recvPoints s i off y at_ n) := by
  induction n generalizing s off at_ with
  | zero => exact hk
  | succ n ih =>
    unfold State.recvPoints
    apply ih
    split
    · exact State.producePoint_kept _ _ hk
    · exact hk

theorem State.pimgRecv_kept {r0 s : State} (tix : Nat) (y : List Byte) (hk : Kept r0 s) :
    Kept r0 (State.pimgRecv s tix y) := by
  unfold State.pimgRecv
  try dsimp only
  repeat' first
    | with_reducible (first
        | assumption | apply State.recvPoints_kept)
    | with_reducible intro _
    | dsimp only
    | split

theorem State.setQuality_kept {r0 s : State} (base : Nat) (n : Nat) (q : Nat) (hk : Kept r0 s) :
    Kept r0 (State.setQuality s base n q) := by
  unfold State.setQuality
  try dsimp only
  repeat' first
    | with_reducible (first
        | assumption | apply State.setPoint_kept | apply Kept.foldl)
    | with_reducible intro _
    | dsimp only
    | split

end Sys2Proof.Machine
end

