-- ==== Sys2Proof/Laws/Kept/LinkTx.lean ====
section
/-! SUPPORT. What the operations of Machine/LinkTx.lean keep. -/
namespace Sys2Proof.Machine

theorem State.setTxGroup_kept {r0 s : State} (p : Nat) (tid : Nat) (g : TxGroup) (hk : Kept r0 s) :
    Kept r0 (State.setTxGroup s p tid g) := by
  unfold State.setTxGroup
  try dsimp only
  repeat' first
    | with_reducible (first
        | assumption | apply State.modLk_kept)
    | with_reducible intro _
    | dsimp only
    | split

theorem State.setRxGroup_kept {r0 s : State} (p : Nat) (tid : Nat) (g : RxGroup) (hk : Kept r0 s) :
    Kept r0 (State.setRxGroup s p tid g) := by
  unfold State.setRxGroup
  try dsimp only
  repeat' first
    | with_reducible (first
        | assumption | apply State.modLk_kept)
    | with_reducible intro _
    | dsimp only
    | split

theorem State.protectTx_kept {r0 s : State} (p : Nat) (tid : Nat) (kind : Nat) (chan : Nat) (first : Bool) (last : Bool) (y : List Byte) (hk : Kept r0 s) :
    Kept r0 (State.protectTx s p tid kind chan first last y).2 := by
  unfold State.protectTx
  try dsimp only
  repeat' first
    | with_reducible (first
        | assumption | apply State.setTxGroup_kept)
    | with_reducible intro _
    | dsimp only
    | split

theorem State.countRbuf_kept {r0 s : State} (p : Nat) (hk : Kept r0 s) :
    Kept r0 (State.countRbuf s p) := by
  unfold State.countRbuf
  try dsimp only
  repeat' first
    | with_reducible (first
        | assumption | apply State.wr_kept)
    | with_reducible intro _
    | dsimp only
    | split

theorem State.put_kept {r0 s : State} (p : Nat) (slot : Nat) (kind : Nat) (chan : Nat) (first : Bool) (last : Bool) (y : List Byte) (seq : Nat) (hk : Kept r0 s) :
    Kept r0 (State.put s p slot kind chan first last y seq) := by
  unfold State.put
  try dsimp only
  repeat' first
    | with_reducible (first
        | assumption | apply State.emit_kept)
    | with_reducible intro _
    | dsimp only
    | split

theorem State.putSequenced_kept {r0 s : State} (p : Nat) (slot : Nat) (e : RbEnt) (hk : Kept r0 s) :
    Kept r0 (State.putSequenced s p slot e) := by
  unfold State.putSequenced
  try dsimp only
  repeat' first
    | with_reducible (first
        | assumption | apply State.wr_kept | apply State.modLk_kept | apply State.put_kept | apply State.countRbuf_kept)
    | with_reducible intro _
    | dsimp only
    | split

theorem State.putTag_kept {r0 s : State} (p : Nat) (slot : Nat) (tid : Nat) (lcn : Nat) (sequenced : Bool) (hk : Kept r0 s) :
    Kept r0 (State.putTag s p slot tid lcn sequenced) := by
  unfold State.putTag
  try dsimp only
  repeat' first
    | with_reducible (first
        | assumption | apply State.setTxGroup_kept | apply State.putSequenced_kept | apply State.put_kept)
    | with_reducible intro _
    | dsimp only
    | split

theorem State.tryCtl_kept {r0 s : State} (p : Nat) (slot : Nat) (hk : Kept r0 s) :
    KeptOpt r0 (State.tryCtl s p slot) := by
  unfold State.tryCtl
  try dsimp only
  repeat' first
    | with_reducible (first
        | assumption | apply State.modLk_kept | apply State.putSequenced_kept | apply State.put_kept | apply KeptOpt.none | apply KeptOpt.some)
    | with_reducible intro _
    | dsimp only
    | split

theorem State.xmiss_kept {r0 s : State} (p : Nat) (hk : Kept r0 s) :
    Kept r0 (State.xmiss s p) := by
  unfold State.xmiss
  try dsimp only
  repeat' first
    | with_reducible (first
        | assumption | apply State.raiseOnce_kept | apply State.bump_kept)
    | with_reducible intro _
    | dsimp only
    | split

theorem State.tryReplay_kept {r0 s : State} (p : Nat) (slot : Nat) (hk : Kept r0 s) :
    KeptOpt r0 (State.tryReplay s p slot) := by
  unfold State.tryReplay
  try dsimp only
  repeat' first
    | with_reducible (first
        | assumption | apply State.modLk_kept | apply State.bump_kept | apply State.wr_kept | apply State.xmiss_kept | apply State.put_kept
        | apply KeptOpt.none | apply KeptOpt.some)
    | with_reducible intro _
    | dsimp only
    | split

theorem State.tryOpen_kept {r0 s : State} (p : Nat) (slot : Nat) (hk : Kept r0 s) :
    KeptOpt r0 (State.tryOpen s p slot) := by
  unfold State.tryOpen
  try dsimp only
  repeat' first
    | with_reducible (first
        | assumption | apply State.putTag_kept | apply State.modLk_kept | apply State.wr_kept | apply State.protectTx_kept
        | apply State.putSequenced_kept | apply KeptOpt.none | apply KeptOpt.some)
    | with_reducible intro _
    | dsimp only
    | split

theorem State.setLoss_kept {r0 s : State} (ep : Nat) (tix : Nat) (b : Bool) (hk : Kept r0 s) :
    Kept r0 (State.setLoss s ep tix b) := by
  refine hk.tables rfl rfl rfl rfl rfl (fun k => ?_)
  simp only [State.tablesOk, Bool.and_eq_true] at k ⊢
  simp_all [State.setLoss, NMap.wf_set]

theorem State.sendIso_kept {r0 s : State} (p : Nat) (slot : Nat) (i : TxItem) (hk : Kept r0 s) :
    Kept r0 (State.sendIso s p slot i) := by
  unfold State.sendIso
  try dsimp only
  repeat' first
    | with_reducible (first
        | assumption | apply State.setLoss_kept | apply State.protectTx_kept | apply State.put_kept)
    | with_reducible intro _
    | dsimp only
    | split

theorem State.sendGuar_kept {r0 s : State} (p : Nat) (slot : Nat) (i : TxItem) (hk : Kept r0 s) :
    Kept r0 (State.sendGuar s p slot i) := by
  unfold State.sendGuar
  try dsimp only
  repeat' first
    | with_reducible (first
        | assumption | apply State.protectTx_kept | apply State.putSequenced_kept)
    | with_reducible intro _
    | dsimp only
    | split

theorem State.tryTunnel_kept {r0 s : State} (p : Nat) (slot : Nat) (tix : Nat) (hk : Kept r0 s) :
    KeptOpt r0 (State.tryTunnel s p slot tix) := by
  unfold State.tryTunnel
  try dsimp only
  repeat' first
    | with_reducible (first
        | assumption | apply State.putTag_kept | apply State.modLk_kept | apply State.sendIso_kept | apply State.sendGuar_kept
        | apply State.pimgFlit_kept | apply KeptOpt.none | apply KeptOpt.some)
    | with_reducible intro _
    | dsimp only
    | split

theorem State.putIdle_kept {r0 s : State} (p : Nat) (slot : Nat) (hk : Kept r0 s) :
    Kept r0 (State.putIdle s p slot) := by
  unfold State.putIdle
  try dsimp only
  repeat' first
    | with_reducible (first
        | assumption | apply State.put_kept)
    | with_reducible intro _
    | dsimp only
    | split

theorem State.putSync_kept {r0 s : State} (p : Nat) (hk : Kept r0 s) :
    Kept r0 (State.putSync s p) := by
  unfold State.putSync
  try dsimp only
  repeat' first
    | with_reducible (first
        | assumption | apply State.put_kept)
    | with_reducible intro _
    | dsimp only
    | split

theorem State.lent_kept {r0 s : State} (p : Nat) (hk : Kept r0 s) :
    Kept r0 (State.lent s p) := by
  unfold State.lent
  try dsimp only
  repeat' first
    | with_reducible (first
        | assumption | apply State.wrap_kept)
    | with_reducible intro _
    | dsimp only
    | split

theorem firstOf_kept {r0 idle : State} (l : List (Option State)) (hk : Kept r0 idle) (hl : ∀ o ∈ l, KeptOpt r0 o) :
    Kept r0 (firstOf idle l) := by
  induction l with
  | nil => exact hk
  | cons o r ih =>
    cases o with
    | none => exact ih fun o h => hl o (by simp [h])
    | some s => exact hl (some s) (by simp) s rfl

theorem State.fillSlot_kept {r0 s : State} (p : Nat) (slot : Nat) (e : Nat) (hk : Kept r0 s) :
    Kept r0 (State.fillSlot s p slot e) := by
  unfold State.fillSlot
  dsimp only
  repeat' first
    | with_reducible assumption
    | with_reducible apply State.putSync_kept
    | with_reducible apply State.putIdle_kept
    | with_reducible apply State.tryCtl_kept
    | with_reducible apply State.tryReplay_kept
    | with_reducible apply State.tryOpen_kept
    | with_reducible apply State.lent_kept
    | with_reducible apply State.tryTunnel_kept
    | split
    | (with_reducible refine firstOf_kept _ (State.putIdle_kept _ _ hk) ?_)
    | with_reducible refine List.forall_mem_cons.2 ⟨?_, ?_⟩
    | with_reducible refine List.forall_mem_append.2 ⟨?_, ?_⟩
    | (intro o h; cases h)

theorem State.creditSend_kept {r0 s : State} (p : Nat) (hk : Kept r0 s) :
    Kept r0 (State.creditSend s p) := by
  unfold State.creditSend
  try dsimp only
  repeat' first
    | with_reducible (first
        | assumption | apply State.modLk_kept)
    | with_reducible intro _
    | dsimp only
    | split

theorem State.queueTx_kept {r0 s : State} (p : Nat) (i : TxItem) (hk : Kept r0 s) :
    Kept r0 (State.queueTx s p i) := by
  unfold State.queueTx
  try dsimp only
  repeat' first
    | with_reducible (first
        | assumption | apply State.modLk_kept)
    | with_reducible intro _
    | dsimp only
    | split

theorem State.pushCtl_kept {r0 s : State} (p : Nat) (kind : Nat) (y : List Byte) (sequenced : Bool) (hk : Kept r0 s) :
    Kept r0 (State.pushCtl s p kind y sequenced) := by
  unfold State.pushCtl
  try dsimp only
  repeat' first
    | with_reducible (first
        | assumption | apply State.modLk_kept)
    | with_reducible intro _
    | dsimp only
    | split

end Sys2Proof.Machine
end

