-- ==== Sys2Proof/Laws/Kept/LinkRx.lean ====
section
/-! SUPPORT. What the operations of Machine/LinkRx.lean keep. -/
namespace Sys2Proof.Machine

theorem State.setExpected_kept {r0 s : State} (p : Nat) (n : Nat) (hk : Kept r0 s) :
    Kept r0 (State.setExpected s p n) := by
  unfold State.setExpected
  try dsimp only
  repeat' first
    | with_reducible (first
        | assumption | apply State.wr_kept)
    | with_reducible intro _
    | dsimp only
    | split

theorem State.takeAck_kept {r0 s : State} (p : Nat) (a : Nat) (hk : Kept r0 s) :
    Kept r0 (State.takeAck s p a) := by
  unfold State.takeAck
  try dsimp only
  repeat' first
    | with_reducible (first
        | assumption | apply State.wr_kept | apply State.modLk_kept | apply State.countRbuf_kept)
    | with_reducible intro _
    | dsimp only
    | split

theorem State.freeCredit_kept {r0 s : State} (p : Nat) (v : Nat) (n : Nat) (hk : Kept r0 s) :
    Kept r0 (State.freeCredit s p v n) := by
  unfold State.freeCredit
  try dsimp only
  repeat' first
    | with_reducible (first
        | assumption | apply State.modLk_kept)
    | with_reducible intro _
    | dsimp only
    | split

theorem State.notePeak_kept {r0 s : State} (p : Nat) (hk : Kept r0 s) :
    Kept r0 (State.notePeak s p) := by
  unfold State.notePeak
  try dsimp only
  repeat' first
    | with_reducible (first
        | assumption | apply State.wr_kept)
    | with_reducible intro _
    | dsimp only
    | split

theorem State.isoLoss_kept {r0 s : State} (p : Nat) (tix : Nat) (hk : Kept r0 s) :
    Kept r0 (State.isoLoss s p tix) := by
  unfold State.isoLoss
  try dsimp only
  repeat' first
    | with_reducible (first
        | assumption | apply State.setLoss_kept | apply State.raiseOnce_kept | apply State.bump_kept)
    | with_reducible intro _
    | dsimp only
    | split

theorem State.isoLossAt_kept {r0 s : State} (p : Nat) (tix : Nat) (slot : Nat) (hk : Kept r0 s) :
    Kept r0 (State.isoLossAt s p tix slot) := by
  unfold State.isoLossAt
  try dsimp only
  repeat' first
    | with_reducible (first
        | assumption | apply State.isoLoss_kept | apply State.queueTx_kept)
    | with_reducible intro _
    | dsimp only
    | split

theorem State.inboxAdd_kept {r0 s : State} (u : TunUnit) (hk : Kept r0 s) :
    Kept r0 (State.inboxAdd s u) := by
  unfold State.inboxAdd
  try dsimp only
  repeat' first
    | with_reducible (first
        | assumption)
    | (with_reducible apply Kept.lit
       first
         | with_reducible (first
             | assumption)
         | split)
    | with_reducible intro _
    | dsimp only
    | split

theorem State.assemble_kept {r0 s : State} (key : Nat) (kind : Nat) (p : Nat) (ep : Nat) (i : RxItem) (hk : Kept r0 s) :
    Kept r0 (State.assemble s key kind p ep i) := by
  unfold State.assemble
  try dsimp only
  repeat' first
    | with_reducible (first
        | assumption | apply State.inboxAdd_kept)
    | (with_reducible apply Kept.lit
       first
         | with_reducible (first
             | assumption | apply State.inboxAdd_kept)
         | split)
    | with_reducible intro _
    | dsimp only
    | split

theorem State.gwLost_kept {r0 s : State} (tix : Nat) (hk : Kept r0 s) :
    Kept r0 (State.gwLost s tix) := by
  unfold State.gwLost
  try dsimp only
  repeat' first
    | with_reducible (first
        | assumption)
    | (with_reducible apply Kept.lit
       first
         | with_reducible (first
             | assumption)
         | split)
    | with_reducible intro _
    | dsimp only
    | split

theorem State.deliverLocal_kept {r0 s : State} (p : Nat) (ep : Nat) (i : RxItem) (hk : Kept r0 s) :
    Kept r0 (State.deliverLocal s p ep i) := by
  unfold State.deliverLocal
  try dsimp only
  repeat' first
    | with_reducible (first
        | assumption | apply State.pimgRecv_kept | apply State.assemble_kept | apply State.gwLost_kept | apply State.inboxAdd_kept
        | apply State.emit_kept)
    | with_reducible intro _
    | dsimp only
    | split

theorem State.present_kept {r0 s : State} (p : Nat) (i : RxItem) (hk : Kept r0 s) :
    Kept r0 (State.present s p i) := by
  unfold State.present
  try dsimp only
  repeat' first
    | with_reducible (first
        | assumption | apply State.xmiss_kept | apply State.isoLoss_kept | apply State.queueTx_kept | apply State.setLoss_kept
        | apply State.deliverLocal_kept)
    | with_reducible intro _
    | dsimp only
    | split

theorem State.growRx_kept {r0 s : State} (p : Nat) (tid : Nat) (kind : Nat) (chan : Nat) (first : Bool) (last : Bool) (c : List Byte) (hk : Kept r0 s) :
    Kept r0 (State.growRx s p tid kind chan first last c) := by
  unfold State.growRx
  try dsimp only
  repeat' first
    | with_reducible (first
        | assumption | apply State.setRxGroup_kept)
    | with_reducible intro _
    | dsimp only
    | split

theorem State.openIsoGroup_kept {r0 s : State} (p : Nat) (tid : Nat) (hk : Kept r0 s) :
    Kept r0 (State.openIsoGroup s p tid) := by
  unfold State.openIsoGroup
  try dsimp only
  repeat' first
    | with_reducible (first
        | assumption | apply State.setRxGroup_kept)
    | with_reducible intro _
    | dsimp only
    | split

theorem State.stage_kept {r0 s : State} (p : Nat) (slot : Nat) (tix : Nat) (iso : Bool) (f : Flit) (hk : Kept r0 s) :
    Kept r0 (State.stage s p slot tix iso f) := by
  unfold State.stage
  try dsimp only
  repeat' first
    | with_reducible (first
        | assumption | apply State.openIsoGroup_kept | apply State.growRx_kept | apply State.notePeak_kept | apply State.modLk_kept)
    | with_reducible intro _
    | dsimp only
    | split

theorem State.stageDrop_kept {r0 s : State} (p : Nat) (hk : Kept r0 s) :
    Kept r0 (State.stageDrop s p) := by
  unfold State.stageDrop
  try dsimp only
  repeat' first
    | with_reducible (first
        | assumption | apply State.raiseOnce_kept | apply State.bump_kept)
    | with_reducible intro _
    | dsimp only
    | split

theorem State.openEnter_kept {r0 s : State} (p : Nat) (i : OpenItem) (hk : Kept r0 s) :
    Kept r0 (State.openEnter s p i) := by
  unfold State.openEnter
  try dsimp only
  repeat' first
    | with_reducible (first
        | assumption)
    | (with_reducible apply Kept.lit
       first
         | with_reducible (first
             | assumption)
         | split)
    | with_reducible intro _
    | dsimp only
    | split

theorem State.takeOpen_kept {r0 s : State} (p : Nat) (f : Flit) (hk : Kept r0 s) :
    Kept r0 (State.takeOpen s p f) := by
  unfold State.takeOpen
  try dsimp only
  repeat' first
    | with_reducible (first
        | assumption | apply State.growRx_kept | apply State.setRxGroup_kept | apply State.openEnter_kept)
    | with_reducible intro _
    | dsimp only
    | split

theorem State.takeRestore_kept {r0 s : State} (p : Nat) (slot : Nat) (tid : Nat) (tix : Option Nat) (f : Flit) (hk : Kept r0 s) :
    Kept r0 (State.takeRestore s p slot tid tix f) := by
  unfold State.takeRestore
  try dsimp only
  repeat' first
    | with_reducible (first
        | assumption | apply State.stage_kept | apply State.takeOpen_kept)
    | with_reducible intro _
    | dsimp only
    | split

theorem State.tagFailed_kept {r0 s : State} (p : Nat) (hk : Kept r0 s) :
    Kept r0 (State.tagFailed s p) := by
  unfold State.tagFailed
  try dsimp only
  repeat' first
    | with_reducible (first
        | assumption | apply State.raiseOnce_kept | apply State.bump_kept)
    | with_reducible intro _
    | dsimp only
    | split

theorem State.isoTag_kept {r0 s : State} (p : Nat) (tix : Nat) (y : List Byte) (hk : Kept r0 s) :
    Kept r0 (State.isoTag s p tix y) := by
  unfold State.isoTag
  try dsimp only
  repeat' first
    | with_reducible (first
        | assumption | apply State.isoLoss_kept | apply State.tagFailed_kept | apply State.setRxGroup_kept)
    | with_reducible intro _
    | dsimp only
    | split

theorem State.presentAll_kept {r0 s : State} (p : Nat) (l : List RxItem) (hk : Kept r0 s) :
    Kept r0 (State.presentAll s p l) := by
  unfold State.presentAll
  try dsimp only
  repeat' first
    | with_reducible (first
        | assumption | apply State.present_kept | apply Kept.foldl)
    | with_reducible intro _
    | dsimp only
    | split

theorem State.releaseGroup_kept {r0 s : State} (p : Nat) (tid : Nat) (kg : Nat) (hk : Kept r0 s) :
    Kept r0 (State.releaseGroup s p tid kg) := by
  unfold State.releaseGroup
  try dsimp only
  repeat' first
    | with_reducible (first
        | assumption | apply State.setRxGroup_kept | apply State.openEnter_kept | apply State.modLk_kept | apply State.presentAll_kept
        | apply Kept.foldl)
    | with_reducible intro _
    | dsimp only
    | split

theorem State.discardGroup_kept {r0 s : State} (p : Nat) (tid : Nat) (hk : Kept r0 s) :
    Kept r0 (State.discardGroup s p tid) := by
  unfold State.discardGroup
  try dsimp only
  repeat' first
    | with_reducible (first
        | assumption | apply State.tagFailed_kept | apply State.setRxGroup_kept | apply State.modLk_kept)
    | with_reducible intro _
    | dsimp only
    | split

end Sys2Proof.Machine
end

