-- ==== Sys2Proof/Laws/Kept/Hooks.lean ====
section
/-! SUPPORT. What the operations of Machine/Hooks.lean keep. -/
namespace Sys2Proof.Machine

theorem State.tell_kept {r0 s : State} (kind : Nat) (p : Nat) (hk : Kept r0 s) :
    Kept r0 (State.tell s kind p) := by
  unfold State.tell
  try dsimp only
  repeat' first
    | with_reducible (first
        | assumption)
    | (with_reducible apply Kept.lit
       first
         | with_reducible (first
             | assumption)
         | split)
    | with_reducible intro _
    | dsimp only
    | split

theorem State.onLinkDown_kept {r0 s : State} (p : Nat) (hk : Kept r0 s) :
    Kept r0 (State.onLinkDown s p) := by
  unfold State.onLinkDown
  try dsimp only
  repeat' first
    | with_reducible (first
        | assumption | apply State.tell_kept)
    | with_reducible intro _
    | dsimp only
    | split

theorem State.onLinkUp_kept {r0 s : State} (p : Nat) (hk : Kept r0 s) :
    Kept r0 (State.onLinkUp s p) := by
  unfold State.onLinkUp
  try dsimp only
  repeat' first
    | with_reducible (first
        | assumption | apply State.tell_kept)
    | with_reducible intro _
    | dsimp only
    | split

theorem State.onPlanShift_kept {r0 s : State} (p : Nat) (hk : Kept r0 s) :
    Kept r0 (State.onPlanShift s p) := by
  unfold State.onPlanShift
  try dsimp only
  repeat' first
    | with_reducible (first
        | assumption | apply State.tell_kept)
    | with_reducible intro _
    | dsimp only
    | split

end Sys2Proof.Machine
end

