-- ==== Sys2Proof/Laws/Kept/LanesOps.lean ====
section
/-! SUPPORT. What the operations of Machine/LanesOps.lean keep. -/
namespace Sys2Proof.Machine

theorem State.setLane_kept {r0 s : State} (p : Nat) (k : Nat) (v : Nat) (hk : Kept r0 s) :
    Kept r0 (State.setLane s p k v) := by
  unfold State.setLane
  try dsimp only
  repeat' first
    | with_reducible (first
        | assumption | apply State.wr_kept)
    | with_reducible intro _
    | dsimp only
    | split

theorem State.exclude_kept {r0 s : State} (p : Nat) (k : Nat) (hk : Kept r0 s) :
    Kept r0 (State.exclude s p k) := by
  unfold State.exclude
  try dsimp only
  repeat' first
    | with_reducible (first
        | assumption | apply State.setLane_kept)
    | with_reducible intro _
    | dsimp only
    | split

theorem State.countPending_kept {r0 s : State} (p : Nat) (hk : Kept r0 s) :
    Kept r0 (State.countPending s p) := by
  unfold State.countPending
  try dsimp only
  repeat' first
    | with_reducible (first
        | assumption | apply State.wr_kept)
    | with_reducible intro _
    | dsimp only
    | split

theorem State.setSubst_kept {r0 s : State} (p : Nat) (l : List SubstRx) (hk : Kept r0 s) :
    Kept r0 (State.setSubst s p l) := by
  unfold State.setSubst
  try dsimp only
  repeat' first
    | with_reducible (first
        | assumption | apply State.countPending_kept | apply State.modLane_kept)
    | with_reducible intro _
    | dsimp only
    | split

theorem State.sendLaneReq_kept {r0 s : State} (p : Nat) (r : SubstRx) (supersede : Bool) (hk : Kept r0 s) :
    Kept r0 (State.sendLaneReq s p r supersede) := by
  unfold State.sendLaneReq
  try dsimp only
  repeat' first
    | with_reducible (first
        | assumption | apply State.pushCtl_kept)
    | with_reducible intro _
    | dsimp only
    | split

theorem State.setSubFails_kept {r0 s : State} (p : Nat) (l : Nat) (n : Nat) (hk : Kept r0 s) :
    Kept r0 (State.setSubFails s p l n) := by
  unfold State.setSubFails
  try dsimp only
  repeat' first
    | with_reducible (first
        | assumption | apply State.modLane_kept)
    | with_reducible intro _
    | dsimp only
    | split

theorem State.usedLseq_kept {r0 s : State} (p : Nat) (hk : Kept r0 s) :
    Kept r0 (State.usedLseq s p) := by
  unfold State.usedLseq
  try dsimp only
  repeat' first
    | with_reducible (first
        | assumption | apply State.modLane_kept)
    | with_reducible intro _
    | dsimp only
    | split

theorem State.requestSubst_kept {r0 s : State} (p : Nat) (l : Nat) (src : Nat) (dst : Nat) (hk : Kept r0 s) :
    Kept r0 (State.requestSubst s p l src dst) := by
  unfold State.requestSubst
  try dsimp only
  repeat' first
    | with_reducible (first
        | assumption | apply State.sendLaneReq_kept | apply State.usedLseq_kept | apply State.setSubst_kept)
    | with_reducible intro _
    | dsimp only
    | split

theorem State.startSubst_kept {r0 s : State} (p : Nat) (k : Nat) (hk : Kept r0 s) :
    Kept r0 (State.startSubst s p k) := by
  unfold State.startSubst
  try dsimp only
  repeat' first
    | with_reducible (first
        | assumption | apply State.requestSubst_kept | apply State.modLane_kept)
    | with_reducible intro _
    | dsimp only
    | split

theorem State.flushLanes_kept {r0 s : State} (p : Nat) (hk : Kept r0 s) :
    Kept r0 (State.flushLanes s p) := by
  unfold State.flushLanes
  try dsimp only
  repeat' first
    | with_reducible (first
        | assumption | apply State.exclude_kept | apply State.countPending_kept | apply State.modLane_kept | apply Kept.foldl)
    | with_reducible intro _
    | dsimp only
    | split

theorem State.scanBegin_kept {r0 s : State} (p : Nat) (hk : Kept r0 s) :
    Kept r0 (State.scanBegin s p) := by
  unfold State.scanBegin
  apply State.modLane_kept
  apply State.wr_kept
  refine hk.tables rfl rfl rfl rfl rfl (fun k => ?_)
  simp only [State.tablesOk, Bool.and_eq_true] at k ⊢
  simp_all [NMap.wf_keep]

theorem State.releaseScan_kept {r0 s : State} (p : Nat) (hk : Kept r0 s) :
    Kept r0 (State.releaseScan s p) := by
  unfold State.releaseScan
  try dsimp only
  repeat' first
    | with_reducible (first
        | assumption | apply State.scanBegin_kept)
    | with_reducible intro _
    | dsimp only
    | split

end Sys2Proof.Machine
end

