-- ==== Sys2Proof/Laws/Kept/LinkState.lean ====
section
/-! SUPPORT. What the operations of Machine/LinkState.lean keep. -/
namespace Sys2Proof.Machine

theorem State.setLinkSt_kept {r0 s : State} (p : Nat) (v : Nat) (hk : Kept r0 s) :
    Kept r0 (State.setLinkSt s p v) := by
  unfold State.setLinkSt
  try dsimp only
  repeat' first
    | with_reducible (first
        | assumption | apply State.setBit_kept | apply State.wr_kept)
    | with_reducible intro _
    | dsimp only
    | split

theorem State.clearPending_kept {r0 s : State} (p : Nat) (hk : Kept r0 s) :
    Kept r0 (State.clearPending s p) := by
  unfold State.clearPending
  try dsimp only
  repeat' first
    | with_reducible (first
        | assumption | apply State.modPlan_kept | apply State.wr_kept)
    | with_reducible intro _
    | dsimp only
    | split

theorem State.resetSeq_kept {r0 s : State} (p : Nat) (hk : Kept r0 s) :
    Kept r0 (State.resetSeq s p) := by
  unfold State.resetSeq
  try dsimp only
  repeat' first
    | with_reducible (first
        | assumption | apply State.setExpected_kept | apply State.wr_kept | apply State.countRbuf_kept | apply State.modLk_kept | apply Kept.foldl)
    | with_reducible intro _
    | dsimp only
    | split

theorem State.dropTxq_kept {r0 s : State} (p : Nat) (hk : Kept r0 s) :
    Kept r0 (State.dropTxq s p) := by
  unfold State.dropTxq
  try dsimp only
  repeat' first
    | with_reducible (first
        | assumption | apply State.xmiss_kept | apply State.isoLoss_kept | apply Kept.foldl)
    | with_reducible intro _
    | dsimp only
    | split

theorem State.dropStagedFrom_kept {r0 s : State} (p : Nat) (hk : Kept r0 s) :
    Kept r0 (State.dropStagedFrom s p) := by
  unfold State.dropStagedFrom
  try dsimp only
  repeat' first
    | with_reducible (first
        | assumption | apply State.modLk_kept | apply State.isoLoss_kept | apply Kept.foldl)
    | with_reducible intro _
    | dsimp only
    | split

theorem State.flush_kept {r0 s : State} (p : Nat) (hk : Kept r0 s) :
    Kept r0 (State.flush s p) := by
  unfold State.flush
  try dsimp only
  repeat' first
    | with_reducible (first
        | assumption | apply State.bump_kept | apply State.dropTxq_kept | apply State.dropStagedFrom_kept | apply State.resetSeq_kept
        | apply State.clearPending_kept | apply State.flushLanes_kept | apply State.modPlan_kept | apply State.wr_kept)
    | with_reducible intro _
    | dsimp only
    | split

theorem State.freshAttempt_kept {r0 s : State} (p : Nat) (seen : Bool) (hk : Kept r0 s) :
    Kept r0 (State.freshAttempt s p seen) := by
  unfold State.freshAttempt
  try dsimp only
  repeat' first
    | with_reducible (first
        | assumption | apply State.modLk_kept)
    | with_reducible intro _
    | dsimp only
    | split

theorem State.leaveActive_kept {r0 s : State} (p : Nat) (dest : Nat) (cause : Nat) (hk : Kept r0 s) :
    Kept r0 (State.leaveActive s p dest cause) := by
  unfold State.leaveActive
  try dsimp only
  repeat' first
    | with_reducible (first
        | assumption | apply State.flush_kept | apply State.modLk_kept | apply State.freshAttempt_kept | apply State.wr_kept
        | apply State.setLinkSt_kept | apply State.raise_kept | apply State.onLinkDown_kept)
    | with_reducible intro _
    | dsimp only
    | split

theorem State.recover_kept {r0 s : State} (p : Nat) (hk : Kept r0 s) :
    Kept r0 (State.recover s p) := by
  unfold State.recover
  try dsimp only
  repeat' first
    | with_reducible (first
        | assumption | apply State.leaveActive_kept | apply State.bump_kept)
    | with_reducible intro _
    | dsimp only
    | split

theorem State.retrainDownstream_kept {r0 s : State} (hk : Kept r0 s) :
    Kept r0 (State.retrainDownstream s) := by
  unfold State.retrainDownstream
  try dsimp only
  repeat' first
    | with_reducible (first
        | assumption | apply State.recover_kept | apply Kept.foldl)
    | with_reducible intro _
    | dsimp only
    | split

theorem State.trainFail_kept {r0 s : State} (p : Nat) (status : Nat) (hk : Kept r0 s) :
    Kept r0 (State.trainFail s p status) := by
  unfold State.trainFail
  try dsimp only
  repeat' first
    | with_reducible (first
        | assumption | apply State.wr_kept | apply State.bump_kept | apply State.raise_kept | apply State.releaseScan_kept
        | apply State.freshAttempt_kept | apply State.setLinkSt_kept)
    | with_reducible intro _
    | dsimp only
    | split

theorem State.sendReq_kept {r0 s : State} (p : Nat) (q : Nat) (e : Nat) (g : Nat) (zone : Bool) (hk : Kept r0 s) :
    Kept r0 (State.sendReq s p q e g zone) := by
  unfold State.sendReq
  try dsimp only
  repeat' first
    | with_reducible (first
        | assumption | apply State.modPlan_kept | apply State.wr_kept | apply State.pushCtl_kept)
    | with_reducible intro _
    | dsimp only
    | split

theorem State.requestGroupPlan_kept {r0 s : State} (p : Nat) (hk : Kept r0 s) :
    Kept r0 (State.requestGroupPlan s p) := by
  unfold State.requestGroupPlan
  try dsimp only
  repeat' first
    | with_reducible (first
        | assumption | apply State.modPlan_kept | apply State.sendReq_kept | apply State.raise_kept)
    | with_reducible intro _
    | dsimp only
    | split

theorem State.keepMode_kept {r0 s : State} (p : Nat) (hk : Kept r0 s) :
    Kept r0 (State.keepMode s p) := by
  unfold State.keepMode
  try dsimp only
  repeat' first
    | with_reducible (first
        | assumption | apply State.wr_kept)
    | with_reducible intro _
    | dsimp only
    | split

theorem State.reachActive_kept {r0 s : State} (p : Nat) (hk : Kept r0 s) :
    Kept r0 (State.reachActive s p) := by
  unfold State.reachActive
  try dsimp only
  repeat' first
    | with_reducible (first
        | assumption | apply State.modLk_kept | apply State.resetSeq_kept | apply State.wr_kept | apply State.setLinkSt_kept
        | apply State.setBit_kept | apply State.keepMode_kept | apply State.modPlan_kept | apply State.raise_kept
        | apply State.retrainDownstream_kept | apply State.requestGroupPlan_kept | apply State.onLinkUp_kept | apply Kept.foldl)
    | with_reducible intro _
    | dsimp only
    | split

theorem State.laneFail_kept {r0 s : State} (p : Nat) (k : Nat) (cause : Nat) (hk : Kept r0 s) :
    Kept r0 (State.laneFail s p k cause) := by
  unfold State.laneFail
  try dsimp only
  repeat' first
    | with_reducible (first
        | assumption | apply State.wr_kept | apply State.raise_kept | apply State.setLane_kept | apply State.recover_kept
        | apply State.startSubst_kept | apply State.exclude_kept | apply State.sendLaneReq_kept | apply State.usedLseq_kept
        | apply State.setSubst_kept)
    | with_reducible intro _
    | dsimp only
    | split

theorem State.retrySubst_kept {r0 s : State} (p : Nat) (r : SubstRx) (src : Nat) (dst : Nat) (hk : Kept r0 s) :
    Kept r0 (State.retrySubst s p r src dst) := by
  unfold State.retrySubst
  try dsimp only
  repeat' first
    | with_reducible (first
        | assumption | apply State.setSubFails_kept | apply State.setSubst_kept | apply State.recover_kept | apply State.raise_kept
        | apply State.sendLaneReq_kept | apply State.usedLseq_kept)
    | with_reducible intro _
    | dsimp only
    | split

theorem State.decideSubst_kept {r0 s : State} (p : Nat) (map : Nat) (r : SubstRx) (hk : Kept r0 s) :
    Kept r0 (State.decideSubst s p map r) := by
  unfold State.decideSubst
  try dsimp only
  repeat' first
    | with_reducible (first
        | assumption | apply State.setSubst_kept | apply State.setLane_kept | apply State.exclude_kept | apply State.retrySubst_kept
        | apply State.recover_kept)
    | with_reducible intro _
    | dsimp only
    | split

end Sys2Proof.Machine
end

