-- ==== Sys2Proof/Laws/Kept/LinkAuth.lean ====
section
/-! SUPPORT. What the operations of Machine/LinkAuth.lean keep. -/
namespace Sys2Proof.Machine

theorem State.startAuth_kept {r0 s : State} (p : Nat) (hk : Kept r0 s) :
    Kept r0 (State.startAuth s p) := by
  unfold State.startAuth
  try dsimp only
  repeat' first
    | with_reducible (first
        | assumption | apply State.setLinkSt_kept | apply State.trainFail_kept | apply State.modLk_kept | apply State.drew_kept)
    | with_reducible intro _
    | dsimp only
    | split

theorem State.tryAuth_kept {r0 s : State} (p : Nat) (hk : Kept r0 s) :
    Kept r0 (State.tryAuth s p) := by
  unfold State.tryAuth
  try dsimp only
  repeat' first
    | with_reducible (first
        | assumption | apply State.startAuth_kept)
    | with_reducible intro _
    | dsimp only
    | split

theorem State.putAuth_kept {r0 s : State} (p : Nat) (slot : Nat) (hk : Kept r0 s) :
    Kept r0 (State.putAuth s p slot) := by
  unfold State.putAuth
  try dsimp only
  repeat' first
    | with_reducible (first
        | assumption | apply State.put_kept | apply State.modLk_kept | apply State.reachActive_kept)
    | with_reducible intro _
    | dsimp only
    | split

theorem State.checkPeer_kept {r0 s : State} (p : Nat) (hello : List Byte) (cert : List Byte) (ok : Bool) (hk : Kept r0 s) :
    Kept r0 (State.checkPeer s p hello cert ok) := by
  unfold State.checkPeer
  try dsimp only
  repeat' first
    | with_reducible (first
        | assumption | apply State.trainFail_kept | apply State.modLk_kept)
    | with_reducible intro _
    | dsimp only
    | split

theorem State.authSegmentIn_kept {r0 s : State} (p : Nat) (y : List Byte) (ok : Bool) (hk : Kept r0 s) :
    Kept r0 (State.authSegmentIn s p y ok) := by
  unfold State.authSegmentIn
  try dsimp only
  repeat' first
    | with_reducible (first
        | assumption | apply State.modLk_kept | apply State.checkPeer_kept | apply State.trainFail_kept)
    | with_reducible intro _
    | dsimp only
    | split

theorem State.authDoneIn_kept {r0 s : State} (p : Nat) (hk : Kept r0 s) :
    Kept r0 (State.authDoneIn s p) := by
  unfold State.authDoneIn
  try dsimp only
  repeat' first
    | with_reducible (first
        | assumption | apply State.modLk_kept | apply State.reachActive_kept)
    | with_reducible intro _
    | dsimp only
    | split

theorem State.authReceive_kept {r0 s : State} (p : Nat) (y : List Byte) (ok : Bool) (hk : Kept r0 s) :
    Kept r0 (State.authReceive s p y ok) := by
  unfold State.authReceive
  try dsimp only
  repeat' first
    | with_reducible (first
        | assumption | apply State.authDoneIn_kept | apply State.authSegmentIn_kept)
    | with_reducible intro _
    | dsimp only
    | split

end Sys2Proof.Machine
end

