-- ==== Sys2Proof/Laws/Kept/RegOps.lean ====
section
/-! SUPPORT. What the operations of Machine/RegOps.lean keep. -/
namespace Sys2Proof.Machine

theorem State.writeField_kept {r0 s : State} (f : Field) (i : Nat) (data : Nat) (hk : Kept r0 s) :
    Kept r0 (State.writeField s f i data) := by
  unfold State.writeField
  try dsimp only
  repeat' first
    | with_reducible (first
        | assumption | apply State.wr_kept)
    | with_reducible intro _
    | dsimp only
    | split

theorem State.writeFields_kept {r0 s : State} (d : RegDesc) (i : Nat) (data : Nat) (hk : Kept r0 s) :
    Kept r0 (State.writeFields s d i data) := by
  unfold State.writeFields
  try dsimp only
  repeat' first
    | with_reducible (first
        | assumption | apply State.writeField_kept | apply Kept.foldl)
    | with_reducible intro _
    | dsimp only
    | split

theorem State.writeReg_kept {r0 s : State} (d : RegDesc) (i : Nat) (data : Nat) (checks : List (Nat × Bool)) (after : State → State) (hk : Kept r0 s) (hafter : ∀ t, Kept r0 t → Kept r0 (after t)) :
    Kept r0 (State.writeReg s d i data checks after) := by
  unfold State.writeReg
  try dsimp only
  repeat' first
    | with_reducible (first
        | assumption | apply hafter | apply State.checked_kept | apply State.answer_kept | apply State.writeFields_kept)
    | with_reducible intro _
    | dsimp only
    | split

end Sys2Proof.Machine
end

