-- ==== Sys2Proof/Laws/Kept/Plan.lean ====
section
/-! SUPPORT. What the operations of Machine/Plan.lean keep. -/
namespace Sys2Proof.Machine

theorem State.zoneAtHyperframe_kept {r0 s : State} (hk : Kept r0 s) :
    Kept r0 (State.zoneAtHyperframe s) := by
  unfold State.zoneAtHyperframe
  try dsimp only
  repeat' first
    | with_reducible (first
        | assumption | apply State.wr_kept)
    | with_reducible intro _
    | dsimp only
    | split

theorem State.rollCharges_kept {r0 s : State} (p : Nat) (hk : Kept r0 s) :
    Kept r0 (State.rollCharges s p) := by
  unfold State.rollCharges
  try dsimp only
  repeat' first
    | with_reducible (first
        | assumption | apply State.wr_kept | apply State.drew_kept | apply State.modLane_kept | apply Kept.foldl)
    | with_reducible intro _
    | dsimp only
    | split

theorem State.repeatBootReq_kept {r0 s : State} (p : Nat) (hk : Kept r0 s) :
    Kept r0 (State.repeatBootReq s p) := by
  unfold State.repeatBootReq
  try dsimp only
  repeat' first
    | with_reducible (first
        | assumption | apply State.requestGroupPlan_kept)
    | with_reducible intro _
    | dsimp only
    | split

theorem State.hyperframeStart_kept {r0 s : State} (hk : Kept r0 s) :
    Kept r0 (State.hyperframeStart s) := by
  unfold State.hyperframeStart
  try dsimp only
  repeat' first
    | with_reducible (first
        | assumption | apply State.zoneAtHyperframe_kept | apply State.rollCharges_kept | apply State.repeatBootReq_kept | apply Kept.foldl)
    | (with_reducible apply Kept.lit
       first
         | with_reducible (first
             | assumption | apply State.zoneAtHyperframe_kept | apply State.rollCharges_kept | apply State.repeatBootReq_kept | apply Kept.foldl)
         | split)
    | with_reducible intro _
    | dsimp only
    | split

theorem State.superframe_kept {r0 s : State} (hk : Kept r0 s) :
    Kept r0 (State.superframe s) := by
  unfold State.superframe
  try dsimp only
  repeat' first
    | with_reducible (first
        | assumption | apply State.wr_kept | apply State.hyperframeStart_kept)
    | (with_reducible apply Kept.lit
       first
         | with_reducible (first
             | assumption | apply State.wr_kept | apply State.hyperframeStart_kept)
         | split)
    | with_reducible intro _
    | dsimp only
    | split

theorem execSuperframeStart_kept {r0 s : State} (hk : Kept r0 s) : ∀ s1, execSuperframeStart s = .next s1 → Kept r0 s1 := by
  intro s1 e; unfold execSuperframeStart at e; injection e with e; subst e
  try dsimp only
  repeat' first
    | with_reducible (first
        | assumption | apply State.superframe_kept)
    | with_reducible intro _
    | dsimp only
    | split

theorem State.shiftFails_kept {r0 s : State} (p : Nat) (hk : Kept r0 s) :
    Kept r0 (State.shiftFails s p) := by
  unfold State.shiftFails
  try dsimp only
  repeat' first
    | with_reducible (first
        | assumption | apply State.raise_kept | apply State.clearPending_kept | apply State.modPlan_kept)
    | with_reducible intro _
    | dsimp only
    | split

theorem State.switchTables_kept {r0 s : State} (p : Nat) (hk : Kept r0 s) :
    Kept r0 (State.switchTables s p) := by
  unfold State.switchTables
  try dsimp only
  repeat' first
    | with_reducible (first
        | assumption | apply State.wr_kept | apply State.raise_kept | apply State.clearPending_kept | apply State.onPlanShift_kept)
    | with_reducible intro _
    | dsimp only
    | split

theorem State.syncLost_kept {r0 s : State} (p : Nat) (hk : Kept r0 s) :
    Kept r0 (State.syncLost s p) := by
  unfold State.syncLost
  try dsimp only
  repeat' first
    | with_reducible (first
        | assumption | apply State.recover_kept | apply State.raise_kept)
    | with_reducible intro _
    | dsimp only
    | split

theorem State.syncFailed_kept {r0 s : State} (p : Nat) (sfn : Nat) (hk : Kept r0 s) :
    Kept r0 (State.syncFailed s p sfn) := by
  unfold State.syncFailed
  try dsimp only
  repeat' first
    | with_reducible (first
        | assumption | apply State.wr_kept | apply State.modPlan_kept | apply State.syncLost_kept | apply Kept.foldl)
    | with_reducible intro _
    | dsimp only
    | split

theorem State.syncPlanDown_kept {r0 s : State} (p : Nat) (y : Sync) (hk : Kept r0 s) :
    Kept r0 (State.syncPlanDown s p y) := by
  unfold State.syncPlanDown
  try dsimp only
  repeat' first
    | with_reducible (first
        | assumption | apply State.switchTables_kept | apply State.modPlan_kept | apply State.shiftFails_kept | apply State.bump_kept
        | apply State.recover_kept | apply State.raise_kept)
    | with_reducible intro _
    | dsimp only
    | split

theorem State.syncPlanUp_kept {r0 s : State} (p : Nat) (y : Sync) (hk : Kept r0 s) :
    Kept r0 (State.syncPlanUp s p y) := by
  unfold State.syncPlanUp
  try dsimp only
  repeat' first
    | with_reducible (first
        | assumption | apply State.modPlan_kept | apply State.recover_kept | apply State.raise_kept)
    | with_reducible intro _
    | dsimp only
    | split

theorem State.modTsu_kept {r0 s : State} (f : Tsu → Tsu) (hk : Kept r0 s) :
    Kept r0 (State.modTsu s f) := by
  unfold State.modTsu
  try dsimp only
  repeat' first
    | with_reducible (first
        | assumption)
    | (with_reducible apply Kept.lit
       first
         | with_reducible (first
             | assumption)
         | split)
    | with_reducible intro _
    | dsimp only
    | split

theorem State.tsuValid_kept {r0 s : State} (hk : Kept r0 s) :
    Kept r0 (State.tsuValid s) := by
  unfold State.tsuValid
  try dsimp only
  repeat' first
    | with_reducible (first
        | assumption | apply State.raise_kept | apply State.wr_kept)
    | with_reducible intro _
    | dsimp only
    | split

theorem State.syncTime_kept {r0 s : State} (y : Sync) (hk : Kept r0 s) :
    Kept r0 (State.syncTime s y) := by
  unfold State.syncTime
  generalize (_ : Int) + _ = want
  apply State.tsuValid_kept
  have h1 : ∀ n, Kept r0 { s with treeTime := n } := fun n => Kept.lit _ _ _ _ _ _ _ _ _ _ _ _ _ _ _ _ _ _ _ hk
  have h2 : ∀ n c (P : Prop) [Decidable P] d, Kept r0 (if P then ({ s with treeTime := n }.wr TSU_LASTCORR.CORR c).raise Ev.TSU_STEP d
      else { s with treeTime := n }.wr TSU_LASTCORR.CORR c) := fun n c P _ d =>
    Kept.ite (State.raise_kept _ _ (State.wr_kept _ _ _ (h1 n))) (State.wr_kept _ _ _ (h1 n))
  have h3 := fun n c P [Decidable P] d => State.modTsu_kept (fun t => { t with synced := true }) (State.wr_kept TSU_STATUS.HOLDOVER 0 0 (h2 n c P d))
  refine Kept.ite (State.modTsu_kept _ ?_) (h3 _ _ _ _)
  split
  · exact h3 _ _ _ _
  · exact State.wr_kept _ _ _ (State.modTsu_kept _ (h3 _ _ _ _))

theorem State.syncAccepted_kept {r0 s : State} (p : Nat) (y : Sync) (hk : Kept r0 s) :
    Kept r0 (State.syncAccepted s p y) := by
  unfold State.syncAccepted
  try dsimp only
  repeat' first
    | with_reducible (first
        | assumption | apply State.wr_kept | apply State.decideSubst_kept | apply State.modPlan_kept | apply State.syncTime_kept
        | apply State.syncPlanDown_kept | apply State.syncPlanUp_kept | apply Kept.foldl)
    | (with_reducible apply Kept.lit
       first
         | with_reducible (first
             | assumption | apply State.wr_kept | apply State.decideSubst_kept | apply State.modPlan_kept | apply State.syncTime_kept
             | apply State.syncPlanDown_kept | apply State.syncPlanUp_kept | apply Kept.foldl)
         | split)
    | with_reducible intro _
    | dsimp only
    | split

theorem State.syncReceive_kept {r0 s : State} (p : Nat) (y : Option (List Byte)) (via : Nat) (hk : Kept r0 s) :
    Kept r0 (State.syncReceive s p y via) := by
  unfold State.syncReceive
  try dsimp only
  repeat' first
    | with_reducible (first
        | assumption | apply State.modLk_kept | apply State.wr_kept | apply State.syncAccepted_kept | apply State.syncFailed_kept)
    | (with_reducible apply Kept.lit
       first
         | with_reducible (first
             | assumption | apply State.modLk_kept | apply State.wr_kept | apply State.syncAccepted_kept | apply State.syncFailed_kept)
         | split)
    | with_reducible intro _
    | dsimp only
    | split

theorem State.provisionalDrop_kept {r0 s : State} (p : Nat) (slot : Nat) (hk : Kept r0 s) :
    Kept r0 (State.provisionalDrop s p slot) := by
  unfold State.provisionalDrop
  try dsimp only
  repeat' first
    | with_reducible (first
        | assumption | apply State.modLk_kept | apply State.setLoss_kept | apply State.xmiss_kept | apply Kept.foldl)
    | with_reducible intro _
    | dsimp only
    | split

theorem State.provisionalLoss_kept {r0 s : State} (p : Nat) (dir : Nat) (slot : Nat) (t : Table) (hk : Kept r0 s) :
    Kept r0 (State.provisionalLoss s p dir slot t) := by
  unfold State.provisionalLoss
  try dsimp only
  repeat' first
    | with_reducible (first
        | assumption | apply State.setLoss_kept | apply State.isoLoss_kept | apply Kept.foldl)
    | with_reducible intro _
    | dsimp only
    | split

theorem State.noteStalls_kept {r0 s : State} (p : Nat) (hk : Kept r0 s) :
    Kept r0 (State.noteStalls s p) := by
  unfold State.noteStalls
  try dsimp only
  repeat' first
    | with_reducible (first
        | assumption | apply State.setBit_kept | apply Kept.foldl)
    | with_reducible intro _
    | dsimp only
    | split

theorem State.putCred_kept {r0 s : State} (p : Nat) (slot : Nat) (hk : Kept r0 s) :
    Kept r0 (State.putCred s p slot) := by
  unfold State.putCred
  try dsimp only
  repeat' first
    | with_reducible (first
        | assumption | apply State.put_kept | apply State.modLk_kept)
    | with_reducible intro _
    | dsimp only
    | split

theorem State.trainingFlit_kept {r0 s : State} (p : Nat) (slot : Nat) (e : Nat) (hk : Kept r0 s) :
    Kept r0 (State.trainingFlit s p slot e) := by
  unfold State.trainingFlit
  try dsimp only
  repeat' first
    | with_reducible (first
        | assumption | apply State.putCred_kept | apply State.putAuth_kept | apply State.put_kept)
    | with_reducible intro _
    | dsimp only
    | split

theorem State.slotCommit_kept {r0 s : State} (p : Nat) (slot : Nat) (hk : Kept r0 s) :
    Kept r0 (State.slotCommit s p slot) := by
  unfold State.slotCommit
  try dsimp only
  repeat' first
    | with_reducible (first
        | assumption | apply State.putIdle_kept | apply State.provisionalLoss_kept | apply State.provisionalDrop_kept | apply State.noteStalls_kept
        | apply State.fillSlot_kept | apply State.creditSend_kept | apply State.putSync_kept | apply State.trainingFlit_kept)
    | with_reducible intro _
    | dsimp only
    | split

theorem State.flitPresentation_kept {r0 s : State} (p : Nat) (slot : Nat) (hk : Kept r0 s) :
    Kept r0 (State.flitPresentation s p slot) := by
  unfold State.flitPresentation
  try dsimp only
  repeat' first
    | with_reducible (first
        | assumption | apply State.modLk_kept | apply State.presentAll_kept)
    | with_reducible intro _
    | dsimp only
    | split

theorem execFlitPresentation_kept {r0 s : State} (p : Fin 4) (slot : Nat) (hk : Kept r0 s) : ∀ s1, execFlitPresentation p slot s = .next s1 → Kept r0 s1 := by
  intro s1 e; unfold execFlitPresentation at e; injection e with e; subst e
  try dsimp only
  repeat' first
    | with_reducible (first
        | assumption | apply State.flitPresentation_kept)
    | with_reducible intro _
    | dsimp only
    | split

theorem State.isoDeparture_kept {r0 s : State} (p : Nat) (tix : Nat) (hk : Kept r0 s) :
    Kept r0 (State.isoDeparture s p tix) := by
  unfold State.isoDeparture
  try dsimp only
  repeat' first
    | with_reducible (first
        | assumption | apply State.modLk_kept | apply State.sendIso_kept | apply State.xmiss_kept | apply State.isoLoss_kept)
    | with_reducible intro _
    | dsimp only
    | split

theorem execIsoDeparture_kept {r0 s : State} (p : Fin 4) (tix : Nat) (hk : Kept r0 s) : ∀ s1, execIsoDeparture p tix s = .next s1 → Kept r0 s1 := by
  intro s1 e; unfold execIsoDeparture at e; injection e with e; subst e
  try dsimp only
  repeat' first
    | with_reducible (first
        | assumption | apply State.isoDeparture_kept)
    | with_reducible intro _
    | dsimp only
    | split

theorem State.guarDeparture_kept {r0 s : State} (p : Nat) (tix : Nat) (hk : Kept r0 s) :
    Kept r0 (State.guarDeparture s p tix) := by
  unfold State.guarDeparture
  try dsimp only
  repeat' first
    | with_reducible (first
        | assumption | apply State.xmiss_kept | apply State.modLk_kept | apply State.sendGuar_kept)
    | with_reducible intro _
    | dsimp only
    | split

theorem execGuarDeparture_kept {r0 s : State} (p : Fin 4) (tix : Nat) (hk : Kept r0 s) : ∀ s1, execGuarDeparture p tix s = .next s1 → Kept r0 s1 := by
  intro s1 e; unfold execGuarDeparture at e; injection e with e; subst e
  try dsimp only
  repeat' first
    | with_reducible (first
        | assumption | apply State.guarDeparture_kept)
    | with_reducible intro _
    | dsimp only
    | split

theorem State.planWindowWrite_kept {r0 s : State} (off : Nat) (data : Nat) (hk : Kept r0 s) :
    Kept r0 (State.planWindowWrite s off data) := by
  unfold State.planWindowWrite
  apply State.checked_kept _ _ hk
  intro t ht
  apply State.answer_kept
  apply State.wr_kept
  refine ht.tables rfl rfl rfl rfl rfl (fun k => ?_)
  simp only [State.tablesOk, Bool.and_eq_true] at k ⊢
  simp_all [NMap.wf_set]

theorem execPlanWindowWrite_kept {r0 s : State} (addr : Word) (data : Word) (hk : Kept r0 s) : ∀ s1, execPlanWindowWrite addr data s = .next s1 → Kept r0 s1 := by
  intro s1 e; unfold execPlanWindowWrite at e; injection e with e; subst e
  try dsimp only
  repeat' first
    | with_reducible (first
        | assumption | apply State.addrAccess_kept | apply State.planWindowWrite_kept)
    | with_reducible intro _
    | dsimp only
    | split

theorem State.sendNack_kept {r0 s : State} (p : Nat) (f : Front) (status : Nat) (hk : Kept r0 s) :
    Kept r0 (State.sendNack s p f status) := by
  unfold State.sendNack
  try dsimp only
  repeat' first
    | with_reducible (first
        | assumption | apply State.pushCtl_kept | apply State.bump_kept)
    | with_reducible intro _
    | dsimp only
    | split

theorem State.zoneAccepted_kept {r0 s : State} (g : Nat) (e : Nat) (hk : Kept r0 s) :
    Kept r0 (State.zoneAccepted s g e) := by
  unfold State.zoneAccepted
  apply Kept.foldl
  · with_reducible apply State.raise_kept
    with_reducible apply Kept.lit
    with_reducible apply State.wr_kept
    with_reducible apply State.wr_kept
    exact hk
  · intro t p h
    exact Kept.ite h (Kept.ite (State.raise_kept _ _ (State.modPlan_kept _ _ h)) (State.modPlan_kept _ _ h))

theorem State.frontReq_kept {r0 s : State} (p : Nat) (f : Front) (hk : Kept r0 s) :
    Kept r0 (State.frontReq s p f) := by
  unfold State.frontReq
  try dsimp only
  repeat' first
    | with_reducible (first
        | assumption | apply State.sendNack_kept | apply State.wr_kept | apply State.modPlan_kept | apply State.pushCtl_kept
        | apply State.zoneAccepted_kept)
    | with_reducible intro _
    | dsimp only
    | split

theorem execFrontReqReceive_kept {r0 s : State} (p : Fin 4) (y : List Byte) (hk : Kept r0 s) : ∀ s1, execFrontReqReceive p y s = .next s1 → Kept r0 s1 := by
  intro s1 e; unfold execFrontReqReceive at e; injection e with e; subst e
  try dsimp only
  repeat' first
    | with_reducible (first
        | assumption | apply State.frontReq_kept)
    | with_reducible intro _
    | dsimp only
    | split

theorem State.frontAck_kept {r0 s : State} (p : Nat) (f : Front) (hk : Kept r0 s) :
    Kept r0 (State.frontAck s p f) := by
  unfold State.frontAck
  try dsimp only
  repeat' first
    | with_reducible (first
        | assumption | apply State.modPlan_kept | apply State.shiftFails_kept | apply State.bump_kept)
    | with_reducible intro _
    | dsimp only
    | split

theorem execFrontAckReceive_kept {r0 s : State} (p : Fin 4) (y : List Byte) (hk : Kept r0 s) : ∀ s1, execFrontAckReceive p y s = .next s1 → Kept r0 s1 := by
  intro s1 e; unfold execFrontAckReceive at e; injection e with e; subst e
  try dsimp only
  repeat' first
    | with_reducible (first
        | assumption | apply State.frontAck_kept)
    | with_reducible intro _
    | dsimp only
    | split

theorem State.frontNack_kept {r0 s : State} (p : Nat) (f : Front) (hk : Kept r0 s) :
    Kept r0 (State.frontNack s p f) := by
  unfold State.frontNack
  try dsimp only
  repeat' first
    | with_reducible (first
        | assumption | apply State.modPlan_kept | apply State.shiftFails_kept | apply State.bump_kept)
    | with_reducible intro _
    | dsimp only
    | split

theorem execFrontNackReceive_kept {r0 s : State} (p : Fin 4) (y : List Byte) (hk : Kept r0 s) : ∀ s1, execFrontNackReceive p y s = .next s1 → Kept r0 s1 := by
  intro s1 e; unfold execFrontNackReceive at e; injection e with e; subst e
  try dsimp only
  repeat' first
    | with_reducible (first
        | assumption | apply State.frontNack_kept)
    | with_reducible intro _
    | dsimp only
    | split

theorem State.frontReceive_kept {r0 s : State} (p : Nat) (y : List Byte) (hk : Kept r0 s) :
    Kept r0 (State.frontReceive s p y) := by
  unfold State.frontReceive
  try dsimp only
  repeat' first
    | with_reducible (first
        | assumption | apply State.frontReq_kept | apply State.frontAck_kept | apply State.frontNack_kept)
    | with_reducible intro _
    | dsimp only
    | split

theorem State.frontDeadline_kept {r0 s : State} (p : Nat) (hk : Kept r0 s) :
    Kept r0 (State.frontDeadline s p) := by
  unfold State.frontDeadline
  try dsimp only
  repeat' first
    | with_reducible (first
        | assumption | apply State.shiftFails_kept | apply State.bump_kept)
    | with_reducible intro _
    | dsimp only
    | split

theorem execFrontAckDeadline_kept {r0 s : State} (p : Fin 4) (hk : Kept r0 s) : ∀ s1, execFrontAckDeadline p s = .next s1 → Kept r0 s1 := by
  intro s1 e; unfold execFrontAckDeadline at e; injection e with e; subst e
  try dsimp only
  repeat' first
    | with_reducible (first
        | assumption | apply State.frontDeadline_kept)
    | with_reducible intro _
    | dsimp only
    | split

theorem State.shiftEffect_kept {r0 s : State} (p : Nat) (hk : Kept r0 s) :
    Kept r0 (State.shiftEffect s p) := by
  unfold State.shiftEffect
  try dsimp only
  repeat' first
    | with_reducible (first
        | assumption | apply State.modPlan_kept | apply State.switchTables_kept)
    | with_reducible intro _
    | dsimp only
    | split

theorem State.linkShift_kept {r0 s : State} (p : Nat) (data : Nat) (hk : Kept r0 s) :
    Kept r0 (State.linkShift s p data) := by
  unfold State.linkShift
  try dsimp only
  repeat' first
    | with_reducible (first
        | assumption | apply State.checked_kept | apply State.answer_kept | apply State.sendReq_kept)
    | with_reducible intro _
    | dsimp only
    | split

theorem execLinkShiftGo_kept {r0 s : State} (p : Fin 4) (data : Word) (hk : Kept r0 s) : ∀ s1, execLinkShiftGo p data s = .next s1 → Kept r0 s1 := by
  intro s1 e; unfold execLinkShiftGo at e; injection e with e; subst e
  try dsimp only
  repeat' first
    | with_reducible (first
        | assumption | apply State.access_kept | apply State.linkShift_kept)
    | with_reducible intro _
    | dsimp only
    | split

theorem State.zoneReqOn_kept {r0 s : State} (p : Nat) (g : Nat) (e : Nat) (hk : Kept r0 s) :
    Kept r0 (State.zoneReqOn s p g e) := by
  unfold State.zoneReqOn
  try dsimp only
  repeat' first
    | with_reducible (first
        | assumption | apply State.sendReq_kept | apply State.raise_kept | apply State.modPlan_kept)
    | with_reducible intro _
    | dsimp only
    | split

theorem State.startZoneShift_kept {r0 s : State} (g : Nat) (hk : Kept r0 s) :
    Kept r0 (State.startZoneShift s g) := by
  unfold State.startZoneShift
  try dsimp only
  repeat' first
    | with_reducible (first
        | assumption | apply State.raise_kept | apply State.wr_kept | apply State.modPlan_kept | apply State.zoneReqOn_kept | apply Kept.foldl)
    | (with_reducible apply Kept.lit
       first
         | with_reducible (first
             | assumption | apply State.raise_kept | apply State.wr_kept | apply State.modPlan_kept | apply State.zoneReqOn_kept | apply Kept.foldl)
         | split)
    | with_reducible intro _
    | dsimp only
    | split

theorem State.zshift_kept {r0 s : State} (data : Nat) (hk : Kept r0 s) :
    Kept r0 (State.zshift s data) := by
  unfold State.zshift
  try dsimp only
  repeat' first
    | with_reducible (first
        | assumption | apply State.checked_kept | apply State.answer_kept | apply State.startZoneShift_kept)
    | with_reducible intro _
    | dsimp only
    | split

theorem execZshiftGo_kept {r0 s : State} (data : Word) (hk : Kept r0 s) : ∀ s1, execZshiftGo data s = .next s1 → Kept r0 s1 := by
  intro s1 e; unfold execZshiftGo at e; injection e with e; subst e
  try dsimp only
  repeat' first
    | with_reducible (first
        | assumption | apply State.access_kept | apply State.zshift_kept)
    | with_reducible intro _
    | dsimp only
    | split

theorem State.zoneForward_kept {r0 s : State} (p : Nat) (hk : Kept r0 s) :
    Kept r0 (State.zoneForward s p) := by
  unfold State.zoneForward
  try dsimp only
  repeat' first
    | with_reducible (first
        | assumption | apply State.modPlan_kept | apply State.zoneReqOn_kept | apply State.raise_kept)
    | with_reducible intro _
    | dsimp only
    | split

theorem execZoneReqForward_kept {r0 s : State} (p : Fin 4) (hk : Kept r0 s) : ∀ s1, execZoneReqForward p s = .next s1 → Kept r0 s1 := by
  intro s1 e; unfold execZoneReqForward at e; injection e with e; subst e
  try dsimp only
  repeat' first
    | with_reducible (first
        | assumption | apply State.zoneForward_kept)
    | with_reducible intro _
    | dsimp only
    | split

theorem State.zoneCatchup_kept {r0 s : State} (p : Nat) (hk : Kept r0 s) :
    Kept r0 (State.zoneCatchup s p) := by
  unfold State.zoneCatchup
  try dsimp only
  repeat' first
    | with_reducible (first
        | assumption | apply State.modPlan_kept | apply State.requestGroupPlan_kept)
    | with_reducible intro _
    | dsimp only
    | split

theorem execZoneShiftCatchup_kept {r0 s : State} (p : Fin 4) (hk : Kept r0 s) : ∀ s1, execZoneShiftCatchup p s = .next s1 → Kept r0 s1 := by
  intro s1 e; unfold execZoneShiftCatchup at e; injection e with e; subst e
  try dsimp only
  repeat' first
    | with_reducible (first
        | assumption | apply State.zoneCatchup_kept)
    | with_reducible intro _
    | dsimp only
    | split

theorem State.setPresence_kept {r0 s : State} (i : Nat) (b : Bool) (hk : Kept r0 s) :
    Kept r0 (State.setPresence s i b) := by
  unfold State.setPresence
  try dsimp only
  repeat' first
    | with_reducible (first
        | assumption | apply State.wr_kept)
    | with_reducible intro _
    | dsimp only
    | split

theorem State.selectorEvaluate_kept {r0 s : State} (hk : Kept r0 s) :
    Kept r0 (State.selectorEvaluate s) := by
  unfold State.selectorEvaluate
  try dsimp only
  repeat' first
    | with_reducible (first
        | assumption | apply State.raise_kept | apply State.wr_kept | apply State.startZoneShift_kept)
    | with_reducible intro _
    | dsimp only
    | split

theorem execSelectorEvaluate_kept {r0 s : State} (hk : Kept r0 s) : ∀ s1, execSelectorEvaluate s = .next s1 → Kept r0 s1 := by
  intro s1 e; unfold execSelectorEvaluate at e; injection e with e; subst e
  try dsimp only
  repeat' first
    | with_reducible (first
        | assumption | apply State.selectorEvaluate_kept)
    | with_reducible intro _
    | dsimp only
    | split

theorem State.hubAbsent_kept {r0 s : State} (hub : Nat) (hk : Kept r0 s) :
    Kept r0 (State.hubAbsent s hub) := by
  unfold State.hubAbsent
  try dsimp only
  repeat' first
    | with_reducible (first
        | assumption | apply State.setPresence_kept | apply Kept.foldl)
    | with_reducible intro _
    | dsimp only
    | split

theorem execPresenceBackstop_kept {r0 s : State} (hub : Fin 64) (hk : Kept r0 s) : ∀ s1, execPresenceBackstop hub s = .next s1 → Kept r0 s1 := by
  intro s1 e; unfold execPresenceBackstop at e; injection e with e; subst e
  try dsimp only
  repeat' first
    | with_reducible (first
        | assumption | apply State.hubAbsent_kept)
    | with_reducible intro _
    | dsimp only
    | split

theorem State.recordVerdict_kept {r0 s : State} (p : Nat) (dir : Nat) (q : Nat) (v : Verdict) (hk : Kept r0 s) :
    Kept r0 (State.recordVerdict s p dir q v) := by
  unfold State.recordVerdict
  try dsimp only
  repeat' first
    | with_reducible (first
        | assumption | apply State.setBit_kept | apply State.wr_kept | apply State.raise_kept)
    | with_reducible intro _
    | dsimp only
    | split

theorem State.validatePlan_kept {r0 s : State} (p : Nat) (q : Nat) (hk : Kept r0 s) :
    Kept r0 (State.validatePlan s p q).1 := by
  unfold State.validatePlan
  try dsimp only
  repeat' first
    | with_reducible (first
        | assumption | apply State.recordVerdict_kept)
    | with_reducible intro _
    | dsimp only
    | split

theorem State.validateCmd_kept {r0 s : State} (data : Nat) (hk : Kept r0 s) :
    Kept r0 (State.validateCmd s data) := by
  unfold State.validateCmd
  try dsimp only
  repeat' first
    | with_reducible (first
        | assumption | apply State.checked_kept | apply State.validatePlan_kept | apply State.answer_kept)
    | with_reducible intro _
    | dsimp only
    | split

theorem execValidate_kept {r0 s : State} (data : Word) (hk : Kept r0 s) : ∀ s1, execValidate data s = .next s1 → Kept r0 s1 := by
  intro s1 e; unfold execValidate at e; injection e with e; subst e
  try dsimp only
  repeat' first
    | with_reducible (first
        | assumption | apply State.access_kept | apply State.validateCmd_kept)
    | with_reducible intro _
    | dsimp only
    | split

theorem State.invalidateCmd_kept {r0 s : State} (data : Nat) (hk : Kept r0 s) :
    Kept r0 (State.invalidateCmd s data) := by
  unfold State.invalidateCmd
  try dsimp only
  repeat' first
    | with_reducible (first
        | assumption | apply State.checked_kept | apply State.answer_kept | apply State.wr_kept)
    | with_reducible intro _
    | dsimp only
    | split

theorem execInvalidate_kept {r0 s : State} (data : Word) (hk : Kept r0 s) : ∀ s1, execInvalidate data s = .next s1 → Kept r0 s1 := by
  intro s1 e; unfold execInvalidate at e; injection e with e; subst e
  try dsimp only
  repeat' first
    | with_reducible (first
        | assumption | apply State.access_kept | apply State.invalidateCmd_kept)
    | with_reducible intro _
    | dsimp only
    | split

end Sys2Proof.Machine
end

