-- ==== Sys2Proof/Laws/Kept/SwitchOps.lean ====
section
/-! SUPPORT. What the operations of Machine/SwitchOps.lean keep. -/
namespace Sys2Proof.Machine

theorem State.modSw_kept {r0 s : State} (f : Sw → Sw) (hk : Kept r0 s) :
    Kept r0 (State.modSw s f) := by
  unfold State.modSw
  try dsimp only
  repeat' first
    | with_reducible (first
        | assumption)
    | (with_reducible apply Kept.lit
       first
         | with_reducible (first
             | assumption)
         | split)
    | with_reducible intro _
    | dsimp only
    | split

theorem State.recomputePool_kept {r0 s : State} (hk : Kept r0 s) :
    Kept r0 (State.recomputePool s) := by
  unfold State.recomputePool
  try dsimp only
  repeat' first
    | with_reducible (first
        | assumption | apply State.wr_kept)
    | with_reducible intro _
    | dsimp only
    | split

theorem State.swDrop_kept {r0 s : State} (port : Nat) (cause : Nat) (hk : Kept r0 s) :
    Kept r0 (State.swDrop s port cause) := by
  unfold State.swDrop
  try dsimp only
  repeat' first
    | with_reducible (first
        | assumption | apply State.raiseOnce_kept | apply State.bump_kept)
    | with_reducible intro _
    | dsimp only
    | split

theorem State.giveCredit_kept {r0 s : State} (p : Nat) (v : Nat) (n : Nat) (epoch : Nat) (hk : Kept r0 s) :
    Kept r0 (State.giveCredit s p v n epoch) := by
  unfold State.giveCredit
  try dsimp only
  repeat' first
    | with_reducible (first
        | assumption | apply State.modSw_kept | apply State.freeCredit_kept)
    | with_reducible intro _
    | dsimp only
    | split

theorem State.freeCells_kept {r0 s : State} (l : List Nat) (hk : Kept r0 s) :
    Kept r0 (State.freeCells s l) := by
  unfold State.freeCells
  try dsimp only
  repeat' first
    | with_reducible (first
        | assumption | apply State.modSw_kept)
    | with_reducible intro _
    | dsimp only
    | split

theorem State.freeFrame_kept {r0 s : State} (f : SwFrame) (hk : Kept r0 s) :
    Kept r0 (State.freeFrame s f) := by
  unfold State.freeFrame
  try dsimp only
  repeat' first
    | with_reducible (first
        | assumption | apply State.giveCredit_kept | apply State.freeCells_kept)
    | with_reducible intro _
    | dsimp only
    | split

theorem State.takeCell_kept {r0 s : State} (p : Nat) (c : Nat) (hk : Kept r0 s) :
    Kept r0 (State.takeCell s p c) := by
  unfold State.takeCell
  try dsimp only
  repeat' first
    | with_reducible (first
        | assumption | apply State.modSw_kept)
    | with_reducible intro _
    | dsimp only
    | split

theorem State.noteLastBank_kept {r0 s : State} (p : Nat) (n : Nat) (cells : List Nat) (hk : Kept r0 s) :
    Kept r0 (State.noteLastBank s p n cells) := by
  unfold State.noteLastBank
  try dsimp only
  repeat' first
    | with_reducible (first
        | assumption | apply State.modSw_kept)
    | with_reducible intro _
    | dsimp only
    | split

theorem State.swEnter_kept {r0 s : State} (f : SwIn) (hk : Kept r0 s) :
    Kept r0 (State.swEnter s f) := by
  unfold State.swEnter
  try dsimp only
  repeat' first
    | with_reducible (first
        | assumption | apply State.modSw_kept)
    | with_reducible intro _
    | dsimp only
    | split

theorem State.handOver_kept {r0 s : State} (f : SwFrame) (q : Nat) (hk : Kept r0 s) :
    Kept r0 (State.handOver s f q) := by
  unfold State.handOver
  try dsimp only
  repeat' first
    | with_reducible (first
        | assumption | apply State.swEnter_kept)
    | with_reducible intro _
    | dsimp only
    | split

theorem State.releaseCopy_kept {r0 s : State} (c : Copy) (hk : Kept r0 s) :
    Kept r0 (State.releaseCopy s c) := by
  unfold State.releaseCopy
  try dsimp only
  repeat' first
    | with_reducible (first
        | assumption | apply State.wr_kept | apply State.modSw_kept | apply State.freeFrame_kept)
    | with_reducible intro _
    | dsimp only
    | split

theorem State.portDownDiscard_kept {r0 s : State} (p : Nat) (hk : Kept r0 s) :
    Kept r0 (State.portDownDiscard s p) := by
  unfold State.portDownDiscard
  try dsimp only
  repeat' first
    | with_reducible (first
        | assumption | apply State.modSw_kept | apply State.swDrop_kept | apply State.releaseCopy_kept | apply Kept.foldl)
    | with_reducible intro _
    | dsimp only
    | split

theorem State.swLinkDown_kept {r0 s : State} (p : Nat) (hk : Kept r0 s) :
    Kept r0 (State.swLinkDown s p) := by
  unfold State.swLinkDown
  try dsimp only
  repeat' first
    | with_reducible (first
        | assumption | apply State.portDownDiscard_kept | apply State.modSw_kept)
    | with_reducible intro _
    | dsimp only
    | split

end Sys2Proof.Machine
end

