-- ==== Sys2Proof/Laws/Kept/TunnelOps.lean ====
section
/-! SUPPORT. What the operations of Machine/TunnelOps.lean keep. -/
namespace Sys2Proof.Machine

theorem State.modTun_kept {r0 s : State} (f : Tun → Tun) (hk : Kept r0 s) :
    Kept r0 (State.modTun s f) := by
  unfold State.modTun
  try dsimp only
  repeat' first
    | with_reducible (first
        | assumption)
    | (with_reducible apply Kept.lit
       first
         | with_reducible (first
             | assumption)
         | split)
    | with_reducible intro _
    | dsimp only
    | split

theorem State.queueFlits_kept {r0 s : State} (p : Nat) (tix : Nat) (sub : Nat) (framed : Bool) (l : List (List Byte)) (hk : Kept r0 s) :
    Kept r0 (State.queueFlits s p tix sub framed l) := by
  unfold State.queueFlits
  try dsimp only
  repeat' first
    | with_reducible (first
        | assumption | apply State.queueTx_kept | apply Kept.foldl)
    | with_reducible intro _
    | dsimp only
    | split

theorem State.tunnelSend_kept {r0 s : State} (tix : Nat) (ident : Nat) (f : SwFrame) (hk : Kept r0 s) :
    Kept r0 (State.tunnelSend s tix ident f) := by
  unfold State.tunnelSend
  try dsimp only
  repeat' first
    | with_reducible (first
        | assumption | apply State.handOver_kept | apply State.modTun_kept | apply State.queueFlits_kept | apply State.xmiss_kept)
    | with_reducible intro _
    | dsimp only
    | split

theorem State.setRoute_kept {r0 s : State} (i : Nat) (w : Nat) (v : Nat) (hk : Kept r0 s) :
    Kept r0 (State.setRoute s i w v) := by
  refine hk.tables rfl rfl rfl rfl rfl (fun k => ?_)
  simp only [State.tablesOk, Bool.and_eq_true] at k ⊢
  simp_all [State.setRoute, NMap.wf_set]

theorem State.routeMiss_kept {r0 s : State} (hk : Kept r0 s) :
    Kept r0 (State.routeMiss s) := by
  unfold State.routeMiss
  try dsimp only
  repeat' first
    | with_reducible (first
        | assumption | apply State.bump_kept)
    | with_reducible intro _
    | dsimp only
    | split

theorem State.toNimbus_kept {r0 s : State} (b : List Byte) (hk : Kept r0 s) :
    Kept r0 (State.toNimbus s b) := by
  unfold State.toNimbus
  try dsimp only
  repeat' first
    | with_reducible (first
        | assumption | apply State.emit_kept)
    | with_reducible intro _
    | dsimp only
    | split

theorem State.identFrame_kept {r0 s : State} (ident : Nat) (f : SwFrame) (hk : Kept r0 s) :
    Kept r0 (State.identFrame s ident f) := by
  unfold State.identFrame
  try dsimp only
  repeat' first
    | with_reducible (first
        | assumption | apply State.raiseOnce_kept | apply State.swEnter_kept | apply State.toNimbus_kept | apply State.routeMiss_kept
        | apply State.setRoute_kept | apply State.handOver_kept | apply State.tunnelSend_kept | apply State.bump_kept)
    | with_reducible intro _
    | dsimp only
    | split

theorem State.gwSend_kept {r0 s : State} (kind : Nat) (hub : Nat) (tid : Nat) (ident : Nat) (sub : Nat) (loss : Bool) (y : List Byte) (hk : Kept r0 s) :
    Kept r0 (State.gwSend s kind hub tid ident sub loss y) := by
  unfold State.gwSend
  try dsimp only
  repeat' first
    | with_reducible (first
        | assumption | apply State.modTun_kept | apply State.handOver_kept)
    | with_reducible intro _
    | dsimp only
    | split

theorem State.gwDeliver_kept {r0 s : State} (kind : Nat) (tix : Nat) (ident : Nat) (sub : Nat) (loss : Bool) (y : List Byte) (hk : Kept r0 s) :
    Kept r0 (State.gwDeliver s kind tix ident sub loss y) := by
  unfold State.gwDeliver
  try dsimp only
  repeat' first
    | with_reducible (first
        | assumption | apply State.modTun_kept | apply State.gwSend_kept)
    | with_reducible intro _
    | dsimp only
    | split

theorem State.gwBad_kept {r0 s : State} (hk : Kept r0 s) :
    Kept r0 (State.gwBad s) := by
  unfold State.gwBad
  try dsimp only
  repeat' first
    | with_reducible (first
        | assumption | apply State.raiseOnce_kept | apply State.bump_kept)
    | with_reducible intro _
    | dsimp only
    | split

theorem State.gwSeq_kept {r0 s : State} (tid : Nat) (seq : Nat) (hk : Kept r0 s) :
    Kept r0 (State.gwSeq s tid seq) := by
  unfold State.gwSeq
  try dsimp only
  repeat' first
    | with_reducible (first
        | assumption | apply State.modTun_kept | apply State.raise_kept | apply State.bump_kept)
    | with_reducible intro _
    | dsimp only
    | split

theorem State.gwFlits_kept {r0 s : State} (tix : Nat) (sub : Nat) (framed : Bool) (y : List Byte) (hk : Kept r0 s) :
    Kept r0 (State.gwFlits s tix sub framed y) := by
  unfold State.gwFlits
  try dsimp only
  repeat' first
    | with_reducible (first
        | assumption | apply State.queueFlits_kept | apply State.xmiss_kept)
    | with_reducible intro _
    | dsimp only
    | split

theorem State.gwReceive_kept {r0 s : State} (b : List Byte) (hk : Kept r0 s) :
    Kept r0 (State.gwReceive s b) := by
  unfold State.gwReceive
  try dsimp only
  repeat' first
    | with_reducible (first
        | assumption | apply State.gwBad_kept | apply State.modTun_kept | apply State.gwSeq_kept | apply State.identFrame_kept
        | apply State.tunnelSend_kept | apply State.gwFlits_kept)
    | with_reducible intro _
    | dsimp only
    | split

theorem State.peStat_kept {r0 s : State} (hk : Kept r0 s) :
    Kept r0 (State.peStat s) := by
  unfold State.peStat
  try dsimp only
  repeat' first
    | with_reducible (first
        | assumption | apply State.wr_kept)
    | with_reducible intro _
    | dsimp only
    | split

theorem State.postedError_kept {r0 s : State} (tid : Nat) (cause : Nat) (status : Nat) (addr : Nat) (bytes : Nat) (time : Nat) (hk : Kept r0 s) :
    Kept r0 (State.postedError s tid cause status addr bytes time) := by
  unfold State.postedError
  try dsimp only
  repeat' first
    | with_reducible (first
        | assumption | apply State.bump_kept | apply State.raise_kept | apply State.modTun_kept | apply State.wr_kept | apply State.peStat_kept)
    | with_reducible intro _
    | dsimp only
    | split

end Sys2Proof.Machine
end

