-- ==== Sys2Proof/Laws/Kept/Cirrus.lean ====
section
/-! SUPPORT. What the operations of Machine/Cirrus.lean keep. -/
namespace Sys2Proof.Machine

theorem State.cirrusOut_kept {r0 s : State} (m : Msg) (hk : Kept r0 s) :
    Kept r0 (State.cirrusOut s m) := by
  unfold State.cirrusOut
  try dsimp only
  repeat' first
    | with_reducible (first
        | assumption | apply State.gwSend_kept | apply State.queueFlits_kept)
    | with_reducible intro _
    | dsimp only
    | split

theorem State.cirrusPost_kept {r0 s : State} (op : Nat) (dst : Nat) (body : List Byte) (hk : Kept r0 s) :
    Kept r0 (State.cirrusPost s op dst body) := by
  unfold State.cirrusPost
  try dsimp only
  repeat' first
    | with_reducible (first
        | assumption | apply State.cirrusOut_kept)
    | with_reducible intro _
    | dsimp only
    | split

theorem State.svcSend_kept {r0 s : State} (dst : Nat) (service : Nat) (content : List Byte) (hk : Kept r0 s) :
    Kept r0 (State.svcSend s dst service content) := by
  unfold State.svcSend
  try dsimp only
  repeat' first
    | with_reducible (first
        | assumption | apply State.cirrusPost_kept)
    | with_reducible intro _
    | dsimp only
    | split

theorem State.logPeWords_kept {r0 s : State} (w : List Byte) (hk : Kept r0 s) :
    Kept r0 (State.logPeWords s w) := by
  unfold State.logPeWords
  try dsimp only
  repeat' first
    | with_reducible (first
        | assumption | apply State.postedError_kept)
    | with_reducible intro _
    | dsimp only
    | split

theorem State.endpointSend_kept {r0 s : State} (x : Nat) (sub : Nat) (b : List Byte) (hk : Kept r0 s) :
    Kept r0 (State.endpointSend s x sub b) := by
  unfold State.endpointSend
  try dsimp only
  repeat' first
    | with_reducible (first
        | assumption | apply State.queueFlits_kept | apply State.xmiss_kept)
    | with_reducible intro _
    | dsimp only
    | split

theorem State.reportPresence_kept {r0 s : State} (hk : Kept r0 s) :
    Kept r0 (State.reportPresence s) := by
  unfold State.reportPresence
  try dsimp only
  repeat' first
    | with_reducible (first
        | assumption | apply State.setPresence_kept | apply State.svcSend_kept | apply State.modTun_kept | apply Kept.foldl)
    | with_reducible intro _
    | dsimp only
    | split

theorem State.reportChange_kept {r0 s : State} (hk : Kept r0 s) :
    Kept r0 (State.reportChange s) := by
  unfold State.reportChange
  try dsimp only
  repeat' first
    | with_reducible (first
        | assumption | apply State.reportPresence_kept)
    | with_reducible intro _
    | dsimp only
    | split

theorem State.reportDue_kept {r0 s : State} (hk : Kept r0 s) :
    Kept r0 (State.reportDue s) := by
  unfold State.reportDue
  try dsimp only
  repeat' first
    | with_reducible (first
        | assumption | apply State.modTun_kept)
    | with_reducible intro _
    | dsimp only
    | split

theorem State.presencePeriod_kept {r0 s : State} (hk : Kept r0 s) :
    Kept r0 (State.presencePeriod s) := by
  unfold State.presencePeriod
  try dsimp only
  repeat' first
    | with_reducible (first
        | assumption | apply State.reportPresence_kept | apply State.reportChange_kept)
    | with_reducible intro _
    | dsimp only
    | split

theorem State.timeSend_kept {r0 s : State} (p : Nat) (hk : Kept r0 s) :
    Kept r0 (State.timeSend s p) := by
  unfold State.timeSend
  try dsimp only
  repeat' first
    | with_reducible (first
        | assumption | apply State.svcSend_kept)
    | with_reducible intro _
    | dsimp only
    | split

theorem State.reportLoss_kept {r0 s : State} (p : Nat) (hk : Kept r0 s) :
    Kept r0 (State.reportLoss s p) := by
  unfold State.reportLoss
  try dsimp only
  repeat' first
    | with_reducible (first
        | assumption | apply State.svcSend_kept | apply Kept.foldl)
    | with_reducible intro _
    | dsimp only
    | split

end Sys2Proof.Machine
end

