-- ==== Sys2Proof/Laws/Kept/EventOps.lean ====
section
/-! SUPPORT. What the operations of Machine/EventOps.lean keep. -/
namespace Sys2Proof.Machine

theorem State.irqPulse_kept {r0 s : State} (hk : Kept r0 s) :
    Kept r0 (State.irqPulse s) := by
  unfold State.irqPulse
  try dsimp only
  repeat' first
    | with_reducible (first
        | assumption | apply State.modChip_kept | apply State.emit_kept)
    | with_reducible intro _
    | dsimp only
    | split

theorem State.notice_kept {r0 s : State} (m : EvMsg) (hk : Kept r0 s) :
    Kept r0 (State.notice s m) := by
  unfold State.notice
  try dsimp only
  repeat' first
    | with_reducible (first
        | assumption | apply State.cirrusPost_kept | apply State.irqPulse_kept)
    | with_reducible intro _
    | dsimp only
    | split

theorem State.eventArrive_kept {r0 s : State} (hk : Kept r0 s) :
    Kept r0 (State.eventArrive s) := by
  have e : ∀ f : EvMsg → EvMsg, Kept r0 (s.setEvq (s.evq.map f)) := fun f =>
    State.setEvq_kept _ hk fun i => by rw [List.length_map]; exact i.2.1
  unfold State.eventArrive
  repeat' first
    | with_reducible assumption
    | with_reducible apply State.notice_kept
    | exact e _
    | dsimp only
    | split

theorem State.eventsNormal_kept {r0 s : State} (hk : Kept r0 s) :
    Kept r0 (State.eventsNormal s) := by
  unfold State.eventsNormal
  try dsimp only
  repeat' first
    | with_reducible (first
        | assumption | apply State.wr_kept | apply State.notice_kept | apply Kept.foldl)
    | with_reducible intro _
    | dsimp only
    | split

theorem State.evqPop_kept {r0 s : State} (data : Nat) (hk : Kept r0 s) :
    Kept r0 (State.evqPop s data) := by
  have e : ∀ p : EvMsg → Bool, Kept r0 (s.setEvq (s.evq.filter p)) := fun p =>
    State.setEvq_kept _ hk fun i => Nat.le_trans (List.length_filter_le ..) i.2.1
  unfold State.evqPop
  repeat' first
    | with_reducible assumption
    | with_reducible apply State.answer_kept
    | with_reducible apply State.wr_kept
    | exact e _
    | dsimp only
    | split

theorem State.evuSrcWrite_kept {r0 s : State} (i : Nat) (data : Nat) (hk : Kept r0 s) :
    Kept r0 (State.evuSrcWrite s i data) := by
  unfold State.evuSrcWrite
  try dsimp only
  repeat' first
    | with_reducible (first
        | assumption | apply State.checked_kept | apply State.writeField_kept | apply State.answer_kept)
    | with_reducible intro _
    | dsimp only
    | split

theorem State.evuCtrlWrite_kept {r0 s : State} (data : Nat) (hk : Kept r0 s) :
    Kept r0 (State.evuCtrlWrite s data) :=
  State.writeReg_kept _ _ _ _ _ hk fun _ h => State.setEvq_kept _ h fun i => i.2.1

end Sys2Proof.Machine
end

