-- ==== Sys2Proof/Laws/Kept/MemCap.lean ====
section
/-! SUPPORT. What the operations of Machine/MemCap.lean keep. -/
namespace Sys2Proof.Machine

theorem State.capture_kept {r0 s : State} (m : Nat) (word : Nat) (synd : Nat) (scrub : Bool) (ue : Bool) (hk : Kept r0 s) :
    Kept r0 (State.capture s m word synd scrub ue) := by
  unfold State.capture
  try dsimp only
  repeat' first
    | with_reducible (first
        | assumption | apply State.wr_kept | apply State.bump_kept | apply State.drew_kept | apply State.setBit_kept)
    | with_reducible intro _
    | dsimp only
    | split

theorem State.memCe_kept {r0 s : State} (m : Nat) (word : Nat) (synd : Nat) (scrub : Bool) (hk : Kept r0 s) :
    Kept r0 (State.memCe s m word synd scrub) := by
  unfold State.memCe
  try dsimp only
  repeat' first
    | with_reducible (first
        | assumption | apply State.bump_kept | apply State.raiseOnce_kept | apply State.capture_kept | apply State.raise_kept | apply State.wr_kept)
    | with_reducible intro _
    | dsimp only
    | split

theorem State.memUe_kept {r0 s : State} (m : Nat) (word : Nat) (synd : Nat) (scrub : Bool) (hk : Kept r0 s) :
    Kept r0 (State.memUe s m word synd scrub) := by
  unfold State.memUe
  try dsimp only
  repeat' first
    | with_reducible (first
        | assumption | apply State.raise_kept | apply State.capture_kept)
    | with_reducible intro _
    | dsimp only
    | split

theorem State.bufferError_kept {r0 s : State} (b : Nat) (scrub : Bool) (ue : Bool) (hk : Kept r0 s) :
    Kept r0 (State.bufferError s b scrub ue) := by
  unfold State.bufferError
  try dsimp only
  repeat' first
    | with_reducible (first
        | assumption | apply State.drew_kept | apply State.memUe_kept | apply State.memCe_kept)
    | with_reducible intro _
    | dsimp only
    | split

end Sys2Proof.Machine
end

