-- ==== Sys2Proof/Laws/Kept/TmOps.lean ====
section
/-! SUPPORT. What the operations of Machine/TmOps.lean keep. -/
namespace Sys2Proof.Machine

theorem State.modTm_kept {r0 s : State} (f : Tm → Tm) (hk : Kept r0 s) :
    Kept r0 (State.modTm s f) := by
  unfold State.modTm
  try dsimp only
  repeat' first
    | with_reducible (first
        | assumption)
    | (with_reducible apply Kept.lit
       first
         | with_reducible (first
             | assumption)
         | split)
    | with_reducible intro _
    | dsimp only
    | split

theorem State.setNode_kept {r0 s : State} (j : Nat) (n : NodeRun) (hk : Kept r0 s) :
    Kept r0 (State.setNode s j n) := by
  unfold State.setNode
  try dsimp only
  repeat' first
    | with_reducible (first
        | assumption | apply State.modTm_kept)
    | with_reducible intro _
    | dsimp only
    | split

theorem State.setQueue_kept {r0 s : State} (q : Nat) (l : List Copy) (hk : Kept r0 s) :
    Kept r0 (State.setQueue s q l) := by
  unfold State.setQueue
  try dsimp only
  repeat' first
    | with_reducible (first
        | assumption | apply State.modSw_kept)
    | with_reducible intro _
    | dsimp only
    | split

theorem State.setEgress_kept {r0 s : State} (p : Nat) (l : List Copy) (hk : Kept r0 s) :
    Kept r0 (State.setEgress s p l) := by
  unfold State.setEgress
  try dsimp only
  repeat' first
    | with_reducible (first
        | assumption | apply State.modSw_kept)
    | with_reducible intro _
    | dsimp only
    | split

theorem State.catchUp_kept {r0 s : State} (l : List Nat) (hk : Kept r0 s) :
    Kept r0 (State.catchUp s l) := by
  unfold State.catchUp
  try dsimp only
  repeat' first
    | with_reducible (first
        | assumption | apply State.setNode_kept | apply Kept.foldl)
    | with_reducible intro _
    | dsimp only
    | split

theorem State.serveChild_kept {r0 s : State} (j : Nat) (n : Nat) (hk : Kept r0 s) :
    Kept r0 (State.serveChild s j n) := by
  unfold State.serveChild
  try dsimp only
  repeat' first
    | with_reducible (first
        | assumption | apply State.setNode_kept)
    | with_reducible intro _
    | dsimp only
    | split

theorem State.charge_kept {r0 s : State} (j : Nat) (n : Nat) (hk : Kept r0 s) :
    Kept r0 (State.charge s j n) := by
  unfold State.charge
  try dsimp only
  repeat' first
    | with_reducible (first
        | assumption | apply State.setNode_kept)
    | with_reducible intro _
    | dsimp only
    | split

theorem State.countNode_kept {r0 s : State} (j : Nat) (n : Nat) (hk : Kept r0 s) :
    Kept r0 (State.countNode s j n) := by
  unfold State.countNode
  try dsimp only
  repeat' first
    | with_reducible (first
        | assumption | apply State.wrap_kept | apply State.charge_kept)
    | with_reducible intro _
    | dsimp only
    | split

theorem State.selectAt_kept {r0 s : State} (p : Nat) (hk : Kept r0 s) :
    Kept r0 (State.selectAt s p) := by
  unfold State.selectAt
  try dsimp only
  repeat' first
    | with_reducible (first
        | assumption | apply State.catchUp_kept | apply State.serveChild_kept | apply State.countNode_kept | apply State.setEgress_kept
        | apply State.setQueue_kept)
    | with_reducible intro _
    | dsimp only
    | split

theorem State.selectCycle_kept {r0 s : State} (hk : Kept r0 s) :
    Kept r0 (State.selectCycle s) := by
  unfold State.selectCycle
  try dsimp only
  repeat' first
    | with_reducible (first
        | assumption | apply State.modTm_kept | apply State.selectAt_kept | apply Kept.foldl)
    | with_reducible intro _
    | dsimp only
    | split

theorem State.wake_kept {r0 s : State} (j : Nat) (hk : Kept r0 s) :
    Kept r0 (State.wake s j) := by
  unfold State.wake
  try dsimp only
  repeat' first
    | with_reducible (first
        | assumption | apply State.setNode_kept)
    | with_reducible intro _
    | dsimp only
    | split

theorem State.enqueueCopy_kept {r0 s : State} (q : Nat) (c : Copy) (hk : Kept r0 s) :
    Kept r0 (State.enqueueCopy s q c) := by
  unfold State.enqueueCopy
  try dsimp only
  repeat' first
    | with_reducible (first
        | assumption | apply State.wake_kept | apply State.setQueue_kept)
    | with_reducible intro _
    | dsimp only
    | split

theorem State.refillNode_kept {r0 s : State} (j : Nat) (hk : Kept r0 s) :
    Kept r0 (State.refillNode s j) := by
  unfold State.refillNode
  try dsimp only
  repeat' first
    | with_reducible (first
        | assumption | apply State.wr_kept | apply State.setNode_kept)
    | with_reducible intro _
    | dsimp only
    | split

theorem State.refillMeter_kept {r0 s : State} (m : Nat) (hk : Kept r0 s) :
    Kept r0 (State.refillMeter s m) := by
  unfold State.refillMeter
  try dsimp only
  repeat' first
    | with_reducible (first
        | assumption | apply State.modTm_kept)
    | with_reducible intro _
    | dsimp only
    | split

theorem State.meter_kept {r0 s : State} (m : Nat) (f : SwFrame) (hk : Kept r0 s) :
    Kept r0 (State.meter s m f).2 := by
  unfold State.meter
  try dsimp only
  repeat' first
    | with_reducible (first
        | assumption | apply State.modTm_kept | apply State.bump_kept)
    | with_reducible intro _
    | dsimp only
    | split

theorem State.meterDrop_kept {r0 s : State} (m : Nat) (k : Colour) (hk : Kept r0 s) :
    Kept r0 (State.meterDrop s m k) := by
  unfold State.meterDrop
  try dsimp only
  repeat' first
    | with_reducible (first
        | assumption | apply State.raiseOnce_kept | apply State.bump_kept)
    | with_reducible intro _
    | dsimp only
    | split

theorem State.checkParents_kept {r0 s : State} (l : List Nat) (hk : Kept r0 s) :
    Kept r0 (State.checkParents s l) := by
  unfold State.checkParents
  try dsimp only
  repeat' first
    | with_reducible (first
        | assumption | apply State.raise_kept | apply State.modTm_kept | apply State.wr_kept | apply State.setBit_kept | apply Kept.foldl)
    | with_reducible intro _
    | dsimp only
    | split

end Sys2Proof.Machine
end

