-- ==== Sys2Proof/Laws/Kept/SwitchFwd.lean ====
section
/-! SUPPORT. What the operations of Machine/SwitchFwd.lean keep. -/
namespace Sys2Proof.Machine

theorem State.dropPart_kept {r0 s : State} (k : Nat) (cause : Nat) (last : Bool) (a : RxPart) (hk : Kept r0 s) :
    Kept r0 (State.dropPart s k cause last a) := by
  unfold State.dropPart
  try dsimp only
  repeat' first
    | with_reducible (first
        | assumption | apply State.giveCredit_kept | apply State.freeCells_kept | apply State.swDrop_kept | apply State.modSw_kept)
    | with_reducible intro _
    | dsimp only
    | split

theorem State.openFlit_kept {r0 s : State} (k : Nat) (i : OpenIn) (a0 : RxPart) (hk : Kept r0 s) :
    Kept r0 (State.openFlit s k i a0) := by
  unfold State.openFlit
  try dsimp only
  repeat' first
    | with_reducible (first
        | assumption | apply State.dropPart_kept | apply State.raise_kept | apply State.takeCell_kept | apply State.modSw_kept
        | apply State.noteLastBank_kept | apply Kept.foldl)
    | with_reducible intro _
    | dsimp only
    | split

theorem State.openAllocate_kept {r0 s : State} (i : OpenIn) (hk : Kept r0 s) :
    Kept r0 (State.openAllocate s i) := by
  unfold State.openAllocate
  try dsimp only
  repeat' first
    | with_reducible (first
        | assumption | apply State.modSw_kept | apply State.dropPart_kept | apply State.openFlit_kept | apply State.giveCredit_kept
        | apply Kept.foldl)
    | with_reducible intro _
    | dsimp only
    | split

theorem State.frameAllocate_kept {r0 s : State} (p : Nat) (hk : Kept r0 s) :
    Kept r0 (State.frameAllocate s p) := by
  unfold State.frameAllocate
  try dsimp only
  repeat' first
    | with_reducible (first
        | assumption | apply State.modSw_kept | apply State.swDrop_kept | apply State.freeCells_kept | apply State.takeCell_kept
        | apply State.noteLastBank_kept)
    | with_reducible intro _
    | dsimp only
    | split

theorem State.cellAllocate_kept {r0 s : State} (p : Nat) (hk : Kept r0 s) :
    Kept r0 (State.cellAllocate s p) := by
  unfold State.cellAllocate
  try dsimp only
  repeat' first
    | with_reducible (first
        | assumption | apply State.openAllocate_kept | apply State.modSw_kept | apply State.frameAllocate_kept)
    | with_reducible intro _
    | dsimp only
    | split

theorem State.fdbCount_kept {r0 s : State} (hk : Kept r0 s) :
    Kept r0 (State.fdbCount s) := by
  unfold State.fdbCount
  try dsimp only
  repeat' first
    | with_reducible (first
        | assumption | apply State.setBit_kept | apply State.wr_kept)
    | with_reducible intro _
    | dsimp only
    | split

theorem State.setFdb_kept {r0 s : State} (k : Nat) (e : Option FdbEnt) (hk : Kept r0 s) :
    Kept r0 (State.setFdb s k e) := by
  unfold State.setFdb
  try dsimp only
  repeat' first
    | with_reducible (first
        | assumption | apply State.fdbCount_kept | apply State.modSw_kept)
    | with_reducible intro _
    | dsimp only
    | split

theorem State.learn_kept {r0 s : State} (f : SwFrame) (hk : Kept r0 s) :
    Kept r0 (State.learn s f) := by
  unfold State.learn
  try dsimp only
  repeat' first
    | with_reducible (first
        | assumption | apply State.setFdb_kept | apply State.bump_kept | apply State.raiseOnce_kept)
    | with_reducible intro _
    | dsimp only
    | split

theorem State.admitCopy_kept {r0 s : State} (no : Nat) (n : Nat) (q : Nat) (pcp : Nat) (dei : Bool) (hk : Kept r0 s) :
    Kept r0 (State.admitCopy s no n q pcp dei) := by
  unfold State.admitCopy
  try dsimp only
  repeat' first
    | with_reducible (first
        | assumption | apply State.wr_kept | apply State.modSw_kept | apply State.enqueueCopy_kept)
    | with_reducible intro _
    | dsimp only
    | split

theorem State.placeCopy_kept {r0 s : State} (no : Nat) (q : Nat) (pcp : Nat) (dei : Bool) (yellow : Bool) (hk : Kept r0 s) :
    Kept r0 (State.placeCopy s no q pcp dei yellow) := by
  unfold State.placeCopy
  try dsimp only
  repeat' first
    | with_reducible (first
        | assumption | apply State.swDrop_kept | apply State.admitCopy_kept)
    | with_reducible intro _
    | dsimp only
    | split

theorem State.colouredCopy_kept {r0 s : State} (no : Nat) (q : Nat) (m : Nat) (k : Option Colour) (hk : Kept r0 s) :
    Kept r0 (State.colouredCopy s no q m k) := by
  unfold State.colouredCopy
  try dsimp only
  repeat' first
    | with_reducible (first
        | assumption | apply State.placeCopy_kept | apply State.meterDrop_kept)
    | with_reducible intro _
    | dsimp only
    | split

theorem State.meteredCopies_kept {r0 s : State} (no : Nat) (queues : List Nat) (hk : Kept r0 s) :
    Kept r0 (State.meteredCopies s no queues) := by
  unfold State.meteredCopies
  try dsimp only
  repeat' first
    | with_reducible (first
        | assumption | apply State.meter_kept | apply State.colouredCopy_kept | apply Kept.foldl | apply Kept.foldlFst | apply Kept.foldlSnd)
    | with_reducible intro _
    | dsimp only
    | split

theorem State.madeCopies_kept {r0 s : State} (f : SwFrame) (queues : List Nat) (hk : Kept r0 s) :
    Kept r0 (State.madeCopies s f queues).2 := by
  unfold State.madeCopies
  try dsimp only
  repeat' first
    | with_reducible (first
        | assumption | apply State.bump_kept | apply Kept.foldl | apply Kept.foldlFst | apply Kept.foldlSnd)
    | with_reducible intro _
    | dsimp only
    | split

theorem State.frameDecide_kept {r0 s : State} (d : SwIn) (hk : Kept r0 s) :
    Kept r0 (State.frameDecide s d) := by
  unfold State.frameDecide
  try dsimp only
  repeat' first
    | with_reducible (first
        | assumption | apply State.swDrop_kept | apply State.freeFrame_kept | apply State.learn_kept | apply State.madeCopies_kept
        | apply State.modSw_kept | apply State.meteredCopies_kept | apply State.placeCopy_kept | apply Kept.foldl | apply Kept.foldlFst
        | apply Kept.foldlSnd)
    | with_reducible intro _
    | dsimp only
    | split

theorem State.frameComplete_kept {r0 s : State} (hk : Kept r0 s) :
    Kept r0 (State.frameComplete s) := by
  unfold State.frameComplete
  try dsimp only
  repeat' first
    | with_reducible (first
        | assumption | apply State.frameDecide_kept | apply State.modSw_kept)
    | with_reducible intro _
    | dsimp only
    | split

theorem State.spareBankCount_kept {r0 s : State} (hk : Kept r0 s) :
    Kept r0 (State.spareBankCount s) := by
  unfold State.spareBankCount
  try dsimp only
  repeat' first
    | with_reducible (first
        | assumption | apply State.wr_kept)
    | with_reducible intro _
    | dsimp only
    | split

theorem State.startCopy_kept {r0 s : State} (bank : Nat) (spare : Nat) (hk : Kept r0 s) :
    Kept r0 (State.startCopy s bank spare) := by
  unfold State.startCopy
  try dsimp only
  repeat' first
    | with_reducible (first
        | assumption | apply State.spareBankCount_kept | apply State.wr_kept | apply State.raise_kept | apply State.modSw_kept)
    | with_reducible intro _
    | dsimp only
    | split

theorem State.haltSwitch_kept {r0 s : State} (hk : Kept r0 s) :
    Kept r0 (State.haltSwitch s) := by
  unfold State.haltSwitch
  try dsimp only
  repeat' first
    | with_reducible (first
        | assumption | apply State.raise_kept | apply State.wr_kept | apply State.releaseCopy_kept | apply State.modSw_kept
        | apply State.swDrop_kept | apply State.freeFrame_kept | apply State.dropPart_kept | apply State.freeCells_kept | apply Kept.foldl)
    | with_reducible intro _
    | dsimp only
    | split

theorem State.retireBank_kept {r0 s : State} (bank : Nat) (hk : Kept r0 s) :
    Kept r0 (State.retireBank s bank) := by
  unfold State.retireBank
  try dsimp only
  repeat' first
    | with_reducible (first
        | assumption | apply State.haltSwitch_kept | apply State.wr_kept | apply State.raise_kept | apply State.recomputePool_kept
        | apply State.modSw_kept)
    | with_reducible intro _
    | dsimp only
    | split

theorem State.bankFailing_kept {r0 s : State} (bank : Nat) (hk : Kept r0 s) :
    Kept r0 (State.bankFailing s bank) := by
  unfold State.bankFailing
  try dsimp only
  repeat' first
    | with_reducible (first
        | assumption | apply State.modSw_kept | apply State.startCopy_kept | apply State.retireBank_kept)
    | with_reducible intro _
    | dsimp only
    | split

theorem State.nextBank_kept {r0 s : State} (fuel : Nat) (hk : Kept r0 s) :
    Kept r0 (State.nextBank s fuel) := by
  induction fuel generalizing s with
  | zero => exact hk
  | succ n ih =>
    unfold State.nextBank
    split
    · exact hk
    · have h := State.bankFailing_kept ‹Nat› (State.modSw_kept (fun w => { w with bankWait := ‹List Nat› }) hk)
      dsimp only
      split
      · exact h
      · exact ih h

theorem State.copyFails_kept {r0 s : State} (hk : Kept r0 s) :
    Kept r0 (State.copyFails s) := by
  unfold State.copyFails
  try dsimp only
  repeat' first
    | with_reducible (first
        | assumption | apply State.spareBankCount_kept | apply State.wr_kept | apply State.startCopy_kept | apply State.nextBank_kept
        | apply State.retireBank_kept)
    | with_reducible intro _
    | dsimp only
    | split

theorem State.copyDone_kept {r0 s : State} (hk : Kept r0 s) :
    Kept r0 (State.copyDone s) := by
  unfold State.copyDone
  try dsimp only
  repeat' first
    | with_reducible (first
        | assumption | apply State.raise_kept | apply State.wr_kept | apply State.nextBank_kept)
    | with_reducible intro _
    | dsimp only
    | split

theorem State.bankCe_kept {r0 s : State} (b : Nat) (scrub : Bool) (hk : Kept r0 s) :
    Kept r0 (State.bankCe s b scrub) := by
  unfold State.bankCe
  try dsimp only
  repeat' first
    | with_reducible (first
        | assumption | apply State.bufferError_kept | apply State.raiseOnce_kept | apply State.bump_kept)
    | with_reducible intro _
    | dsimp only
    | split

theorem State.bankUe_kept {r0 s : State} (bank : Nat) (addr : Nat) (scrub : Bool) (hk : Kept r0 s) :
    Kept r0 (State.bankUe s bank addr scrub) := by
  unfold State.bankUe
  try dsimp only
  repeat' first
    | with_reducible (first
        | assumption | apply State.bufferError_kept | apply State.raise_kept | apply State.bump_kept | apply State.bankFailing_kept)
    | with_reducible intro _
    | dsimp only
    | split

theorem State.bankCes_kept {r0 s : State} (l : List Nat) (scrub : Bool) (hk : Kept r0 s) :
    Kept r0 (State.bankCes s l scrub) := by
  unfold State.bankCes
  try dsimp only
  repeat' first
    | with_reducible (first
        | assumption | apply State.bankCe_kept | apply State.bankFailing_kept | apply Kept.foldl)
    | with_reducible intro _
    | dsimp only
    | split

end Sys2Proof.Machine
end

