-- ==== Sys2Proof/Laws/Kept/EthOps.lean ====
section
/-! SUPPORT. What the operations of Machine/EthOps.lean keep. -/
namespace Sys2Proof.Machine

theorem State.ethToSwitch_kept {r0 s : State} (k : Nat) (b : List Byte) (vid : Nat) (hk : Kept r0 s) :
    Kept r0 (State.ethToSwitch s k b vid) := by
  unfold State.ethToSwitch
  try dsimp only
  repeat' first
    | with_reducible (first
        | assumption | apply State.identFrame_kept | apply State.wrap_kept | apply State.swEnter_kept)
    | with_reducible intro _
    | dsimp only
    | split

theorem State.ethReceive_kept {r0 s : State} (k : Nat) (b : List Byte) (fcs : Bool) (t : Nat) (corr : Nat) (unc : Nat) (hk : Kept r0 s) :
    Kept r0 (State.ethReceive s k b fcs t corr unc) := by
  unfold State.ethReceive
  try dsimp only
  repeat' first
    | with_reducible (first
        | assumption | apply State.bump_kept | apply State.raiseOnce_kept | apply State.swDrop_kept | apply State.wrap_kept
        | apply State.gwReceive_kept | apply State.toNimbus_kept | apply State.emit_kept | apply State.ethToSwitch_kept)
    | with_reducible intro _
    | dsimp only
    | split

theorem State.txStamp_kept {r0 s : State} (k : Nat) (tag : Nat) (hk : Kept r0 s) :
    Kept r0 (State.txStamp s k tag) := by
  unfold State.txStamp
  try dsimp only
  repeat' first
    | with_reducible (first
        | assumption | apply State.drew_kept | apply State.wr_kept | apply State.raiseOnce_kept | apply State.bump_kept)
    | (with_reducible apply Kept.lit
       first
         | with_reducible (first
             | assumption | apply State.drew_kept | apply State.wr_kept | apply State.raiseOnce_kept | apply State.bump_kept)
         | split)
    | with_reducible intro _
    | dsimp only
    | split

theorem State.ethSend_kept {r0 s : State} (k : Nat) (b : List Byte) (ts : Option Nat) (hk : Kept r0 s) :
    Kept r0 (State.ethSend s k b ts) := by
  unfold State.ethSend
  try dsimp only
  repeat' first
    | with_reducible (first
        | assumption | apply State.emit_kept | apply State.wrap_kept | apply State.bump_kept | apply State.txStamp_kept)
    | with_reducible intro _
    | dsimp only
    | split

theorem State.ethUp_kept {r0 s : State} (k : Nat) (sp : Nat) (hk : Kept r0 s) :
    Kept r0 (State.ethUp s k sp) := by
  unfold State.ethUp
  try dsimp only
  repeat' first
    | with_reducible (first
        | assumption | apply State.wr_kept | apply State.setBit_kept | apply State.tell_kept | apply State.raise_kept)
    | with_reducible intro _
    | dsimp only
    | split

theorem State.ethDown_kept {r0 s : State} (k : Nat) (hk : Kept r0 s) :
    Kept r0 (State.ethDown s k) := by
  unfold State.ethDown
  try dsimp only
  repeat' first
    | with_reducible (first
        | assumption | apply State.wr_kept | apply State.portDownDiscard_kept | apply State.raise_kept | apply State.tell_kept
        | apply State.safeLatch_kept)
    | with_reducible intro _
    | dsimp only
    | split

theorem State.sendCopy_kept {r0 s : State} (p : Nat) (f : SwFrame) (c : Copy) (hk : Kept r0 s) :
    Kept r0 (State.sendCopy s p f c) := by
  unfold State.sendCopy
  try dsimp only
  repeat' first
    | with_reducible (first
        | assumption | apply State.modLk_kept | apply State.ethSend_kept | apply State.emit_kept | apply State.toNimbus_kept
        | apply State.gwSend_kept)
    | with_reducible intro _
    | dsimp only
    | split

theorem State.egressRead_kept {r0 s : State} (p : Nat) (ce : List Nat) (ue : Option (Nat × Nat)) (hk : Kept r0 s) :
    Kept r0 (State.egressRead s p ce ue) := by
  unfold State.egressRead
  try dsimp only
  repeat' first
    | with_reducible (first
        | assumption | apply State.bankCes_kept | apply State.setEgress_kept | apply State.bankUe_kept | apply State.swDrop_kept
        | apply State.releaseCopy_kept | apply State.sendCopy_kept)
    | with_reducible intro _
    | dsimp only
    | split

theorem State.txtsPop_kept {r0 s : State} (k : Nat) (data : Nat) (hk : Kept r0 s) :
    Kept r0 (State.txtsPop s k data) := by
  unfold State.txtsPop
  try dsimp only
  repeat' first
    | with_reducible (first
        | assumption | apply State.writeReg_kept | apply State.wr_kept)
    | (with_reducible apply Kept.lit
       first
         | with_reducible (first
             | assumption | apply State.writeReg_kept | apply State.wr_kept)
         | split)
    | with_reducible intro _
    | dsimp only
    | split

theorem State.timeStep_kept {r0 s : State} (data : Nat) (hk : Kept r0 s) :
    Kept r0 (State.timeStep s data) := by
  unfold State.timeStep
  try dsimp only
  repeat' first
    | with_reducible (first
        | assumption | apply State.writeReg_kept | apply State.modTsu_kept | apply State.wr_kept)
    | with_reducible intro _
    | dsimp only
    | split

theorem State.rateWrite_kept {r0 s : State} (data : Nat) (hk : Kept r0 s) :
    Kept r0 (State.rateWrite s data) := by
  unfold State.rateWrite
  try dsimp only
  repeat' first
    | with_reducible (first
        | assumption | apply State.writeReg_kept | apply State.modTsu_kept)
    | with_reducible intro _
    | dsimp only
    | split

theorem State.stepApply_kept {r0 s : State} (hk : Kept r0 s) :
    Kept r0 (State.stepApply s) := by
  unfold State.stepApply
  try dsimp only
  repeat' first
    | with_reducible (first
        | assumption | apply State.wr_kept | apply State.modTsu_kept)
    | (with_reducible apply Kept.lit
       first
         | with_reducible (first
             | assumption | apply State.wr_kept | apply State.modTsu_kept)
         | split)
    | with_reducible intro _
    | dsimp only
    | split

theorem State.setDelay_kept {r0 s : State} (v : Nat) (hk : Kept r0 s) :
    Kept r0 (State.setDelay s v) := by
  unfold State.setDelay
  try dsimp only
  repeat' first
    | with_reducible (first
        | assumption | apply State.tsuValid_kept | apply State.modTsu_kept | apply State.wr_kept)
    | with_reducible intro _
    | dsimp only
    | split

theorem State.tsuHoldover_kept {r0 s : State} (hk : Kept r0 s) :
    Kept r0 (State.tsuHoldover s) := by
  unfold State.tsuHoldover
  try dsimp only
  repeat' first
    | with_reducible (first
        | assumption | apply State.raise_kept | apply State.wr_kept | apply State.modTsu_kept)
    | with_reducible intro _
    | dsimp only
    | split

end Sys2Proof.Machine
end

