-- ==== Sys2Proof/Laws/Kept/FieldSide.lean ====
section
/-! SUPPORT. What the operations of Machine/FieldSide.lean keep. -/
namespace Sys2Proof.Machine

theorem State.modFld_kept {r0 s : State} (f : Fld → Fld) (hk : Kept r0 s) :
    Kept r0 (State.modFld s f) := by
  unfold State.modFld
  try dsimp only
  repeat' first
    | with_reducible (first
        | assumption)
    | (with_reducible apply Kept.lit
       first
         | with_reducible (first
             | assumption)
         | split)
    | with_reducible intro _
    | dsimp only
    | split

theorem State.segRefresh_kept {r0 s : State} (g : Nat) (hk : Kept r0 s) :
    Kept r0 (State.segRefresh s g) := by
  unfold State.segRefresh
  try dsimp only
  repeat' first
    | with_reducible (first
        | assumption | apply State.portDownDiscard_kept | apply State.wr_kept | apply State.setBit_kept)
    | with_reducible intro _
    | dsimp only
    | split

theorem State.stranger_kept {r0 s : State} (g : Nat) (opp : Nat) (b : List Byte) (hk : Kept r0 s) :
    Kept r0 (State.stranger s g opp b) := by
  unfold State.stranger
  try dsimp only
  repeat' first
    | with_reducible (first
        | assumption | apply State.raiseOnce_kept | apply State.swDrop_kept | apply State.bump_kept | apply State.modFld_kept)
    | with_reducible intro _
    | dsimp only
    | split

theorem State.writeCyclic_kept {r0 s : State} (n : Nat) (count : Nat) (y : List Byte) (q : Nat) (hk : Kept r0 s) :
    Kept r0 (State.writeCyclic s n count y q) := by
  unfold State.writeCyclic
  try dsimp only
  repeat' first
    | with_reducible (first
        | assumption | apply State.producePoint_kept | apply Kept.foldl)
    | with_reducible intro _
    | dsimp only
    | split

theorem State.cyclic_kept {r0 s : State} (g : Nat) (e : Nat) (y : List Byte) (hk : Kept r0 s) :
    Kept r0 (State.cyclic s g e y) := by
  unfold State.cyclic
  try dsimp only
  repeat' first
    | with_reducible (first
        | assumption | apply State.modFld_kept | apply State.wrap_kept | apply State.bump_kept | apply State.writeCyclic_kept)
    | with_reducible intro _
    | dsimp only
    | split

theorem State.fsReceive_kept {r0 s : State} (g : Nat) (b : List Byte) (fcs : Bool) (opp : Nat) (hk : Kept r0 s) :
    Kept r0 (State.fsReceive s g b fcs opp) := by
  unfold State.fsReceive
  try dsimp only
  repeat' first
    | with_reducible (first
        | assumption | apply State.swDrop_kept | apply State.stranger_kept | apply State.cyclic_kept | apply State.identFrame_kept
        | apply State.wrap_kept)
    | with_reducible intro _
    | dsimp only
    | split

theorem execFsFrameReceive_kept {r0 s : State} (g : Fin 4) (frame : List Byte) (fcsOk : Bool) (opp : Fin 32) (hk : Kept r0 s) : ∀ s1, execFsFrameReceive g frame fcsOk opp s = .next s1 → Kept r0 s1 := by
  intro s1 e; unfold execFsFrameReceive at e; injection e with e; subst e
  try dsimp only
  repeat' first
    | with_reducible (first
        | assumption | apply State.fsReceive_kept)
    | with_reducible intro _
    | dsimp only
    | split

theorem State.plcaCollision_kept {r0 s : State} (g : Nat) (node : Nat) (hk : Kept r0 s) :
    Kept r0 (State.plcaCollision s g node) := by
  unfold State.plcaCollision
  try dsimp only
  repeat' first
    | with_reducible (first
        | assumption | apply State.raiseOnce_kept | apply State.wr_kept | apply State.bump_kept)
    | with_reducible intro _
    | dsimp only
    | split

theorem State.segNoise_kept {r0 s : State} (g : Nat) (noise : Nat) (coll : Nat) (plca : List Nat) (hk : Kept r0 s) :
    Kept r0 (State.segNoise s g noise coll plca) := by
  unfold State.segNoise
  try dsimp only
  repeat' first
    | with_reducible (first
        | assumption | apply State.bump_kept | apply State.plcaCollision_kept | apply State.raise_kept | apply State.modFld_kept | apply Kept.foldl)
    | with_reducible intro _
    | dsimp only
    | split

theorem execSegNoise_kept {r0 s : State} (g : Fin 4) (noise : Nat) (coll : Nat) (plca : List (Fin 32)) (hk : Kept r0 s) : ∀ s1, execSegNoise g noise coll plca s = .next s1 → Kept r0 s1 := by
  intro s1 e; unfold execSegNoise at e; injection e with e; subst e
  try dsimp only
  repeat' first
    | with_reducible (first
        | assumption | apply State.segNoise_kept)
    | with_reducible intro _
    | dsimp only
    | split

theorem State.dropTimeout_kept {r0 s : State} (e : Nat) (hk : Kept r0 s) :
    Kept r0 (State.dropTimeout s e) := by
  unfold State.dropTimeout
  try dsimp only
  repeat' first
    | with_reducible (first
        | assumption | apply State.raise_kept | apply State.setQuality_kept | apply State.modFld_kept)
    | with_reducible intro _
    | dsimp only
    | split

theorem execDropTimeout_kept {r0 s : State} (e : Fin 256) (hk : Kept r0 s) : ∀ s1, execDropTimeout e s = .next s1 → Kept r0 s1 := by
  intro s1 e; unfold execDropTimeout at e; injection e with e; subst e
  try dsimp only
  repeat' first
    | with_reducible (first
        | assumption | apply State.dropTimeout_kept)
    | with_reducible intro _
    | dsimp only
    | split

theorem State.lineFault_kept {r0 s : State} (g : Nat) (hk : Kept r0 s) :
    Kept r0 (State.lineFault s g) := by
  unfold State.lineFault
  try dsimp only
  repeat' first
    | with_reducible (first
        | assumption | apply State.segRefresh_kept | apply State.raise_kept | apply State.modFld_kept | apply State.wr_kept)
    | with_reducible intro _
    | dsimp only
    | split

theorem execLineFault_kept {r0 s : State} (g : Fin 4) (hk : Kept r0 s) : ∀ s1, execLineFault g s = .next s1 → Kept r0 s1 := by
  intro s1 e; unfold execLineFault at e; injection e with e; subst e
  try dsimp only
  repeat' first
    | with_reducible (first
        | assumption | apply State.lineFault_kept)
    | with_reducible intro _
    | dsimp only
    | split

theorem State.lineProbe_kept {r0 s : State} (g : Nat) (clean : Bool) (hk : Kept r0 s) :
    Kept r0 (State.lineProbe s g clean) := by
  unfold State.lineProbe
  try dsimp only
  repeat' first
    | with_reducible (first
        | assumption | apply State.emit_kept | apply State.segRefresh_kept | apply State.modFld_kept | apply State.wr_kept)
    | with_reducible intro _
    | dsimp only
    | split

theorem execLineProbe_kept {r0 s : State} (g : Fin 4) (clean : Bool) (hk : Kept r0 s) : ∀ s1, execLineProbe g clean s = .next s1 → Kept r0 s1 := by
  intro s1 e; unfold execLineProbe at e; injection e with e; subst e
  try dsimp only
  repeat' first
    | with_reducible (first
        | assumption | apply State.lineProbe_kept)
    | with_reducible intro _
    | dsimp only
    | split

theorem State.setDi_kept {r0 s : State} (i : Nat) (d : DiRun) (hk : Kept r0 s) :
    Kept r0 (State.setDi s i d) := by
  unfold State.setDi
  try dsimp only
  repeat' first
    | with_reducible (first
        | assumption | apply State.modFld_kept)
    | with_reducible intro _
    | dsimp only
    | split

theorem State.diWrite_kept {r0 s : State} (i : Nat) (hk : Kept r0 s) :
    Kept r0 (State.diWrite s i) := by
  unfold State.diWrite
  try dsimp only
  repeat' first
    | with_reducible (first
        | assumption | apply State.producePoint_kept)
    | with_reducible intro _
    | dsimp only
    | split

theorem State.requalifyInputs_kept {r0 s : State} (hk : Kept r0 s) :
    Kept r0 (State.requalifyInputs s) := by
  unfold State.requalifyInputs
  try dsimp only
  repeat' first
    | with_reducible (first
        | assumption | apply State.diWrite_kept | apply Kept.foldl)
    | with_reducible intro _
    | dsimp only
    | split

theorem State.tsPush_kept {r0 s : State} (e : TsEnt) (hk : Kept r0 s) :
    Kept r0 (State.tsPush s e) := by
  unfold State.tsPush
  try dsimp only
  repeat' first
    | with_reducible (first
        | assumption | apply State.wr_kept | apply State.modFld_kept | apply State.raiseOnce_kept | apply State.bump_kept)
    | with_reducible intro _
    | dsimp only
    | split

theorem State.diEdge_kept {r0 s : State} (i : Nat) (level : Bool) (t : Nat) (hk : Kept r0 s) :
    Kept r0 (State.diEdge s i level t) := by
  unfold State.diEdge
  try dsimp only
  repeat' first
    | with_reducible (first
        | assumption | apply State.setBit_kept | apply State.setDi_kept)
    | with_reducible intro _
    | dsimp only
    | split

theorem execDiEdge_kept {r0 s : State} (i : Fin 16) (level : Bool) (time : Nat) (hk : Kept r0 s) : ∀ s1, execDiEdge i level time s = .next s1 → Kept r0 s1 := by
  intro s1 e; unfold execDiEdge at e; injection e with e; subst e
  try dsimp only
  repeat' first
    | with_reducible (first
        | assumption | apply State.diEdge_kept)
    | with_reducible intro _
    | dsimp only
    | split

theorem State.diCount_kept {r0 s : State} (i : Nat) (level : Bool) (clear : Bool) (edge : Nat) (hk : Kept r0 s) :
    Kept r0 (State.diCount s i level clear edge) := by
  unfold State.diCount
  try dsimp only
  repeat' first
    | with_reducible (first
        | assumption | apply State.tsPush_kept | apply State.diWrite_kept | apply State.setDi_kept)
    | with_reducible intro _
    | dsimp only
    | split

theorem State.chatterEnter_kept {r0 s : State} (i : Nat) (hk : Kept r0 s) :
    Kept r0 (State.chatterEnter s i) := by
  unfold State.chatterEnter
  try dsimp only
  repeat' first
    | with_reducible (first
        | assumption | apply State.setDi_kept | apply State.raise_kept | apply State.diWrite_kept | apply State.wr_kept)
    | with_reducible intro _
    | dsimp only
    | split

theorem State.diAccept_kept {r0 s : State} (i : Nat) (now : Nat) (hk : Kept r0 s) :
    Kept r0 (State.diAccept s i now) := by
  unfold State.diAccept
  try dsimp only
  repeat' first
    | with_reducible (first
        | assumption | apply State.setBit_kept | apply State.wr_kept | apply State.setDi_kept | apply State.chatterEnter_kept
        | apply State.diCount_kept)
    | with_reducible intro _
    | dsimp only
    | split

theorem execDiAccept_kept {r0 s : State} (i : Fin 16) (now : Nat) (hk : Kept r0 s) : ∀ s1, execDiAccept i now s = .next s1 → Kept r0 s1 := by
  intro s1 e; unfold execDiAccept at e; injection e with e; subst e
  try dsimp only
  repeat' first
    | with_reducible (first
        | assumption | apply State.diAccept_kept)
    | with_reducible intro _
    | dsimp only
    | split

theorem State.chatterEnd_kept {r0 s : State} (i : Nat) (hk : Kept r0 s) :
    Kept r0 (State.chatterEnd s i) := by
  unfold State.chatterEnd
  try dsimp only
  repeat' first
    | with_reducible (first
        | assumption | apply State.wr_kept | apply State.setBit_kept | apply State.setDi_kept | apply State.diCount_kept | apply State.diWrite_kept)
    | with_reducible intro _
    | dsimp only
    | split

theorem execChatterEnd_kept {r0 s : State} (i : Fin 16) (hk : Kept r0 s) : ∀ s1, execChatterEnd i s = .next s1 → Kept r0 s1 := by
  intro s1 e; unfold execChatterEnd at e; injection e with e; subst e
  try dsimp only
  repeat' first
    | with_reducible (first
        | assumption | apply State.chatterEnd_kept)
    | with_reducible intro _
    | dsimp only
    | split

theorem State.diStuck_kept {r0 s : State} (i : Nat) (hk : Kept r0 s) :
    Kept r0 (State.diStuck s i) := by
  unfold State.diStuck
  try dsimp only
  repeat' first
    | with_reducible (first
        | assumption | apply State.raise_kept | apply State.diWrite_kept | apply State.wr_kept)
    | with_reducible intro _
    | dsimp only
    | split

theorem execDiStuck_kept {r0 s : State} (i : Fin 16) (hk : Kept r0 s) : ∀ s1, execDiStuck i s = .next s1 → Kept r0 s1 := by
  intro s1 e; unfold execDiStuck at e; injection e with e; subst e
  try dsimp only
  repeat' first
    | with_reducible (first
        | assumption | apply State.diStuck_kept)
    | with_reducible intro _
    | dsimp only
    | split

theorem State.fieldLow_kept {r0 s : State} (hk : Kept r0 s) :
    Kept r0 (State.fieldLow s) := by
  unfold State.fieldLow
  try dsimp only
  repeat' first
    | with_reducible (first
        | assumption | apply State.raise_kept | apply State.requalifyInputs_kept | apply State.wr_kept)
    | with_reducible intro _
    | dsimp only
    | split

theorem execFieldLow_kept {r0 s : State} (hk : Kept r0 s) : ∀ s1, execFieldLow s = .next s1 → Kept r0 s1 := by
  intro s1 e; unfold execFieldLow at e; injection e with e; subst e
  try dsimp only
  repeat' first
    | with_reducible (first
        | assumption | apply State.fieldLow_kept)
    | with_reducible intro _
    | dsimp only
    | split

theorem State.fieldReturn_kept {r0 s : State} (t : Nat) (hk : Kept r0 s) :
    Kept r0 (State.fieldReturn s t) := by
  unfold State.fieldReturn
  try dsimp only
  repeat' first
    | with_reducible (first
        | assumption | apply State.requalifyInputs_kept | apply State.wr_kept | apply State.setDi_kept | apply Kept.foldl)
    | with_reducible intro _
    | dsimp only
    | split

theorem execFieldOkReturn_kept {r0 s : State} (time : Nat) (hk : Kept r0 s) : ∀ s1, execFieldOkReturn time s = .next s1 → Kept r0 s1 := by
  intro s1 e; unfold execFieldOkReturn at e; injection e with e; subst e
  try dsimp only
  repeat' first
    | with_reducible (first
        | assumption | apply State.fieldReturn_kept)
    | with_reducible intro _
    | dsimp only
    | split

theorem State.tsPop_kept {r0 s : State} (data : Nat) (hk : Kept r0 s) :
    Kept r0 (State.tsPop s data) := by
  unfold State.tsPop
  try dsimp only
  repeat' first
    | with_reducible (first
        | assumption | apply State.writeReg_kept | apply State.wr_kept | apply State.modFld_kept | apply State.setBit_kept)
    | with_reducible intro _
    | dsimp only
    | split

theorem execTsPop_kept {r0 s : State} (data : Word) (hk : Kept r0 s) : ∀ s1, execTsPop data s = .next s1 → Kept r0 s1 := by
  intro s1 e; unfold execTsPop at e; injection e with e; subst e
  try dsimp only
  repeat' first
    | with_reducible (first
        | assumption | apply State.access_kept | apply State.tsPop_kept)
    | with_reducible intro _
    | dsimp only
    | split

theorem State.pointWrite_kept {r0 s : State} (n : Nat) (data : Nat) (hk : Kept r0 s) :
    Kept r0 (State.pointWrite s n data) := by
  unfold State.pointWrite
  try dsimp only
  repeat' first
    | with_reducible (first
        | assumption | apply State.checked_kept | apply State.answer_kept | apply State.setPoint_kept)
    | with_reducible intro _
    | dsimp only
    | split

theorem execPointWrite_kept {r0 s : State} (n : Fin 4096) (data : Word) (hk : Kept r0 s) : ∀ s1, execPointWrite n data s = .next s1 → Kept r0 s1 := by
  intro s1 e; unfold execPointWrite at e; injection e with e; subst e
  try dsimp only
  repeat' first
    | with_reducible (first
        | assumption | apply State.access_kept | apply State.pointWrite_kept)
    | with_reducible intro _
    | dsimp only
    | split

theorem State.kick_kept {r0 s : State} (hk : Kept r0 s) :
    Kept r0 (State.kick s) := by
  unfold State.kick
  try dsimp only
  repeat' first
    | with_reducible (first
        | assumption | apply State.modFld_kept)
    | with_reducible intro _
    | dsimp only
    | split

theorem State.outputKick_kept {r0 s : State} (data : Nat) (hk : Kept r0 s) :
    Kept r0 (State.outputKick s data) := by
  unfold State.outputKick
  try dsimp only
  repeat' first
    | with_reducible (first
        | assumption | apply State.checked_kept | apply State.answer_kept | apply State.kick_kept)
    | with_reducible intro _
    | dsimp only
    | split

theorem execOutputWdKick_kept {r0 s : State} (data : Word) (hk : Kept r0 s) : ∀ s1, execOutputWdKick data s = .next s1 → Kept r0 s1 := by
  intro s1 e; unfold execOutputWdKick at e; injection e with e; subst e
  try dsimp only
  repeat' first
    | with_reducible (first
        | assumption | apply State.access_kept | apply State.outputKick_kept)
    | with_reducible intro _
    | dsimp only
    | split

theorem execOutputWdLapse_kept {r0 s : State} (hk : Kept r0 s) : ∀ s1, execOutputWdLapse s = .next s1 → Kept r0 s1 := by
  intro s1 e; unfold execOutputWdLapse at e; injection e with e; subst e
  try dsimp only
  repeat' first
    | with_reducible (first
        | assumption | apply State.safeLatch_kept | apply State.modFld_kept)
    | with_reducible intro _
    | dsimp only
    | split

theorem execD2dFrameTimeout_kept {r0 s : State} (hk : Kept r0 s) : ∀ s1, execD2dFrameTimeout s = .next s1 → Kept r0 s1 := by
  intro s1 e; unfold execD2dFrameTimeout at e; injection e with e; subst e
  try dsimp only
  repeat' first
    | with_reducible (first
        | assumption | apply State.safeLatch_kept)
    | with_reducible intro _
    | dsimp only
    | split

theorem State.armOutputs_kept {r0 s : State} (hk : Kept r0 s) :
    Kept r0 (State.armOutputs s) := by
  unfold State.armOutputs
  try dsimp only
  repeat' first
    | with_reducible (first
        | assumption | apply State.refreshOutputs_kept | apply State.wr_kept)
    | with_reducible intro _
    | dsimp only
    | split

theorem State.octrlWrite_kept {r0 s : State} (data : Nat) (hk : Kept r0 s) :
    Kept r0 (State.octrlWrite s data) := by
  unfold State.octrlWrite
  try dsimp only
  repeat' first
    | with_reducible (first
        | assumption | apply State.writeReg_kept | apply State.writeFields_kept | apply State.armOutputs_kept)
    | with_reducible intro _
    | dsimp only
    | split

theorem execArm_kept {r0 s : State} (data : Word) (hk : Kept r0 s) : ∀ s1, execArm data s = .next s1 → Kept r0 s1 := by
  intro s1 e; unfold execArm at e; injection e with e; subst e
  try dsimp only
  repeat' first
    | with_reducible (first
        | assumption | apply State.access_kept | apply State.octrlWrite_kept)
    | with_reducible intro _
    | dsimp only
    | split

theorem execAutoarm_kept {r0 s : State} (hk : Kept r0 s) : ∀ s1, execAutoarm s = .next s1 → Kept r0 s1 := by
  intro s1 e; unfold execAutoarm at e; injection e with e; subst e
  try dsimp only
  repeat' first
    | with_reducible (first
        | assumption | apply State.armOutputs_kept)
    | with_reducible intro _
    | dsimp only
    | split

end Sys2Proof.Machine
end

