-- ==== Sys2Proof/Laws/Kept/PowerOps.lean ====
section
/-! SUPPORT. What the operations of Machine/PowerOps.lean keep. -/
namespace Sys2Proof.Machine

theorem State.setPw_kept {r0 s : State} (p : Pw) (hk : Kept r0 s) :
    Kept r0 (State.setPw s p) := by
  unfold State.setPw
  try dsimp only
  repeat' first
    | with_reducible (first
        | assumption)
    | (with_reducible apply Kept.lit
       first
         | with_reducible (first
             | assumption)
         | split)
    | with_reducible intro _
    | dsimp only
    | split

theorem State.modPw_kept {r0 s : State} (f : Pw → Pw) (hk : Kept r0 s) :
    Kept r0 (State.modPw s f) := by
  unfold State.modPw
  try dsimp only
  repeat' first
    | with_reducible (first
        | assumption | apply State.setPw_kept)
    | with_reducible intro _
    | dsimp only
    | split

theorem State.modEf_kept {r0 s : State} (c : Nat) (f : Ef → Ef) (hk : Kept r0 s) :
    Kept r0 (State.modEf s c f) := by
  unfold State.modEf
  try dsimp only
  repeat' first
    | with_reducible (first
        | assumption | apply State.modPw_kept)
    | with_reducible intro _
    | dsimp only
    | split

theorem State.setPg_kept {r0 s : State} (c : Nat) (on : Bool) (hk : Kept r0 s) :
    Kept r0 (State.setPg s c on) := by
  unfold State.setPg
  try dsimp only
  repeat' first
    | with_reducible (first
        | assumption | apply State.raise_kept | apply State.setBit_kept)
    | with_reducible intro _
    | dsimp only
    | split

theorem State.efOff_kept {r0 s : State} (c : Nat) (st : Nat) (hk : Kept r0 s) :
    Kept r0 (State.efOff s c st) := by
  unfold State.efOff
  try dsimp only
  repeat' first
    | with_reducible (first
        | assumption | apply State.setPg_kept | apply State.wr_kept | apply State.emit_kept)
    | with_reducible intro _
    | dsimp only
    | split

theorem State.efRefresh_kept {r0 s : State} (c : Nat) (hk : Kept r0 s) :
    Kept r0 (State.efRefresh s c) := by
  unfold State.efRefresh
  try dsimp only
  repeat' first
    | with_reducible (first
        | assumption | apply State.emit_kept | apply State.wr_kept | apply State.modEf_kept | apply State.efOff_kept)
    | with_reducible intro _
    | dsimp only
    | split

theorem State.efRefreshAll_kept {r0 s : State} (hk : Kept r0 s) :
    Kept r0 (State.efRefreshAll s) := by
  unfold State.efRefreshAll
  try dsimp only
  repeat' first
    | with_reducible (first
        | assumption | apply State.efRefresh_kept | apply Kept.foldl)
    | with_reducible intro _
    | dsimp only
    | split

theorem State.efTrip_kept {r0 s : State} (c : Nat) (cause : Nat) (hk : Kept r0 s) :
    Kept r0 (State.efTrip s c cause) := by
  unfold State.efTrip
  try dsimp only
  repeat' first
    | with_reducible (first
        | assumption | apply State.bump_kept | apply State.wr_kept | apply State.efOff_kept | apply State.raise_kept)
    | with_reducible intro _
    | dsimp only
    | split

theorem State.inputStart_kept {r0 s : State} (hk : Kept r0 s) :
    Kept r0 (State.inputStart s) := by
  unfold State.inputStart
  try dsimp only
  repeat' first
    | with_reducible (first
        | assumption | apply State.emit_kept | apply State.modPw_kept)
    | with_reducible intro _
    | dsimp only
    | split

theorem State.inputOff_kept {r0 s : State} (hk : Kept r0 s) :
    Kept r0 (State.inputOff s) := by
  unfold State.inputOff
  try dsimp only
  repeat' first
    | with_reducible (first
        | assumption | apply State.efRefreshAll_kept | apply State.wr_kept | apply State.modPw_kept | apply State.emit_kept)
    | with_reducible intro _
    | dsimp only
    | split

theorem State.inputFail_kept {r0 s : State} (cause : Nat) (hk : Kept r0 s) :
    Kept r0 (State.inputFail s cause) := by
  unfold State.inputFail
  try dsimp only
  repeat' first
    | with_reducible (first
        | assumption | apply State.inputOff_kept | apply State.raise_kept | apply State.wr_kept | apply State.modPw_kept)
    | with_reducible intro _
    | dsimp only
    | split

theorem State.setFet_kept {r0 s : State} (f : Nat) (on : Bool) (hk : Kept r0 s) :
    Kept r0 (State.setFet s f on) := by
  unfold State.setFet
  try dsimp only
  repeat' first
    | with_reducible (first
        | assumption | apply State.emit_kept | apply State.setBit_kept)
    | with_reducible intro _
    | dsimp only
    | split

theorem State.feedDrop_kept {r0 s : State} (f : Nat) (hk : Kept r0 s) :
    Kept r0 (State.feedDrop s f) := by
  unfold State.feedDrop
  try dsimp only
  repeat' first
    | with_reducible (first
        | assumption | apply State.setFet_kept | apply State.raise_kept | apply State.wr_kept | apply State.inputOff_kept)
    | with_reducible intro _
    | dsimp only
    | split

theorem State.pwpReset_kept {r0 s : State} (hk : Kept r0 s) :
    Kept r0 (State.pwpReset s) := by
  unfold State.pwpReset
  try dsimp only
  repeat' first
    | with_reducible (first
        | assumption | apply State.toReset_kept | apply Kept.foldl)
    | with_reducible intro _
    | dsimp only
    | split

theorem State.pwpPower_kept {r0 s : State} (on : Bool) (hk : Kept r0 s) :
    Kept r0 (State.pwpPower s on) := by
  unfold State.pwpPower
  try dsimp only
  repeat' first
    | with_reducible (first
        | assumption | apply State.setPw_kept | apply State.pwpReset_kept)
    | with_reducible intro _
    | dsimp only
    | split

theorem State.pwpAccess_kept {r0 s : State} (f : State → State) (hk : Kept r0 s) (hf : ∀ t, Kept r0 t → Kept r0 (f t)) :
    Kept r0 (State.pwpAccess s f) := by
  unfold State.pwpAccess
  try dsimp only
  repeat' first
    | with_reducible (first
        | assumption | apply hf | apply State.answer_kept)
    | with_reducible intro _
    | dsimp only
    | split

theorem State.efctlAfter_kept {r0 s : State} (c : Nat) (hk : Kept r0 s) :
    Kept r0 (State.efctlAfter s c) := by
  unfold State.efctlAfter
  try dsimp only
  repeat' first
    | with_reducible (first
        | assumption | apply State.wr_kept | apply State.efRefresh_kept)
    | with_reducible intro _
    | dsimp only
    | split

theorem State.efSample_kept {r0 s : State} (c : Nat) (volt : Nat) (cur : Int) (lim : Bool) (hk : Kept r0 s) :
    Kept r0 (State.efSample s c volt cur lim) := by
  unfold State.efSample
  try dsimp only
  repeat' first
    | with_reducible (first
        | assumption | apply State.modEf_kept | apply State.setBit_kept | apply State.wr_kept | apply State.setPg_kept)
    | with_reducible intro _
    | dsimp only
    | split

theorem State.inSample_kept {r0 s : State} (lim : Bool) (hk : Kept r0 s) :
    Kept r0 (State.inSample s lim) := by
  unfold State.inSample
  try dsimp only
  repeat' first
    | with_reducible (first
        | assumption | apply State.modPw_kept)
    | with_reducible intro _
    | dsimp only
    | split

theorem State.telSample_kept {r0 s : State} (t : Nat) (volt : Nat) (cur : Int) (hk : Kept r0 s) :
    Kept r0 (State.telSample s t volt cur) := by
  unfold State.telSample
  try dsimp only
  repeat' first
    | with_reducible (first
        | assumption | apply State.modPw_kept)
    | with_reducible intro _
    | dsimp only
    | split

theorem State.telShow_kept {r0 s : State} (t : Nat) (n : Nat) (hk : Kept r0 s) :
    Kept r0 (State.telShow s t n) := by
  unfold State.telShow
  try dsimp only
  repeat' first
    | with_reducible (first
        | assumption | apply State.drew_kept | apply State.wr_kept | apply State.modPw_kept)
    | with_reducible intro _
    | dsimp only
    | split

theorem State.energyLatch_kept {r0 s : State} (t : Nat) (hk : Kept r0 s) :
    Kept r0 (State.energyLatch s t) := by
  unfold State.energyLatch
  try dsimp only
  repeat' first
    | with_reducible (first
        | assumption | apply State.answerData_kept | apply State.wr_kept)
    | with_reducible intro _
    | dsimp only
    | split

theorem State.telcmdWrite_kept {r0 s : State} (data : Nat) (hk : Kept r0 s) :
    Kept r0 (State.telcmdWrite s data) := by
  unfold State.telcmdWrite
  try dsimp only
  repeat' first
    | with_reducible (first
        | assumption | apply State.writeReg_kept | apply State.modPw_kept)
    | with_reducible intro _
    | dsimp only
    | split

theorem State.efctlWrite_kept {r0 s : State} (c : Nat) (data : Nat) (hk : Kept r0 s) :
    Kept r0 (State.efctlWrite s c data) := by
  unfold State.efctlWrite
  try dsimp only
  repeat' first
    | with_reducible (first
        | assumption | apply State.writeReg_kept | apply State.efctlAfter_kept)
    | with_reducible intro _
    | dsimp only
    | split

end Sys2Proof.Machine
end

