-- ==== Sys2Proof/Laws/Kept/UsbOps.lean ====
section
/-! SUPPORT. What the operations of Machine/UsbOps.lean keep. -/
namespace Sys2Proof.Machine

theorem State.modUsb_kept {r0 s : State} (f : Usb → Usb) (hk : Kept r0 s) :
    Kept r0 (State.modUsb s f) := by
  unfold State.modUsb
  try dsimp only
  repeat' first
    | with_reducible (first
        | assumption)
    | (with_reducible apply Kept.lit
       first
         | with_reducible (first
             | assumption)
         | split)
    | with_reducible intro _
    | dsimp only
    | split

theorem State.rteSend_kept {r0 s : State} (b : List Byte) (hk : Kept r0 s) :
    Kept r0 (State.rteSend s b) := by
  unfold State.rteSend
  try dsimp only
  repeat' first
    | with_reducible (first
        | assumption | apply State.endpointSend_kept)
    | with_reducible intro _
    | dsimp only
    | split

theorem State.rteBad_kept {r0 s : State} (hk : Kept r0 s) :
    Kept r0 (State.rteBad s) := by
  unfold State.rteBad
  try dsimp only
  repeat' first
    | with_reducible (first
        | assumption | apply State.bump_kept)
    | with_reducible intro _
    | dsimp only
    | split

theorem State.hubAck_kept {r0 s : State} (mseq : Nat) (data : List Byte) (hk : Kept r0 s) :
    Kept r0 (State.hubAck s mseq data) := by
  unfold State.hubAck
  try dsimp only
  repeat' first
    | with_reducible (first
        | assumption | apply State.rteSend_kept)
    | with_reducible intro _
    | dsimp only
    | split

theorem State.hubStall_kept {r0 s : State} (mseq : Nat) (hk : Kept r0 s) :
    Kept r0 (State.hubStall s mseq) := by
  unfold State.hubStall
  try dsimp only
  repeat' first
    | with_reducible (first
        | assumption | apply State.rteSend_kept)
    | with_reducible intro _
    | dsimp only
    | split

theorem State.portChg_kept {r0 s : State} (k : Nat) (wake : Bool) (collided : Bool) (hk : Kept r0 s) :
    Kept r0 (State.portChg s k wake collided) := by
  unfold State.portChg
  try dsimp only
  repeat' first
    | with_reducible (first
        | assumption | apply State.rteSend_kept | apply State.modUsb_kept)
    | with_reducible intro _
    | dsimp only
    | split

theorem State.changeBit_kept {r0 s : State} (k : Nat) (c : Nat) (wake : Bool) (hk : Kept r0 s) :
    Kept r0 (State.changeBit s k c wake) := by
  unfold State.changeBit
  try dsimp only
  repeat' first
    | with_reducible (first
        | assumption | apply State.portChg_kept | apply State.wr_kept)
    | with_reducible intro _
    | dsimp only
    | split

theorem State.noteEntries_kept {r0 s : State} (hk : Kept r0 s) :
    Kept r0 (State.noteEntries s) := by
  unfold State.noteEntries
  try dsimp only
  repeat' first
    | with_reducible (first
        | assumption | apply State.wr_kept)
    | with_reducible intro _
    | dsimp only
    | split

theorem State.unload_kept {r0 s : State} (i : Nat) (hk : Kept r0 s) :
    Kept r0 (State.unload s i) := by
  unfold State.unload
  try dsimp only
  repeat' first
    | with_reducible (first
        | assumption | apply State.modUsb_kept | apply State.noteEntries_kept | apply State.wr_kept | apply Kept.foldl)
    | with_reducible intro _
    | dsimp only
    | split

theorem State.unloadPort_kept {r0 s : State} (k : Nat) (hk : Kept r0 s) :
    Kept r0 (State.unloadPort s k) := by
  unfold State.unloadPort
  try dsimp only
  repeat' first
    | with_reducible (first
        | assumption | apply State.modUsb_kept | apply State.unload_kept | apply Kept.foldl)
    | with_reducible intro _
    | dsimp only
    | split

theorem State.killPort_kept {r0 s : State} (k : Nat) (status : Nat) (hk : Kept r0 s) :
    Kept r0 (State.killPort s k status) := by
  unfold State.killPort
  try dsimp only
  repeat' first
    | with_reducible (first
        | assumption | apply State.modUsb_kept)
    | with_reducible intro _
    | dsimp only
    | split

theorem State.portCut_kept {r0 s : State} (k : Nat) (status : Nat) (hk : Kept r0 s) :
    Kept r0 (State.portCut s k status) := by
  unfold State.portCut
  try dsimp only
  repeat' first
    | with_reducible (first
        | assumption | apply State.emit_kept | apply State.unloadPort_kept | apply State.killPort_kept)
    | with_reducible intro _
    | dsimp only
    | split

theorem State.portGone_kept {r0 s : State} (k : Nat) (hk : Kept r0 s) :
    Kept r0 (State.portGone s k) := by
  unfold State.portGone
  try dsimp only
  repeat' first
    | with_reducible (first
        | assumption | apply State.wr_kept | apply State.modUsb_kept | apply Kept.foldl)
    | with_reducible intro _
    | dsimp only
    | split

theorem State.portLost_kept {r0 s : State} (k : Nat) (hk : Kept r0 s) :
    Kept r0 (State.portLost s k) := by
  unfold State.portLost
  try dsimp only
  repeat' first
    | with_reducible (first
        | assumption | apply State.reportPresence_kept | apply State.raise_kept | apply State.portCut_kept | apply State.portGone_kept)
    | with_reducible intro _
    | dsimp only
    | split

theorem State.portPower_kept {r0 s : State} (k : Nat) (on : Bool) (hk : Kept r0 s) :
    Kept r0 (State.portPower s k on) := by
  unfold State.portPower
  try dsimp only
  repeat' first
    | with_reducible (first
        | assumption | apply State.setBit_kept | apply State.emit_kept)
    | with_reducible intro _
    | dsimp only
    | split

theorem State.usbRouted_kept {r0 s : State} (k : Nat) (on : Bool) (hk : Kept r0 s) :
    Kept r0 (State.usbRouted s k on) := by
  unfold State.usbRouted
  try dsimp only
  repeat' first
    | with_reducible (first
        | assumption | apply State.wr_kept | apply State.changeBit_kept | apply State.portLost_kept)
    | with_reducible intro _
    | dsimp only
    | split

theorem State.burstEnd_kept {r0 s : State} (o : List (Nat × List Byte)) (hk : Kept r0 s) :
    Kept r0 (State.burstEnd s o) := by
  unfold State.burstEnd
  try dsimp only
  repeat' first
    | with_reducible (first
        | assumption | apply State.rteSend_kept | apply State.modUsb_kept)
    | with_reducible intro _
    | dsimp only
    | split

theorem State.burstAbort_kept {r0 s : State} (hk : Kept r0 s) :
    Kept r0 (State.burstAbort s) := by
  unfold State.burstAbort
  try dsimp only
  repeat' first
    | with_reducible (first
        | assumption | apply State.rteSend_kept | apply State.modUsb_kept)
    | with_reducible intro _
    | dsimp only
    | split

theorem State.abortAll_kept {r0 s : State} (hk : Kept r0 s) :
    Kept r0 (State.abortAll s) := by
  unfold State.abortAll
  try dsimp only
  repeat' first
    | with_reducible (first
        | assumption | apply State.burstAbort_kept | apply Kept.foldl)
    | with_reducible intro _
    | dsimp only
    | split

theorem State.busSuspend_kept {r0 s : State} (hk : Kept r0 s) :
    Kept r0 (State.busSuspend s) := by
  unfold State.busSuspend
  try dsimp only
  repeat' first
    | with_reducible (first
        | assumption | apply State.modUsb_kept | apply State.wr_kept)
    | with_reducible intro _
    | dsimp only
    | split

theorem State.orphanRefresh_kept {r0 s : State} (hk : Kept r0 s) :
    Kept r0 (State.orphanRefresh s) := by
  unfold State.orphanRefresh
  try dsimp only
  repeat' first
    | with_reducible (first
        | assumption | apply State.setBit_kept)
    | with_reducible intro _
    | dsimp only
    | split

theorem State.periodicFit_kept {r0 s : State} (hk : Kept r0 s) :
    Kept r0 (State.periodicFit s) := by
  unfold State.periodicFit
  try dsimp only
  repeat' first
    | with_reducible (first
        | assumption | apply State.wr_kept | apply State.raise_kept)
    | with_reducible intro _
    | dsimp only
    | split

theorem State.recordSend_kept {r0 s : State} (b : List Byte) (hk : Kept r0 s) :
    Kept r0 (State.recordSend s b) := by
  unfold State.recordSend
  try dsimp only
  repeat' first
    | with_reducible (first
        | assumption | apply State.xmiss_kept | apply State.queueFlits_kept | apply State.bump_kept)
    | with_reducible intro _
    | dsimp only
    | split

theorem State.usbStart_kept {r0 s : State} (hk : Kept r0 s) :
    Kept r0 (State.usbStart s) := by
  unfold State.usbStart
  try dsimp only
  repeat' first
    | with_reducible (first
        | assumption | apply State.wr_kept | apply State.setBit_kept)
    | (with_reducible apply Kept.lit
       first
         | with_reducible (first
             | assumption | apply State.wr_kept | apply State.setBit_kept)
         | split)
    | with_reducible intro _
    | dsimp only
    | split

theorem State.usbStop_kept {r0 s : State} (hk : Kept r0 s) :
    Kept r0 (State.usbStop s) := by
  unfold State.usbStop
  try dsimp only
  repeat' first
    | with_reducible (first
        | assumption | apply State.unload_kept | apply State.portPower_kept | apply State.wr_kept | apply State.portGone_kept
        | apply State.reportPresence_kept | apply Kept.foldl)
    | (with_reducible apply Kept.lit
       first
         | with_reducible (first
             | assumption | apply State.unload_kept | apply State.portPower_kept | apply State.wr_kept | apply State.portGone_kept
             | apply State.reportPresence_kept | apply Kept.foldl)
         | split)
    | with_reducible intro _
    | dsimp only
    | split

end Sys2Proof.Machine
end

