-- ==== Sys2Proof/Laws/Kept/TypecOps.lean ====
section
/-! SUPPORT. What the operations of Machine/TypecOps.lean keep. -/
namespace Sys2Proof.Machine

theorem State.setTc_kept {r0 s : State} (n : Nat) (v : Tc) (hk : Kept r0 s) :
    Kept r0 (State.setTc s n v) := by
  refine hk.tables rfl rfl rfl rfl rfl (fun k => ?_)
  simp only [State.tablesOk, Bool.and_eq_true] at k ⊢
  simp_all [State.setTc, NMap.wf_set]

theorem State.modTc_kept {r0 s : State} (n : Nat) (f : Tc → Tc) (hk : Kept r0 s) :
    Kept r0 (State.modTc s n f) := by
  unfold State.modTc
  try dsimp only
  repeat' first
    | with_reducible (first
        | assumption | apply State.setTc_kept)
    | with_reducible intro _
    | dsimp only
    | split

theorem State.tcPins_kept {r0 s : State} (n : Nat) (f : Tc → Tc) (hk : Kept r0 s) :
    Kept r0 (State.tcPins s n f) := by
  unfold State.tcPins
  try dsimp only
  repeat' first
    | with_reducible (first
        | assumption | apply State.setTc_kept | apply State.emit_kept)
    | with_reducible intro _
    | dsimp only
    | split

theorem State.tcTell_kept {r0 s : State} (n : Nat) (tctype : Nat) (sop : Nat) (rseq : Nat) (status : Nat) (y : List Byte) (hk : Kept r0 s) :
    Kept r0 (State.tcTell s n tctype sop rseq status y) := by
  unfold State.tcTell
  try dsimp only
  repeat' first
    | with_reducible (first
        | assumption | apply State.svcSend_kept)
    | with_reducible intro _
    | dsimp only
    | split

theorem State.txRes_kept {r0 s : State} (n : Nat) (m : PdMsg) (status : Nat) (hk : Kept r0 s) :
    Kept r0 (State.txRes s n m status) := by
  unfold State.txRes
  try dsimp only
  repeat' first
    | with_reducible (first
        | assumption | apply State.tcTell_kept)
    | with_reducible intro _
    | dsimp only
    | split

theorem State.pdPut_kept {r0 s : State} (n : Nat) (m : PdMsg) (hk : Kept r0 s) :
    Kept r0 (State.pdPut s n m) := by
  unfold State.pdPut
  try dsimp only
  repeat' first
    | with_reducible (first
        | assumption | apply State.emit_kept | apply State.modTc_kept)
    | with_reducible intro _
    | dsimp only
    | split

theorem State.pdSend_kept {r0 s : State} (n : Nat) (m : PdMsg) (hk : Kept r0 s) :
    Kept r0 (State.pdSend s n m) := by
  unfold State.pdSend
  try dsimp only
  repeat' first
    | with_reducible (first
        | assumption | apply State.pdPut_kept | apply State.modTc_kept)
    | with_reducible intro _
    | dsimp only
    | split

theorem State.pdOwn_kept {r0 s : State} (n : Nat) (kind : Nat) (objs : List Nat) (hk : Kept r0 s) :
    Kept r0 (State.pdOwn s n kind objs) := by
  unfold State.pdOwn
  try dsimp only
  repeat' first
    | with_reducible (first
        | assumption | apply State.pdSend_kept)
    | with_reducible intro _
    | dsimp only
    | split

theorem State.sendCaps_kept {r0 s : State} (n : Nat) (hk : Kept r0 s) :
    Kept r0 (State.sendCaps s n) := by
  unfold State.sendCaps
  try dsimp only
  repeat' first
    | with_reducible (first
        | assumption | apply State.pdOwn_kept | apply State.modTc_kept)
    | with_reducible intro _
    | dsimp only
    | split

theorem State.exchEnd_kept {r0 s : State} (n : Nat) (hk : Kept r0 s) :
    Kept r0 (State.exchEnd s n) := by
  unfold State.exchEnd
  try dsimp only
  repeat' first
    | with_reducible (first
        | assumption | apply State.modTc_kept)
    | with_reducible intro _
    | dsimp only
    | split

theorem State.tcRouted_kept {r0 s : State} (n : Nat) (hk : Kept r0 s) :
    Kept r0 (State.tcRouted s n) := by
  unfold State.tcRouted
  try dsimp only
  repeat' first
    | with_reducible (first
        | assumption | apply State.usbRouted_kept)
    | with_reducible intro _
    | dsimp only
    | split

theorem State.setPowerRole_kept {r0 s : State} (n : Nat) (src : Bool) (hk : Kept r0 s) :
    Kept r0 (State.setPowerRole s n src) := by
  unfold State.setPowerRole
  try dsimp only
  repeat' first
    | with_reducible (first
        | assumption | apply State.tcRouted_kept | apply State.wr_kept | apply State.setBit_kept)
    | with_reducible intro _
    | dsimp only
    | split

theorem State.contract_kept {r0 s : State} (n : Nat) (volt : Nat) (hk : Kept r0 s) :
    Kept r0 (State.contract s n volt) := by
  unfold State.contract
  try dsimp only
  repeat' first
    | with_reducible (first
        | assumption | apply State.wr_kept | apply State.exchEnd_kept | apply State.raise_kept)
    | with_reducible intro _
    | dsimp only
    | split

theorem State.swapDone_kept {r0 s : State} (n : Nat) (exch : Nat) (hk : Kept r0 s) :
    Kept r0 (State.swapDone s n exch) := by
  unfold State.swapDone
  try dsimp only
  repeat' first
    | with_reducible (first
        | assumption | apply State.raise_kept | apply State.exchEnd_kept)
    | with_reducible intro _
    | dsimp only
    | split

theorem State.setPhase_kept {r0 s : State} (n : Nat) (p : TcPhase) (hk : Kept r0 s) :
    Kept r0 (State.setPhase s n p) := by
  unfold State.setPhase
  try dsimp only
  repeat' first
    | with_reducible (first
        | assumption | apply State.modTc_kept)
    | with_reducible intro _
    | dsimp only
    | split

theorem State.tcClear_kept {r0 s : State} (n : Nat) (status : Nat) (hk : Kept r0 s) :
    Kept r0 (State.tcClear s n status) := by
  unfold State.tcClear
  try dsimp only
  repeat' first
    | with_reducible (first
        | assumption | apply State.txRes_kept | apply State.modTc_kept | apply State.wr_kept | apply Kept.foldl)
    | with_reducible intro _
    | dsimp only
    | split

theorem State.hardReset_kept {r0 s : State} (n : Nat) (sent : Bool) (hk : Kept r0 s) :
    Kept r0 (State.hardReset s n sent) := by
  unfold State.hardReset
  try dsimp only
  repeat' first
    | with_reducible (first
        | assumption | apply State.tcClear_kept | apply State.raise_kept | apply State.bump_kept | apply State.emit_kept | apply State.modTc_kept
        | apply State.setPhase_kept | apply State.wr_kept | apply State.tcPins_kept)
    | with_reducible intro _
    | dsimp only
    | split

theorem State.tcOff_kept {r0 s : State} (n : Nat) (hk : Kept r0 s) :
    Kept r0 (State.tcOff s n) := by
  unfold State.tcOff
  try dsimp only
  repeat' first
    | with_reducible (first
        | assumption | apply State.tcPins_kept | apply State.wr_kept | apply State.tcRouted_kept | apply Kept.foldl)
    | with_reducible intro _
    | dsimp only
    | split

theorem State.errorRecovery_kept {r0 s : State} (n : Nat) (hk : Kept r0 s) :
    Kept r0 (State.errorRecovery s n) := by
  unfold State.errorRecovery
  try dsimp only
  repeat' first
    | with_reducible (first
        | assumption | apply State.tcOff_kept | apply State.wr_kept | apply State.tcClear_kept)
    | with_reducible intro _
    | dsimp only
    | split

theorem State.accepted_kept {r0 s : State} (n : Nat) (sent : Bool) (hk : Kept r0 s) :
    Kept r0 (State.accepted s n sent) := by
  unfold State.accepted
  try dsimp only
  repeat' first
    | with_reducible (first
        | assumption | apply State.setPhase_kept | apply State.wr_kept | apply State.tcPins_kept | apply State.swapDone_kept
        | apply State.tcRouted_kept | apply State.setBit_kept | apply State.pdOwn_kept)
    | with_reducible intro _
    | dsimp only
    | split

theorem State.pdSent_kept {r0 s : State} (n : Nat) (b : List Byte) (hk : Kept r0 s) :
    Kept r0 (State.pdSent s n b) := by
  unfold State.pdSent
  try dsimp only
  repeat' first
    | with_reducible (first
        | assumption | apply State.accepted_kept | apply State.exchEnd_kept | apply State.modTc_kept | apply State.contract_kept
        | apply State.swapDone_kept)
    | with_reducible intro _
    | dsimp only
    | split

theorem State.pdAcked_kept {r0 s : State} (n : Nat) (sop : Nat) (id : Nat) (hk : Kept r0 s) :
    Kept r0 (State.pdAcked s n sop id) := by
  unfold State.pdAcked
  try dsimp only
  repeat' first
    | with_reducible (first
        | assumption | apply State.bump_kept | apply State.modTc_kept | apply State.pdSent_kept | apply State.txRes_kept | apply State.pdSend_kept)
    | with_reducible intro _
    | dsimp only
    | split

theorem State.fallbackAnswer_kept {r0 s : State} (n : Nat) (b : List Byte) (hk : Kept r0 s) :
    Kept r0 (State.fallbackAnswer s n b) := by
  unfold State.fallbackAnswer
  try dsimp only
  repeat' first
    | with_reducible (first
        | assumption | apply State.pdOwn_kept)
    | with_reducible intro _
    | dsimp only
    | split

theorem State.pdCollide_kept {r0 s : State} (n : Nat) (hk : Kept r0 s) :
    Kept r0 (State.pdCollide s n) := by
  unfold State.pdCollide
  try dsimp only
  repeat' first
    | with_reducible (first
        | assumption | apply State.modTc_kept | apply State.bump_kept | apply State.txRes_kept | apply State.raise_kept | apply Kept.foldl)
    | with_reducible intro _
    | dsimp only
    | split

theorem State.pdActs_kept {r0 s : State} (n : Nat) (b : List Byte) (hk : Kept r0 s) :
    Kept r0 (State.pdActs s n b) := by
  unfold State.pdActs
  try dsimp only
  repeat' first
    | with_reducible (first
        | assumption | apply State.modTc_kept | apply State.accepted_kept | apply State.exchEnd_kept | apply State.contract_kept
        | apply State.swapDone_kept | apply State.tcRouted_kept | apply State.tcPins_kept | apply State.setPhase_kept
        | apply State.setPowerRole_kept | apply State.wr_kept)
    | with_reducible intro _
    | dsimp only
    | split

theorem State.pdWait_kept {r0 s : State} (n : Nat) (sop : Nat) (b : List Byte) (hk : Kept r0 s) :
    Kept r0 (State.pdWait s n sop b) := by
  unfold State.pdWait
  try dsimp only
  repeat' first
    | with_reducible (first
        | assumption | apply State.fallbackAnswer_kept | apply State.modTc_kept)
    | with_reducible intro _
    | dsimp only
    | split

theorem State.tcTold_kept {r0 s : State} (n : Nat) (f : State → State) (hk : Kept r0 s) (hf : ∀ t, Kept r0 t → Kept r0 (f t)) :
    Kept r0 (State.tcTold s n f) := by
  unfold State.tcTold
  try dsimp only
  repeat' first
    | with_reducible (first
        | assumption | apply hf | apply State.tcTell_kept)
    | with_reducible intro _
    | dsimp only
    | split

theorem State.fallbackRefresh_kept {r0 s : State} (n : Nat) (doze : Bool) (hk : Kept r0 s) :
    Kept r0 (State.fallbackRefresh s n doze) := by
  unfold State.fallbackRefresh
  try dsimp only
  repeat' first
    | with_reducible (first
        | assumption | apply State.tcTold_kept | apply State.raise_kept | apply State.setBit_kept | apply State.sendCaps_kept)
    | with_reducible intro _
    | dsimp only
    | split

theorem State.tcPolicyChange_kept {r0 s : State} (hk : Kept r0 s) :
    Kept r0 (State.tcPolicyChange s) := by
  unfold State.tcPolicyChange
  try dsimp only
  repeat' first
    | with_reducible (first
        | assumption | apply State.fallbackRefresh_kept | apply Kept.foldl)
    | with_reducible intro _
    | dsimp only
    | split

end Sys2Proof.Machine
end

