-- ==== Sys2Proof/Laws/Kept/ResetOps.lean ====
section
/-! SUPPORT. What the operations of Machine/ResetOps.lean keep. -/
namespace Sys2Proof.Machine

theorem State.vbatCheck_kept {r0 s : State} (lost : Bool) (hk : Kept r0 s) :
    Kept r0 (State.vbatCheck s lost) := by
  have k := State.modChip_kept (fun c => { c with vbatLost := lost }) hk
  unfold State.vbatCheck
  dsimp only
  split
  · refine Kept.tables k rfl rfl rfl rfl rfl (fun k => ?_)
    simp only [State.tablesOk, Bool.and_eq_true] at k ⊢
    simp_all [NMap.wf_keep]
  · exact k

theorem State.clearDies_kept {r0 s : State} (cause : Nat) (hk : Kept r0 s) :
    Kept r0 (State.clearDies s cause) := by
  refine hk.trans ⟨rfl, List.prefix_rfl, Nat.le_refl _, fun i => ⟨?_, Nat.zero_le _, (by show 0 < 65536; omega)⟩⟩
  have k := i.1
  simp only [State.tablesOk, Bool.and_eq_true] at k
  simp only [State.clearDies, State.tablesOk, State.reset, Bool.and_eq_true]
  refine ⟨⟨⟨⟨⟨⟨⟨⟨⟨NMap.wf_keep _ _ _ k.1.1.1.1.1.1.1.1.1, rfl⟩, rfl⟩, rfl⟩, rfl⟩, rfl⟩, rfl⟩, rfl⟩, rfl⟩, ?_⟩
  split
  · rfl
  · exact k.2

theorem State.fieldAlone_kept {r0 s : State} (hk : Kept r0 s) :
    Kept r0 (State.fieldAlone s) := by
  unfold State.fieldAlone
  try dsimp only
  repeat' first
    | with_reducible (first
        | assumption | apply State.wr_kept | apply State.tcPolicyChange_kept | apply State.safeLatch_kept)
    | with_reducible intro _
    | dsimp only
    | split

theorem State.resetBy_kept {r0 s : State} (cause : Nat) (hk : Kept r0 s) :
    Kept r0 (State.resetBy s cause) := by
  unfold State.resetBy
  try dsimp only
  repeat' first
    | with_reducible (first
        | assumption | apply State.wr_kept | apply State.fieldAlone_kept | apply State.clearDies_kept | apply State.modChip_kept)
    | with_reducible intro _
    | dsimp only
    | split

theorem State.enterReset_kept {r0 s : State} (cause : Nat) (test : Bool) (hk : Kept r0 s) :
    Kept r0 (State.enterReset s cause test) := by
  unfold State.enterReset
  try dsimp only
  repeat' first
    | with_reducible (first
        | assumption | apply State.resetBy_kept | apply State.modChip_kept)
    | with_reducible intro _
    | dsimp only
    | split

theorem State.domainState_kept {r0 s : State} (d : Nat) (hk : Kept r0 s) :
    Kept r0 (State.domainState s d) := by
  unfold State.domainState
  repeat' first
    | with_reducible assumption
    | with_reducible apply State.modLk_kept
    | (with_reducible apply Kept.lit; with_reducible assumption)
    | split
  refine hk.tables rfl rfl rfl rfl rfl (fun k => ?_)
  simp only [State.tablesOk, Bool.and_eq_true] at k ⊢
  simp_all [NMap.wf, NMap.above]

theorem State.domainReset_kept {r0 s : State} (d : Nat) (hk : Kept r0 s) :
    Kept r0 (State.domainReset s d) := by
  unfold State.domainReset
  try dsimp only
  repeat' first
    | with_reducible (first
        | assumption | apply State.domainState_kept | apply State.toReset_kept | apply Kept.foldl)
    | with_reducible intro _
    | dsimp only
    | split

end Sys2Proof.Machine
end

