-- ==== Sys2Proof/Laws/Kept/SecOps.lean ====
section
/-! SUPPORT. What the operations of Machine/SecOps.lean keep. -/
namespace Sys2Proof.Machine

theorem State.setSec_kept {r0 s : State} (c : Sec) (hk : Kept r0 s) :
    Kept r0 (State.setSec s c) := by
  unfold State.setSec
  try dsimp only
  repeat' first
    | with_reducible (first
        | assumption)
    | (with_reducible apply Kept.lit
       first
         | with_reducible (first
             | assumption)
         | split)
    | with_reducible intro _
    | dsimp only
    | split

theorem State.modSec_kept {r0 s : State} (f : Sec → Sec) (hk : Kept r0 s) :
    Kept r0 (State.modSec s f) := by
  unfold State.modSec
  try dsimp only
  repeat' first
    | with_reducible (first
        | assumption | apply State.setSec_kept)
    | with_reducible intro _
    | dsimp only
    | split

theorem State.retrainAll_kept {r0 s : State} (hk : Kept r0 s) :
    Kept r0 (State.retrainAll s) := by
  unfold State.retrainAll
  try dsimp only
  repeat' first
    | with_reducible (first
        | assumption | apply State.recover_kept | apply Kept.foldl)
    | with_reducible intro _
    | dsimp only
    | split

theorem State.slotClear_kept {r0 s : State} (i : Nat) (hk : Kept r0 s) :
    Kept r0 (State.slotClear s i) := by
  unfold State.slotClear
  try dsimp only
  repeat' first
    | with_reducible (first
        | assumption | apply State.wr_kept | apply State.modSec_kept | apply Kept.foldl)
    | with_reducible intro _
    | dsimp only
    | split

theorem State.slotsClear_kept {r0 s : State} (hk : Kept r0 s) :
    Kept r0 (State.slotsClear s) := by
  unfold State.slotsClear
  try dsimp only
  repeat' first
    | with_reducible (first
        | assumption | apply State.slotClear_kept | apply Kept.foldl)
    | with_reducible intro _
    | dsimp only
    | split

theorem State.slotLoad_kept {r0 s : State} (source : Nat) (k : KeyRec) (hk : Kept r0 s) :
    Kept r0 (State.slotLoad s source k) := by
  unfold State.slotLoad
  try dsimp only
  repeat' first
    | with_reducible (first
        | assumption | apply State.wr_kept | apply State.setBit_kept | apply State.modSec_kept)
    | with_reducible intro _
    | dsimp only
    | split

theorem State.useKey_kept {r0 s : State} (i : Nat) (hk : Kept r0 s) :
    Kept r0 (State.useKey s i) := by
  unfold State.useKey
  try dsimp only
  repeat' first
    | with_reducible (first
        | assumption | apply State.wr_kept | apply State.raise_kept)
    | with_reducible intro _
    | dsimp only
    | split

theorem State.tampShow_kept {r0 s : State} (hk : Kept r0 s) :
    Kept r0 (State.tampShow s) := by
  unfold State.tampShow
  try dsimp only
  repeat' first
    | with_reducible (first
        | assumption | apply State.setBit_kept)
    | with_reducible intro _
    | dsimp only
    | split

theorem State.tamperAct_kept {r0 s : State} (bitsNew : Nat) (hk : Kept r0 s) :
    Kept r0 (State.tamperAct s bitsNew) := by
  unfold State.tamperAct
  try dsimp only
  repeat' first
    | with_reducible (first
        | assumption | apply State.wr_kept | apply State.raise_kept | apply State.modSec_kept | apply State.retrainAll_kept
        | apply State.slotsClear_kept)
    | with_reducible intro _
    | dsimp only
    | split

theorem State.tamperLevel_kept {r0 s : State} (k : Nat) (on : Bool) (hk : Kept r0 s) :
    Kept r0 (State.tamperLevel s k on) := by
  unfold State.tamperLevel
  try dsimp only
  repeat' first
    | with_reducible (first
        | assumption | apply State.modSec_kept | apply State.tampShow_kept | apply State.tamperAct_kept)
    | with_reducible intro _
    | dsimp only
    | split

theorem State.tampcfgWrite_kept {r0 s : State} (data : Nat) (hk : Kept r0 s) :
    Kept r0 (State.tampcfgWrite s data) := by
  unfold State.tampcfgWrite
  try dsimp only
  repeat' first
    | with_reducible (first
        | assumption | apply State.writeReg_kept | apply State.tampShow_kept | apply State.tamperAct_kept)
    | with_reducible intro _
    | dsimp only
    | split

theorem State.drawDawn_kept {r0 s : State} (hk : Kept r0 s) :
    Kept r0 (State.drawDawn s) := by
  unfold State.drawDawn
  try dsimp only
  repeat' first
    | with_reducible (first
        | assumption | apply State.modSec_kept | apply State.setBit_kept)
    | with_reducible intro _
    | dsimp only
    | split

theorem State.tokenUsed_kept {r0 s : State} (status : Nat) (hk : Kept r0 s) :
    Kept r0 (State.tokenUsed s status) := by
  unfold State.tokenUsed
  try dsimp only
  repeat' first
    | with_reducible (first
        | assumption | apply State.modSec_kept | apply State.raiseOnce_kept)
    | with_reducible intro _
    | dsimp only
    | split

theorem State.journalStart_kept {r0 s : State} (op : Nat) (load : List KeyRec) (drop : List Nat) (hk : Kept r0 s) :
    Kept r0 (State.journalStart s op load drop) := by
  unfold State.journalStart
  try dsimp only
  repeat' first
    | with_reducible (first
        | assumption | apply State.wr_kept | apply State.modSec_kept)
    | with_reducible intro _
    | dsimp only
    | split

theorem State.keysCommit_kept {r0 s : State} (load : List KeyRec) (drop : List Nat) (hk : Kept r0 s) :
    Kept r0 (State.keysCommit s load drop) := by
  unfold State.keysCommit
  try dsimp only
  repeat' first
    | with_reducible (first
        | assumption | apply State.slotLoad_kept | apply State.slotClear_kept | apply Kept.foldl)
    | with_reducible intro _
    | dsimp only
    | split

theorem State.journalEnd_kept {r0 s : State} (status : Nat) (hk : Kept r0 s) :
    Kept r0 (State.journalEnd s status) := by
  unfold State.journalEnd
  try dsimp only
  repeat' first
    | with_reducible (first
        | assumption | apply State.wr_kept | apply State.modSec_kept | apply State.keysCommit_kept | apply State.answer_kept)
    | with_reducible intro _
    | dsimp only
    | split

theorem State.lcChange_kept {r0 s : State} (new : Nat) (hk : Kept r0 s) :
    Kept r0 (State.lcChange s new) := by
  unfold State.lcChange
  try dsimp only
  repeat' first
    | with_reducible (first
        | assumption | apply State.raise_kept | apply State.modSec_kept | apply State.slotClear_kept | apply State.slotsClear_kept
        | apply State.wr_kept)
    | with_reducible intro _
    | dsimp only
    | split

theorem State.secAct_kept {r0 s : State} (op : Nat) (b : List Byte) (hk : Kept r0 s) :
    Kept r0 (State.secAct s op b) := by
  unfold State.secAct
  try dsimp only
  repeat' first
    | with_reducible (first
        | assumption | apply State.lcChange_kept | apply State.modSec_kept | apply State.wr_kept | apply State.drawDawn_kept
        | apply State.journalStart_kept | apply State.keysCommit_kept)
    | (with_reducible apply Kept.lit
       first
         | with_reducible (first
             | assumption | apply State.lcChange_kept | apply State.modSec_kept | apply State.wr_kept | apply State.drawDawn_kept
             | apply State.journalStart_kept | apply State.keysCommit_kept)
         | split)
    | with_reducible intro _
    | dsimp only
    | split

theorem State.secCmd_kept {r0 s : State} (data : Nat) (hk : Kept r0 s) :
    Kept r0 (State.secCmd s data) := by
  unfold State.secCmd
  try dsimp only
  repeat' first
    | with_reducible (first
        | assumption | apply State.answer_kept | apply State.wr_kept | apply State.tokenUsed_kept | apply State.secAct_kept)
    | with_reducible intro _
    | dsimp only
    | split

theorem State.nonceDraw_kept {r0 s : State} (hk : Kept r0 s) :
    Kept r0 (State.nonceDraw s) := by
  unfold State.nonceDraw
  try dsimp only
  repeat' first
    | with_reducible (first
        | assumption | apply State.answer_kept | apply State.drew_kept | apply State.wr_kept | apply State.answerData_kept
        | apply State.modSec_kept | apply Kept.foldl)
    | with_reducible intro _
    | dsimp only
    | split

end Sys2Proof.Machine
end

