-- ==== Sys2Proof/Laws/Kept/MemOps.lean ====
section
/-! SUPPORT. What the operations of Machine/MemOps.lean keep. -/
namespace Sys2Proof.Machine

theorem State.ueEffect_kept {r0 s : State} (m : Nat) (at_ : Nat) (iso : Bool) (hk : Kept r0 s) :
    Kept r0 (State.ueEffect s m at_ iso) := by
  unfold State.ueEffect
  try dsimp only
  repeat' first
    | with_reducible (first
        | assumption | apply State.wr_kept | apply State.setRoute_kept | apply State.recover_kept | apply State.isoLoss_kept
        | apply State.modLk_kept | apply State.setFdb_kept | apply State.setPoint_kept)
    | with_reducible intro _
    | dsimp only
    | split

theorem State.macroError_kept {r0 s : State} (m : Nat) (word : Nat) (synd : Nat) (at_ : Nat) (scrub : Bool) (ue : Bool) (iso : Bool) (hk : Kept r0 s) :
    Kept r0 (State.macroError s m word synd at_ scrub ue iso) := by
  unfold State.macroError
  try dsimp only
  repeat' first
    | with_reducible (first
        | assumption | apply State.ueEffect_kept | apply State.memUe_kept | apply State.memCe_kept)
    | with_reducible intro _
    | dsimp only
    | split

theorem State.mcmdWrite_kept {r0 s : State} (data : Nat) (hk : Kept r0 s) :
    Kept r0 (State.mcmdWrite s data) := by
  unfold State.mcmdWrite
  try dsimp only
  repeat' first
    | with_reducible (first
        | assumption | apply State.checked_kept | apply State.answer_kept | apply State.modChip_kept | apply State.wr_kept)
    | with_reducible intro _
    | dsimp only
    | split

theorem State.marchDone_kept {r0 s : State} (faults : List Nat) (done : Nat) (hk : Kept r0 s) :
    Kept r0 (State.marchDone s faults done) := by
  unfold State.marchDone
  try dsimp only
  repeat' first
    | with_reducible (first
        | assumption | apply State.wr_kept | apply State.raise_kept | apply State.modChip_kept | apply Kept.foldl)
    | with_reducible intro _
    | dsimp only
    | split

theorem State.fuseRepair_kept {r0 s : State} (data : Nat) (hk : Kept r0 s) :
    Kept r0 (State.fuseRepair s data) := by
  unfold State.fuseRepair
  try dsimp only
  repeat' first
    | with_reducible (first
        | assumption | apply State.checked_kept | apply State.answer_kept | apply State.wr_kept | apply Kept.foldl)
    | with_reducible intro _
    | dsimp only
    | split

theorem State.d2dSet_kept {r0 s : State} (up : Bool) (hk : Kept r0 s) :
    Kept r0 (State.d2dSet s up) := by
  unfold State.d2dSet
  try dsimp only
  repeat' first
    | with_reducible (first
        | assumption | apply State.setBit_kept | apply State.requalifyInputs_kept | apply State.safeLatch_kept)
    | with_reducible intro _
    | dsimp only
    | split

theorem State.d2dDown_kept {r0 s : State} (hk : Kept r0 s) :
    Kept r0 (State.d2dDown s) := by
  unfold State.d2dDown
  try dsimp only
  repeat' first
    | with_reducible (first
        | assumption | apply State.d2dSet_kept | apply State.raise_kept)
    | with_reducible intro _
    | dsimp only
    | split

theorem State.d2dLane_kept {r0 s : State} (k : Nat) (hk : Kept r0 s) :
    Kept r0 (State.d2dLane s k) := by
  unfold State.d2dLane
  try dsimp only
  repeat' first
    | with_reducible (first
        | assumption | apply State.wrBit_kept | apply State.d2dDown_kept | apply State.wr_kept | apply State.raise_kept)
    | with_reducible intro _
    | dsimp only
    | split

theorem State.debugLock_kept {r0 s : State} (hk : Kept r0 s) :
    Kept r0 (State.debugLock s) := by
  unfold State.debugLock
  try dsimp only
  repeat' first
    | with_reducible (first
        | assumption | apply State.wr_kept)
    | with_reducible intro _
    | dsimp only
    | split

theorem State.dbgCmd_kept {r0 s : State} (data : Nat) (hk : Kept r0 s) :
    Kept r0 (State.dbgCmd s data) := by
  unfold State.dbgCmd
  try dsimp only
  repeat' first
    | with_reducible (first
        | assumption | apply State.answer_kept | apply State.debugLock_kept | apply State.tokenUsed_kept | apply State.wr_kept
        | apply State.setBit_kept | apply State.raise_kept | apply State.modSec_kept)
    | with_reducible intro _
    | dsimp only
    | split

theorem State.tmselWrite_kept {r0 s : State} (data : Nat) (hk : Kept r0 s) :
    Kept r0 (State.tmselWrite s data) := by
  unfold State.tmselWrite
  try dsimp only
  repeat' first
    | with_reducible (first
        | assumption | apply State.writeReg_kept | apply State.emit_kept)
    | with_reducible intro _
    | dsimp only
    | split

theorem State.fctlWrite_kept {r0 s : State} (data : Nat) (hk : Kept r0 s) :
    Kept r0 (State.fctlWrite s data) := by
  unfold State.fctlWrite
  try dsimp only
  repeat' first
    | with_reducible (first
        | assumption | apply State.writeReg_kept | apply State.wr_kept | apply Kept.foldl)
    | with_reducible intro _
    | dsimp only
    | split

theorem State.capWrite_kept {r0 s : State} (c : Nat) (data : Nat) (hk : Kept r0 s) :
    Kept r0 (State.capWrite s c data) := by
  unfold State.capWrite
  try dsimp only
  repeat' first
    | with_reducible (first
        | assumption | apply State.writeReg_kept | apply State.wr_kept)
    | with_reducible intro _
    | dsimp only
    | split

end Sys2Proof.Machine
end

