-- ==== Sys2Proof/Laws/Kept/CpmOps.lean ====
section
/-! SUPPORT. What the operations of Machine/CpmOps.lean keep. -/
namespace Sys2Proof.Machine

theorem State.drainStart_kept {r0 s : State} (d : Nat) (hk : Kept r0 s) :
    Kept r0 (State.drainStart s d) := by
  unfold State.drainStart
  try dsimp only
  repeat' first
    | with_reducible (first
        | assumption | apply State.bump_kept | apply State.wr_kept)
    | with_reducible intro _
    | dsimp only
    | split

theorem State.psEnter_kept {r0 s : State} (target : Nat) (cause : Nat) (hk : Kept r0 s) :
    Kept r0 (State.psEnter s target cause) := by
  unfold State.psEnter
  try dsimp only
  repeat' first
    | with_reducible (first
        | assumption | apply State.raise_kept | apply State.wr_kept | apply State.drainStart_kept | apply State.modChip_kept | apply Kept.foldl)
    | with_reducible intro _
    | dsimp only
    | split

theorem State.pscmdWrite_kept {r0 s : State} (data : Nat) (hk : Kept r0 s) :
    Kept r0 (State.pscmdWrite s data) := by
  unfold State.pscmdWrite
  try dsimp only
  repeat' first
    | with_reducible (first
        | assumption | apply State.checked_kept | apply State.psEnter_kept | apply State.answer_kept)
    | with_reducible intro _
    | dsimp only
    | split

theorem State.psWake_kept {r0 s : State} (hk : Kept r0 s) :
    Kept r0 (State.psWake s) := by
  unfold State.psWake
  try dsimp only
  repeat' first
    | with_reducible (first
        | assumption | apply State.pwpPower_kept | apply State.emit_kept | apply State.modChip_kept)
    | with_reducible intro _
    | dsimp only
    | split

theorem State.psReached_kept {r0 s : State} (hk : Kept r0 s) :
    Kept r0 (State.psReached s) := by
  unfold State.psReached
  try dsimp only
  repeat' first
    | with_reducible (first
        | assumption | apply State.fallbackRefresh_kept | apply State.resetBy_kept | apply State.emit_kept | apply State.setChip_kept
        | apply State.pwpPower_kept | apply State.psWake_kept | apply Kept.foldl)
    | with_reducible intro _
    | dsimp only
    | split

theorem State.domainRestore_kept {r0 s : State} (d : Nat) (hk : Kept r0 s) :
    Kept r0 (State.domainRestore s d) := by
  unfold State.domainRestore
  try dsimp only
  repeat' first
    | with_reducible (first
        | assumption | apply State.writeFields_kept | apply State.wr_kept | apply Kept.foldl)
    | with_reducible intro _
    | dsimp only
    | split

theorem State.ulpStart_kept {r0 s : State} (hk : Kept r0 s) :
    Kept r0 (State.ulpStart s) := by
  unfold State.ulpStart
  try dsimp only
  repeat' first
    | with_reducible (first
        | assumption | apply State.raise_kept | apply State.modChip_kept)
    | with_reducible intro _
    | dsimp only
    | split

theorem State.ulpStop_kept {r0 s : State} (hk : Kept r0 s) :
    Kept r0 (State.ulpStop s) := by
  unfold State.ulpStop
  try dsimp only
  repeat' first
    | with_reducible (first
        | assumption | apply State.modChip_kept)
    | with_reducible intro _
    | dsimp only
    | split

end Sys2Proof.Machine
end

