-- ==== Sys2Proof/Laws/Kept/Display.lean ====
section
/-! SUPPORT. What the operations of Machine/Display.lean keep. -/
namespace Sys2Proof.Machine

theorem State.setDp_kept {r0 s : State} (d : Nat) (v : Dp) (hk : Kept r0 s) :
    Kept r0 (State.setDp s d v) := by
  refine hk.tables rfl rfl rfl rfl rfl (fun k => ?_)
  simp only [State.tablesOk, Bool.and_eq_true] at k ⊢
  simp_all [State.setDp, NMap.wf_set]

theorem State.modDp_kept {r0 s : State} (d : Nat) (f : Dp → Dp) (hk : Kept r0 s) :
    Kept r0 (State.modDp s d f) := by
  unfold State.modDp
  try dsimp only
  repeat' first
    | with_reducible (first
        | assumption | apply State.setDp_kept)
    | with_reducible intro _
    | dsimp only
    | split

theorem State.streamFitCheck_kept {r0 s : State} (d : Nat) (hk : Kept r0 s) :
    Kept r0 (State.streamFitCheck s d) := by
  unfold State.streamFitCheck
  try dsimp only
  repeat' first
    | with_reducible (first
        | assumption | apply State.wr_kept | apply State.raise_kept)
    | with_reducible intro _
    | dsimp only
    | split

theorem State.unitSend_kept {r0 s : State} (d : Nat) (u : List Byte) (hk : Kept r0 s) :
    Kept r0 (State.unitSend s d u) := by
  unfold State.unitSend
  try dsimp only
  repeat' first
    | with_reducible (first
        | assumption | apply State.queueFlits_kept | apply State.xmiss_kept)
    | with_reducible intro _
    | dsimp only
    | split

theorem State.dpLine_kept {r0 s : State} (d : Nat) (u : List Byte) (clk : Nat) (hk : Kept r0 s) :
    Kept r0 (State.dpLine s d u clk) := by
  unfold State.dpLine
  try dsimp only
  repeat' first
    | with_reducible (first
        | assumption | apply State.modDp_kept | apply State.streamFitCheck_kept | apply State.unitSend_kept | apply State.setBit_kept)
    | with_reducible intro _
    | dsimp only
    | split

theorem execDpLineReceive_kept {r0 s : State} (d : Fin 2) (unit : List Byte) (clk : Nat) (hk : Kept r0 s) : ∀ s1, execDpLineReceive d unit clk s = .next s1 → Kept r0 s1 := by
  intro s1 e; unfold execDpLineReceive at e; injection e with e; subst e
  try dsimp only
  repeat' first
    | with_reducible (first
        | assumption | apply State.dpLine_kept)
    | with_reducible intro _
    | dsimp only
    | split

theorem State.clockPairSend_kept {r0 s : State} (d : Nat) (pix : Nat) (t : Nat) (hk : Kept r0 s) :
    Kept r0 (State.clockPairSend s d pix t) := by
  unfold State.clockPairSend
  try dsimp only
  repeat' first
    | with_reducible (first
        | assumption | apply State.unitSend_kept)
    | with_reducible intro _
    | dsimp only
    | split

theorem execClockPairSend_kept {r0 s : State} (d : Fin 2) (pix : Nat) (t : Nat) (hk : Kept r0 s) : ∀ s1, execClockPairSend d pix t s = .next s1 → Kept r0 s1 := by
  intro s1 e; unfold execClockPairSend at e; injection e with e; subst e
  try dsimp only
  repeat' first
    | with_reducible (first
        | assumption | apply State.clockPairSend_kept)
    | with_reducible intro _
    | dsimp only
    | split

theorem State.playOut_kept {r0 s : State} (d : Nat) (n : Nat) (hk : Kept r0 s) :
    Kept r0 (State.playOut s d n) := by
  unfold State.playOut
  try dsimp only
  repeat' first
    | with_reducible (first
        | assumption | apply State.emit_kept | apply State.modDp_kept)
    | with_reducible intro _
    | dsimp only
    | split

theorem State.bufAdd_kept {r0 s : State} (d : Nat) (l : List Byte) (hk : Kept r0 s) :
    Kept r0 (State.bufAdd s d l) := by
  unfold State.bufAdd
  try dsimp only
  repeat' first
    | with_reducible (first
        | assumption | apply State.modDp_kept | apply State.raiseOnce_kept | apply State.bump_kept)
    | with_reducible intro _
    | dsimp only
    | split

theorem State.lineShow_kept {r0 s : State} (d : Nat) (l : List Byte) (hk : Kept r0 s) :
    Kept r0 (State.lineShow s d l) := by
  unfold State.lineShow
  try dsimp only
  repeat' first
    | with_reducible (first
        | assumption | apply State.bufAdd_kept | apply State.modDp_kept)
    | with_reducible intro _
    | dsimp only
    | split

theorem State.lineConceal_kept {r0 s : State} (d : Nat) (data : List Byte) (lost : List Nat) (hk : Kept r0 s) :
    Kept r0 (State.lineConceal s d data lost) := by
  unfold State.lineConceal
  try dsimp only
  repeat' first
    | with_reducible (first
        | assumption | apply State.lineShow_kept | apply State.raiseOnce_kept | apply State.bump_kept)
    | with_reducible intro _
    | dsimp only
    | split

theorem State.unitWhole_kept {r0 s : State} (d : Nat) (u : List Byte) (hk : Kept r0 s) :
    Kept r0 (State.unitWhole s d u) := by
  unfold State.unitWhole
  try dsimp only
  repeat' first
    | with_reducible (first
        | assumption | apply State.lineShow_kept | apply State.setBit_kept | apply State.modDp_kept | apply State.emit_kept)
    | with_reducible intro _
    | dsimp only
    | split

theorem State.unitLost_kept {r0 s : State} (d : Nat) (u : List Byte) (lost : List Nat) (hk : Kept r0 s) :
    Kept r0 (State.unitLost s d u lost) := by
  unfold State.unitLost
  try dsimp only
  repeat' first
    | with_reducible (first
        | assumption | apply State.bump_kept | apply State.lineConceal_kept)
    | with_reducible intro _
    | dsimp only
    | split

theorem State.videoUnit_kept {r0 s : State} (d : Nat) (u : List Byte) (lost : List Nat) (played : Nat) (hk : Kept r0 s) :
    Kept r0 (State.videoUnit s d u lost played) := by
  unfold State.videoUnit
  try dsimp only
  repeat' first
    | with_reducible (first
        | assumption | apply State.playOut_kept | apply State.wr_kept | apply State.unitWhole_kept | apply State.unitLost_kept)
    | with_reducible intro _
    | dsimp only
    | split

theorem execVideoUnitReceive_kept {r0 s : State} (d : Fin 2) (unit : List Byte) (lost : List Nat) (played : Nat) (hk : Kept r0 s) : ∀ s1, execVideoUnitReceive d unit lost played s = .next s1 → Kept r0 s1 := by
  intro s1 e; unfold execVideoUnitReceive at e; injection e with e; subst e
  try dsimp only
  repeat' first
    | with_reducible (first
        | assumption | apply State.videoUnit_kept)
    | with_reducible intro _
    | dsimp only
    | split

theorem State.clockPair_kept {r0 s : State} (d : Nat) (pix : Nat) (t : Nat) (err : Nat) (hk : Kept r0 s) :
    Kept r0 (State.clockPair s d pix t err) := by
  unfold State.clockPair
  try dsimp only
  repeat' first
    | with_reducible (first
        | assumption | apply State.modDp_kept | apply State.raise_kept | apply State.wr_kept)
    | with_reducible intro _
    | dsimp only
    | split

theorem execClockPairReceive_kept {r0 s : State} (d : Fin 2) (pix : Nat) (t : Nat) (err : Nat) (hk : Kept r0 s) : ∀ s1, execClockPairReceive d pix t err s = .next s1 → Kept r0 s1 := by
  intro s1 e; unfold execClockPairReceive at e; injection e with e; subst e
  try dsimp only
  repeat' first
    | with_reducible (first
        | assumption | apply State.clockPair_kept)
    | with_reducible intro _
    | dsimp only
    | split

theorem State.clockPairLost_kept {r0 s : State} (d : Nat) (hk : Kept r0 s) :
    Kept r0 (State.clockPairLost s d) := by
  unfold State.clockPairLost
  try dsimp only
  repeat' first
    | with_reducible (first
        | assumption | apply State.raise_kept | apply State.wr_kept | apply State.modDp_kept)
    | with_reducible intro _
    | dsimp only
    | split

theorem execClockPairLost_kept {r0 s : State} (d : Fin 2) (hk : Kept r0 s) : ∀ s1, execClockPairLost d s = .next s1 → Kept r0 s1 := by
  intro s1 e; unfold execClockPairLost at e; injection e with e; subst e
  try dsimp only
  repeat' first
    | with_reducible (first
        | assumption | apply State.clockPairLost_kept)
    | with_reducible intro _
    | dsimp only
    | split

theorem State.underrun_kept {r0 s : State} (d : Nat) (hk : Kept r0 s) :
    Kept r0 (State.underrun s d) := by
  unfold State.underrun
  try dsimp only
  repeat' first
    | with_reducible (first
        | assumption | apply State.raiseOnce_kept | apply State.bump_kept | apply State.playOut_kept)
    | with_reducible intro _
    | dsimp only
    | split

theorem execPlayoutUnderrun_kept {r0 s : State} (d : Fin 2) (hk : Kept r0 s) : ∀ s1, execPlayoutUnderrun d s = .next s1 → Kept r0 s1 := by
  intro s1 e; unfold execPlayoutUnderrun at e; injection e with e; subst e
  try dsimp only
  repeat' first
    | with_reducible (first
        | assumption | apply State.underrun_kept)
    | with_reducible intro _
    | dsimp only
    | split

theorem State.auxSend_kept {r0 s : State} (d : Nat) (b : List Byte) (hk : Kept r0 s) :
    Kept r0 (State.auxSend s d b) := by
  unfold State.auxSend
  try dsimp only
  repeat' first
    | with_reducible (first
        | assumption | apply State.endpointSend_kept)
    | with_reducible intro _
    | dsimp only
    | split

theorem State.auxAnswer_kept {r0 s : State} (d : Nat) (code : Nat) (data : List Byte) (hk : Kept r0 s) :
    Kept r0 (State.auxAnswer s d code data) := by
  unfold State.auxAnswer
  try dsimp only
  repeat' first
    | with_reducible (first
        | assumption | apply State.emit_kept | apply State.bump_kept)
    | with_reducible intro _
    | dsimp only
    | split

theorem State.ownLink_kept {r0 s : State} (d : Nat) (cmd : Nat) (addr : Nat) (len : Nat) (data : List Byte) (hk : Kept r0 s) :
    Kept r0 (State.ownLink s d cmd addr len data) := by
  unfold State.ownLink
  try dsimp only
  repeat' first
    | with_reducible (first
        | assumption | apply State.auxAnswer_kept | apply State.drew_kept | apply State.modDp_kept | apply Kept.foldl)
    | with_reducible intro _
    | dsimp only
    | split

theorem State.auxForward_kept {r0 s : State} (d : Nat) (cmd : Nat) (addr : Nat) (len : Nat) (data : List Byte) (hk : Kept r0 s) :
    Kept r0 (State.auxForward s d cmd addr len data) := by
  unfold State.auxForward
  try dsimp only
  repeat' first
    | with_reducible (first
        | assumption | apply State.modDp_kept | apply State.auxAnswer_kept | apply State.bump_kept | apply State.auxSend_kept)
    | with_reducible intro _
    | dsimp only
    | split

theorem State.auxRequest_kept {r0 s : State} (d : Nat) (cmd : Nat) (addr : Nat) (len : Nat) (data : List Byte) (hk : Kept r0 s) :
    Kept r0 (State.auxRequest s d cmd addr len data) := by
  unfold State.auxRequest
  try dsimp only
  repeat' first
    | with_reducible (first
        | assumption | apply State.auxForward_kept | apply State.auxAnswer_kept | apply State.ownLink_kept)
    | with_reducible intro _
    | dsimp only
    | split

theorem execAuxRequest_kept {r0 s : State} (d : Fin 2) (cmd : Fin 16) (addr : Fin 1048576) (len : Fin 17) (data : List Byte) (hk : Kept r0 s) : ∀ s1, execAuxRequest d cmd addr len data s = .next s1 → Kept r0 s1 := by
  intro s1 e; unfold execAuxRequest at e; injection e with e; subst e
  try dsimp only
  repeat' first
    | with_reducible (first
        | assumption | apply State.auxRequest_kept)
    | with_reducible intro _
    | dsimp only
    | split

theorem State.edidAccess_kept {r0 s : State} (d : Nat) (cmd : Nat) (addr : Nat) (len : Nat) (data : List Byte) (hk : Kept r0 s) :
    Kept r0 (State.edidAccess s d cmd addr len data).2 := by
  unfold State.edidAccess
  try dsimp only
  repeat' first
    | with_reducible (first
        | assumption | apply State.modDp_kept)
    | with_reducible intro _
    | dsimp only
    | split

theorem State.auxMessageReceive_kept {r0 s : State} (d : Nat) (b : List Byte) (code : Nat) (answer : List Byte) (hk : Kept r0 s) :
    Kept r0 (State.auxMessageReceive s d b code answer) := by
  unfold State.auxMessageReceive
  try dsimp only
  repeat' first
    | with_reducible (first
        | assumption | apply State.edidAccess_kept | apply State.auxSend_kept)
    | with_reducible intro _
    | dsimp only
    | split

theorem execAuxMessageReceive_kept {r0 s : State} (d : Fin 2) (msg : List Byte) (code : Fin 16) (answer : List Byte) (hk : Kept r0 s) : ∀ s1, execAuxMessageReceive d msg code answer s = .next s1 → Kept r0 s1 := by
  intro s1 e; unfold execAuxMessageReceive at e; injection e with e; subst e
  try dsimp only
  repeat' first
    | with_reducible (first
        | assumption | apply State.auxMessageReceive_kept)
    | with_reducible intro _
    | dsimp only
    | split

theorem State.auxReply_kept {r0 s : State} (d : Nat) (b : List Byte) (hk : Kept r0 s) :
    Kept r0 (State.auxReply s d b) := by
  unfold State.auxReply
  try dsimp only
  repeat' first
    | with_reducible (first
        | assumption | apply State.modDp_kept)
    | with_reducible intro _
    | dsimp only
    | split

theorem execAuxReplyReceive_kept {r0 s : State} (d : Fin 2) (msg : List Byte) (hk : Kept r0 s) : ∀ s1, execAuxReplyReceive d msg s = .next s1 → Kept r0 s1 := by
  intro s1 e; unfold execAuxReplyReceive at e; injection e with e; subst e
  try dsimp only
  repeat' first
    | with_reducible (first
        | assumption | apply State.auxReply_kept)
    | with_reducible intro _
    | dsimp only
    | split

theorem State.auxFail_kept {r0 s : State} (d : Nat) (hk : Kept r0 s) :
    Kept r0 (State.auxFail s d) := by
  unfold State.auxFail
  try dsimp only
  repeat' first
    | with_reducible (first
        | assumption | apply State.bump_kept | apply State.modDp_kept)
    | with_reducible intro _
    | dsimp only
    | split

theorem execAuxTimeout_kept {r0 s : State} (d : Fin 2) (hk : Kept r0 s) : ∀ s1, execAuxTimeout d s = .next s1 → Kept r0 s1 := by
  intro s1 e; unfold execAuxTimeout at e; injection e with e; subst e
  try dsimp only
  repeat' first
    | with_reducible (first
        | assumption | apply State.auxFail_kept)
    | with_reducible intro _
    | dsimp only
    | split

theorem State.dpTrained_kept {r0 s : State} (d : Nat) (ok : Bool) (fec : Bool) (hk : Kept r0 s) :
    Kept r0 (State.dpTrained s d ok fec) := by
  unfold State.dpTrained
  try dsimp only
  repeat' first
    | with_reducible (first
        | assumption | apply State.setBit_kept | apply State.wr_kept | apply State.raise_kept)
    | with_reducible intro _
    | dsimp only
    | split

theorem State.dpAnnounce_kept {r0 s : State} (d : Nat) (hk : Kept r0 s) :
    Kept r0 (State.dpAnnounce s d) := by
  unfold State.dpAnnounce
  try dsimp only
  repeat' first
    | with_reducible (first
        | assumption | apply State.modDp_kept | apply State.auxSend_kept | apply State.raise_kept | apply State.wr_kept
        | apply State.reportPresence_kept)
    | with_reducible intro _
    | dsimp only
    | split

theorem State.dpTrain_kept {r0 s : State} (d : Nat) (ok : Bool) (fec : Bool) (hk : Kept r0 s) :
    Kept r0 (State.dpTrain s d ok fec) := by
  unfold State.dpTrain
  try dsimp only
  repeat' first
    | with_reducible (first
        | assumption | apply State.dpTrained_kept | apply State.dpAnnounce_kept)
    | with_reducible intro _
    | dsimp only
    | split

theorem State.sinkAttach_kept {r0 s : State} (d : Nat) (caps : List Byte) (edid : List Byte) (ok : Bool) (fec : Bool) (hk : Kept r0 s) :
    Kept r0 (State.sinkAttach s d caps edid ok fec) := by
  unfold State.sinkAttach
  try dsimp only
  repeat' first
    | with_reducible (first
        | assumption | apply State.dpTrain_kept | apply State.wr_kept | apply State.modDp_kept)
    | with_reducible intro _
    | dsimp only
    | split

theorem execSinkAttach_kept {r0 s : State} (d : Fin 2) (caps : List Byte) (edid : List Byte) (ok : Bool) (fec : Bool) (hk : Kept r0 s) : ∀ s1, execSinkAttach d caps edid ok fec s = .next s1 → Kept r0 s1 := by
  intro s1 e; unfold execSinkAttach at e; injection e with e; subst e
  try dsimp only
  repeat' first
    | with_reducible (first
        | assumption | apply State.sinkAttach_kept)
    | with_reducible intro _
    | dsimp only
    | split

theorem execDpTrainRetry_kept {r0 s : State} (d : Fin 2) (ok : Bool) (fec : Bool) (hk : Kept r0 s) : ∀ s1, execDpTrainRetry d ok fec s = .next s1 → Kept r0 s1 := by
  intro s1 e; unfold execDpTrainRetry at e; injection e with e; subst e
  try dsimp only
  repeat' first
    | with_reducible (first
        | assumption | apply State.dpTrain_kept)
    | with_reducible intro _
    | dsimp only
    | split

theorem State.sinkDetach_kept {r0 s : State} (d : Nat) (hk : Kept r0 s) :
    Kept r0 (State.sinkDetach s d) := by
  unfold State.sinkDetach
  try dsimp only
  repeat' first
    | with_reducible (first
        | assumption | apply State.wr_kept | apply State.modDp_kept | apply State.reportPresence_kept | apply State.auxSend_kept | apply Kept.foldl)
    | with_reducible intro _
    | dsimp only
    | split

theorem execSinkDetach_kept {r0 s : State} (d : Fin 2) (hk : Kept r0 s) : ∀ s1, execSinkDetach d s = .next s1 → Kept r0 s1 := by
  intro s1 e; unfold execSinkDetach at e; injection e with e; subst e
  try dsimp only
  repeat' first
    | with_reducible (first
        | assumption | apply State.sinkDetach_kept)
    | with_reducible intro _
    | dsimp only
    | split

theorem State.sinkIrq_kept {r0 s : State} (d : Nat) (link : Bool) (ok : Bool) (fec : Bool) (vector : Nat) (hk : Kept r0 s) :
    Kept r0 (State.sinkIrq s d link ok fec vector) := by
  unfold State.sinkIrq
  try dsimp only
  repeat' first
    | with_reducible (first
        | assumption | apply State.dpTrain_kept | apply State.auxSend_kept | apply State.modDp_kept)
    | with_reducible intro _
    | dsimp only
    | split

theorem execSinkIrqHpd_kept {r0 s : State} (d : Fin 2) (link : Bool) (ok : Bool) (fec : Bool) (vector : Fin 256) (hk : Kept r0 s) : ∀ s1, execSinkIrqHpd d link ok fec vector s = .next s1 → Kept r0 s1 := by
  intro s1 e; unfold execSinkIrqHpd at e; injection e with e; subst e
  try dsimp only
  repeat' first
    | with_reducible (first
        | assumption | apply State.sinkIrq_kept)
    | with_reducible intro _
    | dsimp only
    | split

theorem State.hpdRefresh_kept {r0 s : State} (d : Nat) (hk : Kept r0 s) :
    Kept r0 (State.hpdRefresh s d) := by
  unfold State.hpdRefresh
  try dsimp only
  repeat' first
    | with_reducible (first
        | assumption | apply State.emit_kept | apply State.raise_kept | apply State.wr_kept | apply State.auxFail_kept)
    | with_reducible intro _
    | dsimp only
    | split

theorem State.rootAttach_kept {r0 s : State} (d : Nat) (b : List Byte) (hk : Kept r0 s) :
    Kept r0 (State.rootAttach s d b) := by
  unfold State.rootAttach
  try dsimp only
  repeat' first
    | with_reducible (first
        | assumption | apply State.hpdRefresh_kept | apply State.modDp_kept | apply State.emit_kept)
    | with_reducible intro _
    | dsimp only
    | split

theorem execRootAttachReceive_kept {r0 s : State} (d : Fin 2) (msg : List Byte) (hk : Kept r0 s) : ∀ s1, execRootAttachReceive d msg s = .next s1 → Kept r0 s1 := by
  intro s1 e; unfold execRootAttachReceive at e; injection e with e; subst e
  try dsimp only
  repeat' first
    | with_reducible (first
        | assumption | apply State.rootAttach_kept)
    | with_reducible intro _
    | dsimp only
    | split

theorem State.dpPath_kept {r0 s : State} (hub : Nat) (away : Bool) (hk : Kept r0 s) :
    Kept r0 (State.dpPath s hub away) := by
  unfold State.dpPath
  try dsimp only
  repeat' first
    | with_reducible (first
        | assumption | apply State.modDp_kept | apply Kept.foldl)
    | with_reducible intro _
    | dsimp only
    | split

theorem State.dpLinkChange_kept {r0 s : State} (hk : Kept r0 s) :
    Kept r0 (State.dpLinkChange s) := by
  unfold State.dpLinkChange
  try dsimp only
  repeat' first
    | with_reducible (first
        | assumption | apply State.hpdRefresh_kept | apply Kept.foldl)
    | with_reducible intro _
    | dsimp only
    | split

end Sys2Proof.Machine
end

