-- ==== Sys2Proof/Laws/Kept/PcieOps.lean ====
section
/-! SUPPORT. What the operations of Machine/PcieOps.lean keep. -/
namespace Sys2Proof.Machine

theorem State.modPcb_kept {r0 s : State} (f : Pcb → Pcb) (hk : Kept r0 s) :
    Kept r0 (State.modPcb s f) := by
  unfold State.modPcb
  try dsimp only
  repeat' first
    | with_reducible (first
        | assumption)
    | (with_reducible apply Kept.lit
       first
         | with_reducible (first
             | assumption)
         | split)
    | with_reducible intro _
    | dsimp only
    | split

theorem State.setVd_kept {r0 s : State} (c : Nat) (v : Vdsp) (hk : Kept r0 s) :
    Kept r0 (State.setVd s c v) := by
  unfold State.setVd
  try dsimp only
  repeat' first
    | with_reducible (first
        | assumption | apply State.modPcb_kept)
    | with_reducible intro _
    | dsimp only
    | split

theorem State.modVd_kept {r0 s : State} (c : Nat) (f : Vdsp → Vdsp) (hk : Kept r0 s) :
    Kept r0 (State.modVd s c f) := by
  unfold State.modVd
  try dsimp only
  repeat' first
    | with_reducible (first
        | assumption | apply State.setVd_kept)
    | with_reducible intro _
    | dsimp only
    | split

theorem State.pcieLink_kept {r0 s : State} (b : List Byte) (hk : Kept r0 s) :
    Kept r0 (State.pcieLink s b) := by
  unfold State.pcieLink
  try dsimp only
  repeat' first
    | with_reducible (first
        | assumption | apply State.emit_kept)
    | with_reducible intro _
    | dsimp only
    | split

theorem State.itemSend_kept {r0 s : State} (c : Nat) (sub : Nat) (ityp : Nat) (y : List Byte) (hk : Kept r0 s) :
    Kept r0 (State.itemSend s c sub ityp y) := by
  unfold State.itemSend
  try dsimp only
  repeat' first
    | with_reducible (first
        | assumption | apply State.endpointSend_kept)
    | with_reducible intro _
    | dsimp only
    | split

theorem State.vout_kept {r0 s : State} (c : Nat) (hk : Kept r0 s) :
    Kept r0 (State.vout s c) := by
  unfold State.vout
  try dsimp only
  repeat' first
    | with_reducible (first
        | assumption | apply State.wr_kept)
    | with_reducible intro _
    | dsimp only
    | split

theorem State.itemGo_kept {r0 s : State} (c : Nat) (sub : Nat) (b : List Byte) (hk : Kept r0 s) :
    Kept r0 (State.itemGo s c sub b) := by
  unfold State.itemGo
  try dsimp only
  repeat' first
    | with_reducible (first
        | assumption | apply State.modVd_kept | apply State.itemSend_kept)
    | with_reducible intro _
    | dsimp only
    | split

theorem State.drainItems_kept {r0 s : State} (c : Nat) (l : List (Nat × List Byte)) (any : Bool) (pst : Bool) (hk : Kept r0 s) :
    Kept r0 (State.drainItems s c l any pst).1 := by
  induction l generalizing s any pst with
  | nil => exact hk
  | cons e r ih =>
    unfold State.drainItems
    dsimp only
    generalize (_ && _) = b
    cases b with
    | true => exact ih _ _ (State.itemGo_kept _ _ _ hk)
    | false => exact ih _ _ hk

theorem State.pcieDrain_kept {r0 s : State} (c : Nat) (hk : Kept r0 s) :
    Kept r0 (State.pcieDrain s c) := by
  unfold State.pcieDrain
  try dsimp only
  repeat' first
    | with_reducible (first
        | assumption | apply State.drainItems_kept | apply State.vout_kept | apply State.modVd_kept)
    | with_reducible intro _
    | dsimp only
    | split

theorem State.itemAccept_kept {r0 s : State} (c : Nat) (sub : Nat) (b : List Byte) (hk : Kept r0 s) :
    Kept r0 (State.itemAccept s c sub b) := by
  unfold State.itemAccept
  try dsimp only
  repeat' first
    | with_reducible (first
        | assumption | apply State.pcieDrain_kept | apply State.modVd_kept)
    | with_reducible intro _
    | dsimp only
    | split

theorem State.npEnter_kept {r0 s : State} (c : Nat) (l : List (List Byte)) (hk : Kept r0 s) :
    Kept r0 (State.npEnter s c l) := by
  induction l generalizing s with
  | nil => exact State.modVd_kept _ _ hk
  | cons b r ih =>
    unfold State.npEnter
    split
    · exact ih (State.itemAccept_kept _ _ _ (State.modVd_kept _ _ hk))
    · exact State.modVd_kept _ _ hk

theorem State.npAccept_kept {r0 s : State} (c : Nat) (b : List Byte) (hk : Kept r0 s) :
    Kept r0 (State.npAccept s c b) := by
  unfold State.npAccept
  try dsimp only
  repeat' first
    | with_reducible (first
        | assumption | apply State.npEnter_kept)
    | with_reducible intro _
    | dsimp only
    | split

theorem State.npDone_kept {r0 s : State} (c : Nat) (key : Nat) (hk : Kept r0 s) :
    Kept r0 (State.npDone s c key) := by
  unfold State.npDone
  try dsimp only
  repeat' first
    | with_reducible (first
        | assumption | apply State.modVd_kept | apply State.vout_kept | apply State.npEnter_kept)
    | with_reducible intro _
    | dsimp only
    | split

theorem State.cplLate_kept {r0 s : State} (hk : Kept r0 s) :
    Kept r0 (State.cplLate s) := by
  unfold State.cplLate
  try dsimp only
  repeat' first
    | with_reducible (first
        | assumption | apply State.bump_kept)
    | with_reducible intro _
    | dsimp only
    | split

theorem State.pcieUnsup_kept {r0 s : State} (hk : Kept r0 s) :
    Kept r0 (State.pcieUnsup s) := by
  unfold State.pcieUnsup
  try dsimp only
  repeat' first
    | with_reducible (first
        | assumption | apply State.raiseOnce_kept | apply State.bump_kept)
    | with_reducible intro _
    | dsimp only
    | split

theorem State.pcieErr_kept {r0 s : State} (c : Nat) (cause : Nat) (b : List Byte) (hk : Kept r0 s) :
    Kept r0 (State.pcieErr s c cause b) := by
  unfold State.pcieErr
  try dsimp only
  repeat' first
    | with_reducible (first
        | assumption | apply State.modVd_kept | apply State.drew_kept | apply State.itemSend_kept | apply State.bump_kept)
    | with_reducible intro _
    | dsimp only
    | split

theorem State.pcieDropP_kept {r0 s : State} (c : Nat) (b : List Byte) (hk : Kept r0 s) :
    Kept r0 (State.pcieDropP s c b) := by
  unfold State.pcieDropP
  try dsimp only
  repeat' first
    | with_reducible (first
        | assumption | apply State.postedError_kept | apply State.bump_kept | apply State.drew_kept)
    | with_reducible intro _
    | dsimp only
    | split

theorem State.setCfg_kept {r0 s : State} (fn : Nat) (w : Nat) (v : Nat) (hk : Kept r0 s) :
    Kept r0 (State.setCfg s fn w v) := by
  unfold State.setCfg
  try dsimp only
  repeat' first
    | with_reducible (first
        | assumption | apply State.modPcb_kept)
    | with_reducible intro _
    | dsimp only
    | split

theorem State.cfgWrite_kept {r0 s : State} (fn : Nat) (dw : Nat) (m : Nat) (data : Nat) (hk : Kept r0 s) :
    Kept r0 (State.cfgWrite s fn dw m data) := by
  unfold State.cfgWrite
  try dsimp only
  repeat' first
    | with_reducible (first
        | assumption | apply State.setCfg_kept)
    | with_reducible intro _
    | dsimp only
    | split

theorem State.raDrop_kept {r0 s : State} (p : RaEnt → Bool) (hk : Kept r0 s) :
    Kept r0 (State.raDrop s p) := by
  unfold State.raDrop
  try dsimp only
  repeat' first
    | with_reducible (first
        | assumption | apply State.bump_kept | apply State.modPcb_kept)
    | with_reducible intro _
    | dsimp only
    | split

theorem State.raAdd_kept {r0 s : State} (a : Nat) (d : List Byte) (hk : Kept r0 s) :
    Kept r0 (State.raAdd s a d) := by
  unfold State.raAdd
  try dsimp only
  repeat' first
    | with_reducible (first
        | assumption | apply State.modPcb_kept | apply State.raDrop_kept)
    | with_reducible intro _
    | dsimp only
    | split

theorem State.cplFromLink_kept {r0 s : State} (c : Nat) (b : List Byte) (hk : Kept r0 s) :
    Kept r0 (State.cplFromLink s c b) := by
  unfold State.cplFromLink
  try dsimp only
  repeat' first
    | with_reducible (first
        | assumption | apply State.cplLate_kept | apply State.modVd_kept | apply State.itemAccept_kept | apply State.raAdd_kept)
    | with_reducible intro _
    | dsimp only
    | split

theorem State.toRequester_kept {r0 s : State} (b : List Byte) (hk : Kept r0 s) :
    Kept r0 (State.toRequester s b) := by
  unfold State.toRequester
  try dsimp only
  repeat' first
    | with_reducible (first
        | assumption | apply State.cplFromLink_kept | apply State.pcieLink_kept)
    | with_reducible intro _
    | dsimp only
    | split

theorem State.intxSet_kept {r0 s : State} (c : Nat) (w : Nat) (on : Bool) (hk : Kept r0 s) :
    Kept r0 (State.intxSet s c w on) := by
  unfold State.intxSet
  try dsimp only
  repeat' first
    | with_reducible (first
        | assumption | apply State.modPcb_kept | apply State.pcieLink_kept)
    | with_reducible intro _
    | dsimp only
    | split

theorem State.hotPlug_kept {r0 s : State} (c : Nat) (hk : Kept r0 s) :
    Kept r0 (State.hotPlug s c) := by
  unfold State.hotPlug
  try dsimp only
  repeat' first
    | with_reducible (first
        | assumption | apply State.setCfg_kept | apply State.pcieLink_kept)
    | with_reducible intro _
    | dsimp only
    | split

theorem State.notePresent_kept {r0 s : State} (c : Nat) (hk : Kept r0 s) :
    Kept r0 (State.notePresent s c) := by
  unfold State.notePresent
  try dsimp only
  repeat' first
    | with_reducible (first
        | assumption | apply State.setBit_kept | apply State.vout_kept | apply State.wr_kept)
    | with_reducible intro _
    | dsimp only
    | split

theorem State.vdspArrive_kept {r0 s : State} (c : Nat) (hk : Kept r0 s) :
    Kept r0 (State.vdspArrive s c) := by
  unfold State.vdspArrive
  try dsimp only
  repeat' first
    | with_reducible (first
        | assumption | apply State.notePresent_kept | apply State.setVd_kept | apply State.hotPlug_kept | apply State.raise_kept)
    | with_reducible intro _
    | dsimp only
    | split

theorem State.vdspDepart_kept {r0 s : State} (c : Nat) (hk : Kept r0 s) :
    Kept r0 (State.vdspDepart s c) := by
  unfold State.vdspDepart
  try dsimp only
  repeat' first
    | with_reducible (first
        | assumption | apply State.notePresent_kept | apply State.setVd_kept | apply State.toRequester_kept | apply State.pcieDropP_kept
        | apply State.intxSet_kept | apply State.raDrop_kept | apply State.hotPlug_kept | apply State.raise_kept | apply Kept.foldl)
    | with_reducible intro _
    | dsimp only
    | split

theorem State.vdspRefresh_kept {r0 s : State} (c : Nat) (hk : Kept r0 s) :
    Kept r0 (State.vdspRefresh s c) := by
  unfold State.vdspRefresh
  try dsimp only
  repeat' first
    | with_reducible (first
        | assumption | apply State.setBit_kept | apply State.vdspArrive_kept | apply State.vdspDepart_kept)
    | with_reducible intro _
    | dsimp only
    | split

theorem State.pcieRefresh_kept {r0 s : State} (hk : Kept r0 s) :
    Kept r0 (State.pcieRefresh s) := by
  unfold State.pcieRefresh
  try dsimp only
  repeat' first
    | with_reducible (first
        | assumption | apply State.vdspRefresh_kept | apply Kept.foldl)
    | with_reducible intro _
    | dsimp only
    | split

theorem State.vdspReport_kept {r0 s : State} (hub : Nat) (ssd : Bool) (ready : Bool) (speed : Nat) (width : Nat) (hk : Kept r0 s) :
    Kept r0 (State.vdspReport s hub ssd ready speed width) := by
  unfold State.vdspReport
  try dsimp only
  repeat' first
    | with_reducible (first
        | assumption | apply State.modPcb_kept | apply State.wr_kept | apply State.setBit_kept | apply State.vdspRefresh_kept | apply Kept.foldl)
    | with_reducible intro _
    | dsimp only
    | split

theorem State.vdspHubLost_kept {r0 s : State} (hub : Nat) (hk : Kept r0 s) :
    Kept r0 (State.vdspHubLost s hub) := by
  unfold State.vdspHubLost
  try dsimp only
  repeat' first
    | with_reducible (first
        | assumption | apply State.vdspReport_kept)
    | with_reducible intro _
    | dsimp only
    | split

theorem State.setPerst_kept {r0 s : State} (low : Bool) (hk : Kept r0 s) :
    Kept r0 (State.setPerst s low) := by
  unfold State.setPerst
  try dsimp only
  repeat' first
    | with_reducible (first
        | assumption | apply State.emit_kept | apply State.setBit_kept | apply State.modPcb_kept)
    | with_reducible intro _
    | dsimp only
    | split

theorem State.pcieLinkOff_kept {r0 s : State} (hk : Kept r0 s) :
    Kept r0 (State.pcieLinkOff s) := by
  unfold State.pcieLinkOff
  try dsimp only
  repeat' first
    | with_reducible (first
        | assumption | apply State.wr_kept)
    | with_reducible intro _
    | dsimp only
    | split

end Sys2Proof.Machine
end

