-- ==== Sys2Proof/Laws/Kept/Pcie.lean ====
section
/-! SUPPORT. What the operations of Machine/Pcie.lean keep. -/
namespace Sys2Proof.Machine

theorem State.pcieForward_kept {r0 s : State} (c : Nat) (b : List Byte) (hk : Kept r0 s) :
    Kept r0 (State.pcieForward s c b) := by
  unfold State.pcieForward
  try dsimp only
  repeat' first
    | with_reducible (first
        | assumption | apply State.cplLate_kept | apply State.pcieDropP_kept | apply State.toRequester_kept | apply State.cplFromLink_kept
        | apply State.itemAccept_kept | apply State.npAccept_kept)
    | with_reducible intro _
    | dsimp only
    | split

theorem State.cfgProxy_kept {r0 s : State} (fn : Nat) (b : List Byte) (hk : Kept r0 s) :
    Kept r0 (State.cfgProxy s fn b) := by
  unfold State.cfgProxy
  try dsimp only
  repeat' first
    | with_reducible (first
        | assumption | apply State.pcieLink_kept | apply State.cfgWrite_kept | apply State.drew_kept)
    | with_reducible intro _
    | dsimp only
    | split

theorem State.rootCfg_kept {r0 s : State} (b : List Byte) (hk : Kept r0 s) :
    Kept r0 (State.rootCfg s b) := by
  unfold State.rootCfg
  try dsimp only
  repeat' first
    | with_reducible (first
        | assumption | apply State.cfgProxy_kept | apply State.pcieLink_kept | apply State.pcieForward_kept)
    | with_reducible intro _
    | dsimp only
    | split

theorem State.rootMem_kept {r0 s : State} (b : List Byte) (hk : Kept r0 s) :
    Kept r0 (State.rootMem s b) := by
  unfold State.rootMem
  try dsimp only
  repeat' first
    | with_reducible (first
        | assumption | apply State.pcieForward_kept | apply State.postedError_kept | apply State.drew_kept | apply State.pcieLink_kept)
    | with_reducible intro _
    | dsimp only
    | split

theorem State.rootMsg_kept {r0 s : State} (b : List Byte) (hk : Kept r0 s) :
    Kept r0 (State.rootMsg s b) := by
  unfold State.rootMsg
  try dsimp only
  repeat' first
    | with_reducible (first
        | assumption | apply State.itemAccept_kept | apply State.pcieUnsup_kept | apply Kept.foldl)
    | with_reducible intro _
    | dsimp only
    | split

theorem State.nodeMsg_kept {r0 s : State} (b : List Byte) (hk : Kept r0 s) :
    Kept r0 (State.nodeMsg s b) := by
  unfold State.nodeMsg
  try dsimp only
  repeat' first
    | with_reducible (first
        | assumption | apply State.pcieForward_kept | apply State.pcieUnsup_kept)
    | with_reducible intro _
    | dsimp only
    | split

theorem State.pcieTlp_kept {r0 s : State} (b : List Byte) (hk : Kept r0 s) :
    Kept r0 (State.pcieTlp s b) := by
  unfold State.pcieTlp
  try dsimp only
  repeat' first
    | with_reducible (first
        | assumption | apply State.pcieUnsup_kept | apply State.pcieLink_kept | apply State.rootMsg_kept | apply State.nodeMsg_kept
        | apply State.pcieForward_kept | apply State.cplLate_kept | apply State.rootCfg_kept | apply State.rootMem_kept)
    | with_reducible intro _
    | dsimp only
    | split

theorem execPcieTlpReceive_kept {r0 s : State} (b : List Byte) (hk : Kept r0 s) : ∀ s1, execPcieTlpReceive b s = .next s1 → Kept r0 s1 := by
  intro s1 e; unfold execPcieTlpReceive at e; injection e with e; subst e
  try dsimp only
  repeat' first
    | with_reducible (first
        | assumption | apply State.pcieTlp_kept)
    | with_reducible intro _
    | dsimp only
    | split

theorem State.issueNp_kept {r0 s : State} (c : Nat) (r : NpReq) (b : List Byte) (hk : Kept r0 s) :
    Kept r0 (State.issueNp s c r b) := by
  unfold State.issueNp
  try dsimp only
  repeat' first
    | with_reducible (first
        | assumption | apply State.pcieLink_kept | apply State.modVd_kept)
    | with_reducible intro _
    | dsimp only
    | split

theorem State.nodeRead_kept {r0 s : State} (b : List Byte) (hk : Kept r0 s) :
    Kept r0 (State.nodeRead s b) := by
  unfold State.nodeRead
  try dsimp only
  repeat' first
    | with_reducible (first
        | assumption | apply State.bump_kept | apply State.modPcb_kept | apply State.itemAccept_kept | apply State.raDrop_kept
        | apply State.issueNp_kept | apply Kept.foldl)
    | with_reducible intro _
    | dsimp only
    | split

theorem State.nodeNp_kept {r0 s : State} (b : List Byte) (hk : Kept r0 s) :
    Kept r0 (State.nodeNp s b) := by
  unfold State.nodeNp
  try dsimp only
  repeat' first
    | with_reducible (first
        | assumption | apply State.itemAccept_kept | apply State.nodeRead_kept | apply State.issueNp_kept)
    | with_reducible intro _
    | dsimp only
    | split

theorem State.raWrite_kept {r0 s : State} (a : Nat) (n : Nat) (hk : Kept r0 s) :
    Kept r0 (State.raWrite s a n) := by
  unfold State.raWrite
  try dsimp only
  repeat' first
    | with_reducible (first
        | assumption | apply State.modVd_kept | apply State.raDrop_kept)
    | with_reducible intro _
    | dsimp only
    | split

theorem State.nodeP_kept {r0 s : State} (b : List Byte) (inBar : Bool) (hk : Kept r0 s) :
    Kept r0 (State.nodeP s b inBar) := by
  unfold State.nodeP
  try dsimp only
  repeat' first
    | with_reducible (first
        | assumption | apply State.pcieErr_kept | apply State.pcieLink_kept | apply State.raWrite_kept)
    | with_reducible intro _
    | dsimp only
    | split

theorem State.rootP_kept {r0 s : State} (c : Nat) (b : List Byte) (hk : Kept r0 s) :
    Kept r0 (State.rootP s c b) := by
  unfold State.rootP
  try dsimp only
  repeat' first
    | with_reducible (first
        | assumption | apply State.pcieErr_kept | apply State.pcieForward_kept | apply State.intxSet_kept | apply State.pcieLink_kept)
    | with_reducible intro _
    | dsimp only
    | split

theorem State.rootNp_kept {r0 s : State} (c : Nat) (b : List Byte) (hk : Kept r0 s) :
    Kept r0 (State.rootNp s c b) := by
  unfold State.rootNp
  try dsimp only
  repeat' first
    | with_reducible (first
        | assumption | apply State.pcieForward_kept | apply State.modVd_kept | apply State.issueNp_kept | apply State.itemAccept_kept)
    | with_reducible intro _
    | dsimp only
    | split

theorem State.cplItem_kept {r0 s : State} (c : Nat) (b : List Byte) (hk : Kept r0 s) :
    Kept r0 (State.cplItem s c b) := by
  unfold State.cplItem
  try dsimp only
  repeat' first
    | with_reducible (first
        | assumption | apply State.cplLate_kept | apply State.npDone_kept | apply State.modVd_kept | apply State.toRequester_kept)
    | with_reducible intro _
    | dsimp only
    | split

theorem State.tlpItem_kept {r0 s : State} (c : Nat) (sub : Nat) (b : List Byte) (inBar : Bool) (hk : Kept r0 s) :
    Kept r0 (State.tlpItem s c sub b inBar) := by
  unfold State.tlpItem
  try dsimp only
  repeat' first
    | with_reducible (first
        | assumption | apply State.modVd_kept | apply State.cplItem_kept | apply State.rootP_kept | apply State.nodeP_kept
        | apply State.rootNp_kept | apply State.nodeNp_kept)
    | with_reducible intro _
    | dsimp only
    | split

theorem State.errorItem_kept {r0 s : State} (c : Nat) (w : List Byte) (hk : Kept r0 s) :
    Kept r0 (State.errorItem s c w) := by
  unfold State.errorItem
  try dsimp only
  repeat' first
    | with_reducible (first
        | assumption | apply State.logPeWords_kept | apply State.modVd_kept | apply State.setCfg_kept | apply Kept.foldl)
    | with_reducible intro _
    | dsimp only
    | split

theorem State.creditItem_kept {r0 s : State} (c : Nat) (y : List Byte) (hk : Kept r0 s) :
    Kept r0 (State.creditItem s c y) := by
  unfold State.creditItem
  try dsimp only
  repeat' first
    | with_reducible (first
        | assumption | apply State.pcieDrain_kept | apply State.modVd_kept | apply Kept.foldl)
    | with_reducible intro _
    | dsimp only
    | split

theorem State.pcieItem_kept {r0 s : State} (c : Nat) (sub : Nat) (b : List Byte) (inBar : Bool) (hk : Kept r0 s) :
    Kept r0 (State.pcieItem s c sub b inBar) := by
  unfold State.pcieItem
  try dsimp only
  repeat' first
    | with_reducible (first
        | assumption | apply State.pcieUnsup_kept | apply State.pcieErr_kept | apply State.creditItem_kept | apply State.errorItem_kept
        | apply State.tlpItem_kept)
    | with_reducible intro _
    | dsimp only
    | split

theorem execPcieItemReceive_kept {r0 s : State} (c : Fin 31) (sub : Fin 4) (b : List Byte) (inBar : Bool) (hk : Kept r0 s) : ∀ s1, execPcieItemReceive c sub b inBar s = .next s1 → Kept r0 s1 := by
  intro s1 e; unfold execPcieItemReceive at e; injection e with e; subst e
  try dsimp only
  repeat' first
    | with_reducible (first
        | assumption | apply State.pcieItem_kept)
    | with_reducible intro _
    | dsimp only
    | split

theorem execReadAheadExpire_kept {r0 s : State} (a : Nat) (hk : Kept r0 s) : ∀ s1, execReadAheadExpire a s = .next s1 → Kept r0 s1 := by
  intro s1 e; unfold execReadAheadExpire at e; injection e with e; subst e
  try dsimp only
  repeat' first
    | with_reducible (first
        | assumption | apply State.raDrop_kept)
    | with_reducible intro _
    | dsimp only
    | split

theorem State.pcieCreditSend_kept {r0 s : State} (c : Nat) (hk : Kept r0 s) :
    Kept r0 (State.pcieCreditSend s c) := by
  unfold State.pcieCreditSend
  try dsimp only
  repeat' first
    | with_reducible (first
        | assumption | apply State.itemSend_kept)
    | with_reducible intro _
    | dsimp only
    | split

theorem execPcieCreditSend_kept {r0 s : State} (c : Fin 31) (hk : Kept r0 s) : ∀ s1, execPcieCreditSend c s = .next s1 → Kept r0 s1 := by
  intro s1 e; unfold execPcieCreditSend at e; injection e with e; subst e
  try dsimp only
  repeat' first
    | with_reducible (first
        | assumption | apply State.pcieCreditSend_kept)
    | with_reducible intro _
    | dsimp only
    | split

theorem State.npTimeout_kept {r0 s : State} (c : Nat) (key : Nat) (hk : Kept r0 s) :
    Kept r0 (State.npTimeout s c key) := by
  unfold State.npTimeout
  try dsimp only
  repeat' first
    | with_reducible (first
        | assumption | apply State.raiseOnce_kept | apply State.bump_kept | apply State.npDone_kept | apply State.toRequester_kept
        | apply State.modVd_kept)
    | with_reducible intro _
    | dsimp only
    | split

theorem execNpTimeout_kept {r0 s : State} (c : Fin 31) (key : Nat) (hk : Kept r0 s) : ∀ s1, execNpTimeout c key s = .next s1 → Kept r0 s1 := by
  intro s1 e; unfold execNpTimeout at e; injection e with e; subst e
  try dsimp only
  repeat' first
    | with_reducible (first
        | assumption | apply State.npTimeout_kept)
    | with_reducible intro _
    | dsimp only
    | split

theorem State.vdspAsk_kept {r0 s : State} (c : Nat) (hk : Kept r0 s) :
    Kept r0 (State.vdspAsk s c) := by
  unfold State.vdspAsk
  try dsimp only
  repeat' first
    | with_reducible (first
        | assumption | apply State.vdspRefresh_kept | apply State.wr_kept | apply State.svcSend_kept)
    | with_reducible intro _
    | dsimp only
    | split

theorem State.vdspAskAll_kept {r0 s : State} (hk : Kept r0 s) :
    Kept r0 (State.vdspAskAll s) := by
  unfold State.vdspAskAll
  try dsimp only
  repeat' first
    | with_reducible (first
        | assumption | apply State.modPcb_kept | apply State.vdspAsk_kept | apply Kept.foldl)
    | with_reducible intro _
    | dsimp only
    | split

theorem State.vdspReset_kept {r0 s : State} (kind : Nat) (c : Nat) (hk : Kept r0 s) :
    Kept r0 (State.vdspReset s kind c) := by
  unfold State.vdspReset
  try dsimp only
  repeat' first
    | with_reducible (first
        | assumption | apply State.vdspAsk_kept | apply State.vdspAskAll_kept | apply State.raise_kept | apply State.pcieLinkOff_kept
        | apply State.wr_kept)
    | with_reducible intro _
    | dsimp only
    | split

theorem execVdspReset_kept {r0 s : State} (kind : Fin 3) (c : Fin 31) (hk : Kept r0 s) : ∀ s1, execVdspReset kind c s = .next s1 → Kept r0 s1 := by
  intro s1 e; unfold execVdspReset at e; injection e with e; subst e
  try dsimp only
  repeat' first
    | with_reducible (first
        | assumption | apply State.vdspReset_kept)
    | with_reducible intro _
    | dsimp only
    | split

theorem State.pcieResetRequest_kept {r0 s : State} (hk : Kept r0 s) :
    Kept r0 (State.pcieResetRequest s) := by
  unfold State.pcieResetRequest
  try dsimp only
  repeat' first
    | with_reducible (first
        | assumption | apply State.pcieRefresh_kept | apply State.raDrop_kept | apply State.setPerst_kept)
    | with_reducible intro _
    | dsimp only
    | split

theorem execPcieResetRequest_kept {r0 s : State} (hk : Kept r0 s) : ∀ s1, execPcieResetRequest s = .next s1 → Kept r0 s1 := by
  intro s1 e; unfold execPcieResetRequest at e; injection e with e; subst e
  try dsimp only
  repeat' first
    | with_reducible (first
        | assumption | apply State.pcieResetRequest_kept)
    | with_reducible intro _
    | dsimp only
    | split

theorem State.perstRelease_kept {r0 s : State} (hk : Kept r0 s) :
    Kept r0 (State.perstRelease s) := by
  unfold State.perstRelease
  try dsimp only
  repeat' first
    | with_reducible (first
        | assumption | apply State.setPerst_kept)
    | with_reducible intro _
    | dsimp only
    | split

theorem execPerstRelease_kept {r0 s : State} (hk : Kept r0 s) : ∀ s1, execPerstRelease s = .next s1 → Kept r0 s1 := by
  intro s1 e; unfold execPerstRelease at e; injection e with e; subst e
  try dsimp only
  repeat' first
    | with_reducible (first
        | assumption | apply State.perstRelease_kept)
    | with_reducible intro _
    | dsimp only
    | split

theorem State.pcieLinkUp_kept {r0 s : State} (gen : Nat) (width : Nat) (hk : Kept r0 s) :
    Kept r0 (State.pcieLinkUp s gen width) := by
  unfold State.pcieLinkUp
  try dsimp only
  repeat' first
    | with_reducible (first
        | assumption | apply State.raise_kept | apply State.wr_kept | apply State.pcieRefresh_kept | apply State.reportPresence_kept)
    | with_reducible intro _
    | dsimp only
    | split

theorem execPcieLinkUp_kept {r0 s : State} (gen : Fin 5) (width : Fin 5) (hk : Kept r0 s) : ∀ s1, execPcieLinkUp gen width s = .next s1 → Kept r0 s1 := by
  intro s1 e; unfold execPcieLinkUp at e; injection e with e; subst e
  try dsimp only
  repeat' first
    | with_reducible (first
        | assumption | apply State.pcieLinkUp_kept)
    | with_reducible intro _
    | dsimp only
    | split

theorem State.pcieLinkDown_kept {r0 s : State} (hk : Kept r0 s) :
    Kept r0 (State.pcieLinkDown s) := by
  unfold State.pcieLinkDown
  try dsimp only
  repeat' first
    | with_reducible (first
        | assumption | apply State.pcieRefresh_kept | apply State.raise_kept | apply State.pcieLinkOff_kept | apply State.reportPresence_kept)
    | with_reducible intro _
    | dsimp only
    | split

theorem execPcieLinkDown_kept {r0 s : State} (hk : Kept r0 s) : ∀ s1, execPcieLinkDown s = .next s1 → Kept r0 s1 := by
  intro s1 e; unfold execPcieLinkDown at e; injection e with e; subst e
  try dsimp only
  repeat' first
    | with_reducible (first
        | assumption | apply State.pcieLinkDown_kept)
    | with_reducible intro _
    | dsimp only
    | split

end Sys2Proof.Machine
end

