-- ==== Sys2Proof/Laws/Kept/Power.lean ====
section
/-! SUPPORT. What the operations of Machine/Power.lean keep. -/
namespace Sys2Proof.Machine

theorem State.feedValid_kept {r0 s : State} (f : Nat) (hk : Kept r0 s) :
    Kept r0 (State.feedValid s f) := by
  unfold State.feedValid
  try dsimp only
  repeat' first
    | with_reducible (first
        | assumption | apply State.inputStart_kept | apply State.raise_kept | apply State.setFet_kept | apply State.wr_kept)
    | with_reducible intro _
    | dsimp only
    | split

theorem execFeedValid_kept {r0 s : State} (f : Fin 2) (hk : Kept r0 s) : ∀ s1, execFeedValid f s = .next s1 → Kept r0 s1 := by
  intro s1 e; unfold execFeedValid at e; injection e with e; subst e
  try dsimp only
  repeat' first
    | with_reducible (first
        | assumption | apply State.feedValid_kept)
    | with_reducible intro _
    | dsimp only
    | split

theorem execFeedLost_kept {r0 s : State} (f : Fin 2) (hk : Kept r0 s) : ∀ s1, execFeedLost f s = .next s1 → Kept r0 s1 := by
  intro s1 e; unfold execFeedLost at e; injection e with e; subst e
  try dsimp only
  repeat' first
    | with_reducible (first
        | assumption | apply State.feedDrop_kept)
    | with_reducible intro _
    | dsimp only
    | split

theorem State.feedOv_kept {r0 s : State} (f : Nat) (hk : Kept r0 s) :
    Kept r0 (State.feedOv s f) := by
  unfold State.feedOv
  try dsimp only
  repeat' first
    | with_reducible (first
        | assumption | apply State.feedDrop_kept | apply State.raise_kept | apply State.wr_kept)
    | with_reducible intro _
    | dsimp only
    | split

theorem execFeedOv_kept {r0 s : State} (f : Fin 2) (hk : Kept r0 s) : ∀ s1, execFeedOv f s = .next s1 → Kept r0 s1 := by
  intro s1 e; unfold execFeedOv at e; injection e with e; subst e
  try dsimp only
  repeat' first
    | with_reducible (first
        | assumption | apply State.feedOv_kept)
    | with_reducible intro _
    | dsimp only
    | split

theorem execFeedOvExit_kept {r0 s : State} (f : Fin 2) (hk : Kept r0 s) : ∀ s1, execFeedOvExit f s = .next s1 → Kept r0 s1 := by
  intro s1 e; unfold execFeedOvExit at e; injection e with e; subst e
  try dsimp only
  repeat' first
    | with_reducible (first
        | assumption | apply State.wr_kept)
    | with_reducible intro _
    | dsimp only
    | split

theorem State.reverseOff_kept {r0 s : State} (f : Nat) (back : Bool) (hk : Kept r0 s) :
    Kept r0 (State.reverseOff s f back) := by
  unfold State.reverseOff
  try dsimp only
  repeat' first
    | with_reducible (first
        | assumption | apply State.setFet_kept | apply State.raiseOnce_kept | apply State.bump_kept)
    | with_reducible intro _
    | dsimp only
    | split

theorem execReverseTurnOff_kept {r0 s : State} (f : Fin 2) (back : Bool) (hk : Kept r0 s) : ∀ s1, execReverseTurnOff f back s = .next s1 → Kept r0 s1 := by
  intro s1 e; unfold execReverseTurnOff at e; injection e with e; subst e
  try dsimp only
  repeat' first
    | with_reducible (first
        | assumption | apply State.reverseOff_kept)
    | with_reducible intro _
    | dsimp only
    | split

theorem State.rampDone_kept {r0 s : State} (hk : Kept r0 s) :
    Kept r0 (State.rampDone s) := by
  unfold State.rampDone
  try dsimp only
  repeat' first
    | with_reducible (first
        | assumption | apply State.efRefreshAll_kept | apply State.raise_kept | apply State.wr_kept | apply State.modPw_kept)
    | with_reducible intro _
    | dsimp only
    | split

theorem execInputRampDone_kept {r0 s : State} (hk : Kept r0 s) : ∀ s1, execInputRampDone s = .next s1 → Kept r0 s1 := by
  intro s1 e; unfold execInputRampDone at e; injection e with e; subst e
  try dsimp only
  repeat' first
    | with_reducible (first
        | assumption | apply State.rampDone_kept)
    | with_reducible intro _
    | dsimp only
    | split

theorem execInputRampTimeout_kept {r0 s : State} (hk : Kept r0 s) : ∀ s1, execInputRampTimeout s = .next s1 → Kept r0 s1 := by
  intro s1 e; unfold execInputRampTimeout at e; injection e with e; subst e
  try dsimp only
  repeat' first
    | with_reducible (first
        | assumption | apply State.inputFail_kept)
    | with_reducible intro _
    | dsimp only
    | split

theorem State.inputTrip_kept {r0 s : State} (fast : Bool) (hk : Kept r0 s) :
    Kept r0 (State.inputTrip s fast) := by
  unfold State.inputTrip
  try dsimp only
  repeat' first
    | with_reducible (first
        | assumption | apply State.inputFail_kept)
    | with_reducible intro _
    | dsimp only
    | split

theorem execInputTrip_kept {r0 s : State} (fast : Bool) (hk : Kept r0 s) : ∀ s1, execInputTrip fast s = .next s1 → Kept r0 s1 := by
  intro s1 e; unfold execInputTrip at e; injection e with e; subst e
  try dsimp only
  repeat' first
    | with_reducible (first
        | assumption | apply State.inputTrip_kept)
    | with_reducible intro _
    | dsimp only
    | split

theorem execInputRetry_kept {r0 s : State} (hk : Kept r0 s) : ∀ s1, execInputRetry s = .next s1 → Kept r0 s1 := by
  intro s1 e; unfold execInputRetry at e; injection e with e; subst e
  try dsimp only
  repeat' first
    | with_reducible (first
        | assumption | apply State.inputStart_kept | apply State.modPw_kept)
    | with_reducible intro _
    | dsimp only
    | split

theorem execInputHoldClear_kept {r0 s : State} (hk : Kept r0 s) : ∀ s1, execInputHoldClear s = .next s1 → Kept r0 s1 := by
  intro s1 e; unfold execInputHoldClear at e; injection e with e; subst e
  try dsimp only
  repeat' first
    | with_reducible (first
        | assumption | apply State.wr_kept)
    | with_reducible intro _
    | dsimp only
    | split

theorem execInGoodLoss_kept {r0 s : State} (hk : Kept r0 s) : ∀ s1, execInGoodLoss s = .next s1 → Kept r0 s1 := by
  intro s1 e; unfold execInGoodLoss at e; injection e with e; subst e
  try dsimp only
  repeat' first
    | with_reducible (first
        | assumption | apply State.inputStart_kept | apply State.inputOff_kept)
    | with_reducible intro _
    | dsimp only
    | split

theorem execInputFetFail_kept {r0 s : State} (hk : Kept r0 s) : ∀ s1, execInputFetFail s = .next s1 → Kept r0 s1 := by
  intro s1 e; unfold execInputFetFail at e; injection e with e; subst e
  try dsimp only
  repeat' first
    | with_reducible (first
        | assumption | apply State.inputFail_kept)
    | with_reducible intro _
    | dsimp only
    | split

theorem execEfEnable_kept {r0 s : State} (c : Fin 3) (data : Word) (hk : Kept r0 s) : ∀ s1, execEfEnable c data s = .next s1 → Kept r0 s1 := by
  intro s1 e; unfold execEfEnable at e; injection e with e; subst e
  try dsimp only
  repeat' first
    | with_reducible (first
        | assumption | apply State.access_kept | apply State.pwpAccess_kept | apply State.efctlWrite_kept)
    | with_reducible intro _
    | dsimp only
    | split

theorem execEfRampDone_kept {r0 s : State} (c : Fin 3) (hk : Kept r0 s) : ∀ s1, execEfRampDone c s = .next s1 → Kept r0 s1 := by
  intro s1 e; unfold execEfRampDone at e; injection e with e; subst e
  try dsimp only
  repeat' first
    | with_reducible (first
        | assumption | apply State.modEf_kept | apply State.wr_kept)
    | with_reducible intro _
    | dsimp only
    | split

theorem State.sampleAll_kept {r0 s : State} (v : List Nat) (i : List Int) (lim : List Bool) (hk : Kept r0 s) :
    Kept r0 (State.sampleAll s v i lim) := by
  unfold State.sampleAll
  try dsimp only
  repeat' first
    | with_reducible (first
        | assumption | apply State.efSample_kept | apply State.inSample_kept | apply State.telSample_kept | apply State.modPw_kept
        | apply Kept.foldl)
    | with_reducible intro _
    | dsimp only
    | split

theorem execEfSample_kept {r0 s : State} (v : List Nat) (i : List Int) (lim : List Bool) (hk : Kept r0 s) : ∀ s1, execEfSample v i lim s = .next s1 → Kept r0 s1 := by
  intro s1 e; unfold execEfSample at e; injection e with e; subst e
  try dsimp only
  repeat' first
    | with_reducible (first
        | assumption | apply State.sampleAll_kept)
    | with_reducible intro _
    | dsimp only
    | split

theorem execEfTimerTrip_kept {r0 s : State} (c : Fin 3) (hk : Kept r0 s) : ∀ s1, execEfTimerTrip c s = .next s1 → Kept r0 s1 := by
  intro s1 e; unfold execEfTimerTrip at e; injection e with e; subst e
  try dsimp only
  repeat' first
    | with_reducible (first
        | assumption | apply State.efTrip_kept)
    | with_reducible intro _
    | dsimp only
    | split

theorem execEfFastTrip_kept {r0 s : State} (c : Fin 3) (hk : Kept r0 s) : ∀ s1, execEfFastTrip c s = .next s1 → Kept r0 s1 := by
  intro s1 e; unfold execEfFastTrip at e; injection e with e; subst e
  try dsimp only
  repeat' first
    | with_reducible (first
        | assumption | apply State.efTrip_kept)
    | with_reducible intro _
    | dsimp only
    | split

theorem execEfFetFail_kept {r0 s : State} (c : Fin 3) (hk : Kept r0 s) : ∀ s1, execEfFetFail c s = .next s1 → Kept r0 s1 := by
  intro s1 e; unfold execEfFetFail at e; injection e with e; subst e
  try dsimp only
  repeat' first
    | with_reducible (first
        | assumption | apply State.efTrip_kept)
    | with_reducible intro _
    | dsimp only
    | split

theorem execEfFetShort_kept {r0 s : State} (c : Fin 3) (hk : Kept r0 s) : ∀ s1, execEfFetShort c s = .next s1 → Kept r0 s1 := by
  intro s1 e; unfold execEfFetShort at e; injection e with e; subst e
  try dsimp only
  repeat' first
    | with_reducible (first
        | assumption | apply State.raise_kept | apply State.wr_kept)
    | with_reducible intro _
    | dsimp only
    | split

theorem execEfPgUp_kept {r0 s : State} (c : Fin 3) (hk : Kept r0 s) : ∀ s1, execEfPgUp c s = .next s1 → Kept r0 s1 := by
  intro s1 e; unfold execEfPgUp at e; injection e with e; subst e
  try dsimp only
  repeat' first
    | with_reducible (first
        | assumption | apply State.setPg_kept | apply State.wr_kept)
    | with_reducible intro _
    | dsimp only
    | split

theorem State.efPresence_kept {r0 s : State} (c : Nat) (present : Bool) (hk : Kept r0 s) :
    Kept r0 (State.efPresence s c present) := by
  unfold State.efPresence
  try dsimp only
  repeat' first
    | with_reducible (first
        | assumption | apply State.raise_kept | apply State.setBit_kept | apply State.bump_kept | apply State.modEf_kept
        | apply State.reportPresence_kept | apply State.efRefresh_kept)
    | with_reducible intro _
    | dsimp only
    | split

theorem execEfPresenceChange_kept {r0 s : State} (c : Fin 3) (present : Bool) (hk : Kept r0 s) : ∀ s1, execEfPresenceChange c present s = .next s1 → Kept r0 s1 := by
  intro s1 e; unfold execEfPresenceChange at e; injection e with e; subst e
  try dsimp only
  repeat' first
    | with_reducible (first
        | assumption | apply State.efPresence_kept)
    | with_reducible intro _
    | dsimp only
    | split

theorem execEfCooldownEnd_kept {r0 s : State} (c : Fin 3) (hk : Kept r0 s) : ∀ s1, execEfCooldownEnd c s = .next s1 → Kept r0 s1 := by
  intro s1 e; unfold execEfCooldownEnd at e; injection e with e; subst e
  try dsimp only
  repeat' first
    | with_reducible (first
        | assumption | apply State.efRefresh_kept | apply State.modEf_kept)
    | with_reducible intro _
    | dsimp only
    | split

theorem State.telemetry_kept {r0 s : State} (va : Nat) (vb : Nat) (hk : Kept r0 s) :
    Kept r0 (State.telemetry s va vb) := by
  unfold State.telemetry
  try dsimp only
  repeat' first
    | with_reducible (first
        | assumption | apply State.telShow_kept | apply State.wr_kept | apply State.modPw_kept | apply Kept.foldl)
    | with_reducible intro _
    | dsimp only
    | split

theorem execTelemetryUpdate_kept {r0 s : State} (va : Fin 65536) (vb : Fin 65536) (hk : Kept r0 s) : ∀ s1, execTelemetryUpdate va vb s = .next s1 → Kept r0 s1 := by
  intro s1 e; unfold execTelemetryUpdate at e; injection e with e; subst e
  try dsimp only
  repeat' first
    | with_reducible (first
        | assumption | apply State.telemetry_kept)
    | with_reducible intro _
    | dsimp only
    | split

theorem execEnergyClear_kept {r0 s : State} (data : Word) (hk : Kept r0 s) : ∀ s1, execEnergyClear data s = .next s1 → Kept r0 s1 := by
  intro s1 e; unfold execEnergyClear at e; injection e with e; subst e
  try dsimp only
  repeat' first
    | with_reducible (first
        | assumption | apply State.access_kept | apply State.pwpAccess_kept | apply State.telcmdWrite_kept)
    | with_reducible intro _
    | dsimp only
    | split

theorem execEnergyLatch_kept {r0 s : State} (t : Fin 4) (hk : Kept r0 s) : ∀ s1, execEnergyLatch t s = .next s1 → Kept r0 s1 := by
  intro s1 e; unfold execEnergyLatch at e; injection e with e; subst e
  try dsimp only
  repeat' first
    | with_reducible (first
        | assumption | apply State.access_kept | apply State.pwpAccess_kept | apply State.energyLatch_kept)
    | with_reducible intro _
    | dsimp only
    | split

theorem execPwpAccessTimeout_kept {r0 s : State} (hk : Kept r0 s) : ∀ s1, execPwpAccessTimeout s = .next s1 → Kept r0 s1 := by
  intro s1 e; unfold execPwpAccessTimeout at e; injection e with e; subst e
  try dsimp only
  repeat' first
    | with_reducible (first
        | assumption | apply State.answer_kept)
    | with_reducible intro _
    | dsimp only
    | split

theorem execPowerPathPowerUp_kept {r0 s : State} (hk : Kept r0 s) : ∀ s1, execPowerPathPowerUp s = .next s1 → Kept r0 s1 := by
  intro s1 e; unfold execPowerPathPowerUp at e; injection e with e; subst e
  try dsimp only
  repeat' first
    | with_reducible (first
        | assumption | apply State.pwpPower_kept)
    | with_reducible intro _
    | dsimp only
    | split

theorem execBothFeedsBelow20v_kept {r0 s : State} (hk : Kept r0 s) : ∀ s1, execBothFeedsBelow20v s = .next s1 → Kept r0 s1 := by
  intro s1 e; unfold execBothFeedsBelow20v at e; injection e with e; subst e
  try dsimp only
  repeat' first
    | with_reducible (first
        | assumption | apply State.pwpPower_kept)
    | with_reducible intro _
    | dsimp only
    | split

end Sys2Proof.Machine
end

