-- ==== Sys2Proof/Laws/Kept/Ethernet.lean ====
section
/-! SUPPORT. What the operations of Machine/Ethernet.lean keep. -/
namespace Sys2Proof.Machine

theorem execEthFrameReceive_kept {r0 s : State} (p : Fin 8) (frame : List Byte) (fcsOk : Bool) (time : Nat) (corr : Nat) (unc : Nat) (hk : Kept r0 s) : ∀ s1, execEthFrameReceive p frame fcsOk time corr unc s = .next s1 → Kept r0 s1 := by
  intro s1 e; unfold execEthFrameReceive at e; injection e with e; subst e
  try dsimp only
  repeat' first
    | with_reducible (first
        | assumption | apply State.ethReceive_kept)
    | with_reducible intro _
    | dsimp only
    | split

theorem execTxtsPop_kept {r0 s : State} (p : Fin 8) (data : Word) (hk : Kept r0 s) : ∀ s1, execTxtsPop p data s = .next s1 → Kept r0 s1 := by
  intro s1 e; unfold execTxtsPop at e; injection e with e; subst e
  try dsimp only
  repeat' first
    | with_reducible (first
        | assumption | apply State.access_kept | apply State.txtsPop_kept)
    | with_reducible intro _
    | dsimp only
    | split

theorem execTimeStep_kept {r0 s : State} (data : Word) (hk : Kept r0 s) : ∀ s1, execTimeStep data s = .next s1 → Kept r0 s1 := by
  intro s1 e; unfold execTimeStep at e; injection e with e; subst e
  try dsimp only
  repeat' first
    | with_reducible (first
        | assumption | apply State.access_kept | apply State.timeStep_kept)
    | with_reducible intro _
    | dsimp only
    | split

theorem execTsuRateWrite_kept {r0 s : State} (data : Word) (hk : Kept r0 s) : ∀ s1, execTsuRateWrite data s = .next s1 → Kept r0 s1 := by
  intro s1 e; unfold execTsuRateWrite at e; injection e with e; subst e
  try dsimp only
  repeat' first
    | with_reducible (first
        | assumption | apply State.access_kept | apply State.rateWrite_kept)
    | with_reducible intro _
    | dsimp only
    | split

theorem execTimeStepApply_kept {r0 s : State} (hk : Kept r0 s) : ∀ s1, execTimeStepApply s = .next s1 → Kept r0 s1 := by
  intro s1 e; unfold execTimeStepApply at e; injection e with e; subst e
  try dsimp only
  repeat' first
    | with_reducible (first
        | assumption | apply State.stepApply_kept)
    | with_reducible intro _
    | dsimp only
    | split

theorem State.timeContent_kept {r0 s : State} (hfn : Nat) (loop : Nat) (hk : Kept r0 s) :
    Kept r0 (State.timeContent s hfn loop) := by
  unfold State.timeContent
  try dsimp only
  repeat' first
    | with_reducible (first
        | assumption | apply State.setDelay_kept)
    | with_reducible intro _
    | dsimp only
    | split

theorem execTimeServiceMessage_kept {r0 s : State} (hfn : Fin 16777216) (loop : Fin 1048576) (hk : Kept r0 s) : ∀ s1, execTimeServiceMessage hfn loop s = .next s1 → Kept r0 s1 := by
  intro s1 e; unfold execTimeServiceMessage at e; injection e with e; subst e
  try dsimp only
  repeat' first
    | with_reducible (first
        | assumption | apply State.timeContent_kept)
    | with_reducible intro _
    | dsimp only
    | split

theorem execGrandmasterLost_kept {r0 s : State} (hk : Kept r0 s) : ∀ s1, execGrandmasterLost s = .next s1 → Kept r0 s1 := by
  intro s1 e; unfold execGrandmasterLost at e; injection e with e; subst e
  try dsimp only
  repeat' first
    | with_reducible (first
        | assumption | apply State.raise_kept | apply State.wr_kept)
    | with_reducible intro _
    | dsimp only
    | split

end Sys2Proof.Machine
end

