-- ==== Sys2Proof/Laws/Kept/Lanes.lean ====
section
/-! SUPPORT. What the operations of Machine/Lanes.lean keep. -/
namespace Sys2Proof.Machine

theorem State.laneReq_kept {r0 s : State} (p : Nat) (m : LaneMsg) (hk : Kept r0 s) :
    Kept r0 (State.laneReq s p m) := by
  unfold State.laneReq
  try dsimp only
  repeat' first
    | with_reducible (first
        | assumption | apply State.pushCtl_kept | apply State.modLane_kept)
    | with_reducible intro _
    | dsimp only
    | split

theorem execLaneReqReceive_kept {r0 s : State} (p : Fin 4) (y : List Byte) (hk : Kept r0 s) : ∀ s1, execLaneReqReceive p y s = .next s1 → Kept r0 s1 := by
  intro s1 e; unfold execLaneReqReceive at e; injection e with e; subst e
  try dsimp only
  repeat' first
    | with_reducible (first
        | assumption | apply State.laneReq_kept)
    | with_reducible intro _
    | dsimp only
    | split

theorem State.laneAck_kept {r0 s : State} (p : Nat) (m : LaneMsg) (hk : Kept r0 s) :
    Kept r0 (State.laneAck s p m) := by
  unfold State.laneAck
  try dsimp only
  repeat' first
    | with_reducible (first
        | assumption | apply State.setSubst_kept)
    | with_reducible intro _
    | dsimp only
    | split

theorem execLaneAckReceive_kept {r0 s : State} (p : Fin 4) (y : List Byte) (hk : Kept r0 s) : ∀ s1, execLaneAckReceive p y s = .next s1 → Kept r0 s1 := by
  intro s1 e; unfold execLaneAckReceive at e; injection e with e; subst e
  try dsimp only
  repeat' first
    | with_reducible (first
        | assumption | apply State.laneAck_kept)
    | with_reducible intro _
    | dsimp only
    | split

theorem State.laneNack_kept {r0 s : State} (p : Nat) (m : LaneMsg) (hk : Kept r0 s) :
    Kept r0 (State.laneNack s p m) := by
  unfold State.laneNack
  try dsimp only
  repeat' first
    | with_reducible (first
        | assumption | apply State.retrySubst_kept)
    | with_reducible intro _
    | dsimp only
    | split

theorem State.substEffect_kept {r0 s : State} (p : Nat) (hk : Kept r0 s) :
    Kept r0 (State.substEffect s p) := by
  unfold State.substEffect
  try dsimp only
  repeat' first
    | with_reducible (first
        | assumption | apply State.wr_kept | apply State.modLane_kept | apply Kept.foldl)
    | with_reducible intro _
    | dsimp only
    | split

theorem execLaneSubstEffect_kept {r0 s : State} (p : Fin 4) (hk : Kept r0 s) : ∀ s1, execLaneSubstEffect p s = .next s1 → Kept r0 s1 := by
  intro s1 e; unfold execLaneSubstEffect at e; injection e with e; subst e
  try dsimp only
  repeat' first
    | with_reducible (first
        | assumption | apply State.substEffect_kept)
    | with_reducible intro _
    | dsimp only
    | split

theorem State.startWaiting_kept {r0 s : State} (p : Nat) (hk : Kept r0 s) :
    Kept r0 (State.startWaiting s p) := by
  unfold State.startWaiting
  try dsimp only
  repeat' first
    | with_reducible (first
        | assumption | apply State.modLane_kept | apply State.recover_kept | apply State.startSubst_kept | apply Kept.foldl)
    | with_reducible intro _
    | dsimp only
    | split

theorem State.finishSubst_kept {r0 s : State} (p : Nat) (r : SubstRx) (hk : Kept r0 s) :
    Kept r0 (State.finishSubst s p r) := by
  unfold State.finishSubst
  try dsimp only
  repeat' first
    | with_reducible (first
        | assumption | apply State.exclude_kept | apply State.setLane_kept | apply State.setSubFails_kept | apply State.setSubst_kept
        | apply State.raise_kept)
    | with_reducible intro _
    | dsimp only
    | split

theorem State.substComplete_kept {r0 s : State} (p : Nat) (hk : Kept r0 s) :
    Kept r0 (State.substComplete s p) := by
  unfold State.substComplete
  try dsimp only
  repeat' first
    | with_reducible (first
        | assumption | apply State.startWaiting_kept | apply State.finishSubst_kept | apply Kept.foldl)
    | with_reducible intro _
    | dsimp only
    | split

theorem State.setProbFails_kept {r0 s : State} (p : Nat) (k : Nat) (n : Nat) (hk : Kept r0 s) :
    Kept r0 (State.setProbFails s p k n) := by
  unfold State.setProbFails
  try dsimp only
  repeat' first
    | with_reducible (first
        | assumption | apply State.wr_kept | apply State.modLane_kept)
    | with_reducible intro _
    | dsimp only
    | split

theorem State.probationPass_kept {r0 s : State} (p : Nat) (k : Nat) (hk : Kept r0 s) :
    Kept r0 (State.probationPass s p k) := by
  unfold State.probationPass
  try dsimp only
  repeat' first
    | with_reducible (first
        | assumption | apply State.setProbFails_kept | apply State.raise_kept | apply State.setLane_kept)
    | with_reducible intro _
    | dsimp only
    | split

theorem execProbationPass_kept {r0 s : State} (p : Fin 4) (lane : Fin 10) (hk : Kept r0 s) : ∀ s1, execProbationPass p lane s = .next s1 → Kept r0 s1 := by
  intro s1 e; unfold execProbationPass at e; injection e with e; subst e
  try dsimp only
  repeat' first
    | with_reducible (first
        | assumption | apply State.probationPass_kept)
    | with_reducible intro _
    | dsimp only
    | split

theorem State.probationFail_kept {r0 s : State} (p : Nat) (k : Nat) (hk : Kept r0 s) :
    Kept r0 (State.probationFail s p k) := by
  unfold State.probationFail
  try dsimp only
  repeat' first
    | with_reducible (first
        | assumption | apply State.raise_kept | apply State.setProbFails_kept | apply State.setLane_kept)
    | with_reducible intro _
    | dsimp only
    | split

theorem execProbationFail_kept {r0 s : State} (p : Fin 4) (lane : Fin 10) (hk : Kept r0 s) : ∀ s1, execProbationFail p lane s = .next s1 → Kept r0 s1 := by
  intro s1 e; unfold execProbationFail at e; injection e with e; subst e
  try dsimp only
  repeat' first
    | with_reducible (first
        | assumption | apply State.probationFail_kept)
    | with_reducible intro _
    | dsimp only
    | split

theorem State.fence_kept {r0 s : State} (p : Nat) (k : Nat) (hk : Kept r0 s) :
    Kept r0 (State.fence s p k) := by
  unfold State.fence
  try dsimp only
  repeat' first
    | with_reducible (first
        | assumption | apply State.checked_kept | apply State.answer_kept | apply State.laneFail_kept)
    | with_reducible intro _
    | dsimp only
    | split

theorem State.restore_kept {r0 s : State} (p : Nat) (k : Nat) (hk : Kept r0 s) :
    Kept r0 (State.restore s p k) := by
  unfold State.restore
  try dsimp only
  repeat' first
    | with_reducible (first
        | assumption | apply State.checked_kept | apply State.answer_kept | apply State.setLane_kept)
    | with_reducible intro _
    | dsimp only
    | split

theorem execRestore_kept {r0 s : State} (p : Fin 4) (lane : Fin 16) (hk : Kept r0 s) : ∀ s1, execRestore p lane s = .next s1 → Kept r0 s1 := by
  intro s1 e; unfold execRestore at e; injection e with e; subst e
  try dsimp only
  repeat' first
    | with_reducible (first
        | assumption | apply State.access_kept | apply State.restore_kept)
    | with_reducible intro _
    | dsimp only
    | split

theorem State.widen_kept {r0 s : State} (p : Nat) (hk : Kept r0 s) :
    Kept r0 (State.widen s p) := by
  unfold State.widen
  try dsimp only
  repeat' first
    | with_reducible (first
        | assumption | apply State.answer_kept | apply State.recover_kept | apply State.wr_kept)
    | with_reducible intro _
    | dsimp only
    | split

theorem State.resetLanes_kept {r0 s : State} (p : Nat) (hk : Kept r0 s) :
    Kept r0 (State.resetLanes s p) := by
  unfold State.resetLanes
  try dsimp only
  repeat' first
    | with_reducible (first
        | assumption | apply State.setLane_kept | apply State.answer_kept | apply State.wr_kept | apply Kept.foldl)
    | with_reducible intro _
    | dsimp only
    | split

theorem execResetLanes_kept {r0 s : State} (p : Fin 4) (hk : Kept r0 s) : ∀ s1, execResetLanes p s = .next s1 → Kept r0 s1 := by
  intro s1 e; unfold execResetLanes at e; injection e with e; subst e
  try dsimp only
  repeat' first
    | with_reducible (first
        | assumption | apply State.access_kept | apply State.resetLanes_kept)
    | with_reducible intro _
    | dsimp only
    | split

theorem State.horizonStart_kept {r0 s : State} (p : Nat) (hk : Kept r0 s) :
    Kept r0 (State.horizonStart s p) := by
  unfold State.horizonStart
  try dsimp only
  repeat' first
    | with_reducible (first
        | assumption | apply State.checked_kept | apply State.answer_kept | apply State.modLane_kept | apply State.scanBegin_kept)
    | with_reducible intro _
    | dsimp only
    | split

theorem execHorizonStart_kept {r0 s : State} (p : Fin 4) (hk : Kept r0 s) : ∀ s1, execHorizonStart p s = .next s1 → Kept r0 s1 := by
  intro s1 e; unfold execHorizonStart at e; injection e with e; subst e
  try dsimp only
  repeat' first
    | with_reducible (first
        | assumption | apply State.access_kept | apply State.horizonStart_kept)
    | with_reducible intro _
    | dsimp only
    | split

theorem State.scanStop_kept {r0 s : State} (p : Nat) (hk : Kept r0 s) :
    Kept r0 (State.scanStop s p) := by
  unfold State.scanStop
  try dsimp only
  repeat' first
    | with_reducible (first
        | assumption | apply State.modLane_kept | apply State.wr_kept)
    | with_reducible intro _
    | dsimp only
    | split

theorem execHorizonStop_kept {r0 s : State} (p : Fin 4) (hk : Kept r0 s) : ∀ s1, execHorizonStop p s = .next s1 → Kept r0 s1 := by
  intro s1 e; unfold execHorizonStop at e; injection e with e; subst e
  try dsimp only
  repeat' first
    | with_reducible (first
        | assumption | apply State.access_kept | apply State.answer_kept | apply State.scanStop_kept)
    | with_reducible intro _
    | dsimp only
    | split

theorem State.scanDone_kept {r0 s : State} (p : Nat) (counts : List Nat) (hk : Kept r0 s) :
    Kept r0 (State.scanDone s p counts) := by
  unfold State.scanDone
  split
  · exact hk
  · apply State.raise_kept
    iterate 4 apply State.wr_kept
    refine hk.tables rfl rfl rfl rfl rfl (fun k => ?_)
    simp only [State.tablesOk, Bool.and_eq_true] at k ⊢
    simp_all [NMap.wf_foldl]

theorem execHorizonScanDone_kept {r0 s : State} (p : Fin 4) (counts : List Nat) (hk : Kept r0 s) : ∀ s1, execHorizonScanDone p counts s = .next s1 → Kept r0 s1 := by
  intro s1 e; unfold execHorizonScanDone at e; injection e with e; subst e
  try dsimp only
  repeat' first
    | with_reducible (first
        | assumption | apply State.scanDone_kept)
    | with_reducible intro _
    | dsimp only
    | split

theorem State.prbsLock_kept {r0 s : State} (p : Nat) (k : Nat) (hk : Kept r0 s) :
    Kept r0 (State.prbsLock s p k) := by
  unfold State.prbsLock
  try dsimp only
  repeat' first
    | with_reducible (first
        | assumption | apply State.wr_kept)
    | with_reducible intro _
    | dsimp only
    | split

theorem execPrbsCheckerLock_kept {r0 s : State} (p : Fin 4) (lane : Fin 10) (hk : Kept r0 s) : ∀ s1, execPrbsCheckerLock p lane s = .next s1 → Kept r0 s1 := by
  intro s1 e; unfold execPrbsCheckerLock at e; injection e with e; subst e
  try dsimp only
  repeat' first
    | with_reducible (first
        | assumption | apply State.prbsLock_kept)
    | with_reducible intro _
    | dsimp only
    | split

theorem State.prbsLoss_kept {r0 s : State} (p : Nat) (k : Nat) (errs : Nat) (nbits : Nat) (hk : Kept r0 s) :
    Kept r0 (State.prbsLoss s p k errs nbits) := by
  unfold State.prbsLoss
  try dsimp only
  repeat' first
    | with_reducible (first
        | assumption | apply State.bump_kept | apply State.wr_kept | apply State.raise_kept)
    | with_reducible intro _
    | dsimp only
    | split

theorem execPrbsLockLoss_kept {r0 s : State} (p : Fin 4) (lane : Fin 10) (errs : Nat) (nbits : Nat) (hk : Kept r0 s) : ∀ s1, execPrbsLockLoss p lane errs nbits s = .next s1 → Kept r0 s1 := by
  intro s1 e; unfold execPrbsLockLoss at e; injection e with e; subst e
  try dsimp only
  repeat' first
    | with_reducible (first
        | assumption | apply State.prbsLoss_kept)
    | with_reducible intro _
    | dsimp only
    | split

theorem State.invertBits_kept {r0 s : State} (p : Nat) (k : Nat) (n : Nat) (hk : Kept r0 s) :
    Kept r0 (State.invertBits s p k n) := by
  unfold State.invertBits
  try dsimp only
  repeat' first
    | with_reducible (first
        | assumption | apply State.emit_kept | apply State.bump_kept)
    | with_reducible intro _
    | dsimp only
    | split

theorem State.injWrite_kept {r0 s : State} (p : Nat) (k : Nat) (data : Nat) (hk : Kept r0 s) :
    Kept r0 (State.injWrite s p k data) := by
  unfold State.injWrite
  try dsimp only
  repeat' first
    | with_reducible (first
        | assumption | apply State.writeReg_kept | apply State.invertBits_kept)
    | with_reducible intro _
    | dsimp only
    | split

theorem execErrorInject_kept {r0 s : State} (p : Fin 4) (lane : Fin 10) (data : Word) (hk : Kept r0 s) : ∀ s1, execErrorInject p lane data s = .next s1 → Kept r0 s1 := by
  intro s1 e; unfold execErrorInject at e; injection e with e; subst e
  try dsimp only
  repeat' first
    | with_reducible (first
        | assumption | apply State.access_kept | apply State.injWrite_kept)
    | with_reducible intro _
    | dsimp only
    | split

theorem execInjectRateBit_kept {r0 s : State} (p : Fin 4) (lane : Fin 10) (hk : Kept r0 s) : ∀ s1, execInjectRateBit p lane s = .next s1 → Kept r0 s1 := by
  intro s1 e; unfold execInjectRateBit at e; injection e with e; subst e
  try dsimp only
  repeat' first
    | with_reducible (first
        | assumption | apply State.invertBits_kept)
    | with_reducible intro _
    | dsimp only
    | split

theorem State.dfeAdapt_kept {r0 s : State} (p : Nat) (k : Nat) (up : Bool) (ds : List Bool) (hk : Kept r0 s) :
    Kept r0 (State.dfeAdapt s p k up ds) := by
  unfold State.dfeAdapt
  try dsimp only
  repeat' first
    | with_reducible (first
        | assumption | apply State.wr_kept | apply Kept.foldl)
    | with_reducible intro _
    | dsimp only
    | split

theorem execDfeAdapt_kept {r0 s : State} (p : Fin 4) (lane : Fin 10) (up : Bool) (ds : List Bool) (hk : Kept r0 s) : ∀ s1, execDfeAdapt p lane up ds s = .next s1 → Kept r0 s1 := by
  intro s1 e; unfold execDfeAdapt at e; injection e with e; subst e
  try dsimp only
  repeat' first
    | with_reducible (first
        | assumption | apply State.dfeAdapt_kept)
    | with_reducible intro _
    | dsimp only
    | split

end Sys2Proof.Machine
end

