-- ==== Sys2Proof/Laws/Kept/LinkFlit.lean ====
section
/-! SUPPORT. What the operations of Machine/LinkFlit.lean keep. -/
namespace Sys2Proof.Machine

theorem State.setAvail_kept {r0 s : State} (p : Nat) (v : Nat) (n : Nat) (hk : Kept r0 s) :
    Kept r0 (State.setAvail s p v n) := by
  unfold State.setAvail
  try dsimp only
  repeat' first
    | with_reducible (first
        | assumption | apply State.wr_kept)
    | with_reducible intro _
    | dsimp only
    | split

theorem State.creditIn_kept {r0 s : State} (p : Nat) (y : List Byte) (hk : Kept r0 s) :
    Kept r0 (State.creditIn s p y) := by
  unfold State.creditIn
  try dsimp only
  repeat' first
    | with_reducible (first
        | assumption | apply State.setAvail_kept | apply Kept.foldl)
    | with_reducible intro _
    | dsimp only
    | split

theorem State.creditSyncIn_kept {r0 s : State} (p : Nat) (y : List Byte) (hk : Kept r0 s) :
    Kept r0 (State.creditSyncIn s p y) := by
  unfold State.creditSyncIn
  try dsimp only
  repeat' first
    | with_reducible (first
        | assumption | apply State.setAvail_kept | apply Kept.foldl)
    | with_reducible intro _
    | dsimp only
    | split

theorem State.sendRekey_kept {r0 s : State} (p : Nat) (attempts : Nat) (hk : Kept r0 s) :
    Kept r0 (State.sendRekey s p attempts) := by
  unfold State.sendRekey
  try dsimp only
  repeat' first
    | with_reducible (first
        | assumption | apply State.pushCtl_kept | apply State.modLk_kept)
    | with_reducible intro _
    | dsimp only
    | split

theorem State.startRekey_kept {r0 s : State} (p : Nat) (hk : Kept r0 s) :
    Kept r0 (State.startRekey s p) := by
  unfold State.startRekey
  try dsimp only
  repeat' first
    | with_reducible (first
        | assumption | apply State.recover_kept | apply State.sendRekey_kept)
    | with_reducible intro _
    | dsimp only
    | split

theorem State.rekeyIn_kept {r0 s : State} (p : Nat) (y : List Byte) (hk : Kept r0 s) :
    Kept r0 (State.rekeyIn s p y) := by
  unfold State.rekeyIn
  try dsimp only
  repeat' first
    | with_reducible (first
        | assumption | apply State.pushCtl_kept | apply State.modLk_kept)
    | with_reducible intro _
    | dsimp only
    | split

theorem State.rekeyAckIn_kept {r0 s : State} (p : Nat) (y : List Byte) (hk : Kept r0 s) :
    Kept r0 (State.rekeyAckIn s p y) := by
  unfold State.rekeyAckIn
  try dsimp only
  repeat' first
    | with_reducible (first
        | assumption | apply State.modLk_kept)
    | with_reducible intro _
    | dsimp only
    | split

theorem State.alignIdIn_kept {r0 s : State} (p : Nat) (a : AlignId) (hk : Kept r0 s) :
    Kept r0 (State.alignIdIn s p a) := by
  unfold State.alignIdIn
  try dsimp only
  repeat' first
    | with_reducible (first
        | assumption | apply State.trainFail_kept | apply State.tryAuth_kept | apply State.modLk_kept)
    | with_reducible intro _
    | dsimp only
    | split

theorem State.alignCredIn_kept {r0 s : State} (p : Nat) (y : List Byte) (hk : Kept r0 s) :
    Kept r0 (State.alignCredIn s p y) := by
  unfold State.alignCredIn
  try dsimp only
  repeat' first
    | with_reducible (first
        | assumption | apply State.tryAuth_kept | apply State.modLk_kept | apply Kept.foldl)
    | with_reducible intro _
    | dsimp only
    | split

theorem State.badKind_kept {r0 s : State} (p : Nat) (hk : Kept r0 s) :
    Kept r0 (State.badKind s p) := by
  unfold State.badKind
  try dsimp only
  repeat' first
    | with_reducible (first
        | assumption | apply State.bump_kept)
    | with_reducible intro _
    | dsimp only
    | split

theorem State.controlIn_kept {r0 s : State} (p : Nat) (y : List Byte) (hk : Kept r0 s) :
    Kept r0 (State.controlIn s p y) := by
  unfold State.controlIn
  try dsimp only
  repeat' first
    | with_reducible (first
        | assumption | apply State.creditIn_kept | apply State.creditSyncIn_kept | apply State.rekeyIn_kept | apply State.rekeyAckIn_kept
        | apply State.laneReq_kept | apply State.laneAck_kept | apply State.laneNack_kept | apply State.alignIdIn_kept
        | apply State.alignCredIn_kept | apply State.authReceive_kept | apply State.badKind_kept)
    | with_reducible intro _
    | dsimp only
    | split

theorem State.advance_kept {r0 s : State} (p : Nat) (hk : Kept r0 s) :
    Kept r0 (State.advance s p) := by
  unfold State.advance
  try dsimp only
  repeat' first
    | with_reducible (first
        | assumption | apply State.setExpected_kept)
    | with_reducible intro _
    | dsimp only
    | split

theorem State.acceptGuar_kept {r0 s : State} (p : Nat) (slot : Nat) (f : Flit) (hk : Kept r0 s) :
    Kept r0 (State.acceptGuar s p slot f) := by
  unfold State.acceptGuar
  try dsimp only
  repeat' first
    | with_reducible (first
        | assumption | apply State.bump_kept | apply State.advance_kept | apply State.stageDrop_kept | apply State.stage_kept)
    | with_reducible intro _
    | dsimp only
    | split

theorem State.acceptInOrder_kept {r0 s : State} (p : Nat) (slot : Nat) (f : Flit) (hk : Kept r0 s) :
    Kept r0 (State.acceptInOrder s p slot f) := by
  unfold State.acceptInOrder
  try dsimp only
  repeat' first
    | with_reducible (first
        | assumption | apply State.acceptGuar_kept | apply State.takeOpen_kept | apply State.advance_kept | apply State.modLk_kept
        | apply State.controlIn_kept)
    | with_reducible intro _
    | dsimp only
    | split

theorem State.sequenced_kept {r0 s : State} (p : Nat) (slot : Nat) (f : Flit) (hk : Kept r0 s) :
    Kept r0 (State.sequenced s p slot f) := by
  unfold State.sequenced
  try dsimp only
  repeat' first
    | with_reducible (first
        | assumption | apply State.modLk_kept | apply State.acceptInOrder_kept | apply State.bump_kept)
    | with_reducible intro _
    | dsimp only
    | split

theorem State.isoIn_kept {r0 s : State} (p : Nat) (slot : Nat) (f : Flit) (hk : Kept r0 s) :
    Kept r0 (State.isoIn s p slot f) := by
  unfold State.isoIn
  try dsimp only
  repeat' first
    | with_reducible (first
        | assumption | apply State.xmiss_kept | apply State.isoLossAt_kept | apply State.stageDrop_kept | apply State.stage_kept)
    | with_reducible intro _
    | dsimp only
    | split

theorem State.unsequenced_kept {r0 s : State} (p : Nat) (slot : Nat) (f : Flit) (hk : Kept r0 s) :
    Kept r0 (State.unsequenced s p slot f) := by
  unfold State.unsequenced
  try dsimp only
  repeat' first
    | with_reducible (first
        | assumption | apply State.isoIn_kept | apply State.takeRestore_kept | apply State.isoTag_kept | apply State.controlIn_kept)
    | with_reducible intro _
    | dsimp only
    | split

theorem State.trainingIn_kept {r0 s : State} (p : Nat) (f : Flit) (hk : Kept r0 s) :
    Kept r0 (State.trainingIn s p f) := by
  unfold State.trainingIn
  try dsimp only
  repeat' first
    | with_reducible (first
        | assumption | apply State.syncReceive_kept | apply State.controlIn_kept | apply State.badKind_kept)
    | with_reducible intro _
    | dsimp only
    | split

theorem State.flitIn_kept {r0 s : State} (p : Nat) (slot : Nat) (f : Flit) (hk : Kept r0 s) :
    Kept r0 (State.flitIn s p slot f) := by
  unfold State.flitIn
  try dsimp only
  repeat' first
    | with_reducible (first
        | assumption | apply State.takeAck_kept | apply State.provisionalLoss_kept | apply State.badKind_kept | apply State.syncReceive_kept
        | apply State.frontReceive_kept | apply State.unsequenced_kept | apply State.sequenced_kept)
    | with_reducible intro _
    | dsimp only
    | split

theorem State.chargeLanes_kept {r0 s : State} (p : Nat) (hits : Nat) (hk : Kept r0 s) :
    Kept r0 (State.chargeLanes s p hits) := by
  unfold State.chargeLanes
  try dsimp only
  repeat' first
    | with_reducible (first
        | assumption | apply State.modLane_kept | apply Kept.foldl)
    | with_reducible intro _
    | dsimp only
    | split

theorem State.flitFails_kept {r0 s : State} (p : Nat) (slot : Nat) (hits : Nat) (hk : Kept r0 s) :
    Kept r0 (State.flitFails s p slot hits) := by
  unfold State.flitFails
  try dsimp only
  repeat' first
    | with_reducible (first
        | assumption | apply State.chargeLanes_kept | apply State.bump_kept | apply State.isoLossAt_kept | apply State.syncReceive_kept)
    | with_reducible intro _
    | dsimp only
    | split

theorem State.staleFlit_kept {r0 s : State} (p : Nat) (hk : Kept r0 s) :
    Kept r0 (State.staleFlit s p) := by
  unfold State.staleFlit
  try dsimp only
  repeat' first
    | with_reducible (first
        | assumption | apply State.raiseOnce_kept | apply State.bump_kept)
    | with_reducible intro _
    | dsimp only
    | split

theorem State.flitReceive_kept {r0 s : State} (p : Nat) (slot : Nat) (raw : List Byte) (hits : Nat) (hk : Kept r0 s) :
    Kept r0 (State.flitReceive s p slot raw hits) := by
  unfold State.flitReceive
  try dsimp only
  repeat' first
    | with_reducible (first
        | assumption | apply State.trainingIn_kept | apply State.flitFails_kept | apply State.flitIn_kept | apply State.staleFlit_kept)
    | with_reducible intro _
    | dsimp only
    | split

end Sys2Proof.Machine
end

