-- ==== Sys2Proof/Laws/Kept/Link.lean ====
section
/-! SUPPORT. What the operations of Machine/Link.lean keep. -/
namespace Sys2Proof.Machine

theorem State.replayTimeout_kept {r0 s : State} (p : Nat) (hk : Kept r0 s) :
    Kept r0 (State.replayTimeout s p) := by
  unfold State.replayTimeout
  try dsimp only
  repeat' first
    | with_reducible (first
        | assumption | apply State.bump_kept | apply State.modLk_kept | apply State.recover_kept | apply State.raise_kept | apply State.wr_kept)
    | with_reducible intro _
    | dsimp only
    | split

theorem State.tagVerify_kept {r0 s : State} (p : Nat) (hk : Kept r0 s) :
    Kept r0 (State.tagVerify s p) := by
  unfold State.tagVerify
  try dsimp only
  repeat' first
    | with_reducible (first
        | assumption | apply State.modLk_kept | apply State.sequenced_kept | apply State.advance_kept | apply State.releaseGroup_kept
        | apply State.bump_kept | apply State.discardGroup_kept | apply Kept.foldl)
    | with_reducible intro _
    | dsimp only
    | split

theorem execCreditReceive_kept {r0 s : State} (p : Fin 4) (y : List Byte) (hk : Kept r0 s) : ∀ s1, execCreditReceive p y s = .next s1 → Kept r0 s1 := by
  intro s1 e; unfold execCreditReceive at e; injection e with e; subst e
  try dsimp only
  repeat' first
    | with_reducible (first
        | assumption | apply State.creditIn_kept)
    | with_reducible intro _
    | dsimp only
    | split

theorem State.creditTimeout_kept {r0 s : State} (p : Nat) (v : Nat) (hk : Kept r0 s) :
    Kept r0 (State.creditTimeout s p v) := by
  unfold State.creditTimeout
  try dsimp only
  repeat' first
    | with_reducible (first
        | assumption | apply State.recover_kept | apply State.raise_kept | apply State.bump_kept)
    | with_reducible intro _
    | dsimp only
    | split

theorem State.creditSyncSend_kept {r0 s : State} (p : Nat) (hk : Kept r0 s) :
    Kept r0 (State.creditSyncSend s p) := by
  unfold State.creditSyncSend
  try dsimp only
  repeat' first
    | with_reducible (first
        | assumption | apply State.pushCtl_kept | apply Kept.foldl)
    | with_reducible intro _
    | dsimp only
    | split

theorem execCreditSyncSend_kept {r0 s : State} (p : Fin 4) (hk : Kept r0 s) : ∀ s1, execCreditSyncSend p s = .next s1 → Kept r0 s1 := by
  intro s1 e; unfold execCreditSyncSend at e; injection e with e; subst e
  try dsimp only
  repeat' first
    | with_reducible (first
        | assumption | apply State.creditSyncSend_kept)
    | with_reducible intro _
    | dsimp only
    | split

theorem execCreditSyncReceive_kept {r0 s : State} (p : Fin 4) (y : List Byte) (hk : Kept r0 s) : ∀ s1, execCreditSyncReceive p y s = .next s1 → Kept r0 s1 := by
  intro s1 e; unfold execCreditSyncReceive at e; injection e with e; subst e
  try dsimp only
  repeat' first
    | with_reducible (first
        | assumption | apply State.creditSyncIn_kept)
    | with_reducible intro _
    | dsimp only
    | split

theorem State.rekeyTimer_kept {r0 s : State} (p : Nat) (hk : Kept r0 s) :
    Kept r0 (State.rekeyTimer s p) := by
  unfold State.rekeyTimer
  try dsimp only
  repeat' first
    | with_reducible (first
        | assumption | apply State.startRekey_kept)
    | with_reducible intro _
    | dsimp only
    | split

theorem State.rekeyCmd_kept {r0 s : State} (p : Nat) (hk : Kept r0 s) :
    Kept r0 (State.rekeyCmd s p) := by
  unfold State.rekeyCmd
  try dsimp only
  repeat' first
    | with_reducible (first
        | assumption | apply State.checked_kept | apply State.answer_kept | apply State.startRekey_kept)
    | with_reducible intro _
    | dsimp only
    | split

theorem execRekeyReceive_kept {r0 s : State} (p : Fin 4) (y : List Byte) (hk : Kept r0 s) : ∀ s1, execRekeyReceive p y s = .next s1 → Kept r0 s1 := by
  intro s1 e; unfold execRekeyReceive at e; injection e with e; subst e
  try dsimp only
  repeat' first
    | with_reducible (first
        | assumption | apply State.rekeyIn_kept)
    | with_reducible intro _
    | dsimp only
    | split

theorem execRekeyAckReceive_kept {r0 s : State} (p : Fin 4) (y : List Byte) (hk : Kept r0 s) : ∀ s1, execRekeyAckReceive p y s = .next s1 → Kept r0 s1 := by
  intro s1 e; unfold execRekeyAckReceive at e; injection e with e; subst e
  try dsimp only
  repeat' first
    | with_reducible (first
        | assumption | apply State.rekeyAckIn_kept)
    | with_reducible intro _
    | dsimp only
    | split

theorem State.rekeyNoAck_kept {r0 s : State} (p : Nat) (hk : Kept r0 s) :
    Kept r0 (State.rekeyNoAck s p) := by
  unfold State.rekeyNoAck
  try dsimp only
  repeat' first
    | with_reducible (first
        | assumption | apply State.sendRekey_kept | apply State.recover_kept | apply State.raise_kept | apply State.modLk_kept)
    | with_reducible intro _
    | dsimp only
    | split

theorem State.rekeyEffect_kept {r0 s : State} (p : Nat) (hk : Kept r0 s) :
    Kept r0 (State.rekeyEffect s p) := by
  unfold State.rekeyEffect
  try dsimp only
  repeat' first
    | with_reducible (first
        | assumption | apply State.modLk_kept | apply State.raise_kept | apply State.wr_kept)
    | with_reducible intro _
    | dsimp only
    | split

theorem execRekeyEffect_kept {r0 s : State} (p : Fin 4) (hk : Kept r0 s) : ∀ s1, execRekeyEffect p s = .next s1 → Kept r0 s1 := by
  intro s1 e; unfold execRekeyEffect at e; injection e with e; subst e
  try dsimp only
  repeat' first
    | with_reducible (first
        | assumption | apply State.rekeyEffect_kept)
    | with_reducible intro _
    | dsimp only
    | split

theorem State.oldKeyRetire_kept {r0 s : State} (p : Nat) (hk : Kept r0 s) :
    Kept r0 (State.oldKeyRetire s p) := by
  unfold State.oldKeyRetire
  try dsimp only
  repeat' first
    | with_reducible (first
        | assumption | apply State.modLk_kept)
    | with_reducible intro _
    | dsimp only
    | split

theorem execOldKeyRetire_kept {r0 s : State} (p : Fin 4) (hk : Kept r0 s) : ∀ s1, execOldKeyRetire p s = .next s1 → Kept r0 s1 := by
  intro s1 e; unfold execOldKeyRetire at e; injection e with e; subst e
  try dsimp only
  repeat' first
    | with_reducible (first
        | assumption | apply State.oldKeyRetire_kept)
    | with_reducible intro _
    | dsimp only
    | split

theorem State.retrainCmd_kept {r0 s : State} (p : Nat) (hk : Kept r0 s) :
    Kept r0 (State.retrainCmd s p) := by
  unfold State.retrainCmd
  try dsimp only
  repeat' first
    | with_reducible (first
        | assumption | apply State.checked_kept | apply State.answer_kept | apply State.recover_kept)
    | with_reducible intro _
    | dsimp only
    | split

theorem State.disablePort_kept {r0 s : State} (p : Nat) (hk : Kept r0 s) :
    Kept r0 (State.disablePort s p) := by
  unfold State.disablePort
  try dsimp only
  repeat' first
    | with_reducible (first
        | assumption | apply State.leaveActive_kept | apply State.wr_kept | apply State.setLinkSt_kept | apply State.releaseScan_kept
        | apply State.freshAttempt_kept | apply State.flush_kept)
    | with_reducible intro _
    | dsimp only
    | split

theorem State.enablePort_kept {r0 s : State} (p : Nat) (hk : Kept r0 s) :
    Kept r0 (State.enablePort s p) := by
  unfold State.enablePort
  try dsimp only
  repeat' first
    | with_reducible (first
        | assumption | apply State.setLinkSt_kept | apply State.freshAttempt_kept)
    | with_reducible intro _
    | dsimp only
    | split

theorem State.jxkCtrlWrite_kept {r0 s : State} (p : Nat) (data : Nat) (hk : Kept r0 s) :
    Kept r0 (State.jxkCtrlWrite s p data) := by
  unfold State.jxkCtrlWrite
  try dsimp only
  repeat' first
    | with_reducible (first
        | assumption | apply State.writeReg_kept | apply State.writeFields_kept | apply State.recomputePool_kept | apply State.enablePort_kept
        | apply State.disablePort_kept)
    | with_reducible intro _
    | dsimp only
    | split

theorem State.detectDone_kept {r0 s : State} (p : Nat) (hk : Kept r0 s) :
    Kept r0 (State.detectDone s p) := by
  unfold State.detectDone
  try dsimp only
  repeat' first
    | with_reducible (first
        | assumption | apply State.setLinkSt_kept | apply State.freshAttempt_kept)
    | with_reducible intro _
    | dsimp only
    | split

theorem execDetectDone_kept {r0 s : State} (p : Fin 4) (hk : Kept r0 s) : ∀ s1, execDetectDone p s = .next s1 → Kept r0 s1 := by
  intro s1 e; unfold execDetectDone at e; injection e with e; subst e
  try dsimp only
  repeat' first
    | with_reducible (first
        | assumption | apply State.detectDone_kept)
    | with_reducible intro _
    | dsimp only
    | split

theorem State.setEqualiser_kept {r0 s : State} (p : Nat) (r : EqResult) (hk : Kept r0 s) :
    Kept r0 (State.setEqualiser s p r) := by
  unfold State.setEqualiser
  try dsimp only
  repeat' first
    | with_reducible (first
        | assumption | apply State.wr_kept | apply Kept.foldl)
    | with_reducible intro _
    | dsimp only
    | split

theorem State.equalizeDone_kept {r0 s : State} (p : Nat) (r : EqResult) (hk : Kept r0 s) :
    Kept r0 (State.equalizeDone s p r) := by
  unfold State.equalizeDone
  try dsimp only
  repeat' first
    | with_reducible (first
        | assumption | apply State.setEqualiser_kept | apply State.trainFail_kept | apply State.setBit_kept | apply State.wr_kept
        | apply State.modLk_kept | apply State.raise_kept | apply State.setLinkSt_kept | apply State.releaseScan_kept)
    | with_reducible intro _
    | dsimp only
    | split

theorem execEqualizeDone_kept {r0 s : State} (p : Fin 4) (r : EqResult) (hk : Kept r0 s) : ∀ s1, execEqualizeDone p r s = .next s1 → Kept r0 s1 := by
  intro s1 e; unfold execEqualizeDone at e; injection e with e; subst e
  try dsimp only
  repeat' first
    | with_reducible (first
        | assumption | apply State.equalizeDone_kept)
    | with_reducible intro _
    | dsimp only
    | split

theorem State.placeLanes_kept {r0 s : State} (p : Nat) (lanes : List Nat) (hk : Kept r0 s) :
    Kept r0 (State.placeLanes s p lanes) := by
  unfold State.placeLanes
  try dsimp only
  repeat' first
    | with_reducible (first
        | assumption | apply State.setLane_kept | apply Kept.foldl)
    | with_reducible intro _
    | dsimp only
    | split

theorem State.deskewDone_kept {r0 s : State} (p : Nat) (pol : Nat) (hk : Kept r0 s) :
    Kept r0 (State.deskewDone s p pol) := by
  unfold State.deskewDone
  try dsimp only
  repeat' first
    | with_reducible (first
        | assumption | apply State.setBit_kept | apply State.placeLanes_kept | apply State.wr_kept | apply State.freshAttempt_kept
        | apply State.setLinkSt_kept | apply State.modLk_kept | apply Kept.foldl)
    | with_reducible intro _
    | dsimp only
    | split

theorem execDeskewDone_kept {r0 s : State} (p : Fin 4) (pol : Nat) (hk : Kept r0 s) : ∀ s1, execDeskewDone p pol s = .next s1 → Kept r0 s1 := by
  intro s1 e; unfold execDeskewDone at e; injection e with e; subst e
  try dsimp only
  repeat' first
    | with_reducible (first
        | assumption | apply State.deskewDone_kept)
    | with_reducible intro _
    | dsimp only
    | split

theorem execAlignIdReceive_kept {r0 s : State} (p : Fin 4) (y : List Byte) (hk : Kept r0 s) : ∀ s1, execAlignIdReceive p y s = .next s1 → Kept r0 s1 := by
  intro s1 e; unfold execAlignIdReceive at e; injection e with e; subst e
  try dsimp only
  repeat' first
    | with_reducible (first
        | assumption | apply State.alignIdIn_kept)
    | with_reducible intro _
    | dsimp only
    | split

theorem execAlignCredReceive_kept {r0 s : State} (p : Fin 4) (y : List Byte) (hk : Kept r0 s) : ∀ s1, execAlignCredReceive p y s = .next s1 → Kept r0 s1 := by
  intro s1 e; unfold execAlignCredReceive at e; injection e with e; subst e
  try dsimp only
  repeat' first
    | with_reducible (first
        | assumption | apply State.alignCredIn_kept)
    | with_reducible intro _
    | dsimp only
    | split

theorem State.trainingTimeout_kept {r0 s : State} (p : Nat) (hk : Kept r0 s) :
    Kept r0 (State.trainingTimeout s p) := by
  unfold State.trainingTimeout
  try dsimp only
  repeat' first
    | with_reducible (first
        | assumption | apply State.trainFail_kept)
    | with_reducible intro _
    | dsimp only
    | split

theorem execTrainingTimeout_kept {r0 s : State} (p : Fin 4) (hk : Kept r0 s) : ∀ s1, execTrainingTimeout p s = .next s1 → Kept r0 s1 := by
  intro s1 e; unfold execTrainingTimeout at e; injection e with e; subst e
  try dsimp only
  repeat' first
    | with_reducible (first
        | assumption | apply State.trainingTimeout_kept)
    | with_reducible intro _
    | dsimp only
    | split

theorem execBackoffEnd_kept {r0 s : State} (p : Fin 4) (hk : Kept r0 s) : ∀ s1, execBackoffEnd p s = .next s1 → Kept r0 s1 := by
  intro s1 e; unfold execBackoffEnd at e; injection e with e; subst e
  try dsimp only
  repeat' first
    | with_reducible (first
        | assumption | apply State.wr_kept)
    | with_reducible intro _
    | dsimp only
    | split

theorem State.recoverEnd_kept {r0 s : State} (p : Nat) (hk : Kept r0 s) :
    Kept r0 (State.recoverEnd s p) := by
  unfold State.recoverEnd
  try dsimp only
  repeat' first
    | with_reducible (first
        | assumption | apply State.setLinkSt_kept | apply State.freshAttempt_kept)
    | with_reducible intro _
    | dsimp only
    | split

theorem execRecoverEnd_kept {r0 s : State} (p : Fin 4) (hk : Kept r0 s) : ∀ s1, execRecoverEnd p s = .next s1 → Kept r0 s1 := by
  intro s1 e; unfold execRecoverEnd at e; injection e with e; subst e
  try dsimp only
  repeat' first
    | with_reducible (first
        | assumption | apply State.recoverEnd_kept)
    | with_reducible intro _
    | dsimp only
    | split

theorem State.peerTraining_kept {r0 s : State} (p : Nat) (hk : Kept r0 s) :
    Kept r0 (State.peerTraining s p) := by
  unfold State.peerTraining
  try dsimp only
  repeat' first
    | with_reducible (first
        | assumption | apply State.recover_kept | apply State.modLk_kept)
    | with_reducible intro _
    | dsimp only
    | split

theorem State.peerLoss_kept {r0 s : State} (p : Nat) (hk : Kept r0 s) :
    Kept r0 (State.peerLoss s p) := by
  unfold State.peerLoss
  try dsimp only
  repeat' first
    | with_reducible (first
        | assumption | apply State.modLk_kept | apply State.leaveActive_kept | apply State.setLinkSt_kept | apply State.releaseScan_kept
        | apply State.freshAttempt_kept)
    | with_reducible intro _
    | dsimp only
    | split

theorem State.loopMeasure_kept {r0 s : State} (p : Nat) (v : Nat) (hk : Kept r0 s) :
    Kept r0 (State.loopMeasure s p v) := by
  unfold State.loopMeasure
  try dsimp only
  repeat' first
    | with_reducible (first
        | assumption | apply State.wr_kept | apply State.trainFail_kept | apply State.raise_kept | apply State.tryAuth_kept
        | apply State.modLk_kept | apply State.recover_kept)
    | with_reducible intro _
    | dsimp only
    | split

end Sys2Proof.Machine
end

