-- ==== Sys2Proof/Laws/Kept/Switch.lean ====
section
/-! SUPPORT. What the operations of Machine/Switch.lean keep. -/
namespace Sys2Proof.Machine

theorem execSwitchCellAllocate_kept {r0 s : State} (p : Fin 18) (hk : Kept r0 s) : ∀ s1, execSwitchCellAllocate p s = .next s1 → Kept r0 s1 := by
  intro s1 e; unfold execSwitchCellAllocate at e; injection e with e; subst e
  try dsimp only
  repeat' first
    | with_reducible (first
        | assumption | apply State.cellAllocate_kept)
    | with_reducible intro _
    | dsimp only
    | split

theorem execSwitchFrameComplete_kept {r0 s : State} (hk : Kept r0 s) : ∀ s1, execSwitchFrameComplete s = .next s1 → Kept r0 s1 := by
  intro s1 e; unfold execSwitchFrameComplete at e; injection e with e; subst e
  try dsimp only
  repeat' first
    | with_reducible (first
        | assumption | apply State.frameComplete_kept)
    | with_reducible intro _
    | dsimp only
    | split

theorem execSchedulerSelect_kept {r0 s : State} (hk : Kept r0 s) : ∀ s1, execSchedulerSelect s = .next s1 → Kept r0 s1 := by
  intro s1 e; unfold execSchedulerSelect at e; injection e with e; subst e
  try dsimp only
  repeat' first
    | with_reducible (first
        | assumption | apply State.selectCycle_kept)
    | with_reducible intro _
    | dsimp only
    | split

theorem execEgressRead_kept {r0 s : State} (p : Fin 18) (ce : List (Fin 32)) (ueBank : Option (Fin 32)) (ueAddr : Fin 32768) (hk : Kept r0 s) : ∀ s1, execEgressRead p ce ueBank ueAddr s = .next s1 → Kept r0 s1 := by
  intro s1 e; unfold execEgressRead at e; injection e with e; subst e
  try dsimp only
  repeat' first
    | with_reducible (first
        | assumption | apply State.egressRead_kept)
    | with_reducible intro _
    | dsimp only
    | split

theorem State.ageEntry_kept {r0 s : State} (k : Nat) (e : FdbEnt) (hk : Kept r0 s) :
    Kept r0 (State.ageEntry s k e) := by
  unfold State.ageEntry
  try dsimp only
  repeat' first
    | with_reducible (first
        | assumption | apply State.setFdb_kept)
    | with_reducible intro _
    | dsimp only
    | split

theorem State.ageingSweep_kept {r0 s : State} (hk : Kept r0 s) :
    Kept r0 (State.ageingSweep s) := by
  unfold State.ageingSweep
  try dsimp only
  repeat' first
    | with_reducible (first
        | assumption | apply State.ageEntry_kept | apply Kept.foldl)
    | with_reducible intro _
    | dsimp only
    | split

theorem execAgeingSweep_kept {r0 s : State} (hk : Kept r0 s) : ∀ s1, execAgeingSweep s = .next s1 → Kept r0 s1 := by
  intro s1 e; unfold execAgeingSweep at e; injection e with e; subst e
  try dsimp only
  repeat' first
    | with_reducible (first
        | assumption | apply State.ageingSweep_kept)
    | with_reducible intro _
    | dsimp only
    | split

theorem State.scrubUe_kept {r0 s : State} (b : Nat) (hk : Kept r0 s) :
    Kept r0 (State.scrubUe s b) := by
  unfold State.scrubUe
  try dsimp only
  repeat' first
    | with_reducible (first
        | assumption | apply State.bankUe_kept | apply State.bufferError_kept | apply State.raise_kept | apply State.bump_kept
        | apply State.copyFails_kept)
    | with_reducible intro _
    | dsimp only
    | split

theorem State.scrubCe_kept {r0 s : State} (b : Nat) (hk : Kept r0 s) :
    Kept r0 (State.scrubCe s b) := by
  unfold State.scrubCe
  try dsimp only
  repeat' first
    | with_reducible (first
        | assumption | apply State.bankCes_kept | apply State.bankCe_kept | apply State.copyFails_kept)
    | with_reducible intro _
    | dsimp only
    | split

theorem State.bufferScrub_kept {r0 s : State} (ce : List Nat) (ue : List Nat) (hk : Kept r0 s) :
    Kept r0 (State.bufferScrub s ce ue) := by
  unfold State.bufferScrub
  try dsimp only
  repeat' first
    | with_reducible (first
        | assumption | apply State.wr_kept | apply State.scrubUe_kept | apply State.scrubCe_kept | apply State.modSw_kept | apply Kept.foldl)
    | with_reducible intro _
    | dsimp only
    | split

theorem execBufferScrub_kept {r0 s : State} (ce : List (Fin 34)) (ue : List (Fin 34)) (hk : Kept r0 s) : ∀ s1, execBufferScrub ce ue s = .next s1 → Kept r0 s1 := by
  intro s1 e; unfold execBufferScrub at e; injection e with e; subst e
  try dsimp only
  repeat' first
    | with_reducible (first
        | assumption | apply State.bufferScrub_kept)
    | with_reducible intro _
    | dsimp only
    | split

theorem State.bankMark_kept {r0 s : State} (data : Nat) (hk : Kept r0 s) :
    Kept r0 (State.bankMark s data) := by
  unfold State.bankMark
  try dsimp only
  repeat' first
    | with_reducible (first
        | assumption | apply State.writeReg_kept | apply State.bankFailing_kept)
    | with_reducible intro _
    | dsimp only
    | split

theorem execBankMarkFailing_kept {r0 s : State} (data : Word) (hk : Kept r0 s) : ∀ s1, execBankMarkFailing data s = .next s1 → Kept r0 s1 := by
  intro s1 e; unfold execBankMarkFailing at e; injection e with e; subst e
  try dsimp only
  repeat' first
    | with_reducible (first
        | assumption | apply State.access_kept | apply State.bankMark_kept)
    | with_reducible intro _
    | dsimp only
    | split

theorem execBankCopyDone_kept {r0 s : State} (hk : Kept r0 s) : ∀ s1, execBankCopyDone s = .next s1 → Kept r0 s1 := by
  intro s1 e; unfold execBankCopyDone at e; injection e with e; subst e
  try dsimp only
  repeat' first
    | with_reducible (first
        | assumption | apply State.copyDone_kept)
    | with_reducible intro _
    | dsimp only
    | split

theorem State.setFbuf_kept {r0 s : State} (l : List Nat) (hk : Kept r0 s) :
    Kept r0 (State.setFbuf s l) := by
  unfold State.setFbuf
  try dsimp only
  repeat' first
    | with_reducible (first
        | assumption | apply State.wr_kept | apply Kept.foldl)
    | with_reducible intro _
    | dsimp only
    | split

theorem State.fdbLookup_kept {r0 s : State} (data : Nat) (hk : Kept r0 s) :
    Kept r0 (State.fdbLookup s data) := by
  unfold State.fdbLookup
  try dsimp only
  repeat' first
    | with_reducible (first
        | assumption | apply State.checked_kept | apply State.answer_kept | apply State.setFbuf_kept)
    | with_reducible intro _
    | dsimp only
    | split

theorem execFdbLookup_kept {r0 s : State} (data : Word) (hk : Kept r0 s) : ∀ s1, execFdbLookup data s = .next s1 → Kept r0 s1 := by
  intro s1 e; unfold execFdbLookup at e; injection e with e; subst e
  try dsimp only
  repeat' first
    | with_reducible (first
        | assumption | apply State.access_kept | apply State.fdbLookup_kept)
    | with_reducible intro _
    | dsimp only
    | split

theorem State.fdbPlace_kept {r0 s : State} (hk : Kept r0 s) :
    Kept r0 (State.fdbPlace s) := by
  unfold State.fdbPlace
  try dsimp only
  repeat' first
    | with_reducible (first
        | assumption | apply State.setFdb_kept)
    | with_reducible intro _
    | dsimp only
    | split

theorem State.fdbInsert_kept {r0 s : State} (data : Nat) (hk : Kept r0 s) :
    Kept r0 (State.fdbInsert s data) := by
  unfold State.fdbInsert
  try dsimp only
  repeat' first
    | with_reducible (first
        | assumption | apply State.checked_kept | apply State.answer_kept | apply State.fdbPlace_kept)
    | with_reducible intro _
    | dsimp only
    | split

theorem execFdbInsert_kept {r0 s : State} (data : Word) (hk : Kept r0 s) : ∀ s1, execFdbInsert data s = .next s1 → Kept r0 s1 := by
  intro s1 e; unfold execFdbInsert at e; injection e with e; subst e
  try dsimp only
  repeat' first
    | with_reducible (first
        | assumption | apply State.access_kept | apply State.fdbInsert_kept)
    | with_reducible intro _
    | dsimp only
    | split

theorem State.fdbDelete_kept {r0 s : State} (data : Nat) (hk : Kept r0 s) :
    Kept r0 (State.fdbDelete s data) := by
  unfold State.fdbDelete
  try dsimp only
  repeat' first
    | with_reducible (first
        | assumption | apply State.checked_kept | apply State.answer_kept | apply State.setFdb_kept)
    | with_reducible intro _
    | dsimp only
    | split

theorem execFdbDelete_kept {r0 s : State} (data : Word) (hk : Kept r0 s) : ∀ s1, execFdbDelete data s = .next s1 → Kept r0 s1 := by
  intro s1 e; unfold execFdbDelete at e; injection e with e; subst e
  try dsimp only
  repeat' first
    | with_reducible (first
        | assumption | apply State.access_kept | apply State.fdbDelete_kept)
    | with_reducible intro _
    | dsimp only
    | split

theorem State.fdbRead_kept {r0 s : State} (data : Nat) (hk : Kept r0 s) :
    Kept r0 (State.fdbRead s data) := by
  unfold State.fdbRead
  try dsimp only
  repeat' first
    | with_reducible (first
        | assumption | apply State.checked_kept | apply State.answer_kept | apply State.setFbuf_kept)
    | with_reducible intro _
    | dsimp only
    | split

theorem execFdbRead_kept {r0 s : State} (data : Word) (hk : Kept r0 s) : ∀ s1, execFdbRead data s = .next s1 → Kept r0 s1 := by
  intro s1 e; unfold execFdbRead at e; injection e with e; subst e
  try dsimp only
  repeat' first
    | with_reducible (first
        | assumption | apply State.access_kept | apply State.fdbRead_kept)
    | with_reducible intro _
    | dsimp only
    | split

theorem State.fdbFlush_kept {r0 s : State} (data : Nat) (hk : Kept r0 s) :
    Kept r0 (State.fdbFlush s data) := by
  unfold State.fdbFlush
  try dsimp only
  repeat' first
    | with_reducible (first
        | assumption | apply State.checked_kept | apply State.setFdb_kept | apply State.answer_kept | apply Kept.foldl)
    | with_reducible intro _
    | dsimp only
    | split

theorem execFdbFlush_kept {r0 s : State} (data : Word) (hk : Kept r0 s) : ∀ s1, execFdbFlush data s = .next s1 → Kept r0 s1 := by
  intro s1 e; unfold execFdbFlush at e; injection e with e; subst e
  try dsimp only
  repeat' first
    | with_reducible (first
        | assumption | apply State.access_kept | apply State.fdbFlush_kept)
    | with_reducible intro _
    | dsimp only
    | split

end Sys2Proof.Machine
end

