-- ==== Sys2Proof/Laws/Kept/TrafficMgr.lean ====
section
/-! SUPPORT. What the operations of Machine/TrafficMgr.lean keep. -/
namespace Sys2Proof.Machine

theorem execNodeRefill_kept {r0 s : State} (j : Fin 4258) (hk : Kept r0 s) : ∀ s1, execNodeRefill j s = .next s1 → Kept r0 s1 := by
  intro s1 e; unfold execNodeRefill at e; injection e with e; subst e
  try dsimp only
  repeat' first
    | with_reducible (first
        | assumption | apply State.refillNode_kept)
    | with_reducible intro _
    | dsimp only
    | split

theorem execMeterRefill_kept {r0 s : State} (m : Fin 2048) (hk : Kept r0 s) : ∀ s1, execMeterRefill m s = .next s1 → Kept r0 s1 := by
  intro s1 e; unfold execMeterRefill at e; injection e with e; subst e
  try dsimp only
  repeat' first
    | with_reducible (first
        | assumption | apply State.refillMeter_kept)
    | with_reducible intro _
    | dsimp only
    | split

theorem State.rebase_kept {r0 s : State} (hk : Kept r0 s) :
    Kept r0 (State.rebase s) := by
  unfold State.rebase
  try dsimp only
  repeat' first
    | with_reducible (first
        | assumption | apply State.setNode_kept | apply Kept.foldl)
    | with_reducible intro _
    | dsimp only
    | split

theorem execWfqRebase_kept {r0 s : State} (hk : Kept r0 s) : ∀ s1, execWfqRebase s = .next s1 → Kept r0 s1 := by
  intro s1 e; unfold execWfqRebase at e; injection e with e; subst e
  try dsimp only
  repeat' first
    | with_reducible (first
        | assumption | apply State.rebase_kept)
    | with_reducible intro _
    | dsimp only
    | split

theorem State.ncfgStore_kept {r0 s : State} (j : Nat) (data : Nat) (hk : Kept r0 s) :
    Kept r0 (State.ncfgStore s j data) := by
  unfold State.ncfgStore
  try dsimp only
  repeat' first
    | with_reducible (first
        | assumption | apply State.wr_kept)
    | with_reducible intro _
    | dsimp only
    | split

theorem State.ncfgWrite_kept {r0 s : State} (j : Nat) (data : Nat) (hk : Kept r0 s) :
    Kept r0 (State.ncfgWrite s j data) := by
  unfold State.ncfgWrite
  try dsimp only
  repeat' first
    | with_reducible (first
        | assumption | apply State.checked_kept | apply State.ncfgStore_kept | apply State.answer_kept | apply State.checkParents_kept)
    | with_reducible intro _
    | dsimp only
    | split

theorem execQueueParentWrite_kept {r0 s : State} (q : Fin 4096) (data : Word) (hk : Kept r0 s) : ∀ s1, execQueueParentWrite q data s = .next s1 → Kept r0 s1 := by
  intro s1 e; unfold execQueueParentWrite at e; injection e with e; subst e
  try dsimp only
  repeat' first
    | with_reducible (first
        | assumption | apply State.access_kept | apply State.ncfgWrite_kept)
    | with_reducible intro _
    | dsimp only
    | split

theorem State.shaperWrite_kept {r0 s : State} (j : Nat) (w : Nat) (data : Nat) (hk : Kept r0 s) :
    Kept r0 (State.shaperWrite s j w data) := by
  unfold State.shaperWrite
  try dsimp only
  repeat' first
    | with_reducible (first
        | assumption | apply State.writeFields_kept | apply State.checked_kept | apply State.wr_kept | apply State.answer_kept
        | apply State.checkParents_kept)
    | with_reducible intro _
    | dsimp only
    | split

theorem execShaperWrite_kept {r0 s : State} (addr : Word) (data : Word) (hk : Kept r0 s) : ∀ s1, execShaperWrite addr data s = .next s1 → Kept r0 s1 := by
  intro s1 e; unfold execShaperWrite at e; injection e with e; subst e
  try dsimp only
  repeat' first
    | with_reducible (first
        | assumption | apply State.addrAccess_kept | apply State.shaperWrite_kept)
    | with_reducible intro _
    | dsimp only
    | split

theorem State.meterWrite_kept {r0 s : State} (m : Nat) (w : Nat) (data : Nat) (hk : Kept r0 s) :
    Kept r0 (State.meterWrite s m w data) := by
  unfold State.meterWrite
  try dsimp only
  repeat' first
    | with_reducible (first
        | assumption | apply State.writeFields_kept | apply State.checked_kept | apply State.answer_kept)
    | with_reducible intro _
    | dsimp only
    | split

theorem execMeterWrite_kept {r0 s : State} (addr : Word) (data : Word) (hk : Kept r0 s) : ∀ s1, execMeterWrite addr data s = .next s1 → Kept r0 s1 := by
  intro s1 e; unfold execMeterWrite at e; injection e with e; subst e
  try dsimp only
  repeat' first
    | with_reducible (first
        | assumption | apply State.addrAccess_kept | apply State.meterWrite_kept)
    | with_reducible intro _
    | dsimp only
    | split

end Sys2Proof.Machine
end

