-- ==== Sys2Proof/Laws/Kept/Tunnel.lean ====
section
/-! SUPPORT. What the operations of Machine/Tunnel.lean keep. -/
namespace Sys2Proof.Machine

theorem State.noteStage_kept {r0 s : State} (hk : Kept r0 s) :
    Kept r0 (State.noteStage s) := by
  unfold State.noteStage
  try dsimp only
  repeat' first
    | with_reducible (first
        | assumption | apply State.wr_kept | apply Kept.foldl)
    | with_reducible intro _
    | dsimp only
    | split

theorem State.tunnelEntryWrite_kept {r0 s : State} (x : Nat) (w : Nat) (data : Nat) (hk : Kept r0 s) :
    Kept r0 (State.tunnelEntryWrite s x w data) := by
  unfold State.tunnelEntryWrite
  try dsimp only
  repeat' first
    | with_reducible (first
        | assumption | apply State.checked_kept | apply State.answer_kept | apply State.wr_kept | apply State.writeFields_kept
        | apply State.noteStage_kept | apply Kept.foldl)
    | with_reducible intro _
    | dsimp only
    | split

theorem execTunnelEntryWrite_kept {r0 s : State} (addr : Word) (data : Word) (hk : Kept r0 s) : ∀ s1, execTunnelEntryWrite addr data s = .next s1 → Kept r0 s1 := by
  intro s1 e; unfold execTunnelEntryWrite at e; injection e with e; subst e
  try dsimp only
  repeat' first
    | with_reducible (first
        | assumption | apply State.addrAccess_kept | apply State.tunnelEntryWrite_kept)
    | with_reducible intro _
    | dsimp only
    | split

theorem State.routeDone_kept {r0 s : State} (status : Nat) (hk : Kept r0 s) :
    Kept r0 (State.routeDone s status) := by
  unfold State.routeDone
  try dsimp only
  repeat' first
    | with_reducible (first
        | assumption | apply State.answer_kept | apply State.wr_kept)
    | with_reducible intro _
    | dsimp only
    | split

theorem State.routeLookup_kept {r0 s : State} (data : Nat) (hk : Kept r0 s) :
    Kept r0 (State.routeLookup s data) := by
  unfold State.routeLookup
  try dsimp only
  repeat' first
    | with_reducible (first
        | assumption | apply State.routeDone_kept | apply State.wr_kept)
    | with_reducible intro _
    | dsimp only
    | split

theorem execRouteLookup_kept {r0 s : State} (data : Word) (hk : Kept r0 s) : ∀ s1, execRouteLookup data s = .next s1 → Kept r0 s1 := by
  intro s1 e; unfold execRouteLookup at e; injection e with e; subst e
  try dsimp only
  repeat' first
    | with_reducible (first
        | assumption | apply State.access_kept | apply State.routeLookup_kept)
    | with_reducible intro _
    | dsimp only
    | split

theorem State.copyRoute_kept {r0 s : State} (i : Nat) (j : Nat) (hk : Kept r0 s) :
    Kept r0 (State.copyRoute s i j) := by
  unfold State.copyRoute
  try dsimp only
  repeat' first
    | with_reducible (first
        | assumption | apply State.setRoute_kept | apply Kept.foldl)
    | with_reducible intro _
    | dsimp only
    | split

theorem State.clearRoute_kept {r0 s : State} (i : Nat) (hk : Kept r0 s) :
    Kept r0 (State.clearRoute s i) := by
  unfold State.clearRoute
  try dsimp only
  repeat' first
    | with_reducible (first
        | assumption | apply State.setRoute_kept | apply Kept.foldl)
    | with_reducible intro _
    | dsimp only
    | split

theorem State.makeMoves_kept {r0 s : State} (chain : List Nat) (hk : Kept r0 s) :
    Kept r0 (State.makeMoves s chain) := by
  induction chain generalizing s with
  | nil => exact hk
  | cons j r ih =>
    unfold State.makeMoves
    split
    · exact hk
    · with_reducible apply ih
      with_reducible apply State.clearRoute_kept
      with_reducible apply State.copyRoute_kept
      exact hk

theorem State.routePut_kept {r0 s : State} (chain : List Nat) (hk : Kept r0 s) :
    Kept r0 (State.routePut s chain) := by
  unfold State.routePut
  try dsimp only
  repeat' first
    | with_reducible (first
        | assumption | apply State.makeMoves_kept | apply State.setRoute_kept | apply State.wr_kept)
    | with_reducible intro _
    | dsimp only
    | split

theorem State.insertRoute_kept {r0 s : State} (bad : Bool) (hk : Kept r0 s) :
    Kept r0 (State.insertRoute s bad) := by
  unfold State.insertRoute
  try dsimp only
  repeat' first
    | with_reducible (first
        | assumption | apply State.wr_kept | apply State.routePut_kept)
    | with_reducible intro _
    | dsimp only
    | split

theorem execRouteInsert_kept {r0 s : State} (data : Word) (hk : Kept r0 s) : ∀ s1, execRouteInsert data s = .next s1 → Kept r0 s1 := by
  intro s1 e; unfold execRouteInsert at e; injection e with e; subst e
  try dsimp only
  repeat' first
    | with_reducible (first
        | assumption | apply State.access_kept | apply State.answer_kept | apply State.insertRoute_kept)
    | with_reducible intro _
    | dsimp only
    | split

theorem State.routeDelete_kept {r0 s : State} (data : Nat) (hk : Kept r0 s) :
    Kept r0 (State.routeDelete s data) := by
  unfold State.routeDelete
  try dsimp only
  repeat' first
    | with_reducible (first
        | assumption | apply State.routeDone_kept | apply State.wr_kept | apply State.clearRoute_kept)
    | with_reducible intro _
    | dsimp only
    | split

theorem execRouteDelete_kept {r0 s : State} (data : Word) (hk : Kept r0 s) : ∀ s1, execRouteDelete data s = .next s1 → Kept r0 s1 := by
  intro s1 e; unfold execRouteDelete at e; injection e with e; subst e
  try dsimp only
  repeat' first
    | with_reducible (first
        | assumption | apply State.access_kept | apply State.routeDelete_kept)
    | with_reducible intro _
    | dsimp only
    | split

theorem State.routeRead_kept {r0 s : State} (data : Nat) (hk : Kept r0 s) :
    Kept r0 (State.routeRead s data) := by
  unfold State.routeRead
  try dsimp only
  repeat' first
    | with_reducible (first
        | assumption | apply State.routeDone_kept | apply State.wr_kept | apply Kept.foldl)
    | with_reducible intro _
    | dsimp only
    | split

theorem execRouteRead_kept {r0 s : State} (data : Word) (hk : Kept r0 s) : ∀ s1, execRouteRead data s = .next s1 → Kept r0 s1 := by
  intro s1 e; unfold execRouteRead at e; injection e with e; subst e
  try dsimp only
  repeat' first
    | with_reducible (first
        | assumption | apply State.access_kept | apply State.routeRead_kept)
    | with_reducible intro _
    | dsimp only
    | split

theorem State.tunnelFrame_kept {r0 s : State} (u : TunUnit) (hk : Kept r0 s) :
    Kept r0 (State.tunnelFrame s u) := by
  unfold State.tunnelFrame
  try dsimp only
  repeat' first
    | with_reducible (first
        | assumption | apply State.gwDeliver_kept | apply State.swDrop_kept | apply State.gwLost_kept | apply State.modTun_kept
        | apply State.identFrame_kept | apply State.handOver_kept)
    | with_reducible intro _
    | dsimp only
    | split

theorem State.tunnelFrameReceive_kept {r0 s : State} (hk : Kept r0 s) :
    Kept r0 (State.tunnelFrameReceive s) := by
  unfold State.tunnelFrameReceive
  try dsimp only
  repeat' first
    | with_reducible (first
        | assumption | apply State.tunnelFrame_kept | apply State.modTun_kept)
    | with_reducible intro _
    | dsimp only
    | split

theorem execTunnelFrameReceive_kept {r0 s : State} (hk : Kept r0 s) : ∀ s1, execTunnelFrameReceive s = .next s1 → Kept r0 s1 := by
  intro s1 e; unfold execTunnelFrameReceive at e; injection e with e; subst e
  try dsimp only
  repeat' first
    | with_reducible (first
        | assumption | apply State.tunnelFrameReceive_kept)
    | with_reducible intro _
    | dsimp only
    | split

theorem State.pimgTimeout_kept {r0 s : State} (i : Nat) (hk : Kept r0 s) :
    Kept r0 (State.pimgTimeout s i) := by
  unfold State.pimgTimeout
  try dsimp only
  repeat' first
    | with_reducible (first
        | assumption | apply State.raise_kept | apply State.setQuality_kept)
    | with_reducible intro _
    | dsimp only
    | split

theorem execPointImageTimeout_kept {r0 s : State} (i : Fin 64) (hk : Kept r0 s) : ∀ s1, execPointImageTimeout i s = .next s1 → Kept r0 s1 := by
  intro s1 e; unfold execPointImageTimeout at e; injection e with e; subst e
  try dsimp only
  repeat' first
    | with_reducible (first
        | assumption | apply State.pimgTimeout_kept)
    | with_reducible intro _
    | dsimp only
    | split

theorem State.pelogClear_kept {r0 s : State} (e : Nat) (data : Nat) (hk : Kept r0 s) :
    Kept r0 (State.pelogClear s e data) := by
  unfold State.pelogClear
  try dsimp only
  repeat' first
    | with_reducible (first
        | assumption | apply State.writeReg_kept | apply State.peStat_kept | apply State.modTun_kept)
    | with_reducible intro _
    | dsimp only
    | split

theorem execPelogEntryClear_kept {r0 s : State} (e : Fin 16) (data : Word) (hk : Kept r0 s) : ∀ s1, execPelogEntryClear e data s = .next s1 → Kept r0 s1 := by
  intro s1 e; unfold execPelogEntryClear at e; injection e with e; subst e
  try dsimp only
  repeat' first
    | with_reducible (first
        | assumption | apply State.access_kept | apply State.pelogClear_kept)
    | with_reducible intro _
    | dsimp only
    | split

end Sys2Proof.Machine
end

