-- ==== Sys2Proof/Laws/Kept/RegLink.lean ====
section
/-! SUPPORT. What the operations of Machine/RegLink.lean keep. -/
namespace Sys2Proof.Machine

theorem State.quietly_kept {r0 s : State} (f : State → State) (hk : Kept r0 s) (hf : ∀ r t, Kept r t → Kept r (f t)) :
    Kept r0 (s.quietly f).1 := by
  refine hk.trans ?_
  have h := hf { s with out := [] } { s with out := [] } (Kept.refl _)
  exact ⟨h.pending, List.prefix_append _ _, h.fresh, fun i => h.inv i⟩

theorem State.reservedFirst_kept {r0 s : State} (bad : Bool) (f : State → State) (hk : Kept r0 s) (hf : ∀ t, Kept r0 t → Kept r0 (f t)) :
    Kept r0 (State.reservedFirst s bad f) := by
  unfold State.reservedFirst
  try dsimp only
  repeat' first
    | with_reducible (first
        | assumption | apply hf | apply State.quietly_kept | apply State.answer_kept)
    | with_reducible intro _
    | dsimp only
    | split

theorem State.rootWrite_kept {r0 s : State} (d : RegDesc) (i : Nat) (data : Nat) (checks : List (Nat × Bool)) (after : State → State) (hk : Kept r0 s) (hafter : ∀ t, Kept r0 t → Kept r0 (after t)) :
    Kept r0 (State.rootWrite s d i data checks after) := by
  unfold State.rootWrite
  try dsimp only
  repeat' first
    | with_reducible (first
        | assumption | apply hafter | apply State.writeReg_kept)
    | with_reducible intro _
    | dsimp only
    | split

theorem State.rootRead_kept {r0 s : State} (d : RegDesc) (i : Nat) (hk : Kept r0 s) :
    Kept r0 (State.rootRead s d i) := by
  unfold State.rootRead
  try dsimp only
  repeat' first
    | with_reducible (first
        | assumption | apply State.answerData_kept)
    | with_reducible intro _
    | dsimp only
    | split

theorem State.plnCmd_kept {r0 s : State} (data : Nat) (hk : Kept r0 s) :
    Kept r0 (State.plnCmd s data) := by
  unfold State.plnCmd
  try dsimp only
  repeat' first
    | with_reducible (first
        | assumption | apply State.validateCmd_kept | apply State.invalidateCmd_kept | apply State.answer_kept)
    | with_reducible intro _
    | dsimp only
    | split

theorem State.psrcWrite_kept {r0 s : State} (i : Nat) (data : Nat) (hk : Kept r0 s) :
    Kept r0 (State.psrcWrite s i data) := by
  unfold State.psrcWrite
  try dsimp only
  repeat' first
    | with_reducible (first
        | assumption | apply State.rootWrite_kept | apply State.setPresence_kept)
    | with_reducible intro _
    | dsimp only
    | split

theorem writes02_kept {r0 : State} : ∀ e ∈ writes02, ∀ t i data, Kept r0 t → Kept r0 (e.2 t i data) := by
  unfold writes02
  try dsimp only
  repeat' first
    | with_reducible (first
        | assumption | apply State.rootWrite_kept | apply State.zshift_kept | apply State.plnCmd_kept | apply State.linkShift_kept
        | apply State.writeReg_kept | apply State.psrcWrite_kept | refine List.forall_mem_cons.2 ⟨?_, ?_⟩
        | refine List.forall_mem_append.2 ⟨?_, ?_⟩ | refine List.forall_mem_map.2 ?_ | exact List.forall_mem_nil _ | apply Kept.ident)
    | with_reducible intro _
    | dsimp only
    | split

theorem reads02_kept {r0 : State} : ∀ e ∈ reads02, ∀ t i, Kept r0 t → Kept r0 (e.2 t i) := by
  unfold reads02
  try dsimp only
  repeat' first
    | with_reducible (first
        | assumption | apply State.rootRead_kept | apply State.answerData_kept | refine List.forall_mem_cons.2 ⟨?_, ?_⟩
        | refine List.forall_mem_append.2 ⟨?_, ?_⟩ | refine List.forall_mem_map.2 ?_ | exact List.forall_mem_nil _)
    | with_reducible intro _
    | dsimp only
    | split

theorem State.planWindowRead_kept {r0 s : State} (off : Nat) (hk : Kept r0 s) :
    Kept r0 (State.planWindowRead s off) := by
  unfold State.planWindowRead
  try dsimp only
  repeat' first
    | with_reducible (first
        | assumption | apply State.answerData_kept)
    | with_reducible intro _
    | dsimp only
    | split

theorem State.tunCtrlWrite_kept {r0 s : State} (data : Nat) (hk : Kept r0 s) :
    Kept r0 (State.tunCtrlWrite s data) := by
  unfold State.tunCtrlWrite
  try dsimp only
  repeat' first
    | with_reducible (first
        | assumption | apply State.writeReg_kept | apply State.modTun_kept | apply State.swLinkDown_kept)
    | with_reducible intro _
    | dsimp only
    | split

theorem State.rcmdWrite_kept {r0 s : State} (data : Nat) (hk : Kept r0 s) :
    Kept r0 (State.rcmdWrite s data) := by
  unfold State.rcmdWrite
  try dsimp only
  repeat' first
    | with_reducible (first
        | assumption | apply State.routeLookup_kept | apply State.answer_kept | apply State.insertRoute_kept | apply State.routeDelete_kept
        | apply State.routeRead_kept)
    | with_reducible intro _
    | dsimp only
    | split

theorem State.pmapWrite_kept {r0 s : State} (d : RegDesc) (i : Nat) (data : Nat) (hk : Kept r0 s) :
    Kept r0 (State.pmapWrite s d i data) := by
  unfold State.pmapWrite
  try dsimp only
  repeat' first
    | with_reducible (first
        | assumption | apply State.writeFields_kept | apply State.checked_kept | apply State.answer_kept | apply State.modTun_kept)
    | with_reducible intro _
    | dsimp only
    | split

theorem writes03_kept {r0 : State} : ∀ e ∈ writes03, ∀ t i data, Kept r0 t → Kept r0 (e.2 t i data) := by
  unfold writes03
  try dsimp only
  repeat' first
    | with_reducible (first
        | assumption | apply State.tunCtrlWrite_kept | apply State.writeReg_kept | apply State.rcmdWrite_kept | apply State.rootWrite_kept
        | apply State.pelogClear_kept | apply State.pmapWrite_kept | apply State.tunnelEntryWrite_kept | refine List.forall_mem_cons.2 ⟨?_, ?_⟩
        | refine List.forall_mem_append.2 ⟨?_, ?_⟩ | refine List.forall_mem_map.2 ?_ | exact List.forall_mem_nil _ | apply Kept.ident)
    | with_reducible intro _
    | dsimp only
    | split

theorem reads03_kept {r0 : State} : ∀ e ∈ reads03, ∀ t i, Kept r0 t → Kept r0 (e.2 t i) := by
  unfold reads03
  try dsimp only
  repeat' first
    | with_reducible (first
        | assumption | apply State.rootRead_kept | apply State.wr_kept | apply State.answerData_kept | refine List.forall_mem_cons.2 ⟨?_, ?_⟩
        | refine List.forall_mem_append.2 ⟨?_, ?_⟩ | refine List.forall_mem_map.2 ?_ | exact List.forall_mem_nil _)
    | with_reducible intro _
    | dsimp only
    | split

theorem State.jxpCmd_kept {r0 s : State} (p : Nat) (data : Nat) (hk : Kept r0 s) :
    Kept r0 (State.jxpCmd s p data) := by
  unfold State.jxpCmd
  try dsimp only
  repeat' first
    | with_reducible (first
        | assumption | apply State.reservedFirst_kept | apply State.fence_kept | apply State.restore_kept | apply State.widen_kept
        | apply State.resetLanes_kept | apply State.horizonStart_kept | apply State.answer_kept | apply State.scanStop_kept)
    | with_reducible intro _
    | dsimp only
    | split

theorem State.ffeWrite_kept {r0 s : State} (i : Nat) (data : Nat) (hk : Kept r0 s) :
    Kept r0 (State.ffeWrite s i data) := by
  unfold State.ffeWrite
  try dsimp only
  repeat' first
    | with_reducible (first
        | assumption | apply State.writeReg_kept | apply State.wr_kept)
    | with_reducible intro _
    | dsimp only
    | split

theorem State.rxeqWrite_kept {r0 s : State} (i : Nat) (data : Nat) (hk : Kept r0 s) :
    Kept r0 (State.rxeqWrite s i data) := by
  unfold State.rxeqWrite
  try dsimp only
  repeat' first
    | with_reducible (first
        | assumption | apply State.writeReg_kept | apply Kept.ident)
    | with_reducible intro _
    | dsimp only
    | split

theorem State.dfeWrite_kept {r0 s : State} (d : RegDesc) (i : Nat) (data : Nat) (hk : Kept r0 s) :
    Kept r0 (State.dfeWrite s d i data) := by
  unfold State.dfeWrite
  try dsimp only
  repeat' first
    | with_reducible (first
        | assumption | apply State.writeReg_kept | apply Kept.ident)
    | with_reducible intro _
    | dsimp only
    | split

theorem State.prbsWrite_kept {r0 s : State} (i : Nat) (data : Nat) (hk : Kept r0 s) :
    Kept r0 (State.prbsWrite s i data) := by
  unfold State.prbsWrite
  try dsimp only
  repeat' first
    | with_reducible (first
        | assumption | apply State.writeReg_kept | apply State.wr_kept)
    | with_reducible intro _
    | dsimp only
    | split

theorem writes04_kept {r0 : State} : ∀ e ∈ writes04, ∀ t i data, Kept r0 t → Kept r0 (e.2 t i data) := by
  unfold writes04
  try dsimp only
  repeat' first
    | with_reducible (first
        | assumption | apply State.writeReg_kept | apply State.jxpCmd_kept | apply State.ffeWrite_kept | apply State.rxeqWrite_kept
        | apply State.dfeWrite_kept | apply State.prbsWrite_kept | apply State.injWrite_kept | refine List.forall_mem_cons.2 ⟨?_, ?_⟩
        | refine List.forall_mem_append.2 ⟨?_, ?_⟩ | refine List.forall_mem_map.2 ?_ | exact List.forall_mem_nil _ | apply Kept.ident)
    | with_reducible intro _
    | dsimp only
    | split

theorem reads04_kept {r0 : State} : ∀ e ∈ reads04, ∀ t i, Kept r0 t → Kept r0 (e.2 t i) := by
  unfold reads04
  try dsimp only
  repeat' first
    | with_reducible (first
        | assumption | apply State.answerData_kept | apply State.wr_kept | refine List.forall_mem_cons.2 ⟨?_, ?_⟩
        | refine List.forall_mem_append.2 ⟨?_, ?_⟩ | refine List.forall_mem_map.2 ?_ | exact List.forall_mem_nil _)
    | with_reducible intro _
    | dsimp only
    | split

theorem State.horizonRead_kept {r0 s : State} (p : Nat) (off : Nat) (hk : Kept r0 s) :
    Kept r0 (State.horizonRead s p off) := by
  unfold State.horizonRead
  try dsimp only
  repeat' first
    | with_reducible (first
        | assumption | apply State.answerData_kept)
    | with_reducible intro _
    | dsimp only
    | split

theorem State.jxkCmd_kept {r0 s : State} (p : Nat) (data : Nat) (hk : Kept r0 s) :
    Kept r0 (State.jxkCmd s p data) := by
  unfold State.jxkCmd
  try dsimp only
  repeat' first
    | with_reducible (first
        | assumption | apply State.reservedFirst_kept | apply State.retrainCmd_kept | apply State.rekeyCmd_kept | apply State.checked_kept
        | apply Kept.ident)
    | with_reducible intro _
    | dsimp only
    | split

theorem State.poolWrite_kept {r0 s : State} (d : RegDesc) (i : Nat) (data : Nat) (checks : List (Nat × Bool)) (after : State → State) (hk : Kept r0 s) (hafter : ∀ t, Kept r0 t → Kept r0 (after t)) :
    Kept r0 (State.poolWrite s d i data checks after) := by
  unfold State.poolWrite
  try dsimp only
  repeat' first
    | with_reducible (first
        | assumption | apply hafter | apply State.writeReg_kept | apply State.writeFields_kept | apply State.recomputePool_kept)
    | with_reducible intro _
    | dsimp only
    | split

theorem writes05_kept {r0 : State} : ∀ e ∈ writes05, ∀ t i data, Kept r0 t → Kept r0 (e.2 t i data) := by
  unfold writes05
  try dsimp only
  repeat' first
    | with_reducible (first
        | assumption | apply State.jxkCtrlWrite_kept | apply State.jxkCmd_kept | apply State.poolWrite_kept
        | refine List.forall_mem_cons.2 ⟨?_, ?_⟩ | refine List.forall_mem_append.2 ⟨?_, ?_⟩ | refine List.forall_mem_map.2 ?_
        | exact List.forall_mem_nil _ | apply Kept.ident)
    | with_reducible intro _
    | dsimp only
    | split

theorem reads05_kept {r0 : State} : ∀ e ∈ reads05, ∀ t i, Kept r0 t → Kept r0 (e.2 t i) := by
  unfold reads05
  try dsimp only
  repeat' first
    | with_reducible (first
        | assumption | apply State.answerData_kept | refine List.forall_mem_cons.2 ⟨?_, ?_⟩ | refine List.forall_mem_append.2 ⟨?_, ?_⟩
        | refine List.forall_mem_map.2 ?_ | exact List.forall_mem_nil _)
    | with_reducible intro _
    | dsimp only
    | split

end Sys2Proof.Machine
end

