-- ==== Sys2Proof/Laws/Kept/RegSwitch.lean ====
section
/-! SUPPORT. What the operations of Machine/RegSwitch.lean keep. -/
namespace Sys2Proof.Machine

theorem State.fcmdWrite_kept {r0 s : State} (data : Nat) (hk : Kept r0 s) :
    Kept r0 (State.fcmdWrite s data) := by
  unfold State.fcmdWrite
  try dsimp only
  repeat' first
    | with_reducible (first
        | assumption | apply State.fdbLookup_kept | apply State.fdbInsert_kept | apply State.fdbDelete_kept | apply State.fdbRead_kept
        | apply State.fdbFlush_kept | apply State.answer_kept)
    | with_reducible intro _
    | dsimp only
    | split

theorem State.setProfile_kept {r0 s : State} (q : Nat) (prof : Nat) (hk : Kept r0 s) :
    Kept r0 (State.setProfile s q prof) := by
  unfold State.setProfile
  try dsimp only
  repeat' first
    | with_reducible (first
        | assumption | apply State.wr_kept | apply State.modSw_kept)
    | with_reducible intro _
    | dsimp only
    | split

theorem State.qcfgWrite_kept {r0 s : State} (q : Nat) (data : Nat) (hk : Kept r0 s) :
    Kept r0 (State.qcfgWrite s q data) := by
  unfold State.qcfgWrite
  try dsimp only
  repeat' first
    | with_reducible (first
        | assumption | apply State.setProfile_kept | apply State.checked_kept | apply State.answer_kept | apply State.recomputePool_kept)
    | with_reducible intro _
    | dsimp only
    | split

theorem writes06_kept {r0 : State} : ∀ e ∈ writes06, ∀ t i data, Kept r0 t → Kept r0 (e.2 t i data) := by
  unfold writes06
  try dsimp only
  repeat' first
    | with_reducible (first
        | assumption | apply State.writeReg_kept | apply State.fcmdWrite_kept | apply State.bankMark_kept | apply State.poolWrite_kept
        | apply State.qcfgWrite_kept | refine List.forall_mem_cons.2 ⟨?_, ?_⟩ | refine List.forall_mem_append.2 ⟨?_, ?_⟩
        | refine List.forall_mem_map.2 ?_ | exact List.forall_mem_nil _ | apply Kept.ident)
    | with_reducible intro _
    | dsimp only
    | split

theorem reads06_kept {r0 : State} : ∀ e ∈ reads06, ∀ t i, Kept r0 t → Kept r0 (e.2 t i) := by
  unfold reads06
  try dsimp only
  repeat' first
    | with_reducible (first
        | assumption | apply State.answerData_kept | apply State.wr_kept | refine List.forall_mem_cons.2 ⟨?_, ?_⟩
        | refine List.forall_mem_append.2 ⟨?_, ?_⟩ | refine List.forall_mem_map.2 ?_ | exact List.forall_mem_nil _)
    | with_reducible intro _
    | dsimp only
    | split

theorem writes07_kept {r0 : State} : ∀ e ∈ writes07, ∀ t i data, Kept r0 t → Kept r0 (e.2 t i data) := by
  unfold writes07
  try dsimp only
  repeat' first
    | with_reducible (first
        | assumption | apply State.rootWrite_kept | apply State.writeReg_kept | apply State.ncfgWrite_kept | apply State.shaperWrite_kept
        | apply State.meterWrite_kept | refine List.forall_mem_cons.2 ⟨?_, ?_⟩ | refine List.forall_mem_append.2 ⟨?_, ?_⟩
        | refine List.forall_mem_map.2 ?_ | exact List.forall_mem_nil _ | apply Kept.ident)
    | with_reducible intro _
    | dsimp only
    | split

theorem reads07_kept {r0 : State} : ∀ e ∈ reads07, ∀ t i, Kept r0 t → Kept r0 (e.2 t i) := by
  unfold reads07
  try dsimp only
  repeat' first
    | with_reducible (first
        | assumption | apply State.rootRead_kept | apply State.answerData_kept | refine List.forall_mem_cons.2 ⟨?_, ?_⟩
        | refine List.forall_mem_append.2 ⟨?_, ?_⟩ | refine List.forall_mem_map.2 ?_ | exact List.forall_mem_nil _)
    | with_reducible intro _
    | dsimp only
    | split

theorem State.admWrite_kept {r0 s : State} (d : RegDesc) (w : Nat) (e : Nat) (data : Nat) (hk : Kept r0 s) :
    Kept r0 (State.admWrite s d w e data) := by
  unfold State.admWrite
  try dsimp only
  repeat' first
    | with_reducible (first
        | assumption | apply State.writeFields_kept | apply State.checked_kept | apply State.answer_kept | apply State.modFld_kept)
    | with_reducible intro _
    | dsimp only
    | split

theorem State.dibaseWrite_kept {r0 s : State} (data : Nat) (hk : Kept r0 s) :
    Kept r0 (State.dibaseWrite s data) := by
  unfold State.dibaseWrite
  try dsimp only
  repeat' first
    | with_reducible (first
        | assumption | apply State.writeFields_kept | apply State.writeReg_kept | apply State.requalifyInputs_kept)
    | with_reducible intro _
    | dsimp only
    | split

theorem writes08_kept {r0 : State} : ∀ e ∈ writes08, ∀ t i data, Kept r0 t → Kept r0 (e.2 t i data) := by
  unfold writes08
  try dsimp only
  repeat' first
    | with_reducible (first
        | assumption | apply State.dibaseWrite_kept | apply State.tsPop_kept | apply State.octrlWrite_kept | apply State.outputKick_kept
        | apply State.writeReg_kept | apply State.refreshOutput_kept | apply State.segRefresh_kept | apply State.diWrite_kept
        | apply State.admWrite_kept | refine List.forall_mem_cons.2 ⟨?_, ?_⟩ | refine List.forall_mem_append.2 ⟨?_, ?_⟩
        | refine List.forall_mem_map.2 ?_ | exact List.forall_mem_nil _ | apply Kept.ident)
    | with_reducible intro _
    | dsimp only
    | split

theorem State.measuredRead_kept {r0 s : State} (d : RegDesc) (i : Nat) (f : Field) (hk : Kept r0 s) :
    Kept r0 (State.measuredRead s d i f) := by
  unfold State.measuredRead
  try dsimp only
  repeat' first
    | with_reducible (first
        | assumption | apply State.drew_kept | apply State.answerData_kept)
    | with_reducible intro _
    | dsimp only
    | split

theorem reads08_kept {r0 : State} : ∀ e ∈ reads08, ∀ t i, Kept r0 t → Kept r0 (e.2 t i) := by
  unfold reads08
  try dsimp only
  repeat' first
    | with_reducible (first
        | assumption | apply State.measuredRead_kept | refine List.forall_mem_cons.2 ⟨?_, ?_⟩ | refine List.forall_mem_append.2 ⟨?_, ?_⟩
        | refine List.forall_mem_map.2 ?_ | exact List.forall_mem_nil _)
    | with_reducible intro _
    | dsimp only
    | split

theorem State.ethCtrlWrite_kept {r0 s : State} (k : Nat) (data : Nat) (hk : Kept r0 s) :
    Kept r0 (State.ethCtrlWrite s k data) := by
  unfold State.ethCtrlWrite
  try dsimp only
  repeat' first
    | with_reducible (first
        | assumption | apply State.writeReg_kept | apply State.ethDown_kept)
    | with_reducible intro _
    | dsimp only
    | split

theorem State.tsuCtrlWrite_kept {r0 s : State} (data : Nat) (hk : Kept r0 s) :
    Kept r0 (State.tsuCtrlWrite s data) := by
  unfold State.tsuCtrlWrite
  try dsimp only
  repeat' first
    | with_reducible (first
        | assumption | apply State.writeReg_kept | apply State.raise_kept)
    | with_reducible intro _
    | dsimp only
    | split

theorem writes09_kept {r0 : State} : ∀ e ∈ writes09, ∀ t i data, Kept r0 t → Kept r0 (e.2 t i data) := by
  unfold writes09
  try dsimp only
  repeat' first
    | with_reducible (first
        | assumption | apply State.ethCtrlWrite_kept | apply State.writeReg_kept | apply State.txtsPop_kept | apply State.tsuCtrlWrite_kept
        | apply State.rateWrite_kept | apply State.rootWrite_kept | apply State.timeStep_kept | apply State.setDelay_kept
        | refine List.forall_mem_cons.2 ⟨?_, ?_⟩ | refine List.forall_mem_append.2 ⟨?_, ?_⟩ | refine List.forall_mem_map.2 ?_
        | exact List.forall_mem_nil _ | apply Kept.ident)
    | with_reducible intro _
    | dsimp only
    | split

theorem reads09_kept {r0 : State} : ∀ e ∈ reads09, ∀ t i, Kept r0 t → Kept r0 (e.2 t i) := by
  unfold reads09
  try dsimp only
  repeat' first
    | with_reducible (first
        | assumption | apply State.answerData_kept | apply State.wr_kept | apply State.drew_kept | refine List.forall_mem_cons.2 ⟨?_, ?_⟩
        | refine List.forall_mem_append.2 ⟨?_, ?_⟩ | refine List.forall_mem_map.2 ?_ | exact List.forall_mem_nil _)
    | with_reducible intro _
    | dsimp only
    | split

end Sys2Proof.Machine
end

