-- ==== Sys2Proof/Laws/Kept/Typec.lean ====
section
/-! SUPPORT. What the operations of Machine/Typec.lean keep. -/
namespace Sys2Proof.Machine

theorem State.tcAttach_kept {r0 s : State} (n : Nat) (src : Bool) (cc2 : Bool) (ra : Bool) (rp : Nat) (hk : Kept r0 s) :
    Kept r0 (State.tcAttach s n src cc2 ra rp) := by
  unfold State.tcAttach
  try dsimp only
  repeat' first
    | with_reducible (first
        | assumption | apply State.tcTold_kept | apply State.setBit_kept | apply State.wr_kept | apply State.setTc_kept | apply State.tcPins_kept
        | apply State.reportPresence_kept | apply State.tcRouted_kept | apply State.raise_kept | apply State.sendCaps_kept)
    | with_reducible intro _
    | dsimp only
    | split

theorem execTcAttach_kept {r0 s : State} (n : Fin 2) (src : Bool) (cc2 : Bool) (ra : Bool) (rp : Fin 4) (hk : Kept r0 s) : ∀ s1, execTcAttach n src cc2 ra rp s = .next s1 → Kept r0 s1 := by
  intro s1 e; unfold execTcAttach at e; injection e with e; subst e
  try dsimp only
  repeat' first
    | with_reducible (first
        | assumption | apply State.tcAttach_kept)
    | with_reducible intro _
    | dsimp only
    | split

theorem State.tcDetach_kept {r0 s : State} (n : Nat) (hk : Kept r0 s) :
    Kept r0 (State.tcDetach s n) := by
  unfold State.tcDetach
  try dsimp only
  repeat' first
    | with_reducible (first
        | assumption | apply State.tcTold_kept | apply State.tcOff_kept | apply State.wr_kept | apply State.tcClear_kept
        | apply State.reportPresence_kept | apply State.raise_kept)
    | with_reducible intro _
    | dsimp only
    | split

theorem execTcDetach_kept {r0 s : State} (n : Fin 2) (hk : Kept r0 s) : ∀ s1, execTcDetach n s = .next s1 → Kept r0 s1 := by
  intro s1 e; unfold execTcDetach at e; injection e with e; subst e
  try dsimp only
  repeat' first
    | with_reducible (first
        | assumption | apply State.tcDetach_kept)
    | with_reducible intro _
    | dsimp only
    | split

theorem State.pdTake_kept {r0 s : State} (n : Nat) (sop : Nat) (b : List Byte) (hk : Kept r0 s) :
    Kept r0 (State.pdTake s n sop b) := by
  unfold State.pdTake
  try dsimp only
  repeat' first
    | with_reducible (first
        | assumption | apply State.pdCollide_kept | apply State.modTc_kept | apply State.wr_kept | apply State.tcTell_kept
        | apply State.pdWait_kept | apply State.pdActs_kept)
    | with_reducible intro _
    | dsimp only
    | split

theorem State.pdReceive_kept {r0 s : State} (n : Nat) (sop : Nat) (b : List Byte) (hk : Kept r0 s) :
    Kept r0 (State.pdReceive s n sop b) := by
  unfold State.pdReceive
  try dsimp only
  repeat' first
    | with_reducible (first
        | assumption | apply State.tcTold_kept | apply State.hardReset_kept | apply State.pdAcked_kept | apply State.emit_kept
        | apply State.bump_kept | apply State.pdTake_kept)
    | with_reducible intro _
    | dsimp only
    | split

theorem execPdMessageReceive_kept {r0 s : State} (n : Fin 2) (sop : Fin 4) (msg : List Byte) (hk : Kept r0 s) : ∀ s1, execPdMessageReceive n sop msg s = .next s1 → Kept r0 s1 := by
  intro s1 e; unfold execPdMessageReceive at e; injection e with e; subst e
  try dsimp only
  repeat' first
    | with_reducible (first
        | assumption | apply State.pdReceive_kept)
    | with_reducible intro _
    | dsimp only
    | split

theorem State.goodCrcTimeout_kept {r0 s : State} (n : Nat) (hk : Kept r0 s) :
    Kept r0 (State.goodCrcTimeout s n) := by
  unfold State.goodCrcTimeout
  try dsimp only
  repeat' first
    | with_reducible (first
        | assumption | apply State.pdPut_kept | apply State.bump_kept | apply State.raiseOnce_kept | apply State.modTc_kept
        | apply State.txRes_kept | apply State.pdSend_kept)
    | with_reducible intro _
    | dsimp only
    | split

theorem execGoodcrcTimeout_kept {r0 s : State} (n : Fin 2) (hk : Kept r0 s) : ∀ s1, execGoodcrcTimeout n s = .next s1 → Kept r0 s1 := by
  intro s1 e; unfold execGoodcrcTimeout at e; injection e with e; subst e
  try dsimp only
  repeat' first
    | with_reducible (first
        | assumption | apply State.goodCrcTimeout_kept)
    | with_reducible intro _
    | dsimp only
    | split

theorem State.pdStart_kept {r0 s : State} (n : Nat) (m : PdMsg) (hk : Kept r0 s) :
    Kept r0 (State.pdStart s n m) := by
  unfold State.pdStart
  try dsimp only
  repeat' first
    | with_reducible (first
        | assumption | apply State.pdSend_kept | apply State.emit_kept | apply State.modTc_kept)
    | with_reducible intro _
    | dsimp only
    | split

theorem State.txReq_kept {r0 s : State} (n : Nat) (sop : Nat) (rseq : Nat) (b : List Byte) (hk : Kept r0 s) :
    Kept r0 (State.txReq s n sop rseq b) := by
  unfold State.txReq
  try dsimp only
  repeat' first
    | with_reducible (first
        | assumption | apply State.txRes_kept | apply State.pdSend_kept | apply State.modTc_kept | apply State.pdStart_kept)
    | with_reducible intro _
    | dsimp only
    | split

theorem execTxreq_kept {r0 s : State} (n : Fin 2) (sop : Fin 4) (rseq : Fin 256) (msg : List Byte) (hk : Kept r0 s) : ∀ s1, execTxreq n sop rseq msg s = .next s1 → Kept r0 s1 := by
  intro s1 e; unfold execTxreq at e; injection e with e; subst e
  try dsimp only
  repeat' first
    | with_reducible (first
        | assumption | apply State.txReq_kept)
    | with_reducible intro _
    | dsimp only
    | split

theorem State.tcCmd_kept {r0 s : State} (n : Nat) (rseq : Nat) (f : State → State) (hk : Kept r0 s) (hf : ∀ t, Kept r0 t → Kept r0 (f t)) :
    Kept r0 (State.tcCmd s n rseq f) := by
  unfold State.tcCmd
  try dsimp only
  repeat' first
    | with_reducible (first
        | assumption | apply hf | apply State.tcTell_kept | apply State.tcTold_kept)
    | with_reducible intro _
    | dsimp only
    | split

theorem execHardReset_kept {r0 s : State} (n : Fin 2) (rseq : Fin 256) (hk : Kept r0 s) : ∀ s1, execHardReset n rseq s = .next s1 → Kept r0 s1 := by
  intro s1 e; unfold execHardReset at e; injection e with e; subst e
  try dsimp only
  repeat' first
    | with_reducible (first
        | assumption | apply State.tcCmd_kept | apply State.hardReset_kept)
    | with_reducible intro _
    | dsimp only
    | split

theorem execSendCaps_kept {r0 s : State} (n : Fin 2) (rseq : Fin 256) (hk : Kept r0 s) : ∀ s1, execSendCaps n rseq s = .next s1 → Kept r0 s1 := by
  intro s1 e; unfold execSendCaps at e; injection e with e; subst e
  try dsimp only
  repeat' first
    | with_reducible (first
        | assumption | apply State.tcCmd_kept | apply State.sendCaps_kept | apply State.tcTell_kept)
    | with_reducible intro _
    | dsimp only
    | split

theorem execErrorRecovery_kept {r0 s : State} (n : Fin 2) (rseq : Fin 256) (hk : Kept r0 s) : ∀ s1, execErrorRecovery n rseq s = .next s1 → Kept r0 s1 := by
  intro s1 e; unfold execErrorRecovery at e; injection e with e; subst e
  try dsimp only
  repeat' first
    | with_reducible (first
        | assumption | apply State.tcCmd_kept | apply State.reportPresence_kept | apply State.errorRecovery_kept)
    | with_reducible intro _
    | dsimp only
    | split

theorem State.policyExpire_kept {r0 s : State} (n : Nat) (hk : Kept r0 s) :
    Kept r0 (State.policyExpire s n) := by
  unfold State.policyExpire
  try dsimp only
  repeat' first
    | with_reducible (first
        | assumption | apply State.fallbackAnswer_kept | apply State.raiseOnce_kept | apply State.bump_kept | apply State.modTc_kept)
    | with_reducible intro _
    | dsimp only
    | split

theorem execPolicyWaitExpire_kept {r0 s : State} (n : Fin 2) (hk : Kept r0 s) : ∀ s1, execPolicyWaitExpire n s = .next s1 → Kept r0 s1 := by
  intro s1 e; unfold execPolicyWaitExpire at e; injection e with e; subst e
  try dsimp only
  repeat' first
    | with_reducible (first
        | assumption | apply State.policyExpire_kept)
    | with_reducible intro _
    | dsimp only
    | split

theorem State.srcTransitionEnd_kept {r0 s : State} (n : Nat) (hk : Kept r0 s) :
    Kept r0 (State.srcTransitionEnd s n) := by
  unfold State.srcTransitionEnd
  try dsimp only
  repeat' first
    | with_reducible (first
        | assumption | apply State.setPhase_kept | apply State.tcPins_kept | apply State.tcRouted_kept)
    | with_reducible intro _
    | dsimp only
    | split

theorem execSrcTransitionEnd_kept {r0 s : State} (n : Fin 2) (hk : Kept r0 s) : ∀ s1, execSrcTransitionEnd n s = .next s1 → Kept r0 s1 := by
  intro s1 e; unfold execSrcTransitionEnd at e; injection e with e; subst e
  try dsimp only
  repeat' first
    | with_reducible (first
        | assumption | apply State.srcTransitionEnd_kept)
    | with_reducible intro _
    | dsimp only
    | split

theorem State.vbusReached_kept {r0 s : State} (n : Nat) (hk : Kept r0 s) :
    Kept r0 (State.vbusReached s n) := by
  unfold State.vbusReached
  try dsimp only
  repeat' first
    | with_reducible (first
        | assumption | apply State.pdOwn_kept | apply State.setPhase_kept | apply State.setPowerRole_kept | apply State.tcPins_kept)
    | with_reducible intro _
    | dsimp only
    | split

theorem execVbusLevelReached_kept {r0 s : State} (n : Fin 2) (hk : Kept r0 s) : ∀ s1, execVbusLevelReached n s = .next s1 → Kept r0 s1 := by
  intro s1 e; unfold execVbusLevelReached at e; injection e with e; subst e
  try dsimp only
  repeat' first
    | with_reducible (first
        | assumption | apply State.tcTold_kept | apply State.vbusReached_kept)
    | with_reducible intro _
    | dsimp only
    | split

theorem State.vbusFault_kept {r0 s : State} (n : Nat) (hk : Kept r0 s) :
    Kept r0 (State.vbusFault s n) := by
  unfold State.vbusFault
  try dsimp only
  repeat' first
    | with_reducible (first
        | assumption | apply State.tcTold_kept | apply State.hardReset_kept | apply State.raise_kept)
    | with_reducible intro _
    | dsimp only
    | split

theorem execVbusFault_kept {r0 s : State} (n : Fin 2) (hk : Kept r0 s) : ∀ s1, execVbusFault n s = .next s1 → Kept r0 s1 := by
  intro s1 e; unfold execVbusFault at e; injection e with e; subst e
  try dsimp only
  repeat' first
    | with_reducible (first
        | assumption | apply State.vbusFault_kept)
    | with_reducible intro _
    | dsimp only
    | split

theorem State.psTimeout_kept {r0 s : State} (n : Nat) (hk : Kept r0 s) :
    Kept r0 (State.psTimeout s n) := by
  unfold State.psTimeout
  try dsimp only
  repeat' first
    | with_reducible (first
        | assumption | apply State.tcTold_kept | apply State.hardReset_kept)
    | with_reducible intro _
    | dsimp only
    | split

theorem execPsTransitionTimeout_kept {r0 s : State} (n : Fin 2) (hk : Kept r0 s) : ∀ s1, execPsTransitionTimeout n s = .next s1 → Kept r0 s1 := by
  intro s1 e; unfold execPsTransitionTimeout at e; injection e with e; subst e
  try dsimp only
  repeat' first
    | with_reducible (first
        | assumption | apply State.psTimeout_kept)
    | with_reducible intro _
    | dsimp only
    | split

theorem State.swapTimeout_kept {r0 s : State} (n : Nat) (hk : Kept r0 s) :
    Kept r0 (State.swapTimeout s n) := by
  unfold State.swapTimeout
  try dsimp only
  repeat' first
    | with_reducible (first
        | assumption | apply State.tcTold_kept | apply State.reportPresence_kept | apply State.errorRecovery_kept)
    | with_reducible intro _
    | dsimp only
    | split

theorem execSwapTimeout_kept {r0 s : State} (n : Fin 2) (hk : Kept r0 s) : ∀ s1, execSwapTimeout n s = .next s1 → Kept r0 s1 := by
  intro s1 e; unfold execSwapTimeout at e; injection e with e; subst e
  try dsimp only
  repeat' first
    | with_reducible (first
        | assumption | apply State.swapTimeout_kept)
    | with_reducible intro _
    | dsimp only
    | split

theorem State.heldGo_kept {r0 s : State} (n : Nat) (hk : Kept r0 s) :
    Kept r0 (State.heldGo s n) := by
  unfold State.heldGo
  try dsimp only
  repeat' first
    | with_reducible (first
        | assumption | apply State.pdSend_kept | apply State.modTc_kept)
    | with_reducible intro _
    | dsimp only
    | split

theorem execSinkTxWaitEnd_kept {r0 s : State} (n : Fin 2) (hk : Kept r0 s) : ∀ s1, execSinkTxWaitEnd n s = .next s1 → Kept r0 s1 := by
  intro s1 e; unfold execSinkTxWaitEnd at e; injection e with e; subst e
  try dsimp only
  repeat' first
    | with_reducible (first
        | assumption | apply State.heldGo_kept)
    | with_reducible intro _
    | dsimp only
    | split

theorem State.drpToggle_kept {r0 s : State} (n : Nat) (hk : Kept r0 s) :
    Kept r0 (State.drpToggle s n) := by
  unfold State.drpToggle
  try dsimp only
  repeat' first
    | with_reducible (first
        | assumption | apply State.tcTold_kept | apply State.wr_kept)
    | with_reducible intro _
    | dsimp only
    | split

theorem execDrpToggle_kept {r0 s : State} (n : Fin 2) (hk : Kept r0 s) : ∀ s1, execDrpToggle n s = .next s1 → Kept r0 s1 := by
  intro s1 e; unfold execDrpToggle at e; injection e with e; subst e
  try dsimp only
  repeat' first
    | with_reducible (first
        | assumption | apply State.drpToggle_kept)
    | with_reducible intro _
    | dsimp only
    | split

theorem State.pdTimer_kept {r0 s : State} (n : Nat) (t : Nat) (hk : Kept r0 s) :
    Kept r0 (State.pdTimer s n t) := by
  unfold State.pdTimer
  try dsimp only
  repeat' first
    | with_reducible (first
        | assumption | apply State.hardReset_kept | apply State.exchEnd_kept | apply State.sendCaps_kept | apply State.errorRecovery_kept
        | apply State.tcRouted_kept | apply State.setPhase_kept | apply State.setBit_kept | apply State.tcPins_kept | apply State.wr_kept)
    | with_reducible intro _
    | dsimp only
    | split

theorem execPdTimerExpiry_kept {r0 s : State} (n : Fin 2) (t : Fin 8) (hk : Kept r0 s) : ∀ s1, execPdTimerExpiry n t s = .next s1 → Kept r0 s1 := by
  intro s1 e; unfold execPdTimerExpiry at e; injection e with e; subst e
  try dsimp only
  repeat' first
    | with_reducible (first
        | assumption | apply State.tcTold_kept | apply State.pdTimer_kept)
    | with_reducible intro _
    | dsimp only
    | split

theorem State.rpChange_kept {r0 s : State} (n : Nat) (rp : Nat) (hk : Kept r0 s) :
    Kept r0 (State.rpChange s n rp) := by
  unfold State.rpChange
  try dsimp only
  repeat' first
    | with_reducible (first
        | assumption | apply State.tcTold_kept | apply State.wr_kept | apply State.heldGo_kept)
    | with_reducible intro _
    | dsimp only
    | split

theorem execCcRpChange_kept {r0 s : State} (n : Fin 2) (rp : Fin 4) (hk : Kept r0 s) : ∀ s1, execCcRpChange n rp s = .next s1 → Kept r0 s1 := by
  intro s1 e; unfold execCcRpChange at e; injection e with e; subst e
  try dsimp only
  repeat' first
    | with_reducible (first
        | assumption | apply State.rpChange_kept)
    | with_reducible intro _
    | dsimp only
    | split

theorem State.holdTimeout_kept {r0 s : State} (n : Nat) (hk : Kept r0 s) :
    Kept r0 (State.holdTimeout s n) := by
  unfold State.holdTimeout
  try dsimp only
  repeat' first
    | with_reducible (first
        | assumption | apply State.txRes_kept | apply State.modTc_kept)
    | with_reducible intro _
    | dsimp only
    | split

theorem execSinkTxHoldTimeout_kept {r0 s : State} (n : Fin 2) (hk : Kept r0 s) : ∀ s1, execSinkTxHoldTimeout n s = .next s1 → Kept r0 s1 := by
  intro s1 e; unfold execSinkTxHoldTimeout at e; injection e with e; subst e
  try dsimp only
  repeat' first
    | with_reducible (first
        | assumption | apply State.holdTimeout_kept)
    | with_reducible intro _
    | dsimp only
    | split

end Sys2Proof.Machine
end

