-- ==== Sys2Proof/Laws/Kept/Usb.lean ====
section
/-! SUPPORT. What the operations of Machine/Usb.lean keep. -/
namespace Sys2Proof.Machine

theorem State.burst_kept {r0 s : State} (b : List Byte) (hk : Kept r0 s) :
    Kept r0 (State.burst s b) := by
  unfold State.burst
  try dsimp only
  repeat' first
    | with_reducible (first
        | assumption | apply State.rteBad_kept | apply State.wr_kept | apply State.modUsb_kept | apply State.bump_kept | apply State.rteSend_kept
        | apply State.raiseOnce_kept)
    | with_reducible intro _
    | dsimp only
    | split

theorem execBurst_kept {r0 s : State} (msg : List Byte) (hk : Kept r0 s) : ∀ s1, execBurst msg s = .next s1 → Kept r0 s1 := by
  intro s1 e; unfold execBurst at e; injection e with e; subst e
  try dsimp only
  repeat' first
    | with_reducible (first
        | assumption | apply State.burst_kept)
    | with_reducible intro _
    | dsimp only
    | split

theorem execBurstDone_kept {r0 s : State} (codes : List Nat) (datas : List (List Byte)) (hk : Kept r0 s) : ∀ s1, execBurstDone codes datas s = .next s1 → Kept r0 s1 := by
  intro s1 e; unfold execBurstDone at e; injection e with e; subst e
  try dsimp only
  repeat' first
    | with_reducible (first
        | assumption | apply State.burstEnd_kept)
    | with_reducible intro _
    | dsimp only
    | split

theorem execNakTimeout_kept {r0 s : State} (codes : List Nat) (datas : List (List Byte)) (hk : Kept r0 s) : ∀ s1, execNakTimeout codes datas s = .next s1 → Kept r0 s1 := by
  intro s1 e; unfold execNakTimeout at e; injection e with e; subst e
  try dsimp only
  repeat' first
    | with_reducible (first
        | assumption | apply State.burstEnd_kept)
    | with_reducible intro _
    | dsimp only
    | split

theorem State.hubDescriptor_kept {r0 s : State} (mseq : Nat) (hk : Kept r0 s) :
    Kept r0 (State.hubDescriptor s mseq) := by
  unfold State.hubDescriptor
  try dsimp only
  repeat' first
    | with_reducible (first
        | assumption | apply State.hubAck_kept | apply State.drew_kept)
    | with_reducible intro _
    | dsimp only
    | split

theorem execGetHubDescriptor_kept {r0 s : State} (mseq : Fin 256) (hk : Kept r0 s) : ∀ s1, execGetHubDescriptor mseq s = .next s1 → Kept r0 s1 := by
  intro s1 e; unfold execGetHubDescriptor at e; injection e with e; subst e
  try dsimp only
  repeat' first
    | with_reducible (first
        | assumption | apply State.hubDescriptor_kept)
    | with_reducible intro _
    | dsimp only
    | split

theorem execGetHubStatus_kept {r0 s : State} (mseq : Fin 256) (hk : Kept r0 s) : ∀ s1, execGetHubStatus mseq s = .next s1 → Kept r0 s1 := by
  intro s1 e; unfold execGetHubStatus at e; injection e with e; subst e
  try dsimp only
  repeat' first
    | with_reducible (first
        | assumption | apply State.hubAck_kept)
    | with_reducible intro _
    | dsimp only
    | split

theorem execGetPortStatus_kept {r0 s : State} (mseq : Fin 256) (k : Fin 4) (hk : Kept r0 s) : ∀ s1, execGetPortStatus mseq k s = .next s1 → Kept r0 s1 := by
  intro s1 e; unfold execGetPortStatus at e; injection e with e; subst e
  try dsimp only
  repeat' first
    | with_reducible (first
        | assumption | apply State.hubAck_kept)
    | with_reducible intro _
    | dsimp only
    | split

theorem State.setPortReset_kept {r0 s : State} (mseq : Nat) (k : Nat) (hk : Kept r0 s) :
    Kept r0 (State.setPortReset s mseq k) := by
  unfold State.setPortReset
  try dsimp only
  repeat' first
    | with_reducible (first
        | assumption | apply State.hubAck_kept | apply State.portCut_kept | apply State.wr_kept)
    | with_reducible intro _
    | dsimp only
    | split

theorem execSetPortReset_kept {r0 s : State} (mseq : Fin 256) (k : Fin 4) (hk : Kept r0 s) : ∀ s1, execSetPortReset mseq k s = .next s1 → Kept r0 s1 := by
  intro s1 e; unfold execSetPortReset at e; injection e with e; subst e
  try dsimp only
  repeat' first
    | with_reducible (first
        | assumption | apply State.setPortReset_kept)
    | with_reducible intro _
    | dsimp only
    | split

theorem execSetPortSuspend_kept {r0 s : State} (mseq : Fin 256) (k : Fin 4) (hk : Kept r0 s) : ∀ s1, execSetPortSuspend mseq k s = .next s1 → Kept r0 s1 := by
  intro s1 e; unfold execSetPortSuspend at e; injection e with e; subst e
  try dsimp only
  repeat' first
    | with_reducible (first
        | assumption | apply State.hubAck_kept | apply State.wr_kept)
    | with_reducible intro _
    | dsimp only
    | split

theorem execSetPortPower_kept {r0 s : State} (mseq : Fin 256) (k : Fin 4) (hk : Kept r0 s) : ∀ s1, execSetPortPower mseq k s = .next s1 → Kept r0 s1 := by
  intro s1 e; unfold execSetPortPower at e; injection e with e; subst e
  try dsimp only
  repeat' first
    | with_reducible (first
        | assumption | apply State.hubStall_kept | apply State.hubAck_kept | apply State.portPower_kept)
    | with_reducible intro _
    | dsimp only
    | split

theorem execSetPortTest_kept {r0 s : State} (mseq : Fin 256) (k : Fin 4) (sel : Fin 256) (hk : Kept r0 s) : ∀ s1, execSetPortTest mseq k sel s = .next s1 → Kept r0 s1 := by
  intro s1 e; unfold execSetPortTest at e; injection e with e; subst e
  try dsimp only
  repeat' first
    | with_reducible (first
        | assumption | apply State.hubAck_kept | apply State.emit_kept | apply State.modUsb_kept)
    | with_reducible intro _
    | dsimp only
    | split

theorem State.clearPortEnable_kept {r0 s : State} (mseq : Nat) (k : Nat) (hk : Kept r0 s) :
    Kept r0 (State.clearPortEnable s mseq k) := by
  unfold State.clearPortEnable
  try dsimp only
  repeat' first
    | with_reducible (first
        | assumption | apply State.hubAck_kept | apply State.portCut_kept | apply State.wr_kept)
    | with_reducible intro _
    | dsimp only
    | split

theorem execClearPortEnable_kept {r0 s : State} (mseq : Fin 256) (k : Fin 4) (hk : Kept r0 s) : ∀ s1, execClearPortEnable mseq k s = .next s1 → Kept r0 s1 := by
  intro s1 e; unfold execClearPortEnable at e; injection e with e; subst e
  try dsimp only
  repeat' first
    | with_reducible (first
        | assumption | apply State.clearPortEnable_kept)
    | with_reducible intro _
    | dsimp only
    | split

theorem State.wakeCollides_kept {r0 s : State} (k : Nat) (hk : Kept r0 s) :
    Kept r0 (State.wakeCollides s k) := by
  unfold State.wakeCollides
  try dsimp only
  repeat' first
    | with_reducible (first
        | assumption | apply State.raise_kept | apply State.portChg_kept | apply State.wr_kept)
    | with_reducible intro _
    | dsimp only
    | split

theorem State.clearPortSuspend_kept {r0 s : State} (mseq : Nat) (k : Nat) (hk : Kept r0 s) :
    Kept r0 (State.clearPortSuspend s mseq k) := by
  unfold State.clearPortSuspend
  try dsimp only
  repeat' first
    | with_reducible (first
        | assumption | apply State.hubAck_kept | apply State.modUsb_kept | apply State.wakeCollides_kept)
    | with_reducible intro _
    | dsimp only
    | split

theorem execClearPortSuspend_kept {r0 s : State} (mseq : Fin 256) (k : Fin 4) (hk : Kept r0 s) : ∀ s1, execClearPortSuspend mseq k s = .next s1 → Kept r0 s1 := by
  intro s1 e; unfold execClearPortSuspend at e; injection e with e; subst e
  try dsimp only
  repeat' first
    | with_reducible (first
        | assumption | apply State.clearPortSuspend_kept)
    | with_reducible intro _
    | dsimp only
    | split

theorem execClearPortPower_kept {r0 s : State} (mseq : Fin 256) (k : Fin 4) (hk : Kept r0 s) : ∀ s1, execClearPortPower mseq k s = .next s1 → Kept r0 s1 := by
  intro s1 e; unfold execClearPortPower at e; injection e with e; subst e
  try dsimp only
  repeat' first
    | with_reducible (first
        | assumption | apply State.hubStall_kept | apply State.hubAck_kept | apply State.portPower_kept | apply State.portLost_kept)
    | with_reducible intro _
    | dsimp only
    | split

theorem execClearCPortFeature_kept {r0 s : State} (mseq : Fin 256) (k : Fin 4) (c : Fin 5) (hk : Kept r0 s) : ∀ s1, execClearCPortFeature mseq k c s = .next s1 → Kept r0 s1 := by
  intro s1 e; unfold execClearCPortFeature at e; injection e with e; subst e
  try dsimp only
  repeat' first
    | with_reducible (first
        | assumption | apply State.hubAck_kept | apply State.wrBit_kept)
    | with_reducible intro _
    | dsimp only
    | split

theorem execClearTtBuffer_kept {r0 s : State} (mseq : Fin 256) (k : Fin 4) (hk : Kept r0 s) : ∀ s1, execClearTtBuffer mseq k s = .next s1 → Kept r0 s1 := by
  intro s1 e; unfold execClearTtBuffer at e; injection e with e; subst e
  try dsimp only
  repeat' first
    | with_reducible (first
        | assumption | apply State.hubAck_kept | apply State.emit_kept)
    | with_reducible intro _
    | dsimp only
    | split

theorem execResetTt_kept {r0 s : State} (mseq : Fin 256) (k : Fin 4) (hk : Kept r0 s) : ∀ s1, execResetTt mseq k s = .next s1 → Kept r0 s1 := by
  intro s1 e; unfold execResetTt at e; injection e with e; subst e
  try dsimp only
  repeat' first
    | with_reducible (first
        | assumption | apply State.hubAck_kept | apply State.emit_kept)
    | with_reducible intro _
    | dsimp only
    | split

theorem State.portResetDone_kept {r0 s : State} (k : Nat) (chirp : Bool) (hk : Kept r0 s) :
    Kept r0 (State.portResetDone s k chirp) := by
  unfold State.portResetDone
  try dsimp only
  repeat' first
    | with_reducible (first
        | assumption | apply State.changeBit_kept | apply State.wrBit_kept | apply State.wr_kept)
    | with_reducible intro _
    | dsimp only
    | split

theorem execPortResetDone_kept {r0 s : State} (k : Fin 4) (chirp : Bool) (hk : Kept r0 s) : ∀ s1, execPortResetDone k chirp s = .next s1 → Kept r0 s1 := by
  intro s1 e; unfold execPortResetDone at e; injection e with e; subst e
  try dsimp only
  repeat' first
    | with_reducible (first
        | assumption | apply State.portResetDone_kept)
    | with_reducible intro _
    | dsimp only
    | split

theorem State.loadEntry_kept {r0 s : State} (b : List Byte) (hk : Kept r0 s) :
    Kept r0 (State.loadEntry s b) := by
  unfold State.loadEntry
  try dsimp only
  repeat' first
    | with_reducible (first
        | assumption | apply State.wr_kept | apply State.noteEntries_kept | apply Kept.foldl)
    | with_reducible intro _
    | dsimp only
    | split

theorem State.pload_kept {r0 s : State} (mseq : Nat) (b : List Byte) (hk : Kept r0 s) :
    Kept r0 (State.pload s mseq b) := by
  unfold State.pload
  try dsimp only
  repeat' first
    | with_reducible (first
        | assumption | apply State.rteSend_kept | apply State.periodicFit_kept | apply State.loadEntry_kept)
    | with_reducible intro _
    | dsimp only
    | split

theorem execPload_kept {r0 s : State} (mseq : Fin 256) (body : List Byte) (hk : Kept r0 s) : ∀ s1, execPload mseq body s = .next s1 → Kept r0 s1 := by
  intro s1 e; unfold execPload at e; injection e with e; subst e
  try dsimp only
  repeat' first
    | with_reducible (first
        | assumption | apply State.pload_kept)
    | with_reducible intro _
    | dsimp only
    | split

theorem State.punload_kept {r0 s : State} (mseq : Nat) (i : Nat) (hk : Kept r0 s) :
    Kept r0 (State.punload s mseq i) := by
  unfold State.punload
  try dsimp only
  repeat' first
    | with_reducible (first
        | assumption | apply State.rteSend_kept | apply State.unload_kept)
    | with_reducible intro _
    | dsimp only
    | split

theorem execPunload_kept {r0 s : State} (mseq : Fin 256) (entry : Fin 256) (hk : Kept r0 s) : ∀ s1, execPunload mseq entry s = .next s1 → Kept r0 s1 := by
  intro s1 e; unfold execPunload at e; injection e with e; subst e
  try dsimp only
  repeat' first
    | with_reducible (first
        | assumption | apply State.punload_kept)
    | with_reducible intro _
    | dsimp only
    | split

theorem State.busRsp_kept {r0 s : State} (mseq : Nat) (status : Nat) (ports : Nat) (hk : Kept r0 s) :
    Kept r0 (State.busRsp s mseq status ports) := by
  unfold State.busRsp
  try dsimp only
  repeat' first
    | with_reducible (first
        | assumption | apply State.rteSend_kept)
    | with_reducible intro _
    | dsimp only
    | split

theorem State.suspend_kept {r0 s : State} (mseq : Nat) (hk : Kept r0 s) :
    Kept r0 (State.suspend s mseq) := by
  unfold State.suspend
  try dsimp only
  repeat' first
    | with_reducible (first
        | assumption | apply State.busRsp_kept | apply State.busSuspend_kept | apply State.abortAll_kept)
    | with_reducible intro _
    | dsimp only
    | split

theorem execSuspend_kept {r0 s : State} (mseq : Fin 256) (hk : Kept r0 s) : ∀ s1, execSuspend mseq s = .next s1 → Kept r0 s1 := by
  intro s1 e; unfold execSuspend at e; injection e with e; subst e
  try dsimp only
  repeat' first
    | with_reducible (first
        | assumption | apply State.suspend_kept)
    | with_reducible intro _
    | dsimp only
    | split

theorem State.resume_kept {r0 s : State} (mseq : Nat) (hk : Kept r0 s) :
    Kept r0 (State.resume s mseq) := by
  unfold State.resume
  try dsimp only
  repeat' first
    | with_reducible (first
        | assumption | apply State.busRsp_kept | apply State.modUsb_kept | apply State.raise_kept | apply State.portChg_kept | apply State.wr_kept
        | apply State.emit_kept | apply Kept.foldl)
    | with_reducible intro _
    | dsimp only
    | split

theorem execResume_kept {r0 s : State} (mseq : Fin 256) (hk : Kept r0 s) : ∀ s1, execResume mseq s = .next s1 → Kept r0 s1 := by
  intro s1 e; unfold execResume at e; injection e with e; subst e
  try dsimp only
  repeat' first
    | with_reducible (first
        | assumption | apply State.resume_kept)
    | with_reducible intro _
    | dsimp only
    | split

theorem State.busResumed_kept {r0 s : State} (hk : Kept r0 s) :
    Kept r0 (State.busResumed s) := by
  unfold State.busResumed
  try dsimp only
  repeat' first
    | with_reducible (first
        | assumption | apply State.modUsb_kept | apply State.wr_kept | apply State.busRsp_kept)
    | with_reducible intro _
    | dsimp only
    | split

theorem State.portResumed_kept {r0 s : State} (k : Nat) (hk : Kept r0 s) :
    Kept r0 (State.portResumed s k) := by
  unfold State.portResumed
  try dsimp only
  repeat' first
    | with_reducible (first
        | assumption | apply State.changeBit_kept | apply State.wr_kept | apply State.modUsb_kept)
    | with_reducible intro _
    | dsimp only
    | split

theorem execResumeDone_kept {r0 s : State} (target : Fin 5) (hk : Kept r0 s) : ∀ s1, execResumeDone target s = .next s1 → Kept r0 s1 := by
  intro s1 e; unfold execResumeDone at e; injection e with e; subst e
  try dsimp only
  repeat' first
    | with_reducible (first
        | assumption | apply State.busResumed_kept | apply State.portResumed_kept)
    | with_reducible intro _
    | dsimp only
    | split

theorem State.remoteWake_kept {r0 s : State} (k : Nat) (hk : Kept r0 s) :
    Kept r0 (State.remoteWake s k) := by
  unfold State.remoteWake
  try dsimp only
  repeat' first
    | with_reducible (first
        | assumption | apply State.modUsb_kept | apply State.wakeCollides_kept | apply State.raise_kept | apply State.portChg_kept
        | apply State.wr_kept)
    | with_reducible intro _
    | dsimp only
    | split

theorem execRemoteWake_kept {r0 s : State} (k : Fin 4) (hk : Kept r0 s) : ∀ s1, execRemoteWake k s = .next s1 → Kept r0 s1 := by
  intro s1 e; unfold execRemoteWake at e; injection e with e; subst e
  try dsimp only
  repeat' first
    | with_reducible (first
        | assumption | apply State.remoteWake_kept)
    | with_reducible intro _
    | dsimp only
    | split

theorem State.usbConnect_kept {r0 s : State} (k : Nat) (low : Bool) (hk : Kept r0 s) :
    Kept r0 (State.usbConnect s k low) := by
  unfold State.usbConnect
  try dsimp only
  repeat' first
    | with_reducible (first
        | assumption | apply State.modUsb_kept | apply State.wr_kept | apply State.reportPresence_kept | apply State.raise_kept
        | apply State.changeBit_kept)
    | with_reducible intro _
    | dsimp only
    | split

theorem execUsbConnect_kept {r0 s : State} (k : Fin 4) (low : Bool) (hk : Kept r0 s) : ∀ s1, execUsbConnect k low s = .next s1 → Kept r0 s1 := by
  intro s1 e; unfold execUsbConnect at e; injection e with e; subst e
  try dsimp only
  repeat' first
    | with_reducible (first
        | assumption | apply State.usbConnect_kept)
    | with_reducible intro _
    | dsimp only
    | split

theorem execUsbDisconnect_kept {r0 s : State} (k : Fin 4) (hk : Kept r0 s) : ∀ s1, execUsbDisconnect k s = .next s1 → Kept r0 s1 := by
  intro s1 e; unfold execUsbDisconnect at e; injection e with e; subst e
  try dsimp only
  repeat' first
    | with_reducible (first
        | assumption | apply State.changeBit_kept | apply State.portLost_kept)
    | with_reducible intro _
    | dsimp only
    | split

theorem State.overcurrent_kept {r0 s : State} (k : Nat) (hk : Kept r0 s) :
    Kept r0 (State.overcurrent s k) := by
  unfold State.overcurrent
  try dsimp only
  repeat' first
    | with_reducible (first
        | assumption | apply State.raise_kept | apply State.changeBit_kept | apply State.wr_kept | apply State.portPower_kept
        | apply State.portLost_kept)
    | with_reducible intro _
    | dsimp only
    | split

theorem execUsbOvercurrent_kept {r0 s : State} (k : Fin 4) (hk : Kept r0 s) : ∀ s1, execUsbOvercurrent k s = .next s1 → Kept r0 s1 := by
  intro s1 e; unfold execUsbOvercurrent at e; injection e with e; subst e
  try dsimp only
  repeat' first
    | with_reducible (first
        | assumption | apply State.overcurrent_kept)
    | with_reducible intro _
    | dsimp only
    | split

theorem State.missed_kept {r0 s : State} (i : Nat) (hk : Kept r0 s) :
    Kept r0 (State.missed s i) := by
  unfold State.missed
  try dsimp only
  repeat' first
    | with_reducible (first
        | assumption | apply State.bump_kept)
    | with_reducible intro _
    | dsimp only
    | split

theorem State.pxErr_kept {r0 s : State} (i : Nat) (hk : Kept r0 s) :
    Kept r0 (State.pxErr s i) := by
  unfold State.pxErr
  try dsimp only
  repeat' first
    | with_reducible (first
        | assumption | apply State.raiseOnce_kept | apply State.missed_kept | apply State.bump_kept)
    | with_reducible intro _
    | dsimp only
    | split

theorem State.runIn_kept {r0 s : State} (i : Nat) (u : Nat) (code : Nat) (data : List Byte) (hk : Kept r0 s) :
    Kept r0 (State.runIn s i u code data) := by
  unfold State.runIn
  try dsimp only
  repeat' first
    | with_reducible (first
        | assumption | apply State.recordSend_kept | apply State.raiseOnce_kept | apply State.unload_kept | apply State.pxErr_kept)
    | with_reducible intro _
    | dsimp only
    | split

theorem State.runOut_kept {r0 s : State} (i : Nat) (u : Nat) (code : Nat) (hk : Kept r0 s) :
    Kept r0 (State.runOut s i u code) := by
  unfold State.runOut
  try dsimp only
  repeat' first
    | with_reducible (first
        | assumption | apply State.missed_kept | apply State.bump_kept | apply State.emit_kept | apply State.modUsb_kept
        | apply State.raiseOnce_kept | apply State.unload_kept | apply State.pxErr_kept)
    | with_reducible intro _
    | dsimp only
    | split

theorem State.periodicRun_kept {r0 s : State} (u : Nat) (i : Nat) (out : Nat × List Byte) (hk : Kept r0 s) :
    Kept r0 (State.periodicRun s u i out) := by
  unfold State.periodicRun
  try dsimp only
  repeat' first
    | with_reducible (first
        | assumption | apply State.modUsb_kept | apply State.runIn_kept | apply State.runOut_kept)
    | with_reducible intro _
    | dsimp only
    | split

theorem State.microframe_kept {r0 s : State} (ents : List Nat) (codes : List Nat) (datas : List (List Byte)) (hk : Kept r0 s) :
    Kept r0 (State.microframe s ents codes datas) := by
  unfold State.microframe
  try dsimp only
  repeat' first
    | with_reducible (first
        | assumption | apply State.wr_kept | apply State.recordSend_kept | apply State.drew_kept | apply State.periodicRun_kept | apply Kept.foldl)
    | with_reducible intro _
    | dsimp only
    | split

theorem execMicroframeStart_kept {r0 s : State} (ents : List Nat) (codes : List Nat) (datas : List (List Byte)) (hk : Kept r0 s) : ∀ s1, execMicroframeStart ents codes datas s = .next s1 → Kept r0 s1 := by
  intro s1 e; unfold execMicroframeStart at e; injection e with e; subst e
  try dsimp only
  repeat' first
    | with_reducible (first
        | assumption | apply State.microframe_kept)
    | with_reducible intro _
    | dsimp only
    | split

theorem State.outRecord_kept {r0 s : State} (b : List Byte) (lost : Bool) (hk : Kept r0 s) :
    Kept r0 (State.outRecord s b lost) := by
  unfold State.outRecord
  try dsimp only
  repeat' first
    | with_reducible (first
        | assumption | apply State.bump_kept | apply State.modUsb_kept)
    | with_reducible intro _
    | dsimp only
    | split

theorem execOutRecordReceive_kept {r0 s : State} (rec : List Byte) (lost : Bool) (hk : Kept r0 s) : ∀ s1, execOutRecordReceive rec lost s = .next s1 → Kept r0 s1 := by
  intro s1 e; unfold execOutRecordReceive at e; injection e with e; subst e
  try dsimp only
  repeat' first
    | with_reducible (first
        | assumption | apply State.outRecord_kept)
    | with_reducible intro _
    | dsimp only
    | split

theorem State.orphanTimeout_kept {r0 s : State} (hk : Kept r0 s) :
    Kept r0 (State.orphanTimeout s) := by
  unfold State.orphanTimeout
  try dsimp only
  repeat' first
    | with_reducible (first
        | assumption | apply State.unload_kept | apply State.wr_kept | apply State.modUsb_kept | apply State.raise_kept
        | apply State.busSuspend_kept | apply Kept.foldl)
    | with_reducible intro _
    | dsimp only
    | split

theorem execOrphanTimeout_kept {r0 s : State} (hk : Kept r0 s) : ∀ s1, execOrphanTimeout s = .next s1 → Kept r0 s1 := by
  intro s1 e; unfold execOrphanTimeout at e; injection e with e; subst e
  try dsimp only
  repeat' first
    | with_reducible (first
        | assumption | apply State.orphanTimeout_kept)
    | with_reducible intro _
    | dsimp only
    | split

theorem execUnsupportedHubRequest_kept {r0 s : State} (mseq : Fin 256) (hk : Kept r0 s) : ∀ s1, execUnsupportedHubRequest mseq s = .next s1 → Kept r0 s1 := by
  intro s1 e; unfold execUnsupportedHubRequest at e; injection e with e; subst e
  try dsimp only
  repeat' first
    | with_reducible (first
        | assumption | apply State.hubStall_kept)
    | with_reducible intro _
    | dsimp only
    | split

theorem State.rteMalformed_kept {r0 s : State} (b : List Byte) (hk : Kept r0 s) :
    Kept r0 (State.rteMalformed s b) := by
  unfold State.rteMalformed
  try dsimp only
  repeat' first
    | with_reducible (first
        | assumption | apply State.rteBad_kept)
    | with_reducible intro _
    | dsimp only
    | split

theorem execRteMessageMalformed_kept {r0 s : State} (msg : List Byte) (hk : Kept r0 s) : ∀ s1, execRteMessageMalformed msg s = .next s1 → Kept r0 s1 := by
  intro s1 e; unfold execRteMessageMalformed at e; injection e with e; subst e
  try dsimp only
  repeat' first
    | with_reducible (first
        | assumption | apply State.rteMalformed_kept)
    | with_reducible intro _
    | dsimp only
    | split

end Sys2Proof.Machine
end

