-- ==== Sys2Proof/Laws/Kept/RegPeriph.lean ====
section
/-! SUPPORT. What the operations of Machine/RegPeriph.lean keep. -/
namespace Sys2Proof.Machine

theorem State.pcbCtrlWrite_kept {r0 s : State} (data : Nat) (hk : Kept r0 s) :
    Kept r0 (State.pcbCtrlWrite s data) := by
  unfold State.pcbCtrlWrite
  try dsimp only
  repeat' first
    | with_reducible (first
        | assumption | apply State.writeReg_kept | apply State.setPerst_kept | apply State.pcieRefresh_kept | apply State.pcieLinkDown_kept)
    | with_reducible intro _
    | dsimp only
    | split

theorem State.nodeWrite_kept {r0 s : State} (d : RegDesc) (i : Nat) (data : Nat) (checks : List (Nat × Bool)) (hk : Kept r0 s) :
    Kept r0 (State.nodeWrite s d i data checks) := by
  unfold State.nodeWrite
  try dsimp only
  repeat' first
    | with_reducible (first
        | assumption | apply State.answer_kept | apply State.writeReg_kept | apply Kept.ident)
    | with_reducible intro _
    | dsimp only
    | split

theorem State.nodeRead0_kept {r0 s : State} (d : RegDesc) (i : Nat) (hk : Kept r0 s) :
    Kept r0 (State.nodeRead0 s d i) := by
  unfold State.nodeRead0
  try dsimp only
  repeat' first
    | with_reducible (first
        | assumption | apply State.answerData_kept)
    | with_reducible intro _
    | dsimp only
    | split

theorem State.rawinWrite_kept {r0 s : State} (d : RegDesc) (i : Nat) (data : Nat) (hk : Kept r0 s) :
    Kept r0 (State.rawinWrite s d i data) := by
  unfold State.rawinWrite
  try dsimp only
  repeat' first
    | with_reducible (first
        | assumption | apply State.writeFields_kept | apply State.nodeWrite_kept)
    | with_reducible intro _
    | dsimp only
    | split

theorem writes10_kept {r0 : State} : ∀ e ∈ writes10, ∀ t i data, Kept r0 t → Kept r0 (e.2 t i data) := by
  unfold writes10
  try dsimp only
  repeat' first
    | with_reducible (first
        | assumption | apply State.pcbCtrlWrite_kept | apply State.nodeWrite_kept | apply State.rawinWrite_kept
        | refine List.forall_mem_cons.2 ⟨?_, ?_⟩ | refine List.forall_mem_append.2 ⟨?_, ?_⟩ | refine List.forall_mem_map.2 ?_
        | exact List.forall_mem_nil _)
    | with_reducible intro _
    | dsimp only
    | split

theorem reads10_kept {r0 : State} : ∀ e ∈ reads10, ∀ t i, Kept r0 t → Kept r0 (e.2 t i) := by
  unfold reads10
  try dsimp only
  repeat' first
    | with_reducible (first
        | assumption | apply State.nodeRead0_kept | apply State.rootRead_kept | refine List.forall_mem_cons.2 ⟨?_, ?_⟩
        | refine List.forall_mem_append.2 ⟨?_, ?_⟩ | refine List.forall_mem_map.2 ?_ | exact List.forall_mem_nil _)
    | with_reducible intro _
    | dsimp only
    | split

theorem State.dptCtrlWrite_kept {r0 s : State} (d : Nat) (data : Nat) (hk : Kept r0 s) :
    Kept r0 (State.dptCtrlWrite s d data) := by
  unfold State.dptCtrlWrite
  try dsimp only
  repeat' first
    | with_reducible (first
        | assumption | apply State.writeReg_kept | apply State.streamFitCheck_kept | apply State.hpdRefresh_kept | apply State.sinkDetach_kept)
    | with_reducible intro _
    | dsimp only
    | split

theorem writes11_kept {r0 : State} : ∀ e ∈ writes11, ∀ t i data, Kept r0 t → Kept r0 (e.2 t i data) := by
  unfold writes11
  try dsimp only
  repeat' first
    | with_reducible (first
        | assumption | apply State.dptCtrlWrite_kept | refine List.forall_mem_cons.2 ⟨?_, ?_⟩ | refine List.forall_mem_append.2 ⟨?_, ?_⟩
        | refine List.forall_mem_map.2 ?_ | exact List.forall_mem_nil _)
    | with_reducible intro _
    | dsimp only
    | split

theorem State.edidRead_kept {r0 s : State} (d : Nat) (off : Nat) (hk : Kept r0 s) :
    Kept r0 (State.edidRead s d off) := by
  unfold State.edidRead
  try dsimp only
  repeat' first
    | with_reducible (first
        | assumption | apply State.answerData_kept)
    | with_reducible intro _
    | dsimp only
    | split

theorem State.usbCtrlWrite_kept {r0 s : State} (data : Nat) (hk : Kept r0 s) :
    Kept r0 (State.usbCtrlWrite s data) := by
  unfold State.usbCtrlWrite
  try dsimp only
  repeat' first
    | with_reducible (first
        | assumption | apply State.writeReg_kept | apply State.setBit_kept | apply State.tcRouted_kept | apply State.usbStart_kept
        | apply State.usbStop_kept)
    | with_reducible intro _
    | dsimp only
    | split

theorem writes12_kept {r0 : State} : ∀ e ∈ writes12, ∀ t i data, Kept r0 t → Kept r0 (e.2 t i data) := by
  unfold writes12
  try dsimp only
  repeat' first
    | with_reducible (first
        | assumption | apply State.usbCtrlWrite_kept | refine List.forall_mem_cons.2 ⟨?_, ?_⟩ | refine List.forall_mem_append.2 ⟨?_, ?_⟩
        | refine List.forall_mem_map.2 ?_ | exact List.forall_mem_nil _)
    | with_reducible intro _
    | dsimp only
    | split

theorem State.tcSwitch_kept {r0 s : State} (n : Nat) (was : Bool) (hk : Kept r0 s) :
    Kept r0 (State.tcSwitch s n was) := by
  unfold State.tcSwitch
  try dsimp only
  repeat' first
    | with_reducible (first
        | assumption | apply State.tcTold_kept | apply State.tcOff_kept | apply State.wr_kept | apply State.tcClear_kept)
    | with_reducible intro _
    | dsimp only
    | split

theorem State.tcpCtrlWrite_kept {r0 s : State} (n : Nat) (data : Nat) (hk : Kept r0 s) :
    Kept r0 (State.tcpCtrlWrite s n data) := by
  unfold State.tcpCtrlWrite
  try dsimp only
  repeat' first
    | with_reducible (first
        | assumption | apply State.writeReg_kept | apply State.fallbackRefresh_kept | apply State.tcSwitch_kept)
    | with_reducible intro _
    | dsimp only
    | split

theorem State.srccapWrite_kept {r0 s : State} (i : Nat) (data : Nat) (hk : Kept r0 s) :
    Kept r0 (State.srccapWrite s i data) := by
  unfold State.srccapWrite
  try dsimp only
  repeat' first
    | with_reducible (first
        | assumption | apply State.writeReg_kept | apply State.wr_kept | apply Kept.ident)
    | with_reducible intro _
    | dsimp only
    | split

theorem writes13_kept {r0 : State} : ∀ e ∈ writes13, ∀ t i data, Kept r0 t → Kept r0 (e.2 t i data) := by
  unfold writes13
  try dsimp only
  repeat' first
    | with_reducible (first
        | assumption | apply State.tcpCtrlWrite_kept | apply State.srccapWrite_kept | refine List.forall_mem_cons.2 ⟨?_, ?_⟩
        | refine List.forall_mem_append.2 ⟨?_, ?_⟩ | refine List.forall_mem_map.2 ?_ | exact List.forall_mem_nil _)
    | with_reducible intro _
    | dsimp only
    | split

theorem reads13_kept {r0 : State} : ∀ e ∈ reads13, ∀ t i, Kept r0 t → Kept r0 (e.2 t i) := by
  unfold reads13
  try dsimp only
  repeat' first
    | with_reducible (first
        | assumption | apply State.measuredRead_kept | refine List.forall_mem_cons.2 ⟨?_, ?_⟩ | refine List.forall_mem_append.2 ⟨?_, ?_⟩
        | refine List.forall_mem_map.2 ?_ | exact List.forall_mem_nil _)
    | with_reducible intro _
    | dsimp only
    | split

theorem writes14_kept {r0 : State} : ∀ e ∈ writes14, ∀ t i data, Kept r0 t → Kept r0 (e.2 t i data) := by
  unfold writes14
  try dsimp only
  repeat' first
    | with_reducible (first
        | assumption | apply State.writeReg_kept | apply State.telcmdWrite_kept | apply State.efctlWrite_kept
        | refine List.forall_mem_cons.2 ⟨?_, ?_⟩ | refine List.forall_mem_append.2 ⟨?_, ?_⟩ | refine List.forall_mem_map.2 ?_
        | exact List.forall_mem_nil _ | apply Kept.ident)
    | with_reducible intro _
    | dsimp only
    | split

theorem reads14_kept {r0 : State} : ∀ e ∈ reads14, ∀ t i, Kept r0 t → Kept r0 (e.2 t i) := by
  unfold reads14
  try dsimp only
  repeat' first
    | with_reducible (first
        | assumption | apply State.energyLatch_kept | refine List.forall_mem_cons.2 ⟨?_, ?_⟩ | refine List.forall_mem_append.2 ⟨?_, ?_⟩
        | refine List.forall_mem_map.2 ?_ | exact List.forall_mem_nil _)
    | with_reducible intro _
    | dsimp only
    | split

theorem writes15_kept {r0 : State} : ∀ e ∈ writes15, ∀ t i data, Kept r0 t → Kept r0 (e.2 t i data) := by
  unfold writes15
  try dsimp only
  repeat' first
    | with_reducible (first
        | assumption | apply State.pscmdWrite_kept | apply State.writeReg_kept | refine List.forall_mem_cons.2 ⟨?_, ?_⟩
        | refine List.forall_mem_append.2 ⟨?_, ?_⟩ | refine List.forall_mem_map.2 ?_ | exact List.forall_mem_nil _ | apply Kept.ident)
    | with_reducible intro _
    | dsimp only
    | split

end Sys2Proof.Machine
end

