-- ==== Sys2Proof/Laws/Kept/RegChip.lean ====
section
/-! SUPPORT. What the operations of Machine/RegChip.lean keep. -/
namespace Sys2Proof.Machine

theorem writes16_kept {r0 : State} : ∀ e ∈ writes16, ∀ t i data, Kept r0 t → Kept r0 (e.2 t i data) := by
  unfold writes16
  try dsimp only
  repeat' first
    | with_reducible (first
        | assumption | apply State.writeReg_kept | apply State.modChip_kept | refine List.forall_mem_cons.2 ⟨?_, ?_⟩
        | refine List.forall_mem_append.2 ⟨?_, ?_⟩ | refine List.forall_mem_map.2 ?_ | exact List.forall_mem_nil _ | apply Kept.ident)
    | with_reducible intro _
    | dsimp only
    | split

theorem State.cctrlWrite_kept {r0 s : State} (n : Nat) (data : Nat) (hk : Kept r0 s) :
    Kept r0 (State.cctrlWrite s n data) := by
  unfold State.cctrlWrite
  try dsimp only
  repeat' first
    | with_reducible (first
        | assumption | apply State.writeReg_kept | apply State.setBit_kept)
    | with_reducible intro _
    | dsimp only
    | split

theorem writes17_kept {r0 : State} : ∀ e ∈ writes17, ∀ t i data, Kept r0 t → Kept r0 (e.2 t i data) := by
  unfold writes17
  try dsimp only
  repeat' first
    | with_reducible (first
        | assumption | apply State.evuCtrlWrite_kept | apply State.evqPop_kept | apply State.evuSrcWrite_kept | apply State.cctrlWrite_kept
        | refine List.forall_mem_cons.2 ⟨?_, ?_⟩ | refine List.forall_mem_append.2 ⟨?_, ?_⟩ | refine List.forall_mem_map.2 ?_
        | exact List.forall_mem_nil _)
    | with_reducible intro _
    | dsimp only
    | split

theorem reads17_kept {r0 : State} : ∀ e ∈ reads17, ∀ t i, Kept r0 t → Kept r0 (e.2 t i) := by
  unfold reads17
  try dsimp only
  repeat' first
    | with_reducible (first
        | assumption | apply State.answerData_kept | apply State.wr_kept | refine List.forall_mem_cons.2 ⟨?_, ?_⟩
        | refine List.forall_mem_append.2 ⟨?_, ?_⟩ | refine List.forall_mem_map.2 ?_ | exact List.forall_mem_nil _)
    | with_reducible intro _
    | dsimp only
    | split

theorem writes18_kept {r0 : State} : ∀ e ∈ writes18, ∀ t i data, Kept r0 t → Kept r0 (e.2 t i data) := by
  unfold writes18
  try dsimp only
  repeat' first
    | with_reducible (first
        | assumption | apply State.tampcfgWrite_kept | apply State.secCmd_kept | refine List.forall_mem_cons.2 ⟨?_, ?_⟩
        | refine List.forall_mem_append.2 ⟨?_, ?_⟩ | refine List.forall_mem_map.2 ?_ | exact List.forall_mem_nil _)
    | with_reducible intro _
    | dsimp only
    | split

theorem reads18_kept {r0 : State} : ∀ e ∈ reads18, ∀ t i, Kept r0 t → Kept r0 (e.2 t i) := by
  unfold reads18
  try dsimp only
  repeat' first
    | with_reducible (first
        | assumption | apply State.nonceDraw_kept | apply State.answerData_kept | refine List.forall_mem_cons.2 ⟨?_, ?_⟩
        | refine List.forall_mem_append.2 ⟨?_, ?_⟩ | refine List.forall_mem_map.2 ?_ | exact List.forall_mem_nil _)
    | with_reducible intro _
    | dsimp only
    | split

theorem writes19_kept {r0 : State} : ∀ e ∈ writes19, ∀ t i data, Kept r0 t → Kept r0 (e.2 t i data) := by
  unfold writes19
  try dsimp only
  repeat' first
    | with_reducible (first
        | assumption | apply State.mcmdWrite_kept | apply State.fuseRepair_kept | apply State.capWrite_kept | apply State.dbgCmd_kept
        | apply State.tmselWrite_kept | apply State.fctlWrite_kept | refine List.forall_mem_cons.2 ⟨?_, ?_⟩
        | refine List.forall_mem_append.2 ⟨?_, ?_⟩ | refine List.forall_mem_map.2 ?_ | exact List.forall_mem_nil _)
    | with_reducible intro _
    | dsimp only
    | split

theorem reads19_kept {r0 : State} : ∀ e ∈ reads19, ∀ t i, Kept r0 t → Kept r0 (e.2 t i) := by
  unfold reads19
  try dsimp only
  repeat' first
    | with_reducible (first
        | assumption | apply State.answerData_kept | apply State.wr_kept | refine List.forall_mem_cons.2 ⟨?_, ?_⟩
        | refine List.forall_mem_append.2 ⟨?_, ?_⟩ | refine List.forall_mem_map.2 ?_ | exact List.forall_mem_nil _)
    | with_reducible intro _
    | dsimp only
    | split

theorem allWrites_kept {r0 : State} : ∀ e ∈ allWrites, ∀ t i data, Kept r0 t → Kept r0 (e.2 t i data) := by
  unfold allWrites
  try dsimp only
  repeat' first
    | with_reducible (first
        | assumption | apply writes02_kept | apply writes03_kept | apply writes04_kept | apply writes05_kept | apply writes06_kept
        | apply writes07_kept | apply writes08_kept | apply writes09_kept | apply writes10_kept | apply writes11_kept | apply writes12_kept
        | apply writes13_kept | apply writes14_kept | apply writes15_kept | apply writes16_kept | apply writes17_kept | apply writes18_kept
        | apply writes19_kept | refine List.forall_mem_cons.2 ⟨?_, ?_⟩ | refine List.forall_mem_append.2 ⟨?_, ?_⟩ | refine List.forall_mem_map.2 ?_
        | exact List.forall_mem_nil _)
    | with_reducible intro _
    | dsimp only
    | split

theorem allReads_kept {r0 : State} : ∀ e ∈ allReads, ∀ t i, Kept r0 t → Kept r0 (e.2 t i) := by
  unfold allReads
  try dsimp only
  repeat' first
    | with_reducible (first
        | assumption | apply reads02_kept | apply reads03_kept | apply reads04_kept | apply reads05_kept | apply reads06_kept | apply reads07_kept
        | apply reads08_kept | apply reads09_kept | apply reads10_kept | apply reads13_kept | apply reads14_kept | apply reads17_kept
        | apply reads18_kept | apply reads19_kept | refine List.forall_mem_cons.2 ⟨?_, ?_⟩ | refine List.forall_mem_append.2 ⟨?_, ?_⟩
        | refine List.forall_mem_map.2 ?_ | exact List.forall_mem_nil _)
    | with_reducible intro _
    | dsimp only
    | split

theorem State.scratchWrite_kept {r0 s : State} (off : Nat) (data : Nat) (hk : Kept r0 s) :
    Kept r0 (State.scratchWrite s off data) := by
  unfold State.scratchWrite
  try dsimp only
  repeat' first
    | with_reducible (first
        | assumption)
    | (with_reducible apply Kept.lit
       first
         | with_reducible (first
             | assumption)
         | split)
    | with_reducible intro _
    | dsimp only
    | split

theorem State.tokenWrite_kept {r0 s : State} (off : Nat) (data : Nat) (hk : Kept r0 s) :
    Kept r0 (State.tokenWrite s off data) := by
  unfold State.tokenWrite
  try dsimp only
  repeat' first
    | with_reducible (first
        | assumption | apply State.modSec_kept)
    | with_reducible intro _
    | dsimp only
    | split

theorem State.windowWrite_kept {r0 s : State} (w : Window) (off : Nat) (data : Nat) (hk : Kept r0 s) :
    Kept r0 (State.windowWrite s w off data) := by
  unfold State.windowWrite
  try dsimp only
  repeat' first
    | with_reducible (first
        | assumption | apply State.planWindowWrite_kept | apply State.pointWrite_kept | apply State.answer_kept | apply State.scratchWrite_kept
        | apply State.tokenWrite_kept)
    | with_reducible intro _
    | dsimp only
    | split

theorem State.windowRead_kept {r0 s : State} (w : Window) (off : Nat) (hk : Kept r0 s) :
    Kept r0 (State.windowRead s w off) := by
  unfold State.windowRead
  try dsimp only
  repeat' first
    | with_reducible (first
        | assumption | apply State.planWindowRead_kept | apply State.horizonRead_kept | apply State.answerData_kept | apply State.edidRead_kept)
    | with_reducible intro _
    | dsimp only
    | split

theorem lookup_mem {α : Type} {l : List (Nat × α)} {k : Nat} {v : α} (h : l.lookup k = some v) : ∃ e ∈ l, e.2 = v := by
  induction l with
  | nil => cases h
  | cons e r ih =>
    rw [List.lookup_cons] at h
    split at h
    · cases h; exact ⟨e, by simp, rfl⟩
    · obtain ⟨x, hx, rfl⟩ := ih h; exact ⟨x, by simp [hx], rfl⟩

theorem State.regWrite_kept {r0 s : State} (d : RegDesc) (i data : Nat) (hk : Kept r0 s) :
    Kept r0 (State.regWrite s d i data) := by
  unfold State.regWrite
  split
  · rename_i f h
    obtain ⟨e, he, rfl⟩ := lookup_mem h
    exact allWrites_kept e he s i data hk
  · exact State.writeReg_kept _ _ _ _ _ hk fun _ h => h

theorem State.regRead_kept {r0 s : State} (d : RegDesc) (i : Nat) (hk : Kept r0 s) :
    Kept r0 (State.regRead s d i) := by
  unfold State.regRead
  split
  · rename_i f h
    obtain ⟨e, he, rfl⟩ := lookup_mem h
    exact allReads_kept e he s i hk
  · exact State.answerData_kept _ hk

theorem State.coreWrite_kept {r0 s : State} (a : Nat) (data : Nat) (hk : Kept r0 s) :
    Kept r0 (State.coreWrite s a data) := by
  unfold State.coreWrite
  try dsimp only
  repeat' first
    | with_reducible (first
        | assumption | apply State.answer_kept | apply State.windowWrite_kept | apply State.pwpAccess_kept | apply State.regWrite_kept)
    | with_reducible intro _
    | dsimp only
    | split

theorem State.coreRead_kept {r0 s : State} (a : Nat) (hk : Kept r0 s) :
    Kept r0 (State.coreRead s a) := by
  unfold State.coreRead
  try dsimp only
  repeat' first
    | with_reducible (first
        | assumption | apply State.answer_kept | apply State.windowRead_kept | apply State.answerData_kept | apply State.pwpAccess_kept
        | apply State.regRead_kept)
    | with_reducible intro _
    | dsimp only
    | split

end Sys2Proof.Machine
end

