-- ==== Sys2Proof/Laws/Kept/NetOps.lean ====
section
/-! SUPPORT. What the operations of Machine/NetOps.lean keep. -/
namespace Sys2Proof.Machine

theorem State.netAsk_kept {r0 s : State} (i : Nat) (hk : Kept r0 s) :
    Kept r0 (State.netAsk s i) := by
  unfold State.netAsk
  try dsimp only
  repeat' first
    | with_reducible (first
        | assumption | apply State.cirrusOut_kept)
    | with_reducible intro _
    | dsimp only
    | split

theorem State.netStart_kept {r0 s : State} (hk : Kept r0 s) :
    Kept r0 (State.netStart s) := by
  unfold State.netStart
  try dsimp only
  repeat' first
    | with_reducible (first
        | assumption | apply State.netAsk_kept | apply State.modChip_kept | apply Kept.foldl)
    | with_reducible intro _
    | dsimp only
    | split

theorem State.netMore_kept {r0 s : State} (fuel : Nat) (hk : Kept r0 s) :
    Kept r0 (State.netMore s fuel) := by
  induction fuel generalizing s with
  | zero => exact hk
  | succ n ih =>
    unfold State.netMore
    split
    · exact hk
    · split
      · exact ih (State.modChip_kept _ (State.netAsk_kept _ hk))
      · exact hk

theorem State.netFail_kept {r0 s : State} (hk : Kept r0 s) :
    Kept r0 (State.netFail s) := by
  unfold State.netFail
  try dsimp only
  repeat' first
    | with_reducible (first
        | assumption | apply State.raise_kept | apply State.modChip_kept)
    | with_reducible intro _
    | dsimp only
    | split

theorem State.netLinkUp_kept {r0 s : State} (hk : Kept r0 s) :
    Kept r0 (State.netLinkUp s) := by
  unfold State.netLinkUp
  try dsimp only
  repeat' first
    | with_reducible (first
        | assumption | apply State.netStart_kept)
    | with_reducible intro _
    | dsimp only
    | split

end Sys2Proof.Machine
end

