-- ==== Sys2Proof/Laws/Kept/Settle.lean ====
section
/-! SUPPORT. What the operations of Machine/Settle.lean keep. -/
namespace Sys2Proof.Machine

theorem State.uplinkLost_kept {r0 s : State} (hk : Kept r0 s) :
    Kept r0 (State.uplinkLost s) := by
  unfold State.uplinkLost
  try dsimp only
  repeat' first
    | with_reducible (first
        | assumption | apply State.tsuHoldover_kept | apply State.safeLatch_kept | apply State.ulpStart_kept | apply State.pcieRefresh_kept
        | apply State.orphanRefresh_kept | apply State.tcPolicyChange_kept)
    | with_reducible intro _
    | dsimp only
    | split

theorem State.subtreeLost_kept {r0 s : State} (p : Nat) (hk : Kept r0 s) :
    Kept r0 (State.subtreeLost s p) := by
  unfold State.subtreeLost
  try dsimp only
  repeat' first
    | with_reducible (first
        | assumption | apply State.dpLinkChange_kept | apply State.pcieRefresh_kept | apply State.dpPath_kept | apply State.vdspHubLost_kept
        | apply State.hubAbsent_kept | apply State.reportLoss_kept | apply Kept.foldl)
    | with_reducible intro _
    | dsimp only
    | split

theorem State.linkDownNews_kept {r0 s : State} (p : Nat) (hk : Kept r0 s) :
    Kept r0 (State.linkDownNews s p) := by
  unfold State.linkDownNews
  try dsimp only
  repeat' first
    | with_reducible (first
        | assumption | apply State.swLinkDown_kept | apply State.uplinkLost_kept | apply State.subtreeLost_kept)
    | with_reducible intro _
    | dsimp only
    | split

theorem State.firstActive_kept {r0 s : State} (hk : Kept r0 s) :
    Kept r0 (State.firstActive s) := by
  unfold State.firstActive
  try dsimp only
  repeat' first
    | with_reducible (first
        | assumption | apply State.drew_kept | apply State.wr_kept)
    | with_reducible intro _
    | dsimp only
    | split

theorem State.linkUpNews_kept {r0 s : State} (p : Nat) (hk : Kept r0 s) :
    Kept r0 (State.linkUpNews s p) := by
  unfold State.linkUpNews
  try dsimp only
  repeat' first
    | with_reducible (first
        | assumption | apply State.firstActive_kept | apply State.netLinkUp_kept | apply State.ulpStop_kept | apply State.pcieRefresh_kept
        | apply State.orphanRefresh_kept | apply State.tcPolicyChange_kept | apply State.reportDue_kept | apply State.dpLinkChange_kept)
    | with_reducible intro _
    | dsimp only
    | split

theorem State.shiftNews_kept {r0 s : State} (p : Nat) (hk : Kept r0 s) :
    Kept r0 (State.shiftNews s p) := by
  unfold State.shiftNews
  try dsimp only
  repeat' first
    | with_reducible (first
        | assumption | apply State.pcieRefresh_kept | apply State.dpLinkChange_kept | apply State.streamFitCheck_kept
        | apply State.reportChange_kept | apply State.orphanRefresh_kept | apply State.periodicFit_kept)
    | with_reducible intro _
    | dsimp only
    | split

theorem State.gatewayNews_kept {r0 s : State} (k : Nat) (hk : Kept r0 s) :
    Kept r0 (State.gatewayNews s k) := by
  unfold State.gatewayNews
  try dsimp only
  repeat' first
    | with_reducible (first
        | assumption | apply State.ulpStop_kept | apply State.tcPolicyChange_kept | apply State.ulpStart_kept)
    | with_reducible intro _
    | dsimp only
    | split

theorem State.answerNews_kept {r0 s : State} (n : Nat × Nat) (hk : Kept r0 s) :
    Kept r0 (State.answerNews s n) := by
  unfold State.answerNews
  try dsimp only
  repeat' first
    | with_reducible (first
        | assumption | apply State.linkDownNews_kept | apply State.linkUpNews_kept | apply State.shiftNews_kept | apply State.gatewayNews_kept)
    | with_reducible intro _
    | dsimp only
    | split

theorem State.settled_kept {r0 s : State} (hk : Kept r0 s) :
    Kept r0 (State.settled s) := by
  unfold State.settled
  try dsimp only
  repeat' first
    | with_reducible (first
        | assumption | apply State.answerNews_kept | apply Kept.foldl)
    | (with_reducible apply Kept.lit
       first
         | with_reducible (first
             | assumption | apply State.answerNews_kept | apply Kept.foldl)
         | split)
    | with_reducible intro _
    | dsimp only
    | split

theorem State.settling_kept {r0 s : State} (f : State → State) (hk : Kept r0 s) (hf : ∀ t, Kept r0 t → Kept r0 (f t)) :
    Kept r0 (State.settling s f) := by
  unfold State.settling
  try dsimp only
  repeat' first
    | with_reducible (first
        | assumption | apply hf | apply State.settled_kept)
    | (with_reducible apply Kept.lit
       first
         | with_reducible (first
             | assumption | apply hf | apply State.settled_kept)
         | split)
    | with_reducible intro _
    | dsimp only
    | split

end Sys2Proof.Machine
end

