-- ==== Sys2Proof/Laws/Kept/Load.lean ====
section
/-! SUPPORT. What the operations of Machine/Load.lean keep. -/
namespace Sys2Proof.Machine

theorem State.noteImage_kept {r0 s : State} (d : RegDesc) (i : Nat) (data : Nat) (hk : Kept r0 s) :
    Kept r0 (State.noteImage s d i data) := by
  unfold State.noteImage
  try dsimp only
  repeat' first
    | with_reducible (first
        | assumption | apply State.modChip_kept)
    | with_reducible intro _
    | dsimp only
    | split

theorem State.putBy_kept {r0 s : State} (d : RegDesc) (i data : Nat) (write : State → State) (hk : Kept r0 s)
    (hw : ∀ r t, Kept r t → Kept r (write t)) : Kept r0 (s.putBy d i data write).1 := by
  unfold State.putBy
  dsimp only
  split
  · exact State.noteImage_kept _ _ _ (State.quietly_kept _ hk hw)
  · exact hk

theorem State.putReg_kept {r0 s : State} (d : RegDesc) (i : Nat) (data : Nat) (hk : Kept r0 s) :
    Kept r0 (State.putReg s d i data).1 := by
  unfold State.putReg
  try dsimp only
  repeat' first
    | with_reducible (first
        | assumption | apply State.putBy_kept | apply State.regWrite_kept)
    | with_reducible intro _
    | dsimp only
    | split

theorem State.putPlain_kept {r0 s : State} (d : RegDesc) (i : Nat) (data : Nat) (hk : Kept r0 s) :
    Kept r0 (State.putPlain s d i data).1 := by
  unfold State.putPlain
  try dsimp only
  repeat' first
    | with_reducible (first
        | assumption | apply State.putBy_kept | apply State.writeReg_kept | apply Kept.ident)
    | with_reducible intro _
    | dsimp only
    | split

theorem State.steps_kept {r0 s : State} (l : List (State → State × Nat)) (hk : Kept r0 s)
    (hl : ∀ f ∈ l, ∀ t, Kept r0 t → Kept r0 (f t).1) : Kept r0 (s.steps l).1 := by
  unfold State.steps
  have g : ∀ (l : List (State → State × Nat)) (e : State × Nat), (∀ f ∈ l, ∀ t, Kept r0 t → Kept r0 (f t).1) → Kept r0 e.1 →
      Kept r0 (l.foldl (fun r f => ((f r.1).1, worse r.2 (f r.1).2)) e).1 := by
    intro l
    induction l with
    | nil => intro e _ h; exact h
    | cons f r ih => intro e hl h; exact ih _ (fun g hg => hl g (by simp [hg])) (hl f (by simp) _ h)
  exact g l _ hl hk

theorem State.putRegs_kept {r0 s : State} (l : RegWords) (hk : Kept r0 s) :
    Kept r0 (State.putRegs s l).1 := by
  unfold State.putRegs
  try dsimp only
  repeat' first
    | with_reducible (first
        | assumption | apply State.steps_kept | apply State.putReg_kept | refine List.forall_mem_cons.2 ⟨?_, ?_⟩
        | refine List.forall_mem_append.2 ⟨?_, ?_⟩ | refine List.forall_mem_map.2 ?_ | exact List.forall_mem_nil _)
    | with_reducible intro _
    | dsimp only
    | split

theorem State.guarded_kept {r0 s : State} (checks : List (Nat × Bool)) (f : State → State × Nat) (hk : Kept r0 s) (hf : ∀ t, Kept r0 t → Kept r0 (f t).1) :
    Kept r0 (State.guarded s checks f).1 := by
  unfold State.guarded
  try dsimp only
  repeat' first
    | with_reducible (first
        | assumption | apply hf)
    | with_reducible intro _
    | dsimp only
    | split

theorem State.header_kept {r0 s : State} (checks : List (Nat × Bool)) (f : State → State × Nat) (hk : Kept r0 s) (hf : ∀ t, Kept r0 t → Kept r0 (f t).1) :
    Kept r0 (State.header s checks f).1 := by
  unfold State.header
  try dsimp only
  repeat' first
    | with_reducible (first
        | assumption | apply hf | apply State.guarded_kept)
    | with_reducible intro _
    | dsimp only
    | split

theorem record_kept {r0 : State} (l : Loaded) (n : Nat) (f : State → State × Nat) (hk : Kept r0 l.1) (hf : ∀ t, Kept r0 t → Kept r0 (f t).1) :
    Kept r0 (record l n f).1 := by
  unfold record
  try dsimp only
  repeat' first
    | with_reducible (first
        | assumption | apply hf)
    | with_reducible intro _
    | dsimp only
    | split

theorem records_kept {r0 : State} (l : Loaded) (first : Nat) (n : Nat) (f : Nat → State → State × Nat) (hk : Kept r0 l.1) (hf : ∀ k t, Kept r0 t → Kept r0 (f k t).1) :
    Kept r0 (records l first n f).1 := by
  unfold records
  try dsimp only
  repeat' first
    | with_reducible (first
        | assumption | apply hf | apply record_kept | apply Kept.foldl | apply Kept.foldlFst | apply Kept.foldlSnd)
    | with_reducible intro _
    | dsimp only
    | split

theorem finish_kept {r0 : State} (l : Loaded) (f : State → State) (hk : Kept r0 l.1) (hf : ∀ t, Kept r0 t → Kept r0 (f t)) :
    Kept r0 (finish l f).1 := by
  unfold finish
  try dsimp only
  repeat' first
    | with_reducible (first
        | assumption | apply hf)
    | with_reducible intro _
    | dsimp only
    | split

theorem State.takePlace_kept {r0 s : State} (root : Bool) (hub : Nat) (zone : Nat) (up : Nat) (hk : Kept r0 s) :
    Kept r0 (State.takePlace s root hub zone up) := by
  unfold State.takePlace
  try dsimp only
  repeat' first
    | with_reducible (first
        | assumption | apply State.wr_kept | apply State.setBit_kept | apply Kept.foldl)
    | with_reducible intro _
    | dsimp only
    | split

theorem State.loadGlobal_kept {r0 s : State} (b : List Byte) (zone : Nat) (hub : Nat) (hk : Kept r0 s) :
    Kept r0 (State.loadGlobal s b zone hub).1 := by
  unfold State.loadGlobal
  try dsimp only
  repeat' first
    | with_reducible (first
        | assumption | apply State.wr_kept | apply State.header_kept | apply State.putRegs_kept | apply State.modChip_kept
        | apply State.takePlace_kept | apply State.modLk_kept | apply State.drew_kept | apply State.recomputePool_kept | apply Kept.foldl
        | apply Kept.foldlFst | apply Kept.foldlSnd)
    | (with_reducible apply Kept.lit
       first
         | with_reducible (first
             | assumption | apply State.wr_kept | apply State.header_kept | apply State.putRegs_kept | apply State.modChip_kept
             | apply State.takePlace_kept | apply State.modLk_kept | apply State.drew_kept | apply State.recomputePool_kept | apply Kept.foldl
             | apply Kept.foldlFst | apply Kept.foldlSnd)
         | split)
    | with_reducible intro _
    | dsimp only
    | split

theorem State.pinRecord_kept {r0 s : State} (b : List Byte) (at_ : Nat) (hk : Kept r0 s) :
    Kept r0 (State.pinRecord s b at_).1 := by
  unfold State.pinRecord
  try dsimp only
  repeat' first
    | with_reducible (first
        | assumption | apply State.guarded_kept | apply State.modChip_kept)
    | with_reducible intro _
    | dsimp only
    | split

theorem State.loadPinmux_kept {r0 s : State} (b : List Byte) (hk : Kept r0 s) :
    Kept r0 (State.loadPinmux s b).1 := by
  unfold State.loadPinmux
  try dsimp only
  repeat' first
    | with_reducible (first
        | assumption | apply State.header_kept | apply records_kept | apply State.pinRecord_kept)
    | with_reducible intro _
    | dsimp only
    | split

theorem State.eventRecord_kept {r0 s : State} (b : List Byte) (at_ : Nat) (hk : Kept r0 s) :
    Kept r0 (State.eventRecord s b at_).1 := by
  unfold State.eventRecord
  try dsimp only
  repeat' first
    | with_reducible (first
        | assumption | apply State.guarded_kept | apply State.wr_kept)
    | with_reducible intro _
    | dsimp only
    | split

theorem State.loadEvents_kept {r0 s : State} (b : List Byte) (hk : Kept r0 s) :
    Kept r0 (State.loadEvents s b).1 := by
  unfold State.loadEvents
  try dsimp only
  repeat' first
    | with_reducible (first
        | assumption | apply State.header_kept | apply records_kept | apply State.eventRecord_kept)
    | with_reducible intro _
    | dsimp only
    | split

theorem State.tunnelRecord_kept {r0 s : State} (b : List Byte) (at_ : Nat) (hk : Kept r0 s) :
    Kept r0 (State.tunnelRecord s b at_).1 := by
  unfold State.tunnelRecord
  try dsimp only
  repeat' first
    | with_reducible (first
        | assumption | apply State.guarded_kept | apply State.wr_kept | apply State.writeFields_kept | apply State.noteStage_kept
        | apply Kept.foldl | apply Kept.foldlFst | apply Kept.foldlSnd)
    | with_reducible intro _
    | dsimp only
    | split

theorem State.loadTunnels_kept {r0 s : State} (b : List Byte) (hk : Kept r0 s) :
    Kept r0 (State.loadTunnels s b).1 := by
  unfold State.loadTunnels
  try dsimp only
  repeat' first
    | with_reducible (first
        | assumption | apply State.header_kept | apply records_kept | apply State.tunnelRecord_kept | apply State.putRegs_kept)
    | with_reducible intro _
    | dsimp only
    | split

theorem State.storeTable_kept {r0 s : State} (p : Nat) (dir : Nat) (plan : Nat) (b : List Byte) (at_ : Nat) (hk : Kept r0 s) :
    Kept r0 (State.storeTable s p dir plan b at_) := by
  unfold State.storeTable
  generalize List.range 4096 = l
  refine hk.tables rfl rfl rfl rfl rfl (fun k => ?_)
  simp only [State.tablesOk, Bool.and_eq_true] at k ⊢
  simp only [k, true_and, and_true]
  exact NMap.wf_foldl 0 (fun n => planKey p dir plan n) (fun n => leAt b (at_ + 2 * n) 2) _ _ k.1.1.1.1.1.1.1.2

theorem State.planRecord_kept {r0 s : State} (b : List Byte) (at_ : Nat) (seen : List (Nat × Nat)) (hk : Kept r0 s) :
    Kept r0 (State.planRecord s b at_ seen).1 := by
  unfold State.planRecord
  try dsimp only
  repeat' first
    | with_reducible (first
        | assumption | apply State.guarded_kept | apply State.storeTable_kept | apply State.wr_kept | apply State.validatePlan_kept)
    | with_reducible intro _
    | dsimp only
    | split

theorem State.alignPut_kept {r0 s : State} (p : Nat) (v : Nat) (hk : Kept r0 s) :
    Kept r0 (State.alignPut s p v).1 := by
  unfold State.alignPut
  try dsimp only
  repeat' first
    | with_reducible (first
        | assumption | apply State.putReg_kept)
    | with_reducible intro _
    | dsimp only
    | split

theorem State.loadPlans_kept {r0 s : State} (b : List Byte) (hk : Kept r0 s) :
    Kept r0 (State.loadPlans s b).1 := by
  unfold State.loadPlans
  try dsimp only
  repeat' first
    | with_reducible (first
        | assumption | apply State.header_kept | apply State.steps_kept | apply State.alignPut_kept | apply State.putReg_kept | apply records_kept
        | apply State.planRecord_kept | refine List.forall_mem_cons.2 ⟨?_, ?_⟩ | refine List.forall_mem_append.2 ⟨?_, ?_⟩
        | refine List.forall_mem_map.2 ?_ | exact List.forall_mem_nil _)
    | with_reducible intro _
    | dsimp only
    | split

theorem State.selectorRecord_kept {r0 s : State} (b : List Byte) (at_ : Nat) (k : Nat) (hk : Kept r0 s) :
    Kept r0 (State.selectorRecord s b at_ k).1 := by
  unfold State.selectorRecord
  try dsimp only
  repeat' first
    | with_reducible (first
        | assumption | apply State.guarded_kept | apply State.wr_kept)
    | with_reducible intro _
    | dsimp only
    | split

theorem State.loadSelector_kept {r0 s : State} (b : List Byte) (hk : Kept r0 s) :
    Kept r0 (State.loadSelector s b).1 := by
  unfold State.loadSelector
  try dsimp only
  repeat' first
    | with_reducible (first
        | assumption | apply State.header_kept | apply State.putRegs_kept | apply records_kept | apply finish_kept | apply State.wr_kept
        | apply State.selectorRecord_kept)
    | with_reducible intro _
    | dsimp only
    | split

theorem State.gatewayHeader_kept {r0 s : State} (b : List Byte) (hk : Kept r0 s) :
    Kept r0 (State.gatewayHeader s b).1 := by
  unfold State.gatewayHeader
  try dsimp only
  repeat' first
    | with_reducible (first
        | assumption | apply State.steps_kept | apply State.putReg_kept | apply State.putPlain_kept | refine List.forall_mem_cons.2 ⟨?_, ?_⟩
        | refine List.forall_mem_append.2 ⟨?_, ?_⟩ | refine List.forall_mem_map.2 ?_ | exact List.forall_mem_nil _)
    | with_reducible intro _
    | dsimp only
    | split

theorem State.routes_kept {r0 s u : State} (hk : Kept r0 s) (hu : Kept s u) : Kept r0 { s with routes := u.routes } := by
  refine hk.trans ⟨rfl, List.prefix_rfl, Nat.le_refl _, fun i => ⟨?_, i.2⟩⟩
  have a := i.1
  have b := (hu.inv i).1
  simp only [State.tablesOk, Bool.and_eq_true] at a b ⊢
  simp_all

theorem State.routeRecord_kept {r0 s : State} (b : List Byte) (at_ : Nat) (hk : Kept r0 s) :
    Kept r0 (s.routeRecord b at_).1 := by
  unfold State.routeRecord
  dsimp only
  split
  · exact hk
  · exact State.wr_kept _ _ _ (State.routes_kept hk
      (State.routePut_kept _ (Kept.foldl (Kept.refl s) fun _ _ h => State.wr_kept _ _ _ h)))

theorem State.loadRoutes_kept {r0 s : State} (b : List Byte) (hk : Kept r0 s) :
    Kept r0 (State.loadRoutes s b).1 := by
  unfold State.loadRoutes
  dsimp only
  with_reducible apply records_kept
  · with_reducible apply records_kept
    · with_reducible apply State.header_kept _ _ hk
      intro t h
      refine State.steps_kept _ h (List.forall_mem_append.2 ⟨?_, List.forall_mem_cons.2 ⟨?_, List.forall_mem_nil _⟩⟩)
      · split
        · exact List.forall_mem_cons.2 ⟨fun t h => State.gatewayHeader_kept _ h, List.forall_mem_nil _⟩
        · exact List.forall_mem_nil _
      · exact fun t h => State.putReg_kept _ _ _ h
    · exact fun k t h => State.routeRecord_kept _ _ h
  · exact fun k t h => State.putRegs_kept _ h

end Sys2Proof.Machine
end

