-- ==== Sys2Proof/Laws/Kept/LoadEdge.lean ====
section
/-! SUPPORT. What the operations of Machine/LoadEdge.lean keep. -/
namespace Sys2Proof.Machine

theorem State.gwqPut_kept {r0 s : State} (v : Nat) (hk : Kept r0 s) :
    Kept r0 (State.gwqPut s v).1 := by
  unfold State.gwqPut
  try dsimp only
  repeat' first
    | with_reducible (first
        | assumption | apply State.putReg_kept)
    | with_reducible intro _
    | dsimp only
    | split

theorem State.storeWords_kept {r0 s : State} (l : RegWords) (hk : Kept r0 s) :
    Kept r0 (State.storeWords s l) := by
  unfold State.storeWords
  try dsimp only
  repeat' first
    | with_reducible (first
        | assumption | apply State.writeFields_kept | apply Kept.foldl)
    | with_reducible intro _
    | dsimp only
    | split

theorem State.nodeRecord_kept {r0 s : State} (b : List Byte) (at_ : Nat) (hk : Kept r0 s) :
    Kept r0 (State.nodeRecord s b at_).1 := by
  unfold State.nodeRecord
  try dsimp only
  repeat' first
    | with_reducible (first
        | assumption | apply State.storeWords_kept | apply State.guarded_kept | apply State.wr_kept | apply State.writeFields_kept
        | apply State.ncfgStore_kept)
    | with_reducible intro _
    | dsimp only
    | split

theorem State.meterRecord_kept {r0 s : State} (b : List Byte) (at_ : Nat) (hk : Kept r0 s) :
    Kept r0 (State.meterRecord s b at_).1 := by
  unfold State.meterRecord
  try dsimp only
  repeat' first
    | with_reducible (first
        | assumption | apply State.storeWords_kept | apply State.guarded_kept)
    | with_reducible intro _
    | dsimp only
    | split

theorem State.loadTmg_kept {r0 s : State} (b : List Byte) (hk : Kept r0 s) :
    Kept r0 (State.loadTmg s b).1 := by
  unfold State.loadTmg
  try dsimp only
  repeat' first
    | with_reducible (first
        | assumption | apply State.header_kept | apply State.gwqPut_kept | apply records_kept | apply State.guarded_kept | apply State.putRegs_kept
        | apply State.nodeRecord_kept | apply State.meterRecord_kept | apply State.checkParents_kept)
    | with_reducible intro _
    | dsimp only
    | split

theorem State.putPool_kept {r0 s : State} (d : RegDesc) (i : Nat) (data : Nat) (checks : List (Nat × Bool)) (hk : Kept r0 s) :
    Kept r0 (State.putPool s d i data checks).1 := by
  unfold State.putPool
  try dsimp only
  repeat' first
    | with_reducible (first
        | assumption | apply State.guarded_kept | apply State.writeFields_kept)
    | with_reducible intro _
    | dsimp only
    | split

theorem State.profilesOf_kept {r0 s : State} (t : State) (hk : Kept r0 s) :
    Kept r0 (State.profilesOf s t) := by
  unfold State.profilesOf
  try dsimp only
  repeat' first
    | with_reducible (first
        | assumption | apply State.wr_kept | apply State.setProfile_kept | apply Kept.foldl)
    | with_reducible intro _
    | dsimp only
    | split

theorem poolCheck_kept {r0 : State} (l : Loaded) (before : State) (n : Nat) (hk : Kept r0 l.1) :
    Kept r0 (poolCheck l before n).1 := by
  unfold poolCheck
  repeat' first
    | with_reducible assumption
    | with_reducible apply State.recomputePool_kept
    | with_reducible apply State.profilesOf_kept
    | split

theorem State.staticRecord_kept {r0 s : State} (b : List Byte) (at_ : Nat) (hk : Kept r0 s) :
    Kept r0 (State.staticRecord s b at_).1 := by
  unfold State.staticRecord
  try dsimp only
  repeat' first
    | with_reducible (first
        | assumption | apply State.setFbuf_kept | apply State.guarded_kept | apply State.fdbPlace_kept)
    | with_reducible intro _
    | dsimp only
    | split

theorem State.loadSwitch_kept {r0 s : State} (b : List Byte) (hk : Kept r0 s) :
    Kept r0 (State.loadSwitch s b).1 := by
  unfold State.loadSwitch
  try dsimp only
  repeat' first
    | with_reducible (first
        | assumption | apply State.header_kept | apply State.putRegs_kept | apply records_kept | apply State.putPool_kept
        | apply State.guarded_kept | apply State.putReg_kept | apply State.setProfile_kept | apply poolCheck_kept | apply State.staticRecord_kept)
    | with_reducible intro _
    | dsimp only
    | split

theorem State.loadEth_kept {r0 s : State} (b : List Byte) (hk : Kept r0 s) : Kept r0 (s.loadEth b).1 :=
  records_kept _ _ _ _
    (records_kept _ _ _ _ (State.header_kept _ _ hk fun _ h => State.putRegs_kept _ h)
      fun _ _ h => State.guarded_kept _ _ h fun _ h => State.putRegs_kept _ h)
    fun _ _ h => State.putReg_kept _ _ _ h

theorem held_kept {r0 s : State} (type : Nat) (n : Nat) (f : State → State × Nat) (hk : Kept r0 s) (hf : ∀ t, Kept r0 t → Kept r0 (f t).1) :
    Kept r0 (held type n f s).1 := by
  unfold held
  try dsimp only
  repeat' first
    | with_reducible (first
        | assumption | apply hf | apply State.raise_kept)
    | with_reducible intro _
    | dsimp only
    | split

theorem State.loadField_kept {r0 s : State} (b : List Byte) (hk : Kept r0 s) :
    Kept r0 (State.loadField s b).1 := by
  unfold State.loadField
  try dsimp only
  repeat' first
    | with_reducible (first
        | assumption | apply State.header_kept | apply State.putRegs_kept | apply records_kept | apply held_kept | apply State.guarded_kept
        | apply State.putReg_kept | apply finish_kept | apply State.refreshOutputs_kept | apply State.modFld_kept)
    | with_reducible intro _
    | dsimp only
    | split

theorem State.loadPcie_kept {r0 s : State} (b : List Byte) (hk : Kept r0 s) :
    Kept r0 (State.loadPcie s b).1 := by
  unfold State.loadPcie
  try dsimp only
  repeat' first
    | with_reducible (first
        | assumption | apply State.header_kept | apply State.putRegs_kept | apply finish_kept | apply State.modPcb_kept | apply State.setPerst_kept)
    | with_reducible intro _
    | dsimp only
    | split

theorem State.loadDp_kept {r0 s : State} (b : List Byte) (hk : Kept r0 s) :
    Kept r0 (State.loadDp s b).1 := by
  unfold State.loadDp
  try dsimp only
  repeat' first
    | with_reducible (first
        | assumption | apply State.header_kept | apply records_kept | apply State.guarded_kept | apply State.putReg_kept)
    | with_reducible intro _
    | dsimp only
    | split

theorem State.loadUsb_kept {r0 s : State} (b : List Byte) (hk : Kept r0 s) :
    Kept r0 (State.loadUsb s b).1 := by
  unfold State.loadUsb
  try dsimp only
  repeat' first
    | with_reducible (first
        | assumption | apply State.header_kept | apply State.putBy_kept | apply State.coreWrite_kept)
    | with_reducible intro _
    | dsimp only
    | split

theorem State.typecRecord_kept {r0 s : State} (b : List Byte) (at_ : Nat) (n : Nat) (hk : Kept r0 s) :
    Kept r0 (State.typecRecord s b at_ n).1 := by
  unfold State.typecRecord
  try dsimp only
  repeat' first
    | with_reducible (first
        | assumption | apply State.storeWords_kept | apply State.guarded_kept | apply State.putReg_kept)
    | with_reducible intro _
    | dsimp only
    | split

theorem State.loadTypec_kept {r0 s : State} (b : List Byte) (hk : Kept r0 s) :
    Kept r0 (State.loadTypec s b).1 := by
  unfold State.loadTypec
  try dsimp only
  repeat' first
    | with_reducible (first
        | assumption | apply State.header_kept | apply State.putReg_kept | apply records_kept | apply held_kept | apply State.typecRecord_kept)
    | with_reducible intro _
    | dsimp only
    | split

theorem State.pwpHeld_kept {r0 s : State} (words : RegWords) (channel : Nat) (hk : Kept r0 s) :
    Kept r0 (State.pwpHeld s words channel) := by
  unfold State.pwpHeld
  try dsimp only
  repeat' first
    | with_reducible (first
        | assumption | apply State.raise_kept)
    | with_reducible intro _
    | dsimp only
    | split

theorem State.inputPut_kept {r0 s : State} (b : List Byte) (hk : Kept r0 s) :
    Kept r0 (State.inputPut s b).1 := by
  unfold State.inputPut
  try dsimp only
  repeat' first
    | with_reducible (first
        | assumption | apply State.pwpHeld_kept | apply State.storeWords_kept | apply State.guarded_kept)
    | with_reducible intro _
    | dsimp only
    | split

theorem State.channelRecord_kept {r0 s : State} (b : List Byte) (at_ : Nat) (c : Nat) (hk : Kept r0 s) :
    Kept r0 (State.channelRecord s b at_ c).1 := by
  unfold State.channelRecord
  try dsimp only
  repeat' first
    | with_reducible (first
        | assumption | apply State.pwpHeld_kept | apply State.storeWords_kept | apply State.guarded_kept | apply State.writeFields_kept
        | apply State.efctlAfter_kept)
    | with_reducible intro _
    | dsimp only
    | split

theorem State.loadPowerpath_kept {r0 s : State} (b : List Byte) (hk : Kept r0 s) :
    Kept r0 (State.loadPowerpath s b).1 := by
  unfold State.loadPowerpath
  try dsimp only
  repeat' first
    | with_reducible (first
        | assumption | apply State.header_kept | apply State.steps_kept | apply State.inputPut_kept | apply State.putReg_kept | apply records_kept
        | apply State.channelRecord_kept | refine List.forall_mem_cons.2 ⟨?_, ?_⟩ | refine List.forall_mem_append.2 ⟨?_, ?_⟩
        | refine List.forall_mem_map.2 ?_ | exact List.forall_mem_nil _)
    | with_reducible intro _
    | dsimp only
    | split

theorem State.loadCode_kept {r0 s : State} (b : List Byte) (n : Nat) (hk : Kept r0 s) :
    Kept r0 (State.loadCode s b n) := by
  unfold State.loadCode
  try dsimp only
  repeat' first
    | with_reducible (first
        | assumption | apply Kept.foldl)
    | (with_reducible apply Kept.lit
       first
         | with_reducible (first
             | assumption | apply Kept.foldl)
         | split)
    | with_reducible intro _
    | dsimp only
    | split

theorem State.loadCore_kept {r0 s : State} (b : List Byte) (n : Nat) (hk : Kept r0 s) :
    Kept r0 (State.loadCore s b n) := by
  unfold State.loadCore
  try dsimp only
  repeat' first
    | with_reducible (first
        | assumption | apply State.wr_kept | apply State.loadCode_kept | apply State.setBit_kept)
    | (with_reducible apply Kept.lit
       first
         | with_reducible (first
             | assumption | apply State.wr_kept | apply State.loadCode_kept | apply State.setBit_kept)
         | split)
    | with_reducible intro _
    | dsimp only
    | split

theorem State.loadPlugin_kept {r0 s : State} (b : List Byte) (i : Nat) (hk : Kept r0 s) :
    Kept r0 (State.loadPlugin s b i) := by
  unfold State.loadPlugin
  try dsimp only
  repeat' first
    | with_reducible (first
        | assumption | apply State.wr_kept)
    | (with_reducible apply Kept.lit
       first
         | with_reducible (first
             | assumption | apply State.wr_kept)
         | split)
    | with_reducible intro _
    | dsimp only
    | split

theorem State.loadNimbus_kept {r0 s : State} (b : List Byte) (hk : Kept r0 s) :
    Kept r0 (State.loadNimbus s b).1 := by
  unfold State.loadNimbus
  try dsimp only
  repeat' first
    | with_reducible (first
        | assumption | apply State.header_kept | apply State.putReg_kept | apply finish_kept | apply State.loadPlugin_kept
        | apply State.loadCore_kept | apply Kept.foldl | apply Kept.foldlFst | apply Kept.foldlSnd)
    | (with_reducible apply Kept.lit
       first
         | with_reducible (first
             | assumption | apply State.header_kept | apply State.putReg_kept | apply finish_kept | apply State.loadPlugin_kept
             | apply State.loadCore_kept | apply Kept.foldl | apply Kept.foldlFst | apply Kept.foldlSnd)
         | split)
    | with_reducible intro _
    | dsimp only
    | split

end Sys2Proof.Machine
end

