-- ==== Sys2Proof/Laws/Kept/LoadKeys.lean ====
section
/-! SUPPORT. What the operations of Machine/LoadKeys.lean keep. -/
namespace Sys2Proof.Machine

theorem State.loadPuf_kept {r0 s : State} (b : List Byte) (hk : Kept r0 s) :
    Kept r0 (State.loadPuf s b).1 := by
  unfold State.loadPuf
  try dsimp only
  repeat' first
    | with_reducible (first
        | assumption | apply State.header_kept | apply State.wr_kept | apply State.drew_kept | apply State.raise_kept)
    | with_reducible intro _
    | dsimp only
    | split

theorem State.dawnCheck_kept {r0 s : State} (hk : Kept r0 s) :
    Kept r0 (State.dawnCheck s) := by
  unfold State.dawnCheck
  try dsimp only
  repeat' first
    | with_reducible (first
        | assumption | apply State.raise_kept | apply State.wr_kept | apply State.drawDawn_kept)
    | with_reducible intro _
    | dsimp only
    | split

theorem State.readJournal_kept {r0 s : State} (hk : Kept r0 s) :
    Kept r0 (State.readJournal s) := by
  unfold State.readJournal
  try dsimp only
  repeat' first
    | with_reducible (first
        | assumption | apply State.raise_kept | apply State.wr_kept | apply State.setBit_kept | apply State.slotLoad_kept | apply Kept.foldl)
    | with_reducible intro _
    | dsimp only
    | split

theorem State.loadJournal_kept {r0 s : State} (b : List Byte) (hk : Kept r0 s) :
    Kept r0 (State.loadJournal s b).1 := by
  unfold State.loadJournal
  try dsimp only
  repeat' first
    | with_reducible (first
        | assumption | apply State.header_kept | apply State.wr_kept | apply finish_kept | apply State.readJournal_kept)
    | with_reducible intro _
    | dsimp only
    | split

theorem State.blobRecord_kept {r0 s : State} (b : List Byte) (at_ : Nat) (seen : List Nat) (hk : Kept r0 s) :
    Kept r0 (State.blobRecord s b at_ seen).1 := by
  unfold State.blobRecord
  try dsimp only
  repeat' first
    | with_reducible (first
        | assumption | apply State.raise_kept | apply State.modSec_kept | apply State.slotLoad_kept)
    | with_reducible intro _
    | dsimp only
    | split

theorem State.loadBlobs_kept {r0 s : State} (b : List Byte) (hk : Kept r0 s) :
    Kept r0 (State.loadBlobs s b).1 := by
  unfold State.loadBlobs
  try dsimp only
  repeat' first
    | with_reducible (first
        | assumption | apply State.header_kept | apply records_kept | apply State.blobRecord_kept)
    | with_reducible intro _
    | dsimp only
    | split

theorem State.journalRewrite_kept {r0 s : State} (hk : Kept r0 s) :
    Kept r0 (State.journalRewrite s) := by
  unfold State.journalRewrite
  try dsimp only
  repeat' first
    | with_reducible (first
        | assumption | apply State.modSec_kept | apply State.journalStart_kept)
    | with_reducible intro _
    | dsimp only
    | split

end Sys2Proof.Machine
end

