-- ==== Sys2Proof/Laws/Kept/Image.lean ====
section
/-! SUPPORT. What the operations of Machine/Image.lean keep. -/
namespace Sys2Proof.Machine

theorem State.loadSection_kept {r0 s : State} (img : List Byte) (type : Nat) (b : List Byte) (hk : Kept r0 s) :
    Kept r0 (State.loadSection s img type b).1 := by
  unfold State.loadSection
  try dsimp only
  repeat' first
    | with_reducible (first
        | assumption | apply State.loadPuf_kept | apply State.loadJournal_kept | apply State.loadBlobs_kept | apply State.loadGlobal_kept
        | apply State.loadPinmux_kept | apply State.loadEvents_kept | apply State.loadTunnels_kept | apply State.loadPlans_kept
        | apply State.loadSelector_kept | apply State.loadRoutes_kept | apply State.loadTmg_kept | apply State.loadSwitch_kept
        | apply State.loadEth_kept | apply State.loadField_kept | apply State.loadPcie_kept | apply State.loadDp_kept | apply State.loadUsb_kept
        | apply State.loadTypec_kept | apply State.loadPowerpath_kept | apply State.loadNimbus_kept)
    | with_reducible intro _
    | dsimp only
    | split

theorem State.sectFail_kept {r0 s : State} (type : Nat) (status : Nat) (n : Nat) (hk : Kept r0 s) :
    Kept r0 (State.sectFail s type status n) := by
  unfold State.sectFail
  try dsimp only
  repeat' first
    | with_reducible (first
        | assumption | apply State.raise_kept | apply State.wr_kept)
    | with_reducible intro _
    | dsimp only
    | split

theorem tryBy_kept {r0 : State} (img : List Byte) (r : Tried) (type : Nat) (required : Bool) (hk : Kept r0 r.1) :
    Kept r0 (tryBy img r type required).1 := by
  unfold tryBy
  dsimp only
  split
  · exact hk
  · have h : ∀ n, Kept r0 (r.1.wr BOOT_STATUS.STEP n) := fun n => State.wr_kept _ _ _ hk
    have l : ∀ b n, Kept r0 ((r.1.wr BOOT_STATUS.STEP n).loadSection img type b).1 := fun b n => State.loadSection_kept _ _ _ (h n)
    repeat' first
      | with_reducible assumption
      | exact h _
      | exact l _ _
      | with_reducible apply State.dawnCheck_kept
      | with_reducible apply State.drew_kept
      | with_reducible apply State.sectFail_kept
      | split
      | dsimp only

theorem State.applyImage_kept {r0 s : State} (img : List Byte) (hk : Kept r0 s) :
    Kept r0 (State.applyImage s img).1 := by
  unfold State.applyImage
  dsimp only
  split
  · exact Kept.foldlFst (State.wr_kept _ _ _ hk) fun t a h => tryBy_kept _ _ _ _ h
  · exact State.wr_kept _ _ _ hk

end Sys2Proof.Machine
end

