-- ==== Sys2Proof/Laws/Kept/Boot.lean ====
section
/-! SUPPORT. What the operations of Machine/Boot.lean keep. -/
namespace Sys2Proof.Machine

theorem State.repairMacro_kept {r0 s : State} (m : Nat) (l : List FaultCell) (hk : Kept r0 s) :
    Kept r0 (State.repairMacro s m l) := by
  unfold State.repairMacro
  try dsimp only
  repeat' first
    | with_reducible (first
        | assumption | apply State.wr_kept | apply State.raise_kept)
    | with_reducible intro _
    | dsimp only
    | split

theorem State.marchBanks_kept {r0 s : State} (hk : Kept r0 s) :
    Kept r0 (State.marchBanks s) := by
  unfold State.marchBanks
  try dsimp only
  repeat' first
    | with_reducible (first
        | assumption | apply State.spareBankCount_kept | apply State.wr_kept | apply State.copyDone_kept | apply State.bankFailing_kept
        | apply Kept.foldl)
    | with_reducible intro _
    | dsimp only
    | split

theorem State.startMarch_kept {r0 s : State} (faults : List FaultCell) (hk : Kept r0 s) :
    Kept r0 (State.startMarch s faults) := by
  unfold State.startMarch
  try dsimp only
  repeat' first
    | with_reducible (first
        | assumption | apply State.marchBanks_kept | apply State.repairMacro_kept | apply Kept.foldl)
    | with_reducible intro _
    | dsimp only
    | split

theorem State.pushOpen_kept {r0 s : State} (hk : Kept r0 s) :
    Kept r0 (State.pushOpen s) := by
  unfold State.pushOpen
  try dsimp only
  repeat' first
    | with_reducible (first
        | assumption | apply State.modChip_kept | apply State.wr_kept)
    | with_reducible intro _
    | dsimp only
    | split

theorem State.enterRecovery_kept {r0 s : State} (status : Nat) (hk : Kept r0 s) :
    Kept r0 (State.enterRecovery s status) := by
  unfold State.enterRecovery
  try dsimp only
  repeat' first
    | with_reducible (first
        | assumption | apply State.wr_kept | apply State.refreshOutputs_kept | apply State.modFld_kept | apply State.pushOpen_kept
        | apply State.modChip_kept | apply State.raise_kept)
    | with_reducible intro _
    | dsimp only
    | split

theorem State.copyFail_kept {r0 s : State} (c : Nat) (step : Nat) (status : Nat) (hk : Kept r0 s) :
    Kept r0 (State.copyFail s c step status) := by
  unfold State.copyFail
  try dsimp only
  repeat' first
    | with_reducible (first
        | assumption | apply State.wr_kept | apply State.raise_kept)
    | with_reducible intro _
    | dsimp only
    | split

theorem State.trialStart_kept {r0 s : State} (g : Nat) (forced : Bool) (hk : Kept r0 s) :
    Kept r0 (State.trialStart s g forced).1 := by
  unfold State.trialStart
  try dsimp only
  repeat' first
    | with_reducible (first
        | assumption | apply State.wr_kept | apply State.raise_kept)
    | with_reducible intro _
    | dsimp only
    | split

theorem joinRegs_wf (a b : RegFile) (ids : List Nat) (h : NMap.wf a 0 = true) : NMap.wf (joinRegs a b ids) 0 = true :=
  NMap.wf_foldl 0 (fun e : Nat × Nat => e.1) (fun e => e.2) _ _ (NMap.wf_keep _ _ _ h)

theorem State.dropCopy_kept {r0 s : State} (base : State) (hk : Kept r0 s) (hb : Kept r0 base) : Kept r0 (s.dropCopy base) := by
  refine ⟨hb.pending, hk.out, hk.fresh, fun i => ⟨?_, (hk.inv i).2⟩⟩
  have k := (hk.inv i).1
  have b := (hb.inv i).1
  simp only [State.tablesOk, Bool.and_eq_true] at k b
  simp only [State.dropCopy, State.tablesOk, Bool.and_eq_true]
  simp_all [joinRegs_wf]

theorem State.runCopy_kept {r0 s : State} (c : Nat) (img : List Byte) (hk : Kept r0 s) :
    Kept r0 (State.runCopy s c img) := by
  unfold State.runCopy
  try dsimp only
  repeat' first
    | with_reducible (first
        | assumption | apply State.wr_kept | apply State.modChip_kept)
    | with_reducible intro _
    | dsimp only
    | split

theorem State.tryCopies_kept {r0 s : State} (l : List (Nat × List Byte)) (first : Nat) (forced : Bool) (hk : Kept r0 s) :
    Kept r0 (State.tryCopies s l first forced) := by
  induction l generalizing s with
  | nil => exact State.enterRecovery_kept _ hk
  | cons e rest ih =>
    unfold State.tryCopies
    have t := State.trialStart_kept (imgGen e.2) forced hk
    dsimp only
    split
    · exact ih (State.raise_kept _ _ (State.copyFail_kept _ _ _ t))
    · have a := State.applyImage_kept e.2 t
      split
      · exact ih (State.copyFail_kept _ _ _ (State.dropCopy_kept _ a t))
      · split
        · exact State.runCopy_kept _ _ a
        · exact State.raise_kept _ _ (State.runCopy_kept _ _ a)

theorem State.chooseCopies_kept {r0 s : State} (l : List (Nat × List Byte)) (forced : Bool) (hk : Kept r0 s) :
    Kept r0 (State.chooseCopies s l forced) := by
  unfold State.chooseCopies
  try dsimp only
  repeat' first
    | with_reducible (first
        | assumption | apply State.wr_kept | apply State.copyFail_kept | apply State.tryCopies_kept | apply Kept.foldl)
    | with_reducible intro _
    | dsimp only
    | split

theorem State.bootFlash_kept {r0 s : State} (copyA : List Byte) (copyB : List Byte) (hk : Kept r0 s) :
    Kept r0 (State.bootFlash s copyA copyB) := by
  unfold State.bootFlash
  try dsimp only
  repeat' first
    | with_reducible (first
        | assumption | apply State.chooseCopies_kept | apply State.wr_kept)
    | with_reducible intro _
    | dsimp only
    | split

theorem State.takeIdentity_kept {r0 s : State} (b : List Byte) (hk : Kept r0 s) :
    Kept r0 (State.takeIdentity s b) := by
  unfold State.takeIdentity
  try dsimp only
  repeat' first
    | with_reducible (first
        | assumption | apply State.takePlace_kept | apply State.modLk_kept | apply State.wr_kept | apply State.setBit_kept
        | apply State.modChip_kept | apply State.enablePort_kept | apply State.recomputePool_kept)
    | with_reducible intro _
    | dsimp only
    | split

theorem State.secStart_kept {r0 s : State} (idOk : Bool) (drbgOk : Bool) (hk : Kept r0 s) :
    Kept r0 (State.secStart s idOk drbgOk) := by
  unfold State.secStart
  try dsimp only
  repeat' first
    | with_reducible (first
        | assumption | apply State.wr_kept | apply State.raise_kept | apply State.setBit_kept)
    | with_reducible intro _
    | dsimp only
    | split

theorem State.fabricOut_kept {r0 s : State} (src : Nat) (idOk : Bool) (drbgOk : Bool) (hk : Kept r0 s) :
    Kept r0 (State.fabricOut s src idOk drbgOk) := by
  unfold State.fabricOut
  try dsimp only
  repeat' first
    | with_reducible (first
        | assumption | apply State.resetBy_kept | apply State.modChip_kept | apply State.wr_kept | apply State.setBit_kept
        | apply State.recomputePool_kept | apply State.secStart_kept | apply State.d2dSet_kept | apply State.raise_kept)
    | with_reducible intro _
    | dsimp only
    | split

theorem State.fabricRelease_kept {r0 s : State} (src : Nat) (faults : List FaultCell) (copyA : List Byte) (copyB : List Byte) (idOk : Bool) (drbgOk : Bool) (hk : Kept r0 s) :
    Kept r0 (State.fabricRelease s src faults copyA copyB idOk drbgOk) := by
  unfold State.fabricRelease
  try dsimp only
  repeat' first
    | with_reducible (first
        | assumption | apply State.startMarch_kept | apply State.fabricOut_kept | apply State.wr_kept | apply State.modChip_kept
        | apply State.enterRecovery_kept | apply State.bootFlash_kept | apply State.pushOpen_kept | apply State.takeIdentity_kept)
    | with_reducible intro _
    | dsimp only
    | split

theorem State.bringImage_kept {r0 s : State} (c : Nat) (img : List Byte) (hk : Kept r0 s) :
    Kept r0 (State.bringImage s c img) := by
  unfold State.bringImage
  try dsimp only
  repeat' first
    | with_reducible (first
        | assumption | apply State.chooseCopies_kept)
    | with_reducible intro _
    | dsimp only
    | split

theorem State.bootLoad_kept {r0 s : State} (hk : Kept r0 s) :
    Kept r0 (State.bootLoad s) := by
  unfold State.bootLoad
  try dsimp only
  repeat' first
    | with_reducible (first
        | assumption | apply State.checked_kept | apply State.bringImage_kept | apply State.wr_kept | apply State.answer_kept)
    | with_reducible intro _
    | dsimp only
    | split

theorem State.pushWrite_kept {r0 s : State} (data : Nat) (hk : Kept r0 s) :
    Kept r0 (State.pushWrite s data) := by
  unfold State.pushWrite
  try dsimp only
  repeat' first
    | with_reducible (first
        | assumption | apply State.checked_kept | apply State.modChip_kept | apply State.answer_kept | apply State.wr_kept)
    | with_reducible intro _
    | dsimp only
    | split

theorem State.bootLock_kept {r0 s : State} (ms : Nat) (hk : Kept r0 s) :
    Kept r0 (State.bootLock s ms) := by
  unfold State.bootLock
  try dsimp only
  repeat' first
    | with_reducible (first
        | assumption | apply State.wr_kept | apply State.raise_kept | apply State.eventsNormal_kept | apply State.journalRewrite_kept
        | apply State.enablePort_kept | apply Kept.foldl)
    | with_reducible intro _
    | dsimp only
    | split

end Sys2Proof.Machine
end

