-- ==== Sys2Proof/Laws/Kept/BootCmds.lean ====
section
/-! SUPPORT. What the operations of Machine/BootCmds.lean keep. -/
namespace Sys2Proof.Machine

theorem execNporLow_kept {r0 s : State} (vbat : Bool) (hk : Kept r0 s) : ∀ s1, execNporLow vbat s = .next s1 → Kept r0 s1 := by
  intro s1 e; unfold execNporLow at e; injection e with e; subst e
  try dsimp only
  repeat' first
    | with_reducible (first
        | assumption | apply State.vbatCheck_kept | apply State.enterReset_kept)
    | with_reducible intro _
    | dsimp only
    | split

theorem execNresetLow_kept {r0 s : State} (hk : Kept r0 s) : ∀ s1, execNresetLow s = .next s1 → Kept r0 s1 := by
  intro s1 e; unfold execNresetLow at e; injection e with e; subst e
  try dsimp only
  repeat' first
    | with_reducible (first
        | assumption | apply State.enterReset_kept)
    | with_reducible intro _
    | dsimp only
    | split

theorem execResetRelease_kept {r0 s : State} (src : Fin 4) (hk : Kept r0 s) : ∀ s1, execResetRelease src s = .next s1 → Kept r0 s1 := by
  intro s1 e; unfold execResetRelease at e; injection e with e; subst e
  try dsimp only
  repeat' first
    | with_reducible (first
        | assumption | apply State.modChip_kept | apply State.emit_kept | apply State.wr_kept)
    | with_reducible intro _
    | dsimp only
    | split

theorem execFabricResetRelease_kept {r0 s : State} (src : Fin 4) (faults : List FaultCell) (copyA : List Byte) (copyB : List Byte) (idOk : Bool) (drbgOk : Bool) (hk : Kept r0 s) : ∀ s1, execFabricResetRelease src faults copyA copyB idOk drbgOk s = .next s1 → Kept r0 s1 := by
  intro s1 e; unfold execFabricResetRelease at e; injection e with e; subst e
  try dsimp only
  repeat' first
    | with_reducible (first
        | assumption | apply State.settling_kept | apply State.fabricRelease_kept)
    | with_reducible intro _
    | dsimp only
    | split

theorem execBootLock_kept {r0 s : State} (ms : Nat) (hk : Kept r0 s) : ∀ s1, execBootLock ms s = .next s1 → Kept r0 s1 := by
  intro s1 e; unfold execBootLock at e; injection e with e; subst e
  try dsimp only
  repeat' first
    | with_reducible (first
        | assumption | apply State.settling_kept | apply State.bootLock_kept)
    | with_reducible intro _
    | dsimp only
    | split

theorem State.bootConfirm_kept {r0 s : State} (hk : Kept r0 s) :
    Kept r0 (State.bootConfirm s) := by
  unfold State.bootConfirm
  try dsimp only
  repeat' first
    | with_reducible (first
        | assumption | apply State.wr_kept)
    | with_reducible intro _
    | dsimp only
    | split

theorem State.bidWrite_kept {r0 s : State} (hk : Kept r0 s) :
    Kept r0 (State.bidWrite s) := by
  unfold State.bidWrite
  try dsimp only
  repeat' first
    | with_reducible (first
        | assumption | apply State.wr_kept | apply State.modChip_kept)
    | with_reducible intro _
    | dsimp only
    | split

theorem State.bootCmd_kept {r0 s : State} (data : Nat) (hk : Kept r0 s) :
    Kept r0 (State.bootCmd s data) := by
  unfold State.bootCmd
  try dsimp only
  repeat' first
    | with_reducible (first
        | assumption | apply State.checked_kept | apply State.wr_kept | apply State.answer_kept | apply State.bootConfirm_kept
        | apply State.enterReset_kept | apply State.bootLoad_kept | apply State.bidWrite_kept)
    | with_reducible intro _
    | dsimp only
    | split

theorem State.bootOp_kept {r0 s : State} (op : Nat) (hk : Kept r0 s) :
    Kept r0 (State.bootOp s op) := by
  unfold State.bootOp
  try dsimp only
  repeat' first
    | with_reducible (first
        | assumption | apply State.access_kept | apply State.bootCmd_kept)
    | with_reducible intro _
    | dsimp only
    | split

theorem execConfirm_kept {r0 s : State} (hk : Kept r0 s) : ∀ s1, execConfirm s = .next s1 → Kept r0 s1 := by
  intro s1 e; unfold execConfirm at e; injection e with e; subst e
  try dsimp only
  repeat' first
    | with_reducible (first
        | assumption | apply State.bootOp_kept)
    | with_reducible intro _
    | dsimp only
    | split

theorem execReset_kept {r0 s : State} (hk : Kept r0 s) : ∀ s1, execReset s = .next s1 → Kept r0 s1 := by
  intro s1 e; unfold execReset at e; injection e with e; subst e
  try dsimp only
  repeat' first
    | with_reducible (first
        | assumption | apply State.bootOp_kept)
    | with_reducible intro _
    | dsimp only
    | split

theorem execLoad_kept {r0 s : State} (hk : Kept r0 s) : ∀ s1, execLoad s = .next s1 → Kept r0 s1 := by
  intro s1 e; unfold execLoad at e; injection e with e; subst e
  try dsimp only
  repeat' first
    | with_reducible (first
        | assumption | apply State.settling_kept | apply State.bootOp_kept)
    | with_reducible intro _
    | dsimp only
    | split

theorem execSvnRaise_kept {r0 s : State} (hk : Kept r0 s) : ∀ s1, execSvnRaise s = .next s1 → Kept r0 s1 := by
  intro s1 e; unfold execSvnRaise at e; injection e with e; subst e
  try dsimp only
  repeat' first
    | with_reducible (first
        | assumption | apply State.bootOp_kept)
    | with_reducible intro _
    | dsimp only
    | split

theorem execBidwrite_kept {r0 s : State} (hk : Kept r0 s) : ∀ s1, execBidwrite s = .next s1 → Kept r0 s1 := by
  intro s1 e; unfold execBidwrite at e; injection e with e; subst e
  try dsimp only
  repeat' first
    | with_reducible (first
        | assumption | apply State.bootOp_kept)
    | with_reducible intro _
    | dsimp only
    | split

theorem execTest_kept {r0 s : State} (hk : Kept r0 s) : ∀ s1, execTest s = .next s1 → Kept r0 s1 := by
  intro s1 e; unfold execTest at e; injection e with e; subst e
  try dsimp only
  repeat' first
    | with_reducible (first
        | assumption | apply State.bootOp_kept)
    | with_reducible intro _
    | dsimp only
    | split

theorem execPushWrite_kept {r0 s : State} (data : Word) (hk : Kept r0 s) : ∀ s1, execPushWrite data s = .next s1 → Kept r0 s1 := by
  intro s1 e; unfold execPushWrite at e; injection e with e; subst e
  try dsimp only
  repeat' first
    | with_reducible (first
        | assumption | apply State.access_kept | apply State.pushWrite_kept)
    | with_reducible intro _
    | dsimp only
    | split

theorem execBootArmExpire_kept {r0 s : State} (hk : Kept r0 s) : ∀ s1, execBootArmExpire s = .next s1 → Kept r0 s1 := by
  intro s1 e; unfold execBootArmExpire at e; injection e with e; subst e
  try dsimp only
  repeat' first
    | with_reducible (first
        | assumption | apply State.wr_kept)
    | with_reducible intro _
    | dsimp only
    | split

theorem execSvcWdtWarn_kept {r0 s : State} (hk : Kept r0 s) : ∀ s1, execSvcWdtWarn s = .next s1 → Kept r0 s1 := by
  intro s1 e; unfold execSvcWdtWarn at e; injection e with e; subst e
  try dsimp only
  repeat' first
    | with_reducible (first
        | assumption | apply State.raise_kept)
    | with_reducible intro _
    | dsimp only
    | split

theorem execSvcWdtLapse_kept {r0 s : State} (hk : Kept r0 s) : ∀ s1, execSvcWdtLapse s = .next s1 → Kept r0 s1 := by
  intro s1 e; unfold execSvcWdtLapse at e; injection e with e; subst e
  try dsimp only
  repeat' first
    | with_reducible (first
        | assumption | apply State.enterReset_kept)
    | with_reducible intro _
    | dsimp only
    | split

theorem State.netIn_kept {r0 s : State} (tag : Nat) (status : Nat) (body : List Byte) (hk : Kept r0 s) :
    Kept r0 (State.netIn s tag status body) := by
  unfold State.netIn
  try dsimp only
  repeat' first
    | with_reducible (first
        | assumption | apply State.netFail_kept | apply State.modChip_kept | apply State.bringImage_kept | apply State.netMore_kept)
    | with_reducible intro _
    | dsimp only
    | split

theorem execBootBlockReceive_kept {r0 s : State} (tag : Fin 65536) (status : Fin 256) (body : List Byte) (hk : Kept r0 s) : ∀ s1, execBootBlockReceive tag status body s = .next s1 → Kept r0 s1 := by
  intro s1 e; unfold execBootBlockReceive at e; injection e with e; subst e
  try dsimp only
  repeat' first
    | with_reducible (first
        | assumption | apply State.settling_kept | apply State.netIn_kept)
    | with_reducible intro _
    | dsimp only
    | split

theorem State.netTimeout_kept {r0 s : State} (i : Nat) (hk : Kept r0 s) :
    Kept r0 (State.netTimeout s i) := by
  unfold State.netTimeout
  try dsimp only
  repeat' first
    | with_reducible (first
        | assumption | apply State.modChip_kept | apply State.netAsk_kept | apply State.netFail_kept)
    | with_reducible intro _
    | dsimp only
    | split

theorem execBootBlockTimeout_kept {r0 s : State} (i : Nat) (hk : Kept r0 s) : ∀ s1, execBootBlockTimeout i s = .next s1 → Kept r0 s1 := by
  intro s1 e; unfold execBootBlockTimeout at e; injection e with e; subst e
  try dsimp only
  repeat' first
    | with_reducible (first
        | assumption | apply State.netTimeout_kept)
    | with_reducible intro _
    | dsimp only
    | split

theorem State.netRetry_kept {r0 s : State} (hk : Kept r0 s) :
    Kept r0 (State.netRetry s) := by
  unfold State.netRetry
  try dsimp only
  repeat' first
    | with_reducible (first
        | assumption | apply State.takeIdentity_kept | apply State.netStart_kept | apply State.modChip_kept)
    | with_reducible intro _
    | dsimp only
    | split

theorem execNetBootRetry_kept {r0 s : State} (hk : Kept r0 s) : ∀ s1, execNetBootRetry s = .next s1 → Kept r0 s1 := by
  intro s1 e; unfold execNetBootRetry at e; injection e with e; subst e
  try dsimp only
  repeat' first
    | with_reducible (first
        | assumption | apply State.settling_kept | apply State.netRetry_kept)
    | with_reducible intro _
    | dsimp only
    | split

end Sys2Proof.Machine
end

