-- ==== Sys2Proof/Laws/Kept/Mgmt.lean ====
section
/-! SUPPORT. What the operations of Machine/Mgmt.lean keep. -/
namespace Sys2Proof.Machine

theorem State.writeAt_kept {r0 s : State} (a : Nat) (data : Nat) (hk : Kept r0 s) :
    Kept r0 (State.writeAt s a data) := by
  unfold State.writeAt
  try dsimp only
  repeat' first
    | with_reducible (first
        | assumption | apply State.bootCmd_kept | apply State.pushWrite_kept | apply State.coreWrite_kept)
    | with_reducible intro _
    | dsimp only
    | split

theorem State.scratchUe_kept {r0 s : State} (a : Nat) (hk : Kept r0 s) :
    Kept r0 (State.scratchUe s a) := by
  unfold State.scratchUe
  try dsimp only
  repeat' first
    | with_reducible (first
        | assumption | apply State.answer_kept | apply State.macroError_kept | apply State.drew_kept)
    | with_reducible intro _
    | dsimp only
    | split

theorem State.mgmtRead_kept {r0 s : State} (hit : Nat) (a : Nat) (hk : Kept r0 s) :
    Kept r0 (State.mgmtRead s hit a) := by
  unfold State.mgmtRead
  try dsimp only
  repeat' first
    | with_reducible (first
        | assumption | apply State.addrAccess_kept | apply State.answer_kept | apply State.scratchUe_kept | apply State.coreRead_kept)
    | with_reducible intro _
    | dsimp only
    | split

theorem State.mgmtWrite_kept {r0 s : State} (hit : Nat) (a : Nat) (data : Nat) (hk : Kept r0 s) :
    Kept r0 (State.mgmtWrite s hit a data) := by
  unfold State.mgmtWrite
  try dsimp only
  repeat' first
    | with_reducible (first
        | assumption | apply State.addrAccess_kept | apply State.answer_kept | apply State.writeAt_kept)
    | with_reducible intro _
    | dsimp only
    | split

theorem execRegisterWrite_kept {r0 s : State} (addr : Word) (data : Word) (hit : Fin 3) (hk : Kept r0 s) : ∀ s1, execRegisterWrite addr data hit s = .next s1 → Kept r0 s1 := by
  intro s1 e; unfold execRegisterWrite at e; injection e with e; subst e
  try dsimp only
  repeat' first
    | with_reducible (first
        | assumption | apply State.settling_kept | apply State.mgmtWrite_kept)
    | with_reducible intro _
    | dsimp only
    | split

theorem State.readWord_kept {r0 s : State} (hit : Nat) (a : Nat) (hk : Kept r0 s) :
    Kept r0 (State.readWord s hit a).1 := by
  unfold State.readWord
  try dsimp only
  repeat' first
    | with_reducible (first
        | assumption | apply State.quietly_kept | apply State.mgmtRead_kept)
    | with_reducible intro _
    | dsimp only
    | split

theorem State.writeWord_kept {r0 s : State} (hit : Nat) (a : Nat) (data : Nat) (hk : Kept r0 s) :
    Kept r0 (State.writeWord s hit a data).1 := by
  unfold State.writeWord
  try dsimp only
  repeat' first
    | with_reducible (first
        | assumption | apply State.quietly_kept | apply State.mgmtWrite_kept)
    | with_reducible intro _
    | dsimp only
    | split

theorem blockRun_kept {r0 s : State} (l : List (State → State × Reply)) (hk : Kept r0 s)
    (hl : ∀ f ∈ l, ∀ t, Kept r0 t → Kept r0 (f t).1) : Kept r0 (blockRun l s).1 := by
  unfold blockRun
  have g : ∀ (l : List (State → State × Reply)) (e : State × List Nat × List Byte),
      (∀ f ∈ l, ∀ t, Kept r0 t → Kept r0 (f t).1) → Kept r0 e.1 →
      Kept r0 (l.foldl (fun r f =>
        let e := f r.1
        match e.2 with
        | some a => (e.1, r.2.1 ++ [a.1], r.2.2 ++ a.2)
        | none => (e.1, r.2.1 ++ [St.BUSY], r.2.2)) e).1 := by
    intro l
    induction l with
    | nil => intro e _ h; exact h
    | cons f r ih =>
      intro e hl h
      refine ih _ (fun g hg => hl g (by simp [hg])) ?_
      have := hl f (by simp) _ h
      dsimp only
      split <;> exact this
  exact g l _ hl hk

theorem State.block_kept {r0 s : State} (l : List (State → State × Reply)) (hk : Kept r0 s)
    (hl : ∀ f ∈ l, ∀ t, Kept r0 t → Kept r0 (f t).1) : Kept r0 (s.block l).1 := by
  unfold State.block
  split
  · exact hk
  · rename_i f _
    have one := hl f (by simp) s hk
    have all := blockRun_kept _ hk hl
    dsimp only
    split
    · exact one
    · split
      · exact all
      · dsimp only
        split
        · exact hk
        · exact one

theorem requestChecked_kept {r0 s : State} (checks : List (Nat × Bool)) (f : State → State × Reply) (hk : Kept r0 s) (hf : ∀ t, Kept r0 t → Kept r0 (f t).1) :
    Kept r0 (requestChecked s checks f).1 := by
  unfold requestChecked
  try dsimp only
  repeat' first
    | with_reducible (first
        | assumption | apply hf)
    | with_reducible intro _
    | dsimp only
    | split

theorem State.register_kept {r0 s : State} (m : Msg) (hit : Nat) (hk : Kept r0 s) :
    Kept r0 (State.register s m hit).1 := by
  unfold State.register
  try dsimp only
  repeat' first
    | with_reducible (first
        | assumption | apply requestChecked_kept | apply State.readWord_kept | apply State.writeWord_kept | apply State.block_kept
        | refine List.forall_mem_cons.2 ⟨?_, ?_⟩ | refine List.forall_mem_append.2 ⟨?_, ?_⟩ | refine List.forall_mem_map.2 ?_
        | exact List.forall_mem_nil _)
    | with_reducible intro _
    | dsimp only
    | split

theorem State.respond_kept {r0 s : State} (path : Nat) (m : Msg) (st : Nat) (body : List Byte) (hk : Kept r0 s) :
    Kept r0 (State.respond s path m st body) := by
  unfold State.respond
  try dsimp only
  repeat' first
    | with_reducible (first
        | assumption | apply State.cirrusOut_kept)
    | (with_reducible apply Kept.lit
       first
         | with_reducible (first
             | assumption | apply State.cirrusOut_kept)
         | split)
    | with_reducible intro _
    | dsimp only
    | split

theorem State.posted_kept {r0 s : State} (path : Nat) (hk : Kept r0 s) :
    Kept r0 (State.posted s path) := by
  unfold State.posted
  try dsimp only
  repeat' first
    | with_reducible (first
        | assumption)
    | (with_reducible apply Kept.lit
       first
         | with_reducible (first
             | assumption)
         | split)
    | with_reducible intro _
    | dsimp only
    | split

theorem State.writeFailed_kept {r0 s : State} (path : Nat) (m : Msg) (cause : Nat) (st : Nat) (hk : Kept r0 s) :
    Kept r0 (State.writeFailed s path m cause st) := by
  unfold State.writeFailed
  try dsimp only
  repeat' first
    | with_reducible (first
        | assumption | apply State.logPeWords_kept | apply State.cirrusPost_kept)
    | with_reducible intro _
    | dsimp only
    | split

theorem State.holdFor_kept {r0 s : State} (path : Nat) (m : Msg) (hk : Kept r0 s) :
    Kept r0 (State.holdFor s path m) := by
  unfold State.holdFor
  try dsimp only
  repeat' first
    | with_reducible (first
        | assumption | apply State.modChip_kept)
    | with_reducible intro _
    | dsimp only
    | split

theorem State.reply_kept {r0 s : State} (path : Nat) (m : Msg) (st : Nat) (body : List Byte) (hk : Kept r0 s) :
    Kept r0 (State.reply s path m st body) := by
  unfold State.reply
  try dsimp only
  repeat' first
    | with_reducible (first
        | assumption | apply State.posted_kept | apply State.writeFailed_kept | apply State.respond_kept)
    | with_reducible intro _
    | dsimp only
    | split

theorem State.serveRegister_kept {r0 s : State} (path : Nat) (m : Msg) (hit : Nat) (hk : Kept r0 s) :
    Kept r0 (State.serveRegister s path m hit) := by
  unfold State.serveRegister
  try dsimp only
  repeat' first
    | with_reducible (first
        | assumption | apply State.register_kept | apply State.reply_kept | apply State.holdFor_kept)
    | with_reducible intro _
    | dsimp only
    | split

end Sys2Proof.Machine
end

