-- ==== Sys2Proof/Laws/Kept/Services.lean ====
section
/-! SUPPORT. What the operations of Machine/Services.lean keep. -/
namespace Sys2Proof.Machine

theorem State.presenceIn_kept {r0 s : State} (hub : Nat) (sfn : Nat) (f : State → State) (hk : Kept r0 s) (hf : ∀ t, Kept r0 t → Kept r0 (f t)) :
    Kept r0 (State.presenceIn s hub sfn f) := by
  unfold State.presenceIn
  try dsimp only
  repeat' first
    | with_reducible (first
        | assumption | apply hf | apply State.modChip_kept)
    | with_reducible intro _
    | dsimp only
    | split

theorem State.sourceReportIn_kept {r0 s : State} (hub : Nat) (kinds : Nat) (ready : Bool) (speed : Nat) (width : Nat) (sfn : Nat) (hk : Kept r0 s) :
    Kept r0 (State.sourceReportIn s hub kinds ready speed width sfn) := by
  unfold State.sourceReportIn
  try dsimp only
  repeat' first
    | with_reducible (first
        | assumption | apply State.presenceIn_kept | apply State.setPresence_kept | apply State.dpLinkChange_kept | apply State.dpPath_kept
        | apply State.vdspReport_kept | apply Kept.foldl)
    | with_reducible intro _
    | dsimp only
    | split

theorem State.lossReportIn_kept {r0 s : State} (hub : Nat) (mask : Nat) (sfn : Nat) (hk : Kept r0 s) :
    Kept r0 (State.lossReportIn s hub mask sfn) := by
  unfold State.lossReportIn
  try dsimp only
  repeat' first
    | with_reducible (first
        | assumption | apply State.presenceIn_kept | apply State.dpLinkChange_kept | apply State.pcieRefresh_kept | apply State.dpPath_kept
        | apply State.vdspHubLost_kept | apply State.hubAbsent_kept | apply Kept.foldl)
    | with_reducible intro _
    | dsimp only
    | split

theorem State.tcCommand_kept {r0 s : State} (n : Nat) (rseq : Nat) (op : Nat) (hk : Kept r0 s) :
    Kept r0 (State.tcCommand s n rseq op) := by
  unfold State.tcCommand
  try dsimp only
  repeat' first
    | with_reducible (first
        | assumption | apply State.tcCmd_kept | apply State.hardReset_kept | apply State.sendCaps_kept | apply State.tcTell_kept
        | apply State.reportPresence_kept | apply State.errorRecovery_kept)
    | with_reducible intro _
    | dsimp only
    | split

theorem State.tcIn_kept {r0 s : State} (y : List Byte) (hk : Kept r0 s) :
    Kept r0 (State.tcIn s y) := by
  unfold State.tcIn
  try dsimp only
  repeat' first
    | with_reducible (first
        | assumption | apply State.txReq_kept | apply State.tcCommand_kept)
    | with_reducible intro _
    | dsimp only
    | split

theorem State.svcIn_kept {r0 s : State} (src : Nat) (b : List Byte) (hk : Kept r0 s) :
    Kept r0 (State.svcIn s src b) := by
  unfold State.svcIn
  try dsimp only
  repeat' first
    | with_reducible (first
        | assumption | apply State.timeContent_kept | apply State.sourceReportIn_kept | apply State.lossReportIn_kept | apply State.tcIn_kept
        | apply State.pcieResetRequest_kept)
    | with_reducible intro _
    | dsimp only
    | split

theorem State.drewMany_kept {r0 s : State} (n : Nat) (hk : Kept r0 s) :
    Kept r0 (State.drewMany s n) :=
  hk.trans ⟨rfl, List.prefix_rfl, Nat.le_add_right _ _, id⟩

theorem State.nonceUsed_kept {r0 s : State} (path : Nat) (hk : Kept r0 s) :
    Kept r0 (State.nonceUsed s path) := by
  unfold State.nonceUsed
  try dsimp only
  repeat' first
    | with_reducible (first
        | assumption | apply State.useKey_kept | apply State.modSec_kept)
    | with_reducible intro _
    | dsimp only
    | split

theorem State.challenge_kept {r0 s : State} (path : Nat) (hk : Kept r0 s) :
    Kept r0 (State.challenge s path).1 := by
  unfold State.challenge
  try dsimp only
  repeat' first
    | with_reducible (first
        | assumption | apply State.modSec_kept | apply State.drewMany_kept)
    | with_reducible intro _
    | dsimp only
    | split

theorem State.pluginCommand_kept {r0 s : State} (m : Msg) (hk : Kept r0 s) :
    Kept r0 (State.pluginCommand s m).1 := by
  unfold State.pluginCommand
  try dsimp only
  repeat' first
    | with_reducible (first
        | assumption | apply State.drewMany_kept | apply State.emit_kept)
    | (with_reducible apply Kept.lit
       first
         | with_reducible (first
             | assumption | apply State.drewMany_kept | apply State.emit_kept)
         | split)
    | with_reducible intro _
    | dsimp only
    | split

theorem State.commandAct_kept {r0 s : State} (path : Nat) (m : Msg) (hk : Kept r0 s) :
    Kept r0 (State.commandAct s path m).1 := by
  unfold State.commandAct
  try dsimp only
  repeat' first
    | with_reducible (first
        | assumption | apply State.challenge_kept | apply State.wr_kept | apply State.pluginCommand_kept)
    | with_reducible intro _
    | dsimp only
    | split

theorem State.command_kept {r0 s : State} (path : Nat) (m : Msg) (hk : Kept r0 s) :
    Kept r0 (State.command s path m).1 := by
  unfold State.command
  try dsimp only
  repeat' first
    | with_reducible (first
        | assumption | apply State.raiseOnce_kept | apply State.commandAct_kept | apply State.nonceUsed_kept)
    | with_reducible intro _
    | dsimp only
    | split

end Sys2Proof.Machine
end

