-- ==== Sys2Proof/Laws/Kept/Messages.lean ====
section
/-! SUPPORT. What the operations of Machine/Messages.lean keep. -/
namespace Sys2Proof.Machine

theorem State.serve_kept {r0 s : State} (path : Nat) (m : Msg) (hit : Nat) (hk : Kept r0 s) :
    Kept r0 (State.serve s path m hit) := by
  unfold State.serve
  try dsimp only
  repeat' first
    | with_reducible (first
        | assumption | apply State.posted_kept | apply State.netIn_kept | apply State.serveRegister_kept | apply State.command_kept
        | apply State.respond_kept | apply State.emit_kept | apply State.svcIn_kept | apply State.logPeWords_kept)
    | with_reducible intro _
    | dsimp only
    | split

theorem State.refuse_kept {r0 s : State} (path : Nat) (m : Msg) (hk : Kept r0 s) :
    Kept r0 (State.refuse s path m) := by
  unfold State.refuse
  try dsimp only
  repeat' first
    | with_reducible (first
        | assumption | apply State.respond_kept | apply State.posted_kept)
    | with_reducible intro _
    | dsimp only
    | split

theorem State.arrive_kept {r0 s : State} (path : Nat) (b : List Byte) (hit : Nat) (hk : Kept r0 s) :
    Kept r0 (State.arrive s path b hit) := by
  unfold State.arrive
  try dsimp only
  repeat' first
    | with_reducible (first
        | assumption | apply State.refuse_kept | apply State.serve_kept)
    | with_reducible intro _
    | dsimp only
    | split

theorem State.unreachable_kept {r0 s : State} (m : Msg) (hk : Kept r0 s) :
    Kept r0 (State.unreachable s m) := by
  unfold State.unreachable
  try dsimp only
  repeat' first
    | with_reducible (first
        | assumption | apply State.respond_kept | apply State.writeFailed_kept)
    | with_reducible intro _
    | dsimp only
    | split

theorem State.relay_kept {r0 s : State} (b : List Byte) (hit : Nat) (hk : Kept r0 s) :
    Kept r0 (State.relay s b hit) := by
  unfold State.relay
  try dsimp only
  repeat' first
    | with_reducible (first
        | assumption | apply State.refuse_kept | apply State.serve_kept | apply State.cirrusOut_kept | apply State.unreachable_kept)
    | with_reducible intro _
    | dsimp only
    | split

theorem execCirrusRelay_kept {r0 s : State} (hit : Fin 3) (hk : Kept r0 s) : ∀ s1, execCirrusRelay hit s = .next s1 → Kept r0 s1 := by
  intro s1 e; unfold execCirrusRelay at e; injection e with e; subst e
  try dsimp only
  repeat' first
    | with_reducible (first
        | assumption | apply State.settling_kept | apply State.relay_kept | apply State.modTun_kept)
    | with_reducible intro _
    | dsimp only
    | split

theorem State.spiWrite_kept {r0 s : State} (b : List Byte) (hit : Nat) (hk : Kept r0 s) :
    Kept r0 (State.spiWrite s b hit) := by
  unfold State.spiWrite
  try dsimp only
  repeat' first
    | with_reducible (first
        | assumption | apply State.refuse_kept | apply State.respond_kept | apply State.posted_kept | apply State.writeFailed_kept
        | apply State.serve_kept)
    | (with_reducible apply Kept.lit
       first
         | with_reducible (first
             | assumption | apply State.refuse_kept | apply State.respond_kept | apply State.posted_kept | apply State.writeFailed_kept
             | apply State.serve_kept)
         | split)
    | with_reducible intro _
    | dsimp only
    | split

theorem State.message_kept {r0 s : State} (path : Nat) (op : Nat) (auth : Bool) (src : Nat) (tag : Nat) (addr : Nat) (body : List Byte) (hit : Nat) (hk : Kept r0 s) :
    Kept r0 (State.message s path op auth src tag addr body hit) := by
  unfold State.message
  try dsimp only
  repeat' first
    | with_reducible (first
        | assumption | apply State.arrive_kept | apply State.spiWrite_kept)
    | with_reducible intro _
    | dsimp only
    | split

theorem execRd32_kept {r0 s : State} (path : Fin 2) (src : Fin 128) (tag : Fin 65536) (addr : Word) (hit : Fin 3) (hk : Kept r0 s) : ∀ s1, execRd32 path src tag addr hit s = .next s1 → Kept r0 s1 := by
  intro s1 e; unfold execRd32 at e; injection e with e; subst e
  try dsimp only
  repeat' first
    | with_reducible (first
        | assumption | apply State.settling_kept | apply State.message_kept)
    | with_reducible intro _
    | dsimp only
    | split

theorem execWr32_kept {r0 s : State} (path : Fin 2) (src : Fin 128) (tag : Fin 65536) (addr : Word) (data : Word) (hit : Fin 3) (hk : Kept r0 s) : ∀ s1, execWr32 path src tag addr data hit s = .next s1 → Kept r0 s1 := by
  intro s1 e; unfold execWr32 at e; injection e with e; subst e
  try dsimp only
  repeat' first
    | with_reducible (first
        | assumption | apply State.settling_kept | apply State.message_kept)
    | with_reducible intro _
    | dsimp only
    | split

theorem execWrc32_kept {r0 s : State} (path : Fin 2) (src : Fin 128) (tag : Fin 65536) (addr : Word) (data : Word) (hit : Fin 3) (hk : Kept r0 s) : ∀ s1, execWrc32 path src tag addr data hit s = .next s1 → Kept r0 s1 := by
  intro s1 e; unfold execWrc32 at e; injection e with e; subst e
  try dsimp only
  repeat' first
    | with_reducible (first
        | assumption | apply State.settling_kept | apply State.message_kept)
    | with_reducible intro _
    | dsimp only
    | split

theorem execRdblk_kept {r0 s : State} (path : Fin 2) (src : Fin 128) (tag : Fin 65536) (addr : Word) (n : Fin 65536) (hit : Fin 3) (hk : Kept r0 s) : ∀ s1, execRdblk path src tag addr n hit s = .next s1 → Kept r0 s1 := by
  intro s1 e; unfold execRdblk at e; injection e with e; subst e
  try dsimp only
  repeat' first
    | with_reducible (first
        | assumption | apply State.settling_kept | apply State.message_kept)
    | with_reducible intro _
    | dsimp only
    | split

theorem execWrblk_kept {r0 s : State} (path : Fin 2) (src : Fin 128) (tag : Fin 65536) (addr : Word) (data : List Word) (hit : Fin 3) (hk : Kept r0 s) : ∀ s1, execWrblk path src tag addr data hit s = .next s1 → Kept r0 s1 := by
  intro s1 e; unfold execWrblk at e; injection e with e; subst e
  try dsimp only
  repeat' first
    | with_reducible (first
        | assumption | apply State.settling_kept | apply State.message_kept)
    | with_reducible intro _
    | dsimp only
    | split

theorem execEvent_kept {r0 s : State} (path : Fin 2) (src : Fin 128) (words : List Byte) (hk : Kept r0 s) : ∀ s1, execEvent path src words s = .next s1 → Kept r0 s1 := by
  intro s1 e; unfold execEvent at e; injection e with e; subst e
  try dsimp only
  repeat' first
    | with_reducible (first
        | assumption | apply State.settling_kept | apply State.message_kept)
    | with_reducible intro _
    | dsimp only
    | split

theorem execErr_kept {r0 s : State} (path : Fin 2) (src : Fin 128) (words : List Byte) (hk : Kept r0 s) : ∀ s1, execErr path src words s = .next s1 → Kept r0 s1 := by
  intro s1 e; unfold execErr at e; injection e with e; subst e
  try dsimp only
  repeat' first
    | with_reducible (first
        | assumption | apply State.settling_kept | apply State.message_kept)
    | with_reducible intro _
    | dsimp only
    | split

theorem execPresenceReport_kept {r0 s : State} (hub : Fin 64) (kinds : Fin 8192) (ready : Bool) (speed : Fin 8) (width : Fin 8) (sfn : Word) (hk : Kept r0 s) : ∀ s1, execPresenceReport hub kinds ready speed width sfn s = .next s1 → Kept r0 s1 := by
  intro s1 e; unfold execPresenceReport at e; injection e with e; subst e
  try dsimp only
  repeat' first
    | with_reducible (first
        | assumption | apply State.settling_kept | apply State.sourceReportIn_kept)
    | with_reducible intro _
    | dsimp only
    | split

theorem execLossReport_kept {r0 s : State} (hub : Fin 64) (mask : Nat) (sfn : Word) (hk : Kept r0 s) : ∀ s1, execLossReport hub mask sfn s = .next s1 → Kept r0 s1 := by
  intro s1 e; unfold execLossReport at e; injection e with e; subst e
  try dsimp only
  repeat' first
    | with_reducible (first
        | assumption | apply State.settling_kept | apply State.lossReportIn_kept)
    | with_reducible intro _
    | dsimp only
    | split

theorem execChallenge_kept {r0 s : State} (path : Fin 2) (src : Fin 128) (tag : Fin 65536) (hk : Kept r0 s) : ∀ s1, execChallenge path src tag s = .next s1 → Kept r0 s1 := by
  intro s1 e; unfold execChallenge at e; injection e with e; subst e
  try dsimp only
  repeat' first
    | with_reducible (first
        | assumption | apply State.settling_kept | apply State.message_kept)
    | with_reducible intro _
    | dsimp only
    | split

theorem execArmPs_kept {r0 s : State} (path : Fin 2) (src : Fin 128) (tag : Fin 65536) (auth : Bool) (nonce : List Byte) (mac : List Byte) (hk : Kept r0 s) : ∀ s1, execArmPs path src tag auth nonce mac s = .next s1 → Kept r0 s1 := by
  intro s1 e; unfold execArmPs at e; injection e with e; subst e
  try dsimp only
  repeat' first
    | with_reducible (first
        | assumption | apply State.settling_kept | apply State.message_kept)
    | with_reducible intro _
    | dsimp only
    | split

theorem execArmBoot_kept {r0 s : State} (path : Fin 2) (src : Fin 128) (tag : Fin 65536) (auth : Bool) (nonce : List Byte) (mac : List Byte) (hk : Kept r0 s) : ∀ s1, execArmBoot path src tag auth nonce mac s = .next s1 → Kept r0 s1 := by
  intro s1 e; unfold execArmBoot at e; injection e with e; subst e
  try dsimp only
  repeat' first
    | with_reducible (first
        | assumption | apply State.settling_kept | apply State.message_kept)
    | with_reducible intro _
    | dsimp only
    | split

theorem execServiceCommand_kept {r0 s : State} (path : Fin 2) (src : Fin 128) (tag : Fin 65536) (auth : Bool) (body : List Byte) (hk : Kept r0 s) : ∀ s1, execServiceCommand path src tag auth body s = .next s1 → Kept r0 s1 := by
  intro s1 e; unfold execServiceCommand at e; injection e with e; subst e
  try dsimp only
  repeat' first
    | with_reducible (first
        | assumption | apply State.settling_kept | apply State.message_kept)
    | with_reducible intro _
    | dsimp only
    | split

theorem State.spiOut_kept {r0 s : State} (b : List Byte) (hk : Kept r0 s) :
    Kept r0 (State.spiOut s b) := by
  unfold State.spiOut
  try dsimp only
  repeat' first
    | with_reducible (first
        | assumption | apply State.emit_kept)
    | with_reducible intro _
    | dsimp only
    | split

theorem execReadStatus_kept {r0 s : State} (hk : Kept r0 s) : ∀ s1, execReadStatus s = .next s1 → Kept r0 s1 := by
  intro s1 e; unfold execReadStatus at e; injection e with e; subst e
  try dsimp only
  repeat' first
    | with_reducible (first
        | assumption | apply State.spiOut_kept)
    | (with_reducible apply Kept.lit
       first
         | with_reducible (first
             | assumption | apply State.spiOut_kept)
         | split)
    | with_reducible intro _
    | dsimp only
    | split

theorem execMsgWrite_kept {r0 s : State} (b : List Byte) (hit : Fin 3) (hk : Kept r0 s) : ∀ s1, execMsgWrite b hit s = .next s1 → Kept r0 s1 := by
  intro s1 e; unfold execMsgWrite at e; injection e with e; subst e
  try dsimp only
  repeat' first
    | with_reducible (first
        | assumption | apply State.settling_kept | apply State.spiWrite_kept)
    | with_reducible intro _
    | dsimp only
    | split

theorem execMsgWriteQ_kept {r0 s : State} (b : List Byte) (hit : Fin 3) (hk : Kept r0 s) : ∀ s1, execMsgWriteQ b hit s = .next s1 → Kept r0 s1 := by
  intro s1 e; unfold execMsgWriteQ at e; injection e with e; subst e
  try dsimp only
  repeat' first
    | with_reducible (first
        | assumption | apply State.settling_kept | apply State.spiWrite_kept)
    | with_reducible intro _
    | dsimp only
    | split

theorem State.spiRead_kept {r0 s : State} (hk : Kept r0 s) :
    Kept r0 (State.spiRead s) := by
  unfold State.spiRead
  try dsimp only
  repeat' first
    | with_reducible (first
        | assumption | apply State.spiOut_kept)
    | (with_reducible apply Kept.lit
       first
         | with_reducible (first
             | assumption | apply State.spiOut_kept)
         | split)
    | with_reducible intro _
    | dsimp only
    | split

theorem execRspRead_kept {r0 s : State} (hk : Kept r0 s) : ∀ s1, execRspRead s = .next s1 → Kept r0 s1 := by
  intro s1 e; unfold execRspRead at e; injection e with e; subst e
  try dsimp only
  repeat' first
    | with_reducible (first
        | assumption | apply State.spiRead_kept)
    | with_reducible intro _
    | dsimp only
    | split

theorem execRspReadQ_kept {r0 s : State} (hk : Kept r0 s) : ∀ s1, execRspReadQ s = .next s1 → Kept r0 s1 := by
  intro s1 e; unfold execRspReadQ at e; injection e with e; subst e
  try dsimp only
  repeat' first
    | with_reducible (first
        | assumption | apply State.spiRead_kept)
    | with_reducible intro _
    | dsimp only
    | split

theorem State.heldDone_kept {r0 s : State} (h : Held) (hk : Kept r0 s) :
    Kept r0 (State.heldDone s h) := by
  unfold State.heldDone
  try dsimp only
  repeat' first
    | with_reducible (first
        | assumption | apply State.answer_kept | apply State.mgmtRead_kept | apply State.reply_kept | apply State.serve_kept)
    | with_reducible intro _
    | dsimp only
    | split

theorem State.heldAborted_kept {r0 s : State} (h : Held) (hk : Kept r0 s) :
    Kept r0 (State.heldAborted s h) := by
  unfold State.heldAborted
  try dsimp only
  repeat' first
    | with_reducible (first
        | assumption | apply State.answer_kept | apply State.reply_kept)
    | with_reducible intro _
    | dsimp only
    | split

theorem State.domainOff_kept {r0 s : State} (d : Nat) (hk : Kept r0 s) :
    Kept r0 (State.domainOff s d) := by
  unfold State.domainOff
  try dsimp only
  repeat' first
    | with_reducible (first
        | assumption | apply State.modChip_kept | apply State.powerState_kept | apply State.wr_kept | apply State.domainReset_kept
        | apply State.heldDone_kept | apply State.domainWake_kept | apply Kept.foldl)
    | with_reducible intro _
    | dsimp only
    | split

end Sys2Proof.Machine
end

