-- ==== Sys2Proof/Laws/Kept/Cpm.lean ====
section
/-! SUPPORT. What the operations of Machine/Cpm.lean keep. -/
namespace Sys2Proof.Machine

theorem State.domainGate_kept {r0 s : State} (d : Nat) (done : Bool) (hk : Kept r0 s) :
    Kept r0 (State.domainGate s d done) := by
  unfold State.domainGate
  try dsimp only
  repeat' first
    | with_reducible (first
        | assumption | apply State.domainOff_kept | apply State.drainStart_kept)
    | with_reducible intro _
    | dsimp only
    | split

theorem execDomainGate_kept {r0 s : State} (d : Fin 13) (done : Bool) (hk : Kept r0 s) : ∀ s1, execDomainGate d done s = .next s1 → Kept r0 s1 := by
  intro s1 e; unfold execDomainGate at e; injection e with e; subst e
  try dsimp only
  repeat' first
    | with_reducible (first
        | assumption | apply State.settling_kept | apply State.domainGate_kept)
    | with_reducible intro _
    | dsimp only
    | split

theorem State.drainAbort_kept {r0 s : State} (d : Nat) (n : Nat) (hk : Kept r0 s) :
    Kept r0 (State.drainAbort s d n) := by
  unfold State.drainAbort
  try dsimp only
  repeat' first
    | with_reducible (first
        | assumption | apply State.raise_kept | apply State.bump_kept | apply State.abortAll_kept | apply State.domainOff_kept)
    | with_reducible intro _
    | dsimp only
    | split

theorem execDrainAbort_kept {r0 s : State} (d : Fin 13) (n : Fin 65536) (hk : Kept r0 s) : ∀ s1, execDrainAbort d n s = .next s1 → Kept r0 s1 := by
  intro s1 e; unfold execDrainAbort at e; injection e with e; subst e
  try dsimp only
  repeat' first
    | with_reducible (first
        | assumption | apply State.settling_kept | apply State.drainAbort_kept)
    | with_reducible intro _
    | dsimp only
    | split

theorem execDomainWake_kept {r0 s : State} (d : Fin 13) (hk : Kept r0 s) : ∀ s1, execDomainWake d s = .next s1 → Kept r0 s1 := by
  intro s1 e; unfold execDomainWake at e; injection e with e; subst e
  try dsimp only
  repeat' first
    | with_reducible (first
        | assumption | apply State.domainWake_kept)
    | with_reducible intro _
    | dsimp only
    | split

theorem execDomainRestore_kept {r0 s : State} (d : Fin 13) (hk : Kept r0 s) : ∀ s1, execDomainRestore d s = .next s1 → Kept r0 s1 := by
  intro s1 e; unfold execDomainRestore at e; injection e with e; subst e
  try dsimp only
  repeat' first
    | with_reducible (first
        | assumption | apply State.domainRestore_kept)
    | with_reducible intro _
    | dsimp only
    | split

theorem execDoze_kept {r0 s : State} (hk : Kept r0 s) : ∀ s1, execDoze s = .next s1 → Kept r0 s1 := by
  intro s1 e; unfold execDoze at e; injection e with e; subst e
  try dsimp only
  repeat' first
    | with_reducible (first
        | assumption | apply State.access_kept | apply State.pscmdWrite_kept)
    | with_reducible intro _
    | dsimp only
    | split

theorem execShip_kept {r0 s : State} (hk : Kept r0 s) : ∀ s1, execShip s = .next s1 → Kept r0 s1 := by
  intro s1 e; unfold execShip at e; injection e with e; subst e
  try dsimp only
  repeat' first
    | with_reducible (first
        | assumption | apply State.access_kept | apply State.pscmdWrite_kept)
    | with_reducible intro _
    | dsimp only
    | split

theorem execUlpExpire_kept {r0 s : State} (hk : Kept r0 s) : ∀ s1, execUlpExpire s = .next s1 → Kept r0 s1 := by
  intro s1 e; unfold execUlpExpire at e; injection e with e; subst e
  try dsimp only
  repeat' first
    | with_reducible (first
        | assumption | apply State.psEnter_kept)
    | with_reducible intro _
    | dsimp only
    | split

theorem execPsArmExpire_kept {r0 s : State} (hk : Kept r0 s) : ∀ s1, execPsArmExpire s = .next s1 → Kept r0 s1 := by
  intro s1 e; unfold execPsArmExpire at e; injection e with e; subst e
  try dsimp only
  repeat' first
    | with_reducible (first
        | assumption | apply State.wr_kept)
    | with_reducible intro _
    | dsimp only
    | split

theorem execDozeReached_kept {r0 s : State} (hk : Kept r0 s) : ∀ s1, execDozeReached s = .next s1 → Kept r0 s1 := by
  intro s1 e; unfold execDozeReached at e; injection e with e; subst e
  try dsimp only
  repeat' first
    | with_reducible (first
        | assumption | apply State.psReached_kept | apply State.heldAborted_kept | apply Kept.foldl)
    | with_reducible intro _
    | dsimp only
    | split

theorem State.wakeEvent_kept {r0 s : State} (src : Nat) (i : Nat) (hk : Kept r0 s) :
    Kept r0 (State.wakeEvent s src i) := by
  unfold State.wakeEvent
  try dsimp only
  repeat' first
    | with_reducible (first
        | assumption | apply State.modChip_kept | apply State.psWake_kept)
    | with_reducible intro _
    | dsimp only
    | split

theorem execDozeWakeEvent_kept {r0 s : State} (src : Fin 6) (i : Fin 16) (hk : Kept r0 s) : ∀ s1, execDozeWakeEvent src i s = .next s1 → Kept r0 s1 := by
  intro s1 e; unfold execDozeWakeEvent at e; injection e with e; subst e
  try dsimp only
  repeat' first
    | with_reducible (first
        | assumption | apply State.wakeEvent_kept)
    | with_reducible intro _
    | dsimp only
    | split

theorem execFabPgTimeout_kept {r0 s : State} (hk : Kept r0 s) : ∀ s1, execFabPgTimeout s = .next s1 → Kept r0 s1 := by
  intro s1 e; unfold execFabPgTimeout at e; injection e with e; subst e
  try dsimp only
  repeat' first
    | with_reducible (first
        | assumption | apply State.emit_kept)
    | with_reducible intro _
    | dsimp only
    | split

theorem State.shipWake_kept {r0 s : State} (feed : Bool) (vbat : Bool) (hk : Kept r0 s) :
    Kept r0 (State.shipWake s feed vbat) := by
  unfold State.shipWake
  try dsimp only
  repeat' first
    | with_reducible (first
        | assumption | apply State.psWake_kept | apply State.vbatCheck_kept | apply State.modChip_kept)
    | with_reducible intro _
    | dsimp only
    | split

theorem execShipWake_kept {r0 s : State} (feed : Bool) (vbat : Bool) (hk : Kept r0 s) : ∀ s1, execShipWake feed vbat s = .next s1 → Kept r0 s1 := by
  intro s1 e; unfold execShipWake at e; injection e with e; subst e
  try dsimp only
  repeat' first
    | with_reducible (first
        | assumption | apply State.shipWake_kept)
    | with_reducible intro _
    | dsimp only
    | split

theorem execPllHoldover_kept {r0 s : State} (hk : Kept r0 s) : ∀ s1, execPllHoldover s = .next s1 → Kept r0 s1 := by
  intro s1 e; unfold execPllHoldover at e; injection e with e; subst e
  try dsimp only
  repeat' first
    | with_reducible (first
        | assumption | apply State.raise_kept | apply State.wr_kept)
    | with_reducible intro _
    | dsimp only
    | split

theorem execPllRelock_kept {r0 s : State} (hk : Kept r0 s) : ∀ s1, execPllRelock s = .next s1 → Kept r0 s1 := by
  intro s1 e; unfold execPllRelock at e; injection e with e; subst e
  try dsimp only
  repeat' first
    | with_reducible (first
        | assumption | apply State.wrBit_kept | apply State.wr_kept)
    | with_reducible intro _
    | dsimp only
    | split

theorem execPllUnlock_kept {r0 s : State} (k : Fin 5) (hk : Kept r0 s) : ∀ s1, execPllUnlock k s = .next s1 → Kept r0 s1 := by
  intro s1 e; unfold execPllUnlock at e; injection e with e; subst e
  try dsimp only
  repeat' first
    | with_reducible (first
        | assumption | apply State.raise_kept | apply State.wrBit_kept)
    | with_reducible intro _
    | dsimp only
    | split

theorem State.avsUpdate_kept {r0 s : State} (target : Nat) (ack : Bool) (hk : Kept r0 s) :
    Kept r0 (State.avsUpdate s target ack) := by
  unfold State.avsUpdate
  try dsimp only
  repeat' first
    | with_reducible (first
        | assumption | apply State.raise_kept | apply State.wr_kept | apply State.emit_kept | apply State.modChip_kept)
    | with_reducible intro _
    | dsimp only
    | split

theorem execAvsUpdate_kept {r0 s : State} (target : Fin 41) (ack : Bool) (hk : Kept r0 s) : ∀ s1, execAvsUpdate target ack s = .next s1 → Kept r0 s1 := by
  intro s1 e; unfold execAvsUpdate at e; injection e with e; subst e
  try dsimp only
  repeat' first
    | with_reducible (first
        | assumption | apply State.avsUpdate_kept)
    | with_reducible intro _
    | dsimp only
    | split

end Sys2Proof.Machine
end

