-- ==== Sys2Proof/Laws/Kept/LinkCmds.lean ====
section
/-! SUPPORT. What the operations of Machine/LinkCmds.lean keep. -/
namespace Sys2Proof.Machine

theorem execAuthDoneReceive_kept {r0 s : State} (p : Fin 4) (y : List Byte) (hk : Kept r0 s) : ∀ s1, execAuthDoneReceive p y s = .next s1 → Kept r0 s1 := by
  intro s1 e; unfold execAuthDoneReceive at e; injection e with e; subst e
  try dsimp only
  repeat' first
    | with_reducible (first
        | assumption | apply State.settling_kept | apply State.authDoneIn_kept)
    | with_reducible intro _
    | dsimp only
    | split

theorem execAuthMessageReceive_kept {r0 s : State} (p : Fin 4) (y : List Byte) (ok : Bool) (hk : Kept r0 s) : ∀ s1, execAuthMessageReceive p y ok s = .next s1 → Kept r0 s1 := by
  intro s1 e; unfold execAuthMessageReceive at e; injection e with e; subst e
  try dsimp only
  repeat' first
    | with_reducible (first
        | assumption | apply State.settling_kept | apply State.authReceive_kept)
    | with_reducible intro _
    | dsimp only
    | split

theorem execCreditTimeout_kept {r0 s : State} (p : Fin 4) (vc : Fin 64) (hk : Kept r0 s) : ∀ s1, execCreditTimeout p vc s = .next s1 → Kept r0 s1 := by
  intro s1 e; unfold execCreditTimeout at e; injection e with e; subst e
  try dsimp only
  repeat' first
    | with_reducible (first
        | assumption | apply State.settling_kept | apply State.creditTimeout_kept)
    | with_reducible intro _
    | dsimp only
    | split

theorem execFlitReceive_kept {r0 s : State} (p : Fin 4) (slot : Nat) (raw : List Byte) (hits : Nat) (hk : Kept r0 s) : ∀ s1, execFlitReceive p slot raw hits s = .next s1 → Kept r0 s1 := by
  intro s1 e; unfold execFlitReceive at e; injection e with e; subst e
  try dsimp only
  repeat' first
    | with_reducible (first
        | assumption | apply State.settling_kept | apply State.flitReceive_kept)
    | with_reducible intro _
    | dsimp only
    | split

theorem execJxkEnWrite_kept {r0 s : State} (p : Fin 4) (data : Word) (hk : Kept r0 s) : ∀ s1, execJxkEnWrite p data s = .next s1 → Kept r0 s1 := by
  intro s1 e; unfold execJxkEnWrite at e; injection e with e; subst e
  try dsimp only
  repeat' first
    | with_reducible (first
        | assumption | apply State.settling_kept | apply State.access_kept | apply State.jxkCtrlWrite_kept)
    | with_reducible intro _
    | dsimp only
    | split

theorem execLoopMeasure_kept {r0 s : State} (p : Fin 4) (v : Nat) (hk : Kept r0 s) : ∀ s1, execLoopMeasure p v s = .next s1 → Kept r0 s1 := by
  intro s1 e; unfold execLoopMeasure at e; injection e with e; subst e
  try dsimp only
  repeat' first
    | with_reducible (first
        | assumption | apply State.settling_kept | apply State.timeSend_kept | apply State.loopMeasure_kept)
    | with_reducible intro _
    | dsimp only
    | split

theorem execPeerLoss_kept {r0 s : State} (p : Fin 4) (hk : Kept r0 s) : ∀ s1, execPeerLoss p s = .next s1 → Kept r0 s1 := by
  intro s1 e; unfold execPeerLoss at e; injection e with e; subst e
  try dsimp only
  repeat' first
    | with_reducible (first
        | assumption | apply State.settling_kept | apply State.peerLoss_kept)
    | with_reducible intro _
    | dsimp only
    | split

theorem execPeerTrainingDetect_kept {r0 s : State} (p : Fin 4) (hk : Kept r0 s) : ∀ s1, execPeerTrainingDetect p s = .next s1 → Kept r0 s1 := by
  intro s1 e; unfold execPeerTrainingDetect at e; injection e with e; subst e
  try dsimp only
  repeat' first
    | with_reducible (first
        | assumption | apply State.settling_kept | apply State.peerTraining_kept)
    | with_reducible intro _
    | dsimp only
    | split

theorem execRekey_kept {r0 s : State} (p : Fin 4) (hk : Kept r0 s) : ∀ s1, execRekey p s = .next s1 → Kept r0 s1 := by
  intro s1 e; unfold execRekey at e; injection e with e; subst e
  try dsimp only
  repeat' first
    | with_reducible (first
        | assumption | apply State.settling_kept | apply State.access_kept | apply State.rekeyCmd_kept)
    | with_reducible intro _
    | dsimp only
    | split

theorem execRekeyNoAck_kept {r0 s : State} (p : Fin 4) (hk : Kept r0 s) : ∀ s1, execRekeyNoAck p s = .next s1 → Kept r0 s1 := by
  intro s1 e; unfold execRekeyNoAck at e; injection e with e; subst e
  try dsimp only
  repeat' first
    | with_reducible (first
        | assumption | apply State.settling_kept | apply State.rekeyNoAck_kept)
    | with_reducible intro _
    | dsimp only
    | split

theorem execRekeyTimer_kept {r0 s : State} (p : Fin 4) (hk : Kept r0 s) : ∀ s1, execRekeyTimer p s = .next s1 → Kept r0 s1 := by
  intro s1 e; unfold execRekeyTimer at e; injection e with e; subst e
  try dsimp only
  repeat' first
    | with_reducible (first
        | assumption | apply State.settling_kept | apply State.rekeyTimer_kept)
    | with_reducible intro _
    | dsimp only
    | split

theorem execReplayTimeout_kept {r0 s : State} (p : Fin 4) (hk : Kept r0 s) : ∀ s1, execReplayTimeout p s = .next s1 → Kept r0 s1 := by
  intro s1 e; unfold execReplayTimeout at e; injection e with e; subst e
  try dsimp only
  repeat' first
    | with_reducible (first
        | assumption | apply State.settling_kept | apply State.replayTimeout_kept)
    | with_reducible intro _
    | dsimp only
    | split

theorem execRetrain_kept {r0 s : State} (p : Fin 4) (hk : Kept r0 s) : ∀ s1, execRetrain p s = .next s1 → Kept r0 s1 := by
  intro s1 e; unfold execRetrain at e; injection e with e; subst e
  try dsimp only
  repeat' first
    | with_reducible (first
        | assumption | apply State.settling_kept | apply State.access_kept | apply State.retrainCmd_kept)
    | with_reducible intro _
    | dsimp only
    | split

theorem execTagVerify_kept {r0 s : State} (p : Fin 4) (hk : Kept r0 s) : ∀ s1, execTagVerify p s = .next s1 → Kept r0 s1 := by
  intro s1 e; unfold execTagVerify at e; injection e with e; subst e
  try dsimp only
  repeat' first
    | with_reducible (first
        | assumption | apply State.settling_kept | apply State.tagVerify_kept)
    | with_reducible intro _
    | dsimp only
    | split

theorem execFence_kept {r0 s : State} (p : Fin 4) (lane : Fin 16) (hk : Kept r0 s) : ∀ s1, execFence p lane s = .next s1 → Kept r0 s1 := by
  intro s1 e; unfold execFence at e; injection e with e; subst e
  try dsimp only
  repeat' first
    | with_reducible (first
        | assumption | apply State.settling_kept | apply State.access_kept | apply State.fence_kept)
    | with_reducible intro _
    | dsimp only
    | split

theorem execLaneFail_kept {r0 s : State} (p : Fin 4) (lane : Fin 10) (cause : Fin 6) (hk : Kept r0 s) : ∀ s1, execLaneFail p lane cause s = .next s1 → Kept r0 s1 := by
  intro s1 e; unfold execLaneFail at e; injection e with e; subst e
  try dsimp only
  repeat' first
    | with_reducible (first
        | assumption | apply State.settling_kept | apply State.laneFail_kept)
    | with_reducible intro _
    | dsimp only
    | split

theorem execLaneNackReceive_kept {r0 s : State} (p : Fin 4) (y : List Byte) (hk : Kept r0 s) : ∀ s1, execLaneNackReceive p y s = .next s1 → Kept r0 s1 := by
  intro s1 e; unfold execLaneNackReceive at e; injection e with e; subst e
  try dsimp only
  repeat' first
    | with_reducible (first
        | assumption | apply State.settling_kept | apply State.laneNack_kept)
    | with_reducible intro _
    | dsimp only
    | split

theorem execSubstComplete_kept {r0 s : State} (p : Fin 4) (hk : Kept r0 s) : ∀ s1, execSubstComplete p s = .next s1 → Kept r0 s1 := by
  intro s1 e; unfold execSubstComplete at e; injection e with e; subst e
  try dsimp only
  repeat' first
    | with_reducible (first
        | assumption | apply State.settling_kept | apply State.substComplete_kept)
    | with_reducible intro _
    | dsimp only
    | split

theorem execWiden_kept {r0 s : State} (p : Fin 4) (hk : Kept r0 s) : ∀ s1, execWiden p s = .next s1 → Kept r0 s1 := by
  intro s1 e; unfold execWiden at e; injection e with e; subst e
  try dsimp only
  repeat' first
    | with_reducible (first
        | assumption | apply State.settling_kept | apply State.access_kept | apply State.widen_kept)
    | with_reducible intro _
    | dsimp only
    | split

theorem execPlanShiftEffect_kept {r0 s : State} (p : Fin 4) (hk : Kept r0 s) : ∀ s1, execPlanShiftEffect p s = .next s1 → Kept r0 s1 := by
  intro s1 e; unfold execPlanShiftEffect at e; injection e with e; subst e
  try dsimp only
  repeat' first
    | with_reducible (first
        | assumption | apply State.settling_kept | apply State.shiftEffect_kept)
    | with_reducible intro _
    | dsimp only
    | split

theorem execSlotCommit_kept {r0 s : State} (p : Fin 4) (slot : Nat) (hk : Kept r0 s) : ∀ s1, execSlotCommit p slot s = .next s1 → Kept r0 s1 := by
  intro s1 e; unfold execSlotCommit at e; injection e with e; subst e
  try dsimp only
  repeat' first
    | with_reducible (first
        | assumption | apply State.settling_kept | apply State.slotCommit_kept)
    | with_reducible intro _
    | dsimp only
    | split

theorem execSyncLost_kept {r0 s : State} (p : Fin 4) (hk : Kept r0 s) : ∀ s1, execSyncLost p s = .next s1 → Kept r0 s1 := by
  intro s1 e; unfold execSyncLost at e; injection e with e; subst e
  try dsimp only
  repeat' first
    | with_reducible (first
        | assumption | apply State.settling_kept | apply State.syncFailed_kept)
    | with_reducible intro _
    | dsimp only
    | split

theorem execSyncReceive_kept {r0 s : State} (p : Fin 4) (y : Option (List Byte)) (via : Nat) (hk : Kept r0 s) : ∀ s1, execSyncReceive p y via s = .next s1 → Kept r0 s1 := by
  intro s1 e; unfold execSyncReceive at e; injection e with e; subst e
  try dsimp only
  repeat' first
    | with_reducible (first
        | assumption | apply State.settling_kept | apply State.syncReceive_kept)
    | with_reducible intro _
    | dsimp only
    | split

theorem execEthLinkUp_kept {r0 s : State} (p : Fin 8) (speed : Fin 4) (hk : Kept r0 s) : ∀ s1, execEthLinkUp p speed s = .next s1 → Kept r0 s1 := by
  intro s1 e; unfold execEthLinkUp at e; injection e with e; subst e
  try dsimp only
  repeat' first
    | with_reducible (first
        | assumption | apply State.settling_kept | apply State.ethUp_kept)
    | with_reducible intro _
    | dsimp only
    | split

theorem execEthLinkDown_kept {r0 s : State} (p : Fin 8) (hk : Kept r0 s) : ∀ s1, execEthLinkDown p s = .next s1 → Kept r0 s1 := by
  intro s1 e; unfold execEthLinkDown at e; injection e with e; subst e
  try dsimp only
  repeat' first
    | with_reducible (first
        | assumption | apply State.settling_kept | apply State.ethDown_kept)
    | with_reducible intro _
    | dsimp only
    | split

end Sys2Proof.Machine
end

