-- ==== Sys2Proof/Laws/Kept/Mem.lean ====
section
/-! SUPPORT. What the operations of Machine/Mem.lean keep. -/
namespace Sys2Proof.Machine

theorem State.macroScrub_kept {r0 s : State} (m : Nat) (word : Nat) (synd : Nat) (at_ : Nat) (err : Nat) (scrub : Bool) (iso : Bool) (hk : Kept r0 s) :
    Kept r0 (State.macroScrub s m word synd at_ err scrub iso) := by
  unfold State.macroScrub
  try dsimp only
  repeat' first
    | with_reducible (first
        | assumption | apply State.macroError_kept | apply State.wr_kept)
    | with_reducible intro _
    | dsimp only
    | split

theorem execMacroScrub_kept {r0 s : State} (m : Fin 616) (word : Fin 4096) (synd : Fin 512) (loc : Nat) (err : Fin 3) (scrub : Bool) (iso : Bool) (hk : Kept r0 s) : ∀ s1, execMacroScrub m word synd loc err scrub iso s = .next s1 → Kept r0 s1 := by
  intro s1 e; unfold execMacroScrub at e; injection e with e; subst e
  try dsimp only
  repeat' first
    | with_reducible (first
        | assumption | apply State.settling_kept | apply State.macroScrub_kept)
    | with_reducible intro _
    | dsimp only
    | split

theorem execCaptureClear_kept {r0 s : State} (c : Fin 14) (data : Word) (hk : Kept r0 s) : ∀ s1, execCaptureClear c data s = .next s1 → Kept r0 s1 := by
  intro s1 e; unfold execCaptureClear at e; injection e with e; subst e
  try dsimp only
  repeat' first
    | with_reducible (first
        | assumption | apply State.access_kept | apply State.capWrite_kept)
    | with_reducible intro _
    | dsimp only
    | split

theorem execFclr_kept {r0 s : State} (data : Word) (hk : Kept r0 s) : ∀ s1, execFclr data s = .next s1 → Kept r0 s1 := by
  intro s1 e; unfold execFclr at e; injection e with e; subst e
  try dsimp only
  repeat' first
    | with_reducible (first
        | assumption | apply State.access_kept | apply State.fctlWrite_kept)
    | with_reducible intro _
    | dsimp only
    | split

theorem execMarchStart_kept {r0 s : State} (ss : Bool) (destr : Bool) (first : Fin 1024) (count : Fin 1024) (hk : Kept r0 s) : ∀ s1, execMarchStart ss destr first count s = .next s1 → Kept r0 s1 := by
  intro s1 e; unfold execMarchStart at e; injection e with e; subst e
  try dsimp only
  repeat' first
    | with_reducible (first
        | assumption | apply State.access_kept | apply State.mcmdWrite_kept)
    | with_reducible intro _
    | dsimp only
    | split

theorem execMarchStop_kept {r0 s : State} (hk : Kept r0 s) : ∀ s1, execMarchStop s = .next s1 → Kept r0 s1 := by
  intro s1 e; unfold execMarchStop at e; injection e with e; subst e
  try dsimp only
  repeat' first
    | with_reducible (first
        | assumption | apply State.access_kept | apply State.mcmdWrite_kept)
    | with_reducible intro _
    | dsimp only
    | split

theorem execMarchDone_kept {r0 s : State} (faults : List Nat) (done : Nat) (hk : Kept r0 s) : ∀ s1, execMarchDone faults done s = .next s1 → Kept r0 s1 := by
  intro s1 e; unfold execMarchDone at e; injection e with e; subst e
  try dsimp only
  repeat' first
    | with_reducible (first
        | assumption | apply State.marchDone_kept)
    | with_reducible intro _
    | dsimp only
    | split

theorem execFuseRepair_kept {r0 s : State} (data : Word) (hk : Kept r0 s) : ∀ s1, execFuseRepair data s = .next s1 → Kept r0 s1 := by
  intro s1 e; unfold execFuseRepair at e; injection e with e; subst e
  try dsimp only
  repeat' first
    | with_reducible (first
        | assumption | apply State.access_kept | apply State.fuseRepair_kept)
    | with_reducible intro _
    | dsimp only
    | split

theorem execD2dLaneSpare_kept {r0 s : State} (lane : Fin 17) (hk : Kept r0 s) : ∀ s1, execD2dLaneSpare lane s = .next s1 → Kept r0 s1 := by
  intro s1 e; unfold execD2dLaneSpare at e; injection e with e; subst e
  try dsimp only
  repeat' first
    | with_reducible (first
        | assumption | apply State.d2dLane_kept)
    | with_reducible intro _
    | dsimp only
    | split

theorem execD2dFrameRetry_kept {r0 s : State} (corr : Nat) (hk : Kept r0 s) : ∀ s1, execD2dFrameRetry corr s = .next s1 → Kept r0 s1 := by
  intro s1 e; unfold execD2dFrameRetry at e; injection e with e; subst e
  try dsimp only
  repeat' first
    | with_reducible (first
        | assumption | apply State.bump_kept)
    | with_reducible intro _
    | dsimp only
    | split

theorem execD2dFail_kept {r0 s : State} (hk : Kept r0 s) : ∀ s1, execD2dFail s = .next s1 → Kept r0 s1 := by
  intro s1 e; unfold execD2dFail at e; injection e with e; subst e
  try dsimp only
  repeat' first
    | with_reducible (first
        | assumption | apply State.d2dDown_kept)
    | with_reducible intro _
    | dsimp only
    | split

theorem execD2dRetrain_kept {r0 s : State} (ok : Bool) (hk : Kept r0 s) : ∀ s1, execD2dRetrain ok s = .next s1 → Kept r0 s1 := by
  intro s1 e; unfold execD2dRetrain at e; injection e with e; subst e
  try dsimp only
  repeat' first
    | with_reducible (first
        | assumption | apply State.d2dSet_kept)
    | with_reducible intro _
    | dsimp only
    | split

theorem execUnlock_kept {r0 s : State} (hk : Kept r0 s) : ∀ s1, execUnlock s = .next s1 → Kept r0 s1 := by
  intro s1 e; unfold execUnlock at e; injection e with e; subst e
  try dsimp only
  repeat' first
    | with_reducible (first
        | assumption | apply State.access_kept | apply State.dbgCmd_kept)
    | with_reducible intro _
    | dsimp only
    | split

theorem execLock_kept {r0 s : State} (hk : Kept r0 s) : ∀ s1, execLock s = .next s1 → Kept r0 s1 := by
  intro s1 e; unfold execLock at e; injection e with e; subst e
  try dsimp only
  repeat' first
    | with_reducible (first
        | assumption | apply State.access_kept | apply State.dbgCmd_kept)
    | with_reducible intro _
    | dsimp only
    | split

theorem execDebugUnlockExpire_kept {r0 s : State} (hk : Kept r0 s) : ∀ s1, execDebugUnlockExpire s = .next s1 → Kept r0 s1 := by
  intro s1 e; unfold execDebugUnlockExpire at e; injection e with e; subst e
  try dsimp only
  repeat' first
    | with_reducible (first
        | assumption | apply State.debugLock_kept)
    | with_reducible intro _
    | dsimp only
    | split

theorem State.jtagLoad_kept {r0 s : State} (i : Nat) (hk : Kept r0 s) :
    Kept r0 (State.jtagLoad s i) := by
  unfold State.jtagLoad
  try dsimp only
  repeat' first
    | with_reducible (first
        | assumption | apply State.emit_kept | apply State.modChip_kept)
    | with_reducible intro _
    | dsimp only
    | split

theorem execJtagInstruction_kept {r0 s : State} (i : Fin 9) (hk : Kept r0 s) : ∀ s1, execJtagInstruction i s = .next s1 → Kept r0 s1 := by
  intro s1 e; unfold execJtagInstruction at e; injection e with e; subst e
  try dsimp only
  repeat' first
    | with_reducible (first
        | assumption | apply State.jtagLoad_kept)
    | with_reducible intro _
    | dsimp only
    | split

end Sys2Proof.Machine
end

