-- ==== Sys2Proof/Laws/Kept/Nimbus.lean ====
section
/-! SUPPORT. What the operations of Machine/Nimbus.lean keep. -/
namespace Sys2Proof.Machine

theorem State.coreStore_kept {r0 s : State} (w : CoreWrite) (hk : Kept r0 s) :
    Kept r0 (State.coreStore s w) := by
  unfold State.coreStore
  try dsimp only
  repeat' first
    | with_reducible (first
        | assumption)
    | (with_reducible apply Kept.lit
       first
         | with_reducible (first
             | assumption)
         | split)
    | with_reducible intro _
    | dsimp only
    | split

theorem State.dmaCollision_kept {r0 s : State} (n : Nat) (hk : Kept r0 s) :
    Kept r0 (State.dmaCollision s n) := by
  unfold State.dmaCollision
  try dsimp only
  repeat' first
    | with_reducible (first
        | assumption | apply State.raiseOnce_kept | apply State.bump_kept | apply State.wr_kept)
    | with_reducible intro _
    | dsimp only
    | split

theorem State.pluginStop_kept {r0 s : State} (p : Nat) (hk : Kept r0 s) :
    Kept r0 (State.pluginStop s p) := by
  unfold State.pluginStop
  try dsimp only
  repeat' first
    | with_reducible (first
        | assumption | apply State.raise_kept | apply State.wr_kept)
    | with_reducible intro _
    | dsimp only
    | split

theorem State.pluginPeriod_kept {r0 s : State} (p : Nat) (late : Bool) (hk : Kept r0 s) :
    Kept r0 (State.pluginPeriod s p late) := by
  unfold State.pluginPeriod
  try dsimp only
  repeat' first
    | with_reducible (first
        | assumption | apply State.bump_kept | apply State.pluginStop_kept)
    | (with_reducible apply Kept.lit
       first
         | with_reducible (first
             | assumption | apply State.bump_kept | apply State.pluginStop_kept)
         | split)
    | with_reducible intro _
    | dsimp only
    | split

theorem State.admissionPeriod_kept {r0 s : State} (hk : Kept r0 s) :
    Kept r0 (State.admissionPeriod s) := by
  unfold State.admissionPeriod
  try dsimp only
  repeat' first
    | with_reducible (first
        | assumption | apply State.emit_kept | apply Kept.foldl)
    | (with_reducible apply Kept.lit
       first
         | with_reducible (first
             | assumption | apply State.emit_kept | apply Kept.foldl)
         | split)
    | with_reducible intro _
    | dsimp only
    | split

theorem State.nimbusPeriod_kept {r0 s : State} (late : List Nat) (coll : List Nat) (xfer : List Nat) (writes : List CoreWrite) (hk : Kept r0 s) :
    Kept r0 (State.nimbusPeriod s late coll xfer writes) := by
  unfold State.nimbusPeriod
  try dsimp only
  repeat' first
    | with_reducible (first
        | assumption | apply State.setBit_kept | apply State.coreStore_kept | apply State.dmaCollision_kept | apply State.admissionPeriod_kept
        | apply State.presencePeriod_kept | apply State.pluginPeriod_kept | apply Kept.foldl)
    | with_reducible intro _
    | dsimp only
    | split

theorem execNimbusPeriod_kept {r0 s : State} (late : List (Fin 16)) (coll : List (Fin 4)) (xfer : List (Fin 4)) (writes : List CoreWrite) (hk : Kept r0 s) : ∀ s1, execNimbusPeriod late coll xfer writes s = .next s1 → Kept r0 s1 := by
  intro s1 e; unfold execNimbusPeriod at e; injection e with e; subst e
  try dsimp only
  repeat' first
    | with_reducible (first
        | assumption | apply State.nimbusPeriod_kept)
    | with_reducible intro _
    | dsimp only
    | split

theorem State.coreTrap_kept {r0 s : State} (n : Nat) (mcause : Nat) (plug : Option Nat) (hk : Kept r0 s) :
    Kept r0 (State.coreTrap s n mcause plug) := by
  unfold State.coreTrap
  try dsimp only
  repeat' first
    | with_reducible (first
        | assumption | apply State.pluginStop_kept | apply State.raise_kept | apply State.wr_kept)
    | with_reducible intro _
    | dsimp only
    | split

theorem execCoreTrap_kept {r0 s : State} (n : Fin 4) (mcause : Word) (plug : Option (Fin 16)) (hk : Kept r0 s) : ∀ s1, execCoreTrap n mcause plug s = .next s1 → Kept r0 s1 := by
  intro s1 e; unfold execCoreTrap at e; injection e with e; subst e
  try dsimp only
  repeat' first
    | with_reducible (first
        | assumption | apply State.coreTrap_kept)
    | with_reducible intro _
    | dsimp only
    | split

theorem execHalt_kept {r0 s : State} (n : Fin 4) (data : Word) (hk : Kept r0 s) : ∀ s1, execHalt n data s = .next s1 → Kept r0 s1 := by
  intro s1 e; unfold execHalt at e; injection e with e; subst e
  try dsimp only
  repeat' first
    | with_reducible (first
        | assumption | apply State.access_kept | apply State.cctrlWrite_kept)
    | with_reducible intro _
    | dsimp only
    | split

theorem execEventArrival_kept {r0 s : State} (hk : Kept r0 s) : ∀ s1, execEventArrival s = .next s1 → Kept r0 s1 := by
  intro s1 e; unfold execEventArrival at e; injection e with e; subst e
  try dsimp only
  repeat' first
    | with_reducible (first
        | assumption | apply State.eventArrive_kept)
    | with_reducible intro _
    | dsimp only
    | split

theorem execEvqPop_kept {r0 s : State} (data : Word) (hk : Kept r0 s) : ∀ s1, execEvqPop data s = .next s1 → Kept r0 s1 := by
  intro s1 e; unfold execEvqPop at e; injection e with e; subst e
  try dsimp only
  repeat' first
    | with_reducible (first
        | assumption | apply State.access_kept | apply State.evqPop_kept)
    | with_reducible intro _
    | dsimp only
    | split

theorem execEventSourceClear_kept {r0 s : State} (i : Fin 1024) (data : Word) (hk : Kept r0 s) : ∀ s1, execEventSourceClear i data s = .next s1 → Kept r0 s1 := by
  intro s1 e; unfold execEventSourceClear at e; injection e with e; subst e
  try dsimp only
  repeat' first
    | with_reducible (first
        | assumption | apply State.access_kept | apply State.evuSrcWrite_kept)
    | with_reducible intro _
    | dsimp only
    | split

theorem execNirqPulseEnd_kept {r0 s : State} (hk : Kept r0 s) : ∀ s1, execNirqPulseEnd s = .next s1 → Kept r0 s1 := by
  intro s1 e; unfold execNirqPulseEnd at e; injection e with e; subst e
  try dsimp only
  repeat' first
    | with_reducible (first
        | assumption | apply State.modChip_kept | apply State.emit_kept)
    | with_reducible intro _
    | dsimp only
    | split

end Sys2Proof.Machine
end

