-- ==== Sys2Proof/Laws/Kept/Sec.lean ====
section
/-! SUPPORT. What the operations of Machine/Sec.lean keep. -/
namespace Sys2Proof.Machine

theorem execTamperDetect_kept {r0 s : State} (src : Fin 6) (active : Bool) (hk : Kept r0 s) : ∀ s1, execTamperDetect src active s = .next s1 → Kept r0 s1 := by
  intro s1 e; unfold execTamperDetect at e; injection e with e; subst e
  try dsimp only
  repeat' first
    | with_reducible (first
        | assumption | apply State.settling_kept | apply State.tamperLevel_kept)
    | with_reducible intro _
    | dsimp only
    | split

theorem State.secOp_kept {r0 s : State} (op : Nat) (hk : Kept r0 s) :
    Kept r0 (State.secOp s op) := by
  unfold State.secOp
  try dsimp only
  repeat' first
    | with_reducible (first
        | assumption | apply State.access_kept | apply State.secCmd_kept)
    | with_reducible intro _
    | dsimp only
    | split

theorem execLcProvision_kept {r0 s : State} (hk : Kept r0 s) : ∀ s1, execLcProvision s = .next s1 → Kept r0 s1 := by
  intro s1 e; unfold execLcProvision at e; injection e with e; subst e
  try dsimp only
  repeat' first
    | with_reducible (first
        | assumption | apply State.secOp_kept)
    | with_reducible intro _
    | dsimp only
    | split

theorem execLcField_kept {r0 s : State} (hk : Kept r0 s) : ∀ s1, execLcField s = .next s1 → Kept r0 s1 := by
  intro s1 e; unfold execLcField at e; injection e with e; subst e
  try dsimp only
  repeat' first
    | with_reducible (first
        | assumption | apply State.secOp_kept)
    | with_reducible intro _
    | dsimp only
    | split

theorem execLcReturn_kept {r0 s : State} (hk : Kept r0 s) : ∀ s1, execLcReturn s = .next s1 → Kept r0 s1 := by
  intro s1 e; unfold execLcReturn at e; injection e with e; subst e
  try dsimp only
  repeat' first
    | with_reducible (first
        | assumption | apply State.secOp_kept)
    | with_reducible intro _
    | dsimp only
    | split

theorem execLcEnd_kept {r0 s : State} (hk : Kept r0 s) : ∀ s1, execLcEnd s = .next s1 → Kept r0 s1 := by
  intro s1 e; unfold execLcEnd at e; injection e with e; subst e
  try dsimp only
  repeat' first
    | with_reducible (first
        | assumption | apply State.secOp_kept)
    | with_reducible intro _
    | dsimp only
    | split

theorem execIdEnroll_kept {r0 s : State} (hk : Kept r0 s) : ∀ s1, execIdEnroll s = .next s1 → Kept r0 s1 := by
  intro s1 e; unfold execIdEnroll at e; injection e with e; subst e
  try dsimp only
  repeat' first
    | with_reducible (first
        | assumption | apply State.secOp_kept)
    | with_reducible intro _
    | dsimp only
    | split

theorem execCertWrite_kept {r0 s : State} (hk : Kept r0 s) : ∀ s1, execCertWrite s = .next s1 → Kept r0 s1 := by
  intro s1 e; unfold execCertWrite at e; injection e with e; subst e
  try dsimp only
  repeat' first
    | with_reducible (first
        | assumption | apply State.secOp_kept)
    | with_reducible intro _
    | dsimp only
    | split

theorem execKeyImport_kept {r0 s : State} (hk : Kept r0 s) : ∀ s1, execKeyImport s = .next s1 → Kept r0 s1 := by
  intro s1 e; unfold execKeyImport at e; injection e with e; subst e
  try dsimp only
  repeat' first
    | with_reducible (first
        | assumption | apply State.secOp_kept)
    | with_reducible intro _
    | dsimp only
    | split

theorem execKeyDestroy_kept {r0 s : State} (hk : Kept r0 s) : ∀ s1, execKeyDestroy s = .next s1 → Kept r0 s1 := by
  intro s1 e; unfold execKeyDestroy at e; injection e with e; subst e
  try dsimp only
  repeat' first
    | with_reducible (first
        | assumption | apply State.secOp_kept)
    | with_reducible intro _
    | dsimp only
    | split

theorem execTamperClear_kept {r0 s : State} (hk : Kept r0 s) : ∀ s1, execTamperClear s = .next s1 → Kept r0 s1 := by
  intro s1 e; unfold execTamperClear at e; injection e with e; subst e
  try dsimp only
  repeat' first
    | with_reducible (first
        | assumption | apply State.secOp_kept)
    | with_reducible intro _
    | dsimp only
    | split

theorem execLcReset_kept {r0 s : State} (hk : Kept r0 s) : ∀ s1, execLcReset s = .next s1 → Kept r0 s1 := by
  intro s1 e; unfold execLcReset at e; injection e with e; subst e
  try dsimp only
  repeat' first
    | with_reducible (first
        | assumption | apply State.enterReset_kept)
    | with_reducible intro _
    | dsimp only
    | split

theorem execNonceDraw_kept {r0 s : State} (hk : Kept r0 s) : ∀ s1, execNonceDraw s = .next s1 → Kept r0 s1 := by
  intro s1 e; unfold execNonceDraw at e; injection e with e; subst e
  try dsimp only
  repeat' first
    | with_reducible (first
        | assumption | apply State.access_kept | apply State.nonceDraw_kept)
    | with_reducible intro _
    | dsimp only
    | split

theorem State.tagCheck_kept {r0 s : State} (bad : List Nat) (hk : Kept r0 s) :
    Kept r0 (State.tagCheck s bad) := by
  unfold State.tagCheck
  try dsimp only
  repeat' first
    | with_reducible (first
        | assumption | apply State.raise_kept | apply State.modSec_kept | apply State.wr_kept | apply Kept.foldl)
    | with_reducible intro _
    | dsimp only
    | split

theorem execSlotTagCheck_kept {r0 s : State} (bad : List (Fin 64)) (hk : Kept r0 s) : ∀ s1, execSlotTagCheck bad s = .next s1 → Kept r0 s1 := by
  intro s1 e; unfold execSlotTagCheck at e; injection e with e; subst e
  try dsimp only
  repeat' first
    | with_reducible (first
        | assumption | apply State.tagCheck_kept)
    | with_reducible intro _
    | dsimp only
    | split

theorem execJournalUpdateDone_kept {r0 s : State} (good : Bool) (hk : Kept r0 s) : ∀ s1, execJournalUpdateDone good s = .next s1 → Kept r0 s1 := by
  intro s1 e; unfold execJournalUpdateDone at e; injection e with e; subst e
  try dsimp only
  repeat' first
    | with_reducible (first
        | assumption | apply State.journalEnd_kept)
    | with_reducible intro _
    | dsimp only
    | split

theorem execJournalUpdateTimeout_kept {r0 s : State} (hk : Kept r0 s) : ∀ s1, execJournalUpdateTimeout s = .next s1 → Kept r0 s1 := by
  intro s1 e; unfold execJournalUpdateTimeout at e; injection e with e; subst e
  try dsimp only
  repeat' first
    | with_reducible (first
        | assumption | apply State.journalEnd_kept)
    | with_reducible intro _
    | dsimp only
    | split

theorem execTrngFail_kept {r0 s : State} (hk : Kept r0 s) : ∀ s1, execTrngFail s = .next s1 → Kept r0 s1 := by
  intro s1 e; unfold execTrngFail at e; injection e with e; subst e
  try dsimp only
  repeat' first
    | with_reducible (first
        | assumption | apply State.raise_kept | apply State.wr_kept)
    | with_reducible intro _
    | dsimp only
    | split

theorem execTrngRetest_kept {r0 s : State} (pass : Bool) (hk : Kept r0 s) : ∀ s1, execTrngRetest pass s = .next s1 → Kept r0 s1 := by
  intro s1 e; unfold execTrngRetest at e; injection e with e; subst e
  try dsimp only
  repeat' first
    | with_reducible (first
        | assumption | apply State.wr_kept)
    | with_reducible intro _
    | dsimp only
    | split

end Sys2Proof.Machine
end

