-- ==== Sys2Proof/Laws/State.lean ====
section
/-! SUPPORT. Each operation that updates one part of State, and each part: what the part is afterwards. -/
namespace Sys2Proof.Machine

@[simp] theorem State.pending_wr (s : State) (f : Field) (v i : Nat) : (s.wr f v i).pending = s.pending := rfl
@[simp] theorem State.fresh_wr (s : State) (f : Field) (v i : Nat) : (s.wr f v i).fresh = s.fresh := rfl
@[simp] theorem State.regs_wr (s : State) (f : Field) (v i : Nat) : (s.wr f v i).regs = s.regs.wr f i v := rfl
@[simp] theorem State.link_wr (s : State) (f : Field) (v i : Nat) : (s.wr f v i).link = s.link := rfl
@[simp] theorem State.planStore_wr (s : State) (f : Field) (v i : Nat) : (s.wr f v i).planStore = s.planStore := rfl
@[simp] theorem State.routes_wr (s : State) (f : Field) (v i : Nat) : (s.wr f v i).routes = s.routes := rfl
@[simp] theorem State.lossMark_wr (s : State) (f : Field) (v i : Nat) : (s.wr f v i).lossMark = s.lossMark := rfl
@[simp] theorem State.horizon_wr (s : State) (f : Field) (v i : Nat) : (s.wr f v i).horizon = s.horizon := rfl
@[simp] theorem State.points_wr (s : State) (f : Field) (v i : Nat) : (s.wr f v i).points = s.points := rfl
@[simp] theorem State.pointGen_wr (s : State) (f : Field) (v i : Nat) : (s.wr f v i).pointGen = s.pointGen := rfl
@[simp] theorem State.tun_wr (s : State) (f : Field) (v i : Nat) : (s.wr f v i).tun = s.tun := rfl
@[simp] theorem State.sw_wr (s : State) (f : Field) (v i : Nat) : (s.wr f v i).sw = s.sw := rfl
@[simp] theorem State.tm_wr (s : State) (f : Field) (v i : Nat) : (s.wr f v i).tm = s.tm := rfl
@[simp] theorem State.fld_wr (s : State) (f : Field) (v i : Nat) : (s.wr f v i).fld = s.fld := rfl
@[simp] theorem State.eth_wr (s : State) (f : Field) (v i : Nat) : (s.wr f v i).eth = s.eth := rfl
@[simp] theorem State.pcb_wr (s : State) (f : Field) (v i : Nat) : (s.wr f v i).pcb = s.pcb := rfl
@[simp] theorem State.dp_wr (s : State) (f : Field) (v i : Nat) : (s.wr f v i).dp = s.dp := rfl
@[simp] theorem State.usb_wr (s : State) (f : Field) (v i : Nat) : (s.wr f v i).usb = s.usb := rfl
@[simp] theorem State.tc_wr (s : State) (f : Field) (v i : Nat) : (s.wr f v i).tc = s.tc := rfl
@[simp] theorem State.pw_wr (s : State) (f : Field) (v i : Nat) : (s.wr f v i).pw = s.pw := rfl
@[simp] theorem State.chip_wr (s : State) (f : Field) (v i : Nat) : (s.wr f v i).chip = s.chip := rfl
@[simp] theorem State.nim_wr (s : State) (f : Field) (v i : Nat) : (s.wr f v i).nim = s.nim := rfl
@[simp] theorem State.spi_wr (s : State) (f : Field) (v i : Nat) : (s.wr f v i).spi = s.spi := rfl
@[simp] theorem State.sec_wr (s : State) (f : Field) (v i : Nat) : (s.wr f v i).sec = s.sec := rfl
@[simp] theorem State.treeTime_wr (s : State) (f : Field) (v i : Nat) : (s.wr f v i).treeTime = s.treeTime := rfl
@[simp] theorem State.sfStarted_wr (s : State) (f : Field) (v i : Nat) : (s.wr f v i).sfStarted = s.sfStarted := rfl
@[simp] theorem State.groupKnown_wr (s : State) (f : Field) (v i : Nat) : (s.wr f v i).groupKnown = s.groupKnown := rfl
@[simp] theorem State.zoneEffect_wr (s : State) (f : Field) (v i : Nat) : (s.wr f v i).zoneEffect = s.zoneEffect := rfl
@[simp] theorem State.evq_wr (s : State) (f : Field) (v i : Nat) : (s.wr f v i).evq = s.evq := rfl
@[simp] theorem State.evSeq_wr (s : State) (f : Field) (v i : Nat) : (s.wr f v i).evSeq = s.evSeq := rfl
@[simp] theorem State.limited_wr (s : State) (f : Field) (v i : Nat) : (s.wr f v i).limited = s.limited := rfl
@[simp] theorem State.certList_wr (s : State) (f : Field) (v i : Nat) : (s.wr f v i).certList = s.certList := rfl

@[simp] theorem State.pending_toReset (s : State) (f : Field) (i : Nat) : (s.toReset f i).pending = s.pending := rfl
@[simp] theorem State.out_toReset (s : State) (f : Field) (i : Nat) : (s.toReset f i).out = s.out := rfl
@[simp] theorem State.fresh_toReset (s : State) (f : Field) (i : Nat) : (s.toReset f i).fresh = s.fresh := rfl
@[simp] theorem State.regs_toReset (s : State) (f : Field) (i : Nat) : (s.toReset f i).regs = s.regs.clr f i := rfl
@[simp] theorem State.link_toReset (s : State) (f : Field) (i : Nat) : (s.toReset f i).link = s.link := rfl
@[simp] theorem State.planStore_toReset (s : State) (f : Field) (i : Nat) : (s.toReset f i).planStore = s.planStore := rfl
@[simp] theorem State.routes_toReset (s : State) (f : Field) (i : Nat) : (s.toReset f i).routes = s.routes := rfl
@[simp] theorem State.lossMark_toReset (s : State) (f : Field) (i : Nat) : (s.toReset f i).lossMark = s.lossMark := rfl
@[simp] theorem State.horizon_toReset (s : State) (f : Field) (i : Nat) : (s.toReset f i).horizon = s.horizon := rfl
@[simp] theorem State.points_toReset (s : State) (f : Field) (i : Nat) : (s.toReset f i).points = s.points := rfl
@[simp] theorem State.pointGen_toReset (s : State) (f : Field) (i : Nat) : (s.toReset f i).pointGen = s.pointGen := rfl
@[simp] theorem State.tun_toReset (s : State) (f : Field) (i : Nat) : (s.toReset f i).tun = s.tun := rfl
@[simp] theorem State.sw_toReset (s : State) (f : Field) (i : Nat) : (s.toReset f i).sw = s.sw := rfl
@[simp] theorem State.tm_toReset (s : State) (f : Field) (i : Nat) : (s.toReset f i).tm = s.tm := rfl
@[simp] theorem State.fld_toReset (s : State) (f : Field) (i : Nat) : (s.toReset f i).fld = s.fld := rfl
@[simp] theorem State.eth_toReset (s : State) (f : Field) (i : Nat) : (s.toReset f i).eth = s.eth := rfl
@[simp] theorem State.pcb_toReset (s : State) (f : Field) (i : Nat) : (s.toReset f i).pcb = s.pcb := rfl
@[simp] theorem State.dp_toReset (s : State) (f : Field) (i : Nat) : (s.toReset f i).dp = s.dp := rfl
@[simp] theorem State.usb_toReset (s : State) (f : Field) (i : Nat) : (s.toReset f i).usb = s.usb := rfl
@[simp] theorem State.tc_toReset (s : State) (f : Field) (i : Nat) : (s.toReset f i).tc = s.tc := rfl
@[simp] theorem State.pw_toReset (s : State) (f : Field) (i : Nat) : (s.toReset f i).pw = s.pw := rfl
@[simp] theorem State.chip_toReset (s : State) (f : Field) (i : Nat) : (s.toReset f i).chip = s.chip := rfl
@[simp] theorem State.nim_toReset (s : State) (f : Field) (i : Nat) : (s.toReset f i).nim = s.nim := rfl
@[simp] theorem State.spi_toReset (s : State) (f : Field) (i : Nat) : (s.toReset f i).spi = s.spi := rfl
@[simp] theorem State.sec_toReset (s : State) (f : Field) (i : Nat) : (s.toReset f i).sec = s.sec := rfl
@[simp] theorem State.treeTime_toReset (s : State) (f : Field) (i : Nat) : (s.toReset f i).treeTime = s.treeTime := rfl
@[simp] theorem State.sfStarted_toReset (s : State) (f : Field) (i : Nat) : (s.toReset f i).sfStarted = s.sfStarted := rfl
@[simp] theorem State.groupKnown_toReset (s : State) (f : Field) (i : Nat) : (s.toReset f i).groupKnown = s.groupKnown := rfl
@[simp] theorem State.zoneEffect_toReset (s : State) (f : Field) (i : Nat) : (s.toReset f i).zoneEffect = s.zoneEffect := rfl
@[simp] theorem State.evq_toReset (s : State) (f : Field) (i : Nat) : (s.toReset f i).evq = s.evq := rfl
@[simp] theorem State.evSeq_toReset (s : State) (f : Field) (i : Nat) : (s.toReset f i).evSeq = s.evSeq := rfl
@[simp] theorem State.limited_toReset (s : State) (f : Field) (i : Nat) : (s.toReset f i).limited = s.limited := rfl
@[simp] theorem State.news_toReset (s : State) (f : Field) (i : Nat) : (s.toReset f i).news = s.news := rfl
@[simp] theorem State.certList_toReset (s : State) (f : Field) (i : Nat) : (s.toReset f i).certList = s.certList := rfl

@[simp] theorem State.pending_emit (s : State) (o : Out) : (s.emit o).pending = s.pending := rfl
@[simp] theorem State.out_emit (s : State) (o : Out) : (s.emit o).out = s.out ++ [o] := rfl
@[simp] theorem State.fresh_emit (s : State) (o : Out) : (s.emit o).fresh = s.fresh := rfl
@[simp] theorem State.regs_emit (s : State) (o : Out) : (s.emit o).regs = s.regs := rfl
@[simp] theorem State.link_emit (s : State) (o : Out) : (s.emit o).link = s.link := rfl
@[simp] theorem State.planStore_emit (s : State) (o : Out) : (s.emit o).planStore = s.planStore := rfl
@[simp] theorem State.routes_emit (s : State) (o : Out) : (s.emit o).routes = s.routes := rfl
@[simp] theorem State.lossMark_emit (s : State) (o : Out) : (s.emit o).lossMark = s.lossMark := rfl
@[simp] theorem State.horizon_emit (s : State) (o : Out) : (s.emit o).horizon = s.horizon := rfl
@[simp] theorem State.points_emit (s : State) (o : Out) : (s.emit o).points = s.points := rfl
@[simp] theorem State.pointGen_emit (s : State) (o : Out) : (s.emit o).pointGen = s.pointGen := rfl
@[simp] theorem State.tun_emit (s : State) (o : Out) : (s.emit o).tun = s.tun := rfl
@[simp] theorem State.sw_emit (s : State) (o : Out) : (s.emit o).sw = s.sw := rfl
@[simp] theorem State.tm_emit (s : State) (o : Out) : (s.emit o).tm = s.tm := rfl
@[simp] theorem State.fld_emit (s : State) (o : Out) : (s.emit o).fld = s.fld := rfl
@[simp] theorem State.eth_emit (s : State) (o : Out) : (s.emit o).eth = s.eth := rfl
@[simp] theorem State.pcb_emit (s : State) (o : Out) : (s.emit o).pcb = s.pcb := rfl
@[simp] theorem State.dp_emit (s : State) (o : Out) : (s.emit o).dp = s.dp := rfl
@[simp] theorem State.usb_emit (s : State) (o : Out) : (s.emit o).usb = s.usb := rfl
@[simp] theorem State.tc_emit (s : State) (o : Out) : (s.emit o).tc = s.tc := rfl
@[simp] theorem State.pw_emit (s : State) (o : Out) : (s.emit o).pw = s.pw := rfl
@[simp] theorem State.chip_emit (s : State) (o : Out) : (s.emit o).chip = s.chip := rfl
@[simp] theorem State.nim_emit (s : State) (o : Out) : (s.emit o).nim = s.nim := rfl
@[simp] theorem State.spi_emit (s : State) (o : Out) : (s.emit o).spi = s.spi := rfl
@[simp] theorem State.sec_emit (s : State) (o : Out) : (s.emit o).sec = s.sec := rfl
@[simp] theorem State.treeTime_emit (s : State) (o : Out) : (s.emit o).treeTime = s.treeTime := rfl
@[simp] theorem State.sfStarted_emit (s : State) (o : Out) : (s.emit o).sfStarted = s.sfStarted := rfl
@[simp] theorem State.groupKnown_emit (s : State) (o : Out) : (s.emit o).groupKnown = s.groupKnown := rfl
@[simp] theorem State.zoneEffect_emit (s : State) (o : Out) : (s.emit o).zoneEffect = s.zoneEffect := rfl
@[simp] theorem State.evq_emit (s : State) (o : Out) : (s.emit o).evq = s.evq := rfl
@[simp] theorem State.evSeq_emit (s : State) (o : Out) : (s.emit o).evSeq = s.evSeq := rfl
@[simp] theorem State.limited_emit (s : State) (o : Out) : (s.emit o).limited = s.limited := rfl
@[simp] theorem State.certList_emit (s : State) (o : Out) : (s.emit o).certList = s.certList := rfl

@[simp] theorem State.pending_answer (s : State) (c : Nat) : (s.answer c).pending = s.pending := rfl
@[simp] theorem State.out_answer (s : State) (c : Nat) : (s.answer c).out = s.out ++ [.status c []] := rfl
@[simp] theorem State.fresh_answer (s : State) (c : Nat) : (s.answer c).fresh = s.fresh := rfl
@[simp] theorem State.regs_answer (s : State) (c : Nat) : (s.answer c).regs = s.regs := rfl
@[simp] theorem State.link_answer (s : State) (c : Nat) : (s.answer c).link = s.link := rfl
@[simp] theorem State.planStore_answer (s : State) (c : Nat) : (s.answer c).planStore = s.planStore := rfl
@[simp] theorem State.routes_answer (s : State) (c : Nat) : (s.answer c).routes = s.routes := rfl
@[simp] theorem State.lossMark_answer (s : State) (c : Nat) : (s.answer c).lossMark = s.lossMark := rfl
@[simp] theorem State.horizon_answer (s : State) (c : Nat) : (s.answer c).horizon = s.horizon := rfl
@[simp] theorem State.points_answer (s : State) (c : Nat) : (s.answer c).points = s.points := rfl
@[simp] theorem State.pointGen_answer (s : State) (c : Nat) : (s.answer c).pointGen = s.pointGen := rfl
@[simp] theorem State.tun_answer (s : State) (c : Nat) : (s.answer c).tun = s.tun := rfl
@[simp] theorem State.sw_answer (s : State) (c : Nat) : (s.answer c).sw = s.sw := rfl
@[simp] theorem State.tm_answer (s : State) (c : Nat) : (s.answer c).tm = s.tm := rfl
@[simp] theorem State.fld_answer (s : State) (c : Nat) : (s.answer c).fld = s.fld := rfl
@[simp] theorem State.eth_answer (s : State) (c : Nat) : (s.answer c).eth = s.eth := rfl
@[simp] theorem State.pcb_answer (s : State) (c : Nat) : (s.answer c).pcb = s.pcb := rfl
@[simp] theorem State.dp_answer (s : State) (c : Nat) : (s.answer c).dp = s.dp := rfl
@[simp] theorem State.usb_answer (s : State) (c : Nat) : (s.answer c).usb = s.usb := rfl
@[simp] theorem State.tc_answer (s : State) (c : Nat) : (s.answer c).tc = s.tc := rfl
@[simp] theorem State.pw_answer (s : State) (c : Nat) : (s.answer c).pw = s.pw := rfl
@[simp] theorem State.chip_answer (s : State) (c : Nat) : (s.answer c).chip = s.chip := rfl
@[simp] theorem State.nim_answer (s : State) (c : Nat) : (s.answer c).nim = s.nim := rfl
@[simp] theorem State.spi_answer (s : State) (c : Nat) : (s.answer c).spi = s.spi := rfl
@[simp] theorem State.sec_answer (s : State) (c : Nat) : (s.answer c).sec = s.sec := rfl
@[simp] theorem State.treeTime_answer (s : State) (c : Nat) : (s.answer c).treeTime = s.treeTime := rfl
@[simp] theorem State.sfStarted_answer (s : State) (c : Nat) : (s.answer c).sfStarted = s.sfStarted := rfl
@[simp] theorem State.groupKnown_answer (s : State) (c : Nat) : (s.answer c).groupKnown = s.groupKnown := rfl
@[simp] theorem State.zoneEffect_answer (s : State) (c : Nat) : (s.answer c).zoneEffect = s.zoneEffect := rfl
@[simp] theorem State.evq_answer (s : State) (c : Nat) : (s.answer c).evq = s.evq := rfl
@[simp] theorem State.evSeq_answer (s : State) (c : Nat) : (s.answer c).evSeq = s.evSeq := rfl
@[simp] theorem State.limited_answer (s : State) (c : Nat) : (s.answer c).limited = s.limited := rfl
@[simp] theorem State.news_answer (s : State) (c : Nat) : (s.answer c).news = s.news := rfl
@[simp] theorem State.certList_answer (s : State) (c : Nat) : (s.answer c).certList = s.certList := rfl

@[simp] theorem State.pending_drew (s : State) : (s.drew).pending = s.pending := rfl
@[simp] theorem State.fresh_drew (s : State) : (s.drew).fresh = s.fresh + 1 := rfl
@[simp] theorem State.regs_drew (s : State) : (s.drew).regs = s.regs := rfl
@[simp] theorem State.link_drew (s : State) : (s.drew).link = s.link := rfl
@[simp] theorem State.planStore_drew (s : State) : (s.drew).planStore = s.planStore := rfl
@[simp] theorem State.routes_drew (s : State) : (s.drew).routes = s.routes := rfl
@[simp] theorem State.lossMark_drew (s : State) : (s.drew).lossMark = s.lossMark := rfl
@[simp] theorem State.horizon_drew (s : State) : (s.drew).horizon = s.horizon := rfl
@[simp] theorem State.points_drew (s : State) : (s.drew).points = s.points := rfl
@[simp] theorem State.pointGen_drew (s : State) : (s.drew).pointGen = s.pointGen := rfl
@[simp] theorem State.tun_drew (s : State) : (s.drew).tun = s.tun := rfl
@[simp] theorem State.sw_drew (s : State) : (s.drew).sw = s.sw := rfl
@[simp] theorem State.tm_drew (s : State) : (s.drew).tm = s.tm := rfl
@[simp] theorem State.fld_drew (s : State) : (s.drew).fld = s.fld := rfl
@[simp] theorem State.eth_drew (s : State) : (s.drew).eth = s.eth := rfl
@[simp] theorem State.pcb_drew (s : State) : (s.drew).pcb = s.pcb := rfl
@[simp] theorem State.dp_drew (s : State) : (s.drew).dp = s.dp := rfl
@[simp] theorem State.usb_drew (s : State) : (s.drew).usb = s.usb := rfl
@[simp] theorem State.tc_drew (s : State) : (s.drew).tc = s.tc := rfl
@[simp] theorem State.pw_drew (s : State) : (s.drew).pw = s.pw := rfl
@[simp] theorem State.chip_drew (s : State) : (s.drew).chip = s.chip := rfl
@[simp] theorem State.nim_drew (s : State) : (s.drew).nim = s.nim := rfl
@[simp] theorem State.spi_drew (s : State) : (s.drew).spi = s.spi := rfl
@[simp] theorem State.sec_drew (s : State) : (s.drew).sec = s.sec := rfl
@[simp] theorem State.treeTime_drew (s : State) : (s.drew).treeTime = s.treeTime := rfl
@[simp] theorem State.sfStarted_drew (s : State) : (s.drew).sfStarted = s.sfStarted := rfl
@[simp] theorem State.groupKnown_drew (s : State) : (s.drew).groupKnown = s.groupKnown := rfl
@[simp] theorem State.zoneEffect_drew (s : State) : (s.drew).zoneEffect = s.zoneEffect := rfl
@[simp] theorem State.evq_drew (s : State) : (s.drew).evq = s.evq := rfl
@[simp] theorem State.evSeq_drew (s : State) : (s.drew).evSeq = s.evSeq := rfl
@[simp] theorem State.limited_drew (s : State) : (s.drew).limited = s.limited := rfl
@[simp] theorem State.certList_drew (s : State) : (s.drew).certList = s.certList := rfl

@[simp] theorem State.pending_setLk (s : State) (p : Nat) (l : Link) : (s.setLk p l).pending = s.pending := rfl
@[simp] theorem State.out_setLk (s : State) (p : Nat) (l : Link) : (s.setLk p l).out = s.out := rfl
@[simp] theorem State.fresh_setLk (s : State) (p : Nat) (l : Link) : (s.setLk p l).fresh = s.fresh := rfl
@[simp] theorem State.regs_setLk (s : State) (p : Nat) (l : Link) : (s.setLk p l).regs = s.regs := rfl
@[simp] theorem State.link_setLk (s : State) (p : Nat) (l : Link) : (s.setLk p l).link = NMap.set s.link Link.init p l := rfl
@[simp] theorem State.planStore_setLk (s : State) (p : Nat) (l : Link) : (s.setLk p l).planStore = s.planStore := rfl
@[simp] theorem State.routes_setLk (s : State) (p : Nat) (l : Link) : (s.setLk p l).routes = s.routes := rfl
@[simp] theorem State.lossMark_setLk (s : State) (p : Nat) (l : Link) : (s.setLk p l).lossMark = s.lossMark := rfl
@[simp] theorem State.horizon_setLk (s : State) (p : Nat) (l : Link) : (s.setLk p l).horizon = s.horizon := rfl
@[simp] theorem State.points_setLk (s : State) (p : Nat) (l : Link) : (s.setLk p l).points = s.points := rfl
@[simp] theorem State.pointGen_setLk (s : State) (p : Nat) (l : Link) : (s.setLk p l).pointGen = s.pointGen := rfl
@[simp] theorem State.tun_setLk (s : State) (p : Nat) (l : Link) : (s.setLk p l).tun = s.tun := rfl
@[simp] theorem State.sw_setLk (s : State) (p : Nat) (l : Link) : (s.setLk p l).sw = s.sw := rfl
@[simp] theorem State.tm_setLk (s : State) (p : Nat) (l : Link) : (s.setLk p l).tm = s.tm := rfl
@[simp] theorem State.fld_setLk (s : State) (p : Nat) (l : Link) : (s.setLk p l).fld = s.fld := rfl
@[simp] theorem State.eth_setLk (s : State) (p : Nat) (l : Link) : (s.setLk p l).eth = s.eth := rfl
@[simp] theorem State.pcb_setLk (s : State) (p : Nat) (l : Link) : (s.setLk p l).pcb = s.pcb := rfl
@[simp] theorem State.dp_setLk (s : State) (p : Nat) (l : Link) : (s.setLk p l).dp = s.dp := rfl
@[simp] theorem State.usb_setLk (s : State) (p : Nat) (l : Link) : (s.setLk p l).usb = s.usb := rfl
@[simp] theorem State.tc_setLk (s : State) (p : Nat) (l : Link) : (s.setLk p l).tc = s.tc := rfl
@[simp] theorem State.pw_setLk (s : State) (p : Nat) (l : Link) : (s.setLk p l).pw = s.pw := rfl
@[simp] theorem State.chip_setLk (s : State) (p : Nat) (l : Link) : (s.setLk p l).chip = s.chip := rfl
@[simp] theorem State.nim_setLk (s : State) (p : Nat) (l : Link) : (s.setLk p l).nim = s.nim := rfl
@[simp] theorem State.spi_setLk (s : State) (p : Nat) (l : Link) : (s.setLk p l).spi = s.spi := rfl
@[simp] theorem State.sec_setLk (s : State) (p : Nat) (l : Link) : (s.setLk p l).sec = s.sec := rfl
@[simp] theorem State.treeTime_setLk (s : State) (p : Nat) (l : Link) : (s.setLk p l).treeTime = s.treeTime := rfl
@[simp] theorem State.sfStarted_setLk (s : State) (p : Nat) (l : Link) : (s.setLk p l).sfStarted = s.sfStarted := rfl
@[simp] theorem State.groupKnown_setLk (s : State) (p : Nat) (l : Link) : (s.setLk p l).groupKnown = s.groupKnown := rfl
@[simp] theorem State.zoneEffect_setLk (s : State) (p : Nat) (l : Link) : (s.setLk p l).zoneEffect = s.zoneEffect := rfl
@[simp] theorem State.evq_setLk (s : State) (p : Nat) (l : Link) : (s.setLk p l).evq = s.evq := rfl
@[simp] theorem State.evSeq_setLk (s : State) (p : Nat) (l : Link) : (s.setLk p l).evSeq = s.evSeq := rfl
@[simp] theorem State.limited_setLk (s : State) (p : Nat) (l : Link) : (s.setLk p l).limited = s.limited := rfl
@[simp] theorem State.news_setLk (s : State) (p : Nat) (l : Link) : (s.setLk p l).news = s.news := rfl
@[simp] theorem State.certList_setLk (s : State) (p : Nat) (l : Link) : (s.setLk p l).certList = s.certList := rfl

@[simp] theorem State.pending_modLk (s : State) (p : Nat) (g : Link → Link) : (s.modLk p g).pending = s.pending := rfl
@[simp] theorem State.fresh_modLk (s : State) (p : Nat) (g : Link → Link) : (s.modLk p g).fresh = s.fresh := rfl
@[simp] theorem State.regs_modLk (s : State) (p : Nat) (g : Link → Link) : (s.modLk p g).regs = s.regs := rfl
@[simp] theorem State.link_modLk (s : State) (p : Nat) (g : Link → Link) : (s.modLk p g).link = NMap.set s.link Link.init p (g (s.lk p)) := rfl
@[simp] theorem State.planStore_modLk (s : State) (p : Nat) (g : Link → Link) : (s.modLk p g).planStore = s.planStore := rfl
@[simp] theorem State.routes_modLk (s : State) (p : Nat) (g : Link → Link) : (s.modLk p g).routes = s.routes := rfl
@[simp] theorem State.lossMark_modLk (s : State) (p : Nat) (g : Link → Link) : (s.modLk p g).lossMark = s.lossMark := rfl
@[simp] theorem State.horizon_modLk (s : State) (p : Nat) (g : Link → Link) : (s.modLk p g).horizon = s.horizon := rfl
@[simp] theorem State.points_modLk (s : State) (p : Nat) (g : Link → Link) : (s.modLk p g).points = s.points := rfl
@[simp] theorem State.pointGen_modLk (s : State) (p : Nat) (g : Link → Link) : (s.modLk p g).pointGen = s.pointGen := rfl
@[simp] theorem State.tun_modLk (s : State) (p : Nat) (g : Link → Link) : (s.modLk p g).tun = s.tun := rfl
@[simp] theorem State.sw_modLk (s : State) (p : Nat) (g : Link → Link) : (s.modLk p g).sw = s.sw := rfl
@[simp] theorem State.tm_modLk (s : State) (p : Nat) (g : Link → Link) : (s.modLk p g).tm = s.tm := rfl
@[simp] theorem State.fld_modLk (s : State) (p : Nat) (g : Link → Link) : (s.modLk p g).fld = s.fld := rfl
@[simp] theorem State.eth_modLk (s : State) (p : Nat) (g : Link → Link) : (s.modLk p g).eth = s.eth := rfl
@[simp] theorem State.pcb_modLk (s : State) (p : Nat) (g : Link → Link) : (s.modLk p g).pcb = s.pcb := rfl
@[simp] theorem State.dp_modLk (s : State) (p : Nat) (g : Link → Link) : (s.modLk p g).dp = s.dp := rfl
@[simp] theorem State.usb_modLk (s : State) (p : Nat) (g : Link → Link) : (s.modLk p g).usb = s.usb := rfl
@[simp] theorem State.tc_modLk (s : State) (p : Nat) (g : Link → Link) : (s.modLk p g).tc = s.tc := rfl
@[simp] theorem State.pw_modLk (s : State) (p : Nat) (g : Link → Link) : (s.modLk p g).pw = s.pw := rfl
@[simp] theorem State.chip_modLk (s : State) (p : Nat) (g : Link → Link) : (s.modLk p g).chip = s.chip := rfl
@[simp] theorem State.nim_modLk (s : State) (p : Nat) (g : Link → Link) : (s.modLk p g).nim = s.nim := rfl
@[simp] theorem State.spi_modLk (s : State) (p : Nat) (g : Link → Link) : (s.modLk p g).spi = s.spi := rfl
@[simp] theorem State.sec_modLk (s : State) (p : Nat) (g : Link → Link) : (s.modLk p g).sec = s.sec := rfl
@[simp] theorem State.treeTime_modLk (s : State) (p : Nat) (g : Link → Link) : (s.modLk p g).treeTime = s.treeTime := rfl
@[simp] theorem State.sfStarted_modLk (s : State) (p : Nat) (g : Link → Link) : (s.modLk p g).sfStarted = s.sfStarted := rfl
@[simp] theorem State.groupKnown_modLk (s : State) (p : Nat) (g : Link → Link) : (s.modLk p g).groupKnown = s.groupKnown := rfl
@[simp] theorem State.zoneEffect_modLk (s : State) (p : Nat) (g : Link → Link) : (s.modLk p g).zoneEffect = s.zoneEffect := rfl
@[simp] theorem State.evq_modLk (s : State) (p : Nat) (g : Link → Link) : (s.modLk p g).evq = s.evq := rfl
@[simp] theorem State.evSeq_modLk (s : State) (p : Nat) (g : Link → Link) : (s.modLk p g).evSeq = s.evSeq := rfl
@[simp] theorem State.limited_modLk (s : State) (p : Nat) (g : Link → Link) : (s.modLk p g).limited = s.limited := rfl
@[simp] theorem State.certList_modLk (s : State) (p : Nat) (g : Link → Link) : (s.modLk p g).certList = s.certList := rfl

@[simp] theorem State.pending_setTc (s : State) (n : Nat) (v : Tc) : (s.setTc n v).pending = s.pending := rfl
@[simp] theorem State.out_setTc (s : State) (n : Nat) (v : Tc) : (s.setTc n v).out = s.out := rfl
@[simp] theorem State.fresh_setTc (s : State) (n : Nat) (v : Tc) : (s.setTc n v).fresh = s.fresh := rfl
@[simp] theorem State.regs_setTc (s : State) (n : Nat) (v : Tc) : (s.setTc n v).regs = s.regs := rfl
@[simp] theorem State.link_setTc (s : State) (n : Nat) (v : Tc) : (s.setTc n v).link = s.link := rfl
@[simp] theorem State.planStore_setTc (s : State) (n : Nat) (v : Tc) : (s.setTc n v).planStore = s.planStore := rfl
@[simp] theorem State.routes_setTc (s : State) (n : Nat) (v : Tc) : (s.setTc n v).routes = s.routes := rfl
@[simp] theorem State.lossMark_setTc (s : State) (n : Nat) (v : Tc) : (s.setTc n v).lossMark = s.lossMark := rfl
@[simp] theorem State.horizon_setTc (s : State) (n : Nat) (v : Tc) : (s.setTc n v).horizon = s.horizon := rfl
@[simp] theorem State.points_setTc (s : State) (n : Nat) (v : Tc) : (s.setTc n v).points = s.points := rfl
@[simp] theorem State.pointGen_setTc (s : State) (n : Nat) (v : Tc) : (s.setTc n v).pointGen = s.pointGen := rfl
@[simp] theorem State.tun_setTc (s : State) (n : Nat) (v : Tc) : (s.setTc n v).tun = s.tun := rfl
@[simp] theorem State.sw_setTc (s : State) (n : Nat) (v : Tc) : (s.setTc n v).sw = s.sw := rfl
@[simp] theorem State.tm_setTc (s : State) (n : Nat) (v : Tc) : (s.setTc n v).tm = s.tm := rfl
@[simp] theorem State.fld_setTc (s : State) (n : Nat) (v : Tc) : (s.setTc n v).fld = s.fld := rfl
@[simp] theorem State.eth_setTc (s : State) (n : Nat) (v : Tc) : (s.setTc n v).eth = s.eth := rfl
@[simp] theorem State.pcb_setTc (s : State) (n : Nat) (v : Tc) : (s.setTc n v).pcb = s.pcb := rfl
@[simp] theorem State.dp_setTc (s : State) (n : Nat) (v : Tc) : (s.setTc n v).dp = s.dp := rfl
@[simp] theorem State.usb_setTc (s : State) (n : Nat) (v : Tc) : (s.setTc n v).usb = s.usb := rfl
@[simp] theorem State.tc_setTc (s : State) (n : Nat) (v : Tc) : (s.setTc n v).tc = NMap.set s.tc Tc.init n v := rfl
@[simp] theorem State.pw_setTc (s : State) (n : Nat) (v : Tc) : (s.setTc n v).pw = s.pw := rfl
@[simp] theorem State.chip_setTc (s : State) (n : Nat) (v : Tc) : (s.setTc n v).chip = s.chip := rfl
@[simp] theorem State.nim_setTc (s : State) (n : Nat) (v : Tc) : (s.setTc n v).nim = s.nim := rfl
@[simp] theorem State.spi_setTc (s : State) (n : Nat) (v : Tc) : (s.setTc n v).spi = s.spi := rfl
@[simp] theorem State.sec_setTc (s : State) (n : Nat) (v : Tc) : (s.setTc n v).sec = s.sec := rfl
@[simp] theorem State.treeTime_setTc (s : State) (n : Nat) (v : Tc) : (s.setTc n v).treeTime = s.treeTime := rfl
@[simp] theorem State.sfStarted_setTc (s : State) (n : Nat) (v : Tc) : (s.setTc n v).sfStarted = s.sfStarted := rfl
@[simp] theorem State.groupKnown_setTc (s : State) (n : Nat) (v : Tc) : (s.setTc n v).groupKnown = s.groupKnown := rfl
@[simp] theorem State.zoneEffect_setTc (s : State) (n : Nat) (v : Tc) : (s.setTc n v).zoneEffect = s.zoneEffect := rfl
@[simp] theorem State.evq_setTc (s : State) (n : Nat) (v : Tc) : (s.setTc n v).evq = s.evq := rfl
@[simp] theorem State.evSeq_setTc (s : State) (n : Nat) (v : Tc) : (s.setTc n v).evSeq = s.evSeq := rfl
@[simp] theorem State.limited_setTc (s : State) (n : Nat) (v : Tc) : (s.setTc n v).limited = s.limited := rfl
@[simp] theorem State.news_setTc (s : State) (n : Nat) (v : Tc) : (s.setTc n v).news = s.news := rfl
@[simp] theorem State.certList_setTc (s : State) (n : Nat) (v : Tc) : (s.setTc n v).certList = s.certList := rfl
@[simp] theorem State.rd_setTc (s : State) (n : Nat) (v : Tc) (f : Field) (i' : Nat) : (s.setTc n v).rd f i' = s.rd f i' := rfl

@[simp] theorem State.pending_setDp (s : State) (d : Nat) (v : Dp) : (s.setDp d v).pending = s.pending := rfl
@[simp] theorem State.out_setDp (s : State) (d : Nat) (v : Dp) : (s.setDp d v).out = s.out := rfl
@[simp] theorem State.fresh_setDp (s : State) (d : Nat) (v : Dp) : (s.setDp d v).fresh = s.fresh := rfl
@[simp] theorem State.regs_setDp (s : State) (d : Nat) (v : Dp) : (s.setDp d v).regs = s.regs := rfl
@[simp] theorem State.link_setDp (s : State) (d : Nat) (v : Dp) : (s.setDp d v).link = s.link := rfl
@[simp] theorem State.planStore_setDp (s : State) (d : Nat) (v : Dp) : (s.setDp d v).planStore = s.planStore := rfl
@[simp] theorem State.routes_setDp (s : State) (d : Nat) (v : Dp) : (s.setDp d v).routes = s.routes := rfl
@[simp] theorem State.lossMark_setDp (s : State) (d : Nat) (v : Dp) : (s.setDp d v).lossMark = s.lossMark := rfl
@[simp] theorem State.horizon_setDp (s : State) (d : Nat) (v : Dp) : (s.setDp d v).horizon = s.horizon := rfl
@[simp] theorem State.points_setDp (s : State) (d : Nat) (v : Dp) : (s.setDp d v).points = s.points := rfl
@[simp] theorem State.pointGen_setDp (s : State) (d : Nat) (v : Dp) : (s.setDp d v).pointGen = s.pointGen := rfl
@[simp] theorem State.tun_setDp (s : State) (d : Nat) (v : Dp) : (s.setDp d v).tun = s.tun := rfl
@[simp] theorem State.sw_setDp (s : State) (d : Nat) (v : Dp) : (s.setDp d v).sw = s.sw := rfl
@[simp] theorem State.tm_setDp (s : State) (d : Nat) (v : Dp) : (s.setDp d v).tm = s.tm := rfl
@[simp] theorem State.fld_setDp (s : State) (d : Nat) (v : Dp) : (s.setDp d v).fld = s.fld := rfl
@[simp] theorem State.eth_setDp (s : State) (d : Nat) (v : Dp) : (s.setDp d v).eth = s.eth := rfl
@[simp] theorem State.pcb_setDp (s : State) (d : Nat) (v : Dp) : (s.setDp d v).pcb = s.pcb := rfl
@[simp] theorem State.dp_setDp (s : State) (d : Nat) (v : Dp) : (s.setDp d v).dp = NMap.set s.dp Dp.init d v := rfl
@[simp] theorem State.usb_setDp (s : State) (d : Nat) (v : Dp) : (s.setDp d v).usb = s.usb := rfl
@[simp] theorem State.tc_setDp (s : State) (d : Nat) (v : Dp) : (s.setDp d v).tc = s.tc := rfl
@[simp] theorem State.pw_setDp (s : State) (d : Nat) (v : Dp) : (s.setDp d v).pw = s.pw := rfl
@[simp] theorem State.chip_setDp (s : State) (d : Nat) (v : Dp) : (s.setDp d v).chip = s.chip := rfl
@[simp] theorem State.nim_setDp (s : State) (d : Nat) (v : Dp) : (s.setDp d v).nim = s.nim := rfl
@[simp] theorem State.spi_setDp (s : State) (d : Nat) (v : Dp) : (s.setDp d v).spi = s.spi := rfl
@[simp] theorem State.sec_setDp (s : State) (d : Nat) (v : Dp) : (s.setDp d v).sec = s.sec := rfl
@[simp] theorem State.treeTime_setDp (s : State) (d : Nat) (v : Dp) : (s.setDp d v).treeTime = s.treeTime := rfl
@[simp] theorem State.sfStarted_setDp (s : State) (d : Nat) (v : Dp) : (s.setDp d v).sfStarted = s.sfStarted := rfl
@[simp] theorem State.groupKnown_setDp (s : State) (d : Nat) (v : Dp) : (s.setDp d v).groupKnown = s.groupKnown := rfl
@[simp] theorem State.zoneEffect_setDp (s : State) (d : Nat) (v : Dp) : (s.setDp d v).zoneEffect = s.zoneEffect := rfl
@[simp] theorem State.evq_setDp (s : State) (d : Nat) (v : Dp) : (s.setDp d v).evq = s.evq := rfl
@[simp] theorem State.evSeq_setDp (s : State) (d : Nat) (v : Dp) : (s.setDp d v).evSeq = s.evSeq := rfl
@[simp] theorem State.limited_setDp (s : State) (d : Nat) (v : Dp) : (s.setDp d v).limited = s.limited := rfl
@[simp] theorem State.news_setDp (s : State) (d : Nat) (v : Dp) : (s.setDp d v).news = s.news := rfl
@[simp] theorem State.certList_setDp (s : State) (d : Nat) (v : Dp) : (s.setDp d v).certList = s.certList := rfl
@[simp] theorem State.rd_setDp (s : State) (d : Nat) (v : Dp) (f : Field) (i' : Nat) : (s.setDp d v).rd f i' = s.rd f i' := rfl

@[simp] theorem State.pending_setRoute (s : State) (i w v : Nat) : (s.setRoute i w v).pending = s.pending := rfl
@[simp] theorem State.out_setRoute (s : State) (i w v : Nat) : (s.setRoute i w v).out = s.out := rfl
@[simp] theorem State.fresh_setRoute (s : State) (i w v : Nat) : (s.setRoute i w v).fresh = s.fresh := rfl
@[simp] theorem State.regs_setRoute (s : State) (i w v : Nat) : (s.setRoute i w v).regs = s.regs := rfl
@[simp] theorem State.link_setRoute (s : State) (i w v : Nat) : (s.setRoute i w v).link = s.link := rfl
@[simp] theorem State.planStore_setRoute (s : State) (i w v : Nat) : (s.setRoute i w v).planStore = s.planStore := rfl
@[simp] theorem State.routes_setRoute (s : State) (i w v : Nat) : (s.setRoute i w v).routes = NMap.set s.routes 0 (i * 4 + w) v := rfl
@[simp] theorem State.lossMark_setRoute (s : State) (i w v : Nat) : (s.setRoute i w v).lossMark = s.lossMark := rfl
@[simp] theorem State.horizon_setRoute (s : State) (i w v : Nat) : (s.setRoute i w v).horizon = s.horizon := rfl
@[simp] theorem State.points_setRoute (s : State) (i w v : Nat) : (s.setRoute i w v).points = s.points := rfl
@[simp] theorem State.pointGen_setRoute (s : State) (i w v : Nat) : (s.setRoute i w v).pointGen = s.pointGen := rfl
@[simp] theorem State.tun_setRoute (s : State) (i w v : Nat) : (s.setRoute i w v).tun = s.tun := rfl
@[simp] theorem State.sw_setRoute (s : State) (i w v : Nat) : (s.setRoute i w v).sw = s.sw := rfl
@[simp] theorem State.tm_setRoute (s : State) (i w v : Nat) : (s.setRoute i w v).tm = s.tm := rfl
@[simp] theorem State.fld_setRoute (s : State) (i w v : Nat) : (s.setRoute i w v).fld = s.fld := rfl
@[simp] theorem State.eth_setRoute (s : State) (i w v : Nat) : (s.setRoute i w v).eth = s.eth := rfl
@[simp] theorem State.pcb_setRoute (s : State) (i w v : Nat) : (s.setRoute i w v).pcb = s.pcb := rfl
@[simp] theorem State.dp_setRoute (s : State) (i w v : Nat) : (s.setRoute i w v).dp = s.dp := rfl
@[simp] theorem State.usb_setRoute (s : State) (i w v : Nat) : (s.setRoute i w v).usb = s.usb := rfl
@[simp] theorem State.tc_setRoute (s : State) (i w v : Nat) : (s.setRoute i w v).tc = s.tc := rfl
@[simp] theorem State.pw_setRoute (s : State) (i w v : Nat) : (s.setRoute i w v).pw = s.pw := rfl
@[simp] theorem State.chip_setRoute (s : State) (i w v : Nat) : (s.setRoute i w v).chip = s.chip := rfl
@[simp] theorem State.nim_setRoute (s : State) (i w v : Nat) : (s.setRoute i w v).nim = s.nim := rfl
@[simp] theorem State.spi_setRoute (s : State) (i w v : Nat) : (s.setRoute i w v).spi = s.spi := rfl
@[simp] theorem State.sec_setRoute (s : State) (i w v : Nat) : (s.setRoute i w v).sec = s.sec := rfl
@[simp] theorem State.treeTime_setRoute (s : State) (i w v : Nat) : (s.setRoute i w v).treeTime = s.treeTime := rfl
@[simp] theorem State.sfStarted_setRoute (s : State) (i w v : Nat) : (s.setRoute i w v).sfStarted = s.sfStarted := rfl
@[simp] theorem State.groupKnown_setRoute (s : State) (i w v : Nat) : (s.setRoute i w v).groupKnown = s.groupKnown := rfl
@[simp] theorem State.zoneEffect_setRoute (s : State) (i w v : Nat) : (s.setRoute i w v).zoneEffect = s.zoneEffect := rfl
@[simp] theorem State.evq_setRoute (s : State) (i w v : Nat) : (s.setRoute i w v).evq = s.evq := rfl
@[simp] theorem State.evSeq_setRoute (s : State) (i w v : Nat) : (s.setRoute i w v).evSeq = s.evSeq := rfl
@[simp] theorem State.limited_setRoute (s : State) (i w v : Nat) : (s.setRoute i w v).limited = s.limited := rfl
@[simp] theorem State.news_setRoute (s : State) (i w v : Nat) : (s.setRoute i w v).news = s.news := rfl
@[simp] theorem State.certList_setRoute (s : State) (i w v : Nat) : (s.setRoute i w v).certList = s.certList := rfl
@[simp] theorem State.rd_setRoute (s : State) (i w v : Nat) (f : Field) (i' : Nat) : (s.setRoute i w v).rd f i' = s.rd f i' := rfl

@[simp] theorem State.pending_modSw (s : State) (g : Sw → Sw) : (s.modSw g).pending = s.pending := rfl
@[simp] theorem State.out_modSw (s : State) (g : Sw → Sw) : (s.modSw g).out = s.out := rfl
@[simp] theorem State.fresh_modSw (s : State) (g : Sw → Sw) : (s.modSw g).fresh = s.fresh := rfl
@[simp] theorem State.regs_modSw (s : State) (g : Sw → Sw) : (s.modSw g).regs = s.regs := rfl
@[simp] theorem State.link_modSw (s : State) (g : Sw → Sw) : (s.modSw g).link = s.link := rfl
@[simp] theorem State.planStore_modSw (s : State) (g : Sw → Sw) : (s.modSw g).planStore = s.planStore := rfl
@[simp] theorem State.routes_modSw (s : State) (g : Sw → Sw) : (s.modSw g).routes = s.routes := rfl
@[simp] theorem State.lossMark_modSw (s : State) (g : Sw → Sw) : (s.modSw g).lossMark = s.lossMark := rfl
@[simp] theorem State.horizon_modSw (s : State) (g : Sw → Sw) : (s.modSw g).horizon = s.horizon := rfl
@[simp] theorem State.points_modSw (s : State) (g : Sw → Sw) : (s.modSw g).points = s.points := rfl
@[simp] theorem State.pointGen_modSw (s : State) (g : Sw → Sw) : (s.modSw g).pointGen = s.pointGen := rfl
@[simp] theorem State.tun_modSw (s : State) (g : Sw → Sw) : (s.modSw g).tun = s.tun := rfl
@[simp] theorem State.sw_modSw (s : State) (g : Sw → Sw) : (s.modSw g).sw = g s.sw := rfl
@[simp] theorem State.tm_modSw (s : State) (g : Sw → Sw) : (s.modSw g).tm = s.tm := rfl
@[simp] theorem State.fld_modSw (s : State) (g : Sw → Sw) : (s.modSw g).fld = s.fld := rfl
@[simp] theorem State.eth_modSw (s : State) (g : Sw → Sw) : (s.modSw g).eth = s.eth := rfl
@[simp] theorem State.pcb_modSw (s : State) (g : Sw → Sw) : (s.modSw g).pcb = s.pcb := rfl
@[simp] theorem State.dp_modSw (s : State) (g : Sw → Sw) : (s.modSw g).dp = s.dp := rfl
@[simp] theorem State.usb_modSw (s : State) (g : Sw → Sw) : (s.modSw g).usb = s.usb := rfl
@[simp] theorem State.tc_modSw (s : State) (g : Sw → Sw) : (s.modSw g).tc = s.tc := rfl
@[simp] theorem State.pw_modSw (s : State) (g : Sw → Sw) : (s.modSw g).pw = s.pw := rfl
@[simp] theorem State.chip_modSw (s : State) (g : Sw → Sw) : (s.modSw g).chip = s.chip := rfl
@[simp] theorem State.nim_modSw (s : State) (g : Sw → Sw) : (s.modSw g).nim = s.nim := rfl
@[simp] theorem State.spi_modSw (s : State) (g : Sw → Sw) : (s.modSw g).spi = s.spi := rfl
@[simp] theorem State.sec_modSw (s : State) (g : Sw → Sw) : (s.modSw g).sec = s.sec := rfl
@[simp] theorem State.treeTime_modSw (s : State) (g : Sw → Sw) : (s.modSw g).treeTime = s.treeTime := rfl
@[simp] theorem State.sfStarted_modSw (s : State) (g : Sw → Sw) : (s.modSw g).sfStarted = s.sfStarted := rfl
@[simp] theorem State.groupKnown_modSw (s : State) (g : Sw → Sw) : (s.modSw g).groupKnown = s.groupKnown := rfl
@[simp] theorem State.zoneEffect_modSw (s : State) (g : Sw → Sw) : (s.modSw g).zoneEffect = s.zoneEffect := rfl
@[simp] theorem State.evq_modSw (s : State) (g : Sw → Sw) : (s.modSw g).evq = s.evq := rfl
@[simp] theorem State.evSeq_modSw (s : State) (g : Sw → Sw) : (s.modSw g).evSeq = s.evSeq := rfl
@[simp] theorem State.limited_modSw (s : State) (g : Sw → Sw) : (s.modSw g).limited = s.limited := rfl
@[simp] theorem State.news_modSw (s : State) (g : Sw → Sw) : (s.modSw g).news = s.news := rfl
@[simp] theorem State.certList_modSw (s : State) (g : Sw → Sw) : (s.modSw g).certList = s.certList := rfl
@[simp] theorem State.rd_modSw (s : State) (g : Sw → Sw) (f : Field) (i' : Nat) : (s.modSw g).rd f i' = s.rd f i' := rfl

@[simp] theorem State.pending_modTm (s : State) (g : Tm → Tm) : (s.modTm g).pending = s.pending := rfl
@[simp] theorem State.out_modTm (s : State) (g : Tm → Tm) : (s.modTm g).out = s.out := rfl
@[simp] theorem State.fresh_modTm (s : State) (g : Tm → Tm) : (s.modTm g).fresh = s.fresh := rfl
@[simp] theorem State.regs_modTm (s : State) (g : Tm → Tm) : (s.modTm g).regs = s.regs := rfl
@[simp] theorem State.link_modTm (s : State) (g : Tm → Tm) : (s.modTm g).link = s.link := rfl
@[simp] theorem State.planStore_modTm (s : State) (g : Tm → Tm) : (s.modTm g).planStore = s.planStore := rfl
@[simp] theorem State.routes_modTm (s : State) (g : Tm → Tm) : (s.modTm g).routes = s.routes := rfl
@[simp] theorem State.lossMark_modTm (s : State) (g : Tm → Tm) : (s.modTm g).lossMark = s.lossMark := rfl
@[simp] theorem State.horizon_modTm (s : State) (g : Tm → Tm) : (s.modTm g).horizon = s.horizon := rfl
@[simp] theorem State.points_modTm (s : State) (g : Tm → Tm) : (s.modTm g).points = s.points := rfl
@[simp] theorem State.pointGen_modTm (s : State) (g : Tm → Tm) : (s.modTm g).pointGen = s.pointGen := rfl
@[simp] theorem State.tun_modTm (s : State) (g : Tm → Tm) : (s.modTm g).tun = s.tun := rfl
@[simp] theorem State.sw_modTm (s : State) (g : Tm → Tm) : (s.modTm g).sw = s.sw := rfl
@[simp] theorem State.tm_modTm (s : State) (g : Tm → Tm) : (s.modTm g).tm = g s.tm := rfl
@[simp] theorem State.fld_modTm (s : State) (g : Tm → Tm) : (s.modTm g).fld = s.fld := rfl
@[simp] theorem State.eth_modTm (s : State) (g : Tm → Tm) : (s.modTm g).eth = s.eth := rfl
@[simp] theorem State.pcb_modTm (s : State) (g : Tm → Tm) : (s.modTm g).pcb = s.pcb := rfl
@[simp] theorem State.dp_modTm (s : State) (g : Tm → Tm) : (s.modTm g).dp = s.dp := rfl
@[simp] theorem State.usb_modTm (s : State) (g : Tm → Tm) : (s.modTm g).usb = s.usb := rfl
@[simp] theorem State.tc_modTm (s : State) (g : Tm → Tm) : (s.modTm g).tc = s.tc := rfl
@[simp] theorem State.pw_modTm (s : State) (g : Tm → Tm) : (s.modTm g).pw = s.pw := rfl
@[simp] theorem State.chip_modTm (s : State) (g : Tm → Tm) : (s.modTm g).chip = s.chip := rfl
@[simp] theorem State.nim_modTm (s : State) (g : Tm → Tm) : (s.modTm g).nim = s.nim := rfl
@[simp] theorem State.spi_modTm (s : State) (g : Tm → Tm) : (s.modTm g).spi = s.spi := rfl
@[simp] theorem State.sec_modTm (s : State) (g : Tm → Tm) : (s.modTm g).sec = s.sec := rfl
@[simp] theorem State.treeTime_modTm (s : State) (g : Tm → Tm) : (s.modTm g).treeTime = s.treeTime := rfl
@[simp] theorem State.sfStarted_modTm (s : State) (g : Tm → Tm) : (s.modTm g).sfStarted = s.sfStarted := rfl
@[simp] theorem State.groupKnown_modTm (s : State) (g : Tm → Tm) : (s.modTm g).groupKnown = s.groupKnown := rfl
@[simp] theorem State.zoneEffect_modTm (s : State) (g : Tm → Tm) : (s.modTm g).zoneEffect = s.zoneEffect := rfl
@[simp] theorem State.evq_modTm (s : State) (g : Tm → Tm) : (s.modTm g).evq = s.evq := rfl
@[simp] theorem State.evSeq_modTm (s : State) (g : Tm → Tm) : (s.modTm g).evSeq = s.evSeq := rfl
@[simp] theorem State.limited_modTm (s : State) (g : Tm → Tm) : (s.modTm g).limited = s.limited := rfl
@[simp] theorem State.news_modTm (s : State) (g : Tm → Tm) : (s.modTm g).news = s.news := rfl
@[simp] theorem State.certList_modTm (s : State) (g : Tm → Tm) : (s.modTm g).certList = s.certList := rfl
@[simp] theorem State.rd_modTm (s : State) (g : Tm → Tm) (f : Field) (i' : Nat) : (s.modTm g).rd f i' = s.rd f i' := rfl

@[simp] theorem State.pending_modFld (s : State) (g : Fld → Fld) : (s.modFld g).pending = s.pending := rfl
@[simp] theorem State.out_modFld (s : State) (g : Fld → Fld) : (s.modFld g).out = s.out := rfl
@[simp] theorem State.fresh_modFld (s : State) (g : Fld → Fld) : (s.modFld g).fresh = s.fresh := rfl
@[simp] theorem State.regs_modFld (s : State) (g : Fld → Fld) : (s.modFld g).regs = s.regs := rfl
@[simp] theorem State.link_modFld (s : State) (g : Fld → Fld) : (s.modFld g).link = s.link := rfl
@[simp] theorem State.planStore_modFld (s : State) (g : Fld → Fld) : (s.modFld g).planStore = s.planStore := rfl
@[simp] theorem State.routes_modFld (s : State) (g : Fld → Fld) : (s.modFld g).routes = s.routes := rfl
@[simp] theorem State.lossMark_modFld (s : State) (g : Fld → Fld) : (s.modFld g).lossMark = s.lossMark := rfl
@[simp] theorem State.horizon_modFld (s : State) (g : Fld → Fld) : (s.modFld g).horizon = s.horizon := rfl
@[simp] theorem State.points_modFld (s : State) (g : Fld → Fld) : (s.modFld g).points = s.points := rfl
@[simp] theorem State.pointGen_modFld (s : State) (g : Fld → Fld) : (s.modFld g).pointGen = s.pointGen := rfl
@[simp] theorem State.tun_modFld (s : State) (g : Fld → Fld) : (s.modFld g).tun = s.tun := rfl
@[simp] theorem State.sw_modFld (s : State) (g : Fld → Fld) : (s.modFld g).sw = s.sw := rfl
@[simp] theorem State.tm_modFld (s : State) (g : Fld → Fld) : (s.modFld g).tm = s.tm := rfl
@[simp] theorem State.fld_modFld (s : State) (g : Fld → Fld) : (s.modFld g).fld = g s.fld := rfl
@[simp] theorem State.eth_modFld (s : State) (g : Fld → Fld) : (s.modFld g).eth = s.eth := rfl
@[simp] theorem State.pcb_modFld (s : State) (g : Fld → Fld) : (s.modFld g).pcb = s.pcb := rfl
@[simp] theorem State.dp_modFld (s : State) (g : Fld → Fld) : (s.modFld g).dp = s.dp := rfl
@[simp] theorem State.usb_modFld (s : State) (g : Fld → Fld) : (s.modFld g).usb = s.usb := rfl
@[simp] theorem State.tc_modFld (s : State) (g : Fld → Fld) : (s.modFld g).tc = s.tc := rfl
@[simp] theorem State.pw_modFld (s : State) (g : Fld → Fld) : (s.modFld g).pw = s.pw := rfl
@[simp] theorem State.chip_modFld (s : State) (g : Fld → Fld) : (s.modFld g).chip = s.chip := rfl
@[simp] theorem State.nim_modFld (s : State) (g : Fld → Fld) : (s.modFld g).nim = s.nim := rfl
@[simp] theorem State.spi_modFld (s : State) (g : Fld → Fld) : (s.modFld g).spi = s.spi := rfl
@[simp] theorem State.sec_modFld (s : State) (g : Fld → Fld) : (s.modFld g).sec = s.sec := rfl
@[simp] theorem State.treeTime_modFld (s : State) (g : Fld → Fld) : (s.modFld g).treeTime = s.treeTime := rfl
@[simp] theorem State.sfStarted_modFld (s : State) (g : Fld → Fld) : (s.modFld g).sfStarted = s.sfStarted := rfl
@[simp] theorem State.groupKnown_modFld (s : State) (g : Fld → Fld) : (s.modFld g).groupKnown = s.groupKnown := rfl
@[simp] theorem State.zoneEffect_modFld (s : State) (g : Fld → Fld) : (s.modFld g).zoneEffect = s.zoneEffect := rfl
@[simp] theorem State.evq_modFld (s : State) (g : Fld → Fld) : (s.modFld g).evq = s.evq := rfl
@[simp] theorem State.evSeq_modFld (s : State) (g : Fld → Fld) : (s.modFld g).evSeq = s.evSeq := rfl
@[simp] theorem State.limited_modFld (s : State) (g : Fld → Fld) : (s.modFld g).limited = s.limited := rfl
@[simp] theorem State.news_modFld (s : State) (g : Fld → Fld) : (s.modFld g).news = s.news := rfl
@[simp] theorem State.certList_modFld (s : State) (g : Fld → Fld) : (s.modFld g).certList = s.certList := rfl
@[simp] theorem State.rd_modFld (s : State) (g : Fld → Fld) (f : Field) (i' : Nat) : (s.modFld g).rd f i' = s.rd f i' := rfl

@[simp] theorem State.pending_modPcb (s : State) (g : Pcb → Pcb) : (s.modPcb g).pending = s.pending := rfl
@[simp] theorem State.out_modPcb (s : State) (g : Pcb → Pcb) : (s.modPcb g).out = s.out := rfl
@[simp] theorem State.fresh_modPcb (s : State) (g : Pcb → Pcb) : (s.modPcb g).fresh = s.fresh := rfl
@[simp] theorem State.regs_modPcb (s : State) (g : Pcb → Pcb) : (s.modPcb g).regs = s.regs := rfl
@[simp] theorem State.link_modPcb (s : State) (g : Pcb → Pcb) : (s.modPcb g).link = s.link := rfl
@[simp] theorem State.planStore_modPcb (s : State) (g : Pcb → Pcb) : (s.modPcb g).planStore = s.planStore := rfl
@[simp] theorem State.routes_modPcb (s : State) (g : Pcb → Pcb) : (s.modPcb g).routes = s.routes := rfl
@[simp] theorem State.lossMark_modPcb (s : State) (g : Pcb → Pcb) : (s.modPcb g).lossMark = s.lossMark := rfl
@[simp] theorem State.horizon_modPcb (s : State) (g : Pcb → Pcb) : (s.modPcb g).horizon = s.horizon := rfl
@[simp] theorem State.points_modPcb (s : State) (g : Pcb → Pcb) : (s.modPcb g).points = s.points := rfl
@[simp] theorem State.pointGen_modPcb (s : State) (g : Pcb → Pcb) : (s.modPcb g).pointGen = s.pointGen := rfl
@[simp] theorem State.tun_modPcb (s : State) (g : Pcb → Pcb) : (s.modPcb g).tun = s.tun := rfl
@[simp] theorem State.sw_modPcb (s : State) (g : Pcb → Pcb) : (s.modPcb g).sw = s.sw := rfl
@[simp] theorem State.tm_modPcb (s : State) (g : Pcb → Pcb) : (s.modPcb g).tm = s.tm := rfl
@[simp] theorem State.fld_modPcb (s : State) (g : Pcb → Pcb) : (s.modPcb g).fld = s.fld := rfl
@[simp] theorem State.eth_modPcb (s : State) (g : Pcb → Pcb) : (s.modPcb g).eth = s.eth := rfl
@[simp] theorem State.pcb_modPcb (s : State) (g : Pcb → Pcb) : (s.modPcb g).pcb = g s.pcb := rfl
@[simp] theorem State.dp_modPcb (s : State) (g : Pcb → Pcb) : (s.modPcb g).dp = s.dp := rfl
@[simp] theorem State.usb_modPcb (s : State) (g : Pcb → Pcb) : (s.modPcb g).usb = s.usb := rfl
@[simp] theorem State.tc_modPcb (s : State) (g : Pcb → Pcb) : (s.modPcb g).tc = s.tc := rfl
@[simp] theorem State.pw_modPcb (s : State) (g : Pcb → Pcb) : (s.modPcb g).pw = s.pw := rfl
@[simp] theorem State.chip_modPcb (s : State) (g : Pcb → Pcb) : (s.modPcb g).chip = s.chip := rfl
@[simp] theorem State.nim_modPcb (s : State) (g : Pcb → Pcb) : (s.modPcb g).nim = s.nim := rfl
@[simp] theorem State.spi_modPcb (s : State) (g : Pcb → Pcb) : (s.modPcb g).spi = s.spi := rfl
@[simp] theorem State.sec_modPcb (s : State) (g : Pcb → Pcb) : (s.modPcb g).sec = s.sec := rfl
@[simp] theorem State.treeTime_modPcb (s : State) (g : Pcb → Pcb) : (s.modPcb g).treeTime = s.treeTime := rfl
@[simp] theorem State.sfStarted_modPcb (s : State) (g : Pcb → Pcb) : (s.modPcb g).sfStarted = s.sfStarted := rfl
@[simp] theorem State.groupKnown_modPcb (s : State) (g : Pcb → Pcb) : (s.modPcb g).groupKnown = s.groupKnown := rfl
@[simp] theorem State.zoneEffect_modPcb (s : State) (g : Pcb → Pcb) : (s.modPcb g).zoneEffect = s.zoneEffect := rfl
@[simp] theorem State.evq_modPcb (s : State) (g : Pcb → Pcb) : (s.modPcb g).evq = s.evq := rfl
@[simp] theorem State.evSeq_modPcb (s : State) (g : Pcb → Pcb) : (s.modPcb g).evSeq = s.evSeq := rfl
@[simp] theorem State.limited_modPcb (s : State) (g : Pcb → Pcb) : (s.modPcb g).limited = s.limited := rfl
@[simp] theorem State.news_modPcb (s : State) (g : Pcb → Pcb) : (s.modPcb g).news = s.news := rfl
@[simp] theorem State.certList_modPcb (s : State) (g : Pcb → Pcb) : (s.modPcb g).certList = s.certList := rfl
@[simp] theorem State.rd_modPcb (s : State) (g : Pcb → Pcb) (f : Field) (i' : Nat) : (s.modPcb g).rd f i' = s.rd f i' := rfl

@[simp] theorem State.pending_modUsb (s : State) (g : Usb → Usb) : (s.modUsb g).pending = s.pending := rfl
@[simp] theorem State.out_modUsb (s : State) (g : Usb → Usb) : (s.modUsb g).out = s.out := rfl
@[simp] theorem State.fresh_modUsb (s : State) (g : Usb → Usb) : (s.modUsb g).fresh = s.fresh := rfl
@[simp] theorem State.regs_modUsb (s : State) (g : Usb → Usb) : (s.modUsb g).regs = s.regs := rfl
@[simp] theorem State.link_modUsb (s : State) (g : Usb → Usb) : (s.modUsb g).link = s.link := rfl
@[simp] theorem State.planStore_modUsb (s : State) (g : Usb → Usb) : (s.modUsb g).planStore = s.planStore := rfl
@[simp] theorem State.routes_modUsb (s : State) (g : Usb → Usb) : (s.modUsb g).routes = s.routes := rfl
@[simp] theorem State.lossMark_modUsb (s : State) (g : Usb → Usb) : (s.modUsb g).lossMark = s.lossMark := rfl
@[simp] theorem State.horizon_modUsb (s : State) (g : Usb → Usb) : (s.modUsb g).horizon = s.horizon := rfl
@[simp] theorem State.points_modUsb (s : State) (g : Usb → Usb) : (s.modUsb g).points = s.points := rfl
@[simp] theorem State.pointGen_modUsb (s : State) (g : Usb → Usb) : (s.modUsb g).pointGen = s.pointGen := rfl
@[simp] theorem State.tun_modUsb (s : State) (g : Usb → Usb) : (s.modUsb g).tun = s.tun := rfl
@[simp] theorem State.sw_modUsb (s : State) (g : Usb → Usb) : (s.modUsb g).sw = s.sw := rfl
@[simp] theorem State.tm_modUsb (s : State) (g : Usb → Usb) : (s.modUsb g).tm = s.tm := rfl
@[simp] theorem State.fld_modUsb (s : State) (g : Usb → Usb) : (s.modUsb g).fld = s.fld := rfl
@[simp] theorem State.eth_modUsb (s : State) (g : Usb → Usb) : (s.modUsb g).eth = s.eth := rfl
@[simp] theorem State.pcb_modUsb (s : State) (g : Usb → Usb) : (s.modUsb g).pcb = s.pcb := rfl
@[simp] theorem State.dp_modUsb (s : State) (g : Usb → Usb) : (s.modUsb g).dp = s.dp := rfl
@[simp] theorem State.usb_modUsb (s : State) (g : Usb → Usb) : (s.modUsb g).usb = g s.usb := rfl
@[simp] theorem State.tc_modUsb (s : State) (g : Usb → Usb) : (s.modUsb g).tc = s.tc := rfl
@[simp] theorem State.pw_modUsb (s : State) (g : Usb → Usb) : (s.modUsb g).pw = s.pw := rfl
@[simp] theorem State.chip_modUsb (s : State) (g : Usb → Usb) : (s.modUsb g).chip = s.chip := rfl
@[simp] theorem State.nim_modUsb (s : State) (g : Usb → Usb) : (s.modUsb g).nim = s.nim := rfl
@[simp] theorem State.spi_modUsb (s : State) (g : Usb → Usb) : (s.modUsb g).spi = s.spi := rfl
@[simp] theorem State.sec_modUsb (s : State) (g : Usb → Usb) : (s.modUsb g).sec = s.sec := rfl
@[simp] theorem State.treeTime_modUsb (s : State) (g : Usb → Usb) : (s.modUsb g).treeTime = s.treeTime := rfl
@[simp] theorem State.sfStarted_modUsb (s : State) (g : Usb → Usb) : (s.modUsb g).sfStarted = s.sfStarted := rfl
@[simp] theorem State.groupKnown_modUsb (s : State) (g : Usb → Usb) : (s.modUsb g).groupKnown = s.groupKnown := rfl
@[simp] theorem State.zoneEffect_modUsb (s : State) (g : Usb → Usb) : (s.modUsb g).zoneEffect = s.zoneEffect := rfl
@[simp] theorem State.evq_modUsb (s : State) (g : Usb → Usb) : (s.modUsb g).evq = s.evq := rfl
@[simp] theorem State.evSeq_modUsb (s : State) (g : Usb → Usb) : (s.modUsb g).evSeq = s.evSeq := rfl
@[simp] theorem State.limited_modUsb (s : State) (g : Usb → Usb) : (s.modUsb g).limited = s.limited := rfl
@[simp] theorem State.news_modUsb (s : State) (g : Usb → Usb) : (s.modUsb g).news = s.news := rfl
@[simp] theorem State.certList_modUsb (s : State) (g : Usb → Usb) : (s.modUsb g).certList = s.certList := rfl
@[simp] theorem State.rd_modUsb (s : State) (g : Usb → Usb) (f : Field) (i' : Nat) : (s.modUsb g).rd f i' = s.rd f i' := rfl

@[simp] theorem State.pending_modPw (s : State) (g : Pw → Pw) : (s.modPw g).pending = s.pending := rfl
@[simp] theorem State.out_modPw (s : State) (g : Pw → Pw) : (s.modPw g).out = s.out := rfl
@[simp] theorem State.fresh_modPw (s : State) (g : Pw → Pw) : (s.modPw g).fresh = s.fresh := rfl
@[simp] theorem State.regs_modPw (s : State) (g : Pw → Pw) : (s.modPw g).regs = s.regs := rfl
@[simp] theorem State.link_modPw (s : State) (g : Pw → Pw) : (s.modPw g).link = s.link := rfl
@[simp] theorem State.planStore_modPw (s : State) (g : Pw → Pw) : (s.modPw g).planStore = s.planStore := rfl
@[simp] theorem State.routes_modPw (s : State) (g : Pw → Pw) : (s.modPw g).routes = s.routes := rfl
@[simp] theorem State.lossMark_modPw (s : State) (g : Pw → Pw) : (s.modPw g).lossMark = s.lossMark := rfl
@[simp] theorem State.horizon_modPw (s : State) (g : Pw → Pw) : (s.modPw g).horizon = s.horizon := rfl
@[simp] theorem State.points_modPw (s : State) (g : Pw → Pw) : (s.modPw g).points = s.points := rfl
@[simp] theorem State.pointGen_modPw (s : State) (g : Pw → Pw) : (s.modPw g).pointGen = s.pointGen := rfl
@[simp] theorem State.tun_modPw (s : State) (g : Pw → Pw) : (s.modPw g).tun = s.tun := rfl
@[simp] theorem State.sw_modPw (s : State) (g : Pw → Pw) : (s.modPw g).sw = s.sw := rfl
@[simp] theorem State.tm_modPw (s : State) (g : Pw → Pw) : (s.modPw g).tm = s.tm := rfl
@[simp] theorem State.fld_modPw (s : State) (g : Pw → Pw) : (s.modPw g).fld = s.fld := rfl
@[simp] theorem State.eth_modPw (s : State) (g : Pw → Pw) : (s.modPw g).eth = s.eth := rfl
@[simp] theorem State.pcb_modPw (s : State) (g : Pw → Pw) : (s.modPw g).pcb = s.pcb := rfl
@[simp] theorem State.dp_modPw (s : State) (g : Pw → Pw) : (s.modPw g).dp = s.dp := rfl
@[simp] theorem State.usb_modPw (s : State) (g : Pw → Pw) : (s.modPw g).usb = s.usb := rfl
@[simp] theorem State.tc_modPw (s : State) (g : Pw → Pw) : (s.modPw g).tc = s.tc := rfl
@[simp] theorem State.pw_modPw (s : State) (g : Pw → Pw) : (s.modPw g).pw = g s.pw := rfl
@[simp] theorem State.chip_modPw (s : State) (g : Pw → Pw) : (s.modPw g).chip = s.chip := rfl
@[simp] theorem State.nim_modPw (s : State) (g : Pw → Pw) : (s.modPw g).nim = s.nim := rfl
@[simp] theorem State.spi_modPw (s : State) (g : Pw → Pw) : (s.modPw g).spi = s.spi := rfl
@[simp] theorem State.sec_modPw (s : State) (g : Pw → Pw) : (s.modPw g).sec = s.sec := rfl
@[simp] theorem State.treeTime_modPw (s : State) (g : Pw → Pw) : (s.modPw g).treeTime = s.treeTime := rfl
@[simp] theorem State.sfStarted_modPw (s : State) (g : Pw → Pw) : (s.modPw g).sfStarted = s.sfStarted := rfl
@[simp] theorem State.groupKnown_modPw (s : State) (g : Pw → Pw) : (s.modPw g).groupKnown = s.groupKnown := rfl
@[simp] theorem State.zoneEffect_modPw (s : State) (g : Pw → Pw) : (s.modPw g).zoneEffect = s.zoneEffect := rfl
@[simp] theorem State.evq_modPw (s : State) (g : Pw → Pw) : (s.modPw g).evq = s.evq := rfl
@[simp] theorem State.evSeq_modPw (s : State) (g : Pw → Pw) : (s.modPw g).evSeq = s.evSeq := rfl
@[simp] theorem State.limited_modPw (s : State) (g : Pw → Pw) : (s.modPw g).limited = s.limited := rfl
@[simp] theorem State.news_modPw (s : State) (g : Pw → Pw) : (s.modPw g).news = s.news := rfl
@[simp] theorem State.certList_modPw (s : State) (g : Pw → Pw) : (s.modPw g).certList = s.certList := rfl
@[simp] theorem State.rd_modPw (s : State) (g : Pw → Pw) (f : Field) (i' : Nat) : (s.modPw g).rd f i' = s.rd f i' := rfl

@[simp] theorem State.pending_modChip (s : State) (g : Chip → Chip) : (s.modChip g).pending = s.pending := rfl
@[simp] theorem State.out_modChip (s : State) (g : Chip → Chip) : (s.modChip g).out = s.out := rfl
@[simp] theorem State.fresh_modChip (s : State) (g : Chip → Chip) : (s.modChip g).fresh = s.fresh := rfl
@[simp] theorem State.regs_modChip (s : State) (g : Chip → Chip) : (s.modChip g).regs = s.regs := rfl
@[simp] theorem State.link_modChip (s : State) (g : Chip → Chip) : (s.modChip g).link = s.link := rfl
@[simp] theorem State.planStore_modChip (s : State) (g : Chip → Chip) : (s.modChip g).planStore = s.planStore := rfl
@[simp] theorem State.routes_modChip (s : State) (g : Chip → Chip) : (s.modChip g).routes = s.routes := rfl
@[simp] theorem State.lossMark_modChip (s : State) (g : Chip → Chip) : (s.modChip g).lossMark = s.lossMark := rfl
@[simp] theorem State.horizon_modChip (s : State) (g : Chip → Chip) : (s.modChip g).horizon = s.horizon := rfl
@[simp] theorem State.points_modChip (s : State) (g : Chip → Chip) : (s.modChip g).points = s.points := rfl
@[simp] theorem State.pointGen_modChip (s : State) (g : Chip → Chip) : (s.modChip g).pointGen = s.pointGen := rfl
@[simp] theorem State.tun_modChip (s : State) (g : Chip → Chip) : (s.modChip g).tun = s.tun := rfl
@[simp] theorem State.sw_modChip (s : State) (g : Chip → Chip) : (s.modChip g).sw = s.sw := rfl
@[simp] theorem State.tm_modChip (s : State) (g : Chip → Chip) : (s.modChip g).tm = s.tm := rfl
@[simp] theorem State.fld_modChip (s : State) (g : Chip → Chip) : (s.modChip g).fld = s.fld := rfl
@[simp] theorem State.eth_modChip (s : State) (g : Chip → Chip) : (s.modChip g).eth = s.eth := rfl
@[simp] theorem State.pcb_modChip (s : State) (g : Chip → Chip) : (s.modChip g).pcb = s.pcb := rfl
@[simp] theorem State.dp_modChip (s : State) (g : Chip → Chip) : (s.modChip g).dp = s.dp := rfl
@[simp] theorem State.usb_modChip (s : State) (g : Chip → Chip) : (s.modChip g).usb = s.usb := rfl
@[simp] theorem State.tc_modChip (s : State) (g : Chip → Chip) : (s.modChip g).tc = s.tc := rfl
@[simp] theorem State.pw_modChip (s : State) (g : Chip → Chip) : (s.modChip g).pw = s.pw := rfl
@[simp] theorem State.chip_modChip (s : State) (g : Chip → Chip) : (s.modChip g).chip = g s.chip := rfl
@[simp] theorem State.nim_modChip (s : State) (g : Chip → Chip) : (s.modChip g).nim = s.nim := rfl
@[simp] theorem State.spi_modChip (s : State) (g : Chip → Chip) : (s.modChip g).spi = s.spi := rfl
@[simp] theorem State.sec_modChip (s : State) (g : Chip → Chip) : (s.modChip g).sec = s.sec := rfl
@[simp] theorem State.treeTime_modChip (s : State) (g : Chip → Chip) : (s.modChip g).treeTime = s.treeTime := rfl
@[simp] theorem State.sfStarted_modChip (s : State) (g : Chip → Chip) : (s.modChip g).sfStarted = s.sfStarted := rfl
@[simp] theorem State.groupKnown_modChip (s : State) (g : Chip → Chip) : (s.modChip g).groupKnown = s.groupKnown := rfl
@[simp] theorem State.zoneEffect_modChip (s : State) (g : Chip → Chip) : (s.modChip g).zoneEffect = s.zoneEffect := rfl
@[simp] theorem State.evq_modChip (s : State) (g : Chip → Chip) : (s.modChip g).evq = s.evq := rfl
@[simp] theorem State.evSeq_modChip (s : State) (g : Chip → Chip) : (s.modChip g).evSeq = s.evSeq := rfl
@[simp] theorem State.limited_modChip (s : State) (g : Chip → Chip) : (s.modChip g).limited = s.limited := rfl
@[simp] theorem State.news_modChip (s : State) (g : Chip → Chip) : (s.modChip g).news = s.news := rfl
@[simp] theorem State.certList_modChip (s : State) (g : Chip → Chip) : (s.modChip g).certList = s.certList := rfl
@[simp] theorem State.rd_modChip (s : State) (g : Chip → Chip) (f : Field) (i' : Nat) : (s.modChip g).rd f i' = s.rd f i' := rfl

@[simp] theorem State.pending_modSec (s : State) (g : Sec → Sec) : (s.modSec g).pending = s.pending := rfl
@[simp] theorem State.out_modSec (s : State) (g : Sec → Sec) : (s.modSec g).out = s.out := rfl
@[simp] theorem State.fresh_modSec (s : State) (g : Sec → Sec) : (s.modSec g).fresh = s.fresh := rfl
@[simp] theorem State.regs_modSec (s : State) (g : Sec → Sec) : (s.modSec g).regs = s.regs := rfl
@[simp] theorem State.link_modSec (s : State) (g : Sec → Sec) : (s.modSec g).link = s.link := rfl
@[simp] theorem State.planStore_modSec (s : State) (g : Sec → Sec) : (s.modSec g).planStore = s.planStore := rfl
@[simp] theorem State.routes_modSec (s : State) (g : Sec → Sec) : (s.modSec g).routes = s.routes := rfl
@[simp] theorem State.lossMark_modSec (s : State) (g : Sec → Sec) : (s.modSec g).lossMark = s.lossMark := rfl
@[simp] theorem State.horizon_modSec (s : State) (g : Sec → Sec) : (s.modSec g).horizon = s.horizon := rfl
@[simp] theorem State.points_modSec (s : State) (g : Sec → Sec) : (s.modSec g).points = s.points := rfl
@[simp] theorem State.pointGen_modSec (s : State) (g : Sec → Sec) : (s.modSec g).pointGen = s.pointGen := rfl
@[simp] theorem State.tun_modSec (s : State) (g : Sec → Sec) : (s.modSec g).tun = s.tun := rfl
@[simp] theorem State.sw_modSec (s : State) (g : Sec → Sec) : (s.modSec g).sw = s.sw := rfl
@[simp] theorem State.tm_modSec (s : State) (g : Sec → Sec) : (s.modSec g).tm = s.tm := rfl
@[simp] theorem State.fld_modSec (s : State) (g : Sec → Sec) : (s.modSec g).fld = s.fld := rfl
@[simp] theorem State.eth_modSec (s : State) (g : Sec → Sec) : (s.modSec g).eth = s.eth := rfl
@[simp] theorem State.pcb_modSec (s : State) (g : Sec → Sec) : (s.modSec g).pcb = s.pcb := rfl
@[simp] theorem State.dp_modSec (s : State) (g : Sec → Sec) : (s.modSec g).dp = s.dp := rfl
@[simp] theorem State.usb_modSec (s : State) (g : Sec → Sec) : (s.modSec g).usb = s.usb := rfl
@[simp] theorem State.tc_modSec (s : State) (g : Sec → Sec) : (s.modSec g).tc = s.tc := rfl
@[simp] theorem State.pw_modSec (s : State) (g : Sec → Sec) : (s.modSec g).pw = s.pw := rfl
@[simp] theorem State.chip_modSec (s : State) (g : Sec → Sec) : (s.modSec g).chip = s.chip := rfl
@[simp] theorem State.nim_modSec (s : State) (g : Sec → Sec) : (s.modSec g).nim = s.nim := rfl
@[simp] theorem State.spi_modSec (s : State) (g : Sec → Sec) : (s.modSec g).spi = s.spi := rfl
@[simp] theorem State.sec_modSec (s : State) (g : Sec → Sec) : (s.modSec g).sec = g s.sec := rfl
@[simp] theorem State.treeTime_modSec (s : State) (g : Sec → Sec) : (s.modSec g).treeTime = s.treeTime := rfl
@[simp] theorem State.sfStarted_modSec (s : State) (g : Sec → Sec) : (s.modSec g).sfStarted = s.sfStarted := rfl
@[simp] theorem State.groupKnown_modSec (s : State) (g : Sec → Sec) : (s.modSec g).groupKnown = s.groupKnown := rfl
@[simp] theorem State.zoneEffect_modSec (s : State) (g : Sec → Sec) : (s.modSec g).zoneEffect = s.zoneEffect := rfl
@[simp] theorem State.evq_modSec (s : State) (g : Sec → Sec) : (s.modSec g).evq = s.evq := rfl
@[simp] theorem State.evSeq_modSec (s : State) (g : Sec → Sec) : (s.modSec g).evSeq = s.evSeq := rfl
@[simp] theorem State.limited_modSec (s : State) (g : Sec → Sec) : (s.modSec g).limited = s.limited := rfl
@[simp] theorem State.news_modSec (s : State) (g : Sec → Sec) : (s.modSec g).news = s.news := rfl
@[simp] theorem State.certList_modSec (s : State) (g : Sec → Sec) : (s.modSec g).certList = s.certList := rfl
@[simp] theorem State.rd_modSec (s : State) (g : Sec → Sec) (f : Field) (i' : Nat) : (s.modSec g).rd f i' = s.rd f i' := rfl

@[simp] theorem State.pending_modTun (s : State) (g : Tun → Tun) : (s.modTun g).pending = s.pending := rfl
@[simp] theorem State.out_modTun (s : State) (g : Tun → Tun) : (s.modTun g).out = s.out := rfl
@[simp] theorem State.fresh_modTun (s : State) (g : Tun → Tun) : (s.modTun g).fresh = s.fresh := rfl
@[simp] theorem State.regs_modTun (s : State) (g : Tun → Tun) : (s.modTun g).regs = s.regs := rfl
@[simp] theorem State.link_modTun (s : State) (g : Tun → Tun) : (s.modTun g).link = s.link := rfl
@[simp] theorem State.planStore_modTun (s : State) (g : Tun → Tun) : (s.modTun g).planStore = s.planStore := rfl
@[simp] theorem State.routes_modTun (s : State) (g : Tun → Tun) : (s.modTun g).routes = s.routes := rfl
@[simp] theorem State.lossMark_modTun (s : State) (g : Tun → Tun) : (s.modTun g).lossMark = s.lossMark := rfl
@[simp] theorem State.horizon_modTun (s : State) (g : Tun → Tun) : (s.modTun g).horizon = s.horizon := rfl
@[simp] theorem State.points_modTun (s : State) (g : Tun → Tun) : (s.modTun g).points = s.points := rfl
@[simp] theorem State.pointGen_modTun (s : State) (g : Tun → Tun) : (s.modTun g).pointGen = s.pointGen := rfl
@[simp] theorem State.tun_modTun (s : State) (g : Tun → Tun) : (s.modTun g).tun = g s.tun := rfl
@[simp] theorem State.sw_modTun (s : State) (g : Tun → Tun) : (s.modTun g).sw = s.sw := rfl
@[simp] theorem State.tm_modTun (s : State) (g : Tun → Tun) : (s.modTun g).tm = s.tm := rfl
@[simp] theorem State.fld_modTun (s : State) (g : Tun → Tun) : (s.modTun g).fld = s.fld := rfl
@[simp] theorem State.eth_modTun (s : State) (g : Tun → Tun) : (s.modTun g).eth = s.eth := rfl
@[simp] theorem State.pcb_modTun (s : State) (g : Tun → Tun) : (s.modTun g).pcb = s.pcb := rfl
@[simp] theorem State.dp_modTun (s : State) (g : Tun → Tun) : (s.modTun g).dp = s.dp := rfl
@[simp] theorem State.usb_modTun (s : State) (g : Tun → Tun) : (s.modTun g).usb = s.usb := rfl
@[simp] theorem State.tc_modTun (s : State) (g : Tun → Tun) : (s.modTun g).tc = s.tc := rfl
@[simp] theorem State.pw_modTun (s : State) (g : Tun → Tun) : (s.modTun g).pw = s.pw := rfl
@[simp] theorem State.chip_modTun (s : State) (g : Tun → Tun) : (s.modTun g).chip = s.chip := rfl
@[simp] theorem State.nim_modTun (s : State) (g : Tun → Tun) : (s.modTun g).nim = s.nim := rfl
@[simp] theorem State.spi_modTun (s : State) (g : Tun → Tun) : (s.modTun g).spi = s.spi := rfl
@[simp] theorem State.sec_modTun (s : State) (g : Tun → Tun) : (s.modTun g).sec = s.sec := rfl
@[simp] theorem State.treeTime_modTun (s : State) (g : Tun → Tun) : (s.modTun g).treeTime = s.treeTime := rfl
@[simp] theorem State.sfStarted_modTun (s : State) (g : Tun → Tun) : (s.modTun g).sfStarted = s.sfStarted := rfl
@[simp] theorem State.groupKnown_modTun (s : State) (g : Tun → Tun) : (s.modTun g).groupKnown = s.groupKnown := rfl
@[simp] theorem State.zoneEffect_modTun (s : State) (g : Tun → Tun) : (s.modTun g).zoneEffect = s.zoneEffect := rfl
@[simp] theorem State.evq_modTun (s : State) (g : Tun → Tun) : (s.modTun g).evq = s.evq := rfl
@[simp] theorem State.evSeq_modTun (s : State) (g : Tun → Tun) : (s.modTun g).evSeq = s.evSeq := rfl
@[simp] theorem State.limited_modTun (s : State) (g : Tun → Tun) : (s.modTun g).limited = s.limited := rfl
@[simp] theorem State.news_modTun (s : State) (g : Tun → Tun) : (s.modTun g).news = s.news := rfl
@[simp] theorem State.certList_modTun (s : State) (g : Tun → Tun) : (s.modTun g).certList = s.certList := rfl
@[simp] theorem State.rd_modTun (s : State) (g : Tun → Tun) (f : Field) (i' : Nat) : (s.modTun g).rd f i' = s.rd f i' := rfl

@[simp] theorem State.pending_modTsu (s : State) (g : Tsu → Tsu) : (s.modTsu g).pending = s.pending := rfl
@[simp] theorem State.out_modTsu (s : State) (g : Tsu → Tsu) : (s.modTsu g).out = s.out := rfl
@[simp] theorem State.fresh_modTsu (s : State) (g : Tsu → Tsu) : (s.modTsu g).fresh = s.fresh := rfl
@[simp] theorem State.regs_modTsu (s : State) (g : Tsu → Tsu) : (s.modTsu g).regs = s.regs := rfl
@[simp] theorem State.link_modTsu (s : State) (g : Tsu → Tsu) : (s.modTsu g).link = s.link := rfl
@[simp] theorem State.planStore_modTsu (s : State) (g : Tsu → Tsu) : (s.modTsu g).planStore = s.planStore := rfl
@[simp] theorem State.routes_modTsu (s : State) (g : Tsu → Tsu) : (s.modTsu g).routes = s.routes := rfl
@[simp] theorem State.lossMark_modTsu (s : State) (g : Tsu → Tsu) : (s.modTsu g).lossMark = s.lossMark := rfl
@[simp] theorem State.horizon_modTsu (s : State) (g : Tsu → Tsu) : (s.modTsu g).horizon = s.horizon := rfl
@[simp] theorem State.points_modTsu (s : State) (g : Tsu → Tsu) : (s.modTsu g).points = s.points := rfl
@[simp] theorem State.pointGen_modTsu (s : State) (g : Tsu → Tsu) : (s.modTsu g).pointGen = s.pointGen := rfl
@[simp] theorem State.tun_modTsu (s : State) (g : Tsu → Tsu) : (s.modTsu g).tun = s.tun := rfl
@[simp] theorem State.sw_modTsu (s : State) (g : Tsu → Tsu) : (s.modTsu g).sw = s.sw := rfl
@[simp] theorem State.tm_modTsu (s : State) (g : Tsu → Tsu) : (s.modTsu g).tm = s.tm := rfl
@[simp] theorem State.fld_modTsu (s : State) (g : Tsu → Tsu) : (s.modTsu g).fld = s.fld := rfl
@[simp] theorem State.eth_modTsu (s : State) (g : Tsu → Tsu) : (s.modTsu g).eth = { s.eth with tsu := g s.eth.tsu } := rfl
@[simp] theorem State.pcb_modTsu (s : State) (g : Tsu → Tsu) : (s.modTsu g).pcb = s.pcb := rfl
@[simp] theorem State.dp_modTsu (s : State) (g : Tsu → Tsu) : (s.modTsu g).dp = s.dp := rfl
@[simp] theorem State.usb_modTsu (s : State) (g : Tsu → Tsu) : (s.modTsu g).usb = s.usb := rfl
@[simp] theorem State.tc_modTsu (s : State) (g : Tsu → Tsu) : (s.modTsu g).tc = s.tc := rfl
@[simp] theorem State.pw_modTsu (s : State) (g : Tsu → Tsu) : (s.modTsu g).pw = s.pw := rfl
@[simp] theorem State.chip_modTsu (s : State) (g : Tsu → Tsu) : (s.modTsu g).chip = s.chip := rfl
@[simp] theorem State.nim_modTsu (s : State) (g : Tsu → Tsu) : (s.modTsu g).nim = s.nim := rfl
@[simp] theorem State.spi_modTsu (s : State) (g : Tsu → Tsu) : (s.modTsu g).spi = s.spi := rfl
@[simp] theorem State.sec_modTsu (s : State) (g : Tsu → Tsu) : (s.modTsu g).sec = s.sec := rfl
@[simp] theorem State.treeTime_modTsu (s : State) (g : Tsu → Tsu) : (s.modTsu g).treeTime = s.treeTime := rfl
@[simp] theorem State.sfStarted_modTsu (s : State) (g : Tsu → Tsu) : (s.modTsu g).sfStarted = s.sfStarted := rfl
@[simp] theorem State.groupKnown_modTsu (s : State) (g : Tsu → Tsu) : (s.modTsu g).groupKnown = s.groupKnown := rfl
@[simp] theorem State.zoneEffect_modTsu (s : State) (g : Tsu → Tsu) : (s.modTsu g).zoneEffect = s.zoneEffect := rfl
@[simp] theorem State.evq_modTsu (s : State) (g : Tsu → Tsu) : (s.modTsu g).evq = s.evq := rfl
@[simp] theorem State.evSeq_modTsu (s : State) (g : Tsu → Tsu) : (s.modTsu g).evSeq = s.evSeq := rfl
@[simp] theorem State.limited_modTsu (s : State) (g : Tsu → Tsu) : (s.modTsu g).limited = s.limited := rfl
@[simp] theorem State.news_modTsu (s : State) (g : Tsu → Tsu) : (s.modTsu g).news = s.news := rfl
@[simp] theorem State.certList_modTsu (s : State) (g : Tsu → Tsu) : (s.modTsu g).certList = s.certList := rfl
@[simp] theorem State.rd_modTsu (s : State) (g : Tsu → Tsu) (f : Field) (i' : Nat) : (s.modTsu g).rd f i' = s.rd f i' := rfl

@[simp] theorem State.pending_calm (s : State) : (s.calm).pending = s.pending := rfl
@[simp] theorem State.out_calm (s : State) : (s.calm).out = s.out := rfl
@[simp] theorem State.fresh_calm (s : State) : (s.calm).fresh = s.fresh := rfl
@[simp] theorem State.regs_calm (s : State) : (s.calm).regs = s.regs := rfl
@[simp] theorem State.link_calm (s : State) : (s.calm).link = s.link := rfl
@[simp] theorem State.planStore_calm (s : State) : (s.calm).planStore = s.planStore := rfl
@[simp] theorem State.routes_calm (s : State) : (s.calm).routes = s.routes := rfl
@[simp] theorem State.lossMark_calm (s : State) : (s.calm).lossMark = s.lossMark := rfl
@[simp] theorem State.horizon_calm (s : State) : (s.calm).horizon = s.horizon := rfl
@[simp] theorem State.points_calm (s : State) : (s.calm).points = s.points := rfl
@[simp] theorem State.pointGen_calm (s : State) : (s.calm).pointGen = s.pointGen := rfl
@[simp] theorem State.tun_calm (s : State) : (s.calm).tun = s.tun := rfl
@[simp] theorem State.sw_calm (s : State) : (s.calm).sw = s.sw := rfl
@[simp] theorem State.tm_calm (s : State) : (s.calm).tm = s.tm := rfl
@[simp] theorem State.fld_calm (s : State) : (s.calm).fld = s.fld := rfl
@[simp] theorem State.eth_calm (s : State) : (s.calm).eth = s.eth := rfl
@[simp] theorem State.pcb_calm (s : State) : (s.calm).pcb = s.pcb := rfl
@[simp] theorem State.dp_calm (s : State) : (s.calm).dp = s.dp := rfl
@[simp] theorem State.usb_calm (s : State) : (s.calm).usb = s.usb := rfl
@[simp] theorem State.tc_calm (s : State) : (s.calm).tc = s.tc := rfl
@[simp] theorem State.pw_calm (s : State) : (s.calm).pw = s.pw := rfl
@[simp] theorem State.chip_calm (s : State) : (s.calm).chip = s.chip := rfl
@[simp] theorem State.nim_calm (s : State) : (s.calm).nim = s.nim := rfl
@[simp] theorem State.spi_calm (s : State) : (s.calm).spi = s.spi := rfl
@[simp] theorem State.sec_calm (s : State) : (s.calm).sec = s.sec := rfl
@[simp] theorem State.treeTime_calm (s : State) : (s.calm).treeTime = s.treeTime := rfl
@[simp] theorem State.sfStarted_calm (s : State) : (s.calm).sfStarted = s.sfStarted := rfl
@[simp] theorem State.groupKnown_calm (s : State) : (s.calm).groupKnown = s.groupKnown := rfl
@[simp] theorem State.zoneEffect_calm (s : State) : (s.calm).zoneEffect = s.zoneEffect := rfl
@[simp] theorem State.evq_calm (s : State) : (s.calm).evq = s.evq := rfl
@[simp] theorem State.evSeq_calm (s : State) : (s.calm).evSeq = s.evSeq := rfl
@[simp] theorem State.limited_calm (s : State) : (s.calm).limited = s.limited := rfl
@[simp] theorem State.news_calm (s : State) : (s.calm).news = [] := rfl
@[simp] theorem State.certList_calm (s : State) : (s.calm).certList = s.certList := rfl
@[simp] theorem State.rd_calm (s : State) (f : Field) (i' : Nat) : (s.calm).rd f i' = s.rd f i' := rfl

end Sys2Proof.Machine
end

