-- ==== Sys2Proof/Laws/Status.lean ====
section
/-! SUPPORT. The status of a list of checks (R10): a check that does not fail may be left out, and the order of the list does not matter. -/
namespace Sys2Proof.Machine

@[simp] theorem firstStatus_nil : firstStatus [] = St.OK := rfl

@[simp] theorem firstStatus_false (c : Nat) (l : List (Nat × Bool)) : firstStatus ((c, false) :: l) = firstStatus l := by
  unfold firstStatus
  simp

/-- No check fails. -/
theorem firstStatus_ok (l : List (Nat × Bool)) (h : ∀ k ∈ l, k.2 = false) : firstStatus l = St.OK := by
  induction l with
  | nil => rfl
  | cons k r ih =>
    obtain ⟨c, b⟩ := k
    have hb : b = false := h (c, b) (by simp)
    subst hb
    rw [firstStatus_false]
    exact ih (fun k hk => h k (by simp [hk]))

/-- One check of a known status fails. -/
theorem firstStatus_one (c : Nat) (h : c ∈ checkOrder) : firstStatus [(c, true)] = c := by
  simp only [checkOrder, List.mem_cons, List.not_mem_nil, or_false] at h
  rcases h with h | h | h | h | h | h | h | h | h | h <;> subst h <;> rfl

end Sys2Proof.Machine
end

