-- ==== Sys2Proof/WellFormed.lean ====
section
/-! DEFINITION. Which commands the outside world can give: operands that a length or a range of the spec rules out are ill-formed. A request
that the hub itself checks and answers with a status code is well formed, whatever its fields. -/
namespace Sys2Proof

/-- The operands of a command are ones that its event can carry. -/
def Instr.wf (c : Instr) : Bool :=
  match c with
  | .registerWrite _ _ _ => true
  | .superframeStart => true
  | .syncReceive _ y via => (y.all (fun b => b.length == 24)) && decide (via < 256)
  | .syncLost _ => true
  | .slotCommit _ slot => decide (slot < 4096)
  | .flitPresentation _ slot => decide (slot < 4096)
  | .isoDeparture _ tix => decide (tix < 4096)
  | .guarDeparture _ tix => decide (tix < 4096)
  | .planWindowWrite _ _ => true
  | .tunnelEntryWrite _ _ => true
  | .frontReqReceive _ y => y.length == 24
  | .frontAckReceive _ y => y.length == 24
  | .frontNackReceive _ y => y.length == 24
  | .frontAckDeadline _ => true
  | .planShiftEffect _ => true
  | .linkShiftGo _ _ => true
  | .zshiftGo _ => true
  | .zoneReqForward _ => true
  | .zoneShiftCatchup _ => true
  | .selectorEvaluate => true
  | .presenceBackstop _ => true
  | .validate _ => true
  | .invalidate _ => true
  | .routeLookup _ => true
  | .routeInsert _ => true
  | .routeDelete _ => true
  | .routeRead _ => true
  | .tunnelFrameReceive => true
  | .pointImageTimeout _ => true
  | .pelogEntryClear _ _ => true
  | .laneFail _ _ cause => cause.val != 0
  | .laneReqReceive _ y => y.length == 24
  | .laneAckReceive _ y => y.length == 24
  | .laneNackReceive _ y => y.length == 24
  | .laneSubstEffect _ => true
  | .substComplete _ => true
  | .probationPass _ _ => true
  | .probationFail _ _ => true
  | .fence _ _ => true
  | .restore _ _ => true
  | .widen _ => true
  | .resetLanes _ => true
  | .horizonStart _ => true
  | .horizonStop _ => true
  | .horizonScanDone _ counts => counts.all (fun n => decide (n < 2 ^ 32))
  | .prbsCheckerLock _ _ => true
  | .prbsLockLoss _ _ errs nbits => decide (errs ≤ nbits)
  | .errorInject _ _ _ => true
  | .injectRateBit _ _ => true
  | .dfeAdapt _ _ _ ds => ds.length == 9
  | .flitReceive _ slot raw _ => decide (slot < 4096) && raw.length == 32
  | .replayTimeout _ => true
  | .tagVerify _ => true
  | .creditReceive _ y => y.length == 24
  | .creditTimeout _ _ => true
  | .creditSyncSend _ => true
  | .creditSyncReceive _ y => y.length == 24
  | .rekeyTimer _ => true
  | .rekey _ => true
  | .rekeyReceive _ y => y.length == 24
  | .rekeyAckReceive _ y => y.length == 24
  | .rekeyNoAck _ => true
  | .rekeyEffect _ => true
  | .oldKeyRetire _ => true
  | .retrain _ => true
  | .jxkEnWrite _ _ => true
  | .detectDone _ => true
  | .equalizeDone _ r => r.own.length == 3 && r.peer.length == 3 && r.pre.length == 10 && r.post.length == 10 && r.peak.length == 10
  | .deskewDone _ pol => decide (pol < 1024)
  | .alignIdReceive _ y => y.length == 24
  | .alignCredReceive _ y => y.length == 24
  | .authMessageReceive _ y _ => y.length == 24
  | .authDoneReceive _ y => y.length == 24
  | .trainingTimeout _ => true
  | .backoffEnd _ => true
  | .recoverEnd _ => true
  | .peerTrainingDetect _ => true
  | .peerLoss _ => true
  | .loopMeasure _ v => decide (v < 2 ^ 20)
  | .switchCellAllocate _ => true
  | .switchFrameComplete => true
  | .schedulerSelect => true
  | .egressRead _ _ _ _ => true
  | .ageingSweep => true
  | .bufferScrub _ _ => true
  | .bankMarkFailing _ => true
  | .bankCopyDone => true
  | .fdbLookup _ => true
  | .fdbInsert _ => true
  | .fdbDelete _ => true
  | .fdbRead _ => true
  | .fdbFlush _ => true
  | .nodeRefill _ => true
  | .meterRefill _ => true
  | .wfqRebase => true
  | .queueParentWrite _ _ => true
  | .shaperWrite _ _ => true
  | .meterWrite _ _ => true
  | .fsFrameReceive _ frame _ _ => decide (14 ≤ frame.length)
  | .segNoise _ _ _ _ => true
  | .dropTimeout _ => true
  | .lineFault _ => true
  | .lineProbe _ _ => true
  | .diEdge _ _ time => decide (time < 2 ^ 64)
  | .diAccept _ now => decide (now < 2 ^ 64)
  | .chatterEnd _ => true
  | .diStuck _ => true
  | .fieldLow => true
  | .fieldOkReturn time => decide (time < 2 ^ 64)
  | .tsPop _ => true
  | .pointWrite _ _ => true
  | .outputWdKick _ => true
  | .outputWdLapse => true
  | .d2dFrameTimeout => true
  | .arm _ => true
  | .autoarm => true
  | .ethFrameReceive _ frame _ time _ _ => decide (14 ≤ frame.length) && decide (time < 2 ^ 64)
  | .ethLinkUp _ _ => true
  | .ethLinkDown _ => true
  | .txtsPop _ _ => true
  | .timeStep _ => true
  | .tsuRateWrite _ => true
  | .timeStepApply => true
  | .timeServiceMessage _ _ => true
  | .pcieTlpReceive tlp => decide (12 ≤ tlp.length) && tlp.length % 4 == 0
  | .pcieItemReceive _ _ _ _ => true
  | .readAheadExpire _ => true
  | .pcieCreditSend _ => true
  | .npTimeout _ _ => true
  | .vdspReset _ _ => true
  | .pcieResetRequest => true
  | .perstRelease => true
  | .pcieLinkUp _ _ => true
  | .pcieLinkDown => true
  | .dpLineReceive _ unit _ => decide (1 ≤ unit.length)
  | .clockPairSend _ pix t => decide (pix < 2 ^ 48) && decide (t < 2 ^ 80)
  | .videoUnitReceive _ unit _ _ => decide (1 ≤ unit.length)
  | .clockPairReceive _ pix t _ => decide (pix < 2 ^ 48) && decide (t < 2 ^ 80)
  | .clockPairLost _ => true
  | .playoutUnderrun _ => true
  | .auxRequest _ _ _ _ data => decide (data.length ≤ 16)
  | .auxMessageReceive _ _ _ _ => true
  | .auxReplyReceive _ _ => true
  | .auxTimeout _ => true
  | .sinkAttach _ caps edid _ _ => decide (caps.length ≤ 256) && decide (edid.length ≤ 512)
  | .rootAttachReceive _ _ => true
  | .sinkDetach _ => true
  | .sinkIrqHpd _ _ _ _ _ => true
  | .dpTrainRetry _ _ _ => true
  | .burst _ => true
  | .burstDone codes datas => codes.all (fun n => decide (n ≤ 5)) && codes.length == datas.length
  | .nakTimeout codes datas => codes.all (fun n => decide (n ≤ 5)) && codes.length == datas.length
  | .getHubDescriptor _ => true
  | .getHubStatus _ => true
  | .getPortStatus _ _ => true
  | .setPortReset _ _ => true
  | .setPortSuspend _ _ => true
  | .setPortPower _ _ => true
  | .setPortTest _ _ _ => true
  | .clearPortEnable _ _ => true
  | .clearPortSuspend _ _ => true
  | .clearPortPower _ _ => true
  | .clearCPortFeature _ _ _ => true
  | .clearTtBuffer _ _ => true
  | .resetTt _ _ => true
  | .portResetDone _ _ => true
  | .pload _ _ => true
  | .punload _ _ => true
  | .suspend _ => true
  | .resume _ => true
  | .resumeDone _ => true
  | .remoteWake _ => true
  | .usbConnect _ _ => true
  | .usbDisconnect _ => true
  | .usbOvercurrent _ => true
  | .microframeStart ents codes datas => codes.all (fun n => decide (n ≤ 5)) && ents.length == codes.length && ents.length == datas.length && ents.all (fun e => decide (e < 64))
  | .outRecordReceive _ _ => true
  | .orphanTimeout => true
  | .tcAttach _ _ _ _ _ => true
  | .tcDetach _ => true
  | .pdMessageReceive _ _ _ => true
  | .goodcrcTimeout _ => true
  | .txreq _ _ _ _ => true
  | .hardReset _ _ => true
  | .sendCaps _ _ => true
  | .errorRecovery _ _ => true
  | .policyWaitExpire _ => true
  | .srcTransitionEnd _ => true
  | .vbusFault _ => true
  | .psTransitionTimeout _ => true
  | .swapTimeout _ => true
  | .sinkTxWaitEnd _ => true
  | .feedValid _ => true
  | .feedLost _ => true
  | .feedOv _ => true
  | .feedOvExit _ => true
  | .reverseTurnOff _ _ => true
  | .inputRampDone => true
  | .inputRampTimeout => true
  | .inputTrip _ => true
  | .inputRetry => true
  | .inputHoldClear => true
  | .inGoodLoss => true
  | .efEnable _ _ => true
  | .efRampDone _ => true
  | .efSample v i lim => v.length == 4 && i.length == 4 && lim.length == 4
  | .efTimerTrip _ => true
  | .efFastTrip _ => true
  | .efFetFail _ => true
  | .efFetShort _ => true
  | .efPgUp _ => true
  | .efPresenceChange _ _ => true
  | .efCooldownEnd _ => true
  | .telemetryUpdate _ _ => true
  | .energyClear _ => true
  | .energyLatch _ => true
  | .pwpAccessTimeout => true
  | .domainGate _ _ => true
  | .drainAbort _ _ => true
  | .domainWake _ => true
  | .domainRestore _ => true
  | .doze => true
  | .ship => true
  | .ulpExpire => true
  | .dozeReached => true
  | .dozeWakeEvent _ _ => true
  | .fabPgTimeout => true
  | .shipWake _ _ => true
  | .pllHoldover => true
  | .pllRelock => true
  | .pllUnlock _ => true
  | .avsUpdate _ _ => true
  | .nporLow _ => true
  | .nresetLow => true
  | .fabricResetRelease _ faults _ _ _ _ => faults.all (fun f => decide (f.mac < 616))
  | .bootLock _ => true
  | .confirm => true
  | .reset => true
  | .load => true
  | .svnRaise => true
  | .bidwrite => true
  | .test => true
  | .pushWrite _ => true
  | .bootBlockReceive _ _ _ => true
  | .bootBlockTimeout i => decide (i < 65536)
  | .netBootRetry => true
  | .svcWdtWarn => true
  | .svcWdtLapse => true
  | .cirrusRelay _ => true
  | .rd32 _ _ _ _ _ => true
  | .wr32 _ _ _ _ _ _ => true
  | .wrc32 _ _ _ _ _ _ => true
  | .rdblk _ _ _ _ _ _ => true
  | .wrblk _ _ _ _ _ _ => true
  | .event _ _ words => words.length == 16
  | .err _ _ words => words.length == 24
  | .presenceReport _ _ _ _ _ _ => true
  | .lossReport _ mask _ => decide (mask < 2 ^ 64)
  | .challenge _ _ _ => true
  | .armPs _ _ _ auth nonce mac => (!auth) || (nonce.length == 16 && mac.length == 48)
  | .armBoot _ _ _ auth nonce mac => (!auth) || (nonce.length == 16 && mac.length == 48)
  | .readStatus => true
  | .msgWrite _ _ => true
  | .rspRead => true
  | .msgWriteQ _ _ => true
  | .rspReadQ => true
  | .nimbusPeriod _ _ _ _ => true
  | .coreTrap _ _ _ => true
  | .halt _ _ => true
  | .eventArrival => true
  | .evqPop _ => true
  | .eventSourceClear _ _ => true
  | .tamperDetect _ _ => true
  | .lcProvision => true
  | .lcField => true
  | .lcReturn => true
  | .lcEnd => true
  | .idEnroll => true
  | .certWrite => true
  | .keyImport => true
  | .keyDestroy => true
  | .tamperClear => true
  | .lcReset => true
  | .nonceDraw => true
  | .slotTagCheck _ => true
  | .journalUpdateDone _ => true
  | .journalUpdateTimeout => true
  | .trngFail => true
  | .trngRetest _ => true
  | .macroScrub _ _ _ loc _ _ _ => decide (loc < 2 ^ 20)
  | .captureClear _ _ => true
  | .fclr _ => true
  | .marchStart _ _ _ _ => true
  | .marchStop => true
  | .marchDone faults _ => decide (faults.length ≤ 616)
  | .fuseRepair _ => true
  | .d2dLaneSpare _ => true
  | .d2dFrameRetry _ => true
  | .d2dFail => true
  | .d2dRetrain _ => true
  | .unlock => true
  | .lock => true
  | .debugUnlockExpire => true
  | .jtagInstruction _ => true
  | .resetRelease _ => true
  | .powerPathPowerUp => true
  | .bothFeedsBelow20v => true
  | .inputFetFail => true
  | .psArmExpire => true
  | .bootArmExpire => true
  | .drpToggle _ => true
  | .pdTimerExpiry _ _ => true
  | .vbusLevelReached _ => true
  | .ccRpChange _ _ => true
  | .sinkTxHoldTimeout _ => true
  | .unsupportedHubRequest _ => true
  | .rteMessageMalformed _ => true
  | .serviceCommand _ _ _ _ _ => true
  | .grandmasterLost => true
  | .nirqPulseEnd => true

end Sys2Proof
end

