-- ==== Sys2Proof/Tests/Slice0.lean ====
section
/-! SUPPORT. The model's own tests: states that meet the hypotheses of each statement, terms that are not well formed, and values that the
spec works out. -/
namespace Sys2Proof.Tests
open Sys2Proof Sys2Proof.Machine
set_option Elab.async false

/-- A hub that runs, in NORMAL, with nothing in it. -/
def hub : State := { State.reset with chip := { Chip.init with phase := .running } }.wr BOOT_STATUS.MODE 1

theorem hub_serves : hub.serves 0 true ∧ hub.serves 0 false := ⟨⟨by decide, by decide, by decide, by decide⟩, ⟨by decide, by decide, by decide, by decide⟩⟩

/-- Link `p` of a hub in a state of training. -/
def linked (p st : Nat) (s : State := hub) : State := s.wr JXK_STATUS.STATE st p

theorem reset_inv : State.reset.Inv := ⟨by decide +kernel, by decide, by decide⟩
theorem witness_StepKeepsInv : ({ hub with pending := [.superframeStart] } : State).Inv ∧ ∃ t, step { hub with pending := [.superframeStart] } = .next t :=
  ⟨⟨by decide +kernel, by decide, by decide⟩, _, rfl⟩
theorem witness_QueueAndRecordKept : ∃ t, exec .superframeStart hub = .next t := ⟨_, rfl⟩

def sync01 : List Byte := Sync.payload ⟨7, 0, 0x76543210, 0, 0, true, 0, false, 9⟩
def align01 : State := (linked 2 4).wr GLB_ZONE.ZONE 9
def lost01 : State := (linked 2 6).modPlan 2 (fun a => { a with syncFails := 3, lastSfn := 77 })
/-- A plan of which entry 5 is SYNC, in force at a port that trains. -/
def slot01 : State := { (linked 1 4).wr PLN_LSTAT.BOOT 0 1 with planStore := NMap.set [] 0 (planKey 1 0 0 5) 0xFFE }
def rx01 : RxItem := { slot := 5, tix := 77, iso := false, first := true, last := true, sub := 0, isVoid := false, loss := false, payload := [], held := false, late := false }
def shown01 : State := hub.modLk 1 (fun l => { l with rxStage := [rx01] })
def tx01 (iso : Bool) : TxItem := { tix := 77, due := 9, iso := iso, first := true, last := true, sub := 0, isVoid := false, loss := false, payload := [], rx := some 2 }
def queued01 (iso : Bool) : State := ((linked 1 6).wr TUN_ENT0.CLASS (if iso then 0 else 1) 77).modLk 1 (fun l => { l with txq := [tx01 iso] })
def req01 (op : Nat) (zone : Bool) : List Byte := Front.payload ⟨op, 3, 0, 0, zone, 0, 1, 5, 0, 0⟩
def up01 : State := ((((linked 1 6).wr PLN_LSTAT.UPSTREAM 1 1).wr PLN_PDESC.TXVALID 1 19).wr PLN_PDESC.RXVALID 1 19).modPlan 1 (fun a => { a with fseq := 4 })
def pend01 (effect : Nat) (c : Bool) : State :=
  (((linked 1 6).wr PLN_LSTAT.PEND 1 1).wr PLN_LSTAT.PTARGET 3 1 |>.wr PLN_LHFN.PEFFECT effect 1).modPlan 1 (fun a => { a with requested := true, committed := c, fseq := 5 })
def down01 : State := ((linked 1 6).wr PLN_PDESC.TXVALID 1 19).wr PLN_PDESC.RXVALID 1 19
def root01 : State := hub.wr GLB_HUB.ROOT 1
def wait01 (e : Nat) : State := (linked 1 6).modPlan 1 (fun a => { a with waitZone := true, waitEffect := e })
def missed01 : State := (hub.wr PLN_SFN.SFN 768).modPlan 1 (fun a => { a with missed := true, missedAt := 2 })
def sel01 : State := (root01.wr PLN_CTRL.SEL_EN 1).wr BOOT_STATUS.LOCK 1
/-- A hub whose route table holds key 0x2000_0105 at its first candidate. -/
def routed01 (k : Nat) : State := { hub.wr TUN_RBUF.WORD k 0 with routes := NMap.set (NMap.set [] 0 (7075 * 4) 0x20000105) 0 (7075 * 4 + 1) (2 ^ 24 + 77) }
def unit01 (ep : Nat) (bad : Bool) (len : Nat) : TunUnit := ⟨ep, 0, 2, 0, 0, bad, fit 24 (le 2 1 ++ le 4 0 ++ le 2 len)⟩
def inbox01 (u : TunUnit) : State := hub.modTun (fun t => { t with inbox := [u] })
def fill01 (k : Nat) : State := (hub.wr TUN_RBUF.WORD k 0).wr TUN_RBUF.WORD (2 ^ 24 + 5) 1
theorem witness_RouteInsert_placed : hub.routesPlaced := fun i _ h => by
  have e : hub.routes = [] := rfl
  simp [State.routeValid, State.route, e, bitAt] at h
theorem witness_RouteInsert_new : (fill01 0x20000106).insertStatus (rcmdBad 2 2) = St.OK ∧ (fill01 0x20000106).rbufBad = false ∧ rcmdBad 2 2 = false ∧
    rcmdBad 3 2 = true ∧ (fill01 0x20000106).insertStatus (rcmdBad 3 2) ≠ St.OK := by decide +kernel
theorem witness_RouteInsert_present : let s : State := { fill01 0x20000105 with routes := (routed01 0x20000105).routes }
    rcmdBad 2 2 = false ∧ s.rbufBad = false ∧ (s.routeFind (s.rd TUN_RBUF.WORD 0)).isSome = true := by decide +kernel
/-- Two keys that fill the candidates 7,075 and 16,384 + 13,447 of a third. -/
def full01 : State := { fill01 0x33c05fce with
  routes := [(7075 * 4, 0x100b9e32), (7075 * 4 + 1, 2 ^ 24), (29831 * 4, 0x49ece931), (29831 * 4 + 1, 2 ^ 24)] }
theorem witness_RouteInsert_full : rcmdBad 2 2 = false ∧ full01.rbufBad = false ∧ full01.routeFind (full01.rd TUN_RBUF.WORD 0) = none ∧
    full01.insertChain (full01.rd TUN_RBUF.WORD 0) = none ∧ full01.insertStatus (rcmdBad 2 2) = St.NOSPACE := by decide +kernel

theorem witness_RegisterWriteTypes_unaligned :
    hub.chip.phase = Phase.running ∧
    badAddr 8912953 = true := by
  decide +kernel

theorem witness_RegisterWriteTypes_locked :
    (hub.wr BOOT_STATUS.LOCK 1).serves 1581060 true ∧
    1581060 % 4 = 0 ∧
    findWindow 1581060 = none ∧
    findReg 1581060 = some (Reg.PLN_GMAP, 1) ∧
    List.lookup Reg.PLN_GMAP.base allWrites = none ∧
    Reg.PLN_GMAP.base ≠ Reg.BOOT_CMD.base ∧
    Reg.PLN_GMAP.base ≠ Reg.BOOT_PUSHDATA.base ∧
    inUsb 1581060 = false ∧
    inPwp 1581060 = false ∧
    (Reg.PLN_GMAP.fields.any fun (f : Field) => (hub.wr BOOT_STATUS.LOCK 1).locks f 1 5) = true := by
  unfold State.serves; decide +kernel

theorem witness_RegisterWriteTypes_reserved :
    hub.serves 8912952 true ∧
    8912952 % 4 = 0 ∧
    findWindow 8912952 = none ∧
    findReg 8912952 = some (Reg.DBG_D2DCFG, 0) ∧
    List.lookup Reg.DBG_D2DCFG.base allWrites = none ∧
    Reg.DBG_D2DCFG.base ≠ Reg.BOOT_CMD.base ∧
    Reg.DBG_D2DCFG.base ≠ Reg.BOOT_PUSHDATA.base ∧
    inUsb 8912952 = false ∧
    inPwp 8912952 = false ∧
    (Reg.DBG_D2DCFG.fields.any fun (f : Field) => hub.locks f 0 261) = false ∧
    (Reg.DBG_D2DCFG.reservedSet 261 || Reg.DBG_D2DCFG.fields.any fun (f : Field) => f.badCount 261) = true := by
  unfold State.serves; decide +kernel

theorem witness_RegisterWriteTypes_count :
    hub.serves 8912948 true ∧
    8912948 % 4 = 0 ∧
    findWindow 8912948 = none ∧
    findReg 8912948 = some (Reg.DBG_D2DCNT, 0) ∧
    List.lookup Reg.DBG_D2DCNT.base allWrites = none ∧
    Reg.DBG_D2DCNT.base ≠ Reg.BOOT_CMD.base ∧
    Reg.DBG_D2DCNT.base ≠ Reg.BOOT_PUSHDATA.base ∧
    inUsb 8912948 = false ∧
    inPwp 8912948 = false ∧
    (Reg.DBG_D2DCNT.fields.any fun (f : Field) => hub.locks f 0 5) = false ∧
    (Reg.DBG_D2DCNT.reservedSet 5 || Reg.DBG_D2DCNT.fields.any fun (f : Field) => f.badCount 5) = true := by
  unfold State.serves; decide +kernel

theorem witness_RegisterWriteTypes_range :
    hub.serves 8912952 true ∧
    8912952 % 4 = 0 ∧
    findWindow 8912952 = none ∧
    findReg 8912952 = some (Reg.DBG_D2DCFG, 0) ∧
    List.lookup Reg.DBG_D2DCFG.base allWrites = none ∧
    Reg.DBG_D2DCFG.base ≠ Reg.BOOT_CMD.base ∧
    Reg.DBG_D2DCFG.base ≠ Reg.BOOT_PUSHDATA.base ∧
    inUsb 8912952 = false ∧
    inPwp 8912952 = false ∧
    (Reg.DBG_D2DCFG.fields.any fun (f : Field) => hub.locks f 0 0) = false ∧
    (Reg.DBG_D2DCFG.reservedSet 0 || Reg.DBG_D2DCFG.fields.any fun (f : Field) => f.badCount 0) = false ∧
    (Reg.DBG_D2DCFG.fields.any fun (f : Field) => f.outOfRange 0) = true := by
  unfold State.serves; decide +kernel

theorem witness_RegisterWriteTypes_good :
    hub.serves 8912952 true ∧
    8912952 % 4 = 0 ∧
    findWindow 8912952 = none ∧
    findReg 8912952 = some (Reg.DBG_D2DCFG, 0) ∧
    List.lookup Reg.DBG_D2DCFG.base allWrites = none ∧
    Reg.DBG_D2DCFG.base ≠ Reg.BOOT_CMD.base ∧
    Reg.DBG_D2DCFG.base ≠ Reg.BOOT_PUSHDATA.base ∧
    inUsb 8912952 = false ∧
    inPwp 8912952 = false ∧
    (Reg.DBG_D2DCFG.fields.any fun (f : Field) => hub.locks f 0 255) = false ∧
    (Reg.DBG_D2DCFG.reservedSet 255 || Reg.DBG_D2DCFG.fields.any fun (f : Field) => f.badCount 255) = false ∧
    (Reg.DBG_D2DCFG.fields.any fun (f : Field) => f.outOfRange 255) = false := by
  unfold State.serves; decide +kernel

theorem witness_RegisterWriteTypes_cleared :
    (hub.wr DBG_D2DCNT.CORR 5).serves 8912948 true ∧
    8912948 % 4 = 0 ∧
    findWindow 8912948 = none ∧
    findReg 8912948 = some (Reg.DBG_D2DCNT, 0) ∧
    List.lookup Reg.DBG_D2DCNT.base allWrites = none ∧
    Reg.DBG_D2DCNT.base ≠ Reg.BOOT_CMD.base ∧
    Reg.DBG_D2DCNT.base ≠ Reg.BOOT_PUSHDATA.base ∧
    inUsb 8912948 = false ∧
    inPwp 8912948 = false ∧
    (Reg.DBG_D2DCNT.fields.any fun (f : Field) => (hub.wr DBG_D2DCNT.CORR 5).locks f 0 0) = false ∧
    (Reg.DBG_D2DCNT.reservedSet 0 || Reg.DBG_D2DCNT.fields.any fun (f : Field) => f.badCount 0) = false ∧
    (Reg.DBG_D2DCNT.fields.any fun (f : Field) => f.outOfRange 0) = false := by
  unfold State.serves; decide +kernel

theorem witness_PlanTables_window :
    1867772 % 4 = 0 ∧
    1835008 ≤ 1867772 ∧
    1867772 < 1966080 ∧
    ((hub.wr PLN_WINSEL.PORT 1).wr PLN_PDESC.TXVALID 1 19).serves 1867772 true ∧
    ((hub.wr PLN_WINSEL.PORT 1).wr PLN_PDESC.TXVALID 1 19).planBusy
    (((hub.wr PLN_WINSEL.PORT 1).wr PLN_PDESC.TXVALID 1 19).rd PLN_WINSEL.PORT) ((1867772 - 1835008) / 8192) =
  false := by
  unfold State.serves; decide +kernel

theorem witness_PlanTables_windowBusy :
    1867772 % 4 = 0 ∧
    1835008 ≤ 1867772 ∧
    1867772 < 1966080 ∧
    ((pend01 5 false).wr PLN_WINSEL.PORT 1).serves 1867772 true ∧
    ((pend01 5 false).wr PLN_WINSEL.PORT 1).planBusy (((pend01 5 false).wr PLN_WINSEL.PORT 1).rd PLN_WINSEL.PORT)
    ((1867772 - 1835008) / 8192) =
  true := by
  unfold State.serves; decide +kernel

theorem witness_PlanTables_invalidate :
    down01.serves Reg.PLN_CMD.base true ∧
    planCmdBad 12546 2 = false ∧
    down01.planBusy (bits 12546 8 2) (bits 12546 12 4) = false := by
  unfold State.serves; decide +kernel

theorem witness_PlanTables_invalidateBusy :
    (pend01 5 false).serves Reg.PLN_CMD.base true ∧
    planCmdBad 12546 2 = false ∧
    (pend01 5 false).planBusy (bits 12546 8 2) (bits 12546 12 4) = true := by
  unfold State.serves; decide +kernel

theorem witness_PlanTables_validate :
    down01.serves Reg.PLN_CMD.base true ∧
    planCmdBad 12545 1 = false := by
  unfold State.serves; decide +kernel

theorem witness_SuperframeTraffic_start :
    (let __src := root01.wr PLN_SFN.SFN 254;
    { pending := __src.pending, out := __src.out, fresh := __src.fresh, regs := __src.regs, link := __src.link,
      planStore := __src.planStore, routes := __src.routes, lossMark := __src.lossMark, horizon := __src.horizon,
      points := __src.points, pointGen := __src.pointGen, tun := __src.tun, sw := __src.sw, tm := __src.tm,
      fld := __src.fld, eth := __src.eth, pcb := __src.pcb, dp := __src.dp, usb := __src.usb, tc := __src.tc,
      pw := __src.pw, chip := __src.chip, nim := __src.nim, spi := __src.spi, sec := __src.sec,
      treeTime := __src.treeTime, sfStarted := true, groupKnown := __src.groupKnown, zoneEffect := __src.zoneEffect,
      evq := __src.evq, evSeq := __src.evSeq, limited := __src.limited, news := __src.news, certList := __src.certList :
      State }).sfStarted =
  true ∧
    ((let __src := root01.wr PLN_SFN.SFN 254;
        { pending := __src.pending, out := __src.out, fresh := __src.fresh, regs := __src.regs, link := __src.link,
          planStore := __src.planStore, routes := __src.routes, lossMark := __src.lossMark, horizon := __src.horizon,
          points := __src.points, pointGen := __src.pointGen, tun := __src.tun, sw := __src.sw, tm := __src.tm,
          fld := __src.fld, eth := __src.eth, pcb := __src.pcb, dp := __src.dp, usb := __src.usb, tc := __src.tc,
          pw := __src.pw, chip := __src.chip, nim := __src.nim, spi := __src.spi, sec := __src.sec,
          treeTime := __src.treeTime, sfStarted := true, groupKnown := __src.groupKnown, zoneEffect := __src.zoneEffect,
          evq := __src.evq, evSeq := __src.evSeq, limited := __src.limited, news := __src.news,
          certList := __src.certList : State }).sfn +
      1) %
    256 ≠
  0 := by
  decide +kernel

theorem witness_SuperframeTraffic_syncAlign :
    align01.linkSt 2 = LinkSt.ALIGN ∧
    align01.isUpPort 2 = false ∧
    (Sync.ofPayload sync01).zone = align01.rd GLB_ZONE.ZONE := by
  decide +kernel

theorem witness_SuperframeTraffic_syncLost :
    lost01.linkActive 2 = true ∧
    3 ≤ (lost01.lk 2).plan.syncFails ∧
    lost01.isUpPort 2 = false ∧
    lost01.substDue 2 (((lost01.lk 2).plan.lastSfn + 1) % 2 ^ 32) = [] := by
  decide +kernel

theorem witness_SuperframeTraffic_slotSync :
    slot01.linkSt 1 = LinkSt.ALIGN ∧
    5 < slot01.slotsPerSf 1 ∧
    (slot01.lk 1).plan.provisional = false ∧
    slot01.entry 1 0 (slot01.txTableFor 1 5) 5 = 4094 := by
  decide +kernel

theorem witness_SuperframeTraffic_present :
    (shown01.lk 1).rxStage = [rx01] ∧
    rx01.slot = 5 ∧
    rx01.held = false ∧
    rx01.iso = false ∧
    shown01.tunValid rx01.tix = false := by
  decide +kernel

theorem witness_SuperframeTraffic_isoGone :
    (queued01 true).linkActive 1 = true ∧
    ((queued01 true).lk 1).txq = [tx01 true] ∧
    (tx01 true).iso = true ∧
    (tx01 true).rx = some 2 ∧
    (queued01 true).ownsDeparture 1 (tx01 true).tix ((queued01 true).slotAfter 1 (tx01 true).due) = false := by
  decide +kernel

theorem witness_SuperframeTraffic_guarGone :
    (queued01 false).linkActive 1 = true ∧
    (queued01 false).isIso (tx01 false).tix = false ∧
    ((queued01 false).lk 1).txq = [tx01 false] ∧
    (tx01 false).rx.isSome = true ∧
    (queued01 false).ownSlotAfter 1 (tx01 false).tix (tx01 false).due = none := by
  decide +kernel

theorem witness_PlanShiftMessages_reqState :
    (linked 1 6).linkActive 1 = true ∧
    (linked 1 6).isUpPort 1 = false := by
  decide +kernel

theorem witness_PlanShiftMessages_reqGood :
    up01.linkActive 1 = true ∧
    up01.isUpPort 1 = true ∧
    (Front.ofPayload (req01 1 false)).zoneShift = false ∧
    hfnAtLeast (Front.ofPayload (req01 1 false)).effect up01.hfn 1 = true ∧
    up01.on PLN_LSTAT.PEND 1 = false ∧
    up01.on PLN_PDESC.TXVALID (1 * 16 + (Front.ofPayload (req01 1 false)).plan) = true ∧
    up01.on PLN_PDESC.RXVALID (1 * 16 + (Front.ofPayload (req01 1 false)).plan) = true ∧
    (Front.ofPayload (req01 1 false)).variant = up01.variantOf 1 ∧
    (Front.ofPayload (req01 1 false)).digTx = up01.digRx 1 (Front.ofPayload (req01 1 false)).plan ∧
    (Front.ofPayload (req01 1 false)).digRx = up01.digTx 1 (Front.ofPayload (req01 1 false)).plan := by
  decide +kernel

theorem witness_PlanShiftMessages_ack :
    (pend01 5 false).on PLN_LSTAT.PEND 1 = true ∧
    ((pend01 5 false).lk 1).plan.requested = true ∧
    ((pend01 5 false).lk 1).plan.committed = false ∧
    (Front.ofPayload (req01 2 false)).fseq = ((pend01 5 false).lk 1).plan.fseq ∧
    hfnAtLeast ((pend01 5 false).rd PLN_LHFN.PEFFECT 1) (pend01 5 false).hfn 2 = true ∧
    (Front.ofPayload (req01 2 false)).digTx = (pend01 5 false).digRx 1 ((pend01 5 false).rd PLN_LSTAT.PTARGET 1) ∧
    (Front.ofPayload (req01 2 false)).digRx = (pend01 5 false).digTx 1 ((pend01 5 false).rd PLN_LSTAT.PTARGET 1) := by
  decide +kernel

theorem witness_PlanShiftMessages_nack :
    (pend01 5 false).on PLN_LSTAT.PEND 1 = true ∧
    ((pend01 5 false).lk 1).plan.requested = true ∧
    ((pend01 5 false).lk 1).plan.committed = false ∧
    ((pend01 5 false).lk 1).plan.zone = false ∧
    (Front.ofPayload (req01 3 false)).fseq = ((pend01 5 false).lk 1).plan.fseq := by
  decide +kernel

theorem witness_PlanShiftMessages_deadline :
    (pend01 1 false).on PLN_LSTAT.PEND 1 = true ∧
    ((pend01 1 false).lk 1).plan.requested = true ∧
    ((pend01 1 false).lk 1).plan.committed = false ∧
    ((pend01 1 false).lk 1).plan.zone = false ∧
    hfnAtLeast ((pend01 1 false).rd PLN_LHFN.PEFFECT 1) (pend01 1 false).hfn 2 = false := by
  decide +kernel

theorem witness_PlanShiftMessages_effect :
    (pend01 0 true).on PLN_LSTAT.PEND 1 = true ∧
    ((pend01 0 true).lk 1).plan.committed = true ∧
    (pend01 0 true).hfn = (pend01 0 true).rd PLN_LHFN.PEFFECT 1 := by
  decide +kernel

theorem witness_PlanShiftMessages_lshift :
    down01.serves (Reg.PLN_LSHIFT.addr 1 0) true ∧
    bits 2147484163 4 4 = 0 ∧
    bits 2147484163 15 16 = 0 ∧
    bitAt 2147484163 31 = true ∧
    2 ≤ bits 2147484163 8 7 ∧
    bits 2147484163 8 7 ≤ 64 ∧
    down01.isUpPort 1 = false ∧
    down01.linkActive 1 = true ∧
    down01.on PLN_LSTAT.PEND 1 = false ∧
    down01.planUsable 1 (bits 2147484163 0 4) = true := by
  unfold State.serves; decide +kernel

theorem witness_ZoneShift_zNode :
    hub.serves Reg.PLN_ZSHIFT.base true ∧
    bits 2147483651 4 27 = 0 ∧
    bitAt 2147483651 31 = true ∧
    hub.isRoot = false := by
  unfold State.serves; decide +kernel

theorem witness_ZoneShift_zRoot :
    root01.serves Reg.PLN_ZSHIFT.base true ∧
    bits 2147483651 4 27 = 0 ∧
    bitAt 2147483651 31 = true ∧
    root01.isRoot = true ∧
    root01.on PLN_STATUS.ZPEND = false := by
  unfold State.serves; decide +kernel

theorem witness_ZoneShift_zReq :
    ((wait01 2).lk 1).plan.waitZone = true ∧
    (wait01 2).on PLN_LSTAT.PEND 1 = false ∧
    hfnAtLeast ((wait01 2).lk 1).plan.waitEffect (wait01 2).hfn 2 = true := by
  decide +kernel

theorem witness_ZoneShift_zMiss :
    ((wait01 1).lk 1).plan.waitZone = true ∧
    (wait01 1).on PLN_LSTAT.PEND 1 = false ∧
    hfnAtLeast ((wait01 1).lk 1).plan.waitEffect (wait01 1).hfn 2 = false := by
  decide +kernel

theorem witness_ZoneShift_zCatch :
    (missed01.lk 1).plan.missed = true ∧
    hfnAtLeast (missed01.lk 1).plan.missedAt missed01.hfn 0 = false ∧
    missed01.isUpPort 1 = false ∧
    missed01.linkActive 1 = false := by
  decide +kernel

theorem witness_ZoneShift_selNone :
    sel01.isRoot = true ∧
    sel01.on PLN_CTRL.SEL_EN = true ∧
    sel01.on BOOT_STATUS.LOCK = true ∧
    sel01.on PLN_STATUS.ZPEND = false ∧
    (∀ (i : Nat), i < 256 → sel01.selMatches sel01.presence i = false) := by
  decide +kernel

theorem witness_ZoneShift_backstop :
    root01.isRoot = true ∧
    63 ≠ 0 := by
  decide +kernel

theorem witness_TunnelEntryWrites_cirrus :
    2228224 % 4 = 0 ∧
    inTunnelTable 2228224 = true ∧
    hub.serves 2228224 true ∧
    (2228224 - 2228224) / 16 = 0 ∧
    2228224 % 16 / 4 = 0 ∧
    2148073472 &&& 4294705151 = hub.readReg Reg.TUN_ENT0 0 &&& 4294705151 := by
  unfold State.serves; decide +kernel

theorem witness_TunnelEntryWrites_cirrusOther :
    2228228 % 4 = 0 ∧
    inTunnelTable 2228228 = true ∧
    hub.serves 2228228 true ∧
    (2228228 - 2228224) / 16 = 0 ∧
    (2228228 % 16 / 4 ≠ 0 ∨ 5 &&& 4294705151 ≠ hub.readReg Reg.TUN_ENT0 0 &&& 4294705151) := by
  unfold State.serves; decide +kernel

theorem witness_TunnelEntryWrites_entry :
    2228240 % 4 = 0 ∧
    inTunnelTable 2228240 = true ∧
    hub.serves 2228240 true ∧
    (2228240 - 2228224) / 16 ≠ 0 ∧
    hub.tablesNaming ((2228240 - 2228224) / 16) = [] ∧
    (tunWordReg (2228240 % 16 / 4)).reservedSet 256 = false ∧
    (hub.writeFields (tunWordReg (2228240 % 16 / 4)) ((2228240 - 2228224) / 16) 256).entryBadValue
    ((2228240 - 2228224) / 16) =
  false ∧
    (hub.writeFields (tunWordReg (2228240 % 16 / 4)) ((2228240 - 2228224) / 16) 256).entryBadRange
    ((2228240 - 2228224) / 16) =
  false ∧
    (hub.writeFields (tunWordReg (2228240 % 16 / 4)) ((2228240 - 2228224) / 16) 256).entryConflict
    ((2228240 - 2228224) / 16) =
  false ∧
    (∀ (p : Nat), p < 4 → (hub.writeFields (tunWordReg (2228240 % 16 / 4)) ((2228240 - 2228224) / 16) 256).stageSum p ≤ 2048) := by
  unfold State.serves; decide +kernel

theorem witness_TunnelEntryWrites_outside :
    hub.chip.phase = Phase.running ∧
    (2228242 % 4 ≠ 0 ∨ inTunnelTable 2228242 = false) := by
  decide +kernel

theorem witness_RouteCommands_lookup :
    (routed01 536871173).serves Reg.TUN_RCMD.base true ∧
    rcmdBad 1 1 = false ∧
    (routed01 536871173).routeFind ((routed01 536871173).rd TUN_RBUF.WORD) = some 7075 := by
  unfold State.serves; decide +kernel

theorem witness_RouteCommands_lookupNone :
    (routed01 536871174).serves Reg.TUN_RCMD.base true ∧
    (routed01 536871174).routeFind ((routed01 536871174).rd TUN_RBUF.WORD) = none := by
  unfold State.serves; decide +kernel

theorem witness_RouteCommands_delete :
    (routed01 536871173).serves Reg.TUN_RCMD.base true ∧
    rcmdBad 3 3 = false ∧
    (routed01 536871173).routeFind ((routed01 536871173).rd TUN_RBUF.WORD) = some 7075 := by
  unfold State.serves; decide +kernel

theorem witness_RouteCommands_deleteNone :
    (routed01 536871174).serves Reg.TUN_RCMD.base true ∧
    (routed01 536871174).routeFind ((routed01 536871174).rd TUN_RBUF.WORD) = none := by
  unfold State.serves; decide +kernel

theorem witness_RouteCommands_read :
    (routed01 536871173).serves Reg.TUN_RCMD.base true ∧
    rcmdBad 463667204 4 = false := by
  unfold State.serves; decide +kernel

theorem witness_RouteInsert_insert :
    (routed01 536871174).serves Reg.TUN_RCMD.base true := by
  unfold State.serves; decide +kernel

theorem witness_TunnelEnds_frameBad :
    (inbox01 (unit01 16 true 5)).tun.inbox = [unit01 16 true 5] ∧
    (unit01 16 true 5).kind = 0 ∧
    (unit01 16 true 5).bad = true ∧
    (unit01 16 true 5).ep ≠ 17 := by
  decide +kernel

theorem witness_TunnelEnds_frameLen :
    (inbox01 (unit01 16 false 0)).tun.inbox = [unit01 16 false 0] ∧
    (unit01 16 false 0).kind = 0 ∧
    (unit01 16 false 0).bad = false ∧
    lenFits (unit01 16 false 0).bytes ((unit01 16 false 0).bytes.length / 24) = false := by
  decide +kernel

theorem witness_TunnelEnds_frame :
    (inbox01 (unit01 16 false 5)).tun.inbox = [unit01 16 false 5] ∧
    (unit01 16 false 5).kind = 0 ∧
    (unit01 16 false 5).bad = false ∧
    lenFits (unit01 16 false 5).bytes ((unit01 16 false 5).bytes.length / 24) = true ∧
    (leAt (unit01 16 false 5).bytes 0 2 = 1 ∨
  ((inbox01 (unit01 16 false 5)).tixOf (leAt (unit01 16 false 5).bytes 0 2)).isSome = true) ∧
    (unit01 16 false 5).ep = 16 := by
  decide +kernel

theorem witness_TunnelEnds_imageLost :
    (((hub.wr TUN_PMAP0.VALID 1 3).wr TUN_PMAP0.DIR 1 3).wr TUN_PMAP2.TIMEOUT 1 3).on TUN_PMAP0.VALID 3 = true ∧
    (((hub.wr TUN_PMAP0.VALID 1 3).wr TUN_PMAP0.DIR 1 3).wr TUN_PMAP2.TIMEOUT 1 3).on TUN_PMAP0.DIR 3 = true ∧
    (((hub.wr TUN_PMAP0.VALID 1 3).wr TUN_PMAP0.DIR 1 3).wr TUN_PMAP2.TIMEOUT 1 3).on TUN_PMAP2.TIMEOUT 3 = true := by
  decide +kernel

theorem witness_TunnelEnds_pelog :
    (hub.wr TUN_PELOG3.VALID 1 15).serves (Reg.TUN_PELOG3.addr 15 0) true ∧
    Reg.TUN_PELOG3.reservedSet 65536 = false ∧
    TUN_PELOG3.VALID.of 65536 = 1 := by
  unfold State.serves; decide +kernel

def req04 : List Byte := LaneMsg.payload ⟨0x10, 0, false, 0, 8, 4, 1, 0⟩
def sub04 : SubstRx := ⟨0, 0, 8, 4, 1, false, [], none⟩
def act04 : State := ((linked 0 6).wr JXP_TXMAP.MAP 0x76543210 0).wr JXP_RXMAP.MAP 0x76543210 0

theorem witness_LaneRequests_req : act04.linkActive 0 = true ∧ act04.laneReqStatus 0 (LaneMsg.ofPayload req04) = St.OK := by decide
theorem witness_LaneRequests_nack : act04.linkActive 0 = true ∧
    act04.laneReqStatus 0 (LaneMsg.ofPayload (LaneMsg.payload ⟨0x10, 0, false, 0, 7, 4, 1, 0⟩)) ≠ St.OK := by decide
def nack04 : State := act04.setSubst 0 [sub04]
theorem witness_LaneRequests_lnack : (nack04.lk 0).lane.substRx = [sub04] ∧ sub04.lseq = (LaneMsg.ofPayload req04).lseq ∧
    sub04.logical = (LaneMsg.ofPayload req04).logical ∧ sub04.used = none ∧ nack04.subFails 0 sub04.logical < 2 := by decide
def eff04 : State := (act04.wr PLN_SFN.SFN 4).modLane 0 (fun a => { a with substTx := [⟨0, 0, 8, 4⟩] })
theorem witness_LaneRequests_effect : (eff04.lk 0).lane.substTx = [⟨0, 0, 8, 4⟩] ∧ eff04.sfn = 4 := by decide
def done04 : State := (act04.wr PLN_SFN.SFN 5).setSubst 0 [{ sub04 with used := some 8 }]
theorem witness_LaneRequests_complete : (act04.lk 0).lane.substRx = [] ∧ (done04.lk 0).lane.substRx = [{ sub04 with used := some 8 }] ∧
    done04.sfn = (4 + 1) % 2 ^ 32 ∧ (done04.lk 0).lane.waiting = [] := by decide

def data04 : State := (hub.setLane 0 3 LaneSt.DATA).setLane 0 8 LaneSt.SPARE
def dataAct04 : State := (act04.setLane 0 3 LaneSt.DATA).setLane 0 8 LaneSt.SPARE
theorem witness_LaneRecovery_fail : data04.causeHolds 0 3 1 = true ∧ data04.laneSt 0 3 = LaneSt.DATA ∧ data04.rd JXP_STATUS.FAILS 0 ≤ 1 ∧
    data04.on JXP_STATUS.NARROW 0 = false ∧ data04.linkActive 0 = false := by decide
theorem witness_LaneRecovery_fail_active : dataAct04.causeHolds 0 3 1 = true ∧ dataAct04.laneSt 0 3 = LaneSt.DATA ∧ dataAct04.rd JXP_STATUS.FAILS 0 ≤ 1 ∧
    dataAct04.on JXP_STATUS.NARROW 0 = false ∧ dataAct04.linkActive 0 = true ∧
    (((((dataAct04.calm.wr JXP_LHEALTH.CAUSE 1 (laneIx 0 3)).wr JXP_STATUS.FAILS 1 0).raise (Ev.JXP_LANE_FAIL 0) 19).setLane 0 3
      LaneSt.FAILING).substStart 0) = .started := by decide +kernel
theorem witness_LaneRecovery_fence : data04.serves (Reg.JXP_CMD.addr 0 0) true ∧ data04.laneSt 0 3 = LaneSt.DATA ∧ data04.spareCount 0 ≠ 0 ∧
    data04.linkActive 0 = false ∧ hub.laneSt 0 3 ≠ LaneSt.DATA ∧ hub.laneSt 0 3 ≠ LaneSt.SPARE ∧ hub.laneSt 0 3 ≠ LaneSt.PASSED ∧
    (hub.setLane 0 3 LaneSt.PASSED).laneSt 0 3 = LaneSt.PASSED := ⟨⟨by decide, by decide, by decide, by decide⟩, by decide⟩
def prob04 : State := hub.setLane 0 3 LaneSt.PROBATION
theorem witness_LaneRecovery_probation : prob04.laneSt 0 3 = LaneSt.PROBATION ∧
    NMap.get (prob04.lk 0).lane.probFails 0 3 + 1 ≤ prob04.rd JXP_PROBCFG.PROB_RETRY 0 ∧
    (prob04.wr JXP_PROBCFG.PROB_RETRY 0 0).laneSt 0 3 = LaneSt.PROBATION ∧
    (prob04.wr JXP_PROBCFG.PROB_RETRY 0 0).rd JXP_PROBCFG.PROB_RETRY 0 < NMap.get (prob04.lk 0).lane.probFails 0 3 + 1 := by decide

theorem witness_LaneMeasurements_scan : hub.serves (Reg.JXP_CMD.addr 0 0) true ∧ hub.on JXP_HZSTAT.RUN 0 = false ∧
    ¬ (sgn 8 (hub.rd JXP_HZRANGE.PH_MAX 0) < sgn 8 (hub.rd JXP_HZRANGE.PH_MIN 0) ∨ sgn 8 (hub.rd JXP_HZRANGE.V_MAX 0) < sgn 8 (hub.rd JXP_HZRANGE.V_MIN 0)) ∧
    hub.linkSt 0 ≠ LinkSt.EQUALIZE ∧ (linked 0 2).linkSt 0 = LinkSt.EQUALIZE ∧ (hub.wr JXP_HZSTAT.RUN 1 0).on JXP_HZSTAT.RUN 0 = true ∧
    sgn 8 ((hub.wr JXP_HZRANGE.PH_MAX 0x80 0).rd JXP_HZRANGE.PH_MAX 0) < sgn 8 ((hub.wr JXP_HZRANGE.PH_MAX 0x80 0).rd JXP_HZRANGE.PH_MIN 0) :=
  ⟨⟨by decide, by decide, by decide, by decide⟩, by decide⟩
def prbs04 : State := (hub.wr JXP_PRBSCTL.CHK_EN 1 (laneIx 0 3)).wr JXP_PRBSCTL.LOCK 1 (laneIx 0 3)
theorem witness_LaneMeasurements_prbs : prbs04.freeMode 0 3 = true ∧ prbs04.on JXP_PRBSCTL.LOCK (laneIx 0 3) = true ∧
    ((linked 0 6).wr JXP_PRBSCTL.LOCK 1 (laneIx 0 8)).freeMode 0 8 = false ∧ act04.spareMode 0 8 = true := by decide
theorem witness_LaneMeasurements_inject : hub.serves (Reg.JXP_INJ.addr 0 3) true ∧ Reg.JXP_INJ.reservedSet 0xA0005 = false ∧
    JXP_INJ.INJCNT.of 0xA0005 = 0 ∧ 10 ≤ JXP_INJ.RATE.of 0xA0005 ∧ JXP_INJ.RATE.of 0xA0005 ≤ 40 ∧ JXP_INJ.MODE.of 0xA0005 = 1 ∧
    bitAt 0xA0005 2 = true ∧ (hub.wr JXP_INJ.MODE 3 (laneIx 0 3)).rd JXP_INJ.MODE (laneIx 0 3) = 3 :=
  ⟨⟨by decide, by decide, by decide, by decide⟩, by decide⟩
theorem witness_LaneMeasurements_dfe : hub.on JXP_RXEQ.FREEZE (laneIx 0 3) = false ∧ (hub.wr JXP_RXEQ.FREEZE 1 (laneIx 0 3)).on JXP_RXEQ.FREEZE (laneIx 0 3) = true := by
  decide



def reneg05 : State := (linked 0 6).modLk 0 (fun l => { l with rekey := some ⟨1, 4, 1, true⟩ })
def noack05 (n : Nat) : State := (linked 0 6).modLk 0 (fun l => { l with rekey := some ⟨1, 0, n, false⟩ })
def ent05 : RbEnt := ⟨0, 2, 0, true, true, [], 1, false, false, false, 0⟩
def rep05 (lim : Nat) : State := (((linked 0 6).wr JXK_TXSEQ.NEWEST 0 0).wr JXK_CTRL.REPLAY_LIM lim 0).modLk 0 (fun l => { l with rbuf := [ent05], ackMoved := false })
/-- A link in epoch 2, its previous epoch 1. -/
def ep05 : State := ((linked 0 6).wr JXK_STATUS.EPOCH 2 0).modLk 0 (fun l => { l with prevEpoch := 1 })
def flit05 (k q : Nat) : List Byte := Flit.raw ⟨k, 0, false, false, [], q, 0xFFE⟩ 2
def badTag05 : TagWait := ⟨1, 0xFD, le 24 0, 5, []⟩
def bad05 : State := ((linked 0 6).setRxGroup 0 1 { RxGroup.init with count := 3 }).modLk 0 (fun l => { l with tagWait := some badTag05 })
def good05 : State := linked 0 6
def goodTag05 : TagWait :=
  ⟨1, 0xFD, tagPayload (groupTag (sessionKey (good05.lk 0).secret (good05.rxDir 0) 0) (groupNonce 1 (good05.rxDir 0) 0 0) []) 1 0 0 0, 5, []⟩
def waits05 : State := good05.modLk 0 (fun l => { l with tagWait := some goodTag05 })
theorem witness_FlitReception_tagGood : (waits05.lk 0).tagWait = some goodTag05 ∧ waits05.tagVerifies 0 goodTag05.stream goodTag05.payload = true ∧
    goodTag05.after = [] ∧ goodTag05.stream = 1 ∧ (waits05.rxGroup 0 1).openHeld = [] := by
  refine ⟨rfl, ?_, rfl, rfl, by decide⟩
  have h : ∀ l : List Byte, (fit 16 l).length = 16 := by intro l; simp [fit]; omega
  have k : (waits05.lk 0).secret = (good05.lk 0).secret ∧ waits05.rxDir 0 = good05.rxDir 0 ∧ waits05.rxGroup 0 1 = RxGroup.init ∧
      waits05.rd JXK_STATUS.KEYGEN 0 = 0 := by decide
  have f : ∀ l : List Byte, fit 16 (fit 16 l) = fit 16 l := by
    intro l; have e : ∀ m : List Byte, m.length = 16 → fit 16 m = m := fun m hm => by simp [fit, hm, List.take_of_length_le]
    exact e _ (h l)
  simp [State.tagVerifies, k.1, k.2.1, k.2.2.1, k.2.2.2, goodTag05, tagPayload, groupTag, f, h, byteAt, leAt, le, List.getD,
    RxGroup.expects, RxGroup.init]
def cred05 : State := ((linked 0 6).wr JXK_CTRL.VCS 32 0).wr JXK_STATUS.CMODE 1 0
def stall05 : State := (linked 0 6).wr JXK_VC.STALL 1 3
def boot05 : State := hub.wr BOOT_STATUS.LOCK 1
def eq05 (m : Nat) : EqResult := ⟨[m, 0, 0], [m, 0, 0], false, 0, [], [], []⟩
def align05 : State := ((linked 0 4).modLk 0 (fun l => { l with expHub := 5, expPort := 2, epoch := 1 })).wr GLB_ZONE.ZONE 9
def id05 (z : Nat) : List Byte := AlignId.payload ⟨false, align05.on JXK_CTRL.PROT 0, 5, 2, z, 1, align05.rd JXK_CTRL.VCS 0, align05.rd GLB_HUB.HUB, 0⟩
def seg05 (a t : Nat) : List Byte := le 1 0x22 ++ le 1 a ++ le 2 0 ++ le 2 t ++ le 18 1
def sent05 (b : Bool) : State := (linked 0 5).modLk 0 (fun l => { l with authSent := b, epoch := 7 })
def up05 : State := (linked 0 6).wr PLN_LSTAT.UPSTREAM 1 0
def old05 : State := (linked 0 6).modLk 0 (fun l => { l with oldKey := some 0 })

theorem witness_LeavingActive_state :
    hub.serves (Reg.JXK_CMD.addr 0 0) true ∧
    hub.linkActive 0 = false := by
  unfold State.serves; decide +kernel

theorem witness_LeavingActive_busy :
    reneg05.serves (Reg.JXK_CMD.addr 0 0) true ∧
    reneg05.linkActive 0 = true ∧
    (reneg05.lk 0).rekey.isSome = true := by
  unfold State.serves; decide +kernel

theorem witness_LeavingActive_retrain :
    (linked 0 6).serves (Reg.JXK_CMD.addr 0 0) true ∧
    (linked 0 6).linkActive 0 = true ∧
    ((linked 0 6).lk 0).rekey = none := by
  unfold State.serves; decide +kernel

theorem witness_LeavingActive_peer :
    (linked 0 6).linkActive 0 = true := by
  decide +kernel

theorem witness_LeavingActive_detect :
    (linked 0 1).linkSt 0 = LinkSt.DETECT ∧
    (linked 0 1).on JXK_STATUS.BACKOFF = false := by
  decide +kernel

theorem witness_LeavingActive_timeout :
    LinkSt.EQUALIZE ≤ (linked 0 5).linkSt 0 ∧
    (linked 0 5).linkSt 0 ≤ LinkSt.AUTH := by
  decide +kernel

theorem witness_LeavingActive_recover :
    (linked 0 7).linkSt 0 = LinkSt.RECOVER := by
  decide +kernel

theorem witness_LeavingActive_credit :
    stall05.linkActive 0 = true ∧
    stall05.on JXK_STATUS.CMODE = false ∧
    stall05.on JXK_VC.STALL (0 * 64 + 3) = true := by
  decide +kernel

theorem witness_LeavingActive_replay :
    (rep05 4).linkActive 0 = true ∧
    (rep05 4).replayList 0 ≠ [] ∧
    ((rep05 4).lk 0).ackMoved = false ∧
    (((rep05 4).calm.bump JXK_REPLAYS.COUNT).bump JXK_TXSEQ.EXPIRIES).rd JXK_TXSEQ.EXPIRIES <
  (rep05 4).rd JXK_CTRL.REPLAY_LIM := by
  decide +kernel

theorem witness_LeavingActive_replayLim :
    (rep05 1).linkActive 0 = true ∧
    (rep05 1).replayList 0 ≠ [] ∧
    ((rep05 1).lk 0).ackMoved = false ∧
    (rep05 1).rd JXK_CTRL.REPLAY_LIM ≤
  (((rep05 1).calm.bump JXK_REPLAYS.COUNT).bump JXK_TXSEQ.EXPIRIES).rd JXK_TXSEQ.EXPIRIES := by
  decide +kernel

theorem witness_LeavingActive_leave :
    7 < 8 := by
  decide +kernel

theorem witness_FlitReception_stale :
    ep05.linkSt 0 = LinkSt.ACTIVE ∧
    5 < ep05.slotsPerSf 0 ∧
    5 ≠ 0 ∧
    rawPasses ({ kind := 2, chan := 0, first := true, last := true, payload := [], seq := 0, ack := 0 : Flit }.raw 1)
    (ep05.rd JXK_STATUS.EPOCH) =
  false ∧
    rawPasses ({ kind := 2, chan := 0, first := true, last := true, payload := [], seq := 0, ack := 0 : Flit }.raw 1)
    (ep05.lk 0).prevEpoch =
  true ∧
    (ep05.lk 0).prevEpoch ≠ 0 := by
  decide +kernel

theorem witness_FlitReception_crc :
    ep05.linkSt 0 = LinkSt.ACTIVE ∧
    5 < ep05.slotsPerSf 0 ∧
    5 ≠ 0 ∧
    rawPasses ({ kind := 2, chan := 0, first := true, last := true, payload := [], seq := 0, ack := 0 : Flit }.raw 9)
    (ep05.rd JXK_STATUS.EPOCH) =
  false ∧
    rawPasses ({ kind := 2, chan := 0, first := true, last := true, payload := [], seq := 0, ack := 0 : Flit }.raw 9)
    (ep05.lk 0).prevEpoch =
  false ∧
    ep05.rxOwner 0 5 = none := by
  decide +kernel

theorem witness_FlitReception_badkind :
    ep05.linkSt 0 = LinkSt.ACTIVE ∧
    5 < ep05.slotsPerSf 0 ∧
    rawPasses (flit05 9 0) (ep05.rd JXK_STATUS.EPOCH) = true ∧
    ep05.wrongLcn 0 5 (Flit.ofRaw (flit05 9 0)) = false ∧
    (ep05.lk 0).plan.provisional = false ∧
    7 ≤ (Flit.ofRaw (flit05 9 0)).kind := by
  decide +kernel

theorem witness_FlitReception_idle :
    ep05.linkSt 0 = LinkSt.ACTIVE ∧
    5 < ep05.slotsPerSf 0 ∧
    rawPasses (flit05 0 4095) (ep05.rd JXK_STATUS.EPOCH) = true ∧
    ep05.wrongLcn 0 5 (Flit.ofRaw (flit05 0 4095)) = false ∧
    (ep05.lk 0).plan.provisional = false ∧
    (Flit.ofRaw (flit05 0 4095)).kind = Kind.IDLE := by
  decide +kernel

theorem witness_FlitReception_oos :
    ep05.linkSt 0 = LinkSt.ACTIVE ∧
    5 < ep05.slotsPerSf 0 ∧
    rawPasses (flit05 2 7) (ep05.rd JXK_STATUS.EPOCH) = true ∧
    ep05.wrongLcn 0 5 (Flit.ofRaw (flit05 2 7)) = false ∧
    (ep05.lk 0).plan.provisional = false ∧
    1 ≤ (Flit.ofRaw (flit05 2 7)).kind ∧
    (Flit.ofRaw (flit05 2 7)).kind ≤ 6 ∧
    (Flit.ofRaw (flit05 2 7)).kind ≠ Kind.SYNC ∧
    (Flit.ofRaw (flit05 2 7)).kind ≠ Kind.FRONT ∧
    (Flit.ofRaw (flit05 2 7)).seq ≠ noSeq ∧
    (ep05.lk 0).tagWait = none ∧
    1 ≤ seqDist (Flit.ofRaw (flit05 2 7)).seq (ep05.rd JXK_RXSEQ.EXPECTED) ∧
    seqDist (Flit.ofRaw (flit05 2 7)).seq (ep05.rd JXK_RXSEQ.EXPECTED) ≤ 2047 := by
  decide +kernel

theorem witness_FlitReception_dup :
    ep05.linkSt 0 = LinkSt.ACTIVE ∧
    5 < ep05.slotsPerSf 0 ∧
    rawPasses (flit05 2 4094) (ep05.rd JXK_STATUS.EPOCH) = true ∧
    ep05.wrongLcn 0 5 (Flit.ofRaw (flit05 2 4094)) = false ∧
    (ep05.lk 0).plan.provisional = false ∧
    1 ≤ (Flit.ofRaw (flit05 2 4094)).kind ∧
    (Flit.ofRaw (flit05 2 4094)).kind ≤ 6 ∧
    (Flit.ofRaw (flit05 2 4094)).kind ≠ Kind.SYNC ∧
    (Flit.ofRaw (flit05 2 4094)).kind ≠ Kind.FRONT ∧
    (Flit.ofRaw (flit05 2 4094)).seq ≠ noSeq ∧
    (ep05.lk 0).tagWait = none ∧
    2048 ≤ seqDist (Flit.ofRaw (flit05 2 4094)).seq (ep05.rd JXK_RXSEQ.EXPECTED) := by
  decide +kernel

theorem witness_FlitReception_ackOut :
    9 < 4095 ∧
    (rep05 1).unacked 0 9 = false := by
  decide +kernel

theorem witness_FlitReception_ackIn :
    0 < 4095 ∧
    (rep05 1).unacked 0 0 = true := by
  decide +kernel

theorem witness_FlitReception_tagBad :
    (bad05.lk 0).tagWait = some badTag05 ∧
    bad05.tagVerifies 0 badTag05.stream badTag05.payload = false ∧
    badTag05.after = [] := by
  decide +kernel

theorem witness_FlitReception_credit :
    (linked 0 6).linkActive 0 = true ∧
    (linked 0 6).on JXK_STATUS.CMODE = false := by
  decide +kernel

theorem witness_FlitReception_creditSync :
    cred05.linkActive 0 = true ∧
    cred05.on JXK_STATUS.CMODE = true := by
  decide +kernel

theorem witness_FlitReception_creditSend :
    cred05.linkActive 0 = true ∧
    cred05.on JXK_STATUS.CMODE = true ∧
    cred05.sfn % 256 = 0 ∧
    cred05.credBases 0 = [0, 16] := by
  decide +kernel

theorem witness_TrainingSteps_disabled :
    boot05.serves (Reg.JXK_CTRL.addr 0 0) true ∧
    firstStatus
    (boot05.writeChecks Reg.JXK_CTRL 0 134744066 ++
      [(St.NOSPACE, decide (65536 < (boot05.calm.writeFields Reg.JXK_CTRL 0 134744066).reservedCells))]) =
  St.OK ∧
    boot05.linkSt 0 = LinkSt.DISABLED ∧
    boot05.mayTrain 0 = true ∧
    bitAt 134744066 0 = false := by
  unfold State.serves; decide +kernel

theorem witness_TrainingSteps_enabled :
    boot05.serves (Reg.JXK_CTRL.addr 0 0) true ∧
    firstStatus
    (boot05.writeChecks Reg.JXK_CTRL 0 134744067 ++
      [(St.NOSPACE, decide (65536 < (boot05.calm.writeFields Reg.JXK_CTRL 0 134744067).reservedCells))]) =
  St.OK ∧
    boot05.linkSt 0 = LinkSt.DISABLED ∧
    boot05.mayTrain 0 = true ∧
    bitAt 134744067 0 = true := by
  unfold State.serves; decide +kernel

theorem witness_TrainingSteps_detect :
    (linked 0 1).linkSt 0 = LinkSt.DETECT ∧
    (linked 0 1).on JXK_STATUS.BACKOFF = false := by
  decide +kernel

theorem witness_TrainingSteps_eqNone :
    (linked 0 2).linkSt 0 = LinkSt.EQUALIZE ∧
    ((linked 0 2).setEqualiser 0 (eq05 7)).modeAt 0 (eq05 7) 2 = none ∧
    ((linked 0 2).setEqualiser 0 (eq05 7)).modeAt 0 (eq05 7) 1 = none ∧
    ((linked 0 2).setEqualiser 0 (eq05 7)).modeAt 0 (eq05 7) 0 = none := by
  decide +kernel

theorem witness_TrainingSteps_eqFull :
    (linked 0 2).linkSt 0 = LinkSt.EQUALIZE ∧
    max (max ((linked 0 2).rd JXP_CTRL.MAXRATE) ((linked 0 2).rd JXP_STATUS.RATE_CAP)) (eq05 1023).peerCeil = 0 ∧
    ((linked 0 2).setEqualiser 0 (eq05 1023)).modeAt 0 (eq05 1023) 0 = some false := by
  decide +kernel

theorem witness_TrainingSteps_deskew :
    ((linked 0 3).modLk 0 fun (l : Link) =>
        { ctl := l.ctl, rbuf := l.rbuf, resend := l.resend, txq := l.txq, openq := l.openq, rxStage := l.rxStage,
          groupsTx := l.groupsTx, groupsRx := l.groupsRx, tagWait := l.tagWait, ackMoved := l.ackMoved,
          peerInit := l.peerInit, freedNow := l.freedNow, freed := l.freed, sent := l.sent, creditGap := l.creditGap,
          secret := l.secret, oldKey := l.oldKey, oldKeyAt := l.oldKeyAt, rekey := l.rekey, epoch := l.epoch,
          prevEpoch := l.prevEpoch, attempt := l.attempt, idOk := l.idOk, credOk := l.credOk, loopOk := l.loopOk,
          syncOk := l.syncOk, alignPos := l.alignPos, authOwn := l.authOwn, authKey := l.authKey,
          authStage := l.authStage, authPos := l.authPos, authSent := l.authSent, authDone := l.authDone,
          authTotal := l.authTotal, authBytes := l.authBytes, modeRate := l.modeRate, modeNarrow := l.modeNarrow,
          modeQual := 511, modePeer := 1022, expHub := l.expHub, expPort := l.expPort, subtree := l.subtree,
          plan := l.plan, lane := l.lane : Link }).linkSt
    0 =
  LinkSt.DESKEW := by
  decide +kernel

theorem witness_TrainingSteps_conflict :
    align05.linkSt 0 = LinkSt.ALIGN ∧
    (AlignId.ofPayload (id05 8)).zone ≠ align05.rd GLB_ZONE.ZONE := by
  decide +kernel

theorem witness_TrainingSteps_aligned :
    align05.linkSt 0 = LinkSt.ALIGN ∧
    (AlignId.ofPayload (id05 9)).zone = align05.rd GLB_ZONE.ZONE ∧
    (AlignId.ofPayload (id05 9)).up = align05.isUpPort 0 ∧
    (AlignId.ofPayload (id05 9)).hub = (align05.lk 0).expHub ∧
    (AlignId.ofPayload (id05 9)).port = (align05.lk 0).expPort ∧
    (AlignId.ofPayload (id05 9)).expHub = align05.rd GLB_HUB.HUB ∧
    (AlignId.ofPayload (id05 9)).expPort = 0 ∧
    (AlignId.ofPayload (id05 9)).vcs = align05.rd JXK_CTRL.VCS ∧
    (AlignId.ofPayload (id05 9)).prot = align05.on JXK_CTRL.PROT := by
  decide +kernel

theorem witness_TrainingSteps_cred :
    align05.linkSt 0 = LinkSt.ALIGN ∧
    (align05.lk 0).idOk = false := by
  decide +kernel

theorem witness_TrainingSteps_loopFar :
    (linked 0 4).isUpPort 0 = false ∧
    (linked 0 4).linkSt 0 = LinkSt.ALIGN ∧
    (linked 0 4).rd PLN_ALIGN.OFFSET < (100000 + 63) / 64 := by
  decide +kernel

theorem witness_TrainingSteps_loopOk :
    (linked 0 6).isUpPort 0 = false ∧
    (linked 0 6).linkActive 0 = true ∧
    0 ≤ (linked 0 6).rd PLN_ALIGN.OFFSET * 64 := by
  decide +kernel

theorem witness_TrainingSteps_loopDrift :
    (linked 0 6).isUpPort 0 = false ∧
    (linked 0 6).linkActive 0 = true ∧
    (linked 0 6).rd PLN_ALIGN.OFFSET * 64 < 100000 := by
  decide +kernel

theorem witness_TrainingSteps_hello :
    (linked 0 5).linkSt 0 = LinkSt.AUTH ∧
    ((linked 0 5).lk 0).authStage = 0 ∧
    bits (byteAt (seg05 1 114) 1) 0 3 = Amsg.HELLO ∧
    (((linked 0 5).lk 0).takeSegment (seg05 1 114)).authMessage Amsg.HELLO = none := by
  decide +kernel

theorem witness_TrainingSteps_done :
    (sent05 false).linkSt 0 = LinkSt.AUTH ∧
    bits (byteAt (seg05 4 0) 1) 0 3 = Amsg.DONE ∧
    leAt (seg05 4 0) 4 2 = 0 ∧
    ((sent05 false).lk 0).authSent = false := by
  decide +kernel

theorem witness_TrainingSteps_active :
    (sent05 true).linkSt 0 = LinkSt.AUTH ∧
    bits (byteAt (seg05 4 0) 1) 0 3 = Amsg.DONE ∧
    leAt (seg05 4 0) 4 2 = 0 ∧
    ((sent05 true).lk 0).authSent = true := by
  decide +kernel

theorem witness_TrainingSteps_activeUp :
    ((sent05 true).wr PLN_LSTAT.UPSTREAM 1).linkSt 0 = LinkSt.AUTH ∧
    bits (byteAt (seg05 4 0) 1) 0 3 = Amsg.DONE ∧
    leAt (seg05 4 0) 4 2 = 0 ∧
    (((sent05 true).wr PLN_LSTAT.UPSTREAM 1).lk 0).authSent = true ∧
    ((sent05 true).wr PLN_LSTAT.UPSTREAM 1).isUpPort 0 = true ∧
    (∀ (q : Nat), q < 4 → ((sent05 true).wr PLN_LSTAT.UPSTREAM 1).linkActive q = true → q = 0) := by
  decide +kernel

theorem witness_KeyRenewal_due :
    (linked 0 6).linkActive 0 = true ∧
    (linked 0 6).isUpPort 0 = false ∧
    ((linked 0 6).lk 0).rekey = none ∧
    (linked 0 6).rd JXK_STATUS.KEYGEN ≠ 255 := by
  decide +kernel

theorem witness_KeyRenewal_cmd :
    (linked 0 6).linkActive 0 = true ∧
    (linked 0 6).isUpPort 0 = false ∧
    ((linked 0 6).lk 0).rekey = none ∧
    (linked 0 6).rd JXK_STATUS.KEYGEN ≠ 255 ∧
    (linked 0 6).serves (Reg.JXK_CMD.addr 0 0) true := by
  unfold State.serves; decide +kernel

theorem witness_KeyRenewal_last :
    ((linked 0 6).wr JXK_STATUS.KEYGEN 255).linkActive 0 = true ∧
    ((linked 0 6).wr JXK_STATUS.KEYGEN 255).isUpPort 0 = false ∧
    (((linked 0 6).wr JXK_STATUS.KEYGEN 255).lk 0).rekey = none ∧
    ((linked 0 6).wr JXK_STATUS.KEYGEN 255).rd JXK_STATUS.KEYGEN = 255 := by
  decide +kernel

theorem witness_KeyRenewal_upPort :
    up05.linkActive 0 = true ∧
    up05.isUpPort 0 = true ∧
    (up05.lk 0).rekey = none ∧
    up05.serves (Reg.JXK_CMD.addr 0 0) true := by
  unfold State.serves; decide +kernel

theorem witness_KeyRenewal_taken :
    up05.linkActive 0 = true ∧
    up05.isUpPort 0 = true := by
  decide +kernel

theorem witness_KeyRenewal_acked :
    ((noack05 1).lk 0).rekey = some { keygen := 1, effect := 0, attempts := 1, acked := false : Rekey } ∧
    (noack05 1).isUpPort 0 = false ∧
    { keygen := 1, effect := 0, attempts := 1, acked := false : Rekey }.keygen % 256 = byteAt (le 24 261) 1 := by
  decide +kernel

theorem witness_KeyRenewal_effect :
    ((reneg05.wr PLN_SFN.SFN 4).lk 0).rekey = some { keygen := 1, effect := 4, attempts := 1, acked := true : Rekey } ∧
    sfnReached { keygen := 1, effect := 4, attempts := 1, acked := true : Rekey }.effect (reneg05.wr PLN_SFN.SFN 4).sfn =
  true ∧
    { keygen := 1, effect := 4, attempts := 1, acked := true : Rekey }.acked = true := by
  decide +kernel

theorem witness_KeyRenewal_ackedKept :
    ((reneg05.wr PLN_SFN.SFN 4).lk 0).rekey = some { keygen := 1, effect := 4, attempts := 1, acked := true : Rekey } ∧
    sfnReached { keygen := 1, effect := 4, attempts := 1, acked := true : Rekey }.effect (reneg05.wr PLN_SFN.SFN 4).sfn =
  true ∧
    { keygen := 1, effect := 4, attempts := 1, acked := true : Rekey }.acked = true := by
  decide +kernel

theorem witness_KeyRenewal_again :
    ((noack05 1).lk 0).rekey = some { keygen := 1, effect := 0, attempts := 1, acked := false : Rekey } ∧
    sfnReached { keygen := 1, effect := 0, attempts := 1, acked := false : Rekey }.effect (noack05 1).sfn = true ∧
    { keygen := 1, effect := 0, attempts := 1, acked := false : Rekey }.acked = false ∧
    { keygen := 1, effect := 0, attempts := 1, acked := false : Rekey }.attempts < 3 := by
  decide +kernel

theorem witness_KeyRenewal_fails :
    ((noack05 3).lk 0).rekey = some { keygen := 1, effect := 0, attempts := 3, acked := false : Rekey } ∧
    sfnReached { keygen := 1, effect := 0, attempts := 3, acked := false : Rekey }.effect (noack05 3).sfn = true ∧
    { keygen := 1, effect := 0, attempts := 3, acked := false : Rekey }.acked = false ∧
    3 ≤ { keygen := 1, effect := 0, attempts := 3, acked := false : Rekey }.attempts := by
  decide +kernel

theorem witness_KeyRenewal_noEffect :
    ((noack05 3).lk 0).rekey = some { keygen := 1, effect := 0, attempts := 3, acked := false : Rekey } ∧
    sfnReached { keygen := 1, effect := 0, attempts := 3, acked := false : Rekey }.effect (noack05 3).sfn = true ∧
    { keygen := 1, effect := 0, attempts := 3, acked := false : Rekey }.acked = false := by
  decide +kernel

theorem witness_KeyRenewal_retire :
    (old05.lk 0).oldKey.isSome = true ∧
    old05.oldGroupOpen 0 = false := by
  decide +kernel

def mac06 : Nat := 0x021122334455
def fdb06 : State := ((hub.setFdb (fdbSet mac06 1 * 4) (some ⟨mac06, 1, false, 4, 9, 0, 4⟩)).setFdb 7 (some ⟨5, 1, true, 4, 9, 0, 0⟩)).setFdb 9
  (some ⟨6, 1, false, 5, 9, 0, 1⟩)
def key06 (s : State) : State := (s.wr SWB_FBUF.WORD 0x22334455 0).wr SWB_FBUF.WORD (0x0211 + 0x10000 + 0x80000000) 1
def new06 (q : Nat) : State := ((key06 hub).wr SWB_FBUF.WORD (256 * q) 2).wr SWB_FBUF.WORD 0 3
def frame06 (port : Nat) : SwFrame := frameOf port (be 6 0x020000000001 ++ be 6 mac06 ++ List.replicate 48 0)
def whole06 (port : Nat) (sq : Option Nat) (learn : Bool) : SwIn := ⟨frame06 port, sq, false, learn⟩
def in06 (s : State) : State := s.modSw (fun w => { w with inq := [(5, [whole06 5 none true])] })
/-- A complete frame handed to queue 1200, whose service node is at Nimbus. -/
def done06 (s : State) (sq : Option Nat) (learn : Bool) : State := (s.wr TMG_NCFG.PARENT 130 1200).modSw (fun w => { w with done := [whole06 5 sq learn] })
def pool06 : State := hub.recomputePool
def egress06 (s : State) : State := (s.setEgress 16 [⟨0, 1200, 0, false⟩]).modSw (fun w => { w with frames := [(0, { frame06 5 with copies := 1 })] })
def down06 (s : State) : State := (s.setEgress 5 [⟨0, 1200, 0, false⟩]).modSw (fun w => { w with frames := [(0, { frame06 5 with copies := 1 })] })
def noSpare06 : State := (hub.wr SWB_BANK.STATE 2 32).wr SWB_BANK.STATE 2 33
def halted06 (s : State) : State := s.wr SWB_STATUS.HALTED 1

theorem witness_ForwardingDatabase_lookupNone :
    hub.serves Reg.SWB_FCMD.base true ∧
    Reg.SWB_FCMD.reservedSet 1 = false ∧
    SWB_FCMD.PORT.of 1 ≤ 17 ∧
    SWB_FCMD.OP.of 1 = 1 ∧
    hub.fdbFind hub.fbufMac hub.fbufVid = none := by
  unfold State.serves; decide +kernel

theorem witness_ForwardingDatabase_lookup :
    (key06 fdb06).serves Reg.SWB_FCMD.base true ∧
    Reg.SWB_FCMD.reservedSet 1 = false ∧
    SWB_FCMD.PORT.of 1 ≤ 17 ∧
    SWB_FCMD.OP.of 1 = 1 ∧
    (key06 fdb06).fdbFind (key06 fdb06).fbufMac (key06 fdb06).fbufVid = some (fdbSet mac06 1 * 4) ∧
    (key06 fdb06).fdbAt (fdbSet mac06 1 * 4) =
  some { mac := mac06, vid := 1, isStatic := false, port := 4, sq := 9, pmask := 0, age := 4 : FdbEnt } := by
  unfold State.serves; decide +kernel

theorem witness_ForwardingDatabase_insertBad :
    (key06 fdb06).serves Reg.SWB_FCMD.base true ∧
    Reg.SWB_FCMD.reservedSet 2 = false ∧
    SWB_FCMD.PORT.of 2 ≤ 17 ∧
    SWB_FCMD.OP.of 2 = 2 ∧
    firstStatus (key06 fdb06).fdbInsertChecks ≠ St.OK := by
  unfold State.serves; decide +kernel

theorem witness_ForwardingDatabase_insert :
    (new06 0).serves Reg.SWB_FCMD.base true ∧
    Reg.SWB_FCMD.reservedSet 2 = false ∧
    SWB_FCMD.PORT.of 2 ≤ 17 ∧
    SWB_FCMD.OP.of 2 = 2 ∧
    firstStatus (new06 0).fdbInsertChecks = St.OK := by
  unfold State.serves; decide +kernel

theorem witness_ForwardingDatabase_deleteNone :
    hub.serves Reg.SWB_FCMD.base true ∧
    Reg.SWB_FCMD.reservedSet 3 = false ∧
    SWB_FCMD.PORT.of 3 ≤ 17 ∧
    SWB_FCMD.OP.of 3 = 3 ∧
    hub.fdbFind hub.fbufMac hub.fbufVid = none := by
  unfold State.serves; decide +kernel

theorem witness_ForwardingDatabase_delete :
    (key06 fdb06).serves Reg.SWB_FCMD.base true ∧
    Reg.SWB_FCMD.reservedSet 3 = false ∧
    SWB_FCMD.PORT.of 3 ≤ 17 ∧
    SWB_FCMD.OP.of 3 = 3 ∧
    (key06 fdb06).fdbFind (key06 fdb06).fbufMac (key06 fdb06).fbufVid = some (fdbSet mac06 1 * 4) := by
  unfold State.serves; decide +kernel

theorem witness_ForwardingDatabase_read :
    fdb06.serves Reg.SWB_FCMD.base true ∧
    Reg.SWB_FCMD.reservedSet 4 = false ∧
    SWB_FCMD.PORT.of 4 ≤ 17 ∧
    SWB_FCMD.OP.of 4 = 4 := by
  unfold State.serves; decide +kernel

theorem witness_ForwardingDatabase_flush :
    fdb06.serves Reg.SWB_FCMD.base true ∧
    Reg.SWB_FCMD.reservedSet 5 = false ∧
    SWB_FCMD.PORT.of 5 ≤ 17 ∧
    SWB_FCMD.OP.of 5 = 5 ∧
    fdb06.sw.fdb.wf none = true := by
  unfold State.serves; decide +kernel

theorem witness_ForwardingDatabase_noAgeing :
    (fdb06.wr SWB_FDBCFG.AGE_T 0).on SWB_FDBCFG.AGE_T = false := by
  decide +kernel

theorem witness_ForwardingDatabase_ageing :
    fdb06.on SWB_FDBCFG.AGE_T = true ∧
    fdb06.sw.fdb.wf none = true := by
  decide +kernel

theorem witness_ForwardingDatabase_learns :
    ((done06 hub none true).wr SWB_PCFG.LEARN 1 5).sw.done = [whole06 5 none true] ∧
    ((done06 hub none true).wr SWB_PCFG.LEARN 1 5).on SWB_STATUS.HALTED = false ∧
    (whole06 5 none true).learn = true ∧
    ((done06 hub none true).wr SWB_PCFG.LEARN 1 5).on SWB_PCFG.LEARN (whole06 5 none true).frame.port = true ∧
    12 ≤ (whole06 5 none true).frame.bytes.length ∧
    isGroup (smacOf (whole06 5 none true).frame) = false ∧
    ((done06 hub none true).wr SWB_PCFG.LEARN 1 5).fdbFind (smacOf (whole06 5 none true).frame)
    (whole06 5 none true).frame.vid =
  none ∧
    ((done06 hub none true).wr SWB_PCFG.LEARN 1 5).fdbFree (smacOf (whole06 5 none true).frame)
    (whole06 5 none true).frame.vid =
  some (fdbSet mac06 1 * 4) := by
  decide +kernel

theorem witness_FrameAdmission_haltedIn :
    (∀ (i : OpenIn), i ∈ (halted06 (in06 pool06)).sw.openIn → i.port ≠ 5) ∧
    (halted06 (in06 pool06)).sw.inq.get [] 5 = [whole06 5 none true] ∧
    (whole06 5 none true).frame.bytes.length ≤ 9216 ∧
    (halted06 (in06 pool06)).on SWB_STATUS.HALTED = true := by
  decide +kernel

theorem witness_FrameAdmission_noCell :
    (∀ (i : OpenIn), i ∈ (in06 (hub.wr SWB_POOL.SHARED 0)).sw.openIn → i.port ≠ 5) ∧
    (in06 (hub.wr SWB_POOL.SHARED 0)).sw.inq.get [] 5 = [whole06 5 none true] ∧
    (whole06 5 none true).frame.bytes.length ≤ 9216 ∧
    (in06 (hub.wr SWB_POOL.SHARED 0)).on SWB_STATUS.HALTED = false ∧
    ((in06 (hub.wr SWB_POOL.SHARED 0)).sharedFree = 0 ∨ (in06 (hub.wr SWB_POOL.SHARED 0)).nextCell 5 = none) ∧
    5 < 16 := by
  decide +kernel

theorem witness_FrameAdmission_cell :
    (∀ (i : OpenIn), i ∈ (in06 pool06).sw.openIn → i.port ≠ 5) ∧
    (in06 pool06).sw.inq.get [] 5 = [whole06 5 none true] ∧
    (whole06 5 none true).frame.bytes.length ≤ 9216 ∧
    (in06 pool06).on SWB_STATUS.HALTED = false ∧
    (in06 pool06).sharedFree ≠ 0 ∧
    (in06 pool06).nextCell 5 = some 0 ∧
    (whole06 5 none true).frame.cells.length + 1 = cellsFor (whole06 5 none true).frame.bytes.length := by
  decide +kernel

theorem witness_FrameAdmission_halted :
    (halted06 (done06 pool06 none true)).sw.done = [whole06 5 none true] ∧
    (halted06 (done06 pool06 none true)).on SWB_STATUS.HALTED = true := by
  decide +kernel

theorem witness_FrameAdmission_filter :
    (done06
        (pool06.setFdb (fdbSet 2199023255553 1 * 4)
          (some
            { mac := 2199023255553, vid := 1, isStatic := false, port := 5, sq := 9, pmask := 0, age := 0 : FdbEnt }))
        none false).sw.done =
  [whole06 5 none false] ∧
    (done06
        (pool06.setFdb (fdbSet 2199023255553 1 * 4)
          (some
            { mac := 2199023255553, vid := 1, isStatic := false, port := 5, sq := 9, pmask := 0, age := 0 : FdbEnt }))
        none false).on
    SWB_STATUS.HALTED =
  false ∧
    (whole06 5 none false).learn = false ∧
    (whole06 5 none false).sq = none ∧
    ((done06
            (pool06.setFdb (fdbSet 2199023255553 1 * 4)
              (some
                { mac := 2199023255553, vid := 1, isStatic := false, port := 5, sq := 9, pmask := 0, age := 0 :
                  FdbEnt }))
            none false).modSw
        fun (w : Sw) =>
        { openIn := w.openIn, rx := w.rx, inq := w.inq, done := [], frames := w.frames, nextFrame := w.nextFrame,
          queues := w.queues, egress := w.egress, used := w.used, lastBank := w.lastBank, charged := w.charged,
          profCount := w.profCount, fdb := w.fdb, headUse := w.headUse, bankWait := w.bankWait, copyTo := w.copyTo,
          retiredBank := w.retiredBank, scrubAddr := w.scrubAddr : Sw }).lookupQueues
    (whole06 5 none false).frame =
  none := by
  decide +kernel

theorem witness_FrameAdmission_portDown :
    ((done06 pool06 (some 1200) false).wr TMG_NCFG.PARENT 0 1200).sw.done = [whole06 5 (some 1200) false] ∧
    ((done06 pool06 (some 1200) false).wr TMG_NCFG.PARENT 0 1200).on SWB_STATUS.HALTED = false ∧
    (whole06 5 (some 1200) false).learn = false ∧
    (whole06 5 (some 1200) false).metered = false ∧
    (whole06 5 (some 1200) false).sq = some 1200 ∧
    (((done06 pool06 (some 1200) false).wr TMG_NCFG.PARENT 0 1200).queuePort 1200 < 4 ∨
  12 ≤ ((done06 pool06 (some 1200) false).wr TMG_NCFG.PARENT 0 1200).queuePort 1200) ∧
    ((done06 pool06 (some 1200) false).wr TMG_NCFG.PARENT 0 1200).swPortUp
    (((done06 pool06 (some 1200) false).wr TMG_NCFG.PARENT 0 1200).queuePort 1200) =
  false := by
  decide +kernel

theorem witness_FrameAdmission_thresh :
    ((done06 (hub.wr SWB_POOL.SHARED 0) (some 1200) false).modSw fun (w : Sw) =>
        { openIn := w.openIn, rx := w.rx, inq := w.inq,
          done :=
            [let __src := whole06 5 (some 1200) false;
              {
                frame :=
                  let __src := frame06 5;
                  { port := __src.port, vc := __src.vc, flits := __src.flits, epoch := __src.epoch, tid := __src.tid,
                    ident := __src.ident, vid := __src.vid, pcp := __src.pcp, dei := __src.dei, asIs := __src.asIs,
                    loss := __src.loss, ts := __src.ts, bytes := __src.bytes, cells := [0], copies := __src.copies :
                    SwFrame },
                sq := __src.sq, metered := __src.metered, learn := __src.learn : SwIn }],
          frames := w.frames, nextFrame := w.nextFrame, queues := w.queues, egress := w.egress, used := w.used,
          lastBank := w.lastBank, charged := w.charged, profCount := w.profCount, fdb := w.fdb, headUse := w.headUse,
          bankWait := w.bankWait, copyTo := w.copyTo, retiredBank := w.retiredBank, scrubAddr := w.scrubAddr :
          Sw }).sw.done =
  [let __src := whole06 5 (some 1200) false;
    {
      frame :=
        let __src := frame06 5;
        { port := __src.port, vc := __src.vc, flits := __src.flits, epoch := __src.epoch, tid := __src.tid,
          ident := __src.ident, vid := __src.vid, pcp := __src.pcp, dei := __src.dei, asIs := __src.asIs,
          loss := __src.loss, ts := __src.ts, bytes := __src.bytes, cells := [0], copies := __src.copies : SwFrame },
      sq := __src.sq, metered := __src.metered, learn := __src.learn : SwIn }] ∧
    ((done06 (hub.wr SWB_POOL.SHARED 0) (some 1200) false).modSw fun (w : Sw) =>
        { openIn := w.openIn, rx := w.rx, inq := w.inq,
          done :=
            [let __src := whole06 5 (some 1200) false;
              {
                frame :=
                  let __src := frame06 5;
                  { port := __src.port, vc := __src.vc, flits := __src.flits, epoch := __src.epoch, tid := __src.tid,
                    ident := __src.ident, vid := __src.vid, pcp := __src.pcp, dei := __src.dei, asIs := __src.asIs,
                    loss := __src.loss, ts := __src.ts, bytes := __src.bytes, cells := [0], copies := __src.copies :
                    SwFrame },
                sq := __src.sq, metered := __src.metered, learn := __src.learn : SwIn }],
          frames := w.frames, nextFrame := w.nextFrame, queues := w.queues, egress := w.egress, used := w.used,
          lastBank := w.lastBank, charged := w.charged, profCount := w.profCount, fdb := w.fdb, headUse := w.headUse,
          bankWait := w.bankWait, copyTo := w.copyTo, retiredBank := w.retiredBank, scrubAddr := w.scrubAddr : Sw }).on
    SWB_STATUS.HALTED =
  false ∧
    (let __src := whole06 5 (some 1200) false;
    {
      frame :=
        let __src := frame06 5;
        { port := __src.port, vc := __src.vc, flits := __src.flits, epoch := __src.epoch, tid := __src.tid,
          ident := __src.ident, vid := __src.vid, pcp := __src.pcp, dei := __src.dei, asIs := __src.asIs,
          loss := __src.loss, ts := __src.ts, bytes := __src.bytes, cells := [0], copies := __src.copies : SwFrame },
      sq := __src.sq, metered := __src.metered, learn := __src.learn : SwIn }).learn =
  false ∧
    (let __src := whole06 5 (some 1200) false;
    {
      frame :=
        let __src := frame06 5;
        { port := __src.port, vc := __src.vc, flits := __src.flits, epoch := __src.epoch, tid := __src.tid,
          ident := __src.ident, vid := __src.vid, pcp := __src.pcp, dei := __src.dei, asIs := __src.asIs,
          loss := __src.loss, ts := __src.ts, bytes := __src.bytes, cells := [0], copies := __src.copies : SwFrame },
      sq := __src.sq, metered := __src.metered, learn := __src.learn : SwIn }).metered =
  false ∧
    (let __src := whole06 5 (some 1200) false;
    {
      frame :=
        let __src := frame06 5;
        { port := __src.port, vc := __src.vc, flits := __src.flits, epoch := __src.epoch, tid := __src.tid,
          ident := __src.ident, vid := __src.vid, pcp := __src.pcp, dei := __src.dei, asIs := __src.asIs,
          loss := __src.loss, ts := __src.ts, bytes := __src.bytes, cells := [0], copies := __src.copies : SwFrame },
      sq := __src.sq, metered := __src.metered, learn := __src.learn : SwIn }).sq =
  some 1200 ∧
    (((done06 (hub.wr SWB_POOL.SHARED 0) (some 1200) false).modSw fun (w : Sw) =>
          { openIn := w.openIn, rx := w.rx, inq := w.inq,
            done :=
              [let __src := whole06 5 (some 1200) false;
                {
                  frame :=
                    let __src := frame06 5;
                    { port := __src.port, vc := __src.vc, flits := __src.flits, epoch := __src.epoch, tid := __src.tid,
                      ident := __src.ident, vid := __src.vid, pcp := __src.pcp, dei := __src.dei, asIs := __src.asIs,
                      loss := __src.loss, ts := __src.ts, bytes := __src.bytes, cells := [0], copies := __src.copies :
                      SwFrame },
                  sq := __src.sq, metered := __src.metered, learn := __src.learn : SwIn }],
            frames := w.frames, nextFrame := w.nextFrame, queues := w.queues, egress := w.egress, used := w.used,
            lastBank := w.lastBank, charged := w.charged, profCount := w.profCount, fdb := w.fdb, headUse := w.headUse,
            bankWait := w.bankWait, copyTo := w.copyTo, retiredBank := w.retiredBank, scrubAddr := w.scrubAddr :
            Sw }).queuePort
      1200 <
    4 ∨
  12 ≤
    ((done06 (hub.wr SWB_POOL.SHARED 0) (some 1200) false).modSw fun (w : Sw) =>
          { openIn := w.openIn, rx := w.rx, inq := w.inq,
            done :=
              [let __src := whole06 5 (some 1200) false;
                {
                  frame :=
                    let __src := frame06 5;
                    { port := __src.port, vc := __src.vc, flits := __src.flits, epoch := __src.epoch, tid := __src.tid,
                      ident := __src.ident, vid := __src.vid, pcp := __src.pcp, dei := __src.dei, asIs := __src.asIs,
                      loss := __src.loss, ts := __src.ts, bytes := __src.bytes, cells := [0], copies := __src.copies :
                      SwFrame },
                  sq := __src.sq, metered := __src.metered, learn := __src.learn : SwIn }],
            frames := w.frames, nextFrame := w.nextFrame, queues := w.queues, egress := w.egress, used := w.used,
            lastBank := w.lastBank, charged := w.charged, profCount := w.profCount, fdb := w.fdb, headUse := w.headUse,
            bankWait := w.bankWait, copyTo := w.copyTo, retiredBank := w.retiredBank, scrubAddr := w.scrubAddr :
            Sw }).queuePort
      1200) ∧
    ((done06 (hub.wr SWB_POOL.SHARED 0) (some 1200) false).modSw fun (w : Sw) =>
        { openIn := w.openIn, rx := w.rx, inq := w.inq,
          done :=
            [let __src := whole06 5 (some 1200) false;
              {
                frame :=
                  let __src := frame06 5;
                  { port := __src.port, vc := __src.vc, flits := __src.flits, epoch := __src.epoch, tid := __src.tid,
                    ident := __src.ident, vid := __src.vid, pcp := __src.pcp, dei := __src.dei, asIs := __src.asIs,
                    loss := __src.loss, ts := __src.ts, bytes := __src.bytes, cells := [0], copies := __src.copies :
                    SwFrame },
                sq := __src.sq, metered := __src.metered, learn := __src.learn : SwIn }],
          frames := w.frames, nextFrame := w.nextFrame, queues := w.queues, egress := w.egress, used := w.used,
          lastBank := w.lastBank, charged := w.charged, profCount := w.profCount, fdb := w.fdb, headUse := w.headUse,
          bankWait := w.bankWait, copyTo := w.copyTo, retiredBank := w.retiredBank, scrubAddr := w.scrubAddr :
          Sw }).swPortUp
    (((done06 (hub.wr SWB_POOL.SHARED 0) (some 1200) false).modSw fun (w : Sw) =>
          { openIn := w.openIn, rx := w.rx, inq := w.inq,
            done :=
              [let __src := whole06 5 (some 1200) false;
                {
                  frame :=
                    let __src := frame06 5;
                    { port := __src.port, vc := __src.vc, flits := __src.flits, epoch := __src.epoch, tid := __src.tid,
                      ident := __src.ident, vid := __src.vid, pcp := __src.pcp, dei := __src.dei, asIs := __src.asIs,
                      loss := __src.loss, ts := __src.ts, bytes := __src.bytes, cells := [0], copies := __src.copies :
                      SwFrame },
                  sq := __src.sq, metered := __src.metered, learn := __src.learn : SwIn }],
            frames := w.frames, nextFrame := w.nextFrame, queues := w.queues, egress := w.egress, used := w.used,
            lastBank := w.lastBank, charged := w.charged, profCount := w.profCount, fdb := w.fdb, headUse := w.headUse,
            bankWait := w.bankWait, copyTo := w.copyTo, retiredBank := w.retiredBank, scrubAddr := w.scrubAddr :
            Sw }).queuePort
      1200) =
  true ∧
    ((((done06 (hub.wr SWB_POOL.SHARED 0) (some 1200) false).modSw fun (w : Sw) =>
                { openIn := w.openIn, rx := w.rx, inq := w.inq,
                  done :=
                    [let __src := whole06 5 (some 1200) false;
                      {
                        frame :=
                          let __src := frame06 5;
                          { port := __src.port, vc := __src.vc, flits := __src.flits, epoch := __src.epoch,
                            tid := __src.tid, ident := __src.ident, vid := __src.vid, pcp := __src.pcp,
                            dei := __src.dei, asIs := __src.asIs, loss := __src.loss, ts := __src.ts,
                            bytes := __src.bytes, cells := [0], copies := __src.copies : SwFrame },
                        sq := __src.sq, metered := __src.metered, learn := __src.learn : SwIn }],
                  frames := w.frames, nextFrame := w.nextFrame, queues := w.queues, egress := w.egress, used := w.used,
                  lastBank := w.lastBank, charged := w.charged, profCount := w.profCount, fdb := w.fdb,
                  headUse := w.headUse, bankWait := w.bankWait, copyTo := w.copyTo, retiredBank := w.retiredBank,
                  scrubAddr := w.scrubAddr : Sw }).modSw
            fun (w : Sw) =>
            { openIn := w.openIn, rx := w.rx, inq := w.inq, done := [], frames := w.frames, nextFrame := w.nextFrame,
              queues := w.queues, egress := w.egress, used := w.used, lastBank := w.lastBank, charged := w.charged,
              profCount := w.profCount, fdb := w.fdb, headUse := w.headUse, bankWait := w.bankWait, copyTo := w.copyTo,
              retiredBank := w.retiredBank, scrubAddr := w.scrubAddr : Sw }).modSw
        fun (w : Sw) =>
        { openIn := w.openIn, rx := w.rx, inq := w.inq, done := w.done,
          frames :=
            w.frames.set default
              ((done06 (hub.wr SWB_POOL.SHARED 0) (some 1200) false).modSw fun (w : Sw) =>
                    { openIn := w.openIn, rx := w.rx, inq := w.inq,
                      done :=
                        [let __src := whole06 5 (some 1200) false;
                          {
                            frame :=
                              let __src := frame06 5;
                              { port := __src.port, vc := __src.vc, flits := __src.flits, epoch := __src.epoch,
                                tid := __src.tid, ident := __src.ident, vid := __src.vid, pcp := __src.pcp,
                                dei := __src.dei, asIs := __src.asIs, loss := __src.loss, ts := __src.ts,
                                bytes := __src.bytes, cells := [0], copies := __src.copies : SwFrame },
                            sq := __src.sq, metered := __src.metered, learn := __src.learn : SwIn }],
                      frames := w.frames, nextFrame := w.nextFrame, queues := w.queues, egress := w.egress,
                      used := w.used, lastBank := w.lastBank, charged := w.charged, profCount := w.profCount,
                      fdb := w.fdb, headUse := w.headUse, bankWait := w.bankWait, copyTo := w.copyTo,
                      retiredBank := w.retiredBank, scrubAddr := w.scrubAddr : Sw }).sw.nextFrame
              (have __src :=
                (let __src := whole06 5 (some 1200) false;
                  {
                    frame :=
                      let __src := frame06 5;
                      { port := __src.port, vc := __src.vc, flits := __src.flits, epoch := __src.epoch,
                        tid := __src.tid, ident := __src.ident, vid := __src.vid, pcp := __src.pcp, dei := __src.dei,
                        asIs := __src.asIs, loss := __src.loss, ts := __src.ts, bytes := __src.bytes, cells := [0],
                        copies := __src.copies : SwFrame },
                    sq := __src.sq, metered := __src.metered, learn := __src.learn : SwIn }).frame;
              { port := __src.port, vc := __src.vc, flits := __src.flits, epoch := __src.epoch, tid := __src.tid,
                ident := __src.ident, vid := __src.vid, pcp := __src.pcp, dei := __src.dei, asIs := __src.asIs,
                loss := __src.loss, ts := __src.ts, bytes := __src.bytes, cells := __src.cells, copies := 0 :
                SwFrame }),
          nextFrame :=
            ((done06 (hub.wr SWB_POOL.SHARED 0) (some 1200) false).modSw fun (w : Sw) =>
                    { openIn := w.openIn, rx := w.rx, inq := w.inq,
                      done :=
                        [let __src := whole06 5 (some 1200) false;
                          {
                            frame :=
                              let __src := frame06 5;
                              { port := __src.port, vc := __src.vc, flits := __src.flits, epoch := __src.epoch,
                                tid := __src.tid, ident := __src.ident, vid := __src.vid, pcp := __src.pcp,
                                dei := __src.dei, asIs := __src.asIs, loss := __src.loss, ts := __src.ts,
                                bytes := __src.bytes, cells := [0], copies := __src.copies : SwFrame },
                            sq := __src.sq, metered := __src.metered, learn := __src.learn : SwIn }],
                      frames := w.frames, nextFrame := w.nextFrame, queues := w.queues, egress := w.egress,
                      used := w.used, lastBank := w.lastBank, charged := w.charged, profCount := w.profCount,
                      fdb := w.fdb, headUse := w.headUse, bankWait := w.bankWait, copyTo := w.copyTo,
                      retiredBank := w.retiredBank, scrubAddr := w.scrubAddr : Sw }).sw.nextFrame +
              1,
          queues := w.queues, egress := w.egress, used := w.used, lastBank := w.lastBank, charged := w.charged,
          profCount := w.profCount, fdb := w.fdb, headUse := w.headUse, bankWait := w.bankWait, copyTo := w.copyTo,
          retiredBank := w.retiredBank, scrubAddr := w.scrubAddr : Sw }).admits
    1200
    (let __src := whole06 5 (some 1200) false;
          {
            frame :=
              let __src := frame06 5;
              { port := __src.port, vc := __src.vc, flits := __src.flits, epoch := __src.epoch, tid := __src.tid,
                ident := __src.ident, vid := __src.vid, pcp := __src.pcp, dei := __src.dei, asIs := __src.asIs,
                loss := __src.loss, ts := __src.ts, bytes := __src.bytes, cells := [0], copies := __src.copies :
                SwFrame },
            sq := __src.sq, metered := __src.metered, learn := __src.learn : SwIn }).frame.cells.length
    false =
  false := by
  decide +kernel

theorem witness_FrameAdmission_noDesc :
    ((done06 pool06 (some 1200) false).wr SWB_DESC.FREE 0).sw.done = [whole06 5 (some 1200) false] ∧
    ((done06 pool06 (some 1200) false).wr SWB_DESC.FREE 0).on SWB_STATUS.HALTED = false ∧
    (whole06 5 (some 1200) false).learn = false ∧
    (whole06 5 (some 1200) false).metered = false ∧
    (whole06 5 (some 1200) false).sq = some 1200 ∧
    (((done06 pool06 (some 1200) false).wr SWB_DESC.FREE 0).queuePort 1200 < 4 ∨
  12 ≤ ((done06 pool06 (some 1200) false).wr SWB_DESC.FREE 0).queuePort 1200) ∧
    ((done06 pool06 (some 1200) false).wr SWB_DESC.FREE 0).swPortUp
    (((done06 pool06 (some 1200) false).wr SWB_DESC.FREE 0).queuePort 1200) =
  true ∧
    ((((done06 pool06 (some 1200) false).wr SWB_DESC.FREE 0).modSw fun (w : Sw) =>
            { openIn := w.openIn, rx := w.rx, inq := w.inq, done := [], frames := w.frames, nextFrame := w.nextFrame,
              queues := w.queues, egress := w.egress, used := w.used, lastBank := w.lastBank, charged := w.charged,
              profCount := w.profCount, fdb := w.fdb, headUse := w.headUse, bankWait := w.bankWait, copyTo := w.copyTo,
              retiredBank := w.retiredBank, scrubAddr := w.scrubAddr : Sw }).modSw
        fun (w : Sw) =>
        { openIn := w.openIn, rx := w.rx, inq := w.inq, done := w.done,
          frames :=
            w.frames.set default ((done06 pool06 (some 1200) false).wr SWB_DESC.FREE 0).sw.nextFrame
              (have __src := (whole06 5 (some 1200) false).frame;
              { port := __src.port, vc := __src.vc, flits := __src.flits, epoch := __src.epoch, tid := __src.tid,
                ident := __src.ident, vid := __src.vid, pcp := __src.pcp, dei := __src.dei, asIs := __src.asIs,
                loss := __src.loss, ts := __src.ts, bytes := __src.bytes, cells := __src.cells, copies := 0 :
                SwFrame }),
          nextFrame := ((done06 pool06 (some 1200) false).wr SWB_DESC.FREE 0).sw.nextFrame + 1, queues := w.queues,
          egress := w.egress, used := w.used, lastBank := w.lastBank, charged := w.charged, profCount := w.profCount,
          fdb := w.fdb, headUse := w.headUse, bankWait := w.bankWait, copyTo := w.copyTo, retiredBank := w.retiredBank,
          scrubAddr := w.scrubAddr : Sw }).admits
    1200 (whole06 5 (some 1200) false).frame.cells.length false =
  true ∧
    ((done06 pool06 (some 1200) false).wr SWB_DESC.FREE 0).rd SWB_DESC.FREE = 0 := by
  decide +kernel

theorem witness_FrameAdmission_admitted :
    (done06 pool06 (some 1200) false).sw.done = [whole06 5 (some 1200) false] ∧
    (done06 pool06 (some 1200) false).on SWB_STATUS.HALTED = false ∧
    (whole06 5 (some 1200) false).learn = false ∧
    (whole06 5 (some 1200) false).metered = false ∧
    (whole06 5 (some 1200) false).sq = some 1200 ∧
    ((done06 pool06 (some 1200) false).queuePort 1200 < 4 ∨ 12 ≤ (done06 pool06 (some 1200) false).queuePort 1200) ∧
    (done06 pool06 (some 1200) false).swPortUp ((done06 pool06 (some 1200) false).queuePort 1200) = true ∧
    (((done06 pool06 (some 1200) false).modSw fun (w : Sw) =>
            { openIn := w.openIn, rx := w.rx, inq := w.inq, done := [], frames := w.frames, nextFrame := w.nextFrame,
              queues := w.queues, egress := w.egress, used := w.used, lastBank := w.lastBank, charged := w.charged,
              profCount := w.profCount, fdb := w.fdb, headUse := w.headUse, bankWait := w.bankWait, copyTo := w.copyTo,
              retiredBank := w.retiredBank, scrubAddr := w.scrubAddr : Sw }).modSw
        fun (w : Sw) =>
        { openIn := w.openIn, rx := w.rx, inq := w.inq, done := w.done,
          frames :=
            w.frames.set default (done06 pool06 (some 1200) false).sw.nextFrame
              (have __src := (whole06 5 (some 1200) false).frame;
              { port := __src.port, vc := __src.vc, flits := __src.flits, epoch := __src.epoch, tid := __src.tid,
                ident := __src.ident, vid := __src.vid, pcp := __src.pcp, dei := __src.dei, asIs := __src.asIs,
                loss := __src.loss, ts := __src.ts, bytes := __src.bytes, cells := __src.cells, copies := 0 :
                SwFrame }),
          nextFrame := (done06 pool06 (some 1200) false).sw.nextFrame + 1, queues := w.queues, egress := w.egress,
          used := w.used, lastBank := w.lastBank, charged := w.charged, profCount := w.profCount, fdb := w.fdb,
          headUse := w.headUse, bankWait := w.bankWait, copyTo := w.copyTo, retiredBank := w.retiredBank,
          scrubAddr := w.scrubAddr : Sw }).admits
    1200 (whole06 5 (some 1200) false).frame.cells.length false =
  true ∧
    (done06 pool06 (some 1200) false).rd SWB_DESC.FREE ≠ 0 := by
  decide +kernel

theorem witness_FrameAdmission_sent :
    (egress06 pool06).egressOf 16 = [{ frame := 0, queue := 1200, pcp := 0, dei := false : Copy }] ∧
    (egress06 pool06).swPortUp 16 = true := by
  decide +kernel

theorem witness_FrameAdmission_egressDown :
    (down06 pool06).egressOf 5 = [{ frame := 0, queue := 1200, pcp := 0, dei := false : Copy }] ∧
    (down06 pool06).swPortUp 5 = false := by
  decide +kernel

theorem witness_FrameAdmission_ecc :
    (egress06 pool06).egressOf 16 = [{ frame := 0, queue := 1200, pcp := 0, dei := false : Copy }] := by
  decide +kernel

theorem witness_BankFailures_scrubOff :
    (hub.wr SWB_ECCCFG.SCRUB_EN 0).on SWB_ECCCFG.SCRUB_EN = false := by
  decide +kernel

theorem witness_BankFailures_scrub :
    (hub.modSw fun (w : Sw) =>
        { openIn := w.openIn, rx := w.rx, inq := w.inq, done := w.done, frames := w.frames, nextFrame := w.nextFrame,
          queues := w.queues, egress := w.egress, used := w.used, lastBank := w.lastBank, charged := w.charged,
          profCount := w.profCount, fdb := w.fdb, headUse := w.headUse, bankWait := w.bankWait, copyTo := w.copyTo,
          retiredBank := w.retiredBank, scrubAddr := 5 : Sw }).on
    SWB_ECCCFG.SCRUB_EN =
  true ∧
    (hub.modSw fun (w : Sw) =>
        { openIn := w.openIn, rx := w.rx, inq := w.inq, done := w.done, frames := w.frames, nextFrame := w.nextFrame,
          queues := w.queues, egress := w.egress, used := w.used, lastBank := w.lastBank, charged := w.charged,
          profCount := w.profCount, fdb := w.fdb, headUse := w.headUse, bankWait := w.bankWait, copyTo := w.copyTo,
          retiredBank := w.retiredBank, scrubAddr := 5 : Sw }).sw.scrubAddr ≠
  0 := by
  decide +kernel

theorem witness_BankFailures_replaced :
    (hub.wr SWB_BANK.STATE 2 3).serves Reg.SWB_BCMD.base true ∧
    Reg.SWB_BCMD.reservedSet 2147483651 = false ∧
    SWB_BCMD.GO.of 2147483651 = 1 ∧
    (hub.wr SWB_BANK.STATE 2 3).bankReplaced (SWB_BCMD.BANK.of 2147483651) = true := by
  unfold State.serves; decide +kernel

theorem witness_BankFailures_copying :
    ((hub.wr SWB_STATUS.COPY 1).wr SWB_STATUS.COPYBANK 5).serves Reg.SWB_BCMD.base true ∧
    Reg.SWB_BCMD.reservedSet 2147483651 = false ∧
    SWB_BCMD.GO.of 2147483651 = 1 ∧
    ((hub.wr SWB_STATUS.COPY 1).wr SWB_STATUS.COPYBANK 5).bankReplaced (SWB_BCMD.BANK.of 2147483651) = false ∧
    ((hub.wr SWB_STATUS.COPY 1).wr SWB_STATUS.COPYBANK 5).on SWB_STATUS.COPY = true := by
  unfold State.serves; decide +kernel

theorem witness_BankFailures_subst :
    hub.serves Reg.SWB_BCMD.base true ∧
    Reg.SWB_BCMD.reservedSet 2147483651 = false ∧
    SWB_BCMD.GO.of 2147483651 = 1 ∧
    hub.bankReplaced (SWB_BCMD.BANK.of 2147483651) = false ∧
    hub.on SWB_STATUS.COPY = false ∧
    hub.freeSpareBank = some 32 := by
  unfold State.serves; decide +kernel

theorem witness_BankFailures_retire :
    noSpare06.serves Reg.SWB_BCMD.base true ∧
    Reg.SWB_BCMD.reservedSet 2147483651 = false ∧
    SWB_BCMD.GO.of 2147483651 = 1 ∧
    noSpare06.bankReplaced (SWB_BCMD.BANK.of 2147483651) = false ∧
    noSpare06.on SWB_STATUS.COPY = false ∧
    noSpare06.freeSpareBank = none ∧
    noSpare06.on SWB_STATUS.RETIRED = false := by
  unfold State.serves; decide +kernel

theorem witness_BankFailures_halt :
    (noSpare06.wr SWB_STATUS.RETIRED 1).serves Reg.SWB_BCMD.base true ∧
    Reg.SWB_BCMD.reservedSet 2147483651 = false ∧
    SWB_BCMD.GO.of 2147483651 = 1 ∧
    (noSpare06.wr SWB_STATUS.RETIRED 1).bankReplaced (SWB_BCMD.BANK.of 2147483651) = false ∧
    (noSpare06.wr SWB_STATUS.RETIRED 1).on SWB_STATUS.COPY = false ∧
    (noSpare06.wr SWB_STATUS.RETIRED 1).freeSpareBank = none ∧
    (noSpare06.wr SWB_STATUS.RETIRED 1).on SWB_STATUS.RETIRED = true := by
  unfold State.serves; decide +kernel

theorem witness_BankFailures_noCopy :
    hub.on SWB_STATUS.COPY = false := by
  decide +kernel

theorem witness_BankFailures_copied :
    (hub.wr SWB_STATUS.COPY 1).on SWB_STATUS.COPY = true ∧
    (hub.wr SWB_STATUS.COPY 1).sw.copyTo = 32 ∧
    (hub.wr SWB_STATUS.COPY 1).sw.bankWait = [] := by
  decide +kernel

def node07 : State := hub.setNode 300 ⟨100000, 100000, 64, 64, -5, 7, 3, 9⟩
def rate07 : State := ((((node07.wr TMG_CIR.RATE 100000 300).wr TMG_PIR.RATE 100000 300).wr TMG_CBS.BURST 64 300).wr TMG_PBS.BURST 64 300)
/-- One copy in queue 5, which feeds the Nimbus port through service node 130. -/
def ready07 : State := (((hub.wr TMG_NCFG.PARENT 130 5).wr TMG_NCFG.WEIGHT 1 5).modSw (fun w =>
  { w with queues := [(5, [⟨0, 5, 0, false⟩, ⟨1, 5, 0, false⟩])], frames := [(0, frameOf 4 (List.replicate 60 0))] })).setNode 5 ⟨64, 0, 1, 0, 3, 0, 0, 0⟩
def meter07 (mode : Nat) : State := ((((((hub.wr TMG_MCFG.MODE mode 7).wr TMG_MCIR.RATE 64 7).wr TMG_MPIR.RATE 64 7).wr TMG_MCBS.BURST 64 7).wr TMG_MPBS.BURST 64 7)).modTm
  (fun t => { t with meters := [(7, ⟨mode, false, false, 64, 64, 64, 64, 409599900, 3⟩)] })

theorem witness_RatesApplied_write :
    300 < 4258 ∧
    1 ≤ 2 ∧
    2 ≤ 4 ∧
    3483016 = 3473408 + 32 * 300 + 4 * 2 ∧
    rate07.serves 3483016 true ∧
    firstStatus
    (rate07.writeChecks (shaperReg 2) 300 200000 ++ (rate07.writeFields (shaperReg 2) 300 200000).shaperChecks 300 2) =
  St.OK := by
  unfold State.serves; decide +kernel

theorem witness_SchedulerCommands_idle :
    (∀ (p : Nat), p < 18 → (hub.portReady p && hub.portEligible p) = false) := by
  decide +kernel

theorem witness_SchedulerCommands_select :
    16 < 18 ∧
    130 < 144 ∧
    5 < 4096 ∧
    (∀ (k : Nat), k < 18 → (ready07.portReady k && ready07.portEligible k) = decide (k = 16)) ∧
    List.filter (fun (m : Nat) => ready07.nodeEligible m) (List.map (fun (k : Nat) => 8 * 16 + k) (List.range 8)) = [130] ∧
    List.filter (fun (x : Nat) => ready07.queueEligible x) (ready07.activeQueues 130) = [5] ∧
    ready07.parentOf 5 = 130 ∧
    ready07.queueOf 5 =
  [{ frame := 0, queue := 5, pcp := 0, dei := false : Copy }, { frame := 1, queue := 5, pcp := 0, dei := false : Copy }] := by
  decide +kernel

theorem witness_SchedulerCommands_rebase :
    ready07.tm.nodes.wf NodeRun.init = true := by
  decide +kernel

theorem witness_SchedulerCommands_parentBad :
    ready07.serves (Reg.TMG_NCFG.addr 5 0) true ∧
    firstStatus ((St.VALUE, Reg.TMG_NCFG.reservedSet 256) :: ready07.ncfgChecks 5 256) ≠ St.OK := by
  unfold State.serves; decide +kernel

theorem witness_SchedulerCommands_parentBusy :
    ready07.serves (Reg.TMG_NCFG.addr 5 0) true ∧
    TMG_NCFG.PARENT.of 16 ≠ ready07.parentOf 5 ∧
    ready07.queueBusy 5 = true ∧
    Reg.TMG_NCFG.reservedSet 16 = false := by
  unfold State.serves; decide +kernel

theorem witness_SchedulerCommands_parent :
    hub.serves (Reg.TMG_NCFG.addr 3001 0) true ∧
    firstStatus ((St.VALUE, Reg.TMG_NCFG.reservedSet 8519681) :: hub.ncfgChecks 3001 8519681) = St.OK := by
  unfold State.serves; decide +kernel

theorem witness_SchedulerCommands_meterBad :
    7 < 2048 ∧
    2 ≤ 5 ∧
    3932392 = 3932160 + 32 * 7 + 4 * 2 ∧
    (meter07 2).serves 3932392 true ∧
    firstStatus ((meter07 2).writeChecks (meterReg 2) 7 63 ++ ((meter07 2).writeFields (meterReg 2) 7 63).meterChecks 7) ≠
  St.OK := by
  unfold State.serves; decide +kernel

theorem witness_SchedulerCommands_meter :
    7 < 2048 ∧
    2 ≤ 5 ∧
    3932392 = 3932160 + 32 * 7 + 4 * 2 ∧
    (meter07 2).serves 3932392 true ∧
    firstStatus ((meter07 2).writeChecks (meterReg 2) 7 100 ++ ((meter07 2).writeFields (meterReg 2) 7 100).meterChecks 7) =
  St.OK := by
  unfold State.serves; decide +kernel

/-- Input 5 of the worked example of spec/08: a hub whose field supply is good, CHAT_N 5, CHAT_WIN 100 ms, value 40. -/
def di08 (s : State := hub) : State :=
  (((((s.wr FLD_DICFG.EN 1 5).wr FLD_STATUS.FIELD_OK 1).wr FLD_STATUS.D2D_UP 1).wr FLD_DICHAT.CHAT_WIN 100 5)).setDi 5 { DiRun.init with edge := some 10000000, value := 40 }
def chat08 (s : State := hub) : State := (di08 s).wr FLD_DICHAT.CHAT_N 5 5
def fifo08 (n : Nat) (s : State := hub) : State := s.modFld (fun f => { f with tsFifo := (List.range n).map (fun k => ⟨k % 16, true, false, k⟩) })
def fifth08 : State := (chat08.wr FLD_DISTAT.RAW 1 5).setDi 5 ⟨some 90000000, [72000000, 52000000, 32000000, 12000000], 48, some 72000000, 70000000⟩
def chatter08 (v : Nat) : State := ((chat08.wr FLD_DISTAT.CHATTER 1 5).wr FLD_DISTAT.LEVEL 1 5).setDi 5 ⟨none, [], v, some 92000000, 90000000⟩
def active08 : State := ((di08.wr FLD_DISTAT.LEVEL 1 5).wr FLD_DISTUCK.STUCK_MS 10000 5)
def seg08 (s : State := hub) : State := (s.wr FLD_SCTRL.EN 1 2).wr FLD_SCTRL.QUAR 1 2
def adm08 : State := ((((seg08.wr FLD_ADM1.VALID 1 9).wr FLD_ADM1.SEG 2 9).wr FLD_ADM0.MAC_LO 7 9).wr FLD_ADM2.CYC_ETYPE 0x88F7 9).wr FLD_ADM4.CYC_TO 5 9
def cyc08 : List Byte := be 6 1 ++ be 6 7 ++ be 2 0x88F7 ++ be 2 0 ++ be 2 0x1234
def fault08 : State := (seg08.wr FLD_SSTAT.LINEFAULT 1 2).modFld (fun f => { f with probes := [(2, 7)] })
def noPt08 : State := (List.range 8).foldl (fun s k => s.wr FLD_OCFG.PT 100 k) hub
def safe08 : State := ((hub.wr FLD_OCTRL.SAFE 1).wr FLD_STATUS.D2D_UP 1).wr FLD_OCTRL.AUTOARM 1
def fresh08 : State := ((safe08.wr FLD_OCTRL.ULOSS_EN 0).modFld (fun f => { f with wdFresh := true }))

theorem witness_TimestampFifo_counted :
    (di08.di 5).edge = some 10000000 ∧
    di08.on FLD_DICFG.EN 5 = true ∧
    di08.on FLD_STATUS.FIELD_OK = true ∧
    di08.on FLD_DISTAT.CHATTER 5 = false ∧
    di08.rd FLD_DICHAT.CHAT_N 5 = 0 := by
  decide +kernel

theorem witness_TimestampFifo_fullFifo :
    ((fifo08 64 di08).di 5).edge = some 10000000 ∧
    (fifo08 64 di08).on FLD_DICFG.EN 5 = true ∧
    (fifo08 64 di08).on FLD_STATUS.FIELD_OK = true ∧
    (fifo08 64 di08).on FLD_DISTAT.CHATTER 5 = false ∧
    (fifo08 64 di08).rd FLD_DICHAT.CHAT_N 5 = 0 := by
  decide +kernel

theorem witness_TimestampFifo_cleared :
    (chatter08 48).on FLD_DISTAT.CHATTER 5 = true ∧
    (chatter08 48).on FLD_DICFG.EN 5 = true ∧
    (chatter08 48).on FLD_STATUS.FIELD_OK = true ∧
    (chatter08 48).on FLD_DISTAT.LEVEL 5 ≠ (((chatter08 48).di 5).value % 2 == 1) ∧
    (chatter08 48).fld.tsFifo.length < 64 := by
  decide +kernel

theorem witness_TimestampFifo_popEmpty :
    hub.serves Reg.FLD_TSCMD.base true ∧
    Reg.FLD_TSCMD.reservedSet 1 = false ∧
    FLD_TSCMD.POP.of 1 = 1 ∧
    hub.fld.tsFifo = [] := by
  unfold State.serves; decide +kernel

theorem witness_TimestampFifo_pop :
    (fifo08 2).serves Reg.FLD_TSCMD.base true ∧
    Reg.FLD_TSCMD.reservedSet 1 = false ∧
    FLD_TSCMD.POP.of 1 = 1 ∧
    (fifo08 2).fld.tsFifo =
  [{ input := 0, level := true, clear := false, time := 0 : TsEnt },
    { input := 1, level := true, clear := false, time := 1 : TsEnt }] := by
  unfold State.serves; decide +kernel

theorem witness_DirectInputs_held :
    ((chat08.wr FLD_STATUS.FIELD_OK 0).di 5).edge = some 10000000 ∧
    (chat08.wr FLD_STATUS.FIELD_OK 0).on FLD_DICFG.EN 5 = true ∧
    (chat08.wr FLD_STATUS.FIELD_OK 0).on FLD_STATUS.FIELD_OK = false := by
  decide +kernel

theorem witness_DirectInputs_accepted :
    (chat08.di 5).edge = some 10000000 ∧
    chat08.on FLD_DICFG.EN 5 = true ∧
    chat08.on FLD_STATUS.FIELD_OK = true := by
  decide +kernel

theorem witness_DirectInputs_fifth :
    (fifth08.di 5).edge = some 90000000 ∧
    fifth08.on FLD_DICFG.EN 5 = true ∧
    fifth08.on FLD_STATUS.FIELD_OK = true := by
  decide +kernel

theorem witness_DirectInputs_chatterEnd :
    (chatter08 49).on FLD_DISTAT.CHATTER 5 = true ∧
    (chatter08 49).on FLD_DICFG.EN 5 = true ∧
    (chatter08 49).on FLD_STATUS.FIELD_OK = true ∧
    (chatter08 49).on FLD_DISTAT.LEVEL 5 = (((chatter08 49).di 5).value % 2 == 1) := by
  decide +kernel

theorem witness_DirectInputs_stuck :
    active08.on FLD_DICFG.EN 5 = true ∧
    active08.on FLD_STATUS.FIELD_OK = true ∧
    active08.on FLD_DISTUCK.STUCK_MS 5 = true ∧
    active08.on FLD_DISTAT.LEVEL 5 = true ∧
    active08.on FLD_DISTAT.STUCK 5 = false := by
  decide +kernel

theorem witness_DirectInputs_low :
    di08.on FLD_STATUS.FIELD_OK = true := by
  decide +kernel

theorem witness_DirectInputs_back :
    ((di08.wr FLD_STATUS.FIELD_OK 0).wr FLD_DISTAT.RAW 1 3).on FLD_STATUS.FIELD_OK = false := by
  decide +kernel

theorem witness_SegmentsAndOutputs_segOff :
    hub.on FLD_SCTRL.EN 2 = false := by
  decide +kernel

theorem witness_SegmentsAndOutputs_badFcs :
    seg08.on FLD_SCTRL.EN 2 = true := by
  decide +kernel

theorem witness_SegmentsAndOutputs_stranger :
    seg08.on FLD_SCTRL.EN 2 = true ∧
    seg08.admission 2 (beAt cyc08 6 6) = none ∧
    seg08.on FLD_SCTRL.QUAR 2 = true ∧
    seg08.fld.quar.length < 16 := by
  decide +kernel

theorem witness_SegmentsAndOutputs_cyclic :
    adm08.on FLD_SCTRL.EN 2 = true ∧
    adm08.admission 2 (beAt cyc08 6 6) = some 9 ∧
    adm08.on FLD_ADM1.CHK_ID 9 = false ∧
    adm08.on FLD_ADM2.CYC_ETYPE 9 = true ∧
    (etherAt cyc08 12 4).snd = adm08.rd FLD_ADM2.CYC_ETYPE 9 := by
  decide +kernel

theorem witness_SegmentsAndOutputs_noise :
    (seg08.wr FLD_SCTRL.PLCA_EN 0 2).on FLD_SCTRL.PLCA_EN 2 = false ∧
    0 ≤ (seg08.wr FLD_SCTRL.PLCA_EN 0 2).rd FLD_SCTRL.NOISE_LIM 2 := by
  decide +kernel

theorem witness_SegmentsAndOutputs_lost :
    adm08.on FLD_ADM1.VALID 9 = true ∧
    adm08.on FLD_ADM2.CYC_ETYPE 9 = true ∧
    adm08.on FLD_ADM4.CYC_TO 9 = true ∧
    adm08.fld.lost.get false 9 = false := by
  decide +kernel

theorem witness_SegmentsAndOutputs_lostYet :
    (adm08.modFld fun (f : Fld) =>
        { di := f.di, tsFifo := f.tsFifo, probes := f.probes, noiseAt := f.noiseAt, lost := [(9, true)], quar := f.quar,
          out := f.out, wdFresh := f.wdFresh, loaded := f.loaded : Fld }).on
    FLD_ADM1.VALID 9 =
  true ∧
    (adm08.modFld fun (f : Fld) =>
        { di := f.di, tsFifo := f.tsFifo, probes := f.probes, noiseAt := f.noiseAt, lost := [(9, true)], quar := f.quar,
          out := f.out, wdFresh := f.wdFresh, loaded := f.loaded : Fld }).on
    FLD_ADM2.CYC_ETYPE 9 =
  true ∧
    (adm08.modFld fun (f : Fld) =>
        { di := f.di, tsFifo := f.tsFifo, probes := f.probes, noiseAt := f.noiseAt, lost := [(9, true)], quar := f.quar,
          out := f.out, wdFresh := f.wdFresh, loaded := f.loaded : Fld }).on
    FLD_ADM4.CYC_TO 9 =
  true ∧
    (adm08.modFld fun (f : Fld) =>
            { di := f.di, tsFifo := f.tsFifo, probes := f.probes, noiseAt := f.noiseAt, lost := [(9, true)],
              quar := f.quar, out := f.out, wdFresh := f.wdFresh, loaded := f.loaded : Fld }).fld.lost.get
    false 9 =
  true := by
  decide +kernel

theorem witness_SegmentsAndOutputs_fault :
    seg08.on FLD_SCTRL.EN 2 = true ∧
    seg08.on FLD_SSTAT.LINEFAULT 2 = false := by
  decide +kernel

theorem witness_SegmentsAndOutputs_probe :
    fault08.on FLD_SSTAT.LINEFAULT 2 = true := by
  decide +kernel

theorem witness_SegmentsAndOutputs_eighth :
    fault08.on FLD_SSTAT.LINEFAULT 2 = true ∧
    fault08.fld.probes.get 0 2 = 7 ∧
    fault08.on FLD_SCTRL.EN 2 = true := by
  decide +kernel

theorem witness_SegmentsAndOutputs_produced :
    (hub.wr FLD_DIBASE.DIEN 1).serves (5308416 + 4 * 3) true ∧
    (hub.wr FLD_DIBASE.DIEN 1).producers 3 ≠ [] := by
  unfold State.serves; decide +kernel

theorem witness_SegmentsAndOutputs_point :
    noPt08.serves (5308416 + 4 * 3) true ∧
    noPt08.producers 3 = [] ∧
    (∀ (k : Nat), k < 8 → noPt08.rd FLD_OCFG.PT k ≠ 3) := by
  unfold State.serves; decide +kernel

theorem witness_SegmentsAndOutputs_kickPoint :
    (hub.wr FLD_OWD.KSRC 1).serves Reg.FLD_OKICK.base true ∧
    (hub.wr FLD_OWD.KSRC 1).on FLD_OWD.KSRC = true := by
  unfold State.serves; decide +kernel

theorem witness_SegmentsAndOutputs_kickBad :
    hub.serves Reg.FLD_OKICK.base true ∧
    hub.on FLD_OWD.KSRC = false ∧
    23131 ≠ 23130 := by
  unfold State.serves; decide +kernel

theorem witness_SegmentsAndOutputs_kick :
    hub.serves Reg.FLD_OKICK.base true ∧
    hub.on FLD_OWD.KSRC = false ∧
    23130 = 23130 := by
  unfold State.serves; decide +kernel

theorem witness_SegmentsAndOutputs_lapsed :
    safe08.on FLD_OCTRL.SAFE = true := by
  decide +kernel

theorem witness_SegmentsAndOutputs_d2dLost :
    safe08.on FLD_OCTRL.SAFE = true := by
  decide +kernel

theorem witness_SegmentsAndOutputs_autoarm :
    fresh08.on FLD_OCTRL.SAFE = true ∧
    fresh08.on FLD_OCTRL.AUTOARM = true ∧
    fresh08.mayArm = true := by
  decide +kernel

theorem witness_SegmentsAndOutputs_noAutoarm :
    safe08.on FLD_OCTRL.SAFE = true ∧
    safe08.mayArm = false := by
  decide +kernel

theorem witness_SegmentsAndOutputs_lapse :
    (hub.wr FLD_OCTRL.SAFE 0).on FLD_OCTRL.SAFE = false := by
  decide +kernel

theorem witness_SegmentsAndOutputs_lapseD2d :
    (hub.wr FLD_OCTRL.SAFE 0).on FLD_OCTRL.SAFE = false := by
  decide +kernel

theorem witness_SegmentsAndOutputs_armNot :
    safe08.serves Reg.FLD_OCTRL.base true ∧
    firstStatus (safe08.writeChecks Reg.FLD_OCTRL 0 1) = St.OK ∧
    FLD_OCTRL.ARM.of 1 = 1 ∧
    (safe08.writeFields Reg.FLD_OCTRL 0 1).mayArm = false := by
  unfold State.serves; decide +kernel

theorem witness_SegmentsAndOutputs_arm :
    fresh08.serves Reg.FLD_OCTRL.base true ∧
    firstStatus (fresh08.writeChecks Reg.FLD_OCTRL 0 1) = St.OK ∧
    FLD_OCTRL.ARM.of 1 = 1 ∧
    (fresh08.writeFields Reg.FLD_OCTRL 0 1).mayArm = true := by
  unfold State.serves; decide +kernel

def eth09 (s : State := hub) : State := s.wr ETH_STATUS.LINK 1 3
def fr09 (et : Nat) : List Byte := be 6 1 ++ be 6 2 ++ be 2 et ++ List.replicate 60 0
def ts09 : State := { hub with eth := { hub.eth with txts := [(3, [(7, 0x123456789A), (8, 9)])] } }
def root09 : State := hub.wr GLB_HUB.ROOT 1
def step09 : State := (((root09.wr TSU_STATUS.STEP_PEND 1).wr TSU_RATE.RATE 5).modTsu (fun t => { t with step := 1000, ratePend := true }))

theorem witness_EthernetPorts_noLink :
    hub.on ETH_STATUS.LINK 3 = false := by
  decide +kernel

theorem witness_EthernetPorts_fcs :
    eth09.on ETH_STATUS.LINK 3 = true := by
  decide +kernel

theorem witness_EthernetPorts_short :
    eth09.on ETH_STATUS.LINK 3 = true ∧
    [1, 2].length < 60 := by
  decide +kernel

theorem witness_EthernetPorts_ctl :
    eth09.on ETH_STATUS.LINK 3 = true ∧
    60 ≤ (fr09 34824).length ∧
    eth09.gwTakes 3 (fr09 34824) = none ∧
    beAt (fr09 34824) 12 2 = 34824 := by
  decide +kernel

theorem witness_EthernetPorts_vlan :
    (eth09.wr ETH_VLAN.ACCEPT 1 3).on ETH_STATUS.LINK 3 = true ∧
    60 ≤ (fr09 2048).length ∧
    (eth09.wr ETH_VLAN.ACCEPT 1 3).gwTakes 3 (fr09 2048) = none ∧
    beAt (fr09 2048) 12 2 ≠ 34824 ∧
    (fr09 2048).length + 8 ≤ (eth09.wr ETH_VLAN.ACCEPT 1 3).rd ETH_CTRL.MAXLEN 3 ∧
    (eth09.wr ETH_VLAN.ACCEPT 1 3).on ETH_CTRL.PTP_TRAP 3 = false ∧
    (eth09.wr ETH_VLAN.ACCEPT 1 3).classify 3 (fr09 2048) = none := by
  decide +kernel

theorem witness_EthernetPorts_enters :
    eth09.on ETH_STATUS.LINK 3 = true ∧
    60 ≤ (fr09 2048).length ∧
    eth09.gwTakes 3 (fr09 2048) = none ∧
    beAt (fr09 2048) 12 2 ≠ 34824 ∧
    (fr09 2048).length + 8 ≤ eth09.rd ETH_CTRL.MAXLEN 3 ∧
    eth09.on ETH_CTRL.PTP_TRAP 3 = false ∧
    eth09.classify 3 (fr09 2048) = some 1 ∧
    (∀ (i : Nat), i < 512 → eth09.clsMatches i 3 (fr09 2048) = false) := by
  decide +kernel

theorem witness_EthernetPorts_up :
    ((hub.wr ETH_CTRL.EN 1 3).wr ETH_CTRL.MODE 4 3).on ETH_CTRL.EN 3 = true ∧
    ((hub.wr ETH_CTRL.EN 1 3).wr ETH_CTRL.MODE 4 3).rd ETH_CTRL.MODE 3 = 4 ∧
    ((hub.wr ETH_CTRL.EN 1 3).wr ETH_CTRL.MODE 4 3).on ETH_STATUS.LINK 3 = false := by
  decide +kernel

theorem witness_EthernetPorts_down :
    eth09.on ETH_STATUS.LINK 3 = true ∧
    eth09.gwRuns = false := by
  decide +kernel

theorem witness_EthernetPorts_popEmpty :
    hub.serves (Reg.ETH_TXTSCMD.addr 3 0) true ∧
    firstStatus (hub.writeChecks Reg.ETH_TXTSCMD 3 1) = St.OK ∧
    ETH_TXTSCMD.POP.of 1 = 1 ∧
    hub.eth.txts.get [] 3 = [] := by
  unfold State.serves; decide +kernel

theorem witness_EthernetPorts_pop :
    ts09.serves (Reg.ETH_TXTSCMD.addr 3 0) true ∧
    firstStatus (ts09.writeChecks Reg.ETH_TXTSCMD 3 1) = St.OK ∧
    ETH_TXTSCMD.POP.of 1 = 1 ∧
    ts09.eth.txts.get [] 3 = [(7, 78187493530), (8, 9)] := by
  unfold State.serves; decide +kernel

theorem witness_TreeTimeCommands_stepNode :
    hub.serves Reg.TSU_STEPCMD.base true ∧
    Reg.TSU_STEPCMD.reservedSet 2147483648 = false ∧
    TSU_STEPCMD.GO.of 2147483648 = 1 ∧
    hub.isRoot = false := by
  unfold State.serves; decide +kernel

theorem witness_TreeTimeCommands_stepBusy :
    step09.serves Reg.TSU_STEPCMD.base true ∧
    Reg.TSU_STEPCMD.reservedSet 2147483648 = false ∧
    TSU_STEPCMD.GO.of 2147483648 = 1 ∧
    step09.isRoot = true ∧
    step09.on TSU_STATUS.STEP_PEND = true := by
  unfold State.serves; decide +kernel

theorem witness_TreeTimeCommands_step :
    root09.serves Reg.TSU_STEPCMD.base true ∧
    Reg.TSU_STEPCMD.reservedSet 2147483648 = false ∧
    TSU_STEPCMD.GO.of 2147483648 = 1 ∧
    root09.isRoot = true ∧
    root09.on TSU_STATUS.STEP_PEND = false := by
  unfold State.serves; decide +kernel

theorem witness_TreeTimeCommands_rateNode :
    hub.serves Reg.TSU_RATE.base true ∧
    firstStatus (hub.writeChecks Reg.TSU_RATE 0 1) = St.OK ∧
    hub.isRoot = false := by
  unfold State.serves; decide +kernel

theorem witness_TreeTimeCommands_rateRange :
    root09.serves Reg.TSU_RATE.base true ∧
    firstStatus (root09.writeChecks Reg.TSU_RATE 0 4194305) = St.OK ∧
    root09.isRoot = true ∧
    (4194304 < sgn 32 4194305 ∨ sgn 32 4194305 < -4194304) := by
  unfold State.serves; decide +kernel

theorem witness_TreeTimeCommands_rate :
    root09.serves Reg.TSU_RATE.base true ∧
    firstStatus (root09.writeChecks Reg.TSU_RATE 0 4290772992) = St.OK ∧
    root09.isRoot = true ∧
    -4194304 ≤ sgn 32 4290772992 ∧
    sgn 32 4290772992 ≤ 4194304 := by
  unfold State.serves; decide +kernel

theorem witness_TreeTimeCommands_nothing :
    root09.on TSU_STATUS.STEP_PEND = false ∧
    root09.eth.tsu.ratePend = false := by
  decide +kernel

theorem witness_TreeTimeCommands_applied :
    step09.on TSU_STATUS.STEP_PEND = true ∧
    step09.eth.tsu.ratePend = true := by
  decide +kernel

theorem witness_TreeTimeCommands_old :
    ((hub.wr PLN_SFN.SFN 2560).isRoot = true ∨ 2 < hfnAhead (hub.wr PLN_SFN.SFN 2560).hfn 3) := by
  decide +kernel

theorem witness_TreeTimeCommands_delay :
    hub.isRoot = false ∧
    hfnAhead hub.hfn 0 ≤ 2 := by
  decide +kernel

theorem witness_TreeTimeCommands_lost :
    (hub.wr TSU_CTRL.PTP_LOCK 1).on TSU_CTRL.PTP_LOCK = true := by
  decide +kernel

theorem witness_TreeTimeCommands_notLost :
    hub.on TSU_CTRL.PTP_LOCK = false := by
  decide +kernel

def pcb10 (s : State := hub) : State := (s.wr PCB_CTRL.EN 1).wr PCB_STATUS.LINK 1
def wr10 : List Byte := [0x40, 0, 0, 1, 0, 0, 7, 0x0F, 0x10, 0, 0, 0, 1, 2, 3, 4]
def rd10 : List Byte := [0x00, 0, 0, 1, 0, 0, 7, 0x0F, 0x10, 0, 0, 0]
def cfg10 : List Byte := [0x04, 0, 0, 1, 0, 0, 7, 0x0F, 0, 0, 0, 0]
def ready10 (s : State := pcb10) : State := s.modVd 0 (fun v => { v with present := true })
def credit10 : List Byte := le 2 16 ++ le 1 1 ++ le 5 0 ++ le 8 0x0004000300020001 ++ le 8 0
def item10 (b : List Byte) : List Byte := pcieItemBytes 0 b
/-- Tunnel index 0x010 is the storage tunnel: one end at the PCIe bridge. -/
def tun10 (s : State := ready10) : State := ((((s.wr TUN_ENT0.VALID 1 16).wr TUN_ENT0.CLASS 1 16).wr TUN_ENT0.TID 77 16).wr TUN_ENT1.EP_A 0x30 16).wr TUN_ENT1.EP_B 2 16
def np10 : NpReq := ⟨7, rd10, 0x10000000, 4, 4, 0, true⟩
def out10 : State := ready10.modVd 0 (fun v => { v with outNp := [np10] })
def ra10 : State := hub.modPcb (fun b => { b with ra := [⟨0x1000, [(1, true), (2, false)]⟩, ⟨0x2000, [(1, false)]⟩] })
def ssd10 (perst : Bool) (s : State := hub) : State := (s.wr PCB_CTRL.EN 1).modPcb (fun b => { b with perst := perst, loaded := true })
def sbr10 : State := tun10 ((hub.wr GLB_HUB.ROOT 1).setCfg 1 15 0x400000)

theorem witness_PcieTraffic_off :
    (hub.on PCB_CTRL.EN = false ∨ hub.on PCB_STATUS.LINK = false) := by
  decide +kernel

theorem witness_PcieTraffic_partTlp :
    pcb10.on PCB_CTRL.EN = true ∧
    pcb10.on PCB_STATUS.LINK = true ∧
    tlpWhole (List.take 14 wr10) = false := by
  decide +kernel

theorem witness_PcieTraffic_goneP :
    pcb10.on PCB_CTRL.EN = true ∧
    pcb10.on PCB_STATUS.LINK = true ∧
    tlpWhole wr10 = true ∧
    tlpIsMem wr10 = true ∧
    pcb10.isRoot = false ∧
    (pcb10.vd 0).present = false ∧
    tlpHasData wr10 = true := by
  decide +kernel

theorem witness_PcieTraffic_goneNp :
    pcb10.on PCB_CTRL.EN = true ∧
    pcb10.on PCB_STATUS.LINK = true ∧
    tlpWhole rd10 = true ∧
    tlpIsMem rd10 = true ∧
    pcb10.isRoot = false ∧
    (pcb10.vd 0).present = false ∧
    tlpHasData rd10 = false := by
  decide +kernel

theorem witness_PcieTraffic_posted :
    ready10.on PCB_CTRL.EN = true ∧
    ready10.on PCB_STATUS.LINK = true ∧
    tlpWhole wr10 = true ∧
    tlpIsMem wr10 = true ∧
    ready10.isRoot = false ∧
    (ready10.vd 0).present = true ∧
    tlpHasData wr10 = true := by
  decide +kernel

theorem witness_PcieTraffic_proxy :
    (pcb10 root09).on PCB_CTRL.EN = true ∧
    (pcb10 root09).on PCB_STATUS.LINK = true ∧
    tlpWhole cfg10 = true ∧
    tlpType cfg10 = 4 ∧
    (pcb10 root09).isRoot = true ∧
    cfgFn cfg10 = 0 ∧
    tlpHasData cfg10 = false ∧
    (pcb10 root09).cfgRead 0 (cfgDw cfg10) = some 0 := by
  decide +kernel

theorem witness_PcieTraffic_away :
    (pcb10.vd 0).present = false := by
  decide +kernel

theorem witness_PcieTraffic_badItem :
    (ready10.vd 0).present = true ∧
    itemBad 1 (item10 wr10 ++ [0]) = true ∧
    1 ≠ 0 := by
  decide +kernel

theorem witness_PcieTraffic_credit :
    (ready10.vd 0).present = true ∧
    itemBad 3 credit10 = false ∧
    byteAt credit10 2 % 16 = 1 := by
  decide +kernel

theorem witness_PcieTraffic_poisoned :
    (ready10.vd 0).present = true ∧
    itemBad 0 (item10 (wr10.set 2 64)) = false ∧
    byteAt (item10 (wr10.set 2 64)) 2 % 16 = 0 ∧
    tlpIsCpl (List.drop 8 (item10 (wr10.set 2 64))) = false ∧
    tlpPosted (List.drop 8 (item10 (wr10.set 2 64))) = true ∧
    tlpPoisoned (List.drop 8 (item10 (wr10.set 2 64))) = true := by
  decide +kernel

theorem witness_PcieTraffic_noCredit :
    (hub.vd 0).present = false := by
  decide +kernel

theorem witness_PcieTraffic_sendCredit :
    (tun10.vd 0).present = true ∧
    tun10.pcieTix 0 = some 16 := by
  decide +kernel

theorem witness_PcieTraffic_noTimeout :
    (∀ (r : NpReq), r ∈ (hub.vd 0).outNp → r.key ≠ 7) := by
  decide +kernel

theorem witness_PcieTraffic_timeout :
    out10.isRoot = false ∧
    (out10.vd 0).outNp = [np10] ∧
    np10.key = 7 ∧
    (out10.vd 0).hold = [] ∧
    (out10.vd 0).waiting = [] := by
  decide +kernel

theorem witness_PcieLinkAndResets_upNot :
    ((ssd10 true).on PCB_CTRL.EN = false ∨
  (ssd10 true).on PCB_STATUS.LINK = true ∨ (ssd10 true).isRoot = false ∧ (ssd10 true).pcb.perst = true) := by
  decide +kernel

theorem witness_PcieLinkAndResets_upNode :
    (ssd10 false).on PCB_CTRL.EN = true ∧
    (ssd10 false).on PCB_STATUS.LINK = false ∧
    4 ≠ 0 ∧
    4 ≤ (ssd10 false).pcieMaxGen ∧
    4 ∈ [1, 2, 4] ∧
    (ssd10 false).isRoot = false ∧
    (ssd10 false).pcb.perst = false := by
  decide +kernel

theorem witness_PcieLinkAndResets_upRoot :
    (ssd10 false root09).on PCB_CTRL.EN = true ∧
    (ssd10 false root09).on PCB_STATUS.LINK = false ∧
    4 ≠ 0 ∧
    4 ≤ (ssd10 false root09).pcieMaxGen ∧
    4 ∈ [1, 2, 4] ∧
    (ssd10 false root09).isRoot = true := by
  decide +kernel

theorem witness_PcieLinkAndResets_downNot :
    hub.on PCB_STATUS.LINK = false := by
  decide +kernel

theorem witness_PcieLinkAndResets_downRoot :
    (pcb10 root09).on PCB_STATUS.LINK = true ∧
    (pcb10 root09).isRoot = true := by
  decide +kernel

theorem witness_PcieLinkAndResets_downNode :
    pcb10.on PCB_STATUS.LINK = true ∧
    pcb10.isRoot = false := by
  decide +kernel

theorem witness_PcieLinkAndResets_rstRoot :
    root09.isRoot = true := by
  decide +kernel

theorem witness_PcieLinkAndResets_rstNode :
    (ra10.wr GLB_HUB.ROOT 0).isRoot = false ∧
    ((ra10.wr GLB_HUB.ROOT 0).vd 0).present = false ∧
    (ra10.wr GLB_HUB.ROOT 0).pcieTix 0 = none := by
  decide +kernel

theorem witness_PcieLinkAndResets_release :
    (ssd10 true).isRoot = false ∧
    (ssd10 true).pcb.loaded = true ∧
    (ssd10 true).on PCB_CTRL.EN = true ∧
    (ssd10 true).pcb.perst = true := by
  decide +kernel

theorem witness_PcieLinkAndResets_releaseNot :
    (hub.isRoot = true ∨ hub.pcb.loaded = false ∨ hub.on PCB_CTRL.EN = false) := by
  decide +kernel

theorem witness_PcieLinkAndResets_vdspNode :
    hub.isRoot = false := by
  decide +kernel

theorem witness_PcieLinkAndResets_vdspSbr :
    sbr10.isRoot = true ∧
    bitAt (sbr10.cfgWord (0 + 1) 15) 22 = true ∧
    sbr10.vdspExists 0 = true := by
  decide +kernel

theorem witness_PcieLinkAndResets_vdspHot :
    sbr10.isRoot = true := by
  decide +kernel

def msa11 : List Byte := le 20 1 ++ le 4 24
/-- A root with port 0 on; tunnel index 16 is its video tunnel and 17 its AUX tunnel, both over JXL port 2. -/
def dp11 (s : State := hub) : State := (((((((s.wr DPT_CTRL.EN 1 0).wr TUN_ENT0.VALID 1 16).wr TUN_ENT1.EP_A 0x31 16).wr TUN_ENT1.EP_B 2 16).wr TUN_ENT0.VALID 1 17).wr
  TUN_ENT1.EP_A 0x33 17).wr TUN_ENT1.EP_B 2 17).wr TUN_ENT0.CLASS 1 17
def rdp11 (s : State := hub) : State := dp11 (s.wr GLB_HUB.ROOT 1)
/-- The video tunnel owns slot 5 of plan 0, which is active on port 2. -/
def sends11 (s : State := hub) : State := ((rdp11 (linked 2 6 s)).wr PLN_LSTAT.BOOT 0 2).modLk 2 (fun l => { l with plan := { l.plan with rxBoot := false } })
def plan11 (s : State := hub) : State := { sends11 s with planStore := NMap.set (sends11 s).planStore 0 (planKey 2 0 0 5) 16 }
def streams11 (s : State) : State := s.wr DPT_STATUS.STREAM 1 0
def shows11 : State := (dp11 hub).wr DPT_STATUS.SINK 1 0
def line11 : List Byte := [0, 2, 0, 0, 4, 0, 9, 8, 7, 6]
def long11 : List Byte := le 2 0 ++ le 2 0 ++ le 2 40 ++ (List.range 66).map (fun k => BitVec.ofNat 8 (k + 1))
def full11 : State := shows11.modDp 0 (fun v => { v with buf := List.replicate 65536 0 })
def good11 (n : Nat) : State := shows11.modDp 0 (fun v => { v with good := n, pair := some (1, 2) })
def req11 (r : Option (Nat × List Byte)) : State := rdp11.modDp 0 (fun v => { v with aux := some ⟨1, 0x50, 2, [], 7, r⟩ })
def edid11 : State := (dp11 hub).wr DPT_STATUS.EDID 1 0

theorem witness_DisplayStream_noFit :
    rdp11.isRoot = true ∧
    rdp11.on DPT_CTRL.EN = true ∧
    byteAt msa11 0 = 1 ∧
    24 ≤ msa11.length ∧
    148500 ≠ 0 ∧
    148500 ≠ (rdp11.dpt 0).clk ∧
    (rdp11.modDp 0 fun (b : Dp) =>
        { clk := 148500, msa := msa11, mirror := b.mirror, nodeRate := b.nodeRate, nodeLanes := b.nodeLanes,
          attached := b.attached, away := b.away, irq := b.irq, dpcd := b.dpcd, aux := b.aux, mseq := b.mseq,
          edid := b.edid, caps := b.caps, edidAt := b.edidAt, edidSeg := b.edidSeg, buf := b.buf, line := b.line,
          pair := b.pair, good := b.good : Dp }).streamFits
    0 =
  false := by
  decide +kernel

theorem witness_DisplayStream_fits :
    plan11.isRoot = true ∧
    plan11.on DPT_CTRL.EN = true ∧
    byteAt msa11 0 = 1 ∧
    24 ≤ msa11.length ∧
    1000 ≠ 0 ∧
    1000 ≠ (plan11.dpt 0).clk ∧
    (plan11.modDp 0 fun (b : Dp) =>
        { clk := 1000, msa := msa11, mirror := b.mirror, nodeRate := b.nodeRate, nodeLanes := b.nodeLanes,
          attached := b.attached, away := b.away, irq := b.irq, dpcd := b.dpcd, aux := b.aux, mseq := b.mseq,
          edid := b.edid, caps := b.caps, edidAt := b.edidAt, edidSeg := b.edidSeg, buf := b.buf, line := b.line,
          pair := b.pair, good := b.good : Dp }).streamFits
    0 =
  true := by
  decide +kernel

theorem witness_DisplayStream_noPair :
    (rdp11.isRoot = false ∨ rdp11.on DPT_STATUS.STREAM = false) := by
  decide +kernel

theorem witness_DisplayStream_pairMiss :
    (streams11 rdp11).isRoot = true ∧
    (streams11 rdp11).on DPT_CTRL.EN = true ∧
    (streams11 rdp11).on DPT_STATUS.STREAM = true ∧
    (streams11 rdp11).videoTix 0 = some 16 ∧
    (streams11 rdp11).jxlOf 16 = some 2 ∧
    (streams11 rdp11).canSend 2 16 = false := by
  decide +kernel

theorem witness_DisplayStream_pairSent :
    (streams11 plan11).isRoot = true ∧
    (streams11 plan11).on DPT_CTRL.EN = true ∧
    (streams11 plan11).on DPT_STATUS.STREAM = true ∧
    (streams11 plan11).videoTix 0 = some 16 ∧
    (streams11 plan11).jxlOf 16 = some 2 ∧
    (streams11 plan11).canSend 2 16 = true := by
  decide +kernel

theorem witness_DisplayStream_dark :
    hub.dpShows 0 = false := by
  decide +kernel

theorem witness_DisplayStream_line :
    shows11.dpShows 0 = true ∧
    byteAt line11 0 = 0 ∧
    (shows11.dpt 0).buf.length + (List.take (leAt line11 4 2) (List.drop 6 line11)).length ≤ 65536 := by
  decide +kernel

theorem witness_DisplayStream_overrun :
    full11.dpShows 0 = true ∧
    byteAt line11 0 = 0 ∧
    (full11.dpt 0).buf.length = 65536 ∧
    List.take (leAt line11 4 2) (List.drop 6 line11) ≠ [] := by
  decide +kernel

theorem witness_DisplayStream_conceal :
    shows11.dpShows 0 = true ∧
    byteAt long11 0 = 0 ∧
    [1] ≠ [] ∧
    [1].contains 0 = false ∧
    shows11.on DPT_CTRL.CONCEAL = false := by
  decide +kernel

theorem witness_DisplayStream_badPair :
    (good11 3).dpShows 0 = true ∧
    16 ≤ 16 := by
  decide +kernel

theorem witness_DisplayStream_goodPair :
    (good11 3).dpShows 0 = true ∧
    1 < 16 ∧
    ((good11 3).dpt 0).good < 15 := by
  decide +kernel

theorem witness_DisplayStream_lockPair :
    (good11 15).dpShows 0 = true ∧
    1 < 16 ∧
    ((good11 15).dpt 0).good = 15 ∧
    (good11 15).on DPT_STATUS.LOCK = false := by
  decide +kernel

theorem witness_DisplayStream_lostNone :
    shows11.dpShows 0 = true ∧
    (shows11.dpt 0).pair = none := by
  decide +kernel

theorem witness_DisplayStream_lost :
    (good11 15).dpShows 0 = true ∧
    ((good11 15).dpt 0).pair ≠ none := by
  decide +kernel

theorem witness_DisplayStream_underrun :
    shows11.dpShows 0 = true ∧
    (shows11.dpt 0).buf = [] := by
  decide +kernel

theorem witness_DisplayStream_underrunOff :
    hub.dpShows 0 = false := by
  decide +kernel

theorem witness_AuxAndHotPlug_mirror :
    rdp11.isRoot = true ∧
    rdp11.on DPT_CTRL.EN = true ∧
    9 = 9 ∧
    0 ≤ 255 := by
  decide +kernel

theorem witness_AuxAndHotPlug_hdcp :
    rdp11.isRoot = true ∧
    rdp11.on DPT_CTRL.EN = true ∧
    8 ≤ 9 ∧
    425984 ≤ 425984 ∧
    425984 ≤ 458751 := by
  decide +kernel

theorem witness_AuxAndHotPlug_forward :
    rdp11.isRoot = true ∧
    rdp11.on DPT_CTRL.EN = true ∧
    1 < 8 ∧
    (rdp11.dpt 0).aux = none ∧
    rdp11.auxTix 0 = some 17 := by
  decide +kernel

theorem witness_AuxAndHotPlug_repeated :
    (req11 (some (0, [1, 2]))).isRoot = true ∧
    (req11 (some (0, [1, 2]))).on DPT_CTRL.EN = true ∧
    1 < 8 ∧
    ((req11 (some (0, [1, 2]))).dpt 0).aux =
  some { cmd := 1, addr := 80, len := 2, data := [], mseq := 7, reply := some (auxAck, [1, 2]) : AuxReq } := by
  decide +kernel

theorem witness_AuxAndHotPlug_timeout :
    (req11 none).isRoot = true ∧
    ((req11 none).dpt 0).aux = some { cmd := 1, addr := 80, len := 2, data := [], mseq := 7, reply := none : AuxReq } ∧
    { cmd := 1, addr := 80, len := 2, data := [], mseq := 7, reply := none : AuxReq }.reply = none := by
  decide +kernel

theorem witness_AuxAndHotPlug_reply :
    (req11 none).isRoot = true ∧
    ((req11 none).dpt 0).aux = some { cmd := 1, addr := 80, len := 2, data := [], mseq := 7, reply := none : AuxReq } ∧
    { cmd := 1, addr := 80, len := 2, data := [], mseq := 7, reply := none : AuxReq }.reply = none ∧
    byteAt (auxMessage 2 7 0 80 2 [5, 6]) 0 = 2 ∧
    byteAt (auxMessage 2 7 0 80 2 [5, 6]) 1 =
  { cmd := 1, addr := 80, len := 2, data := [], mseq := 7, reply := none : AuxReq }.mseq := by
  decide +kernel

theorem witness_AuxAndHotPlug_asked :
    dp11.isRoot = false ∧
    dp11.on DPT_CTRL.EN = true ∧
    byteAt (auxMessage 1 7 1 80 2 []) 0 = 1 ∧
    dp11.auxTix 0 = some 17 ∧
    dp11.on DPT_STATUS.EDID = false := by
  decide +kernel

theorem witness_AuxAndHotPlug_cached :
    edid11.isRoot = false ∧
    edid11.on DPT_CTRL.EN = true ∧
    byteAt (auxMessage 1 7 1 80 2 []) 0 = 1 ∧
    edid11.auxTix 0 = some 17 ∧
    byteAt (auxMessage 1 7 1 80 2 []) 2 % 16 = 1 ∧
    leAt (auxMessage 1 7 1 80 2 []) 3 3 % 2 ^ 20 = 80 ∧
    edid11.on DPT_STATUS.EDID = true := by
  decide +kernel

theorem witness_AuxAndHotPlug_attachFail :
    dp11.isRoot = false ∧
    dp11.on DPT_CTRL.EN = true ∧
    dp11.on DPT_STATUS.EDID = false := by
  decide +kernel

theorem witness_AuxAndHotPlug_attach :
    dp11.isRoot = false ∧
    dp11.on DPT_CTRL.EN = true ∧
    dp11.on DPT_STATUS.EDID = false ∧
    dp11.on DPT_STATUS.SINK = false := by
  decide +kernel

theorem witness_AuxAndHotPlug_detached :
    dp11.isRoot = false ∧
    dp11.on DPT_CTRL.EN = true ∧
    dp11.on DPT_STATUS.EDID = false := by
  decide +kernel

theorem witness_AuxAndHotPlug_noRetry :
    dp11.isRoot = false ∧
    dp11.on DPT_CTRL.EN = true ∧
    dp11.on DPT_STATUS.EDID = false := by
  decide +kernel

theorem witness_AuxAndHotPlug_retry :
    (edid11.wr DPT_STATUS.SINK 1).isRoot = false ∧
    (edid11.wr DPT_STATUS.SINK 1).on DPT_STATUS.EDID = true ∧
    (edid11.wr DPT_STATUS.SINK 1).on DPT_CTRL.EN = true ∧
    (edid11.wr DPT_STATUS.SINK 1).on DPT_STATUS.LINK = false ∧
    (edid11.wr DPT_STATUS.SINK 1).on DPT_STATUS.SINK = true := by
  decide +kernel

theorem witness_AuxAndHotPlug_irq :
    edid11.isRoot = false ∧
    edid11.on DPT_STATUS.EDID = true ∧
    edid11.on DPT_CTRL.EN = true := by
  decide +kernel

theorem witness_AuxAndHotPlug_detach :
    edid11.isRoot = false ∧
    edid11.on DPT_STATUS.EDID = true := by
  decide +kernel

theorem witness_AuxAndHotPlug_rootAttach :
    rdp11.isRoot = true ∧
    rdp11.on DPT_CTRL.EN = true ∧
    byteAt (auxMessage 3 7 0 0 2 [4, 4]) 0 = 3 := by
  decide +kernel

theorem witness_AuxAndHotPlug_rootDetach :
    rdp11.isRoot = true ∧
    rdp11.on DPT_CTRL.EN = true ∧
    byteAt (auxMessage 4 7 0 0 2 [4, 4]) 0 = 4 := by
  decide +kernel

theorem witness_AuxAndHotPlug_rootIrq :
    (rdp11.wr DPT_STATUS.SINK 1).isRoot = true ∧
    (rdp11.wr DPT_STATUS.SINK 1).on DPT_CTRL.EN = true ∧
    byteAt (auxMessage 5 7 0 0 2 [4, 4]) 0 = 5 ∧
    (rdp11.wr DPT_STATUS.SINK 1).on DPT_STATUS.SINK = true := by
  decide +kernel

theorem witness_AuxAndHotPlug_rootMirror :
    rdp11.isRoot = true ∧
    rdp11.on DPT_CTRL.EN = true ∧
    byteAt (auxMessage 6 7 0 0 2 [4, 4]) 0 = 6 := by
  decide +kernel

/-- A node whose hub core runs; tunnel index 18 is its ISO tunnel and 19 its GUAR tunnel, both over JXL port 2, its ACTIVE uplink, where they own slots 5 and 6. -/
def up12 : State := ((((linked 2 6 hub).wr PLN_LSTAT.UPSTREAM 1 2).wr PLN_LSTAT.BOOT 0 2).modLk 2 (fun l => { l with plan := { l.plan with rxBoot := false } }))
def plan12 : State := { up12 with planStore := NMap.set (NMap.set (NMap.set (NMap.set up12.planStore 0 (planKey 2 0 0 5) 18) 0 (planKey 2 0 0 6) 19) 0 (planKey 2 1 0 5) 18) 0 (planKey 2 1 0 6) 19 }
def usb12 (s : State := plan12) : State := (((((((((s.wr USB_CTRL.EN 1).wr USB_STATUS.RUN 1).wr TUN_ENT0.VALID 1 18).wr TUN_ENT1.EP_A 0x35 18).wr TUN_ENT1.EP_B 2 18).wr TUN_ENT0.VALID 1 19).wr
  TUN_ENT1.EP_A 0x36 19).wr TUN_ENT1.EP_B 2 19).wr TUN_ENT0.CLASS 1 19)
def desc12 (pid : Nat) : List Byte := le 1 1 ++ le 1 (1 + pid * 16) ++ le 2 1 ++ le 2 64 ++ le 2 8 ++ le 8 0
def burst12 (m : Nat) : List Byte := le 1 1 ++ le 1 m ++ le 1 1 ++ le 1 0 ++ le 2 16 ++ le 2 0 ++ desc12 2
def tx12 (pid : Nat) : UsbTx := ⟨1, 1, pid, 0, 1, 0, 64, 8, [], false, 0⟩
def held12 (l : List UsbTx) (n : Nat := 1) : State := ((usb12.wr USB_PORT.ENABLE 1 1).wr USB_STATUS.NEXT_BSEQ 3).modUsb (fun u => { u with bursts := List.replicate n ⟨2, l⟩, dones := [(1, [9])] })
def port12 (s : State := usb12) : State := ((s.wr USB_PORT.POWER 1 1).wr USB_PORT.CONNECT 1 1).wr USB_PORT.ENABLE 1 1
def sus12 (n : Nat) (s : State := port12) : State := ((s.wr USB_STATUS.SUSPENDED 1).wr USB_STATUS.RUN 0).modUsb (fun u => { u with resume := n, resumeSeq := 7, wakers := n })
def psus12 (n : Nat) : State := (port12.wr USB_PORT.SUSPEND 1 1).modUsb (fun u => { u with portResume := NMap.set [] 0 1 n })
/-- Entry 5: isochronous, high speed, 16 bytes each microframe, port 1. -/
def pent12 (dir : Nat) (s : State := port12) : State := (((((((((s.wr USB_PENT0.VALID 1 5).wr USB_PENT0.DIR dir 5).wr USB_PENT0.TYPE 1 5).wr USB_PENT0.INTERVAL 1 5).wr USB_PENT0.PORT 1 5).wr USB_PENT1.MPS 16 5).wr
  USB_PENT2.START 8 5).wr USB_PENT2.DEPTH 2 5).wr USB_UFRAME.UFRAME 7)
def load12 : List Byte := le 4 5 ++ le 4 (0x0101 + 2048 + 4096 + 2 ^ 15 + 2 ^ 19) ++ le 4 16 ++ le 4 0 ++ le 4 0
def rec12 (u : Nat) : List Byte := recordBytes 1 5 u 0 [1, 2, 3]
def recs12 : State := (pent12 0).modUsb (fun v => { v with recs := [⟨5, 8, [1, 2]⟩] })
def full12 : State := (pent12 0).modUsb (fun v => { v with recs := [⟨5, 8, [1, 2]⟩, ⟨5, 9, [1, 2]⟩] })

theorem witness_UsbBursts_burst :
    (held12 []).usbOn = true ∧
    rteFits (burst12 3) 1 = true ∧
    1 ≤ byteAt (burst12 3) 2 ∧
    byteAt (burst12 3) 2 ≤ 16 ∧
    8 + 16 * byteAt (burst12 3) 2 ≤ (burst12 3).length ∧
    byteAt (burst12 3) 1 = (held12 []).rd USB_STATUS.NEXT_BSEQ ∧
    (held12 []).usb.bursts.length < 4 := by
  decide +kernel

theorem witness_UsbBursts_burstFull :
    (held12 [] 4).usbOn = true ∧
    rteFits (burst12 3) 1 = true ∧
    1 ≤ byteAt (burst12 3) 2 ∧
    byteAt (burst12 3) 2 ≤ 16 ∧
    8 + 16 * byteAt (burst12 3) 2 ≤ (burst12 3).length ∧
    byteAt (burst12 3) 1 = (held12 [] 4).rd USB_STATUS.NEXT_BSEQ ∧
    4 ≤ (held12 [] 4).usb.bursts.length := by
  decide +kernel

theorem witness_UsbBursts_burstDup :
    (held12 []).usbOn = true ∧
    rteFits (burst12 2) 1 = true ∧
    1 ≤ byteAt (burst12 2) 2 ∧
    byteAt (burst12 2) 2 ≤ 16 ∧
    8 + 16 * byteAt (burst12 2) 2 ≤ (burst12 2).length ∧
    byteAt (burst12 2) 1 ≠ (held12 []).rd USB_STATUS.NEXT_BSEQ ∧
    ((held12 []).rd USB_STATUS.NEXT_BSEQ + 256 - byteAt (burst12 2) 1) % 256 ≤ 4 := by
  decide +kernel

theorem witness_UsbBursts_burstAgain :
    (held12 [] 0).usbOn = true ∧
    rteFits (burst12 1) 1 = true ∧
    1 ≤ byteAt (burst12 1) 2 ∧
    byteAt (burst12 1) 2 ≤ 16 ∧
    8 + 16 * byteAt (burst12 1) 2 ≤ (burst12 1).length ∧
    byteAt (burst12 1) 1 ≠ (held12 [] 0).rd USB_STATUS.NEXT_BSEQ ∧
    ((held12 [] 0).rd USB_STATUS.NEXT_BSEQ + 256 - byteAt (burst12 1) 1) % 256 ≤ 4 ∧
    (∀ (e : Burst), e ∈ (held12 [] 0).usb.bursts → e.mseq ≠ byteAt (burst12 1) 1) ∧
    List.find? (fun (e : Nat × List Byte) => e.fst == byteAt (burst12 1) 1) (held12 [] 0).usb.dones =
  some (byteAt (burst12 1) 1, [9]) := by
  decide +kernel

theorem witness_UsbBursts_burstBad :
    (held12 []).usbOn = true ∧
    rteFits (burst12 9) 1 = true ∧
    1 ≤ byteAt (burst12 9) 2 ∧
    byteAt (burst12 9) 2 ≤ 16 ∧
    8 + 16 * byteAt (burst12 9) 2 ≤ (burst12 9).length ∧
    byteAt (burst12 9) 1 ≠ (held12 []).rd USB_STATUS.NEXT_BSEQ ∧
    4 < ((held12 []).rd USB_STATUS.NEXT_BSEQ + 256 - byteAt (burst12 9) 1) % 256 := by
  decide +kernel

theorem witness_UsbBursts_burstOff :
    hub.usbOn = false := by
  decide +kernel

theorem witness_UsbBursts_burstMal :
    usb12.usbOn = true ∧
    (byteAt [2] 0 ≠ 1 ∨
  [2].length ≠ 8 + leAt [2] 4 2 ∨ byteAt [2] 2 = 0 ∨ 16 < byteAt [2] 2 ∨ [2].length < 8 + 16 * byteAt [2] 2) := by
  decide +kernel

theorem witness_UsbBursts_malformed :
    usb12.usbOn = true ∧
    (byteAt [12] 0 = 0 ∨ 11 < byteAt [12] 0 ∨ [12].length ≠ 8 + leAt [12] 4 2) := by
  decide +kernel

theorem witness_UsbBursts_doneIn :
    (held12 [tx12 2]).burstRuns = true ∧
    (held12 [tx12 2]).on USB_PORT.ENABLE (tx12 2).port = true ∧
    (held12 [tx12 2]).on USB_PORT.SUSPEND (tx12 2).port = false ∧
    (tx12 2).bad = false ∧
    (tx12 2).kill = 0 ∧
    (held12 [tx12 2]).usb.bursts = [{ mseq := 2, txs := [tx12 2] : Burst }] ∧
    (tx12 2).pid = 2 ∧
    [1, 2, 3, 4, 5, 6, 7, 8].length = (tx12 2).len := by
  decide +kernel

theorem witness_UsbBursts_doneSetup :
    (held12 [tx12 0]).burstRuns = true ∧
    (held12 [tx12 0]).on USB_PORT.ENABLE (tx12 0).port = true ∧
    (held12 [tx12 0]).on USB_PORT.SUSPEND (tx12 0).port = false ∧
    (tx12 0).bad = false ∧
    (tx12 0).kill = 0 ∧
    (held12 [tx12 0]).usb.bursts = [{ mseq := 2, txs := [tx12 0] : Burst }] ∧
    (tx12 0).pid = 0 := by
  decide +kernel

theorem witness_UsbBursts_doneStall :
    (held12 [tx12 2, tx12 1]).burstRuns = true ∧
    (held12 [tx12 2, tx12 1]).on USB_PORT.ENABLE (tx12 2).port = true ∧
    (held12 [tx12 2, tx12 1]).on USB_PORT.SUSPEND (tx12 2).port = false ∧
    (tx12 2).bad = false ∧
    (tx12 2).kill = 0 ∧
    2 ≤ 2 ∧
    2 < 16 ∧
    (held12 [tx12 2, tx12 1]).usb.bursts = [{ mseq := 2, txs := [tx12 2, tx12 1] : Burst }] := by
  decide +kernel

theorem witness_UsbBursts_nakEnd :
    (held12 [tx12 2]).burstRuns = true ∧
    (held12 [tx12 2]).on USB_PORT.ENABLE (tx12 2).port = true ∧
    (held12 [tx12 2]).on USB_PORT.SUSPEND (tx12 2).port = false ∧
    (tx12 2).bad = false ∧
    (tx12 2).kill = 0 ∧
    (held12 [tx12 2]).usb.bursts = [{ mseq := 2, txs := [tx12 2] : Burst }] := by
  decide +kernel

theorem witness_UsbBursts_notDone :
    (held12 [tx12 2]).burstRuns = true ∧
    (held12 [tx12 2]).on USB_PORT.ENABLE (tx12 2).port = true ∧
    (held12 [tx12 2]).on USB_PORT.SUSPEND (tx12 2).port = false ∧
    (tx12 2).bad = false ∧
    (tx12 2).kill = 0 ∧
    (held12 [tx12 2]).usb.bursts = [{ mseq := 2, txs := [tx12 2] : Burst }] := by
  decide +kernel

theorem witness_UsbBursts_noBurst :
    (hub.burstRuns = false ∨ hub.usb.bursts = []) := by
  decide +kernel

theorem witness_UsbHub_descriptor :
    port12.usbOn = true := by
  decide +kernel

theorem witness_UsbHub_hubStatus :
    port12.usbOn = true := by
  decide +kernel

theorem witness_UsbHub_portStatus :
    port12.usbOn = true := by
  decide +kernel

theorem witness_UsbHub_portReset :
    port12.usbOn = true ∧
    port12.on USB_PORT.CONNECT 1 = true := by
  decide +kernel

theorem witness_UsbHub_resetNone :
    usb12.usbOn = true ∧
    usb12.on USB_PORT.CONNECT 1 = false := by
  decide +kernel

theorem witness_UsbHub_portSuspend :
    port12.usbOn = true ∧
    port12.on USB_PORT.ENABLE 1 = true := by
  decide +kernel

theorem witness_UsbHub_suspendNone :
    usb12.usbOn = true ∧
    usb12.on USB_PORT.ENABLE 1 = false := by
  decide +kernel

theorem witness_UsbHub_portTest :
    port12.usbOn = true := by
  decide +kernel

theorem witness_UsbHub_portDisable :
    port12.usbOn = true := by
  decide +kernel

theorem witness_UsbHub_clearChange :
    port12.usbOn = true := by
  decide +kernel

theorem witness_UsbHub_clearTt :
    port12.usbOn = true := by
  decide +kernel

theorem witness_UsbHub_resetTt :
    port12.usbOn = true := by
  decide +kernel

theorem witness_UsbHub_unsupported :
    port12.usbOn = true := by
  decide +kernel

theorem witness_UsbHub_routedPower :
    (port12.wr USB_PORT.TCPORT 1 1).usbOn = true ∧
    (port12.wr USB_PORT.TCPORT 1 1).on USB_PORT.TCPORT 1 = true := by
  decide +kernel

theorem witness_UsbHub_powerOn :
    usb12.usbOn = true ∧
    usb12.on USB_PORT.TCPORT 1 = false := by
  decide +kernel

theorem witness_UsbHub_powerOff :
    usb12.usbOn = true ∧
    usb12.on USB_PORT.TCPORT 1 = false ∧
    usb12.on USB_PORT.CONNECT 1 = false := by
  decide +kernel

theorem witness_UsbHub_notSuspended :
    usb12.usbOn = true ∧
    usb12.on USB_PORT.SUSPEND 1 = false := by
  decide +kernel

theorem witness_UsbHub_clearSuspend :
    (psus12 0).usbOn = true ∧
    (psus12 0).on USB_PORT.SUSPEND 1 = true ∧
    (psus12 0).usb.portResume.get 0 1 = 0 := by
  decide +kernel

theorem witness_UsbHub_collision :
    (psus12 2).usbOn = true ∧
    (psus12 2).on USB_PORT.SUSPEND 1 = true ∧
    (psus12 2).usb.portResume.get 0 1 = 2 := by
  decide +kernel

theorem witness_UsbHub_connect :
    (usb12.wr USB_PORT.POWER 1 1).usbOn = true ∧
    (usb12.wr USB_PORT.POWER 1 1).on USB_PORT.POWER 1 = true ∧
    (usb12.wr USB_PORT.POWER 1 1).on USB_PORT.CONNECT 1 = false := by
  decide +kernel

theorem witness_UsbHub_connected :
    port12.usbOn = true ∧
    (port12.on USB_PORT.POWER 1 = false ∨ port12.on USB_PORT.CONNECT 1 = true) := by
  decide +kernel

theorem witness_UsbHub_resetDone :
    (port12.wr USB_PORT.RESET 1 1).usbOn = true ∧
    (port12.wr USB_PORT.RESET 1 1).on USB_PORT.RESET 1 = true := by
  decide +kernel

theorem witness_UsbHub_resetNot :
    port12.usbOn = true ∧
    port12.on USB_PORT.RESET 1 = false := by
  decide +kernel

theorem witness_UsbHub_gone :
    usb12.usbOn = true ∧
    usb12.on USB_PORT.CONNECT 1 = false := by
  decide +kernel

theorem witness_UsbHub_disconnect :
    (pent12 1).usbOn = true ∧
    (pent12 1).on USB_PORT.CONNECT 1 = true := by
  decide +kernel

theorem witness_UsbHub_overcurrent :
    (pent12 1).usbOn = true ∧
    (pent12 1).on USB_PORT.CONNECT 1 = true ∧
    (pent12 1).on USB_PORT.TCPORT 1 = false ∧
    (pent12 1).on USB_PORT.POWER 1 = true := by
  decide +kernel

theorem witness_UsbHub_overRouted :
    usb12.usbOn = true ∧
    (usb12.on USB_PORT.TCPORT 1 = true ∨ usb12.on USB_PORT.POWER 1 = false) := by
  decide +kernel

theorem witness_UsbHub_hubOff :
    hub.usbOn = false := by
  decide +kernel

theorem witness_UsbPeriodic_susTwice :
    (sus12 0).usbOn = true ∧
    (sus12 0).on USB_STATUS.SUSPENDED = true := by
  decide +kernel

theorem witness_UsbPeriodic_susNone :
    port12.usbOn = true ∧
    port12.on USB_STATUS.SUSPENDED = false ∧
    port12.usb.bursts = [] := by
  decide +kernel

theorem witness_UsbPeriodic_susOne :
    (held12 [tx12 2]).usbOn = true ∧
    (held12 [tx12 2]).on USB_STATUS.SUSPENDED = false ∧
    (held12 [tx12 2]).usb.bursts = [{ mseq := 2, txs := [tx12 2] : Burst }] := by
  decide +kernel

theorem witness_UsbPeriodic_resNot :
    port12.usbOn = true ∧
    (port12.on USB_STATUS.SUSPENDED = false ∨ port12.usb.resume = 1) := by
  decide +kernel

theorem witness_UsbPeriodic_res :
    (sus12 0).usbOn = true ∧
    (sus12 0).on USB_STATUS.SUSPENDED = true ∧
    (sus12 0).usb.resume = 0 := by
  decide +kernel

theorem witness_UsbPeriodic_resDone :
    (sus12 1).usbOn = true ∧
    (sus12 1).usb.resume = 1 := by
  decide +kernel

theorem witness_UsbPeriodic_portResDone :
    (psus12 1).usbOn = true ∧
    (psus12 1).usb.portResume.get 0 1 = 1 := by
  decide +kernel

theorem witness_UsbPeriodic_wake :
    (sus12 0).usbOn = true ∧
    (sus12 0).on USB_PORT.CONNECT 1 = true ∧
    (sus12 0).on USB_STATUS.SUSPENDED = true ∧
    (sus12 0).usb.resume = 0 := by
  decide +kernel

theorem witness_UsbPeriodic_wakeCollide :
    (sus12 1).usbOn = true ∧
    (sus12 1).on USB_PORT.CONNECT 1 = true ∧
    (sus12 1).on USB_STATUS.SUSPENDED = true ∧
    (sus12 1).usb.resume = 1 := by
  decide +kernel

theorem witness_UsbPeriodic_wakeNone :
    port12.usbOn = true ∧
    port12.on USB_STATUS.SUSPENDED = false ∧
    port12.on USB_PORT.SUSPEND 1 = false := by
  decide +kernel

theorem witness_UsbPeriodic_ploadBad :
    port12.usbOn = true ∧
    firstStatus (port12.ploadChecks (le 4 64 ++ List.drop 4 load12)) = St.VALUE ∧
    St.VALUE ≠ St.OK := by
  decide +kernel

theorem witness_UsbPeriodic_pload :
    port12.usbOn = true ∧
    firstStatus (port12.ploadChecks load12) = St.OK := by
  decide +kernel

theorem witness_UsbPeriodic_punload :
    (pent12 1).usbOn = true ∧
    5 < 64 ∧
    (pent12 1).on USB_PENT0.VALID 5 = true := by
  decide +kernel

theorem witness_UsbPeriodic_punloadNone :
    (pent12 1).usbOn = true ∧
    (64 ≤ 64 ∨ (pent12 1).on USB_PENT0.VALID 64 = false) := by
  decide +kernel

theorem witness_UsbPeriodic_frame :
    usb12.usbOn = true ∧
    usb12.on USB_STATUS.RUN = true ∧
    usb12.entries = [] ∧
    (usb12.rd USB_UFRAME.UFRAME + 1) % 16384 % 1024 ≠ 0 := by
  decide +kernel

theorem witness_UsbPeriodic_frameTime :
    (usb12.wr USB_UFRAME.UFRAME 1023).usbOn = true ∧
    (usb12.wr USB_UFRAME.UFRAME 1023).on USB_STATUS.RUN = true ∧
    (usb12.wr USB_UFRAME.UFRAME 1023).entries = [] ∧
    ((usb12.wr USB_UFRAME.UFRAME 1023).rd USB_UFRAME.UFRAME + 1) % 16384 % 1024 = 0 := by
  decide +kernel

theorem witness_UsbPeriodic_perIn :
    (pent12 1).usbOn = true ∧
    (pent12 1).on USB_STATUS.RUN = true ∧
    (pent12 1).entries = [5] ∧
    ((pent12 1).rd USB_UFRAME.UFRAME + 1) % 16384 % 1024 ≠ 0 ∧
    (pent12 1).rd USB_PENT2.START 5 = ((pent12 1).rd USB_UFRAME.UFRAME + 1) % 16384 ∧
    ((pent12 1).pent 5).runs (((pent12 1).rd USB_UFRAME.UFRAME + 1) % 16384) = true ∧
    (pent12 1).on USB_PORT.SUSPEND ((pent12 1).rd USB_PENT0.PORT 5) = false ∧
    (pent12 1).on USB_PENT0.DIR 5 = true ∧
    (List.replicate 16 7).length = ((pent12 1).pent 5).mult * ((pent12 1).pent 5).mps := by
  decide +kernel

theorem witness_UsbPeriodic_perOut :
    recs12.usbOn = true ∧
    recs12.on USB_STATUS.RUN = true ∧
    recs12.entries = [5] ∧
    (recs12.rd USB_UFRAME.UFRAME + 1) % 16384 % 1024 ≠ 0 ∧
    recs12.rd USB_PENT2.START 5 = (recs12.rd USB_UFRAME.UFRAME + 1) % 16384 ∧
    (recs12.pent 5).runs ((recs12.rd USB_UFRAME.UFRAME + 1) % 16384) = true ∧
    recs12.on USB_PORT.SUSPEND (recs12.rd USB_PENT0.PORT 5) = false ∧
    recs12.on USB_PENT0.DIR 5 = false ∧
    recs12.usb.recs = [{ entry := 5, uframe := (recs12.rd USB_UFRAME.UFRAME + 1) % 16384, data := [1, 2] : OutRec }] := by
  decide +kernel

theorem witness_UsbPeriodic_perUnder :
    (pent12 0).usbOn = true ∧
    (pent12 0).on USB_STATUS.RUN = true ∧
    (pent12 0).entries = [5] ∧
    ((pent12 0).rd USB_UFRAME.UFRAME + 1) % 16384 % 1024 ≠ 0 ∧
    (pent12 0).rd USB_PENT2.START 5 = ((pent12 0).rd USB_UFRAME.UFRAME + 1) % 16384 ∧
    ((pent12 0).pent 5).runs (((pent12 0).rd USB_UFRAME.UFRAME + 1) % 16384) = true ∧
    (pent12 0).on USB_PORT.SUSPEND ((pent12 0).rd USB_PENT0.PORT 5) = false ∧
    (pent12 0).on USB_PENT0.DIR 5 = false ∧
    (pent12 0).on USB_PENT0.TYPE 5 = true ∧
    (pent12 0).usb.recs = [] := by
  decide +kernel

theorem witness_UsbPeriodic_recLost :
    (pent12 0).usbOn = true := by
  decide +kernel

theorem witness_UsbPeriodic_recLate :
    (pent12 0).usbOn = true ∧
    byteAt (rec12 8) 0 = 1 ∧
    (pent12 0).on USB_PENT0.VALID (byteAt (rec12 8) 1 % 64) = true ∧
    (pent12 0).on USB_PENT0.DIR (byteAt (rec12 8) 1 % 64) = false ∧
    ((leAt (rec12 8) 2 2 % 16384 + 16384 - (pent12 0).rd USB_UFRAME.UFRAME) % 16384 < 2 ∨
  1024 < (leAt (rec12 8) 2 2 % 16384 + 16384 - (pent12 0).rd USB_UFRAME.UFRAME) % 16384) := by
  decide +kernel

theorem witness_UsbPeriodic_recFull :
    full12.usbOn = true ∧
    byteAt (rec12 10) 0 = 1 ∧
    full12.on USB_PENT0.VALID (byteAt (rec12 10) 1 % 64) = true ∧
    full12.on USB_PENT0.DIR (byteAt (rec12 10) 1 % 64) = false ∧
    2 ≤ (leAt (rec12 10) 2 2 % 16384 + 16384 - full12.rd USB_UFRAME.UFRAME) % 16384 ∧
    (leAt (rec12 10) 2 2 % 16384 + 16384 - full12.rd USB_UFRAME.UFRAME) % 16384 ≤ 1024 ∧
    full12.rd USB_PENT2.DEPTH (byteAt (rec12 10) 1 % 64) ≤
  (List.filter (fun (r : OutRec) => r.entry == byteAt (rec12 10) 1 % 64) full12.usb.recs).length := by
  decide +kernel

theorem witness_UsbPeriodic_recHeld :
    (pent12 0).usbOn = true ∧
    byteAt (rec12 9) 0 = 1 ∧
    (pent12 0).on USB_PENT0.VALID (byteAt (rec12 9) 1 % 64) = true ∧
    (pent12 0).on USB_PENT0.DIR (byteAt (rec12 9) 1 % 64) = false ∧
    2 ≤ (leAt (rec12 9) 2 2 % 16384 + 16384 - (pent12 0).rd USB_UFRAME.UFRAME) % 16384 ∧
    (leAt (rec12 9) 2 2 % 16384 + 16384 - (pent12 0).rd USB_UFRAME.UFRAME) % 16384 ≤ 1024 ∧
    (List.filter (fun (r : OutRec) => r.entry == byteAt (rec12 9) 1 % 64) (pent12 0).usb.recs).length <
  (pent12 0).rd USB_PENT2.DEPTH (byteAt (rec12 9) 1 % 64) ∧
    (∀ (r : OutRec),
  r ∈ List.filter (fun (r : OutRec) => r.entry == byteAt (rec12 9) 1 % 64) (pent12 0).usb.recs →
    r.uframe ≠ leAt (rec12 9) 2 2 % 16384) := by
  decide +kernel

theorem witness_UsbPeriodic_orphanNot :
    usb12.usbOn = true ∧
    usb12.on USB_STATUS.ORPHAN = false := by
  decide +kernel

theorem witness_UsbPeriodic_orphan :
    ((pent12 1).wr USB_STATUS.ORPHAN 1).usbOn = true ∧
    ((pent12 1).wr USB_STATUS.ORPHAN 1).on USB_STATUS.ORPHAN = true := by
  decide +kernel

def tc13 (role : Nat := 0) (st : Nat := 1) (s : State := hub) : State := ((s.wr TCP_CTRL.EN 1 1).wr TCP_CTRL.ROLE role 1).wr TCP_STATUS.TCSTATE st 1
def src13 (s : State := tc13 0 10) : State := ((s.wr TCP_STATUS.PROLE 1 1).wr TCP_STATUS.DROLE 1 1).modTc 1 (fun v => { v with srcEn := true })
def snk13 : State := (tc13 0 9).modTc 1 (fun v => { v with snkEn := true })
def pd13 (kind id : Nat) (objs : List Nat) : List Byte := le 2 (kind % 32 + 2 * 64 + id * 512 + objs.length * 4096) ++ objs.flatMap (fun o => le 4 o)
def msg13 (tries : Nat := 0) (kind : Nat := 8) : PdMsg := ⟨0, pd13 kind 2 [], tries, some 9⟩
def pend13 (tries : Nat := 0) (kind : Nat := 8) : State := src13.modTc 1 (fun v => { v with pend := some (msg13 tries kind) })
def held13 (s : State) : State := s.modTc 1 (fun v => { v with held := some msg13 })
def deal13 (s : State) : State := (s.wr TCP_STATUS.CONTRACT 1 1).wr TCP_STATUS.PDREV 2 1
def wait13 (b : List Byte) : State := (src13.wr TCP_FALLBACK.FB_SRC_MA 300 1).modTc 1 (fun v => { v with wait := some (0, b) })
def phase13 (p : TcPhase) (s : State := src13) : State := (s.wr TCP_SRCCAP.PDO (fixedPdo 180 300) 7).modTc 1 (fun v => { v with phase := p, rdo := 2 ^ 28 + 100 * 1024 + 100 })
def mine13 (e : Nat) : State := src13.modTc 1 (fun v => { v with mine := true, exch := e })
def psr13 : PdMsg := ⟨0, pd13 6 2 [], 0, none⟩

theorem witness_TypeCPorts_attachSrc :
    tc13.on TCP_CTRL.EN 1 = true ∧
    tc13.tcAttached 1 = false ∧
    tc13.rd TCP_STATUS.TCSTATE 1 ≠ 11 ∧
    tc13.rd TCP_CTRL.ROLE 1 ≠ 2 := by
  decide +kernel

theorem witness_TypeCPorts_attachSnk :
    (tc13 2).on TCP_CTRL.EN 1 = true ∧
    (tc13 2).tcAttached 1 = false ∧
    (tc13 2).rd TCP_STATUS.TCSTATE 1 ≠ 11 ∧
    (tc13 2).rd TCP_CTRL.ROLE 1 ≠ 1 := by
  decide +kernel

theorem witness_TypeCPorts_attachOff :
    (hub.on TCP_CTRL.EN 1 = false ∨ hub.tcAttached 1 = true ∨ hub.rd TCP_STATUS.TCSTATE 1 = 11) := by
  decide +kernel

theorem witness_TypeCPorts_attachSnkOnly :
    (tc13 2).rd TCP_CTRL.ROLE 1 = 2 := by
  decide +kernel

theorem witness_TypeCPorts_attachSrcOnly :
    (tc13 1).rd TCP_CTRL.ROLE 1 = 1 := by
  decide +kernel

theorem witness_TypeCPorts_detach :
    (phase13 TcPhase.srcVoltage).tcAttached 1 = true := by
  decide +kernel

theorem witness_TypeCPorts_recovery :
    src13.tcAttached 1 = true := by
  decide +kernel

theorem witness_TypeCPorts_hard :
    src13.tcAttached 1 = true := by
  decide +kernel

theorem witness_TypeCPorts_caps :
    src13.tcAttached 1 = true ∧
    src13.on TCP_STATUS.PROLE 1 = true := by
  decide +kernel

theorem witness_TypeCPorts_noCaps :
    snk13.tcAttached 1 = true ∧
    snk13.on TCP_STATUS.PROLE 1 = false := by
  decide +kernel

theorem witness_TypeCPorts_unattached :
    hub.tcAttached 1 = false := by
  decide +kernel

theorem witness_TypeCPorts_toggle1 :
    tc13.on TCP_CTRL.EN 1 = true ∧
    tc13.rd TCP_CTRL.ROLE 1 = 0 ∧
    tc13.rd TCP_STATUS.TCSTATE 1 = 1 := by
  decide +kernel

theorem witness_TypeCPorts_toggle2 :
    (tc13 0 2).on TCP_CTRL.EN 1 = true ∧
    (tc13 0 2).rd TCP_CTRL.ROLE 1 = 0 ∧
    (tc13 0 2).rd TCP_STATUS.TCSTATE 1 = 2 := by
  decide +kernel

theorem witness_TypeCPorts_toggleNo :
    ((tc13 1 2).on TCP_CTRL.EN 1 = false ∨ (tc13 1 2).rd TCP_CTRL.ROLE 1 ≠ 0) := by
  decide +kernel

theorem witness_TypeCPorts_rpNo :
    src13.rd TCP_STATUS.TCSTATE 1 ≠ 9 := by
  decide +kernel

theorem witness_TypeCPorts_rp :
    snk13.rd TCP_STATUS.TCSTATE 1 = 9 ∧
    (2 ≠ 3 ∨ (snk13.tcp 1).held = none) := by
  decide +kernel

theorem witness_TypeCPorts_rpHeld :
    (held13 snk13).rd TCP_STATUS.TCSTATE 1 = 9 ∧
    3 = 3 ∧
    ((held13 snk13).tcp 1).held = some msg13 := by
  decide +kernel

theorem witness_PdMessages_notWhole :
    0 < 3 ∧
    (src13.tcAttached 1 = false ∨ pdWhole [1] = false ∨ 0 < 0 ∧ src13.on TCP_STATUS.VCONN_ON 1 = false) := by
  decide +kernel

theorem witness_PdMessages_strayCrc :
    0 < 3 ∧
    src13.tcAttached 1 = true ∧
    pdWhole (pd13 1 2 []) = true ∧
    (0 = 0 ∨ src13.on TCP_STATUS.VCONN_ON 1 = true) ∧
    pdKind (pd13 1 2 []) = Pd.goodCrc ∧
    (src13.tcp 1).pend = none := by
  decide +kernel

theorem witness_PdMessages_crc :
    0 < 3 ∧
    pend13.tcAttached 1 = true ∧
    pdWhole (pd13 1 2 []) = true ∧
    (0 = 0 ∨ pend13.on TCP_STATUS.VCONN_ON 1 = true) ∧
    pdKind (pd13 1 2 []) = Pd.goodCrc ∧
    (pend13.tcp 1).pend = some msg13 ∧
    msg13.sop = 0 ∧
    pdId msg13.bytes = pdId (pd13 1 2 []) ∧
    pdKind msg13.bytes = Pd.getSinkCap ∧
    (pend13.tcp 1).queue = [] := by
  decide +kernel

theorem witness_PdMessages_dup :
    0 < 3 ∧
    (src13.modTc 1 fun (v : Tc) =>
        { txId := v.txId, rxId := NMap.set [] 0 0 3, pend := v.pend, queue := v.queue, held := v.held, wait := v.wait,
          exch := v.exch, mine := v.mine, rdo := v.rdo, caps := v.caps, phase := v.phase, srcEn := v.srcEn,
          snkEn := v.snkEn, vsel := v.vsel, disch := v.disch, txNg := v.txNg, capsSent := v.capsSent,
          hardResets := v.hardResets : Tc }).tcAttached
    1 =
  true ∧
    pdWhole (pd13 8 2 []) = true ∧
    (0 = 0 ∨
  (src13.modTc 1 fun (v : Tc) =>
          { txId := v.txId, rxId := NMap.set [] 0 0 3, pend := v.pend, queue := v.queue, held := v.held, wait := v.wait,
            exch := v.exch, mine := v.mine, rdo := v.rdo, caps := v.caps, phase := v.phase, srcEn := v.srcEn,
            snkEn := v.snkEn, vsel := v.vsel, disch := v.disch, txNg := v.txNg, capsSent := v.capsSent,
            hardResets := v.hardResets : Tc }).on
      TCP_STATUS.VCONN_ON 1 =
    true) ∧
    pdKind (pd13 8 2 []) ≠ Pd.goodCrc ∧
    pdKind (pd13 8 2 []) ≠ Pd.softReset ∧
    ((src13.modTc 1 fun (v : Tc) =>
              { txId := v.txId, rxId := NMap.set [] 0 0 3, pend := v.pend, queue := v.queue, held := v.held,
                wait := v.wait, exch := v.exch, mine := v.mine, rdo := v.rdo, caps := v.caps, phase := v.phase,
                srcEn := v.srcEn, snkEn := v.snkEn, vsel := v.vsel, disch := v.disch, txNg := v.txNg,
                capsSent := v.capsSent, hardResets := v.hardResets : Tc }).tcp
          1).rxId.get
    0 0 =
  pdId (pd13 8 2 []) + 1 := by
  decide +kernel

theorem witness_PdMessages_sopPrime :
    1 < 3 ∧
    (pend13.wr TCP_STATUS.VCONN_ON 1 1).tcAttached 1 = true ∧
    pdWhole (pd13 8 2 []) = true ∧
    (1 = 0 ∨ (pend13.wr TCP_STATUS.VCONN_ON 1 1).on TCP_STATUS.VCONN_ON 1 = true) ∧
    pdKind (pd13 8 2 []) ≠ Pd.goodCrc ∧
    ((pend13.wr TCP_STATUS.VCONN_ON 1 1).tcp 1).rxId.get 0 1 ≠ pdId (pd13 8 2 []) + 1 ∧
    1 ≠ 0 := by
  decide +kernel

theorem witness_PdMessages_msgTaken :
    0 < 3 ∧
    pend13.tcAttached 1 = true ∧
    pdWhole (pd13 8 2 []) = true ∧
    (0 = 0 ∨ pend13.on TCP_STATUS.VCONN_ON 1 = true) ∧
    pdKind (pd13 8 2 []) ≠ Pd.goodCrc ∧
    (pend13.tcp 1).rxId.get 0 0 ≠ pdId (pd13 8 2 []) + 1 ∧
    0 = 0 := by
  decide +kernel

theorem witness_PdMessages_resetHeard :
    src13.tcAttached 1 = true := by
  decide +kernel

theorem witness_PdMessages_resetStray :
    hub.tcAttached 1 = false := by
  decide +kernel

theorem witness_PdMessages_noPend :
    (hub.tcp 1).pend = none := by
  decide +kernel

theorem witness_PdMessages_retry :
    ((pend13 1).tcp 1).pend = some (msg13 1) ∧
    (msg13 1).tries < 2 := by
  decide +kernel

theorem witness_PdMessages_failed :
    ((pend13 2).tcp 1).pend = some (msg13 2) ∧
    2 ≤ (msg13 2).tries ∧
    ((pend13 2).tcp 1).queue = [] := by
  decide +kernel

theorem witness_PdMessages_txUnattached :
    hub.tcAttached 1 = false := by
  decide +kernel

theorem witness_PdMessages_txAnswer :
    (wait13 (pd13 8 0 [])).tcAttached 1 = true ∧
    0 = 0 ∧
    pdWhole (pd13 4 0 []) = true ∧
    pdKind (pd13 4 0 []) ≠ Pd.goodCrc ∧
    (pd13 4 0 []).length ≤ 30 ∧
    ((wait13 (pd13 8 0 [])).tcp 1).wait = some (0, pd13 8 0 []) := by
  decide +kernel

theorem witness_PdMessages_txNoWait :
    src13.tcAttached 1 = true ∧
    0 = 0 ∧
    pdWhole (pd13 4 0 []) = true ∧
    pdKind (pd13 4 0 []) ≠ Pd.goodCrc ∧
    (pd13 4 0 []).length ≤ 30 ∧
    (src13.tcp 1).wait = none ∧
    pdAnswers (pd13 4 0 []) = true := by
  decide +kernel

theorem witness_PdMessages_txSent :
    src13.tcAttached 1 = true ∧
    0 = 0 ∧
    pdWhole (pd13 8 0 []) = true ∧
    pdKind (pd13 8 0 []) ≠ Pd.goodCrc ∧
    (pd13 8 0 []).length ≤ 30 ∧
    (src13.tcp 1).wait = none ∧
    pdAnswers (pd13 8 0 []) = false ∧
    (src13.on TCP_STATUS.CONTRACT 1 = false ∨
  src13.rd TCP_STATUS.PDREV 1 ≠ 2 ∨ src13.on TCP_STATUS.PROLE 1 = false ∧ src13.rd TCP_STATUS.RP_SEEN 1 = 3) := by
  decide +kernel

theorem witness_PdMessages_txHeldSrc :
    (deal13 src13).tcAttached 1 = true ∧
    0 = 0 ∧
    pdWhole (pd13 8 0 []) = true ∧
    pdKind (pd13 8 0 []) ≠ Pd.goodCrc ∧
    (pd13 8 0 []).length ≤ 30 ∧
    ((deal13 src13).tcp 1).wait = none ∧
    pdAnswers (pd13 8 0 []) = false ∧
    (deal13 src13).on TCP_STATUS.CONTRACT 1 = true ∧
    (deal13 src13).rd TCP_STATUS.PDREV 1 = 2 ∧
    (deal13 src13).on TCP_STATUS.PROLE 1 = true := by
  decide +kernel

theorem witness_PdMessages_txHeldSnk :
    (deal13 snk13).tcAttached 1 = true ∧
    0 = 0 ∧
    pdWhole (pd13 8 0 []) = true ∧
    pdKind (pd13 8 0 []) ≠ Pd.goodCrc ∧
    (pd13 8 0 []).length ≤ 30 ∧
    ((deal13 snk13).tcp 1).wait = none ∧
    pdAnswers (pd13 8 0 []) = false ∧
    (deal13 snk13).on TCP_STATUS.CONTRACT 1 = true ∧
    (deal13 snk13).rd TCP_STATUS.PDREV 1 = 2 ∧
    (deal13 snk13).on TCP_STATUS.PROLE 1 = false ∧
    (deal13 snk13).rd TCP_STATUS.RP_SEEN 1 ≠ 3 := by
  decide +kernel

theorem witness_PdMessages_noHeld :
    (hub.tcp 1).held = none := by
  decide +kernel

theorem witness_PdMessages_heldSrc :
    ((held13 src13).tcp 1).held = some msg13 ∧
    (held13 src13).on TCP_STATUS.PROLE 1 = true := by
  decide +kernel

theorem witness_PdMessages_heldSnk :
    ((held13 snk13).tcp 1).held = some msg13 ∧
    (held13 snk13).on TCP_STATUS.PROLE 1 = false := by
  decide +kernel

theorem witness_PdMessages_noWait :
    (hub.tcp 1).wait = none := by
  decide +kernel

theorem witness_PdMessages_polRequest :
    ((wait13 (pd13 34 0 [2 ^ 28 + 200 * 1024])).tcp 1).wait = some (0, pd13 34 0 [2 ^ 28 + 200 * 1024]) ∧
    pdKind (pd13 34 0 [2 ^ 28 + 200 * 1024]) = Pd.request := by
  decide +kernel

theorem witness_PdMessages_polReject :
    ((wait13 (pd13 34 0 [2 ^ 28 + 400 * 1024])).tcp 1).wait = some (0, pd13 34 0 [2 ^ 28 + 400 * 1024]) ∧
    pdKind (pd13 34 0 [2 ^ 28 + 400 * 1024]) = Pd.request := by
  decide +kernel

theorem witness_PdMessages_polSwap :
    ((wait13 (pd13 10 0 [])).tcp 1).wait = some (0, pd13 10 0 []) ∧
    (pdKind (pd13 10 0 []) = Pd.prSwap ∨ pdKind (pd13 10 0 []) = Pd.drSwap ∨ pdKind (pd13 10 0 []) = Pd.vconnSwap) := by
  decide +kernel

theorem witness_PdMessages_polOther :
    ((wait13 (pd13 7 0 [])).tcp 1).wait = some (0, pd13 7 0 []) ∧
    pdKind (pd13 7 0 []) = Pd.getSourceCap := by
  decide +kernel

theorem witness_PdTransitions_newVolt :
    ((phase13 TcPhase.srcRequest).tcp 1).phase = TcPhase.srcRequest := by
  decide +kernel

theorem witness_PdTransitions_swapOff :
    ((phase13 TcPhase.swapSrcWait).tcp 1).phase = TcPhase.swapSrcWait := by
  decide +kernel

theorem witness_PdTransitions_noTrans :
    (src13.tcp 1).phase ≠ TcPhase.srcRequest ∧
    (src13.tcp 1).phase ≠ TcPhase.swapSrcWait := by
  decide +kernel

theorem witness_PdTransitions_atVolt :
    ((phase13 TcPhase.srcVoltage).tcp 1).phase = TcPhase.srcVoltage := by
  decide +kernel

theorem witness_PdTransitions_atRise :
    ((phase13 TcPhase.swapSnkRise).tcp 1).phase = TcPhase.swapSnkRise := by
  decide +kernel

theorem witness_PdTransitions_atFall :
    ((phase13 TcPhase.swapSrcFall).tcp 1).phase = TcPhase.swapSrcFall := by
  decide +kernel

theorem witness_PdTransitions_atZero :
    ((snk13.modTc 1 fun (v : Tc) =>
          { txId := v.txId, rxId := v.rxId, pend := v.pend, queue := v.queue, held := v.held, wait := v.wait,
            exch := v.exch, mine := v.mine, rdo := v.rdo, caps := v.caps, phase := v.phase, srcEn := v.srcEn,
            snkEn := v.snkEn, vsel := v.vsel, disch := true, txNg := v.txNg, capsSent := v.capsSent,
            hardResets := v.hardResets : Tc }).tcp
      1).phase =
  TcPhase.idle ∧
    ((snk13.modTc 1 fun (v : Tc) =>
          { txId := v.txId, rxId := v.rxId, pend := v.pend, queue := v.queue, held := v.held, wait := v.wait,
            exch := v.exch, mine := v.mine, rdo := v.rdo, caps := v.caps, phase := v.phase, srcEn := v.srcEn,
            snkEn := v.snkEn, vsel := v.vsel, disch := true, txNg := v.txNg, capsSent := v.capsSent,
            hardResets := v.hardResets : Tc }).tcp
      1).srcEn =
  false := by
  decide +kernel

theorem witness_PdTransitions_fault :
    (((phase13 TcPhase.srcVoltage).tcp 1).phase = TcPhase.srcVoltage ∨
  ((phase13 TcPhase.srcVoltage).tcp 1).phase = TcPhase.srcRequest) := by
  decide +kernel

theorem witness_PdTransitions_noFault :
    (src13.tcp 1).phase ≠ TcPhase.srcVoltage ∧
    (src13.tcp 1).phase ≠ TcPhase.srcRequest := by
  decide +kernel

theorem witness_PdTransitions_psTimeout :
    ((phase13 TcPhase.snkRequest snk13).tcp 1).phase = TcPhase.snkRequest := by
  decide +kernel

theorem witness_PdTransitions_psNo :
    (src13.tcp 1).phase ≠ TcPhase.snkRequest := by
  decide +kernel

theorem witness_PdTransitions_swapEnds :
    (((phase13 TcPhase.swapSnkWait snk13).tcp 1).phase = TcPhase.swapSrcReady ∨
  ((phase13 TcPhase.swapSnkWait snk13).tcp 1).phase = TcPhase.swapSnkWait) := by
  decide +kernel

theorem witness_PdTransitions_swapNo :
    (src13.tcp 1).phase = TcPhase.idle := by
  decide +kernel

theorem witness_PdTransitions_contract :
    ((phase13 TcPhase.srcReady).modTc 1 fun (v : Tc) =>
        { txId := v.txId, rxId := v.rxId, pend := some psr13, queue := v.queue, held := v.held, wait := v.wait,
          exch := v.exch, mine := v.mine, rdo := v.rdo, caps := v.caps, phase := v.phase, srcEn := v.srcEn,
          snkEn := v.snkEn, vsel := v.vsel, disch := v.disch, txNg := v.txNg, capsSent := v.capsSent,
          hardResets := v.hardResets : Tc }).tcAttached
    1 =
  true ∧
    pdWhole (pd13 1 2 []) = true ∧
    pdKind (pd13 1 2 []) = Pd.goodCrc ∧
    (((phase13 TcPhase.srcReady).modTc 1 fun (v : Tc) =>
          { txId := v.txId, rxId := v.rxId, pend := some psr13, queue := v.queue, held := v.held, wait := v.wait,
            exch := v.exch, mine := v.mine, rdo := v.rdo, caps := v.caps, phase := v.phase, srcEn := v.srcEn,
            snkEn := v.snkEn, vsel := v.vsel, disch := v.disch, txNg := v.txNg, capsSent := v.capsSent,
            hardResets := v.hardResets : Tc }).tcp
      1).pend =
  some psr13 ∧
    psr13.sop = 0 ∧
    psr13.rseq = none ∧
    pdId psr13.bytes = pdId (pd13 1 2 []) ∧
    pdKind psr13.bytes = Pd.psRdy ∧
    (((phase13 TcPhase.srcReady).modTc 1 fun (v : Tc) =>
          { txId := v.txId, rxId := v.rxId, pend := some psr13, queue := v.queue, held := v.held, wait := v.wait,
            exch := v.exch, mine := v.mine, rdo := v.rdo, caps := v.caps, phase := v.phase, srcEn := v.srcEn,
            snkEn := v.snkEn, vsel := v.vsel, disch := v.disch, txNg := v.txNg, capsSent := v.capsSent,
            hardResets := v.hardResets : Tc }).tcp
      1).queue =
  [] ∧
    (((phase13 TcPhase.srcReady).modTc 1 fun (v : Tc) =>
          { txId := v.txId, rxId := v.rxId, pend := some psr13, queue := v.queue, held := v.held, wait := v.wait,
            exch := v.exch, mine := v.mine, rdo := v.rdo, caps := v.caps, phase := v.phase, srcEn := v.srcEn,
            snkEn := v.snkEn, vsel := v.vsel, disch := v.disch, txNg := v.txNg, capsSent := v.capsSent,
            hardResets := v.hardResets : Tc }).tcp
      1).phase =
  TcPhase.srcReady := by
  decide +kernel

theorem witness_PdTransitions_timer0 :
    (mine13 1).tcAttached 1 = true ∧
    ((mine13 1).tcp 1).mine = true ∧
    ((mine13 1).tcp 1).exch = 1 := by
  decide +kernel

theorem witness_PdTransitions_timer0Swap :
    (mine13 2).tcAttached 1 = true ∧
    ((mine13 2).tcp 1).mine = true ∧
    ((mine13 2).tcp 1).exch = 2 := by
  decide +kernel

theorem witness_PdTransitions_timer0No :
    (src13.tcp 1).mine = false := by
  decide +kernel

theorem witness_PdTransitions_timer1 :
    src13.rd TCP_STATUS.TCSTATE 1 = 10 ∧
    src13.on TCP_STATUS.CONTRACT 1 = false ∧
    (src13.tcp 1).capsSent < 50 := by
  decide +kernel

theorem witness_PdTransitions_timer1No :
    50 ≤
  ((src13.modTc 1 fun (v : Tc) =>
          { txId := v.txId, rxId := v.rxId, pend := v.pend, queue := v.queue, held := v.held, wait := v.wait,
            exch := v.exch, mine := v.mine, rdo := v.rdo, caps := v.caps, phase := v.phase, srcEn := v.srcEn,
            snkEn := v.snkEn, vsel := v.vsel, disch := v.disch, txNg := v.txNg, capsSent := 50,
            hardResets := v.hardResets : Tc }).tcp
      1).capsSent := by
  decide +kernel

theorem witness_PdTransitions_timer2 :
    src13.tcAttached 1 = true ∧
    src13.on TCP_STATUS.CONTRACT 1 = false ∧
    (src13.tcp 1).hardResets ≤ 2 := by
  decide +kernel

theorem witness_PdTransitions_timer2Rec :
    (src13.modTc 1 fun (v : Tc) =>
        { txId := v.txId, rxId := v.rxId, pend := v.pend, queue := v.queue, held := v.held, wait := v.wait,
          exch := v.exch, mine := v.mine, rdo := v.rdo, caps := v.caps, phase := v.phase, srcEn := v.srcEn,
          snkEn := v.snkEn, vsel := v.vsel, disch := v.disch, txNg := v.txNg, capsSent := v.capsSent, hardResets := 3 :
          Tc }).tcAttached
    1 =
  true ∧
    (src13.modTc 1 fun (v : Tc) =>
        { txId := v.txId, rxId := v.rxId, pend := v.pend, queue := v.queue, held := v.held, wait := v.wait,
          exch := v.exch, mine := v.mine, rdo := v.rdo, caps := v.caps, phase := v.phase, srcEn := v.srcEn,
          snkEn := v.snkEn, vsel := v.vsel, disch := v.disch, txNg := v.txNg, capsSent := v.capsSent, hardResets := 3 :
          Tc }).on
    TCP_STATUS.CONTRACT 1 =
  false ∧
    2 <
  ((src13.modTc 1 fun (v : Tc) =>
          { txId := v.txId, rxId := v.rxId, pend := v.pend, queue := v.queue, held := v.held, wait := v.wait,
            exch := v.exch, mine := v.mine, rdo := v.rdo, caps := v.caps, phase := v.phase, srcEn := v.srcEn,
            snkEn := v.snkEn, vsel := v.vsel, disch := v.disch, txNg := v.txNg, capsSent := v.capsSent,
            hardResets := 3 : Tc }).tcp
      1).hardResets := by
  decide +kernel

theorem witness_PdTransitions_timer4 :
    ((phase13 TcPhase.recover).tcp 1).phase = TcPhase.recover := by
  decide +kernel

theorem witness_PdTransitions_timer5a :
    (tc13 0 5).rd TCP_STATUS.TCSTATE 1 = 5 := by
  decide +kernel

theorem witness_PdTransitions_timer5b :
    (tc13 0 6).rd TCP_STATUS.TCSTATE 1 = 6 := by
  decide +kernel

theorem witness_PdTransitions_timer6 :
    5 ≤ (tc13 0 7).rd TCP_STATUS.TCSTATE 1 ∧
    (tc13 0 7).rd TCP_STATUS.TCSTATE 1 ≤ 8 := by
  decide +kernel

theorem witness_PdTransitions_timer7 :
    (tc13 0 11).rd TCP_STATUS.TCSTATE 1 = 11 := by
  decide +kernel

def feed14 (f : Nat) (s : State := hub) : State := ((s.wr (feedField f PWP_STATUS.A_VALID PWP_STATUS.B_VALID) 1).wr (feedField f PWP_STATUS.A_ON PWP_STATUS.B_ON) 1)
def in14 (s : State := feed14 0) : State := s.wr PWP_STATUS.IN_GOOD 1
def ramp14 (tries : Nat := 0) : State := ((feed14 0).wr PWP_STATUS.IN_TRIES tries).modPw (fun p => { p with ramping := true })
def d2d14 (s : State := in14) : State := s.wr FLD_STATUS.D2D_UP 1
/-- Channel EF2 in a state. -/
def ef14 (st : Nat) (s : State := d2d14) : State := ((s.wr PWP_EFSTAT.STATE st 1).wr PWP_EFCTL.EN 1 1).wr PWP_EFCTL.PORT 2 1
def efs14 (st : Nat) (f : Ef → Ef) : State := (ef14 st).modEf 1 f
def tel14 : State := in14.modPw (fun p => { p with count := 4, sum := NMap.set p.sum PwSum.init 2 ⟨400, -40, 8000, -5, 77⟩, clear := 2 })

theorem witness_PowerInput_feed :
    hub.pw.powered = true ∧
    hub.on (feedField 1 PWP_STATUS.A_VALID PWP_STATUS.B_VALID) = false ∧
    hub.on (feedField 1 PWP_STATUS.A_OV PWP_STATUS.B_OV) = false ∧
    hub.pw.ramping = false ∧
    hub.pw.waiting = false ∧
    hub.on PWP_STATUS.IN_GOOD = false ∧
    hub.on PWP_STATUS.IN_LATCH = false := by
  decide +kernel

theorem witness_PowerInput_feedSecond :
    in14.pw.powered = true ∧
    in14.on (feedField 1 PWP_STATUS.A_VALID PWP_STATUS.B_VALID) = false ∧
    in14.on (feedField 1 PWP_STATUS.A_OV PWP_STATUS.B_OV) = false ∧
    (in14.pw.ramping = true ∨ in14.pw.waiting = true ∨ in14.on PWP_STATUS.IN_GOOD = true ∨ in14.on PWP_STATUS.IN_LATCH = true) := by
  decide +kernel

theorem witness_PowerInput_feedAgain :
    (in14.pw.powered = false ∨
  in14.on (feedField 0 PWP_STATUS.A_VALID PWP_STATUS.B_VALID) = true ∨
    in14.on (feedField 0 PWP_STATUS.A_OV PWP_STATUS.B_OV) = true) := by
  decide +kernel

theorem witness_PowerInput_notValid :
    in14.on (feedField 1 PWP_STATUS.A_VALID PWP_STATUS.B_VALID) = false := by
  decide +kernel

theorem witness_PowerInput_feedLost :
    (feed14 1 in14).on (feedField 1 PWP_STATUS.A_VALID PWP_STATUS.B_VALID) = true ∧
    (feed14 1 in14).on (feedField 1 PWP_STATUS.B_VALID PWP_STATUS.A_VALID) = true := by
  decide +kernel

theorem witness_PowerInput_lastLost :
    in14.on (feedField 0 PWP_STATUS.A_VALID PWP_STATUS.B_VALID) = true ∧
    in14.on (feedField 0 PWP_STATUS.B_VALID PWP_STATUS.A_VALID) = false := by
  decide +kernel

theorem witness_PowerInput_feedOver :
    (feed14 1 in14).pw.powered = true ∧
    (feed14 1 in14).on (feedField 1 PWP_STATUS.A_OV PWP_STATUS.B_OV) = false ∧
    (feed14 1 in14).on (feedField 1 PWP_STATUS.A_VALID PWP_STATUS.B_VALID) = true ∧
    (feed14 1 in14).on (feedField 1 PWP_STATUS.B_VALID PWP_STATUS.A_VALID) = true := by
  decide +kernel

theorem witness_PowerInput_lastOver :
    in14.pw.powered = true ∧
    in14.on (feedField 0 PWP_STATUS.A_OV PWP_STATUS.B_OV) = false ∧
    in14.on (feedField 0 PWP_STATUS.A_VALID PWP_STATUS.B_VALID) = true ∧
    in14.on (feedField 0 PWP_STATUS.B_VALID PWP_STATUS.A_VALID) = false := by
  decide +kernel

theorem witness_PowerInput_reverse :
    in14.on (feedField 0 PWP_STATUS.A_VALID PWP_STATUS.B_VALID) = true ∧
    in14.on (feedField 0 PWP_STATUS.A_ON PWP_STATUS.B_ON) = true := by
  decide +kernel

theorem witness_PowerInput_reverseBack :
    (in14.wr PWP_STATUS.A_ON 0).on (feedField 0 PWP_STATUS.A_VALID PWP_STATUS.B_VALID) = true ∧
    (in14.wr PWP_STATUS.A_ON 0).on (feedField 0 PWP_STATUS.A_ON PWP_STATUS.B_ON) = false := by
  decide +kernel

theorem witness_PowerInput_reverseNot :
    hub.on (feedField 0 PWP_STATUS.A_VALID PWP_STATUS.B_VALID) = false := by
  decide +kernel

theorem witness_PowerInput_rampDone :
    ramp14.pw.ramping = true := by
  decide +kernel

theorem witness_PowerInput_rampTimeout :
    (ramp14 1).pw.ramping = true := by
  decide +kernel

theorem witness_PowerInput_rampFet :
    (ramp14 2).pw.ramping = true := by
  decide +kernel

theorem witness_PowerInput_noRamp :
    hub.pw.ramping = false := by
  decide +kernel

theorem witness_PowerInput_fast :
    in14.on PWP_STATUS.IN_GOOD = true := by
  decide +kernel

theorem witness_PowerInput_timer :
    (in14.modPw fun (p : Pw) =>
        { powered := p.powered, ramping := p.ramping, waiting := p.waiting, inTimer := 5000, inQuiet := p.inQuiet,
          ef := p.ef, sum := p.sum, count := p.count, clear := p.clear : Pw }).on
    PWP_STATUS.IN_GOOD =
  true ∧
    (in14.modPw fun (p : Pw) =>
          { powered := p.powered, ramping := p.ramping, waiting := p.waiting, inTimer := 5000, inQuiet := p.inQuiet,
            ef := p.ef, sum := p.sum, count := p.count, clear := p.clear : Pw }).rd
      PWP_INCFG.FT_IN *
    10 ≤
  (in14.modPw fun (p : Pw) =>
        { powered := p.powered, ramping := p.ramping, waiting := p.waiting, inTimer := 5000, inQuiet := p.inQuiet,
          ef := p.ef, sum := p.sum, count := p.count, clear := p.clear : Pw }).pw.inTimer := by
  decide +kernel

theorem witness_PowerInput_timerEarly :
    in14.on PWP_STATUS.IN_GOOD = true ∧
    in14.pw.inTimer < in14.rd PWP_INCFG.FT_IN * 10 := by
  decide +kernel

theorem witness_PowerInput_heldGood :
    (in14.wr PWP_STATUS.IN_TRIES 2).on PWP_STATUS.IN_GOOD = true := by
  decide +kernel

theorem witness_PowerInput_notGood :
    hub.on PWP_STATUS.IN_GOOD = false := by
  decide +kernel

theorem witness_PowerInput_noRetry :
    hub.pw.waiting = false := by
  decide +kernel

theorem witness_PowerInput_retryDark :
    (hub.modPw fun (p : Pw) =>
        { powered := p.powered, ramping := p.ramping, waiting := true, inTimer := p.inTimer, inQuiet := p.inQuiet,
          ef := p.ef, sum := p.sum, count := p.count, clear := p.clear : Pw }).pw.waiting =
  true ∧
    (hub.modPw fun (p : Pw) =>
      { powered := p.powered, ramping := p.ramping, waiting := true, inTimer := p.inTimer, inQuiet := p.inQuiet,
        ef := p.ef, sum := p.sum, count := p.count, clear := p.clear : Pw }).feedOk =
  false := by
  decide +kernel

theorem witness_PowerInput_retry :
    ((feed14 0).modPw fun (p : Pw) =>
        { powered := p.powered, ramping := p.ramping, waiting := true, inTimer := p.inTimer, inQuiet := p.inQuiet,
          ef := p.ef, sum := p.sum, count := p.count, clear := p.clear : Pw }).pw.waiting =
  true ∧
    ((feed14 0).modPw fun (p : Pw) =>
        { powered := p.powered, ramping := p.ramping, waiting := true, inTimer := p.inTimer, inQuiet := p.inQuiet,
          ef := p.ef, sum := p.sum, count := p.count, clear := p.clear : Pw }).pw.powered =
  true ∧
    ((feed14 0).modPw fun (p : Pw) =>
      { powered := p.powered, ramping := p.ramping, waiting := true, inTimer := p.inTimer, inQuiet := p.inQuiet,
        ef := p.ef, sum := p.sum, count := p.count, clear := p.clear : Pw }).feedOk =
  true ∧
    ((feed14 0).modPw fun (p : Pw) =>
        { powered := p.powered, ramping := p.ramping, waiting := true, inTimer := p.inTimer, inQuiet := p.inQuiet,
          ef := p.ef, sum := p.sum, count := p.count, clear := p.clear : Pw }).pw.ramping =
  false ∧
    ((feed14 0).modPw fun (p : Pw) =>
        { powered := p.powered, ramping := p.ramping, waiting := true, inTimer := p.inTimer, inQuiet := p.inQuiet,
          ef := p.ef, sum := p.sum, count := p.count, clear := p.clear : Pw }).on
    PWP_STATUS.IN_GOOD =
  false ∧
    ((feed14 0).modPw fun (p : Pw) =>
        { powered := p.powered, ramping := p.ramping, waiting := true, inTimer := p.inTimer, inQuiet := p.inQuiet,
          ef := p.ef, sum := p.sum, count := p.count, clear := p.clear : Pw }).on
    PWP_STATUS.IN_LATCH =
  false := by
  decide +kernel

theorem witness_PowerInput_powerUp :
    (in14.modPw fun (p : Pw) =>
        { powered := false, ramping := p.ramping, waiting := p.waiting, inTimer := p.inTimer, inQuiet := p.inQuiet,
          ef := p.ef, sum := p.sum, count := p.count, clear := p.clear : Pw }).pw.powered =
  false := by
  decide +kernel

theorem witness_PowerInput_powerDown :
    in14.pw.powered = true := by
  decide +kernel

theorem witness_PowerChannels_d2dDown :
    in14.serves (Reg.PWP_EFCTL.addr 1 0) true ∧
    in14.on FLD_STATUS.D2D_UP = false := by
  unfold State.serves; decide +kernel

theorem witness_PowerChannels_latchedOn :
    (ef14 6).serves (Reg.PWP_EFCTL.addr 1 0) true ∧
    (ef14 6).on FLD_STATUS.D2D_UP = true ∧
    firstStatus ((ef14 6).writeChecks Reg.PWP_EFCTL 1 655473 ++ (ef14 6).efctlChecks 1 655473) ≠ St.OK := by
  unfold State.serves; decide +kernel

theorem witness_PowerChannels_turnOn :
    d2d14.serves (Reg.PWP_EFCTL.addr 1 0) true ∧
    d2d14.on FLD_STATUS.D2D_UP = true ∧
    firstStatus (d2d14.writeChecks Reg.PWP_EFCTL 1 655473 ++ d2d14.efctlChecks 1 655473) = St.OK ∧
    d2d14.rd PWP_EFSTAT.STATE 1 = 0 ∧
    PWP_EFCTL.EN.of 655473 = 1 ∧
    PWP_EFCTL.PRES_EN.of 655473 = 0 ∧
    d2d14.on PWP_STATUS.IN_GOOD = true := by
  unfold State.serves; decide +kernel

theorem witness_PowerChannels_unlatch :
    (ef14 6).serves (Reg.PWP_EFCTL.addr 1 0) true ∧
    (ef14 6).on FLD_STATUS.D2D_UP = true ∧
    firstStatus ((ef14 6).writeChecks Reg.PWP_EFCTL 1 655472 ++ (ef14 6).efctlChecks 1 655472) = St.OK ∧
    (ef14 6).rd PWP_EFSTAT.STATE 1 = 6 ∧
    PWP_EFCTL.EN.of 655472 = 0 := by
  unfold State.serves; decide +kernel

theorem witness_PowerChannels_sample :
    tel14.pw.powered = true := by
  decide +kernel

theorem witness_PowerChannels_sampleLimit :
    (ef14 5).pw.powered = true := by
  decide +kernel

theorem witness_PowerChannels_fastTrip :
    (efs14 5 fun (e : Ef) => { quiet := e.quiet, good := e.good, cool := e.cool, last := -3, low := e.low : Ef }).efRuns 1 =
  true := by
  decide +kernel

theorem witness_PowerChannels_fetFail :
    (ef14 5).efRuns 1 = true := by
  decide +kernel

theorem witness_PowerChannels_shortRuns :
    (ef14 5).efRuns 1 = true := by
  decide +kernel

theorem witness_PowerChannels_timerTrip :
    ((ef14 5).wr PWP_EFSTAT.FTIMER 2000 1).efRuns 1 = true ∧
    ((ef14 5).wr PWP_EFSTAT.FTIMER 2000 1).rd PWP_EFCFG.FT 1 * 10 ≤
  ((ef14 5).wr PWP_EFSTAT.FTIMER 2000 1).rd PWP_EFSTAT.FTIMER 1 := by
  decide +kernel

theorem witness_PowerChannels_timerNot :
    (ef14 5).efRuns 1 = true ∧
    (ef14 5).rd PWP_EFSTAT.FTIMER 1 < (ef14 5).rd PWP_EFCFG.FT 1 * 10 := by
  decide +kernel

theorem witness_PowerChannels_offTrips :
    (ef14 2).efRuns 1 = false := by
  decide +kernel

theorem witness_PowerChannels_short :
    (ef14 2).efRuns 1 = false ∧
    (ef14 2).pw.powered = true ∧
    (ef14 2).on PWP_EFSTAT.SHORT 1 = false := by
  decide +kernel

theorem witness_PowerChannels_efRamp :
    (ef14 3).rd PWP_EFSTAT.STATE 1 = 3 := by
  decide +kernel

theorem witness_PowerChannels_noEfRamp :
    (ef14 4).rd PWP_EFSTAT.STATE 1 ≠ 3 := by
  decide +kernel

theorem witness_PowerChannels_pgUp :
    (efs14 4 fun (e : Ef) => { quiet := e.quiet, good := 100, cool := e.cool, last := e.last, low := e.low : Ef }).rd
    PWP_EFSTAT.STATE 1 =
  4 ∧
    100 ≤
  ((efs14 4 fun (e : Ef) => { quiet := e.quiet, good := 100, cool := e.cool, last := e.last, low := e.low : Ef }).efs
      1).good := by
  decide +kernel

theorem witness_PowerChannels_pgEarly :
    ((efs14 4 fun (e : Ef) => { quiet := e.quiet, good := 99, cool := e.cool, last := e.last, low := e.low : Ef }).efs
      1).good <
  100 := by
  decide +kernel

theorem witness_PowerChannels_absent :
    (((ef14 5).wr PWP_EFSTAT.PRES 1 1).wr PWP_EFCTL.PRES_EN 1 1).pw.powered = true ∧
    (((ef14 5).wr PWP_EFSTAT.PRES 1 1).wr PWP_EFCTL.PRES_EN 1 1).on PWP_EFSTAT.PRES 1 = true := by
  decide +kernel

theorem witness_PowerChannels_present :
    (efs14 1 fun (e : Ef) =>
        { quiet := e.quiet, good := e.good, cool := true, last := e.last, low := e.low : Ef }).pw.powered =
  true ∧
    (efs14 1 fun (e : Ef) => { quiet := e.quiet, good := e.good, cool := true, last := e.last, low := e.low : Ef }).on
    PWP_EFSTAT.PRES 1 =
  false ∧
    ((efs14 1 fun (e : Ef) => { quiet := e.quiet, good := e.good, cool := true, last := e.last, low := e.low : Ef }).efs
      1).cool =
  true := by
  decide +kernel

theorem witness_PowerChannels_presentSame :
    (ef14 5).on PWP_EFSTAT.PRES 1 = false := by
  decide +kernel

theorem witness_PowerChannels_cooled :
    ((efs14 1 fun (e : Ef) => { quiet := e.quiet, good := e.good, cool := true, last := e.last, low := e.low : Ef }).efs
      1).cool =
  true := by
  decide +kernel

theorem witness_PowerChannels_notCooling :
    ((ef14 5).efs 1).cool = false := by
  decide +kernel

theorem witness_PowerChannels_telemetry :
    tel14.pw.powered = true ∧
    tel14.pw.count ≠ 0 := by
  decide +kernel

theorem witness_PowerChannels_energy :
    (d2d14 tel14).on FLD_STATUS.D2D_UP = true ∧
    (d2d14 tel14).serves (Reg.PWP_TE_LO.addr 2 0) false := by
  unfold State.serves; decide +kernel

theorem witness_PowerChannels_energyClear :
    (d2d14 tel14).on FLD_STATUS.D2D_UP = true ∧
    (d2d14 tel14).serves Reg.PWP_TELCMD.base true ∧
    Reg.PWP_TELCMD.reservedSet 4 = false := by
  unfold State.serves; decide +kernel

theorem witness_PowerChannels_noTimeout :
    (d2d14 tel14).on FLD_STATUS.D2D_UP = true := by
  decide +kernel

theorem witness_PowerChannels_unpowered :
    (hub.modPw fun (p : Pw) =>
        { powered := false, ramping := p.ramping, waiting := p.waiting, inTimer := p.inTimer, inQuiet := p.inQuiet,
          ef := p.ef, sum := p.sum, count := p.count, clear := p.clear : Pw }).pw.powered =
  false := by
  decide +kernel

theorem witness_PowerChannels_pwpTimeout :
    hub.on FLD_STATUS.D2D_UP = false := by
  decide +kernel

/-- Domain 5 (Ethernet ports 0 to 3) may be gated; every port is off. -/
def gate15 (st : Nat := 0) (s : State := hub) : State := ((s.wr CPM_TRIM.GATE_EN 16).wr (dstat 5) st).wr ETH_CTRL.MODE 2 1
def wakef15 (l : List (Nat × Nat)) : State := (hub.wr CPM_WAKEF.WAKEF 16).modChip (fun c => { c with image := l })
def entering15 (target wakes : Nat) (s : State := hub) : State := ((s.wr JXK_CTRL.EN 1 2).wr PWP_STATUS.IN_GOOD 1).modChip (fun c => { c with phase := .entering, target := target, wakes := wakes, dozeMask := 1 })
def armed15 (s : State := hub) : State := s.wr CPM_STATE.PS_ARM 1
def asleep15 (p : Phase) (t : Nat) : State := hub.modChip (fun c => { c with phase := p, target := t, dozeMask := 1 })
def locked15 (s : State := hub) : State := s.wr BOOT_STATUS.LOCK 1
theorem witness_PowerDomains_regs : (Reg.ETH_CTRL, 1) ∈ gate15.domainRegs 5 ∧ ETH_CTRL.MODE ∈ Reg.ETH_CTRL.fields ∧ heldInCore.contains ETH_CTRL.MODE.id.val = false := by
  refine ⟨?_, by decide +kernel, by decide +kernel⟩
  unfold State.domainRegs
  rw [List.mem_flatMap]
  refine ⟨Reg.ETH_CTRL, by decide +kernel, ?_⟩
  decide +kernel
theorem witness_PowerDomains_core : (Reg.JXP_STATUS, 0) ∈ gate15.domainRegs 1 ∧ JXP_STATUS.RATE_CAP ∈ Reg.JXP_STATUS.fields ∧ heldInCore.contains JXP_STATUS.RATE_CAP.id.val = true := by
  refine ⟨?_, by decide +kernel, by decide +kernel⟩
  unfold State.domainRegs
  rw [List.mem_flatMap]
  refine ⟨Reg.JXP_STATUS, by decide +kernel, ?_⟩
  decide +kernel

theorem witness_PowerDomains_gate :
    gate15.chip.phase = Phase.running ∧
    gate15.gateEnabled 5 = true ∧
    gate15.rd (dstat 5) = 0 ∧
    gate15.domainIdle 5 = true := by
  decide +kernel

theorem witness_PowerDomains_gateDone :
    gate15.chip.phase = Phase.running ∧
    gate15.gateEnabled 5 = true ∧
    gate15.rd (dstat 5) = 0 ∧
    gate15.domainIdle 5 = true ∧
    (∀ (h : Held), h ∈ gate15.chip.held → gate15.domainOf h.addr ≠ 5) := by
  decide +kernel

theorem witness_PowerDomains_gateNot :
    (hub.chip.phase ≠ Phase.running ∨ hub.gateEnabled 5 = false ∨ hub.rd (dstat 5) ≠ 0 ∨ hub.domainIdle 5 = false) := by
  decide +kernel

theorem witness_PowerDomains_domReset :
    ETH_CTRL.MODE ∈ Reg.ETH_CTRL.fields ∧
    heldInCore.contains 428 = false := by
  decide +kernel

theorem witness_PowerDomains_heldCore :
    JXP_STATUS.RATE_CAP ∈ Reg.JXP_STATUS.fields ∧
    heldInCore.contains 153 = true := by
  decide +kernel

theorem witness_PowerDomains_noDrain :
    hub.rd (dstat 5) ≠ 1 := by
  decide +kernel

theorem witness_PowerDomains_drainNone :
    (entering15 1 0 (gate15 1)).rd (dstat 5) = 1 ∧
    (entering15 1 0 (gate15 1)).chip.phase = Phase.entering ∧
    0 = 0 := by
  decide +kernel

theorem witness_PowerDomains_drainSome :
    (entering15 1 0 (gate15 1)).rd (dstat 5) = 1 ∧
    (entering15 1 0 (gate15 1)).chip.phase = Phase.entering ∧
    3 ≠ 0 ∧
    5 ≠ 9 := by
  decide +kernel

theorem witness_PowerDomains_drainGate :
    (gate15 1).rd (dstat 5) = 1 ∧
    (gate15 1).chip.phase = Phase.running ∧
    0 = 0 ∧
    (∀ (h : Held), h ∈ (gate15 1).chip.held → (gate15 1).domainOf h.addr ≠ 5) := by
  decide +kernel

theorem witness_PowerDomains_awake :
    hub.rd (dstat 5) ≠ 2 := by
  decide +kernel

theorem witness_PowerDomains_wake :
    (gate15 2).rd (dstat 5) = 2 := by
  decide +kernel

theorem witness_PowerDomains_noRestore :
    hub.awaitsRestore 5 = false := by
  decide +kernel

theorem witness_PowerDomains_restoreNone :
    (wakef15 []).awaitsRestore 5 = true ∧
    (wakef15 []).chip.image = [] := by
  decide +kernel

theorem witness_PowerDomains_restore :
    (wakef15 [(Reg.ETH_CTRL.addr 1 0, 15)]).awaitsRestore 5 = true ∧
    (wakef15 [(Reg.ETH_CTRL.addr 1 0, 15)]).chip.image = [(Reg.ETH_CTRL.addr 1 0, 15)] ∧
    (wakef15 [(Reg.ETH_CTRL.addr 1 0, 15)]).domainOf (Reg.ETH_CTRL.addr 1 0) = 5 ∧
    List.findSome? (fun (r : RegDesc) => Option.map (fun (i : Nat) => (r, i)) (r.indexOf (Reg.ETH_CTRL.addr 1 0))) regMap =
  some (Reg.ETH_CTRL, 1) := by
  decide +kernel

theorem witness_DozeAndShip_unarmed :
    hub.serves Reg.CPM_PSCMD.base true ∧
    hub.on CPM_STATE.PS_ARM = false := by
  unfold State.serves; decide +kernel

theorem witness_DozeAndShip_twice :
    (armed15 (hub.wr CPM_STATE.STATE 2)).serves Reg.CPM_PSCMD.base true ∧
    (armed15 (hub.wr CPM_STATE.STATE 2)).on CPM_STATE.PS_ARM = true ∧
    (armed15 (hub.wr CPM_STATE.STATE 2)).rd CPM_STATE.STATE = 2 := by
  unfold State.serves; decide +kernel

theorem witness_DozeAndShip_entry :
    armed15.serves Reg.CPM_PSCMD.base true ∧
    armed15.on CPM_STATE.PS_ARM = true ∧
    armed15.rd CPM_STATE.STATE ≠ 2 := by
  unfold State.serves; decide +kernel

theorem witness_DozeAndShip_policy :
    ((hub.wr CPM_ULP.ULP_ACT 2).modChip fun (c : Chip) =>
        { phase := c.phase, cause := c.cause, test := c.test, vbatLost := c.vbatLost, target := c.target,
          dozeMask := c.dozeMask, alarm := c.alarm, wakes := c.wakes, ulp := true, held := c.held,
          avsFixed := c.avsFixed, image := c.image, pinmux := c.pinmux, push := c.push, pushFull := c.pushFull,
          bids := c.bids, bootId := c.bootId, net := c.net, netGen := c.netGen, netTry := c.netTry,
          netNext := c.netNext, netRun := c.netRun, irq := c.irq, owed := c.owed, march := c.march,
          marchStop := c.marchStop, jtag := c.jtag, reports := c.reports : Chip }).chip.ulp =
  true ∧
    ((hub.wr CPM_ULP.ULP_ACT 2).modChip fun (c : Chip) =>
        { phase := c.phase, cause := c.cause, test := c.test, vbatLost := c.vbatLost, target := c.target,
          dozeMask := c.dozeMask, alarm := c.alarm, wakes := c.wakes, ulp := true, held := c.held,
          avsFixed := c.avsFixed, image := c.image, pinmux := c.pinmux, push := c.push, pushFull := c.pushFull,
          bids := c.bids, bootId := c.bootId, net := c.net, netGen := c.netGen, netTry := c.netTry,
          netNext := c.netNext, netRun := c.netRun, irq := c.irq, owed := c.owed, march := c.march,
          marchStop := c.marchStop, jtag := c.jtag, reports := c.reports : Chip }).chip.phase =
  Phase.running ∧
    (((hub.wr CPM_ULP.ULP_ACT 2).modChip fun (c : Chip) =>
          { phase := c.phase, cause := c.cause, test := c.test, vbatLost := c.vbatLost, target := c.target,
            dozeMask := c.dozeMask, alarm := c.alarm, wakes := c.wakes, ulp := true, held := c.held,
            avsFixed := c.avsFixed, image := c.image, pinmux := c.pinmux, push := c.push, pushFull := c.pushFull,
            bids := c.bids, bootId := c.bootId, net := c.net, netGen := c.netGen, netTry := c.netTry,
            netNext := c.netNext, netRun := c.netRun, irq := c.irq, owed := c.owed, march := c.march,
            marchStop := c.marchStop, jtag := c.jtag, reports := c.reports : Chip }).rd
      CPM_ULP.ULP_ACT =
    1 ∨
  ((hub.wr CPM_ULP.ULP_ACT 2).modChip fun (c : Chip) =>
          { phase := c.phase, cause := c.cause, test := c.test, vbatLost := c.vbatLost, target := c.target,
            dozeMask := c.dozeMask, alarm := c.alarm, wakes := c.wakes, ulp := true, held := c.held,
            avsFixed := c.avsFixed, image := c.image, pinmux := c.pinmux, push := c.push, pushFull := c.pushFull,
            bids := c.bids, bootId := c.bootId, net := c.net, netGen := c.netGen, netTry := c.netTry,
            netNext := c.netNext, netRun := c.netRun, irq := c.irq, owed := c.owed, march := c.march,
            marchStop := c.marchStop, jtag := c.jtag, reports := c.reports : Chip }).rd
      CPM_ULP.ULP_ACT =
    2) := by
  decide +kernel

theorem witness_DozeAndShip_noPolicy :
    hub.chip.ulp = false := by
  decide +kernel

theorem witness_DozeAndShip_notEntering :
    hub.chip.phase ≠ Phase.entering := by
  decide +kernel

theorem witness_DozeAndShip_doze :
    (entering15 1 0).chip.phase = Phase.entering ∧
    (entering15 1 0).chip.held = [] ∧
    (entering15 1 0).chip.target = 1 ∧
    (entering15 1 0).chip.wakes = 0 := by
  decide +kernel

theorem witness_DozeAndShip_ship :
    (entering15 2 0).chip.phase = Phase.entering ∧
    (entering15 2 0).chip.held = [] ∧
    (entering15 2 0).chip.target = 2 ∧
    (entering15 2 0).chip.wakes = 0 := by
  decide +kernel

theorem witness_DozeAndShip_dozeWoken :
    (entering15 1 8).chip.phase = Phase.entering ∧
    (entering15 1 8).chip.held = [] ∧
    (entering15 1 8).chip.target = 1 ∧
    (entering15 1 8).chip.wakes ≠ 0 := by
  decide +kernel

theorem witness_DozeAndShip_dozeHeld :
    ((entering15 1 8).modChip fun (c : Chip) =>
        { phase := c.phase, cause := c.cause, test := c.test, vbatLost := c.vbatLost, target := c.target,
          dozeMask := c.dozeMask, alarm := c.alarm, wakes := c.wakes, ulp := c.ulp,
          held := [{ write := true, addr := 4, msg := none : Held }], avsFixed := c.avsFixed, image := c.image,
          pinmux := c.pinmux, push := c.push, pushFull := c.pushFull, bids := c.bids, bootId := c.bootId, net := c.net,
          netGen := c.netGen, netTry := c.netTry, netNext := c.netNext, netRun := c.netRun, irq := c.irq,
          owed := c.owed, march := c.march, marchStop := c.marchStop, jtag := c.jtag, reports := c.reports :
          Chip }).chip.phase =
  Phase.entering ∧
    ((entering15 1 8).modChip fun (c : Chip) =>
        { phase := c.phase, cause := c.cause, test := c.test, vbatLost := c.vbatLost, target := c.target,
          dozeMask := c.dozeMask, alarm := c.alarm, wakes := c.wakes, ulp := c.ulp,
          held := [{ write := true, addr := 4, msg := none : Held }], avsFixed := c.avsFixed, image := c.image,
          pinmux := c.pinmux, push := c.push, pushFull := c.pushFull, bids := c.bids, bootId := c.bootId, net := c.net,
          netGen := c.netGen, netTry := c.netTry, netNext := c.netNext, netRun := c.netRun, irq := c.irq,
          owed := c.owed, march := c.march, marchStop := c.marchStop, jtag := c.jtag, reports := c.reports :
          Chip }).chip.held =
  [{ write := true, addr := 4, msg := none : Held }] := by
  decide +kernel

theorem witness_DozeAndShip_noWake :
    hub.wakeEnabled 0 0 = false := by
  decide +kernel

theorem witness_DozeAndShip_wakeNoted :
    (entering15 1 0).wakeEnabled 0 0 = true ∧
    (entering15 1 0).chip.phase = Phase.entering := by
  decide +kernel

theorem witness_DozeAndShip_dozeWake :
    (asleep15 Phase.doze 1).wakeEnabled 0 0 = true ∧
    (asleep15 Phase.doze 1).chip.phase = Phase.doze ∧
    (asleep15 Phase.doze 1).chip.target = 1 := by
  decide +kernel

theorem witness_DozeAndShip_wakeRunning :
    hub.chip.phase = Phase.running := by
  decide +kernel

theorem witness_DozeAndShip_noShip :
    hub.chip.phase ≠ Phase.ship := by
  decide +kernel

theorem witness_DozeAndShip_shipWake :
    (asleep15 Phase.ship 2).chip.phase = Phase.ship ∧
    (asleep15 Phase.ship 2).chip.target = 2 := by
  decide +kernel

theorem witness_DozeAndShip_noFabPg :
    (asleep15 Phase.powering 0).chip.phase = Phase.powering := by
  decide +kernel

theorem witness_DozeAndShip_fabPgOk :
    hub.chip.phase ≠ Phase.powering := by
  decide +kernel

theorem witness_ClocksAndVoltage_rootPll :
    (hub.wr GLB_HUB.ROOT 1).isRoot = true := by
  decide +kernel

theorem witness_ClocksAndVoltage_holdover :
    (hub.wr CPM_PLLSTAT.ROOTSRC 1).isRoot = false ∧
    (hub.wr CPM_PLLSTAT.ROOTSRC 1).on CPM_PLLSTAT.ROOTSRC = true ∧
    (hub.wr CPM_PLLSTAT.ROOTSRC 1).on CPM_PLLSTAT.HOLDOVER = false := by
  decide +kernel

theorem witness_ClocksAndVoltage_held :
    (hub.wr CPM_PLLSTAT.HOLDOVER 1).on CPM_PLLSTAT.HOLDOVER = true := by
  decide +kernel

theorem witness_ClocksAndVoltage_relock :
    (hub.wr CPM_PLLSTAT.HOLDOVER 1).isRoot = false := by
  decide +kernel

theorem witness_ClocksAndVoltage_unlock :
    bitAt ((hub.wr CPM_PLLSTAT.LOCK 31).rd CPM_PLLSTAT.LOCK) 3 = true := by
  decide +kernel

theorem witness_ClocksAndVoltage_unlocked :
    bitAt ((hub.wr CPM_PLLSTAT.LOCK 23).rd CPM_PLLSTAT.LOCK) 3 = false := by
  decide +kernel

theorem witness_ClocksAndVoltage_noLock :
    hub.on BOOT_STATUS.LOCK = false := by
  decide +kernel

theorem witness_ClocksAndVoltage_avs :
    locked15.on BOOT_STATUS.LOCK = true ∧
    locked15.on CPM_AVS.AVS_EN = true := by
  decide +kernel

theorem witness_ClocksAndVoltage_avsFixed :
    ((locked15 (hub.wr CPM_AVS.AVS_EN 0)).modChip fun (c : Chip) =>
        { phase := c.phase, cause := c.cause, test := c.test, vbatLost := c.vbatLost, target := c.target,
          dozeMask := c.dozeMask, alarm := c.alarm, wakes := c.wakes, ulp := c.ulp, held := c.held, avsFixed := true,
          image := c.image, pinmux := c.pinmux, push := c.push, pushFull := c.pushFull, bids := c.bids,
          bootId := c.bootId, net := c.net, netGen := c.netGen, netTry := c.netTry, netNext := c.netNext,
          netRun := c.netRun, irq := c.irq, owed := c.owed, march := c.march, marchStop := c.marchStop, jtag := c.jtag,
          reports := c.reports : Chip }).on
    BOOT_STATUS.LOCK =
  true ∧
    ((locked15 (hub.wr CPM_AVS.AVS_EN 0)).modChip fun (c : Chip) =>
        { phase := c.phase, cause := c.cause, test := c.test, vbatLost := c.vbatLost, target := c.target,
          dozeMask := c.dozeMask, alarm := c.alarm, wakes := c.wakes, ulp := c.ulp, held := c.held, avsFixed := true,
          image := c.image, pinmux := c.pinmux, push := c.push, pushFull := c.pushFull, bids := c.bids,
          bootId := c.bootId, net := c.net, netGen := c.netGen, netTry := c.netTry, netNext := c.netNext,
          netRun := c.netRun, irq := c.irq, owed := c.owed, march := c.march, marchStop := c.marchStop, jtag := c.jtag,
          reports := c.reports : Chip }).on
    CPM_AVS.AVS_EN =
  false ∧
    ((locked15 (hub.wr CPM_AVS.AVS_EN 0)).modChip fun (c : Chip) =>
        { phase := c.phase, cause := c.cause, test := c.test, vbatLost := c.vbatLost, target := c.target,
          dozeMask := c.dozeMask, alarm := c.alarm, wakes := c.wakes, ulp := c.ulp, held := c.held, avsFixed := true,
          image := c.image, pinmux := c.pinmux, push := c.push, pushFull := c.pushFull, bids := c.bids,
          bootId := c.bootId, net := c.net, netGen := c.netGen, netTry := c.netTry, netNext := c.netNext,
          netRun := c.netRun, irq := c.irq, owed := c.owed, march := c.march, marchStop := c.marchStop, jtag := c.jtag,
          reports := c.reports : Chip }).chip.avsFixed =
  true := by
  decide +kernel

theorem witness_ClocksAndVoltage_avsFix :
    (locked15 (hub.wr CPM_AVS.AVS_EN 0)).on BOOT_STATUS.LOCK = true ∧
    (locked15 (hub.wr CPM_AVS.AVS_EN 0)).on CPM_AVS.AVS_EN = false ∧
    (locked15 (hub.wr CPM_AVS.AVS_EN 0)).chip.avsFixed = false := by
  decide +kernel

def off16 (p : Phase) (s : State := hub) : State := s.modChip (fun c => { c with phase := p })
/-- A hub whose fabric is about to be released: life-cycle state `lc`, start by command with the strap at `src` (cause 2), and boot-identity records. -/
def start16 (lc src : Nat) (test : Bool := false) (bids : List (List Byte) := []) : State :=
  ((hub.wr SEC_STATUS.LC lc).wr BOOT_STATUS.SRC src).modChip (fun c => { c with phase := .powering, cause := 2, test := test, bids := bids })
def bid16 : List Byte := le 4 1 ++ [5, 1, 3, 2, 16, 1] ++ le 6 0
def boot16 (lc : Nat) (s : State := hub) : State := s.wr SEC_STATUS.LC lc
def arm16 (s : State := boot16 1) : State := s.wr BOOT_STATUS.ARM 1
def bidBuf16 (used : Nat) (s : State := arm16) : State := ((((s.wr BOOT_BIDBUF.WORD 1 0).wr BOOT_BIDBUF.WORD 0x02030105 1).wr BOOT_BIDBUF.WORD 0x110 2).wr BOOT_BIDSTAT.USED used)
def push16 (lc : Nat := 1) : State := (boot16 lc).wr BOOT_STATUS.PUSHWAIT 1
def net16 (n : Nat := 0) : State := hub.modChip (fun c => { c with netRun := true, netNext := 8, netGen := n, netTry := NMap.set [] 0 4 5, bids := [bid16], bootId := true })
def retry16 : State := (((linked 2 6 hub).wr PLN_LSTAT.UPSTREAM 1 2).wr BOOT_STATUS.MODE 2).modChip (fun c => { c with bids := [bid16], bootId := true })
def step16 (mode : Nat) : State := ((hub.wr BOOT_STATUS.MODE mode).wr BOOT_STATUS.STEP 11).wr JXK_CTRL.EN 1 1
/-- An image of generation `g` with one section, and its signature block. -/
def img16 (g : Nat) : List Byte := le 4 0x5A544931 ++ le 2 1 ++ le 2 0 ++ le 8 g ++ le 4 448 ++ le 4 1 ++ [5, 1, 0, 0] ++ le 4 336 ++ List.replicate 224 0 ++
  ([1, 0, 0, 0] ++ le 4 0x140 ++ le 4 16 ++ le 4 0) ++ List.replicate 48 0 ++ List.replicate 16 7 ++ ([1] ++ List.replicate 111 0)

theorem img16_table : tableStatus (img16 3) = St.OK ∧ tableStatus (img16 4) = St.OK ∧ imgGen (img16 3) < imgGen (img16 4) ∧ byteAt (img16 3) (imgSigOff (img16 3)) = 1 ∧
    byteAt (img16 4) (imgSigOff (img16 4)) = 1 ∧ hub.lc ≠ 4 ∧ hub.rd BOOT_NEXT.FORCE_COPY = 0 ∧ (hub.wr BOOT_NEXT.FORCE_COPY 2).rd BOOT_NEXT.FORCE_COPY = 2 := by decide +kernel

/-- Whatever signatures verify, a copy whose signature does is valid. -/
theorem witness_StartUp_valid (h : ∀ a b, hub.verifies a b = true) : hub.rd BOOT_NEXT.FORCE_COPY = 0 ∧ hub.copyStatus (img16 3) = St.OK ∧ hub.copyStatus (img16 4) = St.OK ∧
    imgGen (img16 3) < imgGen (img16 4) := by
  obtain ⟨t3, t4, g, c3, c4, l, f, -⟩ := img16_table
  have v3 : imgSvn (img16 3) = 0 := by decide +kernel
  have fl : hub.rd BOOT_SVN.FLOOR = 0 := by decide +kernel
  have v4 : imgSvn (img16 4) = 0 := by decide +kernel
  refine ⟨f, ?_, ?_, g⟩ <;> unfold State.copyStatus <;> simp [h, t3, t4, c3, c4, l, v3, v4, fl]
def loaded16 : State := { hub with nim := { hub.nim with loaded := true } }

theorem witness_Resets_nreset :
    (hub.chip.phase = Phase.running ∨ hub.chip.phase = Phase.powering ∨ hub.chip.phase = Phase.entering) := by
  decide +kernel

theorem witness_Resets_nresetDoze :
    ((off16 Phase.doze).chip.phase = Phase.reset ∨
  (off16 Phase.doze).chip.phase = Phase.doze ∨ (off16 Phase.doze).chip.phase = Phase.ship) := by
  decide +kernel

theorem witness_Resets_watchdog :
    loaded16.nim.loaded = true ∧
    loaded16.chip.phase = Phase.running := by
  decide +kernel

theorem witness_Resets_lapse :
    loaded16.nim.loaded = true ∧
    loaded16.chip.phase = Phase.running := by
  decide +kernel

theorem witness_Resets_noWatchdog :
    (hub.nim.loaded = false ∨ hub.chip.phase ≠ Phase.running) := by
  decide +kernel

theorem witness_Resets_release :
    (off16 Phase.reset).chip.phase = Phase.reset := by
  decide +kernel

theorem witness_Resets_noRelease :
    hub.chip.phase ≠ Phase.reset := by
  decide +kernel

theorem witness_StartUp_notPowering :
    hub.chip.phase ≠ Phase.powering := by
  decide +kernel

theorem witness_StartUp_test :
    (start16 1 0 true).chip.phase = Phase.powering ∧
    (start16 1 0 true).chip.test = true := by
  decide +kernel

theorem witness_StartUp_ended :
    (start16 4 0).chip.phase = Phase.powering ∧
    (start16 4 0).chip.test = false ∧
    ((((start16 4 0).calm.fabricOut 0 true true).startMarch []).wr BOOT_STATUS.STEP 5).marchFatal = false ∧
    (start16 4 0).lc = 4 := by
  decide +kernel

theorem witness_StartUp_fromFlash :
    (start16 1 0).chip.phase = Phase.powering ∧
    (start16 1 0).chip.test = false ∧
    ((((start16 1 0).calm.fabricOut 0 true true).startMarch []).wr BOOT_STATUS.STEP 5).marchFatal = false ∧
    (start16 1 0).lc ≠ 4 ∧
    ((((start16 1 0).calm.fabricOut 0 true true).startMarch []).wr BOOT_STATUS.STEP 5).rd BOOT_STATUS.SRC ≤ 1 := by
  decide +kernel

theorem witness_StartUp_fromPush :
    (start16 1 2).chip.phase = Phase.powering ∧
    (start16 1 2).chip.test = false ∧
    ((((start16 1 2).calm.fabricOut 2 true true).startMarch []).wr BOOT_STATUS.STEP 5).marchFatal = false ∧
    (start16 1 2).lc ≠ 4 ∧
    ((((start16 1 2).calm.fabricOut 2 true true).startMarch []).wr BOOT_STATUS.STEP 5).rd BOOT_STATUS.SRC = 2 := by
  decide +kernel

theorem witness_StartUp_noIdentity :
    (start16 1 3).chip.phase = Phase.powering ∧
    (start16 1 3).chip.test = false ∧
    ((((start16 1 3).calm.fabricOut 3 true true).startMarch []).wr BOOT_STATUS.STEP 5).marchFatal = false ∧
    (start16 1 3).lc ≠ 4 ∧
    ((((start16 1 3).calm.fabricOut 3 true true).startMarch []).wr BOOT_STATUS.STEP 5).rd BOOT_STATUS.SRC = 3 ∧
    (start16 1 3).chip.bids = [] := by
  decide +kernel

theorem witness_StartUp_fromNet :
    (start16 1 3 false [bid16]).chip.phase = Phase.powering ∧
    (start16 1 3 false [bid16]).chip.test = false ∧
    ((((start16 1 3 false [bid16]).calm.fabricOut 3 true true).startMarch []).wr BOOT_STATUS.STEP 5).marchFatal = false ∧
    (start16 1 3 false [bid16]).lc ≠ 4 ∧
    ((((start16 1 3 false [bid16]).calm.fabricOut 3 true true).startMarch []).wr BOOT_STATUS.STEP 5).rd BOOT_STATUS.SRC = 3 ∧
    (start16 1 3 false [bid16]).chip.bids.getLast? = some bid16 := by
  decide +kernel

theorem witness_StartUp_noCopy :
    hub.rd BOOT_NEXT.FORCE_COPY = 0 ∧
    hub.copyStatus [1] ≠ St.OK ∧
    hub.copyStatus [] ≠ St.OK := by
  decide +kernel

theorem witness_StartUp_magic :
    hub.lc ≠ 4 ∧
    leAt [1] 0 4 ≠ 1515473201 := by
  decide +kernel

theorem witness_StartUp_strayBlock :
    hub.netWaits 3 = false := by
  decide +kernel

theorem witness_StartUp_blockFail :
    net16.netWaits 3 = true ∧
    5 ≠ St.OK ∧
    (5 ≠ St.RANGE ∨ net16.netBlocks ≠ none ∨ 3 = 0) := by
  decide +kernel

theorem witness_StartUp_otherGen :
    (net16 7).netWaits 3 = true ∧
    0 = St.OK ∧
    8 < (List.replicate 20 1).length ∧
    (net16 7).chip.netGen ≠ 0 ∧
    (net16 7).chip.netGen ≠ leAt (List.replicate 20 1) 0 8 := by
  decide +kernel

theorem witness_StartUp_block :
    net16.netWaits 3 = true ∧
    0 = St.OK ∧
    8 < (List.replicate 20 1).length ∧
    (net16.chip.netGen = 0 ∨ net16.chip.netGen = leAt (List.replicate 20 1) 0 8) ∧
    (net16.calm.modChip fun (c : Chip) =>
      { phase := c.phase, cause := c.cause, test := c.test, vbatLost := c.vbatLost, target := c.target,
        dozeMask := c.dozeMask, alarm := c.alarm, wakes := c.wakes, ulp := c.ulp, held := c.held,
        avsFixed := c.avsFixed, image := c.image, pinmux := c.pinmux, push := c.push, pushFull := c.pushFull,
        bids := c.bids, bootId := c.bootId, net := c.net.set [] 3 (List.drop 8 (List.replicate 20 1)),
        netGen := leAt (List.replicate 20 1) 0 8, netTry := c.netTry, netNext := c.netNext, netRun := c.netRun,
        irq := c.irq, owed := c.owed, march := c.march, marchStop := c.marchStop, jtag := c.jtag, reports := c.reports :
        Chip }).netBlocks =
  none := by
  decide +kernel

theorem witness_StartUp_noTimeout :
    hub.netWaits 3 = false := by
  decide +kernel

theorem witness_StartUp_again :
    net16.netWaits 3 = true ∧
    net16.chip.netTry.get 0 3 < 5 := by
  decide +kernel

theorem witness_StartUp_gaveUp :
    net16.netWaits 4 = true ∧
    5 ≤ net16.chip.netTry.get 0 4 := by
  decide +kernel

theorem witness_StartUp_noRetry :
    (hub.chip.netRun = true ∨ hub.on BOOT_STATUS.LOCK = true ∨ hub.chip.bids = []) := by
  decide +kernel

theorem witness_StartUp_retry :
    retry16.chip.netRun = false ∧
    retry16.chip.phase = Phase.running ∧
    retry16.on BOOT_STATUS.LOCK = false ∧
    retry16.rd BOOT_STATUS.STEP ≠ 11 ∧
    retry16.rd BOOT_STATUS.MODE = 2 ∧
    retry16.chip.bids ≠ [] ∧
    retry16.chip.bootId = true ∧
    retry16.uplinkUp = true := by
  decide +kernel

theorem witness_StartUp_noLock :
    (hub.chip.phase ≠ Phase.running ∨ hub.rd BOOT_STATUS.STEP ≠ 11 ∨ hub.rd BOOT_STATUS.MODE = 1) := by
  decide +kernel

theorem witness_StartUp_lock :
    (step16 0).chip.phase = Phase.running ∧
    (step16 0).rd BOOT_STATUS.STEP = 11 ∧
    ((step16 0).rd BOOT_STATUS.MODE = 0 ∨ (step16 0).rd BOOT_STATUS.MODE = 2) := by
  decide +kernel

theorem witness_BootCommands_unarmed :
    (boot16 1).serves Reg.BOOT_CMD.base true ∧
    (boot16 1).on BOOT_STATUS.ARM = false := by
  unfold State.serves; decide +kernel

theorem witness_BootCommands_unarmedReset :
    (boot16 1).serves Reg.BOOT_CMD.base true ∧
    (boot16 1).on BOOT_STATUS.ARM = false := by
  unfold State.serves; decide +kernel

theorem witness_BootCommands_unarmedSvn :
    (boot16 1).serves Reg.BOOT_CMD.base true ∧
    (boot16 1).on BOOT_STATUS.ARM = false := by
  unfold State.serves; decide +kernel

theorem witness_BootCommands_unarmedBid :
    (boot16 1).serves Reg.BOOT_CMD.base true ∧
    (boot16 1).on BOOT_STATUS.ARM = false ∧
    ((boot16 1).lc = 1 ∨ (boot16 1).lc = 2) := by
  unfold State.serves; decide +kernel

theorem witness_BootCommands_unarmedTest :
    (boot16 1).serves Reg.BOOT_CMD.base true ∧
    (boot16 1).on BOOT_STATUS.ARM = false ∧
    ((boot16 1).lc = 1 ∨ (boot16 1).lc = 3) := by
  unfold State.serves; decide +kernel

theorem witness_BootCommands_confirm :
    (arm16.wr BOOT_STATUS.TRIAL 1).serves Reg.BOOT_CMD.base true ∧
    (arm16.wr BOOT_STATUS.TRIAL 1).on BOOT_STATUS.ARM = true ∧
    (arm16.wr BOOT_STATUS.TRIAL 1).on BOOT_STATUS.TRIAL = true := by
  unfold State.serves; decide +kernel

theorem witness_BootCommands_confirmNone :
    arm16.serves Reg.BOOT_CMD.base true ∧
    arm16.on BOOT_STATUS.ARM = true ∧
    arm16.on BOOT_STATUS.TRIAL = false := by
  unfold State.serves; decide +kernel

theorem witness_BootCommands_resetCmd :
    arm16.serves Reg.BOOT_CMD.base true ∧
    arm16.on BOOT_STATUS.ARM = true := by
  unfold State.serves; decide +kernel

theorem witness_BootCommands_svnRaise :
    (arm16.wr BOOT_SVN.RUN_SVN 3).serves Reg.BOOT_CMD.base true ∧
    (arm16.wr BOOT_SVN.RUN_SVN 3).on BOOT_STATUS.ARM = true := by
  unfold State.serves; decide +kernel

theorem witness_BootCommands_testCmd :
    arm16.serves Reg.BOOT_CMD.base true ∧
    arm16.on BOOT_STATUS.ARM = true ∧
    (arm16.lc = 1 ∨ arm16.lc = 3) := by
  unfold State.serves; decide +kernel

theorem witness_BootCommands_bidBad :
    arm16.serves Reg.BOOT_CMD.base true ∧
    arm16.on BOOT_STATUS.ARM = true ∧
    (arm16.lc = 1 ∨ arm16.lc = 2) ∧
    bidBad arm16.bidBuf = true := by
  unfold State.serves; decide +kernel

theorem witness_BootCommands_bidFull :
    (bidBuf16 4).serves Reg.BOOT_CMD.base true ∧
    (bidBuf16 4).on BOOT_STATUS.ARM = true ∧
    ((bidBuf16 4).lc = 1 ∨ (bidBuf16 4).lc = 2) ∧
    bidBad (bidBuf16 4).bidBuf = false ∧
    4 ≤ (bidBuf16 4).rd BOOT_BIDSTAT.USED := by
  unfold State.serves; decide +kernel

theorem witness_BootCommands_bidWrite :
    (bidBuf16 3).serves Reg.BOOT_CMD.base true ∧
    (bidBuf16 3).on BOOT_STATUS.ARM = true ∧
    ((bidBuf16 3).lc = 1 ∨ (bidBuf16 3).lc = 2) ∧
    bidBad (bidBuf16 3).bidBuf = false ∧
    (bidBuf16 3).rd BOOT_BIDSTAT.USED < 4 := by
  unfold State.serves; decide +kernel

theorem witness_BootCommands_bidLc :
    (arm16 (boot16 3)).serves Reg.BOOT_CMD.base true ∧
    (arm16 (boot16 3)).lc ≠ 1 ∧
    (arm16 (boot16 3)).lc ≠ 2 := by
  unfold State.serves; decide +kernel

theorem witness_BootCommands_testLc :
    (arm16 (boot16 2)).serves Reg.BOOT_CMD.base true ∧
    (arm16 (boot16 2)).lc ≠ 1 ∧
    (arm16 (boot16 2)).lc ≠ 3 := by
  unfold State.serves; decide +kernel

theorem witness_BootCommands_loadEnd :
    (push16 4).serves Reg.BOOT_CMD.base true ∧
    (push16 4).lc = 4 := by
  unfold State.serves; decide +kernel

theorem witness_BootCommands_loadNot :
    (boot16 2).serves Reg.BOOT_CMD.base true ∧
    (boot16 2).lc ≠ 4 ∧
    (boot16 2).on BOOT_STATUS.PUSHWAIT = false := by
  unfold State.serves; decide +kernel

theorem witness_BootCommands_load :
    push16.serves Reg.BOOT_CMD.base true ∧
    push16.lc ≠ 4 ∧
    push16.on BOOT_STATUS.PUSHWAIT = true := by
  unfold State.serves; decide +kernel

theorem witness_BootCommands_pushNot :
    hub.serves Reg.BOOT_PUSHDATA.base true ∧
    hub.on BOOT_STATUS.PUSHWAIT = false := by
  unfold State.serves; decide +kernel

theorem witness_BootCommands_pushFull :
    (push16.modChip fun (c : Chip) =>
      { phase := c.phase, cause := c.cause, test := c.test, vbatLost := c.vbatLost, target := c.target,
        dozeMask := c.dozeMask, alarm := c.alarm, wakes := c.wakes, ulp := c.ulp, held := c.held,
        avsFixed := c.avsFixed, image := c.image, pinmux := c.pinmux, push := c.push, pushFull := true, bids := c.bids,
        bootId := c.bootId, net := c.net, netGen := c.netGen, netTry := c.netTry, netNext := c.netNext,
        netRun := c.netRun, irq := c.irq, owed := c.owed, march := c.march, marchStop := c.marchStop, jtag := c.jtag,
        reports := c.reports : Chip }).serves
  Reg.BOOT_PUSHDATA.base true ∧
    (push16.modChip fun (c : Chip) =>
        { phase := c.phase, cause := c.cause, test := c.test, vbatLost := c.vbatLost, target := c.target,
          dozeMask := c.dozeMask, alarm := c.alarm, wakes := c.wakes, ulp := c.ulp, held := c.held,
          avsFixed := c.avsFixed, image := c.image, pinmux := c.pinmux, push := c.push, pushFull := true,
          bids := c.bids, bootId := c.bootId, net := c.net, netGen := c.netGen, netTry := c.netTry,
          netNext := c.netNext, netRun := c.netRun, irq := c.irq, owed := c.owed, march := c.march,
          marchStop := c.marchStop, jtag := c.jtag, reports := c.reports : Chip }).on
    BOOT_STATUS.PUSHWAIT =
  true ∧
    (push16.modChip fun (c : Chip) =>
        { phase := c.phase, cause := c.cause, test := c.test, vbatLost := c.vbatLost, target := c.target,
          dozeMask := c.dozeMask, alarm := c.alarm, wakes := c.wakes, ulp := c.ulp, held := c.held,
          avsFixed := c.avsFixed, image := c.image, pinmux := c.pinmux, push := c.push, pushFull := true,
          bids := c.bids, bootId := c.bootId, net := c.net, netGen := c.netGen, netTry := c.netTry,
          netNext := c.netNext, netRun := c.netRun, irq := c.irq, owed := c.owed, march := c.march,
          marchStop := c.marchStop, jtag := c.jtag, reports := c.reports : Chip }).chip.pushFull =
  true := by
  unfold State.serves; decide +kernel

theorem witness_BootCommands_push :
    push16.serves Reg.BOOT_PUSHDATA.base true ∧
    push16.on BOOT_STATUS.PUSHWAIT = true ∧
    push16.chip.pushFull = false := by
  unfold State.serves; decide +kernel

def ev17 (id sev seq : Nat) (c : Bool) : EvMsg := ⟨seq, id, sev, 7, 9, c⟩
def evs17 (l : List EvMsg) (s : State := hub) : State := { s with evq := l, evSeq := 9 }
def full17 (sev : Nat) : State := evs17 ((List.range 63).map (fun i => ev17 0x140 sev i true) ++ [ev17 0x145 sev 63 true])
def root17 (s : State := hub) : State := s.wr GLB_HUB.ROOT 1
def core17 (n : Nat := 0) (s : State := hub) : State := { (s.wr NIM_CSTAT.RUNNING 1 n) with nim := { s.nim with loaded := true } }
def plug17 (s : State := core17 2) : State := (((s.wr NIM_PSTAT.SERVICE 20 3).wr NIM_PSTAT.CORE 2 3).wr NIM_POVR.OVR_LIM 1 3)
def mbytes17 (op dst : Nat) (body : List Byte) (len : Nat := body.length) : List Byte := le 1 op ++ [0] ++ le 1 dst ++ [5] ++ le 2 77 ++ [0, 0] ++ le 4 0x20000 ++ le 2 len ++ [0, 0] ++ body
def relay17 (b : List Byte) (s : State := hub) : State := s.modTun (fun t => { t with cirrusIn := [⟨0, 0, 2, 0, 0, false, b⟩] })
def up17 : State := (linked 2 6 hub).wr PLN_LSTAT.UPSTREAM 1 2
def spi17 (busy : Bool) (r : Option (List Byte)) : State := { hub with spi := ⟨busy, r, true⟩ }
def key17 : State := ((core17.wr SEC_SLOT.STATE 1 1).wr SEC_SLOT.KTYPE 2 1).modSec (fun c => { c with keys := NMap.set [] [] 1 [1, 2, 3], chal := NMap.set [] [] 0 (List.replicate 16 4) })
def mac17 (op : Byte) : List Byte := hmac384 [1, 2, 3] ([0, 0, op] ++ List.replicate 16 4)
def words17 : List Word := [2, 3]

theorem witness_EventUnit_repeats :
    (hub.wr EVU_SRC.STATUS 1 325).on EVU_SRC.STATUS 325 = true := by
  decide +kernel

theorem witness_EventUnit_raised :
    hub.on EVU_SRC.STATUS 325 = false := by
  decide +kernel

theorem witness_EventUnit_disabled :
    (hub.wr EVU_SRC.EN 0 325).on EVU_SRC.STATUS 325 = false ∧
    (hub.wr EVU_SRC.EN 0 325).on EVU_SRC.EN 325 = false := by
  decide +kernel

theorem witness_EventUnit_queued :
    (evs17 [ev17 1 2 3 true]).on EVU_SRC.STATUS 325 = false ∧
    (evs17 [ev17 1 2 3 true]).on EVU_SRC.EN 325 = true ∧
    (evs17 [ev17 1 2 3 true]).evq.length < 64 := by
  decide +kernel

theorem witness_EventUnit_lost :
    (full17 1).on EVU_SRC.STATUS 325 = false ∧
    (full17 1).on EVU_SRC.EN 325 = true ∧
    64 ≤ (full17 1).evq.length := by
  decide +kernel

theorem witness_EventUnit_lostSame :
    (full17 1).on EVU_SRC.STATUS 325 = false ∧
    (full17 1).on EVU_SRC.EN 325 = true ∧
    64 ≤ (full17 1).evq.length ∧
    (∀ (x : EvMsg),
  x ∈ (full17 1).evq →
    { seq := (full17 1).evSeq, id := 325, sev := (full17 1).rd EVU_SRC.SEV 325, time := (full17 1).now, cap := 5,
          complete := false : EvMsg }.sev ≤
      x.sev) := by
  decide +kernel

theorem witness_EventUnit_displaced :
    (full17 0).on EVU_SRC.STATUS 325 = false ∧
    (full17 0).on EVU_SRC.EN 325 = true ∧
    64 ≤ (full17 0).evq.length ∧
    (full17 0).evq = List.map (fun (i : Nat) => ev17 320 0 i true) (List.range 63) ++ [ev17 325 0 63 true] ∧
    (ev17 325 0 63 true).sev <
  { seq := (full17 0).evSeq, id := 325, sev := (full17 0).rd EVU_SRC.SEV 325, time := (full17 0).now, cap := 5,
      complete := false : EvMsg }.sev ∧
    (∀ (x : EvMsg), x ∈ List.map (fun (i : Nat) => ev17 320 0 i true) (List.range 63) → (ev17 325 0 63 true).sev ≤ x.sev) ∧
    (∀ (x : EvMsg), x ∈ [] → (ev17 325 0 63 true).sev < x.sev) := by
  decide +kernel

theorem witness_EventUnit_atRest :
    (∀ (m : EvMsg), m ∈ (evs17 [ev17 1 2 3 true]).evq → m.complete = true) := by
  decide +kernel

theorem witness_EventUnit_notice :
    takeFirst (fun (x : EvMsg) => !x.complete) (evs17 [ev17 1 2 3 true, ev17 2 1 4 false]).evq =
  some (ev17 2 1 4 false, [ev17 1 2 3 true]) ∧
    (evs17 [ev17 1 2 3 true, ev17 2 1 4 false]).rd BOOT_STATUS.MODE = 1 ∧
    (evs17 [ev17 1 2 3 true, ev17 2 1 4 false]).on EVU_CTRL.NOTIFY = true := by
  decide +kernel

theorem witness_EventUnit_noNotice :
    takeFirst (fun (x : EvMsg) => !x.complete) (evs17 [ev17 2 1 4 false] (hub.wr EVU_CTRL.NOTIFY 0)).evq =
  some (ev17 2 1 4 false, []) ∧
    ((evs17 [ev17 2 1 4 false] (hub.wr EVU_CTRL.NOTIFY 0)).rd BOOT_STATUS.MODE ≠ 1 ∨
  (evs17 [ev17 2 1 4 false] (hub.wr EVU_CTRL.NOTIFY 0)).on EVU_CTRL.NOTIFY = false) := by
  decide +kernel

theorem witness_EventUnit_best :
    bestEvent (evs17 [ev17 1 2 3 true, ev17 2 2 4 true]).evq = some (ev17 1 2 3 true) := by
  decide +kernel

theorem witness_EventUnit_bestOldest :
    bestEvent (evs17 [ev17 1 2 3 true, ev17 2 2 4 true]).evq = some (ev17 1 2 3 true) := by
  decide +kernel

theorem witness_EventUnit_popNone :
    (evs17 [ev17 1 2 3 true, ev17 2 1 4 false]).serves Reg.EVU_EVQPOP.base true ∧
    (∀ (m : EvMsg), m ∈ (evs17 [ev17 1 2 3 true, ev17 2 1 4 false]).evq → m.complete = true → m.seq ≠ EVU_EVQPOP.EVSEQ.of 4) := by
  unfold State.serves; decide +kernel

theorem witness_EventUnit_pop :
    (evs17 [ev17 1 2 3 true, ev17 2 1 4 false]).serves Reg.EVU_EVQPOP.base true ∧
    List.find? (fun (x : EvMsg) => x.complete && x.seq == EVU_EVQPOP.EVSEQ.of 3)
    (evs17 [ev17 1 2 3 true, ev17 2 1 4 false]).evq =
  some (ev17 1 2 3 true) ∧
    Reg.EVU_EVQPOP.reservedSet 3 = false ∧
    EVU_EVQPOP.CLR.of 3 = 0 := by
  unfold State.serves; decide +kernel

theorem witness_EventUnit_popClear :
    (evs17 [ev17 1 2 3 true, ev17 2 1 4 false] (hub.wr EVU_SRC.STATUS 1 1)).serves Reg.EVU_EVQPOP.base true ∧
    List.find? (fun (x : EvMsg) => x.complete && x.seq == EVU_EVQPOP.EVSEQ.of 2147483651)
    (evs17 [ev17 1 2 3 true, ev17 2 1 4 false] (hub.wr EVU_SRC.STATUS 1 1)).evq =
  some (ev17 1 2 3 true) ∧
    Reg.EVU_EVQPOP.reservedSet 2147483651 = false ∧
    EVU_EVQPOP.CLR.of 2147483651 = 1 := by
  unfold State.serves; decide +kernel

theorem witness_EventUnit_srcBad :
    hub.serves (Reg.EVU_SRC.addr 325 0) true ∧
    firstStatus (hub.writeChecks Reg.EVU_SRC 325 65536) ≠ St.OK := by
  unfold State.serves; decide +kernel

theorem witness_EventUnit_srcReserved :
    hub.serves (Reg.EVU_SRC.addr 335 0) true ∧
    firstStatus (hub.writeChecks Reg.EVU_SRC 335 0) = St.OK ∧
    Ev.severity? 335 = none := by
  unfold State.serves; decide +kernel

theorem witness_EventUnit_srcFatal :
    hub.serves (Reg.EVU_SRC.addr 22 0) true ∧
    firstStatus (hub.writeChecks Reg.EVU_SRC 22 1) = St.OK ∧
    Ev.severity? 22 = some 3 := by
  unfold State.serves; decide +kernel

theorem witness_EventUnit_src :
    (hub.wr EVU_SRC.STATUS 1 325).serves (Reg.EVU_SRC.addr 325 0) true ∧
    firstStatus ((hub.wr EVU_SRC.STATUS 1 325).writeChecks Reg.EVU_SRC 325 9) = St.OK ∧
    Ev.severity? 325 = some 1 ∧
    1 ≠ 3 := by
  unfold State.serves; decide +kernel

theorem witness_EventUnit_pulseNone :
    hub.chip.irq = false := by
  decide +kernel

theorem witness_EventUnit_pulseLast :
    (hub.modChip fun (c : Chip) =>
        { phase := c.phase, cause := c.cause, test := c.test, vbatLost := c.vbatLost, target := c.target,
          dozeMask := c.dozeMask, alarm := c.alarm, wakes := c.wakes, ulp := c.ulp, held := c.held,
          avsFixed := c.avsFixed, image := c.image, pinmux := c.pinmux, push := c.push, pushFull := c.pushFull,
          bids := c.bids, bootId := c.bootId, net := c.net, netGen := c.netGen, netTry := c.netTry,
          netNext := c.netNext, netRun := c.netRun, irq := true, owed := c.owed, march := c.march,
          marchStop := c.marchStop, jtag := c.jtag, reports := c.reports : Chip }).chip.irq =
  true ∧
    (hub.modChip fun (c : Chip) =>
        { phase := c.phase, cause := c.cause, test := c.test, vbatLost := c.vbatLost, target := c.target,
          dozeMask := c.dozeMask, alarm := c.alarm, wakes := c.wakes, ulp := c.ulp, held := c.held,
          avsFixed := c.avsFixed, image := c.image, pinmux := c.pinmux, push := c.push, pushFull := c.pushFull,
          bids := c.bids, bootId := c.bootId, net := c.net, netGen := c.netGen, netTry := c.netTry,
          netNext := c.netNext, netRun := c.netRun, irq := true, owed := c.owed, march := c.march,
          marchStop := c.marchStop, jtag := c.jtag, reports := c.reports : Chip }).chip.owed =
  0 := by
  decide +kernel

theorem witness_EventUnit_pulseOwed :
    (hub.modChip fun (c : Chip) =>
        { phase := c.phase, cause := c.cause, test := c.test, vbatLost := c.vbatLost, target := c.target,
          dozeMask := c.dozeMask, alarm := c.alarm, wakes := c.wakes, ulp := c.ulp, held := c.held,
          avsFixed := c.avsFixed, image := c.image, pinmux := c.pinmux, push := c.push, pushFull := c.pushFull,
          bids := c.bids, bootId := c.bootId, net := c.net, netGen := c.netGen, netTry := c.netTry,
          netNext := c.netNext, netRun := c.netRun, irq := true, owed := 2, march := c.march, marchStop := c.marchStop,
          jtag := c.jtag, reports := c.reports : Chip }).chip.irq =
  true ∧
    (hub.modChip fun (c : Chip) =>
        { phase := c.phase, cause := c.cause, test := c.test, vbatLost := c.vbatLost, target := c.target,
          dozeMask := c.dozeMask, alarm := c.alarm, wakes := c.wakes, ulp := c.ulp, held := c.held,
          avsFixed := c.avsFixed, image := c.image, pinmux := c.pinmux, push := c.push, pushFull := c.pushFull,
          bids := c.bids, bootId := c.bootId, net := c.net, netGen := c.netGen, netTry := c.netTry,
          netNext := c.netNext, netRun := c.netRun, irq := true, owed := 2, march := c.march, marchStop := c.marchStop,
          jtag := c.jtag, reports := c.reports : Chip }).chip.owed ≠
  0 := by
  decide +kernel

theorem witness_CirrusMessages_read :
    up17.listening = true ∧
    (up17.calm.readWord 0 131072).snd = some (0, (Option.getD (up17.calm.readWord 0 131072).snd (0, [])).snd) := by
  decide +kernel

theorem witness_CirrusMessages_writec :
    up17.listening = true ∧
    (up17.calm.writeWord 0 65536 2).snd = some (St.VALUE, []) := by
  decide +kernel

theorem witness_CirrusMessages_writep :
    up17.listening = true ∧
    (up17.calm.writeWord 0 65536 271581185).snd = some (St.OK, []) := by
  decide +kernel

theorem witness_CirrusMessages_writeFail :
    up17.listening = true ∧
    (up17.calm.writeWord 0 65536 2).snd = some (St.VALUE, []) ∧
    St.VALUE ≠ St.OK := by
  decide +kernel

theorem witness_CirrusMessages_block0 :
    up17.listening = true ∧
    (65 = 0 ∨ 64 < 65) ∧
    oneRange 65536 65 = true := by
  decide +kernel

theorem witness_CirrusMessages_blockRange :
    up17.listening = true ∧
    oneRange 131068 2 = false := by
  decide +kernel

theorem witness_CirrusMessages_block :
    up17.listening = true ∧
    1 ≤ 2 ∧
    2 ≤ 64 ∧
    oneRange 65536 2 = true ∧
    (up17.calm.block (List.map (fun (x : Nat) (s : State) => s.readWord 0 x) (blockAddrs 65536 2))).snd =
  some
    (0,
      (Option.getD (up17.calm.block (List.map (fun (x : Nat) (s : State) => s.readWord 0 x) (blockAddrs 65536 2))).snd
          (0, [])).snd) := by
  decide +kernel

theorem witness_CirrusMessages_wblock0 :
    up17.listening = true := by
  decide +kernel

theorem witness_CirrusMessages_wblock :
    up17.listening = true ∧
    1 ≤ words17.length ∧
    words17.length ≤ 64 ∧
    oneRange 69632 words17.length = true ∧
    (up17.calm.block
      (List.map (fun (i : Nat) (s : State) => s.writeWord 0 (69632 + 4 * i) (BitVec.toNat (words17.getD i 0)))
        (List.range words17.length))).snd =
  some (0, []) := by
  decide +kernel

theorem witness_CirrusMessages_event :
    up17.listening = true ∧
    [1, 2, 3].length ≤ 8192 := by
  decide +kernel

theorem witness_CirrusMessages_err :
    up17.listening = true ∧
    (peWords 3 1 2 256 4 9).length ≤ 8192 := by
  decide +kernel

theorem witness_CirrusMessages_relayBad :
    (relay17 (mbytes17 1 0 [] 4) up17).tun.cirrusIn =
  [{ ep := 0, tix := 0, port := 2, sub := 0, kind := 0, bad := false, bytes := mbytes17 1 0 [] 4 : TunUnit }] ∧
    { ep := 0, tix := 0, port := 2, sub := 0, kind := 0, bad := false, bytes := mbytes17 1 0 [] 4 : TunUnit }.bytes =
  mbytes17 1 0 [] 4 ∧
    malformed (mbytes17 1 0 [] 4) = true ∧
    (Msg.ofBytes (mbytes17 1 0 [] 4)).asks = true := by
  decide +kernel

theorem witness_CirrusMessages_relayBadPosted :
    (relay17 (mbytes17 2 0 [] 4) up17).tun.cirrusIn =
  [{ ep := 0, tix := 0, port := 2, sub := 0, kind := 0, bad := false, bytes := mbytes17 2 0 [] 4 : TunUnit }] ∧
    { ep := 0, tix := 0, port := 2, sub := 0, kind := 0, bad := false, bytes := mbytes17 2 0 [] 4 : TunUnit }.bytes =
  mbytes17 2 0 [] 4 ∧
    malformed (mbytes17 2 0 [] 4) = true ∧
    (Msg.ofBytes (mbytes17 2 0 [] 4)).asks = false := by
  decide +kernel

theorem witness_CirrusMessages_relayHere :
    (relay17 (mbytes17 1 0 []) up17).tun.cirrusIn =
  [{ ep := 0, tix := 0, port := 2, sub := 0, kind := 0, bad := false, bytes := mbytes17 1 0 [] : TunUnit }] ∧
    { ep := 0, tix := 0, port := 2, sub := 0, kind := 0, bad := false, bytes := mbytes17 1 0 [] : TunUnit }.bytes =
  mbytes17 1 0 [] ∧
    malformed (mbytes17 1 0 []) = false ∧
    (Msg.ofBytes (mbytes17 1 0 [])).dst = (relay17 (mbytes17 1 0 []) up17).hub := by
  decide +kernel

theorem witness_CirrusMessages_relayOn :
    (relay17 (mbytes17 1 9 []) up17).tun.cirrusIn =
  [{ ep := 0, tix := 0, port := 2, sub := 0, kind := 0, bad := false, bytes := mbytes17 1 9 [] : TunUnit }] ∧
    { ep := 0, tix := 0, port := 2, sub := 0, kind := 0, bad := false, bytes := mbytes17 1 9 [] : TunUnit }.bytes =
  mbytes17 1 9 [] ∧
    malformed (mbytes17 1 9 []) = false ∧
    (Msg.ofBytes (mbytes17 1 9 [])).dst ≠ (relay17 (mbytes17 1 9 []) up17).hub ∧
    (relay17 (mbytes17 1 9 []) up17).cirrusReaches (Msg.ofBytes (mbytes17 1 9 [])).dst = true := by
  decide +kernel

theorem witness_CirrusMessages_relayNot :
    (relay17 (mbytes17 1 9 [])).tun.cirrusIn =
  [{ ep := 0, tix := 0, port := 2, sub := 0, kind := 0, bad := false, bytes := mbytes17 1 9 [] : TunUnit }] ∧
    { ep := 0, tix := 0, port := 2, sub := 0, kind := 0, bad := false, bytes := mbytes17 1 9 [] : TunUnit }.bytes =
  mbytes17 1 9 [] ∧
    malformed (mbytes17 1 9 []) = false ∧
    (Msg.ofBytes (mbytes17 1 9 [])).dst ≠ (relay17 (mbytes17 1 9 [])).hub ∧
    (relay17 (mbytes17 1 9 [])).cirrusReaches (Msg.ofBytes (mbytes17 1 9 [])).dst = false ∧
    (Msg.ofBytes (mbytes17 1 9 [])).asks = true := by
  decide +kernel

theorem witness_CirrusMessages_relayNone :
    hub.tun.cirrusIn = [] := by
  decide +kernel

theorem witness_CirrusMessages_deaf :
    (off16 Phase.doze).listening = false := by
  decide +kernel

theorem witness_SpiTarget_spiRead32 :
    hub.listening = true ∧
    hub.spi.busy = false ∧
    ((have __src := hub.calm;
        { pending := __src.pending, out := __src.out, fresh := __src.fresh, regs := __src.regs, link := __src.link,
          planStore := __src.planStore, routes := __src.routes, lossMark := __src.lossMark, horizon := __src.horizon,
          points := __src.points, pointGen := __src.pointGen, tun := __src.tun, sw := __src.sw, tm := __src.tm,
          fld := __src.fld, eth := __src.eth, pcb := __src.pcb, dp := __src.dp, usb := __src.usb, tc := __src.tc,
          pw := __src.pw, chip := __src.chip, nim := __src.nim,
          spi :=
            have __src := hub.spi;
            { busy := true, resp := __src.resp, discard := __src.discard : Spi },
          sec := __src.sec, treeTime := __src.treeTime, sfStarted := __src.sfStarted, groupKnown := __src.groupKnown,
          zoneEffect := __src.zoneEffect, evq := __src.evq, evSeq := __src.evSeq, limited := __src.limited,
          news := __src.news, certList := __src.certList : State }).readWord
      0 131072).snd =
  some
    (0,
      (Option.getD
          ((let __src := hub.calm;
                { pending := __src.pending, out := __src.out, fresh := __src.fresh, regs := __src.regs,
                  link := __src.link, planStore := __src.planStore, routes := __src.routes, lossMark := __src.lossMark,
                  horizon := __src.horizon, points := __src.points, pointGen := __src.pointGen, tun := __src.tun,
                  sw := __src.sw, tm := __src.tm, fld := __src.fld, eth := __src.eth, pcb := __src.pcb, dp := __src.dp,
                  usb := __src.usb, tc := __src.tc, pw := __src.pw, chip := __src.chip, nim := __src.nim,
                  spi :=
                    let __src := hub.spi;
                    { busy := true, resp := __src.resp, discard := __src.discard : Spi },
                  sec := __src.sec, treeTime := __src.treeTime, sfStarted := __src.sfStarted,
                  groupKnown := __src.groupKnown, zoneEffect := __src.zoneEffect, evq := __src.evq,
                  evSeq := __src.evSeq, limited := __src.limited, news := __src.news, certList := __src.certList :
                  State }).readWord
              0 131072).snd
          (0, [])).snd) ∧
    ((have __src := hub.calm;
            { pending := __src.pending, out := __src.out, fresh := __src.fresh, regs := __src.regs, link := __src.link,
              planStore := __src.planStore, routes := __src.routes, lossMark := __src.lossMark,
              horizon := __src.horizon, points := __src.points, pointGen := __src.pointGen, tun := __src.tun,
              sw := __src.sw, tm := __src.tm, fld := __src.fld, eth := __src.eth, pcb := __src.pcb, dp := __src.dp,
              usb := __src.usb, tc := __src.tc, pw := __src.pw, chip := __src.chip, nim := __src.nim,
              spi :=
                have __src := hub.spi;
                { busy := true, resp := __src.resp, discard := __src.discard : Spi },
              sec := __src.sec, treeTime := __src.treeTime, sfStarted := __src.sfStarted,
              groupKnown := __src.groupKnown, zoneEffect := __src.zoneEffect, evq := __src.evq, evSeq := __src.evSeq,
              limited := __src.limited, news := __src.news, certList := __src.certList : State }).readWord
          0 131072).fst.chip.phase ≠
  Phase.reset := by
  decide +kernel

theorem witness_SpiTarget_spiBusy :
    (spi17 true none).listening = true ∧
    (spi17 true none).spi.busy = true := by
  decide +kernel

theorem witness_SpiTarget_spiShort :
    (spi17 false none).listening = true ∧
    (spi17 false none).spi.busy = false ∧
    (mbytes17 1 0 [] 4).length < 16 + leAt (mbytes17 1 0 [] 4) 12 2 ∧
    (Msg.ofBytes (mbytes17 1 0 [] 4)).asks = true := by
  decide +kernel

theorem witness_SpiTarget_spiOther :
    (spi17 false none).listening = true ∧
    (spi17 false none).spi.busy = false ∧
    (mbytes17 1 9 []).length = 16 + leAt (mbytes17 1 9 []) 12 2 ∧
    malformed (mbytes17 1 9 []) = false ∧
    (Msg.ofBytes (mbytes17 1 9 [])).dst ≠ (spi17 false none).hub ∧
    (Msg.ofBytes (mbytes17 1 9 [])).asks = true := by
  decide +kernel

theorem witness_SpiTarget_spiHere :
    (spi17 false none).listening = true ∧
    (spi17 false none).spi.busy = false ∧
    (mbytes17 1 0 []).length = 16 + leAt (mbytes17 1 0 []) 12 2 ∧
    malformed (mbytes17 1 0 []) = false ∧
    (Msg.ofBytes (mbytes17 1 0 [])).dst = (spi17 false none).hub := by
  decide +kernel

theorem witness_SpiTarget_spiRsp :
    (spi17 true (some [4, 5])).listening = true ∧
    (spi17 true (some [4, 5])).spi.resp = some [4, 5] := by
  decide +kernel

theorem witness_SpiTarget_spiNoRsp :
    (spi17 true none).listening = true ∧
    (spi17 true none).spi.resp = none := by
  decide +kernel

theorem witness_SpiTarget_spiStatus :
    (spi17 true (some [4, 5])).listening = true := by
  decide +kernel

theorem witness_SpiTarget_spiOff :
    (off16 Phase.doze).listening = false := by
  decide +kernel

theorem witness_ServicesAndCores_challenge :
    (core17 0 (up17.wr SEC_STATUS.DRBG_OK 1)).listening = true ∧
    (core17 0 (up17.wr SEC_STATUS.DRBG_OK 1)).coreRuns 0 = true ∧
    (core17 0 (up17.wr SEC_STATUS.DRBG_OK 1)).on SEC_STATUS.DRBG_OK = true := by
  decide +kernel

theorem witness_ServicesAndCores_noDrbg :
    (core17 0 up17).listening = true ∧
    (core17 0 up17).coreRuns 0 = true ∧
    (core17 0 up17).on SEC_STATUS.DRBG_OK = false := by
  decide +kernel

theorem witness_ServicesAndCores_busyStart :
    (up17.wr BOOT_STATUS.MODE 0).listening = true ∧
    (up17.wr BOOT_STATUS.MODE 0).coreRuns 0 = false ∧
    (up17.wr BOOT_STATUS.MODE 0).rd BOOT_STATUS.MODE = 0 := by
  decide +kernel

theorem witness_ServicesAndCores_noCore :
    up17.listening = true ∧
    up17.coreRuns 0 = false ∧
    up17.rd BOOT_STATUS.MODE ≠ 0 := by
  decide +kernel

theorem witness_ServicesAndCores_noAuth :
    (core17 0 up17).listening = true ∧
    (core17 0 up17).coreRuns 0 = true := by
  decide +kernel

theorem witness_ServicesAndCores_authentic :
    key17.listening = true ∧
    (List.replicate 16 4).length = 16 ∧
    (mac17 2).length = 48 ∧
    key17.coreRuns 0 = true ∧
    key17.cmdAuthentic 0
    ((fun (auth : Bool) (b : List Byte) =>
        { op := opCmd, rsp := false, auth := auth, dst := key17.hub, src := 5, tag := 77, status := 0, addr := 0,
          body := b : Msg })
      true ([0, 2, 0, 0] ++ List.replicate 16 4 ++ mac17 2)) =
  true := by
  decide +kernel

theorem witness_ServicesAndCores_authenticBoot :
    key17.listening = true ∧
    (List.replicate 16 4).length = 16 ∧
    (mac17 3).length = 48 ∧
    key17.coreRuns 0 = true ∧
    key17.cmdAuthentic 0
    ((fun (auth : Bool) (b : List Byte) =>
        { op := opCmd, rsp := false, auth := auth, dst := key17.hub, src := 5, tag := 77, status := 0, addr := 0,
          body := b : Msg })
      true ([0, 3, 0, 0] ++ List.replicate 16 4 ++ mac17 3)) =
  true := by
  decide +kernel

theorem witness_ServicesAndCores_unknown :
    (core17 0 up17).listening = true ∧
    (core17 0 up17).coreRuns 0 = true ∧
    (core17 0 up17).plugin 5 = none := by
  decide +kernel

theorem witness_ServicesAndCores_plugged :
    plug17.listening = true ∧
    plug17.plugin 20 = some 3 ∧
    plug17.pluginRuns 3 = true := by
  decide +kernel

theorem witness_ServicesAndCores_reportNode :
    (hub.isRoot = false ∨ 5 = 0 ∨ hub.reportOld 5 9 = true) := by
  decide +kernel

theorem witness_ServicesAndCores_report :
    ((root17.wr PLN_PSRC.VALID 1 6).wr PLN_PSRC.HUB 5 6).isRoot = true ∧
    5 ≠ 0 ∧
    ((root17.wr PLN_PSRC.VALID 1 6).wr PLN_PSRC.HUB 5 6).reportOld 5 9 = false := by
  decide +kernel

theorem witness_ServicesAndCores_lossNone :
    root17.isRoot = true ∧
    5 ≠ 0 ∧
    root17.reportOld 5 9 = false ∧
    0 = 0 := by
  decide +kernel

theorem witness_ServicesAndCores_loss :
    root17.isRoot = true ∧
    5 ≠ 0 ∧
    root17.reportOld 5 9 = false ∧
    16 = 2 ^ 4 := by
  decide +kernel

theorem witness_ServicesAndCores_unloaded :
    hub.nim.loaded = false := by
  decide +kernel

theorem witness_ServicesAndCores_period :
    plug17.nim.loaded = true := by
  decide +kernel

theorem witness_ServicesAndCores_periodQuiet :
    plug17.nim.loaded = true := by
  decide +kernel

theorem witness_ServicesAndCores_trapNot :
    hub.on NIM_CSTAT.RUNNING 2 = false := by
  decide +kernel

theorem witness_ServicesAndCores_trap :
    plug17.on NIM_CSTAT.RUNNING 2 = true := by
  decide +kernel

theorem witness_ServicesAndCores_trapPlug :
    plug17.on NIM_CSTAT.RUNNING 2 = true ∧
    plug17.rd NIM_PSTAT.SERVICE 3 ≠ 0 ∧
    plug17.on NIM_PSTAT.STOPPED 3 = false ∧
    plug17.rd NIM_PSTAT.CORE 3 = 2 := by
  decide +kernel

theorem witness_ServicesAndCores_halt0 :
    plug17.serves (Reg.NIM_CCTRL.addr 1 0) true ∧
    1 < 2 ∧
    1 < 2 ∧
    1 = 1 := by
  unfold State.serves; decide +kernel

theorem witness_ServicesAndCores_halt2 :
    plug17.serves (Reg.NIM_CCTRL.addr 2 0) true ∧
    1 < 2 ∧
    2 ≤ 2 := by
  unfold State.serves; decide +kernel

def sec18 (lc : Nat) (s : State := hub) : State := s.wr SEC_STATUS.LC lc
def upd18 (op : Nat) (holds : Bool := false) : State :=
  ((hub.wr SEC_STATUS.JBUSY 1).wr SEC_JSTAT.J0_VALID (if holds then 1 else 0)).modSec (fun c => { c with
    update := some ⟨op, [], [5], ⟨2, 8, []⟩⟩, journal := if holds then NMap.set [] JSector.erased 0 (.holds ⟨2, 7, []⟩) else [] })
/-- A hub that holds a token of op `op` with a body of `len` bytes, whose words from word 9 on are `w`; the chip has number 5 and every
signature verifies where that is assumed. -/
def tok18 (lc op len : Nat) (w : List (Nat × Nat)) (s : State := hub) : State :=
  ((sec18 lc s).wr SEC_TOKLEN.LEN (36 + len)).modSec (fun c => { c with nonce := true, token := [(0, 0x5A544B31), (1, op), (2, 5), (8, len)] ++ w })
def ready18 : State := ((hub.wr SEC_STATUS.ID_OK 1).wr SEC_STATUS.CERT_OK 1).wr SEC_STATUS.DRBG_OK 1
/-- A journal that holds slot 5. -/
def kept18 : State := (hub.wr SEC_JSTAT.J0_VALID 1).modSec (fun c => { c with
  journal := [(0, .holds ⟨0, 1, [{ slot := 5, ktype := 2, limit := 0, persist := true, dawnBound := false, overlay := false, count := 0, kcv := 0, value := [] }]⟩)] })
theorem witness_SecurityCommands_done1 (hu : Config.uid = 5) (hv : ∀ k l, Config.verdict k l = true) :
    (tok18 0 1 48 [] ready18).serves Reg.SEC_CMD.base true ∧ firstStatus ((tok18 0 1 48 [] ready18).secChecks 1 (tok18 0 1 48 [] ready18).tokenBytes) = St.OK := by
  refine ⟨by unfold State.serves; decide +kernel, ?_⟩
  simp only [State.secChecks, State.tokenBad, State.verifies, hu, hv]
  decide +kernel

theorem witness_SecurityCommands_done2 (hu : Config.uid = 5) (hv : ∀ k l, Config.verdict k l = true) :
    (tok18 1 2 0 [] ready18).serves Reg.SEC_CMD.base true ∧ firstStatus ((tok18 1 2 0 [] ready18).secChecks 2 (tok18 1 2 0 [] ready18).tokenBytes) = St.OK := by
  refine ⟨by unfold State.serves; decide +kernel, ?_⟩
  simp only [State.secChecks, State.tokenBad, State.verifies, hu, hv]
  decide +kernel

theorem witness_SecurityCommands_done3 (hu : Config.uid = 5) (hv : ∀ k l, Config.verdict k l = true) :
    (tok18 2 3 0 [] ready18).serves Reg.SEC_CMD.base true ∧ firstStatus ((tok18 2 3 0 [] ready18).secChecks 3 (tok18 2 3 0 [] ready18).tokenBytes) = St.OK := by
  refine ⟨by unfold State.serves; decide +kernel, ?_⟩
  simp only [State.secChecks, State.tokenBad, State.verifies, hu, hv]
  decide +kernel

theorem witness_SecurityCommands_done4 (hu : Config.uid = 5) (hv : ∀ k l, Config.verdict k l = true) :
    (tok18 2 4 0 [] ready18).serves Reg.SEC_CMD.base true ∧ firstStatus ((tok18 2 4 0 [] ready18).secChecks 4 (tok18 2 4 0 [] ready18).tokenBytes) = St.OK := by
  refine ⟨by unfold State.serves; decide +kernel, ?_⟩
  simp only [State.secChecks, State.tokenBad, State.verifies, hu, hv]
  decide +kernel

theorem witness_SecurityCommands_done5 (hu : Config.uid = 5) (hv : ∀ k l, Config.verdict k l = true) :
    (tok18 0 5 0 [] hub).serves Reg.SEC_CMD.base true ∧ firstStatus ((tok18 0 5 0 [] hub).secChecks 5 (tok18 0 5 0 [] hub).tokenBytes) = St.OK := by
  refine ⟨by unfold State.serves; decide +kernel, ?_⟩
  simp only [State.secChecks, State.tokenBad, State.verifies, hu, hv]
  decide +kernel

theorem witness_SecurityCommands_done6 (hu : Config.uid = 5) (hv : ∀ k l, Config.verdict k l = true) :
    (tok18 1 6 4 [(9, 7)] hub).serves Reg.SEC_CMD.base true ∧ firstStatus ((tok18 1 6 4 [(9, 7)] hub).secChecks 6 (tok18 1 6 4 [(9, 7)] hub).tokenBytes) = St.OK := by
  refine ⟨by unfold State.serves; decide +kernel, ?_⟩
  simp only [State.secChecks, State.tokenBad, State.verifies, hu, hv]
  decide +kernel

theorem witness_SecurityCommands_done9 (hu : Config.uid = 5) (hv : ∀ k l, Config.verdict k l = true) :
    (tok18 2 9 0 [] hub).serves Reg.SEC_CMD.base true ∧ firstStatus ((tok18 2 9 0 [] hub).secChecks 9 (tok18 2 9 0 [] hub).tokenBytes) = St.OK := by
  refine ⟨by unfold State.serves; decide +kernel, ?_⟩
  simp only [State.secChecks, State.tokenBad, State.verifies, hu, hv]
  decide +kernel

theorem witness_SecurityCommands_drops (hu : Config.uid = 5) (hv : ∀ k l, Config.verdict k l = true) :
    (tok18 1 8 8 [(9, 32)] hub).serves Reg.SEC_CMD.base true ∧ firstStatus ((tok18 1 8 8 [(9, 32)] hub).secChecks 8 (tok18 1 8 8 [(9, 32)] hub).tokenBytes) = St.OK := by
  refine ⟨by unfold State.serves; decide +kernel, ?_⟩
  simp only [State.secChecks, State.tokenBad, State.verifies, hu, hv]
  decide +kernel

theorem witness_SecurityCommands_dropsKept (hu : Config.uid = 5) (hv : ∀ k l, Config.verdict k l = true) :
    (tok18 1 8 8 [(9, 32)] kept18).serves Reg.SEC_CMD.base true ∧ firstStatus ((tok18 1 8 8 [(9, 32)] kept18).secChecks 8 (tok18 1 8 8 [(9, 32)] kept18).tokenBytes) = St.OK := by
  refine ⟨by unfold State.serves; decide +kernel, ?_⟩
  simp only [State.secChecks, State.tokenBad, State.verifies, hu, hv]
  decide +kernel

theorem witness_SecurityCommands_loads (hu : Config.uid = 5) (hv : ∀ k l, Config.verdict k l = true) :
    (tok18 1 7 172 [(33, 16777216), (34, 517)] hub).serves Reg.SEC_CMD.base true ∧ firstStatus ((tok18 1 7 172 [(33, 16777216), (34, 517)] hub).secChecks 7 (tok18 1 7 172 [(33, 16777216), (34, 517)] hub).tokenBytes) = St.OK := by
  refine ⟨by unfold State.serves; decide +kernel, ?_⟩
  simp only [State.secChecks, State.tokenBad, State.verifies, hu, hv]
  decide +kernel

theorem witness_SecurityCommands_loadsBad (hu : Config.uid = 5) (hv : ∀ k l, Config.verdict k l = true) :
    (tok18 1 7 172 [(33, 16777216), (34, 5)] hub).serves Reg.SEC_CMD.base true ∧ firstStatus ((tok18 1 7 172 [(33, 16777216), (34, 5)] hub).secChecks 7 (tok18 1 7 172 [(33, 16777216), (34, 5)] hub).tokenBytes) = St.OK := by
  refine ⟨by unfold State.serves; decide +kernel, ?_⟩
  simp only [State.secChecks, State.tokenBad, State.verifies, hu, hv]
  decide +kernel

theorem witness_SecurityCommands_loadsKept (hu : Config.uid = 5) (hv : ∀ k l, Config.verdict k l = true) :
    (tok18 1 7 172 [(33, 16777216), (34, 262661)] ((hub.wr SEC_JMASK.WORD 32 0))).serves Reg.SEC_CMD.base true ∧ firstStatus ((tok18 1 7 172 [(33, 16777216), (34, 262661)] ((hub.wr SEC_JMASK.WORD 32 0))).secChecks 7 (tok18 1 7 172 [(33, 16777216), (34, 262661)] ((hub.wr SEC_JMASK.WORD 32 0))).tokenBytes) = St.OK := by
  refine ⟨by unfold State.serves; decide +kernel, ?_⟩
  simp only [State.secChecks, State.tokenBad, State.verifies, hu, hv]
  decide +kernel

theorem witness_SecurityCommands_journal : (tok18 1 8 8 [(9, 32)] hub).needsJournal [] (bitList 64 (leAt (tokenBody (tok18 1 8 8 [(9, 32)] hub).tokenBytes) 0 8)) = false ∧
    (tok18 1 8 8 [(9, 32)] kept18).needsJournal [] (bitList 64 (leAt (tokenBody (tok18 1 8 8 [(9, 32)] kept18).tokenBytes) 0 8)) = true := by decide +kernel

/-- Records: a good one that is not kept, one without a type, and a good one that is. -/
def rec18 (w : Nat) (s : State := hub) : State × List Byte :=
  let s := tok18 1 7 172 [(33, 16777216), (34, w)] s
  (s, tokenBody s.tokenBytes)
theorem witness_SecurityCommands_record (hv : ∀ k l, Config.verdict k l = true) :
    (rec18 517).1.firstBadKey ((rec18 517).1.wrapKey ((rec18 517).2.take 97)) (recordsAt (rec18 517).2 100 (byteAt (rec18 517).2 99)) = none ∧
    (rec18 517).1.needsJournal ((recordsAt (rec18 517).2 100 (byteAt (rec18 517).2 99)).map (keyRecOf ((rec18 517).1.wrapKey ((rec18 517).2.take 97)))) [] = false ∧
    (rec18 517).1.sec.update = none ∧
    (rec18 5).1.firstBadKey ((rec18 5).1.wrapKey ((rec18 5).2.take 97)) (recordsAt (rec18 5).2 100 (byteAt (rec18 5).2 99)) = some (0, St.VALUE) := by
  refine ⟨?_, by decide +kernel, by decide +kernel, ?_⟩ <;> simp only [State.firstBadKey, State.keyStatus, hv] <;> decide +kernel
theorem witness_SecurityCommands_recordKept (hv : ∀ k l, Config.verdict k l = true) : let r := rec18 262661 (hub.wr SEC_JMASK.WORD 32 0)
    r.1.firstBadKey (r.1.wrapKey (r.2.take 97)) (recordsAt r.2 100 (byteAt r.2 99)) = none ∧
    r.1.needsJournal ((recordsAt r.2 100 (byteAt r.2 99)).map (keyRecOf (r.1.wrapKey (r.2.take 97)))) [] = true := by
  refine ⟨?_, by decide +kernel⟩; simp only [State.firstBadKey, State.keyStatus, hv]; decide +kernel

theorem witness_TamperConfiguration_ended :
    262152 = Reg.SEC_TAMPCFG.base ∧
    (sec18 4).serves 262152 true ∧
    (sec18 4).lc = 4 := by
  unfold State.serves; decide +kernel

theorem witness_TamperConfiguration_cleared :
    262152 = Reg.SEC_TAMPCFG.base ∧
    (sec18 2).serves 262152 true ∧
    (sec18 2).lc = 2 ∧
    (sec18 2).rd SEC_TAMPCFG.EN &&& 31 ≠ (sec18 2).rd SEC_TAMPCFG.EN := by
  unfold State.serves; decide +kernel

theorem witness_TamperConfiguration_free :
    262152 = Reg.SEC_TAMPCFG.base ∧
    (sec18 3
      (linked 2 6
        (hub.modSec fun (c : Sec) =>
          { active := 1, custRoot := c.custRoot, enrolled := c.enrolled, helper := c.helper, keys := c.keys,
            nonce := c.nonce, nonceAt := c.nonceAt, token := c.token, journal := c.journal, update := c.update,
            noJournal := c.noJournal, lcReset := c.lcReset, rewrite := c.rewrite, chal := c.chal, chalAt := c.chalAt,
            dbgTime := c.dbgTime, dbgAt := c.dbgAt, dawn := c.dawn : Sec }))).serves
  262152 true ∧
    ((sec18 3
        (linked 2 6
          (hub.modSec fun (c : Sec) =>
            { active := 1, custRoot := c.custRoot, enrolled := c.enrolled, helper := c.helper, keys := c.keys,
              nonce := c.nonce, nonceAt := c.nonceAt, token := c.token, journal := c.journal, update := c.update,
              noJournal := c.noJournal, lcReset := c.lcReset, rewrite := c.rewrite, chal := c.chal, chalAt := c.chalAt,
              dbgTime := c.dbgTime, dbgAt := c.dbgAt, dawn := c.dawn : Sec }))).lc =
    0 ∨
  (sec18 3
          (linked 2 6
            (hub.modSec fun (c : Sec) =>
              { active := 1, custRoot := c.custRoot, enrolled := c.enrolled, helper := c.helper, keys := c.keys,
                nonce := c.nonce, nonceAt := c.nonceAt, token := c.token, journal := c.journal, update := c.update,
                noJournal := c.noJournal, lcReset := c.lcReset, rewrite := c.rewrite, chal := c.chal,
                chalAt := c.chalAt, dbgTime := c.dbgTime, dbgAt := c.dbgAt, dawn := c.dawn : Sec }))).lc =
      1 ∨
    (sec18 3
            (linked 2 6
              (hub.modSec fun (c : Sec) =>
                { active := 1, custRoot := c.custRoot, enrolled := c.enrolled, helper := c.helper, keys := c.keys,
                  nonce := c.nonce, nonceAt := c.nonceAt, token := c.token, journal := c.journal, update := c.update,
                  noJournal := c.noJournal, lcReset := c.lcReset, rewrite := c.rewrite, chal := c.chal,
                  chalAt := c.chalAt, dbgTime := c.dbgTime, dbgAt := c.dbgAt, dawn := c.dawn : Sec }))).lc =
        3 ∨
      (sec18 3
              (linked 2 6
                (hub.modSec fun (c : Sec) =>
                  { active := 1, custRoot := c.custRoot, enrolled := c.enrolled, helper := c.helper, keys := c.keys,
                    nonce := c.nonce, nonceAt := c.nonceAt, token := c.token, journal := c.journal, update := c.update,
                    noJournal := c.noJournal, lcReset := c.lcReset, rewrite := c.rewrite, chal := c.chal,
                    chalAt := c.chalAt, dbgTime := c.dbgTime, dbgAt := c.dbgAt, dawn := c.dawn : Sec }))).lc =
          2 ∧
        (sec18 3
                  (linked 2 6
                    (hub.modSec fun (c : Sec) =>
                      { active := 1, custRoot := c.custRoot, enrolled := c.enrolled, helper := c.helper, keys := c.keys,
                        nonce := c.nonce, nonceAt := c.nonceAt, token := c.token, journal := c.journal,
                        update := c.update, noJournal := c.noJournal, lcReset := c.lcReset, rewrite := c.rewrite,
                        chal := c.chal, chalAt := c.chalAt, dbgTime := c.dbgTime, dbgAt := c.dbgAt, dawn := c.dawn :
                        Sec }))).rd
              SEC_TAMPCFG.EN &&&
            3 =
          (sec18 3
                (linked 2 6
                  (hub.modSec fun (c : Sec) =>
                    { active := 1, custRoot := c.custRoot, enrolled := c.enrolled, helper := c.helper, keys := c.keys,
                      nonce := c.nonce, nonceAt := c.nonceAt, token := c.token, journal := c.journal,
                      update := c.update, noJournal := c.noJournal, lcReset := c.lcReset, rewrite := c.rewrite,
                      chal := c.chal, chalAt := c.chalAt, dbgTime := c.dbgTime, dbgAt := c.dbgAt, dawn := c.dawn :
                      Sec }))).rd
            SEC_TAMPCFG.EN) ∧
    3 < 64 := by
  unfold State.serves; decide +kernel

theorem witness_TamperConfiguration_fieldSet :
    262152 = Reg.SEC_TAMPCFG.base ∧
    (sec18 2 (hub.wr SEC_TAMPCFG.EN 5)).serves 262152 true ∧
    ((sec18 2 (hub.wr SEC_TAMPCFG.EN 5)).lc = 0 ∨
  (sec18 2 (hub.wr SEC_TAMPCFG.EN 5)).lc = 1 ∨
    (sec18 2 (hub.wr SEC_TAMPCFG.EN 5)).lc = 3 ∨
      (sec18 2 (hub.wr SEC_TAMPCFG.EN 5)).lc = 2 ∧
        (sec18 2 (hub.wr SEC_TAMPCFG.EN 5)).rd SEC_TAMPCFG.EN &&& 7 =
          (sec18 2 (hub.wr SEC_TAMPCFG.EN 5)).rd SEC_TAMPCFG.EN) ∧
    7 < 64 := by
  unfold State.serves; decide +kernel

theorem witness_SecurityCommands_op1 :
    (sec18 1).serves Reg.SEC_CMD.base true ∧
    (fun (op : Nat) => firstStatus ((sec18 1).secChecks op (sec18 1).tokenBytes)) 1 ≠ St.OK := by
  unfold State.serves; decide +kernel

theorem witness_SecurityCommands_op2 :
    (sec18 0).serves Reg.SEC_CMD.base true ∧
    (fun (op : Nat) => firstStatus ((sec18 0).secChecks op (sec18 0).tokenBytes)) 2 ≠ St.OK := by
  unfold State.serves; decide +kernel

theorem witness_SecurityCommands_op3 :
    (sec18 0).serves Reg.SEC_CMD.base true ∧
    (fun (op : Nat) => firstStatus ((sec18 0).secChecks op (sec18 0).tokenBytes)) 3 ≠ St.OK := by
  unfold State.serves; decide +kernel

theorem witness_SecurityCommands_op4 :
    (sec18 4).serves Reg.SEC_CMD.base true ∧
    (fun (op : Nat) => firstStatus ((sec18 4).secChecks op (sec18 4).tokenBytes)) 4 ≠ St.OK := by
  unfold State.serves; decide +kernel

theorem witness_SecurityCommands_op5 :
    (sec18 1).serves Reg.SEC_CMD.base true ∧
    (fun (op : Nat) => firstStatus ((sec18 1).secChecks op (sec18 1).tokenBytes)) 5 ≠ St.OK := by
  unfold State.serves; decide +kernel

theorem witness_SecurityCommands_op6 :
    (sec18 0).serves Reg.SEC_CMD.base true ∧
    (fun (op : Nat) => firstStatus ((sec18 0).secChecks op (sec18 0).tokenBytes)) 6 ≠ St.OK := by
  unfold State.serves; decide +kernel

theorem witness_SecurityCommands_op7 :
    (sec18 0).serves Reg.SEC_CMD.base true ∧
    (fun (op : Nat) => firstStatus ((sec18 0).secChecks op (sec18 0).tokenBytes)) 7 ≠ St.OK := by
  unfold State.serves; decide +kernel

theorem witness_SecurityCommands_op8 :
    (sec18 0).serves Reg.SEC_CMD.base true ∧
    (fun (op : Nat) => firstStatus ((sec18 0).secChecks op (sec18 0).tokenBytes)) 8 ≠ St.OK := by
  unfold State.serves; decide +kernel

theorem witness_SecurityCommands_op9 :
    (sec18 0).serves Reg.SEC_CMD.base true ∧
    (fun (op : Nat) => firstStatus ((sec18 0).secChecks op (sec18 0).tokenBytes)) 9 ≠ St.OK := by
  unfold State.serves; decide +kernel

theorem witness_SecurityCommands_states :
    2 ≠ 0 ∧
    opAllowed 2 (sec18 0).lc = false := by
  decide +kernel

theorem witness_SecurityCommands_cleared8 :
    5 ≠ 0 := by
  decide +kernel

theorem witness_SecurityCommands_lcReset :
    (hub.modSec fun (c : Sec) =>
        { active := c.active, custRoot := c.custRoot, enrolled := c.enrolled, helper := c.helper, keys := c.keys,
          nonce := c.nonce, nonceAt := c.nonceAt, token := c.token, journal := c.journal, update := c.update,
          noJournal := c.noJournal, lcReset := true, rewrite := c.rewrite, chal := c.chal, chalAt := c.chalAt,
          dbgTime := c.dbgTime, dbgAt := c.dbgAt, dawn := c.dawn : Sec }).sec.lcReset =
  true := by
  decide +kernel

theorem witness_SecurityCommands_noReset :
    hub.sec.lcReset = false := by
  decide +kernel

theorem witness_TamperAndKeys_unseen :
    bitAt (hub.wr SEC_TAMPCFG.EN 5).sec.active 1 = false ∧
    (hub.wr SEC_TAMPCFG.EN 5).rd SEC_TAMPCFG.EN < 64 ∧
    bitAt ((hub.wr SEC_TAMPCFG.EN 5).rd SEC_TAMPCFG.EN) 1 = false := by
  decide +kernel

theorem witness_TamperAndKeys_asleep :
    bitAt (off16 Phase.doze).sec.active 1 = false ∧
    (off16 Phase.doze).rd SEC_TAMPCFG.EN < 64 ∧
    bitAt ((off16 Phase.doze).rd SEC_TAMPCFG.EN) 1 = true ∧
    ((off16 Phase.doze).chip.phase = Phase.doze ∨ (off16 Phase.doze).chip.phase = Phase.ship) := by
  decide +kernel

theorem witness_TamperAndKeys_tamper :
    bitAt (linked 2 6 (hub.wr SEC_SLOT.STATE 1 4)).sec.active 1 = false ∧
    (linked 2 6 (hub.wr SEC_SLOT.STATE 1 4)).rd SEC_TAMPCFG.EN < 64 ∧
    bitAt ((linked 2 6 (hub.wr SEC_SLOT.STATE 1 4)).rd SEC_TAMPCFG.EN) 1 = true ∧
    (linked 2 6 (hub.wr SEC_SLOT.STATE 1 4)).chip.phase = Phase.running ∧
    (linked 2 6 (hub.wr SEC_SLOT.STATE 1 4)).sec.update = none := by
  decide +kernel

theorem witness_TamperAndKeys_ends :
    bitAt hub.sec.active 1 = false ∧
    hub.rd SEC_TAMPCFG.EN < 64 := by
  decide +kernel

theorem witness_TamperAndKeys_tagBad :
    ((hub.wr SEC_SLOT.STATE 3 5).rd SEC_SLOT.STATE 5 = 1 ∨ (hub.wr SEC_SLOT.STATE 3 5).rd SEC_SLOT.STATE 5 = 3) := by
  decide +kernel

theorem witness_TamperAndKeys_tagNone :
    hub.rd SEC_SLOT.STATE 5 = 0 := by
  decide +kernel

theorem witness_TamperAndKeys_noUpdate :
    hub.sec.update = none := by
  decide +kernel

theorem witness_TamperAndKeys_rewriteFails :
    (upd18 0).sec.update =
  some { op := 0, load := [], drop := [5], put := { root := 2, gen := 8, keys := [] : JRec } : JUpd } ∧
    { op := 0, load := [], drop := [5], put := { root := 2, gen := 8, keys := [] : JRec } : JUpd }.op = 0 := by
  decide +kernel

theorem witness_TamperAndKeys_updateFails :
    (upd18 8).sec.update =
  some { op := 8, load := [], drop := [5], put := { root := 2, gen := 8, keys := [] : JRec } : JUpd } ∧
    { op := 8, load := [], drop := [5], put := { root := 2, gen := 8, keys := [] : JRec } : JUpd }.op ≠ 0 := by
  decide +kernel

theorem witness_TamperAndKeys_updateFirst :
    (upd18 8).sec.update =
  some { op := 8, load := [], drop := [5], put := { root := 2, gen := 8, keys := [] : JRec } : JUpd } ∧
    { op := 8, load := [], drop := [5], put := { root := 2, gen := 8, keys := [] : JRec } : JUpd }.op ≠ 0 ∧
    (upd18 8).journalNow = none ∧
    (upd18 8).rd SEC_JSTAT.CUR = 0 := by
  decide +kernel

theorem witness_TamperAndKeys_updateOther :
    (upd18 8 true).sec.update =
  some { op := 8, load := [], drop := [5], put := { root := 2, gen := 8, keys := [] : JRec } : JUpd } ∧
    { op := 8, load := [], drop := [5], put := { root := 2, gen := 8, keys := [] : JRec } : JUpd }.op ≠ 0 ∧
    (upd18 8 true).journalNow = some { root := 2, gen := 7, keys := [] : JRec } ∧
    (upd18 8 true).rd SEC_JSTAT.CUR = 0 := by
  decide +kernel

theorem witness_TamperAndKeys_noNonce :
    hub.serves (Reg.SEC_NONCE.addr 0 0) false ∧
    hub.on SEC_STATUS.DRBG_OK = false := by
  unfold State.serves; decide +kernel

theorem witness_TamperAndKeys_nonce :
    (hub.wr SEC_STATUS.DRBG_OK 1).serves (Reg.SEC_NONCE.addr 0 0) false ∧
    (hub.wr SEC_STATUS.DRBG_OK 1).on SEC_STATUS.DRBG_OK = true := by
  unfold State.serves; decide +kernel

/-- Macro `m` with a correctable error short of the limit, and its flit in staging. -/
def staged19 (l : List RxItem) : State := hub.modLk 0 (fun k => { k with rxStage := l })
def item19 (x : Nat) : RxItem := { slot := 5, tix := x, iso := true, first := true, last := true, sub := 0, isVoid := false, loss := false, payload := [], held := false, late := false }
def marched19 (f n : Nat) (stop : Bool) : State := (hub.wr MEM_MSTAT.RUN 1).modChip (fun c => { c with march := some (f, n), marchStop := stop })
def up19 (failed : Nat) : State := (hub.wr DBG_D2D.UP 1).wr DBG_D2D.FAILED failed
def fused19 : State := ((hub.wr SEC_STATUS.LC 1).wr MEM_MACRO.SROWS 3 7).wr MEM_MACRO.SCOLS 1 615
/-- A token for the debug port with value `v`. -/
def dbg19 (op v len : Nat) : State := tok18 2 op len [(9, v)]
theorem witness_DebugAccess_granted (hu : Config.uid = 5) (hv : ∀ k l, Config.verdict k l = true) : let s := dbg19 32 16780816 4
    s.serves Reg.DBG_CMD.base true ∧ s.lc = 2 ∧ s.tokenBad 0x20 1 s.tokenBytes = false ∧ tokenReserved s.tokenBytes = false ∧
      ((tokenBody s.tokenBytes).length = 4 ↔ 4 = 4) ∧ leAt (tokenBody s.tokenBytes) 0 4 = 16780816 := by
  refine ⟨by unfold State.serves; decide +kernel, by decide +kernel, ?_, by decide +kernel, by decide +kernel, by decide +kernel⟩
  simp only [State.tokenBad, State.verifies, hu, hv]; decide +kernel
theorem witness_DebugAccess_never (hu : Config.uid = 5) (hv : ∀ k l, Config.verdict k l = true) : let s := dbg19 32 0 4
    s.serves Reg.DBG_CMD.base true ∧ s.lc = 2 ∧ s.tokenBad 0x20 1 s.tokenBytes = false ∧ tokenReserved s.tokenBytes = false ∧
      ((tokenBody s.tokenBytes).length = 4 ↔ 4 = 4) ∧ leAt (tokenBody s.tokenBytes) 0 4 = 0 := by
  refine ⟨by unfold State.serves; decide +kernel, by decide +kernel, ?_, by decide +kernel, by decide +kernel, by decide +kernel⟩
  simp only [State.tokenBad, State.verifies, hu, hv]; decide +kernel
theorem witness_DebugAccess_short (hu : Config.uid = 5) (hv : ∀ k l, Config.verdict k l = true) : let s := dbg19 32 5 3
    s.serves Reg.DBG_CMD.base true ∧ s.lc = 2 ∧ s.tokenBad 0x20 1 s.tokenBytes = false ∧ tokenReserved s.tokenBytes = false ∧
      ((tokenBody s.tokenBytes).length = 4 ↔ 3 = 4) ∧ leAt (tokenBody s.tokenBytes) 0 4 = 5 := by
  refine ⟨by unfold State.serves; decide +kernel, by decide +kernel, ?_, by decide +kernel, by decide +kernel, by decide +kernel⟩
  simp only [State.tokenBad, State.verifies, hu, hv]; decide +kernel

theorem witness_MemoryErrors_buffer :
    (5 < 544 ∨ true = true ∧ (hub.on MEM_SCRUB.SCRUB_EN = false ∨ hub.marching 5 = true) ∨ hub.rd (dstat (macroDomain 5)) = 2) := by
  decide +kernel

theorem witness_MemoryErrors_noScrub :
    (600 < 544 ∨
  true = true ∧
      ((hub.wr MEM_SCRUB.SCRUB_EN 0).on MEM_SCRUB.SCRUB_EN = false ∨
        (hub.wr MEM_SCRUB.SCRUB_EN 0).marching 600 = true) ∨
    (hub.wr MEM_SCRUB.SCRUB_EN 0).rd (dstat (macroDomain 600)) = 2) := by
  decide +kernel

theorem witness_MemoryErrors_marchHeld :
    (600 < 544 ∨
  true = true ∧ ((marched19 600 1 false).on MEM_SCRUB.SCRUB_EN = false ∨ (marched19 600 1 false).marching 600 = true) ∨
    (marched19 600 1 false).rd (dstat (macroDomain 600)) = 2) := by
  decide +kernel

theorem witness_MemoryErrors_gated :
    (600 < 544 ∨
  false = true ∧ ((hub.wr CPM_DSTAT.D1 2).on MEM_SCRUB.SCRUB_EN = false ∨ (hub.wr CPM_DSTAT.D1 2).marching 600 = true) ∨
    (hub.wr CPM_DSTAT.D1 2).rd (dstat (macroDomain 600)) = 2) := by
  decide +kernel

theorem witness_MemoryErrors_cleanLast :
    544 ≤ 600 ∧
    (true = true →
  (hub.wr MEM_MACRO.CE 9 600).on MEM_SCRUB.SCRUB_EN = true ∧ (hub.wr MEM_MACRO.CE 9 600).marching 600 = false) ∧
    (hub.wr MEM_MACRO.CE 9 600).rd (dstat (macroDomain 600)) ≠ 2 ∧
    0 = 0 := by
  decide +kernel

theorem witness_MemoryErrors_ceLow :
    544 ≤ 544 ∧
    (true = true → hub.on MEM_SCRUB.SCRUB_EN = true ∧ hub.marching 544 = false) ∧
    hub.rd (dstat (macroDomain 544)) ≠ 2 ∧
    1 = 1 ∧
    (hub.rd MEM_MACRO.CE 544 < hub.rd MEM_SCRUB.CE_LIM ∨ hub.on MEM_MACRO.CEHIGH 544 = true) := by
  decide +kernel

theorem witness_MemoryErrors_ceHigh :
    544 ≤ 615 ∧
    (false = true →
  (hub.wr MEM_MACRO.CE 64 615).on MEM_SCRUB.SCRUB_EN = true ∧ (hub.wr MEM_MACRO.CE 64 615).marching 615 = false) ∧
    (hub.wr MEM_MACRO.CE 64 615).rd (dstat (macroDomain 615)) ≠ 2 ∧
    1 = 1 ∧
    (hub.wr MEM_MACRO.CE 64 615).rd MEM_MACRO.CE 615 = (hub.wr MEM_MACRO.CE 64 615).rd MEM_SCRUB.CE_LIM ∧
    (hub.wr MEM_MACRO.CE 64 615).rd MEM_MACRO.CE 615 < 4095 ∧
    (hub.wr MEM_MACRO.CE 64 615).on MEM_MACRO.CEHIGH 615 = false := by
  decide +kernel

theorem witness_MemoryErrors_uePlan :
    544 ≤ 559 ∧
    (false = true →
  (hub.wr PLN_PDESC.RXVALID 1 19).on MEM_SCRUB.SCRUB_EN = true ∧ (hub.wr PLN_PDESC.RXVALID 1 19).marching 559 = false) ∧
    (hub.wr PLN_PDESC.RXVALID 1 19).rd (dstat (macroDomain 559)) ≠ 2 ∧
    2 = 2 ∧
    559 < 560 := by
  decide +kernel

theorem witness_MemoryErrors_uePad :
    544 ≤ 560 ∧
    (false = true →
  (hub.wr NIM_DMASTAT.XFER 1).on MEM_SCRUB.SCRUB_EN = true ∧ (hub.wr NIM_DMASTAT.XFER 1).marching 560 = false) ∧
    (hub.wr NIM_DMASTAT.XFER 1).rd (dstat (macroDomain 560)) ≠ 2 ∧
    2 = 2 ∧
    560 ≤ 560 ∧
    560 < 592 := by
  decide +kernel

theorem witness_MemoryErrors_ueRoute :
    544 ≤ 592 ∧
    (false = true →
  (hub.setRoute 7 1 (2 ^ 24 + 5)).on MEM_SCRUB.SCRUB_EN = true ∧ (hub.setRoute 7 1 (2 ^ 24 + 5)).marching 592 = false) ∧
    (hub.setRoute 7 1 (2 ^ 24 + 5)).rd (dstat (macroDomain 592)) ≠ 2 ∧
    2 = 2 ∧
    592 ≤ 592 ∧
    592 < 600 := by
  decide +kernel

theorem witness_MemoryErrors_ueReplay :
    544 ≤ 603 ∧
    (true = true → (linked 3 6).on MEM_SCRUB.SCRUB_EN = true ∧ (linked 3 6).marching 603 = false) ∧
    (linked 3 6).rd (dstat (macroDomain 603)) ≠ 2 ∧
    2 = 2 ∧
    600 ≤ 603 ∧
    603 < 604 := by
  decide +kernel

theorem witness_MemoryErrors_ueGuar :
    544 ≤ 604 ∧
    (true = true → (linked 0 6).on MEM_SCRUB.SCRUB_EN = true ∧ (linked 0 6).marching 604 = false) ∧
    (linked 0 6).rd (dstat (macroDomain 604)) ≠ 2 ∧
    2 = 2 ∧
    604 ≤ 604 ∧
    604 < 608 ∧
    false = false := by
  decide +kernel

theorem witness_MemoryErrors_ueIsoGone :
    544 ≤ 607 ∧
    (false = true → hub.on MEM_SCRUB.SCRUB_EN = true ∧ hub.marching 607 = false) ∧
    hub.rd (dstat (macroDomain 607)) ≠ 2 ∧
    2 = 2 ∧
    604 ≤ 607 ∧
    607 < 608 ∧
    true = true ∧
    (∀ (e : RxItem), e ∈ (hub.lk (607 - 604)).rxStage → e.tix ≠ 7) := by
  decide +kernel

theorem witness_MemoryErrors_ueIso :
    544 ≤ 604 ∧
    (false = true →
  (staged19 [item19 7, item19 8]).on MEM_SCRUB.SCRUB_EN = true ∧ (staged19 [item19 7, item19 8]).marching 604 = false) ∧
    (staged19 [item19 7, item19 8]).rd (dstat (macroDomain 604)) ≠ 2 ∧
    2 = 2 ∧
    604 ≤ 604 ∧
    604 < 608 ∧
    true = true ∧
    ((staged19 [item19 7, item19 8]).lk (604 - 604)).rxStage = [item19 7, item19 8] ∧
    (item19 7).tix = 7 := by
  decide +kernel

theorem witness_MemoryErrors_ueTun :
    544 ≤ 608 ∧
    (false = true →
  (hub.wr TUN_ENT0.VALID 1 7).on MEM_SCRUB.SCRUB_EN = true ∧ (hub.wr TUN_ENT0.VALID 1 7).marching 608 = false) ∧
    (hub.wr TUN_ENT0.VALID 1 7).rd (dstat (macroDomain 608)) ≠ 2 ∧
    2 = 2 ∧
    608 ≤ 608 ∧
    7 / 65536 = 0 ∧
    7 % 65536 ≠ 0 := by
  decide +kernel

theorem witness_MemoryErrors_ueFdb :
    544 ≤ 608 ∧
    (false = true → hub.on MEM_SCRUB.SCRUB_EN = true ∧ hub.marching 608 = false) ∧
    hub.rd (dstat (macroDomain 608)) ≠ 2 ∧
    2 = 2 ∧
    608 ≤ 608 ∧
    65536 / 65536 = 1 := by
  decide +kernel

theorem witness_MemoryErrors_ueCls :
    544 ≤ 615 ∧
    (false = true →
  (hub.wr TUN_CLS0.VALID 1 2).on MEM_SCRUB.SCRUB_EN = true ∧ (hub.wr TUN_CLS0.VALID 1 2).marching 615 = false) ∧
    (hub.wr TUN_CLS0.VALID 1 2).rd (dstat (macroDomain 615)) ≠ 2 ∧
    2 = 2 ∧
    608 ≤ 615 ∧
    196610 / 65536 = 3 := by
  decide +kernel

theorem witness_MemoryErrors_uePoint :
    544 ≤ 615 ∧
    (false = true → (hub.setPoint 2 5).on MEM_SCRUB.SCRUB_EN = true ∧ (hub.setPoint 2 5).marching 615 = false) ∧
    (hub.setPoint 2 5).rd (dstat (macroDomain 615)) ≠ 2 ∧
    2 = 2 ∧
    608 ≤ 615 ∧
    393218 / 65536 = 6 := by
  decide +kernel

theorem witness_MemoryErrors_capFirst :
    hub.rd MEM_CAP0.VALID (2 * macroKind 547 + if true = true then 1 else 0) = 0 := by
  decide +kernel

theorem witness_MemoryErrors_capNext :
    ((hub.wr MEM_CAP0.VALID 1 3).wr MEM_CAP0.COUNT 255 3).rd MEM_CAP0.VALID
    (2 * macroKind 551 + if true = true then 1 else 0) ≠
  0 := by
  decide +kernel

theorem witness_MemoryErrors_capBits :
    hub.serves (Reg.MEM_CAP0.addr 13 0) true ∧
    Reg.MEM_CAP0.reservedSet 129 = true := by
  unfold State.serves; decide +kernel

theorem witness_MemoryErrors_capClear :
    (((hub.wr MEM_CAP0.VALID 1 3).wr MEM_CAP0.COUNT 7 3).wr MEM_CAP0.MULTI 1 3).serves (Reg.MEM_CAP0.addr 3 0) true ∧
    Reg.MEM_CAP0.reservedSet 1 = false ∧
    1 % 2 = 1 := by
  unfold State.serves; decide +kernel

theorem witness_MemoryErrors_capKeep :
    (hub.wr MEM_CAP0.VALID 1 3).serves (Reg.MEM_CAP0.addr 3 0) true ∧
    Reg.MEM_CAP0.reservedSet 0 = false ∧
    0 % 2 = 0 := by
  unfold State.serves; decide +kernel

theorem witness_MemoryErrors_fclrBits :
    hub.serves Reg.DBG_FCTL.base true ∧
    Reg.DBG_FCTL.reservedSet 3 = true := by
  unfold State.serves; decide +kernel

theorem witness_MemoryErrors_fclr :
    ((hub.wr DBG_FCTL.FCOUNT 4).wr DBG_FCAP.MSG 9 3).serves Reg.DBG_FCTL.base true ∧
    Reg.DBG_FCTL.reservedSet 1 = false ∧
    1 % 2 = 1 := by
  unfold State.serves; decide +kernel

theorem witness_MarchAndRepair_marchBarred :
    hub.serves Reg.MEM_MCMD.base true ∧
    (true = true ∧ hub.rd BOOT_STATUS.MODE ≠ 3 ∨ ∃ (m : Fin 616), 600 ≤ ↑m ∧ ↑m < 600 + 1 ∧ hub.marchRefused ↑m = true) := by
  unfold State.serves; decide +kernel

theorem witness_MarchAndRepair_marchBusy :
    (marched19 600 1 false).serves Reg.MEM_MCMD.base true ∧
    ¬(false = true ∧ (marched19 600 1 false).rd BOOT_STATUS.MODE ≠ 3 ∨
    ∃ (m : Fin 616), 600 ≤ ↑m ∧ ↑m < 600 + 1 ∧ (marched19 600 1 false).marchRefused ↑m = true) ∧
    (marched19 600 1 false).on MEM_MSTAT.RUN = true := by
  unfold State.serves; decide +kernel

theorem witness_MarchAndRepair_marchRange :
    hub.serves Reg.MEM_MCMD.base true ∧
    ¬(false = true ∧ hub.rd BOOT_STATUS.MODE ≠ 3 ∨ ∃ (m : Fin 616), 600 ≤ ↑m ∧ ↑m < 600 + 17 ∧ hub.marchRefused ↑m = true) ∧
    hub.on MEM_MSTAT.RUN = false ∧
    (17 = 0 ∨ 616 < 600 + 17) := by
  unfold State.serves; decide +kernel

theorem witness_MarchAndRepair_march :
    hub.serves Reg.MEM_MCMD.base true ∧
    ¬(false = true ∧ hub.rd BOOT_STATUS.MODE ≠ 3 ∨ ∃ (m : Fin 616), 600 ≤ ↑m ∧ ↑m < 600 + 16 ∧ hub.marchRefused ↑m = true) ∧
    hub.on MEM_MSTAT.RUN = false ∧
    16 ≠ 0 ∧
    600 + 16 ≤ 616 := by
  unfold State.serves; decide +kernel

theorem witness_MarchAndRepair_marchStop :
    (marched19 600 1 false).serves Reg.MEM_MCMD.base true := by
  unfold State.serves; decide +kernel

theorem witness_MarchAndRepair_inUse :
    511 < 544 := by
  decide +kernel

theorem witness_MarchAndRepair_spare :
    512 < 544 := by
  decide +kernel

theorem witness_MarchAndRepair_gatedMacro :
    544 ≤ 600 := by
  decide +kernel

theorem witness_MarchAndRepair_noMarch :
    hub.chip.march = none := by
  decide +kernel

theorem witness_MarchAndRepair_marchDone :
    (marched19 613 3 false).chip.march = some (613, 3) ∧
    613 + 3 ≤ 616 := by
  decide +kernel

theorem witness_MarchAndRepair_marchStopped :
    (marched19 613 3 true).chip.march = some (613, 3) ∧
    613 + 3 ≤ 616 := by
  decide +kernel

theorem witness_MarchAndRepair_fuseNone :
    hub.serves Reg.MEM_FUSECMD.base true ∧
    0 = 0 := by
  unfold State.serves; decide +kernel

theorem witness_MarchAndRepair_fuseField :
    (hub.wr SEC_STATUS.LC 2).serves Reg.MEM_FUSECMD.base true ∧
    1 = 1 ∧
    (hub.wr SEC_STATUS.LC 2).lc ≠ 1 ∧
    (hub.wr SEC_STATUS.LC 2).lc ≠ 3 := by
  unfold State.serves; decide +kernel

theorem witness_MarchAndRepair_fuseBusy :
    ((marched19 600 1 false).wr SEC_STATUS.LC 3).serves Reg.MEM_FUSECMD.base true ∧
    1 = 1 ∧
    (((marched19 600 1 false).wr SEC_STATUS.LC 3).lc = 1 ∨ ((marched19 600 1 false).wr SEC_STATUS.LC 3).lc = 3) ∧
    ((marched19 600 1 false).wr SEC_STATUS.LC 3).on MEM_MSTAT.RUN = true := by
  unfold State.serves; decide +kernel

theorem witness_MarchAndRepair_fuse :
    fused19.serves Reg.MEM_FUSECMD.base true ∧
    1 = 1 ∧
    (fused19.lc = 1 ∨ fused19.lc = 3) ∧
    fused19.on MEM_MSTAT.RUN = false := by
  unfold State.serves; decide +kernel

theorem witness_DieToDieLink_d2dOff :
    hub.on DBG_D2D.UP = false := by
  decide +kernel

theorem witness_DieToDieLink_d2dFails :
    (up19 0).on DBG_D2D.UP = true := by
  decide +kernel

theorem witness_DieToDieLink_laneAgain :
    (up19 8).on DBG_D2D.UP = true ∧
    bitAt ((up19 8).rd DBG_D2D.FAILED) 3 = true := by
  decide +kernel

theorem witness_DieToDieLink_lane1 :
    (up19 0).on DBG_D2D.UP = true ∧
    (up19 0).rd DBG_D2D.FAILED = 0 ∧
    15 < 16 := by
  decide +kernel

theorem witness_DieToDieLink_lane16 :
    (up19 0).on DBG_D2D.UP = true ∧
    (up19 0).rd DBG_D2D.FAILED = 0 ∧
    16 = 16 := by
  decide +kernel

theorem witness_DieToDieLink_lane2 :
    (up19 8).on DBG_D2D.UP = true ∧
    (up19 8).rd DBG_D2D.FAILED = 2 ^ 3 ∧
    3 ≠ 16 := by
  decide +kernel

theorem witness_DieToDieLink_lane3 :
    (up19 65544).on DBG_D2D.UP = true ∧
    (up19 65544).rd DBG_D2D.FAILED = 2 ^ 3 + 2 ^ 16 ∧
    3 ≠ 16 ∧
    3 ≠ 0 ∧
    16 ≠ 0 := by
  decide +kernel

theorem witness_DieToDieLink_d2dDown :
    (up19 8).on DBG_D2D.UP = true := by
  decide +kernel

theorem witness_DieToDieLink_stays :
    (true = false ∨
  (hub.wr DBG_D2D.FAILED 7).on DBG_D2D.UP = true ∨
    3 ≤ popcount 17 ((hub.wr DBG_D2D.FAILED 7).rd DBG_D2D.FAILED) ∨ (hub.wr DBG_D2D.FAILED 7).chip.phase ≠ Phase.running) := by
  decide +kernel

theorem witness_DieToDieLink_back :
    true = true ∧
    ((hub.wr DBG_D2D.FAILED 3).wr FLD_OCTRL.SAFE 1).on DBG_D2D.UP = false ∧
    popcount 17 (((hub.wr DBG_D2D.FAILED 3).wr FLD_OCTRL.SAFE 1).rd DBG_D2D.FAILED) < 3 ∧
    ((hub.wr DBG_D2D.FAILED 3).wr FLD_OCTRL.SAFE 1).chip.phase = Phase.running := by
  decide +kernel

theorem witness_DebugAccess_dbgBlank :
    hub.serves Reg.DBG_CMD.base true ∧
    hub.lc ≠ 2 := by
  unfold State.serves; decide +kernel

theorem witness_DebugAccess_dbgAuth :
    (sec18 2).serves Reg.DBG_CMD.base true ∧
    (sec18 2).lc = 2 ∧
    (sec18 2).tokenBad 32 1 (sec18 2).tokenBytes = true := by
  unfold State.serves; decide +kernel

theorem witness_DebugAccess_dbgLock :
    ((sec18 2).wr DBG_STATUS.REMAIN 9).serves Reg.DBG_CMD.base true := by
  unfold State.serves; decide +kernel

theorem witness_DebugAccess_tmuxBarred :
    8912904 = Reg.DBG_TMSEL.base ∧
    (sec18 4).serves 8912904 true ∧
    Reg.DBG_TMSEL.reservedSet 2147483653 = false ∧
    2147483653 / 2 ^ 31 = 1 ∧
    ¬((sec18 4).lc = 1 ∨ (sec18 4).lc = 3 ∨ (sec18 4).lc = 2 ∧ (sec18 4).on DBG_STATUS.DBG_TMUX = true) := by
  unfold State.serves; decide +kernel

theorem witness_DebugAccess_tmux :
    8912904 = Reg.DBG_TMSEL.base ∧
    ((sec18 2).wr DBG_STATUS.DBG_TMUX 1).serves 8912904 true ∧
    Reg.DBG_TMSEL.reservedSet 2147483653 = false ∧
    (2147483653 / 2 ^ 31 = 0 ∨
  ((sec18 2).wr DBG_STATUS.DBG_TMUX 1).lc = 1 ∨
    ((sec18 2).wr DBG_STATUS.DBG_TMUX 1).lc = 3 ∨
      ((sec18 2).wr DBG_STATUS.DBG_TMUX 1).lc = 2 ∧ ((sec18 2).wr DBG_STATUS.DBG_TMUX 1).on DBG_STATUS.DBG_TMUX = true) := by
  unfold State.serves; decide +kernel

theorem witness_DebugAccess_tmuxOff :
    8912904 = Reg.DBG_TMSEL.base ∧
    (sec18 4).serves 8912904 true ∧
    Reg.DBG_TMSEL.reservedSet 5 = false ∧
    (5 / 2 ^ 31 = 0 ∨ (sec18 4).lc = 1 ∨ (sec18 4).lc = 3 ∨ (sec18 4).lc = 2 ∧ (sec18 4).on DBG_STATUS.DBG_TMUX = true) := by
  unfold State.serves; decide +kernel

theorem witness_DebugAccess_idcode :
    1 = 1 := by
  decide +kernel

theorem witness_DebugAccess_bypass :
    0 = 0 := by
  decide +kernel

theorem witness_DebugAccess_sample :
    2 = 2 := by
  decide +kernel

theorem witness_DebugAccess_extest :
    3 ≤ 3 ∧
    3 ≤ 7 ∧
    (sec18 0).lc ≠ 4 := by
  decide +kernel

theorem witness_DebugAccess_extestEnd :
    3 ≤ 7 ∧
    7 ≤ 7 ∧
    (sec18 4).lc = 4 := by
  decide +kernel

theorem witness_DebugAccess_scan :
    8 = 8 ∧
    ((sec18 3).lc = 1 ∨ (sec18 3).lc = 3 ∨ (sec18 3).lc = 2 ∧ (sec18 3).on DBG_STATUS.DBG_JTAG = true) := by
  decide +kernel

theorem witness_DebugAccess_scanNot :
    8 = 8 ∧
    ((sec18 2).lc = 0 ∨ (sec18 2).lc = 4 ∨ (sec18 2).lc = 2 ∧ (sec18 2).on DBG_STATUS.DBG_JTAG = false) := by
  decide +kernel

/-- What the tests below read of a step. -/
def after (r : Host.Outcome State Fault Refusal) : State :=
  match r with
  | .next t => t
  | _ => hub
def bytes20 (n : Nat) : List Byte := List.replicate n 0

/-! A term that is not well formed for each check of WellFormed.lean, beside one that is. -/
theorem test_wf_payloads : Instr.wf (.frontReqReceive 0 (bytes20 23)) = false ∧ Instr.wf (.frontReqReceive 0 (bytes20 24)) = true ∧
    Instr.wf (.frontAckReceive 0 []) = false ∧ Instr.wf (.frontNackReceive 0 []) = false ∧ Instr.wf (.laneReqReceive 0 []) = false ∧
    Instr.wf (.laneAckReceive 0 []) = false ∧ Instr.wf (.laneNackReceive 0 (bytes20 25)) = false ∧ Instr.wf (.creditReceive 0 []) = false ∧
    Instr.wf (.creditSyncReceive 0 []) = false ∧ Instr.wf (.rekeyReceive 0 []) = false ∧ Instr.wf (.rekeyAckReceive 0 []) = false ∧
    Instr.wf (.alignIdReceive 0 []) = false ∧ Instr.wf (.alignCredReceive 0 []) = false ∧ Instr.wf (.authMessageReceive 0 [] true) = false ∧
    Instr.wf (.authDoneReceive 0 []) = false := by decide
theorem test_wf_slots : Instr.wf (.syncReceive 0 (some []) 0) = false ∧ Instr.wf (.syncReceive 0 none 256) = false ∧ Instr.wf (.syncReceive 0 none 255) = true ∧
    Instr.wf (.slotCommit 0 4096) = false ∧ Instr.wf (.slotCommit 0 4095) = true ∧ Instr.wf (.flitPresentation 0 4096) = false ∧
    Instr.wf (.isoDeparture 0 4096) = false ∧ Instr.wf (.guarDeparture 0 4096) = false ∧ Instr.wf (.flitReceive 0 4096 (bytes20 32) 0) = false ∧
    Instr.wf (.flitReceive 0 0 (bytes20 31) 0) = false := by decide
theorem test_wf_lanes : Instr.wf (.laneFail 0 3 0) = false ∧ Instr.wf (.laneFail 0 3 1) = true ∧ Instr.wf (.horizonScanDone 0 [4294967296]) = false ∧
    Instr.wf (.prbsLockLoss 0 3 2 1) = false ∧ Instr.wf (.dfeAdapt 0 3 true []) = false ∧ Instr.wf (.equalizeDone 0 ⟨[0, 0], [0, 0, 0], false, 0, [], [], []⟩) = false ∧
    Instr.wf (.deskewDone 0 1024) = false ∧ Instr.wf (.loopMeasure 0 1048576) = false ∧ Instr.wf (.loopMeasure 0 1048575) = true := by decide
theorem test_wf_frames : Instr.wf (.fsFrameReceive 0 (bytes20 13) true 0) = false ∧ Instr.wf (.ethFrameReceive 0 (bytes20 13) true 0 0 0) = false ∧
    Instr.wf (.ethFrameReceive 0 (bytes20 14) true (2 ^ 64) 0 0) = false ∧ Instr.wf (.ethFrameReceive 0 (bytes20 14) true 0 0 0) = true ∧
    Instr.wf (.pcieTlpReceive (bytes20 13)) = false ∧ Instr.wf (.pcieTlpReceive (bytes20 8)) = false ∧ Instr.wf (.pcieTlpReceive (bytes20 12)) = true := by decide
theorem test_wf_times : Instr.wf (.diEdge 0 true (2 ^ 64)) = false ∧ Instr.wf (.diAccept 0 (2 ^ 64)) = false ∧ Instr.wf (.fieldOkReturn (2 ^ 64)) = false ∧
    Instr.wf (.clockPairSend 0 (2 ^ 48) 0) = false ∧ Instr.wf (.clockPairReceive 0 0 (2 ^ 80) 0) = false ∧ Instr.wf (.lossReport 1 (2 ^ 64) 0) = false := by decide
theorem test_wf_display : Instr.wf (.dpLineReceive 0 [] 0) = false ∧ Instr.wf (.videoUnitReceive 0 [] [] 0) = false ∧
    Instr.wf (.auxRequest 0 0 0 0 (bytes20 17)) = false ∧ Instr.wf (.sinkAttach 0 (bytes20 257) [] true true) = false ∧
    Instr.wf (.sinkAttach 0 [] (bytes20 513) true true) = false := by decide +kernel
theorem test_wf_usb : Instr.wf (.burstDone [6] [[]]) = false ∧ Instr.wf (.burstDone [5] []) = false ∧ Instr.wf (.burstDone [5] [[]]) = true ∧
    Instr.wf (.nakTimeout [6] [[]]) = false ∧ Instr.wf (.microframeStart [64] [0] [[]]) = false ∧ Instr.wf (.microframeStart [63] [] [[]]) = false := by decide
theorem test_wf_rest : Instr.wf (.efSample [] [] []) = false ∧ Instr.wf (.fabricResetRelease 0 [⟨616, 0, 0⟩] [] [] true true) = false ∧
    Instr.wf (.bootBlockTimeout 65536) = false ∧ Instr.wf (.event 0 0 (bytes20 15)) = false ∧ Instr.wf (.err 0 0 (bytes20 23)) = false ∧
    Instr.wf (.armPs 0 0 0 true (bytes20 16) (bytes20 47)) = false ∧ Instr.wf (.armPs 0 0 0 false [] []) = true ∧
    Instr.wf (.armBoot 0 0 0 true (bytes20 15) (bytes20 48)) = false ∧ Instr.wf (.macroScrub 0 0 0 (2 ^ 20) 0 true true) = false ∧
    Instr.wf (.marchDone (List.replicate 617 0) 0) = false ∧ Instr.wf (.marchDone (List.replicate 616 0) 616) = true := by decide +kernel

/-! Values that the spec works out. -/

/-- The example of R139: a SYNC flit's header 0x5000. -/
theorem test_crc : [(3 : Nat), 2, 1].map (fun k => ([false, false, false].take (4 - k)).foldl crc24Bit 0xFFFFFF) = [0xA29235, 0x1849A1, 0x309342] ∧
    crc24 [0x00] = 0x806931 ∧ crc24 [0x00, 0x50] = 0x93C4B6 := by decide

/-- SHA-384 (R37) of the empty text and of "abc": the digests that FIPS 180 gives, first and last bytes. -/
theorem test_sha : (sha384 []).take 4 = [0x38, 0xB0, 0x60, 0xA7] ∧ (sha384 [0x61, 0x62, 0x63]).take 8 = [0xCB, 0x00, 0x75, 0x3F, 0x45, 0xA3, 0x5E, 0x8B] ∧
    (sha384 [0x61, 0x62, 0x63]).drop 44 = [0x34, 0xC8, 0x25, 0xA7] := by decide +kernel

/-- R172: cells of a frame of 9,216 bytes, and of one of 1,514. -/
theorem test_cells : cellsFor 9216 = 37 ∧ cellsFor 1514 = 6 := by decide

/-- The example of chapter 0: event 0x0C5 is local event 5 of JXL2. -/
theorem test_event_id : Ev.JXP_PROB_PASS 2 = 0x0C5 := by decide

/-- The read-out example of spec/17: three messages at rest, popped in priority order. -/
def queue20 : List EvMsg := [⟨5, 0x050, 0, 0, 0, true⟩, ⟨6, 0x141, 1, 0, 0, true⟩, ⟨7, 0x182, 2, 0, 0, true⟩]
theorem test_evqPop : ({ hub with evq := queue20 } : State).evqWord 0 = 0x00078982 ∧
    (after (exec (.evqPop 0x80000007) { hub with evq := queue20 })).evqWord 0 = 0x00068541 := by decide +kernel
theorem test_evqPop_next : (after (exec (.evqPop 0x80000006) { hub with evq := queue20.take 2 })).evqWord 0 = 0x00058050 ∧
    (after (exec (.evqPop 0x80000005) { hub with evq := queue20.take 1 })).evqWord 0 = 0 := by decide +kernel

/-- The example of R126: logical lane 3 moves to physical lane 8 at superframe 0x0001_2344. -/
def subst20 : State := ((linked 2 6).wr JXP_TXMAP.MAP 0x76543210 2 |>.wr PLN_SFN.SFN 0x12344).modLane 2 (fun a => { a with substTx := [⟨3, 3, 8, 0x12344⟩] })
theorem test_laneSubstEffect : (after (exec (.laneSubstEffect 2) subst20)).rd JXP_TXMAP.MAP 2 = 0x76548210 := by decide

/-- The example of spec/07: queue A (weight 3) sends 1,538 bytes at tag 0 and at tag 2,099,883; B has weight 1. -/
def wfq20 (t : Nat) : State := ((hub.wr TMG_NCFG.WEIGHT 3 10).wr TMG_NCFG.WEIGHT 1 11).setNode 10 { NodeRun.init with t := t }
theorem test_wfq : let a := (wfq20 0).serveChild 10 1538
    (a.node 10).t = 2099883 ∧ ((wfq20 2099883).serveChild 10 1538).node 10 = { NodeRun.init with t := 4199766 } ∧
      (((wfq20 2099883).serveChild 10 1538).node (4096 + hub.parentOf 10)).v = 2099883 ∧ ((wfq20 0).serveChild 11 1538).node 11 = { NodeRun.init with t := 6299648 } := by decide +kernel

/-- The shaper example of spec/07: ℓ of a 1,518-byte frame on ETH5 is 1,538, which takes 153,800,000 units; a refill at 100,000 kb/s adds 1,600,000. -/
def shaped20 : State := ((hub.wr TMG_PIR.RATE 100000 300).wr TMG_PBS.BURST 64 300).setNode 300 { NodeRun.init with pir := 100000, pbs := 64, p := 0 }
theorem test_nodeRefill : hub.accounted 9 1518 = 1538 ∧ ((shaped20.charge 300 1538).node 300).p = -153800000 ∧
    ((after (exec (.nodeRefill 300) (shaped20.charge 300 1538))).node 300).p = -153800000 + 1600000 ∧
    ((after (exec (.nodeRefill 300) (shaped20.setNode 300 { NodeRun.init with pir := 100000, pbs := 64, p := 409000000 }))).node 300).p = 409600000 := by
  decide +kernel

/-- The chattering photo-eye of spec/08, input 5, steps 1, 5 and 7. -/
def eye20 (d : DiRun) : State := ((((hub.wr FLD_DICFG.EN 1 5).wr FLD_DICHAT.CHAT_N 5 5).wr FLD_DICHAT.CHAT_WIN 100 5).wr FLD_STATUS.FIELD_OK 1).setDi 5 d
theorem test_diAccept : let t := after (exec (.diAccept 5 12000000) ((eye20 ⟨some 10000000, [], 40, none, 0⟩).wr FLD_DISTAT.RAW 1 5))
    (t.di 5).value = 43 ∧ t.fld.tsFifo = [⟨5, true, false, 10000000⟩] := by decide +kernel
theorem test_diAccept_chatter : let t := after (exec (.diAccept 5 92000000)
      ((eye20 ⟨some 90000000, [72000000, 52000000, 32000000, 12000000], 48, some 72000000, 70000000⟩).wr FLD_DISTAT.RAW 1 5))
    (t.di 5).value = 48 ∧ t.rd FLD_DISTAT.CHATTER 5 = 1 ∧ t.fld.tsFifo = [] := by decide +kernel
theorem test_chatterEnd : let t := after (exec (.chatterEnd 5)
      (((eye20 ⟨none, [], 48, some 92000000, 90000000⟩).wr FLD_DISTAT.LEVEL 1 5).wr FLD_DISTAT.CHATTER 1 5))
    (t.di 5).value = 51 ∧ t.fld.tsFifo = [⟨5, true, true, 90000000⟩] ∧ t.rd FLD_DISTAT.CHATTER 5 = 0 := by decide +kernel

/-- The worked example of spec/19: errors of one class while its record is held. -/
theorem test_macroScrub : let t := after (exec (.macroScrub 551 5 0 0 2 true false)
      (((hub.wr MEM_CAP0.VALID 1 3).wr MEM_CAP0.MACRO 547 3).wr EVU_SRC.STATUS 1 0x3F9))
    t.rd MEM_CAP0.MACRO 3 = 547 ∧ t.rd MEM_CAP0.COUNT 3 = 1 ∧ t.rd MEM_CAP0.MULTI 3 = 1 ∧ t.rd EVU_SRC.REPEAT 0x3F9 = 1 := by decide +kernel

end Sys2Proof.Tests
end

/-! Chapter 0 (spec/00_scope.md): what a step does, the state right after reset, and management writes by field type (R5 to R7, R10, R11). -/

namespace Sys2Proof.Machine

section Steps

/-- The queue loses its front command, and that command acts on the rest (spec/95_what_each_step_holds.md). -/
theorem step_cons (c : Instr) (l : List Instr) (s : State) : step { s with pending := c :: l } = exec c { s with pending := l } := rfl

theorem step_of_pending_nil (s : State) (h : s.pending = []) : step s = .next s := by
  unfold step
  rw [h]

theorem step_of_pending_cons (s : State) (c : Instr) (l : List Instr) (h : s.pending = c :: l) :
    step s = exec c { s with pending := l } := by
  unfold step
  rw [h]

/-- The meaning of each command is a next state, given outright: a request that fails its checks is answered inside it (R11). -/
theorem exec_completes (c : Instr) (s : State) : ∃ t, exec c s = .next t := by
  cases c <;> exact ⟨_, rfl⟩

theorem step_completes (s : State) : ∃ t, step s = .next t := by
  cases h : s.pending with
  | nil => exact ⟨s, step_of_pending_nil s h⟩
  | cons c l => rw [step_of_pending_cons s c l h]; exact exec_completes c _

/-- Settles O1, from the two equations of `step`. -/
theorem stepTakesFront : Obligations.StepTakesFront := ⟨step_cons, step_of_pending_nil⟩

/-- Settles O2: a command's meaning is a next state, and `step` is that meaning or idles. -/
theorem everyCommandCompletes : Obligations.EveryCommandCompletes := ⟨exec_completes, step_completes⟩

end Steps

section Reset

/-- At reset no register is listed, so each reads the value its table gives (log entry 11). -/
@[simp] theorem State.rd_reset (f : Field) (i : Nat) : State.reset.rd f i = f.resetAt i := RegFile.rd_nil f i

theorem State.inv_reset : State.reset.Inv := ⟨rfl, Nat.zero_le 64, Nat.zero_lt_succ 65535⟩

/-- A source's severity at reset is that of its event table (R442). -/
theorem resetAt_severity (i : Nat) : EVU_SRC.SEV.resetAt i = (Ev.severity? i).getD 0 := rfl

/-- Settles O5: every table of the reset state is empty, so every field reads its reset value. -/
theorem resetState : Obligations.ResetState := by
  refine ⟨State.inv_reset, rfl, rfl, rfl, State.rd_reset, fun p => ?_, fun i => ?_, ?_⟩
  · exact State.rd_reset JXK_STATUS.STATE p.val
  · rw [State.rd_reset, resetAt_severity]
  · exact State.rd_reset EVU_STATUS.COUNT 0

end Reset

section FieldTypes

theorem and_mod_two (x y : Nat) : (x &&& y) % 2 = (x % 2 &&& y % 2) := Nat.and_mod_two_pow (n := 1)

theorem sub_and_mod_two (x y : Nat) : (x - (x &&& y)) % 2 = x % 2 - (x % 2 &&& y % 2) := by
  have le : (x &&& y) ≤ x := Nat.and_le_left
  have low : (x % 2 &&& y % 2) ≤ x % 2 := Nat.and_le_left
  rw [← and_mod_two] at low ⊢
  omega

theorem sub_and_div_two (x y : Nat) : (x - (x &&& y)) / 2 = x / 2 - (x / 2 &&& y / 2) := by
  have le : (x &&& y) ≤ x := Nat.and_le_left
  have low : (x % 2 &&& y % 2) ≤ x % 2 := Nat.and_le_left
  rw [← and_mod_two] at low
  rw [← Nat.and_div_two]
  omega

/-- Clearing the bits that a write carries (R6), bit by bit. -/
theorem testBit_sub_and (x y b : Nat) : (x - (x &&& y)).testBit b = (x.testBit b && !y.testBit b) := by
  induction b generalizing x y with
  | zero =>
    rw [Nat.testBit_zero, Nat.testBit_zero, Nat.testBit_zero, sub_and_mod_two]
    rcases Nat.mod_two_eq_zero_or_one x with hx | hx <;> rcases Nat.mod_two_eq_zero_or_one y with hy | hy <;> rw [hx, hy] <;> rfl
  | succ b ih => rw [Nat.testBit_succ, Nat.testBit_succ, Nat.testBit_succ, sub_and_div_two, ih]

/-- What a field holds after a write that carries `new` for it, by its type (R6). -/
def Field.written (f : Field) (old new : Nat) : Nat :=
  match f.kind with
  | .rw | .rwl => new % 2 ^ f.width
  | .w1c | .rs => (old - (old &&& new)) % 2 ^ f.width
  | .cnt => 0
  | .ro | .wo => old

theorem Field.written_rw (f : Field) (old data : Nat) (h : f.kind = .rw ∨ f.kind = .rwl) : f.written old (f.of data) = f.of data := by
  have cut : f.of data % 2 ^ f.width = f.of data := Nat.mod_mod _ _
  rcases h with h | h <;> simp [Field.written, h, cut]

theorem Field.testBit_written_w1c (f : Field) (old new b : Nat) (h : f.kind = .w1c ∨ f.kind = .rs) (hb : b < f.width) :
    (f.written old new).testBit b = (old.testBit b && !new.testBit b) := by
  have cut : f.written old new = (old - (old &&& new)) % 2 ^ f.width := by rcases h with h | h <;> simp [Field.written, h]
  rw [cut, Nat.testBit_mod_two_pow, testBit_sub_and, decide_eq_true hb, Bool.true_and]

theorem Field.written_cnt (f : Field) (old new : Nat) (h : f.kind = .cnt) : f.written old new = 0 := by simp [Field.written, h]

theorem Field.written_ro (f : Field) (old new : Nat) (h : f.kind = .ro ∨ f.kind = .wo) : f.written old new = old := by
  rcases h with h | h <;> simp [Field.written, h]

theorem State.rd_writeField_same (s : State) (f : Field) (i data : Nat) :
    (s.writeField f i data).rd f i = f.written (s.rd f i) (f.of data) := by
  unfold State.writeField Field.written
  cases f.kind <;> simp

theorem State.rd_writeField_ne (s : State) (f g : Field) (i j data : Nat) (h : f.id ≠ g.id) :
    (s.writeField f i data).rd g j = s.rd g j := by
  unfold State.writeField
  cases f.kind <;> simp [State.rd_wr_ne _ _ _ _ _ _ h]

theorem State.onlyRegs_refl (s : State) (l : List (Field × Nat)) : s.onlyRegs s l := ⟨rfl, s.keepsRegs_refl l⟩

theorem State.onlyRegs_wr {s t : State} {l : List (Field × Nat)} (h : s.onlyRegs t l) (f : Field) (v i : Nat) (m : (f, i) ∈ l) :
    s.onlyRegs (t.wr f v i) l := by
  obtain ⟨same, keeps⟩ := h
  exact ⟨by rw [same]; rfl, State.keepsRegs_wr keeps f v i m⟩

theorem State.onlyRegs_writeField {s t : State} {l : List (Field × Nat)} (h : s.onlyRegs t l) (f : Field) (i data : Nat) (m : (f, i) ∈ l) :
    s.onlyRegs (t.writeField f i data) l := by
  unfold State.writeField
  cases f.kind
  case ro | wo => exact h
  all_goals exact State.onlyRegs_wr h f _ i m

/-- Every field of a list written by its type. -/
def State.writeList (s : State) (l : List Field) (i data : Nat) : State := l.foldl (fun s f => s.writeField f i data) s

@[simp] theorem State.writeList_nil (s : State) (i data : Nat) : s.writeList [] i data = s := rfl
@[simp] theorem State.writeList_cons (s : State) (f : Field) (l : List Field) (i data : Nat) :
    s.writeList (f :: l) i data = (s.writeField f i data).writeList l i data := rfl

theorem State.writeFields_eq_writeList (s : State) (d : RegDesc) (i data : Nat) : s.writeFields d i data = s.writeList d.fields i data := rfl

theorem State.onlyRegs_writeList {s t : State} {k : List (Field × Nat)} (l : List Field) (i data : Nat) (h : s.onlyRegs t k)
    (m : ∀ f ∈ l, (f, i) ∈ k) : s.onlyRegs (t.writeList l i data) k := by
  induction l generalizing t with
  | nil => exact h
  | cons f r ih => exact ih (State.onlyRegs_writeField h f i data (m f (by simp))) (fun g hg => m g (by simp [hg]))

theorem State.onlyRegs_writeFields (s : State) (d : RegDesc) (i data : Nat) :
    s.onlyRegs (s.writeFields d i data) (d.fields.map (fun f => (f, i))) :=
  State.onlyRegs_writeList d.fields i data (s.onlyRegs_refl _) (fun _ hf => List.mem_map_of_mem hf)

theorem State.rd_writeList_ne (s : State) (l : List Field) (g : Field) (i j data : Nat) (h : ∀ f ∈ l, f.id ≠ g.id) :
    (s.writeList l i data).rd g j = s.rd g j := by
  induction l generalizing s with
  | nil => rfl
  | cons f r ih =>
    rw [State.writeList_cons, ih _ (fun k hk => h k (by simp [hk])), State.rd_writeField_ne _ _ _ _ _ _ (h f (by simp))]

/-- Fields of one register have distinct identities, so each is written once and from its old value. -/
theorem State.rd_writeList (s : State) (l : List Field) (f : Field) (i data : Nat) (hf : f ∈ l) (distinct : (l.map (fun f => f.id)).Nodup) :
    (s.writeList l i data).rd f i = f.written (s.rd f i) (f.of data) := by
  induction l generalizing s with
  | nil => cases hf
  | cons g r ih =>
    obtain ⟨hg, hr⟩ := List.nodup_cons.1 distinct
    have away : ∀ k ∈ r, k.id ≠ g.id := fun k hk e => hg (List.mem_map.2 ⟨k, hk, e⟩)
    rw [State.writeList_cons]
    rcases List.mem_cons.1 hf with rfl | hf
    · rw [State.rd_writeList_ne _ _ _ _ _ _ away, State.rd_writeField_same]
    · rw [ih _ hf hr, State.rd_writeField_ne _ _ _ _ _ _ (away f hf).symm]

end FieldTypes

section RegisterWrites

/-- The answer to the common checks of a register write, in the order of R10. -/
theorem State.firstStatus_writeChecks (s : State) (d : RegDesc) (i data : Nat) :
    firstStatus (s.writeChecks d i data) =
      if d.fields.any (fun f => s.locks f i data) then St.STATE
      else if d.reservedSet data || d.fields.any (fun f => f.badCount data) then St.VALUE
      else if d.fields.any (fun f => f.outOfRange data) then St.RANGE
      else St.OK := by
  unfold State.writeChecks
  cases d.fields.any (fun f => s.locks f i data) <;>
    cases (d.reservedSet data || d.fields.any (fun f => f.badCount data)) <;>
    cases d.fields.any (fun f => f.outOfRange data) <;> rfl

/-- Address `a` names copy `i` of register `d`, which has no rule of its own (R5, R6). -/
structure PlainReg (a : Nat) (d : RegDesc) (i : Nat) : Prop where
  aligned : a % 4 = 0
  noWindow : findWindow a = none
  found : findReg a = some (d, i)
  noRule : allWrites.lookup d.base = none
  notCmd : d.base ≠ Reg.BOOT_CMD.base
  notPush : d.base ≠ Reg.BOOT_PUSHDATA.base
  notUsb : inUsb a = false
  notPwp : inPwp a = false

theorem findReg_bootCmd : findReg Reg.BOOT_CMD.base = some (Reg.BOOT_CMD, 0) := by decide +kernel
theorem findReg_bootPushdata : findReg Reg.BOOT_PUSHDATA.base = some (Reg.BOOT_PUSHDATA, 0) := by decide +kernel

/-- The table of the map: distinct identities, fields within the word, no two of them overlapping (R5, R6). -/
theorem regMap_fields : ∀ d ∈ regMap, (d.fields.map (fun f => f.id)).Nodup ∧ d.fields.all (fun f => decide (f.lsb + f.width ≤ 32)) = true ∧
    d.fields.Pairwise (fun f g => f.lsb + f.width ≤ g.lsb ∨ g.lsb + g.width ≤ f.lsb) := by decide +kernel

theorem findReg_mem {a : Nat} {d : RegDesc} {i : Nat} (h : findReg a = some (d, i)) : d ∈ regMap := by
  obtain ⟨e, he, hi⟩ := List.exists_of_findSome?_eq_some h
  obtain ⟨j, -, hj⟩ := Option.map_eq_some_iff.1 hi
  cases hj
  exact he

/-- The scratchpad is a window (R435). -/
theorem findWindow_scratch (a : Nat) (lo : 0x740000 ≤ a) (hi : a < 0x7C0000) : findWindow a = some (.scratch, a - 0x740000) := by
  unfold findWindow
  rw [if_neg (by omega), if_neg (by omega), if_neg (by omega), if_neg (by omega), if_pos ⟨lo, hi⟩]

theorem not_inScratch_of_findWindow_none (a : Nat) (h : findWindow a = none) : inScratch a = false := by
  cases hs : inScratch a with
  | false => rfl
  | true =>
    simp only [inScratch, Bool.and_eq_true, decide_eq_true_eq] at hs
    rw [findWindow_scratch a hs.1 hs.2] at h
    cases h

variable {a : Nat} {d : RegDesc} {i : Nat}

theorem PlainReg.badAddr (p : PlainReg a d i) : badAddr a = false := by
  simp [Machine.badAddr, p.aligned, p.found]

/-- An address that another register decodes is not this one's. -/
theorem PlainReg.ne_base (p : PlainReg a d i) {e : RegDesc} (found : findReg e.base = some (e, 0)) (ne : d.base ≠ e.base) : a ≠ e.base := by
  rintro rfl
  cases p.found.symm.trans found
  exact ne rfl

/-- Such a write takes the way of the field types alone. -/
theorem PlainReg.writeAt (p : PlainReg a d i) (s : State) (data : Nat) : s.writeAt a data = s.writeReg d i data [] id := by
  have notCmd := p.ne_base findReg_bootCmd p.notCmd
  have notPush := p.ne_base findReg_bootPushdata p.notPush
  simp [State.writeAt, notCmd, notPush, State.coreWrite, p.aligned, p.noWindow, p.found, p.notUsb, p.notPwp, State.regWrite, p.noRule]

theorem PlainReg.mgmtWrite (p : PlainReg a d i) (s : State) (hit data : Nat) (h : s.serves a true) :
    s.mgmtWrite hit a data = s.writeReg d i data [] id := by
  unfold State.mgmtWrite State.addrAccess
  rw [p.badAddr, if_neg (by simp), State.access_serves s a true _ h, not_inScratch_of_findWindow_none a p.noWindow, if_neg (by simp)]
  exact p.writeAt s data

theorem State.writeReg_fail (s : State) (d : RegDesc) (i data : Nat) (h : firstStatus (s.writeChecks d i data) ≠ St.OK) :
    s.writeReg d i data [] id = s.answer (firstStatus (s.writeChecks d i data)) := by
  unfold State.writeReg
  rw [List.append_nil, State.checked_fail _ _ _ h]

theorem State.writeReg_ok (s : State) (d : RegDesc) (i data : Nat) (h : firstStatus (s.writeChecks d i data) = St.OK) :
    s.writeReg d i data [] id = (s.writeFields d i data).answer St.OK := by
  unfold State.writeReg
  rw [List.append_nil, State.checked_ok _ _ _ h]
  rfl

theorem State.news_writeFields (s : State) (d : RegDesc) (i data : Nat) : (s.writeFields d i data).news = s.news := by
  rw [(s.onlyRegs_writeFields d i data).1]

/-- A write by field types alone tells the other blocks nothing. -/
theorem State.news_writeReg (s : State) (d : RegDesc) (i data : Nat) : (s.writeReg d i data [] id).news = s.news := by
  by_cases h : firstStatus (s.writeChecks d i data) = St.OK
  · rw [State.writeReg_ok s d i data h, State.news_answer, State.news_writeFields]
  · rw [State.writeReg_fail s d i data h, State.news_answer]

theorem exec_registerWrite (addr data : Word) (hit : Fin 3) (s : State) :
    exec (.registerWrite addr data hit) s = .next (s.settling (fun s => s.mgmtWrite hit.val addr.toNat data.toNat)) := rfl

/-- An address that no block decodes is answered first (R5, R10). -/
theorem State.mgmtWrite_badAddr (s : State) (hit a data : Nat) (h : s.chip.phase = .running) (bad : badAddr a = true) :
    s.mgmtWrite hit a data = s.answer St.ADDR := by
  unfold State.mgmtWrite State.addrAccess
  rw [if_pos ⟨h, bad⟩]

theorem exec_registerWrite_badAddr (s : State) (addr data : Word) (hit : Fin 3) (h : s.chip.phase = .running) (bad : badAddr addr.toNat = true) :
    exec (.registerWrite addr data hit) s = .next (s.calm.answer St.ADDR) := by
  have act : s.calm.mgmtWrite hit.val addr.toNat data.toNat = s.calm.answer St.ADDR := State.mgmtWrite_badAddr s.calm _ _ _ h bad
  rw [exec_registerWrite, State.settling_quiet]
  · exact congrArg _ act
  · exact (congrArg State.news act).trans rfl

theorem PlainReg.exec_registerWrite {addr : Word} (p : PlainReg addr.toNat d i) (s : State) (data : Word) (hit : Fin 3)
    (h : s.serves addr.toNat true) : exec (.registerWrite addr data hit) s = .next (s.calm.writeReg d i data.toNat [] id) := by
  have act : s.calm.mgmtWrite hit.val addr.toNat data.toNat = s.calm.writeReg d i data.toNat [] id := p.mgmtWrite s.calm _ _ h
  rw [Machine.exec_registerWrite, State.settling_quiet]
  · exact congrArg _ act
  · exact (congrArg State.news act).trans (State.news_writeReg ..)

/-- A write that fails a check answers its status and changes nothing (R11). -/
theorem PlainReg.exec_refused {addr : Word} (p : PlainReg addr.toNat d i) (s : State) (data : Word) (hit : Fin 3) (h : s.serves addr.toNat true)
    (code : Nat) (fails : firstStatus (s.writeChecks d i data.toNat) = code) (ne : code ≠ St.OK) :
    exec (.registerWrite addr data hit) s = .next (s.calm.answer code) := by
  have fails : firstStatus (s.calm.writeChecks d i data.toNat) = code := fails
  rw [p.exec_registerWrite s data hit h, State.writeReg_fail _ _ _ _ (fails ▸ ne), fails]

theorem State.onlyAnswer_answer {s t : State} {l : List (Field × Nat)} (h : s.onlyRegs t l) (code : Nat) :
    s.onlyAnswer (t.answer code) l (.status code []) := by
  obtain ⟨same, keeps⟩ := h
  exact ⟨by rw [same]; rfl, keeps⟩

/-- A write that passes its checks gives each field of the register its value by type, and changes no other field (R6). -/
theorem PlainReg.exec_accepted {addr : Word} (p : PlainReg addr.toNat d i) (s : State) (data : Word) (hit : Fin 3) (h : s.serves addr.toNat true)
    (passes : firstStatus (s.writeChecks d i data.toNat) = St.OK) :
    ∃ t, exec (.registerWrite addr data hit) s = .next t ∧ s.calm.onlyAnswer t (d.fields.map (fun f => (f, i))) (.status St.OK []) ∧
      ∀ f ∈ d.fields, t.rd f i = f.written (s.rd f i) (f.of data.toNat) := by
  refine ⟨(s.calm.writeFields d i data.toNat).answer St.OK, ?_, State.onlyAnswer_answer (s.calm.onlyRegs_writeFields ..) _, fun f hf => ?_⟩
  · rw [p.exec_registerWrite s data hit h, State.writeReg_ok s.calm _ _ _ passes]
  · obtain ⟨distinct, -, -⟩ := regMap_fields d (findReg_mem p.found)
    exact s.calm.rd_writeList d.fields f i data.toNat hf distinct

end RegisterWrites

/-- Settles O6: the checks in the order of R10, then each field by its type; the register map by evaluating its table. -/
theorem registerWriteTypes : Obligations.RegisterWriteTypes := by
  refine ⟨fun s addr data hit h bad => exec_registerWrite_badAddr s addr data hit h bad, ?_, regMap_fields⟩
  intro s addr data hit d i h aligned noWindow found noRule notCmd notPush notUsb notPwp
  have p : PlainReg addr.toNat d i := ⟨aligned, noWindow, found, noRule, notCmd, notPush, notUsb, notPwp⟩
  have status := s.firstStatus_writeChecks d i data.toNat
  refine ⟨fun lock => ?_, fun lock bad => ?_, fun lock bad out => ?_, fun lock bad out => ?_⟩
  · exact p.exec_refused s data hit h St.STATE (by simp [status, lock]) (by decide)
  · exact p.exec_refused s data hit h St.VALUE (by simp [status, lock, bad]) (by decide)
  · exact p.exec_refused s data hit h St.RANGE (by simp [status, lock, bad, out]) (by decide)
  · obtain ⟨t, run, only, written⟩ := p.exec_accepted s data hit h (by simp [status, lock, bad, out])
    refine ⟨t, run, only, fun f hf => ?_⟩
    rw [written f hf]
    exact ⟨f.written_rw _ _, fun kind b hb => f.testBit_written_w1c _ _ b kind hb, f.written_cnt _ _, f.written_ro _ _⟩

end Sys2Proof.Machine

/-! The die-to-die link (R20, R249, R250, R499 to R501): bits of a lane mask, what the outputs' refresh leaves alone, and one lemma for each way
a lane failure, a loss or a retraining can end. -/

namespace Sys2Proof.Machine

section LaneMask

theorem bitAt_eq_testBit (v i : Nat) : bitAt v i = v.testBit i := by
  rw [Nat.testBit_eq_decide_div_mod_eq]; rfl

/-- Setting a clear bit changes that bit alone: without a carry, the halves of both numbers differ by the bit below. -/
theorem testBit_add_two_pow (v k i : Nat) (h : v.testBit k = false) : (v + 2 ^ k).testBit i = (v.testBit i || decide (i = k)) := by
  induction k generalizing v i with
  | zero =>
    have even : v % 2 = 0 := by simpa using h
    cases i with
    | zero => simp [Nat.add_mod, even]
    | succ i =>
      have half : (v + 1) / 2 = v / 2 := by omega
      simp [Nat.testBit_succ, half]
  | succ k ih =>
    have half : (v + 2 ^ (k + 1)) / 2 = v / 2 + 2 ^ k := by omega
    have low : (v + 2 ^ (k + 1)) % 2 = v % 2 := by omega
    cases i with
    | zero => simp [low]
    | succ i => simpa [Nat.testBit_succ, half] using ih (v / 2) i (by rwa [Nat.testBit_succ] at h)

@[simp] theorem popcount_zero (n : Nat) : popcount n 0 = 0 := by
  simp [popcount, bitAt_eq_testBit]

theorem popcount_succ (n v : Nat) : popcount (n + 1) v = popcount n v + (v.testBit n).toNat := by
  cases h : v.testBit n <;> simp [popcount, List.range_succ, bitAt_eq_testBit, h]

theorem popcount_mod_two_pow (n v : Nat) : popcount n (v % 2 ^ n) = popcount n v := by
  unfold popcount
  refine congrArg List.length (List.filter_congr fun i hi => ?_)
  rw [bitAt_eq_testBit, bitAt_eq_testBit, Nat.testBit_mod_two_pow, decide_eq_true (List.mem_range.1 hi), Bool.true_and]

/-- One more bit set is one more counted, if it lies among the bits that are counted. -/
theorem popcount_add_two_pow (n v k : Nat) (h : v.testBit k = false) :
    popcount n (v + 2 ^ k) = popcount n v + if k < n then 1 else 0 := by
  induction n with
  | zero => rfl
  | succ n ih =>
    rw [popcount_succ, popcount_succ, ih, testBit_add_two_pow v k n h]
    rcases Nat.lt_trichotomy k n with below | rfl | above
    · have apart : n ≠ k := by omega
      have counted : k < n + 1 := by omega
      simp only [below, apart, counted, if_true, decide_false, Bool.or_false]
      omega
    · simp [h]
    · have apart : n ≠ k := by omega
      have beyond : ¬ k < n := by omega
      have beyondNext : ¬ k < n + 1 := by omega
      simp only [beyond, apart, beyondNext, if_false, decide_false, Bool.or_false, Nat.add_zero]

theorem popcount_two_pow (n k : Nat) (h : k < n) : popcount n (2 ^ k) = 1 := by
  simpa [h] using popcount_add_two_pow n 0 k (Nat.zero_testBit k)

theorem bitAt_two_pow_of_ne (j k : Nat) (h : j ≠ k) : bitAt (2 ^ j) k = false := by
  rw [bitAt_eq_testBit, Nat.testBit_two_pow_of_ne h]

end LaneMask

section RefreshFrame

theorem State.rd_foldl {α : Type} (g : State → α → State) (f : Field) (i : Nat) (keeps : ∀ s a, (g s a).rd f i = s.rd f i) (l : List α) (s : State) :
    (l.foldl g s).rd f i = s.rd f i := by
  induction l generalizing s with
  | nil => rfl
  | cons a r ih => rw [List.foldl_cons, ih, keeps]

variable (s : State) (f : Field) (i : Nat) (notLevel : FLD_OSTAT.LEVEL.id ≠ f.id) (notPsafe : FLD_OSTAT.PSAFE.id ≠ f.id)
include notLevel notPsafe

/-- An output brought to its drive shows in LEVEL and PSAFE only (R246, R247). -/
theorem State.rd_refreshOutput (k : Nat) : (s.refreshOutput k).rd f i = s.rd f i := by
  unfold State.refreshOutput State.wrBit
  dsimp only
  rw [State.rd_wr_ne _ _ _ _ _ _ notPsafe, State.rd_wr_ne _ _ _ _ _ _ notLevel]
  split <;> rfl

theorem State.rd_refreshOutputs : s.refreshOutputs.rd f i = s.rd f i :=
  State.rd_foldl _ f i (fun s k => State.rd_refreshOutput s f i notLevel notPsafe k) _ s

theorem State.rd_setPoint (n v : Nat) : (s.setPoint n v).rd f i = s.rd f i :=
  State.rd_foldl _ f i (fun s k => State.rd_refreshOutput s f i notLevel notPsafe k) _ _

theorem State.rd_producePoint (n v : Nat) : (s.producePoint n v).rd f i = s.rd f i := by
  have point := State.rd_setPoint s f i notLevel notPsafe n v
  unfold State.producePoint
  dsimp only
  split <;> exact point

/-- New qualities on the inputs' points (R245) reach the registers only through the outputs that follow those points. -/
theorem State.rd_requalifyInputs : s.requalifyInputs.rd f i = s.rd f i := by
  refine State.rd_foldl _ f i (fun s k => ?_) _ s
  unfold State.diWrite
  split
  · exact State.rd_producePoint s f i notLevel notPsafe _ _
  · rfl

end RefreshFrame

section SafeLatch

/-- The cause of a latched safe state (R249) reads as set. -/
theorem State.rd_safeLatch_cause (s : State) (cause : Field) (notLevel : FLD_OSTAT.LEVEL.id ≠ cause.id) (notPsafe : FLD_OSTAT.PSAFE.id ≠ cause.id)
    (notSafe : FLD_OCTRL.SAFE.id ≠ cause.id) (notEvent : cause.id ∉ eventFields) : (s.safeLatch cause).rd cause = 1 % 2 ^ cause.width := by
  unfold State.safeLatch
  dsimp only
  split
  · exact State.rd_wr_same ..
  · rw [State.rd_refreshOutputs _ _ _ notLevel notPsafe, State.rd_raise _ _ _ _ _ notEvent, State.rd_wr_ne _ _ _ _ _ _ notSafe, State.rd_wr_same]

/-- The outputs are in their safe state once a cause has latched (R249). -/
theorem State.on_safeLatch_safe (s : State) (cause : Field) : (s.safeLatch cause).on FLD_OCTRL.SAFE = true := by
  unfold State.safeLatch
  dsimp only
  split
  · assumption
  · unfold State.on
    rw [State.rd_refreshOutputs _ _ _ (by decide) (by decide), State.rd_raise _ _ _ _ _ (by decide), State.rd_wr_same]
    rfl

/-- A latched cause changes, beside itself and the safe state, only what the outputs and the event unit show. -/
theorem State.rd_safeLatch_ne (s : State) (cause f : Field) (i : Nat) (notLevel : FLD_OSTAT.LEVEL.id ≠ f.id) (notPsafe : FLD_OSTAT.PSAFE.id ≠ f.id)
    (notSafe : FLD_OCTRL.SAFE.id ≠ f.id) (notEvent : f.id ∉ eventFields) (notCause : cause.id ≠ f.id) :
    (s.safeLatch cause).rd f i = s.rd f i := by
  unfold State.safeLatch
  dsimp only
  split
  · exact State.rd_wr_ne _ _ _ _ _ _ notCause
  · rw [State.rd_refreshOutputs _ _ _ notLevel notPsafe, State.rd_raise _ _ _ _ _ notEvent, State.rd_wr_ne _ _ _ _ _ _ notSafe,
      State.rd_wr_ne _ _ _ _ _ _ notCause]

end SafeLatch

section LinkDown

/-- The state of a link that was up and goes down (R20, R249, R501). -/
def State.d2dLost (s : State) : State :=
  (((s.raise 0x3FD).wr DBG_D2D.UP 0).wr FLD_STATUS.D2D_UP 0).requalifyInputs.safeLatch FLD_OSTAT.D2DLOSS

theorem State.d2dDown_of_up (s : State) (up : s.on DBG_D2D.UP = true) : s.d2dDown = s.d2dLost := if_pos up

theorem State.d2dDown_of_down (s : State) (down : s.on DBG_D2D.UP = false) : s.d2dDown = s := if_neg (by simp [down])

theorem State.rd_d2dLost_up (s : State) : s.d2dLost.rd DBG_D2D.UP = 0 := by
  unfold State.d2dLost
  rw [State.rd_safeLatch_ne _ _ _ _ (by decide) (by decide) (by decide) (by decide) (by decide),
    State.rd_requalifyInputs _ _ _ (by decide) (by decide), State.rd_wr_ne _ _ _ _ _ _ (by decide), State.rd_wr_same, Nat.zero_mod]

theorem State.rd_d2dLost_fieldUp (s : State) : s.d2dLost.rd FLD_STATUS.D2D_UP = 0 := by
  unfold State.d2dLost
  rw [State.rd_safeLatch_ne _ _ _ _ (by decide) (by decide) (by decide) (by decide) (by decide),
    State.rd_requalifyInputs _ _ _ (by decide) (by decide), State.rd_wr_same, Nat.zero_mod]

theorem State.rd_d2dLost_loss (s : State) : s.d2dLost.rd FLD_OSTAT.D2DLOSS = 1 :=
  State.rd_safeLatch_cause _ _ (by decide) (by decide) (by decide) (by decide)

theorem State.rd_d2dLost_safe (s : State) : s.d2dLost.rd FLD_OCTRL.SAFE ≠ 0 :=
  bne_iff_ne.1 (State.on_safeLatch_safe _ FLD_OSTAT.D2DLOSS)

theorem exec_d2dFail_of_up (s : State) (up : s.on DBG_D2D.UP = true) : exec .d2dFail s = .next s.d2dLost := congrArg _ (s.d2dDown_of_up up)

theorem exec_d2dFail_of_down (s : State) (down : s.on DBG_D2D.UP = false) : exec .d2dFail s = .next s := congrArg _ (s.d2dDown_of_down down)

end LinkDown

section LaneFailure

/-- A bit that was clear and is set adds its weight, within the field's width. -/
theorem State.rd_wrBit_set (s : State) (f : Field) (i k : Nat) (clear : bitAt (s.rd f i) k = false) :
    (s.wrBit f k true i).rd f i = (s.rd f i + 2 ^ k) % 2 ^ f.width := by
  unfold State.wrBit
  simp [clear]

/-- The hub with lane `k` declared failed; a failed lane stays failed (R500). -/
def State.d2dMarked (s : State) (k : Nat) : State := s.wrBit DBG_D2D.FAILED k true

theorem State.on_d2dMarked_up (s : State) (k : Nat) : (s.d2dMarked k).on DBG_D2D.UP = s.on DBG_D2D.UP :=
  congrArg (· != 0) (State.rd_wr_ne _ _ _ _ _ _ (by decide))

/-- A lane that had not failed adds one to the failed lanes. -/
theorem State.popcount_d2dMarked (s : State) (k : Fin 17) (good : bitAt (s.rd DBG_D2D.FAILED) k = false) :
    popcount 17 ((s.d2dMarked k).rd DBG_D2D.FAILED) = popcount 17 (s.rd DBG_D2D.FAILED) + 1 := by
  have mask : (s.d2dMarked k).rd DBG_D2D.FAILED = (s.rd DBG_D2D.FAILED + 2 ^ k.val) % 2 ^ 17 := State.rd_wrBit_set s _ 0 k good
  rw [mask, popcount_mod_two_pow, popcount_add_two_pow _ _ _ (by rwa [← bitAt_eq_testBit]), if_pos k.isLt]

theorem State.d2dLane_of_failed (s : State) (k : Nat) (failed : bitAt (s.rd DBG_D2D.FAILED) k = true) : s.d2dLane k = s := if_pos failed

/-- What the failure of a good lane does, by the number of lanes that had failed before it (R499 to R501). -/
theorem State.d2dLane_of_good (s : State) (k : Fin 17) (good : bitAt (s.rd DBG_D2D.FAILED) k = false) :
    s.d2dLane k =
      if 2 ≤ popcount 17 (s.rd DBG_D2D.FAILED) then (s.d2dMarked k).d2dDown
      else if popcount 17 (s.rd DBG_D2D.FAILED) = 1 then (s.d2dMarked k).wr DBG_D2D.EXPOSED 1
      else if k.val = 16 then s.d2dMarked k
      else (((s.d2dMarked k).wr DBG_D2D.SPARE_USED 1).wr DBG_D2D.SPARE_FOR k).raise 0x3FC k := by
  have count := s.popcount_d2dMarked k good
  unfold State.d2dMarked at count ⊢
  unfold State.d2dLane
  rw [if_neg (by simp [good])]
  simp only [count, Nat.reduceLeDiff, Nat.reduceEqDiff]

theorem exec_d2dLaneSpare_of_down (s : State) (k : Fin 17) (down : s.on DBG_D2D.UP = false) : exec (.d2dLaneSpare k) s = .next s :=
  congrArg _ (if_neg (by simp [down]))

theorem exec_d2dLaneSpare_of_up (s : State) (k : Fin 17) (up : s.on DBG_D2D.UP = true) : exec (.d2dLaneSpare k) s = .next (s.d2dLane k) :=
  congrArg _ (if_pos up)

/-- The first lane to fail is carried by lane 16, unless it is lane 16 itself (R499). -/
theorem State.d2dLane_first (s : State) (k : Fin 17) (noneFailed : s.rd DBG_D2D.FAILED = 0) :
    s.d2dLane k = if k.val = 16 then s.d2dMarked k
      else (((s.d2dMarked k).wr DBG_D2D.SPARE_USED 1).wr DBG_D2D.SPARE_FOR k).raise 0x3FC k := by
  have good : bitAt (s.rd DBG_D2D.FAILED) k = false := by rw [noneFailed, bitAt_eq_testBit, Nat.zero_testBit]
  rw [s.d2dLane_of_good k good, noneFailed, popcount_zero, if_neg (by decide), if_neg (by decide)]

/-- The second lane to fail puts the link into exposed mode (R500). -/
theorem State.d2dLane_second (s : State) (j k : Fin 17) (one : s.rd DBG_D2D.FAILED = 2 ^ j.val) (ne : j ≠ k) :
    s.d2dLane k = (s.d2dMarked k).wr DBG_D2D.EXPOSED 1 := by
  have good : bitAt (s.rd DBG_D2D.FAILED) k = false := by rw [one, bitAt_two_pow_of_ne _ _ (Fin.val_ne_of_ne ne)]
  rw [s.d2dLane_of_good k good, one, popcount_two_pow 17 j j.isLt, if_neg (by decide), if_pos rfl]

/-- The third lane to fail takes the link down (R501). -/
theorem State.d2dLane_third (s : State) (i j k : Fin 17) (up : s.on DBG_D2D.UP = true) (two : s.rd DBG_D2D.FAILED = 2 ^ i.val + 2 ^ j.val)
    (ij : i ≠ j) (ik : i ≠ k) (jk : j ≠ k) : s.d2dLane k = (s.d2dMarked k).d2dLost := by
  have iClear : (2 ^ i.val).testBit j = false := Nat.testBit_two_pow_of_ne (Fin.val_ne_of_ne ij)
  have good : bitAt (s.rd DBG_D2D.FAILED) k = false := by
    rw [two, bitAt_eq_testBit, testBit_add_two_pow _ _ _ iClear, Nat.testBit_two_pow_of_ne (Fin.val_ne_of_ne ik)]
    simpa using Fin.val_ne_of_ne jk.symm
  have count : popcount 17 (s.rd DBG_D2D.FAILED) = 2 := by
    rw [two, popcount_add_two_pow _ _ _ iClear, popcount_two_pow 17 i i.isLt, if_pos j.isLt]
  rw [s.d2dLane_of_good k good, count, if_pos (Nat.le_refl 2), State.d2dDown_of_up _ (by rwa [State.on_d2dMarked_up])]

end LaneFailure

section Retry

/-- A counter saturates at its width. -/
theorem State.rd_bump_same (s : State) (f : Field) (i n : Nat) : (s.bump f i n).rd f i = min (s.rd f i + n) (2 ^ f.width - 1) := by
  have pos : 0 < 2 ^ f.width := Nat.two_pow_pos _
  unfold State.bump satAdd
  rw [State.rd_wr_same]
  split
  case isTrue fits => rw [Nat.mod_eq_of_lt fits]; omega
  case isFalse full => rw [Nat.mod_eq_of_lt (by omega)]; omega

theorem State.onlyRegs_bump {s t : State} {l : List (Field × Nat)} (h : s.onlyRegs t l) (f : Field) (i n : Nat) (m : (f, i) ∈ l) :
    s.onlyRegs (t.bump f i n) l := State.onlyRegs_wr h f _ i m

end Retry

section Retrain

theorem exec_d2dRetrain_refused (s : State) (ok : Bool)
    (h : ok = false ∨ s.on DBG_D2D.UP = true ∨ 3 ≤ popcount 17 (s.rd DBG_D2D.FAILED) ∨ s.chip.phase ≠ .running) :
    exec (.d2dRetrain ok) s = .next s := by
  refine congrArg _ (if_neg ?_)
  rintro ⟨down, good, few, running⟩
  rcases h with h | h | h | h
  · simp [h] at good
  · simp [h] at down
  · omega
  · exact h running

theorem exec_d2dRetrain_up (s : State) (down : s.on DBG_D2D.UP = false) (few : popcount 17 (s.rd DBG_D2D.FAILED) < 3)
    (running : s.chip.phase = .running) :
    exec (.d2dRetrain true) s = .next ((s.wr DBG_D2D.UP 1).wr FLD_STATUS.D2D_UP 1).requalifyInputs :=
  congrArg _ (if_pos ⟨down, rfl, few, running⟩)

/-- Outputs that a loss has put into their safe state stay there when the link comes back, until they are armed (R250, R501). -/
theorem State.rd_d2dBack_safe (s : State) :
    ((s.wr DBG_D2D.UP 1).wr FLD_STATUS.D2D_UP 1).requalifyInputs.rd FLD_OCTRL.SAFE = s.rd FLD_OCTRL.SAFE := by
  rw [State.rd_requalifyInputs _ _ _ (by decide) (by decide), State.rd_wr_ne _ _ _ _ _ _ (by decide), State.rd_wr_ne _ _ _ _ _ _ (by decide)]

end Retrain

/-- Settles O59: lane failures by the count of lanes that had failed, then the loss, the retry counters and the retraining. -/
theorem dieToDieLink : Obligations.DieToDieLink := by
  refine ⟨fun s k => ?lanes, fun s up => ?lost, fun s corr => ?retry, fun s ok => ⟨exec_d2dRetrain_refused s ok, ?retrain⟩⟩
  case lanes =>
    refine ⟨fun down => ⟨exec_d2dLaneSpare_of_down s k down, exec_d2dFail_of_down s down⟩, exec_d2dFail_of_up s, ?_, ?_, ?_, ?_, ?_⟩
    · intro up failed
      rw [exec_d2dLaneSpare_of_up s k up, s.d2dLane_of_failed k failed]
    · intro up noneFailed data
      rw [exec_d2dLaneSpare_of_up s k up, s.d2dLane_first k noneFailed, if_neg (Nat.ne_of_lt data)]; rfl
    · intro up noneFailed spare
      rw [exec_d2dLaneSpare_of_up s k up, s.d2dLane_first k noneFailed, if_pos spare]; rfl
    · intro j up one ne
      rw [exec_d2dLaneSpare_of_up s k up, s.d2dLane_second j k one ne]; rfl
    · intro i j up two ij ik jk
      rw [exec_d2dLaneSpare_of_up s k up, s.d2dLane_third i j k up two ij ik jk]; rfl
  case lost =>
    exact ⟨s.d2dLost, exec_d2dFail_of_up s up, s.rd_d2dLost_up, s.rd_d2dLost_fieldUp, s.rd_d2dLost_loss, s.rd_d2dLost_safe⟩
  case retry =>
    refine ⟨(s.bump DBG_D2DCNT.CORR 0 corr).bump DBG_D2DCNT.RETRY, rfl, ?_, ?_, ?_⟩
    · rw [State.rd_bump_ne _ _ _ _ _ _ (by decide), State.rd_bump_same]; rfl
    · rw [State.rd_bump_same, State.rd_bump_ne _ _ _ _ _ _ (by decide)]; rfl
    · exact State.onlyRegs_bump (State.onlyRegs_bump (s.onlyRegs_refl _) _ 0 corr (by simp)) _ 0 1 (by simp)
  case retrain =>
    rintro rfl down few running
    exact ⟨exec_d2dRetrain_up s down few running, _, exec_d2dRetrain_up s down few running, s.rd_d2dBack_safe⟩

end Sys2Proof.Machine

/-! Shared by the statements of spec/02_superframes_and_plans.md: what reaches a block, and what a change of a plan's own state or an event
leaves of a link. -/

namespace Sys2Proof.Machine

section LinkRules

theorem State.link_raise (s : State) (id cap : Nat) : (s.raise id cap).link = s.link := by
  show (s.raise id cap).rest.link = s.rest.link
  rw [State.rest_raise]

/-- An event changes nothing of a link. -/
@[simp] theorem State.lk_raise (s : State) (id cap p : Nat) : (s.raise id cap).lk p = s.lk p :=
  congrArg (fun l => NMap.get l Link.init p) (s.link_raise id cap)

@[simp] theorem State.rd_modPlan (s : State) (p : Nat) (g : PlanLink → PlanLink) (f : Field) (i : Nat) : (s.modPlan p g).rd f i = s.rd f i := rfl

@[simp] theorem State.lk_modPlan_same (s : State) (p : Nat) (g : PlanLink → PlanLink) :
    (s.modPlan p g).lk p = { s.lk p with plan := g (s.lk p).plan } := State.lk_modLk_same ..

theorem State.lk_modLk_ne (s : State) (p q : Nat) (g : Link → Link) (h : q ≠ p) : (s.modLk p g).lk q = s.lk q := by
  rw [State.lk_modLk, if_neg (Ne.symm h)]

theorem State.lk_modPlan_ne (s : State) (p q : Nat) (g : PlanLink → PlanLink) (h : q ≠ p) : (s.modPlan p g).lk q = s.lk q :=
  State.lk_modLk_ne _ _ _ _ h

theorem State.on_wr_ne (s : State) (f g : Field) (i j v : Nat) (h : f.id ≠ g.id) : (s.wr f v i).on g j = s.on g j :=
  congrArg (· != 0) (State.rd_wr_ne _ _ _ _ _ _ h)

theorem State.on_bump_ne (s : State) (f g : Field) (i j n : Nat) (h : f.id ≠ g.id) : (s.bump f i n).on g j = s.on g j :=
  State.on_wr_ne _ _ _ _ _ _ h

end LinkRules

section Requests

/-- An access with a good address that reaches its block acts there (R5, R382 to R386). -/
theorem State.addrAccess_serves (s : State) (a : Nat) (w : Bool) (f : State → State) (h : s.serves a w) : s.addrAccess false a w f = f s := by
  unfold State.addrAccess
  rw [if_neg (by simp), State.access_serves s a w f h]

/-- STATE is answered before BUSY and CONFLICT (R10). -/
theorem firstStatus_state_first (busy conflict : Bool) :
    firstStatus [(St.STATE, true), (St.BUSY, busy), (St.CONFLICT, conflict)] = St.STATE := by
  cases busy <;> cases conflict <;> rfl

end Requests

end Sys2Proof.Machine

/-! The plan window, VALIDATE and INVALIDATE (R38, R63, R66). -/

namespace Sys2Proof.Machine

section PlanWindow

/-- The two entries of one word of the plan store (R38). -/
def State.putPlanWord (s : State) (p dir plan slot data : Nat) : State :=
  { s with
    planStore := NMap.set (NMap.set s.planStore 0 (planKey p dir plan slot) (data % 65536)) 0 (planKey p dir plan (slot + 1)) (data / 65536 % 65536) }

theorem planKey_succ_ne (p dir plan slot : Nat) : planKey p dir plan (slot + 1) ≠ planKey p dir plan slot := Nat.succ_ne_self _

variable (s : State) (p dir plan slot data : Nat)

@[simp] theorem State.planEntry_putPlanWord_low : (s.putPlanWord p dir plan slot data).planEntry p dir plan slot = data % 65536 := by
  unfold State.planEntry State.putPlanWord
  rw [NMap.get_set_ne _ _ _ _ _ (planKey_succ_ne p dir plan slot), NMap.get_set_same]

@[simp] theorem State.planEntry_putPlanWord_high :
    (s.putPlanWord p dir plan slot data).planEntry p dir plan (slot + 1) = data / 65536 % 65536 := NMap.get_set_same ..

theorem State.get_putPlanWord_ne (k : Nat) (low : k ≠ planKey p dir plan slot) (high : k ≠ planKey p dir plan (slot + 1)) :
    NMap.get (s.putPlanWord p dir plan slot data).planStore 0 k = NMap.get s.planStore 0 k :=
  (NMap.get_set_ne _ _ _ _ _ high.symm).trans (NMap.get_set_ne _ _ _ _ _ low.symm)

/-- The hub after a plan-window write that reached its block: the word is stored and its table no longer VALID (R38). -/
def State.planWordWritten (s : State) (p dir plan slot data : Nat) : State :=
  (s.putPlanWord p dir plan slot data).wr (validField dir) 0 (p * 16 + plan)

theorem State.rd_planWordWritten_valid : (s.planWordWritten p dir plan slot data).rd (validField dir) (p * 16 + plan) = 0 := by
  unfold State.planWordWritten
  rw [State.rd_wr_same, Nat.zero_mod]

theorem State.keepsRegs_planWordWritten : s.keepsRegs (s.planWordWritten p dir plan slot data) [(validField dir, p * 16 + plan)] :=
  State.keepsRegs_wr (s.keepsRegs_refl _) _ 0 _ (List.mem_singleton.2 rfl)

end PlanWindow

section PlanWindowWrite

theorem State.planWindowWrite_busy (s : State) (off data : Nat) (busy : s.planBusy (s.rd PLN_WINSEL.PORT) (off / 0x2000 % 16) = true) :
    s.planWindowWrite off data = s.answer St.STATE := by
  unfold State.planWindowWrite
  dsimp only
  rw [busy, State.checked_fail _ _ _ (by decide)]
  rfl

theorem State.planWindowWrite_free (s : State) (off data : Nat) (free : s.planBusy (s.rd PLN_WINSEL.PORT) (off / 0x2000 % 16) = false) :
    s.planWindowWrite off data = (s.planWordWritten (s.rd PLN_WINSEL.PORT) (s.rd PLN_WINSEL.DIR) (off / 0x2000 % 16)
      (off % 0x2000 / 4 * 2) data).answer St.OK := by
  unfold State.planWindowWrite
  dsimp only
  rw [free, State.checked_ok _ _ _ rfl]
  rfl

/-- An aligned write inside the window that reaches its block. -/
theorem exec_planWindowWrite (s : State) (addr data : Word) (aligned : addr.toNat % 4 = 0) (lo : 0x1C0000 ≤ addr.toNat)
    (hi : addr.toNat < 0x1E0000) (h : s.serves addr.toNat true) :
    exec (.planWindowWrite addr data) s = .next (s.planWindowWrite (addr.toNat - 0x1C0000) data.toNat) := by
  have good : (addr.toNat % 4 != 0 || !inPlanWindow addr.toNat) = false := by simp [inPlanWindow, aligned, lo, hi]
  have act := State.addrAccess_serves s addr.toNat true (fun s => s.planWindowWrite (addr.toNat - 0x1C0000) data.toNat) h
  rw [← good] at act
  exact congrArg _ act

/-- Where an address of the window lies: its plan and the first of its two slots (R38). -/
theorem planWindow_place (a : Nat) (lo : 0x1C0000 ≤ a) (hi : a < 0x1E0000) :
    (a - 0x1C0000) / 0x2000 % 16 = (a - 0x1C0000) / 0x2000 ∧ (a - 0x1C0000) % 0x2000 / 4 * 2 = a % 0x2000 / 4 * 2 := by omega

end PlanWindowWrite

section PlanCommands

theorem exec_invalidate (s : State) (data : Word) (h : s.serves Reg.PLN_CMD.base true) :
    exec (.invalidate data) s = .next (s.invalidateCmd data.toNat) := congrArg _ (State.access_serves s _ true _ h)

theorem State.invalidateCmd_busy (s : State) (data : Nat) (good : planCmdBad data 2 = false)
    (busy : s.planBusy (bits data 8 2) (bits data 12 4) = true) : s.invalidateCmd data = s.answer St.STATE := by
  unfold State.invalidateCmd
  dsimp only
  rw [good, busy, State.checked_fail _ _ _ (by decide)]
  rfl

/-- Both tables of a plan no longer VALID. -/
def State.planInvalid (s : State) (i : Nat) : State := (s.wr PLN_PDESC.TXVALID 0 i).wr PLN_PDESC.RXVALID 0 i

theorem State.invalidateCmd_free (s : State) (data : Nat) (good : planCmdBad data 2 = false)
    (free : s.planBusy (bits data 8 2) (bits data 12 4) = false) :
    s.invalidateCmd data = (s.planInvalid (bits data 8 2 * 16 + bits data 12 4)).answer St.OK := by
  unfold State.invalidateCmd
  dsimp only
  rw [good, free, State.checked_ok _ _ _ rfl]
  rfl

theorem State.rd_planInvalid_tx (s : State) (i : Nat) : (s.planInvalid i).rd PLN_PDESC.TXVALID i = 0 := by
  unfold State.planInvalid
  rw [State.rd_wr_ne _ _ _ _ _ _ (by decide), State.rd_wr_same, Nat.zero_mod]

theorem State.rd_planInvalid_rx (s : State) (i : Nat) : (s.planInvalid i).rd PLN_PDESC.RXVALID i = 0 := by
  unfold State.planInvalid
  rw [State.rd_wr_same, Nat.zero_mod]

theorem State.onlyRegs_planInvalid (s : State) (i : Nat) : s.onlyRegs (s.planInvalid i) [(PLN_PDESC.TXVALID, i), (PLN_PDESC.RXVALID, i)] :=
  State.onlyRegs_wr (State.onlyRegs_wr (s.onlyRegs_refl _) _ 0 i (by simp)) _ 0 i (by simp)

end PlanCommands

section Validation

/-- The fields that report a verdict beside the VALID bit (R63). -/
def verdictFields : List (Fin 1024) :=
  [PLN_PDESC.VSTATUS.id, PLN_VFAIL.STATUS.id, PLN_VFAIL.SLOT.id, PLN_VFAIL.PORT.id, PLN_VFAIL.DIR.id, PLN_VFAIL.PLAN.id, PLN_VFAIL.CHECK.id]

/-- A verdict recorded, before a failure raises its event. -/
def State.putVerdict (s : State) (p dir q : Nat) (v : Verdict) : State :=
  ((((((((s.setBit (validField dir) (v.check == 0) (p * 16 + q)).wr PLN_PDESC.VSTATUS v.status (p * 16 + q)).wr PLN_VFAIL.STATUS v.status).wr
    PLN_VFAIL.SLOT v.slot).wr PLN_VFAIL.PORT p).wr PLN_VFAIL.DIR dir).wr PLN_VFAIL.PLAN q).wr PLN_VFAIL.CHECK v.check)

theorem State.recordVerdict_eq (s : State) (p dir q : Nat) (v : Verdict) :
    s.recordVerdict p dir q v =
      if v.check = 0 then s.putVerdict p dir q v else (s.putVerdict p dir q v).raise Ev.PLN_VALIDATE_FAIL (p + 4 * q) := rfl

variable (s : State) (p dir q : Nat) (v : Verdict)

@[simp] theorem State.rest_putVerdict : (s.putVerdict p dir q v).rest = s.rest := by
  simp [State.putVerdict, State.setBit]

@[simp] theorem State.out_putVerdict : (s.putVerdict p dir q v).out = s.out := by
  simp [State.putVerdict, State.setBit]

@[simp] theorem State.rest_recordVerdict : (s.recordVerdict p dir q v).rest = s.rest := by
  rw [State.recordVerdict_eq]
  split <;> simp

@[simp] theorem State.out_recordVerdict : (s.recordVerdict p dir q v).out = s.out := by
  rw [State.recordVerdict_eq]
  split <;> simp

theorem State.rd_recordVerdict (f : Field) (i : Nat) (notEvent : f.id ∉ eventFields) :
    (s.recordVerdict p dir q v).rd f i = (s.putVerdict p dir q v).rd f i := by
  rw [State.recordVerdict_eq]
  split
  · rfl
  · exact State.rd_raise _ _ _ _ _ notEvent

/-- The fields that report a verdict leave the VALID bits alone. -/
theorem State.rd_putVerdict (f : Field) (i : Nat) (notReport : f.id ∉ verdictFields) :
    (s.putVerdict p dir q v).rd f i = (s.setBit (validField dir) (v.check == 0) (p * 16 + q)).rd f i := by
  simp only [verdictFields, List.mem_cons, List.not_mem_nil, or_false, not_or] at notReport
  obtain ⟨h1, h2, h3, h4, h5, h6, h7⟩ := notReport
  unfold State.putVerdict
  rw [State.rd_wr_ne _ _ _ _ _ _ (Ne.symm h7), State.rd_wr_ne _ _ _ _ _ _ (Ne.symm h6), State.rd_wr_ne _ _ _ _ _ _ (Ne.symm h5),
    State.rd_wr_ne _ _ _ _ _ _ (Ne.symm h4), State.rd_wr_ne _ _ _ _ _ _ (Ne.symm h3), State.rd_wr_ne _ _ _ _ _ _ (Ne.symm h2),
    State.rd_wr_ne _ _ _ _ _ _ (Ne.symm h1)]

theorem validField_plain : (validField dir).id ∉ eventFields ∧ (validField dir).id ∉ verdictFields ∧ (validField dir).width = 1 := by
  unfold validField
  split <;> decide

/-- A table is VALID when it passes every check (R63). -/
theorem State.rd_recordVerdict_same :
    (s.recordVerdict p dir q v).rd (validField dir) (p * 16 + q) = if v.check = 0 then 1 else 0 := by
  obtain ⟨notEvent, notReport, width⟩ := validField_plain dir
  rw [State.rd_recordVerdict _ _ _ _ _ _ _ notEvent, State.rd_putVerdict _ _ _ _ _ _ _ notReport]
  unfold State.setBit
  rw [State.rd_wr_same, width]
  by_cases h : v.check = 0 <;> simp [h]

/-- The verdict on one table says nothing of the other. -/
theorem State.rd_recordVerdict_other (e i : Nat) (other : (validField dir).id ≠ (validField e).id) :
    (s.recordVerdict p dir q v).rd (validField e) i = s.rd (validField e) i := by
  obtain ⟨notEvent, notReport, -⟩ := validField_plain e
  rw [State.rd_recordVerdict _ _ _ _ _ _ _ notEvent, State.rd_putVerdict _ _ _ _ _ _ _ notReport]
  exact State.rd_wr_ne _ _ _ _ _ _ other

/-- The order in which the two verdicts are recorded: the one the answer reports comes last. -/
theorem State.validatePlan_eq : s.validatePlan p q =
    if (s.validateTable p 0 q).check = 0 then
      ((s.recordVerdict p 0 q (s.validateTable p 0 q)).recordVerdict p 1 q (s.validateTable p 1 q), (s.validateTable p 1 q).status)
    else ((s.recordVerdict p 1 q (s.validateTable p 1 q)).recordVerdict p 0 q (s.validateTable p 0 q), (s.validateTable p 0 q).status) := by
  unfold State.validatePlan
  by_cases tx : (s.validateTable p 0 q).check = 0 <;> simp [tx]

theorem validField_tx : validField 0 = PLN_PDESC.TXVALID := rfl
theorem validField_rx : validField 1 = PLN_PDESC.RXVALID := rfl

theorem State.rd_validatePlan_tx :
    (s.validatePlan p q).1.rd PLN_PDESC.TXVALID (p * 16 + q) = if (s.validateTable p 0 q).check = 0 then 1 else 0 := by
  rw [← validField_tx, State.validatePlan_eq]
  split
  next passed => rw [State.rd_recordVerdict_other _ _ _ _ _ _ _ (by decide), State.rd_recordVerdict_same, if_pos passed]
  next failed => rw [State.rd_recordVerdict_same, if_neg failed]

theorem State.rd_validatePlan_rx :
    (s.validatePlan p q).1.rd PLN_PDESC.RXVALID (p * 16 + q) = if (s.validateTable p 1 q).check = 0 then 1 else 0 := by
  rw [← validField_rx, State.validatePlan_eq]
  split
  · rw [State.rd_recordVerdict_same]
  · rw [State.rd_recordVerdict_other _ _ _ _ _ _ _ (by decide), State.rd_recordVerdict_same]

theorem State.rest_validatePlan : (s.validatePlan p q).1.rest = s.rest := by
  rw [State.validatePlan_eq]
  split <;> simp

theorem State.out_validatePlan : (s.validatePlan p q).1.out = s.out := by
  rw [State.validatePlan_eq]
  split <;> simp

theorem exec_validate (s : State) (data : Word) (h : s.serves Reg.PLN_CMD.base true) (good : planCmdBad data.toNat 1 = false) :
    exec (.validate data) s = .next ((s.validatePlan (bits data.toNat 8 2) (bits data.toNat 12 4)).1.answer
      (s.validatePlan (bits data.toNat 8 2) (bits data.toNat 12 4)).2) := by
  have act := State.access_serves s Reg.PLN_CMD.base true (fun s => s.validateCmd data.toNat) h
  refine (congrArg Host.Outcome.next act).trans ?_
  unfold State.validateCmd
  rw [good, State.checked_ok _ _ _ rfl]

end Validation

/-- Settles O7: one lemma for each way a plan-window write, INVALIDATE or VALIDATE can end. -/
theorem planTables : Obligations.PlanTables := by
  refine ⟨fun s addr data aligned lo hi h => ?window, fun s data h good => ?invalidate, fun s data h good => ?validate⟩
  case window =>
    obtain ⟨planIs, slotIs⟩ := planWindow_place addr.toNat lo hi
    have run := exec_planWindowWrite s addr data aligned lo hi h
    refine ⟨fun busy => ?busy, fun free => ?free⟩
    case busy => rw [run, State.planWindowWrite_busy s _ _ (by rw [planIs]; exact busy)]
    case free =>
      rw [State.planWindowWrite_free s _ _ (by rw [planIs]; exact free), planIs, slotIs] at run
      have high : data.toNat / 65536 % 65536 = data.toNat / 65536 := by omega
      exact ⟨_, run, State.planEntry_putPlanWord_low .., (State.planEntry_putPlanWord_high ..).trans high,
        State.get_putPlanWord_ne s _ _ _ _ _, State.rd_planWordWritten_valid .., s.keepsRegs_planWordWritten _ _ _ _ _, rfl⟩
  case invalidate =>
    have run := exec_invalidate s data h
    refine ⟨fun busy => ?busy, fun free => ?free⟩
    case busy => rw [run, State.invalidateCmd_busy s _ good busy]
    case free =>
      rw [State.invalidateCmd_free s _ good free] at run
      exact ⟨_, run, State.rd_planInvalid_tx s _, State.rd_planInvalid_rx s _, State.onlyAnswer_answer (s.onlyRegs_planInvalid _) St.OK⟩
  case validate =>
    refine ⟨_, exec_validate s data h good, ?tx, ?rx, ?rest, ?out⟩
    case tx => rw [State.rd_answer, State.rd_validatePlan_tx]
    case rx => rw [State.rd_answer, State.rd_validatePlan_rx]
    case rest => rw [State.rest_answer, State.rest_validatePlan]
    case out => rw [State.out_answer, State.out_validatePlan]; exact ⟨_, rfl⟩

end Sys2Proof.Machine

/-! Plan shifts of one link (R49, R50, R53): a REQ at either end, the two answers, the deadline, and the shift at hyperframe E. -/

namespace Sys2Proof.Machine

section PlanRequest

theorem exec_frontReqReceive (s : State) (p : Fin 4) (y : List Byte) :
    exec (.frontReqReceive p y) s = .next (s.frontReq p.val (Front.ofPayload y)) := rfl

/-- Only the upstream end of a link requests shifts (R50). -/
theorem State.frontReq_upstreamEnd (s : State) (p : Nat) (f : Front) (active : s.linkActive p = true) (down : s.isUpPort p = false) :
    s.frontReq p f = s.sendNack p f St.STATE := by
  unfold State.frontReq
  rw [if_neg (by simp [active]), if_pos down]

/-- A REQ that the downstream end accepts and that belongs to no zone shift (R50). -/
structure State.TakesReq (s : State) (p : Nat) (f : Front) : Prop where
  active : s.linkActive p = true
  up : s.isUpPort p = true
  single : f.zoneShift = false
  ahead : hfnAtLeast f.effect s.hfn 1 = true
  free : s.on PLN_LSTAT.PEND p = false
  txValid : s.on PLN_PDESC.TXVALID (p * 16 + f.plan) = true
  rxValid : s.on PLN_PDESC.RXVALID (p * 16 + f.plan) = true
  variant : f.variant = s.variantOf p
  digTx : f.digTx = s.digRx p f.plan
  digRx : f.digRx = s.digTx p f.plan

/-- The pending shift as the registers show it: its target and its hyperframe. -/
def State.showPending (s : State) (p : Nat) (f : Front) : State :=
  ((s.wr PLN_LSTAT.PEND 1 p).wr PLN_LSTAT.PTARGET f.plan p).wr PLN_LHFN.PEFFECT f.effect p

/-- The downstream end with the shift of an accepted REQ pending. -/
def State.reqPending (s : State) (p : Nat) (f : Front) : State :=
  (s.showPending p f).modPlan p (fun a => { a with zone := f.zoneShift, group := f.group, fseq := f.fseq })

/-- The ACK of a REQ, with this end's digests (R49, R50 step 2). -/
def State.ackOf (s : State) (p : Nat) (f : Front) : List Byte :=
  ({ f with op := 2, status := 0, digTx := s.digTx p f.plan, digRx := s.digRx p f.plan } : Front).payload

variable (s : State) (p : Nat) (f : Front)

theorem State.rd_reqPending_ne (g : Field) (i : Nat) (h1 : PLN_LSTAT.PEND.id ≠ g.id) (h2 : PLN_LSTAT.PTARGET.id ≠ g.id)
    (h3 : PLN_LHFN.PEFFECT.id ≠ g.id) : (s.reqPending p f).rd g i = s.rd g i := by
  unfold State.reqPending State.showPending
  rw [State.rd_modPlan, State.rd_wr_ne _ _ _ _ _ _ h3, State.rd_wr_ne _ _ _ _ _ _ h2, State.rd_wr_ne _ _ _ _ _ _ h1]

/-- A pending shift changes no digest. -/
theorem State.ackOf_reqPending : (s.reqPending p f).ackOf p f = s.ackOf p f := by
  unfold State.ackOf State.digTx State.digRx
  simp (disch := decide) only [State.rd_reqPending_ne]

theorem State.frontReq_taken (h : s.TakesReq p f) :
    s.frontReq p f = (s.reqPending p f).pushCtl p Kind.FRONT (s.ackOf p f) false := by
  obtain ⟨active, up, single, ahead, free, txValid, rxValid, variant, digTx, digRx⟩ := h
  rw [← State.ackOf_reqPending]
  unfold State.frontReq
  dsimp only
  rw [if_neg (by simp [active]), if_neg (by simp [up]), if_neg (by simp [ahead, free, txValid, rxValid, variant, digTx, digRx]),
    if_neg (by simp [single])]
  rfl

theorem State.rd_reqPending_pend : (s.reqPending p f).rd PLN_LSTAT.PEND p = 1 := by
  unfold State.reqPending State.showPending
  rw [State.rd_modPlan, State.rd_wr_ne _ _ _ _ _ _ (by decide), State.rd_wr_ne _ _ _ _ _ _ (by decide), State.rd_wr_same]
  rfl

theorem State.rd_reqPending_target : (s.reqPending p f).rd PLN_LSTAT.PTARGET p = f.plan % 16 := by
  unfold State.reqPending State.showPending
  rw [State.rd_modPlan, State.rd_wr_ne _ _ _ _ _ _ (by decide), State.rd_wr_same]
  rfl

theorem State.rd_reqPending_effect : (s.reqPending p f).rd PLN_LHFN.PEFFECT p = f.effect % 2 ^ 24 := by
  unfold State.reqPending State.showPending
  rw [State.rd_modPlan, State.rd_wr_same]
  rfl

theorem State.keepsRegs_reqPending :
    s.keepsRegs (s.reqPending p f) [(PLN_LSTAT.PEND, p), (PLN_LSTAT.PTARGET, p), (PLN_LHFN.PEFFECT, p)] :=
  State.keepsRegs_wr (State.keepsRegs_wr (State.keepsRegs_wr (s.keepsRegs_refl _) _ 1 p (by simp)) _ _ p (by simp)) _ _ p (by simp)

/-- A flit handed to a port is the last of those waiting there. -/
@[simp] theorem State.lk_pushCtl_same (kind : Nat) (y : List Byte) (sequenced : Bool) :
    (s.pushCtl p kind y sequenced).lk p =
      { s.lk p with ctl := (s.lk p).ctl ++ [{ kind := kind, payload := fit 24 y, sequenced := sequenced }] } := State.lk_modLk_same ..

theorem State.lk_pushCtl_ne (q kind : Nat) (y : List Byte) (sequenced : Bool) (h : q ≠ p) :
    (s.pushCtl p kind y sequenced).lk q = s.lk q := State.lk_modLk_ne _ _ _ _ h

@[simp] theorem State.lk_reqPending_same :
    (s.reqPending p f).lk p = { s.lk p with plan := { (s.lk p).plan with zone := f.zoneShift, group := f.group, fseq := f.fseq } } :=
  State.lk_modPlan_same ..

theorem State.lk_reqPending_ne (q : Nat) (h : q ≠ p) : (s.reqPending p f).lk q = s.lk q := State.lk_modPlan_ne _ _ _ _ h

end PlanRequest

section PlanAnswers

/-- The upstream end waits for the answer to its REQ. -/
structure State.AwaitsAnswer (s : State) (p : Nat) : Prop where
  pend : s.on PLN_LSTAT.PEND p = true
  requested : (s.lk p).plan.requested = true
  uncommitted : (s.lk p).plan.committed = false

theorem exec_frontAckReceive (s : State) (p : Fin 4) (y : List Byte) :
    exec (.frontAckReceive p y) s = .next (s.frontAck p.val (Front.ofPayload y)) := rfl

theorem exec_frontNackReceive (s : State) (p : Fin 4) (y : List Byte) :
    exec (.frontNackReceive p y) s = .next (s.frontNack p.val (Front.ofPayload y)) := rfl

theorem exec_frontAckDeadline (s : State) (p : Fin 4) : exec (.frontAckDeadline p) s = .next (s.frontDeadline p.val) := rfl

variable {s : State} {p : Nat} (h : s.AwaitsAnswer p)
include h

/-- An ACK in time with the right digests (R50 step 3). -/
theorem State.AwaitsAnswer.frontAck {f : Front} (answers : f.fseq = (s.lk p).plan.fseq)
    (inTime : hfnAtLeast (s.rd PLN_LHFN.PEFFECT p) s.hfn 2 = true) (digTx : f.digTx = s.digRx p (s.rd PLN_LSTAT.PTARGET p))
    (digRx : f.digRx = s.digTx p (s.rd PLN_LSTAT.PTARGET p)) :
    s.frontAck p f = s.modPlan p (fun a => { a with committed := true }) := by
  unfold State.frontAck
  rw [if_neg (by simp [h.pend, h.requested, h.uncommitted, answers, inTime]), if_pos ⟨digTx, digRx⟩]

theorem State.AwaitsAnswer.frontNack {f : Front} (answers : f.fseq = (s.lk p).plan.fseq) :
    s.frontNack p f = ((s.bump PLN_FRONTERR.NACKS p).shiftFails p).modPlan p
      (fun a => { a with bootReq := f.status == St.STATE && s.on PLN_LSTAT.BOOT p }) := by
  unfold State.frontNack
  rw [if_neg (by simp [h.pend, h.requested, h.uncommitted, answers])]

theorem State.AwaitsAnswer.frontDeadline (late : hfnAtLeast (s.rd PLN_LHFN.PEFFECT p) s.hfn 2 = false) :
    s.frontDeadline p = (s.bump PLN_FRONTERR.FAILS p).shiftFails p := by
  unfold State.frontDeadline
  exact if_pos ⟨h.pend, h.requested, h.uncommitted, late⟩

end PlanAnswers

section ShiftFails

theorem State.rd_clearPending_pend (s : State) (p : Nat) : (s.clearPending p).rd PLN_LSTAT.PEND p = 0 := by
  unfold State.clearPending
  rw [State.rd_modPlan, State.rd_wr_same, Nat.zero_mod]

theorem State.rd_clearPending_ne (s : State) (p : Nat) (f : Field) (i : Nat) (h : PLN_LSTAT.PEND.id ≠ f.id) :
    (s.clearPending p).rd f i = s.rd f i := State.rd_wr_ne _ _ _ _ _ _ h

/-- A shift outside a zone shift is only cleared and reported (R50). -/
theorem State.shiftFails_single (s : State) (p : Nat) (single : (s.lk p).plan.zone = false) :
    s.shiftFails p = (s.clearPending p).raise Ev.PLN_FRONT_FAIL (p + 4 * s.rd PLN_LSTAT.PTARGET p) := by
  unfold State.shiftFails
  rw [if_neg (by simp [single])]

variable (s : State) (p : Nat) (single : (s.lk p).plan.zone = false)
include single

theorem State.rd_shiftFails_pend : (s.shiftFails p).rd PLN_LSTAT.PEND p = 0 := by
  rw [s.shiftFails_single p single, State.rd_raise _ _ _ _ _ (by decide), State.rd_clearPending_pend]

theorem State.rd_shiftFails_ne (f : Field) (i : Nat) (notPend : PLN_LSTAT.PEND.id ≠ f.id) (notEvent : f.id ∉ eventFields) :
    (s.shiftFails p).rd f i = s.rd f i := by
  rw [s.shiftFails_single p single, State.rd_raise _ _ _ _ _ notEvent, State.rd_clearPending_ne _ _ _ _ notPend]

theorem State.shiftFails_status :
    s.on EVU_SRC.STATUS Ev.PLN_FRONT_FAIL = true ∨ (s.shiftFails p).rd EVU_SRC.STATUS Ev.PLN_FRONT_FAIL = 1 := by
  rw [s.shiftFails_single p single, ← State.on_wr_ne s PLN_LSTAT.PEND EVU_SRC.STATUS p _ 0 (by decide)]
  exact State.raised_status (s.clearPending p) _ _

end ShiftFails

section ShiftTakesEffect

/-- The pending target as the table in force, as the registers show it (R50 step 4). -/
def State.showSwitched (s : State) (p : Nat) : State := ((s.wr PLN_LSTAT.PLAN (s.rd PLN_LSTAT.PTARGET p) p).wr PLN_LSTAT.BOOT 0 p).clearPending p

theorem State.switchTables_eq (s : State) (p : Nat) :
    s.switchTables p = ((s.showSwitched p).raise Ev.PLN_SHIFT_DONE (p + 4 * s.rd PLN_LSTAT.PTARGET p)).tell 2 p := rfl

theorem State.shiftEffect_due (s : State) (p : Nat) (pend : s.on PLN_LSTAT.PEND p = true) (committed : (s.lk p).plan.committed = true)
    (now : s.hfn = s.rd PLN_LHFN.PEFFECT p) :
    s.shiftEffect p = (s.switchTables p).modPlan p
      (fun a => { a with oldPlan := some (if s.on PLN_LSTAT.BOOT p then 16 else s.rd PLN_LSTAT.PLAN p) }) := by
  unfold State.shiftEffect
  exact if_pos ⟨pend, committed, now⟩

theorem State.rd_switchTables (s : State) (p : Nat) (f : Field) (i : Nat) (notEvent : f.id ∉ eventFields) :
    (s.switchTables p).rd f i = (s.showSwitched p).rd f i := by
  rw [State.switchTables_eq]
  exact State.rd_raise _ _ _ _ _ notEvent

theorem State.rd_switchTables_plan (s : State) (p : Nat) : (s.switchTables p).rd PLN_LSTAT.PLAN p = s.rd PLN_LSTAT.PTARGET p % 16 := by
  rw [State.rd_switchTables _ _ _ _ (by decide), State.showSwitched, State.rd_clearPending_ne _ _ _ _ (by decide),
    State.rd_wr_ne _ _ _ _ _ _ (by decide), State.rd_wr_same]
  rfl

theorem State.rd_switchTables_boot (s : State) (p : Nat) : (s.switchTables p).rd PLN_LSTAT.BOOT p = 0 := by
  rw [State.rd_switchTables _ _ _ _ (by decide), State.showSwitched, State.rd_clearPending_ne _ _ _ _ (by decide), State.rd_wr_same,
    Nat.zero_mod]

theorem State.rd_switchTables_pend (s : State) (p : Nat) : (s.switchTables p).rd PLN_LSTAT.PEND p = 0 := by
  rw [State.rd_switchTables _ _ _ _ (by decide), State.showSwitched, State.rd_clearPending_pend]

theorem State.mem_news_switchTables (s : State) (p : Nat) : (2, p) ∈ (s.switchTables p).news := by
  rw [State.switchTables_eq, State.news_tell]
  exact List.mem_append_right _ (List.mem_singleton.2 rfl)

theorem exec_planShiftEffect (s : State) (p : Fin 4) : exec (.planShiftEffect p) s = .next (s.calm.shiftEffect p.val).settled := rfl

end ShiftTakesEffect

section LinkShift

theorem exec_linkShiftGo (s : State) (p : Fin 4) (data : Word) (h : s.serves (Reg.PLN_LSHIFT.addr p.val 0) true) :
    exec (.linkShiftGo p data) s = .next (s.linkShift p.val data.toNat) := congrArg _ (State.access_serves s _ true _ h)

/-- A write of `PLN_LSHIFT` with GO that R53 and the register's table allow. -/
structure State.MayShift (s : State) (p data : Nat) : Prop where
  low : bits data 4 4 = 0
  high : bits data 15 16 = 0
  go : bitAt data 31 = true
  leadMin : 2 ≤ bits data 8 7
  leadMax : bits data 8 7 ≤ 64
  down : s.isUpPort p = false
  active : s.linkActive p = true
  free : s.on PLN_LSTAT.PEND p = false
  usable : s.planUsable p (bits data 0 4) = true

theorem State.linkShift_go (s : State) (p data : Nat) (h : s.MayShift p data) :
    s.linkShift p data =
      (s.sendReq p (bits data 0 4) ((s.hfn + bits data 8 7) % 2 ^ 24) (s.rd PLN_STATUS.GROUP) false).answer St.OK := by
  obtain ⟨low, high, go, leadMin, leadMax, down, active, free, usable⟩ := h
  have short : ¬ bits data 8 7 < 2 := by omega
  have long : ¬ 64 < bits data 8 7 := by omega
  unfold State.linkShift
  rw [State.checked_ok _ _ _ (by simp [low, high, short, long, down, active, free, usable]), if_pos go]

end LinkShift

/-- Settles O9: a REQ at each end, then the two answers and the deadline as seen by the end that waits, then the shift itself. -/
theorem planShiftMessages : Obligations.PlanShiftMessages := by
  refine ⟨?reqAtUpstreamEnd, ?req, ?ack, ?nack, ?deadline, ?effect, ?go⟩
  case reqAtUpstreamEnd =>
    intro s p y active down
    rw [exec_frontReqReceive, State.frontReq_upstreamEnd s p _ active down]
  case req =>
    intro s p y f active up single ahead free txValid rxValid variant digTx digRx
    have taken := s.frontReq_taken p.val f ⟨active, up, single, ahead, free, txValid, rxValid, variant, digTx, digRx⟩
    refine ⟨_, (exec_frontReqReceive s p y).trans (congrArg Host.Outcome.next taken), s.rd_reqPending_pend p f, s.rd_reqPending_target p f,
      s.rd_reqPending_effect p f, ?fseq, ?ctl, rfl, ?others, s.keepsRegs_reqPending p f⟩
    case fseq => rw [State.lk_pushCtl_same, State.lk_reqPending_same]
    case ctl => rw [State.lk_pushCtl_same, State.lk_reqPending_same]; rfl
    case others =>
      intro q other
      rw [State.lk_pushCtl_ne _ _ _ _ _ _ other, State.lk_reqPending_ne _ _ _ _ other]
  case ack =>
    intro s p y f q pend requested uncommitted answers inTime digTx digRx
    rw [exec_frontAckReceive, State.AwaitsAnswer.frontAck ⟨pend, requested, uncommitted⟩ answers inTime digTx digRx]
  case nack =>
    intro s p y f pend requested uncommitted single answers
    have run := State.AwaitsAnswer.frontNack ⟨pend, requested, uncommitted⟩ answers
    refine ⟨_, (exec_frontNackReceive s p y).trans (congrArg Host.Outcome.next run), ?pend, ?nacks, ?event⟩
    case pend => rw [State.rd_modPlan, State.rd_shiftFails_pend (s.bump PLN_FRONTERR.NACKS p) p single]
    case nacks =>
      rw [State.rd_modPlan, State.rd_shiftFails_ne (s.bump PLN_FRONTERR.NACKS p) p single _ _ (by decide) (by decide)]
      exact State.rd_wr_same ..
    case event =>
      have raised := State.shiftFails_status (s.bump PLN_FRONTERR.NACKS p) p single
      rwa [State.on_bump_ne _ _ _ _ _ _ (by decide)] at raised
  case deadline =>
    intro s p pend requested uncommitted single late
    have run := State.AwaitsAnswer.frontDeadline ⟨pend, requested, uncommitted⟩ late
    have raised := State.shiftFails_status (s.bump PLN_FRONTERR.FAILS p) p single
    rw [State.on_bump_ne _ _ _ _ _ _ (by decide)] at raised
    exact ⟨_, (exec_frontAckDeadline s p).trans (congrArg Host.Outcome.next run),
      State.rd_shiftFails_pend (s.bump PLN_FRONTERR.FAILS p) p single, raised⟩
  case effect =>
    intro s p pend committed now
    have due := s.calm.shiftEffect_due p.val pend committed now
    refine ⟨_, (exec_planShiftEffect s p).trans (congrArg (fun u : State => Host.Outcome.next u.settled) due), ?plan, ?boot, ?pend, ?news⟩
    case plan => exact s.calm.rd_switchTables_plan p
    case boot => exact s.calm.rd_switchTables_boot p
    case pend => exact s.calm.rd_switchTables_pend p
    case news => exact s.calm.mem_news_switchTables p
  case go =>
    intro s p data q lead h low high go leadMin leadMax down active free usable
    rw [exec_linkShiftGo s p data h, s.linkShift_go p.val data.toNat ⟨low, high, go, leadMin, leadMax, down, active, free, usable⟩]

end Sys2Proof.Machine

/-! Superframes, SYNC flits and slots (R29, R31, R41, R44 to R46, R48). -/

namespace Sys2Proof.Machine

section Superframe

/-- A superframe inside a hyperframe (R29): its number is not a multiple of 256, also where the count wraps. -/
theorem State.superframe_inside (s : State) (started : s.sfStarted = true) (inside : (s.sfn + 1) % 256 ≠ 0) :
    s.superframe = ({ s with treeTime := (s.treeTime + ((2 ^ 32 + sgn 32 s.eth.tsu.rate) * 5120 : Int).toNat) % 2 ^ 96 }).wr
      PLN_SFN.SFN ((s.sfn + 1) % 2 ^ 32) := by
  have inside : ¬ (s.sfn + 1) % 2 ^ 32 % 256 = 0 := by omega
  unfold State.superframe
  simp only [started, if_true]
  rw [if_neg inside]

end Superframe

section SyncInAlign

theorem exec_syncReceive (s : State) (p : Fin 4) (y : Option (List Byte)) (via : Nat) :
    exec (.syncReceive p y via) s = .next (s.settling (fun s => s.syncReceive p.val y via)) := rfl

/-- The first SYNC of a link in ALIGN, adopted (R163). -/
def State.syncAdopted (s : State) (p : Nat) (y : Sync) : State :=
  (s.modLk p (fun l => { l with syncOk := true, plan := { l.plan with lastSfn := y.sfn, syncFails := 0 } })).wr JXP_RXMAP.MAP y.map p

theorem State.syncReceive_align (s : State) (p : Nat) (b : List Byte) (via : Nat) (align : s.linkSt p = LinkSt.ALIGN)
    (down : s.isUpPort p = false) (zone : (Sync.ofPayload b).zone = s.rd GLB_ZONE.ZONE) :
    s.syncReceive p (some b) via = s.syncAdopted p (Sync.ofPayload b) := by
  have down : (s.syncAdopted p (Sync.ofPayload b)).isUpPort p = false := (State.on_wr_ne _ _ _ _ _ _ (by decide)).trans down
  unfold State.syncReceive
  dsimp only
  rw [if_pos align, if_neg (by simp [zone])]
  exact if_neg (ne_true_of_eq_false down)

variable (s : State) (p : Nat) (y : Sync)

theorem State.lk_syncAdopted_same : (s.syncAdopted p y).lk p =
    { s.lk p with syncOk := true, plan := { (s.lk p).plan with lastSfn := y.sfn, syncFails := 0 } } := by
  rw [State.syncAdopted, State.lk_wr, State.lk_modLk_same]

theorem State.lk_syncAdopted_ne (q : Nat) (h : q ≠ p) : (s.syncAdopted p y).lk q = s.lk q := by
  rw [State.syncAdopted, State.lk_wr, State.lk_modLk_ne _ _ _ _ h]

theorem State.rd_syncAdopted_map : (s.syncAdopted p y).rd JXP_RXMAP.MAP p = y.map % 2 ^ 32 := State.rd_wr_same ..

theorem State.keepsRegs_syncAdopted : s.keepsRegs (s.syncAdopted p y) [(JXP_RXMAP.MAP, p)] :=
  State.keepsRegs_wr (State.keepsRegs_of_regs _ (s.keepsRegs_refl _) rfl) _ _ _ (List.mem_singleton.2 rfl)

end SyncInAlign

section SyncLost

/-- A link that leaves ACTIVE is in the state it leaves for, whatever the flush of R167 does. -/
theorem State.rd_leaveActive_state (s : State) (p dest cause : Nat) : (s.leaveActive p dest cause).rd JXK_STATUS.STATE p = dest % 8 := by
  unfold State.leaveActive State.onLinkDown State.tell
  dsimp only
  generalize (State.wr _ JXK_STATUS.PROT_ON 0 p) = t
  have arrived : ((t.setLinkSt p dest).raise (Ev.JXK_DOWN p) cause).rd JXK_STATUS.STATE p = dest % 8 := by
    rw [State.rd_raise _ _ _ _ _ (by decide), State.setLinkSt, State.setBit, State.rd_wr_ne _ _ _ _ _ _ (by decide), State.rd_wr_same]
    rfl
  split
  · exact (State.rd_wr_ne _ _ _ _ _ _ (by decide)).trans ((State.rd_wr_ne _ _ _ _ _ _ (by decide)).trans
      ((State.rd_wr_ne _ _ _ _ _ _ (by decide)).trans arrived))
  · exact arrived

theorem State.mem_news_leaveActive (s : State) (p dest cause : Nat) : (0, p) ∈ (s.leaveActive p dest cause).news :=
  List.mem_append_right _ (List.mem_singleton.2 rfl)

theorem State.recover_active (s : State) (p : Nat) (active : s.linkActive p = true) :
    s.recover p = (s.bump JXK_RETRAINS.COUNT p).leaveActive p LinkSt.RECOVER downRecover := if_pos active

theorem State.linkActive_raise (s : State) (id cap p : Nat) : (s.raise id cap).linkActive p = s.linkActive p :=
  congrArg (· == 6) (State.rd_raise _ _ _ _ _ (by decide))

/-- The link of a SYNC that failed once too often (R31). -/
theorem State.syncLost_active (s : State) (p : Nat) (active : s.linkActive p = true) :
    s.syncLost p = ((s.raise Ev.PLN_SYNC_LOST p).bump JXK_RETRAINS.COUNT p).leaveActive p LinkSt.RECOVER downRecover :=
  State.recover_active _ p (by rw [State.linkActive_raise, active])

/-- The fourth failed SYNC in a row with no substitution due (R31). -/
theorem State.syncFailed_fourth (s : State) (p sfn : Nat) (fails : 3 ≤ (s.lk p).plan.syncFails) (noneDue : s.substDue p sfn = []) :
    ∃ g, s.syncFailed p sfn = (s.modPlan p g).syncLost p := by
  unfold State.syncFailed
  dsimp only
  rw [noneDue, List.foldl_nil, if_pos (by omega)]
  exact ⟨_, rfl⟩

theorem exec_syncLost (s : State) (p : Fin 4) (active : s.linkActive p.val = true) (fails : 3 ≤ (s.lk p.val).plan.syncFails) :
    exec (.syncLost p) s = .next (s.calm.syncFailed p.val (((s.lk p.val).plan.lastSfn + 1) % 2 ^ 32)).settled :=
  congrArg (fun u : State => Host.Outcome.next u.settled) (if_pos ⟨active, fails⟩)

end SyncLost

section SlotCommit

theorem exec_slotCommit (s : State) (p : Fin 4) (slot : Nat) :
    exec (.slotCommit p slot) s = .next (s.settling (fun s => s.slotCommit p.val slot)) := rfl

/-- A training port's SYNC slot (R41, R163). -/
theorem State.slotCommit_alignSync (s : State) (p slot : Nat) (align : s.linkSt p = LinkSt.ALIGN) (inside : slot < s.slotsPerSf p)
    (notProvisional : (s.lk p).plan.provisional = false) (sync : s.entry p 0 (s.txTableFor p slot) slot = 0xFFE) :
    s.slotCommit p slot = s.putSync p := by
  have flows : ¬ (LinkSt.ALIGN < LinkSt.ALIGN ∨ LinkSt.ACTIVE < LinkSt.ALIGN ∨ s.slotsPerSf p ≤ slot) := by
    simp [LinkSt.ALIGN, LinkSt.ACTIVE, inside]
  unfold State.slotCommit
  dsimp only
  rw [align, if_neg flows, if_neg (by simp [notProvisional]), if_neg (by decide), if_pos sync]

end SlotCommit

section Presentation

theorem exec_flitPresentation (s : State) (p : Fin 4) (slot : Nat) : exec (.flitPresentation p slot) s = .next (s.flitPresentation p.val slot) := rfl

/-- A presented GUAR flit of a tunnel without a valid entry (R44, R547). -/
theorem State.present_invalid (s : State) (p : Nat) (i : RxItem) (guar : i.iso = false) (invalid : s.tunValid i.tix = false) :
    s.present p i = s.xmiss p := by
  unfold State.present
  dsimp only
  rw [if_pos (.inl invalid), if_neg (by simp [guar])]

/-- The one flit that a port has staged, free to go, is presented (R44). -/
theorem State.flitPresentation_one (s : State) (p : Nat) (i : RxItem) (only : (s.lk p).rxStage = [i]) (free : i.held = false) :
    s.flitPresentation p i.slot = (s.modLk p (fun l => { l with rxStage := [] })).present p i := by
  unfold State.flitPresentation State.presentAll
  simp [only, free]

end Presentation

section Departure

variable (s : State) (p : Nat)

/-- What waits to leave has no say in which table governs a slot (R48). -/
theorem State.ownsDeparture_txq (q : List TxItem) (tix slot : Nat) :
    (s.modLk p (fun l => { l with txq := q })).ownsDeparture p tix slot = s.ownsDeparture p tix slot := by
  have plan : ((s.modLk p (fun l => { l with txq := q })).lk p).plan = (s.lk p).plan := by rw [State.lk_modLk_same]
  have table : (s.modLk p (fun l => { l with txq := q })).txTableFor p slot = s.txTableFor p slot := by
    unfold State.txTableFor
    rw [plan]
    rfl
  unfold State.ownsDeparture
  rw [table]
  rfl

theorem exec_isoDeparture (p : Fin 4) (tix : Nat) : exec (.isoDeparture p tix) s = .next (s.isoDeparture p.val tix) := rfl
theorem exec_guarDeparture (p : Fin 4) (tix : Nat) : exec (.guarDeparture p tix) s = .next (s.guarDeparture p.val tix) := rfl

variable (i : TxItem) (active : s.linkActive p = true) (only : (s.lk p).txq = [i])
include active only

/-- An ISO flit whose departure slot is not its tunnel's (R45, R48). -/
theorem State.isoDeparture_foreignSlot (iso : i.iso = true) (q : Nat) (source : i.rx = some q)
    (foreign : s.ownsDeparture p i.tix (s.slotAfter p i.due) = false) :
    s.isoDeparture p i.tix = ((s.modLk p (fun l => { l with txq := [] })).xmiss p).isoLoss q i.tix := by
  have oldest : takeFirst (fun (j : TxItem) => j.tix == i.tix && j.iso && j.rx.isSome) [i] = some (i, []) := by
    simp [takeFirst, iso, source]
  have foreign := (s.ownsDeparture_txq p [] i.tix _).trans foreign
  unfold State.isoDeparture
  rw [if_neg (by simp [active]), only, oldest]
  dsimp only
  rw [foreign, Bool.false_and, if_neg (by simp), source]

/-- A GUAR flit of a tunnel that owns no slot in the plan in force (R46, R48). -/
theorem State.guarDeparture_noSlot (guar : s.isIso i.tix = false) (staged : i.rx.isSome = true)
    (noSlot : s.ownSlotAfter p i.tix i.due = none) :
    s.guarDeparture p i.tix = (s.modLk p (fun l => { l with txq := [] })).xmiss p := by
  have oldest : takeFirst (fun (j : TxItem) => j.tix == i.tix && j.rx.isSome) [i] = some (i, []) := by
    simp [takeFirst, staged]
  unfold State.guarDeparture
  rw [if_neg (by simp [active, guar]), only, oldest]
  dsimp only
  rw [noSlot]

end Departure

/-- Settles O8: one lemma for each event, by the case of the link, the slot and the flit that the statement names. -/
theorem superframeTraffic : Obligations.SuperframeTraffic := by
  refine ⟨?superframe, ?syncAlign, ?syncLost, ?slotSync, ?presented, ?iso, ?guar⟩
  case superframe =>
    intro s started inside
    exact congrArg Host.Outcome.next (s.superframe_inside started inside)
  case syncAlign =>
    intro s p b via align down zone
    have adopted : s.calm.syncReceive p (some b) via = s.calm.syncAdopted p (Sync.ofPayload b) := s.calm.syncReceive_align p b via align down zone
    refine ⟨s.calm.syncAdopted p (Sync.ofPayload b), ?run, s.calm.rd_syncAdopted_map p _, ?syncOk, ?lastSfn,
      s.calm.keepsRegs_syncAdopted p _, rfl, ?others⟩
    case run =>
      rw [exec_syncReceive, State.settling_quiet]
      · exact congrArg _ adopted
      · exact (congrArg State.news adopted).trans rfl
    case syncOk => rw [State.lk_syncAdopted_same]
    case lastSfn => rw [State.lk_syncAdopted_same]
    case others => exact fun q other => s.calm.lk_syncAdopted_ne p _ q other
  case syncLost =>
    intro s p active fails down noneDue
    obtain ⟨g, failed⟩ := s.calm.syncFailed_fourth p _ fails noneDue
    have lost := failed.trans ((s.calm.modPlan p g).syncLost_active p active)
    refine ⟨_, (exec_syncLost s p active fails).trans (congrArg (fun u : State => Host.Outcome.next u.settled) lost), ?state, ?news⟩
    case state => exact State.rd_leaveActive_state ..
    case news => exact State.mem_news_leaveActive ..
  case slotSync =>
    intro s p slot align inside notProvisional sync
    have act : s.calm.slotCommit p slot = s.calm.putSync p := s.calm.slotCommit_alignSync p slot align inside notProvisional sync
    rw [exec_slotCommit, State.settling_quiet]
    · exact congrArg _ act
    · exact (congrArg State.news act).trans rfl
  case presented =>
    rintro s p _ i only rfl free guar invalid
    rw [exec_flitPresentation, s.flitPresentation_one p i only free]
    exact congrArg Host.Outcome.next (State.present_invalid (s.modLk p _) p i guar invalid)
  case iso =>
    intro s p i q active only iso source foreign
    rw [exec_isoDeparture, s.isoDeparture_foreignSlot p i active only iso q source foreign]
  case guar =>
    intro s p i active guar only staged noSlot
    rw [exec_guarDeparture, s.guarDeparture_noSlot p i active only guar staged noSlot]

end Sys2Proof.Machine

/-! Zone shifts, the selector and the presence backstop (R56 to R60). -/

namespace Sys2Proof.Machine

section ZoneShiftGo

theorem exec_zshiftGo (s : State) (data : Word) (h : s.serves Reg.PLN_ZSHIFT.base true) :
    exec (.zshiftGo data) s = .next (s.zshift data.toNat) := congrArg _ (State.access_serves s _ true _ h)

variable (s : State) (data : Nat) (low : bits data 4 27 = 0) (go : bitAt data 31 = true)
include low go

/-- Only the root issues zone-wide shifts (R58). -/
theorem State.zshift_node (node : s.isRoot = false) : s.zshift data = s.answer St.STATE := by
  unfold State.zshift
  simp only [low, go, node, bne_self_eq_false, firstStatus_false, Bool.true_and, Bool.not_false, firstStatus_state_first, State.checked]
  rfl

/-- At a root without an ACTIVE link no plan can be missing (R56). -/
theorem State.zshift_root_quiet (root : s.isRoot = true) (free : s.on PLN_STATUS.ZPEND = false) (quiet : ∀ p, s.linkActive p = false) :
    s.zshift data = (s.startZoneShift (bits data 0 4)).answer St.OK := by
  have complete : (List.range 4).any (fun p => s.linkActive p && (s.validGroupPlan (bits data 0 4) p).isNone) = false :=
    List.any_eq_false.2 fun p _ => by simp [quiet]
  unfold State.zshift
  dsimp only
  rw [complete, State.checked_ok _ _ _ (by simp [low, root, free]), if_pos go]

end ZoneShiftGo

section ZoneReq

theorem exec_zoneReqForward (s : State) (p : Fin 4) : exec (.zoneReqForward p) s = .next (s.zoneForward p.val) := rfl
theorem exec_zoneShiftCatchup (s : State) (p : Fin 4) : exec (.zoneShiftCatchup p) s = .next (s.zoneCatchup p.val) := rfl

/-- The link no longer owes a zone REQ. -/
def State.zoneReqDue (s : State) (p : Nat) : State := s.modPlan p (fun a => { a with waitZone := false })

/-- The link has missed the zone shift of hyperframe `e` (R57). -/
def State.zoneMissed (s : State) (p e : Nat) : State :=
  (s.modPlan p (fun a => { a with missed := true, missedAt := e })).raise Ev.PLN_ZONE_LATE p

theorem State.lk_zoneMissed (s : State) (p e : Nat) :
    ((s.zoneMissed p e).lk p).plan = { (s.lk p).plan with missed := true, missedAt := e } := by
  rw [State.zoneMissed, State.lk_raise, State.lk_modPlan_same]

variable (s : State) (p : Nat)

/-- A zone REQ owed on a link without a pending shift goes out while two hyperframes are left (R57). -/
theorem State.zoneForward_inTime (owed : (s.lk p).plan.waitZone = true) (free : s.on PLN_LSTAT.PEND p = false)
    (inTime : hfnAtLeast (s.lk p).plan.waitEffect s.hfn 2 = true) :
    s.zoneForward p = (s.zoneReqDue p).zoneReqOn p (s.lk p).plan.waitGroup (s.lk p).plan.waitEffect := by
  have inTime : (hfnAtLeast (s.lk p).plan.waitEffect (s.zoneReqDue p).hfn 2 && !(s.zoneReqDue p).on PLN_LSTAT.PEND p) = true := by
    rw [Bool.and_eq_true, Bool.not_eq_true']
    exact ⟨inTime, free⟩
  unfold State.zoneForward
  dsimp only
  rw [if_neg (by simp [owed]), if_neg (by simp [free])]
  exact if_pos inTime

theorem State.zoneForward_late (owed : (s.lk p).plan.waitZone = true) (free : s.on PLN_LSTAT.PEND p = false)
    (late : hfnAtLeast (s.lk p).plan.waitEffect s.hfn 2 = false) :
    s.zoneForward p = (s.zoneReqDue p).zoneMissed p (s.lk p).plan.waitEffect := by
  have late : ¬ (hfnAtLeast (s.lk p).plan.waitEffect (s.zoneReqDue p).hfn 2 && !(s.zoneReqDue p).on PLN_LSTAT.PEND p) = true := by
    rw [Bool.and_eq_true]
    exact fun ⟨inTime, _⟩ => ne_true_of_eq_false late inTime
  unfold State.zoneForward
  dsimp only
  rw [if_neg (by simp [owed]), if_neg (by simp [free])]
  exact if_neg late

/-- A link that is not ACTIVE catches up through R54 (R57). -/
theorem State.zoneCatchup_inactive (missed : (s.lk p).plan.missed = true) (past : hfnAtLeast (s.lk p).plan.missedAt s.hfn 0 = false)
    (down : s.isUpPort p = false) (inactive : s.linkActive p = false) :
    s.zoneCatchup p = s.modPlan p (fun a => { a with missed := false }) := by
  have inactive : (s.modPlan p (fun a => { a with missed := false })).linkActive p = false := inactive
  unfold State.zoneCatchup
  dsimp only
  rw [if_pos ⟨missed, past, down⟩, inactive, Bool.false_and, if_neg (by decide)]

end ZoneReq

section Selector

theorem exec_selectorEvaluate (s : State) : exec .selectorEvaluate s = .next s.selectorEvaluate := rfl

/-- No entry matches the mask (R60). -/
theorem State.selectorEvaluate_noMatch (s : State) (root : s.isRoot = true) (enabled : s.on PLN_CTRL.SEL_EN = true)
    (locked : s.on BOOT_STATUS.LOCK = true) (free : s.on PLN_STATUS.ZPEND = false)
    (none : ∀ i, i < 256 → s.selMatches s.presence i = false) :
    s.selectorEvaluate = (s.wr PLN_STATUS.SELMATCH 0).raise Ev.PLN_SEL_NOMATCH := by
  have search : (List.range 256).find? (fun i => s.selMatches s.presence i) = Option.none :=
    List.find?_eq_none.2 fun i hi => ne_true_of_eq_false (none i (List.mem_range.1 hi))
  unfold State.selectorEvaluate
  rw [if_neg (by simp [root, enabled, locked, free]), search]

theorem exec_presenceBackstop (s : State) (hub : Fin 64) (root : s.isRoot = true) (node : hub.val ≠ 0) :
    exec (.presenceBackstop hub) s = .next (s.hubAbsent hub.val) := congrArg _ (if_pos ⟨root, node⟩)

end Selector

/-- Settles O10: one lemma for each way ZSHIFT_GO, the forwarding, the catch-up and the selector can end. -/
theorem zoneShift : Obligations.ZoneShift := by
  refine ⟨?go, ?forward, ?catchup, ?selector, exec_presenceBackstop⟩
  case go =>
    intro s data h low go
    refine ⟨fun node => ?node, fun root free quiet => ?root⟩
    case node => rw [exec_zshiftGo s data h, s.zshift_node _ low go node]
    case root => rw [exec_zshiftGo s data h, s.zshift_root_quiet _ low go root free quiet]
  case forward =>
    intro s p owed free
    refine ⟨fun inTime => ?inTime, fun late =>
      ⟨_, (exec_zoneReqForward s p).trans (congrArg Host.Outcome.next (s.zoneForward_late p owed free late)), ?owed, ?missed, ?event⟩⟩
    case inTime => exact (exec_zoneReqForward s p).trans (congrArg Host.Outcome.next (s.zoneForward_inTime p owed free inTime))
    case owed => rw [State.lk_zoneMissed, State.zoneReqDue, State.lk_modPlan_same]
    case missed => rw [State.lk_zoneMissed]
    case event => exact State.raised_status ((s.zoneReqDue p).modPlan p _) _ _
  case catchup =>
    intro s p missed past down inactive
    rw [exec_zoneShiftCatchup, s.zoneCatchup_inactive p missed past down inactive]
  case selector =>
    intro s root enabled locked free none
    rw [exec_selectorEvaluate, s.selectorEvaluate_noMatch root enabled locked free none]

end Sys2Proof.Machine

/-! Writes of the tunnel table (R39, R69, R71, R72). -/

namespace Sys2Proof.Machine

section TunnelEntry

/-- Cirrus' entry has one writable bit (R72): bit 18, LEND. -/
theorem State.tunnelEntryWrite_cirrus_lend (s : State) (data : Nat)
    (same : (data &&& 0xFFFBFFFF) = (s.readReg Reg.TUN_ENT0 0 &&& 0xFFFBFFFF)) :
    s.tunnelEntryWrite 0 0 data = (s.wr TUN_ENT0.LEND (TUN_ENT0.LEND.of data) 0).answer St.OK := by
  unfold State.tunnelEntryWrite
  dsimp only [tunWordReg]
  rw [if_pos rfl, State.checked_ok _ _ _ (by simp [same])]

theorem State.tunnelEntryWrite_cirrus_refused (s : State) (w data : Nat)
    (other : w ≠ 0 ∨ (data &&& 0xFFFBFFFF) ≠ (s.readReg Reg.TUN_ENT0 0 &&& 0xFFFBFFFF)) :
    s.tunnelEntryWrite 0 w data = s.answer St.STATE := by
  have refused : (w != 0 || (data &&& 0xFFFBFFFF) != (s.readReg (tunWordReg w) 0 &&& 0xFFFBFFFF)) = true := by
    by_cases word : w = 0
    · subst word
      simpa [tunWordReg] using other
    · simp [word]
  have state : firstStatus [(St.STATE, true)] = St.STATE := rfl
  unfold State.tunnelEntryWrite
  dsimp only
  rw [if_pos rfl, refused, State.checked_fail _ _ _ (by rw [state]; decide), state]

/-- The entry after a write passes the checks of R71. -/
structure State.EntryPasses (t : State) (x : Nat) : Prop where
  value : t.entryBadValue x = false
  range : t.entryBadRange x = false
  conflict : t.entryConflict x = false
  space : ∀ p, p < 4 → t.stageSum p ≤ 2048

/-- An entry that no plan table names is written as its checks allow (R39, R71). -/
theorem State.tunnelEntryWrite_accepted (s : State) (x w data : Nat) (entry : x ≠ 0) (unnamed : s.tablesNaming x = [])
    (reserved : (tunWordReg w).reservedSet data = false) (passes : (s.writeFields (tunWordReg w) x data).EntryPasses x) :
    s.tunnelEntryWrite x w data = (s.writeFields (tunWordReg w) x data).noteStage.answer St.OK := by
  obtain ⟨value, range, conflict, space⟩ := passes
  have room : (List.range 4).any (fun p => decide (2048 < (s.writeFields (tunWordReg w) x data).stageSum p)) = false := by
    simpa using space
  unfold State.tunnelEntryWrite
  dsimp only
  rw [if_neg entry, unnamed, ite_self, State.checked_ok _ _ _ (by simp only [reserved, value, range, conflict, room, List.any_nil,
    Bool.or_self, Bool.and_false, firstStatus_false, firstStatus_nil]), List.foldl_nil]

end TunnelEntry

section TunnelTableAddress

/-- An aligned write inside the table that reaches its block. -/
theorem exec_tunnelEntryWrite (s : State) (addr data : Word) (aligned : addr.toNat % 4 = 0) (inside : inTunnelTable addr.toNat = true)
    (h : s.serves addr.toNat true) :
    exec (.tunnelEntryWrite addr data) s =
      .next (s.tunnelEntryWrite ((addr.toNat - 0x220000) / 16) (addr.toNat % 16 / 4) data.toNat) := by
  have good : (addr.toNat % 4 != 0 || !inTunnelTable addr.toNat) = false := by simp [aligned, inside]
  have act := State.addrAccess_serves s addr.toNat true
    (fun s => s.tunnelEntryWrite ((addr.toNat - 0x220000) / 16) (addr.toNat % 16 / 4) data.toNat) h
  rw [← good] at act
  exact congrArg _ act

/-- An address that the table does not hold (R5). -/
theorem exec_tunnelEntryWrite_outside (s : State) (addr data : Word) (running : s.chip.phase = .running)
    (outside : addr.toNat % 4 ≠ 0 ∨ inTunnelTable addr.toNat = false) :
    exec (.tunnelEntryWrite addr data) s = .next (s.answer St.ADDR) := by
  have bad : (addr.toNat % 4 != 0 || !inTunnelTable addr.toNat) = true := by simpa using outside
  exact congrArg Host.Outcome.next (if_pos ⟨running, bad⟩)

end TunnelTableAddress

/-- Settles O11: Cirrus' entry, an entry that passes its checks, and an address outside the table. -/
theorem tunnelEntryWrites : Obligations.TunnelEntryWrites := by
  refine ⟨fun s addr data aligned inside h => ?inside, exec_tunnelEntryWrite_outside⟩
  have run := exec_tunnelEntryWrite s addr data aligned inside h
  refine ⟨fun cirrus word same => ?lend, fun cirrus other => ?refused, ?accepted⟩
  case lend => rw [run, cirrus, word, s.tunnelEntryWrite_cirrus_lend _ same]
  case refused => rw [run, cirrus, s.tunnelEntryWrite_cirrus_refused _ _ other]
  case accepted =>
    intro entry unnamed reserved t value range conflict space
    rw [run, s.tunnelEntryWrite_accepted _ _ _ entry unnamed reserved ⟨value, range, conflict, space⟩]

end Sys2Proof.Machine

/-! The route table: its candidates, its entries, LOOKUP, DELETE and READ (R78, R80, R98). -/

namespace Sys2Proof.Machine

section RouteCandidates

theorem routeH0_lt (key : Nat) : routeH0 key < 16384 := by unfold routeH0; omega

theorem routeH1_range (key seed : Nat) : 16384 ≤ routeH1 key seed ∧ routeH1 key seed < 32768 := by unfold routeH1; omega

/-- Index `i` is one of the two candidates of a key (R78). -/
def State.routeCandidate (s : State) (key i : Nat) : Prop := i = routeH0 key ∨ i = routeH1 key (s.rd TUN_RSEED.SEED)

/-- Entry `i` is VALID and holds a key. -/
def State.routeHolds (s : State) (i key : Nat) : Prop := s.routeValid i = true ∧ s.route i 0 = key

/-- A key is found where one of its candidates holds it. -/
theorem State.routeFind_isSome_iff (s : State) (key : Nat) :
    (s.routeFind key).isSome = true ↔ ∃ i, s.routeCandidate key i ∧ s.routeHolds i key := by
  unfold State.routeFind State.routeCandidate State.routeHolds
  simp

/-- The placement of R78, by keys. -/
theorem State.routesPlaced_iff (s : State) :
    s.routesPlaced ↔ ∀ i key, i < 32768 → s.routeHolds i key → s.routeCandidate key i := by
  constructor
  · rintro placed i key bound ⟨valid, rfl⟩
    exact placed i bound valid
  · intro placed i bound valid
    exact placed i (s.route i 0) bound ⟨valid, rfl⟩

/-- A displaced entry goes to a candidate of its key (R80). -/
theorem State.routeCandidate_otherIndex (s : State) (i : Nat) : s.routeCandidate (s.route i 0) (s.otherIndex i) := by
  unfold State.otherIndex State.routeCandidate
  dsimp only
  split
  · exact .inr rfl
  · exact .inl rfl

end RouteCandidates

section RouteEntries

/-- The four words of entry `i`. -/
def State.writeRoute (s : State) (i : Nat) (v : Nat → Nat) : State := (List.range 4).foldl (fun s w => s.setRoute i w (v w)) s

theorem State.route_setRoute (s : State) (i w v j u : Nat) (hw : w < 4) (hu : u < 4) :
    (s.setRoute i w v).route j u = if j = i ∧ u = w then v else s.route j u := by
  have key : i * 4 + w = j * 4 + u ↔ j = i ∧ u = w := by omega
  unfold State.route
  rw [State.routes_setRoute, NMap.get_set]
  simp only [key]

theorem State.route_writeRoute (s : State) (i : Nat) (v : Nat → Nat) (j u : Nat) (hu : u < 4) :
    (s.writeRoute i v).route j u = if j = i then v u else s.route j u := by
  have words : s.writeRoute i v = (((s.setRoute i 0 (v 0)).setRoute i 1 (v 1)).setRoute i 2 (v 2)).setRoute i 3 (v 3) := rfl
  rw [words, State.route_setRoute _ _ _ _ _ _ (by decide) hu, State.route_setRoute _ _ _ _ _ _ (by decide) hu,
    State.route_setRoute _ _ _ _ _ _ (by decide) hu, State.route_setRoute _ _ _ _ _ _ (by decide) hu]
  by_cases same : j = i
  · have word : u = 0 ∨ u = 1 ∨ u = 2 ∨ u = 3 := by omega
    rcases word with rfl | rfl | rfl | rfl <;> simp [same]
  · simp [same]

@[simp] theorem State.out_writeRoute (s : State) (i : Nat) (v : Nat → Nat) : (s.writeRoute i v).out = s.out := rfl

theorem State.clearRoute_eq (s : State) (i : Nat) : s.clearRoute i = s.writeRoute i (fun _ => 0) := rfl

theorem State.copyRoute_eq (s : State) (i j : Nat) (ne : i ≠ j) : s.copyRoute i j = s.writeRoute j (s.route i) := by
  simp [State.copyRoute, State.writeRoute, List.range_succ, State.route_setRoute, ne]

/-- An emptied entry holds nothing, and the others are as before. -/
theorem State.route_clearRoute (s : State) (i j w : Nat) (hw : w < 4) : (s.clearRoute i).route j w = if j = i then 0 else s.route j w := by
  rw [State.clearRoute_eq, State.route_writeRoute _ _ _ _ _ hw]

end RouteEntries

section RouteCommands

variable (s : State) (data : Word)

theorem exec_routeLookup (h : s.serves Reg.TUN_RCMD.base true) : exec (.routeLookup data) s = .next (s.routeLookup data.toNat) :=
  congrArg _ (State.access_serves s _ true _ h)

theorem exec_routeDelete (h : s.serves Reg.TUN_RCMD.base true) : exec (.routeDelete data) s = .next (s.routeDelete data.toNat) :=
  congrArg _ (State.access_serves s _ true _ h)

theorem exec_routeRead (h : s.serves Reg.TUN_RCMD.base true) : exec (.routeRead data) s = .next (s.routeRead data.toNat) :=
  congrArg _ (State.access_serves s _ true _ h)

theorem State.routeLookup_present (s : State) (data i : Nat) (good : rcmdBad data 1 = false) (found : s.routeFind (s.rd TUN_RBUF.WORD 0) = some i) :
    s.routeLookup data = (s.wr TUN_RRES.INDEX i).routeDone St.OK := by
  unfold State.routeLookup
  rw [found]
  exact if_neg (by simp [good])

theorem State.routeLookup_absent (s : State) (data : Nat) (absent : s.routeFind (s.rd TUN_RBUF.WORD 0) = none) :
    s.routeLookup data = s.routeDone St.VALUE := by
  unfold State.routeLookup
  rw [absent]

theorem State.routeDelete_present (s : State) (data i : Nat) (good : rcmdBad data 3 = false) (found : s.routeFind (s.rd TUN_RBUF.WORD 0) = some i) :
    s.routeDelete data = ((s.clearRoute i).wr TUN_RSTAT.COUNT (s.rd TUN_RSTAT.COUNT - 1)).routeDone St.OK := by
  unfold State.routeDelete
  rw [found]
  exact if_neg (by simp [good])

theorem State.routeDelete_absent (s : State) (data : Nat) (absent : s.routeFind (s.rd TUN_RBUF.WORD 0) = none) :
    s.routeDelete data = s.routeDone St.VALUE := by
  unfold State.routeDelete
  rw [absent]

theorem State.routeRead_good (s : State) (data : Nat) (good : rcmdBad data 4 = false) :
    s.routeRead data =
      ((List.range 4).foldl (fun t w => t.wr TUN_RBUF.WORD (t.route (TUN_RCMD.INDEX.of data) w) w) s).routeDone St.OK :=
  if_neg (by simp [good])

end RouteCommands

/-- Settles O12: the candidates by arithmetic, then one lemma for each way a command can end. -/
theorem routeCommands : Obligations.RouteCommands := by
  refine ⟨by decide, by decide, fun key seed => ⟨routeH0_lt key, routeH1_range key seed⟩, fun s data h => ?_⟩
  refine ⟨fun i good found => ?present, fun absent => ?absent, fun i good found => ⟨?delete, fun w hw => ?emptied, fun j w hw ne => ?others⟩,
    fun absent => ?deleteAbsent, fun good => ?read⟩
  case present => rw [exec_routeLookup s data h, s.routeLookup_present _ i good found]; rfl
  case absent => rw [exec_routeLookup s data h, s.routeLookup_absent _ absent]; rfl
  case delete => rw [exec_routeDelete s data h, s.routeDelete_present _ i good found]; rfl
  case emptied => rw [s.route_clearRoute i i w hw, if_pos rfl]
  case others => rw [s.route_clearRoute i j w hw, if_neg ne]
  case deleteAbsent => rw [exec_routeDelete s data h, s.routeDelete_absent _ absent]; rfl
  case read => rw [exec_routeRead s data h, s.routeRead_good _ good]; rfl

end Sys2Proof.Machine

/-! INSERT: chains of displacements, and what they keep of the route table (R80). -/

namespace Sys2Proof.Machine

section RouteKept

/-- From `s` to `t` the placement of R78 is kept, and no key is lost. -/
structure State.RouteKept (s t : State) : Prop where
  placed : s.routesPlaced → t.routesPlaced
  found : ∀ key, (s.routeFind key).isSome = true → (t.routeFind key).isSome = true

variable {s t u : State}

theorem State.RouteKept.trans (h : s.RouteKept t) (k : t.RouteKept u) : s.RouteKept u :=
  ⟨fun placed => k.placed (h.placed placed), fun key found => k.found key (h.found key found)⟩

/-- The table is kept when each entry of `t` was there before or lies at a candidate of its key, and each key of `s` has stayed or
gone to a candidate of its own. -/
theorem State.RouteKept.of_entries (seed : t.rd TUN_RSEED.SEED = s.rd TUN_RSEED.SEED)
    (old : ∀ i key, t.routeHolds i key → s.routeHolds i key ∨ s.routeCandidate key i)
    (new : ∀ i key, s.routeHolds i key → t.routeHolds i key ∨ ∃ j, s.routeCandidate key j ∧ t.routeHolds j key) : s.RouteKept t := by
  have candidate : ∀ key i, t.routeCandidate key i ↔ s.routeCandidate key i := fun key i => by
    unfold State.routeCandidate; rw [seed]
  constructor
  · rw [State.routesPlaced_iff, State.routesPlaced_iff]
    intro placed i key bound holds
    rw [candidate]
    exact (old i key holds).elim (placed i key bound) id
  · intro key found
    obtain ⟨i, home, holds⟩ := (s.routeFind_isSome_iff key).1 found
    rw [State.routeFind_isSome_iff]
    rcases new i key holds with stayed | ⟨j, other, moved⟩
    · exact ⟨i, (candidate key i).2 home, stayed⟩
    · exact ⟨j, (candidate key j).2 other, moved⟩

/-- What changes neither the entries nor the seed keeps the table. -/
theorem State.RouteKept.of_same (seed : t.rd TUN_RSEED.SEED = s.rd TUN_RSEED.SEED) (routes : t.routes = s.routes) : s.RouteKept t := by
  have holds : ∀ i key, t.routeHolds i key ↔ s.routeHolds i key := fun i key => by
    unfold State.routeHolds State.routeValid State.route; rw [routes]
  exact .of_entries seed (fun i key h => .inl ((holds i key).1 h)) (fun i key h => .inl ((holds i key).2 h))

end RouteKept

section WrittenEntry

variable {s : State} {i : Nat}

/-- A written entry holds the key of its word 0 if its word 1 is marked VALID (R77). -/
theorem State.routeHolds_writeRoute_same (v : Nat → Nat) (key : Nat) :
    (s.writeRoute i v).routeHolds i key ↔ bitAt (v 1) 24 = true ∧ v 0 = key := by
  unfold State.routeHolds State.routeValid
  rw [State.route_writeRoute _ _ _ _ _ (by decide), State.route_writeRoute _ _ _ _ _ (by decide), if_pos rfl, if_pos rfl]

theorem State.routeHolds_writeRoute_ne (v : Nat → Nat) (j key : Nat) (ne : j ≠ i) :
    (s.writeRoute i v).routeHolds j key ↔ s.routeHolds j key := by
  unfold State.routeHolds State.routeValid
  rw [State.route_writeRoute _ _ _ _ _ (by decide), State.route_writeRoute _ _ _ _ _ (by decide), if_neg ne, if_neg ne]

theorem State.not_routeHolds_of_free (free : s.routeValid i = false) (key : Nat) : ¬ s.routeHolds i key :=
  fun holds => ne_true_of_eq_false free holds.1

/-- Writing a key to a free one of its candidates keeps the table. -/
theorem State.routeKept_writeRoute (v : Nat → Nat) (free : s.routeValid i = false) (home : s.routeCandidate (v 0) i) :
    s.RouteKept (s.writeRoute i v) := by
  refine .of_entries rfl (fun j key holds => ?_) (fun j key holds => .inl ?_)
  · by_cases same : j = i
    · subst same
      obtain ⟨-, rfl⟩ := (State.routeHolds_writeRoute_same v key).1 holds
      exact .inr home
    · exact .inl ((State.routeHolds_writeRoute_ne v j key same).1 holds)
  · have ne : j ≠ i := by
      rintro rfl
      exact State.not_routeHolds_of_free free key holds
    exact (State.routeHolds_writeRoute_ne v j key ne).2 holds

/-- Emptying an entry keeps the table where another candidate of its key holds that key. -/
theorem State.routeKept_clearRoute {j : Nat} (ne : j ≠ i) (home : s.routeCandidate (s.route i 0) j) (copy : s.routeHolds j (s.route i 0)) :
    s.RouteKept (s.clearRoute i) := by
  rw [State.clearRoute_eq]
  refine .of_entries rfl (fun k key holds => .inl ?_) (fun k key holds => ?_)
  · have other : k ≠ i := by
      rintro rfl
      obtain ⟨valid, -⟩ := (State.routeHolds_writeRoute_same _ key).1 holds
      exact absurd valid (by decide)
    exact (State.routeHolds_writeRoute_ne _ k key other).1 holds
  · by_cases same : k = i
    · subst same
      obtain ⟨-, rfl⟩ := holds
      exact .inr ⟨j, home, (State.routeHolds_writeRoute_ne _ j _ ne).2 copy⟩
    · exact .inl ((State.routeHolds_writeRoute_ne _ k key same).2 holds)

end WrittenEntry

section Move

/-- One displacement: entry `i` goes to index `j` (R80). -/
def State.moveRoute (s : State) (i j : Nat) : State := (s.copyRoute i j).clearRoute i

variable {s : State} {i j : Nat}

theorem State.routeValid_moveRoute_source (s : State) (i j : Nat) : (s.moveRoute i j).routeValid i = false := by
  unfold State.moveRoute State.routeValid
  rw [State.route_clearRoute _ _ _ _ (by decide), if_pos rfl]
  rfl

theorem State.route_moveRoute_ne (ne : i ≠ j) (k w : Nat) (hw : w < 4) (ki : k ≠ i) (kj : k ≠ j) :
    (s.moveRoute i j).route k w = s.route k w := by
  rw [State.moveRoute, State.route_clearRoute _ _ _ _ hw, if_neg ki, State.copyRoute_eq _ _ _ ne, State.route_writeRoute _ _ _ _ _ hw, if_neg kj]

@[simp] theorem State.rd_moveRoute (s : State) (i j : Nat) (f : Field) (k : Nat) : (s.moveRoute i j).rd f k = s.rd f k := by
  simp [State.moveRoute, State.clearRoute, State.copyRoute, List.range_succ]

@[simp] theorem State.out_moveRoute (s : State) (i j : Nat) : (s.moveRoute i j).out = s.out := by
  simp [State.moveRoute, State.clearRoute, State.copyRoute, List.range_succ]

theorem State.ne_of_free_of_full (free : s.routeValid j = false) (full : s.routeValid i = true) : i ≠ j := by
  rintro rfl
  exact ne_true_of_eq_false free full

/-- A move to the other candidate, where that is free, keeps the table: the copy first, then the emptied source (R80). -/
theorem State.routeKept_moveRoute (free : s.routeValid j = false) (full : s.routeValid i = true) (link : j = s.otherIndex i) :
    s.RouteKept (s.moveRoute i j) := by
  have ne : i ≠ j := State.ne_of_free_of_full free full
  have home : s.routeCandidate (s.route i 0) j := link ▸ s.routeCandidate_otherIndex i
  have source : (s.writeRoute j (s.route i)).route i 0 = s.route i 0 := by
    rw [State.route_writeRoute _ _ _ _ _ (by decide), if_neg ne]
  rw [State.moveRoute, State.copyRoute_eq s i j ne]
  refine (State.routeKept_writeRoute (s.route i) free home).trans (State.routeKept_clearRoute ne.symm ?_ ?_)
  · rw [source]; exact home
  · rw [source]; exact (State.routeHolds_writeRoute_same _ _).2 ⟨full, rfl⟩

end Move

section Chain

/-- In a list with the newest index first, each index is the other candidate of the entry at the next one (R80). -/
def State.Linked (s : State) : List Nat → Prop
  | j :: i :: rest => j = s.otherIndex i ∧ s.Linked (i :: rest)
  | _ => True

theorem State.linked_singleton (s : State) (i : Nat) : s.Linked [i] := trivial

theorem State.linked_cons_cons (s : State) (j i : Nat) (rest : List Nat) : s.Linked (j :: i :: rest) ↔ j = s.otherIndex i ∧ s.Linked (i :: rest) :=
  Iff.rfl

/-- The links depend on the entries behind the newest index alone. -/
theorem State.linked_of_same {s t : State} {j : Nat} {rest : List Nat} (same : ∀ i ∈ rest, t.otherIndex i = s.otherIndex i)
    (linked : s.Linked (j :: rest)) : t.Linked (j :: rest) := by
  induction rest generalizing j with
  | nil => exact t.linked_singleton j
  | cons i rest ih =>
    obtain ⟨link, linked⟩ := (s.linked_cons_cons j i rest).1 linked
    refine (t.linked_cons_cons j i rest).2 ⟨?_, ih (fun k hk => same k (List.mem_cons_of_mem i hk)) linked⟩
    rw [same i List.mem_cons_self, link]

/-- A chain of displacements, newest index first (R80): index `j` is free, the others are full and distinct, and each index is the other
candidate of the entry at the next one. -/
structure State.FreeChain (s : State) (j : Nat) (rest : List Nat) : Prop where
  free : s.routeValid j = false
  full : ∀ i ∈ rest, s.routeValid i = true
  distinct : rest.Nodup
  linked : s.Linked (j :: rest)

variable {s : State}

/-- A search along full, distinct, linked indices ends in a free chain that begins where the search began (R80). -/
theorem State.freeChain_of_chainFrom {path c : List Nat} {i fuel : Nat} (found : s.chainFrom path i fuel = some c)
    (full : ∀ k ∈ path, s.routeValid k = true) (distinct : path.Nodup) (linked : s.Linked (i :: path)) :
    ∃ j rest, c = j :: rest ∧ s.FreeChain j rest ∧ c.getLast? = (i :: path).getLast? := by
  induction fuel generalizing path i with
  | zero =>
    unfold State.chainFrom at found
    split at found
    case isTrue free => cases found; exact ⟨i, path, rfl, ⟨free, full, distinct, linked⟩, rfl⟩
    case isFalse => cases found
  | succ fuel ih =>
    unfold State.chainFrom at found
    split at found
    case isTrue free => cases found; exact ⟨i, path, rfl, ⟨free, full, distinct, linked⟩, rfl⟩
    case isFalse taken =>
      dsimp only at found
      split at found
      case isTrue => cases found
      case isFalse unseen =>
        have new : i ∉ path := by simpa using unseen
        have valid : s.routeValid i = true := by simpa using taken
        obtain ⟨j, rest, rfl, chain, last⟩ := ih found (List.forall_mem_cons.2 ⟨valid, full⟩) (List.nodup_cons.2 ⟨new, distinct⟩)
          ((s.linked_cons_cons _ i path).2 ⟨rfl, linked⟩)
        exact ⟨j, rest, rfl, chain, last.trans List.getLast?_cons_cons⟩

/-- After the newest move the rest of the chain is a free chain. -/
theorem State.FreeChain.tail {j i : Nat} {rest : List Nat} (h : s.FreeChain j (i :: rest)) : (s.moveRoute i j).FreeChain i rest := by
  obtain ⟨free, full, distinct, linked⟩ := h
  obtain ⟨new, distinct⟩ := List.nodup_cons.1 distinct
  have ne : i ≠ j := State.ne_of_free_of_full free (full i (by simp))
  have same : ∀ k ∈ rest, ∀ w, w < 4 → (s.moveRoute i j).route k w = s.route k w := fun k hk w hw =>
    State.route_moveRoute_ne ne k w hw (fun e => new (e ▸ hk)) (State.ne_of_free_of_full free (full k (by simp [hk])))
  refine ⟨s.routeValid_moveRoute_source i j, fun k hk => ?_, distinct, ?_⟩
  · unfold State.routeValid
    rw [same k hk 1 (by decide)]
    exact full k (by simp [hk])
  · obtain ⟨-, linked⟩ := (s.linked_cons_cons j i rest).1 linked
    refine State.linked_of_same (fun k hk => ?_) linked
    unfold State.otherIndex
    rw [same k hk 0 (by decide), State.rd_moveRoute]

theorem State.makeMoves_cons_cons (s : State) (j i : Nat) (rest : List Nat) :
    s.makeMoves (j :: i :: rest) = (s.moveRoute i j).makeMoves (i :: rest) := by
  rw [State.makeMoves]
  rfl

@[simp] theorem State.rd_makeMoves (s : State) (chain : List Nat) (f : Field) (k : Nat) : (s.makeMoves chain).rd f k = s.rd f k := by
  induction chain generalizing s with
  | nil => rfl
  | cons j r ih =>
    cases r with
    | nil => rfl
    | cons i r => rw [State.makeMoves_cons_cons, ih, State.rd_moveRoute]

@[simp] theorem State.out_makeMoves (s : State) (chain : List Nat) : (s.makeMoves chain).out = s.out := by
  induction chain generalizing s with
  | nil => rfl
  | cons j r ih =>
    cases r with
    | nil => rfl
    | cons i r => rw [State.makeMoves_cons_cons, ih, State.out_moveRoute]

/-- The moves of a free chain keep the table and free the index where it began (R80). -/
theorem State.FreeChain.makeMoves {j : Nat} {rest : List Nat} (h : s.FreeChain j rest) :
    s.RouteKept (s.makeMoves (j :: rest)) ∧ (s.makeMoves (j :: rest)).routeValid ((j :: rest).getLast?.getD 0) = false := by
  induction rest generalizing s j with
  | nil => exact ⟨.of_same rfl rfl, h.free⟩
  | cons i rest ih =>
    obtain ⟨link, -⟩ := (s.linked_cons_cons j i rest).1 h.linked
    have moved := State.routeKept_moveRoute h.free (h.full i (by simp)) link
    obtain ⟨kept, freed⟩ := ih h.tail
    rw [State.makeMoves_cons_cons, List.getLast?_cons_cons]
    exact ⟨moved.trans kept, freed⟩

/-- INSERT's chain begins at a candidate of the new key (R80). -/
theorem State.freeChain_of_insertChain {key : Nat} {c : List Nat} (h : s.insertChain key = some c) :
    ∃ j rest, c = j :: rest ∧ s.FreeChain j rest ∧ s.routeCandidate key (c.getLast?.getD 0) := by
  have search : ∀ i, s.routeCandidate key i → s.chainFrom [] i 32 = some c →
      ∃ j rest, c = j :: rest ∧ s.FreeChain j rest ∧ s.routeCandidate key (c.getLast?.getD 0) := fun i home found => by
    obtain ⟨j, rest, rfl, chain, last⟩ := State.freeChain_of_chainFrom found (by simp) List.nodup_nil (s.linked_singleton i)
    refine ⟨j, rest, rfl, chain, ?_⟩
    rw [last]
    exact home
  have origin : s.chainFrom [] (routeH0 key) 32 = some c ∨ s.chainFrom [] (routeH1 key (s.rd TUN_RSEED.SEED)) 32 = some c := by
    unfold State.insertChain at h
    dsimp only at h
    split at h
    case h_1 first second =>
      split at h
      · exact .inr (second.trans h)
      · exact .inl (first.trans h)
    case h_2 first _ => exact .inl (first.trans h)
    case h_3 => exact .inr h
  exact origin.elim (search _ (.inl rfl)) (search _ (.inr rfl))

end Chain

section Insert

variable (s : State)

/-- The words that INSERT puts into the new entry: those of `TUN_RBUF`, with HITS zeroed (R80). -/
def State.newRoute (s : State) (w : Nat) : Nat := if w = 3 then s.rd TUN_RBUF.WORD 3 % 65536 else s.rd TUN_RBUF.WORD w

/-- What `TUN_RRES` and `TUN_RSTAT` show of an INSERT that put an entry at `i` after `moves` moves. -/
def State.showInsert (s : State) (i moves : Nat) : State :=
  ((s.wr TUN_RRES.INDEX i).wr TUN_RRES.MOVES moves).wr TUN_RSTAT.COUNT (s.rd TUN_RSTAT.COUNT + 1)

@[simp] theorem State.out_showInsert (i moves : Nat) : (s.showInsert i moves).out = s.out := rfl

theorem State.routePut_eq (c : List Nat) :
    s.routePut c = ((s.makeMoves c).writeRoute (c.getLast?.getD 0) s.newRoute).showInsert (c.getLast?.getD 0) (c.length - 1) := by
  have put : s.routePut c =
      ((s.makeMoves c).writeRoute (c.getLast?.getD 0) (s.makeMoves c).newRoute).showInsert (c.getLast?.getD 0) (c.length - 1) := rfl
  have words : (s.makeMoves c).newRoute = s.newRoute := funext fun w => by unfold State.newRoute; rw [State.rd_makeMoves, State.rd_makeMoves]
  rw [put, words]

@[simp] theorem State.rd_showInsert_seed (i moves : Nat) : (s.showInsert i moves).rd TUN_RSEED.SEED = s.rd TUN_RSEED.SEED := by
  unfold State.showInsert
  rw [State.rd_wr_ne _ _ _ _ _ _ (by decide), State.rd_wr_ne _ _ _ _ _ _ (by decide), State.rd_wr_ne _ _ _ _ _ _ (by decide)]

theorem State.out_routePut (c : List Nat) : (s.routePut c).out = s.out := by
  rw [State.routePut_eq, State.out_showInsert, State.out_writeRoute, State.out_makeMoves]

/-- A new key put where its chain leads is found there, and the table is kept (R78, R80). -/
theorem State.routeKept_routePut {c : List Nat} (chain : s.insertChain (s.rd TUN_RBUF.WORD 0) = some c) (valid : bitAt (s.rd TUN_RBUF.WORD 1) 24 = true) :
    s.RouteKept (s.routePut c) ∧ ((s.routePut c).routeFind (s.rd TUN_RBUF.WORD 0)).isSome = true := by
  obtain ⟨j, rest, rfl, free, home⟩ := State.freeChain_of_insertChain chain
  obtain ⟨moved, freed⟩ := free.makeMoves
  rw [State.routePut_eq]
  generalize (j :: rest).getLast?.getD 0 = i at *
  have home : (s.makeMoves (j :: rest)).routeCandidate (s.newRoute 0) i := by unfold State.routeCandidate; rw [State.rd_makeMoves]; exact home
  have put := State.routeKept_writeRoute s.newRoute freed home
  have shown : ∀ t : State, t.RouteKept (t.showInsert i ((j :: rest).length - 1)) := fun t => .of_same (t.rd_showInsert_seed ..) rfl
  refine ⟨(moved.trans put).trans (shown _), (shown _).found _ ((State.routeFind_isSome_iff ..).2 ⟨i, home, ?_⟩)⟩
  exact (State.routeHolds_writeRoute_same _ _).2 ⟨valid, rfl⟩

/-- The status of an INSERT, in the order of R10. -/
theorem State.insertStatus_eq (bad : Bool) :
    s.insertStatus bad =
      if (bad || s.rbufBad) = true then St.VALUE
      else if (s.routeFind (s.rd TUN_RBUF.WORD 0)).isSome = true then St.CONFLICT
      else if (s.insertChain (s.rd TUN_RBUF.WORD 0)).isNone = true then St.NOSPACE
      else St.OK := by
  unfold State.insertStatus
  cases (bad || s.rbufBad) <;> cases (s.routeFind (s.rd TUN_RBUF.WORD 0)).isSome <;>
    cases (s.insertChain (s.rd TUN_RBUF.WORD 0)).isNone <;> rfl

/-- An INSERT answered OK has a good entry in `TUN_RBUF` and a chain. -/
theorem State.insertStatus_ok {bad : Bool} (ok : s.insertStatus bad = St.OK) :
    s.rbufBad = false ∧ ∃ c, s.insertChain (s.rd TUN_RBUF.WORD 0) = some c := by
  rw [State.insertStatus_eq] at ok
  split at ok
  case isTrue => cases ok
  case isFalse good =>
    split at ok
    case isTrue => cases ok
    case isFalse =>
      split at ok
      case isTrue => cases ok
      case isFalse chain =>
        obtain ⟨-, entry⟩ := Bool.or_eq_false_iff.1 (eq_false_of_ne_true good)
        exact ⟨entry, Option.ne_none_iff_exists'.1 (mt Option.isNone_iff_eq_none.2 chain)⟩

/-- A good entry in `TUN_RBUF` is marked VALID (R77). -/
theorem State.rbuf_valid (good : s.rbufBad = false) : bitAt (s.rd TUN_RBUF.WORD 1) 24 = true := by
  unfold State.rbufBad at good
  simp only [Bool.or_eq_false_iff, Bool.not_eq_false'] at good
  obtain ⟨⟨-, valid⟩, -⟩ := good
  exact valid

theorem State.insertRoute_ok {bad : Bool} {c : List Nat} (ok : s.insertStatus bad = St.OK)
    (chain : s.insertChain (s.rd TUN_RBUF.WORD 0) = some c) : s.insertRoute bad = (s.routePut c).wr TUN_RRES.STATUS St.OK := by
  unfold State.insertRoute
  dsimp only
  rw [if_pos ok, chain, ok]
  rfl

theorem State.insertRoute_refused {bad : Bool} (refused : s.insertStatus bad ≠ St.OK) :
    s.insertRoute bad = (s.wr TUN_RRES.MOVES 0).wr TUN_RRES.STATUS (s.insertStatus bad) := if_neg refused

/-- A refused INSERT leaves the table alone (R80). -/
theorem State.routes_insertRoute_refused {bad : Bool} (refused : s.insertStatus bad ≠ St.OK) : (s.insertRoute bad).routes = s.routes := by
  rw [s.insertRoute_refused refused]
  rfl

theorem State.out_insertRoute (bad : Bool) : (s.insertRoute bad).out = s.out := by
  by_cases ok : s.insertStatus bad = St.OK
  · obtain ⟨-, c, chain⟩ := s.insertStatus_ok ok
    rw [s.insertRoute_ok ok chain, State.out_wr, State.out_routePut]
  · rw [s.insertRoute_refused ok]
    rfl

theorem State.routeKept_wr_status (s : State) (code : Nat) : s.RouteKept (s.wr TUN_RRES.STATUS code) :=
  .of_same (State.rd_wr_ne _ _ _ _ _ _ (by decide)) rfl

/-- INSERT keeps the placement of every key and loses none, whatever it answers (R78, R80). -/
theorem State.routeKept_insertRoute (bad : Bool) : s.RouteKept (s.insertRoute bad) := by
  by_cases ok : s.insertStatus bad = St.OK
  · obtain ⟨good, c, chain⟩ := s.insertStatus_ok ok
    rw [s.insertRoute_ok ok chain]
    exact (s.routeKept_routePut chain (s.rbuf_valid good)).1.trans (State.routeKept_wr_status _ _)
  · rw [s.insertRoute_refused ok]
    have moves : s.RouteKept (s.wr TUN_RRES.MOVES 0) := .of_same (State.rd_wr_ne _ _ _ _ _ _ (by decide)) rfl
    exact moves.trans (State.routeKept_wr_status _ _)

/-- A key whose INSERT is answered OK is found (R80). -/
theorem State.routeFind_insertRoute {bad : Bool} (ok : s.insertStatus bad = St.OK) :
    ((s.insertRoute bad).routeFind (s.rd TUN_RBUF.WORD 0)).isSome = true := by
  obtain ⟨good, c, chain⟩ := s.insertStatus_ok ok
  rw [s.insertRoute_ok ok chain]
  exact (State.routeKept_wr_status _ _).found _ (s.routeKept_routePut chain (s.rbuf_valid good)).2

theorem exec_routeInsert (data : Word) (h : s.serves Reg.TUN_RCMD.base true) :
    exec (.routeInsert data) s = .next ((s.insertRoute (rcmdBad data.toNat 2)).answer (s.insertStatus (rcmdBad data.toNat 2))) :=
  congrArg _ (State.access_serves s _ true _ h)

end Insert

/-- Settles O13: the moves of a free chain and the new entry each keep the table, and the status follows the order of R10. -/
theorem routeInsert : Obligations.RouteInsert := by
  intro s data h key st
  have kept := s.routeKept_insertRoute (rcmdBad data.toNat 2)
  have status := s.insertStatus_eq (rcmdBad data.toNat 2)
  refine ⟨_, exec_routeInsert s data h, ?out, fun placed => kept.placed placed, s.routes_insertRoute_refused,
    fun _ ok => ⟨s.routeFind_insertRoute ok, kept.found⟩, fun cmd entry present => ?conflict, fun cmd entry absent full => ?nospace⟩
  case out => rw [State.out_answer, State.out_insertRoute]
  case conflict => exact status.trans (by simp [cmd, entry, key, present])
  case nospace => exact status.trans (by simp [cmd, entry, key, absent, full])

end Sys2Proof.Machine

/-! Frames at the end of their tunnel, a point image without its source, and the posted-error log (R68, R75, R88, R93). -/

namespace Sys2Proof.Machine

section TunnelFrames

/-- The oldest completed frame is taken off the inbox (R68). -/
theorem exec_tunnelFrameReceive (s : State) (u : TunUnit) (r : List TunUnit) (oldest : s.tun.inbox = u :: r) :
    exec .tunnelFrameReceive s = .next ((s.modTun (fun t => { t with inbox := r })).tunnelFrame u) := by
  have taken : s.tunnelFrameReceive = (s.modTun (fun t => { t with inbox := r })).tunnelFrame u := by
    unfold State.tunnelFrameReceive
    rw [oldest]
  exact congrArg _ taken

variable (s : State) (u : TunUnit) (frame : u.kind = 0)
include frame

/-- A frame marked bad is no gateway frame lost where the gateway is not its endpoint (R75). -/
theorem State.tunnelFrame_bad (bad : u.bad = true) (notGateway : u.ep ≠ 0x11) : s.tunnelFrame u = s.swDrop u.port Drop.FORMAT := by
  unfold State.tunnelFrame
  dsimp only
  rw [if_neg (by simp [frame]), if_pos bad, if_neg notGateway]

theorem State.tunnelFrame_misfit (good : u.bad = false) (misfit : lenFits u.bytes (u.bytes.length / 24) = false) :
    s.tunnelFrame u = s.swDrop u.port Drop.FORMAT := by
  unfold State.tunnelFrame
  dsimp only
  rw [if_neg (by simp [frame]), if_neg (by simp [good]), if_neg (by simp [frame]), if_pos (.inl misfit)]

/-- A Cirrus message waits for the relay without its header (R68). -/
theorem State.tunnelFrame_cirrus (good : u.bad = false) (fits : lenFits u.bytes (u.bytes.length / 24) = true)
    (known : leAt u.bytes 0 2 = 1 ∨ (s.tixOf (leAt u.bytes 0 2)).isSome = true) (cirrus : u.ep = 0x10) :
    s.tunnelFrame u = s.modTun (fun t => { t with cirrusIn := t.cirrusIn ++ [{ u with bytes := (u.bytes.drop 8).take (tunLen u.bytes) }] }) := by
  have known : (leAt u.bytes 0 2 == 1 || (s.tixOf (leAt u.bytes 0 2)).isSome) = true := by simpa using known
  unfold State.tunnelFrame
  dsimp only
  rw [if_neg (by simp [frame]), if_neg (by simp [good]), if_neg (by simp [frame]), if_neg (by simp [fits, known]), if_pos cirrus]

end TunnelFrames

section PostedErrorLog

theorem exec_pelogEntryClear (s : State) (e : Fin 16) (data : Word) (h : s.serves (Reg.TUN_PELOG3.addr e.val 0) true) :
    exec (.pelogEntryClear e data) s = .next (s.pelogClear e.val data.toNat) := congrArg _ (State.access_serves s _ true _ h)

/-- Of word 3 of a log entry a write changes VALID alone (R6, R93). -/
theorem State.writeFields_pelog3 (s : State) (e data : Nat) :
    s.writeFields Reg.TUN_PELOG3 e data =
      s.wr TUN_PELOG3.VALID (s.rd TUN_PELOG3.VALID e - (s.rd TUN_PELOG3.VALID e &&& TUN_PELOG3.VALID.of data)) e := rfl

/-- No check but that of the reserved bits concerns word 3 of a log entry: BYTES is read-only, VALID is cleared by a 1. -/
theorem State.firstStatus_pelog3 (s : State) (e data : Nat) (reserved : Reg.TUN_PELOG3.reservedSet data = false) :
    firstStatus (s.writeChecks Reg.TUN_PELOG3 e data) = St.OK := by
  rw [State.firstStatus_writeChecks, reserved]
  rfl

/-- A 1 in VALID frees the entry, and the log has room again (R93). -/
theorem State.pelogClear_valid (s : State) (e data : Nat) (reserved : Reg.TUN_PELOG3.reservedSet data = false)
    (clears : TUN_PELOG3.VALID.of data = 1) :
    s.pelogClear e data = (((s.wr TUN_PELOG3.VALID (s.rd TUN_PELOG3.VALID e - (s.rd TUN_PELOG3.VALID e &&& 1)) e).modTun
      (fun t => { t with peOrder := t.peOrder.filter (fun x => x != e), peFull := false })).peStat).answer St.OK := by
  unfold State.pelogClear State.writeReg
  rw [List.append_nil, State.checked_ok _ _ _ (s.firstStatus_pelog3 e data reserved), State.writeFields_pelog3, clears]
  rfl

end PostedErrorLog

theorem exec_pointImageTimeout (s : State) (i : Fin 64) (valid : s.on TUN_PMAP0.VALID i.val = true) (receiving : s.on TUN_PMAP0.DIR i.val = true)
    (timed : s.on TUN_PMAP2.TIMEOUT i.val = true) :
    exec (.pointImageTimeout i) s =
      .next ((s.setQuality (s.rd TUN_PMAP1.BASE i.val) (s.rd TUN_PMAP1.COUNT i.val) 0xE).raise Ev.TUN_PIMG_LOST i.val) :=
  congrArg _ (if_pos ⟨valid, receiving, timed⟩)

/-- Settles O14: one lemma for each way a frame, a map or a log entry can end. -/
theorem tunnelEnds : Obligations.TunnelEnds := by
  refine ⟨fun s u r oldest frame => ?frames, exec_pointImageTimeout, fun s e data h reserved clears => ?log⟩
  case frames =>
    rw [exec_tunnelFrameReceive s u r oldest]
    refine ⟨fun bad notGateway => ?bad, fun good misfit => ?misfit, fun good fits known cirrus => ?cirrus⟩
    case bad => rw [State.tunnelFrame_bad _ u frame bad notGateway]
    case misfit => rw [State.tunnelFrame_misfit _ u frame good misfit]
    case cirrus => exact congrArg Host.Outcome.next (State.tunnelFrame_cirrus _ u frame good fits known cirrus)
  case log => rw [exec_pelogEntryClear s e data h, s.pelogClear_valid _ _ reserved clears]

end Sys2Proof.Machine

/-! Shared by the statements of spec/04_lanes.md: commands that tell the other blocks nothing, what a change of a lane's state or of a
substitution leaves of a port, and folds over the lanes. -/

namespace Sys2Proof.Machine

section LaneRules

/-- A command that tells the other blocks nothing ends as it acts. -/
theorem State.settling_of_quiet (s : State) (f : State → State) {t : State} (act : f s.calm = t) (quiet : t.news = []) : s.settling f = t := by
  rw [State.settling_quiet s f ((congrArg State.news act).trans quiet)]
  exact act

/-- A hub with nothing to tell settles as it is. -/
theorem State.settled_of_quiet (s : State) (quiet : s.news = []) : s.settled = s := s.settling_of_quiet (fun _ => s) rfl quiet

theorem State.linkActive_wr_ne (s : State) (f : Field) (v i q : Nat) (h : f.id ≠ JXK_STATUS.STATE.id) :
    (s.wr f v i).linkActive q = s.linkActive q := congrArg (· == 6) (State.rd_wr_ne _ _ _ _ _ _ h)

@[simp] theorem State.news_setLane (s : State) (p k v : Nat) : (s.setLane p k v).news = s.news := rfl
@[simp] theorem State.news_exclude (s : State) (p k : Nat) : (s.exclude p k).news = s.news := rfl
@[simp] theorem State.news_modLane (s : State) (p : Nat) (g : LanePort → LanePort) : (s.modLane p g).news = s.news := rfl
@[simp] theorem State.news_setSubst (s : State) (p : Nat) (l : List SubstRx) : (s.setSubst p l).news = s.news := rfl

@[simp] theorem State.lk_modLane_same (s : State) (p : Nat) (g : LanePort → LanePort) :
    (s.modLane p g).lk p = { s.lk p with lane := g (s.lk p).lane } := State.lk_modLk_same ..

@[simp] theorem State.lk_setSubst_same (s : State) (p : Nat) (l : List SubstRx) :
    (s.setSubst p l).lk p = { s.lk p with lane := { (s.lk p).lane with substRx := l } }  :=
  State.lk_modLane_same s p (fun a => { a with substRx := l })

@[simp] theorem State.lk_setLane (s : State) (p k v q : Nat) : (s.setLane p k v).lk q = s.lk q := rfl
@[simp] theorem State.lk_exclude (s : State) (p k q : Nat) : (s.exclude p k).lk q = s.lk q := rfl

end LaneRules

section Fold

variable {σ β : Type}

/-- A fold over distinct places, each step of which changes its own place only. -/
theorem foldl_pointwise (get : σ → Nat → β) (g : σ → Nat → σ) (h : Nat → β → β) (D : Nat → Prop)
    (same : ∀ s k, D k → get (g s k) k = h k (get s k)) (other : ∀ s k j, D k → D j → j ≠ k → get (g s k) j = get s j)
    (l : List Nat) (distinct : l.Nodup) (inside : ∀ k ∈ l, D k) (s : σ) (j : Nat) (hj : D j) :
    get (l.foldl g s) j = if j ∈ l then h j (get s j) else get s j := by
  induction l generalizing s with
  | nil => simp
  | cons k r ih =>
    obtain ⟨notIn, distinct⟩ := List.nodup_cons.1 distinct
    have hk : D k := inside k List.mem_cons_self
    rw [List.foldl_cons, ih distinct (fun x hx => inside x (List.mem_cons_of_mem k hx))]
    by_cases e : j = k
    · subst e
      rw [if_neg notIn, if_pos List.mem_cons_self, same s j hj]
    · simp only [List.mem_cons, e, false_or, other s k j hk hj e]

/-- What every step of a fold leaves alone. -/
theorem foldl_keeps {α : Type} (get : σ → β) (g : σ → α → σ) (keeps : ∀ s a, get (g s a) = get s) (l : List α) (s : σ) :
    get (l.foldl g s) = get s := by
  induction l generalizing s with
  | nil => rfl
  | cons a r ih => rw [List.foldl_cons, ih, keeps]

end Fold

end Sys2Proof.Machine

/-! Lane requests (R124 to R126): the sender's answer, the receiver's retry, and the two moments of a substitution. -/

namespace Sys2Proof.Machine

section LaneRequest

theorem exec_laneReqReceive (s : State) (p : Fin 4) (y : List Byte) :
    exec (.laneReqReceive p y) s = .next (s.laneReq p.val (LaneMsg.ofPayload y)) := rfl

variable (s : State) (p : Nat) (m : LaneMsg) (active : s.linkActive p = true)
include active

/-- The request is committed in place of an earlier one for its logical lane, and acknowledged (R124 step 2). -/
theorem State.laneReq_taken (passes : s.laneReqStatus p m = St.OK) :
    s.laneReq p m = (s.modLane p (fun a =>
      { a with substTx := a.substTx.filter (fun r => r.logical != m.logical) ++ [⟨m.logical, m.src, m.dst, m.effect⟩] })).pushCtl p Kind.CONTROL
        (LaneMsg.payload { m with code := 0x11, status := 0 }) false := by
  unfold State.laneReq
  rw [if_neg (by simp [active])]
  exact if_pos passes

theorem State.laneReq_refused (fails : s.laneReqStatus p m ≠ St.OK) :
    s.laneReq p m = s.pushCtl p Kind.CONTROL (LaneMsg.payload { m with code := 0x12, status := s.laneReqStatus p m }) false := by
  unfold State.laneReq
  rw [if_neg (by simp [active])]
  exact if_neg fails

end LaneRequest

section LaneAnswers

theorem exec_laneAckReceive (s : State) (p : Fin 4) (y : List Byte) :
    exec (.laneAckReceive p y) s = .next (s.laneAck p.val (LaneMsg.ofPayload y)) := rfl

/-- An acknowledgement changes the requests, not their number. -/
theorem State.laneAck_eq (s : State) (p : Nat) (m : LaneMsg) :
    s.laneAck p m = (s.modLane p (fun a => { a with substRx := a.substRx.map (fun r =>
      if r.lseq = m.lseq ∧ r.logical = m.logical then { r with acked := true } else r) })).wr JXP_STATUS.PENDING
        (s.lk p).lane.substRx.length p := by
  unfold State.laneAck State.setSubst State.countPending
  rw [State.lk_modLane_same, List.length_map]
  rfl

theorem exec_laneNackReceive (s : State) (p : Fin 4) (y : List Byte) :
    exec (.laneNackReceive p y) s = .next (s.settling (fun s => s.laneNack p.val (LaneMsg.ofPayload y))) := rfl

/-- The request that takes the place of a failed one: the same lanes, four superframes ahead (R125). -/
def State.retried (s : State) (p : Nat) (r : SubstRx) : SubstRx :=
  ⟨r.logical, r.src, r.dst, (s.sfn + 4) % 2 ^ 32, s.nextLseq p, false, [], none⟩

variable (s : State) (p : Nat) (r : SubstRx) (only : (s.lk p).lane.substRx = [r])
include only

theorem State.laneNack_answers {m : LaneMsg} (lseq : r.lseq = m.lseq) (logical : r.logical = m.logical) (undecided : r.used = none) :
    s.laneNack p m = s.retrySubst p r r.src r.dst := by
  unfold State.laneNack
  rw [only, List.find?_cons_of_pos (by simp [lseq, logical, undecided])]

/-- The only request of a port failed for at most the second time (R125). -/
theorem State.retrySubst_again (few : s.subFails p r.logical < 2) :
    s.retrySubst p r r.src r.dst = (((((s.setSubFails p r.logical (s.subFails p r.logical + 1)).setSubst p []).setSubst p
      [s.retried p r]).usedLseq p).sendLaneReq p (s.retried p r) false) := by
  have requests : ((s.setSubFails p r.logical (s.subFails p r.logical + 1)).lk p).lane.substRx = [r] := by
    unfold State.setSubFails
    rw [State.lk_modLane_same]
    exact only
  have number : ((s.setSubFails p r.logical (s.subFails p r.logical + 1)).setSubst p []).nextLseq p = s.nextLseq p := by
    unfold State.nextLseq State.setSubFails
    rw [State.lk_setSubst_same, State.lk_modLane_same]
  have now : ((s.setSubFails p r.logical (s.subFails p r.logical + 1)).setSubst p []).sfn = s.sfn := State.rd_wr_ne _ _ _ _ _ _ (by decide)
  have gone : [r].filter (fun x => x != r) = [] := by simp
  unfold State.retrySubst State.retried
  dsimp only
  rw [requests, gone, if_neg (by omega), number, now, State.lk_setSubst_same, List.nil_append]

end LaneAnswers

section SubstitutionEffect

theorem exec_laneSubstEffect (s : State) (p : Fin 4) : exec (.laneSubstEffect p) s = .next (s.substEffect p.val) := rfl

/-- Slot 0 of the superframe that the only committed request names (R124 step 3). -/
theorem State.substEffect_due (s : State) (p : Nat) (r : SubstTx) (only : (s.lk p).lane.substTx = [r]) (due : r.effect = s.sfn) :
    s.substEffect p = (s.wr JXP_TXMAP.MAP (setMapLane (s.rd JXP_TXMAP.MAP p) r.logical r.dst) p).modLane p
      (fun a => { a with substTx := [] }) := by
  have now : (s.wr JXP_TXMAP.MAP (setMapLane (s.rd JXP_TXMAP.MAP p) r.logical r.dst) p).sfn = s.sfn := State.rd_wr_ne _ _ _ _ _ _ (by decide)
  have taken : [r].filter (fun r => r.effect == s.sfn) = [r] := by simp [due]
  have left : [r].filter (fun r => r.effect != s.sfn) = [] := by simp [due]
  unfold State.substEffect State.modLane State.modLk
  dsimp only
  rw [only, taken, List.foldl_cons, List.foldl_nil, State.lk_wr, only, now, left]

theorem exec_substComplete (s : State) (p : Fin 4) : exec (.substComplete p) s = .next (s.settling (fun s => s.substComplete p.val)) := rfl

theorem State.substComplete_empty (s : State) (p : Nat) (empty : (s.lk p).lane.substRx = []) : s.substComplete p = s := by
  unfold State.substComplete
  rw [empty]
  rfl

/-- The superframe after E, for the only request, whose target the SYNC at E showed in use (R124 step 5). -/
theorem State.substComplete_due (s : State) (p : Nat) (r : SubstRx) (only : (s.lk p).lane.substRx = [r]) (used : r.used = some r.dst)
    (next : s.sfn = (r.effect + 1) % 2 ^ 32) (small : r.effect < 2 ^ 32) : s.substComplete p = (s.finishSubst p r).startWaiting p := by
  have one : (s.sfn + 2 ^ 32 - r.effect) % 2 ^ 32 = 1 := by omega
  have now : (r.used == some r.dst && decide (1 ≤ (s.sfn + 2 ^ 32 - r.effect) % 2 ^ 32) &&
      decide ((s.sfn + 2 ^ 32 - r.effect) % 2 ^ 32 < 2 ^ 31)) = true := by rw [one, used]; simp
  unfold State.substComplete
  rw [only, List.filter_cons, if_pos now]
  rfl

/-- What waits for a place is no part of a completed substitution (R126). -/
theorem State.waiting_finishSubst (s : State) (p : Nat) (r : SubstRx) :
    ((s.finishSubst p r).lk p).lane.waiting = (s.lk p).lane.waiting := by
  unfold State.finishSubst State.setSubFails
  simp

theorem State.news_startWaiting_nil (s : State) (p : Nat) (empty : (s.lk p).lane.waiting = []) : (s.startWaiting p).news = s.news := by
  unfold State.startWaiting
  rw [empty]
  rfl

theorem State.news_finishSubst (s : State) (p : Nat) (r : SubstRx) : (s.finishSubst p r).news = s.news := State.news_raise ..

end SubstitutionEffect

/-- Settles O15: the sender's two answers, then the receiver's two, then the two moments of a substitution. -/
theorem laneRequests : Obligations.LaneRequests := by
  refine ⟨fun s p y active => ⟨?taken, ?refused⟩, fun s p y => ?ack, ?nack, ?effect, ?idle, ?complete⟩
  case taken => exact fun passes => congrArg Host.Outcome.next (s.laneReq_taken p _ active passes)
  case refused => exact fun fails => congrArg Host.Outcome.next (s.laneReq_refused p _ active fails)
  case ack => exact congrArg Host.Outcome.next (s.laneAck_eq p _)
  case nack =>
    intro s p y r m only lseq logical undecided few
    have act := (s.calm.laneNack_answers p r only lseq logical undecided).trans (s.calm.retrySubst_again p r only few)
    exact congrArg Host.Outcome.next (s.settling_of_quiet _ act rfl)
  case effect => exact fun s p r only due => congrArg Host.Outcome.next (s.substEffect_due p r only due)
  case idle => exact fun s p empty => congrArg Host.Outcome.next (s.settling_of_quiet _ (s.calm.substComplete_empty p empty) rfl)
  case complete =>
    intro s p r only used next small idle
    have quiet : ((s.calm.finishSubst p r).startWaiting p).news = [] := by
      rw [State.news_startWaiting_nil _ _ ((s.calm.waiting_finishSubst p r).trans idle), State.news_finishSubst]
      rfl
    exact congrArg Host.Outcome.next (s.settling_of_quiet _ (s.calm.substComplete_due p r only used next small) quiet)

end Sys2Proof.Machine

/-! Lanes that fail and come back (R121, R122, R127, R128, R131, R133): where a lane's state is kept, then one lemma for each way a failure, a
probation or a lane command can end. -/

namespace Sys2Proof.Machine

section LaneState

/-- The fields that show the lane states of a port: a state each, and the number of spares. -/
def laneFields : List (Fin 1024) := JXP_STATUS.SPARES.id :: (List.range 10).map (fun k => (laneField k).id)

theorem laneField_shown (k : Nat) : (laneField k).id ∈ laneFields := by
  unfold laneField
  split <;> decide

theorem laneField_ne_spares (k : Nat) : JXP_STATUS.SPARES.id ≠ (laneField k).id := by
  unfold laneField
  split <;> decide

theorem laneField_width (k : Nat) : (laneField k).width = 3 := by
  unfold laneField
  split <;> rfl

theorem laneField_injective : ∀ j k : Fin 10, j ≠ k → (laneField j).id ≠ (laneField k).id := by decide

variable (s : State) (p k v : Nat)

theorem State.rd_setLane (f : Field) (i : Nat) (notShown : f.id ∉ laneFields) : (s.setLane p k v).rd f i = s.rd f i := by
  unfold State.setLane
  rw [State.rd_wr_ne _ _ _ _ _ _ (fun e => notShown (e ▸ List.mem_cons_self)),
    State.rd_wr_ne _ _ _ _ _ _ (fun e => notShown (e ▸ laneField_shown k))]

theorem State.rd_setLane_idx (f : Field) (i : Nat) (other : i ≠ p) : (s.setLane p k v).rd f i = s.rd f i := by
  unfold State.setLane
  rw [State.rd_wr, if_neg (fun h => other h.2.symm), State.rd_wr, if_neg (fun h => other h.2.symm)]

theorem State.laneSt_setLane_same : (s.setLane p k v).laneSt p k = v % 8 := by
  unfold State.setLane State.laneSt
  rw [State.rd_wr_ne _ _ _ _ _ _ (laneField_ne_spares k), State.rd_wr_same]
  exact congrArg (fun w => v % 2 ^ w) (laneField_width k)

theorem State.laneSt_setLane_ne (j : Nat) (hj : j < 10) (hk : k < 10) (ne : j ≠ k) : (s.setLane p k v).laneSt p j = s.laneSt p j := by
  have apart : (laneField k).id ≠ (laneField j).id := laneField_injective ⟨k, hk⟩ ⟨j, hj⟩ (fun e => ne (congrArg Fin.val e).symm)
  unfold State.setLane State.laneSt
  rw [State.rd_wr_ne _ _ _ _ _ _ (laneField_ne_spares j), State.rd_wr_ne _ _ _ _ _ _ apart]

@[simp] theorem State.rest_setLane : (s.setLane p k v).rest = s.rest := rfl
@[simp] theorem State.out_setLane : (s.setLane p k v).out = s.out := rfl

end LaneState

section LaneFails

theorem exec_laneFail (s : State) (p : Fin 4) (k : Fin 10) (cause : Fin 6) (named : cause.val ≠ 0)
    (holds : s.causeHolds p.val k.val cause.val = true) :
    exec (.laneFail p k cause) s = .next (s.calm.laneFail p.val k.val cause.val).settled :=
  congrArg (fun u : State => Host.Outcome.next u.settled) (if_pos ⟨named, holds⟩)

variable (s : State) (p k cause : Nat)

/-- A failure of a DATA lane on record: its cause, the count and the event (R122, R129). -/
def State.failCounted : State :=
  ((s.wr JXP_LHEALTH.CAUSE cause (laneIx p k)).wr JXP_STATUS.FAILS (s.rd JXP_STATUS.FAILS p + 1) p).raise (Ev.JXP_LANE_FAIL p) (k + 16 * cause)

/-- A lane fenced by hand is on record without being counted (R133). -/
def State.failManual : State := (s.wr JXP_LHEALTH.CAUSE 6 (laneIx p k)).raise (Ev.JXP_LANE_FAIL p) (k + 96)

/-- What follows for a failed lane on a link that is not ACTIVE, and on one that is and has a spare (R122, R124). -/
def State.laneOut (u : State) (p k : Nat) : State :=
  if u.linkActive p then
    if (u.setLane p k LaneSt.FAILING).substStart p = .noSpare then (u.setLane p k LaneSt.FAILING).recover p
    else (u.setLane p k LaneSt.FAILING).startSubst p k
  else u.exclude p k

variable (data : s.laneSt p k = LaneSt.DATA)
include data

theorem State.laneFail_counted (named : cause ≠ 6) (full : s.on JXP_STATUS.NARROW p = false) (few : s.rd JXP_STATUS.FAILS p ≤ 1) :
    s.laneFail p k cause = (s.failCounted p k cause).laneOut p k := by
  have full' : (s.wr JXP_LHEALTH.CAUSE cause (laneIx p k)).on JXP_STATUS.NARROW p = false := (State.on_wr_ne _ _ _ _ _ _ (by decide)).trans full
  have fails : (s.wr JXP_LHEALTH.CAUSE cause (laneIx p k)).rd JXP_STATUS.FAILS p = s.rd JXP_STATUS.FAILS p := State.rd_wr_ne _ _ _ _ _ _ (by decide)
  have below : s.rd JXP_STATUS.FAILS p < 3 := by omega
  have notThird : ((s.wr JXP_LHEALTH.CAUSE cause (laneIx p k)).wr JXP_STATUS.FAILS (s.rd JXP_STATUS.FAILS p + 1) p).rd JXP_STATUS.FAILS p ≠ 3 := by
    rw [State.rd_wr_same]
    show (s.rd JXP_STATUS.FAILS p + 1) % 4 ≠ 3
    omega
  unfold State.laneFail State.laneOut State.failCounted
  dsimp only
  rw [if_neg (by simp [data])]
  simp only [ne_eq, named, not_false_eq_true, full', fails, below, and_self, data, notThird, if_true, and_false, if_false]

theorem State.laneFail_manual : s.laneFail p k 6 = (s.failManual p k).laneOut p k := by
  unfold State.laneFail State.laneOut State.failManual
  simp [data]

omit data

theorem State.linkActive_failCounted (q : Nat) : (s.failCounted p k cause).linkActive q = s.linkActive q := by
  unfold State.failCounted
  rw [State.linkActive_raise, State.linkActive_wr_ne _ _ _ _ _ (by decide), State.linkActive_wr_ne _ _ _ _ _ (by decide)]

theorem State.linkActive_failManual (q : Nat) : (s.failManual p k).linkActive q = s.linkActive q := by
  unfold State.failManual
  rw [State.linkActive_raise, State.linkActive_wr_ne _ _ _ _ _ (by decide)]

@[simp] theorem State.news_failCounted : (s.failCounted p k cause).news = s.news := State.news_raise ..
@[simp] theorem State.news_failManual : (s.failManual p k).news = s.news := State.news_raise ..

theorem State.laneOut_idle (down : s.linkActive p = false) : s.laneOut p k = s.exclude p k := if_neg (by simp [down])

theorem State.laneOut_started (active : s.linkActive p = true) (spare : (s.setLane p k LaneSt.FAILING).substStart p = .started) :
    s.laneOut p k = (s.setLane p k LaneSt.FAILING).startSubst p k := by
  unfold State.laneOut
  rw [if_pos active, if_neg (by simp [spare])]

/-- A request for a substitution concerns its link alone. -/
@[simp] theorem State.news_startSubst : (s.startSubst p k).news = s.news := by
  unfold State.startSubst
  split <;> rfl

end LaneFails

section LaneCommands

theorem exec_fence (s : State) (p : Fin 4) (k : Fin 16) (h : s.serves (Reg.JXP_CMD.addr p.val 0) true) :
    exec (.fence p k) s = .next (s.calm.fence p.val k.val).settled :=
  congrArg (fun u : State => Host.Outcome.next u.settled) (State.access_serves s.calm _ true _ h)

theorem exec_restore (s : State) (p : Fin 4) (k : Fin 16) (h : s.serves (Reg.JXP_CMD.addr p.val 0) true) :
    exec (.restore p k) s = .next (s.restore p.val k.val) := congrArg _ (State.access_serves s _ true _ h)

theorem exec_widen (s : State) (p : Fin 4) (h : s.serves (Reg.JXP_CMD.addr p.val 0) true) :
    exec (.widen p) s = .next (s.calm.widen p.val).settled :=
  congrArg (fun u : State => Host.Outcome.next u.settled) (State.access_serves s.calm _ true _ h)

theorem exec_resetLanes (s : State) (p : Fin 4) (h : s.serves (Reg.JXP_CMD.addr p.val 0) true) :
    exec (.resetLanes p) s = .next (s.resetLanes p.val) := congrArg _ (State.access_serves s _ true _ h)

variable (s : State) (p k : Nat)

theorem State.fence_data (lane : k < 10) (data : s.laneSt p k = LaneSt.DATA) (spare : s.spareCount p ≠ 0) :
    s.fence p k = ((s.failManual p k).laneOut p k).answer St.OK := by
  have inside : ¬ 9 < k := by omega
  have some : (s.spareCount p == 0) = false := beq_eq_false_iff_ne.2 spare
  unfold State.fence
  rw [State.checked_ok _ _ _ (by simp [inside, data, some]), State.laneFail_manual s p k data]

/-- Only a lane that carries data or stands by can be fenced. -/
theorem State.fence_refused (lane : k < 10) (notData : s.laneSt p k ≠ LaneSt.DATA) (notSpare : s.laneSt p k ≠ LaneSt.SPARE) :
    s.fence p k = s.answer St.STATE := by
  have inside : ¬ 9 < k := by omega
  have le : k ≤ 9 := by omega
  have status : firstStatus [(St.VALUE, decide (9 < k)), (St.STATE, decide (k ≤ 9) && s.laneSt p k != LaneSt.DATA && s.laneSt p k != LaneSt.SPARE),
      (St.CONFLICT, s.laneSt p k == LaneSt.DATA && s.spareCount p == 0)] = St.STATE := by
    rw [decide_eq_false inside, decide_eq_true le, bne_iff_ne.2 notData, bne_iff_ne.2 notSpare, beq_eq_false_iff_ne.2 notData]
    rfl
  unfold State.fence
  dsimp only
  rw [State.checked_fail _ _ _ (by rw [status]; decide), status]

theorem State.restore_passed (lane : k < 10) (passed : s.laneSt p k = LaneSt.PASSED) :
    s.restore p k = (s.setLane p k LaneSt.SPARE).answer St.OK := by
  have inside : ¬ 9 < k := by omega
  unfold State.restore
  rw [State.checked_ok _ _ _ (by simp [inside, passed])]

theorem State.restore_refused (lane : k < 10) (notPassed : s.laneSt p k ≠ LaneSt.PASSED) : s.restore p k = s.answer St.STATE := by
  have inside : ¬ 9 < k := by omega
  have le : k ≤ 9 := by omega
  have status : firstStatus [(St.VALUE, decide (9 < k)), (St.STATE, decide (k ≤ 9) && s.laneSt p k != LaneSt.PASSED)] = St.STATE := by
    rw [decide_eq_false inside, decide_eq_true le, bne_iff_ne.2 notPassed]
    rfl
  unfold State.restore
  rw [State.checked_fail _ _ _ (by rw [status]; decide), status]

/-- WIDEN on a link that is not ACTIVE clears the degraded marks and retrains nothing (R131). -/
theorem State.widen_idle (down : s.linkActive p = false) :
    s.widen p = (((s.wr JXP_STATUS.OVC_HOLD 0 p).wr JXP_STATUS.FAILS 0 p).wr JXP_STATUS.RATE_CAP 0 p).answer St.OK := by
  unfold State.widen State.recover
  rw [if_neg]
  simp (disch := decide) [State.linkActive_wr_ne, down]

/-- What RESET_LANES does to one lane: states 4 to 7 end (R133). -/
def State.resetLane (s : State) (p k : Nat) : State := if 4 ≤ s.laneSt p k then s.setLane p k LaneSt.UNQUAL else s

theorem State.resetLanes_eq : s.resetLanes p = (((List.range 10).foldl (fun s k => s.resetLane p k) s).wr JXP_STATUS.FAILS 0 p).answer St.OK := rfl

theorem State.laneSt_resetLane_same : (s.resetLane p k).laneSt p k = if 4 ≤ s.laneSt p k then LaneSt.UNQUAL else s.laneSt p k := by
  unfold State.resetLane
  split
  · rw [State.laneSt_setLane_same]; rfl
  · rfl

theorem State.laneSt_resetLane_ne (j : Nat) (hj : j < 10) (hk : k < 10) (ne : j ≠ k) : (s.resetLane p k).laneSt p j = s.laneSt p j := by
  unfold State.resetLane
  split
  · exact State.laneSt_setLane_ne _ _ _ _ _ hj hk ne
  · rfl

theorem State.rest_resetLane : (s.resetLane p k).rest = s.rest := by
  unfold State.resetLane
  split <;> rfl

theorem State.out_resetLane : (s.resetLane p k).out = s.out := by
  unfold State.resetLane
  split <;> rfl

theorem State.rd_resetLane_idx (f : Field) (i : Nat) (other : i ≠ p) : (s.resetLane p k).rd f i = s.rd f i := by
  unfold State.resetLane
  split
  · exact State.rd_setLane_idx _ _ _ _ _ _ other
  · rfl

theorem State.laneSt_resetLanes (hk : k < 10) :
    (s.resetLanes p).laneSt p k = if 4 ≤ s.laneSt p k then LaneSt.UNQUAL else s.laneSt p k := by
  have fold := foldl_pointwise (fun s k => State.laneSt s p k) (fun s k => s.resetLane p k) (fun _ st => if 4 ≤ st then LaneSt.UNQUAL else st)
    (· < 10) (fun s k _ => s.laneSt_resetLane_same p k) (fun s k j hk hj => s.laneSt_resetLane_ne p k j hj hk) (List.range 10)
    List.nodup_range (fun _ => List.mem_range.1) s k hk
  have notFails : JXP_STATUS.FAILS.id ≠ (laneField k).id := by
    unfold laneField
    split <;> decide
  rw [if_pos (List.mem_range.2 hk)] at fold
  rw [← fold, State.resetLanes_eq]
  exact State.rd_wr_ne _ _ _ _ _ _ notFails

theorem State.rest_resetLanes : (s.resetLanes p).rest = s.rest :=
  foldl_keeps State.rest _ (fun s k => s.rest_resetLane p k) (List.range 10) s

theorem State.out_resetLanes : (s.resetLanes p).out = s.out ++ [.status St.OK []] :=
  congrArg (· ++ [Out.status St.OK []]) (foldl_keeps State.out _ (fun s k => s.out_resetLane p k) (List.range 10) s)

theorem State.rd_resetLanes_idx (f : Field) (i : Nat) (other : i ≠ p) : (s.resetLanes p).rd f i = s.rd f i := by
  rw [State.resetLanes_eq, State.rd_answer, State.rd_wr, if_neg (fun h => other h.2.symm)]
  exact State.rd_foldl _ f i (fun s k => s.rd_resetLane_idx p k f i other) _ s

theorem State.rd_resetLanes_fails : (s.resetLanes p).rd JXP_STATUS.FAILS p = 0 := by
  rw [State.resetLanes_eq, State.rd_answer, State.rd_wr_same, Nat.zero_mod]

end LaneCommands

section Probation

theorem exec_probationPass (s : State) (p : Fin 4) (k : Fin 10) : exec (.probationPass p k) s = .next (s.probationPass p.val k.val) := rfl
theorem exec_probationFail (s : State) (p : Fin 4) (k : Fin 10) : exec (.probationFail p k) s = .next (s.probationFail p.val k.val) := rfl

variable (s : State) (p k : Nat)

/-- The count of failed probations shows in PROBFAILS only. -/
theorem State.rd_setProbFails_ne (n : Nat) (f : Field) (i : Nat) (h : JXP_LHEALTH.PROBFAILS.id ≠ f.id) :
    (s.setProbFails p k n).rd f i = s.rd f i := State.rd_wr_ne _ _ _ _ _ _ h

/-- A failed probation on record (R127). -/
def State.probFailed : State := (s.setProbFails p k (NMap.get (s.lk p).lane.probFails 0 k + 1)).raise (Ev.JXP_PROB_FAIL p) k

variable (probation : s.laneSt p k = LaneSt.PROBATION)
include probation

theorem State.probationPass_eq : s.probationPass p k = ((s.setProbFails p k 0).setLane p k
    (if s.on JXP_CTRL.AUTO_RESTORE p then LaneSt.SPARE else LaneSt.PASSED)).raise (Ev.JXP_PROB_PASS p) k := by
  have auto : (s.setProbFails p k 0).on JXP_CTRL.AUTO_RESTORE p = s.on JXP_CTRL.AUTO_RESTORE p :=
    congrArg (· != 0) (s.rd_setProbFails_ne p k 0 _ _ (by decide))
  unfold State.probationPass
  rw [if_neg (not_not_intro probation)]
  dsimp only
  rw [auto]

/-- One failure more than PROB_RETRY allows retires the lane (R127). -/
theorem State.probationFail_eq : s.probationFail p k =
    if s.rd JXP_PROBCFG.PROB_RETRY p < NMap.get (s.lk p).lane.probFails 0 k + 1 then
      ((s.probFailed p k).setLane p k LaneSt.RETIRED).raise (Ev.JXP_LANE_RETIRED p) k
    else s.probFailed p k := by
  have retry : (s.probFailed p k).rd JXP_PROBCFG.PROB_RETRY p = s.rd JXP_PROBCFG.PROB_RETRY p :=
    (State.rd_raise _ _ _ _ _ (by decide)).trans (s.rd_setProbFails_ne p k _ _ _ (by decide))
  rw [← retry]
  exact if_neg (not_not_intro probation)

end Probation

/-- Settles O16: a failed lane off and on an ACTIVE link, FENCE and RESTORE, the two ends of a probation, WIDEN and RESET_LANES. -/
theorem laneRecovery : Obligations.LaneRecovery := by
  refine ⟨?fails, fun s p k h lane => ⟨?fenced, ?fenceRefused, ?restored, ?restoreRefused⟩, ?probation, fun s p h => ⟨?widen, ?reset⟩⟩
  case fails =>
    intro s p k cause named holds data few full u
    have manual : cause.val ≠ 6 := by omega
    have act : s.calm.laneFail p k cause = u.laneOut p k := s.calm.laneFail_counted p k cause data manual full few
    have link : u.linkActive p = s.linkActive p := s.calm.linkActive_failCounted p k cause p
    have quiet : u.news = [] := s.calm.news_failCounted p k cause
    rw [exec_laneFail s p k cause named holds, act]
    refine ⟨fun down => ?idle, fun active spare => ?active⟩
    case idle => rw [u.laneOut_idle p k (link.trans down), State.settled_of_quiet (u.exclude p k) quiet]
    case active =>
      rw [u.laneOut_started p k (link.trans active) spare,
        State.settled_of_quiet ((u.setLane p k LaneSt.FAILING).startSubst p k) ((State.news_startSubst ..).trans quiet)]
  case fenced =>
    intro data spare down
    have idle := (s.calm.failManual p k).laneOut_idle p k ((s.calm.linkActive_failManual p k p).trans down)
    have quiet : (((s.calm.failManual p k).exclude p k).answer St.OK).news = [] := s.calm.news_failManual p k
    rw [exec_fence s p k h, s.calm.fence_data p k lane data spare, idle, State.settled_of_quiet _ quiet]
    rfl
  case fenceRefused =>
    intro notData notSpare
    rw [exec_fence s p k h, s.calm.fence_refused p k lane notData notSpare, State.settled_of_quiet _ rfl]
  case restored =>
    intro passed
    rw [exec_restore s p k h, s.restore_passed p k lane passed]
  case restoreRefused =>
    intro notPassed
    rw [exec_restore s p k h, s.restore_refused p k lane notPassed]
  case probation =>
    intro s p k probation
    refine ⟨congrArg Host.Outcome.next (s.probationPass_eq p k probation), fun few => ?again, fun many => ?retired⟩
    case again => exact congrArg Host.Outcome.next ((s.probationFail_eq p k probation).trans (if_neg (Nat.not_lt.2 few)))
    case retired => exact congrArg Host.Outcome.next ((s.probationFail_eq p k probation).trans (if_pos many))
  case widen =>
    intro down
    rw [exec_widen s p h, s.calm.widen_idle p down, State.settled_of_quiet _ rfl]
  case reset =>
    exact ⟨_, exec_resetLanes s p h, s.rd_resetLanes_fails p, s.laneSt_resetLanes p, s.rest_resetLanes p, s.out_resetLanes p,
      s.rd_resetLanes_idx p⟩

end Sys2Proof.Machine

/-! Measurements on lanes (R111, R113, R115, R118, R119): Horizon scans, pattern checkers, injected errors and DFE adaptation. -/

namespace Sys2Proof.Machine

section Horizon

theorem exec_horizonStart (s : State) (p : Fin 4) (h : s.serves (Reg.JXP_CMD.addr p.val 0) true) :
    exec (.horizonStart p) s = .next (s.horizonStart p.val) := congrArg _ (State.access_serves s _ true _ h)

theorem exec_horizonStop (s : State) (p : Fin 4) (h : s.serves (Reg.JXP_CMD.addr p.val 0) true) :
    exec (.horizonStop p) s = .next ((s.scanStop p.val).answer St.OK) := congrArg _ (State.access_serves s _ true _ h)

theorem exec_horizonScanDone (s : State) (p : Fin 4) (counts : List Nat) :
    exec (.horizonScanDone p counts) s = .next (s.scanDone p.val counts) := rfl

variable (s : State) (p : Nat)

/-- A range of a scan that holds no point (R113). -/
def State.emptyRange : Prop :=
  sgn 8 (s.rd JXP_HZRANGE.PH_MAX p) < sgn 8 (s.rd JXP_HZRANGE.PH_MIN p) ∨ sgn 8 (s.rd JXP_HZRANGE.V_MAX p) < sgn 8 (s.rd JXP_HZRANGE.V_MIN p)

/-- BUSY is answered before RANGE (R10). -/
theorem State.horizonStart_busy (running : s.on JXP_HZSTAT.RUN p = true) : s.horizonStart p = s.answer St.BUSY := by
  have status (range : Bool) : firstStatus [(St.BUSY, true), (St.RANGE, range)] = St.BUSY := by cases range <;> rfl
  unfold State.horizonStart
  rw [running, State.checked_fail _ _ _ (by rw [status]; decide), status]

variable (idle : s.on JXP_HZSTAT.RUN p = false)
include idle

theorem State.horizonStart_empty (empty : s.emptyRange p) : s.horizonStart p = s.answer St.RANGE := by
  have range : (decide (sgn 8 (s.rd JXP_HZRANGE.PH_MAX p) < sgn 8 (s.rd JXP_HZRANGE.PH_MIN p)) ||
      decide (sgn 8 (s.rd JXP_HZRANGE.V_MAX p) < sgn 8 (s.rd JXP_HZRANGE.V_MIN p))) = true := by simpa [State.emptyRange] using empty
  unfold State.horizonStart
  rw [idle, range, State.checked_fail _ _ _ (by decide)]
  rfl

theorem State.horizonStart_scan (points : ¬ s.emptyRange p) : s.horizonStart p =
    (if s.linkSt p = LinkSt.EQUALIZE then s.modLane p (fun a => { a with hzHeld := true }) else s.scanBegin p).answer St.OK := by
  have range : (decide (sgn 8 (s.rd JXP_HZRANGE.PH_MAX p) < sgn 8 (s.rd JXP_HZRANGE.PH_MIN p)) ||
      decide (sgn 8 (s.rd JXP_HZRANGE.V_MAX p) < sgn 8 (s.rd JXP_HZRANGE.V_MIN p))) = false := by simpa [State.emptyRange] using points
  unfold State.horizonStart
  rw [idle, range, State.checked_ok _ _ _ rfl]

omit idle

/-- A scan that runs ends early (R115). -/
theorem State.scanStop_running (running : s.on JXP_HZSTAT.RUN p = true) :
    s.scanStop p = (((s.modLane p (fun a => { a with hzHeld := false })).wr JXP_HZSTAT.RUN 0 p).wr JXP_HZSTAT.EW 0 p).wr JXP_HZSTAT.EH 0 p :=
  if_pos running

/-- The result window with the counts of a scan (R114). -/
def State.withCounts (counts : List Nat) : State :=
  { s with horizon := (List.zip (s.scanPoints p) counts).foldl (fun h e => NMap.set h 0 (hzKey p e.1.1 e.1.2) (min e.2 0xFFFF)) s.horizon }

theorem State.keepsButEvents_withCounts (counts : List Nat) (l : List (Field × Nat)) : s.keepsButEvents (s.withCounts p counts) l :=
  State.keepsButEvents_of_regs _ (s.keepsButEvents_refl l) rfl

theorem State.on_withCounts (counts : List Nat) (f : Field) (i : Nat) : (s.withCounts p counts).on f i = s.on f i := rfl

/-- The width of the eye at voltage 0 and its height at phase 0, for a window that holds the counts (R115). -/
def State.eyeWidth : Nat :=
  if (s.scanVolts p).contains 0 then runAround (s.scanPhases p) (fun x => decide (s.hzCount p x 0 ≤ s.rd JXP_HZCTRL.THRESH p)) else 0
def State.eyeHeight : Nat :=
  if (s.scanPhases p).contains 0 then runAround (s.scanVolts p) (fun x => decide (s.hzCount p 0 x ≤ s.rd JXP_HZCTRL.THRESH p)) else 0

/-- The status of a scan that is done. -/
def State.scanEnded (ew eh : Nat) : State :=
  (((s.wr JXP_HZSTAT.RUN 0 p).wr JXP_HZSTAT.DONE 1 p).wr JXP_HZSTAT.EW ew p).wr JXP_HZSTAT.EH eh p

theorem State.scanDone_running (counts : List Nat) (running : s.on JXP_HZSTAT.RUN p = true) :
    s.scanDone p counts = ((s.withCounts p counts).scanEnded p ((s.withCounts p counts).eyeWidth p) ((s.withCounts p counts).eyeHeight p)).raise
      (Ev.JXP_HZ_DONE p) (s.rd JXP_HZCTRL.LANE p) := if_neg (by simp [running])

theorem State.eyeWidth_uncentred (uncentred : 0 ∉ s.scanVolts p) : s.eyeWidth p = 0 := if_neg (by simpa using uncentred)
theorem State.eyeHeight_uncentred (uncentred : 0 ∉ s.scanPhases p) : s.eyeHeight p = 0 := if_neg (by simpa using uncentred)

variable (ew eh : Nat)

theorem State.rd_scanEnded_run : (s.scanEnded p ew eh).rd JXP_HZSTAT.RUN p = 0 := by
  unfold State.scanEnded
  rw [State.rd_wr_ne _ _ _ _ _ _ (by decide), State.rd_wr_ne _ _ _ _ _ _ (by decide), State.rd_wr_ne _ _ _ _ _ _ (by decide),
    State.rd_wr_same, Nat.zero_mod]

theorem State.rd_scanEnded_done : (s.scanEnded p ew eh).rd JXP_HZSTAT.DONE p = 1 := by
  unfold State.scanEnded
  rw [State.rd_wr_ne _ _ _ _ _ _ (by decide), State.rd_wr_ne _ _ _ _ _ _ (by decide), State.rd_wr_same]
  rfl

theorem State.rd_scanEnded_width : (s.scanEnded p ew eh).rd JXP_HZSTAT.EW p = ew % 256 := by
  unfold State.scanEnded
  rw [State.rd_wr_ne _ _ _ _ _ _ (by decide), State.rd_wr_same]
  rfl

theorem State.rd_scanEnded_height : (s.scanEnded p ew eh).rd JXP_HZSTAT.EH p = eh % 256 := State.rd_wr_same ..

theorem State.on_scanEnded_event (id : Nat) : (s.scanEnded p ew eh).on EVU_SRC.STATUS id = s.on EVU_SRC.STATUS id := by
  unfold State.scanEnded
  simp (disch := decide) only [State.on_wr_ne]

theorem State.keepsButEvents_scanEnded {t : State} {l : List (Field × Nat)} (h : t.keepsButEvents s l) (run : (JXP_HZSTAT.RUN, p) ∈ l)
    (done : (JXP_HZSTAT.DONE, p) ∈ l) (width : (JXP_HZSTAT.EW, p) ∈ l) (height : (JXP_HZSTAT.EH, p) ∈ l) :
    t.keepsButEvents (s.scanEnded p ew eh) l :=
  State.keepsButEvents_wr (State.keepsButEvents_wr (State.keepsButEvents_wr (State.keepsButEvents_wr h _ _ _ run) _ _ _ done) _ _ _ width) _ _ _ height

theorem State.horizon_raise (id cap : Nat) : (s.raise id cap).horizon = s.horizon := by
  show (s.raise id cap).rest.horizon = s.rest.horizon
  rw [State.rest_raise]

end Horizon

section PatternCheckers

theorem exec_prbsCheckerLock (s : State) (p : Fin 4) (k : Fin 10) : exec (.prbsCheckerLock p k) s = .next (s.prbsLock p.val k.val) := rfl

theorem exec_prbsLockLoss (s : State) (p : Fin 4) (k : Fin 10) (errs nbits : Nat) :
    exec (.prbsLockLoss p k errs nbits) s = .next (s.prbsLoss p.val k.val errs nbits) := rfl

variable (s : State) (p k : Nat)

theorem State.prbsLock_checking (checking : s.freeMode p k = true ∨ s.spareMode p k = true) :
    s.prbsLock p k = s.wr JXP_PRBSCTL.LOCK 1 (laneIx p k) := if_pos (by simpa using checking)

/-- A checker's lock lost, with the errors and the bits counted since it locked (R118). -/
def State.lockLost (errs nbits : Nat) : State :=
  (((s.wr JXP_PRBSCTL.LOCK 0 (laneIx p k)).bump JXP_PRBSCTL.LOCKLOSS (laneIx p k)).bump JXP_PRBSERR.COUNT (laneIx p k) errs).bump
    JXP_PRBSBITS.COUNT (laneIx p k) nbits

/-- The mode of a checker depends on its enable and on the link, not on its lock. -/
theorem State.freeMode_lockLost (errs nbits : Nat) : (s.lockLost p k errs nbits).freeMode p k = s.freeMode p k := by
  unfold State.lockLost State.freeMode State.linkSt
  simp (disch := decide) only [State.on_bump_ne, State.on_wr_ne, State.rd_bump_ne, State.rd_wr_ne]

theorem State.prbsLoss_locked (errs nbits : Nat) (locked : s.on JXP_PRBSCTL.LOCK (laneIx p k) = true) :
    s.prbsLoss p k errs nbits =
      if s.freeMode p k then (s.lockLost p k errs nbits).raise (Ev.JXP_PRBS_LOCKLOSS p) k else s.lockLost p k errs nbits := by
  rw [← s.freeMode_lockLost p k errs nbits]
  exact if_pos locked

end PatternCheckers

section InjectedErrors

theorem exec_errorInject (s : State) (p : Fin 4) (k : Fin 10) (data : Word) (h : s.serves (Reg.JXP_INJ.addr p.val k.val) true) :
    exec (.errorInject p k data) s = .next (s.injWrite p.val k.val data.toNat) := congrArg _ (State.access_serves s _ true _ h)

theorem Field.of_lt (f : Field) (data : Nat) : f.of data < 2 ^ f.width := Nat.mod_lt _ (Nat.two_pow_pos _)

/-- The checks of `JXP_INJ` that depend on what is written: INJCNT is only cleared, RATE lies in its range (R119). -/
theorem State.firstStatus_inj (s : State) (i data : Nat) (reserved : Reg.JXP_INJ.reservedSet data = false) (clear : JXP_INJ.INJCNT.of data = 0)
    (lo : 10 ≤ JXP_INJ.RATE.of data) (hi : JXP_INJ.RATE.of data ≤ 40) : firstStatus (s.writeChecks Reg.JXP_INJ i data) = St.OK := by
  have mode : JXP_INJ.MODE.of data < 4 := Field.of_lt _ _
  have len : JXP_INJ.LEN.of data < 64 := Field.of_lt _ _
  have unlocked : Reg.JXP_INJ.fields.any (fun f => s.locks f i data) = false := rfl
  have counts : Reg.JXP_INJ.fields.any (fun f => f.badCount data) = false := by
    show (JXP_INJ.INJCNT.of data != 0 || false) = false
    rw [clear]
    rfl
  have ranges : Reg.JXP_INJ.fields.any (fun f => f.outOfRange data) = false := by
    show ((decide (JXP_INJ.MODE.of data < 0) || decide (3 < JXP_INJ.MODE.of data)) || ((decide (JXP_INJ.LEN.of data < 0) ||
      decide (63 < JXP_INJ.LEN.of data)) || ((decide (JXP_INJ.RATE.of data < 10) || decide (40 < JXP_INJ.RATE.of data)) || false))) = false
    simp only [Bool.or_eq_false_iff, decide_eq_false_iff_not, and_true]
    omega
  rw [State.firstStatus_writeChecks, unlocked, reserved, counts, ranges]
  rfl

/-- The fields that a write of `JXP_INJ` sets. -/
def State.injWritten (s : State) (i mode len rate : Nat) : State :=
  (((s.wr JXP_INJ.MODE mode i).wr JXP_INJ.LEN len i).wr JXP_INJ.RATE rate i).wr JXP_INJ.INJCNT 0 i

theorem State.writeFields_inj (s : State) (i data : Nat) :
    s.writeFields Reg.JXP_INJ i data = s.injWritten i (JXP_INJ.MODE.of data) (JXP_INJ.LEN.of data) (JXP_INJ.RATE.of data) := rfl

theorem State.rd_injWritten_mode (s : State) (i mode len rate : Nat) : (s.injWritten i mode len rate).rd JXP_INJ.MODE i = mode % 4 := by
  unfold State.injWritten
  rw [State.rd_wr_ne _ _ _ _ _ _ (by decide), State.rd_wr_ne _ _ _ _ _ _ (by decide), State.rd_wr_ne _ _ _ _ _ _ (by decide), State.rd_wr_same]
  rfl

/-- GO in single mode inverts one bit (R119). -/
theorem State.injWrite_single (s : State) (p k data : Nat) (passes : firstStatus (s.writeChecks Reg.JXP_INJ (laneIx p k) data) = St.OK)
    (single : JXP_INJ.MODE.of data = 1) (go : bitAt data 2 = true) :
    s.injWrite p k data =
      ((s.injWritten (laneIx p k) 1 (JXP_INJ.LEN.of data) (JXP_INJ.RATE.of data)).invertBits p k 1).answer St.OK := by
  unfold State.injWrite State.writeReg
  dsimp only
  rw [List.append_nil, State.checked_ok _ _ _ passes]
  rw [if_pos go, State.writeFields_inj, single, State.rd_injWritten_mode]
  rfl

theorem exec_injectRateBit (s : State) (p : Fin 4) (k : Fin 10) (rate : s.rd JXP_INJ.MODE (laneIx p.val k.val) = 3) :
    exec (.injectRateBit p k) s = .next (s.invertBits p.val k.val 1) := congrArg Host.Outcome.next (if_pos rate)

end InjectedErrors

section DfeTaps

theorem dfeTap_injective : ∀ j k : Fin 9, 2 ≤ j → 2 ≤ k → j ≠ k → (dfeTap j).id ≠ (dfeTap k).id := by decide

theorem dfeTap_width (j : Nat) : (dfeTap j).width = 6 := by
  unfold dfeTap
  split <;> rfl

theorem dfeTap_apart (j : Nat) : (dfeTap j).id ≠ JXP_DFE0.H0.id ∧ (dfeTap j).id ≠ JXP_DFE0.H1.id := by
  unfold dfeTap
  split <;> decide

/-- The fields of one lane's equaliser taps. -/
def dfeFields (i : Nat) : List (Field × Nat) :=
  [(JXP_DFE0.H0, i), (JXP_DFE0.H1, i), (JXP_DFE1.H2, i), (JXP_DFE1.H3, i), (JXP_DFE1.H4, i), (JXP_DFE1.H5, i),
    (JXP_DFE1.H6, i), (JXP_DFE2.H7, i), (JXP_DFE2.H8, i)]

theorem dfeTap_mem (i j : Nat) : (dfeTap j, i) ∈ dfeFields i := by
  unfold dfeTap dfeFields
  split <;> simp

theorem unsgn_lt (w : Nat) (x : Int) : unsgn w x < 2 ^ w := by
  have pos : (0 : Int) < ((2 ^ w : Nat) : Int) := by exact_mod_cast Nat.two_pow_pos w
  have lt := Int.emod_lt_of_pos x pos
  have nonneg := Int.emod_nonneg x (Int.ne_of_gt pos)
  unfold unsgn
  omega

/-- A value clamped within a field's width is held as it is. -/
theorem toNat_clamp_mod (hi x : Int) (w : Nat) (nonneg : 0 ≤ hi) (fits : hi < ((2 ^ w : Nat) : Int)) :
    (((clamp 0 hi x).toNat % 2 ^ w : Nat) : Int) = clamp 0 hi x := by
  have bounds : 0 ≤ clamp 0 hi x ∧ clamp 0 hi x ≤ hi := by
    unfold clamp
    split
    · exact ⟨Int.le_refl 0, nonneg⟩
    · split <;> omega
  rw [Nat.mod_eq_of_lt (by omega)]
  omega

variable (s : State) (i : Nat) (up : Bool) (ds : List Bool)

/-- One step of a tap h2 to h8, a signed value of 6 bits (R111). -/
def tapStep (j v : Nat) : Nat := unsgn 6 (clamp (-32) 31 (sgn 6 v + lmsStep up (ds.getD j true)))

def State.stepTap (j : Nat) : State := s.wr (dfeTap j) (tapStep up ds j (s.rd (dfeTap j) i)) i

/-- One step of h0 and h1, which are not negative (R111). -/
def State.stepHead : State :=
  let s := s.wr JXP_DFE0.H0 (clamp 0 255 ((s.rd JXP_DFE0.H0 i : Int) + lmsStep up (ds.getD 0 true))).toNat i
  s.wr JXP_DFE0.H1 (clamp 0 127 ((s.rd JXP_DFE0.H1 i : Int) + lmsStep up (ds.getD 1 true))).toNat i

def State.stepTaps : State := [2, 3, 4, 5, 6, 7, 8].foldl (fun s j => s.stepTap i up ds j) s

theorem State.dfeAdapt_eq (p k : Nat) : s.dfeAdapt p k up ds =
    if s.on JXP_RXEQ.FREEZE (laneIx p k) then s else (s.stepHead (laneIx p k) up ds).stepTaps (laneIx p k) up ds := rfl

theorem State.rd_stepTap_same (j : Nat) : (s.stepTap i up ds j).rd (dfeTap j) i = tapStep up ds j (s.rd (dfeTap j) i) := by
  unfold State.stepTap
  rw [State.rd_wr_same, dfeTap_width]
  exact Nat.mod_eq_of_lt (unsgn_lt 6 _)

theorem State.rd_stepTap_ne (j : Nat) (f : Field) (h : (dfeTap j).id ≠ f.id) : (s.stepTap i up ds j).rd f i = s.rd f i :=
  State.rd_wr_ne _ _ _ _ _ _ h

theorem State.rd_stepTaps_tap (j : Nat) (lo : 2 ≤ j) (hi : j ≤ 8) :
    (s.stepTaps i up ds).rd (dfeTap j) i = tapStep up ds j (s.rd (dfeTap j) i) := by
  have other (s : State) (k j : Nat) (hk : 2 ≤ k ∧ k ≤ 8) (hj : 2 ≤ j ∧ j ≤ 8) (ne : j ≠ k) :
      (s.stepTap i up ds k).rd (dfeTap j) i = s.rd (dfeTap j) i :=
    s.rd_stepTap_ne i up ds k _ (dfeTap_injective ⟨k, by omega⟩ ⟨j, by omega⟩ hk.1 hj.1 (fun e => ne (congrArg Fin.val e).symm))
  have fold := foldl_pointwise (fun s j => State.rd s (dfeTap j) i) (fun s j => s.stepTap i up ds j) (tapStep up ds) (fun j => 2 ≤ j ∧ j ≤ 8)
    (fun s j _ => s.rd_stepTap_same i up ds j) other [2, 3, 4, 5, 6, 7, 8] (by decide) (by decide) s j ⟨lo, hi⟩
  have mem : j ∈ [2, 3, 4, 5, 6, 7, 8] := by
    simp only [List.mem_cons, List.not_mem_nil, or_false]
    omega
  rwa [if_pos mem] at fold

theorem State.rd_stepTaps_ne (f : Field) (h : ∀ j, (dfeTap j).id ≠ f.id) : (s.stepTaps i up ds).rd f i = s.rd f i :=
  State.rd_foldl _ f i (fun s j => s.rd_stepTap_ne i up ds j f (h j)) _ s

theorem State.rd_stepHead_ne (f : Field) (h0 : JXP_DFE0.H0.id ≠ f.id) (h1 : JXP_DFE0.H1.id ≠ f.id) : (s.stepHead i up ds).rd f i = s.rd f i := by
  unfold State.stepHead
  rw [State.rd_wr_ne _ _ _ _ _ _ h1, State.rd_wr_ne _ _ _ _ _ _ h0]

theorem State.rd_stepHead_h0 :
    ((s.stepHead i up ds).rd JXP_DFE0.H0 i : Int) = clamp 0 255 ((s.rd JXP_DFE0.H0 i : Int) + lmsStep up (ds.getD 0 true)) := by
  unfold State.stepHead
  rw [State.rd_wr_ne _ _ _ _ _ _ (by decide), State.rd_wr_same]
  exact toNat_clamp_mod 255 _ 8 (by decide) (by decide)

theorem State.rd_stepHead_h1 :
    ((s.stepHead i up ds).rd JXP_DFE0.H1 i : Int) = clamp 0 127 ((s.rd JXP_DFE0.H1 i : Int) + lmsStep up (ds.getD 1 true)) := by
  unfold State.stepHead
  rw [State.rd_wr_same, State.rd_wr_ne _ _ _ _ _ _ (by decide)]
  exact toNat_clamp_mod 127 _ 7 (by decide) (by decide)

theorem State.onlyRegs_stepped : s.onlyRegs ((s.stepHead i up ds).stepTaps i up ds) (dfeFields i) := by
  have head : s.onlyRegs (s.stepHead i up ds) (dfeFields i) :=
    State.onlyRegs_wr (State.onlyRegs_wr (s.onlyRegs_refl _) _ _ i (by simp [dfeFields])) _ _ i (by simp [dfeFields])
  exact List.foldlRecOn (motive := fun t => s.onlyRegs t (dfeFields i)) _ _ head (fun t kept j _ => State.onlyRegs_wr kept _ _ i (dfeTap_mem i j))

end DfeTaps

/-- Settles O17: the commands and the end of a scan, the lock of a checker gained and lost, injected bits, then one adaptation of the taps. -/
theorem laneMeasurements : Obligations.LaneMeasurements := by
  refine ⟨fun s p h => ⟨?busy, ?empty, ?start, ?stop⟩, ?done, fun s p k errs nbits => ⟨?lock, ?loss⟩, fun s p k data => ⟨?single, ?rate⟩, ?dfe⟩
  case busy =>
    intro running
    rw [exec_horizonStart s p h, s.horizonStart_busy p running]
  case empty =>
    intro idle empty
    rw [exec_horizonStart s p h, s.horizonStart_empty p idle empty]
  case start =>
    intro idle points
    have act := s.horizonStart_scan p idle points
    refine ⟨fun held => ?_, fun free => ?_⟩
    · rw [exec_horizonStart s p h, act, if_pos held]
    · rw [exec_horizonStart s p h, act, if_neg free]
  case stop =>
    intro running
    rw [exec_horizonStop s p h, s.scanStop_running p running]
  case done =>
    intro s p counts running
    refine ⟨_, congrArg Host.Outcome.next (s.scanDone_running p counts running), ?run, ?finished, State.horizon_raise .., ?width, ?height, ?event,
      State.keepsButEvents_raise (State.keepsButEvents_scanEnded _ p _ _ (s.keepsButEvents_withCounts p counts _) ?_ ?_ ?_ ?_) _ _⟩
    case run => rw [State.rd_raise _ _ _ _ _ (by decide), State.rd_scanEnded_run]
    case finished => rw [State.rd_raise _ _ _ _ _ (by decide), State.rd_scanEnded_done]
    case width =>
      intro uncentred
      rw [State.rd_raise _ _ _ _ _ (by decide), State.rd_scanEnded_width, (s.withCounts p counts).eyeWidth_uncentred p uncentred]
    case height =>
      intro uncentred
      rw [State.rd_raise _ _ _ _ _ (by decide), State.rd_scanEnded_height, (s.withCounts p counts).eyeHeight_uncentred p uncentred]
    case event =>
      have raised := State.raised_status ((s.withCounts p counts).scanEnded p ((s.withCounts p counts).eyeWidth p)
        ((s.withCounts p counts).eyeHeight p)) (Ev.JXP_HZ_DONE p) (s.rd JXP_HZCTRL.LANE p)
      rwa [State.on_scanEnded_event, State.on_withCounts] at raised
    all_goals simp
  case lock => exact fun checking => congrArg Host.Outcome.next (s.prbsLock_checking p k checking)
  case loss =>
    intro locked
    have act := s.prbsLoss_locked p k errs nbits locked
    exact ⟨fun free => congrArg Host.Outcome.next (act.trans (if_pos free)),
      fun bound => congrArg Host.Outcome.next (act.trans (if_neg (by simp [bound])))⟩
  case single =>
    intro h reserved clear lo hi single go
    rw [exec_errorInject s p k data h, s.injWrite_single p k _ (s.firstStatus_inj _ _ reserved clear lo hi) single go]
    rfl
  case rate => exact exec_injectRateBit s p k
  case dfe =>
    intro s p k up ds i
    refine ⟨fun frozen => congrArg Host.Outcome.next ((s.dfeAdapt_eq up ds p k).trans (if_pos frozen)), fun free => ?_⟩
    have act : s.dfeAdapt p k up ds = (s.stepHead i up ds).stepTaps i up ds := (s.dfeAdapt_eq up ds p k).trans (if_neg (by simp [i, free]))
    refine ⟨_, congrArg Host.Outcome.next act, ?h0, ?h1, ?taps, s.onlyRegs_stepped i up ds⟩
    case h0 => rw [State.rd_stepTaps_ne _ _ _ _ _ (fun j => (dfeTap_apart j).1), s.rd_stepHead_h0]
    case h1 => rw [State.rd_stepTaps_ne _ _ _ _ _ (fun j => (dfeTap_apart j).2), s.rd_stepHead_h1]
    case taps =>
      intro j lo hi
      rw [State.rd_stepTaps_tap _ _ _ _ _ lo hi, State.rd_stepHead_ne _ _ _ _ _ (dfeTap_apart j).1.symm (dfeTap_apart j).2.symm]
      rfl

end Sys2Proof.Machine

/-! The steps of a training attempt (R130, R149, R160 to R168, R480, R481): what a change of the link's state leaves alone, then one lemma for
each way a step from EN to key agreement can end. -/

namespace Sys2Proof.Machine

section LinkState

variable (s : State) (p : Nat)

theorem State.linkSt_wr_ne (f : Field) (v i q : Nat) (h : f.id ≠ JXK_STATUS.STATE.id) : (s.wr f v i).linkSt q = s.linkSt q :=
  State.rd_wr_ne _ _ _ _ _ _ h

@[simp] theorem State.rd_freshAttempt (seen : Bool) (f : Field) (i : Nat) : (s.freshAttempt p seen).rd f i = s.rd f i := rfl
@[simp] theorem State.rest_modLk (g : Link → Link) : (s.modLk p g).rest = s.rest.modLk p g := rfl

@[simp] theorem State.rest_setLinkSt (v : Nat) : (s.setLinkSt p v).rest = s.rest := rfl

theorem State.rd_setLinkSt (v : Nat) (f : Field) (i : Nat) (notState : JXK_STATUS.STATE.id ≠ f.id) (notActive : PLN_LSTAT.ACTIVE.id ≠ f.id) :
    (s.setLinkSt p v).rd f i = s.rd f i := by
  unfold State.setLinkSt State.setBit
  rw [State.rd_wr_ne _ _ _ _ _ _ notActive, State.rd_wr_ne _ _ _ _ _ _ notState]

theorem State.linkSt_setLinkSt_same (v : Nat) : (s.setLinkSt p v).linkSt p = v % 8 := by
  unfold State.setLinkSt State.setBit State.linkSt
  rw [State.rd_wr_ne _ _ _ _ _ _ (by decide), State.rd_wr_same]
  rfl

theorem State.linkSt_setLinkSt_ne (v q : Nat) (other : q ≠ p) : (s.setLinkSt p v).linkSt q = s.linkSt q := by
  unfold State.setLinkSt State.setBit State.linkSt
  rw [State.rd_wr_ne _ _ _ _ _ _ (by decide), State.rd_wr_idx _ _ _ _ _ other.symm]

@[simp] theorem State.news_releaseScan : (s.releaseScan p).news = s.news := by
  unfold State.releaseScan
  split <;> rfl

@[simp] theorem State.news_setLinkSt (v : Nat) : (s.setLinkSt p v).news = s.news := rfl
@[simp] theorem State.news_freshAttempt (seen : Bool) : (s.freshAttempt p seen).news = s.news := rfl

/-- An attempt that fails takes no link down. -/
@[simp] theorem State.news_trainFail (status : Nat) : (s.trainFail p status).news = s.news := by
  unfold State.trainFail State.bump
  simp only [State.news_wr, State.news_setLinkSt, State.news_releaseScan, State.news_freshAttempt, State.news_raise]

end LinkState

section Enable

theorem exec_jxkEnWrite (s : State) (p : Fin 4) (data : Word) (h : s.serves (Reg.JXK_CTRL.addr p.val 0) true) :
    exec (.jxkEnWrite p data) s = .next (s.calm.jxkCtrlWrite p.val data.toNat).settled :=
  congrArg (fun u : State => Host.Outcome.next u.settled) (State.access_serves s.calm _ true _ h)

variable (s : State) (p data : Nat)

theorem State.rd_writeFields_ne (d : RegDesc) (f : Field) (i j : Nat) (h : ∀ g ∈ d.fields, g.id ≠ f.id) :
    (s.writeFields d i data).rd f j = s.rd f j := State.rd_writeList_ne s d.fields f i j data h

/-- A write of `JXK_CTRL` leaves the link's state and the leave to train as they are. -/
theorem State.linkSt_ctrlWritten : (s.writeFields Reg.JXK_CTRL p data).linkSt p = s.linkSt p :=
  s.rd_writeFields_ne data _ _ _ _ (by decide)

theorem State.mayTrain_ctrlWritten : (s.writeFields Reg.JXK_CTRL p data).mayTrain p = s.mayTrain p := by
  have lock : (s.writeFields Reg.JXK_CTRL p data).on BOOT_STATUS.LOCK = s.on BOOT_STATUS.LOCK :=
    congrArg (· != 0) (s.rd_writeFields_ne data _ _ _ _ (by decide))
  have up : (s.writeFields Reg.JXK_CTRL p data).isUpPort p = s.isUpPort p := congrArg (· != 0) (s.rd_writeFields_ne data _ _ _ _ (by decide))
  unfold State.mayTrain
  rw [lock, up]
  rfl

theorem State.on_ctrlWritten_en : (s.writeFields Reg.JXK_CTRL p data).on JXK_CTRL.EN p = bitAt data 0 := by
  have en : (s.writeFields Reg.JXK_CTRL p data).rd JXK_CTRL.EN p = data / 2 ^ 0 % 2 :=
    (s.rd_writeList Reg.JXK_CTRL.fields JXK_CTRL.EN p data (by decide) (by decide)).trans (JXK_CTRL.EN.written_rw _ data (.inl rfl))
  unfold State.on bitAt
  rw [en]
  rcases Nat.mod_two_eq_zero_or_one (data / 2 ^ 0) with h | h <;> rw [h] <;> rfl

/-- A disabled port that may train follows EN (R163, R170). -/
theorem State.jxkCtrlWrite_disabled (passes : firstStatus (s.writeChecks Reg.JXK_CTRL p data ++
      [(St.NOSPACE, decide (65536 < (s.writeFields Reg.JXK_CTRL p data).reservedCells))]) = St.OK)
    (disabled : s.linkSt p = LinkSt.DISABLED) (may : s.mayTrain p = true) :
    s.jxkCtrlWrite p data = (if bitAt data 0 then
      ((s.writeFields Reg.JXK_CTRL p data).freshAttempt p false).setLinkSt p LinkSt.DETECT
      else s.writeFields Reg.JXK_CTRL p data).recomputePool.answer St.OK := by
  have disabled := (s.linkSt_ctrlWritten p data).trans disabled
  have may := (s.mayTrain_ctrlWritten p data).trans may
  unfold State.jxkCtrlWrite State.writeReg
  rw [State.checked_ok _ _ _ passes]
  dsimp only
  rw [s.on_ctrlWritten_en p data]
  cases en : bitAt data 0 with
  | true =>
    have enabled := (s.on_ctrlWritten_en p data).trans en
    unfold State.enablePort
    rw [if_pos rfl, if_pos rfl, if_pos ⟨disabled, enabled, may⟩]
  | false =>
    unfold State.disablePort
    rw [if_pos disabled]
    rfl

theorem State.news_recomputePool : s.recomputePool.news = s.news := rfl

/-- EN of a disabled port takes no link up or down. -/
theorem State.news_jxkCtrlWrite_disabled (passes : firstStatus (s.writeChecks Reg.JXK_CTRL p data ++
      [(St.NOSPACE, decide (65536 < (s.writeFields Reg.JXK_CTRL p data).reservedCells))]) = St.OK)
    (disabled : s.linkSt p = LinkSt.DISABLED) (may : s.mayTrain p = true) : (s.jxkCtrlWrite p data).news = s.news := by
  rw [s.jxkCtrlWrite_disabled p data passes disabled may, State.news_answer, State.news_recomputePool]
  split
  · rw [State.news_setLinkSt, State.news_freshAttempt, State.news_writeFields]
  · rw [State.news_writeFields]

end Enable

section Equalize

theorem exec_detectDone (s : State) (p : Fin 4) : exec (.detectDone p) s = .next (s.detectDone p.val) := rfl
theorem exec_equalizeDone (s : State) (p : Fin 4) (r : EqResult) : exec (.equalizeDone p r) s = .next (s.equalizeDone p.val r) := rfl

variable (s : State) (p : Nat) (r : EqResult)

/-- The fields in which EQUALIZE leaves its taps (R106, R108, R109). -/
def equaliserFields : List (Fin 1024) := [JXP_FFE.C_PRE.id, JXP_FFE.C_POST.id, JXP_FFE.MAIN.id, JXP_RXEQ.PEAK.id]

theorem State.rd_setEqualiser (f : Field) (i : Nat) (notTap : f.id ∉ equaliserFields) : (s.setEqualiser p r).rd f i = s.rd f i := by
  simp only [equaliserFields, List.mem_cons, List.not_mem_nil, or_false, not_or] at notTap
  obtain ⟨notPre, notPost, notMain, notPeak⟩ := notTap
  refine State.rd_foldl _ f i (fun s k => ?_) _ s
  dsimp only
  rw [State.rd_wr_ne _ _ _ _ _ _ (Ne.symm notPeak), State.rd_wr_ne _ _ _ _ _ _ (Ne.symm notMain), State.rd_wr_ne _ _ _ _ _ _ (Ne.symm notPost),
    State.rd_wr_ne _ _ _ _ _ _ (Ne.symm notPre)]

variable (equalize : s.linkSt p = LinkSt.EQUALIZE)
include equalize

/-- No rate has a mode in both directions (R130, R165). -/
theorem State.equalizeDone_noMode (noMode : ∀ x ∈ [0, 1, 2], (s.setEqualiser p r).modeAt p r x = none) :
    s.equalizeDone p r = (s.setEqualiser p r).trainFail p St.INTEGRITY := by
  have noRate (ceil : Nat) : ([0, 1, 2].filter (fun x => decide (ceil ≤ x))).findSome?
      (fun x => ((s.setEqualiser p r).modeAt p r x).map (fun n => (x, n))) = none :=
    List.findSome?_eq_none_iff.2 (fun x hx => by rw [noMode x (List.mem_filter.1 hx).1]; rfl)
  unfold State.equalizeDone
  rw [if_neg (not_not_intro equalize)]
  dsimp only
  rw [noRate]

/-- The lanes of a full-width link at rate 0, for DESKEW to place (R130). -/
def State.fullMode (e : State) (p : Nat) (r : EqResult) : State :=
  (((e.wr JXP_STATUS.RATE 0 p).setBit JXP_STATUS.NARROW false p).modLk p
    (fun l => { l with modeQual := laneMask (e.qualLanes p (r.own.getD 0 0)), modePeer := r.peer.getD 0 0 }))

/-- Both ends can run all lanes at the highest rate (R130). -/
theorem State.equalizeDone_full (ceil : max (max (s.rd JXP_CTRL.MAXRATE p) (s.rd JXP_STATUS.RATE_CAP p)) r.peerCeil = 0)
    (full : (s.setEqualiser p r).modeAt p r 0 = some false) :
    s.equalizeDone p r = (((s.setEqualiser p r).fullMode p r).releaseScan p).setLinkSt p LinkSt.DESKEW := by
  have maxRate : (s.setEqualiser p r).rd JXP_CTRL.MAXRATE p = s.rd JXP_CTRL.MAXRATE p := s.rd_setEqualiser p r _ _ (by decide)
  have rateCap : (s.setEqualiser p r).rd JXP_STATUS.RATE_CAP p = s.rd JXP_STATUS.RATE_CAP p := s.rd_setEqualiser p r _ _ (by decide)
  have rate : ([0, 1, 2].filter (fun x => decide (0 ≤ x))).findSome?
      (fun x => ((s.setEqualiser p r).modeAt p r x).map (fun n => (x, n))) = some (0, false) := by
    rw [List.filter_cons_of_pos rfl, List.findSome?_cons, full]
    rfl
  unfold State.equalizeDone
  rw [if_neg (not_not_intro equalize)]
  dsimp only
  rw [maxRate, rateCap, ceil, rate]
  dsimp only
  rw [if_neg (Nat.not_lt_zero _)]
  rfl

end Equalize

section TableDefault

theorem NMap.del_del {α : Type} (m : NMap α) (k : Nat) : NMap.del (NMap.del m k) k = NMap.del m k := by
  induction m with
  | nil => rfl
  | cons e r ih => by_cases h : e.1 = k <;> simp [NMap.del, h, ih]

theorem NMap.del_ins {α : Type} (m : NMap α) (k : Nat) (v : α) : NMap.del (NMap.ins m k v) k = NMap.del m k := by
  induction m with
  | nil => simp [NMap.ins, NMap.del]
  | cons e r ih => by_cases h : k < e.1 <;> by_cases h' : e.1 = k <;> simp [NMap.ins, NMap.del, h, h', ih]

/-- A key set to the default is as if it had not been set before, whatever the form of the table. -/
theorem NMap.set_default_set {α : Type} [DecidableEq α] (m : NMap α) (d : α) (k : Nat) (v : α) :
    NMap.set (NMap.set m d k v) d k d = NMap.set m d k d := by
  unfold NMap.set
  rw [if_pos rfl, if_pos rfl]
  split
  · exact NMap.del_del m k
  · rw [NMap.del_ins, NMap.del_del]

theorem State.setLk_init_modLk (s : State) (p : Nat) (g : Link → Link) : (s.modLk p g).setLk p Link.init = s.setLk p Link.init :=
  congrArg (fun l => { s with link := l }) (NMap.set_default_set s.link Link.init p (g (s.lk p)))

end TableDefault

section Deskew

theorem exec_deskewDone (s : State) (p : Fin 4) (pol : Nat) : exec (.deskewDone p pol) s = .next (s.deskewDone p.val pol) := rfl

variable (s : State) (p pol : Nat)

/-- The polarity of each lane as DESKEW found it. -/
def State.setPolarity : State := (List.range 10).foldl (fun s k => s.setBit JXP_RXEQ.POLINV (bitAt pol k) (laneIx p k)) s

theorem State.rd_setPolarity_ne (f : Field) (i : Nat) (h : JXP_RXEQ.POLINV.id ≠ f.id) : (s.setPolarity p pol).rd f i = s.rd f i :=
  State.rd_foldl _ f i (fun _ _ => State.rd_wr_ne _ _ _ _ _ _ h) _ s

theorem State.rd_setPolarity (k : Nat) (hk : k < 10) :
    (s.setPolarity p pol).rd JXP_RXEQ.POLINV (laneIx p k) = if bitAt pol k then 1 else 0 := by
  have same (s : State) (k : Nat) :
      (s.setBit JXP_RXEQ.POLINV (bitAt pol k) (laneIx p k)).rd JXP_RXEQ.POLINV (laneIx p k) = if bitAt pol k then 1 else 0 := by
    unfold State.setBit
    rw [State.rd_wr_same]
    split <;> rfl
  have other (s : State) (j k : Nat) (ne : k ≠ j) : (s.setBit JXP_RXEQ.POLINV (bitAt pol j) (laneIx p j)).rd JXP_RXEQ.POLINV (laneIx p k) =
      s.rd JXP_RXEQ.POLINV (laneIx p k) := State.rd_wr_idx _ _ _ _ _ (fun e => ne (Nat.add_left_cancel e).symm)
  have fold := foldl_pointwise (fun s k => State.rd s JXP_RXEQ.POLINV (laneIx p k))
    (fun s k => s.setBit JXP_RXEQ.POLINV (bitAt pol k) (laneIx p k)) (fun k _ => if bitAt pol k then 1 else 0) (fun _ => True)
    (fun s k _ => same s k) (fun s j k _ _ => other s j k) (List.range 10) List.nodup_range (fun _ _ => trivial) s k trivial
  rwa [if_pos (List.mem_range.2 hk)] at fold

/-- What placing the lanes does to one of them (R130). -/
def State.placeLane (data lanes : List Nat) (k : Nat) : State :=
  if data.contains k then s.setLane p k LaneSt.DATA
  else if lanes.contains k then s.setLane p k LaneSt.SPARE
  else if s.laneSt p k < LaneSt.FAILING then s.setLane p k LaneSt.UNQUAL
  else s

theorem State.placeLanes_eq (lanes : List Nat) :
    s.placeLanes p lanes = (List.range 10).foldl (fun u k => u.placeLane p (lanes.take (s.width p)) lanes k) s := rfl

theorem State.rd_placeLane (data lanes : List Nat) (k : Nat) (f : Field) (i : Nat) (notShown : f.id ∉ laneFields) :
    (s.placeLane p data lanes k).rd f i = s.rd f i := by
  have placed (v : Nat) : (s.setLane p k v).rd f i = s.rd f i := s.rd_setLane p k v f i notShown
  unfold State.placeLane
  repeat' split
  · exact placed _
  · exact placed _
  · exact placed _
  · rfl

theorem State.rd_placeLanes (lanes : List Nat) (f : Field) (i : Nat) (notShown : f.id ∉ laneFields) :
    (s.placeLanes p lanes).rd f i = s.rd f i := by
  rw [State.placeLanes_eq]
  exact State.rd_foldl _ f i (fun s k => s.rd_placeLane p _ lanes k f i notShown) _ s

theorem State.rest_placeLane (data lanes : List Nat) (k : Nat) : (s.placeLane p data lanes k).rest = s.rest := by
  unfold State.placeLane
  repeat' split
  all_goals rfl

theorem State.rest_placeLanes (lanes : List Nat) : (s.placeLanes p lanes).rest = s.rest := by
  rw [State.placeLanes_eq]
  exact foldl_keeps State.rest _ (fun s k => s.rest_placeLane p _ lanes k) _ s

theorem State.rest_setPolarity : (s.setPolarity p pol).rest = s.rest :=
  foldl_keeps State.rest (fun s k => s.setBit JXP_RXEQ.POLINV (bitAt pol k) (laneIx p k)) (fun _ _ => rfl) _ s

/-- The lanes that EQUALIZE qualified, in their states, with the polarities that DESKEW found (R130, R163). -/
def State.lanesPlaced : State := (s.setPolarity p pol).placeLanes p (bitList 10 (s.lk p).modeQual)

/-- Both lane maps set: this end's from `lanes`, the peer's from what it qualified (R100, R130). -/
def State.setMaps (u : State) (p : Nat) (lanes : List Nat) : State :=
  let u := u.wr JXP_RXMAP.MAP (mapOf lanes (u.width p)) p
  u.wr JXP_TXMAP.MAP (mapOf (bitList 10 (u.lk p).modePeer) (u.width p)) p

def State.deskewed : State := (s.lanesPlaced p pol).setMaps p (bitList 10 (s.lk p).modeQual)

/-- The link as ALIGN begins: no credits of the peer yet, and at the upstream end the next epoch (R163, R166). -/
def State.alignFrom (u : State) (p : Nat) : State :=
  ((u.freshAttempt p true).modLk p (fun l => { l with
    peerInit := [], epoch := if (u.freshAttempt p true).isUpPort p then 0 else nextEpoch l.prevEpoch })).setLinkSt
    p LinkSt.ALIGN

theorem State.deskewDone_eq (deskew : s.linkSt p = LinkSt.DESKEW) : s.deskewDone p pol = (s.deskewed p pol).alignFrom p :=
  if_neg (not_not_intro deskew)

theorem State.rest_lanesPlaced : (s.lanesPlaced p pol).rest = s.rest := (State.rest_placeLanes ..).trans (s.rest_setPolarity p pol)

theorem State.rest_setMaps (u : State) (lanes : List Nat) : (u.setMaps p lanes).rest = u.rest := rfl

theorem State.rest_deskewed : (s.deskewed p pol).rest = s.rest := by
  unfold State.deskewed
  rw [State.rest_setMaps, State.rest_lanesPlaced]

/-- The links of two states that differ at most in registers, events and what has been put out. -/
theorem State.lk_of_rest {s t : State} (h : t.rest = s.rest) (q : Nat) : t.lk q = s.lk q := by
  show t.rest.lk q = s.rest.lk q
  rw [h]

theorem State.rd_lanesPlaced (f : Field) (i : Nat) (notPolarity : JXP_RXEQ.POLINV.id ≠ f.id) (notShown : f.id ∉ laneFields) :
    (s.lanesPlaced p pol).rd f i = s.rd f i := by
  unfold State.lanesPlaced
  rw [State.rd_placeLanes _ _ _ _ _ notShown, State.rd_setPolarity_ne _ _ _ _ _ notPolarity]

/-- Neither polarities nor lane states show the width. -/
theorem State.width_lanesPlaced : (s.lanesPlaced p pol).width p = s.width p := by
  unfold State.width State.on
  rw [s.rd_lanesPlaced p pol _ _ (by decide) (by decide)]

theorem State.rd_setMaps (u : State) (lanes : List Nat) (f : Field) (i : Nat) (notRx : JXP_RXMAP.MAP.id ≠ f.id) (notTx : JXP_TXMAP.MAP.id ≠ f.id) :
    (u.setMaps p lanes).rd f i = u.rd f i := by
  unfold State.setMaps
  rw [State.rd_wr_ne _ _ _ _ _ _ notTx, State.rd_wr_ne _ _ _ _ _ _ notRx]

theorem State.rd_deskewed_rxMap :
    (s.deskewed p pol).rd JXP_RXMAP.MAP p = mapOf (bitList 10 (s.lk p).modeQual) (s.width p) % 2 ^ 32 := by
  unfold State.deskewed State.setMaps
  rw [State.rd_wr_ne _ _ _ _ _ _ (by decide), State.rd_wr_same, s.width_lanesPlaced p pol]
  rfl

theorem State.rd_deskewed_txMap :
    (s.deskewed p pol).rd JXP_TXMAP.MAP p = mapOf (bitList 10 (s.lk p).modePeer) (s.width p) % 2 ^ 32 := by
  have width (m : Nat) : ((s.lanesPlaced p pol).wr JXP_RXMAP.MAP m p).width p = s.width p := by
    rw [← s.width_lanesPlaced p pol]
    unfold State.width
    rw [State.on_wr_ne _ _ _ _ _ _ (by decide)]
  unfold State.deskewed State.setMaps
  rw [State.rd_wr_same, width, State.lk_wr, State.lk_of_rest (s.rest_lanesPlaced p pol)]
  rfl

theorem State.rd_deskewed_polarity (k : Nat) (hk : k < 10) :
    (s.deskewed p pol).rd JXP_RXEQ.POLINV (laneIx p k) = if bitAt pol k then 1 else 0 := by
  unfold State.deskewed State.lanesPlaced
  rw [State.rd_setMaps _ _ _ _ _ (by decide) (by decide), State.rd_placeLanes _ _ _ _ _ (by decide), s.rd_setPolarity p pol k hk]

theorem State.isUpPort_deskewed : (s.deskewed p pol).isUpPort p = s.isUpPort p :=
  congrArg (· != 0) ((State.rd_setMaps _ _ _ _ _ (by decide) (by decide)).trans (s.rd_lanesPlaced p pol _ _ (by decide) (by decide)))

variable (u : State)

theorem State.rd_alignFrom (f : Field) (i : Nat) (notState : JXK_STATUS.STATE.id ≠ f.id) (notActive : PLN_LSTAT.ACTIVE.id ≠ f.id) :
    (u.alignFrom p).rd f i = u.rd f i := by
  unfold State.alignFrom
  rw [State.rd_setLinkSt _ _ _ _ _ notState notActive, State.rd_modLk, State.rd_freshAttempt]

theorem State.linkSt_alignFrom : (u.alignFrom p).linkSt p = LinkSt.ALIGN := State.linkSt_setLinkSt_same ..

theorem State.epoch_alignFrom : ((u.alignFrom p).lk p).epoch = if u.isUpPort p then 0 else nextEpoch (u.lk p).prevEpoch := by
  unfold State.alignFrom State.setLinkSt State.setBit State.freshAttempt
  rw [State.lk_wr, State.lk_wr, State.lk_modLk_same, State.lk_modLk_same]
  rfl

/-- ALIGN begins with a change of the one link (R163). -/
theorem State.rest_alignFrom : (u.alignFrom p).rest.setLk p Link.init = u.rest.setLk p Link.init := by
  unfold State.alignFrom State.freshAttempt
  rw [State.rest_setLinkSt, State.rest_modLk, State.rest_modLk, State.setLk_init_modLk, State.setLk_init_modLk]

end Deskew

section Align

theorem exec_alignIdReceive (s : State) (p : Fin 4) (y : List Byte) :
    exec (.alignIdReceive p y) s = .next (s.alignIdIn p.val (AlignId.ofPayload y)) := rfl

theorem exec_alignCredReceive (s : State) (p : Fin 4) (y : List Byte) :
    exec (.alignCredReceive p y) s = .next (s.alignCredIn p.val y) := rfl

variable (s : State) (p : Nat) (align : s.linkSt p = LinkSt.ALIGN)
include align

/-- A peer of another zone (R162). -/
theorem State.alignIdIn_foreign (a : AlignId) (foreign : a.zone ≠ s.rd GLB_ZONE.ZONE) : s.alignIdIn p a = s.trainFail p St.CONFLICT := by
  unfold State.alignIdIn
  rw [if_neg (not_not_intro align)]
  exact if_pos (by simp [foreign])

/-- An ALIGN_ID that names the two ends as this end knows them, with its own settings (R162). -/
structure State.Matches (s : State) (p : Nat) (a : AlignId) : Prop where
  zone : a.zone = s.rd GLB_ZONE.ZONE
  up : a.up = s.isUpPort p
  hub : a.hub = (s.lk p).expHub
  port : a.port = (s.lk p).expPort
  expHub : a.expHub = s.rd GLB_HUB.HUB
  expPort : a.expPort = p
  vcs : a.vcs = s.rd JXK_CTRL.VCS p
  prot : a.prot = s.on JXK_CTRL.PROT p

theorem State.alignIdIn_match (a : AlignId) (h : s.Matches p a) :
    s.alignIdIn p a =
      (s.modLk p (fun l => { l with idOk := true, epoch := if s.isUpPort p then a.epoch else l.epoch })).tryAuth p := by
  obtain ⟨zone, up, hub, port, expHub, expPort, vcs, prot⟩ := h
  unfold State.alignIdIn
  rw [if_neg (not_not_intro align)]
  dsimp only
  rw [if_neg (by simp [zone, up, hub, port, expHub, expPort, vcs, prot])]
  cases s.isUpPort p <;> rfl

/-- The credits of an ALIGN_CRED, one VC after another from BASE (R160). -/
def credTable (m : NMap Nat) (base : Nat) (l : List (Nat × Nat)) : NMap Nat := l.foldl (fun m e => NMap.set m 0 (base + e.2) e.1) m

omit align in
theorem get_credTable (l : List Nat) (m : NMap Nat) (base n v : Nat) :
    NMap.get (credTable m base (l.zipIdx n)) 0 (base + v) = if n ≤ v ∧ v < n + l.length then l.getD (v - n) 0 else NMap.get m 0 (base + v) := by
  induction l generalizing m n with
  | nil =>
    rw [List.length_nil, if_neg (by omega)]
    rfl
  | cons x r ih =>
    have rest := ih (NMap.set m 0 (base + n) x) (n + 1)
    show NMap.get (credTable (NMap.set m 0 (base + n) x) base (r.zipIdx (n + 1))) 0 (base + v) = _
    rw [rest, NMap.get_set, List.length_cons]
    rcases Nat.lt_trichotomy v n with before | rfl | after
    · rw [if_neg (by omega), if_neg (by omega), if_neg (by omega)]
    · rw [if_neg (by omega), if_pos rfl, if_pos (by omega), Nat.sub_self]
      rfl
    · have next : v - n = v - (n + 1) + 1 := by omega
      rw [next, List.getD_cons_succ, if_neg (by omega : ¬ base + n = base + v)]
      exact ite_congr (propext (by omega)) (fun _ => rfl) (fun _ => rfl)

/-- The peer's credits are on record; ALIGN goes on until its ALIGN_ID has come too (R160, R163). -/
theorem State.alignCredIn_early (y : List Byte) (early : (s.lk p).idOk = false) :
    s.alignCredIn p y = s.modLk p (fun l => { l with
      peerInit := credTable (s.lk p).peerInit (byteAt y 1) (alignCredCounts y).zipIdx, credOk := NMap.set l.credOk false (byteAt y 1) true }) := by
  unfold State.alignCredIn
  rw [if_neg (not_not_intro align)]
  refine if_neg (fun h => ?_)
  rw [State.lk_modLk_same] at h
  simp [early] at h

omit s p align in
theorem length_alignCredCounts (y : List Byte) : (alignCredCounts y).length = 16 := by simp [alignCredCounts, unpack]

end Align

section LoopDelay

variable (s : State) (p : Nat)

theorem State.news_queueFlits (tix sub : Nat) (framed : Bool) (l : List (List Byte)) : (s.queueFlits p tix sub framed l).news = s.news := by
  unfold State.queueFlits
  refine foldl_keeps State.news _ (fun s e => ?_) _ s
  rfl

theorem State.news_gwSend (kind hub tid ident sub : Nat) (loss : Bool) (y : List Byte) :
    (s.gwSend kind hub tid ident sub loss y).news = s.news := by
  unfold State.gwSend
  split <;> rfl

theorem State.news_cirrusOut (m : Msg) : (s.cirrusOut m).news = s.news := by
  unfold State.cirrusOut
  split
  · exact State.news_gwSend ..
  · split
    · rfl
    · split
      · exact State.news_queueFlits ..
      · rfl

/-- A message of the time service is a flit of its own, no news. -/
@[simp] theorem State.news_timeSend : (s.timeSend p).news = s.news := by
  unfold State.timeSend
  split
  · exact State.news_cirrusOut ..
  · rfl

theorem exec_loopMeasure (p : Fin 4) (v : Nat) : exec (.loopMeasure p v) s = .next ((s.calm.loopMeasure p.val v).timeSend p.val).settled := rfl

variable (v : Nat) (down : s.isUpPort p = false)
include down

/-- In ALIGN a loop delay above O ends the attempt (R163, R168). -/
theorem State.loopMeasure_far (align : s.linkSt p = LinkSt.ALIGN) (far : s.rd PLN_ALIGN.OFFSET p < (v + 63) / 64) :
    s.loopMeasure p v = ((s.wr PLN_ALIGN.LOOP (min 1023 ((v + 63) / 64)) p).raise Ev.PLN_ALIGN_RANGE p).trainFail p St.RANGE := by
  unfold State.loopMeasure
  dsimp only
  rw [if_neg (by simp [down]), if_pos align, if_pos far]

/-- In ACTIVE a loop delay is on record, and one that has drifted above O recovers the link (R168). -/
theorem State.loopMeasure_active (active : s.linkActive p = true) :
    s.loopMeasure p v = if s.rd PLN_ALIGN.OFFSET p * 64 < v then (s.wr JXK_LOOP.LOOP (min (2 ^ 20 - 1) v) p).recover p
      else s.wr JXK_LOOP.LOOP (min (2 ^ 20 - 1) v) p := by
  have notAlign : s.linkSt p ≠ LinkSt.ALIGN := fun h => by
    have six : s.linkSt p = 6 := eq_of_beq active
    rw [h] at six
    cases six
  unfold State.loopMeasure
  dsimp only
  rw [if_neg (by simp [down]), if_neg notAlign, if_pos active]

end LoopDelay

section Auth

theorem exec_authMessageReceive (s : State) (p : Fin 4) (y : List Byte) (ok : Bool) :
    exec (.authMessageReceive p y ok) s = .next (s.settling (fun s => s.authReceive p.val y ok)) := rfl

/-- A segment that joins a message leaves the step of AUTH as it is (R480). -/
theorem Link.authStage_takeSegment (l : Link) (y : List Byte) : (l.takeSegment y).authStage = l.authStage := by
  unfold Link.takeSegment
  dsimp only
  split <;> rfl

variable (s : State) (p : Nat) (y : List Byte) (auth : s.linkSt p = LinkSt.AUTH)
include auth

/-- A segment of a HELLO that is not whole yet (R480). -/
theorem State.authReceive_hello (ok : Bool) (stage : (s.lk p).authStage = 0) (hello : bits (byteAt y 1) 0 3 = Amsg.HELLO)
    (unfinished : ((s.lk p).takeSegment y).authMessage Amsg.HELLO = none) : s.authReceive p y ok = s.modLk p (fun l => l.takeSegment y) := by
  have stage := ((s.lk p).authStage_takeSegment y).trans stage
  unfold State.authReceive State.authSegmentIn
  dsimp only
  rw [hello, if_neg (by decide), if_pos (.inl rfl), if_neg (not_not_intro auth), State.lk_modLk_same, if_pos stage, unfinished]

/-- The peer's DONE is on record (R481 step 4). -/
theorem State.authDoneIn_waiting (unsent : (s.lk p).authSent = false) : s.authDoneIn p = s.modLk p (fun l => { l with authDone := true }) := by
  unfold State.authDoneIn
  rw [if_neg (not_not_intro auth)]
  dsimp only
  rw [State.lk_modLk_same]
  exact if_neg (by simp [unsent])

/-- Both ends have sent and received DONE: the link reaches ACTIVE (R481 step 4). -/
theorem State.authDoneIn_sent (sent : (s.lk p).authSent = true) :
    s.authDoneIn p = (s.modLk p (fun l => { l with authDone := true })).reachActive p := by
  unfold State.authDoneIn
  rw [if_neg (not_not_intro auth)]
  dsimp only
  rw [State.lk_modLk_same]
  exact if_pos sent

omit auth

theorem exec_authDoneReceive (s : State) (p : Fin 4) (y : List Byte) (done : bits (byteAt y 1) 0 3 = Amsg.DONE) (total : leAt y 4 2 = 0) :
    exec (.authDoneReceive p y) s = .next (s.calm.authDoneIn p.val).settled :=
  congrArg (fun u : State => Host.Outcome.next u.settled) (if_pos ⟨done, total⟩)

end Auth

section ReachActive

/-- The fields of a link's numbering and credits (R142, R144, R167). -/
def seqFields : List (Fin 1024) :=
  [JXK_RXSEQ.EXPECTED.id, JXK_RXSEQ.ACK_TX.id, JXK_TXSEQ.NEWEST.id, JXK_TXSEQ.ACKED.id, JXK_TXSEQ.EXPIRIES.id, JXK_STATUS.REPLAYING.id,
   JXK_VC.AVAIL.id, JXK_VC.STALL.id, JXK_RBUF.UNACKED.id, JXK_RBUF.RETAINED.id]

variable (s : State) (p : Nat)

theorem State.rd_resetSeq (f : Field) (i : Nat) (other : f.id ∉ seqFields) : (s.resetSeq p).rd f i = s.rd f i := by
  simp only [seqFields, List.mem_cons, List.not_mem_nil, or_false, not_or] at other
  obtain ⟨h1, h2, h3, h4, h5, h6, h7, h8, h9, h10⟩ := other
  have credits (t : State) (l : List Nat) :
      (l.foldl (fun s v => (s.wr JXK_VC.AVAIL 0 (p * 64 + v)).wr JXK_VC.STALL 0 (p * 64 + v)) t).rd f i = t.rd f i :=
    State.rd_foldl _ f i (fun s v => by rw [State.rd_wr_ne _ _ _ _ _ _ (Ne.symm h8), State.rd_wr_ne _ _ _ _ _ _ (Ne.symm h7)]) l t
  unfold State.resetSeq State.countRbuf State.setExpected
  dsimp only
  rw [State.rd_wr_ne _ _ _ _ _ _ (Ne.symm h10), State.rd_wr_ne _ _ _ _ _ _ (Ne.symm h9), State.rd_modLk, credits,
    State.rd_wr_ne _ _ _ _ _ _ (Ne.symm h6), State.rd_wr_ne _ _ _ _ _ _ (Ne.symm h5), State.rd_wr_ne _ _ _ _ _ _ (Ne.symm h4),
    State.rd_wr_ne _ _ _ _ _ _ (Ne.symm h3), State.rd_wr_ne _ _ _ _ _ _ (Ne.symm h2), State.rd_wr_ne _ _ _ _ _ _ (Ne.symm h1)]

/-- A link in ACTIVE with its epoch, its first key and its failures forgotten (R163, R165, R166). -/
def State.openLink : State :=
  ((((((s.resetSeq p).modLk p (fun x => { x with secret := (s.lk p).secret })).wr JXK_STATUS.EPOCH (s.lk p).epoch p).wr JXK_TRFAIL.FAILS 0
    p).setLinkSt p LinkSt.ACTIVE).wr JXK_STATUS.KEYGEN 0 p)

theorem State.linkSt_openLink_same : (s.openLink p).linkSt p = LinkSt.ACTIVE := by
  unfold State.openLink
  rw [State.linkSt_wr_ne _ _ _ _ _ (by decide), State.linkSt_setLinkSt_same]
  rfl

theorem State.linkSt_openLink_ne (q : Nat) (other : q ≠ p) : (s.openLink p).linkSt q = s.linkSt q := by
  unfold State.openLink
  rw [State.linkSt_wr_ne _ _ _ _ _ (by decide), State.linkSt_setLinkSt_ne _ _ _ _ other, State.linkSt_wr_ne _ _ _ _ _ (by decide),
    State.linkSt_wr_ne _ _ _ _ _ (by decide)]
  exact (State.rd_modLk ..).trans (s.rd_resetSeq p JXK_STATUS.STATE q (by decide))

theorem State.rd_openLink_epoch : (s.openLink p).rd JXK_STATUS.EPOCH p = (s.lk p).epoch % 256 := by
  unfold State.openLink
  rw [State.rd_wr_ne _ _ _ _ _ _ (by decide), State.rd_setLinkSt _ _ _ _ _ (by decide) (by decide), State.rd_wr_ne _ _ _ _ _ _ (by decide),
    State.rd_wr_same]
  rfl

theorem State.rd_openLink_fails : (s.openLink p).rd JXK_TRFAIL.FAILS p = 0 := by
  unfold State.openLink
  rw [State.rd_wr_ne _ _ _ _ _ _ (by decide), State.rd_setLinkSt _ _ _ _ _ (by decide) (by decide), State.rd_wr_same, Nat.zero_mod]

theorem State.rd_openLink_upstream (q : Nat) : (s.openLink p).rd PLN_LSTAT.UPSTREAM q = s.rd PLN_LSTAT.UPSTREAM q := by
  unfold State.openLink
  rw [State.rd_wr_ne _ _ _ _ _ _ (by decide), State.rd_setLinkSt _ _ _ _ _ (by decide) (by decide), State.rd_wr_ne _ _ _ _ _ _ (by decide),
    State.rd_wr_ne _ _ _ _ _ _ (by decide), State.rd_modLk, s.rd_resetSeq p _ _ (by decide)]

/-- What else a link in ACTIVE shows: protection, credit mode, direction, the mode kept, the peer's credits and the bootstrap schedule (R21, R54,
R130, R149). -/
def State.openFlags (u : State) (p : Nat) (credits : NMap Nat) : State :=
  let s := (u.setBit JXK_STATUS.PROT_ON (u.on JXK_CTRL.PROT p) p).setBit JXK_STATUS.CMODE (decide (16 < u.rd JXK_CTRL.VCS p)) p
  let s := (s.setBit JXK_STATUS.UP (!s.isUpPort p) p).keepMode p
  let s := (List.range (s.rd JXK_CTRL.VCS p)).foldl (fun s v => s.wr JXK_VC.AVAIL (NMap.get credits 0 v) (p * 64 + v)) s
  ((s.wr PLN_LSTAT.BOOT 1 p).wr PLN_LSTAT.PLAN 0 p).wr PLN_LSTAT.VARIANT (s.variantOf p) p

/-- The fields that `openFlags` may change. -/
def openFields : List (Fin 1024) :=
  [JXK_STATUS.PROT_ON.id, JXK_STATUS.CMODE.id, JXK_STATUS.UP.id, JXP_STATUS.OVC_HOLD.id, JXP_STATUS.RATE_CAP.id, JXK_VC.AVAIL.id,
   PLN_LSTAT.BOOT.id, PLN_LSTAT.PLAN.id, PLN_LSTAT.VARIANT.id]

theorem State.rd_keepMode (f : Field) (i : Nat) (notHold : JXP_STATUS.OVC_HOLD.id ≠ f.id) (notCap : JXP_STATUS.RATE_CAP.id ≠ f.id) :
    (s.keepMode p).rd f i = s.rd f i := by
  have hold (t : State) (v : Nat) : (t.wr JXP_STATUS.OVC_HOLD v p).rd f i = t.rd f i := State.rd_wr_ne _ _ _ _ _ _ notHold
  have cap (t : State) (v : Nat) : (t.wr JXP_STATUS.RATE_CAP v p).rd f i = t.rd f i := State.rd_wr_ne _ _ _ _ _ _ notCap
  unfold State.keepMode
  dsimp only
  repeat' split
  · rw [cap, hold]
  · rw [hold]
  · rw [cap]
  · rfl

theorem State.rd_openFlags (credits : NMap Nat) (f : Field) (i : Nat) (other : f.id ∉ openFields) :
    (s.openFlags p credits).rd f i = s.rd f i := by
  simp only [openFields, List.mem_cons, List.not_mem_nil, or_false, not_or] at other
  obtain ⟨notProt, notMode, notUp, notHold, notCap, notAvail, notBoot, notPlan, notVariant⟩ := other
  have avail (t : State) (l : List Nat) :
      (l.foldl (fun s v => s.wr JXK_VC.AVAIL (NMap.get credits 0 v) (p * 64 + v)) t).rd f i = t.rd f i :=
    State.rd_foldl _ f i (fun _ _ => State.rd_wr_ne _ _ _ _ _ _ (Ne.symm notAvail)) l t
  unfold State.openFlags State.setBit
  dsimp only
  rw [State.rd_wr_ne _ _ _ _ _ _ (Ne.symm notVariant), State.rd_wr_ne _ _ _ _ _ _ (Ne.symm notPlan),
    State.rd_wr_ne _ _ _ _ _ _ (Ne.symm notBoot), avail, State.rd_keepMode _ _ _ _ (Ne.symm notHold) (Ne.symm notCap),
    State.rd_wr_ne _ _ _ _ _ _ (Ne.symm notUp), State.rd_wr_ne _ _ _ _ _ _ (Ne.symm notMode), State.rd_wr_ne _ _ _ _ _ _ (Ne.symm notProt)]

/-- A link that has just reached ACTIVE, its events raised, before the hub re-aligns or asks for a plan (R21, R163). -/
def State.opened : State :=
  let u := ((s.openLink p).openFlags p (s.lk p).peerInit).modPlan p (fun a => { PlanLink.init with
    nextFseq := a.nextFseq, lastSfn := a.lastSfn, missed := a.missed, missedAt := a.missedAt })
  (u.raise (Ev.JXK_ACTIVE p) (u.rd JXP_STATUS.RATE p + 4 * u.rd JXP_STATUS.NARROW p + 8 * (s.lk p).epoch)).raise Ev.PLN_BOOTSTRAP p

theorem State.reachActive_eq : s.reachActive p =
    (if (s.opened p).isUpPort p then (s.opened p).retrainDownstream else (s.opened p).requestGroupPlan p).onLinkUp p := rfl

theorem State.rd_opened (f : Field) (i : Nat) (notEvent : f.id ∉ eventFields) (other : f.id ∉ openFields) :
    (s.opened p).rd f i = (s.openLink p).rd f i := by
  unfold State.opened
  dsimp only
  rw [State.rd_raise _ _ _ _ _ notEvent, State.rd_raise _ _ _ _ _ notEvent, State.rd_modPlan, State.rd_openFlags _ _ _ _ _ other]

theorem State.isUpPort_opened (q : Nat) : (s.opened p).isUpPort q = s.isUpPort q :=
  congrArg (· != 0) ((s.rd_opened p PLN_LSTAT.UPSTREAM q (by decide) (by decide)).trans (s.rd_openLink_upstream p q))

/-- A hub without a downstream link in ACTIVE has none to retrain (R23). -/
theorem State.retrainDownstream_idle (idle : ∀ q, q < 4 → s.isUpPort q = true ∨ s.linkActive q = false) : s.retrainDownstream = s := by
  refine List.foldlRecOn (motive := fun t => t = s) _ _ rfl (fun t same q hq => ?_)
  subst same
  rcases idle q (List.mem_range.1 hq) with up | down
  · exact if_pos up
  · split
    · rfl
    · exact if_neg (by simp [down])

variable (up : s.isUpPort p = true) (alone : ∀ q, q < 4 → s.linkActive q = true → q = p)
include up alone

/-- An upstream link that no downstream link is ACTIVE beside comes up without any other link's retraining (R23). -/
theorem State.reachActive_alone : s.reachActive p = (s.opened p).onLinkUp p := by
  have idle (q : Nat) (hq : q < 4) : (s.opened p).isUpPort q = true ∨ (s.opened p).linkActive q = false := by
    by_cases e : q = p
    · subst e
      exact .inl ((s.isUpPort_opened q q).trans up)
    · have down : s.linkActive q = false := by
        cases h : s.linkActive q with
        | false => rfl
        | true => exact absurd (alone q hq h) e
      refine .inr (Eq.trans ?_ down)
      exact congrArg (· == 6) ((s.rd_opened p JXK_STATUS.STATE q (by decide) (by decide)).trans (s.linkSt_openLink_ne p q e))
  rw [State.reachActive_eq, if_pos ((s.isUpPort_opened p p).trans up), State.retrainDownstream_idle _ idle]

theorem State.rd_reachActive_alone (f : Field) (i : Nat) (notEvent : f.id ∉ eventFields) (other : f.id ∉ openFields) :
    (s.reachActive p).rd f i = (s.openLink p).rd f i := by
  rw [s.reachActive_alone p up alone]
  exact s.rd_opened p f i notEvent other

omit up alone in
theorem State.mem_news_reachActive : (1, p) ∈ (s.reachActive p).news := List.mem_append_right _ (List.mem_singleton.2 rfl)

end ReachActive

/-- Settles O20: one lemma for each way a step of training can end, in the order of the steps. -/
theorem trainingSteps : Obligations.TrainingSteps := by
  refine ⟨?enable, ?detect, ?equalize, ?deskew, ?alignId, ?alignCred, ?loop, ?hello, ?done⟩
  case enable =>
    intro s p data h passes w disabled may
    have act := s.calm.jxkCtrlWrite_disabled p data.toNat passes disabled may
    have quiet : (s.calm.jxkCtrlWrite p data.toNat).news = [] := s.calm.news_jxkCtrlWrite_disabled p data.toNat passes disabled may
    rw [exec_jxkEnWrite s p data h, State.settled_of_quiet _ quiet, act]
    exact ⟨fun off => by rw [off]; rfl, fun on => by rw [on]; rfl⟩
  case detect => exact fun s p detect ready => congrArg Host.Outcome.next (if_pos ⟨detect, ready⟩)
  case equalize =>
    intro s p r equalize e
    refine ⟨fun two one zero => ?_, fun ceil full => ?_⟩
    · have noMode : ∀ x ∈ [0, 1, 2], e.modeAt p r x = none := by simp [two, one, zero]
      exact congrArg Host.Outcome.next (s.equalizeDone_noMode p r equalize noMode)
    · exact congrArg Host.Outcome.next (s.equalizeDone_full p r equalize ceil full)
  case deskew =>
    intro s p pol deskew
    have shown (f : Field) (i : Nat) (notState : JXK_STATUS.STATE.id ≠ f.id) (notActive : PLN_LSTAT.ACTIVE.id ≠ f.id) :=
      (s.deskewed p pol).rd_alignFrom p f i notState notActive
    refine ⟨_, congrArg Host.Outcome.next (s.deskewDone_eq p pol deskew), State.linkSt_alignFrom .., ?rx, ?tx, fun k hk => ?polarity, ?epoch, ?rest⟩
    case rx => rw [shown _ _ (by decide) (by decide), s.rd_deskewed_rxMap p pol]
    case tx => rw [shown _ _ (by decide) (by decide), s.rd_deskewed_txMap p pol]
    case polarity => rw [shown _ _ (by decide) (by decide), s.rd_deskewed_polarity p pol k hk]
    case epoch => rw [State.epoch_alignFrom, s.isUpPort_deskewed p pol, State.lk_of_rest (s.rest_deskewed p pol)]
    case rest => rw [State.rest_alignFrom, s.rest_deskewed p pol]
  case alignId =>
    intro s p y align a
    refine ⟨fun foreign => congrArg Host.Outcome.next (s.alignIdIn_foreign p align a foreign), ?_⟩
    intro zone up hub port expHub expPort vcs prot
    exact congrArg Host.Outcome.next (s.alignIdIn_match p align a ⟨zone, up, hub, port, expHub, expPort, vcs, prot⟩)
  case alignCred =>
    intro s p y align early
    refine ⟨_, congrArg Host.Outcome.next (s.alignCredIn_early p align y early), ?known, fun v hv => ?credits, rfl⟩
    case known => rw [State.lk_modLk_same, NMap.get_set_same]
    case credits =>
      have inside : 0 ≤ v ∧ v < 0 + (alignCredCounts y).length := by rw [length_alignCredCounts]; omega
      rw [State.lk_modLk_same]
      exact (get_credTable ..).trans (if_pos inside)
  case loop =>
    intro s p v down
    refine ⟨fun align far => ?far, fun active near => ?near, fun active far => ?drift⟩
    case far =>
      have act := s.calm.loopMeasure_far p v down align far
      rw [exec_loopMeasure, act]
      refine congrArg Host.Outcome.next (State.settled_of_quiet _ ?_)
      rw [State.news_timeSend, State.news_trainFail, State.news_raise]
      rfl
    case near =>
      have act := (s.calm.loopMeasure_active p v down active).trans (if_neg (Nat.not_lt.2 near))
      rw [exec_loopMeasure, act]
      exact congrArg Host.Outcome.next (State.settled_of_quiet _ (State.news_timeSend ..))
    case drift =>
      have act := (s.calm.loopMeasure_active p v down active).trans (if_pos far)
      rw [exec_loopMeasure, act]
  case hello =>
    intro s p y ok auth stage hello unfinished
    have act := s.calm.authReceive_hello p y auth ok stage hello unfinished
    rw [exec_authMessageReceive, s.settling_of_quiet (fun s => s.authReceive p y ok) act (State.news_modLk ..)]
  case done =>
    intro s p y auth done total u
    have run := exec_authDoneReceive s p y done total
    refine ⟨fun unsent => ?noted, fun sent => ⟨?active, fun up alone => ?shown⟩⟩
    case noted =>
      rw [run, s.calm.authDoneIn_waiting p auth unsent]
      exact congrArg Host.Outcome.next (State.settled_of_quiet _ rfl)
    case active => rw [run, s.calm.authDoneIn_sent p auth sent]
    case shown =>
      have epoch : (u.lk p).epoch = (s.lk p).epoch := by rw [State.lk_modLk_same]; rfl
      refine ⟨?state, ?epochShown, ?fails, u.mem_news_reachActive p⟩
      case state => exact (u.rd_reachActive_alone p up alone _ _ (by decide) (by decide)).trans (u.linkSt_openLink_same p)
      case epochShown => rw [u.rd_reachActive_alone p up alone _ _ (by decide) (by decide), u.rd_openLink_epoch p, epoch]
      case fails => rw [u.rd_reachActive_alone p up alone _ _ (by decide) (by decide), u.rd_openLink_fails p]

end Sys2Proof.Machine

/-! A link that leaves ACTIVE, and the commands that take one down or end a training attempt (R147, R150, R163 to R167, R546): the flush of R167
one stage after another, each with what it leaves alone, then one lemma for each cause. -/

namespace Sys2Proof.Machine

section Discards

/-- The fields in which a discarded flit shows: its counters and its event (R48, R148). -/
def lossFields : List (Fin 1024) := PLN_XMISS.COUNT.id :: JXK_ISOLOSS.COUNT.id :: eventFields

variable (s : State) (p : Nat)

@[simp] theorem State.rd_setLoss (ep tix : Nat) (b : Bool) (f : Field) (i : Nat) : (s.setLoss ep tix b).rd f i = s.rd f i := rfl

theorem State.rd_xmiss (f : Field) (i : Nat) (other : f.id ∉ lossFields) : (s.xmiss p).rd f i = s.rd f i := by
  simp only [lossFields, List.mem_cons, not_or] at other
  obtain ⟨notMiss, notLoss, notEvent⟩ := other
  unfold State.xmiss
  rw [State.rd_raiseOnce _ _ _ _ _ _ notEvent, State.rd_bump_ne _ _ _ _ _ _ (Ne.symm notMiss)]

theorem State.rd_isoLoss (tix : Nat) (f : Field) (i : Nat) (other : f.id ∉ lossFields) : (s.isoLoss p tix).rd f i = s.rd f i := by
  simp only [lossFields, List.mem_cons, not_or] at other
  obtain ⟨notMiss, notLoss, notEvent⟩ := other
  unfold State.isoLoss
  rw [State.rd_setLoss, State.rd_raiseOnce _ _ _ _ _ _ notEvent, State.rd_bump_ne _ _ _ _ _ _ (Ne.symm notLoss)]

@[simp] theorem State.news_xmiss : (s.xmiss p).news = s.news := State.news_raiseOnce ..
@[simp] theorem State.news_isoLoss (tix : Nat) : (s.isoLoss p tix).news = s.news := State.news_raiseOnce ..

theorem State.rd_dropTxq (f : Field) (i : Nat) (other : f.id ∉ lossFields) : (s.dropTxq p).rd f i = s.rd f i := by
  refine State.rd_foldl _ f i (fun s a => ?_) _ s
  dsimp only
  split
  · rw [State.rd_isoLoss _ _ _ _ _ other, State.rd_xmiss _ _ _ _ other]
  · exact State.rd_xmiss _ _ _ _ other

theorem State.rd_dropStagedFrom (f : Field) (i : Nat) (other : f.id ∉ lossFields) : (s.dropStagedFrom p).rd f i = s.rd f i := by
  refine State.rd_foldl _ f i (fun s q => ?_) _ s
  dsimp only
  split
  · rfl
  · rw [State.rd_foldl (fun s (a : TxItem) => s.isoLoss p a.tix) f i (fun s a => s.rd_isoLoss p a.tix f i other), State.rd_modLk]

@[simp] theorem State.news_dropTxq : (s.dropTxq p).news = s.news := by
  refine foldl_keeps State.news _ (fun s a => ?_) _ s
  dsimp only
  split
  · rw [State.news_isoLoss, State.news_xmiss]
  · rw [State.news_xmiss]

@[simp] theorem State.news_dropStagedFrom : (s.dropStagedFrom p).news = s.news := by
  refine foldl_keeps State.news _ (fun s q => ?_) _ s
  dsimp only
  split
  · rfl
  · rw [foldl_keeps State.news (fun s (a : TxItem) => s.isoLoss p a.tix) (fun s a => s.news_isoLoss p a.tix), State.news_modLk]

/-- What R167 discards is counted and gone: flits waiting on this port, and those staged from it on the others. -/
def State.flushDiscarded : State := ((s.bump JXK_FLUSHED.COUNT p (s.flushCount p)).dropTxq p).dropStagedFrom p

theorem State.rd_flushDiscarded (f : Field) (i : Nat) (other : f.id ∉ lossFields) :
    (s.flushDiscarded p).rd f i = (s.bump JXK_FLUSHED.COUNT p (s.flushCount p)).rd f i := by
  unfold State.flushDiscarded
  rw [State.rd_dropStagedFrom _ _ _ _ other, State.rd_dropTxq _ _ _ _ other]

theorem satAdd_lt (w v n : Nat) : satAdd w v n < 2 ^ w := by
  have pos : 0 < 2 ^ w := Nat.two_pow_pos w
  unfold satAdd
  split <;> omega

theorem State.rd_flushDiscarded_flushed :
    (s.flushDiscarded p).rd JXK_FLUSHED.COUNT p = satAdd JXK_FLUSHED.COUNT.width (s.rd JXK_FLUSHED.COUNT p) (s.flushCount p) := by
  rw [s.rd_flushDiscarded p _ _ (by decide)]
  exact (State.rd_wr_same ..).trans (Nat.mod_eq_of_lt (satAdd_lt ..))

end Discards

section Numbering

variable (s : State) (p : Nat)

/-- The sequence numbers of a link at their start (R142, R144). -/
def State.renumbered : State :=
  ((((s.setExpected p 0).wr JXK_TXSEQ.NEWEST 0xFFE p).wr JXK_TXSEQ.ACKED 0xFFE p).wr JXK_TXSEQ.EXPIRIES 0 p).wr JXK_STATUS.REPLAYING 0 p

/-- No VC has credit, and none is stalled (R149). -/
def State.creditless : State :=
  (List.range 64).foldl (fun s v => (s.wr JXK_VC.AVAIL 0 (p * 64 + v)).wr JXK_VC.STALL 0 (p * 64 + v)) s

theorem State.rd_creditless_ne (f : Field) (i : Nat) (notAvail : JXK_VC.AVAIL.id ≠ f.id) (notStall : JXK_VC.STALL.id ≠ f.id) :
    (s.creditless p).rd f i = s.rd f i :=
  State.rd_foldl _ f i (fun s v => by rw [State.rd_wr_ne _ _ _ _ _ _ notStall, State.rd_wr_ne _ _ _ _ _ _ notAvail]) _ s

theorem State.rd_creditless_avail (v : Nat) (hv : v < 64) : (s.creditless p).rd JXK_VC.AVAIL (p * 64 + v) = 0 := by
  have fold := foldl_pointwise (fun s v => State.rd s JXK_VC.AVAIL (p * 64 + v))
    (fun s v => (s.wr JXK_VC.AVAIL 0 (p * 64 + v)).wr JXK_VC.STALL 0 (p * 64 + v)) (fun _ _ => 0) (fun _ => True)
    (fun s v _ => by rw [State.rd_wr_ne _ _ _ _ _ _ (by decide), State.rd_wr_same, Nat.zero_mod])
    (fun s v j _ _ ne => by rw [State.rd_wr_ne _ _ _ _ _ _ (by decide), State.rd_wr_idx _ _ _ _ _ (by omega)])
    (List.range 64) List.nodup_range (fun _ _ => trivial) s v trivial
  rwa [if_pos (List.mem_range.2 hv)] at fold

/-- The emptied buffers show in the replay registers only (R145). -/
theorem State.rd_resetSeq_counts (f : Field) (i : Nat) (notUnacked : JXK_RBUF.UNACKED.id ≠ f.id) (notRetained : JXK_RBUF.RETAINED.id ≠ f.id) :
    (s.resetSeq p).rd f i = ((s.renumbered p).creditless p).rd f i := by
  unfold State.resetSeq State.countRbuf
  dsimp only
  rw [State.rd_wr_ne _ _ _ _ _ _ notRetained, State.rd_wr_ne _ _ _ _ _ _ notUnacked, State.rd_modLk]
  rfl

theorem State.rd_resetSeq_avail (v : Nat) (hv : v < 64) : (s.resetSeq p).rd JXK_VC.AVAIL (p * 64 + v) = 0 := by
  rw [s.rd_resetSeq_counts p _ _ (by decide) (by decide), State.rd_creditless_avail _ _ _ hv]

theorem State.rd_resetSeq_number (f : Field) (i : Nat) (notUnacked : JXK_RBUF.UNACKED.id ≠ f.id) (notRetained : JXK_RBUF.RETAINED.id ≠ f.id)
    (notAvail : JXK_VC.AVAIL.id ≠ f.id) (notStall : JXK_VC.STALL.id ≠ f.id) : (s.resetSeq p).rd f i = (s.renumbered p).rd f i := by
  rw [s.rd_resetSeq_counts p _ _ notUnacked notRetained, State.rd_creditless_ne _ _ _ _ notAvail notStall]

theorem State.rd_resetSeq_expected : (s.resetSeq p).rd JXK_RXSEQ.EXPECTED p = 0 := by
  rw [s.rd_resetSeq_number p _ _ (by decide) (by decide) (by decide) (by decide)]
  simp (disch := decide) only [State.renumbered, State.setExpected, State.rd_wr_ne, State.rd_wr_same, Nat.zero_mod]

theorem State.rd_resetSeq_ackTx : (s.resetSeq p).rd JXK_RXSEQ.ACK_TX p = 0xFFE := by
  rw [s.rd_resetSeq_number p _ _ (by decide) (by decide) (by decide) (by decide)]
  simp (disch := decide) only [State.renumbered, State.setExpected, State.rd_wr_ne, State.rd_wr_same]
  rfl

theorem State.rd_resetSeq_acked : (s.resetSeq p).rd JXK_TXSEQ.ACKED p = 0xFFE := by
  rw [s.rd_resetSeq_number p _ _ (by decide) (by decide) (by decide) (by decide)]
  simp (disch := decide) only [State.renumbered, State.rd_wr_ne, State.rd_wr_same]
  rfl

theorem State.rd_resetSeq_newest : (s.resetSeq p).rd JXK_TXSEQ.NEWEST p = 0xFFE := by
  rw [s.rd_resetSeq_number p _ _ (by decide) (by decide) (by decide) (by decide)]
  simp (disch := decide) only [State.renumbered, State.rd_wr_ne, State.rd_wr_same]
  rfl

theorem State.news_creditless : (s.creditless p).news = s.news := by
  unfold State.creditless
  exact foldl_keeps State.news _ (fun s v => by rw [State.news_wr, State.news_wr]) _ s

@[simp] theorem State.news_resetSeq : (s.resetSeq p).news = s.news := by
  unfold State.resetSeq State.countRbuf
  dsimp only
  rw [State.news_wr, State.news_wr, State.news_modLk]
  exact State.news_creditless (s.renumbered p) p

@[simp] theorem State.lk_countRbuf (q : Nat) : (s.countRbuf p).lk q = s.lk q := rfl

/-- A link without flits: none buffered, staged, waiting or in a group, none counted as sent or freed (R167). -/
structure Link.Emptied (l : Link) : Prop where
  rbuf : l.rbuf = []
  rxStage : l.rxStage = []
  openq : l.openq = []
  sent : l.sent = []
  freed : l.freed = []
  groupsRx : l.groupsRx = []

theorem State.emptied_resetSeq : ((s.resetSeq p).lk p).Emptied := by
  unfold State.resetSeq
  extract_lets
  rw [State.lk_countRbuf, State.lk_modLk_same]
  exact ⟨rfl, rfl, rfl, rfl, rfl, rfl⟩

end Numbering

section Bootstrap

variable (s : State) (p : Nat)

/-- A link without a pending shift or a substitution, on the bootstrap schedule (R51, R54, R167). -/
def State.bootstrapped : State :=
  ((((s.clearPending p).flushLanes p).modPlan p (fun a => { a with
    syncFails := 0, provisional := false, oldPlan := none, rxBoot := true, rxPlan := 0, waitZone := false, bootReq := false })).wr
    PLN_LSTAT.BOOT 1 p).wr PLN_LSTAT.PLAN 0 p

/-- The fields that `bootstrapped` may change. -/
def bootFields : List (Fin 1024) := PLN_LSTAT.PEND.id :: PLN_LSTAT.BOOT.id :: PLN_LSTAT.PLAN.id :: JXP_STATUS.PENDING.id :: laneFields

/-- The FAILING lanes of a link that leaves ACTIVE are excluded (R120). -/
def State.failingExcluded : State := (List.range 10).foldl (fun s k => if s.laneSt p k = LaneSt.FAILING then s.exclude p k else s) s

theorem State.rd_failingExcluded (f : Field) (i : Nat) (notShown : f.id ∉ laneFields) : (s.failingExcluded p).rd f i = s.rd f i := by
  refine State.rd_foldl _ f i (fun s k => ?_) _ s
  split
  · exact State.rd_setLane _ _ _ _ _ _ notShown
  · rfl

theorem State.rest_failingExcluded : (s.failingExcluded p).rest = s.rest := by
  refine foldl_keeps State.rest _ (fun s k => ?_) _ s
  split <;> rfl

theorem State.news_failingExcluded : (s.failingExcluded p).news = s.news := by
  refine foldl_keeps State.news _ (fun s k => ?_) _ s
  split <;> rfl

theorem State.rd_flushLanes (f : Field) (i : Nat) (notShown : f.id ∉ laneFields) (notPending : JXP_STATUS.PENDING.id ≠ f.id) :
    (s.flushLanes p).rd f i = s.rd f i :=
  (State.rd_wr_ne _ _ _ _ _ _ notPending).trans (s.rd_failingExcluded p f i notShown)

theorem State.lk_flushLanes_same :
    (s.flushLanes p).lk p = { s.lk p with lane := { (s.lk p).lane with substRx := [], substTx := [], subFails := [], waiting := [] } } := by
  rw [← State.lk_of_rest (s.rest_failingExcluded p) p]
  exact State.lk_modLane_same (s.failingExcluded p) p (fun a => { a with substRx := [], substTx := [], subFails := [], waiting := [] })

theorem State.rd_bootstrapped (f : Field) (i : Nat) (other : f.id ∉ bootFields) : (s.bootstrapped p).rd f i = s.rd f i := by
  simp only [bootFields, List.mem_cons, not_or] at other
  obtain ⟨notPend, notBoot, notPlan, notPending, notShown⟩ := other
  unfold State.bootstrapped
  rw [State.rd_wr_ne _ _ _ _ _ _ (Ne.symm notPlan), State.rd_wr_ne _ _ _ _ _ _ (Ne.symm notBoot), State.rd_modPlan,
    State.rd_flushLanes _ _ _ _ notShown (Ne.symm notPending), State.rd_clearPending_ne _ _ _ _ (Ne.symm notPend)]

theorem State.rd_bootstrapped_pend : (s.bootstrapped p).rd PLN_LSTAT.PEND p = 0 := by
  unfold State.bootstrapped
  rw [State.rd_wr_ne _ _ _ _ _ _ (by decide), State.rd_wr_ne _ _ _ _ _ _ (by decide), State.rd_modPlan,
    State.rd_flushLanes _ _ _ _ (by decide) (by decide), State.rd_clearPending_pend]

theorem State.rd_bootstrapped_boot : (s.bootstrapped p).rd PLN_LSTAT.BOOT p = 1 := by
  unfold State.bootstrapped
  rw [State.rd_wr_ne _ _ _ _ _ _ (by decide), State.rd_wr_same]
  rfl

@[simp] theorem State.news_modPlan (g : PlanLink → PlanLink) : (s.modPlan p g).news = s.news := rfl
@[simp] theorem State.news_clearPending : (s.clearPending p).news = s.news := rfl
@[simp] theorem State.news_flushLanes : (s.flushLanes p).news = s.news := s.news_failingExcluded p

@[simp] theorem State.news_bootstrapped : (s.bootstrapped p).news = s.news := by
  unfold State.bootstrapped
  rw [State.news_wr, State.news_wr, State.news_modPlan, State.news_flushLanes, State.news_clearPending]

/-- Of the link itself only its plan state and its lane state change. -/
theorem State.lk_bootstrapped_same : (s.bootstrapped p).lk p =
    { s.lk p with
      plan := ((s.bootstrapped p).lk p).plan
      lane := { (s.lk p).lane with substRx := [], substTx := [], subFails := [], waiting := [] } } := by
  unfold State.bootstrapped State.clearPending
  simp only [State.lk_wr, State.lk_modPlan_same, State.lk_flushLanes_same]

end Bootstrap

section Departure

variable (s : State) (p : Nat)

/-- A Horizon scan of a link that leaves ACTIVE ends without a result (R113). -/
def State.stopScan : State :=
  if s.on JXP_HZSTAT.RUN p then ((s.wr JXP_HZSTAT.RUN 0 p).wr JXP_HZSTAT.EW 0 p).wr JXP_HZSTAT.EH 0 p else s

theorem State.rd_stopScan (f : Field) (i : Nat) (notRun : JXP_HZSTAT.RUN.id ≠ f.id) (notEw : JXP_HZSTAT.EW.id ≠ f.id)
    (notEh : JXP_HZSTAT.EH.id ≠ f.id) : (s.stopScan p).rd f i = s.rd f i := by
  unfold State.stopScan
  split
  · rw [State.rd_wr_ne _ _ _ _ _ _ notEh, State.rd_wr_ne _ _ _ _ _ _ notEw, State.rd_wr_ne _ _ _ _ _ _ notRun]
  · rfl

@[simp] theorem State.lk_stopScan (q : Nat) : (s.stopScan p).lk q = s.lk q := by
  unfold State.stopScan
  split <;> rfl

@[simp] theorem State.news_stopScan : (s.stopScan p).news = s.news := by
  unfold State.stopScan
  split <;> rfl

/-- A flushed link without an epoch, a key generation or protection, its attempt to come empty (R166, R167). -/
def State.epochOver : State :=
  let e := s.rd JXK_STATUS.EPOCH p
  ((((s.freshAttempt p true).modLk p (fun l => { l with prevEpoch := e })).wr JXK_STATUS.EPOCH 0 p).wr JXK_STATUS.KEYGEN 0 p).wr
    JXK_STATUS.PROT_ON 0 p

@[simp] theorem State.news_epochOver : (s.epochOver p).news = s.news := by
  unfold State.epochOver
  dsimp only
  rw [State.news_wr, State.news_wr, State.news_wr, State.news_modLk, State.news_freshAttempt]

/-- A flushed link in the state it leaves for, its event raised and the other blocks told. -/
def State.linkGone (dest cause : Nat) : State :=
  ((((s.epochOver p).setLinkSt p dest).raise (Ev.JXK_DOWN p) cause).stopScan p).onLinkDown p

theorem State.leaveActive_eq (dest cause : Nat) :
    s.leaveActive p dest cause = (((s.flushDiscarded p).resetSeq p).bootstrapped p).linkGone p dest cause := rfl

/-- The fields that `linkGone` may change. -/
def linkGoneFields : List (Fin 1024) :=
  [JXK_STATUS.EPOCH.id, JXK_STATUS.KEYGEN.id, JXK_STATUS.PROT_ON.id, JXK_STATUS.STATE.id, PLN_LSTAT.ACTIVE.id, JXP_HZSTAT.RUN.id,
   JXP_HZSTAT.EW.id, JXP_HZSTAT.EH.id] ++ eventFields

theorem State.rd_linkGone_epochOver (dest cause : Nat) (f : Field) (i : Nat) (notState : JXK_STATUS.STATE.id ≠ f.id)
    (notActive : PLN_LSTAT.ACTIVE.id ≠ f.id) (notRun : JXP_HZSTAT.RUN.id ≠ f.id) (notEw : JXP_HZSTAT.EW.id ≠ f.id)
    (notEh : JXP_HZSTAT.EH.id ≠ f.id) (notEvent : f.id ∉ eventFields) : (s.linkGone p dest cause).rd f i = (s.epochOver p).rd f i := by
  show ((((s.epochOver p).setLinkSt p dest).raise (Ev.JXK_DOWN p) cause).stopScan p).rd f i = _
  rw [State.rd_stopScan _ _ _ _ notRun notEw notEh, State.rd_raise _ _ _ _ _ notEvent, State.rd_setLinkSt _ _ _ _ _ notState notActive]

theorem State.rd_linkGone (dest cause : Nat) (f : Field) (i : Nat) (other : f.id ∉ linkGoneFields) : (s.linkGone p dest cause).rd f i = s.rd f i := by
  simp only [linkGoneFields, List.mem_append, List.mem_cons, List.not_mem_nil, or_false, not_or] at other
  obtain ⟨⟨notEpoch, notKey, notProt, notState, notActive, notRun, notEw, notEh⟩, notEvent⟩ := other
  rw [s.rd_linkGone_epochOver p _ _ _ _ (Ne.symm notState) (Ne.symm notActive) (Ne.symm notRun) (Ne.symm notEw) (Ne.symm notEh) notEvent]
  unfold State.epochOver
  dsimp only
  rw [State.rd_wr_ne _ _ _ _ _ _ (Ne.symm notProt), State.rd_wr_ne _ _ _ _ _ _ (Ne.symm notKey), State.rd_wr_ne _ _ _ _ _ _ (Ne.symm notEpoch),
    State.rd_modLk, State.rd_freshAttempt]

theorem State.rd_linkGone_epoch (dest cause : Nat) : (s.linkGone p dest cause).rd JXK_STATUS.EPOCH p = 0 := by
  rw [s.rd_linkGone_epochOver p _ _ _ _ (by decide) (by decide) (by decide) (by decide) (by decide) (by decide)]
  simp (disch := decide) only [State.epochOver, State.rd_wr_ne, State.rd_wr_same, Nat.zero_mod]

theorem State.rd_linkGone_keygen (dest cause : Nat) : (s.linkGone p dest cause).rd JXK_STATUS.KEYGEN p = 0 := by
  rw [s.rd_linkGone_epochOver p _ _ _ _ (by decide) (by decide) (by decide) (by decide) (by decide) (by decide)]
  simp (disch := decide) only [State.epochOver, State.rd_wr_ne, State.rd_wr_same, Nat.zero_mod]

/-- A source that has just been raised reads as raised, whether or not it did before (R442). -/
theorem State.on_raise_status (id cap : Nat) : (s.raise id cap).on EVU_SRC.STATUS id = true := by
  rcases s.raise_status id cap with before | now
  · have before' : s.drew.on EVU_SRC.STATUS id = true := before
    have kept : (s.raise id cap).rd EVU_SRC.STATUS id = s.rd EVU_SRC.STATUS id := by
      unfold State.raise
      dsimp only
      rw [if_pos before']
      split
      · rw [State.rd_fatal _ _ _ _ _ (by decide) (by decide), State.rd_bump_ne _ _ _ _ _ _ (by decide), State.rd_drew]
      · rw [State.rd_bump_ne _ _ _ _ _ _ (by decide), State.rd_drew]
    exact (congrArg (· != 0) kept).trans before
  · exact congrArg (· != 0) now

theorem State.on_linkGone_down (dest cause : Nat) : (s.linkGone p dest cause).on EVU_SRC.STATUS (Ev.JXK_DOWN p) = true :=
  (congrArg (· != 0) (State.rd_stopScan _ p EVU_SRC.STATUS _ (by decide) (by decide) (by decide))).trans (State.on_raise_status ..)

theorem State.lk_linkGone_same (dest cause : Nat) :
    (s.linkGone p dest cause).lk p = { (s.freshAttempt p true).lk p with prevEpoch := s.rd JXK_STATUS.EPOCH p } := by
  show ((((s.epochOver p).setLinkSt p dest).raise (Ev.JXK_DOWN p) cause).stopScan p).lk p = _
  rw [State.lk_stopScan, State.lk_raise]
  unfold State.setLinkSt State.setBit State.epochOver
  simp only [State.lk_wr, State.lk_modLk_same]

theorem State.news_linkGone (dest cause : Nat) : (s.linkGone p dest cause).news = s.news ++ [(0, p)] := by
  unfold State.linkGone State.onLinkDown
  rw [State.news_tell, State.news_stopScan, State.news_raise, State.news_setLinkSt, State.news_epochOver]

end Departure

section LeaveActive

variable (s : State) (p dest cause : Nat)

/-- What the numbering shows is what a link that leaves ACTIVE shows, but for its plan, its lanes and its state. -/
theorem State.rd_leaveActive (f : Field) (i : Nat) (notBoot : f.id ∉ bootFields) (notGone : f.id ∉ linkGoneFields) :
    (s.leaveActive p dest cause).rd f i = ((s.flushDiscarded p).resetSeq p).rd f i := by
  rw [State.leaveActive_eq, State.rd_linkGone _ _ _ _ _ _ notGone, State.rd_bootstrapped _ _ _ _ notBoot]

theorem State.rd_leaveActive_flushed : (s.leaveActive p dest cause).rd JXK_FLUSHED.COUNT p =
    satAdd JXK_FLUSHED.COUNT.width (s.rd JXK_FLUSHED.COUNT p) (s.flushCount p) := by
  rw [s.rd_leaveActive p dest cause _ _ (by decide) (by decide), State.rd_resetSeq _ _ _ _ (by decide), s.rd_flushDiscarded_flushed p]

theorem State.rd_leaveActive_pend : (s.leaveActive p dest cause).rd PLN_LSTAT.PEND p = 0 := by
  rw [State.leaveActive_eq, State.rd_linkGone _ _ _ _ _ _ (by decide), State.rd_bootstrapped_pend]

theorem State.rd_leaveActive_boot : (s.leaveActive p dest cause).rd PLN_LSTAT.BOOT p = 1 := by
  rw [State.leaveActive_eq, State.rd_linkGone _ _ _ _ _ _ (by decide), State.rd_bootstrapped_boot]

/-- No step of the flush changes the epoch. -/
theorem State.rd_bootstrapped_epoch :
    (((s.flushDiscarded p).resetSeq p).bootstrapped p).rd JXK_STATUS.EPOCH p = s.rd JXK_STATUS.EPOCH p := by
  rw [State.rd_bootstrapped _ _ _ _ (by decide), State.rd_resetSeq _ _ _ _ (by decide), State.rd_flushDiscarded _ _ _ _ (by decide),
    State.rd_bump_ne _ _ _ _ _ _ (by decide)]

theorem State.prevEpoch_leaveActive : ((s.leaveActive p dest cause).lk p).prevEpoch = s.rd JXK_STATUS.EPOCH p := by
  rw [State.leaveActive_eq, State.lk_linkGone_same, s.rd_bootstrapped_epoch p]

theorem State.emptied_leaveActive : ((s.leaveActive p dest cause).lk p).Emptied := by
  have empty := (s.flushDiscarded p).emptied_resetSeq p
  rw [State.leaveActive_eq, State.lk_linkGone_same, State.freshAttempt, State.lk_modLk_same, State.lk_bootstrapped_same]
  exact ⟨empty.rbuf, empty.rxStage, empty.openq, empty.sent, empty.freed, empty.groupsRx⟩

theorem State.substRx_leaveActive : ((s.leaveActive p dest cause).lk p).lane.substRx = [] := by
  rw [State.leaveActive_eq, State.lk_linkGone_same, State.freshAttempt, State.lk_modLk_same, State.lk_bootstrapped_same]

theorem State.news_leaveActive : (s.leaveActive p dest cause).news = s.news ++ [(0, p)] := by
  rw [State.leaveActive_eq, State.news_linkGone, State.news_bootstrapped, State.news_resetSeq, State.flushDiscarded, State.news_dropStagedFrom,
    State.news_dropTxq]
  rfl

end LeaveActive

section LinkCommands

/-- STATE is answered before BUSY (R10). -/
theorem firstStatus_state_busy (busy : Bool) : firstStatus [(St.STATE, true), (St.BUSY, busy)] = St.STATE := by
  cases busy <;> rfl

theorem exec_retrain (s : State) (p : Fin 4) (h : s.serves (Reg.JXK_CMD.addr p.val 0) true) :
    exec (.retrain p) s = .next (s.calm.retrainCmd p.val).settled :=
  congrArg (fun u : State => Host.Outcome.next u.settled) (State.access_serves s.calm _ true _ h)

theorem exec_peerLoss (s : State) (p : Fin 4) : exec (.peerLoss p) s = .next (s.calm.peerLoss p.val).settled := rfl
theorem exec_creditTimeout (s : State) (p : Fin 4) (v : Fin 64) :
    exec (.creditTimeout p v) s = .next (s.calm.creditTimeout p.val v.val).settled := rfl
theorem exec_replayTimeout (s : State) (p : Fin 4) : exec (.replayTimeout p) s = .next (s.calm.replayTimeout p.val).settled := rfl

variable (s : State) (p : Nat)

/-- An expiry of the replay timer without progress, on record (R147). -/
def State.replayExpired : State := (s.bump JXK_REPLAYS.COUNT p).bump JXK_TXSEQ.EXPIRIES p

theorem State.retrainCmd_down (down : s.linkActive p = false) : s.retrainCmd p = s.answer St.STATE := by
  have status : firstStatus (s.jxkCmdChecks p) = St.STATE := by
    unfold State.jxkCmdChecks
    rw [down]
    exact firstStatus_state_busy _
  unfold State.retrainCmd
  rw [State.checked_fail _ _ _ (by rw [status]; decide), status]

variable (active : s.linkActive p = true)
include active

theorem State.retrainCmd_busy (renewing : (s.lk p).rekey.isSome = true) : s.retrainCmd p = s.answer St.BUSY := by
  have status : firstStatus (s.jxkCmdChecks p) = St.BUSY := by
    unfold State.jxkCmdChecks
    rw [active, renewing]
    rfl
  unfold State.retrainCmd
  rw [State.checked_fail _ _ _ (by rw [status]; decide), status]

theorem State.retrainCmd_free (free : (s.lk p).rekey = none) : s.retrainCmd p = (s.recover p).answer St.OK :=
  State.checked_ok _ _ _ (by simp [State.jxkCmdChecks, active, free])

theorem State.linkSt_of_active : s.linkSt p = LinkSt.ACTIVE := eq_of_beq active

theorem State.peerLoss_active :
    s.peerLoss p = (s.leaveActive p LinkSt.DETECT downPeerLoss).modLk p (fun l => { l with attempt := false }) := if_pos active

/-- ACTIVE is no training state, so no limit runs (R163). -/
theorem State.trainingTimeout_active : s.trainingTimeout p = s := by
  unfold State.trainingTimeout
  rw [s.linkSt_of_active p active]
  exact if_neg (by simp [LinkSt.ACTIVE, LinkSt.AUTH, LinkSt.DETECT])

theorem State.recoverEnd_active : s.recoverEnd p = s := by
  refine if_neg ?_
  rw [s.linkSt_of_active p active]
  decide

/-- A VC that has waited `CTO` for a credit takes the link down (R150). -/
theorem State.creditTimeout_stalled (v : Nat) (noSync : s.on JXK_STATUS.CMODE p = false) (stalled : s.on JXK_VC.STALL (p * 64 + v) = true) :
    s.creditTimeout p v = ((s.bump JXK_CTOCNT.COUNT p).raise (Ev.JXK_CREDIT_TIMEOUT p) v).recover p := if_pos ⟨active, noSync, stalled⟩

/-- An expiry without progress starts a replay, or is the last one allowed (R146, R147). -/
theorem State.replayTimeout_stuck (items : s.replayList p ≠ []) (stuck : (s.lk p).ackMoved = false) :
    s.replayTimeout p =
      if s.rd JXK_CTRL.REPLAY_LIM p ≤ (s.replayExpired p).rd JXK_TXSEQ.EXPIRIES p then ((s.replayExpired p).raise (Ev.JXK_REPLAY_LIM p)).recover p
      else ((s.replayExpired p).modLk p (fun l => { l with resend := s.replayList p })).wr JXK_STATUS.REPLAYING 1 p := by
  have limit : (s.replayExpired p).rd JXK_CTRL.REPLAY_LIM p = s.rd JXK_CTRL.REPLAY_LIM p :=
    (State.rd_bump_ne _ _ _ _ _ _ (by decide)).trans (State.rd_bump_ne _ _ _ _ _ _ (by decide))
  have counted : ((s.bump JXK_REPLAYS.COUNT p).lk p).ackMoved = false := stuck
  unfold State.replayTimeout
  dsimp only
  rw [if_neg (by simp [active, items]), counted, if_neg Bool.false_ne_true, ← limit]
  rfl

end LinkCommands

section TrainingEnds

variable (s : State) (p : Nat)

theorem State.peerTraining_detect (detect : s.linkSt p = LinkSt.DETECT) (ready : s.on JXK_STATUS.BACKOFF p = false) :
    s.peerTraining p = s.modLk p (fun l => { l with attempt := true }) := by
  have down : s.linkActive p = false := congrArg (· == 6) detect
  unfold State.peerTraining
  rw [if_neg (by simp [down]), if_pos ⟨detect, ready⟩]

theorem State.trainingTimeout_late (low : LinkSt.EQUALIZE ≤ s.linkSt p) (high : s.linkSt p ≤ LinkSt.AUTH) :
    s.trainingTimeout p = s.trainFail p St.TIMEOUT := if_pos (.inl ⟨low, high⟩)

theorem State.rd_releaseScan (f : Field) (i : Nat) (notRun : JXP_HZSTAT.RUN.id ≠ f.id) : (s.releaseScan p).rd f i = s.rd f i := by
  unfold State.releaseScan
  split
  · exact State.rd_wr_ne _ _ _ _ _ _ notRun
  · rfl

/-- The state and the status of a failed attempt, on record (R165). -/
def State.failNoted (status : Nat) : State := (s.wr JXK_TRFAIL.STATE (s.linkSt p) p).wr JXK_TRFAIL.STATUS status p

/-- The fields that a failed attempt changes beside its record. -/
def failFields : List (Fin 1024) :=
  [JXK_TRFAIL.FAILS.id, JXP_HZSTAT.RUN.id, JXK_STATUS.STATE.id, PLN_LSTAT.ACTIVE.id, JXK_STATUS.BACKOFF.id] ++ eventFields

theorem State.rd_trainFail (status : Nat) (f : Field) (i : Nat) (other : f.id ∉ failFields) :
    (s.trainFail p status).rd f i = (s.failNoted p status).rd f i := by
  simp only [failFields, List.mem_append, List.mem_cons, List.not_mem_nil, or_false, not_or] at other
  obtain ⟨⟨notFails, notRun, notState, notActive, notBackoff⟩, notEvent⟩ := other
  unfold State.trainFail
  dsimp only
  rw [State.rd_wr_ne _ _ _ _ _ _ (Ne.symm notBackoff), State.rd_setLinkSt _ _ _ _ _ (Ne.symm notState) (Ne.symm notActive),
    State.rd_releaseScan _ _ _ _ (Ne.symm notRun), State.rd_freshAttempt, State.rd_raise _ _ _ _ _ notEvent,
    State.rd_bump_ne _ _ _ _ _ _ (Ne.symm notFails)]
  rfl

theorem State.rd_trainFail_state (status : Nat) : (s.trainFail p status).rd JXK_TRFAIL.STATE p = s.linkSt p % 8 := by
  rw [s.rd_trainFail p status _ _ (by decide), State.failNoted, State.rd_wr_ne _ _ _ _ _ _ (by decide), State.rd_wr_same]
  rfl

theorem State.rd_trainFail_status (status : Nat) : (s.trainFail p status).rd JXK_TRFAIL.STATUS p = status % 256 := by
  rw [s.rd_trainFail p status _ _ (by decide), State.failNoted, State.rd_wr_same]
  rfl

theorem State.linkSt_trainFail (status : Nat) : (s.trainFail p status).linkSt p = LinkSt.DETECT := by
  unfold State.trainFail
  rw [State.linkSt_wr_ne _ _ _ _ _ (by decide), State.linkSt_setLinkSt_same]
  rfl

theorem State.rd_trainFail_backoff (status : Nat) : (s.trainFail p status).rd JXK_STATUS.BACKOFF p = 1 := State.rd_wr_same ..

end TrainingEnds

/-- Settles O18: the flush field by field, then one lemma for each cause of leaving ACTIVE and each end of an attempt. -/
theorem leavingActive : Obligations.LeavingActive := by
  refine ⟨?leave, fun s p h => ⟨?down, ?busy, ?free⟩, fun s p active => ⟨?training, ?loss, ?noLimit, ?noEnd⟩, ?detect, ?timeout, ?ends, ?credit,
    ?replay⟩
  case leave =>
    intro s p dest cause hdest u
    have shown (f : Field) (i : Nat) (notBoot : f.id ∉ bootFields) (notGone : f.id ∉ linkGoneFields) :=
      s.rd_leaveActive p dest cause f i notBoot notGone
    have empty := s.emptied_leaveActive p dest cause
    refine ⟨?state, ?expected, ?ackTx, ?acked, ?newest, fun v hv => ?credits, s.rd_leaveActive_pend p dest cause,
      s.rd_leaveActive_boot p dest cause, State.rd_linkGone_epoch .., State.rd_linkGone_keygen .., s.rd_leaveActive_flushed p dest cause,
      empty.rbuf, empty.rxStage, empty.openq, empty.sent, empty.freed, empty.groupsRx, s.substRx_leaveActive p dest cause,
      s.prevEpoch_leaveActive p dest cause, State.on_linkGone_down .., s.news_leaveActive p dest cause⟩
    case state => exact (s.rd_leaveActive_state p dest cause).trans (Nat.mod_eq_of_lt hdest)
    case expected => exact (shown _ _ (by decide) (by decide)).trans (State.rd_resetSeq_expected ..)
    case ackTx => exact (shown _ _ (by decide) (by decide)).trans (State.rd_resetSeq_ackTx ..)
    case acked => exact (shown _ _ (by decide) (by decide)).trans (State.rd_resetSeq_acked ..)
    case newest => exact (shown _ _ (by decide) (by decide)).trans (State.rd_resetSeq_newest ..)
    case credits => exact (shown _ _ (by decide) (by decide)).trans (State.rd_resetSeq_avail _ _ v hv)
  case down =>
    intro down
    rw [exec_retrain s p h, s.calm.retrainCmd_down p down, State.settled_of_quiet _ rfl]
  case busy =>
    intro active renewing
    rw [exec_retrain s p h, s.calm.retrainCmd_busy p active renewing, State.settled_of_quiet _ rfl]
  case free =>
    intro active free
    rw [exec_retrain s p h, s.calm.retrainCmd_free p active free, s.calm.recover_active p active]
  case training => exact congrArg (fun u : State => Host.Outcome.next u.settled) ((if_pos active).trans (s.calm.recover_active p active))
  case loss => rw [exec_peerLoss, s.calm.peerLoss_active p active]
  case noLimit => exact congrArg Host.Outcome.next (s.trainingTimeout_active p active)
  case noEnd => exact congrArg Host.Outcome.next (s.recoverEnd_active p active)
  case detect =>
    intro s p detect ready
    exact congrArg Host.Outcome.next (s.settling_of_quiet _ (s.calm.peerTraining_detect p detect ready) rfl)
  case timeout =>
    intro s p low high
    have small : s.linkSt p < 8 := Nat.lt_of_le_of_lt high (by decide)
    exact ⟨congrArg Host.Outcome.next (s.trainingTimeout_late p low high), (s.rd_trainFail_state p St.TIMEOUT).trans (Nat.mod_eq_of_lt small),
      s.rd_trainFail_status p St.TIMEOUT, s.linkSt_trainFail p St.TIMEOUT, s.rd_trainFail_backoff p St.TIMEOUT⟩
  case ends => exact fun s p => ⟨rfl, fun recover => congrArg Host.Outcome.next (if_pos recover)⟩
  case credit =>
    intro s p v active noSync stalled
    rw [exec_creditTimeout, s.calm.creditTimeout_stalled p active v noSync stalled]
  case replay =>
    intro s p active items stuck u
    have act := s.calm.replayTimeout_stuck p active items stuck
    refine ⟨fun below => ?again, fun last => ?recover⟩
    case again =>
      rw [exec_replayTimeout, act.trans (if_neg (Nat.not_le.2 below))]
      exact congrArg Host.Outcome.next (State.settled_of_quiet _ rfl)
    case recover =>
      rw [exec_replayTimeout, act.trans (if_pos last)]
      rfl

end Sys2Proof.Machine

/-! The PLLs and adaptive voltage (R163, R393, R394): one lemma for each way a loss of clock, a relock or a loss of lock can end, the bounds of
one voltage step, and what an update does. -/

namespace Sys2Proof.Machine

section Clocks

variable (s : State)

/-- The root runs on its own clock, so it neither loses nor follows an upstream one (R393). -/
theorem exec_pllHoldover_root (root : s.isRoot = true) : exec .pllHoldover s = .next s := congrArg Host.Outcome.next (if_pos (.inl root))
theorem exec_pllRelock_root (root : s.isRoot = true) : exec .pllRelock s = .next s := congrArg Host.Outcome.next (if_pos root)

/-- A second loss of the clock is no news (R393). -/
theorem exec_pllHoldover_held (held : s.on CPM_PLLSTAT.HOLDOVER = true) : exec .pllHoldover s = .next s :=
  congrArg Host.Outcome.next (if_pos (.inr (.inr held)))

variable (node : s.isRoot = false)
include node

theorem exec_pllHoldover_lost (upstream : s.on CPM_PLLSTAT.ROOTSRC = true) (running : s.on CPM_PLLSTAT.HOLDOVER = false) :
    exec .pllHoldover s = .next ((s.wr CPM_PLLSTAT.HOLDOVER 1).raise 0x3F5) :=
  congrArg Host.Outcome.next (if_neg (by simp [node, upstream, running]))

theorem exec_pllRelock_node :
    exec .pllRelock s = .next (((s.wr CPM_PLLSTAT.HOLDOVER 0).wr CPM_PLLSTAT.ROOTSRC 1).wrBit CPM_PLLSTAT.LOCK 0 true) :=
  congrArg Host.Outcome.next (if_neg (by simp [node]))

end Clocks

section PllLocks

variable (s : State) (k : Fin 5)

theorem exec_pllUnlock_locked (locked : bitAt (s.rd CPM_PLLSTAT.LOCK) k.val = true) :
    exec (.pllUnlock k) s = .next ((s.wrBit CPM_PLLSTAT.LOCK k.val false).raise 0x3F4 k.val) := congrArg Host.Outcome.next (if_pos locked)

theorem exec_pllUnlock_unlocked (unlocked : bitAt (s.rd CPM_PLLSTAT.LOCK) k.val = false) : exec (.pllUnlock k) s = .next s :=
  congrArg Host.Outcome.next (if_neg (by simp [unlocked]))

end PllLocks

section VoltageStep

/-- A target kept within the bounds of `AVS_MIN` and `AVS_MAX` (R394). -/
def avsHeld (target lo hi : Nat) : Nat := if target < lo then lo else if hi < target then hi else target

theorem avsHeld_inside {target lo hi : Nat} (low : lo ≤ target) (high : target ≤ hi) : avsHeld target lo hi = target := by
  unfold avsHeld
  rw [if_neg (Nat.not_lt.2 low), if_neg (Nat.not_lt.2 high)]

theorem avsHeld_below {target lo : Nat} (below : target < lo) (hi : Nat) : avsHeld target lo hi = lo := if_pos below

theorem avsHeld_above {target lo hi : Nat} (low : lo ≤ target) (above : hi < target) : avsHeld target lo hi = hi := by
  unfold avsHeld
  rw [if_neg (Nat.not_lt.2 low), if_pos above]

/-- A step goes all the way to the target it is held to, or two units towards it. -/
theorem avsStep_up {now target lo hi : Nat} (up : now ≤ avsHeld target lo hi) :
    avsStep now target lo hi = min (avsHeld target lo hi) (now + 2) := by
  show (if now < avsHeld target lo hi then min (avsHeld target lo hi) (now + 2) else max (avsHeld target lo hi) (now - 2)) = _
  split <;> omega

theorem avsStep_down {now target lo hi : Nat} (down : avsHeld target lo hi ≤ now) :
    avsStep now target lo hi = max (avsHeld target lo hi) (now - 2) := if_neg (Nat.not_lt.2 down)

theorem avsStep_bounds (now target lo hi : Nat) : avsStep now target lo hi ≤ now + 2 ∧ now ≤ avsStep now target lo hi + 2 := by
  rcases Nat.le_total now (avsHeld target lo hi) with up | down
  · rw [avsStep_up up]
    omega
  · rw [avsStep_down down]
    omega

end VoltageStep

section VoltageUpdate

variable (s : State) (target : Nat)

/-- Before the boot lock the core voltage stays (R394). -/
theorem State.avsUpdate_unlocked (ack : Bool) (unlocked : s.on BOOT_STATUS.LOCK = false) : s.avsUpdate target ack = s := if_pos unlocked

variable (locked : s.on BOOT_STATUS.LOCK = true)
include locked

/-- An update after the boot lock: done already with AVS off, not acknowledged, or taken (R394). -/
theorem State.avsUpdate_locked (ack : Bool) :
    s.avsUpdate target ack =
      let v := if s.on CPM_AVS.AVS_EN then avsStep (s.rd CPM_AVS.AVS_NOW) target (s.rd CPM_AVS.AVS_MIN) (s.rd CPM_AVS.AVS_MAX)
        else s.rd CPM_AVS.AVS_FIX
      if s.on CPM_AVS.AVS_EN = false ∧ s.chip.avsFixed then s
      else if ack = false then (s.wr CPM_AVS.FAIL 1).raise 0x3F6
      else ((s.wr CPM_AVS.AVS_NOW v).modChip (fun c => { c with avsFixed := !s.on CPM_AVS.AVS_EN })).emit (.act "avsbus" [v]) :=
  if_neg (by simp [locked])

theorem State.avsUpdate_refused (adaptive : s.on CPM_AVS.AVS_EN = true) : s.avsUpdate target false = (s.wr CPM_AVS.FAIL 1).raise 0x3F6 := by
  rw [s.avsUpdate_locked target locked]
  dsimp only
  rw [if_neg (by simp [adaptive]), if_pos rfl]

theorem State.avsUpdate_adaptive (adaptive : s.on CPM_AVS.AVS_EN = true) :
    s.avsUpdate target true =
      let v := avsStep (s.rd CPM_AVS.AVS_NOW) target (s.rd CPM_AVS.AVS_MIN) (s.rd CPM_AVS.AVS_MAX)
      ((s.wr CPM_AVS.AVS_NOW v).modChip (fun c => { c with avsFixed := false })).emit (.act "avsbus" [v]) := by
  rw [s.avsUpdate_locked target locked]
  dsimp only
  rw [if_neg (by simp [adaptive]), if_neg (by decide), adaptive]
  rfl

theorem State.avsUpdate_done (off : s.on CPM_AVS.AVS_EN = false) (done : s.chip.avsFixed = true) : s.avsUpdate target true = s :=
  (s.avsUpdate_locked target locked true).trans (if_pos ⟨off, done⟩)

theorem State.avsUpdate_fixed (off : s.on CPM_AVS.AVS_EN = false) (undone : s.chip.avsFixed = false) :
    s.avsUpdate target true = ((s.wr CPM_AVS.AVS_NOW (s.rd CPM_AVS.AVS_FIX)).modChip (fun c => { c with avsFixed := true })).emit
      (.act "avsbus" [s.rd CPM_AVS.AVS_FIX]) := by
  rw [s.avsUpdate_locked target locked]
  dsimp only
  rw [if_neg (by simp [undone]), if_neg (by decide), off]
  rfl

end VoltageUpdate

/-- Settles O46: the upstream clock and the five locks event by event, then the voltage before the boot lock, with AVS on and with AVS off. -/
theorem clocksAndVoltage : Obligations.ClocksAndVoltage := by
  refine ⟨fun s => ⟨?root, exec_pllHoldover_lost s, exec_pllHoldover_held s, exec_pllRelock_node s⟩,
    fun s k => ⟨exec_pllUnlock_locked s k, exec_pllUnlock_unlocked s k⟩, ?unlocked, ?locked⟩
  case root => exact fun root => ⟨exec_pllHoldover_root s root, exec_pllRelock_root s root⟩
  case unlocked => exact fun s target ack unlocked => congrArg Host.Outcome.next (s.avsUpdate_unlocked target ack unlocked)
  case locked =>
    intro s target locked now lo hi v
    refine ⟨fun adaptive => ⟨congrArg Host.Outcome.next (s.avsUpdate_refused target locked adaptive),
      congrArg Host.Outcome.next (s.avsUpdate_adaptive target locked adaptive), (avsStep_bounds ..).1, (avsStep_bounds ..).2, ?up, ?down,
      ?below, ?above⟩, fun off done => congrArg Host.Outcome.next (s.avsUpdate_done target locked off done),
      fun off undone => congrArg Host.Outcome.next (s.avsUpdate_fixed target locked off undone)⟩
    case up =>
      intro low high up
      have held : avsHeld target.val lo hi = target.val := avsHeld_inside low high
      exact (avsStep_up (by rwa [held])).trans (by rw [held])
    case down =>
      intro low high down
      have held : avsHeld target.val lo hi = target.val := avsHeld_inside low high
      exact (avsStep_down (by rwa [held])).trans (by rw [held])
    case below =>
      intro below far
      have held : avsHeld target.val lo hi = lo := avsHeld_below below hi
      have down : avsHeld target.val lo hi ≤ now := by omega
      exact (avsStep_down down).trans (by omega)
    case above =>
      intro low above far
      have held : avsHeld target.val lo hi = hi := avsHeld_above low above
      have up : now ≤ avsHeld target.val lo hi := by omega
      exact (avsStep_up up).trans (by omega)

end Sys2Proof.Machine

/-! What a received flit does in ACTIVE (R135, R140 to R144), the two ends of a group's TAG (R155, R156), and the credits that CONTROL flits carry
(R150, R151). -/

namespace Sys2Proof.Machine

section FlitCheck

theorem exec_flitReceive (s : State) (p : Fin 4) (slot : Nat) (raw : List Byte) (hits : Nat) :
    exec (.flitReceive p slot raw hits) s = .next (s.settling (fun s => s.flitReceive p.val slot raw hits)) := rfl

variable (s : State) (p slot hits : Nat)

/-- In ACTIVE a flit in a slot of the link is judged by the epoch in force, then by the one before it (R140). -/
theorem State.flitReceive_active (raw : List Byte) (active : s.linkSt p = LinkSt.ACTIVE) (inside : slot < s.slotsPerSf p) :
    s.flitReceive p slot raw hits =
      if rawPasses raw (s.rd JXK_STATUS.EPOCH p) then
        if s.wrongLcn p slot (Flit.ofRaw raw) then s.flitFails p slot hits else s.flitIn p slot (Flit.ofRaw raw)
      else if (s.lk p).prevEpoch ≠ 0 ∧ rawPasses raw (s.lk p).prevEpoch then s.staleFlit p
      else s.flitFails p slot hits := by
  have flows : ¬ (LinkSt.ACTIVE < LinkSt.ALIGN ∨ LinkSt.ACTIVE < LinkSt.ACTIVE ∨ s.slotsPerSf p ≤ slot) := by
    simp [LinkSt.ALIGN, LinkSt.ACTIVE, inside]
  unfold State.flitReceive
  dsimp only
  rw [active, if_neg flows, if_pos rfl, if_neg (not_not_intro rfl)]

theorem State.news_staleFlit : (s.staleFlit p).news = s.news := State.news_raiseOnce ..

/-- The owner of a receive slot follows from the table in force, the plan store and the link's slots alone. -/
theorem State.rxOwner_congr {s t : State} {p : Nat} (plan : (t.lk p).plan = (s.lk p).plan) (store : t.planStore = s.planStore)
    (slots : t.slotsPerSf p = s.slotsPerSf p) (slot : Nat) : t.rxOwner p slot = s.rxOwner p slot := by
  unfold State.rxOwner State.entry State.planEntry State.rxTable
  rw [plan, store, slots]

/-- Charged lanes show in no register (R121). -/
theorem State.rd_chargeLanes (f : Field) (i : Nat) : (s.chargeLanes p hits).rd f i = s.rd f i := by
  refine State.rd_foldl _ f i (fun s k => ?_) _ s
  split <;> rfl

theorem State.planStore_chargeLanes : (s.chargeLanes p hits).planStore = s.planStore := by
  refine foldl_keeps State.planStore _ (fun s k => ?_) _ s
  split <;> rfl

theorem State.plan_chargeLanes : ((s.chargeLanes p hits).lk p).plan = (s.lk p).plan := by
  refine foldl_keeps (fun s : State => (s.lk p).plan) _ (fun s k => ?_) _ s
  split
  · rw [State.lk_modLane_same]
  · rfl

theorem State.news_chargeLanes : (s.chargeLanes p hits).news = s.news := by
  refine foldl_keeps State.news _ (fun s k => ?_) _ s
  split <;> rfl

/-- A failed flit on record: counted, and its lanes charged (R121, R140). -/
def State.crcCounted : State := (s.bump JXK_CRCERR.COUNT p).chargeLanes p hits

theorem State.rxOwner_crcCounted : (s.crcCounted p hits).rxOwner p slot = s.rxOwner p slot := by
  have shown (f : Field) (i : Nat) (notCount : JXK_CRCERR.COUNT.id ≠ f.id) : (s.crcCounted p hits).rd f i = s.rd f i :=
    (State.rd_chargeLanes ..).trans (State.rd_bump_ne _ _ _ _ _ _ notCount)
  have plan : ((s.crcCounted p hits).lk p).plan = (s.lk p).plan := State.plan_chargeLanes (s.bump JXK_CRCERR.COUNT p) p hits
  have store : (s.crcCounted p hits).planStore = s.planStore := State.planStore_chargeLanes (s.bump JXK_CRCERR.COUNT p) p hits
  refine State.rxOwner_congr plan store ?_ slot
  unfold State.slotsPerSf State.ticksPerSlot State.on
  rw [shown _ _ (by decide), shown _ _ (by decide)]

/-- A failed flit in a slot that no tunnel owns is no loss of a tunnel (R140, R148). -/
theorem State.flitFails_unowned (notSync : slot ≠ 0) (unowned : s.rxOwner p slot = none) : s.flitFails p slot hits = s.crcCounted p hits := by
  have unowned : (s.crcCounted p hits).rxOwner p slot = none := (s.rxOwner_crcCounted p slot hits).trans unowned
  unfold State.crcCounted at unowned ⊢
  unfold State.flitFails
  dsimp only
  rw [unowned]
  exact if_neg notSync

end FlitCheck

section Acknowledgement

variable (s : State) (p a : Nat)

/-- The replay buffer without what `ACKED` covers (R145). -/
def State.freedRbuf : State :=
  s.modLk p (fun l => { l with rbuf := s.keepRbuf p l.rbuf, ackMoved := true, resend := l.resend.filter (fun r => r.restore || s.unacked p r.ent.seq) })

/-- A replay ends when nothing is left to send (R146). -/
def State.replayEnds : State := if (s.lk p).resend.isEmpty then s.wr JXK_STATUS.REPLAYING 0 p else s

/-- `ACKED` at a number in the window, and what follows (R144, R147). -/
def State.ackTaken : State := (((s.wr JXK_TXSEQ.ACKED a p).wr JXK_TXSEQ.EXPIRIES 0 p).freedRbuf p).replayEnds p

theorem State.takeAck_inWindow (inWindow : s.unacked p a = true) : s.takeAck p a = (s.ackTaken p a).countRbuf p := if_pos inWindow

theorem State.takeAck_outside (outside : s.unacked p a = false) : s.takeAck p a = s := if_neg (by simp [outside])

@[simp] theorem State.lk_replayEnds (q : Nat) : (s.replayEnds p).lk q = s.lk q := by
  unfold State.replayEnds
  split <;> rfl

@[simp] theorem State.news_replayEnds : (s.replayEnds p).news = s.news := by
  unfold State.replayEnds
  split <;> rfl

theorem State.rd_replayEnds (f : Field) (i : Nat) (notReplaying : JXK_STATUS.REPLAYING.id ≠ f.id) : (s.replayEnds p).rd f i = s.rd f i := by
  unfold State.replayEnds
  split
  · exact State.rd_wr_ne _ _ _ _ _ _ notReplaying
  · rfl

theorem State.rd_countRbuf (f : Field) (i : Nat) (notUnacked : JXK_RBUF.UNACKED.id ≠ f.id) (notRetained : JXK_RBUF.RETAINED.id ≠ f.id) :
    (s.countRbuf p).rd f i = s.rd f i := by
  unfold State.countRbuf
  dsimp only
  rw [State.rd_wr_ne _ _ _ _ _ _ notRetained, State.rd_wr_ne _ _ _ _ _ _ notUnacked]

theorem State.rd_ackTaken (f : Field) (i : Nat) (notReplaying : JXK_STATUS.REPLAYING.id ≠ f.id) :
    (s.ackTaken p a).rd f i = ((s.wr JXK_TXSEQ.ACKED a p).wr JXK_TXSEQ.EXPIRIES 0 p).rd f i := State.rd_replayEnds _ _ _ _ notReplaying

/-- Of the link itself, an acknowledgement changes the replay buffer, the replay in progress and the note of progress. -/
theorem State.lk_ackTaken_same : ∃ g : RbEnt → Bool, (s.ackTaken p a).lk p =
    { s.lk p with rbuf := (s.lk p).rbuf.filter g, ackMoved := true, resend := ((s.ackTaken p a).lk p).resend } := by
  unfold State.ackTaken State.freedRbuf
  rw [State.lk_replayEnds, State.lk_modLk_same]
  exact ⟨_, rfl⟩

theorem State.rd_takeAck_expected : (s.takeAck p a).rd JXK_RXSEQ.EXPECTED p = s.rd JXK_RXSEQ.EXPECTED p := by
  cases inWindow : s.unacked p a with
  | false => rw [s.takeAck_outside p a inWindow]
  | true =>
    rw [s.takeAck_inWindow p a inWindow, State.rd_countRbuf _ _ _ _ (by decide) (by decide), s.rd_ackTaken p a _ _ (by decide),
      State.rd_wr_ne _ _ _ _ _ _ (by decide), State.rd_wr_ne _ _ _ _ _ _ (by decide)]

theorem State.lk_takeAck_same : ∃ b m r, (s.takeAck p a).lk p = { s.lk p with rbuf := b, ackMoved := m, resend := r } := by
  cases inWindow : s.unacked p a with
  | false =>
    rw [s.takeAck_outside p a inWindow]
    exact ⟨_, _, _, rfl⟩
  | true =>
    obtain ⟨g, lk⟩ := s.lk_ackTaken_same p a
    rw [s.takeAck_inWindow p a inWindow, State.lk_countRbuf, lk]
    exact ⟨_, _, _, rfl⟩

theorem State.plan_takeAck : ((s.takeAck p a).lk p).plan = (s.lk p).plan := by
  obtain ⟨b, m, r, lk⟩ := s.lk_takeAck_same p a
  rw [lk]

theorem State.tagWait_takeAck : ((s.takeAck p a).lk p).tagWait = (s.lk p).tagWait := by
  obtain ⟨b, m, r, lk⟩ := s.lk_takeAck_same p a
  rw [lk]

@[simp] theorem State.news_takeAck : (s.takeAck p a).news = s.news := by
  cases inWindow : s.unacked p a with
  | false => rw [s.takeAck_outside p a inWindow]
  | true =>
    rw [s.takeAck_inWindow p a inWindow]
    exact State.news_replayEnds (((s.wr JXK_TXSEQ.ACKED a p).wr JXK_TXSEQ.EXPIRIES 0 p).freedRbuf p) p

variable (inWindow : s.unacked p a = true)
include inWindow

theorem State.rd_takeAck_acked : (s.takeAck p a).rd JXK_TXSEQ.ACKED p = a % 4096 := by
  rw [s.takeAck_inWindow p a inWindow, State.rd_countRbuf _ _ _ _ (by decide) (by decide), s.rd_ackTaken p a _ _ (by decide),
    State.rd_wr_ne _ _ _ _ _ _ (by decide), State.rd_wr_same]
  rfl

theorem State.rd_takeAck_expiries : (s.takeAck p a).rd JXK_TXSEQ.EXPIRIES p = 0 := by
  rw [s.takeAck_inWindow p a inWindow, State.rd_countRbuf _ _ _ _ (by decide) (by decide), s.rd_ackTaken p a _ _ (by decide), State.rd_wr_same,
    Nat.zero_mod]

/-- An acknowledgement frees entries of the replay buffer and adds none (R145). -/
theorem State.rbuf_takeAck_subset (e : RbEnt) (kept : e ∈ ((s.takeAck p a).lk p).rbuf) : e ∈ (s.lk p).rbuf := by
  obtain ⟨g, lk⟩ := s.lk_ackTaken_same p a
  rw [s.takeAck_inWindow p a inWindow, State.lk_countRbuf, lk] at kept
  exact (List.mem_filter.1 kept).1

end Acknowledgement

section FlitKinds

variable (s : State) (p slot : Nat) (f : Flit)

/-- A sequenced flit ahead of `EXPECTED` (R142). -/
theorem State.sequenced_ahead (noTag : (s.lk p).tagWait = none) (ahead : 1 ≤ seqDist f.seq (s.rd JXK_RXSEQ.EXPECTED p))
    (near : seqDist f.seq (s.rd JXK_RXSEQ.EXPECTED p) ≤ 2047) : s.sequenced p slot f = s.bump JXK_OOS.COUNT p := by
  unfold State.sequenced
  rw [noTag]
  dsimp only
  rw [if_neg (by omega), if_pos near]

/-- A sequenced flit behind `EXPECTED`: it has been accepted before (R142). -/
theorem State.sequenced_behind (noTag : (s.lk p).tagWait = none) (behind : 2048 ≤ seqDist f.seq (s.rd JXK_RXSEQ.EXPECTED p)) :
    s.sequenced p slot f = s.bump JXK_DUP.COUNT p := by
  unfold State.sequenced
  rw [noTag]
  dsimp only
  rw [if_neg (by omega), if_neg (by omega)]

variable (firm : (s.lk p).plan.provisional = false)
include firm

/-- Outside a provisional superframe a flit has its ACK read, and then its kind decides (R135, R143). -/
theorem State.flitIn_firm : s.flitIn p slot f =
    let u := s.takeAck p f.ack
    if 7 ≤ f.kind then u.badKind p
    else if f.kind = Kind.IDLE then u
    else if f.kind = Kind.SYNC then u.syncReceive p (some f.payload) 0
    else if f.kind = Kind.FRONT then u.frontReceive p f.payload
    else if f.seq = noSeq then u.unsequenced p slot f
    else u.sequenced p slot f := by
  unfold State.flitIn
  dsimp only
  rw [State.plan_takeAck, firm, Bool.false_and, if_neg Bool.false_ne_true]

theorem State.flitIn_reserved (reserved : 7 ≤ f.kind) : s.flitIn p slot f = (s.takeAck p f.ack).bump JXK_BADKIND.COUNT p :=
  (s.flitIn_firm p slot f firm).trans (if_pos reserved)

theorem State.flitIn_idle (idle : f.kind = Kind.IDLE) : s.flitIn p slot f = s.takeAck p f.ack := by
  rw [s.flitIn_firm p slot f firm]
  dsimp only
  rw [idle, if_neg (by decide), if_pos rfl]

theorem State.flitIn_sequenced (low : 1 ≤ f.kind) (high : f.kind ≤ 6) (notSync : f.kind ≠ Kind.SYNC) (notFront : f.kind ≠ Kind.FRONT)
    (numbered : f.seq ≠ noSeq) : s.flitIn p slot f = (s.takeAck p f.ack).sequenced p slot f := by
  have notIdle : f.kind ≠ Kind.IDLE := Nat.ne_of_gt low
  rw [s.flitIn_firm p slot f firm]
  dsimp only
  rw [if_neg (Nat.not_le.2 (Nat.lt_succ_of_le high)), if_neg notIdle, if_neg notSync, if_neg notFront, if_neg numbered]

end FlitKinds

section Tags

theorem exec_tagVerify (s : State) (p : Fin 4) : exec (.tagVerify p) s = .next (s.settling (fun s => s.tagVerify p.val)) := rfl

variable (s : State) (p : Nat) (t : TagWait) (waits : (s.lk p).tagWait = some t) (noneAfter : t.after = [])
include waits noneAfter

/-- A TAG that fails, with no flit held behind it (R156). -/
theorem State.tagVerify_fails (fails : s.tagVerifies p t.stream t.payload = false) :
    s.tagVerify p = (s.modLk p (fun l => { l with tagWait := none })).discardGroup p t.stream := by
  unfold State.tagVerify
  rw [waits]
  dsimp only
  rw [fails, noneAfter, if_neg Bool.false_ne_true]
  rfl

theorem State.tagVerify_passes (passes : s.tagVerifies p t.stream t.payload = true) :
    s.tagVerify p = ((s.modLk p (fun l => { l with tagWait := none })).releaseGroup p t.stream (byteAt t.payload 19)).advance p := by
  unfold State.tagVerify
  rw [waits]
  dsimp only
  rw [passes, noneAfter, if_pos rfl]
  rfl

omit waits noneAfter

theorem State.news_discardGroup (tid : Nat) : (s.discardGroup p tid).news = s.news := State.news_raiseOnce ..

/-- The OPEN group that follows a verified one: empty, its counter one higher (R154, R156). -/
def State.nextOpenGroup (kg : Nat) : RxGroup := { RxGroup.init with gctr := (s.rxGroup p 1).expects kg + 1, keygen := kg }

/-- A verified OPEN group that holds no flit releases none (R157). -/
theorem State.releaseGroup_empty (kg : Nat) (empty : (s.rxGroup p 1).openHeld = []) :
    s.releaseGroup p 1 kg = s.setRxGroup p 1 (s.nextOpenGroup p kg) := by
  unfold State.releaseGroup
  dsimp only
  rw [if_pos rfl, empty]
  rfl

/-- The OPEN stream after its group has verified, `EXPECTED` past the TAG (R142, R156). -/
def State.openVerified (kg : Nat) : State :=
  ((s.modLk p (fun l => { l with tagWait := none })).setRxGroup p 1 (s.nextOpenGroup p kg)).advance p

theorem State.rxGroup_dropTagWait (tid : Nat) : (s.modLk p (fun l => { l with tagWait := none })).rxGroup p tid = s.rxGroup p tid := by
  unfold State.rxGroup
  rw [State.lk_modLk_same]

/-- The TAG of an OPEN group that holds no flit passes, with no flit held behind it. -/
theorem State.tagVerify_open (waits : (s.lk p).tagWait = some t) (noneAfter : t.after = [])
    (passes : s.tagVerifies p t.stream t.payload = true) (stream : t.stream = 1) (empty : (s.rxGroup p 1).openHeld = []) :
    s.tagVerify p = s.openVerified p (byteAt t.payload 19) := by
  have released := (s.modLk p (fun l => { l with tagWait := none })).releaseGroup_empty p (byteAt t.payload 19)
    (by rw [State.rxGroup_dropTagWait]; exact empty)
  rw [s.tagVerify_passes p t waits noneAfter passes, stream, released, State.nextOpenGroup, State.rxGroup_dropTagWait]
  rfl

theorem State.lk_openVerified_same (kg : Nat) : (s.openVerified p kg).lk p =
    { s.lk p with tagWait := none, groupsRx := NMap.set (s.lk p).groupsRx RxGroup.init 1 (s.nextOpenGroup p kg) } := by
  unfold State.openVerified State.advance State.setExpected State.setRxGroup
  simp only [State.lk_wr, State.lk_modLk_same]

theorem State.rxGroup_openVerified (kg : Nat) : (s.openVerified p kg).rxGroup p 1 = s.nextOpenGroup p kg := by
  unfold State.rxGroup
  rw [State.lk_openVerified_same, NMap.get_set_same]

theorem State.rd_openVerified_expected (kg : Nat) :
    (s.openVerified p kg).rd JXK_RXSEQ.EXPECTED p = seqNext (s.rd JXK_RXSEQ.EXPECTED p) % 4096 :=
  (State.rd_wr_ne _ _ _ _ _ _ (by decide)).trans (State.rd_wr_same ..)

theorem State.onlyRegs_advance : s.onlyRegs (s.advance p) [(JXK_RXSEQ.EXPECTED, p), (JXK_RXSEQ.ACK_TX, p)] :=
  State.onlyRegs_wr (State.onlyRegs_wr (s.onlyRegs_refl _) _ _ p (by simp)) _ _ p (by simp)

theorem State.advance_link (l : NMap Link) (n : List (Nat × Nat)) :
    { s.advance p with link := l, news := n } = { s with link := l, news := n }.advance p := rfl

theorem State.modLk_link (g : Link → Link) (l : NMap Link) (n : List (Nat × Nat)) :
    { s.modLk p g with link := l, news := n } = { s with link := l, news := n } := rfl

/-- Beside the link itself, a verified group changes the numbers that the receiver shows, and nothing else. -/
theorem State.openVerified_link (kg : Nat) : { s.calm.openVerified p kg with link := s.link, news := s.news } = s.advance p := by
  unfold State.openVerified State.setRxGroup
  rw [State.advance_link, State.modLk_link, State.modLk_link]
  rfl

end Tags

section Credits

/-- A list with its places, as a run over the places. -/
theorem zipIdx_eq_map_range {α : Type} (l : List α) (d : α) : l.zipIdx = (List.range l.length).map (fun i => (l.getD i d, i)) := by
  refine List.ext_getElem (by simp) (fun i h _ => ?_)
  simp only [List.length_zipIdx] at h
  simp [h]

variable (s : State) (p v n : Nat)

theorem State.rd_setAvail_same : (s.setAvail p v n).rd JXK_VC.AVAIL (p * 64 + v) =
    if v < s.rd JXK_CTRL.VCS p then min 1023 n else s.rd JXK_VC.AVAIL (p * 64 + v) := by
  unfold State.setAvail
  split
  · rw [State.rd_wr_same]
    exact Nat.mod_eq_of_lt (show min 1023 n < 1024 by omega)
  · rfl

theorem State.rd_setAvail_idx (i : Nat) (other : i ≠ p * 64 + v) : (s.setAvail p v n).rd JXK_VC.AVAIL i = s.rd JXK_VC.AVAIL i := by
  unfold State.setAvail
  split
  · exact State.rd_wr_idx _ _ _ _ _ other.symm
  · rfl

theorem State.rd_setAvail_ne (f : Field) (i : Nat) (notAvail : JXK_VC.AVAIL.id ≠ f.id) : (s.setAvail p v n).rd f i = s.rd f i := by
  unfold State.setAvail
  split
  · exact State.rd_wr_ne _ _ _ _ _ _ notAvail
  · rfl

@[simp] theorem State.lk_setAvail (q : Nat) : (s.setAvail p v n).lk q = s.lk q := by
  unfold State.setAvail
  split <;> rfl

theorem State.onlyRegs_setAvail {s t : State} {l : List (Field × Nat)} (h : s.onlyRegs t l) (p v n : Nat) (m : (JXK_VC.AVAIL, p * 64 + v) ∈ l) :
    s.onlyRegs (t.setAvail p v n) l := by
  unfold State.setAvail
  split
  · exact State.onlyRegs_wr h _ _ _ m
  · exact h

/-- What a credit message does to VC `base + k`: `credit` gives its new credit from its old one and the link. -/
def State.creditStep (base : Nat) (credit : Nat → Nat → Link → Nat) (s : State) (k : Nat) : State :=
  s.setAvail p (base + k) (credit k (s.rd JXK_VC.AVAIL (p * 64 + (base + k))) (s.lk p))

variable (base : Nat) (credit : Nat → Nat → Link → Nat)

/-- The credit of VC `base + k`, with what a step on it depends on and leaves alone. -/
def State.creditView (k : Nat) (s : State) : Nat × Nat × Link := (s.rd JXK_VC.AVAIL (p * 64 + (base + k)), s.rd JXK_CTRL.VCS p, s.lk p)

/-- What one step makes of the view of its own VC. -/
def creditAfter (k : Nat) (a : Nat × Nat × Link) : Nat × Nat × Link :=
  (if base + k < a.2.1 then min 1023 (credit k a.1 a.2.2) else a.1, a.2)

theorem State.creditView_creditStep_same (k : Nat) :
    State.creditView p base k (s.creditStep p base credit k) = creditAfter base credit k (State.creditView p base k s) := by
  unfold State.creditView State.creditStep creditAfter
  rw [State.rd_setAvail_same, State.rd_setAvail_ne _ _ _ _ _ _ (by decide), State.lk_setAvail]

theorem State.creditView_creditStep_ne (k j : Nat) (other : j ≠ k) :
    State.creditView p base j (s.creditStep p base credit k) = State.creditView p base j s := by
  unfold State.creditView State.creditStep
  rw [State.rd_setAvail_idx _ _ _ _ _ (by omega), State.rd_setAvail_ne _ _ _ _ _ _ (by decide), State.lk_setAvail]

/-- Sixteen VCs from `base` on, one after another: each gets its own new credit. -/
theorem State.rd_creditSteps (k : Nat) (hk : k < 16) (inUse : base + k < s.rd JXK_CTRL.VCS p) :
    ((List.range 16).foldl (State.creditStep p base credit) s).rd JXK_VC.AVAIL (p * 64 + (base + k)) =
      min 1023 (credit k (s.rd JXK_VC.AVAIL (p * 64 + (base + k))) (s.lk p)) := by
  have fold := foldl_pointwise (fun s k => State.creditView p base k s) (State.creditStep p base credit) (creditAfter base credit) (fun _ => True)
    (fun s k _ => s.creditView_creditStep_same p base credit k) (fun s k j _ _ => s.creditView_creditStep_ne p base credit k j) (List.range 16)
    List.nodup_range (fun _ _ => trivial) s k trivial
  rw [if_pos (List.mem_range.2 hk)] at fold
  exact (congrArg Prod.fst fold).trans (if_pos inUse)

theorem State.onlyRegs_creditSteps : s.onlyRegs ((List.range 16).foldl (State.creditStep p base credit) s)
    ((List.range 16).map (fun k => (JXK_VC.AVAIL, p * 64 + (base + k)))) :=
  List.foldlRecOn (motive := fun t => s.onlyRegs t _) _ _ (s.onlyRegs_refl _)
    (fun _ kept _ hk => State.onlyRegs_setAvail kept _ _ _ (List.mem_map_of_mem hk))

theorem length_creditCounts (y : List Byte) : (creditCounts y).length = 16 := by simp [creditCounts, unpack]
theorem length_creditSyncCounts (y : List Byte) : (creditSyncCounts y).length = 16 := by simp [creditSyncCounts, unpack]

/-- A CREDIT flit adds (R150). -/
def creditAdded (y : List Byte) (k old : Nat) (_ : Link) : Nat := old + (creditCounts y).getD k 0

/-- A CREDIT_SYNC flit sets credit to INIT less what is under way (R151). -/
def creditSynced (y : List Byte) (k _old : Nat) (l : Link) : Nat :=
  NMap.get l.peerInit 0 (byteAt y 1 + k) - (NMap.get l.sent 0 (byteAt y 1 + k) + 1024 - (creditSyncCounts y).getD k 0) % 1024

/-- FREED of sixteen VCs from `base` on, as a CREDIT_SYNC flit carries it (R151). -/
def State.freedPayload : List Byte :=
  le 1 Ctl.CREDIT_SYNC ++ le 1 base ++ le 2 0 ++ le 20 (pack 10 ((List.range 16).map (fun i => NMap.get (s.lk p).freed 0 (base + i))))

/-- What waits to be sent is no part of FREED. -/
theorem State.freedPayload_pushCtl (kind b : Nat) (z : List Byte) (sequenced : Bool) :
    (s.pushCtl p kind z sequenced).freedPayload p b = s.freedPayload p b := by
  unfold State.freedPayload
  rw [State.lk_pushCtl_same]

variable (y : List Byte) (active : s.linkActive p = true)
include active

theorem State.creditIn_eq (noSync : s.on JXK_STATUS.CMODE p = false) :
    s.creditIn p y = (List.range 16).foldl (State.creditStep p 0 (creditAdded y)) s := by
  unfold State.creditIn
  rw [if_neg (by simp [active, noSync]), zipIdx_eq_map_range _ 0, length_creditCounts, List.foldl_map]
  unfold State.creditStep creditAdded
  simp only [Nat.zero_add]

theorem State.creditSyncIn_eq (sync : s.on JXK_STATUS.CMODE p = true) :
    s.creditSyncIn p y = (List.range 16).foldl (State.creditStep p (byteAt y 1) (creditSynced y)) s := by
  unfold State.creditSyncIn
  rw [if_neg (by simp [active, sync]), zipIdx_eq_map_range _ 0, length_creditSyncCounts, List.foldl_map]
  rfl

omit y

/-- A link of 17 to 32 VCs tells FREED in two flits (R151). -/
theorem State.creditSyncSend_two (sync : s.on JXK_STATUS.CMODE p = true) (first : s.sfn % 256 = 0) (bases : s.credBases p = [0, 16]) :
    s.creditSyncSend p =
      (s.pushCtl p Kind.CONTROL (s.freedPayload p 0) false).pushCtl p Kind.CONTROL (s.freedPayload p 16) false := by
  rw [← s.freedPayload_pushCtl p Kind.CONTROL 16 (s.freedPayload p 0) false]
  unfold State.creditSyncSend
  rw [if_pos ⟨active, sync, first⟩, bases]
  rfl

end Credits

/-- Settles O19: the flit's check, its acknowledgement and its number, then the two verdicts on a TAG and the three credit messages. -/
theorem flitReception : Obligations.FlitReception := by
  refine ⟨?fails, ?passes, ?acks, ?tagFails, ?tagPasses, fun s p y active => ⟨fun noSync => ?credit, fun sync => ?creditSync⟩, ?creditSend⟩
  case fails =>
    intro s p slot raw hits active inside notSync fails
    have judged : s.calm.flitReceive p slot raw hits = _ :=
      (s.calm.flitReceive_active p slot hits raw active inside).trans (if_neg (ne_true_of_eq_false fails))
    refine ⟨fun stale nonzero => ?stale, fun fresh unowned => ?crc⟩
    case stale =>
      rw [exec_flitReceive, s.settling_of_quiet _ (judged.trans (if_pos ⟨nonzero, stale⟩)) (State.news_staleFlit ..)]
      rfl
    case crc =>
      have act := (judged.trans (if_neg (fun both => ne_true_of_eq_false fresh both.2))).trans
        (s.calm.flitFails_unowned p slot hits notSync unowned)
      rw [exec_flitReceive, s.settling_of_quiet _ act (State.news_chargeLanes ..)]
      rfl
  case passes =>
    intro s p slot raw hits f u active inside passes lcn firm
    have taken : s.calm.flitReceive p slot raw hits = s.calm.flitIn p slot f :=
      (s.calm.flitReceive_active p slot hits raw active inside).trans ((if_pos passes).trans (if_neg (ne_true_of_eq_false lcn)))
    have quiet : u.news = [] := State.news_takeAck ..
    have ends {t : State} (act : s.calm.flitIn p slot f = t) (same : t.news = u.news) : exec (.flitReceive p slot raw hits) s = .next t :=
      congrArg Host.Outcome.next (s.settling_of_quiet _ (taken.trans act) (same.trans quiet))
    refine ⟨fun reserved => ends (s.calm.flitIn_reserved p slot f firm reserved) rfl,
      fun idle => ends (s.calm.flitIn_idle p slot f firm idle) rfl, ?_⟩
    intro low high notSync notFront numbered noTag d
    have sequenced := s.calm.flitIn_sequenced p slot f firm low high notSync notFront numbered
    have noTag : (u.lk p).tagWait = none := (s.calm.tagWait_takeAck p f.ack).trans noTag
    have distance : seqDist f.seq (u.rd JXK_RXSEQ.EXPECTED p) = d := congrArg (seqDist f.seq) (s.calm.rd_takeAck_expected p f.ack)
    refine ⟨fun ahead near => ?ahead, fun behind => ?behind⟩
    case ahead => exact ends (sequenced.trans (u.sequenced_ahead p slot f noTag (by rwa [distance]) (by rwa [distance]))) rfl
    case behind => exact ends (sequenced.trans (u.sequenced_behind p slot f noTag (by rwa [distance]))) rfl
  case acks =>
    intro s p a small
    refine ⟨s.takeAck_outside p a, fun inWindow => ⟨?acked, s.rd_takeAck_expiries p a inWindow, s.rbuf_takeAck_subset p a inWindow⟩⟩
    case acked => exact (s.rd_takeAck_acked p a inWindow).trans (Nat.mod_eq_of_lt (by omega))
  case tagFails =>
    intro s p t waits fails noneAfter
    have act := s.calm.tagVerify_fails p t waits noneAfter fails
    rw [exec_tagVerify, s.settling_of_quiet (fun s => s.tagVerify p) act (State.news_discardGroup ..)]
  case tagPasses =>
    intro s p t waits passes noneAfter stream empty
    have act := s.calm.tagVerify_open p t waits noneAfter passes stream empty
    refine ⟨_, congrArg Host.Outcome.next (s.settling_of_quiet _ act rfl), ?tagWait, s.calm.rd_openVerified_expected p _,
      s.calm.rxGroup_openVerified p _, ?rest⟩
    case tagWait => rw [State.lk_openVerified_same]
    case rest =>
      rw [s.openVerified_link p]
      exact s.onlyRegs_advance p
  case credit =>
    have steps := s.onlyRegs_creditSteps p 0 (creditAdded y)
    refine ⟨_, congrArg Host.Outcome.next (s.creditIn_eq p y active noSync), fun v hv inUse => ?added, ?only⟩
    case added => simpa [creditAdded] using s.rd_creditSteps p 0 (creditAdded y) v hv (by omega)
    case only => simpa only [Nat.zero_add] using steps
  case creditSync =>
    intro b
    refine ⟨_, congrArg Host.Outcome.next (s.creditSyncIn_eq p y active sync), fun v hv inUse small => ?set, s.onlyRegs_creditSteps p b _⟩
    case set =>
      rw [s.rd_creditSteps p b (creditSynced y) v hv inUse]
      exact Nat.min_eq_right (Nat.le_trans (Nat.sub_le ..) small)
  case creditSend => exact fun s p active sync first bases => congrArg Host.Outcome.next (s.creditSyncSend_two p active sync first bases)

end Sys2Proof.Machine

/-! Renewal of a link's session keys (R159, R483): the request at the upstream end, the answer at the downstream end, and the three ends of a
renewal in progress. -/

namespace Sys2Proof.Machine

section RekeyStart

theorem exec_rekey (s : State) (p : Fin 4) (h : s.serves (Reg.JXK_CMD.addr p.val 0) true) :
    exec (.rekey p) s = .next (s.settling (fun s => s.rekeyCmd p.val)) :=
  congrArg (fun u : State => Host.Outcome.next u.settled) (State.access_serves s.calm _ true _ h)

variable (s : State) (p : Nat)

theorem State.startRekey_next (more : s.rd JXK_STATUS.KEYGEN p ≠ 255) : s.startRekey p = s.sendRekey p 1 := if_neg more

/-- After generation 255 only a new AUTH gives keys (R483). -/
theorem State.startRekey_last (last : s.rd JXK_STATUS.KEYGEN p = 255) : s.startRekey p = s.recover p := if_pos last

variable (active : s.linkActive p = true) (free : (s.lk p).rekey = none)
include active free

theorem State.rekeyTimer_due (down : s.isUpPort p = false) : s.rekeyTimer p = s.startRekey p := if_pos ⟨active, down, free⟩

theorem State.rekeyCmd_taken (down : s.isUpPort p = false) : s.rekeyCmd p = (s.startRekey p).answer St.OK :=
  State.checked_ok _ _ _ (by simp [State.jxkCmdChecks, active, free, down])

/-- Only the upstream end of a link may ask for new keys. -/
theorem State.rekeyCmd_upPort (up : s.isUpPort p = true) : s.rekeyCmd p = s.answer St.STATE := by
  have status : firstStatus (s.jxkCmdChecks p ++ [(St.STATE, s.isUpPort p)]) = St.STATE := by
    unfold State.jxkCmdChecks
    rw [active, free, up]
    rfl
  unfold State.rekeyCmd
  rw [State.checked_fail _ _ _ (by rw [status]; decide), status]

end RekeyStart

section RekeyMessages

variable (s : State) (p : Nat) (y : List Byte)

/-- The downstream end takes the generation and the superframe that the REKEY names, and answers (R159). -/
theorem State.rekeyIn_taken (active : s.linkActive p = true) (up : s.isUpPort p = true) :
    s.rekeyIn p y = (s.modLk p (fun l => { l with rekey := some ⟨byteAt y 1, leAt y 2 4, 1, true⟩ })).pushCtl p Kind.CONTROL
      (le 1 Ctl.REKEY_ACK ++ le 1 (byteAt y 1)) true := if_neg (by simp [active, up])

theorem State.rekeyAckIn_answers (r : Rekey) (renewing : (s.lk p).rekey = some r) (down : s.isUpPort p = false)
    (answers : r.keygen % 256 = byteAt y 1) : s.rekeyAckIn p y = s.modLk p (fun l => { l with rekey := some { r with acked := true } }) := by
  unfold State.rekeyAckIn
  rw [if_neg (by simp [down]), renewing]
  exact if_pos answers

end RekeyMessages

section RekeyEnds

variable (s : State) (p : Nat) (r : Rekey) (renewing : (s.lk p).rekey = some r)
include renewing

/-- A renewal comes into force once it is acknowledged and its superframe has come (R159). -/
theorem State.rekeyEffect_eq : s.rekeyEffect p = if r.acked && sfnReached r.effect s.sfn then
    (((s.modLk p (fun l => { l with rekey := none, oldKey := some (s.rd JXK_STATUS.KEYGEN p), oldKeyAt := s.sfn })).wr
      JXK_STATUS.KEYGEN r.keygen p).raise (Ev.JXK_REKEY_DONE p) r.keygen) else s := by
  unfold State.rekeyEffect
  rw [renewing]

/-- A renewal that is not acknowledged by its superframe is asked for again, three times in all (R159). -/
theorem State.rekeyNoAck_eq : s.rekeyNoAck p = if r.acked || !sfnReached r.effect s.sfn then s
    else if r.attempts < 3 then s.sendRekey p (r.attempts + 1)
    else ((s.modLk p (fun l => { l with rekey := none })).raise (Ev.JXK_REKEY_FAIL p)).recover p := by
  unfold State.rekeyNoAck
  rw [renewing]

theorem State.rekeyEffect_unacked (unacked : r.acked = false) : s.rekeyEffect p = s :=
  (s.rekeyEffect_eq p r renewing).trans (if_neg (by simp [unacked]))

theorem State.rekeyNoAck_acked (acked : r.acked = true) : s.rekeyNoAck p = s :=
  (s.rekeyNoAck_eq p r renewing).trans (if_pos (by rw [acked]; rfl))

variable (reached : sfnReached r.effect s.sfn = true)
include reached

theorem State.rekeyEffect_acked (acked : r.acked = true) : s.rekeyEffect p =
    ((s.modLk p (fun l => { l with rekey := none, oldKey := some (s.rd JXK_STATUS.KEYGEN p), oldKeyAt := s.sfn })).wr
      JXK_STATUS.KEYGEN r.keygen p).raise (Ev.JXK_REKEY_DONE p) r.keygen :=
  (s.rekeyEffect_eq p r renewing).trans (if_pos (by rw [acked, reached]; rfl))

theorem State.rekeyNoAck_late (unacked : r.acked = false) : s.rekeyNoAck p =
    if r.attempts < 3 then s.sendRekey p (r.attempts + 1)
    else ((s.modLk p (fun l => { l with rekey := none })).raise (Ev.JXK_REKEY_FAIL p)).recover p :=
  (s.rekeyNoAck_eq p r renewing).trans (if_neg (by simp [unacked, reached]))

end RekeyEnds

/-- No group that began under the old key is open any more (R159). -/
theorem State.oldKeyRetire_done (s : State) (p : Nat) (kept : (s.lk p).oldKey.isSome = true) (done : s.oldGroupOpen p = false) :
    s.oldKeyRetire p = s.modLk p (fun l => { l with oldKey := none }) := if_pos (by rw [kept, done]; rfl)

/-- Settles O21: the timer and the command at the upstream end, the two messages, then what becomes of a renewal and of the key it replaces. -/
theorem keyRenewal : Obligations.KeyRenewal := by
  refine ⟨?start, ?upPort, fun s p y active up => congrArg Host.Outcome.next (s.rekeyIn_taken p y active up), ?renewing,
    fun s p kept done => congrArg Host.Outcome.next (s.oldKeyRetire_done p kept done)⟩
  case start =>
    intro s p active down free kg e u
    have due := s.calm.rekeyTimer_due p active free down
    refine ⟨fun more => ?next, fun last => ?last⟩
    case next =>
      have sent : s.calm.startRekey p = u := s.calm.startRekey_next p more
      refine ⟨congrArg Host.Outcome.next (s.settling_of_quiet _ (due.trans sent) rfl), fun h => ?command⟩
      have taken := s.calm.rekeyCmd_taken p active free down
      rw [exec_rekey s p h, s.settling_of_quiet (fun s => s.rekeyCmd p) (taken.trans (congrArg (State.answer · St.OK) sent)) rfl]
    case last =>
      have act : s.calm.rekeyTimer p = s.calm.recover p := due.trans (s.calm.startRekey_last p last)
      exact congrArg (fun u : State => Host.Outcome.next u.settled) act
  case upPort =>
    intro s p active up free h
    rw [exec_rekey s p h, s.settling_of_quiet (fun s => s.rekeyCmd p) (s.calm.rekeyCmd_upPort p active free up) rfl]
  case renewing =>
    intro s p y r renewing
    refine ⟨fun down answers => congrArg Host.Outcome.next (s.rekeyAckIn_answers p y r renewing down answers),
      fun reached acked => ⟨?effect, ?kept⟩, fun reached unacked => ⟨fun few => ?again, fun many => ?fails, ?waits⟩⟩
    case effect => exact congrArg Host.Outcome.next (s.rekeyEffect_acked p r renewing reached acked)
    case kept => exact congrArg Host.Outcome.next (s.settling_of_quiet _ (s.calm.rekeyNoAck_acked p r renewing acked) rfl)
    case again =>
      have act := (s.calm.rekeyNoAck_late p r renewing reached unacked).trans (if_pos few)
      exact congrArg Host.Outcome.next (s.settling_of_quiet _ act rfl)
    case fails =>
      have act := (s.calm.rekeyNoAck_late p r renewing reached unacked).trans (if_neg (Nat.not_lt.2 many))
      exact congrArg (fun u : State => Host.Outcome.next u.settled) act
    case waits => exact congrArg Host.Outcome.next (s.rekeyEffect_unacked p r renewing unacked)

end Sys2Proof.Machine

/-! Shared by the statements of spec/06_shared_buffer_switch.md and of the Ethernet ports: checks that pass before others, what an event leaves of
the switch, and what giving back cells, copies or credits leaves alone. -/

namespace Sys2Proof.Machine

section Checks

variable {l : List (Nat × Bool)}

/-- A list of checks answers OK only if no check of any status fails. -/
theorem any_fails_of_firstStatus_ok (passes : firstStatus l = St.OK) {c : Nat} (hc : c ∈ checkOrder) :
    l.any (fun k => k.1 == c && k.2) = false := by
  cases found : checkOrder.find? (fun c => l.any (fun k => k.1 == c && k.2)) with
  | none => exact Bool.eq_false_iff.2 (List.find?_eq_none.1 found c hc)
  | some e =>
    have isOk : e = St.OK := by rwa [firstStatus, found] at passes
    exact absurd (isOk ▸ List.mem_of_find?_eq_some found) (by decide)

theorem check_passes_of_firstStatus_ok (passes : firstStatus l = St.OK) {c : Nat} {b : Bool} (m : (c, b) ∈ l) (hc : c ∈ checkOrder) :
    b = false := by
  have none := List.any_eq_false.1 (any_fails_of_firstStatus_ok passes hc) _ m
  simpa using none

theorem find?_of_agree {α : Type} {f g : α → Bool} {l : List α} (agree : ∀ a ∈ l, f a = g a) : l.find? f = l.find? g := by
  induction l with
  | nil => rfl
  | cons a r ih => rw [List.find?_cons, List.find?_cons, agree a List.mem_cons_self, ih (fun b hb => agree b (List.mem_cons_of_mem a hb))]

/-- Checks that pass leave the answer to those behind them. -/
theorem firstStatus_append (passes : firstStatus l = St.OK) (k : List (Nat × Bool)) : firstStatus (l ++ k) = firstStatus k := by
  unfold firstStatus
  refine congrArg (Option.getD · St.OK) (find?_of_agree fun c hc => ?_)
  rw [List.any_append, any_fails_of_firstStatus_ok passes hc, Bool.false_or]

variable {s : State} {d : RegDesc} {i data : Nat} (common : firstStatus (s.writeChecks d i data) = St.OK)
include common

/-- A register write that fails only a check of its own chapter. -/
theorem State.writeReg_ownFail {checks : List (Nat × Bool)} (after : State → State) (fails : firstStatus checks ≠ St.OK) :
    s.writeReg d i data checks after = s.answer (firstStatus checks) := by
  have status := firstStatus_append common checks
  unfold State.writeReg
  rw [State.checked_fail _ _ _ (status ▸ fails), status]

theorem State.writeReg_accepted {checks : List (Nat × Bool)} (after : State → State) (passes : firstStatus checks = St.OK) :
    s.writeReg d i data checks after = (after (s.writeFields d i data)).answer St.OK := by
  unfold State.writeReg
  rw [State.checked_ok _ _ _ ((firstStatus_append common checks).trans passes)]

end Checks

section SwitchEvents

variable (s : State)

@[simp] theorem State.sw_raise (id cap : Nat) : (s.raise id cap).sw = s.sw := by
  show (s.raise id cap).rest.sw = s.rest.sw
  rw [State.rest_raise]

@[simp] theorem State.sw_raiseOnce (id key cap : Nat) : (s.raiseOnce id key cap).sw = s.sw := by
  show (s.raiseOnce id key cap).rest.sw = s.rest.sw
  rw [State.rest_raiseOnce]

@[simp] theorem State.sw_swDrop (port cause : Nat) : (s.swDrop port cause).sw = s.sw := State.sw_raiseOnce ..

end SwitchEvents

section Release

/-- The registers in which cells, copies and credits that are given back show (R191 to R195). -/
def releaseFields : List (Fin 1024) := SWB_DESC.FREE.id :: SWB_QLEN.CELLS.id :: SWB_DROP.COUNT.id :: eventFields

/-- The switch but for its cells, charges, frames and credits: what is queued, under decision or forwarded by. -/
def Sw.held (w : Sw) : Sw := { w with rx := [], frames := [], used := [], charged := [], headUse := [] }

@[simp] theorem Sw.queues_held (w : Sw) : w.held.queues = w.queues := rfl
@[simp] theorem Sw.egress_held (w : Sw) : w.held.egress = w.egress := rfl
@[simp] theorem Sw.done_held (w : Sw) : w.held.done = w.done := rfl
@[simp] theorem Sw.inq_held (w : Sw) : w.held.inq = w.inq := rfl
@[simp] theorem Sw.fdb_held (w : Sw) : w.held.fdb = w.fdb := rfl

/-- `t` may follow `s` by giving back cells, copies and credits, with the drops counted (R149, R191 to R195). -/
structure State.Releases (s t : State) : Prop where
  rd : ∀ (f : Field) (i : Nat), f.id ∉ releaseFields → t.rd f i = s.rd f i
  out : t.out = s.out
  held : t.sw.held = s.sw.held

variable {s t : State}

theorem State.Releases.refl (s : State) : s.Releases s := ⟨fun _ _ _ => rfl, rfl, rfl⟩

theorem State.Releases.wr (h : s.Releases t) {f : Field} (shown : f.id ∈ releaseFields) (v i : Nat) : s.Releases (t.wr f v i) where
  rd g j other := (State.rd_wr_ne _ _ _ _ _ _ (fun same => other (same ▸ shown))).trans (h.rd g j other)
  out := h.out
  held := h.held

theorem State.Releases.raiseOnce (h : s.Releases t) (id key cap : Nat) : s.Releases (t.raiseOnce id key cap) where
  rd g j other := (State.rd_raiseOnce _ _ _ _ _ _ (fun event => other (by simp [releaseFields, event]))).trans (h.rd g j other)
  out := (State.out_raiseOnce ..).trans h.out
  held := (congrArg Sw.held (State.sw_raiseOnce ..)).trans h.held

theorem State.Releases.modSw (h : s.Releases t) (g : Sw → Sw) (keeps : ∀ w, (g w).held = w.held := by intro _; rfl) : s.Releases (t.modSw g) :=
  ⟨h.rd, h.out, (keeps t.sw).trans h.held⟩

theorem State.Releases.modLk (h : s.Releases t) (p : Nat) (g : Link → Link) : s.Releases (t.modLk p g) := ⟨h.rd, h.out, h.held⟩

theorem State.Releases.foldl {α : Type} {g : State → α → State} (step : ∀ u a, s.Releases u → s.Releases (g u a)) (h : s.Releases t)
    (l : List α) : s.Releases (l.foldl g t) := by
  induction l generalizing t with
  | nil => exact h
  | cons a l ih => exact ih (step t a h)

theorem State.Releases.swDrop (h : s.Releases t) (port cause : Nat) : s.Releases (t.swDrop port cause) :=
  (h.wr (by decide) _ _).raiseOnce _ _ _

theorem State.Releases.giveCredit (h : s.Releases t) (p v n epoch : Nat) : s.Releases (t.giveCredit p v n epoch) := by
  unfold State.giveCredit
  split
  · exact (h.modLk p _).modSw _
  · exact h

theorem State.Releases.freeCells (h : s.Releases t) (l : List Nat) : s.Releases (t.freeCells l) := h.modSw _

theorem State.Releases.freeFrame (h : s.Releases t) (f : SwFrame) : s.Releases (t.freeFrame f) := (h.freeCells _).giveCredit _ _ _ _

theorem State.Releases.releaseCopy (h : s.Releases t) (c : Copy) : s.Releases (t.releaseCopy c) := by
  unfold State.releaseCopy
  dsimp only
  have given : ∀ n q, s.Releases (((t.wr SWB_DESC.FREE n).wr SWB_QLEN.CELLS q c.queue).modSw
      (fun w => { w with charged := NMap.set w.charged 0 c.queue q })) :=
    fun n q => ((h.wr (by decide) n 0).wr (by decide) q c.queue).modSw _
  split
  · exact ((given _ _).modSw _).freeFrame _
  · exact (given _ _).modSw _

theorem State.Releases.dropPart (h : s.Releases t) (k cause : Nat) (last : Bool) (a : RxPart) : s.Releases (t.dropPart k cause last a) := by
  unfold State.dropPart
  exact (((h.swDrop _ _).freeCells _).giveCredit _ _ _ _).modSw _

@[simp] theorem State.fdb_freeFrame (s : State) (f : SwFrame) : (s.freeFrame f).sw.fdb = s.sw.fdb := by
  rw [← Sw.fdb_held, ((State.Releases.refl s).freeFrame f).held, Sw.fdb_held]

end Release

end Sys2Proof.Machine

/-! The forwarding database (R183 to R187): its entries, where a key is found, its commands, its two sweeps, and learning from a frame. -/

namespace Sys2Proof.Machine

section Entries

variable (s : State)

theorem State.fdbAt_setFdb (k : Nat) (e : Option FdbEnt) (j : Nat) : (s.setFdb k e).fdbAt j = if k = j then e else s.fdbAt j :=
  NMap.get_set ..

theorem State.fdbAt_of_fdb {s t : State} (same : t.sw.fdb = s.sw.fdb) (k : Nat) : t.fdbAt k = s.fdbAt k :=
  congrArg (fun m => NMap.get m none k) same

/-- The registers that show how full the database is. -/
def fdbFields : List (Field × Nat) := [(SWB_FSTAT.COUNT, 0), (SWB_FSTAT.FULLCOUNT, 0)]

/-- From `s` to `t` only the database and its fill have changed. -/
structure State.FdbOnly (s t : State) : Prop where
  same : t = { s with regs := t.regs, sw := { s.sw with fdb := t.sw.fdb } }
  keeps : s.keepsRegs t fdbFields

theorem State.FdbOnly.refl : s.FdbOnly s := ⟨rfl, s.keepsRegs_refl _⟩

variable {s} {t : State}

theorem State.FdbOnly.setFdb (h : s.FdbOnly t) (k : Nat) (e : Option FdbEnt) : s.FdbOnly (t.setFdb k e) where
  same := by
    rw [h.same]
    rfl
  keeps := by
    have put : s.keepsRegs (t.modSw (fun w => { w with fdb := NMap.set w.fdb none k e })) fdbFields := h.keeps
    exact State.keepsRegs_wr (State.keepsRegs_wr put SWB_FSTAT.COUNT _ 0 (by simp [fdbFields])) SWB_FSTAT.FULLCOUNT _ 0 (by simp [fdbFields])

end Entries

section Keys

variable (s : State) (mac vid : Nat)

/-- Way `k` holds the entry of a key. -/
def State.fdbHolds (k : Nat) : Prop := ∃ e, s.fdbAt k = some e ∧ e.mac = mac ∧ e.vid = vid

/-- Way `k` belongs to the set of a key (R182). -/
def fdbWay (k : Nat) : Prop := k ∈ (List.range 4).map (fun w => fdbSet mac vid * 4 + w)

theorem State.fdbFind_isSome_iff : (s.fdbFind mac vid).isSome = true ↔ ∃ k, fdbWay mac vid k ∧ s.fdbHolds mac vid k := by
  unfold State.fdbFind fdbWay State.fdbHolds
  rw [List.find?_isSome]
  refine exists_congr fun k => and_congr_right fun _ => ?_
  cases s.fdbAt k <;> simp

theorem State.fdbHolds_of_fdbFind {k : Nat} (found : s.fdbFind mac vid = some k) : s.fdbHolds mac vid k := by
  have holds := List.find?_some found
  unfold State.fdbHolds
  cases entry : s.fdbAt k <;> simp_all

theorem fdbWay_of_fdbFree {k : Nat} (free : s.fdbFree mac vid = some k) : fdbWay mac vid k := List.mem_of_find?_eq_some free

/-- A key placed in a free way of its set is found there and nowhere else. -/
theorem State.fdbFind_setFdb {k : Nat} (free : s.fdbFree mac vid = some k) (absent : s.fdbFind mac vid = none) (e : FdbEnt)
    (isMac : e.mac = mac) (isVid : e.vid = vid) : (s.setFdb k (some e)).fdbFind mac vid = some k := by
  have here : (s.setFdb k (some e)).fdbHolds mac vid k := ⟨e, by rw [State.fdbAt_setFdb, if_pos rfl], isMac, isVid⟩
  obtain ⟨j, found⟩ := Option.isSome_iff_exists.1 ((State.fdbFind_isSome_iff ..).2 ⟨k, fdbWay_of_fdbFree s mac vid free, here⟩)
  by_cases same : j = k
  · rw [found, same]
  exfalso
  obtain ⟨x, entry, holds⟩ := State.fdbHolds_of_fdbFind _ _ _ found
  rw [State.fdbAt_setFdb, if_neg (Ne.symm same)] at entry
  have before := (s.fdbFind_isSome_iff mac vid).2 ⟨j, List.mem_of_find?_eq_some found, x, entry, holds⟩
  rw [absent] at before
  cases before

end Keys

section FdbCommands

variable (s : State) (data : Word)

theorem exec_fdbLookup (h : s.serves Reg.SWB_FCMD.base true) : exec (.fdbLookup data) s = .next (s.fdbLookup data.toNat) :=
  congrArg _ (State.access_serves s _ true _ h)
theorem exec_fdbInsert (h : s.serves Reg.SWB_FCMD.base true) : exec (.fdbInsert data) s = .next (s.fdbInsert data.toNat) :=
  congrArg _ (State.access_serves s _ true _ h)
theorem exec_fdbDelete (h : s.serves Reg.SWB_FCMD.base true) : exec (.fdbDelete data) s = .next (s.fdbDelete data.toNat) :=
  congrArg _ (State.access_serves s _ true _ h)
theorem exec_fdbRead (h : s.serves Reg.SWB_FCMD.base true) : exec (.fdbRead data) s = .next (s.fdbRead data.toNat) :=
  congrArg _ (State.access_serves s _ true _ h)
theorem exec_fdbFlush (h : s.serves Reg.SWB_FCMD.base true) : exec (.fdbFlush data) s = .next (s.fdbFlush data.toNat) :=
  congrArg _ (State.access_serves s _ true _ h)

/-- A command word that its row accepts (R187). -/
structure FcmdGood (data op : Nat) : Prop where
  reserved : Reg.SWB_FCMD.reservedSet data = false
  isOp : SWB_FCMD.OP.of data = op
  port : SWB_FCMD.PORT.of data ≤ 17

variable {s} {data op : Nat}

theorem FcmdGood.checks (good : FcmdGood data op) : fcmdChecks data op = [(St.VALUE, false), (St.RANGE, false)] := by
  simp [fcmdChecks, good.reserved, good.isOp, good.port]

theorem FcmdGood.passes (good : FcmdGood data op) : firstStatus (fcmdChecks data op) = St.OK := by
  rw [good.checks]
  rfl

/-- A command on a key that has no entry. -/
theorem FcmdGood.absent (good : FcmdGood data op) (f : State → State) :
    s.checked ((St.VALUE, true) :: fcmdChecks data op) f = s.answer St.VALUE := by
  rw [good.checks]
  exact State.checked_fail _ _ _ (by decide)

theorem FcmdGood.present (good : FcmdGood data op) (f : State → State) : s.checked ((St.VALUE, false) :: fcmdChecks data op) f = f s :=
  State.checked_ok _ _ _ ((firstStatus_false ..).trans good.passes)

theorem FcmdGood.lookup_absent (good : FcmdGood data 1) (absent : s.fdbFind s.fbufMac s.fbufVid = none) : s.fdbLookup data = s.answer St.VALUE := by
  unfold State.fdbLookup
  rw [absent]
  exact good.absent _

theorem FcmdGood.lookup_present (good : FcmdGood data 1) {k : Nat} {e : FdbEnt} (found : s.fdbFind s.fbufMac s.fbufVid = some k)
    (entry : s.fdbAt k = some e) : s.fdbLookup data = (s.setFbuf e.words).answer St.OK := by
  unfold State.fdbLookup
  rw [found]
  refine (good.present _).trans ?_
  rw [Option.bind_some, entry]
  rfl

theorem FcmdGood.delete_absent (good : FcmdGood data 3) (absent : s.fdbFind s.fbufMac s.fbufVid = none) : s.fdbDelete data = s.answer St.VALUE := by
  unfold State.fdbDelete
  rw [absent]
  exact good.absent _

theorem FcmdGood.delete_present (good : FcmdGood data 3) {k : Nat} (found : s.fdbFind s.fbufMac s.fbufVid = some k) :
    s.fdbDelete data = (s.setFdb k none).answer St.OK := by
  unfold State.fdbDelete
  rw [found]
  exact good.present _

theorem FcmdGood.read (good : FcmdGood data 4) : s.fdbRead data =
    (s.setFbuf (((s.fdbAt (SWB_FCMD.INDEX.of data * 4 + SWB_FCMD.WAY.of data)).map FdbEnt.words).getD [])).answer St.OK :=
  State.checked_ok _ _ _ good.passes

theorem FcmdGood.insert_refused (good : FcmdGood data 2) (fails : firstStatus s.fdbInsertChecks ≠ St.OK) :
    s.fdbInsert data = s.answer (firstStatus s.fdbInsertChecks) := by
  have status := firstStatus_append good.passes s.fdbInsertChecks
  unfold State.fdbInsert
  rw [State.checked_fail _ _ _ (status ▸ fails), status]

/-- An entry that passes its checks has a key of its own and a way to go to (R187). -/
theorem State.fdbInsertChecks_ok (passes : firstStatus s.fdbInsertChecks = St.OK) :
    s.fdbFind s.fbufMac s.fbufVid = none ∧ ∃ k, s.fdbFree s.fbufMac s.fbufVid = some k := by
  have conflict := check_passes_of_firstStatus_ok passes (List.mem_of_getElem? (i := 2) rfl) (by decide)
  have space := check_passes_of_firstStatus_ok passes (List.mem_of_getElem? (i := 3) rfl) (by decide)
  obtain ⟨absent, -⟩ := Bool.or_eq_false_iff.1 conflict
  exact ⟨Option.isSome_eq_false_iff.1 absent |> Option.isNone_iff_eq_none.1, Option.isSome_iff_exists.1 (Option.isNone_eq_false_iff.1 space)⟩

theorem FcmdGood.insert_placed (good : FcmdGood data 2) (passes : firstStatus s.fdbInsertChecks = St.OK) {k : Nat}
    (free : s.fdbFree s.fbufMac s.fbufVid = some k) : s.fdbInsert data = (s.setFdb k (some s.fbufEntry)).answer St.OK := by
  have status : firstStatus (fcmdChecks data 2 ++ s.fdbInsertChecks) = St.OK := (firstStatus_append good.passes _).trans passes
  unfold State.fdbInsert
  rw [State.checked_ok _ _ _ status, State.fdbPlace, free]

end FdbCommands

section Sweep

theorem NMap.get_below {α : Type} [DecidableEq α] {d : α} {n : Nat} {m : NMap α} (rising : NMap.above d n m = true) {j : Nat} (below : j < n) :
    NMap.get m d j = d := by
  induction m generalizing n with
  | nil => rfl
  | cons e r ih =>
    simp only [NMap.above, Bool.and_eq_true, decide_eq_true_eq] at rising
    obtain ⟨⟨low, -⟩, rest⟩ := rising
    rw [NMap.get, if_neg (by omega)]
    exact ih rest (by omega)

variable (act : State → Nat → FdbEnt → State)

/-- An action on one listed entry. -/
def State.onEntry (s : State) (e : Nat × Option FdbEnt) : State := e.2.elim s (act s e.1)

variable {act}

theorem State.FdbOnly.sweep (only : ∀ (s t : State) k x, s.FdbOnly t → s.FdbOnly (act t k x)) {s t : State} (h : s.FdbOnly t)
    (l : NMap (Option FdbEnt)) : s.FdbOnly (l.foldl (State.onEntry act) t) := by
  induction l generalizing t with
  | nil => exact h
  | cons e r ih =>
    refine ih ?_
    obtain ⟨k, _ | x⟩ := e
    · exact h
    · exact only _ _ k x h

variable {after : FdbEnt → Option FdbEnt}
  (acts : ∀ (s : State) k x, s.fdbAt k = some x → ∀ j, (act s k x).fdbAt j = if k = j then after x else s.fdbAt j)
include acts

/-- A sweep over the listed entries of a database acts on each once, from what it held. -/
theorem State.fdbAt_sweepFrom {l : NMap (Option FdbEnt)} {n : Nat} (rising : NMap.above none n l = true) {s : State}
    (listed : ∀ j, n ≤ j → s.fdbAt j = NMap.get l none j) (j : Nat) :
    (l.foldl (State.onEntry act) s).fdbAt j = if n ≤ j then (s.fdbAt j).bind after else s.fdbAt j := by
  induction l generalizing s n with
  | nil =>
    split
    · next inside => rw [List.foldl_nil, listed j inside]; rfl
    · rfl
  | cons e r ih =>
    obtain ⟨k, _ | x⟩ := e
    · simp [NMap.above] at rising
    simp only [NMap.above, Bool.and_eq_true, decide_eq_true_eq] at rising
    obtain ⟨⟨low, -⟩, rest⟩ := rising
    have here : s.fdbAt k = some x := (listed k low).trans (if_pos rfl)
    have acted := acts s k x here
    have others : ∀ i, k + 1 ≤ i → (act s k x).fdbAt i = NMap.get r none i := fun i hi => by
      rw [acted, if_neg (by omega), listed i (by omega), NMap.get, if_neg (by show ¬ k = i; omega)]
    rw [List.foldl_cons]
    refine (ih rest others).trans ?_
    rcases Nat.lt_trichotomy j k with less | rfl | more
    · rw [if_neg (by omega), acted, if_neg (by omega)]
      split
      · next inside =>
        rw [listed j inside, NMap.get, if_neg (by show ¬ k = j; omega), NMap.get_below rest (by omega)]
        rfl
      · rfl
    · rw [if_neg (by omega), if_pos low, acted, if_pos rfl, here]
      rfl
    · rw [if_pos (by omega), if_pos (by omega), acted, if_neg (by omega)]

theorem State.fdbAt_sweep {s : State} (canonical : NMap.wf s.sw.fdb none = true) (j : Nat) :
    (s.sw.fdb.foldl (State.onEntry act) s).fdbAt j = (s.fdbAt j).bind after :=
  (State.fdbAt_sweepFrom acts canonical (fun _ _ => rfl) j).trans (if_pos (Nat.zero_le j))

end Sweep

section Flush

variable (data : Nat) (s : State)

/-- FLUSH takes this entry (R187). -/
def flushTakes (e : FdbEnt) : Bool := !e.isStatic && (!decide (SWB_FCMD.BYPORT.of data = 1) || e.port == SWB_FCMD.PORT.of data)

def State.flushEntry (s : State) (k : Nat) (e : FdbEnt) : State := if flushTakes data e then s.setFdb k none else s

theorem State.fdbAt_flushEntry (k : Nat) (x : FdbEnt) (here : s.fdbAt k = some x) (j : Nat) :
    (s.flushEntry data k x).fdbAt j = if k = j then (if flushTakes data x then none else some x) else s.fdbAt j := by
  unfold State.flushEntry
  split
  · exact s.fdbAt_setFdb k none j
  · split
    · next same => exact same ▸ here
    · rfl

theorem State.FdbOnly.flushEntry (s t : State) (k : Nat) (x : FdbEnt) (h : s.FdbOnly t) : s.FdbOnly (t.flushEntry data k x) := by
  unfold State.flushEntry
  split
  · exact h.setFdb k none
  · exact h

variable {data}

theorem FcmdGood.flush (good : FcmdGood data 5) : s.fdbFlush data = (s.sw.fdb.foldl (State.onEntry (State.flushEntry data)) s).answer St.OK := by
  unfold State.fdbFlush
  rw [State.checked_ok _ _ _ good.passes]
  refine congrArg (State.answer · St.OK) (congrArg (fun g => List.foldl g s s.sw.fdb) (funext fun t => funext fun e => ?_))
  obtain ⟨k, _ | x⟩ := e <;> rfl

end Flush

section Ageing

variable (s : State)

/-- What a sweep leaves of an entry (R185). -/
def FdbEnt.aged (e : FdbEnt) : Option FdbEnt := if e.isStatic then some e else if 5 ≤ e.age + 1 then none else some { e with age := e.age + 1 }

theorem State.fdbAt_ageEntry (k : Nat) (x : FdbEnt) (here : s.fdbAt k = some x) (j : Nat) :
    (s.ageEntry k x).fdbAt j = if k = j then x.aged else s.fdbAt j := by
  unfold State.ageEntry FdbEnt.aged
  split
  · split
    · next same => exact same ▸ here
    · rfl
  · split
    · exact s.fdbAt_setFdb k none j
    · exact s.fdbAt_setFdb k _ j

theorem State.FdbOnly.ageEntry (s t : State) (k : Nat) (x : FdbEnt) (h : s.FdbOnly t) : s.FdbOnly (t.ageEntry k x) := by
  unfold State.ageEntry
  split
  · exact h
  · split <;> exact h.setFdb k _

theorem State.ageingSweep_off (off : s.on SWB_FDBCFG.AGE_T = false) : s.ageingSweep = s := if_neg (by simp [off])

theorem State.ageingSweep_on (aged : s.on SWB_FDBCFG.AGE_T = true) : s.ageingSweep = s.sw.fdb.foldl (State.onEntry State.ageEntry) s := by
  unfold State.ageingSweep
  rw [if_pos aged]
  refine congrArg (fun g => List.foldl g s s.sw.fdb) (funext fun t => funext fun e => ?_)
  obtain ⟨k, _ | x⟩ := e <;> rfl

end Ageing

section Decision

variable (s : State)

/-- The queues a frame goes to, or none where it is filtered (R177, R186). -/
def State.destinations (d : SwIn) : Option (List Nat) := (d.sq.map (fun q => [q])).or (s.lookupQueues d.frame)

/-- A frame gets its number in the buffer, before any copy of it is made. -/
def State.numbered (f : SwFrame) : State :=
  s.modSw (fun w => { w with nextFrame := s.sw.nextFrame + 1, frames := NMap.set w.frames default s.sw.nextFrame { f with copies := 0 } })

/-- The copies of a numbered frame, metered or handed over (R178, R219). -/
def State.copiesPlaced (d : SwIn) (no : Nat) (queues : List Nat) : State :=
  if d.metered then s.meteredCopies no queues else queues.foldl (fun s q => s.placeCopy no q d.frame.pcp d.frame.dei false) s

/-- A frame of which no copy was admitted leaves the buffer. -/
def State.dropUncopied (no : Nat) : State :=
  if (s.frameNo no).copies = 0 then (s.modSw (fun w => { w with frames := NMap.del w.frames no })).freeFrame (s.frameNo no) else s

/-- A frame goes to its queues. -/
def State.forwarded (d : SwIn) (queues : List Nat) : State :=
  (((s.madeCopies d.frame queues).2.numbered d.frame).copiesPlaced d (s.madeCopies d.frame queues).2.sw.nextFrame
    (s.madeCopies d.frame queues).1).dropUncopied (s.madeCopies d.frame queues).2.sw.nextFrame

/-- The hub once it has learned from a frame, where the frame teaches. -/
def State.learned (d : SwIn) : State := if d.learn then s.learn d.frame else s

theorem State.frameDecide_halted (d : SwIn) (halted : s.on SWB_STATUS.HALTED = true) :
    s.frameDecide d = (s.freeFrame d.frame).swDrop d.frame.port Drop.NOBUF := if_pos halted

theorem State.frameDecide_eq (d : SwIn) (runs : s.on SWB_STATUS.HALTED = false) : s.frameDecide d =
    ((s.learned d).destinations d).elim (((s.learned d).freeFrame d.frame).swDrop d.frame.port Drop.FILTER) ((s.learned d).forwarded d) := by
  unfold State.frameDecide State.destinations State.learned
  rw [if_neg (by simp [runs])]
  dsimp only
  generalize (if d.learn = true then s.learn d.frame else s) = u
  cases d.sq with
  | some q => rfl
  | none => cases u.lookupQueues d.frame <;> rfl

theorem exec_switchFrameComplete {d : SwIn} {rest : List SwIn} (oldest : s.sw.done = d :: rest) :
    exec .switchFrameComplete s = .next ((s.modSw (fun w => { w with done := rest })).frameDecide d) := by
  show Host.Outcome.next s.frameComplete = _
  rw [State.frameComplete, oldest]

end Decision

section Learning

variable (s : State)

theorem State.learn_unknown (f : SwFrame) {k : Nat} (learns : s.on SWB_PCFG.LEARN f.port = true) (long : 12 ≤ f.bytes.length)
    (single : isGroup (smacOf f) = false) (absent : s.fdbFind (smacOf f) f.vid = none) (free : s.fdbFree (smacOf f) f.vid = some k) :
    s.learn f = s.setFdb k (some ⟨smacOf f, f.vid, false, f.port, s.rd SWB_PCFG.LEARN_SQ f.port, 0, 0⟩) := by
  unfold State.learn
  dsimp only
  rw [if_neg (by simp [learns, single]; omega), absent, free]

@[simp] theorem State.sw_wake (j : Nat) : (s.wake j).sw = s.sw := by
  unfold State.wake
  split <;> rfl

/-- The scheduler's nodes brought up for a copy that enters queue `q` (R209). -/
def State.queueWoken (q : Nat) : State :=
  if (s.queueOf q).isEmpty then
    (if (s.activeQueues (s.parentOf q)).isEmpty then s.wake (4096 + s.parentOf q) else s).wake q
  else s

theorem State.enqueueCopy_eq (q : Nat) (c : Copy) :
    s.enqueueCopy q c = (s.queueWoken q).setQueue q ((s.queueWoken q).queueOf q ++ [c]) := rfl

@[simp] theorem State.sw_queueWoken (q : Nat) : (s.queueWoken q).sw = s.sw := by
  unfold State.queueWoken
  split
  · rw [State.sw_wake]
    split
    · exact s.sw_wake _
    · rfl
  · rfl

/-- A copy that enters its queue changes nothing else of the switch. -/
theorem State.sw_enqueueCopy (q : Nat) (c : Copy) :
    (s.enqueueCopy q c).sw = { s.sw with queues := NMap.set s.sw.queues [] q (s.queueOf q ++ [c]) } := by
  rw [State.enqueueCopy_eq, State.setQueue, State.queueOf, State.sw_modSw, State.sw_queueWoken]
  rfl

theorem State.fdb_admitCopy (no n q pcp : Nat) (dei : Bool) : (s.admitCopy no n q pcp dei).sw.fdb = s.sw.fdb := by
  unfold State.admitCopy
  dsimp only
  rw [State.sw_enqueueCopy]
  rfl

theorem State.fdb_placeCopy (no q pcp : Nat) (dei yellow : Bool) : (s.placeCopy no q pcp dei yellow).sw.fdb = s.sw.fdb := by
  unfold State.placeCopy
  dsimp only
  split
  · rw [State.sw_swDrop]
  split
  · rw [State.sw_swDrop]
  split
  · rw [State.sw_swDrop]
  · exact s.fdb_admitCopy ..

theorem State.sw_meter (m : Nat) (f : SwFrame) : (s.meter m f).2.sw = s.sw := by
  unfold State.meter
  dsimp only
  split
  · rfl
  · dsimp only
    split <;> rfl

theorem State.sw_meterDrop (m : Nat) (k : Colour) : (s.meterDrop m k).sw = s.sw := State.sw_raiseOnce ..

theorem State.fdb_colouredCopy (no q m : Nat) (k : Option Colour) : (s.colouredCopy no q m k).sw.fdb = s.sw.fdb := by
  cases k with
  | none => exact s.fdb_placeCopy ..
  | some k =>
    unfold State.colouredCopy
    dsimp only
    split
    · rw [State.sw_meterDrop]
    · exact s.fdb_placeCopy ..

theorem State.fdb_meteredCopies (no : Nat) (queues : List Nat) : (s.meteredCopies no queues).sw.fdb = s.sw.fdb := by
  have copies : ∀ (m : Nat) (k : Option Colour) (t : State), (queues.foldl (fun s q => s.colouredCopy no q m k) t).sw.fdb = t.sw.fdb :=
    fun m k t => foldl_keeps (fun s => s.sw.fdb) _ (fun s q => s.fdb_colouredCopy no q m k) queues t
  unfold State.meteredCopies
  dsimp only
  split
  · rw [copies, State.sw_meter]
  · rw [copies, State.sw_meter]
  · refine foldl_keeps (fun s => s.sw.fdb) _ (fun s q => ?_) _ s
    split
    · rw [State.fdb_colouredCopy, State.sw_meter]
    · exact s.fdb_colouredCopy ..
  · exact copies 0 none s

theorem State.fdb_copiesPlaced (d : SwIn) (no : Nat) (queues : List Nat) : (s.copiesPlaced d no queues).sw.fdb = s.sw.fdb := by
  unfold State.copiesPlaced
  split
  · exact s.fdb_meteredCopies no queues
  · exact foldl_keeps (fun s => s.sw.fdb) _ (fun s q => s.fdb_placeCopy no q d.frame.pcp d.frame.dei false) queues s

theorem State.fdb_dropUncopied (no : Nat) : (s.dropUncopied no).sw.fdb = s.sw.fdb := by
  unfold State.dropUncopied
  split
  · rw [State.fdb_freeFrame, State.sw_modSw]
  · rfl

theorem State.sw_madeCopies (f : SwFrame) (queues : List Nat) : (s.madeCopies f queues).2.sw = s.sw :=
  foldl_keeps State.sw (fun s q => s.bump ETH_EGFILT.COUNT (s.queuePort q - 4)) (fun _ _ => rfl) _ s

/-- Of the decision on a frame, only learning touches the database (R176). -/
theorem State.fdb_frameDecide (d : SwIn) (runs : s.on SWB_STATUS.HALTED = false) : (s.frameDecide d).sw.fdb = (s.learned d).sw.fdb := by
  rw [s.frameDecide_eq d runs]
  cases (s.learned d).destinations d with
  | none => rw [Option.elim_none, State.sw_swDrop, State.fdb_freeFrame]
  | some queues =>
    rw [Option.elim_some, State.forwarded, State.fdb_dropUncopied, State.fdb_copiesPlaced, State.numbered, State.sw_modSw, State.sw_madeCopies]

end Learning

/-- Settles O22: one lemma for each way a command can end, the two sweeps entry by entry, and learning as the only part of a frame's decision
that writes the database. -/
theorem forwardingDatabase : Obligations.ForwardingDatabase := by
  refine ⟨fun s data h reserved port => ⟨fun op => ?lookup, fun op => ?insert, fun op => ?delete, fun op => ?read, fun op canonical => ?flush⟩,
    fun s => ⟨fun off => ?noAgeing, fun aged canonical => ?ageing⟩, ?learns⟩
  case lookup =>
    have good : FcmdGood data.toNat 1 := ⟨reserved, op, port⟩
    rw [exec_fdbLookup s data h]
    exact ⟨fun absent => congrArg _ (good.lookup_absent absent), fun k e found entry => congrArg _ (good.lookup_present found entry)⟩
  case insert =>
    have good : FcmdGood data.toNat 2 := ⟨reserved, op, port⟩
    rw [exec_fdbInsert s data h]
    refine ⟨fun fails => congrArg _ (good.insert_refused fails), fun passes => ?_⟩
    obtain ⟨absent, k, free⟩ := State.fdbInsertChecks_ok passes
    have only := (State.FdbOnly.refl s).setFdb k (some s.fbufEntry)
    refine ⟨_, congrArg _ (good.insert_placed passes free), ?_, by conv => { lhs; rw [only.same] }; rfl, only.keeps⟩
    have found := s.fdbFind_setFdb _ _ free absent s.fbufEntry rfl rfl
    have entry : (s.setFdb k (some s.fbufEntry)).fdbAt k = some s.fbufEntry := by rw [State.fdbAt_setFdb, if_pos rfl]
    exact (congrArg (Option.bind · _) found).trans entry
  case delete =>
    have good : FcmdGood data.toNat 3 := ⟨reserved, op, port⟩
    rw [exec_fdbDelete s data h]
    exact ⟨fun absent => congrArg _ (good.delete_absent absent), fun k found => congrArg _ (good.delete_present found)⟩
  case read => rw [exec_fdbRead s data h, FcmdGood.read ⟨reserved, op, port⟩]
  case flush =>
    have good : FcmdGood data.toNat 5 := ⟨reserved, op, port⟩
    have only := (State.FdbOnly.refl s).sweep (State.FdbOnly.flushEntry data.toNat) s.sw.fdb
    refine ⟨_, (exec_fdbFlush s data h).trans (congrArg _ (good.flush s)), fun k => ?_, ?_, only.keeps⟩
    · have swept := State.fdbAt_sweep (State.fdbAt_flushEntry data.toNat) canonical k
      refine swept.trans ?_
      cases s.fdbAt k with
      | none => rfl
      | some x => cases hx : x.isStatic <;> by_cases hp : SWB_FCMD.BYPORT.of data.toNat = 1 <;> simp [flushTakes, hx, hp, Option.filter, bne]
    · rw [State.out_answer, only.same]
  case noAgeing => exact congrArg _ (s.ageingSweep_off off)
  case ageing =>
    have only := (State.FdbOnly.refl s).sweep State.FdbOnly.ageEntry s.sw.fdb
    exact ⟨_, congrArg Host.Outcome.next (s.ageingSweep_on aged), State.fdbAt_sweep State.fdbAt_ageEntry canonical, only.same, only.keeps⟩
  case learns =>
    intro s d rest k oldest runs learns on long single absent free
    have learned : (s.modSw (fun w => { w with done := rest })).learned d = _ :=
      (if_pos learns).trans (State.learn_unknown _ d.frame on long single absent free)
    have written := (State.fdb_frameDecide (s.modSw (fun w => { w with done := rest })) d runs).trans (congrArg (fun t : State => t.sw.fdb) learned)
    refine ⟨_, exec_switchFrameComplete s oldest, ?_, fun j ne => ?_⟩
    · rw [State.fdbAt_of_fdb written, State.fdbAt_setFdb, if_pos rfl]
      rfl
    · rw [State.fdbAt_of_fdb written, State.fdbAt_setFdb, if_neg (Ne.symm ne)]
      rfl

end Sys2Proof.Machine

/-! Cells, admission and drops (R174, R178, R189 to R194), and the end of a copy's reading (R180, R191, R196). -/

namespace Sys2Proof.Machine

section CellAllocation

variable (s : State) (p : Nat)

theorem takeFirst_eq_none {α : Type} (f : α → Bool) (l : List α) (noMatch : ∀ a ∈ l, f a = false) : takeFirst f l = none := by
  induction l with
  | nil => rfl
  | cons a r ih =>
    rw [takeFirst, noMatch a List.mem_cons_self, if_neg Bool.false_ne_true, ih (fun b hb => noMatch b (List.mem_cons_of_mem a hb))]
    rfl

/-- No OPEN flit waits at the port, so the frame under reception is next (R193). -/
theorem State.cellAllocate_frame (noOpen : ∀ i ∈ s.sw.openIn, i.port ≠ p) : s.cellAllocate p = s.frameAllocate p := by
  unfold State.cellAllocate
  rw [takeFirst_eq_none _ _ (fun i hi => beq_false_of_ne (noOpen i hi))]

/-- The frame under reception at the port is the only one there, and leaves the list. -/
def State.receptionEnds : State := s.modSw (fun w => { w with inq := NMap.set w.inq [] p [] })

variable {s p} {f : SwIn} (only : NMap.get s.sw.inq [] p = [f])
include only

theorem State.frameAllocate_halted (halted : s.on SWB_STATUS.HALTED = true) :
    s.frameAllocate p = ((s.receptionEnds p).freeCells f.frame.cells).swDrop p Drop.NOBUF := by
  unfold State.frameAllocate
  rw [only]
  exact if_pos halted

variable (runs : s.on SWB_STATUS.HALTED = false) (fits : f.frame.bytes.length ≤ 9216)
include runs fits

theorem State.frameAllocate_noCell (noCell : s.sharedFree = 0 ∨ s.nextCell p = none) (droppable : p < 16) :
    s.frameAllocate p = ((s.receptionEnds p).freeCells f.frame.cells).swDrop p Drop.NOBUF := by
  have none : (if s.sharedFree = 0 then none else s.nextCell p) = none := by
    rcases noCell with empty | none
    · exact if_pos empty
    · rw [none, ite_self]
  unfold State.frameAllocate
  rw [only]
  dsimp only
  rw [if_neg (by simp [runs]), if_neg (by omega), none]
  exact if_neg (by omega)

theorem State.frameAllocate_last {c : Nat} (free : s.sharedFree ≠ 0) (cell : s.nextCell p = some c)
    (last : f.frame.cells.length + 1 = cellsFor f.frame.bytes.length) :
    s.frameAllocate p = ((s.takeCell p c).noteLastBank p f.frame.bytes.length (f.frame.cells ++ [c])).modSw (fun w =>
      { w with inq := NMap.set w.inq [] p [], done := w.done ++ [{ f with frame := { f.frame with cells := f.frame.cells ++ [c] } }] }) := by
  unfold State.frameAllocate
  rw [only]
  dsimp only
  rw [if_neg (by simp [runs]), if_neg (by omega), if_neg free, cell]
  exact if_neg (by rw [List.length_append, List.length_singleton]; omega)

end CellAllocation

section AdmissionTest

/-- The test of R189 in integers, where an excess below 0 counts as 0. -/
theorem State.admits_eq (s : State) (q n : Nat) (yellow : Bool) :
    let prof := s.rd SWB_QCFG.PROFILE q
    let k := sgn 4 (s.rd (if yellow then SWB_PROF.KY else SWB_PROF.KG) prof)
    let f := s.sharedFree
    let lim := if 0 ≤ k then f * 2 ^ k.toNat else f / 2 ^ (-k).toNat
    let len : Int := s.rd SWB_QLEN.CELLS q
    let excessAfter := max 0 (len + n - s.rd SWB_PROF.MIN prof)
    let need := excessAfter - max 0 (len - s.rd SWB_PROF.MIN prof)
    s.admits q n yellow = decide (excessAfter = 0 ∨ (need ≤ f ∧ excessAfter ≤ lim)) := by
  intro prof k f lim len excessAfter need
  have factor : (if yellow then s.rd SWB_PROF.KY prof else s.rd SWB_PROF.KG prof) = s.rd (if yellow then SWB_PROF.KY else SWB_PROF.KG) prof := by
    cases yellow <;> rfl
  have after : excessAfter = ((s.rd SWB_QLEN.CELLS q + n - s.minOf q : Nat) : Int) := by
    show max 0 ((s.rd SWB_QLEN.CELLS q : Int) + n - (s.minOf q : Nat)) = _
    omega
  have needs : need = ((s.rd SWB_QLEN.CELLS q + n - s.minOf q - (s.rd SWB_QLEN.CELLS q - s.minOf q) : Nat) : Int) := by
    show excessAfter - max 0 ((s.rd SWB_QLEN.CELLS q : Int) - (s.minOf q : Nat)) = _
    omega
  unfold State.admits
  dsimp only
  rw [factor, needs, after]
  simp only [Int.natCast_eq_zero, Int.ofNat_le, Bool.decide_or, Bool.decide_and]
  rfl

end AdmissionTest

section HandedOver

variable (s : State)

theorem State.frameNo_numbered (f : SwFrame) : (s.numbered f).frameNo s.sw.nextFrame = { f with copies := 0 } := NMap.get_set_same ..

/-- The filter of R260 concerns copies for Ethernet ports only. -/
theorem State.madeCopies_notEth (f : SwFrame) (q : Nat) (notEth : s.queuePort q < 4 ∨ 12 ≤ s.queuePort q) : s.madeCopies f [q] = ([q], s) := by
  have outside : ¬ (4 ≤ s.queuePort q ∧ s.queuePort q < 12) := by omega
  simp [State.madeCopies, notEth, outside]

/-- A frame handed to one queue, of whose copy `placeCopy` decides (R178, R194). -/
theorem State.frameDecide_handed (d : SwIn) (runs : s.on SWB_STATUS.HALTED = false) (taught : d.learn = false) (unmetered : d.metered = false)
    (q : Nat) (handed : d.sq = some q) (notEth : s.queuePort q < 4 ∨ 12 ≤ s.queuePort q) :
    s.frameDecide d = ((s.numbered d.frame).placeCopy s.sw.nextFrame q d.frame.pcp d.frame.dei false).dropUncopied s.sw.nextFrame := by
  have learned : s.learned d = s := if_neg (by simp [taught])
  have goes : s.destinations d = some [q] := by rw [State.destinations, handed]; rfl
  rw [s.frameDecide_eq d runs, learned, goes, Option.elim_some, State.forwarded, s.madeCopies_notEth d.frame q notEth]
  exact congrArg (State.dropUncopied · s.sw.nextFrame) (if_neg (by simp [unmetered]))

/-- A frame whose only copy is dropped leaves the buffer at once. -/
theorem State.dropUncopied_swDrop (f : SwFrame) (port cause : Nat) : ((s.numbered f).swDrop port cause).dropUncopied s.sw.nextFrame =
    (((s.numbered f).swDrop port cause).modSw (fun w => { w with frames := NMap.del w.frames s.sw.nextFrame })).freeFrame { f with copies := 0 } := by
  have held : ((s.numbered f).swDrop port cause).frameNo s.sw.nextFrame = { f with copies := 0 } := by
    rw [State.frameNo, State.sw_swDrop]
    exact s.frameNo_numbered f
  unfold State.dropUncopied
  rw [held]
  exact if_pos rfl

variable (no n q pcp : Nat) (dei : Bool)

theorem State.placeCopy_portDown (yellow : Bool) (down : s.swPortUp (s.queuePort q) = false) :
    s.placeCopy no q pcp dei yellow = s.swDrop (s.queuePort q) Drop.PORTDOWN := if_pos down

variable {q} (up : s.swPortUp (s.queuePort q) = true)
include up

theorem State.placeCopy_thresh (yellow : Bool) (exceeds : s.admits q (s.frameNo no).cells.length yellow = false) :
    s.placeCopy no q pcp dei yellow = s.swDrop (s.queuePort q) Drop.THRESH := by
  unfold State.placeCopy
  rw [if_neg (by simp [up])]
  exact if_pos exceeds

variable {yellow : Bool} (passes : s.admits q (s.frameNo no).cells.length yellow = true)
include passes

theorem State.placeCopy_noDesc (noneFree : s.rd SWB_DESC.FREE = 0) :
    s.placeCopy no q pcp dei yellow = s.swDrop (s.queuePort q) Drop.NODESC := by
  unfold State.placeCopy
  dsimp only
  rw [if_neg (by simp [up]), if_neg (by simp [passes]), if_pos noneFree]

theorem State.placeCopy_admitted (free : s.rd SWB_DESC.FREE ≠ 0) :
    s.placeCopy no q pcp dei yellow = s.admitCopy no (s.frameNo no).cells.length q pcp dei := by
  unfold State.placeCopy
  dsimp only
  rw [if_neg (by simp [up]), if_neg (by simp [passes]), if_neg free]

end HandedOver

section Admitted

variable (s : State) (no n q pcp : Nat) (dei : Bool)

@[simp] theorem State.rd_wake (j : Nat) (f : Field) (i : Nat) : (s.wake j).rd f i = s.rd f i := by
  unfold State.wake
  split <;> rfl

@[simp] theorem State.rd_queueWoken (f : Field) (i : Nat) : (s.queueWoken q).rd f i = s.rd f i := by
  unfold State.queueWoken
  split
  · rw [State.rd_wake]
    split
    · exact s.rd_wake ..
    · rfl
  · rfl

@[simp] theorem State.rd_enqueueCopy (c : Copy) (f : Field) (i : Nat) : (s.enqueueCopy q c).rd f i = s.rd f i := s.rd_queueWoken q f i

theorem State.rd_admitCopy_cells : (s.admitCopy no n q pcp dei).rd SWB_QLEN.CELLS q = (s.rd SWB_QLEN.CELLS q + n) % 2 ^ SWB_QLEN.CELLS.width := by
  unfold State.admitCopy
  dsimp only
  rw [State.rd_enqueueCopy, State.rd_modSw, State.rd_wr_ne _ _ _ _ _ _ (by decide), State.rd_wr_ne _ _ _ _ _ _ (by decide), State.rd_wr_same]

theorem State.rd_admitCopy_desc : (s.admitCopy no n q pcp dei).rd SWB_DESC.FREE = (s.rd SWB_DESC.FREE - 1) % 2 ^ SWB_DESC.FREE.width := by
  unfold State.admitCopy
  dsimp only
  rw [State.rd_enqueueCopy, State.rd_modSw, State.rd_wr_same, State.rd_wr_ne _ _ _ _ _ _ (by decide), State.rd_wr_ne _ _ _ _ _ _ (by decide)]

/-- An admitted copy counts in its frame (R192). -/
theorem State.frameNo_admitCopy : (s.admitCopy no n q pcp dei).frameNo no = { s.frameNo no with copies := (s.frameNo no).copies + 1 } := by
  unfold State.admitCopy
  dsimp only
  rw [State.frameNo, State.sw_enqueueCopy]
  exact NMap.get_set_same ..

theorem State.queueOf_admitCopy : (s.admitCopy no n q pcp dei).queueOf q = s.queueOf q ++ [⟨no, q, pcp, dei⟩] := by
  unfold State.admitCopy
  dsimp only
  rw [State.queueOf, State.sw_enqueueCopy]
  exact NMap.get_set_same ..

theorem State.dropUncopied_admitCopy : (s.admitCopy no n q pcp dei).dropUncopied no = s.admitCopy no n q pcp dei :=
  if_neg (by rw [State.frameNo_admitCopy]; exact Nat.succ_ne_zero _)

end Admitted

section Reading

variable (s : State) (p : Nat) {c : Copy} (oldest : s.egressOf p = [c])
include oldest

theorem State.egressRead_sent (up : s.swPortUp p = true) :
    s.egressRead p [] none = ((s.setEgress p []).sendCopy p (s.frameNo c.frame) c).releaseCopy c := by
  unfold State.egressRead
  rw [oldest]
  exact if_pos up

theorem State.egressRead_portDown (down : s.swPortUp p = false) :
    s.egressRead p [] none = ((s.setEgress p []).releaseCopy c).swDrop p Drop.PORTDOWN := by
  unfold State.egressRead
  rw [oldest]
  exact if_neg (by show ¬ s.swPortUp p = true; simp [down])

theorem State.egressRead_uncorrectable (bank addr : Nat) :
    s.egressRead p [] (some (bank, addr)) = (((s.setEgress p []).releaseCopy c).swDrop p Drop.ECC).bankUe bank addr := by
  unfold State.egressRead
  rw [oldest]
  rfl

end Reading

/-- Settles O23: cell by cell, then the test of R189, then one lemma for each way a decision on a frame or the reading of a copy can end. -/
theorem frameAdmission : Obligations.FrameAdmission := by
  refine ⟨fun s p f noOpen only fits => ?cells, State.admits_eq, fun s d only => ?decision, fun s p c oldest => ?reading⟩
  case cells =>
    have act : exec (.switchCellAllocate p) s = .next (s.frameAllocate p.val) := congrArg Host.Outcome.next (s.cellAllocate_frame p.val noOpen)
    rw [act]
    exact ⟨fun halted => congrArg _ (State.frameAllocate_halted only halted),
      fun runs noCell droppable => congrArg _ (State.frameAllocate_noCell only runs fits noCell droppable),
      fun c runs free cell last => congrArg _ (State.frameAllocate_last only runs fits free cell last)⟩
  case decision =>
    intro base
    rw [exec_switchFrameComplete s only]
    refine ⟨fun halted => congrArg _ (base.frameDecide_halted d halted), fun runs taught unhanded unknown => ?filter,
      fun q runs taught unmetered handed notEth => ?handed⟩
    case filter =>
      have learned : base.learned d = base := if_neg (by simp [taught])
      have nowhere : base.destinations d = none := by rw [State.destinations, unhanded]; exact unknown
      rw [base.frameDecide_eq d runs, learned, nowhere]
      rfl
    case handed =>
      intro no u gone
      rw [base.frameDecide_handed d runs taught unmetered q handed notEth]
      have held : u.frameNo no = { d.frame with copies := 0 } := base.frameNo_numbered d.frame
      have cells : (u.frameNo no).cells.length = d.frame.cells.length := by rw [held]
      refine ⟨fun down => ?portDown, fun up exceeds => ?thresh, fun up passes noneFree => ?noDesc, fun up passes free => ?admitted⟩
      case portDown =>
        have placed := u.placeCopy_portDown no q d.frame.pcp d.frame.dei false down
        exact congrArg _ ((congrArg (State.dropUncopied · no) placed).trans (base.dropUncopied_swDrop d.frame _ _))
      case thresh =>
        have placed := u.placeCopy_thresh no d.frame.pcp d.frame.dei up false (by rw [cells]; exact exceeds)
        exact congrArg _ ((congrArg (State.dropUncopied · no) placed).trans (base.dropUncopied_swDrop d.frame _ _))
      case noDesc =>
        have placed := u.placeCopy_noDesc no d.frame.pcp d.frame.dei up (yellow := false) (by rw [cells]; exact passes) noneFree
        exact congrArg _ ((congrArg (State.dropUncopied · no) placed).trans (base.dropUncopied_swDrop d.frame _ _))
      case admitted =>
        have placed := u.placeCopy_admitted no d.frame.pcp d.frame.dei up (yellow := false) (by rw [cells]; exact passes) free
        rw [cells] at placed
        have ends := (congrArg (State.dropUncopied · no) placed).trans (u.dropUncopied_admitCopy no _ q _ _)
        refine ⟨_, congrArg _ ends, rfl, u.rd_admitCopy_cells .., u.rd_admitCopy_desc .., ?_, u.queueOf_admitCopy ..⟩
        rw [State.frameNo_admitCopy, held]
  case reading =>
    exact ⟨fun up => congrArg _ (s.egressRead_sent p.val oldest up), fun down => congrArg _ (s.egressRead_portDown p.val oldest down),
      fun b a => congrArg _ (s.egressRead_uncorrectable p.val oldest b.val a.val)⟩

end Sys2Proof.Machine

/-! Banks of the buffer (R196 to R199): the scrubber, how `SWB_BCMD` is answered, the start and the end of a substitution, and a bank without a
spare, which is retired or halts the switch. -/

namespace Sys2Proof.Machine

section Scrubbing

variable (s : State)

theorem State.bufferScrub_off (ce ue : List Nat) (off : s.on SWB_ECCCFG.SCRUB_EN = false) : s.bufferScrub ce ue = s := if_neg (by simp [off])

/-- Inside a pass, a step that finds nothing only moves on (R196). -/
theorem State.bufferScrub_clean (scrubs : s.on SWB_ECCCFG.SCRUB_EN = true) (inside : s.sw.scrubAddr ≠ 0) :
    s.bufferScrub [] [] = s.modSw (fun w => { w with scrubAddr := (w.scrubAddr + 1) % 32768 }) := by
  unfold State.bufferScrub
  rw [if_pos scrubs, if_neg inside]
  rfl

end Scrubbing

section BankMark

theorem exec_bankMarkFailing (s : State) (data : Word) (h : s.serves Reg.SWB_BCMD.base true) :
    exec (.bankMarkFailing data) s = .next (s.bankMark data.toNat) := congrArg _ (State.access_serves s _ true _ h)

variable {s : State} {data : Nat} (reserved : Reg.SWB_BCMD.reservedSet data = false) (go : SWB_BCMD.GO.of data = 1)

include reserved in
/-- `SWB_BCMD` holds write-only fields, which meet no check but that of the reserved bits (R6, R7). -/
theorem State.writeChecks_bcmd : firstStatus (s.writeChecks Reg.SWB_BCMD 0 data) = St.OK := by
  rw [State.firstStatus_writeChecks, reserved]
  rfl

include reserved go

theorem State.bankMark_replaced (replaced : s.bankReplaced (SWB_BCMD.BANK.of data) = true) : s.bankMark data = s.answer St.STATE := by
  unfold State.bankMark
  dsimp only
  rw [replaced, Bool.and_true, decide_eq_true go,
    State.writeReg_ownFail (State.writeChecks_bcmd reserved) _ (by rw [firstStatus_state_busy]; decide), firstStatus_state_busy]

theorem State.bankMark_copying (inUse : s.bankReplaced (SWB_BCMD.BANK.of data) = false) (copying : s.on SWB_STATUS.COPY = true) :
    s.bankMark data = s.answer St.BUSY := by
  unfold State.bankMark
  dsimp only
  rw [inUse, copying, Bool.and_false, Bool.and_true, decide_eq_true go]
  exact State.writeReg_ownFail (State.writeChecks_bcmd reserved) _ (by decide)

theorem State.bankMark_taken (inUse : s.bankReplaced (SWB_BCMD.BANK.of data) = false) (idle : s.on SWB_STATUS.COPY = false) :
    s.bankMark data = (s.bankFailing (SWB_BCMD.BANK.of data)).answer St.OK := by
  unfold State.bankMark
  dsimp only
  rw [inUse, idle, Bool.and_false, State.writeReg_accepted (State.writeChecks_bcmd reserved) _ (by decide), if_pos go]
  rfl

end BankMark

section FailingBank

variable {s : State} {b : Nat}

/-- A bank in use serves itself and is sound (R197). -/
theorem State.bankSound_of_inUse (inUse : s.bankReplaced b = false) : s.physBank b = b ∧ s.bankSound b = true := by
  simp only [State.bankReplaced, Bool.or_eq_false_iff, bne_eq_false_iff_eq] at inUse
  obtain ⟨⟨⟨self, used⟩, notWaiting⟩, notCopied⟩ := inUse
  refine ⟨self, ?_⟩
  simp only [State.bankSound, self, used, notWaiting, notCopied]
  rfl

variable (inUse : s.bankReplaced b = false) (idle : s.on SWB_STATUS.COPY = false)
include inUse idle

theorem State.bankFailing_substituted {k : Nat} (spare : s.freeSpareBank = some k) : s.bankFailing b = s.startCopy b k := by
  unfold State.bankFailing
  rw [if_neg (by simp [State.bankSound_of_inUse inUse]), if_neg (by simp [idle]), spare]

theorem State.bankFailing_unspared (noSpare : s.freeSpareBank = none) : s.bankFailing b = s.retireBank b := by
  unfold State.bankFailing
  rw [if_neg (by simp [State.bankSound_of_inUse inUse]), if_neg (by simp [idle]), noSpare]

end FailingBank

section Substitution

variable (s : State) (bank spare : Nat)

/-- The spare named for a bank in `SWB_SPARE` (R198). -/
def State.spareNamed : State :=
  if spare = 32 then (s.wr SWB_SPARE.LOG0 bank).wr SWB_SPARE.USED0 1 else (s.wr SWB_SPARE.LOG1 bank).wr SWB_SPARE.USED1 1

theorem State.startCopy_eq : s.startCopy bank spare =
    ((((((s.wr SWB_BANK.STATE 0 spare).spareBankCount.wr SWB_STATUS.COPY 1).wr SWB_STATUS.COPYBANK bank).spareNamed bank spare).modSw
      (fun w => { w with copyTo := spare })).raise Ev.SWB_BANK_SUBST (bank + 32 * spare)) := rfl

theorem State.rd_spareNamed (f : Field) (i : Nat) (notLog0 : SWB_SPARE.LOG0.id ≠ f.id) (notUsed0 : SWB_SPARE.USED0.id ≠ f.id)
    (notLog1 : SWB_SPARE.LOG1.id ≠ f.id) (notUsed1 : SWB_SPARE.USED1.id ≠ f.id) : (s.spareNamed bank spare).rd f i = s.rd f i := by
  unfold State.spareNamed
  split
  · rw [State.rd_wr_ne _ _ _ _ _ _ notUsed0, State.rd_wr_ne _ _ _ _ _ _ notLog0]
  · rw [State.rd_wr_ne _ _ _ _ _ _ notUsed1, State.rd_wr_ne _ _ _ _ _ _ notLog1]

theorem State.rd_startCopy_copy : (s.startCopy bank spare).rd SWB_STATUS.COPY = 1 := by
  rw [State.startCopy_eq, State.rd_raise _ _ _ _ _ (by decide), State.rd_modSw,
    State.rd_spareNamed _ _ _ _ _ (by decide) (by decide) (by decide) (by decide), State.rd_wr_ne _ _ _ _ _ _ (by decide), State.rd_wr_same]
  rfl

theorem State.rd_startCopy_bank : (s.startCopy bank spare).rd SWB_STATUS.COPYBANK = bank % 32 := by
  rw [State.startCopy_eq, State.rd_raise _ _ _ _ _ (by decide), State.rd_modSw,
    State.rd_spareNamed _ _ _ _ _ (by decide) (by decide) (by decide) (by decide), State.rd_wr_same]
  rfl

theorem State.rd_startCopy_spare : (s.startCopy bank spare).rd SWB_BANK.STATE spare = 0 := by
  rw [State.startCopy_eq, State.rd_raise _ _ _ _ _ (by decide), State.rd_modSw,
    State.rd_spareNamed _ _ _ _ _ (by decide) (by decide) (by decide) (by decide), State.rd_wr_ne _ _ _ _ _ _ (by decide),
    State.rd_wr_ne _ _ _ _ _ _ (by decide), State.spareBankCount, State.rd_wr_ne _ _ _ _ _ _ (by decide), State.rd_wr_same]
  rfl

theorem State.copyTo_startCopy : (s.startCopy bank spare).sw.copyTo = spare := by rw [State.startCopy_eq, State.sw_raise]; rfl

theorem State.nextBank_none (fuel : Nat) (noneWaits : s.sw.bankWait = []) : s.nextBank fuel = s := by
  cases fuel with
  | zero => rfl
  | succ n => rw [State.nextBank, noneWaits]

theorem State.copyDone_idle (idle : s.on SWB_STATUS.COPY = false) : s.copyDone = s := if_neg (by simp [idle])

/-- The copy into the first spare ends with no bank waiting (R198 step 4). -/
theorem State.copyDone_first (copying : s.on SWB_STATUS.COPY = true) (first : s.sw.copyTo = 32) (noneWaits : s.sw.bankWait = []) :
    s.copyDone = ((s.wr SWB_STATUS.COPY 0).wr SWB_BANK.STATE 2 (s.rd SWB_STATUS.COPYBANK)).raise Ev.SWB_BANK_DONE := by
  unfold State.copyDone
  dsimp only
  rw [if_pos copying, if_neg (by simp [first])]
  exact State.nextBank_none _ _ (by rw [State.sw_raise]; exact noneWaits)

end Substitution

section Retirement

variable (s : State) (b : Nat)

/-- A bank marked as retired, before the pool follows (R199). -/
def State.bankOut : State :=
  ((s.wr SWB_STATUS.RETIRED 1).wr SWB_BANK.STATE 3 (s.physBank b)).modSw (fun w => { w with retiredBank := some b })

theorem State.retireBank_first (first : s.on SWB_STATUS.RETIRED = false) :
    s.retireBank b = (s.bankOut b).recomputePool.raise Ev.SWB_BANK_RETIRED b := if_neg (by simp [first])

theorem State.retireBank_second (second : s.on SWB_STATUS.RETIRED = true) : s.retireBank b = s.haltSwitch := if_pos second

/-- The pool's reserve rests on profiles and credits, not on banks (R188). -/
theorem State.reservedCells_bankOut : (s.bankOut b).reservedCells = s.reservedCells := by
  have rd : ∀ (f : Field) (i : Nat), SWB_STATUS.RETIRED.id ≠ f.id → SWB_BANK.STATE.id ≠ f.id → (s.bankOut b).rd f i = s.rd f i :=
    fun f i notRetired notState => by
      rw [State.bankOut, State.rd_modSw, State.rd_wr_ne _ _ _ _ _ _ notState, State.rd_wr_ne _ _ _ _ _ _ notRetired]
  have count : ∀ i, (s.bankOut b).profileCount i = s.profileCount i := fun _ => rfl
  unfold State.reservedCells State.reserve State.headroom
  simp (disch := decide) only [rd, count]

theorem State.rd_recomputePool (f : Field) (i : Nat) (notReserved : SWB_RESV.RESERVED.id ≠ f.id) (notShared : SWB_POOL.SHARED.id ≠ f.id) :
    s.recomputePool.rd f i = s.rd f i := by
  unfold State.recomputePool
  rw [State.rd_wr_ne _ _ _ _ _ _ notShared, State.rd_wr_ne _ _ _ _ _ _ notReserved]

theorem State.rd_bankOut_retired : (s.bankOut b).rd SWB_STATUS.RETIRED = 1 := by
  rw [State.bankOut, State.rd_modSw, State.rd_wr_ne _ _ _ _ _ _ (by decide), State.rd_wr_same]
  rfl

variable (first : s.on SWB_STATUS.RETIRED = false)
include first

theorem State.rd_retireBank_retired : (s.retireBank b).rd SWB_STATUS.RETIRED = 1 := by
  rw [s.retireBank_first b first, State.rd_raise _ _ _ _ _ (by decide), State.rd_recomputePool _ _ _ (by decide) (by decide),
    State.rd_bankOut_retired]

theorem State.rd_retireBank_state : (s.retireBank b).rd SWB_BANK.STATE (s.physBank b) = 3 := by
  rw [s.retireBank_first b first, State.rd_raise _ _ _ _ _ (by decide), State.rd_recomputePool _ _ _ (by decide) (by decide),
    State.bankOut, State.rd_modSw, State.rd_wr_same]
  rfl

theorem State.retiredBank_retireBank : (s.retireBank b).sw.retiredBank = some b := by
  rw [s.retireBank_first b first, State.sw_raise]
  rfl

theorem State.rd_retireBank_shared :
    (s.retireBank b).rd SWB_POOL.SHARED = (131072 - s.reservedCells - 32768) % 2 ^ SWB_POOL.SHARED.width := by
  have retired : (s.bankOut b).on SWB_STATUS.RETIRED = true := by rw [State.on, State.rd_bankOut_retired]; rfl
  rw [s.retireBank_first b first, State.rd_raise _ _ _ _ _ (by decide), State.recomputePool,
    State.rd_wr_same, State.reservedCells_bankOut, if_pos retired]

theorem State.out_retireBank : (s.retireBank b).out = s.out := by
  rw [s.retireBank_first b first, State.out_raise]
  rfl

end Retirement

section Halt

variable (s : State)

/-- A halt discards the copies in the queues and egress buffers (R199). -/
def State.copiesDiscarded : State :=
  ((s.sw.queues.flatMap (fun e => e.2)) ++ (s.sw.egress.flatMap (fun e => e.2))).foldl (fun s c => s.releaseCopy c)
    (s.modSw (fun w => { w with queues := [], egress := [] }))

/-- A halt discards the frames that wait for their decision (R199). -/
def State.doneDiscarded : State :=
  s.sw.done.foldl (fun s d => (s.freeFrame d.frame).swDrop d.frame.port Drop.NOBUF) (s.modSw (fun w => { w with done := [] }))

/-- A halt drops the OPEN frames under reception (R199). -/
def State.partsDiscarded : State := (s.sw.rx.filter (fun e => !e.2.dropped)).foldl (fun s e => s.dropPart e.1 Drop.NOBUF false e.2) s

/-- A halt discards the frames under reception elsewhere (R199). -/
def State.receptionsDiscarded : State :=
  (s.sw.inq.flatMap (fun e => e.2)).foldl (fun s d => (s.freeCells d.frame.cells).swDrop d.frame.port Drop.NOBUF)
    (s.modSw (fun w => { w with inq := [] }))

theorem State.haltSwitch_eq : s.haltSwitch =
    ((s.wr SWB_STATUS.HALTED 1).raise Ev.SWB_BANK_FATAL).copiesDiscarded.doneDiscarded.partsDiscarded.receptionsDiscarded := rfl

theorem State.releases_copiesDiscarded : (s.modSw (fun w => { w with queues := [], egress := [] })).Releases s.copiesDiscarded :=
  State.Releases.foldl (fun _ c h => h.releaseCopy c) (State.Releases.refl _) _

theorem State.releases_doneDiscarded : (s.modSw (fun w => { w with done := [] })).Releases s.doneDiscarded :=
  State.Releases.foldl (fun _ d h => (h.freeFrame d.frame).swDrop _ _) (State.Releases.refl _) _

theorem State.releases_partsDiscarded : s.Releases s.partsDiscarded :=
  State.Releases.foldl (fun _ e h => h.dropPart e.1 _ _ e.2) (State.Releases.refl _) _

theorem State.releases_receptionsDiscarded : (s.modSw (fun w => { w with inq := [] })).Releases s.receptionsDiscarded :=
  State.Releases.foldl (fun _ d h => (h.freeCells d.frame.cells).swDrop _ _) (State.Releases.refl _) _

/-- A halted switch holds no frame: nothing is queued, in an egress buffer, complete or under reception (R199). -/
theorem State.held_haltSwitch : s.haltSwitch.sw.held = { s.sw.held with queues := [], egress := [], done := [], inq := [] } := by
  have inq : ∀ t : State, t.receptionsDiscarded.sw.held = { t.sw.held with inq := [] } := fun t => t.releases_receptionsDiscarded.held
  have done : ∀ t : State, t.doneDiscarded.sw.held = { t.sw.held with done := [] } := fun t => t.releases_doneDiscarded.held
  have queued : ∀ t : State, t.copiesDiscarded.sw.held = { t.sw.held with queues := [], egress := [] } :=
    fun t => t.releases_copiesDiscarded.held
  rw [State.haltSwitch_eq, inq, (State.releases_partsDiscarded _).held, done, queued, State.sw_raise]
  rfl

theorem State.emptied_haltSwitch :
    s.haltSwitch.sw.queues = [] ∧ s.haltSwitch.sw.done = [] ∧ s.haltSwitch.sw.inq = [] ∧ s.haltSwitch.sw.egress = [] := by
  have held := s.held_haltSwitch
  refine ⟨?_, ?_, ?_, ?_⟩
  · rw [← Sw.queues_held, held]
  · rw [← Sw.done_held, held]
  · rw [← Sw.inq_held, held]
  · rw [← Sw.egress_held, held]

theorem State.rd_haltSwitch_halted : s.haltSwitch.rd SWB_STATUS.HALTED = 1 := by
  rw [State.haltSwitch_eq, (State.releases_receptionsDiscarded _).rd _ _ (by decide), State.rd_modSw,
    (State.releases_partsDiscarded _).rd _ _ (by decide), (State.releases_doneDiscarded _).rd _ _ (by decide), State.rd_modSw,
    (State.releases_copiesDiscarded _).rd _ _ (by decide), State.rd_modSw, State.rd_raise _ _ _ _ _ (by decide), State.rd_wr_same]
  rfl

theorem State.out_haltSwitch : s.haltSwitch.out = s.out := by
  rw [State.haltSwitch_eq, (State.releases_receptionsDiscarded _).out, State.out_modSw, (State.releases_partsDiscarded _).out,
    (State.releases_doneDiscarded _).out, State.out_modSw, (State.releases_copiesDiscarded _).out, State.out_modSw, State.out_raise]
  rfl

end Halt

/-- Settles O24: one lemma for each way a bank's failure ends; a halt discards four groups of frames, each of which only gives back what it
held. -/
theorem bankFailures : Obligations.BankFailures := by
  refine ⟨fun s => ⟨fun ce ue off => congrArg _ (s.bufferScrub_off _ _ off), fun scrubs inside => congrArg _ (s.bufferScrub_clean scrubs inside)⟩,
    fun s data h reserved go => ?mark,
    fun s => ⟨fun idle => congrArg _ (s.copyDone_idle idle), fun copying first noneWaits => congrArg _ (s.copyDone_first copying first noneWaits)⟩⟩
  case mark =>
    intro b
    rw [exec_bankMarkFailing s data h]
    refine ⟨fun replaced => congrArg _ (State.bankMark_replaced reserved go replaced),
      fun inUse copying => congrArg _ (State.bankMark_copying reserved go inUse copying), fun k inUse idle spare => ?substituted,
      fun inUse idle noSpare first => ?retired, fun inUse idle noSpare second => ?halted⟩
    case substituted =>
      have act := State.bankMark_taken reserved go inUse idle
      rw [State.bankFailing_substituted inUse idle spare] at act
      exact ⟨_, congrArg _ act, rfl, s.rd_startCopy_copy b k, s.rd_startCopy_bank b k, s.rd_startCopy_spare b k, s.copyTo_startCopy b k⟩
    case retired =>
      have act := State.bankMark_taken reserved go inUse idle
      rw [State.bankFailing_unspared inUse idle noSpare] at act
      have state := s.rd_retireBank_state b first
      rw [(State.bankSound_of_inUse inUse).1] at state
      exact ⟨_, congrArg _ act, s.rd_retireBank_retired b first, state, s.retiredBank_retireBank b first, s.rd_retireBank_shared b first,
        congrArg (· ++ _) (s.out_retireBank b first)⟩
    case halted =>
      have act := State.bankMark_taken reserved go inUse idle
      rw [State.bankFailing_unspared inUse idle noSpare, s.retireBank_second b second] at act
      obtain ⟨queues, done, inq, egress⟩ := s.emptied_haltSwitch
      have halted := s.rd_haltSwitch_halted
      have out := s.out_haltSwitch
      generalize s.haltSwitch = t at act queues done inq egress halted out
      exact ⟨_, congrArg _ act, halted, queues, done, inq, egress, congrArg (· ++ _) out⟩

end Sys2Proof.Machine

/-! Ethernet ports: what a received frame passes through (R257 to R259, R261), link state (R194, R256), and transmit timestamps (R262). -/

namespace Sys2Proof.Machine

section FrameReceive

variable (s : State) (k : Nat) (b : List Byte) (corr : Nat)

/-- The codewords since the last frame are counted, none of them uncorrectable (R255). -/
def State.fecCounted : State := (s.bump ETH_FECCORR.COUNT k corr).bump ETH_FECUNC.COUNT k 0

/-- A frame whose FCS is right is counted (R257). -/
def State.ethCounted : State := ((s.fecCounted k corr).bump ETH_RXFRAMES.COUNT k).wrap ETH_RXBYTES.COUNT k (b.length + 4)

/-- Steps 3 to 7 of R257, for a frame that is long enough. -/
def State.ethForwarded (u : State) (k : Nat) (b : List Byte) (time : Nat) : State :=
  match u.gwTakes k b with
  | some h => u.gwReceive h
  | none =>
    if beAt b 12 2 = 0x8808 then u.bump ETH_RXCTL.COUNT k
    else if u.rd ETH_CTRL.MAXLEN k < b.length + 4 + (if tagged b then 0 else 4) then (u.bump ETH_RXLEN.COUNT k).swDrop (4 + k) Drop.FCS
    else if u.on ETH_CTRL.PTP_TRAP k ∧ isPtp b then
      ((u.bump ETH_RXTRAP.COUNT k).emit (.act "ptp receive timestamp" [k, u.rxStamp k time])).toNimbus b
    else
      match u.classify k b with
      | none => (u.bump ETH_RXVLAN.COUNT k).swDrop (4 + k) Drop.FCS
      | some vid => u.ethToSwitch k b vid

/-- The counters of a good frame's reception. -/
def ethCounterFields : List (Fin 1024) := [ETH_FECCORR.COUNT.id, ETH_FECUNC.COUNT.id, ETH_RXFRAMES.COUNT.id, ETH_RXBYTES.COUNT.id]

theorem State.rd_ethCounted (f : Field) (i : Nat) (other : f.id ∉ ethCounterFields) : (s.ethCounted k b corr).rd f i = s.rd f i := by
  simp only [ethCounterFields, List.mem_cons, List.not_mem_nil, or_false, not_or] at other
  obtain ⟨notCorr, notUnc, notFrames, notBytes⟩ := other
  unfold State.ethCounted State.fecCounted
  rw [State.wrap, State.rd_wr_ne _ _ _ _ _ _ (Ne.symm notBytes), State.rd_bump_ne _ _ _ _ _ _ (Ne.symm notFrames),
    State.rd_bump_ne _ _ _ _ _ _ (Ne.symm notUnc), State.rd_bump_ne _ _ _ _ _ _ (Ne.symm notCorr)]

/-- Counting a frame does not change how the rest of the configuration reads it. -/
theorem State.gwTakes_ethCounted : (s.ethCounted k b corr).gwTakes k b = s.gwTakes k b := by
  unfold State.gwTakes State.gwRuns State.isRoot State.on
  simp (disch := decide) only [State.rd_ethCounted]

theorem State.classify_ethCounted : (s.ethCounted k b corr).classify k b = s.classify k b := by
  unfold State.classify State.isMember State.on
  simp (disch := decide) only [State.rd_ethCounted]

theorem State.clsMatches_ethCounted (i : Nat) : (s.ethCounted k b corr).clsMatches i k b = s.clsMatches i k b := by
  unfold State.clsMatches State.on
  simp (disch := decide) only [State.rd_ethCounted]

theorem State.ethReceive_noLink (fcs : Bool) (time unc : Nat) (noLink : s.on ETH_STATUS.LINK k = false) :
    s.ethReceive k b fcs time corr unc = s := if_pos noLink

variable {s k} (linked : s.on ETH_STATUS.LINK k = true) (time : Nat)
include linked

theorem State.ethReceive_badFcs :
    s.ethReceive k b false time corr 0 = ((s.fecCounted k corr).bump ETH_RXFCS.COUNT k).swDrop (4 + k) Drop.FCS := by
  unfold State.ethReceive
  rw [if_neg (by simp [linked])]
  rfl

variable {b}

theorem State.ethReceive_short (short : b.length < 60) :
    s.ethReceive k b true time corr 0 = ((s.ethCounted k b corr).bump ETH_RXLEN.COUNT k).swDrop (4 + k) Drop.FCS := by
  unfold State.ethReceive
  rw [if_neg (by simp [linked])]
  exact if_pos (show b.length + 4 < 64 by omega)

theorem State.ethReceive_long (long : 60 ≤ b.length) :
    s.ethReceive k b true time corr 0 = (s.ethCounted k b corr).ethForwarded k b time := by
  unfold State.ethReceive
  rw [if_neg (by simp [linked])]
  exact if_neg (show ¬ b.length + 4 < 64 by omega)

end FrameReceive

section FrameForward

variable {u : State} {k : Nat} {b : List Byte}

section Classified

variable (time : Nat) (notGateway : u.gwTakes k b = none)
include notGateway

theorem State.ethForwarded_control (control : beAt b 12 2 = 0x8808) : u.ethForwarded k b time = u.bump ETH_RXCTL.COUNT k := by
  unfold State.ethForwarded
  rw [notGateway]
  dsimp only
  rw [if_pos control]

/-- A frame that is no control frame, not too long with a tag, and not trapped, is classified (R257). -/
theorem State.ethForwarded_plain (plain : beAt b 12 2 ≠ 0x8808) (fits : b.length + 8 ≤ u.rd ETH_CTRL.MAXLEN k)
    (noTrap : u.on ETH_CTRL.PTP_TRAP k = false) : u.ethForwarded k b time =
      (u.classify k b).elim ((u.bump ETH_RXVLAN.COUNT k).swDrop (4 + k) Drop.FCS) (u.ethToSwitch k b) := by
  have inside : ¬ u.rd ETH_CTRL.MAXLEN k < b.length + 4 + (if tagged b then 0 else 4) := by split <;> omega
  unfold State.ethForwarded
  rw [notGateway]
  dsimp only
  rw [if_neg plain, if_neg inside, if_neg (by simp [noTrap])]
  cases u.classify k b with
  | none => rw [Option.elim_none]
  | some vid => rw [Option.elim_some]

end Classified

/-- A frame that no classifier entry takes enters the switch (R81, R257). -/
theorem State.ethToSwitch_unpinned (vid : Nat) (noMatch : ∀ i, i < 512 → u.clsMatches i k b = false) : u.ethToSwitch k b vid =
    u.swEnter { frame := { frameOf (4 + k) b with vid := vid }, sq := none, metered := true, learn := true } := by
  have nowhere : (List.range 512).find? (fun i => u.clsMatches i k b) = none :=
    List.find?_eq_none.2 fun i hi => by simp [noMatch i (List.mem_range.1 hi)]
  unfold State.ethToSwitch
  rw [nowhere]

end FrameForward

section LinkState

variable (s : State) (k : Nat)

/-- A mode-4 port comes up at the speed its PHY gave, without FEC and training (R256). -/
theorem State.ethUp_phy (sp : Nat) (enabled : s.on ETH_CTRL.EN k = true) (mode : s.rd ETH_CTRL.MODE k = 4) (down : s.on ETH_STATUS.LINK k = false) :
    s.ethUp k sp = (((((s.wr ETH_STATUS.LINK 1 k).wr ETH_STATUS.SPEED sp k).setBit ETH_STATUS.FEC_ON false k).setBit ETH_STATUS.TRAINED
      false k).raise (Ev.ETH_LINK_UP k)).tell 3 k := by
  unfold State.ethUp
  rw [mode, if_neg (by simp [enabled, down])]
  rfl

/-- The registers of a port that has gone down, with its event (R256). -/
def State.ethLost : State :=
  ((((s.wr ETH_STATUS.LINK 0 k).wr ETH_STATUS.SPEED 0 k).wr ETH_STATUS.FEC_ON 0 k).wr ETH_STATUS.TRAINED 0 k).raise (Ev.ETH_LINK_DOWN k)

/-- What a port going down discards is only given back (R194). -/
theorem State.rd_portDownDiscard (p : Nat) (f : Field) (i : Nat) (other : f.id ∉ releaseFields) : (s.portDownDiscard p).rd f i = s.rd f i := by
  have released := State.Releases.foldl (g := fun s c => (s.releaseCopy c).swDrop p Drop.PORTDOWN) (fun _ c h => (h.releaseCopy c).swDrop _ _)
    (State.Releases.refl (s.modSw (fun w => { w with queues := w.queues.filter (fun e => s.queuePort e.1 != p) })))
  exact (released _).rd f i other

theorem State.rd_ethLost (f : Field) (i : Nat) (notLink : ETH_STATUS.LINK.id ≠ f.id) (notSpeed : ETH_STATUS.SPEED.id ≠ f.id)
    (notFec : ETH_STATUS.FEC_ON.id ≠ f.id) (notTrained : ETH_STATUS.TRAINED.id ≠ f.id) (notEvent : f.id ∉ eventFields) :
    (s.ethLost k).rd f i = s.rd f i := by
  rw [State.ethLost, State.rd_raise _ _ _ _ _ notEvent, State.rd_wr_ne _ _ _ _ _ _ notTrained, State.rd_wr_ne _ _ _ _ _ _ notFec,
    State.rd_wr_ne _ _ _ _ _ _ notSpeed, State.rd_wr_ne _ _ _ _ _ _ notLink]

theorem State.gwRuns_ethLost (p : Nat) : ((s.ethLost k).portDownDiscard p).gwRuns = s.gwRuns := by
  unfold State.gwRuns State.isRoot State.on
  simp (disch := decide) only [State.rd_portDownDiscard, State.rd_ethLost]

/-- A port whose loss concerns no gateway (R194, R249, R256). -/
theorem State.ethDown_noGateway (linked : s.on ETH_STATUS.LINK k = true) (noGateway : s.gwRuns = false) :
    s.ethDown k = ((s.ethLost k).portDownDiscard (4 + k)).tell 3 k := by
  have off : ((s.ethLost k).portDownDiscard (4 + k)).gwRuns = false := (s.gwRuns_ethLost k _).trans noGateway
  unfold State.ethDown
  rw [if_neg (by simp [linked])]
  exact congrArg (State.tell · 3 k) (if_neg fun h => Bool.false_ne_true (off.symm.trans h.1))

end LinkState

section Timestamps

variable (s : State) (k : Nat)

theorem exec_txtsPop (k : Fin 8) (data : Word) (h : s.serves (Reg.ETH_TXTSCMD.addr k.val 0) true) :
    exec (.txtsPop k data) s = .next (s.txtsPop k.val data.toNat) := congrArg _ (State.access_serves s _ true _ h)

/-- The oldest timestamp `e` moved into the registers, `r` left (R262). -/
def State.stampShown (e : Nat × Nat) (r : List (Nat × Nat)) : State :=
  (((({ s with eth := { s.eth with txts := NMap.set s.eth.txts [] k r } }).wr ETH_TXTSCMD.COUNT r.length k).wr ETH_TXTS_LO.TIME e.2 k).wr
    ETH_TXTS_HI.TIME (e.2 / 2 ^ 32) k).wr ETH_TXTS_INFO.TAG e.1 k

section Pop

variable {s k} {data : Nat} (common : firstStatus (s.writeChecks Reg.ETH_TXTSCMD k data) = St.OK) (pop : ETH_TXTSCMD.POP.of data = 1)
include common pop

theorem State.txtsPop_empty (empty : NMap.get s.eth.txts [] k = []) : s.txtsPop k data = s.answer St.STATE := by
  unfold State.txtsPop
  rw [empty]
  dsimp only
  rw [decide_eq_true pop]
  exact State.writeReg_ownFail common _ (by decide)

theorem State.txtsPop_oldest {e : Nat × Nat} {r : List (Nat × Nat)} (held : NMap.get s.eth.txts [] k = e :: r) :
    s.txtsPop k data = ((s.writeFields Reg.ETH_TXTSCMD k data).stampShown k e r).answer St.OK := by
  unfold State.txtsPop
  rw [held]
  dsimp only
  rw [List.isEmpty_cons, Bool.and_false, State.writeReg_accepted common _ (by decide), if_pos pop]
  rfl

end Pop

variable (e : Nat × Nat) (r : List (Nat × Nat))

theorem State.txts_stampShown : NMap.get (s.stampShown k e r).eth.txts [] k = r := NMap.get_set_same ..

theorem State.rd_stampShown_count : (s.stampShown k e r).rd ETH_TXTSCMD.COUNT k = r.length % 2 ^ ETH_TXTSCMD.COUNT.width := by
  unfold State.stampShown
  simp (disch := decide) only [State.rd_wr_ne, State.rd_wr_same]

theorem State.rd_stampShown_lo : (s.stampShown k e r).rd ETH_TXTS_LO.TIME k = e.2 % 2 ^ 32 := by
  unfold State.stampShown
  simp (disch := decide) only [State.rd_wr_ne, State.rd_wr_same]
  rfl

theorem State.rd_stampShown_hi : (s.stampShown k e r).rd ETH_TXTS_HI.TIME k = e.2 / 2 ^ 32 % 2 ^ 32 := by
  unfold State.stampShown
  simp (disch := decide) only [State.rd_wr_ne, State.rd_wr_same]
  rfl

theorem State.rd_stampShown_tag : (s.stampShown k e r).rd ETH_TXTS_INFO.TAG k = e.1 % 2 ^ ETH_TXTS_INFO.TAG.width := State.rd_wr_same ..

theorem State.out_writeFields (d : RegDesc) (i data : Nat) : (s.writeFields d i data).out = s.out := by
  rw [(s.onlyRegs_writeFields d i data).1]

end Timestamps

/-- Settles O30: one lemma for each way a frame's reception can end, the two changes of a port's link, and the oldest timestamp. -/
theorem ethernetPorts : Obligations.EthernetPorts := by
  refine ⟨fun s k b fcs time noLink => congrArg _ (s.ethReceive_noLink k.val b 0 fcs time 0 noLink), fun s k b time corr linked => ?receive,
    fun s k sp enabled mode down => ?comesUp, fun s k linked noGateway => ?goesDown, fun s k data h common pop => ?popped⟩
  case receive =>
    intro base u
    have rd : ∀ (f : Field) (i : Nat), f.id ∉ ethCounterFields → u.rd f i = s.rd f i := s.rd_ethCounted k.val b corr
    refine ⟨congrArg _ (State.ethReceive_badFcs b corr linked time), fun short => congrArg _ (State.ethReceive_short corr linked time short),
      fun long notGateway => ?_⟩
    have act : exec (.ethFrameReceive k b true time corr 0) s = .next (u.ethForwarded k.val b time) :=
      congrArg Host.Outcome.next (State.ethReceive_long corr linked time long)
    have passed : u.gwTakes k.val b = none := (s.gwTakes_ethCounted k.val b corr).trans notGateway
    rw [act]
    refine ⟨fun control => congrArg _ (State.ethForwarded_control time passed control), fun plain fits noTrap => ?_⟩
    have forwarded := State.ethForwarded_plain time passed plain (by rw [rd _ _ (by decide)]; exact fits)
      (by rw [State.on, rd _ _ (by decide)]; exact noTrap)
    have classified : u.classify k.val b = s.classify k.val b := s.classify_ethCounted k.val b corr
    rw [forwarded, classified]
    refine ⟨fun refused => by rw [refused]; rfl, fun v accepted noMatch => ?_⟩
    rw [accepted, Option.elim_some]
    exact congrArg _ (State.ethToSwitch_unpinned v fun i hi => (s.clsMatches_ethCounted k.val b corr i).trans (noMatch i hi))
  case comesUp =>
    have act := s.calm.ethUp_phy k.val (sp.val + 1) enabled mode down
    exact congrArg (fun t : State => Host.Outcome.next t.settled) act
  case goesDown =>
    have act := s.calm.ethDown_noGateway k.val linked noGateway
    exact congrArg (fun t : State => Host.Outcome.next t.settled) act
  case popped =>
    rw [exec_txtsPop s k data h]
    refine ⟨fun empty => congrArg _ (State.txtsPop_empty common pop empty), fun e r held => ?_⟩
    have act := State.txtsPop_oldest common pop held
    have out := s.out_writeFields Reg.ETH_TXTSCMD k.val data.toNat
    generalize s.writeFields Reg.ETH_TXTSCMD k.val data.toNat = w at act out
    have shown := fun f => State.rd_answer (w.stampShown k.val e r) St.OK f k.val
    refine ⟨_, congrArg _ act, w.txts_stampShown k.val e r, (shown _).trans (w.rd_stampShown_count k.val e r),
      (shown _).trans (w.rd_stampShown_lo k.val e r), (shown _).trans (w.rd_stampShown_hi k.val e r),
      (shown _).trans (w.rd_stampShown_tag k.val e r), congrArg (· ++ _) out⟩

end Sys2Proof.Machine

/-! Rates of the scheduler's nodes (R214 to R216): what judging the parents leaves alone, an accepted write of a rate or burst, and the refill
that puts it in force. -/

namespace Sys2Proof.Machine

section ParentsJudged

/-- Fields that judging parents (R216) can change: what `TMG_STATUS` shows, and those of the event it may raise. -/
def oversubFields : List (Fin 1024) := TMG_STATUS.OVERSUB.id :: TMG_STATUS.OVNODE.id :: eventFields

/-- From `s` to `t` parents have been judged (R216): other registers, the nodes and what has been put out are as they were. -/
structure State.ParentsJudged (s t : State) : Prop where
  rd : ∀ (f : Field) (i : Nat), f.id ∉ oversubFields → t.rd f i = s.rd f i
  nodes : t.tm.nodes = s.tm.nodes
  out : t.out = s.out

variable {s t : State}

theorem State.ParentsJudged.refl (s : State) : s.ParentsJudged s := ⟨fun _ _ _ => rfl, rfl, rfl⟩

theorem State.ParentsJudged.wr (h : s.ParentsJudged t) {f : Field} (shown : f.id ∈ oversubFields) (v i : Nat) : s.ParentsJudged (t.wr f v i) where
  rd g j other := (State.rd_wr_ne _ _ _ _ _ _ (fun same => other (same ▸ shown))).trans (h.rd g j other)
  nodes := h.nodes
  out := h.out

theorem State.tm_raise (s : State) (id cap : Nat) : (s.raise id cap).tm = s.tm := by
  show (s.raise id cap).rest.tm = s.rest.tm
  rw [State.rest_raise]

theorem State.ParentsJudged.raise (h : s.ParentsJudged t) (id cap : Nat) : s.ParentsJudged (t.raise id cap) where
  rd f i other := (State.rd_raise _ _ _ _ _ (fun m => other (List.mem_cons_of_mem _ (List.mem_cons_of_mem _ m)))).trans (h.rd f i other)
  nodes := by rw [State.tm_raise, h.nodes]
  out := by rw [State.out_raise, h.out]

theorem State.ParentsJudged.setOversub (h : s.ParentsJudged t) (l : List Nat) : s.ParentsJudged (t.modTm (fun m => { m with oversub := l })) :=
  ⟨h.rd, h.nodes, h.out⟩

theorem State.parentsJudged_checkParents (s : State) (l : List Nat) : s.ParentsJudged (s.checkParents l) := by
  unfold State.checkParents
  refine ((List.foldlRecOn l _ (State.ParentsJudged.refl s) fun u h k _ => ?_).wr (by decide) _ _).wr (by decide) _ _
  dsimp only
  split
  · exact (h.setOversub _).raise _ _
  · exact h.setOversub _

end ParentsJudged

section RateWrite

/-- The node whose rate or burst was written, if it can be a parent, and its own parent (R216). -/
def State.parentsTouched (s : State) (j : Nat) : List Nat := (if 4096 ≤ j then [j] else []) ++ (s.nodeParent j).toList

/-- A rate or burst written and waiting for the node's next refill (R215). -/
def State.ratePending (s : State) (j w data : Nat) : State := (s.writeFields (shaperReg w) j data).wr TMG_NSTAT.PEND 1 j

theorem exec_shaperWrite (s : State) {j w : Nat} {addr : Word} (data : Word) (node : j < 4258) (first : 1 ≤ w) (last : w ≤ 4)
    (place : addr.toNat = 0x350000 + 32 * j + 4 * w) (h : s.serves addr.toNat true) :
    exec (.shaperWrite addr data) s = .next (s.shaperWrite j w data.toNat) := by
  have aligned : addr.toNat % 4 = 0 := by omega
  have nodeAt : (addr.toNat - 0x350000) / 32 = j := by omega
  have wordAt : (addr.toNat - 0x350000) % 32 / 4 = w := by omega
  have act : exec (.shaperWrite addr data) s = execShaperWrite addr data s := rfl
  have good : decide (addr.toNat % 4 ≠ 0 ∨ addr.toNat < 0x350000 ∨ 4258 ≤ j ∨ w = 0 ∨ 4 < w) = false := decide_eq_false (by omega)
  rw [act, execShaperWrite]
  dsimp only
  rw [nodeAt, wordAt, good, State.addrAccess_serves s _ true _ h]

theorem State.shaperWrite_accepted (s : State) (j w data : Nat)
    (passes : firstStatus (s.writeChecks (shaperReg w) j data ++ (s.writeFields (shaperReg w) j data).shaperChecks j w) = St.OK) :
    s.shaperWrite j w data = ((s.ratePending j w data).checkParents ((s.ratePending j w data).parentsTouched j)).answer St.OK := by
  unfold State.shaperWrite
  exact State.checked_ok _ _ _ passes

/-- Each of the four registers is one RW field, and neither `PEND` nor one that judging parents can change. -/
theorem shaperReg_field (w : Nat) :
    ∀ f ∈ (shaperReg w).fields, (shaperReg w).fields = [f] ∧ f.kind = .rw ∧ TMG_NSTAT.PEND.id ≠ f.id ∧ f.id ∉ oversubFields := by
  unfold shaperReg
  split <;> exact List.forall_mem_singleton.2 ⟨rfl, rfl, by decide, by decide⟩

variable (s : State) (j w data : Nat)

theorem State.rd_ratePending {f : Field} (m : f ∈ (shaperReg w).fields) : (s.ratePending j w data).rd f j = f.of data := by
  obtain ⟨only, plain, notPend, -⟩ := shaperReg_field w f m
  rw [State.ratePending, State.rd_wr_ne _ _ _ _ _ _ notPend, State.writeFields_eq_writeList, only, State.writeList_cons, State.writeList_nil,
    State.rd_writeField_same, f.written_rw _ _ (.inl plain)]

theorem State.rd_ratePending_pend : (s.ratePending j w data).rd TMG_NSTAT.PEND j = 1 := State.rd_wr_same ..

theorem State.nodes_ratePending : (s.ratePending j w data).tm.nodes = s.tm.nodes := by
  have same : (s.writeFields (shaperReg w) j data).tm = s.tm := by rw [(s.onlyRegs_writeFields (shaperReg w) j data).1]
  exact congrArg Tm.nodes same

theorem State.out_ratePending : (s.ratePending j w data).out = s.out := s.out_writeFields (shaperReg w) j data

end RateWrite

section Refill

/-- A bucket whose rate comes from 0 starts full, at its burst (R215). -/
theorem refill_started {rate : Nat} (runs : rate ≠ 0) (burst : Nat) (level : Int) : refill 0 rate burst level = (burst : Int) * 6400000 := by
  rw [refill, if_neg runs, if_pos rfl]

/-- Any other bucket with a rate carries its level over, gains its tokens and is clipped to its burst (R214, R215). -/
theorem refill_carried {old rate : Nat} (runs : rate ≠ 0) (ran : old ≠ 0) (burst : Nat) (level : Int) :
    refill old rate burst level = min ((burst : Int) * 6400000) (level + 16 * rate) := by
  rw [refill, if_neg runs, if_neg ran]

variable (s : State) (j : Nat)

theorem State.rd_refillNode_pend : (s.refillNode j).rd TMG_NSTAT.PEND j = 0 := State.rd_wr_same ..

theorem State.node_refillNode_same :
    (s.refillNode j).node j = { s.node j with
      cir := s.rd TMG_CIR.RATE j, pir := s.rd TMG_PIR.RATE j, cbs := s.rd TMG_CBS.BURST j, pbs := s.rd TMG_PBS.BURST j,
      c := refill (s.node j).cir (s.rd TMG_CIR.RATE j) (s.rd TMG_CBS.BURST j) (s.node j).c,
      p := refill (s.node j).pir (s.rd TMG_PIR.RATE j) (s.rd TMG_PBS.BURST j) (s.node j).p } := NMap.get_set_same ..

theorem State.node_refillNode_ne {k : Nat} (other : k ≠ j) : (s.refillNode j).node k = s.node k := NMap.get_set_ne _ _ _ _ _ other.symm

theorem State.keepsRegs_refillNode : s.keepsRegs (s.refillNode j) [(TMG_NSTAT.PEND, j)] :=
  State.keepsRegs_wr (State.keepsRegs_of_regs _ (s.keepsRegs_refl _) rfl) _ _ _ List.mem_cons_self

end Refill

/-- Settles O25: an accepted write is followed only by a judgement of parents, which leaves the registers written, `PEND` and the nodes alone;
a refill is one node set from its registers, each bucket by whether its rate was 0. -/
theorem ratesApplied : Obligations.RatesApplied := by
  refine ⟨fun s j w addr data node first last place h passes => ?written, fun s j => ?refilled⟩
  case written =>
    have act := exec_shaperWrite s data node first last place h
    rw [State.shaperWrite_accepted s j w data.toNat passes] at act
    have judged := (s.ratePending j w data.toNat).parentsJudged_checkParents ((s.ratePending j w data.toNat).parentsTouched j)
    refine ⟨_, act, fun f m => ?_, ?_, judged.nodes.trans (s.nodes_ratePending ..), ?_⟩
    · obtain ⟨-, -, -, kept⟩ := shaperReg_field w f m
      exact (judged.rd f j kept).trans (s.rd_ratePending j w data.toNat m)
    · exact (judged.rd _ j (by decide)).trans (s.rd_ratePending_pend ..)
    · exact congrArg (· ++ _) (judged.out.trans (s.out_ratePending ..))
  case refilled =>
    refine ⟨_, rfl, s.rd_refillNode_pend j.val, ?_, fun k other => s.node_refillNode_ne j.val other, s.keepsRegs_refillNode j.val, rfl⟩
    dsimp only
    rw [s.node_refillNode_same j.val]
    exact ⟨rfl, rfl, rfl, rfl, fun runs idle => by rw [idle]; exact refill_started runs _ _, fun runs ran => refill_carried runs ran _ _,
      fun runs idle => by rw [idle]; exact refill_started runs _ _, fun runs ran => refill_carried runs ran _ _, rfl, rfl⟩

end Sys2Proof.Machine

/-! Shared by the statements of spec/08_field_segments_and_points.md: what an event leaves of the event unit, what a write of a point leaves alone
beside the outputs that follow it, and the unseen state of a direct input. -/

namespace Sys2Proof.Machine

section EventRules

variable (s : State) (id cap : Nat)

theorem State.limited_setEvq (q : List EvMsg) : (s.setEvq q).limited = s.limited := by
  unfold State.setEvq
  dsimp only
  split
  · rfl
  · split
    · rfl
    · split <;> rfl

theorem State.limited_enqueue (sev time : Nat) : (s.enqueue id sev time cap).1.limited = s.limited := by
  unfold State.enqueue
  dsimp only
  split
  · exact State.limited_setEvq _ _
  · split
    · rfl
    · split
      · exact State.limited_setEvq _ _
      · rfl

theorem State.limited_fatal (m : EvMsg) (entered : Bool) : (s.fatal m entered).limited = s.limited := by
  unfold State.fatal
  split <;> rfl

/-- A raising up to the fatal capture (R442): a repeat counted, or the state set and, if the source is enabled, a message queued. -/
def State.raiseNoted : State × Bool :=
  let t := s.drew.wr EVU_SRC.STATUS 1 id
  if s.drew.on EVU_SRC.STATUS id then (s.drew.bump EVU_SRC.REPEAT id, false)
  else if t.on EVU_SRC.EN id then t.enqueue id (s.rd EVU_SRC.SEV id) s.now cap else (t, false)

theorem State.raise_eq : s.raise id cap =
    if s.rd EVU_SRC.SEV id = 3 then
      (s.raiseNoted id cap).1.fatal { seq := s.evSeq, id := id, sev := s.rd EVU_SRC.SEV id, time := s.now, cap := cap, complete := false }
        (s.raiseNoted id cap).2
    else (s.raiseNoted id cap).1 := rfl

theorem State.limited_raiseNoted : (s.raiseNoted id cap).1.limited = s.limited := by
  unfold State.raiseNoted
  dsimp only
  split
  · rfl
  · split
    · exact State.limited_enqueue ..
    · rfl

/-- Raising an event lifts no limit and sets none (R544). -/
theorem State.limited_raise : (s.raise id cap).limited = s.limited := by
  rw [State.raise_eq]
  split
  · exact (State.limited_fatal ..).trans (s.limited_raiseNoted id cap)
  · exact s.limited_raiseNoted id cap

/-- Raising one source leaves the state of the others. -/
theorem State.rd_raise_status_ne (j : Nat) (other : id ≠ j) : (s.raise id cap).rd EVU_SRC.STATUS j = s.rd EVU_SRC.STATUS j := by
  have written : (s.drew.wr EVU_SRC.STATUS 1 id).rd EVU_SRC.STATUS j = s.rd EVU_SRC.STATUS j := State.rd_wr_idx _ _ _ _ _ other
  have noted : (s.raiseNoted id cap).1.rd EVU_SRC.STATUS j = s.rd EVU_SRC.STATUS j := by
    unfold State.raiseNoted
    dsimp only
    split
    · exact State.rd_bump_ne _ _ _ _ _ _ (by decide)
    · split
      · exact (State.rd_enqueue _ _ _ _ _ _ _ (by decide) (by decide) (by decide) (by decide)).trans written
      · exact written
  rw [State.raise_eq]
  split
  · exact (State.rd_fatal _ _ _ _ _ (by decide) (by decide)).trans noted
  · exact noted

/-- A source that is raised stays so, whatever is raised after it (R442). -/
theorem State.on_raise_of_on {s : State} (j : Nat) (raised : s.on EVU_SRC.STATUS j = true) : (s.raise id cap).on EVU_SRC.STATUS j = true := by
  by_cases same : id = j
  · rw [same]; exact State.on_raise_status ..
  · exact (congrArg (· != 0) (s.rd_raise_status_ne id cap j same)).trans raised

@[simp] theorem State.fld_raise : (s.raise id cap).fld = s.fld := by
  show (s.raise id cap).rest.fld = s.rest.fld
  rw [State.rest_raise]

@[simp] theorem State.fld_raiseOnce (key : Nat) : (s.raiseOnce id key cap).fld = s.fld := by
  show (s.raiseOnce id key cap).rest.fld = s.rest.fld
  rw [State.rest_raiseOnce]

variable {s id} {key : Nat}

/-- An event that has been raised in this hyperframe is not raised again (R544). -/
theorem State.raiseOnce_limited (again : s.limited.contains (id, key) = true) : s.raiseOnce id key cap = s := if_pos again

theorem State.raiseOnce_first (first : s.limited.contains (id, key) = false) :
    s.raiseOnce id key cap = ({ s with limited := (id, key) :: s.limited } : State).raise id cap := if_neg (Bool.eq_false_iff.1 first)

end EventRules

section Bits

theorem State.on_setBit_same (s : State) (f : Field) (b : Bool) (i : Nat) (bit : f.width = 1) : (s.setBit f b i).on f i = b := by
  rw [State.setBit, State.on_wr_same, bit]
  cases b <;> rfl

theorem State.on_setBit_ne (s : State) (f g : Field) (b : Bool) (i j : Nat) (h : f.id ≠ g.id) : (s.setBit f b i).on g j = s.on g j :=
  State.on_wr_ne _ _ _ _ _ _ h

end Bits

section PointWrites

/-- All that neither a point nor an output shows: the registers, the points, the levels driven, the watchdog and what has been put out aside. -/
def State.besidesPoints (s : State) : State :=
  { s with regs := [], out := [], points := [], pointGen := [], fld := { s.fld with out := [], wdFresh := false } }

variable (s : State)

theorem State.besidesPoints_refreshOutput (k : Nat) : (s.refreshOutput k).besidesPoints = s.besidesPoints := by
  unfold State.refreshOutput
  dsimp only
  split <;> rfl

theorem State.besidesPoints_setPoint (n v : Nat) : (s.setPoint n v).besidesPoints = s.besidesPoints :=
  foldl_keeps State.besidesPoints State.refreshOutput State.besidesPoints_refreshOutput _ _

theorem State.besidesPoints_producePoint (n v : Nat) : (s.producePoint n v).besidesPoints = s.besidesPoints := by
  have point := s.besidesPoints_setPoint n v
  unfold State.producePoint
  dsimp only
  split <;> exact point

/-- A direct input's point is written (R239) without a change of what the inputs keep. -/
theorem State.besidesPoints_diWrite (i : Nat) : (s.diWrite i).besidesPoints = s.besidesPoints := by
  unfold State.diWrite
  split
  · exact State.besidesPoints_producePoint ..
  · rfl

@[simp] theorem State.di_diWrite (i j : Nat) : (s.diWrite i).di j = s.di j := by
  show (s.diWrite i).besidesPoints.di j = s.besidesPoints.di j
  rw [State.besidesPoints_diWrite]

@[simp] theorem State.tsFifo_diWrite (i : Nat) : (s.diWrite i).fld.tsFifo = s.fld.tsFifo := by
  show (s.diWrite i).besidesPoints.fld.tsFifo = s.besidesPoints.fld.tsFifo
  rw [State.besidesPoints_diWrite]

@[simp] theorem State.evq_diWrite (i : Nat) : (s.diWrite i).evq = s.evq := by
  show (s.diWrite i).besidesPoints.evq = s.besidesPoints.evq
  rw [State.besidesPoints_diWrite]

@[simp] theorem State.limited_diWrite (i : Nat) : (s.diWrite i).limited = s.limited := by
  show (s.diWrite i).besidesPoints.limited = s.besidesPoints.limited
  rw [State.besidesPoints_diWrite]

theorem State.rd_diWrite (i : Nat) (f : Field) (j : Nat) (notLevel : FLD_OSTAT.LEVEL.id ≠ f.id) (notPsafe : FLD_OSTAT.PSAFE.id ≠ f.id) :
    (s.diWrite i).rd f j = s.rd f j := by
  unfold State.diWrite
  split
  · exact State.rd_producePoint _ _ _ notLevel notPsafe _ _
  · rfl

end PointWrites

section InputState

variable (s : State) (i : Nat) (d : DiRun)

@[simp] theorem State.di_setDi_same : (s.setDi i d).di i = d := NMap.get_set_same ..

theorem State.di_setDi_ne (j : Nat) (other : i ≠ j) : (s.setDi i d).di j = s.di j := NMap.get_set_ne _ _ _ _ _ other

@[simp] theorem State.rd_setDi (f : Field) (j : Nat) : (s.setDi i d).rd f j = s.rd f j := rfl
@[simp] theorem State.di_raise (id cap j : Nat) : (s.raise id cap).di j = s.di j := 
  congrArg (fun f : Fld => NMap.get f.di DiRun.init j) (s.fld_raise id cap)

end InputState

end Sys2Proof.Machine

/-! The timestamp FIFO and an accepted transition (R240, R241, R243). -/

namespace Sys2Proof.Machine

section Fifo

variable (s : State) (e : TsEnt)

/-- An entry put behind the others (R241). -/
theorem State.tsPush_room (room : s.fld.tsFifo.length < 64) :
    s.tsPush e = (s.modFld (fun f => { f with tsFifo := f.tsFifo ++ [e] })).wr FLD_TSSTAT.COUNT (s.fld.tsFifo.length + 1) := if_pos room

/-- An entry without room is counted and reported (R241). -/
theorem State.tsPush_full (full : 64 ≤ s.fld.tsFifo.length) : s.tsPush e = (s.bump FLD_TSSTAT.OVF).raiseOnce Ev.FLD_DI_FIFO_OVF :=
  if_neg (Nat.not_lt.2 full)

/-- An entry that finds room stands last, and none is counted as lost (R241). -/
theorem State.tsPush_entered (room : s.fld.tsFifo.length < 64) :
    (s.tsPush e).fld.tsFifo = s.fld.tsFifo ++ [e] ∧ (s.tsPush e).rd FLD_TSSTAT.OVF = s.rd FLD_TSSTAT.OVF := by
  rw [s.tsPush_room e room]
  exact ⟨rfl, State.rd_wr_ne _ _ _ _ _ _ (by decide)⟩

/-- An entry that finds no room counts in `OVF`; the event comes once per hyperframe (R241, R544). -/
theorem State.tsPush_discarded (full : 64 ≤ s.fld.tsFifo.length) :
    (s.tsPush e).fld.tsFifo = s.fld.tsFifo ∧ (s.tsPush e).rd FLD_TSSTAT.OVF = satAdd FLD_TSSTAT.OVF.width (s.rd FLD_TSSTAT.OVF) 1 ∧
    (s.limited.contains (Ev.FLD_DI_FIFO_OVF, 0) = true →
      (s.tsPush e).evq = s.evq ∧ (s.tsPush e).rd EVU_SRC.STATUS Ev.FLD_DI_FIFO_OVF = s.rd EVU_SRC.STATUS Ev.FLD_DI_FIFO_OVF) ∧
    (s.limited.contains (Ev.FLD_DI_FIFO_OVF, 0) = false →
      (s.tsPush e).on EVU_SRC.STATUS Ev.FLD_DI_FIFO_OVF = true ∧ (s.tsPush e).limited.contains (Ev.FLD_DI_FIFO_OVF, 0) = true) := by
  rw [s.tsPush_full e full]
  refine ⟨congrArg Fld.tsFifo (State.fld_raiseOnce ..), ?_, fun again => ?_, fun first => ?_⟩
  · rw [State.rd_raiseOnce _ _ _ _ _ _ (by decide), State.bump, State.rd_wr_same]
    exact Nat.mod_eq_of_lt (satAdd_lt _ _ _)
  · rw [State.raiseOnce_limited (s := s.bump FLD_TSSTAT.OVF) 0 again]
    exact ⟨rfl, State.rd_bump_ne _ _ _ _ _ _ (by decide)⟩
  · rw [State.raiseOnce_first (s := s.bump FLD_TSSTAT.OVF) 0 first]
    refine ⟨State.on_raise_status .., ?_⟩
    rw [State.limited_raise]
    exact List.elem_cons_self

/-- An input's own state is not in the FIFO. -/
@[simp] theorem State.di_tsPush (j : Nat) : (s.tsPush e).di j = s.di j := by
  unfold State.tsPush
  split
  · rfl
  · exact congrArg (fun f : Fld => NMap.get f.di DiRun.init j) (State.fld_raiseOnce ..)

/-- Registers that an entry of the FIFO leaves alone. -/
theorem State.rd_tsPush (f : Field) (j : Nat) (notCount : FLD_TSSTAT.COUNT.id ≠ f.id) (notOvf : FLD_TSSTAT.OVF.id ≠ f.id)
    (notEvent : f.id ∉ eventFields) : (s.tsPush e).rd f j = s.rd f j := by
  unfold State.tsPush
  split
  · exact State.rd_wr_ne _ _ _ _ _ _ notCount
  · rw [State.rd_raiseOnce _ _ _ _ _ _ notEvent, State.rd_bump_ne _ _ _ _ _ _ notOvf]

end Fifo

section Acceptance

theorem exec_diAccept (s : State) (i : Fin 16) (now : Nat) : exec (.diAccept i now) s = .next (s.diAccept i.val now) := rfl
theorem exec_chatterEnd (s : State) (i : Fin 16) : exec (.chatterEnd i) s = .next (s.chatterEnd i.val) := rfl

variable (s : State) (i now edge : Nat)

/-- The input has held its accepted level for `CHAT_WIN` when a transition is accepted at `now` (R243, log entry 50). -/
def State.diHeld : Bool :=
  match (s.di i).lastAt with
  | none => true
  | some a => decide (a + s.rd FLD_DICHAT.CHAT_WIN i * 1000000 ≤ now)

/-- The hub with a transition accepted, before it is counted or found to be chatter (R240, R242). -/
def State.diTaken : State :=
  let level := s.on FLD_DISTAT.RAW i
  let t := if s.diHeld i now then s.setBit FLD_DISTAT.STABLE (s.on FLD_DISTAT.LEVEL i) i else s
  let t := t.setBit FLD_DISTAT.LEVEL level i
  let t := if level then t else t.wr FLD_DISTAT.STUCK 0 i
  t.setDi i { s.di i with edge := none, times := (now :: (s.di i).times).take 255, lastAt := some now, lastEdge := edge }

theorem State.rd_diTaken (f : Field) (j : Nat) (notStable : FLD_DISTAT.STABLE.id ≠ f.id) (notLevel : FLD_DISTAT.LEVEL.id ≠ f.id)
    (notStuck : FLD_DISTAT.STUCK.id ≠ f.id) : (s.diTaken i now edge).rd f j = s.rd f j := by
  unfold State.diTaken State.setBit
  dsimp only
  rw [State.rd_setDi]
  split <;> split <;> simp only [State.rd_wr_ne _ _ _ _ _ _ notStable, State.rd_wr_ne _ _ _ _ _ _ notLevel, State.rd_wr_ne _ _ _ _ _ _ notStuck]

theorem State.on_diTaken_level : (s.diTaken i now edge).on FLD_DISTAT.LEVEL i = s.on FLD_DISTAT.RAW i := by
  have set : ∀ t : State, (t.setBit FLD_DISTAT.LEVEL (s.on FLD_DISTAT.RAW i) i).on FLD_DISTAT.LEVEL i = s.on FLD_DISTAT.RAW i :=
    fun t => t.on_setBit_same _ _ _ rfl
  show State.on (if s.on FLD_DISTAT.RAW i then _ else State.wr _ FLD_DISTAT.STUCK 0 i) FLD_DISTAT.LEVEL i = _
  split
  · exact set _
  · exact (State.on_wr_ne _ _ _ _ _ _ (by decide)).trans (set _)

theorem State.di_diTaken : (s.diTaken i now edge).di i =
    { s.di i with edge := none, times := (now :: (s.di i).times).take 255, lastAt := some now, lastEdge := edge } := State.di_setDi_same ..

/-- An accepted transition changes registers and the input's own state alone. -/
theorem State.diTaken_frame : s.diTaken i now edge =
    { s with regs := (s.diTaken i now edge).regs, fld := { s.fld with di := (s.diTaken i now edge).fld.di } } := by
  unfold State.diTaken
  dsimp only
  split <;> split <;> rfl

theorem State.tsFifo_diTaken : (s.diTaken i now edge).fld.tsFifo = s.fld.tsFifo := by rw [State.diTaken_frame]
theorem State.evq_diTaken : (s.diTaken i now edge).evq = s.evq := by rw [State.diTaken_frame]
theorem State.limited_diTaken : (s.diTaken i now edge).limited = s.limited := by rw [State.diTaken_frame]

section Accepted

variable {s i edge} (started : (s.di i).edge = some edge)
include started

/-- Without the field supply nothing is accepted (R244). -/
theorem State.diAccept_noSupply (low : s.on FLD_STATUS.FIELD_OK = false) : s.diAccept i now = s := by
  unfold State.diAccept
  rw [started]
  exact if_pos (.inr low)

variable (used : s.on FLD_DICFG.EN i = true) (supply : s.on FLD_STATUS.FIELD_OK = true)
include used supply

/-- A transition is taken; then chatter that goes on, chatter that begins, or one more counted transition (R240, R243). -/
theorem State.diAccept_eq : s.diAccept i now =
    if s.on FLD_DISTAT.CHATTER i then s.diTaken i now edge
    else if s.rd FLD_DICHAT.CHAT_N i ≠ 0 ∧ s.rd FLD_DICHAT.CHAT_N i ≤ (s.di i).times.length + 1 ∧
        now - (now :: (s.di i).times).getD (s.rd FLD_DICHAT.CHAT_N i - 1) 0 ≤ s.rd FLD_DICHAT.CHAT_WIN i * 1000000 then
      (s.diTaken i now edge).chatterEnter i
    else (s.diTaken i now edge).diCount i (s.on FLD_DISTAT.RAW i) false edge := by
  have chatter : (s.diTaken i now edge).on FLD_DISTAT.CHATTER i = s.on FLD_DISTAT.CHATTER i :=
    congrArg (· != 0) (s.rd_diTaken _ _ _ _ _ (by decide) (by decide) (by decide))
  have limit : (s.diTaken i now edge).rd FLD_DICHAT.CHAT_N i = s.rd FLD_DICHAT.CHAT_N i :=
    s.rd_diTaken _ _ _ _ _ (by decide) (by decide) (by decide)
  rw [← chatter, ← limit]
  unfold State.diAccept
  rw [started]
  exact if_neg (by simp [used, supply])

theorem State.diAccept_chatter (chatter : s.on FLD_DISTAT.CHATTER i = true) : s.diAccept i now = s.diTaken i now edge := by
  rw [State.diAccept_eq now started used supply, if_pos chatter]

variable (calm : s.on FLD_DISTAT.CHATTER i = false)
include calm

/-- Fewer transitions than `CHAT_N`, or no such limit: the transition is counted (R240, R243). -/
theorem State.diAccept_counts (few : s.rd FLD_DICHAT.CHAT_N i = 0 ∨ (s.di i).times.length + 1 < s.rd FLD_DICHAT.CHAT_N i) :
    s.diAccept i now = (s.diTaken i now edge).diCount i (s.on FLD_DISTAT.RAW i) false edge := by
  rw [State.diAccept_eq now started used supply, if_neg (by simp [calm]), if_neg (by omega)]

/-- The `CHAT_N`-th transition within `CHAT_WIN`, first to last, begins chatter (R243). -/
theorem State.diAccept_enters (limit : 2 ≤ s.rd FLD_DICHAT.CHAT_N i) (many : s.rd FLD_DICHAT.CHAT_N i ≤ (s.di i).times.length + 1)
    (close : now - (s.di i).times.getD (s.rd FLD_DICHAT.CHAT_N i - 2) 0 ≤ s.rd FLD_DICHAT.CHAT_WIN i * 1000000) :
    s.diAccept i now = (s.diTaken i now edge).chatterEnter i := by
  have first : (now :: (s.di i).times).getD (s.rd FLD_DICHAT.CHAT_N i - 1) 0 = (s.di i).times.getD (s.rd FLD_DICHAT.CHAT_N i - 2) 0 := by
    rw [show s.rd FLD_DICHAT.CHAT_N i - 1 = s.rd FLD_DICHAT.CHAT_N i - 2 + 1 by omega, List.getD_cons_succ]
  rw [State.diAccept_eq now started used supply, if_neg (by simp [calm]), if_pos ⟨by omega, many, first ▸ close⟩]

end Accepted

end Acceptance

section Counted

variable (s : State) (i : Nat) (level : Bool)

/-- The input with one more counted transition, its point written (R240). -/
def State.diCounted : State := (s.setDi i { s.di i with value := diValue level ((s.di i).value / 2 + 1) }).diWrite i

/-- A counted transition enters the FIFO (R241). -/
theorem State.diCount_eq (clear : Bool) (edge : Nat) :
    s.diCount i level clear edge = (s.diCounted i level).tsPush { input := i, level := level, clear := clear, time := edge } := rfl

theorem State.rd_diCounted (f : Field) (j : Nat) (notLevel : FLD_OSTAT.LEVEL.id ≠ f.id) (notPsafe : FLD_OSTAT.PSAFE.id ≠ f.id) :
    (s.diCounted i level).rd f j = s.rd f j := State.rd_diWrite _ _ _ _ notLevel notPsafe

theorem State.tsFifo_diCounted : (s.diCounted i level).fld.tsFifo = s.fld.tsFifo := State.tsFifo_diWrite ..

theorem State.di_diCounted : (s.diCounted i level).di i = { s.di i with value := diValue level ((s.di i).value / 2 + 1) } :=
  (State.di_diWrite ..).trans (State.di_setDi_same ..)

theorem State.evq_diCounted : (s.diCounted i level).evq = s.evq := State.evq_diWrite ..

theorem State.limited_diCounted : (s.diCounted i level).limited = s.limited := State.limited_diWrite ..

variable (now edge : Nat)

/-- The hub with a transition accepted and counted, before its entry in the FIFO. -/
def State.diAccepted : State := (s.diTaken i now edge).diCounted i (s.on FLD_DISTAT.RAW i)

theorem State.rd_diAccepted (f : Field) (j : Nat) (notStable : FLD_DISTAT.STABLE.id ≠ f.id) (notAccepted : FLD_DISTAT.LEVEL.id ≠ f.id)
    (notStuck : FLD_DISTAT.STUCK.id ≠ f.id) (notLevel : FLD_OSTAT.LEVEL.id ≠ f.id) (notPsafe : FLD_OSTAT.PSAFE.id ≠ f.id) :
    (s.diAccepted i now edge).rd f j = s.rd f j :=
  (State.rd_diCounted _ _ _ _ _ notLevel notPsafe).trans (s.rd_diTaken _ _ _ _ _ notStable notAccepted notStuck)

theorem State.tsFifo_diAccepted : (s.diAccepted i now edge).fld.tsFifo = s.fld.tsFifo :=
  (State.tsFifo_diCounted ..).trans (s.tsFifo_diTaken ..)

theorem State.evq_diAccepted : (s.diAccepted i now edge).evq = s.evq := (State.evq_diCounted ..).trans (s.evq_diTaken ..)

theorem State.limited_diAccepted : (s.diAccepted i now edge).limited = s.limited := (State.limited_diCounted ..).trans (s.limited_diTaken ..)

end Counted

section ChatterOver

variable (s : State) (i : Nat)

/-- The hub as chatter has ended with the level that held (R243). -/
def State.diSettled : State :=
  ((s.setBit FLD_DISTAT.STABLE (s.on FLD_DISTAT.LEVEL i) i).wr FLD_DISTAT.CHATTER 0 i).setDi i { s.di i with times := [] }

variable {s i} (chatter : s.on FLD_DISTAT.CHATTER i = true) (used : s.on FLD_DICFG.EN i = true) (supply : s.on FLD_STATUS.FIELD_OK = true)
include chatter used supply

theorem State.chatterEnd_eq : s.chatterEnd i =
    if s.on FLD_DISTAT.LEVEL i != ((s.di i).value % 2 == 1) then
      (s.diSettled i).diCount i (s.on FLD_DISTAT.LEVEL i) true (s.di i).lastEdge
    else (s.diSettled i).diWrite i := if_pos ⟨chatter, used, supply⟩

/-- A level other than the frozen one is one counted transition (R243). -/
theorem State.chatterEnd_counts (changed : s.on FLD_DISTAT.LEVEL i ≠ ((s.di i).value % 2 == 1)) :
    s.chatterEnd i = (s.diSettled i).diCount i (s.on FLD_DISTAT.LEVEL i) true (s.di i).lastEdge := by
  rw [State.chatterEnd_eq chatter used supply, if_pos (bne_iff_ne.2 changed)]

/-- With the frozen level only the quality returns (R243). -/
theorem State.chatterEnd_same (same : s.on FLD_DISTAT.LEVEL i = ((s.di i).value % 2 == 1)) : s.chatterEnd i = (s.diSettled i).diWrite i := by
  rw [State.chatterEnd_eq chatter used supply, if_neg (by simp [same])]

end ChatterOver

section Pop

variable (s : State)

theorem exec_tsPop (data : Word) (h : s.serves Reg.FLD_TSCMD.base true) : exec (.tsPop data) s = .next (s.tsPop data.toNat) :=
  congrArg _ (State.access_serves s _ true _ h)

/-- No check but that of the reserved bits concerns `FLD_TSCMD`, and its field keeps nothing. -/
theorem State.firstStatus_tscmd (data : Nat) (reserved : Reg.FLD_TSCMD.reservedSet data = false) :
    firstStatus (s.writeChecks Reg.FLD_TSCMD 0 data) = St.OK := by
  rw [State.firstStatus_writeChecks, reserved]
  rfl

/-- The oldest entry `e` moved into the three registers, `r` left (R241). -/
def State.entryShown (e : TsEnt) (r : List TsEnt) : State :=
  ((((((s.modFld (fun f => { f with tsFifo := r })).wr FLD_TSSTAT.COUNT r.length).wr FLD_TSLO.TIME e.time).wr FLD_TSHI.TIME (e.time / 2 ^ 32)).wr
    FLD_TSINFO.INPUT e.input).setBit FLD_TSINFO.LEVEL e.level).setBit FLD_TSINFO.CLEAR e.clear

variable {s} {data : Nat} (reserved : Reg.FLD_TSCMD.reservedSet data = false) (pop : FLD_TSCMD.POP.of data = 1)
include reserved pop

theorem State.tsPop_empty (empty : s.fld.tsFifo = []) : s.tsPop data = s.answer St.STATE := by
  unfold State.tsPop
  rw [empty]
  dsimp only
  rw [decide_eq_true pop]
  exact State.writeReg_ownFail (s.firstStatus_tscmd data reserved) _ (by decide)

theorem State.tsPop_oldest {e : TsEnt} {r : List TsEnt} (held : s.fld.tsFifo = e :: r) : s.tsPop data = (s.entryShown e r).answer St.OK := by
  unfold State.tsPop
  rw [held]
  dsimp only
  rw [List.isEmpty_cons, Bool.and_false, State.writeReg_accepted (s.firstStatus_tscmd data reserved) _ (by decide), if_pos pop]
  have kept : (s.writeFields Reg.FLD_TSCMD 0 data) = s := rfl
  rw [kept, held]
  rfl

end Pop

section Shown

variable (s : State) (e : TsEnt) (r : List TsEnt)

theorem State.rd_entryShown_lo : (s.entryShown e r).rd FLD_TSLO.TIME = e.time % 2 ^ 32 := by
  unfold State.entryShown State.setBit
  simp (disch := decide) only [State.rd_wr_ne, State.rd_wr_same]
  rfl

theorem State.rd_entryShown_hi : (s.entryShown e r).rd FLD_TSHI.TIME = e.time / 2 ^ 32 % 2 ^ 32 := by
  unfold State.entryShown State.setBit
  simp (disch := decide) only [State.rd_wr_ne, State.rd_wr_same]
  rfl

theorem State.rd_entryShown_input : (s.entryShown e r).rd FLD_TSINFO.INPUT = e.input % 2 ^ FLD_TSINFO.INPUT.width := by
  unfold State.entryShown State.setBit
  simp (disch := decide) only [State.rd_wr_ne, State.rd_wr_same]

theorem State.on_entryShown_level : (s.entryShown e r).on FLD_TSINFO.LEVEL = e.level :=
  (State.on_setBit_ne _ _ _ _ _ _ (by decide)).trans (State.on_setBit_same _ _ _ _ rfl)

theorem State.on_entryShown_clear : (s.entryShown e r).on FLD_TSINFO.CLEAR = e.clear := State.on_setBit_same _ _ _ _ rfl

end Shown

/-- Settles O27: an acceptance without a limit and the end of chatter at another level end in an entry of the FIFO, with room and without; then
the two answers to POP. -/
theorem timestampFifo : Obligations.TimestampFifo := by
  refine ⟨fun s i now edge started used supply calm noLimit => ?accepted, fun s i chatter used supply changed room => ?cleared,
    fun s data h reserved pop => ?popped⟩
  case accepted =>
    have act : exec (.diAccept i now) s = .next ((s.diAccepted i now edge).tsPush ⟨i.val, s.on FLD_DISTAT.RAW i.val, false, edge⟩) := by
      rw [exec_diAccept, State.diAccept_counts now started used supply calm (.inl noLimit)]; rfl
    have fifo := s.tsFifo_diAccepted i now edge
    have queue := s.evq_diAccepted i now edge
    have limits := s.limited_diAccepted i now edge
    have overflow : _ = s.rd FLD_TSSTAT.OVF := s.rd_diAccepted i now edge _ 0 (by decide) (by decide) (by decide) (by decide) (by decide)
    have source : _ = s.rd EVU_SRC.STATUS Ev.FLD_DI_FIFO_OVF :=
      s.rd_diAccepted i now edge _ _ (by decide) (by decide) (by decide) (by decide) (by decide)
    rw [← fifo, ← queue, ← limits, ← overflow, ← source]
    exact ⟨_, act, State.tsPush_entered _ _, State.tsPush_discarded _ _⟩
  case cleared =>
    have act := exec_chatterEnd s i
    rw [State.chatterEnd_counts chatter used supply changed, State.diCount_eq] at act
    have fifo := (s.diSettled i).tsFifo_diCounted i (s.on FLD_DISTAT.LEVEL i)
    exact ⟨_, act, fifo ▸ (State.tsPush_entered _ _ (fifo ▸ room)).1⟩
  case popped =>
    rw [exec_tsPop s data h]
    refine ⟨fun empty => congrArg _ (State.tsPop_empty reserved pop empty), fun e r held => ?_⟩
    exact ⟨_, congrArg _ (State.tsPop_oldest reserved pop held), rfl, s.rd_entryShown_lo e r, s.rd_entryShown_hi e r, s.rd_entryShown_input e r,
      s.on_entryShown_level e r, s.on_entryShown_clear e r, rfl⟩

end Sys2Proof.Machine

/-! Direct inputs (R240, R242 to R245): one lemma for each way an edge, an acceptance, the end of chatter, a stuck input or a change of the field
supply can end. -/

namespace Sys2Proof.Machine

section Edges

/-- An edge records the raw level and starts or stops the debounce (R240). -/
theorem State.diEdge_eq (s : State) (i : Nat) (level : Bool) (time : Nat) : s.diEdge i level time =
    (s.setBit FLD_DISTAT.RAW (level != s.on FLD_DICFG.POL i) i).setDi i { s.di i with
      edge := if s.on FLD_STATUS.FIELD_OK && (level != s.on FLD_DICFG.POL i) != s.on FLD_DISTAT.LEVEL i then some time else none } := by
  unfold State.diEdge
  dsimp only
  rw [State.on_setBit_ne _ _ _ _ _ _ (by decide), State.on_setBit_ne _ _ _ _ _ _ (by decide)]
  rfl

end Edges

section Chatter

variable (s : State) (i now edge : Nat)

/-- The input as chatter begins: its point shows the stable level and freezes (R243). -/
def State.diFrozen : State :=
  ((s.setDi i { s.di i with value := diValue (s.on FLD_DISTAT.STABLE i) ((s.di i).value / 2), times := [] }).wr FLD_DISTAT.CHATTER 1 i).diWrite i

theorem State.chatterEnter_eq : s.chatterEnter i = (s.diFrozen i).raise Ev.FLD_DI_CHATTER i := rfl

theorem State.di_chatterEnter : (s.chatterEnter i).di i =
    { s.di i with value := diValue (s.on FLD_DISTAT.STABLE i) ((s.di i).value / 2), times := [] } :=
  (State.di_raise ..).trans ((State.di_diWrite ..).trans (State.di_setDi_same ..))

theorem State.tsFifo_chatterEnter : (s.chatterEnter i).fld.tsFifo = s.fld.tsFifo :=
  (congrArg Fld.tsFifo (State.fld_raise ..)).trans (State.tsFifo_diWrite ..)

theorem State.rd_chatterEnter_chatter : (s.chatterEnter i).rd FLD_DISTAT.CHATTER i = 1 := by
  rw [State.chatterEnter_eq, State.rd_raise _ _ _ _ _ (by decide), State.diFrozen, State.rd_diWrite _ _ _ _ (by decide) (by decide),
    State.rd_wr_same]
  rfl

theorem State.rd_chatterEnter (f : Field) (j : Nat) (notChatter : FLD_DISTAT.CHATTER.id ≠ f.id) (notLevel : FLD_OSTAT.LEVEL.id ≠ f.id)
    (notPsafe : FLD_OSTAT.PSAFE.id ≠ f.id) (notEvent : f.id ∉ eventFields) : (s.chatterEnter i).rd f j = s.rd f j := by
  rw [State.chatterEnter_eq, State.rd_raise _ _ _ _ _ notEvent, State.diFrozen, State.rd_diWrite _ _ _ _ notLevel notPsafe,
    State.rd_wr_ne _ _ _ _ _ _ notChatter, State.rd_setDi]

end Chatter

section Acceptances

variable (s : State) (i now edge : Nat)

/-- What every accepted transition shows of the input in `t`: the level, no debounce running, and when it was accepted (R240). -/
structure State.Accepts (t : State) : Prop where
  level : t.on FLD_DISTAT.LEVEL i = s.on FLD_DISTAT.RAW i
  idle : (t.di i).edge = none
  lastAt : (t.di i).lastAt = some now
  lastEdge : (t.di i).lastEdge = edge

theorem State.accepts_diTaken : s.Accepts i now edge (s.diTaken i now edge) := by
  have input := s.di_diTaken i now edge
  exact ⟨s.on_diTaken_level i now edge, by rw [input], by rw [input], by rw [input]⟩

/-- A counted transition is accepted like any other. -/
theorem State.accepts_diCount (clear : Bool) (time : Nat) :
    s.Accepts i now edge ((s.diTaken i now edge).diCount i (s.on FLD_DISTAT.RAW i) clear time) := by
  obtain ⟨level, idle, lastAt, lastEdge⟩ := s.accepts_diTaken i now edge
  have shown : ((s.diTaken i now edge).diCount i (s.on FLD_DISTAT.RAW i) clear time).rd FLD_DISTAT.LEVEL i =
      (s.diTaken i now edge).rd FLD_DISTAT.LEVEL i := by
    rw [State.diCount_eq, State.rd_tsPush _ _ _ _ (by decide) (by decide) (by decide), State.rd_diCounted _ _ _ _ _ (by decide) (by decide)]
  have input := (State.di_tsPush ((s.diTaken i now edge).diCounted i (s.on FLD_DISTAT.RAW i))
    { input := i, level := s.on FLD_DISTAT.RAW i, clear := clear, time := time } i).trans (State.di_diCounted ..)
  rw [State.diCount_eq] at shown ⊢
  exact ⟨(congrArg (· != 0) shown).trans level, by rw [input]; exact idle, by rw [input]; exact lastAt, by rw [input]; exact lastEdge⟩

theorem State.accepts_chatterEnter : s.Accepts i now edge ((s.diTaken i now edge).chatterEnter i) := by
  obtain ⟨level, idle, lastAt, lastEdge⟩ := s.accepts_diTaken i now edge
  have shown := (s.diTaken i now edge).rd_chatterEnter i FLD_DISTAT.LEVEL i (by decide) (by decide) (by decide) (by decide)
  have input := (s.diTaken i now edge).di_chatterEnter i
  exact ⟨(congrArg (· != 0) shown).trans level, by rw [input]; exact idle, by rw [input]; exact lastAt, by rw [input]; exact lastEdge⟩

/-- Every accepted transition shows so, counted or not. -/
theorem State.accepts_diAccept {s : State} {i edge : Nat} (started : (s.di i).edge = some edge) (used : s.on FLD_DICFG.EN i = true)
    (supply : s.on FLD_STATUS.FIELD_OK = true) : s.Accepts i now edge (s.diAccept i now) := by
  rw [State.diAccept_eq now started used supply]
  split
  · exact s.accepts_diTaken i now edge
  · split
    · exact s.accepts_chatterEnter i now edge
    · exact s.accepts_diCount i now edge false edge

/-- A counted transition adds one to the count above the level (R240). -/
theorem State.value_diCount_diTaken (level clear : Bool) (time : Nat) :
    (((s.diTaken i now edge).diCount i level clear time).di i).value = diValue level ((s.di i).value / 2 + 1) := by
  rw [State.diCount_eq, State.di_tsPush, State.di_diCounted, State.di_diTaken]

end Acceptances

section Stuck

variable {s : State} {i : Nat}

/-- An input that has stayed active for `STUCK_MS` (R242). -/
theorem State.diStuck_eq (used : s.on FLD_DICFG.EN i = true) (supply : s.on FLD_STATUS.FIELD_OK = true)
    (checked : s.on FLD_DISTUCK.STUCK_MS i = true) (active : s.on FLD_DISTAT.LEVEL i = true) (first : s.on FLD_DISTAT.STUCK i = false) :
    s.diStuck i = ((s.wr FLD_DISTAT.STUCK 1 i).diWrite i).raise Ev.FLD_DI_STUCK i := if_pos ⟨used, supply, checked, active, first⟩

/-- STUCK yields to chatter and to a lost link (R245). -/
theorem State.diQuality_stuck (supply : s.on FLD_STATUS.FIELD_OK = true) : (s.wr FLD_DISTAT.STUCK 1 i).diQuality i =
    if s.on FLD_STATUS.D2D_UP then if s.on FLD_DISTAT.CHATTER i then 2 else 3 else 0xE := by
  have stuck : (s.wr FLD_DISTAT.STUCK 1 i).on FLD_DISTAT.STUCK i = true := State.on_wr_same ..
  unfold State.diQuality
  rw [stuck, State.on_wr_ne _ _ _ _ _ _ (by decide), State.on_wr_ne _ _ _ _ _ _ (by decide), State.on_wr_ne _ _ _ _ _ _ (by decide), supply]
  cases s.on FLD_STATUS.D2D_UP <;> rfl

end Stuck

section Supply

variable (s : State) (time : Nat)

/-- The debounce of input `i` begins again from its present raw level (R244). -/
def State.diRestart (i : Nat) : State :=
  s.setDi i { s.di i with edge := if s.on FLD_DISTAT.RAW i != s.on FLD_DISTAT.LEVEL i then some time else none }

/-- Input `i` with its raw and its accepted level. -/
def State.diLevels (i : Nat) : DiRun × Bool × Bool := (s.di i, s.on FLD_DISTAT.RAW i, s.on FLD_DISTAT.LEVEL i)

theorem State.diLevels_diRestart_same (i : Nat) : (s.diRestart time i).diLevels i =
    ({ s.di i with edge := if s.on FLD_DISTAT.RAW i != s.on FLD_DISTAT.LEVEL i then some time else none }, (s.diLevels i).2) :=
  congrArg (·, (s.diLevels i).2) (State.di_setDi_same ..)

theorem State.diLevels_diRestart_ne (i j : Nat) (other : j ≠ i) : (s.diRestart time i).diLevels j = s.diLevels j :=
  congrArg (·, (s.diLevels j).2) (State.di_setDi_ne _ _ _ _ other.symm)

/-- Each of the 16 inputs begins again on its own levels. -/
theorem State.edge_restarted (i : Nat) (input : i < 16) : (((List.range 16).foldl (fun s i => s.diRestart time i) s).di i).edge =
    if s.on FLD_DISTAT.RAW i != s.on FLD_DISTAT.LEVEL i then some time else none := by
  have each := foldl_pointwise State.diLevels (fun s i => s.diRestart time i)
    (fun _ b => ({ b.1 with edge := if b.2.1 != b.2.2 then some time else none }, b.2)) (fun _ => True)
    (fun s k _ => s.diLevels_diRestart_same time k) (fun s k j _ _ other => s.diLevels_diRestart_ne time k j other)
    (List.range 16) List.nodup_range (fun _ _ => trivial) s i trivial
  rw [if_pos (List.mem_range.2 input)] at each
  exact congrArg (fun b => b.1.edge) each

theorem State.rd_restarted (f : Field) (j : Nat) (l : List Nat) : (l.foldl (fun s i => s.diRestart time i) s).rd f j = s.rd f j :=
  State.rd_foldl (fun s i => s.diRestart time i) f j (fun _ _ => rfl) l s

/-- The hub as the field supply has come back, before the debounces begin again (R244). -/
def State.supplied : State := (s.wr FLD_STATUS.FIELD_OK 1).requalifyInputs

theorem State.rd_supplied (f : Field) (j : Nat) (notOk : FLD_STATUS.FIELD_OK.id ≠ f.id) (notLevel : FLD_OSTAT.LEVEL.id ≠ f.id)
    (notPsafe : FLD_OSTAT.PSAFE.id ≠ f.id) : s.supplied.rd f j = s.rd f j :=
  (State.rd_requalifyInputs _ _ _ notLevel notPsafe).trans (State.rd_wr_ne _ _ _ _ _ _ notOk)

theorem State.rd_supplied_ok : s.supplied.rd FLD_STATUS.FIELD_OK = 1 :=
  (State.rd_requalifyInputs _ _ _ (by decide) (by decide)).trans (State.rd_wr_same ..)

theorem exec_fieldOkReturn (low : s.on FLD_STATUS.FIELD_OK = false) :
    exec (.fieldOkReturn time) s = .next ((List.range 16).foldl (fun s i => s.diRestart time i) s.supplied) := by
  have act : exec (.fieldOkReturn time) s = .next (s.fieldReturn time) := rfl
  rw [act]
  unfold State.fieldReturn
  rw [if_neg (by simp [low])]
  rfl

theorem exec_fieldLow (supply : s.on FLD_STATUS.FIELD_OK = true) :
    exec .fieldLow s = .next (((s.wr FLD_STATUS.FIELD_OK 0).requalifyInputs).raise Ev.FLD_FIELD_LOW) := congrArg _ (if_pos supply)

end Supply

/-- Settles O28: the edge, then the ends of an acceptance by the supply and by chatter, the end of chatter at the frozen level, a stuck input, and
the two changes of the field supply. -/
theorem directInputs : Obligations.DirectInputs := by
  refine ⟨fun s i level time => congrArg Host.Outcome.next (s.diEdge_eq i.val level time), fun s i now edge started used => ?accepted,
    fun s i chatter used supply same => congrArg Host.Outcome.next (State.chatterEnd_same chatter used supply same),
    fun s i used supply checked active first => ⟨congrArg Host.Outcome.next (State.diStuck_eq used supply checked active first),
      State.diQuality_stuck supply⟩, fun s => ⟨exec_fieldLow s, fun time low => ?returned⟩⟩
  case accepted =>
    rw [exec_diAccept]
    refine ⟨fun low => congrArg _ (State.diAccept_noSupply now started low), fun supply => ?_⟩
    obtain ⟨level, idle, lastAt, lastEdge⟩ := State.accepts_diAccept now started used supply
    refine ⟨_, rfl, level, idle, lastAt, lastEdge, fun chatter => ?_, fun calm few => ?_, fun calm limit many close => ?_⟩
    · rw [State.diAccept_chatter now started used supply chatter, State.di_diTaken]
      exact ⟨rfl, s.tsFifo_diTaken ..⟩
    · rw [State.diAccept_counts now started used supply calm few]
      exact s.value_diCount_diTaken ..
    · rw [State.diAccept_enters now started used supply calm limit many close]
      have stable : ((s.diTaken i now edge).chatterEnter i).on FLD_DISTAT.STABLE i = (s.diTaken i now edge).on FLD_DISTAT.STABLE i :=
        congrArg (· != 0) (State.rd_chatterEnter _ _ _ _ (by decide) (by decide) (by decide) (by decide))
      rw [stable, State.di_chatterEnter, State.di_diTaken]
      exact ⟨State.rd_chatterEnter_chatter .., rfl, (State.tsFifo_chatterEnter ..).trans (s.tsFifo_diTaken ..), State.on_raise_status ..⟩
  case returned =>
    refine ⟨_, exec_fieldOkReturn s time low, (State.rd_restarted ..).trans s.rd_supplied_ok, fun i input => ?_⟩
    have raw : s.supplied.on FLD_DISTAT.RAW i = s.on FLD_DISTAT.RAW i :=
      congrArg (· != 0) (s.rd_supplied _ i (by decide) (by decide) (by decide))
    have accepted : s.supplied.on FLD_DISTAT.LEVEL i = s.on FLD_DISTAT.LEVEL i :=
      congrArg (· != 0) (s.rd_supplied _ i (by decide) (by decide) (by decide))
    rw [s.supplied.edge_restarted time i input, raw, accepted]

end Sys2Proof.Machine

/-! Field segments (R233 to R238): received frames, noise, drops that fall silent, and a line fault from its start to the eighth clean probe. -/

namespace Sys2Proof.Machine

section Reception

variable (s : State)

theorem exec_fsFrameReceive (g : Fin 4) (b : List Byte) (fcs : Bool) (opp : Fin 32) :
    exec (.fsFrameReceive g b fcs opp) s = .next (s.fsReceive g.val b fcs opp.val) := rfl

theorem State.rd_swDrop (port cause : Nat) (f : Field) (i : Nat) (notDrop : SWB_DROP.COUNT.id ≠ f.id) (notEvent : f.id ∉ eventFields) :
    (s.swDrop port cause).rd f i = s.rd f i := by
  rw [State.swDrop, State.rd_raiseOnce _ _ _ _ _ _ notEvent, State.rd_bump_ne _ _ _ _ _ _ notDrop]

/-- A dropped frame is no matter of the field side's own state. -/
theorem State.fld_swDrop (port cause : Nat) : (s.swDrop port cause).fld = s.fld := State.fld_raiseOnce ..

variable (g opp : Nat) (b : List Byte)

/-- A stranger counted and reported (R236). -/
def State.strangerSeen : State := ((s.bump FLD_STRANGER.COUNT g).swDrop (12 + g) Drop.FCS).raiseOnce Ev.FLD_STRANGER_SEEN g (beAt b 6 6)

theorem State.fld_strangerSeen : (s.strangerSeen g b).fld = s.fld := (State.fld_raiseOnce ..).trans (State.fld_swDrop ..)

/-- With room in the quarantine buffer, a copy of the stranger's frame goes there (R236). -/
theorem State.stranger_quarantined (copies : s.on FLD_SCTRL.QUAR g = true) (room : s.fld.quar.length < 16) :
    s.stranger g opp b = (s.strangerSeen g b).modFld (fun f => { f with quar := f.quar ++ [g :: opp :: b.map BitVec.toNat] }) := by
  have seen : (s.strangerSeen g b).on FLD_SCTRL.QUAR g = true := by
    rw [← copies, State.on, State.on, State.strangerSeen, State.rd_raiseOnce _ _ _ _ _ _ (by decide),
      State.rd_swDrop _ _ _ _ _ (by decide) (by decide), State.rd_bump_ne _ _ _ _ _ _ (by decide)]
  have place : (s.strangerSeen g b).fld.quar.length < 16 := by rwa [State.fld_strangerSeen]
  exact (if_pos seen).trans (if_pos place)

variable {s g}

/-- A segment that is off receives nothing (R234). -/
theorem State.fsReceive_off (fcs : Bool) (off : s.on FLD_SCTRL.EN g = false) : s.fsReceive g b fcs opp = s := if_pos off

theorem State.fsReceive_badFcs (enabled : s.on FLD_SCTRL.EN g = true) : s.fsReceive g b false opp = s.swDrop (12 + g) Drop.FCS := by
  unfold State.fsReceive
  rw [if_neg (by simp [enabled]), if_pos rfl]

/-- A frame from an address without admission comes from a stranger (R235). -/
theorem State.fsReceive_stranger (enabled : s.on FLD_SCTRL.EN g = true) (unknown : s.admission g (beAt b 6 6) = none) :
    s.fsReceive g b true opp = s.stranger g opp b := by
  unfold State.fsReceive
  rw [if_neg (by simp [enabled]), if_neg (Ne.symm Bool.false_ne_true), unknown]

/-- A frame of the entry's cyclic EtherType is cyclic (R235). -/
theorem State.fsReceive_cyclic {e : Nat} (enabled : s.on FLD_SCTRL.EN g = true) (known : s.admission g (beAt b 6 6) = some e)
    (anyTurn : s.on FLD_ADM1.CHK_ID e = false) (cyclic : s.on FLD_ADM2.CYC_ETYPE e = true)
    (etype : (etherAt b 12 4).2 = s.rd FLD_ADM2.CYC_ETYPE e) :
    s.fsReceive g b true opp = s.cyclic g e (b.drop ((etherAt b 12 4).1 + 2)) := by
  unfold State.fsReceive
  rw [if_neg (by simp [enabled]), if_neg (Ne.symm Bool.false_ne_true), known]
  dsimp only
  rw [if_neg (by simp [anyTurn]), if_pos ⟨cyclic, etype⟩]

end Reception

section NoiseAndSilence

/-- Noise that is not above the limit is only counted (R233). -/
theorem State.segNoise_quiet (s : State) (g noise coll : Nat) (contends : s.on FLD_SCTRL.PLCA_EN g = false)
    (below : noise ≤ s.rd FLD_SCTRL.NOISE_LIM g) :
    s.segNoise g noise coll [] = (s.bump FLD_SNOISE.COUNT g noise).bump FLD_SCOLL.COUNT g coll := by
  have mode : (s.bump FLD_SNOISE.COUNT g noise).on FLD_SCTRL.PLCA_EN g = false := (State.on_bump_ne _ _ _ _ _ _ (by decide)).trans contends
  have limit : ((s.bump FLD_SNOISE.COUNT g noise).bump FLD_SCOLL.COUNT g coll).rd FLD_SCTRL.NOISE_LIM g = s.rd FLD_SCTRL.NOISE_LIM g :=
    (State.rd_bump_ne _ _ _ _ _ _ (by decide)).trans (State.rd_bump_ne _ _ _ _ _ _ (by decide))
  unfold State.segNoise
  dsimp only
  rw [mode, if_neg Bool.false_ne_true, if_neg (by rw [limit]; omega)]

variable {s : State} {e : Nat}

/-- A drop is lost once, until it is heard again (R238). -/
theorem State.dropTimeout_again (lost : NMap.get s.fld.lost false e = true) : s.dropTimeout e = s := if_neg (by simp [lost])

theorem State.dropTimeout_first (valid : s.on FLD_ADM1.VALID e = true) (cyclic : s.on FLD_ADM2.CYC_ETYPE e = true)
    (timed : s.on FLD_ADM4.CYC_TO e = true) (heard : NMap.get s.fld.lost false e = false) : s.dropTimeout e =
      ((s.modFld (fun f => { f with lost := NMap.set f.lost false e true })).setQuality (s.rd FLD_ADM3.BASE e) (s.rd FLD_ADM3.COUNT e) 0xE).raise
        Ev.FLD_DROP_LOST e := if_pos ⟨valid, cyclic, timed, heard⟩

end NoiseAndSilence

section Discards

/-- A copy given back is seen in the free descriptors and the queue's cells alone (R191, R192). -/
theorem State.rd_releaseCopy (s : State) (c : Copy) (f : Field) (i : Nat) (notFree : SWB_DESC.FREE.id ≠ f.id)
    (notCells : SWB_QLEN.CELLS.id ≠ f.id) : (s.releaseCopy c).rd f i = s.rd f i := by
  have credit : ∀ (t : State) (p v n epoch : Nat), (t.giveCredit p v n epoch).rd f i = t.rd f i := by
    intro t p v n epoch
    unfold State.giveCredit
    split <;> rfl
  have given : ∀ n q, ((s.wr SWB_DESC.FREE n).wr SWB_QLEN.CELLS q c.queue).rd f i = s.rd f i := fun n q => by
    rw [State.rd_wr_ne _ _ _ _ _ _ notCells, State.rd_wr_ne _ _ _ _ _ _ notFree]
  unfold State.releaseCopy
  dsimp only
  split
  · exact (credit _ _ _ _ _).trans (given _ _)
  · exact given _ _

/-- A source that is raised stays so while frames are dropped. -/
theorem State.on_swDrop_of_on {s : State} (port cause j : Nat) (raised : s.on EVU_SRC.STATUS j = true) :
    (s.swDrop port cause).on EVU_SRC.STATUS j = true := by
  have counted : (s.bump SWB_DROP.COUNT (port * 9 + (cause - 1))).on EVU_SRC.STATUS j = true :=
    (State.on_bump_ne _ _ _ _ _ _ (by decide)).trans raised
  unfold State.swDrop State.raiseOnce
  split
  · exact counted
  · exact State.on_raise_of_on _ _ j counted

theorem State.on_portDownDiscard_of_on {s : State} (p j : Nat) (raised : s.on EVU_SRC.STATUS j = true) :
    (s.portDownDiscard p).on EVU_SRC.STATUS j = true := by
  unfold State.portDownDiscard
  refine List.foldlRecOn _ _ (motive := fun t : State => t.on EVU_SRC.STATUS j = true) raised fun t kept c _ => ?_
  exact State.on_swDrop_of_on _ _ j ((congrArg (· != 0) (t.rd_releaseCopy c _ j (by decide) (by decide))).trans kept)

end Discards

section SegmentState

variable (s : State) (g : Nat)

/-- The segment shown as down; the frames queued for it are discarded if it was up (R194, R234). -/
def State.segDown : State := if s.on FLD_SSTAT.UP g then (s.wr FLD_SSTAT.UP 0 g).portDownDiscard (12 + g) else s.wr FLD_SSTAT.UP 0 g

theorem State.rd_segDown_eq_wr (f : Field) (i : Nat) (other : f.id ∉ releaseFields) : (s.segDown g).rd f i = (s.wr FLD_SSTAT.UP 0 g).rd f i := by
  unfold State.segDown
  split
  · exact State.rd_portDownDiscard _ _ _ _ other
  · rfl

theorem State.on_segDown_of_on {s : State} (j : Nat) (raised : s.on EVU_SRC.STATUS j = true) : (s.segDown g).on EVU_SRC.STATUS j = true := by
  have marked : (s.wr FLD_SSTAT.UP 0 g).on EVU_SRC.STATUS j = true := (State.on_wr_ne _ _ _ _ _ _ (by decide)).trans raised
  unfold State.segDown
  split
  · exact State.on_portDownDiscard_of_on _ j marked
  · exact marked

variable {s g}

/-- A segment with a line fault is not up and sends no BEACON (R231, R234). -/
theorem State.segRefresh_faulty (faulty : s.on FLD_SSTAT.LINEFAULT g = true) : s.segRefresh g = (s.segDown g).wr FLD_SSTAT.PLCA_ON 0 g := by
  unfold State.segRefresh State.segDown
  simp [faulty, State.setBit]

theorem State.segRefresh_good (good : s.on FLD_SSTAT.LINEFAULT g = false) (enabled : s.on FLD_SCTRL.EN g = true) : s.segRefresh g =
    (s.wr FLD_SSTAT.UP 1 g).setBit FLD_SSTAT.PLCA_ON ((s.wr FLD_SSTAT.UP 1 g).on FLD_SCTRL.PLCA_EN g) g := by
  unfold State.segRefresh
  simp [good, enabled, State.setBit]

end SegmentState

section LineFault

variable {s : State} {g : Nat}

/-- The segment as its line fault is found and reported (R234). -/
def State.segFaulted (s : State) (g : Nat) : State :=
  ((s.wr FLD_SSTAT.LINEFAULT 1 g).modFld (fun f => { f with probes := NMap.set f.probes 0 g 0 })).raise Ev.FLD_SEG_FAULT g

theorem State.rd_segFaulted_fault (s : State) (g : Nat) : (s.segFaulted g).rd FLD_SSTAT.LINEFAULT g = 1 :=
  (State.rd_raise _ _ _ _ _ (by decide)).trans (State.rd_wr_same ..)

theorem State.lineFault_found (enabled : s.on FLD_SCTRL.EN g = true) (good : s.on FLD_SSTAT.LINEFAULT g = false) :
    s.lineFault g = ((s.segFaulted g).segDown g).wr FLD_SSTAT.PLCA_ON 0 g := by
  have faulty : (s.segFaulted g).on FLD_SSTAT.LINEFAULT g = true := congrArg (· != 0) (s.rd_segFaulted_fault g)
  rw [← State.segRefresh_faulty faulty]
  exact if_pos ⟨enabled, good⟩

/-- What a segment's line fault shows (R234). -/
theorem State.lineFault_shows (s : State) (g : Nat) :
    let t := ((s.segFaulted g).segDown g).wr FLD_SSTAT.PLCA_ON 0 g
    t.rd FLD_SSTAT.LINEFAULT g = 1 ∧ t.rd FLD_SSTAT.UP g = 0 ∧ t.rd FLD_SSTAT.PLCA_ON g = 0 ∧ t.on EVU_SRC.STATUS Ev.FLD_SEG_FAULT = true := by
  refine ⟨?_, ?_, State.rd_wr_same .., ?_⟩
  · rw [State.rd_wr_ne _ _ _ _ _ _ (by decide), State.rd_segDown_eq_wr _ _ _ _ (by decide), State.rd_wr_ne _ _ _ _ _ _ (by decide),
      State.rd_segFaulted_fault]
  · rw [State.rd_wr_ne _ _ _ _ _ _ (by decide), State.rd_segDown_eq_wr _ _ _ _ (by decide), State.rd_wr_same]
    rfl
  · exact (State.on_wr_ne _ _ _ _ _ _ (by decide)).trans (State.on_segDown_of_on g _ (State.on_raise_status ..))

/-- The segment with its last probe sent and its fault cleared, before its state bits follow (R234). -/
def State.segCleared (s : State) (g : Nat) : State :=
  ((s.emit (.act (if s.on FLD_SCTRL.PLCA_EN g then "beacon" else "idle probe") [g])).wr FLD_SSTAT.LINEFAULT 0 g).modFld
    (fun f => { f with probes := NMap.set f.probes 0 g 0 })

variable (faulty : s.on FLD_SSTAT.LINEFAULT g = true)
include faulty

/-- A probe that does not come back clean begins the count again (R234). -/
theorem State.lineProbe_bad : s.lineProbe g false =
    (s.emit (.act (if s.on FLD_SCTRL.PLCA_EN g then "beacon" else "idle probe") [g])).modFld
      (fun f => { f with probes := NMap.set f.probes 0 g 0 }) := by
  unfold State.lineProbe
  rw [if_neg (by simp [faulty])]
  rfl

/-- The eighth clean probe in a row ends the fault (R234). -/
theorem State.lineProbe_eighth (seven : NMap.get s.fld.probes 0 g = 7) : s.lineProbe g true = (s.segCleared g).segRefresh g := by
  have eighth : 8 ≤ NMap.get s.fld.probes 0 g + 1 := by omega
  unfold State.lineProbe
  rw [if_neg (by simp [faulty])]
  exact if_pos eighth

/-- A segment that is on is up again with the eighth clean probe (R234). -/
theorem State.lineProbe_restores (seven : NMap.get s.fld.probes 0 g = 7) (enabled : s.on FLD_SCTRL.EN g = true) :
    (s.lineProbe g true).rd FLD_SSTAT.LINEFAULT g = 0 ∧ (s.lineProbe g true).rd FLD_SSTAT.UP g = 1 := by
  have cleared : (s.segCleared g).rd FLD_SSTAT.LINEFAULT g = 0 := State.rd_wr_same ..
  have on : (s.segCleared g).on FLD_SCTRL.EN g = true := (State.on_wr_ne _ _ _ _ _ _ (by decide)).trans enabled
  rw [State.lineProbe_eighth faulty seven, State.segRefresh_good (congrArg (· != 0) cleared) on, State.setBit,
    State.rd_wr_ne _ _ _ _ _ _ (by decide), State.rd_wr_ne _ _ _ _ _ _ (by decide), State.rd_wr_ne _ _ _ _ _ _ (by decide), State.rd_wr_same]
  exact ⟨cleared, rfl⟩

end LineFault

end Sys2Proof.Machine

/-! Points and outputs (R230, R246 to R250): a write through the point window, the watchdog, the latched safe state, and arming. -/

namespace Sys2Proof.Machine

section Points

variable (s : State)

theorem exec_pointWrite (n : Fin 4096) (data : Word) (h : s.serves (0x510000 + 4 * n.val) true) :
    exec (.pointWrite n data) s = .next (s.pointWrite n.val data.toNat) := congrArg _ (State.access_serves s _ true _ h)

variable {s} {n : Nat} (data : Nat)

/-- A point with a producer is not written (R230). -/
theorem State.pointWrite_produced (produced : s.producers n ≠ []) : s.pointWrite n data = s.answer St.CONFLICT := by
  have taken : (s.producers n).isEmpty = false := by simpa using produced
  unfold State.pointWrite
  rw [taken]
  exact State.checked_fail _ _ _ (by decide)

theorem State.pointWrite_free (free : s.producers n = []) : s.pointWrite n data = (s.setPoint n data).answer St.OK := by
  unfold State.pointWrite
  rw [free]
  exact State.checked_ok _ _ _ (by decide)

/-- A point that no output follows changes alone (R230, R246). -/
theorem State.setPoint_unfollowed (unfollowed : ∀ k, k < 8 → s.rd FLD_OCFG.PT k ≠ n) : s.setPoint n data =
    { s with points := NMap.set s.points pointReset n (data % 2 ^ 32), pointGen := NMap.set s.pointGen 0 n (NMap.get s.pointGen 0 n + 1) } := by
  have none : (List.range 8).filter (fun k => s.rd FLD_OCFG.PT k == n) = [] :=
    List.filter_eq_nil_iff.2 fun k hk => by simpa using unfollowed k (List.mem_range.1 hk)
  unfold State.setPoint
  exact congrArg (List.foldl _ _) none

end Points

section Watchdog

variable {s : State} {data : Nat}

theorem exec_outputWdKick (s : State) (data : Word) (h : s.serves Reg.FLD_OKICK.base true) :
    exec (.outputWdKick data) s = .next (s.outputKick data.toNat) := congrArg _ (State.access_serves s _ true _ h)

/-- While writes of a point refresh the watchdog, the register does not (R248); STATE comes before VALUE (R10). -/
theorem State.outputKick_byPoint (byPoint : s.on FLD_OWD.KSRC = true) : s.outputKick data = s.answer St.STATE := by
  have status : firstStatus [(St.STATE, true), (St.VALUE, data != 0x5A5A)] = St.STATE := by cases data != 0x5A5A <;> rfl
  unfold State.outputKick
  rw [byPoint, State.checked_fail _ _ _ (by rw [status]; decide), status]

variable (byKey : s.on FLD_OWD.KSRC = false)
include byKey

theorem State.outputKick_wrongKey (wrong : data ≠ 0x5A5A) : s.outputKick data = s.answer St.VALUE := by
  unfold State.outputKick
  rw [byKey, bne_iff_ne.2 wrong]
  exact State.checked_fail _ _ _ (by decide)

theorem State.outputKick_key : s.outputKick 0x5A5A = s.kick.answer St.OK := by
  unfold State.outputKick
  rw [byKey]
  exact State.checked_ok _ _ _ (by decide)

end Watchdog

section SafeState

/-- The hub with its output watchdog run out (R248). -/
def State.wdLapsed (s : State) : State := s.modFld (fun f => { f with wdFresh := false })

theorem exec_outputWdLapse (s : State) : exec .outputWdLapse s = .next (s.wdLapsed.safeLatch FLD_OSTAT.WDLAPSE) := rfl
theorem exec_d2dFrameTimeout (s : State) : exec .d2dFrameTimeout s = .next (s.safeLatch FLD_OSTAT.D2DLOSS) := rfl

variable {s : State} {cause : Field}

/-- A further cause while latched sets its bit and nothing else (R249). -/
theorem State.safeLatch_again (notSafe : cause.id ≠ FLD_OCTRL.SAFE.id) (latched : s.on FLD_OCTRL.SAFE = true) : s.safeLatch cause = s.wr cause 1 :=
  if_pos ((State.on_wr_ne _ _ _ _ _ _ notSafe).trans latched)

/-- The first cause latches the safe state, reads as set and raises the event (R249). -/
theorem State.safeLatch_first (notSafe : cause.id ≠ FLD_OCTRL.SAFE.id) (notLevel : FLD_OSTAT.LEVEL.id ≠ cause.id)
    (notPsafe : FLD_OSTAT.PSAFE.id ≠ cause.id) (notEvent : cause.id ∉ eventFields) (free : s.on FLD_OCTRL.SAFE = false) :
    (s.safeLatch cause).rd FLD_OCTRL.SAFE = 1 ∧ (s.safeLatch cause).rd cause = 1 % 2 ^ cause.width ∧
      (s.safeLatch cause).on EVU_SRC.STATUS Ev.FLD_OUT_SAFE = true := by
  have first : (s.wr cause 1).on FLD_OCTRL.SAFE = false := (State.on_wr_ne _ _ _ _ _ _ notSafe).trans free
  obtain ⟨cap, act⟩ : ∃ cap, s.safeLatch cause = (((s.wr cause 1).wr FLD_OCTRL.SAFE 1).raise Ev.FLD_OUT_SAFE cap).refreshOutputs :=
    ⟨_, if_neg (by simp [first])⟩
  refine ⟨?_, State.rd_safeLatch_cause _ _ notLevel notPsafe notSafe.symm notEvent, ?_⟩ <;> rw [act]
  · rw [State.rd_refreshOutputs _ _ _ (by decide) (by decide), State.rd_raise _ _ _ _ _ (by decide), State.rd_wr_same]
    rfl
  · exact (congrArg (· != 0) (State.rd_refreshOutputs _ _ _ (by decide) (by decide))).trans (State.on_raise_status ..)

end SafeState

section Arming

variable {s : State} {data : Nat}

theorem exec_arm (s : State) (data : Word) (h : s.serves Reg.FLD_OCTRL.base true) : exec (.arm data) s = .next (s.octrlWrite data.toNat) :=
  congrArg _ (State.access_serves s _ true _ h)

theorem exec_autoarm_armed (auto : s.on FLD_OCTRL.AUTOARM = true) (latched : s.on FLD_OCTRL.SAFE = true) (may : s.mayArm = true) :
    exec .autoarm s = .next s.armOutputs := congrArg _ (if_pos ⟨auto, latched, may⟩)

theorem exec_autoarm_refused (mayNot : s.mayArm = false) : exec .autoarm s = .next s := congrArg _ (if_neg (by simp [mayNot]))

variable (common : firstStatus (s.writeChecks Reg.FLD_OCTRL 0 data) = St.OK) (arm : FLD_OCTRL.ARM.of data = 1)
include common arm

/-- ARM is refused where a condition of R250 does not hold. -/
theorem State.octrlWrite_refused (mayNot : (s.writeFields Reg.FLD_OCTRL 0 data).mayArm = false) : s.octrlWrite data = s.answer St.STATE := by
  unfold State.octrlWrite
  dsimp only
  rw [mayNot, decide_eq_true arm]
  exact State.writeReg_ownFail common _ (by decide)

theorem State.octrlWrite_armed (may : (s.writeFields Reg.FLD_OCTRL 0 data).mayArm = true) :
    s.octrlWrite data = (s.writeFields Reg.FLD_OCTRL 0 data).armOutputs.answer St.OK := by
  unfold State.octrlWrite
  dsimp only
  rw [may, Bool.not_true, Bool.and_false, State.writeReg_accepted common _ (by decide), if_pos arm]

end Arming

/-- Settles O29: one lemma for each way a frame, noise, a silent drop, a line fault, a point write, a kick, a cause of the safe state or an arming
can end. -/
theorem segmentsAndOutputs : Obligations.SegmentsAndOutputs := by
  refine ⟨fun s g b opp => ?frames, fun s g noise coll contends below => congrArg Host.Outcome.next (s.segNoise_quiet g noise coll contends below),
    fun s e valid cyclic timed => ⟨fun lost => congrArg Host.Outcome.next (State.dropTimeout_again lost),
      fun heard => congrArg Host.Outcome.next (State.dropTimeout_first valid cyclic timed heard)⟩,
    fun s g enabled good => ⟨_, congrArg Host.Outcome.next (State.lineFault_found enabled good), s.lineFault_shows g⟩,
    fun s g faulty => ⟨congrArg Host.Outcome.next (State.lineProbe_bad faulty),
      fun seven enabled => ⟨_, rfl, State.lineProbe_restores faulty seven enabled⟩⟩,
    fun s n data h => ?points, fun s data h => ?kick, fun s latched => ?latched, fun s free => ?lapse, fun s data h common arm => ?arm⟩
  case frames =>
    simp only [exec_fsFrameReceive]
    exact ⟨fun fcs off => congrArg _ (State.fsReceive_off _ b fcs off), fun enabled => congrArg _ (State.fsReceive_badFcs _ b enabled),
      fun enabled unknown copies room => congrArg _ ((State.fsReceive_stranger _ b enabled unknown).trans (s.stranger_quarantined _ _ b copies room)),
      fun e enabled known anyTurn cyclic etype => congrArg _ (State.fsReceive_cyclic _ b enabled known anyTurn cyclic etype)⟩
  case points =>
    rw [exec_pointWrite s n data h]
    refine ⟨fun produced => congrArg _ (State.pointWrite_produced _ produced), fun free unfollowed => ?_⟩
    have act := State.pointWrite_free data.toNat free
    rw [State.setPoint_unfollowed _ unfollowed, Nat.mod_eq_of_lt data.isLt] at act
    exact ⟨_, congrArg _ act, NMap.get_set_same .., fun k other => NMap.get_set_ne _ _ _ _ _ other.symm, rfl⟩
  case kick =>
    rw [exec_outputWdKick s data h]
    refine ⟨fun byPoint => congrArg _ (State.outputKick_byPoint byPoint), fun byKey wrong => congrArg _ (State.outputKick_wrongKey byKey ?_),
      fun byKey key => ?_⟩
    · exact fun same => wrong (BitVec.eq_of_toNat_eq same)
    · rw [key]
      exact congrArg _ (State.outputKick_key byKey)
  case latched =>
    rw [exec_outputWdLapse, exec_d2dFrameTimeout]
    exact ⟨congrArg _ (State.safeLatch_again (s := s.wdLapsed) (by decide) latched), congrArg _ (State.safeLatch_again (by decide) latched),
      fun auto may => exec_autoarm_armed auto latched may, exec_autoarm_refused⟩
  case lapse =>
    exact ⟨⟨_, exec_outputWdLapse s, State.safeLatch_first (s := s.wdLapsed) (by decide) (by decide) (by decide) (by decide) free⟩,
      ⟨_, exec_d2dFrameTimeout s, State.safeLatch_first (by decide) (by decide) (by decide) (by decide) free⟩⟩
  case arm =>
    rw [exec_arm s data h]
    exact ⟨fun mayNot => congrArg _ (State.octrlWrite_refused common arm mayNot), fun may => congrArg _ (State.octrlWrite_armed common arm may)⟩

end Sys2Proof.Machine

/-! Tree time (R264, R268, R269): the answers to a step and to a rate, what slot 0 applies, a node's delay, and the loss of the grandmaster. -/

namespace Sys2Proof.Machine

section StepAndRate

variable {s : State} {data : Nat}

theorem exec_timeStep (s : State) (data : Word) (h : s.serves Reg.TSU_STEPCMD.base true) : exec (.timeStep data) s = .next (s.timeStep data.toNat) :=
  congrArg _ (State.access_serves s _ true _ h)

theorem exec_tsuRateWrite (s : State) (data : Word) (h : s.serves Reg.TSU_RATE.base true) :
    exec (.tsuRateWrite data) s = .next (s.rateWrite data.toNat) :=
  congrArg _ (State.access_serves s _ true _ h)

/-- At a node a check for the root fails before one that ranks behind STATE (R10). -/
theorem firstStatus_rootOnly (node : s.isRoot = false) (code : Nat) (late : code = St.BUSY ∨ code = St.RANGE) (fails : Bool) :
    firstStatus [(St.STATE, !s.isRoot), (code, fails)] = St.STATE := by
  rw [node]
  rcases late with rfl | rfl <;> cases fails <;> rfl

section Step

/-- No check but that of the reserved bits concerns `TSU_STEPCMD`, and its field keeps nothing. -/
theorem State.firstStatus_stepcmd (s : State) (reserved : Reg.TSU_STEPCMD.reservedSet data = false) :
    firstStatus (s.writeChecks Reg.TSU_STEPCMD 0 data) = St.OK := by
  rw [State.firstStatus_writeChecks, reserved]
  rfl

theorem State.writeFields_stepcmd (s : State) (data : Nat) : s.writeFields Reg.TSU_STEPCMD 0 data = s := rfl

/-- The root with the step of `TSU_STEP` taken for its next slot 0 (R268). -/
def State.stepTaken (s : State) : State :=
  (s.wr TSU_STATUS.STEP_PEND 1).modTsu (fun t => { t with step := s.rd TSU_STEP_LO.STEP + 2 ^ 32 * s.rd TSU_STEP_HI.STEP })

variable (reserved : Reg.TSU_STEPCMD.reservedSet data = false)
include reserved

theorem State.timeStep_node (node : s.isRoot = false) : s.timeStep data = s.answer St.STATE := by
  have status := fun fails => firstStatus_rootOnly node St.BUSY (.inl rfl) fails
  unfold State.timeStep
  dsimp only
  rw [State.writeReg_ownFail (s.firstStatus_stepcmd reserved) _ (by rw [status]; decide), status]

variable (go : TSU_STEPCMD.GO.of data = 1) (root : s.isRoot = true)
include go root

theorem State.timeStep_busy (pending : s.on TSU_STATUS.STEP_PEND = true) : s.timeStep data = s.answer St.BUSY := by
  unfold State.timeStep
  dsimp only
  rw [root, pending, decide_eq_true go]
  exact State.writeReg_ownFail (s.firstStatus_stepcmd reserved) _ (by decide)

theorem State.timeStep_taken (free : s.on TSU_STATUS.STEP_PEND = false) : s.timeStep data = s.stepTaken.answer St.OK := by
  unfold State.timeStep
  dsimp only
  rw [root, free, Bool.and_false, State.writeReg_accepted (s.firstStatus_stepcmd reserved) _ (by decide), if_pos go, State.writeFields_stepcmd]
  rfl

end Step

section Rate

/-- The root with a rate written that waits for its next slot 0 (R268). -/
def State.rateTaken (s : State) (data : Nat) : State := (s.wr TSU_RATE.RATE (TSU_RATE.RATE.of data)).modTsu (fun t => { t with ratePend := true })

theorem State.rd_rateTaken (s : State) (word : data < 2 ^ 32) : (s.rateTaken data).rd TSU_RATE.RATE = data := by
  have whole : TSU_RATE.RATE.of data = data := (congrArg (· % 2 ^ 32) (Nat.div_one data)).trans (Nat.mod_eq_of_lt word)
  exact (State.rd_wr_same ..).trans ((congrArg (· % 2 ^ 32) whole).trans (Nat.mod_eq_of_lt word))

theorem State.keepsRegs_rateTaken (s : State) (data : Nat) : s.keepsRegs (s.rateTaken data) [(TSU_RATE.RATE, 0)] :=
  State.keepsRegs_of_regs _ (State.keepsRegs_wr (s.keepsRegs_refl _) TSU_RATE.RATE (TSU_RATE.RATE.of data) 0 List.mem_cons_self) rfl

variable (common : firstStatus (s.writeChecks Reg.TSU_RATE 0 data) = St.OK)
include common

theorem State.rateWrite_node (node : s.isRoot = false) : s.rateWrite data = s.answer St.STATE := by
  have status := fun fails => firstStatus_rootOnly node St.RANGE (.inr rfl) fails
  unfold State.rateWrite
  dsimp only
  rw [State.writeReg_ownFail common _ (by rw [status]; decide), status]

variable (root : s.isRoot = true)
include root

theorem State.rateWrite_outside (outside : 4194304 < sgn 32 data ∨ sgn 32 data < -4194304) : s.rateWrite data = s.answer St.RANGE := by
  have fails : (decide (sgn 32 data < -4194304) || decide (4194304 < sgn 32 data)) = true := by simpa using outside.symm
  unfold State.rateWrite
  dsimp only
  rw [root, fails]
  exact State.writeReg_ownFail common _ (by decide)

theorem State.rateWrite_taken (low : -4194304 ≤ sgn 32 data) (high : sgn 32 data ≤ 4194304) :
    s.rateWrite data = (s.rateTaken data).answer St.OK := by
  unfold State.rateWrite
  dsimp only
  rw [root, decide_eq_false (Int.not_lt.2 low), decide_eq_false (Int.not_lt.2 high), State.writeReg_accepted common _ (by decide)]
  rfl

end Rate

end StepAndRate

section SlotZero

variable {s : State}

/-- Tree time with the pending step added, modulo its 64 bits of ns (R268). -/
def State.timeStepped (s : State) : State :=
  ({ s with treeTime := (((s.treeTime : Int) + sgn 64 s.eth.tsu.step * 2 ^ 32) % (2 ^ 96 : Int)).toNat }).wr TSU_STATUS.STEP_PEND 0

theorem State.rd_timeStepped_rate (s : State) : s.timeStepped.rd TSU_RATE.RATE = s.rd TSU_RATE.RATE := State.rd_wr_ne _ _ _ _ _ _ (by decide)

theorem State.stepApply_idle (noStep : s.on TSU_STATUS.STEP_PEND = false) (noRate : s.eth.tsu.ratePend = false) : s.stepApply = s := by
  unfold State.stepApply
  rw [noStep, if_neg Bool.false_ne_true]
  exact if_neg (by simp [noRate])

/-- Both pending: the step first, then the rate that `TSU_RATE` shows (R268). -/
theorem State.stepApply_both (step : s.on TSU_STATUS.STEP_PEND = true) (rate : s.eth.tsu.ratePend = true) :
    s.stepApply = s.timeStepped.modTsu (fun t => { t with rate := s.rd TSU_RATE.RATE, ratePend := false }) := by
  have act : s.stepApply = s.timeStepped.modTsu (fun t => { t with rate := s.timeStepped.rd TSU_RATE.RATE, ratePend := false }) := by
    unfold State.stepApply
    rw [if_pos step]
    exact if_pos rate
  rw [act, s.rd_timeStepped_rate]

end SlotZero

section NodeDelay

variable {s : State} {hfn : Nat}

theorem State.timeContent_discarded (loop : Nat) (discarded : s.isRoot = true ∨ 2 < hfnAhead s.hfn hfn) :
    s.timeContent hfn loop = s := if_pos discarded

theorem State.timeContent_written (loop : Nat) (node : s.isRoot = false) (recent : hfnAhead s.hfn hfn ≤ 2) :
    s.timeContent hfn loop = s.setDelay (loop % 2 ^ 20) :=
  if_neg (by simp [node, recent])

/-- Judging `VALID` concerns no other register but those of the event unit. -/
theorem State.rd_tsuValid (s : State) (f : Field) (i : Nat) (notValid : TSU_STATUS.VALID.id ≠ f.id) (notEvent : f.id ∉ eventFields) :
    s.tsuValid.rd f i = s.rd f i := by
  unfold State.tsuValid
  split
  · rw [State.rd_raise _ _ _ _ _ notEvent, State.rd_wr_ne _ _ _ _ _ _ notValid]
  · rfl

theorem State.eth_tsuValid (s : State) : s.tsuValid.eth = s.eth := by
  have raised : ((s.wr TSU_STATUS.VALID 1).raise Ev.TSU_VALID).rest = s.rest := State.rest_raise ..
  unfold State.tsuValid
  split
  · exact congrArg (·.eth) raised
  · rfl

theorem State.rd_setDelay_loop (s : State) (v : Nat) : (s.setDelay v).rd TSU_DELAY.LOOP = v % 2 ^ 20 :=
  (State.rd_tsuValid _ _ _ (by decide) (by decide)).trans (State.rd_wr_same s TSU_DELAY.LOOP 0 v)

theorem State.delayed_setDelay (s : State) (v : Nat) : (s.setDelay v).eth.tsu.delayed = true := by
  unfold State.setDelay
  rw [State.eth_tsuValid]
  rfl

end NodeDelay

/-- Settles O31: one lemma for each answer to a step and to a rate, for each of the two ends of slot 0, and for a delay discarded and written. -/
theorem treeTimeCommands : Obligations.TreeTimeCommands := by
  refine ⟨fun s data h reserved go => ?step, fun s data h common => ?rate,
    fun s => ⟨fun noStep noRate => congrArg Host.Outcome.next (State.stepApply_idle noStep noRate),
      fun step rate => congrArg Host.Outcome.next (State.stepApply_both step rate)⟩,
    fun s hfn loop => ⟨fun discarded => congrArg Host.Outcome.next (State.timeContent_discarded _ discarded), fun node recent => ?delay⟩,
    fun s => ⟨fun locked => congrArg Host.Outcome.next (if_pos locked),
      fun unlocked => congrArg Host.Outcome.next (if_neg (by simp [unlocked]))⟩⟩
  case step =>
    rw [exec_timeStep s data h]
    exact ⟨fun node => congrArg _ (State.timeStep_node reserved node),
      fun root pending => congrArg _ (State.timeStep_busy reserved go root pending),
      fun root free => congrArg _ (State.timeStep_taken reserved go root free)⟩
  case rate =>
    rw [exec_tsuRateWrite s data h]
    refine ⟨fun node => congrArg _ (State.rateWrite_node common node), fun root outside => congrArg _ (State.rateWrite_outside common root outside),
      fun root low high => ⟨_, congrArg _ (State.rateWrite_taken common root low high), s.rd_rateTaken data.isLt, rfl,
        s.keepsRegs_rateTaken data.toNat, rfl⟩⟩
  case delay =>
    have cut : loop.val % 2 ^ 20 = loop.val := Nat.mod_eq_of_lt loop.isLt
    have act := State.timeContent_written loop.val node recent
    rw [cut] at act
    exact ⟨_, congrArg Host.Outcome.next act, (s.rd_setDelay_loop loop.val).trans cut, s.delayed_setDelay loop.val⟩

end Sys2Proof.Machine

/-! The bridge's PCIe link and the resets of its vDSPs (R275, R276, R283, R286, R292): bringing presence up to date leaves the hub's role alone,
since every branch of the bridge's operations ends in operations that do, and at a node without a storage tunnel it leaves everything alone;
then one lemma for each way a command can end. -/

namespace Sys2Proof.Machine

section Role

variable {s : State}

/-- The role of a hub (R1) is read from one register field, which a write of another one leaves alone. -/
@[simp] theorem State.isRoot_wr (f : Field) (v i : Nat) (other : f.id ≠ GLB_HUB.ROOT.id) : (s.wr f v i).isRoot = s.isRoot :=
  State.on_wr_ne _ _ _ _ _ _ other

@[simp] theorem State.isRoot_setBit (f : Field) (b : Bool) (i : Nat) (other : f.id ≠ GLB_HUB.ROOT.id) : (s.setBit f b i).isRoot = s.isRoot :=
  State.isRoot_wr _ _ _ other

@[simp] theorem State.isRoot_bump (f : Field) (i n : Nat) (other : f.id ≠ GLB_HUB.ROOT.id) : (s.bump f i n).isRoot = s.isRoot :=
  State.isRoot_wr _ _ _ other

@[simp] theorem State.isRoot_raise (id cap : Nat) : (s.raise id cap).isRoot = s.isRoot :=
  congrArg (· != 0) (State.rd_raise _ _ _ _ _ (by decide))

@[simp] theorem State.isRoot_raiseOnce (id key cap : Nat) : (s.raiseOnce id key cap).isRoot = s.isRoot :=
  congrArg (· != 0) (State.rd_raiseOnce _ _ _ _ _ _ (by decide))

@[simp] theorem State.isRoot_drew : s.drew.isRoot = s.isRoot := rfl
@[simp] theorem State.isRoot_modTun (g : Tun → Tun) : (s.modTun g).isRoot = s.isRoot := rfl
@[simp] theorem State.isRoot_modPcb (g : Pcb → Pcb) : (s.modPcb g).isRoot = s.isRoot := rfl
@[simp] theorem State.isRoot_setVd (c : Nat) (v : Vdsp) : (s.setVd c v).isRoot = s.isRoot := rfl
@[simp] theorem State.isRoot_modVd (c : Nat) (g : Vdsp → Vdsp) : (s.modVd c g).isRoot = s.isRoot := rfl
@[simp] theorem State.isRoot_pcieLink (b : List Byte) : (s.pcieLink b).isRoot = s.isRoot := rfl

end Role

section RoleOverItems

variable {s : State} (c sub : Nat) (b : List Byte)

theorem State.isRoot_queueFlits (p tix : Nat) (framed : Bool) (l : List (List Byte)) : (s.queueFlits p tix sub framed l).isRoot = s.isRoot := by
  unfold State.queueFlits
  refine foldl_keeps State.isRoot _ (fun s e => ?_) _ s
  rfl

@[simp] theorem State.isRoot_endpointSend (x : Nat) : (s.endpointSend x sub b).isRoot = s.isRoot := by
  unfold State.endpointSend State.xmiss
  split
  · rfl
  · split
    · exact State.isRoot_queueFlits ..
    · simp (disch := decide)

@[simp] theorem State.isRoot_itemSend (ityp : Nat) : (s.itemSend c sub ityp b).isRoot = s.isRoot := by
  unfold State.itemSend
  split
  · rfl
  · exact State.isRoot_endpointSend ..

@[simp] theorem State.isRoot_vout : (s.vout c).isRoot = s.isRoot := by
  unfold State.vout
  split
  · simp (disch := decide)
  · rfl

theorem State.isRoot_itemGo : (s.itemGo c sub b).isRoot = s.isRoot := by
  unfold State.itemGo
  rw [State.isRoot_itemSend, State.isRoot_modVd]

theorem State.isRoot_drainItems (l : List (Nat × List Byte)) (any pst : Bool) : (s.drainItems c l any pst).1.isRoot = s.isRoot := by
  induction l generalizing s any pst with
  | nil => rfl
  | cons e r ih =>
    unfold State.drainItems
    dsimp only
    generalize (_ && _) = leaves
    cases leaves with
    | true => exact (ih ..).trans (State.isRoot_itemGo ..)
    | false => exact ih ..

@[simp] theorem State.isRoot_itemAccept : (s.itemAccept c sub b).isRoot = s.isRoot := by
  unfold State.itemAccept State.pcieDrain
  dsimp only
  rw [State.isRoot_vout, State.isRoot_modVd, State.isRoot_drainItems, State.isRoot_modVd]

@[simp] theorem State.isRoot_raDrop (p : RaEnt → Bool) : (s.raDrop p).isRoot = s.isRoot := by
  unfold State.raDrop
  simp (disch := decide)

@[simp] theorem State.isRoot_raAdd (a : Nat) (d : List Byte) : (s.raAdd a d).isRoot = s.isRoot := by
  unfold State.raAdd
  dsimp only
  repeat' split
  all_goals simp

@[simp] theorem State.isRoot_cplFromLink : (s.cplFromLink c b).isRoot = s.isRoot := by
  unfold State.cplFromLink State.cplLate
  dsimp only
  repeat' split
  all_goals simp (disch := decide)

@[simp] theorem State.isRoot_toRequester : (s.toRequester b).isRoot = s.isRoot := by
  unfold State.toRequester
  repeat' split
  all_goals simp

/-- A posted error writes its log entry, or counts as lost (R92, R93). -/
@[simp] theorem State.isRoot_postedError (tid cause status addr bytes time : Nat) :
    (s.postedError tid cause status addr bytes time).isRoot = s.isRoot := by
  unfold State.postedError State.peStat
  dsimp only
  repeat' split
  all_goals simp (disch := decide)

@[simp] theorem State.isRoot_pcieDropP : (s.pcieDropP c b).isRoot = s.isRoot := by
  unfold State.pcieDropP
  simp (disch := decide)

end RoleOverItems

section RoleOverPresence

variable {s : State} (c : Nat)

@[simp] theorem State.isRoot_intxSet (w : Nat) (on : Bool) : (s.intxSet c w on).isRoot = s.isRoot := by
  unfold State.intxSet
  dsimp only
  split <;> rfl

@[simp] theorem State.isRoot_hotPlug : (s.hotPlug c).isRoot = s.isRoot := by
  unfold State.hotPlug
  dsimp only
  split <;> rfl

@[simp] theorem State.isRoot_notePresent : (s.notePresent c).isRoot = s.isRoot := by
  unfold State.notePresent
  split
  · simp (disch := decide)
  · rfl

theorem State.isRoot_vdspArrive : (s.vdspArrive c).isRoot = s.isRoot := by
  unfold State.vdspArrive
  dsimp only
  split <;> simp

theorem State.isRoot_vdspDepart : (s.vdspDepart c).isRoot = s.isRoot := by
  have completed := foldl_keeps State.isRoot (fun (s : State) h => s.toRequester (cplUr h)) (fun _ _ => State.isRoot_toRequester _)
  have discarded := foldl_keeps State.isRoot (fun (s : State) (e : Nat × List Byte) => s.pcieDropP c e.2) (fun _ _ => State.isRoot_pcieDropP _ _)
  have wires := foldl_keeps State.isRoot
    (fun (s : State) w => if NMap.get s.pcb.intx false (4 * c + w) then s.intxSet c w false else s)
    (fun s w => by split <;> simp)
  unfold State.vdspDepart
  dsimp only
  split <;> simp [completed, discarded, wires]

theorem State.isRoot_vdspRefresh : (s.vdspRefresh c).isRoot = s.isRoot := by
  have noted : (if s.isRoot then s.setBit PCB_VDSP.TUNREADY (s.tunReady c) c else s).isRoot = s.isRoot := by
    split
    · exact State.isRoot_setBit _ _ _ (by decide)
    · rfl
  unfold State.vdspRefresh
  dsimp only
  generalize (if s.isRoot then _ else s : State) = u at noted ⊢
  split
  · exact noted
  · split
    · exact (State.isRoot_vdspArrive c).trans noted
    · exact (State.isRoot_vdspDepart c).trans noted

/-- vDSPs that arrive and depart leave the hub's role alone. -/
@[simp] theorem State.isRoot_pcieRefresh : s.pcieRefresh.isRoot = s.isRoot :=
  foldl_keeps State.isRoot _ (fun _ c => State.isRoot_vdspRefresh c) _ s

end RoleOverPresence

section PresenceWithoutTunnel

variable {s t : State} {c : Nat}

/-- Where a context's storage tunnel stands is read from the tunnel table alone (R274). -/
theorem State.pcieTix_of_keepsRegs {l : List (Field × Nat)} (kept : s.keepsRegs t l)
    (apart : ∀ k ∈ l, k.1.id ∉ [TUN_ENT0.VALID.id, TUN_ENT0.CTX.id, TUN_ENT1.EP_A.id, TUN_ENT1.EP_B.id]) : t.pcieTix c = s.pcieTix c := by
  have rd : ∀ f ∈ [TUN_ENT0.VALID, TUN_ENT0.CTX, TUN_ENT1.EP_A, TUN_ENT1.EP_B], ∀ i, t.rd f i = s.rd f i := fun f hf i =>
    kept f i fun k hk same => apart k hk (by rw [same.1]; exact List.mem_map_of_mem (f := Field.id) hf)
  have valid := rd TUN_ENT0.VALID (by simp)
  have ctx := rd TUN_ENT0.CTX (by simp)
  have epA := rd TUN_ENT1.EP_A (by simp)
  have epB := rd TUN_ENT1.EP_B (by simp)
  simp only [State.pcieTix, State.tunValid, State.on, State.epA, State.epB, valid, ctx, epA, epB]

theorem State.vdspShould_noTunnel (noTunnel : s.pcieTix c = none) : s.vdspShould c = false := by
  unfold State.vdspShould
  rw [noTunnel]

/-- At a node whose context has no tunnel and no vDSP, presence is as it should be. -/
theorem State.pcieRefresh_noTunnel (node : s.isRoot = false) (absent : (s.vd 0).present = false) (noTunnel : s.pcieTix 0 = none) :
    s.pcieRefresh = s := by
  have same : s.vdspRefresh 0 = s := by
    unfold State.vdspRefresh
    simp [node, State.vdspShould_noTunnel noTunnel, absent]
  unfold State.pcieRefresh State.contexts
  simpa [node] using same

end PresenceWithoutTunnel

section LinkUpAndDown

variable {s : State} {gen width : Nat}

/-- The link shown up with its speed and width, which event PCB_LINK_UP tells (R292). -/
def State.pcieLinkShown (s : State) (gen width : Nat) : State :=
  (((s.wr PCB_STATUS.LINK 1).wr PCB_STATUS.SPEED gen).wr PCB_STATUS.WIDTH width).raise Ev.PCB_LINK_UP

@[simp] theorem State.isRoot_pcieLinkShown : (s.pcieLinkShown gen width).isRoot = s.isRoot := by
  unfold State.pcieLinkShown
  simp (disch := decide)

/-- Presence after the link of a bridge has come up; a link at the root also ends its reset (R276, R283). -/
def State.pcieLinkOn (s : State) (gen width : Nat) : State :=
  let u := s.pcieLinkShown gen width
  (if u.isRoot then u.wr PCB_STATUS.PERST 0 else u).pcieRefresh

theorem State.pcieLinkOn_root (root : s.isRoot = true) : s.pcieLinkOn gen width = ((s.pcieLinkShown gen width).wr PCB_STATUS.PERST 0).pcieRefresh :=
  congrArg State.pcieRefresh (if_pos (by simp [root]))

theorem State.pcieLinkOn_node (node : s.isRoot = false) : s.pcieLinkOn gen width = (s.pcieLinkShown gen width).pcieRefresh :=
  congrArg State.pcieRefresh (if_neg (by simp [node]))

theorem State.isRoot_pcieLinkOn : (s.pcieLinkOn gen width).isRoot = s.isRoot := by
  unfold State.pcieLinkOn
  dsimp only
  split <;> simp (disch := decide)

/-- Presence after the link of a bridge has gone down, which event PCB_LINK_DOWN tells (R283, R292). -/
def State.pcieLinkLost (s : State) : State := (s.pcieLinkOff.raise Ev.PCB_LINK_DOWN).pcieRefresh

theorem State.isRoot_pcieLinkLost : s.pcieLinkLost.isRoot = s.isRoot := by
  unfold State.pcieLinkLost State.pcieLinkOff
  simp (disch := decide)

/-- A report of a link up that finds the bridge disabled, its link up already, or the SSD in reset. -/
theorem State.pcieLinkUp_refused
    (refused : s.on PCB_CTRL.EN = false ∨ s.on PCB_STATUS.LINK = true ∨ (s.isRoot = false ∧ s.pcb.perst = true)) : s.pcieLinkUp gen width = s := by
  refine if_pos ?_
  rcases refused with disabled | up | held
  · exact .inl disabled
  · exact .inr (.inl up)
  · exact .inr (.inr (.inl held))

theorem State.pcieLinkDown_refused (down : s.on PCB_STATUS.LINK = false) : s.pcieLinkDown = s := if_pos down

theorem State.pcieLinkDown_of_up (up : s.on PCB_STATUS.LINK = true) :
    s.pcieLinkDown = if s.isRoot then s.pcieLinkLost else s.pcieLinkLost.reportPresence := by
  rw [← State.isRoot_pcieLinkLost]
  exact if_neg (by simp [up])

/-- A report of a link up that the bridge takes, which a node passes on to the root (R283). -/
theorem State.pcieLinkUp_taken (enabled : s.on PCB_CTRL.EN = true) (down : s.on PCB_STATUS.LINK = false)
    (released : s.isRoot = false → s.pcb.perst = false) (trained : gen ≠ 0) (allowed : gen ≤ s.pcieMaxGen) (lanes : width ∈ [1, 2, 4]) :
    s.pcieLinkUp gen width = if s.isRoot then s.pcieLinkOn gen width else (s.pcieLinkOn gen width).reportPresence := by
  rw [← State.isRoot_pcieLinkOn (gen := gen) (width := width)]
  refine if_neg ?_
  rintro (disabled | up | ⟨node, held⟩ | untrained | tooFast | noLanes)
  · simp [enabled] at disabled
  · simp [down] at up
  · simp [released node] at held
  · exact trained untrained
  · exact Nat.not_lt.2 allowed tooFast
  · exact absurd (List.contains_iff_mem.2 lanes) (Bool.eq_false_iff.1 noLanes)

end LinkUpAndDown

section BridgeResets

variable {s : State}

/-- The SSD in reset (R276), and nothing of what was read ahead left (R290). -/
def State.ssdReset (s : State) : State := (s.setPerst true).raDrop (fun _ => true)

theorem State.keepsRegs_ssdReset : s.keepsRegs s.ssdReset [(PCB_STATUS.PERST, 0), (PCB_RADISC.COUNT, 0)] :=
  State.keepsRegs_wr (State.keepsRegs_wr (s.keepsRegs_refl _) PCB_STATUS.PERST 1 0 (by simp)) PCB_RADISC.COUNT _ 0 (by simp)

theorem State.rd_ssdReset_perst : s.ssdReset.rd PCB_STATUS.PERST = 1 :=
  (State.rd_bump_ne _ _ _ _ _ _ (by decide)).trans (State.rd_wr_same _ PCB_STATUS.PERST 0 1)

theorem State.ra_ssdReset : s.ssdReset.pcb.ra = [] := List.filter_false s.pcb.ra

theorem State.pcieResetRequest_root (root : s.isRoot = true) : s.pcieResetRequest = s := if_pos root

theorem State.pcieResetRequest_noTunnel (node : s.isRoot = false) (absent : (s.vd 0).present = false) (noTunnel : s.pcieTix 0 = none) :
    s.pcieResetRequest = s.ssdReset := by
  have same : s.ssdReset.isRoot = s.isRoot := congrArg (· != 0) (State.keepsRegs_ssdReset GLB_HUB.ROOT 0 (by decide))
  have act : s.pcieResetRequest = s.ssdReset.pcieRefresh := if_neg (by simp [node])
  exact act.trans (State.pcieRefresh_noTunnel (same.trans node) absent
    ((State.pcieTix_of_keepsRegs State.keepsRegs_ssdReset (by decide)).trans noTunnel))

theorem State.perstRelease_refused (refused : s.isRoot = true ∨ s.pcb.loaded = false ∨ s.on PCB_CTRL.EN = false) : s.perstRelease = s := by
  refine if_pos ?_
  rcases refused with root | unloaded | disabled
  · exact .inl root
  · exact .inr (.inl unloaded)
  · exact .inr (.inr (.inl disabled))

theorem State.perstRelease_released (node : s.isRoot = false) (loaded : s.pcb.loaded = true) (enabled : s.on PCB_CTRL.EN = true)
    (held : s.pcb.perst = true) : s.perstRelease = s.setPerst false := if_neg (by simp [node, loaded, enabled, held])

theorem State.vdspAsk_of_exists {c : Nat} (tunnel : s.vdspExists c = true) :
    s.vdspAsk c = ((s.svcSend (s.vdspHub c) 9 (le 4 1)).wr PCB_VDSP.SSDUP 0 c).vdspRefresh c := if_pos tunnel

theorem State.vdspReset_node (kind c : Nat) (node : s.isRoot = false) : s.vdspReset kind c = s := if_pos node

theorem State.vdspReset_secondaryBus {c : Nat} (root : s.isRoot = true) (shown : bitAt (s.cfgWord (c + 1) 15) 22 = true) :
    s.vdspReset 0 c = s.vdspAsk c := by
  have act : s.vdspReset 0 c = if bitAt (s.cfgWord (c + 1) 15) 22 then s.vdspAsk c else s := if_neg (by simp [root])
  exact act.trans (if_pos shown)

theorem State.vdspReset_hot (c : Nat) (root : s.isRoot = true) : s.vdspReset 1 c = s.vdspAskAll := if_neg (by simp [root])

end BridgeResets

/-- Settles O33: one lemma for each way a report of the link, a request or end of a reset, or a reset of vDSPs can end. -/
theorem pcieLinkAndResets : Obligations.PcieLinkAndResets := by
  refine ⟨fun s gen width => ⟨fun refused => congrArg Host.Outcome.next (State.pcieLinkUp_refused refused),
      fun enabled down trained allowed lanes => ?up⟩,
    fun s => ⟨fun down => congrArg Host.Outcome.next (State.pcieLinkDown_refused down), fun up => ?down⟩,
    fun s => ⟨fun root => congrArg Host.Outcome.next (State.pcieResetRequest_root root), fun node absent noTunnel => ?reset,
      fun node loaded enabled held => congrArg Host.Outcome.next (State.perstRelease_released node loaded enabled held),
      fun refused => congrArg Host.Outcome.next (State.perstRelease_refused refused)⟩,
    fun s kind c => ⟨fun node => congrArg Host.Outcome.next (State.vdspReset_node kind.val c.val node),
      fun root shown tunnel => congrArg Host.Outcome.next ((State.vdspReset_secondaryBus root shown).trans (State.vdspAsk_of_exists tunnel)),
      fun root => congrArg Host.Outcome.next (State.vdspReset_hot c.val root)⟩⟩
  case up =>
    have act := fun released => State.pcieLinkUp_taken enabled down released trained allowed lanes
    refine ⟨fun node released => congrArg Host.Outcome.next ?_, fun root => congrArg Host.Outcome.next ?_⟩
    · rw [act fun _ => released, if_neg (by simp [node]), State.pcieLinkOn_node node]
      rfl
    · rw [act (by simp [root]), if_pos root, State.pcieLinkOn_root root]
      rfl
  case down =>
    have act := State.pcieLinkDown_of_up up
    exact ⟨fun root => congrArg Host.Outcome.next (act.trans (if_pos root)),
      fun node => congrArg Host.Outcome.next (act.trans (if_neg (by simp [node])))⟩
  case reset =>
    exact ⟨s.ssdReset, congrArg Host.Outcome.next (State.pcieResetRequest_noTunnel node absent noTunnel), rfl, State.rd_ssdReset_perst,
      State.ra_ssdReset, rfl, State.keepsRegs_ssdReset⟩

end Sys2Proof.Machine

/-! What a step keeps: the queue of commands, the record of what was put out, the count of free values, and the invariant. -/

namespace Sys2Proof.Machine

section Commands

/-- The lemmas of Laws/Kept/, one for each command, as one fact about `exec`. -/
theorem exec_kept : ∀ (c : Instr) {s t : State}, exec c s = .next t → Kept s t
  | .registerWrite addr data hit, s, _, h => execRegisterWrite_kept addr data hit (.refl s) _ h
  | .superframeStart, s, _, h => execSuperframeStart_kept (.refl s) _ h
  | .syncReceive p y via, s, _, h => execSyncReceive_kept p y via (.refl s) _ h
  | .syncLost p, s, _, h => execSyncLost_kept p (.refl s) _ h
  | .slotCommit p slot, s, _, h => execSlotCommit_kept p slot (.refl s) _ h
  | .flitPresentation p slot, s, _, h => execFlitPresentation_kept p slot (.refl s) _ h
  | .isoDeparture p tix, s, _, h => execIsoDeparture_kept p tix (.refl s) _ h
  | .guarDeparture p tix, s, _, h => execGuarDeparture_kept p tix (.refl s) _ h
  | .planWindowWrite addr data, s, _, h => execPlanWindowWrite_kept addr data (.refl s) _ h
  | .tunnelEntryWrite addr data, s, _, h => execTunnelEntryWrite_kept addr data (.refl s) _ h
  | .frontReqReceive p y, s, _, h => execFrontReqReceive_kept p y (.refl s) _ h
  | .frontAckReceive p y, s, _, h => execFrontAckReceive_kept p y (.refl s) _ h
  | .frontNackReceive p y, s, _, h => execFrontNackReceive_kept p y (.refl s) _ h
  | .frontAckDeadline p, s, _, h => execFrontAckDeadline_kept p (.refl s) _ h
  | .planShiftEffect p, s, _, h => execPlanShiftEffect_kept p (.refl s) _ h
  | .linkShiftGo p data, s, _, h => execLinkShiftGo_kept p data (.refl s) _ h
  | .zshiftGo data, s, _, h => execZshiftGo_kept data (.refl s) _ h
  | .zoneReqForward p, s, _, h => execZoneReqForward_kept p (.refl s) _ h
  | .zoneShiftCatchup p, s, _, h => execZoneShiftCatchup_kept p (.refl s) _ h
  | .selectorEvaluate, s, _, h => execSelectorEvaluate_kept (.refl s) _ h
  | .presenceBackstop hub, s, _, h => execPresenceBackstop_kept hub (.refl s) _ h
  | .validate data, s, _, h => execValidate_kept data (.refl s) _ h
  | .invalidate data, s, _, h => execInvalidate_kept data (.refl s) _ h
  | .routeLookup data, s, _, h => execRouteLookup_kept data (.refl s) _ h
  | .routeInsert data, s, _, h => execRouteInsert_kept data (.refl s) _ h
  | .routeDelete data, s, _, h => execRouteDelete_kept data (.refl s) _ h
  | .routeRead data, s, _, h => execRouteRead_kept data (.refl s) _ h
  | .tunnelFrameReceive, s, _, h => execTunnelFrameReceive_kept (.refl s) _ h
  | .pointImageTimeout idx, s, _, h => execPointImageTimeout_kept idx (.refl s) _ h
  | .pelogEntryClear e data, s, _, h => execPelogEntryClear_kept e data (.refl s) _ h
  | .laneFail p lane cause, s, _, h => execLaneFail_kept p lane cause (.refl s) _ h
  | .laneReqReceive p y, s, _, h => execLaneReqReceive_kept p y (.refl s) _ h
  | .laneAckReceive p y, s, _, h => execLaneAckReceive_kept p y (.refl s) _ h
  | .laneNackReceive p y, s, _, h => execLaneNackReceive_kept p y (.refl s) _ h
  | .laneSubstEffect p, s, _, h => execLaneSubstEffect_kept p (.refl s) _ h
  | .substComplete p, s, _, h => execSubstComplete_kept p (.refl s) _ h
  | .probationPass p lane, s, _, h => execProbationPass_kept p lane (.refl s) _ h
  | .probationFail p lane, s, _, h => execProbationFail_kept p lane (.refl s) _ h
  | .fence p lane, s, _, h => execFence_kept p lane (.refl s) _ h
  | .restore p lane, s, _, h => execRestore_kept p lane (.refl s) _ h
  | .widen p, s, _, h => execWiden_kept p (.refl s) _ h
  | .resetLanes p, s, _, h => execResetLanes_kept p (.refl s) _ h
  | .horizonStart p, s, _, h => execHorizonStart_kept p (.refl s) _ h
  | .horizonStop p, s, _, h => execHorizonStop_kept p (.refl s) _ h
  | .horizonScanDone p counts, s, _, h => execHorizonScanDone_kept p counts (.refl s) _ h
  | .prbsCheckerLock p lane, s, _, h => execPrbsCheckerLock_kept p lane (.refl s) _ h
  | .prbsLockLoss p lane errs nbits, s, _, h => execPrbsLockLoss_kept p lane errs nbits (.refl s) _ h
  | .errorInject p lane data, s, _, h => execErrorInject_kept p lane data (.refl s) _ h
  | .injectRateBit p lane, s, _, h => execInjectRateBit_kept p lane (.refl s) _ h
  | .dfeAdapt p lane up ds, s, _, h => execDfeAdapt_kept p lane up ds (.refl s) _ h
  | .flitReceive p slot raw hits, s, _, h => execFlitReceive_kept p slot raw hits (.refl s) _ h
  | .replayTimeout p, s, _, h => execReplayTimeout_kept p (.refl s) _ h
  | .tagVerify p, s, _, h => execTagVerify_kept p (.refl s) _ h
  | .creditReceive p y, s, _, h => execCreditReceive_kept p y (.refl s) _ h
  | .creditTimeout p vc, s, _, h => execCreditTimeout_kept p vc (.refl s) _ h
  | .creditSyncSend p, s, _, h => execCreditSyncSend_kept p (.refl s) _ h
  | .creditSyncReceive p y, s, _, h => execCreditSyncReceive_kept p y (.refl s) _ h
  | .rekeyTimer p, s, _, h => execRekeyTimer_kept p (.refl s) _ h
  | .rekey p, s, _, h => execRekey_kept p (.refl s) _ h
  | .rekeyReceive p y, s, _, h => execRekeyReceive_kept p y (.refl s) _ h
  | .rekeyAckReceive p y, s, _, h => execRekeyAckReceive_kept p y (.refl s) _ h
  | .rekeyNoAck p, s, _, h => execRekeyNoAck_kept p (.refl s) _ h
  | .rekeyEffect p, s, _, h => execRekeyEffect_kept p (.refl s) _ h
  | .oldKeyRetire p, s, _, h => execOldKeyRetire_kept p (.refl s) _ h
  | .retrain p, s, _, h => execRetrain_kept p (.refl s) _ h
  | .jxkEnWrite p data, s, _, h => execJxkEnWrite_kept p data (.refl s) _ h
  | .detectDone p, s, _, h => execDetectDone_kept p (.refl s) _ h
  | .equalizeDone p r, s, _, h => execEqualizeDone_kept p r (.refl s) _ h
  | .deskewDone p pol, s, _, h => execDeskewDone_kept p pol (.refl s) _ h
  | .alignIdReceive p y, s, _, h => execAlignIdReceive_kept p y (.refl s) _ h
  | .alignCredReceive p y, s, _, h => execAlignCredReceive_kept p y (.refl s) _ h
  | .authMessageReceive p y ok, s, _, h => execAuthMessageReceive_kept p y ok (.refl s) _ h
  | .authDoneReceive p y, s, _, h => execAuthDoneReceive_kept p y (.refl s) _ h
  | .trainingTimeout p, s, _, h => execTrainingTimeout_kept p (.refl s) _ h
  | .backoffEnd p, s, _, h => execBackoffEnd_kept p (.refl s) _ h
  | .recoverEnd p, s, _, h => execRecoverEnd_kept p (.refl s) _ h
  | .peerTrainingDetect p, s, _, h => execPeerTrainingDetect_kept p (.refl s) _ h
  | .peerLoss p, s, _, h => execPeerLoss_kept p (.refl s) _ h
  | .loopMeasure p v, s, _, h => execLoopMeasure_kept p v (.refl s) _ h
  | .switchCellAllocate p, s, _, h => execSwitchCellAllocate_kept p (.refl s) _ h
  | .switchFrameComplete, s, _, h => execSwitchFrameComplete_kept (.refl s) _ h
  | .schedulerSelect, s, _, h => execSchedulerSelect_kept (.refl s) _ h
  | .egressRead p ce ueBank ueAddr, s, _, h => execEgressRead_kept p ce ueBank ueAddr (.refl s) _ h
  | .ageingSweep, s, _, h => execAgeingSweep_kept (.refl s) _ h
  | .bufferScrub ce ue, s, _, h => execBufferScrub_kept ce ue (.refl s) _ h
  | .bankMarkFailing data, s, _, h => execBankMarkFailing_kept data (.refl s) _ h
  | .bankCopyDone, s, _, h => execBankCopyDone_kept (.refl s) _ h
  | .fdbLookup data, s, _, h => execFdbLookup_kept data (.refl s) _ h
  | .fdbInsert data, s, _, h => execFdbInsert_kept data (.refl s) _ h
  | .fdbDelete data, s, _, h => execFdbDelete_kept data (.refl s) _ h
  | .fdbRead data, s, _, h => execFdbRead_kept data (.refl s) _ h
  | .fdbFlush data, s, _, h => execFdbFlush_kept data (.refl s) _ h
  | .nodeRefill j, s, _, h => execNodeRefill_kept j (.refl s) _ h
  | .meterRefill m, s, _, h => execMeterRefill_kept m (.refl s) _ h
  | .wfqRebase, s, _, h => execWfqRebase_kept (.refl s) _ h
  | .queueParentWrite q data, s, _, h => execQueueParentWrite_kept q data (.refl s) _ h
  | .shaperWrite addr data, s, _, h => execShaperWrite_kept addr data (.refl s) _ h
  | .meterWrite addr data, s, _, h => execMeterWrite_kept addr data (.refl s) _ h
  | .fsFrameReceive g frame fcsOk opp, s, _, h => execFsFrameReceive_kept g frame fcsOk opp (.refl s) _ h
  | .segNoise g noise coll plca, s, _, h => execSegNoise_kept g noise coll plca (.refl s) _ h
  | .dropTimeout e, s, _, h => execDropTimeout_kept e (.refl s) _ h
  | .lineFault g, s, _, h => execLineFault_kept g (.refl s) _ h
  | .lineProbe g clean, s, _, h => execLineProbe_kept g clean (.refl s) _ h
  | .diEdge idx level time, s, _, h => execDiEdge_kept idx level time (.refl s) _ h
  | .diAccept idx now, s, _, h => execDiAccept_kept idx now (.refl s) _ h
  | .chatterEnd idx, s, _, h => execChatterEnd_kept idx (.refl s) _ h
  | .diStuck idx, s, _, h => execDiStuck_kept idx (.refl s) _ h
  | .fieldLow, s, _, h => execFieldLow_kept (.refl s) _ h
  | .fieldOkReturn time, s, _, h => execFieldOkReturn_kept time (.refl s) _ h
  | .tsPop data, s, _, h => execTsPop_kept data (.refl s) _ h
  | .pointWrite n data, s, _, h => execPointWrite_kept n data (.refl s) _ h
  | .outputWdKick data, s, _, h => execOutputWdKick_kept data (.refl s) _ h
  | .outputWdLapse, s, _, h => execOutputWdLapse_kept (.refl s) _ h
  | .d2dFrameTimeout, s, _, h => execD2dFrameTimeout_kept (.refl s) _ h
  | .arm data, s, _, h => execArm_kept data (.refl s) _ h
  | .autoarm, s, _, h => execAutoarm_kept (.refl s) _ h
  | .ethFrameReceive p frame fcsOk time corr unc, s, _, h => execEthFrameReceive_kept p frame fcsOk time corr unc (.refl s) _ h
  | .ethLinkUp p speed, s, _, h => execEthLinkUp_kept p speed (.refl s) _ h
  | .ethLinkDown p, s, _, h => execEthLinkDown_kept p (.refl s) _ h
  | .txtsPop p data, s, _, h => execTxtsPop_kept p data (.refl s) _ h
  | .timeStep data, s, _, h => execTimeStep_kept data (.refl s) _ h
  | .tsuRateWrite data, s, _, h => execTsuRateWrite_kept data (.refl s) _ h
  | .timeStepApply, s, _, h => execTimeStepApply_kept (.refl s) _ h
  | .timeServiceMessage hfn loop, s, _, h => execTimeServiceMessage_kept hfn loop (.refl s) _ h
  | .pcieTlpReceive tlp, s, _, h => execPcieTlpReceive_kept tlp (.refl s) _ h
  | .pcieItemReceive c sub item inBar, s, _, h => execPcieItemReceive_kept c sub item inBar (.refl s) _ h
  | .readAheadExpire a, s, _, h => execReadAheadExpire_kept a (.refl s) _ h
  | .pcieCreditSend c, s, _, h => execPcieCreditSend_kept c (.refl s) _ h
  | .npTimeout c key, s, _, h => execNpTimeout_kept c key (.refl s) _ h
  | .vdspReset kind c, s, _, h => execVdspReset_kept kind c (.refl s) _ h
  | .pcieResetRequest, s, _, h => execPcieResetRequest_kept (.refl s) _ h
  | .perstRelease, s, _, h => execPerstRelease_kept (.refl s) _ h
  | .pcieLinkUp gen width, s, _, h => execPcieLinkUp_kept gen width (.refl s) _ h
  | .pcieLinkDown, s, _, h => execPcieLinkDown_kept (.refl s) _ h
  | .dpLineReceive d unit clk, s, _, h => execDpLineReceive_kept d unit clk (.refl s) _ h
  | .clockPairSend d pix t, s, _, h => execClockPairSend_kept d pix t (.refl s) _ h
  | .videoUnitReceive d unit lost played, s, _, h => execVideoUnitReceive_kept d unit lost played (.refl s) _ h
  | .clockPairReceive d pix t err, s, _, h => execClockPairReceive_kept d pix t err (.refl s) _ h
  | .clockPairLost d, s, _, h => execClockPairLost_kept d (.refl s) _ h
  | .playoutUnderrun d, s, _, h => execPlayoutUnderrun_kept d (.refl s) _ h
  | .auxRequest d cmd addr len data, s, _, h => execAuxRequest_kept d cmd addr len data (.refl s) _ h
  | .auxMessageReceive d msg code answer, s, _, h => execAuxMessageReceive_kept d msg code answer (.refl s) _ h
  | .auxReplyReceive d msg, s, _, h => execAuxReplyReceive_kept d msg (.refl s) _ h
  | .auxTimeout d, s, _, h => execAuxTimeout_kept d (.refl s) _ h
  | .sinkAttach d caps edid ok fec, s, _, h => execSinkAttach_kept d caps edid ok fec (.refl s) _ h
  | .rootAttachReceive d msg, s, _, h => execRootAttachReceive_kept d msg (.refl s) _ h
  | .sinkDetach d, s, _, h => execSinkDetach_kept d (.refl s) _ h
  | .sinkIrqHpd d link ok fec vector, s, _, h => execSinkIrqHpd_kept d link ok fec vector (.refl s) _ h
  | .dpTrainRetry d ok fec, s, _, h => execDpTrainRetry_kept d ok fec (.refl s) _ h
  | .burst msg, s, _, h => execBurst_kept msg (.refl s) _ h
  | .burstDone codes datas, s, _, h => execBurstDone_kept codes datas (.refl s) _ h
  | .nakTimeout codes datas, s, _, h => execNakTimeout_kept codes datas (.refl s) _ h
  | .getHubDescriptor mseq, s, _, h => execGetHubDescriptor_kept mseq (.refl s) _ h
  | .getHubStatus mseq, s, _, h => execGetHubStatus_kept mseq (.refl s) _ h
  | .getPortStatus mseq k, s, _, h => execGetPortStatus_kept mseq k (.refl s) _ h
  | .setPortReset mseq k, s, _, h => execSetPortReset_kept mseq k (.refl s) _ h
  | .setPortSuspend mseq k, s, _, h => execSetPortSuspend_kept mseq k (.refl s) _ h
  | .setPortPower mseq k, s, _, h => execSetPortPower_kept mseq k (.refl s) _ h
  | .setPortTest mseq k sel, s, _, h => execSetPortTest_kept mseq k sel (.refl s) _ h
  | .clearPortEnable mseq k, s, _, h => execClearPortEnable_kept mseq k (.refl s) _ h
  | .clearPortSuspend mseq k, s, _, h => execClearPortSuspend_kept mseq k (.refl s) _ h
  | .clearPortPower mseq k, s, _, h => execClearPortPower_kept mseq k (.refl s) _ h
  | .clearCPortFeature mseq k c, s, _, h => execClearCPortFeature_kept mseq k c (.refl s) _ h
  | .clearTtBuffer mseq k, s, _, h => execClearTtBuffer_kept mseq k (.refl s) _ h
  | .resetTt mseq k, s, _, h => execResetTt_kept mseq k (.refl s) _ h
  | .portResetDone k chirp, s, _, h => execPortResetDone_kept k chirp (.refl s) _ h
  | .pload mseq body, s, _, h => execPload_kept mseq body (.refl s) _ h
  | .punload mseq entry, s, _, h => execPunload_kept mseq entry (.refl s) _ h
  | .suspend mseq, s, _, h => execSuspend_kept mseq (.refl s) _ h
  | .resume mseq, s, _, h => execResume_kept mseq (.refl s) _ h
  | .resumeDone target, s, _, h => execResumeDone_kept target (.refl s) _ h
  | .remoteWake k, s, _, h => execRemoteWake_kept k (.refl s) _ h
  | .usbConnect k low, s, _, h => execUsbConnect_kept k low (.refl s) _ h
  | .usbDisconnect k, s, _, h => execUsbDisconnect_kept k (.refl s) _ h
  | .usbOvercurrent k, s, _, h => execUsbOvercurrent_kept k (.refl s) _ h
  | .microframeStart ents codes datas, s, _, h => execMicroframeStart_kept ents codes datas (.refl s) _ h
  | .outRecordReceive rec lost, s, _, h => execOutRecordReceive_kept rec lost (.refl s) _ h
  | .orphanTimeout, s, _, h => execOrphanTimeout_kept (.refl s) _ h
  | .tcAttach n src cc2 ra rp, s, _, h => execTcAttach_kept n src cc2 ra rp (.refl s) _ h
  | .tcDetach n, s, _, h => execTcDetach_kept n (.refl s) _ h
  | .pdMessageReceive n sop msg, s, _, h => execPdMessageReceive_kept n sop msg (.refl s) _ h
  | .goodcrcTimeout n, s, _, h => execGoodcrcTimeout_kept n (.refl s) _ h
  | .txreq n sop rseq msg, s, _, h => execTxreq_kept n sop rseq msg (.refl s) _ h
  | .hardReset n rseq, s, _, h => execHardReset_kept n rseq (.refl s) _ h
  | .sendCaps n rseq, s, _, h => execSendCaps_kept n rseq (.refl s) _ h
  | .errorRecovery n rseq, s, _, h => execErrorRecovery_kept n rseq (.refl s) _ h
  | .policyWaitExpire n, s, _, h => execPolicyWaitExpire_kept n (.refl s) _ h
  | .srcTransitionEnd n, s, _, h => execSrcTransitionEnd_kept n (.refl s) _ h
  | .vbusFault n, s, _, h => execVbusFault_kept n (.refl s) _ h
  | .psTransitionTimeout n, s, _, h => execPsTransitionTimeout_kept n (.refl s) _ h
  | .swapTimeout n, s, _, h => execSwapTimeout_kept n (.refl s) _ h
  | .sinkTxWaitEnd n, s, _, h => execSinkTxWaitEnd_kept n (.refl s) _ h
  | .feedValid f, s, _, h => execFeedValid_kept f (.refl s) _ h
  | .feedLost f, s, _, h => execFeedLost_kept f (.refl s) _ h
  | .feedOv f, s, _, h => execFeedOv_kept f (.refl s) _ h
  | .feedOvExit f, s, _, h => execFeedOvExit_kept f (.refl s) _ h
  | .reverseTurnOff f back, s, _, h => execReverseTurnOff_kept f back (.refl s) _ h
  | .inputRampDone, s, _, h => execInputRampDone_kept (.refl s) _ h
  | .inputRampTimeout, s, _, h => execInputRampTimeout_kept (.refl s) _ h
  | .inputTrip fast, s, _, h => execInputTrip_kept fast (.refl s) _ h
  | .inputRetry, s, _, h => execInputRetry_kept (.refl s) _ h
  | .inputHoldClear, s, _, h => execInputHoldClear_kept (.refl s) _ h
  | .inGoodLoss, s, _, h => execInGoodLoss_kept (.refl s) _ h
  | .efEnable c data, s, _, h => execEfEnable_kept c data (.refl s) _ h
  | .efRampDone c, s, _, h => execEfRampDone_kept c (.refl s) _ h
  | .efSample v idx lim, s, _, h => execEfSample_kept v idx lim (.refl s) _ h
  | .efTimerTrip c, s, _, h => execEfTimerTrip_kept c (.refl s) _ h
  | .efFastTrip c, s, _, h => execEfFastTrip_kept c (.refl s) _ h
  | .efFetFail c, s, _, h => execEfFetFail_kept c (.refl s) _ h
  | .efFetShort c, s, _, h => execEfFetShort_kept c (.refl s) _ h
  | .efPgUp c, s, _, h => execEfPgUp_kept c (.refl s) _ h
  | .efPresenceChange c present, s, _, h => execEfPresenceChange_kept c present (.refl s) _ h
  | .efCooldownEnd c, s, _, h => execEfCooldownEnd_kept c (.refl s) _ h
  | .telemetryUpdate va vb, s, _, h => execTelemetryUpdate_kept va vb (.refl s) _ h
  | .energyClear data, s, _, h => execEnergyClear_kept data (.refl s) _ h
  | .energyLatch t, s, _, h => execEnergyLatch_kept t (.refl s) _ h
  | .pwpAccessTimeout, s, _, h => execPwpAccessTimeout_kept (.refl s) _ h
  | .domainGate d done, s, _, h => execDomainGate_kept d done (.refl s) _ h
  | .drainAbort d n, s, _, h => execDrainAbort_kept d n (.refl s) _ h
  | .domainWake d, s, _, h => execDomainWake_kept d (.refl s) _ h
  | .domainRestore d, s, _, h => execDomainRestore_kept d (.refl s) _ h
  | .doze, s, _, h => execDoze_kept (.refl s) _ h
  | .ship, s, _, h => execShip_kept (.refl s) _ h
  | .ulpExpire, s, _, h => execUlpExpire_kept (.refl s) _ h
  | .dozeReached, s, _, h => execDozeReached_kept (.refl s) _ h
  | .dozeWakeEvent src idx, s, _, h => execDozeWakeEvent_kept src idx (.refl s) _ h
  | .fabPgTimeout, s, _, h => execFabPgTimeout_kept (.refl s) _ h
  | .shipWake feed vbat, s, _, h => execShipWake_kept feed vbat (.refl s) _ h
  | .pllHoldover, s, _, h => execPllHoldover_kept (.refl s) _ h
  | .pllRelock, s, _, h => execPllRelock_kept (.refl s) _ h
  | .pllUnlock k, s, _, h => execPllUnlock_kept k (.refl s) _ h
  | .avsUpdate target ack, s, _, h => execAvsUpdate_kept target ack (.refl s) _ h
  | .nporLow vbat, s, _, h => execNporLow_kept vbat (.refl s) _ h
  | .nresetLow, s, _, h => execNresetLow_kept (.refl s) _ h
  | .fabricResetRelease src faults copyA copyB idOk drbgOk, s, _, h => execFabricResetRelease_kept src faults copyA copyB idOk drbgOk (.refl s) _ h
  | .bootLock ms, s, _, h => execBootLock_kept ms (.refl s) _ h
  | .confirm, s, _, h => execConfirm_kept (.refl s) _ h
  | .reset, s, _, h => execReset_kept (.refl s) _ h
  | .load, s, _, h => execLoad_kept (.refl s) _ h
  | .svnRaise, s, _, h => execSvnRaise_kept (.refl s) _ h
  | .bidwrite, s, _, h => execBidwrite_kept (.refl s) _ h
  | .test, s, _, h => execTest_kept (.refl s) _ h
  | .pushWrite data, s, _, h => execPushWrite_kept data (.refl s) _ h
  | .bootBlockReceive tag status body, s, _, h => execBootBlockReceive_kept tag status body (.refl s) _ h
  | .bootBlockTimeout idx, s, _, h => execBootBlockTimeout_kept idx (.refl s) _ h
  | .netBootRetry, s, _, h => execNetBootRetry_kept (.refl s) _ h
  | .svcWdtWarn, s, _, h => execSvcWdtWarn_kept (.refl s) _ h
  | .svcWdtLapse, s, _, h => execSvcWdtLapse_kept (.refl s) _ h
  | .cirrusRelay hit, s, _, h => execCirrusRelay_kept hit (.refl s) _ h
  | .rd32 path src tag addr hit, s, _, h => execRd32_kept path src tag addr hit (.refl s) _ h
  | .wr32 path src tag addr data hit, s, _, h => execWr32_kept path src tag addr data hit (.refl s) _ h
  | .wrc32 path src tag addr data hit, s, _, h => execWrc32_kept path src tag addr data hit (.refl s) _ h
  | .rdblk path src tag addr n hit, s, _, h => execRdblk_kept path src tag addr n hit (.refl s) _ h
  | .wrblk path src tag addr data hit, s, _, h => execWrblk_kept path src tag addr data hit (.refl s) _ h
  | .event path src words, s, _, h => execEvent_kept path src words (.refl s) _ h
  | .err path src words, s, _, h => execErr_kept path src words (.refl s) _ h
  | .presenceReport hub kinds ready speed width sfn, s, _, h => execPresenceReport_kept hub kinds ready speed width sfn (.refl s) _ h
  | .lossReport hub mask sfn, s, _, h => execLossReport_kept hub mask sfn (.refl s) _ h
  | .challenge path src tag, s, _, h => execChallenge_kept path src tag (.refl s) _ h
  | .armPs path src tag auth nonce mac, s, _, h => execArmPs_kept path src tag auth nonce mac (.refl s) _ h
  | .armBoot path src tag auth nonce mac, s, _, h => execArmBoot_kept path src tag auth nonce mac (.refl s) _ h
  | .readStatus, s, _, h => execReadStatus_kept (.refl s) _ h
  | .msgWrite b hit, s, _, h => execMsgWrite_kept b hit (.refl s) _ h
  | .rspRead, s, _, h => execRspRead_kept (.refl s) _ h
  | .msgWriteQ b hit, s, _, h => execMsgWriteQ_kept b hit (.refl s) _ h
  | .rspReadQ, s, _, h => execRspReadQ_kept (.refl s) _ h
  | .nimbusPeriod late coll xfer writes, s, _, h => execNimbusPeriod_kept late coll xfer writes (.refl s) _ h
  | .coreTrap n mcause plug, s, _, h => execCoreTrap_kept n mcause plug (.refl s) _ h
  | .halt n data, s, _, h => execHalt_kept n data (.refl s) _ h
  | .eventArrival, s, _, h => execEventArrival_kept (.refl s) _ h
  | .evqPop data, s, _, h => execEvqPop_kept data (.refl s) _ h
  | .eventSourceClear idx data, s, _, h => execEventSourceClear_kept idx data (.refl s) _ h
  | .tamperDetect src active, s, _, h => execTamperDetect_kept src active (.refl s) _ h
  | .lcProvision, s, _, h => execLcProvision_kept (.refl s) _ h
  | .lcField, s, _, h => execLcField_kept (.refl s) _ h
  | .lcReturn, s, _, h => execLcReturn_kept (.refl s) _ h
  | .lcEnd, s, _, h => execLcEnd_kept (.refl s) _ h
  | .idEnroll, s, _, h => execIdEnroll_kept (.refl s) _ h
  | .certWrite, s, _, h => execCertWrite_kept (.refl s) _ h
  | .keyImport, s, _, h => execKeyImport_kept (.refl s) _ h
  | .keyDestroy, s, _, h => execKeyDestroy_kept (.refl s) _ h
  | .tamperClear, s, _, h => execTamperClear_kept (.refl s) _ h
  | .lcReset, s, _, h => execLcReset_kept (.refl s) _ h
  | .nonceDraw, s, _, h => execNonceDraw_kept (.refl s) _ h
  | .slotTagCheck bad, s, _, h => execSlotTagCheck_kept bad (.refl s) _ h
  | .journalUpdateDone good, s, _, h => execJournalUpdateDone_kept good (.refl s) _ h
  | .journalUpdateTimeout, s, _, h => execJournalUpdateTimeout_kept (.refl s) _ h
  | .trngFail, s, _, h => execTrngFail_kept (.refl s) _ h
  | .trngRetest pass, s, _, h => execTrngRetest_kept pass (.refl s) _ h
  | .macroScrub m word synd loc err scrub iso, s, _, h => execMacroScrub_kept m word synd loc err scrub iso (.refl s) _ h
  | .captureClear c data, s, _, h => execCaptureClear_kept c data (.refl s) _ h
  | .fclr data, s, _, h => execFclr_kept data (.refl s) _ h
  | .marchStart ss destr first count, s, _, h => execMarchStart_kept ss destr first count (.refl s) _ h
  | .marchStop, s, _, h => execMarchStop_kept (.refl s) _ h
  | .marchDone faults done, s, _, h => execMarchDone_kept faults done (.refl s) _ h
  | .fuseRepair data, s, _, h => execFuseRepair_kept data (.refl s) _ h
  | .d2dLaneSpare lane, s, _, h => execD2dLaneSpare_kept lane (.refl s) _ h
  | .d2dFrameRetry corr, s, _, h => execD2dFrameRetry_kept corr (.refl s) _ h
  | .d2dFail, s, _, h => execD2dFail_kept (.refl s) _ h
  | .d2dRetrain ok, s, _, h => execD2dRetrain_kept ok (.refl s) _ h
  | .unlock, s, _, h => execUnlock_kept (.refl s) _ h
  | .lock, s, _, h => execLock_kept (.refl s) _ h
  | .debugUnlockExpire, s, _, h => execDebugUnlockExpire_kept (.refl s) _ h
  | .jtagInstruction idx, s, _, h => execJtagInstruction_kept idx (.refl s) _ h
  | .resetRelease src, s, _, h => execResetRelease_kept src (.refl s) _ h
  | .powerPathPowerUp, s, _, h => execPowerPathPowerUp_kept (.refl s) _ h
  | .bothFeedsBelow20v, s, _, h => execBothFeedsBelow20v_kept (.refl s) _ h
  | .inputFetFail, s, _, h => execInputFetFail_kept (.refl s) _ h
  | .psArmExpire, s, _, h => execPsArmExpire_kept (.refl s) _ h
  | .bootArmExpire, s, _, h => execBootArmExpire_kept (.refl s) _ h
  | .drpToggle n, s, _, h => execDrpToggle_kept n (.refl s) _ h
  | .pdTimerExpiry n t, s, _, h => execPdTimerExpiry_kept n t (.refl s) _ h
  | .vbusLevelReached n, s, _, h => execVbusLevelReached_kept n (.refl s) _ h
  | .ccRpChange n rp, s, _, h => execCcRpChange_kept n rp (.refl s) _ h
  | .sinkTxHoldTimeout n, s, _, h => execSinkTxHoldTimeout_kept n (.refl s) _ h
  | .unsupportedHubRequest mseq, s, _, h => execUnsupportedHubRequest_kept mseq (.refl s) _ h
  | .rteMessageMalformed msg, s, _, h => execRteMessageMalformed_kept msg (.refl s) _ h
  | .serviceCommand path src tag auth body, s, _, h => execServiceCommand_kept path src tag auth body (.refl s) _ h
  | .grandmasterLost, s, _, h => execGrandmasterLost_kept (.refl s) _ h
  | .nirqPulseEnd, s, _, h => execNirqPulseEnd_kept (.refl s) _ h

/-- What a step keeps of the state that is left when its command has been taken off the queue. -/
theorem step_kept {s t : State} (h : step s = .next t) : Kept { s with pending := s.pending.tail } t := by
  obtain empty | ⟨c, rest, front⟩ : s.pending = [] ∨ ∃ c rest, s.pending = c :: rest := by
    cases hq : s.pending with
    | nil => exact .inl rfl
    | cons c rest => exact .inr ⟨c, rest, rfl⟩
  case inl =>
    rw [step, empty] at h
    cases h
    have same : ({ s with pending := s.pending.tail } : State) = s := by rw [empty, List.tail_nil, ← empty]
    rw [same]
    exact .refl s
  case inr =>
    rw [step, front] at h
    rw [front, List.tail_cons]
    exact exec_kept c h

end Commands

/-- Settles O3, from what every command keeps. -/
theorem queueAndRecordKept : Obligations.QueueAndRecordKept := by
  refine ⟨fun c s t h => ?command, fun s t h => ?step⟩
  case command =>
    have k := exec_kept c h
    exact ⟨k.pending, k.out.imp fun _ e => e.symm, k.fresh⟩
  case step =>
    have k := step_kept h
    exact ⟨k.pending, k.out.imp fun _ e => e.symm, k.fresh⟩

/-- Settles O4: the invariant does not look at the queue, so it holds of the state that the command finds. -/
theorem stepKeepsInv : Obligations.StepKeepsInv := by
  intro s t inv h
  have taken : ({ s with pending := s.pending.tail } : State).Inv := inv
  exact (step_kept h).inv taken

end Sys2Proof.Machine

/-! Shared by the statements of chapters 11 to 19: what raising an event leaves of the other blocks, and reads behind it. -/

namespace Sys2Proof.Machine

section Raised

variable (s : State)

/-- What does not depend on the event unit is the same after an event. -/
theorem State.part_raise {α : Sort _} (g : State → α) (apart : ∀ t : State, g t = g t.rest) (id cap : Nat) : g (s.raise id cap) = g s := by
  rw [apart, s.rest_raise, ← apart]

theorem State.part_raiseOnce {α : Sort _} (g : State → α) (apart : ∀ t : State, g t = g t.rest) (id key cap : Nat) :
    g (s.raiseOnce id key cap) = g s := by
  rw [apart, s.rest_raiseOnce, ← apart]

variable (id key cap : Nat)

@[simp] theorem State.dp_raise : (s.raise id cap).dp = s.dp := s.part_raise State.dp (fun _ => rfl) id cap
@[simp] theorem State.usb_raise : (s.raise id cap).usb = s.usb := s.part_raise State.usb (fun _ => rfl) id cap
@[simp] theorem State.tc_raise : (s.raise id cap).tc = s.tc := s.part_raise State.tc (fun _ => rfl) id cap
@[simp] theorem State.pw_raise : (s.raise id cap).pw = s.pw := s.part_raise State.pw (fun _ => rfl) id cap
@[simp] theorem State.chip_raise : (s.raise id cap).chip = s.chip := s.part_raise State.chip (fun _ => rfl) id cap
@[simp] theorem State.nim_raise : (s.raise id cap).nim = s.nim := s.part_raise State.nim (fun _ => rfl) id cap
@[simp] theorem State.spi_raise : (s.raise id cap).spi = s.spi := s.part_raise State.spi (fun _ => rfl) id cap
@[simp] theorem State.sec_raise : (s.raise id cap).sec = s.sec := s.part_raise State.sec (fun _ => rfl) id cap

@[simp] theorem State.dp_raiseOnce : (s.raiseOnce id key cap).dp = s.dp := s.part_raiseOnce State.dp (fun _ => rfl) id key cap
@[simp] theorem State.usb_raiseOnce : (s.raiseOnce id key cap).usb = s.usb := s.part_raiseOnce State.usb (fun _ => rfl) id key cap
@[simp] theorem State.tc_raiseOnce : (s.raiseOnce id key cap).tc = s.tc := s.part_raiseOnce State.tc (fun _ => rfl) id key cap
@[simp] theorem State.chip_raiseOnce : (s.raiseOnce id key cap).chip = s.chip := s.part_raiseOnce State.chip (fun _ => rfl) id key cap

theorem State.on_raise (f : Field) (i : Nat) (h : f.id ∉ eventFields) : (s.raise id cap).on f i = s.on f i :=
  congrArg (· != 0) (s.rd_raise id cap f i h)

theorem State.on_raiseOnce (f : Field) (i : Nat) (h : f.id ∉ eventFields) : (s.raiseOnce id key cap).on f i = s.on f i :=
  congrArg (· != 0) (s.rd_raiseOnce id key cap f i h)

theorem State.rd_bump_satAdd (f : Field) (i n : Nat) : (s.bump f i n).rd f i = satAdd f.width (s.rd f i) n :=
  (State.rd_wr_same ..).trans (Nat.mod_eq_of_lt (satAdd_lt ..))

theorem State.on_of_rd {s t : State} {f : Field} {i j : Nat} (h : s.rd f i = t.rd f j) : s.on f i = t.on f j := congrArg (· != 0) h

end Raised

section Messages

/-- The state without the links' queues, the tunnels' own state and the switch: a message on its way changes nothing else. -/
def State.offWire (s : State) : State := { s with link := [], tun := Tun.init, sw := Sw.init }

theorem State.offWire_queueFlits (s : State) (p tix sub : Nat) (framed : Bool) (l : List (List Byte)) :
    (s.queueFlits p tix sub framed l).offWire = s.offWire := by
  unfold State.queueFlits
  refine foldl_keeps State.offWire _ (fun s e => ?_) _ s
  rfl

theorem State.offWire_gwSend (s : State) (kind hub tid ident sub : Nat) (loss : Bool) (y : List Byte) :
    (s.gwSend kind hub tid ident sub loss y).offWire = s.offWire := by
  unfold State.gwSend
  split <;> rfl

theorem State.offWire_cirrusOut (s : State) (m : Msg) : (s.cirrusOut m).offWire = s.offWire := by
  unfold State.cirrusOut
  split
  · exact State.offWire_gwSend ..
  · split
    · rfl
    · split
      · exact State.offWire_queueFlits ..
      · rfl

theorem State.offWire_svcSend (s : State) (dst service : Nat) (content : List Byte) : (s.svcSend dst service content).offWire = s.offWire :=
  State.offWire_cirrusOut ..

/-- What does not depend on the wire is the same after a message has been sent. -/
theorem State.part_svcSend {α : Sort _} (s : State) (g : State → α) (apart : ∀ t : State, g t = g t.offWire) (dst service : Nat)
    (content : List Byte) : g (s.svcSend dst service content) = g s := by
  rw [apart, s.offWire_svcSend, ← apart]

theorem State.rd_svcSend (s : State) (dst service : Nat) (content : List Byte) (f : Field) (i : Nat) :
    (s.svcSend dst service content).rd f i = s.rd f i := s.part_svcSend (State.rd · f i) (fun _ => rfl) dst service content

end Messages

section ReadReg

variable (s : State) (d : RegDesc) (i : Nat)

/-- A register reads the same where its fields do. -/
theorem State.readReg_congr {s t : State} {d : RegDesc} {i : Nat} (same : ∀ f ∈ d.fields, t.rd f i = s.rd f i) : t.readReg d i = s.readReg d i := by
  unfold State.readReg
  exact congrArg List.sum (List.map_congr_left fun f m => by rw [same f m])

theorem State.readReg_bump (g : Field) (j n : Nat) (other : ∀ f ∈ d.fields, g.id ≠ f.id) : (s.bump g j n).readReg d i = s.readReg d i :=
  State.readReg_congr fun f m => State.rd_bump_ne _ _ _ _ _ _ (other f m)

theorem State.readReg_svcSend (dst service : Nat) (content : List Byte) : (s.svcSend dst service content).readReg d i = s.readReg d i :=
  State.readReg_congr fun f _ => s.rd_svcSend dst service content f i

end ReadReg

end Sys2Proof.Machine

/-! Display streams (R298 to R303): the start of a stream, clock pairs, and a node's playout. -/

namespace Sys2Proof.Machine

section Source

variable {s : State} {d : Nat}

@[simp] theorem State.dpt_modDp_same (s : State) (d : Nat) (f : Dp → Dp) : (s.modDp d f).dpt d = f (s.dpt d) := NMap.get_set_same ..
@[simp] theorem State.dpt_wr (s : State) (f : Field) (v i d : Nat) : (s.wr f v i).dpt d = s.dpt d := rfl
@[simp] theorem State.dpt_setBit (s : State) (f : Field) (b : Bool) (i d : Nat) : (s.setBit f b i).dpt d = s.dpt d := rfl
@[simp] theorem State.dpt_bump (s : State) (f : Field) (i n d : Nat) : (s.bump f i n).dpt d = s.dpt d := rfl
@[simp] theorem State.dpt_raiseOnce (s : State) (id key cap d : Nat) : (s.raiseOnce id key cap).dpt d = s.dpt d :=
  s.part_raiseOnce (State.dpt · d) (fun _ => rfl) id key cap
@[simp] theorem State.rd_modDp (s : State) (d : Nat) (g : Dp → Dp) (f : Field) (i : Nat) : (s.modDp d g).rd f i = s.rd f i := rfl
@[simp] theorem State.on_modDp (s : State) (d : Nat) (g : Dp → Dp) (f : Field) (i : Nat) : (s.modDp d g).on f i = s.on f i := rfl
@[simp] theorem State.isRoot_modDp (s : State) (d : Nat) (g : Dp → Dp) : (s.modDp d g).isRoot = s.isRoot := rfl

/-- The MSA taken by the root's source (R299). -/
def State.msaTaken (s : State) (d : Nat) (u : List Byte) (clk : Nat) : State := s.modDp d (fun b => { b with msa := u, clk := clk })

variable {u : List Byte} {clk : Nat} (root : s.isRoot = true) (enabled : s.on DPT_CTRL.EN d = true)
include root enabled

/-- An MSA with another clock starts a stream (R299). -/
theorem State.dpLine_starts (isMsa : byteAt u 0 = 1) (long : 24 ≤ u.length) (other : clk ≠ (s.dpt d).clk) :
    s.dpLine d u clk = if ((s.msaTaken d u clk).streamFitCheck d).on DPT_STATUS.STREAM d
      then ((s.msaTaken d u clk).streamFitCheck d).unitSend d u else (s.msaTaken d u clk).streamFitCheck d := by
  have whole : unitLength u = 24 := by simp [unitLength, isMsa]
  have start : (clk != (s.dpt d).clk || u.drop 20 != (s.dpt d).msa.drop 20) = true := by simp [other]
  unfold State.dpLine
  rw [if_neg (by rw [whole]; simp [root, enabled, isMsa]; omega), if_pos isMsa]
  dsimp only
  rw [start]
  rfl

theorem State.streamFitCheck_noFit (running : clk ≠ 0) (full : (s.msaTaken d u clk).streamFits d = false) :
    (s.msaTaken d u clk).streamFitCheck d =
      (((s.msaTaken d u clk).wr DPT_STATUS.NOFIT 1 d).wr DPT_STATUS.STREAM 0 d).raise (dptEvent d 3) := by
  unfold State.streamFitCheck
  rw [if_neg (by simp [State.msaTaken, root, enabled, running]), if_neg (by simp [full])]

theorem State.streamFitCheck_fits (running : clk ≠ 0) (fits : (s.msaTaken d u clk).streamFits d = true) :
    (s.msaTaken d u clk).streamFitCheck d = ((s.msaTaken d u clk).wr DPT_STATUS.NOFIT 0 d).wr DPT_STATUS.STREAM 1 d := by
  unfold State.streamFitCheck
  rw [if_neg (by simp [State.msaTaken, root, enabled, running]), if_pos fits]

end Source

section ClockPairSend

variable {s : State} {d x p : Nat} (pix time : Nat)

/-- Without a stream no clock pair is sent (R298). -/
theorem State.clockPairSend_off (off : s.isRoot = false ∨ s.on DPT_STATUS.STREAM d = false) : s.clockPairSend d pix time = s := by
  refine if_neg fun ⟨root, _, stream⟩ => ?_
  obtain node | stopped := off
  · simp [node] at root
  · simp [stopped] at stream

theorem State.clockPairSend_running (root : s.isRoot = true) (enabled : s.on DPT_CTRL.EN d = true) (stream : s.on DPT_STATUS.STREAM d = true) :
    s.clockPairSend d pix time = s.unitSend d (fit 24 (le 2 2 ++ le 6 pix ++ le 8 (time / 65536) ++ le 2 time)) := by
  unfold State.clockPairSend
  rw [if_pos ⟨root, enabled, stream⟩]

theorem State.unitSend_eq (u : List Byte) (tunnel : s.videoTix d = some x) (port : s.jxlOf x = some p) :
    s.unitSend d u = if s.canSend p x then s.queueFlits p x 0 true (flitPayloads u) else s.xmiss p := by
  unfold State.unitSend
  rw [tunnel]
  dsimp only
  rw [port]

end ClockPairSend

section Playout

variable {s : State} {d : Nat} {l : List Byte}

/-- Bytes that the playout buffer has room for (R302). -/
theorem State.bufAdd_room (room : (s.dpt d).buf.length + l.length ≤ 65536) :
    s.bufAdd d l = s.modDp d (fun v => { v with buf := v.buf ++ l }) := by
  have fits : l.length ≤ 65536 - (s.dpt d).buf.length := by omega
  unfold State.bufAdd
  dsimp only
  rw [if_pos fits, List.take_of_length_le fits]
  rfl

/-- A full playout buffer takes nothing: all is discarded and counted (R302). -/
theorem State.bufAdd_full (full : (s.dpt d).buf.length = 65536) (some : l ≠ []) :
    s.bufAdd d l = ((s.modDp d id).bump DPT_COVERRUN.COUNT d l.length).raiseOnce (dptEvent d 7) := by
  have more : ¬ l.length ≤ 65536 - (s.dpt d).buf.length := by
    have := List.length_pos_of_ne_nil some
    omega
  unfold State.bufAdd
  dsimp only
  rw [if_neg more, full, Nat.sub_self, List.take_zero, List.append_nil]
  rfl

theorem State.line_bufAdd (s : State) (d : Nat) (l : List Byte) : ((s.bufAdd d l).dpt d).line = (s.dpt d).line := by
  unfold State.bufAdd
  dsimp only
  split
  · rw [State.dpt_modDp_same]
  · rw [State.dpt_raiseOnce, State.dpt_bump, State.dpt_modDp_same]

/-- The playout buffer shows in its overrun counter and its event alone. -/
theorem State.rd_bufAdd (s : State) (d : Nat) (l : List Byte) (f : Field) (i : Nat) (notOverrun : DPT_COVERRUN.COUNT.id ≠ f.id)
    (notEvent : f.id ∉ eventFields) : (s.bufAdd d l).rd f i = s.rd f i := by
  unfold State.bufAdd
  dsimp only
  split
  · rfl
  · rw [State.rd_raiseOnce _ _ _ _ _ _ notEvent, State.rd_bump_ne _ _ _ _ _ _ notOverrun, State.rd_modDp]

end Playout

section VideoUnits

/-- Nothing has been played out (R302). -/
theorem State.playOut_none (s : State) (d : Nat) : s.playOut d 0 = s := by simp [State.playOut]

theorem State.playOut_empty {s : State} {d : Nat} (n : Nat) (empty : (s.dpt d).buf = []) : s.playOut d n = s := by
  simp [State.playOut, empty]

variable {s : State} {d : Nat} {u : List Byte}

/-- A node that shows nothing takes no units (R307). -/
theorem State.videoUnit_hidden (lost : List Nat) (played : Nat) (hidden : s.dpShows d = false) : s.videoUnit d u lost played = s := if_pos hidden

/-- The data of a line unit (R297). -/
def lineData (u : List Byte) : List Byte := (u.drop 6).take (leAt u 4 2)

/-- A whole line on its way to the playout buffer. -/
def State.lineTaken (s : State) (d : Nat) (u : List Byte) : State :=
  ((s.wr DPT_STATUS.STREAM 1 d).setBit DPT_STATUS.DSC (bitAt (byteAt u 1) 1) d).modDp d (fun v => { v with line := lineData u })

theorem State.buf_lineTaken : ((s.lineTaken d u).dpt d).buf = (s.dpt d).buf := by
  rw [State.lineTaken, State.dpt_modDp_same]
  rfl

variable (shows : s.dpShows d = true) (isLine : byteAt u 0 = 0)
include shows isLine

theorem State.videoUnit_line : s.videoUnit d u [] 0 = (s.lineTaken d u).bufAdd d (lineData u) := by
  unfold State.videoUnit
  rw [if_neg (by simp [shows])]
  dsimp only
  rw [State.playOut_none]
  show ((s.wr DPT_STATUS.STREAM 1 d).unitWhole d u) = _
  unfold State.unitWhole
  rw [isLine]
  rfl

/-- A line that has lost flits is counted, and shown with their bytes from the line before it (R303). -/
theorem State.videoUnit_concealed {lost : List Nat} (some : lost ≠ []) (first : lost.contains 0 = false)
    (conceals : s.on DPT_CTRL.CONCEAL d = false) :
    s.videoUnit d u lost 0 = ((((((s.wr DPT_STATUS.STREAM 1 d).bump DPT_CVLOSS.COUNT d lost.length).bump DPT_CCONCEAL.COUNT d).raiseOnce
      (dptEvent d 6)).modDp d (fun v => { v with line := conceal (lineData u) (s.dpt d).line lost })).bufAdd d
        (conceal (lineData u) (s.dpt d).line lost)) := by
  have mode : ((s.wr DPT_STATUS.STREAM 1 d).bump DPT_CVLOSS.COUNT d lost.length).on DPT_CTRL.CONCEAL d = false :=
    ((State.on_bump_ne _ _ _ _ _ _ (by decide)).trans (State.on_wr_ne _ _ _ _ _ _ (by decide))).trans conceals
  unfold State.videoUnit
  rw [if_neg (by simp [shows])]
  dsimp only
  rw [State.playOut_none, if_neg (by simp [some])]
  unfold State.unitLost
  dsimp only
  rw [if_neg (by simpa using first), if_pos isLine]
  unfold State.lineConceal
  dsimp only
  rw [mode]
  rfl

end VideoUnits

section ClockPairs

variable {s : State} {d : Nat} {pix time err : Nat} (shows : s.dpShows d = true)
include shows

/-- A clock pair taken, with the count of good pairs in a row (R300). -/
def State.pairTaken (s : State) (d pix time good : Nat) : State :=
  s.modDp d (fun v => { v with pair := some (pix % 2 ^ 48, time), good := good })

theorem State.clockPair_eq {good : Nat} (count : (if err < 16 then (if (s.dpt d).good < 16 then (s.dpt d).good + 1 else 16) else 0) = good) :
    s.clockPair d pix time err =
      if good = 16 ∧ s.on DPT_STATUS.LOCK d = false then ((s.pairTaken d pix time good).wr DPT_STATUS.LOCK 1 d).raise (dptEvent d 4)
      else s.pairTaken d pix time good := by
  unfold State.clockPair
  rw [if_neg (by simp [shows]), count]
  rfl

theorem State.clockPair_bad (bad : 16 ≤ err) : s.clockPair d pix time err = s.pairTaken d pix time 0 := by
  rw [State.clockPair_eq shows (if_neg (by omega)), if_neg (by simp)]

theorem State.clockPair_good (good : err < 16) (few : (s.dpt d).good < 15) :
    s.clockPair d pix time err = s.pairTaken d pix time ((s.dpt d).good + 1) := by
  rw [State.clockPair_eq shows ((if_pos good).trans (if_pos (by omega))), if_neg (by omega)]

/-- The sixteenth good pair in a row sets LOCK (R300). -/
theorem State.clockPair_locks (good : err < 16) (fifteen : (s.dpt d).good = 15) (unlocked : s.on DPT_STATUS.LOCK d = false) :
    s.clockPair d pix time err = ((s.pairTaken d pix time 16).wr DPT_STATUS.LOCK 1 d).raise (dptEvent d 4) := by
  rw [State.clockPair_eq shows (good := 16) (by rw [if_pos good, if_pos (by omega), fifteen]), if_pos ⟨rfl, unlocked⟩]

omit shows in
theorem State.clockPairLost_again (gone : (s.dpt d).pair = none) : s.clockPairLost d = s := if_pos (.inr gone)

theorem State.clockPairLost_first (known : (s.dpt d).pair ≠ none) : s.clockPairLost d =
    ((s.modDp d (fun v => { v with pair := none, good := 0 })).wr DPT_STATUS.LOCK 0 d).raise (dptEvent d 5) := by
  unfold State.clockPairLost
  rw [if_neg (by simp [shows, known])]

theorem State.underrun_empty (empty : (s.dpt d).buf = []) :
    s.underrun d = (s.bump DPT_CUNDERRUN.COUNT d).raiseOnce (dptEvent d 7) := by
  unfold State.underrun
  rw [if_neg (by simp [shows]), State.playOut_empty _ empty]

end ClockPairs

section Stream

variable (s : State) (d : Fin 2)

theorem exec_dpLineReceive (u : List Byte) (clk : Nat) : exec (.dpLineReceive d u clk) s = .next (s.dpLine d.val u clk) := rfl
theorem exec_clockPairSend (pix time : Nat) : exec (.clockPairSend d pix time) s = .next (s.clockPairSend d.val pix time) := rfl
theorem exec_videoUnitReceive (u : List Byte) (lost : List Nat) (played : Nat) :
    exec (.videoUnitReceive d u lost played) s = .next (s.videoUnit d.val u lost played) := rfl
theorem exec_clockPairReceive (pix time err : Nat) : exec (.clockPairReceive d pix time err) s = .next (s.clockPair d.val pix time err) := rfl
theorem exec_clockPairLost : exec (.clockPairLost d) s = .next (s.clockPairLost d.val) := rfl
theorem exec_playoutUnderrun : exec (.playoutUnderrun d) s = .next (s.underrun d.val) := rfl

end Stream

/-- Settles O34: the start of a stream, its clock pairs, then what a node makes of units, of clock pairs and of an empty buffer. -/
theorem displayStream : Obligations.DisplayStream := by
  refine ⟨fun s d u clk root enabled isMsa long running other => ?start, fun s d pix time => ?pairs, fun s d u lost played => ?units,
    fun s d pix time err shows => ?clock, fun s d hidden => ?hidden⟩
  case start =>
    have starts := State.dpLine_starts root enabled isMsa long other
    refine ⟨fun full => ?noFit, fun fits => ?fits⟩
    case noFit =>
      rw [exec_dpLineReceive, starts, State.streamFitCheck_noFit root enabled running full, if_neg]
      · rfl
      · rw [State.on_raise _ _ _ _ _ (by decide), State.on_wr_same]
        exact Bool.false_ne_true
    case fits =>
      rw [exec_dpLineReceive, starts, State.streamFitCheck_fits root enabled running fits, if_pos (by rw [State.on_wr_same]; rfl)]
      rfl
  case pairs =>
    refine ⟨fun off => ?off, fun x p root enabled stream tunnel port blocked => ?blocked, fun x p root enabled stream tunnel port free => ?free⟩
    case off => rw [exec_clockPairSend, State.clockPairSend_off pix time off]
    case blocked =>
      rw [exec_clockPairSend, State.clockPairSend_running pix time root enabled stream, State.unitSend_eq _ tunnel port, if_neg (by simp [blocked])]
    case free =>
      rw [exec_clockPairSend, State.clockPairSend_running pix time root enabled stream, State.unitSend_eq _ tunnel port, if_pos free]
  case units =>
    refine ⟨fun hidden => ?off, fun shows isLine => ⟨fun room => ?room, fun full some => ?full, fun some first conceals => ?concealed⟩⟩
    case off => rw [exec_videoUnitReceive, State.videoUnit_hidden _ _ hidden]
    case room =>
      have taken := State.bufAdd_room (s := s.lineTaken d.val u) (l := lineData u) (by rw [State.buf_lineTaken]; exact room)
      refine ⟨_, (exec_videoUnitReceive ..).trans (congrArg Host.Outcome.next ((State.videoUnit_line shows isLine).trans taken)), ?buf, ?line, ?stream,
        ?only⟩
      case buf => rw [State.dpt_modDp_same, State.buf_lineTaken]; rfl
      case line => rw [State.dpt_modDp_same]; exact congrArg Dp.line (State.dpt_modDp_same ..)
      case stream => exact (State.rd_wr_ne _ _ _ _ _ _ (by decide)).trans (State.rd_wr_same ..)
      case only =>
        exact State.onlyRegs_wr (State.onlyRegs_wr (s.onlyRegs_refl _) _ _ _ List.mem_cons_self) _ _ _ (List.mem_cons_of_mem _ List.mem_cons_self)
    case full =>
      have taken := State.bufAdd_full (s := s.lineTaken d.val u) (l := lineData u) (by rw [State.buf_lineTaken]; exact full) some
      refine ⟨_, (exec_videoUnitReceive ..).trans (congrArg Host.Outcome.next ((State.videoUnit_line shows isLine).trans taken)), ?buf, ?count⟩
      case buf =>
        rw [State.dpt_raiseOnce, State.dpt_bump, State.dpt_modDp_same]
        exact State.buf_lineTaken
      case count =>
        rw [State.rd_raiseOnce _ _ _ _ _ _ (by decide), State.rd_bump_satAdd, State.rd_modDp, State.lineTaken, State.rd_modDp, State.setBit,
          State.rd_wr_ne _ _ _ _ _ _ (by decide), State.rd_wr_ne _ _ _ _ _ _ (by decide)]
        rfl
    case concealed =>
      refine ⟨_, (exec_videoUnitReceive ..).trans (congrArg Host.Outcome.next (State.videoUnit_concealed shows isLine some first conceals)), ?line, ?loss,
        ?once⟩
      case line =>
        rw [State.line_bufAdd, State.dpt_modDp_same]
        rfl
      case loss =>
        rw [State.rd_bufAdd _ _ _ _ _ (by decide) (by decide), State.rd_modDp, State.rd_raiseOnce _ _ _ _ _ _ (by decide),
          State.rd_bump_ne _ _ _ _ _ _ (by decide), State.rd_bump_satAdd, State.rd_wr_ne _ _ _ _ _ _ (by decide)]
      case once =>
        rw [State.rd_bufAdd _ _ _ _ _ (by decide) (by decide), State.rd_modDp, State.rd_raiseOnce _ _ _ _ _ _ (by decide),
          State.rd_bump_satAdd, State.rd_bump_ne _ _ _ _ _ _ (by decide), State.rd_wr_ne _ _ _ _ _ _ (by decide)]
  case clock =>
    refine ⟨fun bad => ?bad, fun good few => ?good, fun good fifteen unlocked => ?locks, fun gone => ?again, fun known => ?unpaired, fun empty => ?underrun⟩
    case bad => exact congrArg Host.Outcome.next (State.clockPair_bad shows bad)
    case good => exact congrArg Host.Outcome.next (State.clockPair_good shows good few)
    case locks => exact congrArg Host.Outcome.next (State.clockPair_locks shows good fifteen unlocked)
    case again => exact congrArg Host.Outcome.next (State.clockPairLost_again gone)
    case unpaired => exact congrArg Host.Outcome.next (State.clockPairLost_first shows known)
    case underrun => exact congrArg Host.Outcome.next (State.underrun_empty shows empty)
  case hidden => exact congrArg Host.Outcome.next (if_pos hidden)

end Sys2Proof.Machine

/-! The AUX proxy, sinks and hot-plug (R304 to R307). -/

namespace Sys2Proof.Machine

section Proxy

variable {s : State} {d : Nat}

theorem State.auxAnswer_ack (data : List Byte) : s.auxAnswer d auxAck data = s.emit (.act "aux reply" (d :: auxAck :: data.map (·.toNat))) := by
  unfold State.auxAnswer
  exact if_neg (by decide)

theorem State.auxAnswer_nack (data : List Byte) : s.auxAnswer d auxNack data = s.emit (.act "aux reply" (d :: auxNack :: data.map (·.toNat))) := by
  unfold State.auxAnswer
  exact if_neg (by decide)

theorem State.auxAnswer_defer (data : List Byte) : s.auxAnswer d auxDefer data =
    (s.emit (.act "aux reply" (d :: auxDefer :: data.map (·.toNat)))).bump DPT_CAUXDEFER.COUNT d := by
  unfold State.auxAnswer
  exact if_pos rfl

theorem State.auxSend_tunnel {x : Nat} (b : List Byte) (tunnel : s.auxTix d = some x) : s.auxSend d b = s.endpointSend x 0 b := by
  unfold State.auxSend
  rw [tunnel]

variable {cmd addr len : Nat} {data : List Byte}

/-- The root's port with a request on its way to the node (R305). -/
def State.auxPending (s : State) (d cmd addr len : Nat) (data : List Byte) : State := s.modDp d (fun v =>
  { v with aux := some ⟨cmd, addr, len, data, (s.dpt d).mseq, none⟩, mseq := ((s.dpt d).mseq + 1) % 256 })

/-- A new request goes to the node, and the source is told to ask again (R305). -/
theorem State.auxForward_new {x : Nat} (idle : (s.dpt d).aux = none) (tunnel : s.auxTix d = some x) :
    s.auxForward d cmd addr len data = (((((s.auxPending d cmd addr len data).endpointSend x 0
      (auxMessage 1 (s.dpt d).mseq cmd addr len data)).bump DPT_CAUXFWD.COUNT d).emit (.act "aux reply" [d, auxDefer])).bump
        DPT_CAUXDEFER.COUNT d) := by
  unfold State.auxForward
  rw [idle]
  dsimp only
  rw [State.auxAnswer_defer]
  exact congrArg (fun t : State => ((t.bump DPT_CAUXFWD.COUNT d).emit (.act "aux reply" [d, auxDefer])).bump DPT_CAUXDEFER.COUNT d)
    (State.auxSend_tunnel (s := s.auxPending d cmd addr len data) _ tunnel)

/-- The repeat of a request that has been answered gets its stored reply (R305). -/
theorem State.auxForward_answered {n code : Nat} {a : List Byte} (stored : (s.dpt d).aux = some ⟨cmd, addr, len, data, n, some (code, a)⟩) :
    s.auxForward d cmd addr len data = (s.modDp d (fun v => { v with aux := none })).auxAnswer d code a := by
  unfold State.auxForward
  rw [stored]
  dsimp only
  rw [if_pos ⟨rfl, rfl, rfl, rfl⟩]

variable (root : s.isRoot = true) (enabled : s.on DPT_CTRL.EN d = true) (short : len ≤ 16)
include root enabled short

/-- An I2C request is the node's (R305). -/
theorem State.auxRequest_i2c (i2c : cmd < 8) : s.auxRequest d cmd addr len data = s.auxForward d cmd addr len data := by
  unfold State.auxRequest
  rw [if_neg (by simp [root, enabled]; omega), if_pos (by simp [auxIsNative]; omega)]

theorem State.auxRequest_mirror (low : addr ≤ 0xFF) : s.auxRequest d 9 addr len data =
    s.auxAnswer d auxAck ((List.range len).map (fun i => s.mirrorByte d (addr + i))) := by
  unfold State.auxRequest
  rw [if_neg (by simp [root, enabled]; omega), if_neg (by decide), if_pos ⟨rfl, low⟩]

theorem State.auxRequest_refused (native : 8 ≤ cmd) (lo : 0x68000 ≤ addr) (hi : addr ≤ 0x6FFFF) :
    s.auxRequest d cmd addr len data = s.auxAnswer d auxNack [] := by
  unfold State.auxRequest
  rw [if_neg (by simp [root, enabled]; omega), if_neg (by simp [auxIsNative]; omega), if_neg (by omega), if_neg (by omega), if_neg (by omega),
    if_pos ⟨lo, hi⟩]

end Proxy

section PendingRequest

variable {s : State} {d : Nat} {r : AuxReq} (pending : (s.dpt d).aux = some r) (open_ : r.reply = none)
include pending open_

/-- Without a reply in time the pending request gets AUX_NACK (R305). -/
theorem State.auxFail_pending : s.auxFail d =
    (s.modDp d (fun v => { v with aux := some { r with reply := some (auxNack, []) } })).bump DPT_CAUXFAIL.COUNT d := by
  unfold State.auxFail
  rw [pending]
  exact if_pos open_

theorem State.auxReply_pending (root : s.isRoot = true) {b : List Byte} (isReply : byteAt b 0 = 2) (named : byteAt b 1 = r.mseq) :
    s.auxReply d b = s.modDp d (fun v => { v with aux := some { r with reply := some (byteAt b 2 % 16, (b.drop 8).take (byteAt b 6)) } }) := by
  unfold State.auxReply
  rw [pending]
  exact if_pos ⟨root, isReply, named, open_⟩

end PendingRequest

section NodeRequests

variable {s : State} {d x : Nat} {b : List Byte} (code : Nat) (ans : List Byte) (node : s.isRoot = false) (enabled : s.on DPT_CTRL.EN d = true)
  (isRequest : byteAt b 0 = 1) (tunnel : s.auxTix d = some x)
include node enabled isRequest tunnel

/-- Without an EDID of its own a node answers with what the sink answered (R305). -/
theorem State.auxMessageReceive_sink (uncached : s.on DPT_STATUS.EDID d = false) : s.auxMessageReceive d b code ans =
    s.endpointSend x 0 (auxMessage 2 (byteAt b 1) code (leAt b 3 3 % 2 ^ 20) ans.length ans) := by
  unfold State.auxMessageReceive
  dsimp only
  rw [if_neg (by simp [node, enabled, isRequest]), if_neg (by simp [uncached]), State.auxSend_tunnel _ tunnel]

/-- What the EDID cache holds at its offset (R305). -/
def State.edidCached (s : State) (d len : Nat) : List Byte :=
  fit len (((s.dpt d).edid.drop ((s.dpt d).edidSeg * 256 + (s.dpt d).edidAt)).take len)

/-- A read of the EDID is answered from the cache, whose offset moves on (R305). -/
theorem State.auxMessageReceive_cached (read : byteAt b 2 % 16 = 1) (edid : leAt b 3 3 % 2 ^ 20 = 0x50)
    (cached : s.on DPT_STATUS.EDID d = true) : s.auxMessageReceive d b code ans =
    (s.modDp d (fun v => { v with edidAt := (v.edidAt + byteAt b 6) % 256 })).endpointSend x 0
      (auxMessage 2 (byteAt b 1) auxAck (leAt b 3 3 % 2 ^ 20) (s.edidCached d (byteAt b 6)).length (s.edidCached d (byteAt b 6))) := by
  unfold State.auxMessageReceive
  dsimp only
  rw [if_neg (by simp [node, enabled, isRequest]), if_pos ⟨by rw [read]; rfl, .inl edid, cached⟩, read]
  exact State.auxSend_tunnel _ tunnel

end NodeRequests

section Sinks

variable {s : State} {d : Nat}

/-- Training writes the link's fields; the sink's state is none of them. -/
theorem State.on_dpTrained_sink (fec : Bool) : (s.dpTrained d true fec).on DPT_STATUS.SINK d = s.on DPT_STATUS.SINK d := by
  unfold State.dpTrained
  dsimp only
  rw [if_pos rfl, State.on_setBit_ne _ _ _ _ _ _ (by decide), State.on_wr_ne _ _ _ _ _ _ (by decide),
    State.on_wr_ne _ _ _ _ _ _ (by decide), State.on_wr_ne _ _ _ _ _ _ (by decide)]

theorem State.dpTrain_failed (fec : Bool) : s.dpTrain d false fec = s.dpTrained d false fec := by
  unfold State.dpTrain
  exact if_neg (by simp)

theorem State.dpTrain_new (fec : Bool) (new : s.on DPT_STATUS.SINK d = false) : s.dpTrain d true fec = (s.dpTrained d true fec).dpAnnounce d := by
  unfold State.dpTrain
  exact if_pos ⟨rfl, (State.on_dpTrained_sink fec).trans new⟩

theorem State.dpTrain_announced (fec : Bool) (known : s.on DPT_STATUS.SINK d = true) : s.dpTrain d true fec = s.dpTrained d true fec := by
  unfold State.dpTrain
  exact if_neg (by rw [State.on_dpTrained_sink, known]; simp)

/-- The sink's DPCD and EDID as read at its attach (R306). -/
def State.sinkRead (s : State) (d : Nat) (caps edid : List Byte) : State :=
  (s.modDp d (fun v => { v with caps := fit 256 caps, edid := edid.take 512, edidAt := 0, edidSeg := 0 })).wr DPT_STATUS.EDID 1 d

theorem State.on_sinkRead_sink (caps edid : List Byte) : (s.sinkRead d caps edid).on DPT_STATUS.SINK d = s.on DPT_STATUS.SINK d :=
  State.on_wr_ne _ _ _ _ _ _ (by decide)

/-- A sink that no EDID is held of does not detach (R307). -/
theorem State.sinkDetach_unknown (unknown : s.on DPT_STATUS.EDID d = false) : s.sinkDetach d = s := if_pos (.inr unknown)

/-- The status of a port whose sink has left, cleared (R307). -/
def State.sinkCleared (s : State) (d : Nat) : State :=
  [DPT_STATUS.SINK, DPT_STATUS.LINK, DPT_STATUS.RATE, DPT_STATUS.LANES, DPT_STATUS.FEC, DPT_STATUS.DSC, DPT_STATUS.STREAM, DPT_STATUS.LOCK,
    DPT_STATUS.EDID].foldl (fun s f => s.wr f 0 d) s

theorem State.dpt_sinkCleared : (s.sinkCleared d).dpt d = s.dpt d := by
  simp only [State.sinkCleared, List.foldl_cons, List.foldl_nil, State.dpt_wr]

/-- The port as a sink has left it (R307). -/
def State.sinkGone (s : State) (d : Nat) : State := (s.sinkCleared d).modDp d (fun v => { Dp.init with mseq := (v.mseq + 1) % 256 })

theorem State.sinkGone_eq : s.sinkGone d = (s.sinkCleared d).modDp d (fun _ => { Dp.init with mseq := ((s.dpt d).mseq + 1) % 256 }) := by
  unfold State.sinkGone State.modDp
  rw [State.dpt_sinkCleared]

variable (node : s.isRoot = false)
include node

theorem State.sinkAttach_new (caps edid : List Byte) (ok fec : Bool) (enabled : s.on DPT_CTRL.EN d = true)
    (unknown : s.on DPT_STATUS.EDID d = false) : s.sinkAttach d caps edid ok fec = (s.sinkRead d caps edid).dpTrain d ok fec := by
  unfold State.sinkAttach
  rw [if_neg (by simp [node, enabled, unknown])]
  rfl

theorem State.sinkDetach_known (known : s.on DPT_STATUS.EDID d = true) :
    s.sinkDetach d = ((s.sinkGone d).auxSend d (auxMessage 4 (s.dpt d).mseq 0 0 0 [])).reportPresence := by
  unfold State.sinkDetach
  rw [if_neg (by simp [node, known]), State.sinkGone_eq]
  rfl

theorem State.sinkIrq_other (ok fec : Bool) (vec : Nat) (enabled : s.on DPT_CTRL.EN d = true) (known : s.on DPT_STATUS.EDID d = true) :
    s.sinkIrq d false ok fec vec = (s.modDp d (fun v => { v with mseq := (v.mseq + 1) % 256 })).auxSend d
      (auxMessage 5 (s.dpt d).mseq 0 0x201 1 (le 1 vec)) := by
  unfold State.sinkIrq
  rw [if_neg (by simp [node, enabled, known]), if_neg Bool.false_ne_true]
  rfl

end Sinks

section RootMessages

variable {s : State} {d : Nat} {b : List Byte} (root : s.isRoot = true) (enabled : s.on DPT_CTRL.EN d = true)
include root enabled

theorem State.rootAttach_attach (kind : byteAt b 0 = 3) : s.rootAttach d b =
    (s.modDp d (fun v => { v with attached := true, nodeRate := byteAt b 8, nodeLanes := byteAt b 9 })).hpdRefresh d := by
  unfold State.rootAttach
  rw [if_neg (by simp [root, enabled]), kind]
  rfl

theorem State.rootAttach_detach (kind : byteAt b 0 = 4) : s.rootAttach d b =
    (s.modDp d (fun v => { v with attached := false })).hpdRefresh d := by
  unfold State.rootAttach
  rw [if_neg (by simp [root, enabled]), kind]
  rfl

theorem State.rootAttach_irq (kind : byteAt b 0 = 5) (shown : s.on DPT_STATUS.SINK d = true) : s.rootAttach d b =
    (s.modDp d (fun v => { v with irq := byteAt b 8 })).emit (.act "DP HPD pulse" [d]) := by
  unfold State.rootAttach
  rw [if_neg (by simp [root, enabled]), kind]
  exact if_pos shown

theorem State.rootAttach_mirror (kind : byteAt b 0 = 6) : s.rootAttach d b = s.modDp d (fun v => { v with mirror := fit 256 (b.drop 8) }) := by
  unfold State.rootAttach
  rw [if_neg (by simp [root, enabled]), kind]
  rfl

end RootMessages

section HotPlug

variable (s : State) (d : Fin 2) (b : List Byte)

theorem exec_auxRequest (cmd : Fin 16) (addr : Fin 1048576) (len : Fin 17) :
    exec (.auxRequest d cmd addr len b) s = .next (s.auxRequest d.val cmd.val addr.val len.val b) := rfl
theorem exec_auxMessageReceive (code : Fin 16) (ans : List Byte) :
    exec (.auxMessageReceive d b code ans) s = .next (s.auxMessageReceive d.val b code.val ans) := rfl
theorem exec_auxReplyReceive : exec (.auxReplyReceive d b) s = .next (s.auxReply d.val b) := rfl
theorem exec_sinkAttach (caps edid : List Byte) (ok fec : Bool) :
    exec (.sinkAttach d caps edid ok fec) s = .next (s.sinkAttach d.val caps edid ok fec) := rfl
theorem exec_sinkDetach : exec (.sinkDetach d) s = .next (s.sinkDetach d.val) := rfl
theorem exec_sinkIrqHpd (link ok fec : Bool) (vec : Fin 256) :
    exec (.sinkIrqHpd d link ok fec vec) s = .next (s.sinkIrq d.val link ok fec vec.val) := rfl
theorem exec_rootAttachReceive : exec (.rootAttachReceive d b) s = .next (s.rootAttach d.val b) := rfl

/-- A retry where no sink is known, or in a hub without the port, does nothing (R306). -/
theorem exec_dpTrainRetry_unknown (ok fec : Bool) (unknown : s.on DPT_STATUS.EDID d.val = false) : exec (.dpTrainRetry d ok fec) s = .next s :=
  congrArg Host.Outcome.next (if_pos (.inr (.inr (.inl unknown))))

theorem exec_dpTrainRetry (ok fec : Bool) (node : s.isRoot = false) (enabled : s.on DPT_CTRL.EN d.val = true)
    (known : s.on DPT_STATUS.EDID d.val = true) (noLink : s.on DPT_STATUS.LINK d.val = false) :
    exec (.dpTrainRetry d ok fec) s = .next (s.dpTrain d.val ok fec) :=
  congrArg Host.Outcome.next (if_neg (by simp [node, enabled, known, noLink]))

theorem exec_auxTimeout (root : s.isRoot = true) : exec (.auxTimeout d) s = .next (s.auxFail d.val) := congrArg Host.Outcome.next (if_pos root)

end HotPlug

/-- Settles O35: the proxy's answers, the end of a pending request, a node's answers, then sinks as they attach, train, detach and interrupt. -/
theorem auxAndHotPlug : Obligations.AuxAndHotPlug := by
  refine ⟨fun s d cmd addr len data root enabled => ?proxy, fun s d r root pending unanswered => ?pending,
    fun s d b code ans x node enabled isRequest tunnel => ?node, fun s d caps edid fec node enabled unknown => ?attach,
    fun s d node known => ?known, fun s d b root enabled => ?root⟩
  case proxy =>
    have short : len.val ≤ 16 := Nat.le_of_lt_succ len.isLt
    refine ⟨fun isRead low => ?mirror, fun native lo hi => ?refused, fun x i2c idle tunnel => ?new, fun n a i2c stored => ?repeated⟩
    case mirror =>
      rw [exec_auxRequest, isRead, State.auxRequest_mirror root enabled short low, State.auxAnswer_ack]
    case refused => rw [exec_auxRequest, State.auxRequest_refused root enabled short native lo hi, State.auxAnswer_nack, List.map_nil]
    case new =>
      rw [exec_auxRequest, State.auxRequest_i2c root enabled short i2c, State.auxForward_new idle tunnel]
      rfl
    case repeated => rw [exec_auxRequest, State.auxRequest_i2c root enabled short i2c, State.auxForward_answered stored, State.auxAnswer_ack]
  case pending =>
    refine ⟨?timeout, fun b isReply named => ?reply⟩
    case timeout => rw [exec_auxTimeout _ _ root, State.auxFail_pending pending unanswered]
    case reply => rw [exec_auxReplyReceive, State.auxReply_pending pending unanswered root isReply named]
  case node =>
    refine ⟨fun uncached => ?sink, fun read isEdid cached => ?cached⟩
    case sink => rw [exec_auxMessageReceive, State.auxMessageReceive_sink _ ans node enabled isRequest tunnel uncached]
    case cached =>
      rw [exec_auxMessageReceive, State.auxMessageReceive_cached _ ans node enabled isRequest tunnel read isEdid cached]
      rfl
  case attach =>
    refine ⟨?fails, fun new => ?trains, ?detached, exec_dpTrainRetry_unknown s d true fec unknown⟩
    case fails =>
      rw [exec_sinkAttach, State.sinkAttach_new node caps edid _ fec enabled unknown, State.dpTrain_failed]
      rfl
    case trains =>
      rw [exec_sinkAttach, State.sinkAttach_new node caps edid _ fec enabled unknown,
        State.dpTrain_new fec ((State.on_sinkRead_sink caps edid).trans new)]
      rfl
    case detached => rw [exec_sinkDetach, State.sinkDetach_unknown unknown]
  case known =>
    refine ⟨fun fec enabled noLink announced => ?retry, fun ok fec vec enabled => ?irq, ?detach⟩
    case retry => rw [exec_dpTrainRetry s d true fec node enabled known noLink, State.dpTrain_announced fec announced]
    case irq => rw [exec_sinkIrqHpd, State.sinkIrq_other node ok fec _ enabled known]
    case detach => exact congrArg Host.Outcome.next (State.sinkDetach_known node known)
  case root =>
    refine ⟨fun kind => ?three, fun kind => ?four, fun kind shown => ?five, fun kind => ?six⟩
    case three => rw [exec_rootAttachReceive, State.rootAttach_attach root enabled kind]
    case four => rw [exec_rootAttachReceive, State.rootAttach_detach root enabled kind]
    case five => rw [exec_rootAttachReceive, State.rootAttach_irq root enabled kind shown]
    case six => rw [exec_rootAttachReceive, State.rootAttach_mirror root enabled kind]

end Sys2Proof.Machine

/-! Bursts (R316 to R320): a counterexample. The MSEQ awaited is one byte, but a state may hold any number in its field. -/

namespace Sys2Proof.Machine

section BurstNumbers

/-- A node whose hub core is on, holds a burst of MSEQ 0, and awaits 256, which no MSEQ can be. -/
def awaits256 : State :=
  { State.reset with
    regs := [(USB_CTRL.EN.key 0, 1), (USB_STATUS.NEXT_BSEQ.key 0, 256)]
    usb := { Usb.init with bursts := [⟨0, []⟩] } }

/-- A BURST message of MSEQ 0 with one descriptor. -/
def burstZero : List Byte := [1, 0, 1, 0, 16, 0, 0, 0] ++ List.replicate 16 0

/-- The held MSEQ 0 lies 256 back, which counts as 0 back: it is answered as out of sequence, not counted as a duplicate. -/
theorem dup_burst_awaits256 : (awaits256.burst burstZero).rd RTE_DUP.COUNT = 0 := by decide +kernel

theorem dup_bump_awaits256 : (awaits256.bump RTE_DUP.COUNT).rd RTE_DUP.COUNT = 1 := by decide +kernel

end BurstNumbers

/-- Refutes O36: in `awaits256` the MSEQ 0 of `burstZero` is held and not the one awaited, yet it is no duplicate. -/
theorem not_usbBursts : ¬ Obligations.UsbBursts := by
  unfold Obligations.UsbBursts
  rintro ⟨accepted, -⟩
  obtain ⟨-, -, duplicate, -⟩ :=
    accepted awaits256 burstZero (by decide +kernel) (by decide +kernel) (by decide +kernel) (by decide +kernel) (by decide +kernel)
  have counted := duplicate (by decide +kernel) (by decide +kernel) ⟨⟨0, []⟩, List.mem_cons_self, by decide +kernel⟩
  have same : awaits256.burst burstZero = awaits256.bump RTE_DUP.COUNT := Host.Outcome.next.inj counted
  have zero := dup_burst_awaits256
  rw [same, dup_bump_awaits256] at zero
  exact absurd zero (by decide)

end Sys2Proof.Machine

/-! Hub requests and the ports' events (R314 to R316, R321, R322, R324). -/

namespace Sys2Proof.Machine

section HubRequests

variable {s : State} {q k : Nat} (runs : s.usbOn = true)
include runs

theorem State.hubDescriptor_on : s.hubDescriptor q =
    s.drew.hubAck q (le 1 9 ++ le 1 0x29 ++ le 1 4 ++ le 2 9 ++ le 1 50 ++ le 1 s.freeVal ++ le 1 0 ++ le 1 255) := by
  unfold State.hubDescriptor
  rw [if_pos runs]

theorem State.setPortReset_connected (connected : s.on USB_PORT.CONNECT k = true) : s.setPortReset q k =
    ((((s.wr USB_PORT.RESET 1 k).wr USB_PORT.ENABLE 0 k).wr USB_PORT.SUSPEND 0 k).portCut k 7).hubAck q [] := by
  unfold State.setPortReset
  rw [if_neg (by simp [runs]), if_pos connected]

theorem State.setPortReset_empty (empty : s.on USB_PORT.CONNECT k = false) : s.setPortReset q k = s.hubAck q [] := by
  unfold State.setPortReset
  rw [if_neg (by simp [runs]), if_neg (by simp [empty])]

theorem State.clearPortEnable_on : s.clearPortEnable q k =
    (((s.wr USB_PORT.ENABLE 0 k).wr USB_PORT.SUSPEND 0 k).portCut k 9).hubAck q [] := if_pos runs

theorem State.clearPortSuspend_awake (awake : s.on USB_PORT.SUSPEND k = false) : s.clearPortSuspend q k = s.hubAck q [] := by
  unfold State.clearPortSuspend
  rw [if_neg (by simp [runs]), if_pos awake]

/-- A suspended port begins its resume; one that its device has begun completes as the host's (R324). -/
theorem State.clearPortSuspend_suspended (suspended : s.on USB_PORT.SUSPEND k = true) : s.clearPortSuspend q k =
    (if NMap.get s.usb.portResume 0 k = 2
      then (s.modUsb (fun u => { u with portResume := NMap.set u.portResume 0 k 1 })).wakeCollides k
      else s.modUsb (fun u => { u with portResume := NMap.set u.portResume 0 k 1 })).hubAck q [] := by
  unfold State.clearPortSuspend
  rw [if_neg (by simp [runs]), if_neg (by simp [suspended])]

end HubRequests

section PortPower

variable {s : State} {k : Nat}

/-- An unrouted port drives its `USB_VBUSEN` (R314). -/
theorem State.portPower_unrouted (on : Bool) (own : s.on USB_PORT.TCPORT k = false) :
    s.portPower k on = (s.setBit USB_PORT.POWER on k).emit (.act "USB_VBUSEN" [k, if on then 1 else 0]) :=
  if_neg (by rw [State.on_setBit_ne _ _ _ _ _ _ (by decide), own]; exact Bool.false_ne_true)

theorem State.portLost_empty (empty : s.on USB_PORT.CONNECT k = false) : s.portLost k = s := if_neg (by simp [empty])

theorem State.portLost_connected (connected : s.on USB_PORT.CONNECT k = true) :
    s.portLost k = (((s.portGone k).portCut k 9).raise Ev.USB_PORT_DISCONNECT k).reportPresence := if_pos connected

end PortPower

section PortEvents

variable {s : State} {k : Nat}

/-- A port that has no power, or has a device, sees no connect (R315). -/
theorem State.usbConnect_none (low : Bool) (none : s.on USB_PORT.POWER k = false ∨ s.on USB_PORT.CONNECT k = true) : s.usbConnect k low = s :=
  if_pos (.inr none)

theorem State.portResetDone_none (chirp : Bool) (none : s.on USB_PORT.RESET k = false) : s.portResetDone k chirp = s := if_pos (.inr none)

theorem State.overcurrent_none (none : s.on USB_PORT.TCPORT k = true ∨ s.on USB_PORT.POWER k = false) : s.overcurrent k = s :=
  if_pos (.inr none)

variable (runs : s.usbOn = true)
include runs

theorem State.usbConnect_powered (low : Bool) (powered : s.on USB_PORT.POWER k = true) (empty : s.on USB_PORT.CONNECT k = false) :
    s.usbConnect k low = ((((((s.wr USB_PORT.CONNECT 1 k).wr USB_PORT.SPEED (if low then 2 else 1) k).modUsb (fun u =>
      { u with line := NMap.set u.line 0 k (if low then 2 else 1) })).changeBit k 0).raise Ev.USB_PORT_CONNECT k).reportPresence) :=
  if_neg (by simp [runs, powered, empty])

/-- The end of a port's reset enables it at its speed (R315, R322). -/
theorem State.portResetDone_reset (chirp : Bool) (reset : s.on USB_PORT.RESET k = true) : s.portResetDone k chirp =
    ((((s.wr USB_PORT.RESET 0 k).wr USB_PORT.ENABLE 1 k).wr USB_PORT.SPEED (if chirp then 0 else NMap.get s.usb.line 0 k) k).wrBit
      USB_PORT.CHANGE 4 false k).changeBit k 4 := if_neg (by simp [runs, reset])

theorem State.overcurrent_powered (own : s.on USB_PORT.TCPORT k = false) (powered : s.on USB_PORT.POWER k = true) : s.overcurrent k =
    ((((s.portLost k).portPower k false).wr USB_PORT.OVERCURRENT 1 k).changeBit k 3).raise Ev.USB_PORT_OVERCURRENT k :=
  if_neg (by simp [runs, own, powered])

end PortEvents

section HubCommands

variable (s : State) (q : Fin 256) (k : Fin 4)

theorem exec_getHubDescriptor : exec (.getHubDescriptor q) s = .next (s.hubDescriptor q.val) := rfl
theorem exec_getHubStatus : exec (.getHubStatus q) s = .next (if s.usbOn then s.hubAck q.val (le 4 0) else s) := rfl
theorem exec_getPortStatus : exec (.getPortStatus q k) s =
    .next (if s.usbOn then s.hubAck q.val (le 2 (s.portStatus k.val) ++ le 2 (s.rd USB_PORT.CHANGE k.val)) else s) := rfl
theorem exec_setPortReset : exec (.setPortReset q k) s = .next (s.setPortReset q.val k.val) := rfl
theorem exec_setPortSuspend : exec (.setPortSuspend q k) s =
    .next (if s.usbOn then (if s.on USB_PORT.ENABLE k.val then s.wr USB_PORT.SUSPEND 1 k.val else s).hubAck q.val [] else s) := rfl
theorem exec_setPortPower : exec (.setPortPower q k) s =
    .next (if s.usbOn = false then s else if s.on USB_PORT.TCPORT k.val then s.hubStall q.val
      else (s.portPower k.val true).hubAck q.val []) := rfl
theorem exec_clearPortPower : exec (.clearPortPower q k) s =
    .next (if s.usbOn = false then s else if s.on USB_PORT.TCPORT k.val then s.hubStall q.val
      else ((s.portLost k.val).portPower k.val false).hubAck q.val []) := rfl
theorem exec_clearPortEnable : exec (.clearPortEnable q k) s = .next (s.clearPortEnable q.val k.val) := rfl
theorem exec_clearPortSuspend : exec (.clearPortSuspend q k) s = .next (s.clearPortSuspend q.val k.val) := rfl
theorem exec_unsupportedHubRequest : exec (.unsupportedHubRequest q) s = .next (if s.usbOn then s.hubStall q.val else s) := rfl
theorem exec_usbConnect (low : Bool) : exec (.usbConnect k low) s = .next (s.usbConnect k.val low) := rfl
theorem exec_portResetDone (chirp : Bool) : exec (.portResetDone k chirp) s = .next (s.portResetDone k.val chirp) := rfl
theorem exec_usbDisconnect : exec (.usbDisconnect k) s =
    .next (if s.usbOn ∧ s.on USB_PORT.CONNECT k.val then (s.portLost k.val).changeBit k.val 0 else s) := rfl
theorem exec_usbOvercurrent : exec (.usbOvercurrent k) s = .next (s.overcurrent k.val) := rfl

end HubCommands

/-- Settles O37: the requests that only answer, those on a port's power and resume, the ports' events, and the hub core off. -/
theorem usbHub : Obligations.UsbHub := by
  refine ⟨fun s q k runs => ?requests, fun s q k runs => ?power, fun s k runs => ?events, fun s q k low off => ?off⟩
  case requests =>
    refine ⟨?descriptor, ?hubStatus, ?portStatus, fun connected => ?reset, fun empty => ?resetEmpty, fun enabled => ?suspend, fun disabled => ?awake,
      fun sel => ?test, ?disable, fun c => ?change, ?clearTt, ?resetTt, ?unsupported⟩
    case descriptor => rw [exec_getHubDescriptor, State.hubDescriptor_on runs]
    case hubStatus => rw [exec_getHubStatus, if_pos runs]
    case portStatus => rw [exec_getPortStatus, if_pos runs]
    case reset => rw [exec_setPortReset, State.setPortReset_connected runs connected]
    case resetEmpty => rw [exec_setPortReset, State.setPortReset_empty runs empty]
    case suspend => rw [exec_setPortSuspend, if_pos runs, if_pos enabled]
    case awake => rw [exec_setPortSuspend, if_pos runs, if_neg (by simp [disabled])]
    case test => exact congrArg Host.Outcome.next (if_pos runs)
    case disable => rw [exec_clearPortEnable, State.clearPortEnable_on runs]
    case change => exact congrArg Host.Outcome.next (if_pos runs)
    case clearTt => exact congrArg Host.Outcome.next (if_pos runs)
    case resetTt => exact congrArg Host.Outcome.next (if_pos runs)
    case unsupported => rw [exec_unsupportedHubRequest, if_pos runs]
  case power =>
    have notOff : ¬ s.usbOn = false := by simp [runs]
    refine ⟨fun routed => ⟨?stallOn, ?stallOff⟩, fun own => ?powerOn, fun own empty => ?powerOff, fun awake => ?noResume,
      fun suspended idle => ?resumes, fun suspended waking => ?collides⟩
    case stallOn => rw [exec_setPortPower, if_neg notOff, if_pos routed]
    case stallOff => rw [exec_clearPortPower, if_neg notOff, if_pos routed]
    case powerOn =>
      rw [exec_setPortPower, if_neg notOff, if_neg (by simp [own]), State.portPower_unrouted true own]
      rfl
    case powerOff =>
      rw [exec_clearPortPower, if_neg notOff, if_neg (by simp [own]), State.portLost_empty empty, State.portPower_unrouted false own]
      rfl
    case noResume => rw [exec_clearPortSuspend, State.clearPortSuspend_awake runs awake]
    case resumes => rw [exec_clearPortSuspend, State.clearPortSuspend_suspended runs suspended, if_neg (by simp [idle])]
    case collides =>
      rw [exec_clearPortSuspend, State.clearPortSuspend_suspended runs suspended, if_pos waking]
      rfl
  case events =>
    refine ⟨fun low powered empty => ?connect, fun low none => ?noConnect, fun reset => ⟨?chirped, ?unchirped⟩, fun idle c => ?noReset,
      fun empty => ?noDisconnect, fun connected => ⟨?disconnect, fun own powered => ?overcurrent⟩, fun none => ?noOvercurrent⟩
    case connect => exact congrArg Host.Outcome.next (State.usbConnect_powered runs low powered empty)
    case noConnect => rw [exec_usbConnect, State.usbConnect_none low none]
    case chirped => exact congrArg Host.Outcome.next (State.portResetDone_reset runs true reset)
    case unchirped => exact congrArg Host.Outcome.next (State.portResetDone_reset runs false reset)
    case noReset => rw [exec_portResetDone, State.portResetDone_none c idle]
    case noDisconnect => rw [exec_usbDisconnect, if_neg (by simp [empty])]
    case disconnect => rw [exec_usbDisconnect, if_pos ⟨runs, connected⟩, State.portLost_connected connected]
    case overcurrent => rw [exec_usbOvercurrent, State.overcurrent_powered runs own powered, State.portLost_connected connected]
    case noOvercurrent => rw [exec_usbOvercurrent, State.overcurrent_none none]
  case off =>
    have notOn : ¬ s.usbOn = true := by simp [off]
    exact ⟨congrArg Host.Outcome.next (if_neg notOn), congrArg Host.Outcome.next (if_neg notOn), congrArg Host.Outcome.next (if_neg notOn),
      congrArg Host.Outcome.next (if_pos off), congrArg Host.Outcome.next (if_pos off), congrArg Host.Outcome.next (if_pos (.inl off)),
      congrArg Host.Outcome.next (if_pos (.inl off)), congrArg Host.Outcome.next (if_neg notOn)⟩

end Sys2Proof.Machine

/-! Type-C ports (R335, R336, R339, R340, R344 to R346): attach and detach, the DRP toggle, recovery and the partner's Rp. -/

namespace Sys2Proof.Machine

section PortState

variable (s : State) (n : Nat)

@[simp] theorem State.tcp_modTc_same (f : Tc → Tc) : (s.modTc n f).tcp n = f (s.tcp n) := NMap.get_set_same ..
@[simp] theorem State.tcp_wr (f : Field) (v i : Nat) : (s.wr f v i).tcp n = s.tcp n := rfl
@[simp] theorem State.tcp_setBit (f : Field) (b : Bool) (i : Nat) : (s.setBit f b i).tcp n = s.tcp n := rfl
@[simp] theorem State.tcp_bump (f : Field) (i k : Nat) : (s.bump f i k).tcp n = s.tcp n := rfl
@[simp] theorem State.tcp_emit (o : Out) : (s.emit o).tcp n = s.tcp n := rfl
@[simp] theorem State.tcp_raise (id cap : Nat) : (s.raise id cap).tcp n = s.tcp n := s.part_raise (State.tcp · n) (fun _ => rfl) id cap
@[simp] theorem State.tcp_raiseOnce (id key cap : Nat) : (s.raiseOnce id key cap).tcp n = s.tcp n :=
  s.part_raiseOnce (State.tcp · n) (fun _ => rfl) id key cap
@[simp] theorem State.tcp_svcSend (dst service : Nat) (content : List Byte) : (s.svcSend dst service content).tcp n = s.tcp n :=
  s.part_svcSend (State.tcp · n) (fun _ => rfl) dst service content
@[simp] theorem State.tcp_txRes (m : PdMsg) (status : Nat) : (s.txRes n m status).tcp n = s.tcp n := by
  unfold State.txRes
  split
  · exact State.tcp_svcSend ..
  · rfl

variable {s n} {f g : State → State}

theorem State.setBit_true (s : State) (f : Field) (i : Nat) : s.setBit f true i = s.wr f 1 i := rfl
theorem State.setBit_false (s : State) (f : Field) (i : Nat) : s.setBit f false i = s.wr f 0 i := rfl

/-- What is told to the policy depends on the change made to this state alone (R340). -/
theorem State.tcTold_congr (same : f s = g s) : s.tcTold n f = s.tcTold n g := by
  unfold State.tcTold
  rw [same]

/-- A change that leaves `TCP_STATUS` as it reads is told to nobody (R340). -/
theorem State.tcTold_quiet {t : State} (act : f s = t) (quiet : t.readReg Reg.TCP_STATUS n = s.readReg Reg.TCP_STATUS n) : s.tcTold n f = t := by
  unfold State.tcTold
  rw [act]
  exact if_pos quiet

end PortState

section Attach

variable {s : State} {n : Nat}

/-- The port as it attaches as source (R336, R339). -/
def State.sourceAttached (s : State) (n : Nat) (cc2 ra : Bool) : State :=
  let a := ((s.setBit TCP_STATUS.ORIENT cc2 n).wr TCP_STATUS.PROLE 1 n).wr TCP_STATUS.DROLE 1 n
  let b := ((a.wr TCP_STATUS.TCSTATE 10 n).setBit TCP_STATUS.VCONN_ON (ra && s.on TCP_CTRL.VCONN_EN n) n).wr TCP_STATUS.RP_SEEN 0 n
  let c := b.setTc n { Tc.init with srcEn := (s.tcp n).srcEn, snkEn := (s.tcp n).snkEn, disch := (s.tcp n).disch }
  let d := (c.tcPins n (fun v => { v with srcEn := true, snkEn := false, vsel := 0, disch := false })).raise (tcEvent n 0) (if cc2 then 3 else 1)
  ((d.tcRouted n).reportPresence).sendCaps n

/-- The port as it attaches as sink (R336, R344). -/
def State.sinkAttached (s : State) (n : Nat) (cc2 : Bool) (rp : Nat) : State :=
  let a := ((s.setBit TCP_STATUS.ORIENT cc2 n).wr TCP_STATUS.PROLE 0 n).wr TCP_STATUS.DROLE 0 n
  let b := ((a.wr TCP_STATUS.TCSTATE 9 n).wr TCP_STATUS.VCONN_ON 0 n).wr TCP_STATUS.RP_SEEN rp n
  let c := b.setTc n { Tc.init with srcEn := (s.tcp n).srcEn, snkEn := (s.tcp n).snkEn, disch := (s.tcp n).disch }
  let d := (c.tcPins n (fun v => { v with srcEn := false, snkEn := true, vsel := 0, disch := false })).raise (tcEvent n 0) (if cc2 then 2 else 0)
  (d.tcRouted n).reportPresence

theorem State.tcAttach_closed (src cc2 ra : Bool) (rp : Nat)
    (closed : s.on TCP_CTRL.EN n = false ∨ s.tcAttached n = true ∨ s.rd TCP_STATUS.TCSTATE n = 11) : s.tcAttach n src cc2 ra rp = s := by
  unfold State.tcAttach
  dsimp only
  rw [if_pos]
  obtain off | attached | recovering := closed
  · exact .inl off
  · exact .inr (.inl attached)
  · exact .inr (.inr (.inl recovering))

/-- A port whose role is the other one does not attach (R335). -/
theorem State.tcAttach_otherRole {src : Bool} (cc2 ra : Bool) (rp : Nat) (other : s.rd TCP_CTRL.ROLE n = if src then 2 else 1) :
    s.tcAttach n src cc2 ra rp = s := by
  unfold State.tcAttach
  dsimp only
  rw [if_pos]
  cases src
  · exact .inr (.inr (.inr (.inr ⟨rfl, other⟩)))
  · exact .inr (.inr (.inr (.inl ⟨rfl, other⟩)))

variable (enabled : s.on TCP_CTRL.EN n = true) (free : s.tcAttached n = false) (ready : s.rd TCP_STATUS.TCSTATE n ≠ 11)
include enabled free ready

theorem State.tcAttach_source (cc2 ra : Bool) (rp : Nat) (allowed : s.rd TCP_CTRL.ROLE n ≠ 2) :
    s.tcAttach n true cc2 ra rp = s.tcTold n (fun s => s.sourceAttached n cc2 ra) := by
  have vconn : (((s.setBit TCP_STATUS.ORIENT cc2 n).wr TCP_STATUS.PROLE 1 n).wr TCP_STATUS.DROLE 1 n).on TCP_CTRL.VCONN_EN n =
      s.on TCP_CTRL.VCONN_EN n := by
    rw [State.on_wr_ne _ _ _ _ _ _ (by decide), State.on_wr_ne _ _ _ _ _ _ (by decide), State.on_setBit_ne _ _ _ _ _ _ (by decide)]
  have number : (1 + if cc2 then 2 else 0) = if cc2 then 3 else 1 := by cases cc2 <;> rfl
  unfold State.tcAttach
  dsimp only
  rw [if_neg (by simp [enabled, free, ready, allowed])]
  refine State.tcTold_congr ?_
  simp only [State.sourceAttached, ↓reduceIte, Bool.true_and, State.setBit_true, vconn, number, Bool.not_true, State.tcp_wr,
    State.tcp_setBit]

theorem State.tcAttach_sink (cc2 ra : Bool) (rp : Nat) (allowed : s.rd TCP_CTRL.ROLE n ≠ 1) :
    s.tcAttach n false cc2 ra rp = s.tcTold n (fun s => s.sinkAttached n cc2 rp) := by
  have number : (0 + if cc2 then 2 else 0) = if cc2 then 2 else 0 := Nat.zero_add _
  unfold State.tcAttach
  dsimp only
  rw [if_neg (by simp [enabled, free, ready, allowed])]
  refine State.tcTold_congr ?_
  simp only [State.sinkAttached, Bool.false_eq_true, ↓reduceIte, Bool.false_and, State.setBit_false, number, Bool.not_false, State.tcp_wr,
    State.tcp_setBit]

end Attach

section PortCommands

variable {s : State} {n : Nat}

theorem State.tcDetach_free (free : s.tcAttached n = false) : s.tcDetach n = s := if_pos free

theorem State.tcDetach_attached (attached : s.tcAttached n = true) : s.tcDetach n = s.tcTold n (fun s =>
    ((((s.tcClear n St.ABORTED).wr TCP_STATUS.TCSTATE (s.tcUnattached n) n).tcOff n).raise (tcEvent n 1)
      (if s.on TCP_STATUS.TRANSITION n || decide ((s.tcp n).phase ≠ .idle) then 1 else 0)).reportPresence) := if_neg (by simp [attached])

theorem State.tcCmd_attached (rseq : Nat) (f : State → State) (attached : s.tcAttached n = true) :
    s.tcCmd n rseq f = (s.tcTold n f).tcTell n 6 0 rseq St.OK [] := by
  unfold State.tcCmd
  rw [if_pos attached]

theorem State.tcCmd_free (rseq : Nat) (f : State → State) (free : s.tcAttached n = false) :
    s.tcCmd n rseq f = s.tcTell n 6 0 rseq St.STATE [] := by
  unfold State.tcCmd
  rw [if_neg (by simp [free])]

/-- A port that is off or is no DRP does not toggle (R335). -/
theorem State.drpToggle_fixed (fixed : s.on TCP_CTRL.EN n = false ∨ s.rd TCP_CTRL.ROLE n ≠ 0) : s.drpToggle n = s := if_pos fixed

theorem State.drpToggle_toSource (enabled : s.on TCP_CTRL.EN n = true) (drp : s.rd TCP_CTRL.ROLE n = 0) (at1 : s.rd TCP_STATUS.TCSTATE n = 1) :
    s.drpToggle n = s.tcTold n (fun s => s.wr TCP_STATUS.TCSTATE 2 n) := by
  unfold State.drpToggle
  rw [if_neg (by simp [enabled, drp]), if_pos at1]

theorem State.drpToggle_toSink (enabled : s.on TCP_CTRL.EN n = true) (drp : s.rd TCP_CTRL.ROLE n = 0) (at2 : s.rd TCP_STATUS.TCSTATE n = 2) :
    s.drpToggle n = s.tcTold n (fun s => s.wr TCP_STATUS.TCSTATE 1 n) := by
  unfold State.drpToggle
  rw [if_neg (by simp [enabled, drp]), if_neg (by omega), if_pos at2]

theorem State.heldGo_none (none : (s.tcp n).held = none) : s.heldGo n = s := by
  unfold State.heldGo
  rw [none]

theorem State.heldGo_some {m : PdMsg} (some : (s.tcp n).held = some m) : s.heldGo n = (s.modTc n (fun v => { v with held := none })).pdSend n m := by
  unfold State.heldGo
  rw [some]

theorem State.rpChange_notSink (rp : Nat) (notSink : s.rd TCP_STATUS.TCSTATE n ≠ 9) : s.rpChange n rp = s := if_pos notSink

/-- As sink the port notes the partner's Rp, and SinkTxOk releases the message that waits for it (R344). -/
theorem State.rpChange_sink (rp : Nat) (sink : s.rd TCP_STATUS.TCSTATE n = 9) : s.rpChange n rp =
    s.tcTold n (fun s => if rp = 3 then (s.wr TCP_STATUS.RP_SEEN rp n).heldGo n else s.wr TCP_STATUS.RP_SEEN rp n) :=
  if_neg (by simp [sink])

end PortCommands

section TypeC

variable (s : State) (n : Fin 2) (q : Fin 256)

theorem exec_tcAttach (src cc2 ra : Bool) (rp : Fin 4) : exec (.tcAttach n src cc2 ra rp) s = .next (s.tcAttach n.val src cc2 ra rp.val) := rfl
theorem exec_tcDetach : exec (.tcDetach n) s = .next (s.tcDetach n.val) := rfl
theorem exec_errorRecovery : exec (.errorRecovery n q) s = .next (s.tcCmd n.val q.val (fun s => (s.errorRecovery n.val).reportPresence)) := rfl
theorem exec_hardReset : exec (.hardReset n q) s = .next (s.tcCmd n.val q.val (fun s => s.hardReset n.val true)) := rfl
theorem exec_sendCaps : exec (.sendCaps n q) s = .next (if s.on TCP_STATUS.PROLE n.val then s.tcCmd n.val q.val (fun s => s.sendCaps n.val)
    else s.tcTell n.val 6 0 q.val St.STATE []) := rfl
theorem exec_drpToggle : exec (.drpToggle n) s = .next (s.drpToggle n.val) := rfl
theorem exec_ccRpChange (rp : Fin 4) : exec (.ccRpChange n rp) s = .next (s.rpChange n.val rp.val) := rfl

end TypeC

/-- Settles O39: attach by role, what does not attach, commands to an attached and to an unattached port, then the toggle and the Rp. -/
theorem typeCPorts : Obligations.TypeCPorts := by
  refine ⟨fun s n cc2 ra rp enabled free ready => ?attach, fun s n cc2 ra rp => ?noAttach, fun s n q attached => ?attached,
    fun s n q free => ?free, fun s n rp => ?toggle⟩
  case attach =>
    refine ⟨fun allowed => ?source, fun allowed => ?sink⟩
    case source => exact congrArg Host.Outcome.next (State.tcAttach_source enabled free ready cc2 ra rp.val allowed)
    case sink => exact congrArg Host.Outcome.next (State.tcAttach_sink enabled free ready cc2 ra rp.val allowed)
  case noAttach =>
    refine ⟨fun closed => ⟨?closedSource, ?closedSink⟩, fun sinkOnly => ?sinkOnly, fun sourceOnly => ?sourceOnly⟩
    case closedSource => rw [exec_tcAttach, State.tcAttach_closed true cc2 ra rp.val closed]
    case closedSink => rw [exec_tcAttach, State.tcAttach_closed false cc2 ra rp.val closed]
    case sinkOnly => rw [exec_tcAttach, State.tcAttach_otherRole cc2 ra rp.val sinkOnly]
    case sourceOnly => rw [exec_tcAttach, State.tcAttach_otherRole cc2 ra rp.val sourceOnly]
  case attached =>
    refine ⟨?detach, ?recovery, ?hardReset, fun source => ?caps, fun sink => ?noCaps⟩
    case detach => exact congrArg Host.Outcome.next ((State.tcDetach_attached attached).trans (State.tcTold_congr rfl))
    case recovery =>
      rw [exec_errorRecovery, State.tcCmd_attached _ _ attached]
      rfl
    case hardReset => rw [exec_hardReset, State.tcCmd_attached _ _ attached]
    case caps => rw [exec_sendCaps, if_pos source, State.tcCmd_attached _ _ attached]
    case noCaps => rw [exec_sendCaps, if_neg (by simp [sink])]
  case free =>
    refine ⟨?noDetach, ?noRecovery, ?noHardReset, ?freeCaps⟩
    case noDetach => rw [exec_tcDetach, State.tcDetach_free free]
    case noRecovery => rw [exec_errorRecovery, State.tcCmd_free _ _ free]
    case noHardReset => rw [exec_hardReset, State.tcCmd_free _ _ free]
    case freeCaps => rw [exec_sendCaps, State.tcCmd_free _ _ free, ite_self]
  case toggle =>
    refine ⟨fun enabled drp at1 => ?toSource, fun enabled drp at2 => ?toSink, fun fixed => ?fixed, fun notSink => ?notSink,
      fun sink stays => ?noted, fun m sink ok held => ?released⟩
    case toSource => rw [exec_drpToggle, State.drpToggle_toSource enabled drp at1]
    case toSink => rw [exec_drpToggle, State.drpToggle_toSink enabled drp at2]
    case fixed => rw [exec_drpToggle, State.drpToggle_fixed fixed]
    case notSink => rw [exec_ccRpChange, State.rpChange_notSink _ notSink]
    case noted =>
      rw [exec_ccRpChange, State.rpChange_sink _ sink]
      refine congrArg Host.Outcome.next (State.tcTold_congr ?_)
      obtain other | none := stays
      · exact if_neg other
      · rw [State.heldGo_none (s := s.wr TCP_STATUS.RP_SEEN rp.val n.val) none, ite_self]
    case released =>
      rw [exec_ccRpChange, State.rpChange_sink _ sink, ok]
      exact congrArg Host.Outcome.next (State.tcTold_congr ((if_pos rfl).trans (State.heldGo_some held)))

end Sys2Proof.Machine

/-! PD messages (R337, R340, R341, R343, R344): GoodCRC, retries, duplicates, TXREQ, the policy's wait and the fallback. -/

namespace Sys2Proof.Machine

section Delivery

variable {s : State} {n : Nat}

/-- A message of the port changes no register (R337). -/
theorem State.regs_pdSend (m : PdMsg) : (s.pdSend n m).regs = s.regs := by
  unfold State.pdSend
  split <;> rfl

theorem State.readReg_of_regs {t : State} (same : t.regs = s.regs) (d : RegDesc) (i : Nat) : t.readReg d i = s.readReg d i :=
  State.readReg_congr fun f _ => by simp only [State.rd, same]

/-- Only `TCP_STATUS` itself holds its fields: a counter of the port is not one of them. -/
theorem State.tcpStatus_bump {g : Field} (i k : Nat) (counter : g.id ∉ Reg.TCP_STATUS.fields.map Field.id) :
    (s.bump g i k).readReg Reg.TCP_STATUS n = s.readReg Reg.TCP_STATUS n :=
  s.readReg_bump _ _ _ _ _ fun _ m same => counter (same ▸ List.mem_map_of_mem m)

theorem State.tcpStatus_txRes (m : PdMsg) (status : Nat) : (s.txRes n m status).readReg Reg.TCP_STATUS n = s.readReg Reg.TCP_STATUS n := by
  unfold State.txRes
  split
  · exact s.readReg_svcSend ..
  · rfl

/-- Hard Reset signalling (R337). -/
theorem State.pdReceive_signal (b : List Byte) :
    s.pdReceive n 3 b = if s.tcAttached n then s.tcTold n (fun s => s.hardReset n false) else s := if_pos rfl

theorem State.pdReceive_refused {sop : Nat} {b : List Byte} (message : sop < 3)
    (refused : s.tcAttached n = false ∨ pdWhole b = false ∨ (0 < sop ∧ s.on TCP_STATUS.VCONN_ON n = false)) : s.pdReceive n sop b = s := by
  unfold State.pdReceive
  rw [if_neg (by omega), if_pos refused]

section Heard

variable {sop : Nat} {b : List Byte} (message : sop < 3) (attached : s.tcAttached n = true) (whole : pdWhole b = true)
  (powered : sop = 0 ∨ s.on TCP_STATUS.VCONN_ON n = true)
include message attached whole powered

/-- A message that the port hears is a GoodCRC or is answered by one (R337). -/
theorem State.pdReceive_heard : s.pdReceive n sop b = s.tcTold n (fun s =>
    if pdKind b = Pd.goodCrc then s.pdAcked n sop (pdId b)
    else
      let s := (s.bump TCP_RXMSG.COUNT n).emit (.act "pd goodcrc" [n, sop, pdId b])
      if pdKind b ≠ Pd.softReset ∧ NMap.get (s.tcp n).rxId 0 sop = pdId b + 1 then s.bump TCP_RXDUP.COUNT n
      else s.pdTake n sop b) := by
  have hears : ¬ (s.tcAttached n = false ∨ pdWhole b = false ∨ (0 < sop ∧ s.on TCP_STATUS.VCONN_ON n = false)) := by
    obtain whole0 | on := powered
    · simp [attached, whole, whole0]
    · simp [attached, whole, on]
  unfold State.pdReceive
  rw [if_neg (by omega), if_neg hears]

theorem State.pdReceive_goodCrc (crc : pdKind b = Pd.goodCrc) : s.pdReceive n sop b = s.tcTold n (fun s => s.pdAcked n sop (pdId b)) := by
  rw [State.pdReceive_heard message attached whole powered]
  exact State.tcTold_congr (if_pos crc)

theorem State.pdReceive_duplicate (other : pdKind b ≠ Pd.goodCrc) (noReset : pdKind b ≠ Pd.softReset)
    (known : NMap.get (s.tcp n).rxId 0 sop = pdId b + 1) : s.pdReceive n sop b =
      ((s.bump TCP_RXMSG.COUNT n).emit (.act "pd goodcrc" [n, sop, pdId b])).bump TCP_RXDUP.COUNT n := by
  rw [State.pdReceive_heard message attached whole powered]
  refine State.tcTold_quiet ((if_neg other).trans (if_pos ⟨noReset, known⟩)) ?_
  exact (State.tcpStatus_bump _ _ (by decide)).trans (State.tcpStatus_bump (s := s) _ _ (by decide))

theorem State.pdReceive_new (other : pdKind b ≠ Pd.goodCrc) (new : NMap.get (s.tcp n).rxId 0 sop ≠ pdId b + 1) : s.pdReceive n sop b =
    s.tcTold n (fun s => ((s.bump TCP_RXMSG.COUNT n).emit (.act "pd goodcrc" [n, sop, pdId b])).pdTake n sop b) := by
  rw [State.pdReceive_heard message attached whole powered]
  exact State.tcTold_congr ((if_neg other).trans (if_neg fun h => new h.2))

end Heard

theorem State.pdAcked_none (sop id : Nat) (none : (s.tcp n).pend = none) : s.pdAcked n sop id = s := by
  unfold State.pdAcked
  rw [none]

/-- The GoodCRC of the message that waits for it, with nothing behind it (R337). -/
theorem State.pdAcked_last {m : PdMsg} {id : Nat} (pending : (s.tcp n).pend = some m) (same : pdId m.bytes = id)
    (empty : ((((s.modTc n (fun v => { v with pend := none, txId := NMap.set v.txId 0 m.sop ((id + 1) % 8) })).bump TCP_TXMSG.COUNT n).txRes n m
      St.OK).pdSent n m.bytes |>.tcp n).queue = []) :
    s.pdAcked n m.sop id = (((s.modTc n (fun v => { v with pend := none, txId := NMap.set v.txId 0 m.sop ((id + 1) % 8) })).bump
      TCP_TXMSG.COUNT n).txRes n m St.OK).pdSent n m.bytes := by
  unfold State.pdAcked
  rw [pending]
  dsimp only
  rw [if_pos ⟨rfl, same⟩, empty]

/-- A message that starts no exchange of the port has no effect once it is sent. -/
theorem State.pdSent_getSinkCap {b : List Byte} (kind : pdKind b = Pd.getSinkCap) : s.pdSent n b = s := by
  unfold State.pdSent
  rw [kind]
  rfl

theorem State.goodCrcTimeout_none (none : (s.tcp n).pend = none) : s.goodCrcTimeout n = s := by
  unfold State.goodCrcTimeout
  rw [none]

theorem State.goodCrcTimeout_retry {m : PdMsg} (pending : (s.tcp n).pend = some m) (retry : m.tries < 2) :
    s.goodCrcTimeout n = (s.bump TCP_RETRY.COUNT n).pdPut n { m with tries := m.tries + 1 } := by
  unfold State.goodCrcTimeout
  rw [pending]
  exact if_pos retry

theorem State.goodCrcTimeout_fail {m : PdMsg} (pending : (s.tcp n).pend = some m) (last : 2 ≤ m.tries) (alone : (s.tcp n).queue = []) :
    s.goodCrcTimeout n = (((s.modTc n (fun v => { v with pend := none })).bump TCP_TXFAIL.COUNT n).raiseOnce (tcEvent n 9)).txRes n m
      St.TIMEOUT := by
  have empty : (((((s.modTc n (fun v => { v with pend := none })).bump TCP_TXFAIL.COUNT n).raiseOnce (tcEvent n 9)).txRes n m
      St.TIMEOUT).tcp n).queue = [] := by simpa using alone
  unfold State.goodCrcTimeout
  rw [pending]
  dsimp only
  rw [if_neg (by omega), empty]

end Delivery

section Requests

variable {s : State} {n sop q : Nat} {b : List Byte}

theorem State.txReq_refused {status : Nat} (refused : s.txReqStatus n sop b = status) (bad : status ≠ St.OK) :
    s.txReq n sop q b = s.tcTell n 3 sop q status [] := by
  unfold State.txReq
  dsimp only
  rw [refused, if_pos bad]
  rfl

theorem State.txReqStatus_free (free : s.tcAttached n = false) : s.txReqStatus n sop b = St.STATE := if_pos (.inl free)

variable (attached : s.tcAttached n = true) (whole : pdWhole b = true) (noCrc : pdKind b ≠ Pd.goodCrc) (fits : b.length ≤ 30)
include attached whole noCrc fits

/-- A whole message for the partner fails only as an answer that nothing waits for (R341). -/
theorem State.txReqStatus_whole : s.txReqStatus n 0 b = if pdAnswers b ∧ (s.tcp n).wait = none then St.STATE else St.OK := by
  unfold State.txReqStatus
  rw [if_neg (by simp [attached]), if_neg (by simp [whole, noCrc, fits])]

theorem State.txReq_answer {w : Nat × List Byte} (waits : (s.tcp n).wait = some w) :
    s.txReq n 0 q b = (s.modTc n (fun v => { v with wait := none })).pdSend n ⟨0, b, 0, some q⟩ := by
  have ok : s.txReqStatus n 0 b = St.OK := by
    rw [State.txReqStatus_whole attached whole noCrc fits]
    exact if_neg (by simp [waits])
  unfold State.txReq
  dsimp only
  rw [ok, if_neg (by decide), if_pos (by simp [waits])]

theorem State.txReq_noWait (idle : (s.tcp n).wait = none) (answers : pdAnswers b = true) :
    s.txReq n 0 q b = s.tcTell n 3 0 q St.STATE [] := by
  refine State.txReq_refused ?_ (by decide)
  rw [State.txReqStatus_whole attached whole noCrc fits]
  exact if_pos ⟨answers, idle⟩

theorem State.txReq_starts (idle : (s.tcp n).wait = none) (starts : pdAnswers b = false) :
    s.txReq n 0 q b = s.pdStart n ⟨0, b, 0, some q⟩ := by
  have ok : s.txReqStatus n 0 b = St.OK := by
    rw [State.txReqStatus_whole attached whole noCrc fits]
    exact if_neg (by simp [starts])
  unfold State.txReq
  dsimp only
  rw [ok, if_neg (by decide), if_neg (by simp [idle])]

end Requests

section Start

variable {s : State} {n : Nat} {m : PdMsg}

theorem State.pdStart_free (free : s.on TCP_STATUS.CONTRACT n = false ∨ s.rd TCP_STATUS.PDREV n ≠ 2 ∨
    (s.on TCP_STATUS.PROLE n = false ∧ s.rd TCP_STATUS.RP_SEEN n = 3)) : s.pdStart n m = s.pdSend n m := by
  unfold State.pdStart
  by_cases early : s.on TCP_STATUS.CONTRACT n = false ∨ s.rd TCP_STATUS.PDREV n ≠ 2
  · exact if_pos early
  · obtain h | h | ⟨sink, ok⟩ := free
    · exact absurd (.inl h) early
    · exact absurd (.inr h) early
    · rw [if_neg early, if_neg (by simp [sink]), if_pos ok]

variable (force : s.on TCP_STATUS.CONTRACT n = true) (rev : s.rd TCP_STATUS.PDREV n = 2)
include force rev

theorem State.pdStart_source (source : s.on TCP_STATUS.PROLE n = true) :
    s.pdStart n m = (s.modTc n (fun v => { v with held := some m, txNg := true })).emit (.act "typec rp" [n, 2]) := by
  unfold State.pdStart
  rw [if_neg (by simp [force, rev]), if_pos source]

theorem State.pdStart_sink (sink : s.on TCP_STATUS.PROLE n = false) (busy : s.rd TCP_STATUS.RP_SEEN n ≠ 3) :
    s.pdStart n m = s.modTc n (fun v => { v with held := some m }) := by
  unfold State.pdStart
  rw [if_neg (by simp [force, rev]), if_neg (by simp [sink]), if_neg busy]

end Start

section Waits

variable {s : State} {n : Nat}

theorem State.holdTimeout_none (none : (s.tcp n).held = none) : s.holdTimeout n = s := by
  unfold State.holdTimeout
  rw [none]

theorem State.holdTimeout_some {m : PdMsg} (held : (s.tcp n).held = some m) : s.holdTimeout n =
    if s.on TCP_STATUS.PROLE n then s else (s.modTc n (fun v => { v with held := none })).txRes n m St.BUSY := by
  unfold State.holdTimeout
  rw [held]

theorem State.policyExpire_none (none : (s.tcp n).wait = none) : s.policyExpire n = s := by
  unfold State.policyExpire
  rw [none]

theorem State.policyExpire_some {sop : Nat} {b : List Byte} (waits : (s.tcp n).wait = some (sop, b)) : s.policyExpire n =
    ((((s.modTc n (fun v => { v with wait := none })).bump TCP_POLTO.COUNT n).raiseOnce (tcEvent n 5)).fallbackAnswer n b) := by
  unfold State.policyExpire
  rw [waits]

theorem State.fallbackAnswer_request {b : List Byte} (kind : pdKind b = Pd.request) : s.fallbackAnswer n b =
    s.pdOwn n (if bits (pdObj b 0) 28 3 = 1 ∧ bits (pdObj b 0) 10 10 ≤ s.rd TCP_FALLBACK.FB_SRC_MA then Pd.accept else Pd.reject) [] := by
  unfold State.fallbackAnswer
  exact if_pos kind

theorem State.fallbackAnswer_swap {b : List Byte} (kind : pdKind b = Pd.prSwap ∨ pdKind b = Pd.drSwap ∨ pdKind b = Pd.vconnSwap) :
    s.fallbackAnswer n b = s.pdOwn n Pd.reject [] := by
  unfold State.fallbackAnswer
  obtain h | h | h := kind <;> rw [h] <;> rfl

theorem State.fallbackAnswer_getSourceCap {b : List Byte} (kind : pdKind b = Pd.getSourceCap) :
    s.fallbackAnswer n b = s.pdOwn n Pd.notSupported [] := by
  unfold State.fallbackAnswer
  rw [kind]
  rfl

end Waits

section PdCommands

variable (s : State) (n : Fin 2) (sop : Fin 4)

theorem exec_pdMessageReceive (b : List Byte) : exec (.pdMessageReceive n sop b) s = .next (s.pdReceive n.val sop.val b) := rfl
theorem exec_goodcrcTimeout : exec (.goodcrcTimeout n) s = .next (s.goodCrcTimeout n.val) := rfl
theorem exec_txreq (q : Fin 256) (b : List Byte) : exec (.txreq n sop q b) s = .next (s.txReq n.val sop.val q.val b) := rfl
theorem exec_sinkTxWaitEnd : exec (.sinkTxWaitEnd n) s = .next (if s.on TCP_STATUS.PROLE n.val then s.heldGo n.val else s) := rfl
theorem exec_sinkTxHoldTimeout : exec (.sinkTxHoldTimeout n) s = .next (s.holdTimeout n.val) := rfl
theorem exec_policyWaitExpire : exec (.policyWaitExpire n) s = .next (s.policyExpire n.val) := rfl

end PdCommands

/-- Settles O40: what is received by its kind, Hard Reset signalling and a missing GoodCRC, TXREQ, the waits of messages and the policy's wait. -/
theorem pdMessages : Obligations.PdMessages := by
  refine ⟨fun s n sop b message => ⟨fun refused => ?refused, fun attached whole powered => ?heard⟩, fun s n b => ?signals,
    fun s n sop q b => ⟨fun free => ?free, fun attached sop0 whole noCrc fits => ?asked⟩, fun s n => ⟨fun none => ?noneHeld, fun m held => ?held⟩,
    fun s n => ⟨fun none => ?noWait, fun sop b waits => ?expired⟩⟩
  case refused => rw [exec_pdMessageReceive, State.pdReceive_refused message refused]
  case heard =>
    refine ⟨fun crc none => ?stray, fun m crc pending sopOf same kind alone => ?acked, fun other noReset known => ?duplicate,
      fun other new => ⟨fun plug => ?plug, fun partner => ?partner⟩⟩
    case stray =>
      rw [exec_pdMessageReceive, State.pdReceive_goodCrc message attached whole powered crc]
      exact congrArg Host.Outcome.next (State.tcTold_quiet (State.pdAcked_none _ _ none) rfl)
    case acked =>
      rw [exec_pdMessageReceive, State.pdReceive_goodCrc message attached whole powered crc, ← sopOf]
      refine congrArg Host.Outcome.next (State.tcTold_quiet ?_ ?_)
      · refine (State.pdAcked_last pending same ?_).trans (State.pdSent_getSinkCap kind)
        rw [State.pdSent_getSinkCap kind]
        simpa using alone
      · exact (State.tcpStatus_txRes _ _).trans (State.tcpStatus_bump _ _ (by decide))
    case duplicate => rw [exec_pdMessageReceive, State.pdReceive_duplicate message attached whole powered other noReset known]
    case plug =>
      rw [exec_pdMessageReceive, State.pdReceive_new message attached whole powered other new]
      exact congrArg Host.Outcome.next (State.tcTold_congr (if_neg plug))
    case partner =>
      rw [exec_pdMessageReceive, State.pdReceive_new message attached whole powered other new, partner]
      rfl
  case signals =>
    refine ⟨fun attached => ?hard, fun free => ?noHard, fun none => ?noPend, fun m pending retry => ?retry, fun m pending last alone => ?fail⟩
    case hard => exact congrArg Host.Outcome.next ((State.pdReceive_signal b).trans (if_pos attached))
    case noHard => exact congrArg Host.Outcome.next ((State.pdReceive_signal b).trans (if_neg (by simp [free])))
    case noPend => rw [exec_goodcrcTimeout, State.goodCrcTimeout_none none]
    case retry => rw [exec_goodcrcTimeout, State.goodCrcTimeout_retry pending retry]
    case fail => rw [exec_goodcrcTimeout, State.goodCrcTimeout_fail pending last alone]
  case free => rw [exec_txreq, State.txReq_refused (State.txReqStatus_free free) (by decide)]
  case asked =>
    rw [exec_txreq, sop0]
    refine ⟨fun w waits => ?answer, fun idle answers => ?noQuestion, fun idle starts => ?starts⟩
    case answer => rw [State.txReq_answer attached whole noCrc fits waits]
    case noQuestion => rw [State.txReq_noWait attached whole noCrc fits idle answers]
    case starts =>
      rw [State.txReq_starts attached whole noCrc fits idle starts]
      exact ⟨fun now => congrArg _ (State.pdStart_free now), fun force rev source => congrArg _ (State.pdStart_source force rev source),
        fun force rev sink busy => congrArg _ (State.pdStart_sink force rev sink busy)⟩
  case noneHeld => exact ⟨by rw [exec_sinkTxWaitEnd, State.heldGo_none none, ite_self], by rw [exec_sinkTxHoldTimeout, State.holdTimeout_none none]⟩
  case held =>
    rw [exec_sinkTxWaitEnd, State.heldGo_some held, exec_sinkTxHoldTimeout, State.holdTimeout_some held]
    exact ⟨fun source => ⟨by rw [if_pos source], by rw [if_pos source]⟩,
      fun sink => ⟨by rw [if_neg (by simp [sink])], by rw [if_neg (by simp [sink])]⟩⟩
  case noWait => rw [exec_policyWaitExpire, State.policyExpire_none none]
  case expired =>
    rw [exec_policyWaitExpire, State.policyExpire_some waits]
    refine ⟨fun request => ?request, fun swap => congrArg _ (State.fallbackAnswer_swap swap),
      fun caps => congrArg _ (State.fallbackAnswer_getSourceCap caps)⟩
    case request =>
      have limit : (((s.modTc n.val (fun v => { v with wait := none })).bump TCP_POLTO.COUNT n.val).raiseOnce (tcEvent n.val 5)).rd
          TCP_FALLBACK.FB_SRC_MA = s.rd TCP_FALLBACK.FB_SRC_MA :=
        (State.rd_raiseOnce _ _ _ _ _ _ (by decide)).trans (State.rd_bump_ne _ _ _ _ _ _ (by decide))
      rw [State.fallbackAnswer_request request, limit]

end Sys2Proof.Machine

/-! Power transitions, swaps and the timers of PD (R338, R342, R346). -/

namespace Sys2Proof.Machine

section Transitions

variable {s : State} {n : Nat}

theorem State.regs_tcPins (f : Tc → Tc) : (s.tcPins n f).regs = s.regs := by
  unfold State.tcPins
  dsimp only
  split <;> rfl

theorem State.regs_pdOwn (kind : Nat) (objs : List Nat) : (s.pdOwn n kind objs).regs = s.regs := State.regs_pdSend _

/-- What changes no register is told to nobody (R340). -/
theorem State.tcTold_sameRegs {f : State → State} {t : State} (act : f s = t) (same : t.regs = s.regs) : s.tcTold n f = t :=
  State.tcTold_quiet act (State.readReg_of_regs same _ _)

theorem State.tcPins_congr {f g : Tc → Tc} (same : f (s.tcp n) = g (s.tcp n)) : s.tcPins n f = s.tcPins n g := by
  unfold State.tcPins
  dsimp only
  rw [same]

section SourceSide

theorem State.srcTransitionEnd_request (phase : (s.tcp n).phase = .srcRequest) : s.srcTransitionEnd n =
    (s.tcPins n (fun t => { t with vsel := vselOf (pdoVolt ((s.sourcePdos n).getD (bits (s.tcp n).rdo 28 3 - 1) 0)
      (s.tcp n).rdo) })).setPhase n .srcVoltage := by
  unfold State.srcTransitionEnd
  rw [phase]

theorem State.srcTransitionEnd_swap (phase : (s.tcp n).phase = .swapSrcWait) : s.srcTransitionEnd n =
    ((s.tcPins n (fun t => { t with srcEn := false, disch := true })).tcRouted n).setPhase n .swapSrcFall := by
  unfold State.srcTransitionEnd
  rw [phase]

theorem State.srcTransitionEnd_idle (noRequest : (s.tcp n).phase ≠ .srcRequest) (noSwap : (s.tcp n).phase ≠ .swapSrcWait) :
    s.srcTransitionEnd n = s := by
  unfold State.srcTransitionEnd
  split
  · exact absurd ‹_› noRequest
  · exact absurd ‹_› noSwap
  · rfl

theorem State.vbusReached_voltage (phase : (s.tcp n).phase = .srcVoltage) :
    s.vbusReached n = (s.setPhase n .srcReady).pdOwn n Pd.psRdy [] := by
  unfold State.vbusReached
  rw [phase]

theorem State.vbusReached_rise (phase : (s.tcp n).phase = .swapSnkRise) :
    s.vbusReached n = (s.setPhase n .swapSnkReady).pdOwn n Pd.psRdy [] := by
  unfold State.vbusReached
  rw [phase]

theorem State.vbusReached_fall (phase : (s.tcp n).phase = .swapSrcFall) : s.vbusReached n =
    (((s.tcPins n (fun t => { t with disch := false })).setPowerRole n false).setPhase n .swapSrcReady).pdOwn n Pd.psRdy [] := by
  unfold State.vbusReached
  rw [phase]

/-- A discharge has reached vSafe0V (R346). -/
theorem State.vbusReached_idle (phase : (s.tcp n).phase = .idle) (off : (s.tcp n).srcEn = false) :
    s.vbusReached n = s.tcPins n (fun t => { t with disch := false }) := by
  unfold State.vbusReached
  rw [phase]
  exact State.tcPins_congr (if_neg (by simp [off]))

theorem State.vbusFault_eq (phase : (s.tcp n).phase = .srcVoltage ∨ (s.tcp n).phase = .srcRequest) :
    s.vbusFault n = s.tcTold n (fun s => (s.raise (tcEvent n 8)).hardReset n true) := if_pos phase

theorem State.vbusFault_idle (noVoltage : (s.tcp n).phase ≠ .srcVoltage) (noRequest : (s.tcp n).phase ≠ .srcRequest) : s.vbusFault n = s :=
  if_neg (by simp [noVoltage, noRequest])

end SourceSide

theorem State.psTimeout_eq (phase : (s.tcp n).phase = .snkRequest) : s.psTimeout n = s.tcTold n (fun s => s.hardReset n true) := if_pos phase

theorem State.psTimeout_idle (phase : (s.tcp n).phase ≠ .snkRequest) : s.psTimeout n = s := if_neg phase

theorem State.swapTimeout_eq (phase : (s.tcp n).phase = .swapSrcReady ∨ (s.tcp n).phase = .swapSnkWait) :
    s.swapTimeout n = s.tcTold n (fun s => (s.errorRecovery n).reportPresence) := by
  unfold State.swapTimeout
  obtain h | h := phase <;> exact if_pos (by rw [h]; rfl)

theorem State.swapTimeout_idle (phase : (s.tcp n).phase = .idle) : s.swapTimeout n = s := by
  unfold State.swapTimeout
  exact if_neg (by rw [phase]; decide)

@[simp] theorem State.tcp_contract (volt : Nat) :
    (s.contract n volt).tcp n = { s.tcp n with exch := 0, mine := false, phase := .idle, txNg := false } := by
  unfold State.contract State.exchEnd
  simp

/-- The contract of a source comes into force with its PS_RDY (R342). -/
theorem State.pdSent_psRdy {b : List Byte} (kind : pdKind b = Pd.psRdy) (phase : (s.tcp n).phase = .srcReady) : s.pdSent n b =
    s.contract n (pdoVolt ((s.sourcePdos n).getD (bits (s.tcp n).rdo 28 3 - 1) 0) (s.tcp n).rdo) := by
  unfold State.pdSent
  rw [kind]
  dsimp only
  rw [if_neg (by decide), if_neg (by decide), if_neg (by decide), if_neg (by decide), if_neg (by decide), if_neg (by decide), if_neg (by decide),
    if_pos rfl, phase]

/-- The port after the GoodCRC of its own message (R337). -/
def State.ackNoted (s : State) (n sop id : Nat) : State :=
  (s.modTc n (fun v => { v with pend := none, txId := NMap.set v.txId 0 sop ((id + 1) % 8) })).bump TCP_TXMSG.COUNT n

theorem State.tcp_ackNoted (sop id : Nat) :
    (s.ackNoted n sop id).tcp n = { s.tcp n with pend := none, txId := NMap.set (s.tcp n).txId 0 sop ((id + 1) % 8) } := by
  unfold State.ackNoted
  simp

theorem State.sourcePdos_ackNoted (sop id : Nat) : (s.ackNoted n sop id).sourcePdos n = s.sourcePdos n := by
  have same (f : Field) (i : Nat) (h : TCP_TXMSG.COUNT.id ≠ f.id) : (s.ackNoted n sop id).rd f i = s.rd f i := State.rd_bump_ne _ _ _ _ _ _ h
  unfold State.sourcePdos
  rw [State.on_of_rd (same TCP_STATUS.FALLBACK n (by decide)), same TCP_FALLBACK.FB_SRC_MA 0 (by decide),
    List.map_congr_left fun i _ => same TCP_SRCCAP.PDO (n * 7 + i) (by decide)]

theorem State.txRes_own {m : PdMsg} (own : m.rseq = none) (status : Nat) : s.txRes n m status = s := by
  unfold State.txRes
  rw [own]

theorem State.pdAcked_psRdy {m : PdMsg} {id : Nat} (pending : (s.tcp n).pend = some m) (own : m.rseq = none) (same : pdId m.bytes = id)
    (kind : pdKind m.bytes = Pd.psRdy) (alone : (s.tcp n).queue = []) (phase : (s.tcp n).phase = .srcReady) :
    s.pdAcked n m.sop id = (s.ackNoted n m.sop id).contract n
      (pdoVolt ((s.sourcePdos n).getD (bits (s.tcp n).rdo 28 3 - 1) 0) (s.tcp n).rdo) := by
  have sent : ((s.ackNoted n m.sop id).txRes n m St.OK).pdSent n m.bytes = (s.ackNoted n m.sop id).contract n
      (pdoVolt ((s.sourcePdos n).getD (bits (s.tcp n).rdo 28 3 - 1) 0) (s.tcp n).rdo) := by
    rw [State.txRes_own own, State.pdSent_psRdy kind (by rw [State.tcp_ackNoted]; exact phase), State.sourcePdos_ackNoted, State.tcp_ackNoted]
  refine (State.pdAcked_last pending same ?_).trans sent
  refine (congrArg (fun t => (State.tcp t n).queue) sent).trans ?_
  rw [State.tcp_contract, State.tcp_ackNoted]
  exact alone

end Transitions

section Timers

variable {s : State} {n : Nat}

theorem State.pdTimer_response (t1 : s.tcAttached n = true) (mine : (s.tcp n).mine = true) (request : (s.tcp n).exch = 1) :
    s.pdTimer n 0 = s.hardReset n true := by
  refine (if_neg ?_).trans (if_pos (.inl request))
  simp [t1, mine, request]

theorem State.pdTimer_exchange (t1 : s.tcAttached n = true) (mine : (s.tcp n).mine = true) (swap : (s.tcp n).exch = 2) :
    s.pdTimer n 0 = s.exchEnd n := by
  refine (if_neg ?_).trans (if_neg ?_)
  · simp [t1, mine, swap]
  · simp [swap]

theorem State.pdTimer_noExchange (other : (s.tcp n).mine = false) : s.pdTimer n 0 = s := if_pos (.inr (.inl other))

theorem State.pdTimer_caps (source : s.rd TCP_STATUS.TCSTATE n = 10) (noContract : s.on TCP_STATUS.CONTRACT n = false)
    (again : (s.tcp n).capsSent < 50) : s.pdTimer n 1 = s.sendCaps n := if_pos ⟨source, noContract, again⟩

theorem State.pdTimer_capsSpent (spent : 50 ≤ (s.tcp n).capsSent) : s.pdTimer n 1 = s := if_neg fun h => by omega

theorem State.pdTimer_noResponse (attached : s.tcAttached n = true) (noContract : s.on TCP_STATUS.CONTRACT n = false) :
    s.pdTimer n 2 = if (s.tcp n).hardResets ≤ 2 then s.hardReset n true else s.errorRecovery n := by
  refine if_neg ?_
  simp [attached, noContract]

theorem State.pdTimer_recover (phase : (s.tcp n).phase = .recover) : s.pdTimer n 4 =
    ((((s.tcPins n (fun v => { v with srcEn := true, disch := false })).setBit TCP_STATUS.VCONN_ON (s.on TCP_CTRL.VCONN_EN n) n).setPhase n
      .idle).tcRouted n).sendCaps n := if_pos phase

theorem State.pdTimer_try (at5 : s.rd TCP_STATUS.TCSTATE n = 5) : s.pdTimer n 5 = s.wr TCP_STATUS.TCSTATE 8 n := if_pos at5

theorem State.pdTimer_trySink (at6 : s.rd TCP_STATUS.TCSTATE n = 6) : s.pdTimer n 5 = s.wr TCP_STATUS.TCSTATE 7 n :=
  (if_neg (by omega)).trans (if_pos at6)

theorem State.pdTimer_tryEnd (least : 5 ≤ s.rd TCP_STATUS.TCSTATE n) (most : s.rd TCP_STATUS.TCSTATE n ≤ 8) :
    s.pdTimer n 6 = s.wr TCP_STATUS.TCSTATE (s.tcUnattached n) n := by
  refine if_pos ?_
  simp only [List.contains_eq_mem, List.mem_cons, List.not_mem_nil, decide_eq_true_eq]
  omega

theorem State.pdTimer_recovered (at11 : s.rd TCP_STATUS.TCSTATE n = 11) : s.pdTimer n 7 = s.wr TCP_STATUS.TCSTATE (s.tcUnattached n) n :=
  if_pos at11

end Timers

section TransitionCommands

variable (s : State) (n : Fin 2)

theorem exec_srcTransitionEnd : exec (.srcTransitionEnd n) s = .next (s.srcTransitionEnd n.val) := rfl
theorem exec_vbusLevelReached : exec (.vbusLevelReached n) s = .next (s.tcTold n.val (fun s => s.vbusReached n.val)) := rfl
theorem exec_vbusFault : exec (.vbusFault n) s = .next (s.vbusFault n.val) := rfl
theorem exec_psTransitionTimeout : exec (.psTransitionTimeout n) s = .next (s.psTimeout n.val) := rfl
theorem exec_swapTimeout : exec (.swapTimeout n) s = .next (s.swapTimeout n.val) := rfl
theorem exec_pdTimerExpiry (t : Fin 8) : exec (.pdTimerExpiry n t) s = .next (s.tcTold n.val (fun s => s.pdTimer n.val t.val)) := rfl

end TransitionCommands

/-- Settles O41: the events of a transition by its phase, the GoodCRC of a source's PS_RDY, then the timers one by one. -/
theorem pdTransitions : Obligations.PdTransitions := by
  refine ⟨fun s n => ?phases, fun s n b m attached whole crc pending partner own same kind alone phase => ?contract, fun s n => ?timers⟩
  case phases =>
    refine ⟨fun h => ?request, fun h => ?swap, fun noRequest noSwap => ?noTransition, fun h => ?voltage, fun h => ?rise, fun h => ?fall,
      fun h off => ?discharged, fun h => ?fault, fun noVoltage noRequest => ?noFault, fun h => ?ps, fun h => ?noPs, fun h => ?swapLate, fun h => ?noSwapLate⟩
    case request => exact congrArg Host.Outcome.next (State.srcTransitionEnd_request h)
    case swap => rw [exec_srcTransitionEnd, State.srcTransitionEnd_swap h]
    case noTransition => rw [exec_srcTransitionEnd, State.srcTransitionEnd_idle noRequest noSwap]
    case voltage => exact congrArg Host.Outcome.next (State.tcTold_sameRegs (State.vbusReached_voltage h) (State.regs_pdOwn ..))
    case rise => exact congrArg Host.Outcome.next (State.tcTold_sameRegs (State.vbusReached_rise h) (State.regs_pdOwn ..))
    case fall => exact congrArg Host.Outcome.next (State.tcTold_congr (State.vbusReached_fall h))
    case discharged => exact congrArg Host.Outcome.next (State.tcTold_sameRegs (State.vbusReached_idle h off) (State.regs_tcPins _))
    case fault => rw [exec_vbusFault, State.vbusFault_eq h]
    case noFault => rw [exec_vbusFault, State.vbusFault_idle noVoltage noRequest]
    case ps => rw [exec_psTransitionTimeout, State.psTimeout_eq h]
    case noPs => rw [exec_psTransitionTimeout, State.psTimeout_idle h]
    case swapLate => rw [exec_swapTimeout, State.swapTimeout_eq h]
    case noSwapLate => rw [exec_swapTimeout, State.swapTimeout_idle h]
  case contract =>
    refine (exec_pdMessageReceive ..).trans (congrArg Host.Outcome.next ?_)
    refine (State.pdReceive_goodCrc (by decide) attached whole (.inl rfl) crc).trans (State.tcTold_congr ?_)
    have acked := State.pdAcked_psRdy pending own same kind alone phase
    rw [partner] at acked
    exact acked
  case timers =>
    refine ⟨fun attached mine exch => ?sender, fun attached mine exch => ?other, fun mine => ?none, fun st noContract again => ?caps, fun spent => ?spent,
      fun attached noContract few => ?reset, fun attached noContract many => ?recovery, fun phase => ?recover, fun st => ?try5, fun st => ?try6,
      fun least most => ?tryEnd, fun st => ?recovered, ?t3⟩
    case sender => exact congrArg Host.Outcome.next (State.tcTold_congr (State.pdTimer_response attached mine exch))
    case other => exact congrArg Host.Outcome.next (State.tcTold_sameRegs (State.pdTimer_exchange attached mine exch) rfl)
    case none => exact congrArg Host.Outcome.next (State.tcTold_sameRegs (State.pdTimer_noExchange mine) rfl)
    case caps => exact congrArg Host.Outcome.next (State.tcTold_congr (State.pdTimer_caps st noContract again))
    case spent => exact congrArg Host.Outcome.next (State.tcTold_sameRegs (State.pdTimer_capsSpent spent) rfl)
    case reset => exact congrArg Host.Outcome.next (State.tcTold_congr ((State.pdTimer_noResponse attached noContract).trans (if_pos few)))
    case recovery => exact congrArg Host.Outcome.next (State.tcTold_congr ((State.pdTimer_noResponse attached noContract).trans (if_neg (by omega))))
    case recover => exact congrArg Host.Outcome.next (State.tcTold_congr (State.pdTimer_recover phase))
    case try5 => exact congrArg Host.Outcome.next (State.tcTold_congr (State.pdTimer_try st))
    case try6 => exact congrArg Host.Outcome.next (State.tcTold_congr (State.pdTimer_trySink st))
    case tryEnd => exact congrArg Host.Outcome.next (State.tcTold_congr (State.pdTimer_tryEnd least most))
    case recovered => exact congrArg Host.Outcome.next (State.tcTold_congr (State.pdTimer_recovered st))
    case t3 => exact congrArg Host.Outcome.next (State.tcTold_sameRegs (t := s) rfl rfl)

end Sys2Proof.Machine

/-! The feeds and the input stage of the 48 V power path (R351, R353 to R357, R363). -/

namespace Sys2Proof.Machine

/-- A fold that keeps `P` and passes an element that brings it about ends in `P`. -/
theorem List.foldl_reaches {α β : Type} {P : β → Prop} {g : β → α → β} (keeps : ∀ s a, P s → P (g s a)) {l : List α} (s : β)
    (brings : ∃ a ∈ l, ∀ s, P (g s a)) : P (l.foldl g s) := by
  obtain ⟨a, inList, sets⟩ := brings
  obtain ⟨before, after, rfl⟩ := List.append_of_mem inList
  rw [List.foldl_append, List.foldl_cons]
  exact List.foldlRecOn after g (sets _) fun t hold x _ => keeps t x hold

section ResetValues

/-- Copy `i` of a field is at its reset value. -/
def State.atReset (f : Field) (i : Nat) (s : State) : Prop := NMap.get s.regs 0 (f.key i) = 0

variable {f : Field} {i : Nat} {s : State}

theorem State.rd_atReset (h : s.atReset f i) : s.rd f i = f.resetAt i :=
  (congrArg (· ^^^ f.resetAt i) h).trans (Nat.zero_xor _)

theorem State.atReset_toReset : (s.toReset f i).atReset f i := (NMap.get_del ..).trans (if_pos rfl)

theorem State.toReset_atReset (g : Field) (j : Nat) (h : s.atReset f i) : (s.toReset g j).atReset f i :=
  (NMap.get_del ..).trans (by split <;> [rfl; exact h])

/-- The fields of a list of registers, put at their reset values one after another. -/
def State.resetRegs (i : Nat) (l : List RegDesc) (s : State) : State := l.foldl (fun s d => d.fields.foldl (fun s f => s.toReset f i) s) s

theorem State.resetRegs_atReset (j : Nat) (l : List RegDesc) (h : s.atReset f i) : (s.resetRegs j l).atReset f i :=
  List.foldlRecOn l _ h fun _ ht d _ => List.foldlRecOn d.fields _ ht fun _ hu g _ => State.toReset_atReset g j hu

theorem State.atReset_resetRegs {l : List RegDesc} (s : State) {d : RegDesc} (reg : d ∈ l) (field : f ∈ d.fields) : (s.resetRegs i l).atReset f i :=
  List.foldl_reaches (fun _ e h => List.foldlRecOn e.fields _ h fun _ hu g _ => State.toReset_atReset g i hu) s
    ⟨d, reg, fun s => List.foldl_reaches (fun _ g h => State.toReset_atReset g i h) s ⟨f, field, fun _ => State.atReset_toReset⟩⟩

theorem State.pwpReset_eq : s.pwpReset = [0, 1, 2].foldl (fun s i => s.resetRegs i [Reg.PWP_EFCTL, Reg.PWP_EFCFG, Reg.PWP_EFSNS, Reg.PWP_EFSTAT, Reg.PWP_EFCNT])
    ([0, 1, 2, 3].foldl (fun s i => s.resetRegs i [Reg.PWP_TV, Reg.PWP_TI, Reg.PWP_TP, Reg.PWP_TE_LO, Reg.PWP_TE_HI, Reg.PWP_TIPK])
      (s.resetRegs 0 [Reg.PWP_STATUS, Reg.PWP_INCFG, Reg.PWP_INSNS, Reg.PWP_WAKE, Reg.PWP_FEEDV, Reg.PWP_TELCMD, Reg.PWP_REVCNT])) := rfl

/-- The power path without supply shows its status as after power-up (R351). -/
theorem State.atReset_pwpReset_status (field : f ∈ Reg.PWP_STATUS.fields) : s.pwpReset.atReset f 0 := by
  rw [State.pwpReset_eq]
  have first : (s.resetRegs 0 [Reg.PWP_STATUS, Reg.PWP_INCFG, Reg.PWP_INSNS, Reg.PWP_WAKE, Reg.PWP_FEEDV, Reg.PWP_TELCMD,
      Reg.PWP_REVCNT]).atReset f 0 := State.atReset_resetRegs s List.mem_cons_self field
  exact List.foldlRecOn _ _ (List.foldlRecOn _ _ first fun _ h j _ => State.resetRegs_atReset j _ h) fun _ h j _ => State.resetRegs_atReset j _ h

theorem State.atReset_pwpReset_channel {d : RegDesc} (reg : d ∈ [Reg.PWP_EFCTL, Reg.PWP_EFCFG, Reg.PWP_EFSNS, Reg.PWP_EFSTAT, Reg.PWP_EFCNT])
    (field : f ∈ d.fields) (channel : i < 3) : s.pwpReset.atReset f i := by
  rw [State.pwpReset_eq]
  exact List.foldl_reaches (fun _ j h => State.resetRegs_atReset j _ h) _
    ⟨i, by simp; omega, fun s => State.atReset_resetRegs s reg field⟩

end ResetValues

section Channels

/-- The fields that a channel's own state machine writes. -/
def channelFields : List (Fin 1024) := [PWP_EFSTAT.STATE.id, PWP_EFSTAT.PG.id, PWP_EFSTAT.LIMIT.id, PWP_EFSTAT.FTIMER.id]

variable (s : State) (c : Nat) {f : Field} (i : Nat) (notEvent : f.id ∉ eventFields) (notChannel : f.id ∉ channelFields)
include notEvent notChannel

omit notEvent in
theorem rd_channel_wr {g : Field} (v j : Nat) (own : g.id ∈ channelFields) : (s.wr g v j).rd f i = s.rd f i :=
  State.rd_wr_ne _ _ _ _ _ _ fun same => notChannel (same ▸ own)

theorem State.rd_setPg (on : Bool) : (s.setPg c on).rd f i = s.rd f i := by
  unfold State.setPg
  split
  · rfl
  · exact (State.rd_raise _ _ _ _ _ notEvent).trans (rd_channel_wr s i notChannel _ _ (by decide))

theorem State.rd_efOff (st : Nat) : (s.efOff c st).rd f i = s.rd f i := by
  have off : (((s.wr PWP_EFSTAT.STATE st c).wr PWP_EFSTAT.LIMIT 0 c).setPg c false).rd f i = s.rd f i :=
    (State.rd_setPg _ c i notEvent notChannel false).trans ((rd_channel_wr _ i notChannel _ _ (by decide)).trans
      (rd_channel_wr s i notChannel _ _ (by decide)))
  unfold State.efOff
  dsimp only
  split
  · exact off
  · exact off

theorem State.rd_efRefresh : (s.efRefresh c).rd f i = s.rd f i := by
  unfold State.efRefresh
  split
  · rfl
  · split
    · split
      · rfl
      · exact (rd_channel_wr _ i notChannel _ _ (by decide)).trans (rd_channel_wr _ i notChannel _ _ (by decide))
    · exact State.rd_efOff s c i notEvent notChannel _

theorem State.rd_efRefreshAll : s.efRefreshAll.rd f i = s.rd f i :=
  State.rd_foldl _ _ _ (fun s c => State.rd_efRefresh s c i notEvent notChannel) _ _

theorem State.rd_inputOff (notGood : PWP_STATUS.IN_GOOD.id ≠ f.id) : s.inputOff.rd f i = s.rd f i := by
  have off : ((s.modPw (fun p => { p with ramping := false })).wr PWP_STATUS.IN_GOOD 0).efRefreshAll.rd f i = s.rd f i :=
    (State.rd_efRefreshAll _ i notEvent notChannel).trans (State.rd_wr_ne _ _ _ _ _ _ notGood)
  unfold State.inputOff
  dsimp only
  split
  · exact off
  · exact off

end Channels

section InputStage

variable {s : State}

/-- A failed attempt counts from the tries the input stage shows (R356). -/
theorem State.inputFail_eq (cause : Nat) : s.inputFail cause =
    if 3 ≤ s.rd PWP_STATUS.IN_TRIES + 1 then
      ((s.inputOff.wr PWP_STATUS.IN_TRIES (s.rd PWP_STATUS.IN_TRIES + 1)).raise 0x3C4 (cause + 8 * (s.rd PWP_STATUS.IN_TRIES + 1))).wr PWP_STATUS.IN_LATCH 1
    else ((s.inputOff.wr PWP_STATUS.IN_TRIES (s.rd PWP_STATUS.IN_TRIES + 1)).raise 0x3C4 (cause + 8 * (s.rd PWP_STATUS.IN_TRIES + 1))).modPw
      (fun p => { p with waiting := true }) := by
  unfold State.inputFail
  dsimp only
  rw [State.rd_inputOff s 0 (by decide) (by decide) (by decide)]

/-- The ramp's start depends on the feeds, the stage and its hold (R355, R356). -/
theorem State.inputStart_ramp (powered : s.pw.powered = true) (feed : s.feedOk = true) (noRamp : s.pw.ramping = false) (noWait : s.pw.waiting = false)
    (off : s.on PWP_STATUS.IN_GOOD = false) (free : s.on PWP_STATUS.IN_LATCH = false) : s.inputStart =
      (s.modPw (fun p => { p with ramping := true, inTimer := 0, inQuiet := 0 })).emit (.act "hs gate" [1, s.rd PWP_INCFG.DVDT]) :=
  if_pos ⟨powered, feed, noRamp, noWait, off, free⟩

theorem State.inputStart_held (held : s.pw.ramping = true ∨ s.pw.waiting = true ∨ s.on PWP_STATUS.IN_GOOD = true ∨ s.on PWP_STATUS.IN_LATCH = true) :
    s.inputStart = s := by
  refine if_neg ?_
  rintro ⟨-, -, noRamp, noWait, off, free⟩
  simp [noRamp, noWait, off, free] at held

theorem State.inputStart_noFeed (noFeed : s.feedOk = false) : s.inputStart = s := if_neg fun h => by simp [noFeed] at h

theorem State.inputTrip_off (fast : Bool) (off : s.on PWP_STATUS.IN_GOOD = false) : s.inputTrip fast = s := if_pos off

theorem State.inputTrip_on (fast : Bool) (good : s.on PWP_STATUS.IN_GOOD = true) : s.inputTrip fast =
    if fast then s.inputFail 2 else if s.rd PWP_INCFG.FT_IN * 10 ≤ s.pw.inTimer then s.inputFail 1 else s := if_neg (by simp [good])

theorem State.rampDone_eq (ramping : s.pw.ramping = true) : s.rampDone =
    (((s.modPw (fun p => { p with ramping := false })).wr PWP_STATUS.IN_GOOD 1).raise 0x3C5).efRefreshAll := if_neg (by simp [ramping])

theorem State.rampDone_idle (idle : s.pw.ramping = false) : s.rampDone = s := if_pos idle

end InputStage

section Feeds

/-- A feed's own four fields (R353). -/
abbrev feedValidField (f : Nat) : Field := feedField f PWP_STATUS.A_VALID PWP_STATUS.B_VALID
abbrev feedOtherField (f : Nat) : Field := feedField f PWP_STATUS.B_VALID PWP_STATUS.A_VALID
abbrev feedOvField (f : Nat) : Field := feedField f PWP_STATUS.A_OV PWP_STATUS.B_OV
abbrev feedGateField (f : Nat) : Field := feedField f PWP_STATUS.A_ON PWP_STATUS.B_ON

theorem feedField_cases (f : Fin 2) (a b : Field) : feedField f.val a b = a ∨ feedField f.val a b = b := by
  unfold feedField
  split
  · exact .inl rfl
  · exact .inr rfl

variable {s : State} (f : Fin 2)

theorem State.feedOk_eq : s.feedOk = (s.on (feedValidField f.val) || s.on (feedOtherField f.val)) := by
  fin_cases f
  · rfl
  · exact Bool.or_comm ..

theorem feedValid_apart : (feedValidField f.val).id ∉ eventFields ∧ (feedGateField f.val).id ≠ (feedValidField f.val).id ∧
    (feedOvField f.val).id ≠ (feedValidField f.val).id ∧ (feedValidField f.val).width = 1 := by fin_cases f <;> decide

theorem feedOther_apart : (feedOtherField f.val).id ∉ eventFields ∧ (feedGateField f.val).id ≠ (feedOtherField f.val).id ∧
    (feedOvField f.val).id ≠ (feedOtherField f.val).id ∧ (feedValidField f.val).id ≠ (feedOtherField f.val).id := by fin_cases f <;> decide

/-- A field that a feed's FET, validity and events leave as it was. -/
theorem State.rd_setFet (on : Bool) {x : Field} (notGate : (feedGateField f.val).id ≠ x.id) : (s.setFet f.val on).rd x = s.rd x := by
  unfold State.setFet
  dsimp only
  split
  · rfl
  · exact State.rd_wr_ne _ _ _ _ _ _ notGate

theorem State.on_setFet (on : Bool) {x : Field} (notGate : (feedGateField f.val).id ≠ x.id) : (s.setFet f.val on).on x = s.on x :=
  State.on_of_rd (State.rd_setFet f on notGate)

@[simp] theorem State.pw_setFet (on : Bool) : (s.setFet f.val on).pw = s.pw := by
  unfold State.setFet
  dsimp only
  split <;> rfl

/-- The feed as it becomes valid, and as it leaves valid (R353). -/
def State.feedUp (s : State) (f : Nat) : State := ((s.wr (feedValidField f) 1).setFet f true).raise 0x3C0 f
def State.feedDown (s : State) (f : Nat) : State := ((s.wr (feedValidField f) 0).setFet f false).raise 0x3C1 f

@[simp] theorem State.pw_feedUp : (s.feedUp f.val).pw = s.pw := by simp [State.feedUp]

theorem State.rd_feedUp {x : Field} (notGate : (feedGateField f.val).id ≠ x.id) (notEvent : x.id ∉ eventFields)
    (notValid : (feedValidField f.val).id ≠ x.id) : (s.feedUp f.val).rd x = s.rd x := by
  unfold State.feedUp
  rw [State.rd_raise _ _ _ _ _ notEvent, State.rd_setFet f _ notGate, State.rd_wr_ne _ _ _ _ _ _ notValid]

theorem State.feedOk_feedUp : (s.feedUp f.val).feedOk = true := by
  obtain ⟨notEvent, notGate, -, width⟩ := feedValid_apart f
  have valid : (s.feedUp f.val).on (feedValidField f.val) = true := by
    unfold State.feedUp
    rw [State.on_raise _ _ _ _ _ notEvent, State.on_setFet f _ notGate, State.on_wr_same, width]
    rfl
  rw [State.feedOk_eq f, valid, Bool.true_or]

/-- After a feed has left, the other one alone decides (R353). -/
theorem State.feedOk_feedDown : (s.feedDown f.val).feedOk = s.on (feedOtherField f.val) := by
  obtain ⟨validEvent, validGate, -, width⟩ := feedValid_apart f
  obtain ⟨otherEvent, otherGate, -, otherValid⟩ := feedOther_apart f
  have lost : (s.feedDown f.val).on (feedValidField f.val) = false := by
    unfold State.feedDown
    rw [State.on_raise _ _ _ _ _ validEvent, State.on_setFet f _ validGate, State.on_wr_same, width]
    rfl
  have other : (s.feedDown f.val).on (feedOtherField f.val) = s.on (feedOtherField f.val) := by
    unfold State.feedDown
    rw [State.on_raise _ _ _ _ _ otherEvent, State.on_setFet f _ otherGate, State.on_wr_ne _ _ _ _ _ _ otherValid]
  rw [State.feedOk_eq f, lost, other, Bool.false_or]

/-- A valid feed that is lost takes the input stage with it where it was the only one (R353, R357). -/
theorem State.feedDrop_valid (valid : s.on (feedValidField f.val) = true) : s.feedDrop f.val =
    if s.on (feedOtherField f.val) then s.feedDown f.val else (s.feedDown f.val).inputOff := by
  unfold State.feedDrop
  dsimp only
  refine (if_neg (by simp [valid])).trans ?_
  rw [← State.feedOk_feedDown f]
  rfl

theorem State.feedValid_up (powered : s.pw.powered = true) (invalid : s.on (feedValidField f.val) = false) (noOv : s.on (feedOvField f.val) = false) :
    s.feedValid f.val = (s.feedUp f.val).inputStart := by
  unfold State.feedValid
  refine if_neg ?_
  rintro (h | h | h)
  · simp [powered] at h
  · exact absurd invalid (by simpa using h)
  · exact absurd noOv (by simpa using h)

theorem State.feedValid_not (not : s.pw.powered = false ∨ s.on (feedValidField f.val) = true ∨ s.on (feedOvField f.val) = true) :
    s.feedValid f.val = s := if_pos not

theorem State.feedOv_drop (powered : s.pw.powered = true) (noOv : s.on (feedOvField f.val) = false) :
    s.feedOv f.val = ((s.wr (feedOvField f.val) 1).raise 0x3C2 f.val).feedDrop f.val := by
  unfold State.feedOv
  refine if_neg ?_
  rintro (h | h)
  · simp [powered] at h
  · exact absurd noOv (by simpa using h)

/-- The over-voltage of a feed leaves its validity and that of the other one to what follows (R353). -/
theorem State.on_ovNoted {x : Field} (notEvent : x.id ∉ eventFields) (notOv : (feedOvField f.val).id ≠ x.id) :
    ((s.wr (feedOvField f.val) 1).raise 0x3C2 f.val).on x = s.on x :=
  (State.on_raise _ _ _ _ _ notEvent).trans (State.on_wr_ne _ _ _ _ _ _ notOv)

theorem State.setFet_change {on : Bool} (change : s.on (feedGateField f.val) = !on) :
    s.setFet f.val on = (s.setBit (feedGateField f.val) on).emit (.act "or gate" [f.val, if on then 1 else 0]) := by
  unfold State.setFet
  exact if_neg fun same => by rw [show s.on (feedGateField f.val) = on from same] at change; cases on <;> cases change

theorem State.reverseOff_invalid (b : Bool) (invalid : s.on (feedValidField f.val) = false) : s.reverseOff f.val b = s := if_pos invalid

theorem State.reverseOff_back (valid : s.on (feedValidField f.val) = true) : s.reverseOff f.val true = s.setFet f.val true :=
  (if_neg (by simp [valid])).trans (if_pos rfl)

theorem State.reverseOff_off (valid : s.on (feedValidField f.val) = true) : s.reverseOff f.val false = if s.on (feedGateField f.val) = false then s
    else ((s.setFet f.val false).bump (feedField f.val PWP_REVCNT.REV_A PWP_REVCNT.REV_B)).raiseOnce 0x3C3 0 f.val :=
  (if_neg (by simp [valid])).trans (if_neg (by decide))

end Feeds

section InputCommands

variable (s : State) (f : Fin 2)

theorem exec_feedValid : exec (.feedValid f) s = .next (s.feedValid f.val) := rfl
theorem exec_feedLost : exec (.feedLost f) s = .next (if s.on (feedValidField f.val) then s.feedDrop f.val else s) := rfl
theorem exec_feedOv : exec (.feedOv f) s = .next (s.feedOv f.val) := rfl
theorem exec_reverseTurnOff (b : Bool) : exec (.reverseTurnOff f b) s = .next (s.reverseOff f.val b) := rfl
theorem exec_inputRampDone : exec .inputRampDone s = .next s.rampDone := rfl
theorem exec_inputRampTimeout : exec .inputRampTimeout s = .next (if s.pw.ramping then s.inputFail 0 else s) := rfl
theorem exec_inputFetFail : exec .inputFetFail s = .next (if s.pw.ramping then s.inputFail 3 else s) := rfl
theorem exec_inputTrip (fast : Bool) : exec (.inputTrip fast) s = .next (s.inputTrip fast) := rfl
theorem exec_inputRetry : exec .inputRetry s = .next (if s.pw.waiting then (s.modPw (fun p => { p with waiting := false })).inputStart else s) := rfl
theorem exec_inputHoldClear : exec .inputHoldClear s = .next (if s.on PWP_STATUS.IN_GOOD then s.wr PWP_STATUS.IN_TRIES 0 else s) := rfl
theorem exec_inGoodLoss : exec .inGoodLoss s = .next (if s.on PWP_STATUS.IN_GOOD then s.inputOff.inputStart else s) := rfl
theorem exec_powerPathPowerUp : exec .powerPathPowerUp s = .next (if s.pw.powered then s else s.pwpPower true) := rfl
theorem exec_bothFeedsBelow20v : exec .bothFeedsBelow20v s = .next (if s.pw.powered then s.pwpPower false else s) := rfl

/-- A failed attempt is followed by a retry, the third by the latch (R356). -/
theorem inputFail_after (cause : Nat) : (Host.Outcome.next (s.inputFail cause) : Res) =
    .next (if s.rd PWP_STATUS.IN_TRIES + 1 < 3 then
      ((s.inputOff.wr PWP_STATUS.IN_TRIES (s.rd PWP_STATUS.IN_TRIES + 1)).raise 0x3C4 (cause + 8 * (s.rd PWP_STATUS.IN_TRIES + 1))).modPw
        (fun p => { p with waiting := true })
    else ((s.inputOff.wr PWP_STATUS.IN_TRIES (s.rd PWP_STATUS.IN_TRIES + 1)).raise 0x3C4 (cause + 8 * (s.rd PWP_STATUS.IN_TRIES + 1))).wr
      PWP_STATUS.IN_LATCH 1) := by
  rw [State.inputFail_eq]
  by_cases third : 3 ≤ s.rd PWP_STATUS.IN_TRIES + 1
  · rw [if_pos third, if_neg (by omega)]
  · rw [if_neg third, if_pos (by omega)]

end InputCommands

/-- Settles O42: the events of one feed, those of the input stage, and the power path's own supply. -/
theorem powerInput : Obligations.PowerInput := by
  refine ⟨fun s f => ?feeds, fun s => ?stage, fun s => ?supply⟩
  case feeds =>
    obtain ⟨validEvent, -, validOv, -⟩ := feedValid_apart f
    obtain ⟨otherEvent, -, otherOv, -⟩ := feedOther_apart f
    have apart : (feedGateField f.val).id ≠ PWP_STATUS.IN_GOOD.id ∧ (feedValidField f.val).id ≠ PWP_STATUS.IN_GOOD.id ∧
      (feedGateField f.val).id ≠ PWP_STATUS.IN_LATCH.id ∧ (feedValidField f.val).id ≠ PWP_STATUS.IN_LATCH.id ∧
      (feedGateField f.val).id ≠ PWP_INCFG.DVDT.id ∧ (feedValidField f.val).id ≠ PWP_INCFG.DVDT.id := by fin_cases f <;> decide
    obtain ⟨gateGood, validGood, gateLatch, validLatch, gateDvdt, validDvdt⟩ := apart
    have good := State.on_of_rd (State.rd_feedUp (s := s) f gateGood (by decide) validGood)
    have latch := State.on_of_rd (State.rd_feedUp (s := s) f gateLatch (by decide) validLatch)
    refine ⟨fun powered invalid noOv noRamp noWait off free => ?ramp, fun powered invalid noOv held => ?held, fun not => ?notValid, fun invalid => ?lostNot,
      ⟨fun valid other => ?lost, fun valid other => ?lostLast, fun powered noOv valid other => ?ov, fun powered noOv valid other => ?ovLast⟩, rfl,
      fun valid gate => ?reverse, fun valid gate => ⟨?back, ?again⟩, fun invalid b => ?reverseNot⟩
    case ramp =>
      rw [exec_feedValid, State.feedValid_up f powered invalid noOv, State.inputStart_ramp (by simpa using powered) (State.feedOk_feedUp f)
        (by simpa using noRamp) (by simpa using noWait) (good.trans off) (latch.trans free),
        State.rd_feedUp f gateDvdt (by decide) validDvdt]
      rfl
    case held =>
      rw [exec_feedValid, State.feedValid_up f powered invalid noOv, State.inputStart_held (by simpa [good, latch] using held)]
      rfl
    case notValid => rw [exec_feedValid, State.feedValid_not f not]
    case lostNot => exact congrArg Host.Outcome.next (if_neg (by simpa using invalid))
    case lost =>
      rw [exec_feedLost, if_pos valid, State.feedDrop_valid f valid, if_pos other]
      rfl
    case lostLast =>
      rw [exec_feedLost, if_pos valid, State.feedDrop_valid f valid, if_neg (by simpa using other)]
      rfl
    case ov =>
      rw [exec_feedOv, State.feedOv_drop f powered noOv, State.feedDrop_valid f ((State.on_ovNoted f validEvent validOv).trans valid),
        State.on_ovNoted f otherEvent otherOv, if_pos other]
      rfl
    case ovLast =>
      rw [exec_feedOv, State.feedOv_drop f powered noOv, State.feedDrop_valid f ((State.on_ovNoted f validEvent validOv).trans valid),
        State.on_ovNoted f otherEvent otherOv, if_neg (by simpa using other)]
      rfl
    case reverse =>
      rw [exec_reverseTurnOff, State.reverseOff_off f valid, if_neg (by simpa using gate), State.setFet_change f gate]
      rfl
    case back =>
      rw [exec_reverseTurnOff, State.reverseOff_back f valid, State.setFet_change f gate]
      rfl
    case again => rw [exec_reverseTurnOff, State.reverseOff_off f valid, if_pos gate]
    case reverseNot => rw [exec_reverseTurnOff, State.reverseOff_invalid f b invalid]
  case stage =>
    refine ⟨fun ramping => ⟨?done, ?timeout, ?fet⟩, fun idle => ⟨?notDone, ?notTimeout, ?notFet⟩, fun good => ⟨?fast, fun full => ?timer, fun early => ?early,
      ?hold, ?loss⟩, fun off => ⟨?notFast, ?notHold, ?notLoss⟩, fun idle => ?noRetry, fun waiting noFeed => ?noFeed,
      fun waiting powered feed noRamp off free => ?retry⟩
    case done => rw [exec_inputRampDone, State.rampDone_eq ramping]
    case timeout =>
      rw [exec_inputRampTimeout, if_pos ramping]
      exact inputFail_after s 0
    case fet =>
      rw [exec_inputFetFail, if_pos ramping]
      exact inputFail_after s 3
    case notDone => rw [exec_inputRampDone, State.rampDone_idle idle]
    case notTimeout => rw [exec_inputRampTimeout, if_neg (by simp [idle])]
    case notFet => rw [exec_inputFetFail, if_neg (by simp [idle])]
    case fast =>
      rw [exec_inputTrip, State.inputTrip_on _ good, if_pos rfl]
      exact inputFail_after s 2
    case timer =>
      rw [exec_inputTrip, State.inputTrip_on _ good, if_neg (by decide), if_pos full]
      exact inputFail_after s 1
    case early => rw [exec_inputTrip, State.inputTrip_on _ good, if_neg (by decide), if_neg (by omega)]
    case hold => rw [exec_inputHoldClear, if_pos good]
    case loss => rw [exec_inGoodLoss, if_pos good]
    case notFast => rw [exec_inputTrip, State.inputTrip_off _ off]
    case notHold => rw [exec_inputHoldClear, if_neg (by simp [off])]
    case notLoss => rw [exec_inGoodLoss, if_neg (by simp [off])]
    case noRetry => rw [exec_inputRetry, if_neg (by simp [idle])]
    case noFeed => rw [exec_inputRetry, if_pos waiting, State.inputStart_noFeed (s := s.modPw _) noFeed]
    case retry =>
      rw [exec_inputRetry, if_pos waiting]
      exact congrArg Host.Outcome.next (State.inputStart_ramp (s := s.modPw (fun p => { p with waiting := false })) powered feed noRamp rfl off free)
  case supply =>
    refine ⟨fun off => ⟨?powerUp, ?noLoss⟩, fun on => ⟨?bothLost, ?noPowerUp⟩, State.rd_atReset (State.atReset_pwpReset_status (by decide)),
      State.rd_atReset (State.atReset_pwpReset_status (by decide)), fun c => ⟨?channel, ?enable⟩⟩
    case powerUp =>
      rw [exec_powerPathPowerUp, if_neg (by simp [off])]
      rfl
    case noLoss => rw [exec_bothFeedsBelow20v, if_neg (by simp [off])]
    case bothLost =>
      rw [exec_bothFeedsBelow20v, if_pos on]
      rfl
    case noPowerUp => rw [exec_powerPathPowerUp, if_pos on]
    case channel =>
      exact State.rd_atReset (State.atReset_pwpReset_channel (d := Reg.PWP_EFSTAT) (by decide) (by decide) c.isLt)
    case enable =>
      exact State.rd_atReset (State.atReset_pwpReset_channel (d := Reg.PWP_EFCTL) (by decide) (by decide) c.isLt)

end Sys2Proof.Machine

/-! The channels EF1 to EF3 (R360): a counterexample. The fault timer has 14 bits, but a state may hold any number in its field. -/

namespace Sys2Proof.Machine

section FaultTimer

/-- A powered power path whose EF1 shows a fault timer of 2 ^ 14, one past what its 14 bits hold. -/
def timerPastWidth : State := { State.reset with regs := [(PWP_EFSTAT.FTIMER.key 0, 2 ^ 14)], pw := { Pw.init with powered := true } }

/-- A sample without limiting writes the timer back into its 14 bits. -/
theorem ftimer_sample_timerPastWidth : (timerPastWidth.sampleAll [] [] []).rd PWP_EFSTAT.FTIMER 0 = 0 := by decide +kernel

theorem ftimer_timerPastWidth : timerPastWidth.rd PWP_EFSTAT.FTIMER 0 = 2 ^ 14 := by decide +kernel

end FaultTimer

/-- Refutes O43: in `timerPastWidth` a sample without limiting, the first toward the decay, does not leave EF1's fault timer as it was. -/
theorem not_powerChannels : ¬ Obligations.PowerChannels := by
  unfold Obligations.PowerChannels
  rintro ⟨-, sample, -⟩
  obtain ⟨t, sampled, channels, -⟩ := sample timerPastWidth [] [] [] rfl
  obtain ⟨-, still, -⟩ := channels 0
  obtain ⟨kept, -⟩ := still rfl (by decide +kernel)
  have same : timerPastWidth.sampleAll [] [] [] = t := Host.Outcome.next.inj sampled
  have zero := ftimer_sample_timerPastWidth
  rw [same] at zero
  exact absurd ((zero.symm.trans kept).trans ftimer_timerPastWidth) (by decide)

end Sys2Proof.Machine

/-! Power domains (R379 to R383, R385): gating, draining, waking and restoring. -/

namespace Sys2Proof.Machine

section DomainRegs

variable {s : State} {d : Nat}

@[simp] theorem State.regs_domainState : (s.domainState d).regs = s.regs := by
  unfold State.domainState
  split_ifs <;> rfl

/-- The registers of a domain go to their reset values, but for the fields held in CORE (R380). -/
def State.domainClear (s : State) (l : List (RegDesc × Nat)) : State :=
  l.foldl (fun s r => r.1.fields.foldl (fun s f => if heldInCore.contains f.id.val then s else s.toReset f r.2) s) s

theorem State.domainReset_eq : s.domainReset d = (s.domainClear (s.domainRegs d)).domainState d := rfl

/-- A property that no reset of another kind of field ends is kept by a whole domain's reset. -/
theorem State.domainClear_keeps {P : State → Prop} (keeps : ∀ t (f : Field) (i : Nat), heldInCore.contains f.id.val = false → P t → P (t.toReset f i))
    (l : List (RegDesc × Nat)) (h : P s) : P (s.domainClear l) := by
  refine List.foldlRecOn l _ h fun t ht r _ => List.foldlRecOn r.1.fields _ ht fun u hu f _ => ?_
  split
  · exact hu
  · exact keeps u f r.2 ((Bool.not_eq_true _).mp ‹_›) hu

variable {f : Field} {i : Nat}

theorem State.domainReset_cleared {r : RegDesc} (mine : (r, i) ∈ s.domainRegs d) (field : f ∈ r.fields)
    (cleared : heldInCore.contains f.id.val = false) : (s.domainReset d).atReset f i := by
  have keeps (t : State) (r : RegDesc × Nat) (h : t.atReset f i) : (r.1.fields.foldl (fun s f =>
      if heldInCore.contains f.id.val then s else s.toReset f r.2) t).atReset f i := by
    refine List.foldlRecOn r.1.fields _ h fun u hu g _ => ?_
    split
    · exact hu
    · exact State.toReset_atReset g r.2 hu
  have reaches : (s.domainClear (s.domainRegs d)).atReset f i := by
    refine List.foldl_reaches keeps s ⟨(r, i), mine, fun t => List.foldl_reaches (fun u g hu => ?_) t ⟨f, field, fun u => ?_⟩⟩
    · split
      · exact hu
      · exact State.toReset_atReset g i hu
    · rw [if_neg (by simpa using cleared)]
      exact State.atReset_toReset
  rw [State.domainReset_eq]
  exact (congrArg (NMap.get · 0 (f.key i)) State.regs_domainState).trans reaches

theorem State.rd_toReset_ne (g : Field) (j : Nat) (other : g.id ≠ f.id) : (s.toReset g j).rd f i = s.rd f i := by
  have apart : g.key j ≠ f.key i := fun same => other ((Field.key_inj ..).mp same).1
  exact congrArg (· ^^^ f.resetAt i) ((NMap.get_del ..).trans (if_neg apart))

theorem State.domainReset_held (held : heldInCore.contains f.id.val = true) : (s.domainReset d).rd f i = s.rd f i := by
  rw [State.domainReset_eq]
  refine (congrArg (RegFile.rd · f i) State.regs_domainState).trans ?_
  refine State.domainClear_keeps (P := fun t => t.rd f i = s.rd f i) (fun t g j cleared same => ?_) _ rfl
  rw [State.rd_toReset_ne g j fun same => by rw [same, held] at cleared; cases cleared]
  exact same

end DomainRegs

section DomainParts

variable {s : State} {d : Nat}

theorem State.modChip_same {f : Chip → Chip} (same : f s.chip = s.chip) : s.modChip f = s := congrArg s.setChip same

@[simp] theorem State.chip_domainReset : (s.domainReset d).chip = s.chip := by
  have cleared : (s.domainClear (s.domainRegs d)).chip = s.chip :=
    State.domainClear_keeps (P := fun t => t.chip = s.chip) (fun _ _ _ _ same => same) _ rfl
  rw [State.domainReset_eq, ← cleared]
  unfold State.domainState
  split_ifs <;> rfl

@[simp] theorem State.chip_powerState : s.powerState.chip = s.chip := by
  unfold State.powerState
  split <;> rfl

theorem dstat_apart (d : Fin 13) : (dstat d.val).id ≠ NIM_WINSEL.CORE.id ∧ (dstat d.val).id ≠ CPM_DRAINCNT.ABORTS.id ∧
    CPM_DRAINCNT.ABORTS.id ≠ (dstat d.val).id ∧ (dstat d.val).id ∉ eventFields := by
  fin_cases d <;> decide

/-- The scratchpad window alone moves an address between domains (R421). -/
theorem State.domainOf_congr {t : State} (same : t.rd NIM_WINSEL.CORE = s.rd NIM_WINSEL.CORE) (a : Nat) : t.domainOf a = s.domainOf a := by
  unfold State.domainOf
  rw [same]

theorem State.domainOf_drainStart (d : Fin 13) (a : Nat) : (s.drainStart d.val).domainOf a = s.domainOf a :=
  State.domainOf_congr ((State.rd_bump_ne _ _ _ _ _ _ (by decide)).trans (State.rd_wr_ne _ _ _ _ _ _ (dstat_apart d).1)) a

/-- A drained domain that no access waits for loses power and stays so (R380, R381). -/
theorem State.domainOff_unheld (none : ∀ h, h ∈ s.chip.held → s.domainOf h.addr ≠ d) :
    s.domainOff d = ((s.domainReset d).wr (dstat d) 2).powerState := by
  have mine : s.chip.held.filter (fun h => s.domainOf h.addr == d) = [] :=
    List.filter_eq_nil_iff.mpr fun h m => by simpa using none h m
  unfold State.domainOff
  rw [mine]
  refine (if_pos rfl).trans (State.modChip_same ?_)
  simp only [List.contains_nil, Bool.not_false, List.filter_true]

end DomainParts

section Gating

variable {s : State} (d : Fin 13)

theorem State.domainGate_refused (b : Bool) (refused : s.chip.phase ≠ .running ∨ s.gateEnabled d.val = false ∨ s.rd (dstat d.val) ≠ 0 ∨
    s.domainIdle d.val = false) : s.domainGate d.val b = s := if_pos refused

theorem State.domainGate_drains (b : Bool) (running : s.chip.phase = .running) (enabled : s.gateEnabled d.val = true) (on : s.rd (dstat d.val) = 0)
    (idle : s.domainIdle d.val = true) : s.domainGate d.val b = if b then (s.drainStart d.val).domainOff d.val else s.drainStart d.val :=
  if_neg (by simp [running, enabled, on, idle])

theorem State.drainAbort_other (n : Nat) (other : s.rd (dstat d.val) ≠ 1) : s.drainAbort d.val n = s := if_pos other

/-- Nothing was left of the drain: only an entry into DOZE or SHIP keeps the domain's power (R385). -/
theorem State.drainAbort_none (drains : s.rd (dstat d.val) = 1) :
    s.drainAbort d.val 0 = if s.chip.phase = .entering then s else s.domainOff d.val := by
  unfold State.drainAbort
  rw [if_neg (by simp [drains])]
  simp

theorem State.drainAbort_entering {n : Nat} (drains : s.rd (dstat d.val) = 1) (some : n ≠ 0) (noUsb : d.val ≠ 9) (entering : s.chip.phase = .entering) :
    s.drainAbort d.val n = (s.bump CPM_DRAINCNT.ABORTS 0 n).raise 0x3F1 (d.val + 16 * n) := by
  have phase : ((s.bump CPM_DRAINCNT.ABORTS 0 n).raise 0x3F1 (d.val + 16 * n)).chip.phase = .entering := by
    rw [State.chip_raise]
    exact entering
  have usb : ¬ (d.val = 9 ∧ 0 < n) := fun h => noUsb h.1
  unfold State.drainAbort
  rw [if_neg (by simp [drains])]
  dsimp only
  rw [if_neg some, if_neg usb, if_pos phase]

theorem State.domainWake_other (other : s.rd (dstat d.val) ≠ 2) : s.domainWake d.val = s := if_neg other

theorem State.domainWake_gated (gated : s.rd (dstat d.val) = 2) : s.domainWake d.val =
    (((s.wr (dstat d.val) 0).wr CPM_WAKEF.WAKEF (s.rd CPM_WAKEF.WAKEF ||| 2 ^ (d.val - 1))).powerState).raise 0x3F0 d.val := if_pos gated

theorem State.domainRestore_not (not : s.awaitsRestore d.val = false) : s.domainRestore d.val = s := if_pos not

theorem State.domainRestore_empty (awaits : s.awaitsRestore d.val = true) (empty : s.chip.image = []) :
    s.domainRestore d.val = s.wr CPM_WAKEF.WAKEF (s.rd CPM_WAKEF.WAKEF - 2 ^ (d.val - 1)) := by
  unfold State.domainRestore
  rw [if_neg (by simp [awaits]), empty]
  rfl

/-- The image's word of the domain is written without the fields of its idle condition (R383). -/
theorem State.domainRestore_word {a v i : Nat} {r : RegDesc} (awaits : s.awaitsRestore d.val = true) (word : s.chip.image = [(a, v)])
    (mine : s.domainOf a = d.val) (found : regMap.findSome? (fun r => (r.indexOf a).map (fun i => (r, i))) = some (r, i)) :
    s.domainRestore d.val = (s.writeFields r i (idleMask r v)).wr CPM_WAKEF.WAKEF
      ((s.writeFields r i (idleMask r v)).rd CPM_WAKEF.WAKEF - 2 ^ (d.val - 1)) := by
  unfold State.domainRestore
  rw [if_neg (by simp [awaits]), word]
  dsimp only [List.foldl_cons, List.foldl_nil]
  rw [if_pos mine, found]

theorem exec_domainGate (s : State) (b : Bool) : exec (.domainGate d b) s = .next (s.calm.domainGate d.val b).settled := rfl
theorem exec_drainAbort (s : State) (n : Fin 65536) : exec (.drainAbort d n) s = .next (s.calm.drainAbort d.val n.val).settled := rfl
theorem exec_domainWake (s : State) : exec (.domainWake d) s = .next (s.domainWake d.val) := rfl
theorem exec_domainRestore (s : State) : exec (.domainRestore d) s = .next (s.domainRestore d.val) := rfl

end Gating

/-- Settles O44: gating by its condition, the registers of a gated domain, what remains of a drain, waking and the restore. -/
theorem powerDomains : Obligations.PowerDomains := by
  refine ⟨fun s d running enabled on idle => ⟨?drains, fun none => ?gates⟩, fun s d b refused => ?refused,
    fun s d r i f mine field => ⟨fun cleared => State.rd_atReset (State.domainReset_cleared mine field cleared), State.domainReset_held⟩,
    fun s d n => ⟨fun other => ?other, fun drains entering zero => ?entering, fun drains entering some noUsb => ?aborted,
      fun drains running zero none => ?off⟩,
    fun s d => ⟨fun other => ?awake, fun gated => ?wakes, fun not => ?notAwaited, fun awaits empty => ?emptyImage,
      fun a v r i awaits word mine found => ?word⟩⟩
  case drains =>
    rw [exec_domainGate, State.domainGate_drains (s := s.calm) d false running enabled on idle]
    exact congrArg Host.Outcome.next (State.settled_of_quiet _ rfl)
  case gates =>
    rw [exec_domainGate, State.domainGate_drains (s := s.calm) d true running enabled on idle, if_pos rfl,
      State.domainOff_unheld fun h m => (State.domainOf_drainStart (s := s.calm) d h.addr).trans_ne (none h m)]
    rfl
  case refused =>
    rw [exec_domainGate, State.domainGate_refused (s := s.calm) d b refused, State.settled_of_quiet _ rfl]
  case other => rw [exec_drainAbort, State.drainAbort_other (s := s.calm) d n.val other, State.settled_of_quiet _ rfl]
  case entering =>
    rw [exec_drainAbort, zero, State.drainAbort_none (s := s.calm) d drains, if_pos (show s.calm.chip.phase = _ from entering),
      State.settled_of_quiet _ rfl]
  case aborted => rw [exec_drainAbort, State.drainAbort_entering (s := s.calm) d drains some noUsb entering]
  case off =>
    rw [exec_drainAbort, zero, State.drainAbort_none (s := s.calm) d drains, if_neg (by rw [show s.calm.chip.phase = _ from running]; decide),
      State.domainOff_unheld (s := s.calm) none]
  case awake => rw [exec_domainWake, State.domainWake_other d other]
  case wakes => rw [exec_domainWake, State.domainWake_gated d gated]
  case notAwaited => rw [exec_domainRestore, State.domainRestore_not d not]
  case emptyImage => rw [exec_domainRestore, State.domainRestore_empty d awaits empty]
  case word => rw [exec_domainRestore, State.domainRestore_word d awaits word mine found]

end Sys2Proof.Machine

/-! BOOT_CMD and pushes (R408, R409, R412, R413, R420). -/

namespace Sys2Proof.Machine

section BootOps

variable (s : State)

/-- A BOOT_CMD op that fails its checks (R420). -/
theorem State.bootCmd_refused {op status : Nat} (refused : firstStatus (s.bootChecks op) = status) (bad : status ≠ St.OK) :
    s.bootCmd op = s.answer status := by
  unfold State.bootCmd
  rw [State.checked_fail _ _ _ (refused ▸ bad), refused]

variable {s}

/-- The ops that ask for nothing but the arm: CONFIRM, RESET and SVN_RAISE (R420). -/
theorem State.bootChecks_armed {op : Nat} (plain : op = 1 ∨ op = 2 ∨ op = 4) :
    firstStatus (s.bootChecks op) = if s.on BOOT_STATUS.ARM then St.OK else St.AUTH := by
  unfold State.bootChecks
  obtain rfl | rfl | rfl := plain <;> cases s.on BOOT_STATUS.ARM <;> rfl

/-- BIDWRITE: the life cycle, the arm, the record and the room for it, in the order of R10 (R409, R420). -/
theorem State.bootChecks_bidwrite : firstStatus (s.bootChecks 5) =
    if s.lc ≠ 1 ∧ s.lc ≠ 2 then St.LIFECYCLE else if s.on BOOT_STATUS.ARM = false then St.AUTH else if bidBad s.bidBuf then St.VALUE
    else if 4 ≤ s.rd BOOT_BIDSTAT.USED then St.NOSPACE else St.OK := by
  have lifeCycle : ((s.lc != 1) && s.lc != 2) = decide (s.lc ≠ 1 ∧ s.lc ≠ 2) := by rw [Bool.eq_iff_iff]; simp
  have fields : Reg.BOOT_CMD.reservedSet 5 = false ∧ BOOT_CMD.OP.of 5 = 5 := by decide
  unfold State.bootChecks
  rw [fields.1, fields.2]
  simp only [beq_self_eq_true, Bool.true_and, lifeCycle]
  by_cases barred : s.lc ≠ 1 ∧ s.lc ≠ 2
  · rw [if_pos barred, decide_eq_true barred]
    rfl
  · rw [if_neg barred, decide_eq_false barred]
    cases s.on BOOT_STATUS.ARM
    · rfl
    · cases bidBad s.bidBuf
      · by_cases full : 4 ≤ s.rd BOOT_BIDSTAT.USED
        · rw [decide_eq_true full, if_pos full]
          rfl
        · rw [decide_eq_false full, if_neg full]
          rfl
      · rfl

/-- TEST: the life cycle, then the arm (R412, R420). -/
theorem State.bootChecks_test : firstStatus (s.bootChecks 6) =
    if s.lc ≠ 1 ∧ s.lc ≠ 3 then St.LIFECYCLE else if s.on BOOT_STATUS.ARM then St.OK else St.AUTH := by
  have lifeCycle : ((s.lc != 1) && s.lc != 3) = decide (s.lc ≠ 1 ∧ s.lc ≠ 3) := by rw [Bool.eq_iff_iff]; simp
  have fields : Reg.BOOT_CMD.reservedSet 6 = false ∧ BOOT_CMD.OP.of 6 = 6 := by decide
  unfold State.bootChecks
  rw [fields.1, fields.2]
  simp only [beq_self_eq_true, Bool.true_and, lifeCycle]
  by_cases barred : s.lc ≠ 1 ∧ s.lc ≠ 3
  · rw [if_pos barred, decide_eq_true barred]
    rfl
  · rw [if_neg barred, decide_eq_false barred]
    cases s.on BOOT_STATUS.ARM <;> rfl

/-- LOAD: the life cycle, then an open push (R408, R412). -/
theorem State.bootChecks_load : firstStatus (s.bootChecks 3) =
    if s.lc = 4 then St.LIFECYCLE else if s.on BOOT_STATUS.PUSHWAIT then St.OK else St.STATE := by
  have fields : Reg.BOOT_CMD.reservedSet 3 = false ∧ BOOT_CMD.OP.of 3 = 3 := by decide
  unfold State.bootChecks
  rw [fields.1, fields.2]
  by_cases ended : s.lc = 4
  · rw [if_pos ended, ended]
    rfl
  · have lifeCycle : (s.lc == 4) = false := beq_eq_false_iff_ne.mpr ended
    rw [if_neg ended, lifeCycle]
    cases s.on BOOT_STATUS.PUSHWAIT <;> rfl

/-- What an op does once its checks have passed. -/
theorem State.bootCmd_ok {op : Nat} (passes : firstStatus (s.bootChecks op) = St.OK) : s.bootCmd op =
    match BOOT_CMD.OP.of op with
    | 1 => (s.wr BOOT_STATUS.ARM 0).bootConfirm.answer St.OK
    | 2 => ((s.wr BOOT_STATUS.ARM 0).answer St.OK).enterReset 2 false
    | 3 => s.bootLoad
    | 4 => ((s.wr BOOT_STATUS.ARM 0).wr BOOT_SVN.FLOOR (max (s.rd BOOT_SVN.FLOOR) (s.rd BOOT_SVN.RUN_SVN))).answer St.OK
    | 5 => (s.wr BOOT_STATUS.ARM 0).bidWrite.answer St.OK
    | _ => ((s.wr BOOT_STATUS.ARM 0).answer St.OK).enterReset 2 true := by
  unfold State.bootCmd
  exact State.checked_ok _ _ _ passes

/-- CONFIRM outside a trial changes nothing; in one, the running generation becomes the confirmed one (R413). -/
theorem State.bootConfirm_unarmed : (s.wr BOOT_STATUS.ARM 0).bootConfirm = if s.on BOOT_STATUS.TRIAL then
    (((((s.wr BOOT_STATUS.ARM 0).wr BOOT_CONF_LO.GEN (s.rd BOOT_GEN_LO.GEN)).wr BOOT_CONF_HI.GEN (s.rd BOOT_GEN_HI.GEN)).wr
      BOOT_ZSTATE.TRIES 0).wr BOOT_STATUS.TRIAL 0) else s.wr BOOT_STATUS.ARM 0 := by
  unfold State.bootConfirm
  rw [State.on_wr_ne _ _ _ _ _ _ (by decide), State.rd_wr_ne _ _ _ _ _ _ (by decide), State.rd_wr_ne _ _ _ _ _ _ (by decide)]

theorem State.bidBuf_wr (f : Field) (v i : Nat) (other : f.id ≠ BOOT_BIDBUF.WORD.id) : (s.wr f v i).bidBuf = s.bidBuf :=
  List.flatMap_congr fun _ _ => congrArg (le 4) (State.rd_wr_ne _ _ _ _ _ _ other)

theorem State.bidWrite_unarmed : (s.wr BOOT_STATUS.ARM 0).bidWrite =
    ((s.wr BOOT_STATUS.ARM 0).modChip (fun c => { c with bids := c.bids ++ [s.bidBuf] })).wr BOOT_BIDSTAT.USED (s.rd BOOT_BIDSTAT.USED + 1) := by
  unfold State.bidWrite
  rw [State.bidBuf_wr _ _ _ (by decide), State.rd_wr_ne _ _ _ _ _ _ (by decide)]

end BootOps

section Push

variable {s : State}

/-- The image that has been pushed is taken (R408, R412). -/
def State.pushTaken (s : State) : State :=
  ((s.wr BOOT_STATUS.PUSHWAIT 0).wr BOOT_STATUS.STATUS 0).bringImage 2 (pushBytes s.chip.push 0 s.chip.push.length)

theorem State.bootLoad_open (lives : s.lc ≠ 4) (waits : s.on BOOT_STATUS.PUSHWAIT = true) : s.bootLoad =
    if s.pushTaken.on BOOT_STATUS.PUSHWAIT then s.pushTaken.answer (s.pushTaken.rd BOOT_STATUS.STATUS)
    else (if s.rd BOOT_STATUS.STATUS = 0 then s.pushTaken else s.pushTaken.wr BOOT_STATUS.STATUS (s.rd BOOT_STATUS.STATUS)).answer St.OK := by
  have lifeCycle : (s.lc == 4) = false := beq_eq_false_iff_ne.mpr lives
  unfold State.bootLoad
  rw [State.checked_ok _ _ _ (by rw [lifeCycle, waits]; rfl)]
  rfl

theorem State.pushWrite_closed (data : Nat) (closed : s.on BOOT_STATUS.PUSHWAIT = false) : s.pushWrite data = s.answer St.STATE := by
  have refused : firstStatus [(St.STATE, !s.on BOOT_STATUS.PUSHWAIT), (St.RANGE, s.chip.pushFull)] = St.STATE := by
    rw [closed]
    rfl
  unfold State.pushWrite
  rw [State.checked_fail _ _ _ (by rw [refused]; decide), refused]

theorem State.pushWrite_full (data : Nat) (waits : s.on BOOT_STATUS.PUSHWAIT = true) (full : s.chip.pushFull = true) :
    s.pushWrite data = s.answer St.RANGE := by
  have refused : firstStatus [(St.STATE, !s.on BOOT_STATUS.PUSHWAIT), (St.RANGE, s.chip.pushFull)] = St.RANGE := by
    rw [waits, full]
    rfl
  unfold State.pushWrite
  rw [State.checked_fail _ _ _ (by rw [refused]; decide), refused]

theorem State.pushWrite_room (data : Word) (waits : s.on BOOT_STATUS.PUSHWAIT = true) (room : s.chip.pushFull = false) : s.pushWrite data.toNat =
    ((s.modChip (fun c => { c with push := NMap.set c.push 0 (s.rd BOOT_PUSHPTR.PTR / 4) (data.toNat + 1), pushFull := s.rd BOOT_PUSHPTR.PTR == 0xFFFFFC })).wr
      BOOT_PUSHPTR.PTR (s.rd BOOT_PUSHPTR.PTR + 4)).answer St.OK := by
  unfold State.pushWrite
  rw [State.checked_ok _ _ _ (by rw [waits, room]; rfl), Nat.mod_eq_of_lt data.isLt]

end Push

section BootCmd

variable (s : State) (serves : s.serves Reg.BOOT_CMD.base true)
include serves

theorem State.bootOp_serves (op : Nat) : s.bootOp op = s.bootCmd op := State.access_serves s _ true _ serves

/-- An op of BOOT_CMD that is refused (R420). -/
theorem State.bootOp_refused {op status : Nat} (refused : firstStatus (s.bootChecks op) = status) (bad : status ≠ St.OK) :
    (Host.Outcome.next (s.bootOp op) : Res) = .next (s.answer status) := by
  rw [s.bootOp_serves serves, s.bootCmd_refused refused bad]

theorem State.bootOp_acts {op : Nat} {t : State} (acts : s.bootCmd op = t) :
    (Host.Outcome.next (s.bootOp op) : Res) = .next t := by
  rw [s.bootOp_serves serves, acts]

end BootCmd

theorem exec_confirm (s : State) : exec .confirm s = .next (s.bootOp 1) := rfl
theorem exec_reset (s : State) : exec .reset s = .next (s.bootOp 2) := rfl
theorem exec_load (s : State) : exec .load s = .next (s.calm.bootOp 3).settled := rfl
theorem exec_svnRaise (s : State) : exec .svnRaise s = .next (s.bootOp 4) := rfl
theorem exec_bidwrite (s : State) : exec .bidwrite s = .next (s.bootOp 5) := rfl
theorem exec_test (s : State) : exec .test s = .next (s.bootOp 6) := rfl
theorem exec_pushWrite (s : State) (data : Word) :
    exec (.pushWrite data) s = .next (s.access Reg.BOOT_PUSHDATA.base true (fun s => s.pushWrite data.toNat)) := rfl

/-- A LOAD that is refused tells the other blocks nothing. -/
theorem exec_load_refused {s : State} {status : Nat} (serves : s.serves Reg.BOOT_CMD.base true) (refused : firstStatus (s.calm.bootChecks 3) = status)
    (bad : status ≠ St.OK) : exec .load s = .next (s.calm.answer status) := by
  rw [exec_load, s.calm.bootOp_serves serves, s.calm.bootCmd_refused refused bad, State.settled_of_quiet _ rfl]

/-- Settles O49: the unarmed ops, the armed ones, those outside their life-cycle states with LOAD, and the pushed words. -/
theorem bootCommands : Obligations.BootCommands := by
  refine ⟨fun s serves unarmed => ⟨?confirmAuth, ?resetAuth, ?svnAuth, fun lc => ?bidAuth, fun lc => ?testAuth⟩,
    fun s serves armed => ⟨fun trial => ?confirm, fun noTrial => ?noTrial, ?reset, ?svn, fun lc => ?test, fun lc bad => ?bidBad,
      fun lc good full => ?bidFull, fun lc good room => ?bid⟩,
    fun s serves => ⟨fun n1 n2 => ?bidBarred, fun n1 n3 => ?testBarred, fun ended => ?loadEnded, fun lives closed => ?loadClosed,
      fun lives waits => ?load⟩,
    fun s data serves => ⟨fun closed => ?pushClosed, fun waits full => ?pushFull, fun waits room => ?push⟩, fun s => rfl⟩
  case confirmAuth => exact s.bootOp_refused serves (by rw [State.bootChecks_armed (.inl rfl), unarmed]; rfl) (by decide)
  case resetAuth => exact s.bootOp_refused serves (by rw [State.bootChecks_armed (.inr (.inl rfl)), unarmed]; rfl) (by decide)
  case svnAuth => exact s.bootOp_refused serves (by rw [State.bootChecks_armed (.inr (.inr rfl)), unarmed]; rfl) (by decide)
  case bidAuth => exact s.bootOp_refused serves (by rw [State.bootChecks_bidwrite, if_neg (by omega), if_pos unarmed]) (by decide)
  case testAuth => exact s.bootOp_refused serves (by rw [State.bootChecks_test, if_neg (by omega), unarmed]; rfl) (by decide)
  case confirm =>
    have passes : firstStatus (s.bootChecks 1) = St.OK := by rw [State.bootChecks_armed (.inl rfl), if_pos armed]
    refine s.bootOp_acts serves ((State.bootCmd_ok passes).trans (congrArg (State.answer · St.OK) ?_))
    rw [State.bootConfirm_unarmed, if_pos trial]
  case noTrial =>
    have passes : firstStatus (s.bootChecks 1) = St.OK := by rw [State.bootChecks_armed (.inl rfl), if_pos armed]
    refine s.bootOp_acts serves ((State.bootCmd_ok passes).trans (congrArg (State.answer · St.OK) ?_))
    rw [State.bootConfirm_unarmed, if_neg (by simp [noTrial])]
  case reset =>
    have passes : firstStatus (s.bootChecks 2) = St.OK := by rw [State.bootChecks_armed (.inr (.inl rfl)), if_pos armed]
    exact s.bootOp_acts serves (State.bootCmd_ok passes)
  case svn =>
    have passes : firstStatus (s.bootChecks 4) = St.OK := by rw [State.bootChecks_armed (.inr (.inr rfl)), if_pos armed]
    exact s.bootOp_acts serves (State.bootCmd_ok passes)
  case test =>
    have passes : firstStatus (s.bootChecks 6) = St.OK := by rw [State.bootChecks_test, if_neg (by omega), if_pos armed]
    exact s.bootOp_acts serves (State.bootCmd_ok passes)
  case bidBad =>
    exact s.bootOp_refused serves (by rw [State.bootChecks_bidwrite, if_neg (by omega), if_neg (by simp [armed]), if_pos bad]) (by decide)
  case bidFull =>
    refine s.bootOp_refused serves ?_ (by decide)
    rw [State.bootChecks_bidwrite, if_neg (by omega), if_neg (by simp [armed]), if_neg (by simp [good]), if_pos full]
  case bid =>
    have passes : firstStatus (s.bootChecks 5) = St.OK := by
      rw [State.bootChecks_bidwrite, if_neg (by omega), if_neg (by simp [armed]), if_neg (by simp [good]), if_neg (by omega)]
    exact s.bootOp_acts serves ((State.bootCmd_ok passes).trans (congrArg (State.answer · St.OK) State.bidWrite_unarmed))
  case bidBarred => exact s.bootOp_refused serves (by rw [State.bootChecks_bidwrite, if_pos ⟨n1, n2⟩]) (by decide)
  case testBarred => exact s.bootOp_refused serves (by rw [State.bootChecks_test, if_pos ⟨n1, n3⟩]) (by decide)
  case loadEnded => exact exec_load_refused serves (State.bootChecks_load.trans (if_pos ended)) (by decide)
  case loadClosed =>
    refine exec_load_refused serves (State.bootChecks_load.trans ((if_neg lives).trans (if_neg ?_))) (by decide)
    exact fun open_ => Bool.noConfusion (closed.symm.trans open_)
  case load =>
    have passes : firstStatus (s.calm.bootChecks 3) = St.OK := State.bootChecks_load.trans ((if_neg lives).trans (if_pos waits))
    rw [exec_load, s.calm.bootOp_serves serves, State.bootCmd_ok passes]
    exact congrArg (fun t => Host.Outcome.next (State.settled t)) (State.bootLoad_open (s := s.calm) lives waits)
  case pushClosed => rw [exec_pushWrite, State.access_serves s _ true _ serves, State.pushWrite_closed _ closed]
  case pushFull => rw [exec_pushWrite, State.access_serves s _ true _ serves, State.pushWrite_full _ waits full]
  case push => rw [exec_pushWrite, State.access_serves s _ true _ serves, State.pushWrite_room data waits room]

end Sys2Proof.Machine

/-! A register with a rule of its own (R5), and debug access: unlock, the test-multiplexer pins and JTAG (R502 to R505). -/

namespace Sys2Proof.Machine

section OwnRules

/-- Address `a` names copy `i` of register `d`, whose writes have the rule `f`. -/
structure RuledReg (a : Nat) (d : RegDesc) (i : Nat) (f : WriteOp) : Prop where
  aligned : a % 4 = 0
  noWindow : findWindow a = none
  found : findReg a = some (d, i)
  rule : allWrites.lookup d.base = some f
  notCmd : a ≠ Reg.BOOT_CMD.base
  notPush : a ≠ Reg.BOOT_PUSHDATA.base
  notUsb : inUsb a = false
  notPwp : inPwp a = false

variable {a i : Nat} {d : RegDesc} {f : WriteOp}

theorem RuledReg.mgmtWrite (p : RuledReg a d i f) (s : State) (hit data : Nat) (h : s.serves a true) : s.mgmtWrite hit a data = f s i data := by
  have good : badAddr a = false := by simp [badAddr, p.aligned, p.found]
  unfold State.mgmtWrite
  rw [good, State.addrAccess_serves s a true _ h, not_inScratch_of_findWindow_none a p.noWindow, if_neg (by simp)]
  simp [State.writeAt, p.notCmd, p.notPush, State.coreWrite, p.aligned, p.noWindow, p.found, p.notUsb, p.notPwp, State.regWrite, p.rule]

theorem RuledReg.exec_registerWrite {addr : Word} (p : RuledReg addr.toNat d i f) (s : State) (data : Word) (hit : Fin 3)
    (h : s.serves addr.toNat true) : exec (.registerWrite addr data hit) s = .next (f s.calm i data.toNat).settled :=
  congrArg (fun t => Host.Outcome.next (State.settled t)) (p.mgmtWrite s.calm hit.val data.toNat h)

end OwnRules

section DebugLock

variable (s : State)

theorem State.onlyRegs_debugLock : s.onlyRegs s.debugLock [(DBG_STATUS.DBG_TMUX, 0), (DBG_STATUS.DBG_JTAG, 0), (DBG_STATUS.REMAIN, 0)] :=
  State.onlyRegs_wr (State.onlyRegs_wr (State.onlyRegs_wr (s.onlyRegs_refl _) _ 0 0 (by simp)) _ 0 0 (by simp)) _ 0 0 (by simp)

theorem State.rd_debugLock : s.debugLock.rd DBG_STATUS.DBG_TMUX = 0 ∧ s.debugLock.rd DBG_STATUS.DBG_JTAG = 0 ∧ s.debugLock.rd DBG_STATUS.REMAIN = 0 := by
  unfold State.debugLock
  refine ⟨?_, ?_, State.rd_wr_same ..⟩
  · rw [State.rd_wr_ne _ _ _ _ _ _ (by decide), State.rd_wr_ne _ _ _ _ _ _ (by decide), State.rd_wr_same, Nat.zero_mod]
  · rw [State.rd_wr_ne _ _ _ _ _ _ (by decide), State.rd_wr_same, Nat.zero_mod]

/-- A command uses up the nonce in force, whatever its result (R462). -/
theorem State.nonce_tokenUsed (status : Nat) : (s.tokenUsed status).sec.nonce = false := by
  unfold State.tokenUsed
  dsimp only
  split
  · exact congrArg Sec.nonce (State.part_raiseOnce (s.modSec (fun c => { c with nonce := false })) State.sec (fun _ => rfl) ..)
  · rfl

end DebugLock

section Unlock

variable (s : State)

/-- The word of an unlock token: its bits and its duration (R505). -/
def State.unlockWord (s : State) : Nat := leAt (tokenBody s.tokenBytes) 0 4

/-- The token's body is one word without reserved bits (R505). -/
abbrev State.unlockSized (s : State) : Prop := tokenReserved s.tokenBytes = false ∧ (tokenBody s.tokenBytes).length = 4 ∧
  bits s.unlockWord 17 7 = 0 ∧ bits s.unlockWord 26 6 = 0

/-- The checks of UNLOCK (R505). -/
def State.unlockChecks (s : State) : List (Nat × Bool) :=
  [(St.LIFECYCLE, s.lc != 2), (St.AUTH, s.tokenBad 0x20 1 s.tokenBytes),
   (St.VALUE, tokenReserved s.tokenBytes || (tokenBody s.tokenBytes).length != 4 || bits s.unlockWord 17 7 != 0 || bits s.unlockWord 26 6 != 0),
   (St.RANGE, s.unlockWord % 2 ^ 17 == 0 || decide (86400 < s.unlockWord % 2 ^ 17))]

theorem firstStatus_unlock (lifeCycle auth value range : Bool) :
    firstStatus [(St.LIFECYCLE, lifeCycle), (St.AUTH, auth), (St.VALUE, value), (St.RANGE, range)] =
      if lifeCycle then St.LIFECYCLE else if auth then St.AUTH else if value then St.VALUE else if range then St.RANGE else St.OK := by
  cases lifeCycle <;> cases auth <;> cases value <;> cases range <;> rfl

/-- The status of UNLOCK, by what its checks find. -/
theorem State.firstStatus_unlockChecks : firstStatus s.unlockChecks =
    if s.lc ≠ 2 then St.LIFECYCLE else if s.tokenBad 0x20 1 s.tokenBytes = true then St.AUTH else if ¬s.unlockSized then St.VALUE
    else if s.unlockWord % 2 ^ 17 = 0 ∨ 86400 < s.unlockWord % 2 ^ 17 then St.RANGE else St.OK := by
  unfold State.unlockChecks
  rw [firstStatus_unlock]
  simp only [State.unlockSized, bne_iff_ne, Bool.or_eq_true, beq_iff_eq, decide_eq_true_eq, ne_eq, not_and_or, or_assoc,
    Bool.not_eq_false]

/-- What a good token does: it sets the bits it grants and starts their duration (R505). -/
def State.unlockGranted (s : State) : State :=
  ((((((s.tokenUsed St.OK).wr DBG_STATUS.DBG_TMUX (s.unlockWord / 2 ^ 24 % 2)).wr DBG_STATUS.DBG_JTAG (s.unlockWord / 2 ^ 25 % 2)).wr
    DBG_STATUS.REMAIN (s.unlockWord % 2 ^ 17)).modSec (fun c => { c with dbgTime := s.unlockWord % 2 ^ 17, dbgAt := s.timeAtSlot0 })).raise
      0x3FE).answer St.OK

theorem bitAt_toNat (v k : Nat) : (if bitAt v k then 1 else 0) = v / 2 ^ k % 2 := by
  unfold bitAt
  obtain h | h := Nat.mod_two_eq_zero_or_one (v / 2 ^ k) <;> simp [h]

theorem State.dbgCmd_checked (status : Nat) (found : firstStatus s.unlockChecks = status) : s.dbgCmd 1 =
    if status ≠ St.OK then (s.tokenUsed status).answer status else
      ((((((s.tokenUsed status).setBit DBG_STATUS.DBG_TMUX (bitAt s.unlockWord 24)).setBit DBG_STATUS.DBG_JTAG (bitAt s.unlockWord 25)).wr
        DBG_STATUS.REMAIN (s.unlockWord % 2 ^ 17)).modSec (fun c =>
          { c with dbgTime := s.unlockWord % 2 ^ 17, dbgAt := (s.tokenUsed status).timeAtSlot0 })).raise 0x3FE).answer St.OK := by
  subst found
  unfold State.dbgCmd
  rw [if_neg (by decide), if_neg (by decide)]
  rfl

/-- UNLOCK with a token that fails a check answers its status, and uses up the nonce. -/
theorem State.dbgCmd_refused {status : Nat} (refused : firstStatus s.unlockChecks = status) (bad : status ≠ St.OK) :
    s.dbgCmd 1 = (s.tokenUsed status).answer status := (s.dbgCmd_checked status refused).trans (if_pos bad)

theorem State.dbgCmd_granted (passes : firstStatus s.unlockChecks = St.OK) : s.dbgCmd 1 = s.unlockGranted := by
  refine (s.dbgCmd_checked St.OK passes).trans ((if_neg (fun h => h rfl)).trans ?_)
  unfold State.unlockGranted State.setBit
  rw [bitAt_toNat, bitAt_toNat]
  rfl

theorem exec_unlock (serves : s.serves Reg.DBG_CMD.base true) : exec .unlock s = .next (s.dbgCmd 1) :=
  congrArg Host.Outcome.next (State.access_serves s _ true _ serves)

theorem State.exec_unlock_refused (serves : s.serves Reg.DBG_CMD.base true) {status : Nat} (refused : firstStatus s.unlockChecks = status)
    (bad : status ≠ St.OK) : exec .unlock s = .next ((s.tokenUsed status).answer status) :=
  (exec_unlock s serves).trans (congrArg Host.Outcome.next (s.dbgCmd_refused refused bad))

theorem exec_lock (serves : s.serves Reg.DBG_CMD.base true) : exec .lock s = .next (s.debugLock.answer St.OK) :=
  congrArg Host.Outcome.next (State.access_serves s _ true _ serves)

theorem exec_debugUnlockExpire : exec .debugUnlockExpire s = .next s.debugLock := rfl
theorem exec_jtagInstruction (i : Fin 9) : exec (.jtagInstruction i) s = .next (s.jtagLoad i.val) := rfl

end Unlock

section TestPins

variable (s : State)

theorem ruled_tmsel : RuledReg Reg.DBG_TMSEL.base Reg.DBG_TMSEL 0 (fun s _ data => s.tmselWrite data) := by
  exact { aligned := rfl, noWindow := by decide +kernel, found := by decide +kernel, rule := rfl, notCmd := by decide, notPush := by decide,
          notUsb := by decide +kernel, notPwp := by decide +kernel }

theorem State.tmuxAllowed_iff : s.tmuxAllowed = true ↔ s.lc = 1 ∨ s.lc = 3 ∨ (s.lc = 2 ∧ s.on DBG_STATUS.DBG_TMUX = true) := by
  simp [State.tmuxAllowed, or_assoc]

theorem firstStatus_lifeCycle (b : Bool) : firstStatus [(St.LIFECYCLE, b)] = if b then St.LIFECYCLE else St.OK := by cases b <;> rfl

theorem bits_word_top (data : Word) : DBG_TMSEL.TM_EN.of data.toNat = data.toNat / 2 ^ 31 := by
  have := data.isLt
  show data.toNat / 2 ^ 31 % 2 ^ 1 = _
  omega

/-- A field that may hold every value of its width is never out of range. -/
theorem Field.outOfRange_full (f : Field) (data : Nat) (low : f.lo = 0) (high : f.hi + 1 = 2 ^ f.width) : f.outOfRange data = false := by
  have fits : f.of data < 2 ^ f.width := Nat.mod_lt _ (Nat.two_pow_pos _)
  simp [Field.outOfRange, low]
  omega

section Tmsel

variable {s : State} {data : Word} (clean : Reg.DBG_TMSEL.reservedSet data.toNat = false)
include clean

/-- No check but that of the reserved bits and that of R504 concerns `DBG_TMSEL`. -/
theorem State.firstStatus_tmsel : firstStatus (s.writeChecks Reg.DBG_TMSEL 0 data.toNat) = St.OK := by
  have inRange : Reg.DBG_TMSEL.fields.any (fun f => f.outOfRange data.toNat) = false := by
    simp [Reg.DBG_TMSEL, Field.outOfRange_full DBG_TMSEL.GROUP _ rfl rfl, Field.outOfRange_full DBG_TMSEL.TM_EN _ rfl rfl]
  rw [State.firstStatus_writeChecks, clean, inRange]
  rfl

theorem State.tmselWrite_refused (enables : data.toNat / 2 ^ 31 = 1) (barred : s.tmuxAllowed = false) :
    s.tmselWrite data.toNat = s.answer St.LIFECYCLE := by
  have status : firstStatus [(St.LIFECYCLE, DBG_TMSEL.TM_EN.of data.toNat == 1 && !s.tmuxAllowed)] = St.LIFECYCLE := by
    rw [bits_word_top, enables, barred]
    rfl
  rw [State.tmselWrite, State.writeReg_ownFail (State.firstStatus_tmsel clean) _ (by rw [status]; decide), status]

/-- The pins show the group that has been written, and whether they are enabled (R503). -/
theorem State.tmselWrite_accepted (allowed : data.toNat / 2 ^ 31 = 0 ∨ s.tmuxAllowed = true) : s.tmselWrite data.toNat =
    (((s.wr DBG_TMSEL.GROUP (data.toNat % 256)).wr DBG_TMSEL.TM_EN (data.toNat / 2 ^ 31)).emit
      (.act "tmux" [data.toNat / 2 ^ 31, data.toNat % 256])).answer St.OK := by
  have status : firstStatus [(St.LIFECYCLE, DBG_TMSEL.TM_EN.of data.toNat == 1 && !s.tmuxAllowed)] = St.OK := by
    rw [bits_word_top]
    obtain off | free := allowed
    · rw [off]
      rfl
    · rw [free, Bool.not_true, Bool.and_false]
      rfl
  have group : DBG_TMSEL.GROUP.of data.toNat = data.toNat % 256 := by
    show data.toNat / 1 % 256 = _
    rw [Nat.div_one]
  have written : s.writeFields Reg.DBG_TMSEL 0 data.toNat =
      (s.wr DBG_TMSEL.GROUP (data.toNat % 256)).wr DBG_TMSEL.TM_EN (data.toNat / 2 ^ 31) := by
    rw [← group, ← bits_word_top]
    rfl
  have top : data.toNat / 2 ^ 31 % 2 ^ DBG_TMSEL.TM_EN.width = data.toNat / 2 ^ 31 := by
    have := data.isLt
    show _ % 2 ^ 1 = _
    omega
  have low : data.toNat % 256 % 2 ^ DBG_TMSEL.GROUP.width = data.toNat % 256 := Nat.mod_mod _ _
  rw [State.tmselWrite, State.writeReg_accepted (State.firstStatus_tmsel clean) _ status, written, State.rd_wr_same, State.rd_wr_ne _ _ _ _ _ _ (by decide), State.rd_wr_same, top, low]

end Tmsel

end TestPins

section Jtag

variable (s : State) (i : Nat)

theorem State.jtagLoad_other (j : Nat) (acts : s.jtagActs i = j) (other : j ≠ 1) :
    s.jtagLoad i = (s.modChip (fun c => { c with jtag := j })).emit (.act "jtag" [j]) := by
  unfold State.jtagLoad
  rw [acts]
  exact congrArg (fun d => State.emit _ (.act "jtag" (j :: d))) (if_neg other)

theorem State.jtagActs_boundary (low : 3 ≤ i) (high : i ≤ 7) : s.jtagActs i = if s.lc = 4 then 0 else i :=
  (if_neg (by omega)).trans (if_pos high)

theorem State.jtagActs_internal : s.jtagActs 8 = if s.lc = 1 ∨ s.lc = 3 ∨ (s.lc = 2 ∧ s.on DBG_STATUS.DBG_JTAG) then 8 else 0 := rfl

end Jtag

/-- Settles O60: UNLOCK and LOCK, the duration's end, the test-multiplexer pins, and the JTAG instructions. -/
theorem debugAccess : Obligations.DebugAccess := by
  refine ⟨fun s serves => ⟨fun lc => ?lifeCycle, fun lc auth => ?auth, fun lc auth (badBody : ¬s.unlockSized) => ?value,
    fun lc auth (sized : s.unlockSized) (range : s.unlockWord % 2 ^ 17 = 0 ∨ 86400 < s.unlockWord % 2 ^ 17) => ?range,
    fun lc auth (sized : s.unlockSized) low high => ?granted, s.nonce_tokenUsed, _, exec_lock s serves, ?tmux, ?jtag, ?remain, ?only⟩,
    fun s => ⟨_, exec_debugUnlockExpire s, s.rd_debugLock.1, s.rd_debugLock.2.1, s.onlyRegs_debugLock⟩,
    fun s addr data hit sel serves clean => ⟨fun enables barred => ?barred, fun allowed => ?pins⟩,
    fun s i => ⟨fun bypass => ?bypass, fun id => ?id, fun sample => ?sample, fun low high => ⟨fun lives => ?scan, fun ended => ?scanEnded⟩,
      fun internal => ⟨fun free => ?core, fun locked => ?coreLocked⟩⟩⟩
  case lifeCycle => exact s.exec_unlock_refused serves (s.firstStatus_unlockChecks.trans (if_pos lc)) (by decide)
  case auth =>
    refine s.exec_unlock_refused serves (s.firstStatus_unlockChecks.trans ?_) (by decide)
    rw [if_neg (not_not_intro lc), if_pos auth]
  case value =>
    refine s.exec_unlock_refused serves (s.firstStatus_unlockChecks.trans ?_) (by decide)
    rw [if_neg (not_not_intro lc), auth, if_neg Bool.false_ne_true, if_pos badBody]
  case range =>
    refine s.exec_unlock_refused serves (s.firstStatus_unlockChecks.trans ?_) (by decide)
    rw [if_neg (not_not_intro lc), auth, if_neg Bool.false_ne_true, if_neg (not_not_intro sized), if_pos range]
  case granted =>
    refine (exec_unlock s serves).trans (congrArg Host.Outcome.next (s.dbgCmd_granted (s.firstStatus_unlockChecks.trans ?_)))
    rw [if_neg (not_not_intro lc), auth, if_neg Bool.false_ne_true, if_neg (not_not_intro sized)]
    exact if_neg fun out => by
      obtain zero | above := out
      · exact absurd (zero ▸ low : 1 ≤ 0) (by decide)
      · exact absurd high (Nat.not_le.2 above)
  case tmux => exact s.rd_debugLock.1
  case jtag => exact s.rd_debugLock.2.1
  case remain => exact s.rd_debugLock.2.2
  case only => exact State.onlyAnswer_answer s.onlyRegs_debugLock _
  case barred =>
    have shut : s.calm.tmuxAllowed = false := Bool.eq_false_iff.2 fun allowed => barred (s.tmuxAllowed_iff.1 allowed)
    rw [(sel ▸ ruled_tmsel : RuledReg addr.toNat Reg.DBG_TMSEL 0 _).exec_registerWrite s data hit serves, State.tmselWrite_refused clean enables shut]
    exact congrArg Host.Outcome.next (State.settled_of_quiet _ rfl)
  case pins =>
    have free : data.toNat / 2 ^ 31 = 0 ∨ s.calm.tmuxAllowed = true := allowed.imp_right s.tmuxAllowed_iff.2
    refine ⟨_, ((sel ▸ ruled_tmsel : RuledReg addr.toNat Reg.DBG_TMSEL 0 _).exec_registerWrite s data hit serves).trans
      (congrArg Host.Outcome.next ((congrArg State.settled (State.tmselWrite_accepted clean free)).trans (State.settled_of_quiet _ rfl))), ?_⟩
    have keeps := State.keepsRegs_wr (State.keepsRegs_wr (s.keepsRegs_refl [(DBG_TMSEL.GROUP, 0), (DBG_TMSEL.TM_EN, 0)]) DBG_TMSEL.GROUP
      (data.toNat % 256) 0 (by simp)) DBG_TMSEL.TM_EN (data.toNat / 2 ^ 31) 0 (by simp)
    refine ⟨?_, ?_, List.append_assoc .., keeps⟩
    · rw [State.rd_answer, State.rd_emit, State.rd_wr_ne _ _ _ _ _ _ (by decide), State.rd_wr_same]
      exact Nat.mod_mod _ _
    · rw [State.rd_answer, State.rd_emit, State.rd_wr_same]
      exact Nat.mod_eq_of_lt (Nat.div_lt_of_lt_mul data.isLt)
  case bypass => exact congrArg Host.Outcome.next (s.jtagLoad_other _ _ (by rw [bypass]; rfl) (by decide))
  case id => exact congrArg Host.Outcome.next (by rw [id]; rfl)
  case sample => exact congrArg Host.Outcome.next (s.jtagLoad_other _ _ (by rw [sample]; rfl) (by decide))
  case scan =>
    exact congrArg Host.Outcome.next (s.jtagLoad_other _ _ ((s.jtagActs_boundary _ low high).trans (if_neg lives)) (by omega))
  case scanEnded =>
    exact congrArg Host.Outcome.next (s.jtagLoad_other _ _ ((s.jtagActs_boundary _ low high).trans (if_pos ended)) (by decide))
  case core =>
    exact congrArg Host.Outcome.next (s.jtagLoad_other _ _ (by rw [internal, s.jtagActs_internal, if_pos free]) (by decide))
  case coreLocked =>
    refine congrArg Host.Outcome.next (s.jtagLoad_other _ _ ?_ (by decide))
    rw [internal, s.jtagActs_internal, if_neg]
    obtain lc | lc | ⟨lc, shut⟩ := locked <;> simp [*]

end Sys2Proof.Machine

/-! The event unit: raising, the Event Queue and its readers (R442 to R447, R450). -/

namespace Sys2Proof.Machine

section Victim

theorem victimAt_first (m : EvMsg) (r : List EvMsg) (i : Nat) : victimAt (m :: r) none i = victimAt r (some (m.sev, i)) (i + 1) := rfl

theorem victimAt_next (m : EvMsg) (r : List EvMsg) (k : Nat × Nat) (i : Nat) :
    victimAt (m :: r) (some k) i = victimAt r (if m.sev ≤ k.1 then some (m.sev, i) else some k) (i + 1) := rfl

/-- A message of the lowest severity so far stays the one to displace while only higher ones follow. -/
theorem victimAt_of_higher (q : List EvMsg) (best : Nat × Nat) (i : Nat) (higher : ∀ x ∈ q, best.1 < x.sev) :
    victimAt q (some best) i = some best.2 := by
  induction q generalizing i with
  | nil => rfl
  | cons x r ih =>
    rw [victimAt_next, if_neg (Nat.not_le.2 (higher x List.mem_cons_self))]
    exact ih _ fun y hy => higher y (List.mem_cons_of_mem x hy)

/-- The message to displace is the youngest of the lowest severity (R444), once one of no lower severity has been met. -/
theorem victimAt_behind {v : EvMsg} {b : List EvMsg} (younger : ∀ x ∈ b, v.sev < x.sev) (a : List EvMsg) (older : ∀ x ∈ a, v.sev ≤ x.sev)
    (best : Nat × Nat) (notLower : v.sev ≤ best.1) (i : Nat) : victimAt (a ++ v :: b) (some best) i = some (i + a.length) := by
  induction a generalizing best i with
  | nil =>
    rw [List.nil_append, victimAt_next, if_pos notLower]
    exact victimAt_of_higher b _ _ younger
  | cons x r ih =>
    have rest (k : Nat × Nat) (h : v.sev ≤ k.1) : victimAt (r ++ v :: b) (some k) (i + 1) = some (i + (r.length + 1)) := by
      rw [ih (fun y hy => older y (List.mem_cons_of_mem x hy)) k h, Nat.add_right_comm, Nat.add_assoc]
    rw [List.cons_append, victimAt_next]
    split
    · exact rest _ (older x List.mem_cons_self)
    · exact rest _ notLower

theorem victimAt_eq {v : EvMsg} {a b : List EvMsg} (older : ∀ x ∈ a, v.sev ≤ x.sev) (younger : ∀ x ∈ b, v.sev < x.sev) :
    victimAt (a ++ v :: b) none 0 = some a.length := by
  cases a with
  | nil => exact victimAt_of_higher b _ _ younger
  | cons x r =>
    rw [List.cons_append, victimAt_first, victimAt_behind younger r (fun y hy => older y (List.mem_cons_of_mem x hy)) _ (older x List.mem_cons_self),
      Nat.zero_add, Nat.add_comm, List.length_cons]

end Victim

section Queue

variable (s : State)

@[simp] theorem State.evq_setEvq (q : List EvMsg) : (s.setEvq q).evq = q := by
  unfold State.setEvq
  dsimp only
  split
  · rfl
  · split
    · rfl
    · split <;> rfl

@[simp] theorem State.evSeq_setEvq (q : List EvMsg) : (s.setEvq q).evSeq = s.evSeq := by
  unfold State.setEvq
  dsimp only
  split
  · rfl
  · split
    · rfl
    · split <;> rfl

variable (id sev time cap : Nat)

/-- A message that its source has just sent (R443). -/
def State.newEvent : EvMsg := { seq := s.evSeq, id := id, sev := sev, time := time, cap := cap, complete := false }

theorem State.enqueue_room (room : s.evq.length < 64) : (s.enqueue id sev time cap).1.evq = s.evq ++ [s.newEvent id sev time cap] ∧
    (s.enqueue id sev time cap).1.evSeq = (s.evSeq + 1) % 65536 := by
  unfold State.enqueue
  dsimp only
  rw [if_pos room]
  exact ⟨State.evq_setEvq .., State.evSeq_setEvq ..⟩

/-- A full queue in which nothing is of lower severity loses the message (R444). -/
theorem State.enqueue_lost (full : 64 ≤ s.evq.length) (noLower : ∀ x ∈ s.evq, sev ≤ x.sev) :
    s.enqueue id sev time cap = ((s.bump EVU_LOST.COUNT).wr EVU_STATUS.OVF 1, false) := by
  unfold State.enqueue
  dsimp only
  rw [if_neg (Nat.not_lt.2 full)]
  split
  · rfl
  · rename_i v _
    refine if_neg (Nat.not_lt.2 ?_)
    rw [List.getD_eq_getElem?_getD]
    cases found : s.evq[v]? with
    | none => exact Nat.le_refl _
    | some x => exact noLower x (List.mem_of_getElem? found)

/-- A full queue gives up its youngest message of the lowest severity, if that is lower (R444). -/
theorem State.enqueue_displaces {a b : List EvMsg} {v : EvMsg} (full : 64 ≤ s.evq.length) (queue : s.evq = a ++ v :: b) (lower : v.sev < sev)
    (older : ∀ x ∈ a, v.sev ≤ x.sev) (younger : ∀ x ∈ b, v.sev < x.sev) : s.enqueue id sev time cap =
      (((({ s with evSeq := (s.evSeq + 1) % 65536 } : State).setEvq (a ++ b ++ [s.newEvent id sev time cap])).bump EVU_LOST.COUNT).wr
        EVU_STATUS.OVF 1, true) := by
  have victim : victimAt s.evq none 0 = some a.length := by
    rw [queue, victimAt_eq older younger]
  have isLower : (s.evq.getD a.length (s.newEvent id sev time cap)).sev < sev := by
    rw [queue]
    simpa using lower
  unfold State.enqueue
  dsimp only
  rw [if_neg (Nat.not_lt.2 full), victim]
  refine (if_pos isLower).trans ?_
  rw [queue, List.eraseIdx_append_of_length_le (Nat.le_refl _), Nat.sub_self]
  rfl

/-- Every message that a full queue loses is counted, and sets OVF (R444). -/
theorem State.enqueue_counts (full : 64 ≤ s.evq.length) :
    (s.enqueue id sev time cap).1.rd EVU_LOST.COUNT = satAdd EVU_LOST.COUNT.width (s.rd EVU_LOST.COUNT) 1 ∧
    (s.enqueue id sev time cap).1.rd EVU_STATUS.OVF = 1 := by
  have counted (t : State) (same : t.rd EVU_LOST.COUNT = s.rd EVU_LOST.COUNT) :
      ((t.bump EVU_LOST.COUNT).wr EVU_STATUS.OVF 1).rd EVU_LOST.COUNT = satAdd EVU_LOST.COUNT.width (s.rd EVU_LOST.COUNT) 1 ∧
      ((t.bump EVU_LOST.COUNT).wr EVU_STATUS.OVF 1).rd EVU_STATUS.OVF = 1 := by
    refine ⟨?_, State.rd_wr_same ..⟩
    rw [State.rd_wr_ne _ _ _ _ _ _ (by decide), State.rd_bump_satAdd, same]
  unfold State.enqueue
  dsimp only
  rw [if_neg (Nat.not_lt.2 full)]
  split
  · exact counted s rfl
  · split
    · exact counted _ (State.rd_setEvq _ _ _ _ (by decide) (by decide))
    · exact counted s rfl

end Queue

section Raising

variable (s : State) (id cap : Nat)

theorem State.queue_fatal (m : EvMsg) (entered : Bool) : (s.fatal m entered).evq = s.evq ∧ (s.fatal m entered).evSeq = s.evSeq := by
  unfold State.fatal
  split <;> exact ⟨rfl, rfl⟩

/-- The fatal capture leaves what a raising does to the queue and to the registers outside of it (R492). -/
theorem State.queue_raise : (s.raise id cap).evq = (s.raiseNoted id cap).1.evq ∧ (s.raise id cap).evSeq = (s.raiseNoted id cap).1.evSeq := by
  rw [State.raise_eq]
  split
  · exact State.queue_fatal ..
  · exact ⟨rfl, rfl⟩

theorem State.rd_raise_noted (f : Field) (i : Nat) (msg : DBG_FCAP.MSG.id ≠ f.id) (count : DBG_FCTL.FCOUNT.id ≠ f.id) :
    (s.raise id cap).rd f i = (s.raiseNoted id cap).1.rd f i := by
  rw [State.raise_eq]
  split
  · exact State.rd_fatal _ _ _ _ _ msg count
  · rfl

variable {s id}

theorem State.raiseNoted_repeat (raised : s.on EVU_SRC.STATUS id = true) : s.raiseNoted id cap = (s.drew.bump EVU_SRC.REPEAT id, false) := if_pos raised

variable (clear : s.on EVU_SRC.STATUS id = false)
include clear

theorem State.raiseNoted_disabled (disabled : s.on EVU_SRC.EN id = false) : s.raiseNoted id cap = (s.drew.wr EVU_SRC.STATUS 1 id, false) := by
  refine (if_neg (Bool.eq_false_iff.1 clear)).trans (if_neg ?_)
  rw [State.on_wr_ne _ _ _ _ _ _ (by decide)]
  exact Bool.eq_false_iff.1 disabled

theorem State.raiseNoted_enabled (enabled : s.on EVU_SRC.EN id = true) : s.raiseNoted id cap =
    (s.drew.wr EVU_SRC.STATUS 1 id).enqueue id (s.rd EVU_SRC.SEV id) s.now cap := by
  refine (if_neg (Bool.eq_false_iff.1 clear)).trans (if_pos ?_)
  rw [State.on_wr_ne _ _ _ _ _ _ (by decide)]
  exact enabled

theorem State.rd_raise_status : (s.raise id cap).rd EVU_SRC.STATUS id = 1 :=
  (s.raise_status id cap).resolve_left (Bool.eq_false_iff.1 clear)

end Raising

section Readers

/-- Every message but the best one is of lower severity, or as high and younger (R445). -/
def Best (b : EvMsg) (q : List EvMsg) : Prop :=
  ∃ x y, q = x ++ b :: y ∧ b.complete = true ∧ (∀ m, m ∈ x → m.complete = true → m.sev < b.sev) ∧ (∀ m, m ∈ y → m.complete = true → m.sev ≤ b.sev)

theorem bestEvent_append_falling (q : List EvMsg) {m : EvMsg} (falls : m.complete = false) : bestEvent (q ++ [m]) = bestEvent q := by
  unfold bestEvent
  rw [List.foldl_append]
  exact if_pos falls

/-- A message at the tail that has come to rest is the best one if it beats the one before it. -/
theorem bestEvent_append_complete (q : List EvMsg) {m : EvMsg} (rests : m.complete = true) :
    bestEvent (q ++ [m]) = some ((bestEvent q).elim m (fun b => if b.sev < m.sev then m else b)) := by
  have step : bestEvent (q ++ [m]) = match bestEvent q with
      | none => some m
      | some b => if m.before b then some m else bestEvent q := by
    unfold bestEvent
    rw [List.foldl_append]
    exact if_neg (Bool.not_eq_false _ ▸ rests)
  rw [step]
  cases bestEvent q with
  | none => rfl
  | some b => by_cases beats : b.sev < m.sev <;> simp [EvMsg.before, beats]

theorem bestEvent_eq_none_iff (q : List EvMsg) : bestEvent q = none ↔ ∀ m ∈ q, m.complete = false := by
  induction q using List.reverseRecOn with
  | nil => simp [bestEvent]
  | append_singleton q m ih =>
    cases complete : m.complete
    · simp [bestEvent_append_falling q complete, ih, complete, or_imp, forall_and]
    · simp [bestEvent_append_complete q complete, complete, or_imp, forall_and]

theorem bestEvent_best (q : List EvMsg) (b : EvMsg) (found : bestEvent q = some b) : Best b q := by
  induction q using List.reverseRecOn generalizing b with
  | nil => cases found
  | append_singleton q m ih =>
    cases complete : m.complete
    · rw [bestEvent_append_falling q complete] at found
      obtain ⟨x, y, rfl, rests, older, younger⟩ := ih b found
      refine ⟨x, y ++ [m], by simp, rests, older, fun k hk done => ?_⟩
      obtain hk | hk := List.mem_append.1 hk
      · exact younger k hk done
      · rw [List.mem_singleton.1 hk, complete] at done
        cases done
    · rw [bestEvent_append_complete q complete] at found
      cases before : bestEvent q with
      | none =>
        rw [before] at found
        obtain rfl : m = b := Option.some_inj.1 found
        have falling := (bestEvent_eq_none_iff q).1 before
        exact ⟨q, [], rfl, complete, fun k hk done => (Bool.noConfusion ((falling k hk).symm.trans done)), by simp⟩
      | some c =>
        obtain ⟨x, y, rfl, rests, older, younger⟩ := ih c before
        rw [before] at found
        by_cases beats : c.sev < m.sev
        · obtain rfl : m = b := by rw [← Option.some_inj, ← found]; simp [beats]
          refine ⟨x ++ c :: y, [], rfl, complete, fun k hk done => ?_, by simp⟩
          obtain hk | hk := List.mem_append.1 hk
          · exact (older k hk done).trans beats
          · obtain rfl | hk := List.mem_cons.1 hk
            · exact beats
            · exact (younger k hk done).trans_lt beats
        · obtain rfl : c = b := by rw [← Option.some_inj, ← found]; simp [beats]
          refine ⟨x, y ++ [m], by simp, rests, older, fun k hk done => ?_⟩
          obtain hk | hk := List.mem_append.1 hk
          · exact younger k hk done
          · rw [List.mem_singleton.1 hk]
            exact Nat.not_lt.1 beats

theorem State.evqWord_of_best {s : State} {b : EvMsg} (found : bestEvent s.evq = some b) :
    s.evqWord 0 = b.id % 1024 + 1024 * (b.sev % 4) + 32768 + 65536 * (b.seq % 65536) ∧ s.evqWord 1 = b.time % 2 ^ 32 := by
  unfold State.evqWord
  rw [found]
  exact ⟨rfl, rfl⟩

end Readers

section Commands

variable (s : State)

/-- Message `m` comes to rest (R444). -/
def State.rested (s : State) (m : EvMsg) : State :=
  s.setEvq (s.evq.map (fun x => if x.seq = m.seq ∧ x.complete = false then { x with complete := true } else x))

theorem State.eventArrive_idle (idle : ∀ m ∈ s.evq, m.complete = true) : s.eventArrive = s := by
  unfold State.eventArrive
  rw [takeFirst_eq_none _ _ (fun m hm => by rw [idle m hm]; rfl)]

theorem State.eventArrive_of_first {m : EvMsg} {r : List EvMsg} (first : takeFirst (fun x => !x.complete) s.evq = some (m, r)) : s.eventArrive =
    if s.rd BOOT_STATUS.MODE = 1 ∧ s.on EVU_CTRL.NOTIFY = true then
      (s.rested m).irqPulse.cirrusPost opEvent (s.rd EVU_CTRL.DEST) ((m.words false).flatMap (le 4))
    else s.rested m := by
  have mode : (s.rested m).rd BOOT_STATUS.MODE = s.rd BOOT_STATUS.MODE := State.rd_setEvq _ _ _ _ (by decide) (by decide)
  have notify : (s.rested m).on EVU_CTRL.NOTIFY = s.on EVU_CTRL.NOTIFY := State.on_of_rd (State.rd_setEvq _ _ _ _ (by decide) (by decide))
  have dest : (s.rested m).rd EVU_CTRL.DEST = s.rd EVU_CTRL.DEST := State.rd_setEvq _ _ _ _ (by decide) (by decide)
  unfold State.eventArrive
  rw [first, ← mode, ← notify, ← dest]
  rfl

theorem State.evqPop_unknown {data : Nat} (unknown : ∀ m ∈ s.evq, m.complete = true → m.seq ≠ EVU_EVQPOP.EVSEQ.of data) :
    s.evqPop data = s.answer St.VALUE := by
  have none : s.evq.find? (fun m => m.complete && m.seq == EVU_EVQPOP.EVSEQ.of data) = none :=
    List.find?_eq_none.2 fun m hm => by simpa using unknown m hm
  unfold State.evqPop
  dsimp only
  rw [none]

theorem State.evqPop_found {data : Nat} {m : EvMsg} (found : s.evq.find? (fun x => x.complete && x.seq == EVU_EVQPOP.EVSEQ.of data) = some m)
    (clean : Reg.EVU_EVQPOP.reservedSet data = false) : s.evqPop data =
      (if EVU_EVQPOP.CLR.of data = 1 then (s.setEvq (s.evq.filter (fun x => !(x.complete && x.seq == EVU_EVQPOP.EVSEQ.of data)))).wr EVU_SRC.STATUS 0 m.id
        else s.setEvq (s.evq.filter (fun x => !(x.complete && x.seq == EVU_EVQPOP.EVSEQ.of data)))).answer St.OK := by
  unfold State.evqPop
  dsimp only
  rw [found]
  exact if_neg (by rw [clean]; exact Bool.false_ne_true)

variable {s}

/-- Which fields a write of `EVU_SRC`(i) reaches, by the source's severity (R442, R450). -/
theorem State.evuSrcWrite_ok {i data : Nat} (passes : firstStatus (s.writeChecks Reg.EVU_SRC i data) = St.OK)
    {u : State} (acked : u = (s.writeField EVU_SRC.STATUS i data).writeField EVU_SRC.REPEAT i data) : s.evuSrcWrite i data =
      ((Ev.severity? i).elim u fun v =>
        if v = 3 then u.writeField EVU_SRC.EN i data else (u.writeField EVU_SRC.EN i data).writeField EVU_SRC.SEV i data).answer St.OK := by
  subst acked
  unfold State.evuSrcWrite
  rw [State.checked_ok _ _ _ passes]
  cases Ev.severity? i with
  | none => rfl
  | some v => rfl

theorem exec_eventArrival (s : State) : exec .eventArrival s = .next s.eventArrive := rfl

theorem exec_evqPop {s : State} (data : Word) (serves : s.serves Reg.EVU_EVQPOP.base true) :
    exec (.evqPop data) s = .next (s.evqPop data.toNat) := congrArg Host.Outcome.next (State.access_serves s _ true _ serves)

theorem exec_eventSourceClear {s : State} (i : Fin 1024) (data : Word) (serves : s.serves (Reg.EVU_SRC.addr i.val 0) true) :
    exec (.eventSourceClear i data) s = .next (s.evuSrcWrite i.val data.toNat) :=
  congrArg Host.Outcome.next (State.access_serves s _ true _ serves)

theorem exec_nirqPulseEnd (s : State) : exec .nirqPulseEnd s = .next (if s.chip.irq = false then s
    else if s.chip.owed = 0 then s.modChip (fun c => { c with irq := false })
    else (s.modChip (fun c => { c with owed := c.owed - 1 })).emit (.act "nIRQ" [])) := rfl

end Commands

/-- Settles O50: a raising by the source's state and the room in the queue, the arrival of a message, the queue's readers, pops, writes of
EVU_SRC, and the pulses. -/
theorem eventUnit : Obligations.EventUnit := by
  refine ⟨fun s i cap => ⟨fun raised => ?again, fun clear => ⟨State.rd_raise_status cap clear, fun off => ?disabled, fun en room => ?room,
      fun en full => ⟨?count, ?ovf, fun noLower => ?lost, fun a v b queue lower older younger => ?displaced⟩⟩,
      State.onlyEvents_raise (s.onlyEvents_refl _) _ _⟩,
    fun s => ⟨fun idle => ?idle, fun m r first => ⟨fun normal notify => ?notice, fun quiet => ?noNotice⟩⟩,
    fun s => ⟨bestEvent_eq_none_iff _, bestEvent_best _, fun b => State.evqWord_of_best⟩,
    fun s data serves => ⟨fun unknown => ?unknown, fun m found clean => ⟨fun keep => ?pop, fun clr => ?popClear⟩⟩,
    fun s i data serves => ⟨fun bad => ?refused, fun good reserved => ?reserved, fun good isFatal => ?isFatal, fun v good known other => ?plain⟩,
    fun s => ⟨fun off => ?noPulse, fun on none => ?ends, fun on owed => ?next⟩⟩
  case again =>
    have noted := State.raiseNoted_repeat cap raised
    obtain ⟨queue, seq⟩ := s.queue_raise i.val cap
    rw [noted] at queue seq
    refine ⟨?_, queue, seq⟩
    rw [s.rd_raise_noted _ _ _ _ (by decide) (by decide), noted]
    exact State.rd_bump_satAdd ..
  case disabled =>
    obtain ⟨queue, seq⟩ := s.queue_raise i.val cap
    rw [State.raiseNoted_disabled cap clear off] at queue seq
    exact ⟨queue, seq⟩
  case room =>
    obtain ⟨queue, seq⟩ := s.queue_raise i.val cap
    rw [State.raiseNoted_enabled cap clear en] at queue seq
    obtain ⟨enters, next⟩ := (s.drew.wr EVU_SRC.STATUS 1 i.val).enqueue_room i.val (s.rd EVU_SRC.SEV i.val) s.now cap room
    exact ⟨queue.trans enters, seq.trans next⟩
  case count =>
    rw [s.rd_raise_noted _ _ _ _ (by decide) (by decide), State.raiseNoted_enabled cap clear en]
    refine ((s.drew.wr EVU_SRC.STATUS 1 i.val).enqueue_counts _ _ _ _ full).1.trans ?_
    rw [State.rd_wr_ne _ _ _ _ _ _ (by decide), State.rd_drew]
  case ovf =>
    rw [s.rd_raise_noted _ _ _ _ (by decide) (by decide), State.raiseNoted_enabled cap clear en]
    exact ((s.drew.wr EVU_SRC.STATUS 1 i.val).enqueue_counts _ _ _ _ full).2
  case lost =>
    obtain ⟨queue, seq⟩ := s.queue_raise i.val cap
    rw [State.raiseNoted_enabled cap clear en, (s.drew.wr EVU_SRC.STATUS 1 i.val).enqueue_lost _ _ _ _ full noLower] at queue seq
    exact ⟨queue, seq⟩
  case displaced =>
    obtain ⟨evq, seq⟩ := s.queue_raise i.val cap
    rw [State.raiseNoted_enabled cap clear en,
      (s.drew.wr EVU_SRC.STATUS 1 i.val).enqueue_displaces _ _ _ _ full queue lower older younger] at evq seq
    exact ⟨evq.trans (State.evq_setEvq ..), seq.trans (State.evSeq_setEvq ..)⟩
  case idle => rw [exec_eventArrival, s.eventArrive_idle idle]
  case notice =>
    rw [exec_eventArrival, s.eventArrive_of_first first, if_pos ⟨normal, notify⟩]
    rfl
  case noNotice =>
    refine (exec_eventArrival s).trans (congrArg Host.Outcome.next ((s.eventArrive_of_first first).trans (if_neg fun both => ?_)))
    obtain ⟨normal, notify⟩ := both
    exact quiet.elim (fun other => other normal) fun off => Bool.noConfusion (off.symm.trans notify)
  case unknown => rw [exec_evqPop data serves, s.evqPop_unknown unknown]
  case pop =>
    rw [exec_evqPop data serves, s.evqPop_found found clean, if_neg (by rw [keep]; decide)]
  case popClear =>
    rw [exec_evqPop data serves, s.evqPop_found found clean, if_pos clr]
  case refused =>
    refine (exec_eventSourceClear i data serves).trans (congrArg Host.Outcome.next ?_)
    exact State.checked_fail _ _ _ bad
  case reserved => rw [exec_eventSourceClear i data serves, State.evuSrcWrite_ok good rfl, reserved, Option.elim_none]
  case isFatal => rw [exec_eventSourceClear i data serves, State.evuSrcWrite_ok good rfl, isFatal, Option.elim_some, if_pos rfl]
  case plain => rw [exec_eventSourceClear i data serves, State.evuSrcWrite_ok good rfl, known, Option.elim_some, if_neg other]
  case noPulse => rw [exec_nirqPulseEnd, if_pos off]
  case ends => rw [exec_nirqPulseEnd, if_neg (Bool.not_eq_false _ ▸ on), if_pos none]
  case next => rw [exec_nirqPulseEnd, if_neg (Bool.not_eq_false _ ▸ on), if_neg owed]

end Sys2Proof.Machine

/-! Tamper, slot tags, the journal and random data (R457, R458, R463, R468, R474, R479). -/

namespace Sys2Proof.Machine

section LinkDeparture

/-- The hub without its links and its registers: what a link that leaves ACTIVE does not touch. -/
def State.offLinks (s : State) : State := { s.rest with link := [], lossMark := [] }

variable (s : State) (p : Nat)

theorem State.offLinks_raise (id cap : Nat) : (s.raise id cap).offLinks = s.offLinks :=
  congrArg (fun r : State => { r with link := [], lossMark := [] }) (s.rest_raise id cap)

theorem State.offLinks_raiseOnce (id key cap : Nat) : (s.raiseOnce id key cap).offLinks = s.offLinks :=
  congrArg (fun r : State => { r with link := [], lossMark := [] }) (s.rest_raiseOnce id key cap)

theorem State.offLinks_wr (f : Field) (v i : Nat) : (s.wr f v i).offLinks = s.offLinks := rfl
theorem State.offLinks_modLk (g : Link → Link) : (s.modLk p g).offLinks = s.offLinks := rfl

theorem State.offLinks_xmiss : (s.xmiss p).offLinks = s.offLinks := State.offLinks_raiseOnce ..

theorem State.offLinks_isoLoss (tix : Nat) : (s.isoLoss p tix).offLinks = s.offLinks :=
  (s.bump JXK_ISOLOSS.COUNT p).offLinks_raiseOnce (Ev.JXK_ISO_LOSS p) 0 0

theorem State.offLinks_dropTxq : (s.dropTxq p).offLinks = s.offLinks := by
  refine foldl_keeps State.offLinks _ (fun s a => ?_) _ s
  dsimp only
  split
  · rw [State.offLinks_isoLoss, State.offLinks_xmiss]
  · rw [State.offLinks_xmiss]

theorem State.offLinks_dropStagedFrom : (s.dropStagedFrom p).offLinks = s.offLinks := by
  refine foldl_keeps State.offLinks _ (fun s q => ?_) _ s
  dsimp only
  split
  · rfl
  · rw [foldl_keeps State.offLinks (fun s (a : TxItem) => s.isoLoss p a.tix) (fun s a => s.offLinks_isoLoss p a.tix)]
    rfl

theorem State.offLinks_flushDiscarded : (s.flushDiscarded p).offLinks = s.offLinks := by
  unfold State.flushDiscarded
  rw [State.offLinks_dropStagedFrom, State.offLinks_dropTxq]
  rfl

theorem State.offLinks_resetSeq : (s.resetSeq p).offLinks = s.offLinks := by
  have credits (t : State) : (t.creditless p).offLinks = t.offLinks := by
    unfold State.creditless
    exact foldl_keeps State.offLinks _ (fun s v => by rw [State.offLinks_wr, State.offLinks_wr]) _ _
  have numbered : (s.renumbered p).offLinks = s.offLinks := by
    unfold State.renumbered State.setExpected
    simp only [State.offLinks_wr]
  unfold State.resetSeq State.countRbuf
  dsimp only
  rw [State.offLinks_wr, State.offLinks_wr, State.offLinks_modLk]
  exact (credits (s.renumbered p)).trans numbered

theorem State.offLinks_modPlan (g : PlanLink → PlanLink) : (s.modPlan p g).offLinks = s.offLinks := rfl
theorem State.offLinks_clearPending : (s.clearPending p).offLinks = s.offLinks := rfl

theorem State.offLinks_flushLanes : (s.flushLanes p).offLinks = s.offLinks := by
  have counted (t : State) : (t.countPending p).offLinks = t.offLinks := rfl
  have lanes (t : State) (g : LanePort → LanePort) : (t.modLane p g).offLinks = t.offLinks := rfl
  have excluded : (s.failingExcluded p).offLinks = s.offLinks :=
    congrArg (fun r : State => { r with link := [], lossMark := [] }) (s.rest_failingExcluded p)
  unfold State.flushLanes
  dsimp only
  rw [counted, lanes]
  exact excluded

theorem State.offLinks_bootstrapped : (s.bootstrapped p).offLinks = s.offLinks := by
  unfold State.bootstrapped
  rw [State.offLinks_wr, State.offLinks_wr, State.offLinks_modPlan, State.offLinks_flushLanes, State.offLinks_clearPending]

theorem State.offLinks_epochOver : (s.epochOver p).offLinks = s.offLinks := by
  unfold State.epochOver State.freshAttempt
  dsimp only
  rw [State.offLinks_wr, State.offLinks_wr, State.offLinks_wr, State.offLinks_modLk, State.offLinks_modLk]

theorem State.offLinks_linkGone (dest cause : Nat) : (s.linkGone p dest cause).offLinks = s.offLinks := by
  have stopped (t : State) : (t.stopScan p).offLinks = t.offLinks := by
    unfold State.stopScan
    split <;> rfl
  have told (t : State) : (t.onLinkDown p).offLinks = t.offLinks := rfl
  have shown (t : State) : (t.setLinkSt p dest).offLinks = t.offLinks := rfl
  unfold State.linkGone
  rw [told, stopped, State.offLinks_raise, shown, State.offLinks_epochOver]

theorem State.offLinks_recover : (s.recover p).offLinks = s.offLinks := by
  unfold State.recover
  split
  · rw [State.leaveActive_eq, State.offLinks_linkGone, State.offLinks_bootstrapped, State.offLinks_resetSeq, State.offLinks_flushDiscarded]
    rfl
  · rfl

theorem State.offLinks_retrainAll : s.retrainAll.offLinks = s.offLinks := foldl_keeps State.offLinks _ State.offLinks_recover _ s

@[simp] theorem State.sec_retrainAll : s.retrainAll.sec = s.sec := by
  show s.retrainAll.offLinks.sec = s.offLinks.sec
  rw [s.offLinks_retrainAll]

@[simp] theorem State.chip_retrainAll : s.retrainAll.chip = s.chip := by
  show s.retrainAll.offLinks.chip = s.offLinks.chip
  rw [s.offLinks_retrainAll]

end LinkDeparture

section TamperBits

/-- The bit of a source that has just become active, if it is enabled. -/
theorem newBits_add_two_pow (a e k : Nat) (clear : bitAt a k = false) :
    ((a + 2 ^ k) &&& e) - ((a + 2 ^ k) &&& e &&& (a &&& e)) = if bitAt e k then 2 ^ k else 0 := by
  rw [bitAt_eq_testBit] at clear ⊢
  have old : (a + 2 ^ k) &&& e &&& (a &&& e) = a &&& e := by
    refine Nat.eq_of_testBit_eq fun i => ?_
    simp only [Nat.testBit_and, testBit_add_two_pow a k i clear]
    cases a.testBit i <;> simp
  rw [old]
  cases enabled : e.testBit k
  · have same : (a + 2 ^ k) &&& e = a &&& e := by
      refine Nat.eq_of_testBit_eq fun i => ?_
      simp only [Nat.testBit_and, testBit_add_two_pow a k i clear]
      by_cases here : i = k <;> simp [here, enabled]
    rw [same, Nat.sub_self]
    rfl
  · have more : (a + 2 ^ k) &&& e = (a &&& e) + 2 ^ k := by
      have low : (a &&& e).testBit k = false := by rw [Nat.testBit_and, clear, Bool.false_and]
      refine Nat.eq_of_testBit_eq fun i => ?_
      simp only [Nat.testBit_and, testBit_add_two_pow _ k i clear, testBit_add_two_pow _ k i low]
      by_cases here : i = k <;> simp [here, enabled]
    rw [more, Nat.add_sub_cancel_left, if_pos rfl]

end TamperBits

section Tamper

variable (s : State)

/-- A cleared slot changes nothing of the security block but its key. -/
theorem State.update_slotClear (i : Nat) : (s.slotClear i).sec.update = s.sec.update := rfl

theorem State.update_slotsClear : s.slotsClear.sec.update = s.sec.update :=
  foldl_keeps (fun t : State => t.sec.update) _ (fun t i => t.update_slotClear (i + 1)) _ s

/-- The cause of a tamper, and the Dawn that it ends (R458). -/
def State.tampered (s : State) (caused : Nat) : State :=
  (s.wr SEC_STATUS.DAWN_VALID 0).wr SEC_TAMPER.CAUSE (s.rd SEC_TAMPER.CAUSE ||| caused)

variable {s} {caused : Nat} (nonzero : caused ≠ 0)
include nonzero

theorem State.tamperAct_off (off : s.chip.phase ≠ .running) (settled : s.chip.phase ≠ .entering) : s.tamperAct caused = s.tampered caused :=
  (if_neg nonzero).trans (if_pos ⟨off, settled⟩)

theorem State.tamperAct_running (runs : s.chip.phase = .running) (idle : s.sec.update = none) : s.tamperAct caused =
    ((((s.tampered caused).slotsClear.retrainAll).modSec (fun c => { c with noJournal := true })).raise 0x3E0 caused) := by
  have noUpdate : ((((s.tampered caused).slotsClear.retrainAll).modSec (fun c => { c with noJournal := true })).raise 0x3E0 caused).sec.update = none := by
    rw [State.sec_raise, State.sec_modSec, State.sec_retrainAll]
    show (s.tampered caused).slotsClear.sec.update = none
    rw [State.update_slotsClear]
    exact idle
  have powered : ¬((s.tampered caused).chip.phase ≠ .running ∧ (s.tampered caused).chip.phase ≠ .entering) := fun off => off.1 runs
  unfold State.tamperAct
  rw [if_neg nonzero]
  refine (if_neg powered).trans ?_
  dsimp only
  split
  · rfl
  · rename_i running
    cases running.symm.trans noUpdate

end Tamper

section TamperLevel

variable (s : State) (k : Nat)

/-- Source `k` is active (R457). -/
def State.lit (s : State) (k : Nat) : State := s.modSec (fun c => { c with active := c.active + 2 ^ k })

theorem State.tamperLevel_on (clear : bitAt s.sec.active k = false) :
    s.tamperLevel k true = ((s.lit k).tamperAct (if bitAt (s.rd SEC_TAMPCFG.EN) k then 2 ^ k else 0)).tampShow := by
  have becomes : (if bitAt s.sec.active k = true then s.sec.active else if true = true then s.sec.active + 2 ^ k else s.sec.active - 2 ^ k) =
      s.sec.active + 2 ^ k := by rw [clear]; rfl
  unfold State.tamperLevel State.tampNow
  dsimp only
  rw [becomes, ← newBits_add_two_pow _ _ _ clear]
  rfl

/-- A source that does not hold, and ends, only shows in TAMP_NOW. -/
theorem State.tamperLevel_off (clear : bitAt s.sec.active k = false) : s.tamperLevel k false = s.tampShow := by
  have stays : (if bitAt s.sec.active k = false then s.sec.active else if false = true then s.sec.active + 2 ^ k else s.sec.active - 2 ^ k) =
      s.sec.active := if_pos clear
  have quiet : (s.modSec (fun c => { c with active := s.sec.active })).tamperAct (s.tampNow - (s.tampNow &&& s.tampNow)) = s := by
    rw [Nat.and_self, Nat.sub_self]
    rfl
  unfold State.tamperLevel
  dsimp only
  rw [stays]
  exact congrArg State.tampShow quiet

end TamperLevel

section Slots

variable {s : State} {i : Nat}

theorem State.tagCheck_one (holds : s.rd SEC_SLOT.STATE i = 1 ∨ s.rd SEC_SLOT.STATE i = 3) : s.tagCheck [i] =
    ((s.wr SEC_SLOT.STATE 2 i).modSec (fun c => { c with keys := NMap.set c.keys [] i [] })).raise 0x3E3 i := if_pos holds

theorem State.tagCheck_empty (empty : s.rd SEC_SLOT.STATE i = 0) : s.tagCheck [i] = s := if_neg (by rw [empty]; decide)

end Slots

section Journal

variable {s : State} {u : JUpd}

/-- A journal update is over (R474). -/
def State.updateOver (s : State) : State := ((s.modSec (fun c => { c with update := none })).wr SEC_STATUS.JBUSY 0).wr SEC_JSTAT.BUSY 0

theorem State.journalEnd_idle (status : Nat) (idle : s.sec.update = none) : s.journalEnd status = s := by
  unfold State.journalEnd
  rw [idle]

/-- The sector that an update writes: the one not in use (R474). -/
def State.otherSector (s : State) : Nat := if s.journalNow.isSome then 1 - s.rd SEC_JSTAT.CUR else s.rd SEC_JSTAT.CUR

/-- The record of an update that ended well is in use (R473, R474). -/
def State.recordKept (s : State) (other : Nat) (r : JRec) : State :=
  ((((s.modSec (fun c => { c with journal := NMap.set c.journal JSector.erased other (.holds r) })).wr SEC_JSTAT.CUR other).wr
    (if other = 0 then SEC_JSTAT.J0_VALID else SEC_JSTAT.J1_VALID) 1).wr SEC_JGEN.WORD (r.gen % 2 ^ 32) 0).wr SEC_JGEN.WORD (r.gen / 2 ^ 32) 1

variable (updates : s.sec.update = some u)
include updates

theorem State.journalEnd_bad {status : Nat} (bad : status ≠ St.OK) :
    s.journalEnd status = if u.op = 0 then s.updateOver else (s.updateOver.wr SEC_CMDRES.STATUS status).answer status := by
  unfold State.journalEnd
  rw [updates]
  dsimp only
  rw [if_neg bad]
  rfl

theorem State.journalEnd_good (asked : u.op ≠ 0) {other : Nat} (sector : s.otherSector = other) : s.journalEnd St.OK =
    (((s.updateOver.recordKept other u.put).keysCommit u.load u.drop).wr SEC_CMDRES.STATUS St.OK).answer St.OK := by
  subst sector
  unfold State.journalEnd
  rw [updates]
  dsimp only
  rw [if_pos rfl, if_neg asked, if_neg asked]
  rfl

end Journal

section Random

variable {s : State}

/-- The words of a nonce, drawn one by one (R463). -/
def State.nonceWords (s : State) (n : Nat) : State := (List.range n).foldl (fun s i => (s.wr SEC_NONCE.WORD (s.freeVal % 2 ^ 32) i).drew) s

theorem State.nonceWords_succ (n : Nat) :
    s.nonceWords (n + 1) = ((s.nonceWords n).wr SEC_NONCE.WORD ((s.nonceWords n).freeVal % 2 ^ 32) n).drew := by
  unfold State.nonceWords
  rw [List.range_succ, List.foldl_append]
  rfl

theorem State.fresh_nonceWords (n : Nat) : (s.nonceWords n).fresh = s.fresh + n := by
  induction n with
  | zero => rfl
  | succ n ih => rw [State.nonceWords_succ, ← Nat.add_assoc, ← ih]; rfl

theorem State.rd_nonceWords (n i : Nat) (drawn : i < n) : (s.nonceWords n).rd SEC_NONCE.WORD i = Config.freeValue (s.fresh + i) % 2 ^ 32 := by
  induction n with
  | zero => exact absurd drawn (Nat.not_lt_zero i)
  | succ n ih =>
    rw [State.nonceWords_succ, State.rd_drew]
    obtain before | rfl := Nat.lt_succ_iff_lt_or_eq.1 drawn
    · rw [State.rd_wr_idx _ _ _ _ _ (Nat.ne_of_gt before), ih before]
    · rw [State.rd_wr_same, State.freeVal, State.fresh_nonceWords]
      exact Nat.mod_mod _ _

theorem State.keepsRegs_nonceWords (n : Nat) (within : n ≤ 4) : s.keepsRegs (s.nonceWords n) ((List.range 4).map (fun i => (SEC_NONCE.WORD, i))) := by
  induction n with
  | zero => exact s.keepsRegs_refl _
  | succ n ih =>
    rw [State.nonceWords_succ]
    exact State.keepsRegs_wr (ih (Nat.le_of_succ_le within)) _ _ _ (List.mem_map.2 ⟨n, List.mem_range.2 within, rfl⟩)

/-- A nonce's words change nothing but their registers and the count of free values. -/
theorem State.part_nonceWords {α : Type} (g : State → α) (apart : ∀ (t : State) (f : Field) (v i : Nat), g (t.wr f v i).drew = g t) (n : Nat) :
    g (s.nonceWords n) = g s := by
  unfold State.nonceWords
  exact foldl_keeps g _ (fun t i => apart t ..) _ s

/-- The nonce that a path of its own then holds (R463). -/
theorem State.nonceDraw_ok (random : s.on SEC_STATUS.DRBG_OK = true) : s.nonceDraw =
    ((s.nonceWords 4).modSec (fun c => { c with nonce := true, nonceAt := (s.nonceWords 4).timeAtSlot0 })).answerData
      [(s.nonceWords 4).rd SEC_NONCE.WORD 0] := if_neg (by rw [random]; decide)

end Random

theorem exec_tamperDetect (s : State) (k : Fin 6) (active : Bool) :
    exec (.tamperDetect k active) s = .next (s.calm.tamperLevel k.val active).settled := rfl

theorem exec_slotTagCheck (s : State) (bad : List (Fin 64)) : exec (.slotTagCheck bad) s = .next (s.tagCheck (bad.map Fin.val)) := rfl

theorem exec_journalUpdateDone (s : State) (good : Bool) :
    exec (.journalUpdateDone good) s = .next (s.journalEnd (if good then St.OK else St.INTEGRITY)) := rfl

theorem exec_journalUpdateTimeout (s : State) : exec .journalUpdateTimeout s = .next (s.journalEnd St.TIMEOUT) := rfl

theorem exec_nonceDraw {s : State} (serves : s.serves (Reg.SEC_NONCE.addr 0 0) false) : exec .nonceDraw s = .next s.nonceDraw :=
  congrArg Host.Outcome.next (State.access_serves s _ false _ serves)

/-- Settles O56: the tamper sources, the slots' tags, the journal's updates, the generator and the nonces. -/
theorem tamperAndKeys : Obligations.TamperAndKeys := by
  refine ⟨fun s k clear _ => ⟨fun disabled => ?disabled, fun enabled => ⟨fun unpowered => ?unpowered, fun runs idle => ?running⟩, ?ends⟩,
    fun s i => ⟨fun holds => ?tagged, fun empty => ?emptySlot, rfl⟩,
    fun s idle => ⟨?idleDone, ?idleBad, ?idleLate⟩,
    fun s u updates => ⟨fun own => ⟨?ownBad, ?ownLate⟩, fun asked => ⟨?bad, ?late⟩, fun asked none cur => ?first, fun r asked held cur => ?second⟩,
    fun s => ⟨rfl, rfl, rfl⟩,
    fun s serves => ⟨fun none => ?noRandom, fun random => ?nonce⟩⟩
  case disabled =>
    have acts := s.calm.tamperLevel_on k.val clear
    have off : bitAt (s.calm.rd SEC_TAMPCFG.EN) k.val = false := disabled
    rw [off] at acts
    rw [exec_tamperDetect, acts]
    exact congrArg Host.Outcome.next (State.settled_of_quiet _ rfl)
  case unpowered =>
    have acts := s.calm.tamperLevel_on k.val clear
    have on : bitAt (s.calm.rd SEC_TAMPCFG.EN) k.val = true := enabled
    have off : s.chip.phase ≠ .running ∧ s.chip.phase ≠ .entering := by
      obtain doze | ship := unpowered
      · rw [doze]; decide
      · rw [ship]; decide
    rw [on, if_pos rfl, State.tamperAct_off (s := s.calm.lit k.val) (Nat.ne_of_gt (Nat.two_pow_pos _)) off.1 off.2] at acts
    rw [exec_tamperDetect, acts]
    exact congrArg Host.Outcome.next (State.settled_of_quiet _ rfl)
  case running =>
    have acts := s.calm.tamperLevel_on k.val clear
    have on : bitAt (s.calm.rd SEC_TAMPCFG.EN) k.val = true := enabled
    rw [on, if_pos rfl, State.tamperAct_running (s := s.calm.lit k.val) (Nat.ne_of_gt (Nat.two_pow_pos _)) runs idle] at acts
    rw [exec_tamperDetect, acts]
    rfl
  case ends =>
    rw [exec_tamperDetect, s.calm.tamperLevel_off k.val clear]
    exact congrArg Host.Outcome.next (State.settled_of_quiet _ rfl)
  case tagged => exact congrArg Host.Outcome.next (State.tagCheck_one holds)
  case emptySlot => exact congrArg Host.Outcome.next (State.tagCheck_empty empty)
  case idleDone => rw [exec_journalUpdateDone, s.journalEnd_idle _ idle]
  case idleBad => rw [exec_journalUpdateDone, s.journalEnd_idle _ idle]
  case idleLate => rw [exec_journalUpdateTimeout, s.journalEnd_idle _ idle]
  case ownBad =>
    exact congrArg Host.Outcome.next ((State.journalEnd_bad updates (by decide)).trans (if_pos own))
  case ownLate =>
    exact congrArg Host.Outcome.next ((State.journalEnd_bad updates (by decide)).trans (if_pos own))
  case bad =>
    exact congrArg Host.Outcome.next ((State.journalEnd_bad updates (by decide)).trans (if_neg asked))
  case late =>
    exact congrArg Host.Outcome.next ((State.journalEnd_bad updates (by decide)).trans (if_neg asked))
  case first =>
    have sector : s.otherSector = 0 := by rw [State.otherSector, none, cur]; rfl
    exact congrArg Host.Outcome.next (State.journalEnd_good updates asked sector)
  case second =>
    have sector : s.otherSector = 1 := by rw [State.otherSector, held, cur]; rfl
    exact congrArg Host.Outcome.next (State.journalEnd_good updates asked sector)
  case noRandom =>
    rw [exec_nonceDraw serves]
    exact congrArg Host.Outcome.next (if_pos none)
  case nonce =>
    refine ⟨_, (exec_nonceDraw serves).trans (congrArg Host.Outcome.next (State.nonceDraw_ok random)), ?_, ?_, fun i => ?_, ?_, ?_⟩
    · rw [s.part_nonceWords State.timeAtSlot0 (fun _ _ _ _ => rfl)]
      show { (s.nonceWords 4).sec with nonce := true, nonceAt := s.timeAtSlot0 } = _
      rw [s.part_nonceWords State.sec (fun _ _ _ _ => rfl)]
    · exact s.fresh_nonceWords 4
    · exact s.rd_nonceWords 4 i.val i.isLt
    · exact congrArg (· ++ _) (s.part_nonceWords State.out (fun _ _ _ _ => rfl) 4)
    · exact s.keepsRegs_nonceWords 4 (Nat.le_refl 4)

end Sys2Proof.Machine

/-! SEC_CMD: tokens and the life cycle (R461 to R463, R470, R471). -/

namespace Sys2Proof.Machine

section Checks

theorem firstStatus_secChecks_lifeCycle (value auth state busy range conflict : Bool) :
    firstStatus [(St.VALUE, value), (St.LIFECYCLE, true), (St.AUTH, auth), (St.STATE, state), (St.BUSY, busy), (St.RANGE, range),
      (St.CONFLICT, conflict)] = St.LIFECYCLE := rfl

variable (s : State) (op : Nat) (t : List Byte)

theorem State.secChecks_barred (barred : opAllowed op s.lc = false) : firstStatus (s.secChecks op t) = St.LIFECYCLE := by
  unfold State.secChecks
  rw [barred]
  exact firstStatus_secChecks_lifeCycle ..

variable {s t}

/-- A KEY_DESTROY that passes its checks does not name slot 0 (R471). -/
theorem State.secChecks_destroy (passes : firstStatus (s.secChecks 8 t) = St.OK) : bitAt (leAt (tokenBody t) 0 8) 0 = false := by
  have conflict : ((8 == 5 && s.sec.enrolled) || (8 == 6 && (s.on SEC_STATUS.CERT_OK ||
      !Config.verdict "certificate key" ((tokenBody t).map (·.toNat)))) || (8 == 8 && (bitList 64 (leAt (tokenBody t) 0 8)).contains 0)) = false :=
    check_passes_of_firstStatus_ok passes (c := St.CONFLICT) (by simp [State.secChecks]) (by decide)
  simpa [bitList] using conflict

/-- An import or destruction that passes its checks meets no running update (R474). -/
theorem State.secChecks_idle (keys : op = 7 ∨ op = 8) (passes : firstStatus (s.secChecks op t) = St.OK) : s.sec.update = none := by
  have busy : ((op == 7 || op == 8) && s.sec.update.isSome) = false :=
    check_passes_of_firstStatus_ok passes (c := St.BUSY) (by simp [State.secChecks]) (by decide)
  obtain rfl | rfl := keys <;> simpa using busy

/-- A record that fails has a status of its own (R467). -/
theorem State.firstBadKey_status {key : List Nat} {l : List (List Byte)} {r : Nat × Nat} (found : s.firstBadKey key l = some r) : r.2 ≠ St.OK := by
  unfold State.firstBadKey at found
  obtain ⟨i, _, hit⟩ := List.exists_of_findSome?_eq_some found
  dsimp only at hit
  split at hit
  · cases hit
  · rename_i bad
    obtain rfl := Option.some_inj.1 hit
    exact bad

end Checks

section Command

variable (s : State)

/-- What SEC_CMDRES shows of an op, its nonce used up (R461, R462). -/
def State.secNoted (s : State) (op status record : Nat) : State :=
  (((s.wr SEC_CMDRES.OP op).wr SEC_CMDRES.STATUS status).wr SEC_CMDRES.RECORD record).tokenUsed status

/-- The records of an import (R470). -/
def State.importRecords (s : State) : List (List Byte) := recordsAt (tokenBody s.tokenBytes) 100 (byteAt (tokenBody s.tokenBytes) 99)

/-- The first record that fails, with its index and status (R470). -/
def State.importBad (s : State) : Option (Nat × Nat) := s.firstBadKey (s.wrapKey ((tokenBody s.tokenBytes).take 97)) s.importRecords

variable {s} {op : Nat} (clean : Reg.SEC_CMD.reservedSet op = false) (named : SEC_CMD.OP.of op = op)
include clean named

/-- An op, by the record that fails and by the status that its checks give. -/
theorem State.secCmd_eq {status : Nat} (checked : firstStatus (s.secChecks op s.tokenBytes) = status) {bad : Option (Nat × Nat)}
    (records : (if status = St.OK ∧ op = 7 then s.importBad else none) = bad) : s.secCmd op =
      if bad.elim status (·.2) ≠ St.OK then (s.secNoted op (bad.elim status (·.2)) (bad.elim 0 (·.1))).answer (bad.elim status (·.2))
      else if (op = 7 ∨ op = 8) ∧ ((s.secNoted op (bad.elim status (·.2)) (bad.elim 0 (·.1))).secAct op (tokenBody s.tokenBytes)).sec.update.isSome = true then
        (s.secNoted op (bad.elim status (·.2)) (bad.elim 0 (·.1))).secAct op (tokenBody s.tokenBytes)
      else ((s.secNoted op (bad.elim status (·.2)) (bad.elim 0 (·.1))).secAct op (tokenBody s.tokenBytes)).answer St.OK := by
  unfold State.importBad State.importRecords at records
  unfold State.secCmd
  dsimp only
  rw [clean, named, if_neg Bool.false_ne_true, checked, records]
  cases bad with
  | none => rfl
  | some r => rfl

theorem State.secCmd_refused {status : Nat} (refused : firstStatus (s.secChecks op s.tokenBytes) = status) (bad : status ≠ St.OK) :
    s.secCmd op = (s.secNoted op status 0).answer status := by
  rw [State.secCmd_eq clean named refused (if_neg fun both => bad both.1)]
  exact if_pos bad

/-- What an op does whose checks, those of its records included, have passed. -/
theorem State.secCmd_passes (passes : firstStatus (s.secChecks op s.tokenBytes) = St.OK) (records : op = 7 → s.importBad = none) :
    s.secCmd op = if (op = 7 ∨ op = 8) ∧ ((s.secNoted op St.OK 0).secAct op (tokenBody s.tokenBytes)).sec.update.isSome = true then
      (s.secNoted op St.OK 0).secAct op (tokenBody s.tokenBytes)
    else ((s.secNoted op St.OK 0).secAct op (tokenBody s.tokenBytes)).answer St.OK := by
  have good : (if St.OK = St.OK ∧ op = 7 then s.importBad else none) = none := by
    split
    · rename_i both
      exact records both.2
    · rfl
  rw [State.secCmd_eq clean named passes good]
  exact if_neg fun h => h rfl

/-- An op other than an import and a destruction acts at once. -/
theorem State.secCmd_acts (other : ¬(op = 7 ∨ op = 8)) (passes : firstStatus (s.secChecks op s.tokenBytes) = St.OK) :
    s.secCmd op = ((s.secNoted op St.OK 0).secAct op (tokenBody s.tokenBytes)).answer St.OK := by
  rw [State.secCmd_passes clean named passes fun import_ => absurd (Or.inl import_) other, if_neg fun both => other both.1]

end Command

section Keys

variable (s : State)

theorem State.lc_secNoted (op record : Nat) : (s.secNoted op St.OK record).lc = s.lc := by
  show (((s.wr SEC_CMDRES.OP op).wr SEC_CMDRES.STATUS St.OK).wr SEC_CMDRES.RECORD record).rd SEC_STATUS.LC = _
  rw [State.rd_wr_ne _ _ _ _ _ _ (by decide), State.rd_wr_ne _ _ _ _ _ _ (by decide), State.rd_wr_ne _ _ _ _ _ _ (by decide)]
  rfl

theorem State.wrapKey_secNoted (op record : Nat) (key : List Byte) : (s.secNoted op St.OK record).wrapKey key = s.wrapKey key := by
  unfold State.wrapKey
  rw [State.lc_secNoted]

/-- A note of an op leaves the fields of the journal. -/
theorem State.rd_secNoted (op record : Nat) (f : Field) (i : Nat) (notOp : SEC_CMDRES.OP.id ≠ f.id) (notStatus : SEC_CMDRES.STATUS.id ≠ f.id)
    (notRecord : SEC_CMDRES.RECORD.id ≠ f.id) : (s.secNoted op St.OK record).rd f i = s.rd f i := by
  show (((s.wr SEC_CMDRES.OP op).wr SEC_CMDRES.STATUS St.OK).wr SEC_CMDRES.RECORD record).rd f i = _
  rw [State.rd_wr_ne _ _ _ _ _ _ notRecord, State.rd_wr_ne _ _ _ _ _ _ notStatus, State.rd_wr_ne _ _ _ _ _ _ notOp]

theorem State.journalNow_secNoted (op record : Nat) : (s.secNoted op St.OK record).journalNow = s.journalNow := by
  unfold State.journalNow
  rw [s.rd_secNoted op record SEC_JSTAT.CUR 0 (by decide) (by decide) (by decide)]
  have valid0 : (s.secNoted op St.OK record).on SEC_JSTAT.J0_VALID = s.on SEC_JSTAT.J0_VALID :=
    State.on_of_rd (s.rd_secNoted op record _ _ (by decide) (by decide) (by decide))
  have valid1 : (s.secNoted op St.OK record).on SEC_JSTAT.J1_VALID = s.on SEC_JSTAT.J1_VALID :=
    State.on_of_rd (s.rd_secNoted op record _ _ (by decide) (by decide) (by decide))
  rw [valid0, valid1]
  rfl

theorem State.needsJournal_secNoted (op record : Nat) (load : List KeyRec) (drop : List Nat) :
    (s.secNoted op St.OK record).needsJournal load drop = s.needsJournal load drop := by
  unfold State.needsJournal State.journalled
  rw [State.journalNow_secNoted]

theorem State.update_slotLoad (k : KeyRec) : (s.slotLoad 3 k).sec.update = s.sec.update := rfl

theorem State.update_keysCommit (load : List KeyRec) (drop : List Nat) : (s.keysCommit load drop).sec.update = s.sec.update := by
  have dropped : (drop.foldl (fun s i => s.slotClear i) s).sec.update = s.sec.update :=
    foldl_keeps (fun t : State => t.sec.update) (fun t i => t.slotClear i) (fun t i => t.update_slotClear i) drop s
  exact (foldl_keeps (fun t : State => t.sec.update) (fun t k => t.slotLoad 3 k) (fun t k => t.update_slotLoad k) load _).trans dropped

theorem State.update_secNoted (op record : Nat) : (s.secNoted op St.OK record).sec.update = s.sec.update := rfl

end Keys

section Clearing

variable (s : State)

theorem State.state_slotClear (i j : Nat) : (s.slotClear i).rd SEC_SLOT.STATE j = if i = j then 0 else s.rd SEC_SLOT.STATE j := by
  show (([SEC_SLOT.KTYPE, SEC_SLOT.LIMIT, SEC_SLOT.PERSIST, SEC_SLOT.DAWNBOUND, SEC_SLOT.SOURCE, SEC_SCOUNT.COUNT, SEC_SKCV.KCV].foldl
    (fun t f => t.wr f 0 i) (s.wr SEC_SLOT.STATE 0 i))).rd SEC_SLOT.STATE j = _
  simp (disch := decide) only [List.foldl_cons, List.foldl_nil, State.rd_wr_ne]
  split
  · rename_i same
    rw [same, State.rd_wr_same, Nat.zero_mod]
  · rename_i other
    exact State.rd_wr_idx _ _ _ _ _ other

theorem State.keys_slotClear (i j : Nat) : NMap.get (s.slotClear i).sec.keys [] j = if i = j then [] else NMap.get s.sec.keys [] j :=
  NMap.get_set s.sec.keys [] i j []

/-- Slots 1 to `n`. -/
def State.slotsClearTo (s : State) (n : Nat) : State := (List.range n).foldl (fun s i => s.slotClear (i + 1)) s

theorem State.slotsClearTo_succ (n : Nat) : s.slotsClearTo (n + 1) = (s.slotsClearTo n).slotClear (n + 1) := by
  unfold State.slotsClearTo
  rw [List.range_succ, List.foldl_append]
  rfl

theorem State.slotsClearTo_cleared (n i : Nat) (nonzero : i ≠ 0) (within : i ≤ n) :
    (s.slotsClearTo n).rd SEC_SLOT.STATE i = 0 ∧ NMap.get (s.slotsClearTo n).sec.keys [] i = [] := by
  induction n with
  | zero => exact absurd (Nat.le_zero.1 within) nonzero
  | succ n ih =>
    rw [State.slotsClearTo_succ, State.state_slotClear, State.keys_slotClear]
    split
    · exact ⟨rfl, rfl⟩
    · exact ih (by omega)

end Clearing

section Ops

variable {s : State} (serves : s.serves Reg.SEC_CMD.base true)
include serves

theorem State.secOp_refused {op status : Nat} (clean : Reg.SEC_CMD.reservedSet op = false) (named : SEC_CMD.OP.of op = op)
    (refused : firstStatus (s.secChecks op s.tokenBytes) = status) (bad : status ≠ St.OK) :
    (Host.Outcome.next (s.secOp op) : Res) = .next ((s.secNoted op status 0).answer status) :=
  congrArg Host.Outcome.next ((State.access_serves s _ true _ serves).trans (State.secCmd_refused clean named refused bad))

theorem State.secOp_acts {op : Nat} (clean : Reg.SEC_CMD.reservedSet op = false) (named : SEC_CMD.OP.of op = op) (other : ¬(op = 7 ∨ op = 8))
    (passes : firstStatus (s.secChecks op s.tokenBytes) = St.OK) :
    (Host.Outcome.next (s.secOp op) : Res) = .next (((s.secNoted op St.OK 0).secAct op (tokenBody s.tokenBytes)).answer St.OK) :=
  congrArg Host.Outcome.next ((State.access_serves s _ true _ serves).trans (State.secCmd_acts clean named other passes))

/-- A destruction or an import, by what it does. -/
theorem State.secOp_keys {op : Nat} (clean : Reg.SEC_CMD.reservedSet op = false) (named : SEC_CMD.OP.of op = op) (keys : op = 7 ∨ op = 8)
    (passes : firstStatus (s.secChecks op s.tokenBytes) = St.OK) (records : op = 7 → s.importBad = none) {t : State}
    (acts : (s.secNoted op St.OK 0).secAct op (tokenBody s.tokenBytes) = t) :
    (Host.Outcome.next (s.secOp op) : Res) = .next (if t.sec.update.isSome = true then t else t.answer St.OK) := by
  subst acts
  refine congrArg Host.Outcome.next ((State.access_serves s _ true _ serves).trans ((State.secCmd_passes clean named passes records).trans ?_))
  simp only [keys, true_and]

end Ops

section KeyOps

variable (s : State)

/-- The records of an import, unwrapped (R466, R470). -/
def State.importKeys (s : State) : List KeyRec := s.importRecords.map (keyRecOf (s.wrapKey ((tokenBody s.tokenBytes).take 97)))

/-- The slots that a destruction names (R471). -/
def State.destroySlots (s : State) : List Nat := bitList 64 (leAt (tokenBody s.tokenBytes) 0 8)

theorem State.secAct_seven (b : List Byte) {load : List KeyRec}
    (keys : (recordsAt b 100 (byteAt b 99)).map (keyRecOf (s.wrapKey (b.take 97))) = load) :
    s.secAct 7 b = if s.needsJournal load [] = true then s.journalStart 7 load [] else s.keysCommit load [] := by
  subst keys
  rfl

theorem State.secAct_import : (s.secNoted 7 St.OK 0).secAct 7 (tokenBody s.tokenBytes) =
    if s.needsJournal s.importKeys [] = true then (s.secNoted 7 St.OK 0).journalStart 7 s.importKeys []
    else (s.secNoted 7 St.OK 0).keysCommit s.importKeys [] := by
  have keys : s.importRecords.map (keyRecOf ((s.secNoted 7 St.OK 0).wrapKey ((tokenBody s.tokenBytes).take 97))) = s.importKeys := by
    rw [State.wrapKey_secNoted]
    rfl
  rw [State.secAct_seven _ _ keys, State.needsJournal_secNoted]

theorem State.secAct_destroy : (s.secNoted 8 St.OK 0).secAct 8 (tokenBody s.tokenBytes) =
    if s.needsJournal [] s.destroySlots = true then (s.secNoted 8 St.OK 0).journalStart 8 [] s.destroySlots
    else (s.secNoted 8 St.OK 0).keysCommit [] s.destroySlots := by
  show (if (s.secNoted 8 St.OK 0).needsJournal [] s.destroySlots then (s.secNoted 8 St.OK 0).journalStart 8 [] s.destroySlots
    else (s.secNoted 8 St.OK 0).keysCommit [] s.destroySlots) = _
  rw [State.needsJournal_secNoted]

end KeyOps

theorem update_journalStart (s : State) (op : Nat) (load : List KeyRec) (drop : List Nat) :
    (s.journalStart op load drop).sec.update.isSome = true := rfl

theorem exec_lcProvision (s : State) : exec .lcProvision s = .next (s.secOp 1) := rfl
theorem exec_lcField (s : State) : exec .lcField s = .next (s.secOp 2) := rfl
theorem exec_lcReturn (s : State) : exec .lcReturn s = .next (s.secOp 3) := rfl
theorem exec_lcEnd (s : State) : exec .lcEnd s = .next (s.secOp 4) := rfl
theorem exec_idEnroll (s : State) : exec .idEnroll s = .next (s.secOp 5) := rfl
theorem exec_certWrite (s : State) : exec .certWrite s = .next (s.secOp 6) := rfl
theorem exec_keyImport (s : State) : exec .keyImport s = .next (s.secOp 7) := rfl
theorem exec_keyDestroy (s : State) : exec .keyDestroy s = .next (s.secOp 8) := rfl
theorem exec_tamperClear (s : State) : exec .tamperClear s = .next (s.secOp 9) := rfl

/-- Settles O55: the ops that are refused, those that act at once, destructions and imports, and the clauses on checks, slots and LC_RESET. -/
theorem securityCommands : Obligations.SecurityCommands := by
  refine ⟨fun s serves => ⟨?r1, ?r2, ?r3, ?r4, ?r5, ?r6, ?r7, ?r8, ?r9, ?a1, ?a2, ?a3, ?a4, ?a5, ?a6, ?a9, fun passes plain => ?destroy,
      fun passes journalled => ?destroyLater, fun r passes bad => ?badRecord, fun passes good idle plain => ?load, fun passes good journalled => ?loadLater⟩,
    fun s op t _ barred => s.secChecks_barred op.val t barred, fun s t => State.secChecks_destroy, fun s i nonzero => ?slots,
    fun s => ⟨fun due => congrArg Host.Outcome.next (if_pos due), fun notDue => congrArg Host.Outcome.next (if_neg (by rw [notDue]; decide))⟩⟩
  case r1 => exact State.secOp_refused serves (by decide) rfl rfl
  case r2 => exact State.secOp_refused serves (by decide) rfl rfl
  case r3 => exact State.secOp_refused serves (by decide) rfl rfl
  case r4 => exact State.secOp_refused serves (by decide) rfl rfl
  case r5 => exact State.secOp_refused serves (by decide) rfl rfl
  case r6 => exact State.secOp_refused serves (by decide) rfl rfl
  case r7 => exact State.secOp_refused serves (by decide) rfl rfl
  case r8 => exact State.secOp_refused serves (by decide) rfl rfl
  case r9 => exact State.secOp_refused serves (by decide) rfl rfl
  case a1 => exact State.secOp_acts serves (by decide) rfl (by decide)
  case a2 => exact State.secOp_acts serves (by decide) rfl (by decide)
  case a3 => exact State.secOp_acts serves (by decide) rfl (by decide)
  case a4 => exact State.secOp_acts serves (by decide) rfl (by decide)
  case a5 => exact State.secOp_acts serves (by decide) rfl (by decide)
  case a6 => exact State.secOp_acts serves (by decide) rfl (by decide)
  case a9 => exact State.secOp_acts serves (by decide) rfl (by decide)
  case destroy =>
    have idle := State.secChecks_idle 8 (.inr rfl) passes
    refine (State.secOp_keys serves (by decide) rfl (.inr rfl) passes (fun import_ => absurd import_ (by decide))
      (s.secAct_destroy.trans (if_neg (by rw [State.destroySlots, plain]; decide)))).trans ?_
    rw [State.update_keysCommit, State.update_secNoted, idle]
    rfl
  case destroyLater =>
    exact State.secOp_keys serves (by decide) rfl (.inr rfl) passes (fun import_ => absurd import_ (by decide))
      (s.secAct_destroy.trans (if_pos journalled))
  case badRecord =>
    have eq := State.secCmd_eq (op := 7) (by decide) rfl passes ((if_pos ⟨rfl, rfl⟩).trans bad)
    rw [exec_keyImport, State.secOp, State.access_serves s _ true _ serves, eq]
    exact congrArg Host.Outcome.next (if_pos (State.firstBadKey_status bad))
  case load =>
    refine (State.secOp_keys serves (by decide) rfl (.inl rfl) passes (fun _ => good)
      (s.secAct_import.trans (if_neg (by rw [State.importKeys, State.importRecords, plain]; decide)))).trans ?_
    rw [State.update_keysCommit, State.update_secNoted, idle]
    rfl
  case loadLater =>
    exact State.secOp_keys serves (by decide) rfl (.inl rfl) passes (fun _ => good) (s.secAct_import.trans (if_pos journalled))
  case slots =>
    obtain ⟨state, keys⟩ := s.slotsClearTo_cleared 63 i.val nonzero (Nat.le_of_lt_succ i.isLt)
    refine ⟨?_, ?_, state, keys⟩
    · exact (s.state_slotClear i.val i.val).trans (if_pos rfl)
    · exact (s.keys_slotClear i.val i.val).trans (if_pos rfl)

end Sys2Proof.Machine

/-! Messages over Cirrus: register requests, events, errors and the relay (R422 to R426). -/

namespace Sys2Proof.Machine

section Bytes

theorem length_le (n v : Nat) : (le n v).length = n := by
  induction n generalizing v with
  | zero => rfl
  | succ n ih => exact congrArg (· + 1) (ih (v / 256))

theorem byteAt_append_right (a b : List Byte) (i : Nat) : byteAt (a ++ b) (a.length + i) = byteAt b i := by
  unfold byteAt
  rw [List.getD_append_right _ _ _ _ (Nat.le_add_right _ _), Nat.add_sub_cancel_left]

theorem leAt_append_right (a b : List Byte) (i n : Nat) : leAt (a ++ b) (a.length + i) n = leAt b i n := by
  induction n generalizing i with
  | zero => rfl
  | succ n ih => rw [leAt, leAt, byteAt_append_right, Nat.add_assoc, ih]

theorem leAt_cons (x : Byte) (b : List Byte) (i n : Nat) : leAt (x :: b) (i + 1) n = leAt b i n := by
  rw [Nat.add_comm]
  exact leAt_append_right [x] b i n

/-- A number reads back from its bytes. -/
theorem leAt_le_append (n v : Nat) (b : List Byte) : leAt (le n v ++ b) 0 n = v % 256 ^ n := by
  induction n generalizing v with
  | zero => exact (Nat.mod_one v).symm
  | succ n ih =>
    rw [le, List.cons_append, leAt, leAt_cons, ih, Nat.pow_succ', Nat.mod_mul]
    rfl

theorem leAt_le (n v : Nat) : leAt (le n v) 0 n = v % 256 ^ n := by simpa using leAt_le_append n v []

/-- A word of a block reads back from the block's bytes. -/
theorem leAt_words (l : List Word) (i : Nat) (within : i < l.length) : leAt (l.flatMap (fun w => le 4 w.toNat)) (4 * i) 4 = (l.getD i 0).toNat := by
  induction l generalizing i with
  | nil => exact absurd within (Nat.not_lt_zero i)
  | cons w r ih =>
    rw [List.flatMap_cons]
    cases i with
    | zero => exact (leAt_le_append 4 w.toNat _).trans (Nat.mod_eq_of_lt w.isLt)
    | succ i =>
      have behind : 4 * (i + 1) = (le 4 w.toNat).length + 4 * i := by rw [length_le]; omega
      rw [behind, leAt_append_right, ih i (Nat.lt_of_succ_lt_succ within)]
      rfl

theorem length_words (l : List Word) : (l.flatMap (fun w => le 4 w.toNat)).length = 4 * l.length := by
  induction l with
  | nil => rfl
  | cons w r ih => rw [List.flatMap_cons, List.length_append, length_le, ih, List.length_cons]; omega

end Bytes

section Envelope

/-- A message whose fields fit those of its envelope (R424). -/
structure Msg.Fits (m : Msg) : Prop where
  op : m.op < 256
  src : m.src < 128
  tag : m.tag < 65536
  status : m.status < 256
  addr : m.addr < 2 ^ 32

/-- The flags byte of a message (R424). -/
def Msg.flags (m : Msg) : Nat := (if m.rsp then 1 else 0) + (if m.auth then 2 else 0)

/-- The sixteen bytes of a message's envelope (R424). -/
def Msg.head (m : Msg) : List Nat :=
  [m.op, m.flags, m.dst % 128, m.src % 128, m.tag, m.tag / 256, m.status, 0, m.addr, m.addr / 256, m.addr / 256 / 256, m.addr / 256 / 256 / 256,
    m.body.length, m.body.length / 256, 0, 0]

theorem Msg.bytes_eq (m : Msg) : m.bytes = m.head.map (BitVec.ofNat 8) ++ m.body := rfl

theorem byteAt_map_ofNat (l : List Nat) (b : List Byte) (i : Nat) (within : i < l.length) :
    byteAt (l.map (BitVec.ofNat 8) ++ b) i = l.getD i 0 % 256 := by
  have inside : i < (l.map (BitVec.ofNat 8)).length := by rwa [List.length_map]
  unfold byteAt
  rw [List.getD_append _ _ _ _ inside, List.getD_eq_getElem _ _ inside, List.getD_eq_getElem _ _ within, List.getElem_map]
  rfl

theorem Msg.byteAt_bytes (m : Msg) (i : Nat) (within : i < 16) : byteAt m.bytes i = m.head.getD i 0 % 256 := by
  rw [Msg.bytes_eq, byteAt_map_ofNat _ _ _ within]

theorem Msg.ofBytes_bytes {m : Msg} (fits : m.Fits) : Msg.ofBytes m.bytes = { m with dst := m.dst % 128 } := by
  obtain ⟨hop, hsrc, htag, hstatus, haddr⟩ := fits
  have flags : bitAt (m.flags % 256) 0 = m.rsp ∧ bitAt (m.flags % 256) 1 = m.auth := by
    unfold Msg.flags
    cases m.rsp <;> cases m.auth <;> exact ⟨rfl, rfl⟩
  have body : m.bytes.drop 16 = m.body := rfl
  have src : m.src % 128 % 256 % 128 = m.src := by omega
  have dst : m.dst % 128 % 256 % 128 = m.dst % 128 := by omega
  have tag : m.tag % 256 + 256 * (m.tag / 256 % 256 + 256 * 0) = m.tag := by omega
  have addr : m.addr % 256 + 256 * (m.addr / 256 % 256 + 256 * (m.addr / 256 / 256 % 256 + 256 * (m.addr / 256 / 256 / 256 % 256 + 256 * 0))) =
      m.addr := by omega
  unfold Msg.ofBytes
  simp (disch := decide) only [leAt, Msg.byteAt_bytes]
  show (⟨m.op % 256, bitAt (m.flags % 256) 0, bitAt (m.flags % 256) 1, m.dst % 128 % 256 % 128, m.src % 128 % 256 % 128,
    m.tag % 256 + 256 * (m.tag / 256 % 256 + 256 * 0), m.status % 256,
    m.addr % 256 + 256 * (m.addr / 256 % 256 + 256 * (m.addr / 256 / 256 % 256 + 256 * (m.addr / 256 / 256 / 256 % 256 + 256 * 0))),
    m.bytes.drop 16⟩ : Msg) = _
  rw [flags.1, flags.2, dst, src, tag, addr, body, Nat.mod_eq_of_lt hop, Nat.mod_eq_of_lt hstatus]

/-- A message of a known opcode with a body that BLEN can give is taken (R424). -/
theorem Msg.not_malformed {m : Msg} (fits : m.Fits) (known : opKnown m.op = true) (short : m.body.length ≤ 8192) : malformed m.bytes = false := by
  have long : m.bytes.length = 16 + m.body.length := by
    rw [Msg.bytes_eq, List.length_append, List.length_map]
    rfl
  have op : byteAt m.bytes 0 = m.op := congrArg Msg.op (Msg.ofBytes_bytes fits)
  have flags : byteAt m.bytes 1 < 4 := by
    rw [Msg.byteAt_bytes _ _ (by decide)]
    show m.flags % 256 < 4
    unfold Msg.flags
    cases m.rsp <;> cases m.auth <;> decide
  have blen : leAt m.bytes 12 2 = m.body.length := by
    simp (disch := decide) only [leAt, Msg.byteAt_bytes]
    show m.body.length % 256 + 256 * (m.body.length / 256 % 256 + 256 * 0) = _
    omega
  unfold malformed
  rw [long, op, blen, known]
  simp [flags, short]

end Envelope

section Requests

variable (s : State)

/-- A request to this hub (R424). -/
def State.request (s : State) (op src tag addr : Nat) (body : List Byte) : Msg :=
  { op := op, rsp := false, auth := false, dst := s.hub, src := src, tag := tag, status := 0, addr := addr, body := body }

theorem State.fits_request {op : Nat} (small : op < 256) (src : Fin 128) (tag : Fin 65536) (addr : Word) (body : List Byte) :
    (s.request op src.val tag.val addr.toNat body).Fits :=
  { op := small, src := src.isLt, tag := tag.isLt, status := Nat.zero_lt_succ _, addr := addr.isLt }

variable {s} (listens : s.listening = true)
include listens

/-- A message that has come over Cirrus to this hub is served. -/
theorem State.message_served {op src tag addr : Nat} {body : List Byte} (hit : Nat) (fits : (s.request op src tag addr body).Fits)
    (known : opKnown op = true) (short : body.length ≤ 8192) :
    s.message 0 op false src tag addr body hit = s.serve 0 { s.request op src tag addr body with dst := s.hub % 128 } hit := by
  have taken : malformed (s.request op src tag addr body).bytes = false := Msg.not_malformed fits known short
  have arrives : s.message 0 op false src tag addr body hit = s.arrive 0 (s.request op src tag addr body).bytes hit :=
    (if_neg (by rw [listens]; decide)).trans (if_pos rfl)
  rw [arrives, State.arrive, taken, if_neg Bool.false_ne_true, Msg.ofBytes_bytes fits]
  rfl

/-- A register request whose accesses give an answer is answered with it (R424). -/
theorem State.message_register {op src tag addr : Nat} {body : List Byte} (hit : Nat) (fits : (s.request op src tag addr body).Fits)
    (isRegister : 1 ≤ op ∧ op ≤ 5) (short : body.length ≤ 8192) {r : State × Reply} {st : Nat} {b : List Byte}
    (acts : s.register (s.request op src tag addr body) hit = r) (answers : r.2 = some (st, b)) :
    s.message 0 op false src tag addr body hit = r.1.reply 0 (s.request op src tag addr body) st b := by
  subst acts
  have known : opKnown op = true := by
    obtain ⟨low, high⟩ := isRegister
    simp [opKnown, low, show op ≤ 8 by omega]
  have same : s.register { s.request op src tag addr body with dst := s.hub % 128 } hit = s.register (s.request op src tag addr body) hit := rfl
  rw [State.message_served listens hit fits known short]
  refine (if_neg Bool.false_ne_true).trans ((if_pos isRegister).trans ?_)
  unfold State.serveRegister
  dsimp only
  rw [same, answers]
  rfl

end Requests

section Registers

variable (s : State) (src tag addr hit : Nat)

theorem State.register_rd32 : s.register (s.request opRd32 src tag addr []) hit = s.readWord hit addr := rfl

theorem State.register_write {op : Nat} (isWrite : op = opWr32 ∨ op = opWrc32) (data : Word) :
    s.register (s.request op src tag addr (le 4 data.toNat)) hit = s.writeWord hit addr data.toNat := by
  have word : leAt (le 4 data.toNat) 0 4 = data.toNat := (leAt_le 4 _).trans (Nat.mod_eq_of_lt data.isLt)
  have notRead : op ≠ opRd32 := by obtain rfl | rfl := isWrite <;> decide
  refine (if_neg notRead).trans ((if_pos isWrite).trans ?_)
  show s.writeWord hit addr (leAt (le 4 data.toNat) 0 4) = _
  rw [word]

/-- The checks of a block of `n` words (R425). -/
def blockChecks (badBody few outside : Bool) : List (Nat × Bool) := [(St.VALUE, badBody), (St.RANGE, few), (St.ADDR, outside)]

theorem firstStatus_blockChecks (badBody few outside : Bool) : firstStatus (blockChecks badBody few outside) =
    if outside then St.ADDR else if badBody then St.VALUE else if few then St.RANGE else St.OK := by
  cases badBody <;> cases few <;> cases outside <;> rfl

theorem State.register_rdblk (n : Nat) (small : n < 65536) : s.register (s.request opRdblk src tag addr (le 2 n)) hit =
    requestChecked s (blockChecks false (decide (n < 1) || decide (64 < n)) (!oneRange addr n))
      (fun s => s.block ((blockAddrs addr n).map (fun x s => s.readWord hit x))) := by
  have count : leAt (le 2 n) 0 2 = n := (leAt_le 2 n).trans (Nat.mod_eq_of_lt small)
  show requestChecked s (blockChecks false (decide (leAt (le 2 n) 0 2 < 1) || decide (64 < leAt (le 2 n) 0 2)) (!oneRange addr (leAt (le 2 n) 0 2)))
    (fun s => s.block ((blockAddrs addr (leAt (le 2 n) 0 2)).map (fun x s => s.readWord hit x))) = _
  rw [count]

theorem State.register_wrblk (l : List Word) : s.register (s.request opWrblk src tag addr (l.flatMap (fun w => le 4 w.toNat))) hit =
    requestChecked s (blockChecks false (decide (l.length < 1) || decide (64 < l.length)) (!oneRange addr l.length))
      (fun s => s.block ((List.range l.length).map (fun i s => s.writeWord hit (addr + 4 * i) (l.getD i 0).toNat))) := by
  have whole : ((l.flatMap (fun w => le 4 w.toNat)).length % 4 != 0) = false := by rw [length_words, Nat.mul_mod_right]; rfl
  have count : (l.flatMap (fun w => le 4 w.toNat)).length / 4 = l.length := by rw [length_words]; omega
  have words : (List.range l.length).map (fun i (s : State) => s.writeWord hit (addr + 4 * i) (leAt (l.flatMap (fun w => le 4 w.toNat)) (4 * i) 4)) =
      (List.range l.length).map (fun i s => s.writeWord hit (addr + 4 * i) (l.getD i 0).toNat) :=
    List.map_congr_left fun i hi => by rw [leAt_words l i (List.mem_range.1 hi)]
  rw [← words, ← count, ← whole]
  rfl

theorem requestChecked_refused {s : State} {checks : List (Nat × Bool)} {f : State → State × Reply} {st : Nat} (refused : firstStatus checks = st)
    (bad : st ≠ St.OK) : requestChecked s checks f = (s, some (st, [])) := by
  subst refused
  exact if_neg bad

theorem requestChecked_ok {s : State} {checks : List (Nat × Bool)} {f : State → State × Reply} (passes : firstStatus checks = St.OK) :
    requestChecked s checks f = f s := if_pos passes

end Registers

section Commands

variable (s : State)

/-- A message of opcode `op` that has come over Cirrus, with its answers. -/
def State.told (s : State) (op src tag addr : Nat) (body : List Byte) (hit : Nat) : Res := .next (s.calm.message 0 op false src tag addr body hit).settled

theorem exec_rd32 (src : Fin 128) (tag : Fin 65536) (addr : Word) (hit : Fin 3) :
    exec (.rd32 0 src tag addr hit) s = s.told opRd32 src.val tag.val addr.toNat [] hit.val := rfl

theorem exec_wr32 (src : Fin 128) (tag : Fin 65536) (addr data : Word) (hit : Fin 3) :
    exec (.wr32 0 src tag addr data hit) s = s.told opWr32 src.val tag.val addr.toNat (le 4 data.toNat) hit.val := rfl

theorem exec_wrc32 (src : Fin 128) (tag : Fin 65536) (addr data : Word) (hit : Fin 3) :
    exec (.wrc32 0 src tag addr data hit) s = s.told opWrc32 src.val tag.val addr.toNat (le 4 data.toNat) hit.val := rfl

theorem exec_rdblk (src : Fin 128) (tag : Fin 65536) (addr : Word) (n : Fin 65536) (hit : Fin 3) :
    exec (.rdblk 0 src tag addr n hit) s = s.told opRdblk src.val tag.val addr.toNat (le 2 n.val) hit.val := rfl

theorem exec_wrblk (src : Fin 128) (tag : Fin 65536) (addr : Word) (l : List Word) (hit : Fin 3) :
    exec (.wrblk 0 src tag addr l hit) s = s.told opWrblk src.val tag.val addr.toNat (l.flatMap (fun w => le 4 w.toNat)) hit.val := rfl

theorem exec_event (src : Fin 128) (w : List Byte) : exec (.event 0 src w) s = s.told opEvent src.val 0 0 w 0 := rfl
theorem exec_err (src : Fin 128) (w : List Byte) : exec (.err 0 src w) s = s.told opErr src.val 0 0 w 0 := rfl

/-- The hub without the oldest message waiting at the relay (R422). -/
def State.relayed (s : State) (l : List TunUnit) : State := s.calm.modTun (fun t => { t with cirrusIn := l })

theorem exec_cirrusRelay_oldest {s : State} {u : TunUnit} {l : List TunUnit} (hit : Fin 3) (oldest : s.tun.cirrusIn = u :: l) :
    exec (.cirrusRelay hit) s = .next ((s.relayed l).relay u.bytes hit.val).settled := by
  show execCirrusRelay hit s = _
  unfold execCirrusRelay State.settling
  dsimp only
  rw [oldest]
  rfl

theorem exec_cirrusRelay_none {s : State} (hit : Fin 3) (empty : s.tun.cirrusIn = []) : exec (.cirrusRelay hit) s = .next s.calm := by
  show execCirrusRelay hit s = _
  unfold execCirrusRelay State.settling
  dsimp only
  rw [empty]
  exact congrArg Host.Outcome.next (State.settled_of_quiet s.calm rfl)

/-- A hub that does not run receives nothing. -/
theorem State.message_deaf {s : State} (deaf : s.listening = false) (path op : Nat) (auth : Bool) (src tag addr : Nat) (body : List Byte) (hit : Nat) :
    s.message path op auth src tag addr body hit = s := if_pos deaf

theorem State.message_deaf_settled {s : State} (deaf : s.listening = false) (path op : Nat) (auth : Bool) (src tag addr : Nat) (body : List Byte) (hit : Nat) :
    (Host.Outcome.next (s.calm.message path op auth src tag addr body hit).settled : Res) = .next s.calm := by
  rw [State.message_deaf (s := s.calm) deaf, State.settled_of_quiet s.calm rfl]

variable {s} (listens : s.listening = true)
include listens

/-- A register request that is answered, and what the other blocks then do. -/
theorem State.told_register {op : Nat} (isRegister : 1 ≤ op ∧ op ≤ 5) (src : Fin 128) (tag : Fin 65536) (addr : Word) {body : List Byte} (hit : Fin 3)
    (short : body.length ≤ 8192) {r : State × Reply} (acts : s.calm.register (s.calm.request op src.val tag.val addr.toNat body) hit.val = r)
    {st : Nat} {b : List Byte} (answers : r.2 = some (st, b)) : s.told op src.val tag.val addr.toNat body hit.val =
      .next (r.1.reply 0 (s.calm.request op src.val tag.val addr.toNat body) st b).settled :=
  congrArg (fun t => Host.Outcome.next (State.settled t))
    (State.message_register (s := s.calm) listens hit.val (s.calm.fits_request (by omega) src tag addr body) isRegister short acts answers)

/-- A message that asks for nothing. -/
theorem State.told_posted {op : Nat} (small : op < 256) (known : opKnown op = true) (src : Fin 128) {body : List Byte} (short : body.length ≤ 8192) :
    s.told op src.val 0 0 body 0 = .next (s.calm.serve 0 { s.calm.request op src.val 0 0 body with dst := s.calm.hub % 128 } 0).settled :=
  congrArg (fun t => Host.Outcome.next (State.settled t))
    (State.message_served (s := s.calm) listens 0 (s.calm.fits_request small src 0 0 body) known short)

end Commands

section Relay

variable {s : State} {b : List Byte} (hit : Nat)

theorem State.relay_malformed (bad : malformed b = true) : s.relay b hit = if (Msg.ofBytes b).asks then s.respond 0 (Msg.ofBytes b) St.VALUE [] else s := by
  unfold State.relay
  dsimp only
  rw [if_pos bad]
  rfl

variable (good : malformed b = false)
include good

theorem State.relay_here (here : (Msg.ofBytes b).dst = s.hub) : s.relay b hit = s.serve 0 (Msg.ofBytes b) hit := by
  unfold State.relay
  dsimp only
  rw [good, if_neg Bool.false_ne_true, if_pos here]

variable (elsewhere : (Msg.ofBytes b).dst ≠ s.hub)
include elsewhere

theorem State.relay_on (reached : s.cirrusReaches (Msg.ofBytes b).dst = true) : s.relay b hit = s.cirrusOut (Msg.ofBytes b) := by
  unfold State.relay
  dsimp only
  rw [good, if_neg Bool.false_ne_true, if_neg elsewhere, if_pos reached]

theorem State.relay_unreachable (unreached : s.cirrusReaches (Msg.ofBytes b).dst = false) (asks : (Msg.ofBytes b).asks = true) :
    s.relay b hit = s.respond 0 (Msg.ofBytes b) St.ADDR [] := by
  unfold State.relay
  dsimp only
  rw [good, if_neg Bool.false_ne_true, if_neg elsewhere, unreached, if_neg Bool.false_ne_true]
  exact if_pos asks

end Relay

/-- Settles O51: the register requests by their answers, the blocks, events and errors, the relay, and a hub that does not run. -/
theorem cirrusMessages : Obligations.CirrusMessages := by
  refine ⟨fun s src tag addr data hit listens => ⟨fun st b answers => ?read, fun st b answers => ?confirmed, fun b answers => ?posted,
      fun st b answers bad => ?postedBad⟩,
    fun s src tag addr n hit listens => ⟨fun count within => ?rdRange, fun outside => ?rdOutside, fun low high within => fun st b answers => ?rdBlock⟩,
    fun s src tag addr l hit listens => ⟨?wrEmpty, fun low high within => fun st b answers => ?wrBlock⟩,
    fun s src w listens short => ⟨?event, ?error⟩,
    fun s b l u hit oldest isMsg => ⟨fun bad asks => ?askBad, fun bad posted => ?discard, fun good here => ?here, fun good other reached => ?onward,
      fun good other unreached asks => ?unreachable⟩,
    fun s hit empty => ?idle,
    fun s p src tag addr data hit deaf => ⟨?deafRead, ?deafWrite, ?deafEvent⟩⟩
  case read => exact State.told_register listens (by decide) src tag addr hit (Nat.zero_le _) (s.calm.register_rd32 ..) answers
  case confirmed =>
    exact State.told_register listens (by decide) src tag addr hit (by rw [length_le]; decide) (s.calm.register_write _ _ _ _ (.inr rfl) data) answers
  case posted =>
    exact State.told_register listens (by decide) src tag addr hit (by rw [length_le]; decide) (s.calm.register_write _ _ _ _ (.inl rfl) data) answers
  case postedBad =>
    refine (State.told_register listens (by decide) src tag addr hit (by rw [length_le]; decide) (s.calm.register_write _ _ _ _ (.inl rfl) data)
      answers).trans ?_
    exact congrArg (fun t => Host.Outcome.next (State.settled t)) ((if_pos rfl).trans (if_neg bad))
  case rdRange =>
    have few : (decide (n.val < 1) || decide (64 < n.val)) = true := by simp; omega
    have refused : firstStatus (blockChecks false (decide (n.val < 1) || decide (64 < n.val)) (!oneRange addr.toNat n.val)) = St.RANGE := by
      rw [few, within]
      rfl
    exact State.told_register listens (by decide) src tag addr hit (by rw [length_le]; decide)
      ((s.calm.register_rdblk _ _ _ _ n.val n.isLt).trans (requestChecked_refused refused (by decide))) rfl
  case rdOutside =>
    have refused : firstStatus (blockChecks false (decide (n.val < 1) || decide (64 < n.val)) (!oneRange addr.toNat n.val)) = St.ADDR := by
      rw [firstStatus_blockChecks, outside]
      rfl
    exact State.told_register listens (by decide) src tag addr hit (by rw [length_le]; decide)
      ((s.calm.register_rdblk _ _ _ _ n.val n.isLt).trans (requestChecked_refused refused (by decide))) rfl
  case rdBlock =>
    have enough : (decide (n.val < 1) || decide (64 < n.val)) = false := by
      rw [decide_eq_false (Nat.not_lt.2 low), decide_eq_false (Nat.not_lt.2 high)]
      rfl
    have passes : firstStatus (blockChecks false (decide (n.val < 1) || decide (64 < n.val)) (!oneRange addr.toNat n.val)) = St.OK := by
      rw [enough, within]
      rfl
    exact State.told_register listens (by decide) src tag addr hit (by rw [length_le]; decide)
      ((s.calm.register_rdblk _ _ _ _ n.val n.isLt).trans (requestChecked_ok passes)) answers
  case wrEmpty =>
    exact State.told_register listens (by decide) src tag addr hit (Nat.zero_le _)
      ((s.calm.register_wrblk _ _ _ _ []).trans (requestChecked_refused (by rfl) (by decide))) rfl
  case wrBlock =>
    have enough : (decide (l.length < 1) || decide (64 < l.length)) = false := by
      rw [decide_eq_false (Nat.not_lt.2 low), decide_eq_false (Nat.not_lt.2 high)]
      rfl
    have passes : firstStatus (blockChecks false (decide (l.length < 1) || decide (64 < l.length)) (!oneRange addr.toNat l.length)) = St.OK := by
      rw [enough, within]
      rfl
    have short : (l.flatMap (fun w => le 4 w.toNat)).length ≤ 8192 := by rw [length_words]; omega
    exact State.told_register listens (by decide) src tag addr hit short
      ((s.calm.register_wrblk _ _ _ _ l).trans (requestChecked_ok passes)) answers
  case event =>
    rw [exec_event, State.told_posted listens (by decide) (by decide) src short]
    exact congrArg Host.Outcome.next (State.settled_of_quiet _ rfl)
  case error => exact State.told_posted listens (by decide) (by decide) src short
  case askBad =>
    subst isMsg
    rw [exec_cirrusRelay_oldest hit oldest, State.relay_malformed _ bad, asks]
    rfl
  case discard =>
    subst isMsg
    rw [exec_cirrusRelay_oldest hit oldest, State.relay_malformed _ bad, posted]
    exact congrArg Host.Outcome.next (State.settled_of_quiet _ rfl)
  case here =>
    subst isMsg
    rw [exec_cirrusRelay_oldest hit oldest, State.relay_here (s := s.relayed l) _ good here]
    rfl
  case onward =>
    subst isMsg
    rw [exec_cirrusRelay_oldest hit oldest, State.relay_on (s := s.relayed l) _ good other reached]
    rfl
  case unreachable =>
    subst isMsg
    rw [exec_cirrusRelay_oldest hit oldest, State.relay_unreachable (s := s.relayed l) _ good other unreached asks]
    rfl
  case idle => exact exec_cirrusRelay_none hit empty
  case deafRead => exact State.message_deaf_settled deaf ..
  case deafWrite => exact State.message_deaf_settled deaf ..
  case deafEvent => exact State.message_deaf_settled deaf ..

end Sys2Proof.Machine

/-! What a reset, and the loss of a link, leave: the test that was asked for, the boot identities, the life-cycle state and the configuration of
the tamper sources. Every operation on the way writes other registers only, so one value stays the same through all of them. -/

namespace Sys2Proof.Machine

/-- The fields that stay. -/
def lastingFields : List (Fin 1024) := [SEC_STATUS.LC.id, SEC_TAMPCFG.EN.id]

/-- What stays. -/
def State.lasting (s : State) : Bool × List (List Byte) × Nat × Nat := (s.chip.test, s.chip.bids, s.rd SEC_STATUS.LC, s.rd SEC_TAMPCFG.EN)

section Atoms

variable (s : State)

theorem State.lasting_of {s t : State} (chip : t.chip = s.chip) (lc : t.rd SEC_STATUS.LC = s.rd SEC_STATUS.LC)
    (en : t.rd SEC_TAMPCFG.EN = s.rd SEC_TAMPCFG.EN) : t.lasting = s.lasting := by
  unfold State.lasting
  rw [chip, lc, en]

@[simp] theorem State.lasting_wr (f : Field) (v i : Nat) (other : f.id ∉ lastingFields) : (s.wr f v i).lasting = s.lasting := by
  simp only [lastingFields, List.mem_cons, List.not_mem_nil, or_false, not_or] at other
  exact State.lasting_of rfl (State.rd_wr_ne _ _ _ _ _ _ other.1) (State.rd_wr_ne _ _ _ _ _ _ other.2)

@[simp] theorem State.lasting_setBit (f : Field) (b : Bool) (i : Nat) (other : f.id ∉ lastingFields) : (s.setBit f b i).lasting = s.lasting :=
  s.lasting_wr f _ i other

@[simp] theorem State.lasting_wrBit (f : Field) (k : Nat) (b : Bool) (i : Nat) (other : f.id ∉ lastingFields) : (s.wrBit f k b i).lasting = s.lasting :=
  s.lasting_wr f _ i other

@[simp] theorem State.lasting_bump (f : Field) (i n : Nat) (other : f.id ∉ lastingFields) : (s.bump f i n).lasting = s.lasting :=
  s.lasting_wr f _ i other

@[simp] theorem State.lasting_raise (id cap : Nat) : (s.raise id cap).lasting = s.lasting :=
  State.lasting_of (s.chip_raise id cap) (State.rd_raise _ _ _ _ _ (by decide)) (State.rd_raise _ _ _ _ _ (by decide))

@[simp] theorem State.lasting_raiseOnce (id key cap : Nat) : (s.raiseOnce id key cap).lasting = s.lasting :=
  State.lasting_of (s.chip_raiseOnce id key cap) (State.rd_raiseOnce _ _ _ _ _ _ (by decide)) (State.rd_raiseOnce _ _ _ _ _ _ (by decide))

@[simp] theorem State.lasting_emit (o : Out) : (s.emit o).lasting = s.lasting := rfl
@[simp] theorem State.lasting_answer (c : Nat) : (s.answer c).lasting = s.lasting := rfl
@[simp] theorem State.lasting_drew : s.drew.lasting = s.lasting := rfl
@[simp] theorem State.lasting_tell (kind p : Nat) : (s.tell kind p).lasting = s.lasting := rfl
@[simp] theorem State.lasting_modSw (g : Sw → Sw) : (s.modSw g).lasting = s.lasting := rfl
@[simp] theorem State.lasting_modTun (g : Tun → Tun) : (s.modTun g).lasting = s.lasting := rfl
@[simp] theorem State.lasting_modTsu (g : Tsu → Tsu) : (s.modTsu g).lasting = s.lasting := rfl
@[simp] theorem State.lasting_modPcb (g : Pcb → Pcb) : (s.modPcb g).lasting = s.lasting := rfl
@[simp] theorem State.lasting_modLk (p : Nat) (g : Link → Link) : (s.modLk p g).lasting = s.lasting := rfl
@[simp] theorem State.lasting_modDp (d : Nat) (g : Dp → Dp) : (s.modDp d g).lasting = s.lasting := rfl
@[simp] theorem State.lasting_modTc (n : Nat) (g : Tc → Tc) : (s.modTc n g).lasting = s.lasting := rfl
@[simp] theorem State.lasting_modFld (g : Fld → Fld) : (s.modFld g).lasting = s.lasting := rfl
@[simp] theorem State.lasting_modSec (g : Sec → Sec) : (s.modSec g).lasting = s.lasting := rfl

/-- A step that leaves what stays alone leaves it alone however often it is taken. -/
theorem State.lasting_foldl {α : Type} (g : State → α → State) (step : ∀ s a, (g s a).lasting = s.lasting) (l : List α) (s : State) :
    (l.foldl g s).lasting = s.lasting := foldl_keeps State.lasting g step l s

end Atoms

section Messages

variable (s : State)

@[simp] theorem State.lasting_cirrusOut (m : Msg) : (s.cirrusOut m).lasting = s.lasting := by
  show (s.cirrusOut m).offWire.lasting = s.offWire.lasting
  rw [State.offWire_cirrusOut]

@[simp] theorem State.lasting_svcSend (dst service : Nat) (content : List Byte) : (s.svcSend dst service content).lasting = s.lasting :=
  s.lasting_cirrusOut _

end Messages

section Outputs

variable (s : State)

@[simp] theorem State.lasting_refreshOutput (k : Nat) : (s.refreshOutput k).lasting = s.lasting := by
  unfold State.refreshOutput
  dsimp only
  rw [State.lasting_wrBit _ _ _ _ _ (by decide), State.lasting_wrBit _ _ _ _ _ (by decide)]
  split <;> rfl

@[simp] theorem State.lasting_refreshOutputs : s.refreshOutputs.lasting = s.lasting := State.lasting_foldl _ State.lasting_refreshOutput _ s

@[simp] theorem State.lasting_producePoint (n v : Nat) : (s.producePoint n v).lasting = s.lasting := by
  have point : (s.setPoint n v).lasting = s.lasting := State.lasting_foldl _ State.lasting_refreshOutput _ _
  unfold State.producePoint
  dsimp only
  split <;> exact point

theorem State.lasting_requalifyInputs : s.requalifyInputs.lasting = s.lasting := by
  refine State.lasting_foldl _ (fun s i => ?_) _ s
  unfold State.diWrite
  split
  · exact State.lasting_producePoint ..
  · rfl

theorem State.lasting_safeLatch (cause : Field) (other : cause.id ∉ lastingFields) : (s.safeLatch cause).lasting = s.lasting := by
  unfold State.safeLatch
  dsimp only
  split
  · exact State.lasting_wr _ _ _ _ other
  · rw [State.lasting_refreshOutputs, State.lasting_raise, State.lasting_wr _ _ _ _ (by decide), State.lasting_wr _ _ _ _ other]

end Outputs

section Fallback

variable (s : State)

theorem State.lasting_sendCaps (n : Nat) : (s.sendCaps n).lasting = s.lasting := by
  unfold State.sendCaps State.pdOwn State.pdSend
  dsimp only
  split <;> rfl

theorem State.lasting_fallbackRefresh (n : Nat) (doze : Bool) : (s.fallbackRefresh n doze).lasting = s.lasting := by
  have told (f : State → State) (keeps : ∀ t, (f t).lasting = t.lasting) : (s.tcTold n f).lasting = s.lasting := by
    unfold State.tcTold
    dsimp only
    split
    · exact keeps s
    · exact (State.lasting_svcSend ..).trans (keeps s)
  unfold State.fallbackRefresh
  dsimp only
  split
  · rfl
  · refine told _ fun t => ?_
    split
    · rw [State.lasting_sendCaps, State.lasting_raise, State.lasting_setBit _ _ _ _ (by decide)]
    · rw [State.lasting_raise, State.lasting_setBit _ _ _ _ (by decide)]

@[simp] theorem State.lasting_tcPolicyChange : s.tcPolicyChange.lasting = s.lasting :=
  State.lasting_foldl _ (fun s n => s.lasting_fallbackRefresh n false) _ s

end Fallback

section Reset

variable (s : State) (cause : Nat)

/-- What every reset leaves in the registers, the cause apart (R397). -/
theorem keptIds_of_kept {k : Nat} (kept : (zenithIds ++ otpIds).contains k = true) : (keptIds cause).contains k = true := by
  rw [List.contains_iff_mem] at kept ⊢
  unfold keptIds
  rw [List.append_assoc, List.append_assoc]
  exact List.mem_append_left _ kept

theorem Field.key_mod (f : Field) (i : Nat) : f.key i % 1024 = f.id.val := by
  unfold Field.key
  rw [Nat.add_mul_mod_self_left, Nat.mod_eq_of_lt f.id.isLt]

theorem State.rd_clearDies (f : Field) (i : Nat) (kept : (zenithIds ++ otpIds).contains f.id.val = true) : (s.clearDies cause).rd f i = s.rd f i := by
  have stays : (keptIds cause).contains (f.key i % 1024) = true := by
    rw [Field.key_mod]
    exact keptIds_of_kept cause kept
  show NMap.get (NMap.keep s.regs (fun k => (keptIds cause).contains (k % 1024))) 0 (f.key i) ^^^ f.resetAt i = _
  rw [NMap.get_keep, if_pos stays]
  rfl

theorem State.lasting_resetBy : (s.resetBy cause).lasting = s.lasting := by
  unfold State.resetBy State.fieldAlone
  dsimp only
  rw [State.lasting_wr _ _ _ _ (by decide), State.lasting_wr _ _ _ _ (by decide), State.lasting_tcPolicyChange,
    State.lasting_safeLatch _ _ (by decide)]
  unfold State.lasting
  rw [State.rd_clearDies _ _ _ _ (by decide), State.rd_clearDies _ _ _ _ (by decide)]
  rfl

end Reset

section Switch

variable (s : State)

@[simp] theorem State.lasting_recomputePool : s.recomputePool.lasting = s.lasting := by
  unfold State.recomputePool
  simp (disch := decide) only [State.lasting_wr]

@[simp] theorem State.lasting_swDrop (port cause : Nat) : (s.swDrop port cause).lasting = s.lasting := by
  unfold State.swDrop
  rw [State.lasting_raiseOnce, State.lasting_bump _ _ _ _ (by decide)]

@[simp] theorem State.lasting_freeCells (l : List Nat) : (s.freeCells l).lasting = s.lasting := rfl

@[simp] theorem State.lasting_giveCredit (p v n epoch : Nat) : (s.giveCredit p v n epoch).lasting = s.lasting := by
  unfold State.giveCredit
  split <;> rfl

theorem State.lasting_freeFrame (f : SwFrame) : (s.freeFrame f).lasting = s.lasting := State.lasting_giveCredit ..

@[simp] theorem State.lasting_releaseCopy (c : Copy) : (s.releaseCopy c).lasting = s.lasting := by
  unfold State.releaseCopy
  dsimp only
  split <;> simp (disch := decide) only [State.lasting_freeFrame, State.lasting_modSw, State.lasting_wr]

@[simp] theorem State.lasting_dropPart (k cause : Nat) (last : Bool) (a : RxPart) : (s.dropPart k cause last a).lasting = s.lasting := by
  unfold State.dropPart
  dsimp only
  rw [State.lasting_modSw, State.lasting_giveCredit, State.lasting_freeCells, State.lasting_swDrop]

theorem State.lasting_haltSwitch : s.haltSwitch.lasting = s.lasting := by
  unfold State.haltSwitch
  dsimp only
  rw [State.lasting_foldl _ (fun s d => by rw [State.lasting_swDrop, State.lasting_freeCells]), State.lasting_modSw,
    State.lasting_foldl _ (fun s e => State.lasting_dropPart ..),
    State.lasting_foldl _ (fun s d => by rw [State.lasting_swDrop, State.lasting_freeFrame]), State.lasting_modSw,
    State.lasting_foldl _ (fun s c => State.lasting_releaseCopy ..), State.lasting_modSw, State.lasting_raise, State.lasting_wr _ _ _ _ (by decide)]

theorem State.lasting_retireBank (bank : Nat) : (s.retireBank bank).lasting = s.lasting := by
  unfold State.retireBank
  split
  · exact s.lasting_haltSwitch
  · dsimp only
    rw [State.lasting_raise, State.lasting_recomputePool, State.lasting_modSw, State.lasting_wr _ _ _ _ (by decide), State.lasting_wr _ _ _ _ (by decide)]

theorem State.lasting_spareBankCount : s.spareBankCount.lasting = s.lasting := s.lasting_wr _ _ _ (by decide)

theorem State.lasting_startCopy (bank spare : Nat) : (s.startCopy bank spare).lasting = s.lasting := by
  unfold State.startCopy
  dsimp only
  rw [State.lasting_raise, State.lasting_modSw]
  split <;> simp (disch := decide) only [State.lasting_wr, State.lasting_spareBankCount]

@[simp] theorem State.lasting_bankFailing (bank : Nat) : (s.bankFailing bank).lasting = s.lasting := by
  unfold State.bankFailing
  split
  · rfl
  · split
    · rfl
    · split
      · exact s.lasting_startCopy ..
      · exact s.lasting_retireBank bank

theorem State.lasting_nextBank (fuel : Nat) : (s.nextBank fuel).lasting = s.lasting := by
  induction fuel generalizing s with
  | zero => rfl
  | succ fuel ih =>
    unfold State.nextBank
    split
    · rfl
    · dsimp only
      split
      · rw [State.lasting_bankFailing, State.lasting_modSw]
      · rw [ih, State.lasting_bankFailing, State.lasting_modSw]

theorem State.lasting_copyDone : s.copyDone.lasting = s.lasting := by
  unfold State.copyDone
  split
  · dsimp only
    rw [State.lasting_nextBank, State.lasting_raise, State.lasting_wr _ _ _ _ (by decide), State.lasting_wr _ _ _ _ (by decide)]
  · rfl

end Switch

section Start

variable (s : State)

theorem State.lasting_repairMacro (m : Nat) (l : List FaultCell) : (s.repairMacro m l).lasting = s.lasting := by
  unfold State.repairMacro
  dsimp only
  split <;> simp (disch := decide) only [State.lasting_raise, State.lasting_wr]

theorem State.lasting_marchBanks : s.marchBanks.lasting = s.lasting := by
  unfold State.marchBanks
  dsimp only
  rw [State.lasting_foldl _ (fun s b => by rw [State.lasting_copyDone, State.lasting_bankFailing]), State.lasting_spareBankCount,
    State.lasting_foldl _ (fun s b => s.lasting_wr _ _ _ (by decide))]

theorem State.lasting_startMarch (faults : List FaultCell) : (s.startMarch faults).lasting = s.lasting := by
  unfold State.startMarch
  split
  · rfl
  · dsimp only
    rw [State.lasting_marchBanks, State.lasting_foldl _ (fun s m => s.lasting_repairMacro ..)]

theorem State.lasting_secStart (idOk drbgOk : Bool) : (s.secStart idOk drbgOk).lasting = s.lasting := by
  unfold State.secStart
  dsimp only
  split <;> split <;> simp (disch := decide) only [State.lasting_raise, State.lasting_setBit, State.lasting_wr]

theorem State.lasting_d2dSet (up : Bool) : (s.d2dSet up).lasting = s.lasting := by
  unfold State.d2dSet
  dsimp only
  split
  · rw [State.lasting_requalifyInputs, State.lasting_setBit _ _ _ _ (by decide), State.lasting_setBit _ _ _ _ (by decide)]
  · rw [State.lasting_safeLatch _ _ (by decide), State.lasting_requalifyInputs, State.lasting_setBit _ _ _ _ (by decide),
      State.lasting_setBit _ _ _ _ (by decide)]

/-- The fabric die that comes out of reset (R397) draws nothing of it anew. -/
theorem State.lasting_fabricOut (src : Nat) (idOk drbgOk : Bool) : (s.fabricOut src idOk drbgOk).lasting = s.lasting := by
  have phase (t : State) (cause : Nat) : (t.modChip (fun c => { c with phase := .running, cause := cause, vbatLost := false })).lasting = t.lasting := rfl
  have strap (t : State) (c : Prop) [Decidable c] : (if c then t.wr BOOT_STATUS.SRC src else t).lasting = t.lasting := by
    split
    · exact t.lasting_wr _ _ _ (by decide)
    · rfl
  have lost (t : State) (b : Bool) : (if b then t.raise 0x018 else t).lasting = t.lasting := by
    split
    · exact t.lasting_raise _ _
    · rfl
  unfold State.fabricOut
  dsimp only
  rw [lost, State.lasting_recomputePool, State.lasting_secStart, State.lasting_d2dSet]
  simp (disch := decide) only [State.lasting_wr, State.lasting_setBit]
  rw [strap, phase, State.lasting_resetBy]

end Start

end Sys2Proof.Machine

/-! Memory errors (R487): a counterexample. An uncorrectable word of a scratchpad that a core has read stops no DMA transfer. -/

namespace Sys2Proof.Machine

section ScratchpadError

/-- The fields of the capture records. -/
def captureFields : List (Fin 1024) := [MEM_CAP0.VALID.id, MEM_CAP0.COUNT.id, MEM_CAP0.MULTI.id, MEM_CAP0.MACRO.id, MEM_CAP1.WORD.id,
  MEM_CAP1.SYNDROME.id, MEM_CAP1.SCRUB.id, MEM_CAP2.TIME.id, MEM_CAP3.TIME.id]

variable (s : State) (m word synd : Nat) (scrub ue : Bool)

/-- A capture writes only its record (R490, R491). -/
theorem State.capture_keeps {P : State → Prop} (wr : ∀ t (f : Field) (v i : Nat), f.id ∈ captureFields → P t → P (t.wr f v i))
    (drew : ∀ t, P t → P t.drew) (h : P s) : P (s.capture m word synd scrub ue) := by
  unfold State.capture
  dsimp only
  generalize 2 * macroKind m + (if ue then 1 else 0) = c
  by_cases valid : s.on MEM_CAP0.VALID c = true
  · rw [if_pos valid]
    exact wr _ _ _ _ (by decide) (wr _ _ _ _ (by decide) h)
  · rw [if_neg valid]
    exact wr _ _ _ _ (by decide) (wr _ _ _ _ (by decide) (wr _ _ _ _ (by decide) (wr _ _ _ _ (by decide) (wr _ _ _ _ (by decide)
      (wr _ _ _ _ (by decide) (wr _ _ _ _ (by decide) (drew _ h)))))))

@[simp] theorem State.news_capture : (s.capture m word synd scrub ue).news = s.news :=
  State.capture_keeps (P := fun t => t.news = s.news) s m word synd scrub ue (fun _ _ _ _ _ same => same) (fun _ same => same) rfl

theorem State.rd_capture (f : Field) (i : Nat) (other : f.id ∉ captureFields) : (s.capture m word synd scrub ue).rd f i = s.rd f i :=
  State.capture_keeps (P := fun t => t.rd f i = s.rd f i) s m word synd scrub ue
    (fun _ _ _ _ mine same => (State.rd_wr_ne _ _ _ _ _ _ fun h => other (h ▸ mine)).trans same) (fun _ same => same) rfl

theorem State.rd_memUe (f : Field) (i : Nat) (other : f.id ∉ captureFields) (notEvent : f.id ∉ eventFields) :
    (s.memUe m word synd scrub).rd f i = s.rd f i :=
  (State.rd_raise _ _ _ _ _ notEvent).trans (State.rd_capture s m word synd scrub true f i other)

@[simp] theorem State.news_memUe : (s.memUe m word synd scrub).news = s.news := by simp [State.memUe]

/-- What a core has read, and no DMA engine, is left to the core's trap (R487). -/
theorem State.ueEffect_coreRead (scratchpad : macroKind m = 2) (iso : Bool) : s.ueEffect m 0 iso = s := by
  unfold State.ueEffect
  rw [scratchpad]
  exact if_neg (by decide)

/-- A hub whose core 0 has a DMA transfer running. -/
def dmaRunning : State := { State.reset with regs := [(NIM_DMASTAT.XFER.key 0, 1)] }

theorem macroScrub_dmaRunning : dmaRunning.calm.macroScrub 560 0 0 0 2 false false = dmaRunning.calm.memUe 560 0 0 false := by
  unfold State.macroScrub
  rw [if_neg (by decide +kernel)]
  exact State.ueEffect_coreRead (dmaRunning.calm.memUe 560 0 0 false) 560 rfl false

end ScratchpadError

/-- Refutes O57: in `dmaRunning` an uncorrectable word that core 0 has read in its scratchpad leaves the DMA transfer running. -/
theorem not_memoryErrors : ¬ Obligations.MemoryErrors := by
  unfold Obligations.MemoryErrors
  rintro ⟨words, -⟩
  obtain ⟨-, acts⟩ := words dmaRunning 560 0 0 0 2 false false
  obtain ⟨-, -, -, -, scratchpad, -⟩ := acts (by decide) (fun scrub => by cases scrub) (by decide +kernel)
  have settles : (dmaRunning.calm.macroScrub 560 0 0 0 2 false false).settled =
    ((dmaRunning.calm.memUe 560 0 0 false).wr NIM_DMASTAT.XFER 0 0).settled := Host.Outcome.next.inj (scratchpad rfl (by decide) (by decide))
  have quiet : (dmaRunning.calm.memUe 560 0 0 false).news = [] := State.news_memUe ..
  rw [macroScrub_dmaRunning, State.settled_of_quiet _ quiet,
    State.settled_of_quiet ((dmaRunning.calm.memUe 560 0 0 false).wr NIM_DMASTAT.XFER 0 0) quiet] at settles
  have runs : (dmaRunning.calm.memUe 560 0 0 false).rd NIM_DMASTAT.XFER = 1 :=
    (State.rd_memUe _ _ _ _ _ _ _ (by decide) (by decide)).trans (by decide +kernel)
  rw [settles, State.rd_wr_same] at runs
  exact absurd runs (by decide)

end Sys2Proof.Machine

/-! FUSE_REPAIR (R498): a counterexample. The soft repairs of a memory have 3 bits, but a state may hold any number in their field. -/

namespace Sys2Proof.Machine

section SoftRepairs

/-- The fuses of memory `m` are burnt (R498). -/
def State.burn (s : State) (m : Nat) : State :=
  let b := s.burnable m
  let s := (s.wr MEM_MACRO.HROWS (s.rd MEM_MACRO.HROWS m + b.1) m).wr MEM_MACRO.HCOLS (s.rd MEM_MACRO.HCOLS m + b.2) m
  (s.wr MEM_MACRO.SROWS (s.rd MEM_MACRO.SROWS m - b.1) m).wr MEM_MACRO.SCOLS (s.rd MEM_MACRO.SCOLS m - b.2) m

variable {s : State} {m i : Nat}

theorem State.srows_burn_same : (s.burn m).rd MEM_MACRO.SROWS m < 8 := by
  unfold State.burn
  rw [State.rd_wr_ne _ _ _ _ _ _ (by decide), State.rd_wr_same]
  exact Nat.mod_lt _ (by decide)

theorem State.srows_burn_ne (other : m ≠ i) : (s.burn m).rd MEM_MACRO.SROWS i = s.rd MEM_MACRO.SROWS i := by
  unfold State.burn
  rw [State.rd_wr_ne _ _ _ _ _ _ (by decide), State.rd_wr_idx _ _ _ _ _ other, State.rd_wr_ne _ _ _ _ _ _ (by decide),
    State.rd_wr_ne _ _ _ _ _ _ (by decide)]

/-- A FUSE_REPAIR leaves the soft repairs of every memory within their 3 bits. -/
theorem State.srows_burnAll (s : State) (inRange : i < 616) : ((List.range 616).foldl State.burn s).rd MEM_MACRO.SROWS i < 8 := by
  refine List.foldl_reaches (P := fun t => t.rd MEM_MACRO.SROWS i < 8) (fun t m small => ?_) s
    ⟨i, List.mem_range.mpr inRange, fun _ => State.srows_burn_same⟩
  by_cases same : m = i
  · exact same ▸ State.srows_burn_same
  · exact (State.srows_burn_ne same).trans_lt small

theorem State.srows_fuseRepair (s : State) (inRange : i < 616) (free : s.lc = 1) (idle : s.on MEM_MSTAT.RUN = false) :
    (s.fuseRepair 1).rd MEM_MACRO.SROWS i < 8 := by
  have passes : firstStatus [(St.VALUE, Reg.MEM_FUSECMD.reservedSet 1), (St.LIFECYCLE, decide (MEM_FUSECMD.GO.of 1 = 1) && s.lc != 1 && s.lc != 3),
      (St.BUSY, decide (MEM_FUSECMD.GO.of 1 = 1) && s.on MEM_MSTAT.RUN)] = St.OK := by
    rw [free, idle]
    decide
  unfold State.fuseRepair
  dsimp only
  rw [State.checked_ok _ _ _ passes, if_neg (by decide), State.answer, State.rd_emit]
  exact State.srows_burnAll s inRange

/-- A hub in PROVISION whose memory 0 shows 16 soft row repairs, more than the 3 bits of the field hold. -/
def repairsPastWidth : State :=
  { State.reset with
    regs := [(BOOT_STATUS.MODE.key 0, 1), (SEC_STATUS.LC.key 0, 1), (MEM_MACRO.SROWS.key 0, 16)]
    chip := { Chip.init with phase := .running } }

theorem serves_repairsPastWidth : repairsPastWidth.serves Reg.MEM_FUSECMD.base true := by
  refine ⟨rfl, by decide +kernel, by decide +kernel, fun _ => by decide +kernel⟩

end SoftRepairs

/-- Refutes O58: in `repairsPastWidth` at most 4 of memory 0's 16 soft repairs fit its fuses, and the field does not hold the rest. -/
theorem not_marchAndRepair : ¬ Obligations.MarchAndRepair := by
  unfold Obligations.MarchAndRepair
  rintro ⟨-, -, -, -, -, repair⟩
  obtain ⟨-, -, -, burns⟩ := repair repairsPastWidth 1 serves_repairsPastWidth
  obtain ⟨t, done, macros, -, -⟩ := burns (by decide) (.inl (by decide +kernel)) (by decide +kernel)
  obtain ⟨⟨-, rows⟩, -⟩ := macros 0 (by decide)
  have act : exec (.fuseRepair 1) repairsPastWidth = .next (repairsPastWidth.fuseRepair 1) :=
    congrArg Host.Outcome.next (State.access_serves _ _ _ _ serves_repairsPastWidth)
  have small := State.srows_fuseRepair repairsPastWidth (i := 0) (by decide) (by decide +kernel) (by decide +kernel)
  rw [Host.Outcome.next.inj (act.symm.trans done), rows, show repairsPastWidth.rd MEM_MACRO.SROWS 0 = 16 by decide +kernel] at small
  omega

end Sys2Proof.Machine

/-! The SPI target (R428): a counterexample. A hub's number has 6 bits, but a state may hold any number in its field. -/

namespace Sys2Proof.Machine

section HubNumber

/-- A hub that runs as number 128, which no envelope can name as its destination: one byte holds 7 bits of it. -/
def hubPastWidth : State :=
  { State.reset with
    regs := [(GLB_HUB.HUB.key 0, 128), (BOOT_STATUS.MODE.key 0, 1)]
    chip := { Chip.init with phase := .running } }

/-- The same hub with a request on the SPI target. -/
def hubPastWidthBusy : State := { hubPastWidth.calm with spi := { hubPastWidth.spi with busy := true } }

/-- The status in the response that the SPI target holds. -/
def State.heldStatus (s : State) : Option Byte := s.spi.resp.map (fun r => r.getD 6 0)

/-- The request for the hub's own number has lost it on the way and is answered ADDR. -/
theorem heldStatus_rd32_hubPastWidth :
    (hubPastWidth.settling (fun s => s.message 1 opRd32 false 0 0 Reg.BOOT_STATUS.base [] 0)).heldStatus = some (BitVec.ofNat 8 St.ADDR) := by
  decide +kernel

theorem readWord_hubPastWidthBusy : (hubPastWidthBusy.readWord 0 Reg.BOOT_STATUS.base).2 = some (St.OK, [1, 0, 0, 0]) := by decide +kernel

/-- A read that is carried out, answered OK. -/
def hubPastWidthRead : State :=
  let r := hubPastWidthBusy.readWord 0 Reg.BOOT_STATUS.base
  { r.1 with spi := { r.1.spi with resp := some (r.1.response ⟨opRd32, false, false, 128, 0, 0, 0, Reg.BOOT_STATUS.base, []⟩ St.OK [1, 0, 0, 0]).bytes } }

theorem heldStatus_hubPastWidthRead : hubPastWidthRead.settled.heldStatus = some (BitVec.ofNat 8 St.OK) := by decide +kernel

end HubNumber

/-- Refutes O52: in `hubPastWidth` a read of `BOOT_STATUS` on the SPI target is answered ADDR, as for another hub. -/
theorem not_spiTarget : ¬ Obligations.SpiTarget := by
  unfold Obligations.SpiTarget
  rintro ⟨read, -⟩
  have answered := read hubPastWidth 0 0 (BitVec.ofNat 32 Reg.BOOT_STATUS.base) 0 rfl rfl St.OK [1, 0, 0, 0] readWord_hubPastWidthBusy
    (by decide +kernel)
  have same : hubPastWidth.settling (fun s => s.message 1 opRd32 false 0 0 Reg.BOOT_STATUS.base [] 0) = hubPastWidthRead.settled :=
    Host.Outcome.next.inj answered
  have status := heldStatus_rd32_hubPastWidth
  rw [same, heldStatus_hubPastWidthRead] at status
  exact absurd status (by decide)

end Sys2Proof.Machine

/-! Services (R432): a counterexample. A command's tag covers the destination, and a hub's number that its envelope cannot carry fails it. -/

namespace Sys2Proof.Machine

section ArmedByNumber

def zeroNonce : List Byte := List.replicate 16 0

/-- The tag of ARM_PS for hub 128 under an empty management key. -/
def armTag : List Byte := hmac384 [] ([128, 0, 2] ++ zeroNonce)

/-- `hubPastWidth` with core 0 running, the management key in slot 1 and the nonce of path 0 drawn. -/
def servesPastWidth : State :=
  { hubPastWidth with
    regs := [(GLB_HUB.HUB.key 0, 128), (BOOT_STATUS.MODE.key 0, 1), (SEC_SLOT.STATE.key 1, 1), (SEC_SLOT.KTYPE.key 1, 2), (NIM_CSTAT.RUNNING.key 0, 1)]
    nim := { hubPastWidth.nim with loaded := true }
    sec := { hubPastWidth.sec with chal := [(0, zeroNonce)] } }

/-- ARM_PS for this hub, as it is sent. -/
def armMsg : Msg := ⟨opCmd, false, true, 128, 0, 0, 0, 0, [0, 2, 0, 0] ++ zeroNonce ++ armTag⟩

theorem length_armTag : armTag.length = 48 := by decide +kernel

theorem armMsg_authentic : servesPastWidth.cmdAuthentic 0 armMsg = true := by decide +kernel

/-- The destination has lost its top bit on the way, the tag no longer fits, and the command is refused. -/
theorem psArm_servesPastWidth :
    (servesPastWidth.settling (fun s => s.message 0 opCmd true 0 0 0 ([0, 2, 0, 0] ++ zeroNonce ++ armTag) 0)).rd CPM_STATE.PS_ARM = 0 := by
  decide +kernel

theorem psArm_armed : (((servesPastWidth.calm.nonceUsed 0).wr CPM_STATE.PS_ARM 1).respond 0 armMsg St.OK []).settled.rd CPM_STATE.PS_ARM = 1 := by
  decide +kernel

end ArmedByNumber

/-- Refutes O53: in `servesPastWidth` an authentic ARM_PS for the hub's own number does not arm. -/
theorem not_servicesAndCores : ¬ Obligations.ServicesAndCores := by
  unfold Obligations.ServicesAndCores
  rintro ⟨commands, -⟩
  obtain ⟨-, -, -, -, -, armed, -⟩ := commands servesPastWidth 0 0 rfl
  obtain ⟨ps, -⟩ := armed zeroNonce armTag rfl length_armTag (by decide +kernel)
  have same : servesPastWidth.settling (fun s => s.message 0 opCmd true 0 0 0 ([0, 2, 0, 0] ++ zeroNonce ++ armTag) 0) =
    (((servesPastWidth.calm.nonceUsed 0).wr CPM_STATE.PS_ARM 1).respond 0 armMsg St.OK []).settled := Host.Outcome.next.inj (ps armMsg_authentic)
  have off := psArm_servesPastWidth
  rw [same, psArm_armed] at off
  exact absurd off (by decide)

end Sys2Proof.Machine

/-! Start-up: the march, the choice of a copy, the fetch over the network and the boot lock (R398, R410 to R412, R414 to R416, R418). -/

namespace Sys2Proof.Machine

section Release

variable (s : State) (src : Nat) (faults : List FaultCell) (idOk drbgOk : Bool) (a b : List Byte)

/-- The hub after its start march (R414 steps 3 to 5). -/
def State.marched : State := ((s.fabricOut src idOk drbgOk).startMarch faults).wr BOOT_STATUS.STEP 5

theorem State.lasting_marched : (s.marched src faults idOk drbgOk).lasting = s.lasting := by
  unfold State.marched
  rw [State.lasting_wr _ _ _ _ (by decide), State.lasting_startMarch, State.lasting_fabricOut]

theorem State.test_marched : (s.marched src faults idOk drbgOk).chip.test = s.chip.test := congrArg Prod.fst (s.lasting_marched ..)

theorem State.bids_marched : (s.marched src faults idOk drbgOk).chip.bids = s.chip.bids := congrArg (·.2.1) (s.lasting_marched ..)

theorem State.lc_marched : (s.marched src faults idOk drbgOk).lc = s.lc := congrArg (·.2.2.1) (s.lasting_marched ..)

/-- Where the boot strap looks for an image (R411, R414 step 6). -/
def State.bootByStrap : State :=
  match s.rd BOOT_STATUS.SRC with
  | 0 => s.bootFlash a b
  | 1 => s.bootFlash a b
  | 2 => s.pushOpen
  | _ =>
    match s.bootIdentity with
    | none => s.enterRecovery St.STATE
    | some r => s.takeIdentity r

variable {s}

theorem State.bootByStrap_flash (flash : s.rd BOOT_STATUS.SRC ≤ 1) : s.bootByStrap a b = s.bootFlash a b := by
  obtain zero | one : s.rd BOOT_STATUS.SRC = 0 ∨ s.rd BOOT_STATUS.SRC = 1 := by omega
  · simp only [State.bootByStrap, zero]
  · simp only [State.bootByStrap, one]

theorem State.bootByStrap_push (push : s.rd BOOT_STATUS.SRC = 2) : s.bootByStrap a b = s.pushOpen := by
  simp only [State.bootByStrap, push]

theorem State.bootByStrap_none (net : s.rd BOOT_STATUS.SRC = 3) (none : s.chip.bids = []) : s.bootByStrap a b = s.enterRecovery St.STATE := by
  have identity : s.bootIdentity = Option.none := congrArg List.getLast? none
  simp only [State.bootByStrap, net, identity]

theorem State.bootByStrap_net {r : List Byte} (net : s.rd BOOT_STATUS.SRC = 3) (last : s.chip.bids.getLast? = some r) :
    s.bootByStrap a b = s.takeIdentity r := by
  have identity : s.bootIdentity = some r := last
  simp only [State.bootByStrap, net, identity]

/-- What follows the march (R411, R412, R414, R415). -/
theorem State.fabricRelease_powering (powering : s.chip.phase = .powering) : s.fabricRelease src faults a b idOk drbgOk =
    let u := s.marched src faults idOk drbgOk
    if s.chip.test then (u.wr BOOT_STATUS.MODE 3).modChip (fun c => { c with test := false })
    else if u.marchFatal then u.enterRecovery St.INTEGRITY
    else if s.lc = 4 then u.enterRecovery St.LIFECYCLE
    else u.bootByStrap a b := by
  rw [← s.test_marched src faults idOk drbgOk, ← s.lc_marched src faults idOk drbgOk]
  unfold State.fabricRelease
  exact if_neg (not_not.mpr powering)

theorem State.fabricRelease_other (off : s.chip.phase ≠ .powering) : s.fabricRelease src faults a b idOk drbgOk = s := if_pos off

end Release

section Copies

variable {s : State} (a b : List Byte)

/-- Whether a copy is valid hangs on the life cycle, the floor and the keys of the security block alone (R412, R413). -/
theorem State.copyStatus_congr {t : State} (lc : t.lc = s.lc) (floor : t.rd BOOT_SVN.FLOOR = s.rd BOOT_SVN.FLOOR) (sec : t.sec = s.sec) :
    t.copyStatus a = s.copyStatus a := by
  unfold State.copyStatus State.verifies State.lcAnchor
  rw [lc, floor, sec]

theorem State.copyStatus_wr (f : Field) (v i : Nat) (other : f.id ∉ [SEC_STATUS.LC.id, BOOT_SVN.FLOOR.id]) :
    (s.wr f v i).copyStatus a = s.copyStatus a := by
  simp only [List.mem_cons, List.not_mem_nil, or_false, not_or] at other
  exact State.copyStatus_congr a (State.rd_wr_ne _ _ _ _ _ _ other.1) (State.rd_wr_ne _ _ _ _ _ _ other.2) rfl

theorem State.copyStatus_raise (id cap : Nat) : (s.raise id cap).copyStatus a = s.copyStatus a :=
  State.copyStatus_congr a (State.rd_raise _ _ _ _ _ (by decide)) (State.rd_raise _ _ _ _ _ (by decide)) (State.sec_raise s id cap)

theorem State.copyStatus_copyFail (c step status : Nat) : (s.copyFail c step status).copyStatus a = s.copyStatus a := by
  unfold State.copyFail
  dsimp only
  rw [State.copyStatus_raise, State.copyStatus_wr _ _ _ _ (by decide)]
  split
  · exact State.copyStatus_wr _ _ _ _ (by decide)
  · split
    · exact State.copyStatus_wr _ _ _ _ (by decide)
    · rfl

/-- A copy without the image's mark breaks its header (R402, R412). -/
theorem State.copyStatus_unmarked (lives : s.lc ≠ 4) (unmarked : leAt a 0 4 ≠ 0x5A544931) : s.copyStatus a = St.VALUE := by
  have table : tableStatus a = St.VALUE := if_pos (.inl unmarked)
  unfold State.copyStatus
  rw [table]
  exact (if_neg lives).trans (if_pos (by decide))

/-- Of two copies neither is valid: both fail, and RECOVERY follows (R411). -/
theorem State.chooseCopies_bad (badA : s.copyStatus a ≠ St.OK) (badB : s.copyStatus b ≠ St.OK) :
    let v := ((s.wr BOOT_STATUS.STEP 6).copyFail 0 6 (s.copyStatus a)).copyFail 1 6 (s.copyStatus b)
    s.chooseCopies [(0, a), (1, b)] false = v.enterRecovery (v.rd BOOT_STATUS.STATUS) := by
  have step (x : List Byte) : (s.wr BOOT_STATUS.STEP 6).copyStatus x = s.copyStatus x := State.copyStatus_wr _ _ _ _ (by decide)
  unfold State.chooseCopies
  simp only [List.foldl_cons, List.foldl_nil, step, State.copyStatus_copyFail, if_neg badA, if_neg badB, List.filter_cons, beq_eq_false_iff_ne.mpr badA,
    beq_eq_false_iff_ne.mpr badB, Bool.false_eq_true, if_false, List.filter_nil, State.tryCopies]

/-- Of two valid copies the higher generation is tried first, on a tie the first (R411). -/
theorem State.chooseCopies_good (goodA : s.copyStatus a = St.OK) (goodB : s.copyStatus b = St.OK) : s.chooseCopies [(0, a), (1, b)] false =
    if imgGen a < imgGen b then (s.wr BOOT_STATUS.STEP 6).tryCopies [(1, b), (0, a)] 1 false
    else (s.wr BOOT_STATUS.STEP 6).tryCopies [(0, a), (1, b)] 0 false := by
  have step (x : List Byte) : (s.wr BOOT_STATUS.STEP 6).copyStatus x = s.copyStatus x := State.copyStatus_wr _ _ _ _ (by decide)
  unfold State.chooseCopies
  simp only [List.foldl_cons, List.foldl_nil, step, goodA, goodB, if_true, List.filter_cons, beq_self_eq_true, List.filter_nil]
  split <;> rfl

theorem State.chooseCopies_one (c : Nat) (forced : Bool) (good : s.copyStatus a = St.OK) :
    s.chooseCopies [(c, a)] forced = (s.wr BOOT_STATUS.STEP 6).tryCopies [(c, a)] c forced := by
  have step (x : List Byte) : (s.wr BOOT_STATUS.STEP 6).copyStatus x = s.copyStatus x := State.copyStatus_wr _ _ _ _ (by decide)
  unfold State.chooseCopies
  simp only [List.foldl_cons, List.foldl_nil, step, good, if_true, List.filter_cons, beq_self_eq_true, List.filter_nil]
  rfl

theorem State.bootFlash_unforced (unforced : s.rd BOOT_NEXT.FORCE_COPY = 0) : s.bootFlash a b = s.chooseCopies [(0, a), (1, b)] false := by
  simp only [State.bootFlash, unforced]

theorem State.bootFlash_forced (forced : s.rd BOOT_NEXT.FORCE_COPY = 2) (good : s.copyStatus b = St.OK) :
    s.bootFlash a b = ((s.wr BOOT_NEXT.FORCE_COPY 0).wr BOOT_STATUS.STEP 6).tryCopies [(1, b)] 1 true := by
  unfold State.bootFlash
  rw [forced]
  exact State.chooseCopies_one b 1 true ((State.copyStatus_wr _ _ _ _ (by decide)).trans good)

end Copies

section Network

variable {s : State}

theorem State.netIn_unawaited {tag : Nat} (status : Nat) (body : List Byte) (unawaited : s.netWaits tag = false) : s.netIn tag status body = s :=
  if_pos unawaited

/-- An answer that brings no block fails the attempt, but for a block beyond an image of unknown length (R410). -/
theorem State.netIn_refused {tag status : Nat} (body : List Byte) (waits : s.netWaits tag = true) (bad : status ≠ St.OK)
    (counts : status ≠ St.RANGE ∨ s.netBlocks ≠ none ∨ tag = 0) : s.netIn tag status body = s.netFail := by
  have known : ¬(status = St.RANGE ∧ s.netBlocks = none ∧ tag ≠ 0) := by
    rintro ⟨range, unknown, notFirst⟩
    exact counts.elim (· range) (·.elim (· unknown) notFirst)
  unfold State.netIn
  rw [if_neg (by rw [waits]; decide), if_neg known, if_pos (.inl bad)]

/-- A block that has come (R410). -/
def State.netTaken (s : State) (tag : Nat) (body : List Byte) : State :=
  s.modChip (fun c => { c with netGen := leAt body 0 8, net := NMap.set c.net [] tag (body.drop 8) })

theorem State.netIn_block {tag : Nat} {body : List Byte} (waits : s.netWaits tag = true) (long : 8 < body.length) : s.netIn tag St.OK body =
    if s.chip.netGen ≠ 0 ∧ s.chip.netGen ≠ leAt body 0 8 then s
    else
      let u := s.netTaken tag body
      let n := u.netBlocks.getD 0
      if 0 < n ∧ (List.range n).all (fun i => !(u.netBlock i).isEmpty) then
        (u.modChip (fun c => { c with netRun := false })).bringImage 3 ((List.range n).flatMap (fun i => u.netBlock i))
      else u.netMore 8 := by
  unfold State.netIn
  rw [if_neg (by rw [waits]; decide), if_neg (fun h => absurd h.1 (by decide)), if_neg (not_or.mpr ⟨not_not.mpr rfl, Nat.not_le.mpr long⟩)]
  rfl

/-- A block is kept, and while the image's length is not known nothing else follows (R410). -/
theorem State.netIn_takes {tag : Nat} {body : List Byte} (waits : s.netWaits tag = true) (long : 8 < body.length)
    (one : s.chip.netGen = 0 ∨ s.chip.netGen = leAt body 0 8) (unknown : (s.netTaken tag body).netBlocks = none) :
    s.netIn tag St.OK body = s.netTaken tag body := by
  have same : ¬(s.chip.netGen ≠ 0 ∧ s.chip.netGen ≠ leAt body 0 8) := fun h => one.elim h.1 h.2
  rw [State.netIn_block waits long, if_neg same]
  dsimp only
  rw [unknown, if_neg (fun h => absurd h.1 (by decide))]
  unfold State.netMore
  rw [unknown]

theorem State.netTimeout_unawaited {i : Nat} (unawaited : s.netWaits i = false) : s.netTimeout i = s := if_pos unawaited

theorem State.netTimeout_awaited {i : Nat} (waits : s.netWaits i = true) : s.netTimeout i =
    if NMap.get s.chip.netTry 0 i < 5 then (s.netAsk i).modChip (fun c => { c with netTry := NMap.set c.netTry 0 i (NMap.get c.netTry 0 i + 1) })
    else s.netFail := if_neg (by rw [waits]; decide)

/-- A retry while a fetch runs, after the boot lock or without an identity does nothing (R410, R418). -/
theorem State.netRetry_idle (idle : s.chip.netRun = true ∨ s.on BOOT_STATUS.LOCK = true ∨ s.chip.bids = []) : s.netRetry = s := by
  unfold State.netRetry
  dsimp only
  split
  · rfl
  case isFalse awaits =>
    have none : s.chip.bids = [] := (idle.resolve_left (awaits <| .inl ·)).resolve_left (awaits <| .inr <| .inr <| .inl ·)
    have identity : s.bootIdentity = Option.none := congrArg List.getLast? none
    rw [identity]

/-- A retry in RECOVERY with its identity taken and the uplink up begins the fetch (R410, R418). -/
theorem State.netRetry_starts (still : s.chip.netRun = false) (running : s.chip.phase = .running) (unlocked : s.on BOOT_STATUS.LOCK = false)
    (before : s.rd BOOT_STATUS.STEP ≠ 11) (recovery : s.rd BOOT_STATUS.MODE = 2) (some_ : s.chip.bids ≠ []) (taken : s.chip.bootId = true)
    (up : s.uplinkUp = true) : s.netRetry = s.netStart := by
  have identity : s.bootIdentity = some (s.chip.bids.getLast some_) := List.getLast?_eq_some_getLast some_
  have awaits : ¬(s.chip.netRun = true ∨ s.chip.phase ≠ .running ∨ s.on BOOT_STATUS.LOCK = true ∨ s.rd BOOT_STATUS.STEP = 11 ∨
      (s.rd BOOT_STATUS.MODE ≠ 2 ∧ (s.rd BOOT_STATUS.MODE ≠ 0 ∨ s.rd BOOT_STATUS.SRC ≠ 3))) := by
    simp only [still, running, unlocked, before, recovery, ne_eq, not_true_eq_false, false_and, or_self, Bool.false_eq_true, not_false_eq_true]
  unfold State.netRetry
  dsimp only
  rw [if_neg awaits, identity]
  dsimp only
  rw [if_pos taken, if_pos up]

end Network

section Lock

variable {s : State}

theorem State.bootLock_other (ms : Nat) (other : s.chip.phase ≠ .running ∨ s.rd BOOT_STATUS.STEP ≠ 11 ∨ s.rd BOOT_STATUS.MODE = 1) :
    s.bootLock ms = s :=
  if_pos (other.imp_right (·.imp_right fun mode => by rw [mode]; decide))

/-- The registers of the boot lock (R414 step 12, R416). -/
def State.locked (s : State) (ms : Nat) : State :=
  (((s.wr BOOT_STATUS.LOCK 1).wr BOOT_STATUS.MODE 1).wr BOOT_STATUS.STEP 12).wr BOOT_TIME.T_LOCK (min 65535 ms)

theorem State.rd_locked (ms : Nat) (f : Field) (other : f.id ∉ [BOOT_STATUS.LOCK.id, BOOT_STATUS.MODE.id, BOOT_STATUS.STEP.id, BOOT_TIME.T_LOCK.id]) :
    (s.locked ms).rd f = s.rd f := by
  simp only [List.mem_cons, List.not_mem_nil, or_false, not_or] at other
  obtain ⟨lock, mode, step, time⟩ := other
  unfold State.locked
  rw [State.rd_wr_ne _ _ _ _ _ _ (Ne.symm time), State.rd_wr_ne _ _ _ _ _ _ (Ne.symm step), State.rd_wr_ne _ _ _ _ _ _ (Ne.symm mode),
    State.rd_wr_ne _ _ _ _ _ _ (Ne.symm lock)]

theorem State.bootLock_locks (ms : Nat) (running : s.chip.phase = .running) (ready : s.rd BOOT_STATUS.STEP = 11)
    (mode : s.rd BOOT_STATUS.MODE = 0 ∨ s.rd BOOT_STATUS.MODE = 2) : s.bootLock ms =
    ([0, 1, 2, 3].foldl (fun s p => s.enablePort p) ((s.locked ms).eventsNormal.raise 0x010
      (s.rd BOOT_STATUS.COPY + 4 * s.rd BOOT_GEN_LO.GEN + 2 ^ 34 * s.rd BOOT_CAUSE.CAUSE))).journalRewrite := by
  have locks : ¬(s.chip.phase ≠ .running ∨ s.rd BOOT_STATUS.STEP ≠ 11 ∨ (s.rd BOOT_STATUS.MODE ≠ 0 ∧ s.rd BOOT_STATUS.MODE ≠ 2)) := by
    simp only [running, ready, ne_eq, not_true_eq_false, false_or]
    exact fun other => mode.elim other.1 other.2
  rw [← s.rd_locked ms BOOT_STATUS.COPY (by decide), ← s.rd_locked ms BOOT_GEN_LO.GEN (by decide), ← s.rd_locked ms BOOT_CAUSE.CAUSE (by decide)]
  unfold State.bootLock
  exact if_neg locks

end Lock

section Commands

variable (s : State)

theorem exec_fabricResetRelease (src : Fin 4) (l : List FaultCell) (a b : List Byte) (i g : Bool) :
    exec (.fabricResetRelease src l a b i g) s = .next (s.calm.fabricRelease src.val l a b i g).settled := rfl
theorem exec_bootBlockReceive (tag : Fin 65536) (st : Fin 256) (body : List Byte) :
    exec (.bootBlockReceive tag st body) s = .next (s.calm.netIn tag.val st.val body).settled := rfl
theorem exec_bootBlockTimeout (i : Nat) : exec (.bootBlockTimeout i) s = .next (s.netTimeout i) := rfl
theorem exec_netBootRetry : exec .netBootRetry s = .next s.calm.netRetry.settled := rfl
theorem exec_bootLock (ms : Nat) : exec (.bootLock ms) s = .next (s.calm.bootLock ms).settled := rfl

end Commands

/-- Settles O48: what follows the march, the choice among the copies, the blocks fetched and timed out, the retry, and the boot lock. -/
theorem startUp : Obligations.StartUp := by
  refine ⟨fun s src l a b i g off => ?unpowered, fun s src l a b i g powering => ?released,
    fun s a b => ⟨fun unforced badA badB => ?bad, fun unforced goodA goodB lower => ?lower, fun unforced goodA goodB tie => ?tie,
      fun forced good => ?forced, s.copyStatus_unmarked a⟩,
    fun s tag st body => ⟨fun unawaited => ?unawaited, fun waits bad counts => ?refused, fun waits ok long begun other => ?other,
      fun waits ok long one => ?kept⟩,
    fun s i => ⟨fun unawaited => ?unasked, fun waits few => ?again, fun waits many => ?fails⟩,
    fun s => ⟨fun idle => ?idle, fun still running unlocked before recovery some_ taken up => ?starts⟩,
    fun s ms => ⟨fun other => ?unlocked, fun running ready mode => ?locks⟩⟩
  case unpowered => rw [exec_fabricResetRelease, State.fabricRelease_other (s := s.calm) _ _ _ _ _ _ off, State.settled_of_quiet _ rfl]
  case released =>
    have release := State.fabricRelease_powering (s := s.calm) src.val l i g a b powering
    have bids := s.calm.bids_marched src.val l i g
    rw [exec_fabricResetRelease, release]
    refine ⟨fun test => ?_, fun test fatal => ?_, fun test whole ended => ?_, fun test whole lives => ?_⟩
    · exact congrArg (fun t => Host.Outcome.next (State.settled t)) (if_pos test)
    · exact congrArg (fun t => Host.Outcome.next (State.settled t)) ((if_neg (Bool.eq_false_iff.mp test)).trans (if_pos fatal))
    · exact congrArg (fun t => Host.Outcome.next (State.settled t))
        ((if_neg (Bool.eq_false_iff.mp test)).trans <| (if_neg (Bool.eq_false_iff.mp whole)).trans (if_pos ended))
    · have strap : s.calm.fabricRelease src.val l a b i g = (s.calm.marched src.val l i g).bootByStrap a b := release.trans <|
        (if_neg (Bool.eq_false_iff.mp test)).trans <| (if_neg (Bool.eq_false_iff.mp whole)).trans (if_neg lives)
      rw [← release, strap]
      exact ⟨fun flash => congrArg (fun t => Host.Outcome.next (State.settled t)) (State.bootByStrap_flash a b flash),
        fun push => congrArg (fun t => Host.Outcome.next (State.settled t)) (State.bootByStrap_push a b push),
        fun net none => congrArg (fun t => Host.Outcome.next (State.settled t)) (State.bootByStrap_none a b net (bids.trans none)),
        fun r net last => congrArg (fun t => Host.Outcome.next (State.settled t)) (State.bootByStrap_net a b net ((congrArg List.getLast? bids).trans last))⟩
  case bad => rw [State.bootFlash_unforced a b unforced, State.chooseCopies_bad a b badA badB]
  case lower => rw [State.bootFlash_unforced a b unforced, State.chooseCopies_good a b goodA goodB, if_pos lower]
  case tie => rw [State.bootFlash_unforced a b unforced, State.chooseCopies_good a b goodA goodB, if_neg (Nat.not_lt.mpr tie)]
  case forced => exact State.bootFlash_forced a b forced good
  case unawaited => rw [exec_bootBlockReceive, State.netIn_unawaited (s := s.calm) _ _ unawaited, State.settled_of_quiet _ rfl]
  case refused =>
    rw [exec_bootBlockReceive, State.netIn_refused (s := s.calm) body waits bad counts]
    rfl
  case other =>
    rw [exec_bootBlockReceive, ok, State.netIn_block (s := s.calm) waits long, if_pos ⟨begun, other⟩, State.settled_of_quiet _ rfl]
  case kept =>
    intro u unknown
    rw [exec_bootBlockReceive, ok, State.netIn_takes (s := s.calm) waits long one unknown]
    exact congrArg Host.Outcome.next (State.settled_of_quiet _ rfl)
  case unasked => rw [exec_bootBlockTimeout, State.netTimeout_unawaited unawaited]
  case again => rw [exec_bootBlockTimeout, State.netTimeout_awaited waits, if_pos few]
  case fails =>
    rw [exec_bootBlockTimeout, State.netTimeout_awaited waits, if_neg (Nat.not_lt.mpr many)]
    rfl
  case idle => rw [exec_netBootRetry, State.netRetry_idle (s := s.calm) idle, State.settled_of_quiet _ rfl]
  case starts => rw [exec_netBootRetry, State.netRetry_starts (s := s.calm) still running unlocked before recovery some_ taken up]
  case unlocked => rw [exec_bootLock, State.bootLock_other (s := s.calm) ms other, State.settled_of_quiet _ rfl]
  case locks =>
    rw [exec_bootLock, State.bootLock_locks (s := s.calm) ms running ready mode]
    rfl

end Sys2Proof.Machine

/-! What a link that has gone down leaves of what `State.lasting` holds: the storage bridge, the displays, presence and the uplink write other
registers only. -/

namespace Sys2Proof.Machine

section StorageItems

variable (s : State) (c sub : Nat) (b : List Byte)

@[simp] theorem State.lasting_setVd (v : Vdsp) : (s.setVd c v).lasting = s.lasting := rfl
@[simp] theorem State.lasting_modVd (g : Vdsp → Vdsp) : (s.modVd c g).lasting = s.lasting := rfl
@[simp] theorem State.lasting_pcieLink : (s.pcieLink b).lasting = s.lasting := rfl

theorem State.lasting_queueFlits (p tix : Nat) (framed : Bool) (l : List (List Byte)) : (s.queueFlits p tix sub framed l).lasting = s.lasting := by
  show (s.queueFlits p tix sub framed l).offWire.lasting = s.offWire.lasting
  rw [State.offWire_queueFlits]

@[simp] theorem State.lasting_endpointSend (x : Nat) : (s.endpointSend x sub b).lasting = s.lasting := by
  unfold State.endpointSend State.xmiss
  split
  · rfl
  · split
    · exact State.lasting_queueFlits ..
    · rw [State.lasting_raiseOnce, State.lasting_bump _ _ _ _ (by decide)]

theorem State.lasting_itemGo : (s.itemGo c sub b).lasting = s.lasting := by
  have sent (t : State) (ityp : Nat) : (t.itemSend c sub ityp b).lasting = t.lasting := by
    unfold State.itemSend
    split
    · rfl
    · exact State.lasting_endpointSend ..
  unfold State.itemGo
  rw [sent, State.lasting_modVd]

theorem State.lasting_drainItems (l : List (Nat × List Byte)) (any pst : Bool) : (s.drainItems c l any pst).1.lasting = s.lasting := by
  induction l generalizing s any pst with
  | nil => rfl
  | cons e r ih =>
    unfold State.drainItems
    dsimp only
    generalize (_ && _) = leaves
    cases leaves with
    | true => exact (ih ..).trans (State.lasting_itemGo ..)
    | false => exact ih ..

@[simp] theorem State.lasting_vout : (s.vout c).lasting = s.lasting := by
  unfold State.vout
  split
  · rw [State.lasting_wr _ _ _ _ (by decide), State.lasting_wr _ _ _ _ (by decide)]
  · rfl

@[simp] theorem State.lasting_itemAccept : (s.itemAccept c sub b).lasting = s.lasting := by
  unfold State.itemAccept State.pcieDrain
  dsimp only
  rw [State.lasting_vout, State.lasting_modVd, State.lasting_drainItems, State.lasting_modVd]

@[simp] theorem State.lasting_raDrop (p : RaEnt → Bool) : (s.raDrop p).lasting = s.lasting := State.lasting_bump _ _ _ _ (by decide)

@[simp] theorem State.lasting_raAdd (a : Nat) (d : List Byte) : (s.raAdd a d).lasting = s.lasting := by
  unfold State.raAdd
  dsimp only
  split
  · rfl
  · rw [State.lasting_modPcb]
    split
    · rfl
    · exact State.lasting_raDrop ..

/-- A completion of the storage bus goes to the read it answers, or is counted (R285). -/
@[simp] theorem State.lasting_cplFromLink : (s.cplFromLink c b).lasting = s.lasting := by
  unfold State.cplFromLink State.cplLate
  dsimp only
  split
  · exact State.lasting_bump _ _ _ _ (by decide)
  · split
    · rw [State.lasting_itemAccept, State.lasting_modVd]
    · split <;> split <;> simp

@[simp] theorem State.lasting_toRequester : (s.toRequester b).lasting = s.lasting := by
  unfold State.toRequester
  split
  · split
    · exact State.lasting_cplFromLink ..
    · rfl
  · rfl

@[simp] theorem State.lasting_postedError (tid cause status addr bytes time : Nat) :
    (s.postedError tid cause status addr bytes time).lasting = s.lasting := by
  unfold State.postedError State.peStat
  dsimp only
  split
  · split <;> simp (disch := decide)
  · simp (disch := decide)

@[simp] theorem State.lasting_pcieDropP : (s.pcieDropP c b).lasting = s.lasting := by
  unfold State.pcieDropP
  simp (disch := decide)

end StorageItems

section StoragePresence

variable (s : State) (c : Nat)

theorem State.lasting_intxSet (w : Nat) (on : Bool) : (s.intxSet c w on).lasting = s.lasting := by
  unfold State.intxSet
  dsimp only
  split <;> rfl

theorem State.lasting_hotPlug : (s.hotPlug c).lasting = s.lasting := by
  unfold State.hotPlug
  dsimp only
  split <;> rfl

theorem State.lasting_notePresent : (s.notePresent c).lasting = s.lasting := by
  unfold State.notePresent
  split
  · simp (disch := decide)
  · rfl

/-- A root raises the arrival or departure of a context and signals its hot plug (R285). -/
theorem State.lasting_announced (id : Nat) : (if s.isRoot then (s.raise id c).hotPlug c else s).lasting = s.lasting := by
  split
  · rw [State.lasting_hotPlug, State.lasting_raise]
  · rfl

theorem State.lasting_vdspArrive : (s.vdspArrive c).lasting = s.lasting := by
  unfold State.vdspArrive
  dsimp only
  rw [State.lasting_announced, State.lasting_notePresent, State.lasting_setVd]

theorem State.lasting_vdspDepart : (s.vdspDepart c).lasting = s.lasting := by
  unfold State.vdspDepart
  dsimp only
  rw [State.lasting_announced, State.lasting_raDrop,
    State.lasting_foldl _ (fun s w => by
      split
      · exact State.lasting_intxSet ..
      · rfl),
    State.lasting_foldl _ (fun s e => State.lasting_pcieDropP ..), State.lasting_foldl _ (fun s h => State.lasting_toRequester ..),
    State.lasting_notePresent, State.lasting_setVd]

theorem State.lasting_vdspRefresh : (s.vdspRefresh c).lasting = s.lasting := by
  have noted : (if s.isRoot then s.setBit PCB_VDSP.TUNREADY (s.tunReady c) c else s).lasting = s.lasting := by
    split
    · exact s.lasting_setBit _ _ _ (by decide)
    · rfl
  unfold State.vdspRefresh
  dsimp only
  generalize (if s.isRoot then _ else s : State) = u at noted ⊢
  split
  · exact noted
  · split
    · exact (u.lasting_vdspArrive c).trans noted
    · exact (u.lasting_vdspDepart c).trans noted

theorem State.lasting_pcieRefresh : s.pcieRefresh.lasting = s.lasting := State.lasting_foldl _ State.lasting_vdspRefresh _ s

theorem State.lasting_vdspHubLost (hub : Nat) : (s.vdspHubLost hub).lasting = s.lasting := by
  refine State.lasting_foldl _ (fun s c => ?_) _ s
  dsimp only
  split
  · rw [State.lasting_vdspRefresh]
    simp (disch := decide) only [State.lasting_wr, State.lasting_setBit, State.lasting_modPcb]
  · rfl

end StoragePresence

section Displays

variable (s : State)

theorem State.lasting_dpPath (hub : Nat) (away : Bool) : (s.dpPath hub away).lasting = s.lasting := by
  refine State.lasting_foldl _ (fun s d => ?_) _ s
  split
  · split <;> rfl
  · rfl

theorem State.lasting_auxFail (d : Nat) : (s.auxFail d).lasting = s.lasting := by
  unfold State.auxFail
  split
  · rfl
  · split
    · exact State.lasting_bump _ _ _ _ (by decide)
    · rfl

theorem State.lasting_hpdRefresh (d : Nat) : (s.hpdRefresh d).lasting = s.lasting := by
  unfold State.hpdRefresh
  dsimp only
  split
  · rfl
  · split
    · simp (disch := decide)
    · rw [State.lasting_auxFail]
      simp (disch := decide)

theorem State.lasting_dpLinkChange : s.dpLinkChange.lasting = s.lasting := by
  unfold State.dpLinkChange
  split
  · exact State.lasting_foldl _ State.lasting_hpdRefresh _ s
  · rfl

end Displays

section LinkGone

variable (s : State) (p : Nat)

theorem State.lasting_swLinkDown : (s.swLinkDown p).lasting = s.lasting := by
  unfold State.swLinkDown State.portDownDiscard
  exact State.lasting_foldl _ (fun s c => by rw [State.lasting_swDrop, State.lasting_releaseCopy]) _ _

/-- The uplink is gone: time holds over, safe states may latch, the policies of the Type-C ports change (R249, R343, R387). -/
theorem State.lasting_uplinkLost : s.uplinkLost.lasting = s.lasting := by
  have holds : s.tsuHoldover.lasting = s.lasting := by
    unfold State.tsuHoldover
    simp (disch := decide)
  have latched (t : State) : (if t.on FLD_OCTRL.ULOSS_EN then t.safeLatch FLD_OSTAT.ULOSS else t).lasting = t.lasting := by
    split
    · exact t.lasting_safeLatch _ (by decide)
    · rfl
  have orphan (t : State) : t.orphanRefresh.lasting = t.lasting := by
    unfold State.orphanRefresh
    split
    · exact t.lasting_setBit _ _ _ (by decide)
    · rfl
  have low (t : State) : t.ulpStart.lasting = t.lasting := by
    unfold State.ulpStart
    split
    · rfl
    · exact State.lasting_raise ..
  unfold State.uplinkLost
  dsimp only
  rw [low, State.lasting_pcieRefresh, orphan, State.lasting_tcPolicyChange, latched, holds]

theorem State.lasting_hubAbsent (hub : Nat) : (s.hubAbsent hub).lasting = s.lasting := by
  refine State.lasting_foldl _ (fun s i => ?_) _ s
  split
  · exact State.lasting_wr _ _ _ _ (by decide)
  · rfl

theorem State.lasting_subtreeLost : (s.subtreeLost p).lasting = s.lasting := by
  unfold State.subtreeLost State.reportLoss
  split
  · rw [State.lasting_dpLinkChange, State.lasting_pcieRefresh,
      State.lasting_foldl _ (fun s h => by rw [State.lasting_dpPath, State.lasting_vdspHubLost, State.lasting_hubAbsent])]
  · exact State.lasting_svcSend ..

theorem State.lasting_linkDownNews : (s.linkDownNews p).lasting = s.lasting := by
  unfold State.linkDownNews
  dsimp only
  split
  · rw [State.lasting_uplinkLost, State.lasting_swLinkDown]
  · rw [State.lasting_subtreeLost, State.lasting_swLinkDown]

/-- Nothing is left to answer but links that have gone down. -/
def State.onlyDowns (s : State) : Prop := ∀ n ∈ s.news, n.1 = 0

theorem State.lasting_answerDowns (l : List (Nat × Nat)) (downs : ∀ n ∈ l, n.1 = 0) : (l.foldl (fun s n => s.answerNews n) s).lasting = s.lasting := by
  induction l generalizing s with
  | nil => rfl
  | cons n r ih =>
    have down : s.answerNews n = s.linkDownNews n.2 := by simp only [State.answerNews, downs n List.mem_cons_self]
    rw [List.foldl_cons, ih _ fun m hm => downs m (List.mem_cons_of_mem n hm), down, State.lasting_linkDownNews]

variable {s}

theorem State.lasting_settled (downs : s.onlyDowns) : s.settled.lasting = s.lasting := s.lasting_answerDowns s.news downs

end LinkGone

section Recover

variable (s : State) (p : Nat)

/-- A link that retrains changes only registers of links, lanes and events. -/
theorem State.rd_recover (f : Field) (i : Nat) (notSeq : f.id ∉ seqFields) (notLoss : f.id ∉ lossFields) (notBoot : f.id ∉ bootFields)
    (notGone : f.id ∉ linkGoneFields) (notCounted : f.id ∉ [JXK_RETRAINS.COUNT.id, JXK_FLUSHED.COUNT.id]) : (s.recover p).rd f i = s.rd f i := by
  simp only [List.mem_cons, List.not_mem_nil, or_false, not_or] at notCounted
  unfold State.recover
  split
  · rw [State.rd_leaveActive _ _ _ _ _ _ notBoot notGone, State.rd_resetSeq _ _ _ _ notSeq, State.rd_flushDiscarded _ _ _ _ notLoss,
      State.rd_bump_ne _ _ _ _ _ _ (Ne.symm notCounted.2), State.rd_bump_ne _ _ _ _ _ _ (Ne.symm notCounted.1)]
  · rfl

theorem State.lasting_recover : (s.recover p).lasting = s.lasting := by
  have chip : (s.recover p).chip = s.chip := by
    show (s.recover p).offLinks.chip = s.offLinks.chip
    rw [State.offLinks_recover]
  exact State.lasting_of chip (s.rd_recover p _ _ (by decide) (by decide) (by decide) (by decide) (by decide))
    (s.rd_recover p _ _ (by decide) (by decide) (by decide) (by decide) (by decide))

theorem State.lasting_retrainAll : s.retrainAll.lasting = s.lasting := State.lasting_foldl _ State.lasting_recover _ s

variable {s}

theorem State.onlyDowns_of {t : State} (news : t.news = s.news) (downs : s.onlyDowns) : t.onlyDowns := by
  unfold State.onlyDowns
  rw [news]
  exact downs

theorem State.onlyDowns_recover (downs : s.onlyDowns) : (s.recover p).onlyDowns := by
  unfold State.recover
  split
  · intro n mem
    rw [State.news_leaveActive] at mem
    obtain old | new := List.mem_append.mp mem
    · exact downs n old
    · rw [List.mem_singleton.mp new]
  · exact downs

theorem State.onlyDowns_retrainAll (downs : s.onlyDowns) : s.retrainAll.onlyDowns :=
  (((downs |> State.onlyDowns_recover 0) |> State.onlyDowns_recover 1) |> State.onlyDowns_recover 2) |> State.onlyDowns_recover 3

end Recover

end Sys2Proof.Machine

/-! The configuration of the tamper sources by life-cycle state (R459). -/

namespace Sys2Proof.Machine

section TamperResponse

variable (s : State)

theorem State.lasting_slotClear (i : Nat) : (s.slotClear i).lasting = s.lasting := by
  unfold State.slotClear
  simp (disch := decide) only [List.foldl_cons, List.foldl_nil, State.lasting_modSec, State.lasting_wr]

theorem State.lasting_slotsClear : s.slotsClear.lasting = s.lasting := State.lasting_foldl _ (fun s i => s.lasting_slotClear (i + 1)) _ s

theorem State.news_slotClear (i : Nat) : (s.slotClear i).news = s.news := by
  have keyed (t : State) (g : Sec → Sec) : (t.modSec g).news = t.news := rfl
  unfold State.slotClear
  simp only [List.foldl_cons, List.foldl_nil, keyed, State.news_wr]

theorem State.news_slotsClear : s.slotsClear.news = s.news := foldl_keeps State.news _ (fun t i => t.news_slotClear (i + 1)) _ s

/-- The response to a tamper writes other registers only (R458). -/
theorem State.lasting_tamperAct (caused : Nat) : (s.tamperAct caused).lasting = s.lasting := by
  unfold State.tamperAct
  dsimp only
  split
  · rfl
  · split
    · simp (disch := decide) only [State.lasting_wr]
    · split <;> simp (disch := decide) only [State.lasting_wr, State.lasting_modSec, State.lasting_raise, State.lasting_retrainAll, State.lasting_slotsClear]

theorem State.lasting_tampShow : s.tampShow.lasting = s.lasting := s.lasting_setBit _ _ _ (by decide)

variable {s}

/-- Links that retrain go down, and no other news comes of a tamper. -/
theorem State.onlyDowns_tamperAct (caused : Nat) (downs : s.onlyDowns) : (s.tamperAct caused).onlyDowns := by
  have retrains (t : State) (same : t.news = s.news) : t.slotsClear.retrainAll.onlyDowns :=
    State.onlyDowns_retrainAll (State.onlyDowns_of (t.news_slotsClear.trans same) downs)
  have raised (t : State) (d : t.onlyDowns) : ((t.modSec (fun c => { c with noJournal := true })).raise 0x3E0 caused).onlyDowns :=
    State.onlyDowns_of (State.news_raise ..) d
  unfold State.tamperAct
  dsimp only
  split
  · exact downs
  · split
    · exact State.onlyDowns_of rfl downs
    · split
      · exact raised _ (retrains _ rfl)
      · exact State.onlyDowns_of rfl (raised _ (retrains _ rfl))

end TamperResponse

section Tampcfg

variable {s : State} {data : Nat}

theorem ruled_tampcfg : RuledReg Reg.SEC_TAMPCFG.base Reg.SEC_TAMPCFG 0 (fun s _ data => s.tampcfgWrite data) := by
  exact { aligned := rfl, noWindow := by decide +kernel, found := by decide +kernel, rule := rfl, notCmd := by decide, notPush := by decide,
          notUsb := by decide +kernel, notPwp := by decide +kernel }

/-- A check of the life cycle that fails answers before the common checks of a register write (R10). -/
theorem State.writeReg_lifeCycle (d : RegDesc) (i : Nat) (after : State → State) (b : Bool) (barred : b = true) :
    s.writeReg d i data [(St.LIFECYCLE, b)] after = s.answer St.LIFECYCLE := by
  have status : firstStatus (s.writeChecks d i data ++ [(St.LIFECYCLE, b)]) = St.LIFECYCLE := by
    unfold State.writeChecks
    rw [barred]
    generalize (d.reservedSet data || _) = value
    generalize d.fields.any (fun f => s.locks f i data) = locked
    generalize d.fields.any (fun f => f.outOfRange data) = range
    cases value <;> cases locked <;> cases range <;> rfl
  unfold State.writeReg
  rw [State.checked_fail _ _ _ (by rw [status]; decide), status]

/-- What lies within the low bits of a word lies within the word. -/
theorem and_of_and_mod {old new m : Nat} (within : old &&& new % 2 ^ m = old) : old &&& new = old := by
  have low : new % 2 ^ m &&& new = new % 2 ^ m := by
    refine Nat.eq_of_testBit_eq fun i => ?_
    rw [Nat.testBit_and, Nat.testBit_mod_two_pow]
    cases new.testBit i <;> simp
  calc old &&& new = old &&& new % 2 ^ m &&& new := by rw [within]
    _ = old := by rw [Nat.and_assoc, low, within]

theorem SEC_TAMPCFG.EN_of : SEC_TAMPCFG.EN.of data = data % 64 := congrArg (· % 64) (Nat.div_one data)

theorem State.tampcfgWrite_ended (ended : s.lc = 4) : s.tampcfgWrite data = s.answer St.LIFECYCLE := by
  unfold State.tampcfgWrite
  exact State.writeReg_lifeCycle _ _ _ _ (by rw [ended]; rfl)

/-- In FIELD a write that would clear a bit is refused (R459). -/
theorem State.tampcfgWrite_clears (field : s.lc = 2) (clears : s.rd SEC_TAMPCFG.EN &&& data ≠ s.rd SEC_TAMPCFG.EN) :
    s.tampcfgWrite data = s.answer St.LIFECYCLE := by
  have lost : (s.rd SEC_TAMPCFG.EN &&& SEC_TAMPCFG.EN.of data) != s.rd SEC_TAMPCFG.EN := by
    rw [SEC_TAMPCFG.EN_of]
    exact bne_iff_ne.mpr fun kept => clears (and_of_and_mod (m := 6) kept)
  unfold State.tampcfgWrite
  exact State.writeReg_lifeCycle _ _ _ _ (by rw [field, lost]; rfl)

/-- No common check concerns a word of the six sources alone (R6). -/
theorem State.firstStatus_tampcfg (small : data < 64) : firstStatus (s.writeChecks Reg.SEC_TAMPCFG 0 data) = St.OK := by
  have inRange : Reg.SEC_TAMPCFG.fields.any (fun f => f.outOfRange data) = false := by
    simp [Reg.SEC_TAMPCFG, Field.outOfRange_full SEC_TAMPCFG.EN _ rfl rfl]
  have clean : Reg.SEC_TAMPCFG.reservedSet data = false := by
    refine List.any_eq_false.mpr fun b _ => ?_
    by_cases low : b < 6
    · simp [Reg.SEC_TAMPCFG, SEC_TAMPCFG.EN, low]
    · have zero : bitAt data b = false := by
        rw [bitAt_eq_testBit]
        exact Nat.testBit_lt_two_pow (lt_of_lt_of_le small (Nat.pow_le_pow_right (n := 2) (by decide) (Nat.not_lt.mp low)))
      simp [zero]
  rw [State.firstStatus_writeChecks, clean, inRange]
  rfl

/-- A write that is taken is in force, and its answer is put out (R459). -/
theorem State.tampcfgWrite_accepted (small : data < 64)
    (free : s.lc = 0 ∨ s.lc = 1 ∨ s.lc = 3 ∨ (s.lc = 2 ∧ s.rd SEC_TAMPCFG.EN &&& data = s.rd SEC_TAMPCFG.EN)) : s.tampcfgWrite data =
    (((s.wr SEC_TAMPCFG.EN data).tamperAct ((s.sec.active &&& data) - (s.sec.active &&& data &&& s.rd SEC_TAMPCFG.EN))).tampShow).answer St.OK := by
  have written : SEC_TAMPCFG.EN.of data = data := SEC_TAMPCFG.EN_of.trans (Nat.mod_eq_of_lt small)
  have status : firstStatus [(St.LIFECYCLE, s.lc == 4 || (s.lc == 2 && (s.rd SEC_TAMPCFG.EN &&& data) != s.rd SEC_TAMPCFG.EN))] = St.OK := by
    rw [firstStatus_lifeCycle]
    obtain lc | lc | lc | ⟨lc, kept⟩ := free
    · rw [lc]; rfl
    · rw [lc]; rfl
    · rw [lc]; rfl
    · rw [lc, kept, bne_self_eq_false]; rfl
  unfold State.tampcfgWrite
  dsimp only
  rw [written, State.writeReg_accepted (State.firstStatus_tampcfg small) _ status]
  have fields : s.writeFields Reg.SEC_TAMPCFG 0 data = s.wr SEC_TAMPCFG.EN data := congrArg (fun v => s.wr SEC_TAMPCFG.EN v) written
  rw [fields]
  rfl

end Tampcfg

section Accepted

variable {s : State}

/-- After a write that is taken the sources enabled are those written. -/
theorem State.en_accepted {data : Nat} (small : data < 64) (caused : Nat) (quiet : s.news = []) :
    (((((s.wr SEC_TAMPCFG.EN data).tamperAct caused).tampShow).answer St.OK).settled).rd SEC_TAMPCFG.EN = data := by
  have calm : (s.wr SEC_TAMPCFG.EN data).onlyDowns := fun n mem => absurd (quiet ▸ mem) List.not_mem_nil
  have downs : ((((s.wr SEC_TAMPCFG.EN data).tamperAct caused).tampShow).answer St.OK).onlyDowns :=
    State.onlyDowns_of rfl (State.onlyDowns_tamperAct caused calm)
  have kept : (((((s.wr SEC_TAMPCFG.EN data).tamperAct caused).tampShow).answer St.OK).settled).lasting = (s.wr SEC_TAMPCFG.EN data).lasting := by
    rw [State.lasting_settled downs, State.lasting_answer, State.lasting_tampShow, State.lasting_tamperAct]
  calc _ = (s.wr SEC_TAMPCFG.EN data).rd SEC_TAMPCFG.EN := congrArg (·.2.2.2) kept
    _ = data := by
      rw [State.rd_wr_same]
      exact Nat.mod_eq_of_lt small

/-- An answer that is put out stays, whatever follows. -/
theorem State.answered_settled {r t : State} (c : Nat) (kept : Kept r t) : ((t.answer c).settled.out.drop r.out.length).contains (.status c []) = true := by
  obtain ⟨before, hb⟩ := kept.out
  obtain ⟨after, ha⟩ := (State.settled_kept (Kept.refl (t.answer c))).out
  have all : (t.answer c).settled.out = r.out ++ (before ++ [.status c []] ++ after) := by
    rw [← ha, ← List.append_assoc, ← List.append_assoc, hb]
    rfl
  rw [all, List.drop_left]
  simp

end Accepted

/-- Settles O54: resets leave the configuration alone, and the writes by life-cycle state. -/
theorem tamperConfiguration : Obligations.TamperConfiguration := by
  refine ⟨fun s cause => congrArg (·.2.2.2) (s.lasting_resetBy cause.val),
    fun s addr data hit named serves => ⟨fun ended => ?ended, fun field clears => ?clears, fun free small => ?accepted⟩⟩
  case ended =>
    rw [(named ▸ ruled_tampcfg : RuledReg addr.toNat Reg.SEC_TAMPCFG 0 _).exec_registerWrite s data hit serves, State.tampcfgWrite_ended (s := s.calm) ended]
    exact congrArg Host.Outcome.next (State.settled_of_quiet _ rfl)
  case clears =>
    rw [(named ▸ ruled_tampcfg : RuledReg addr.toNat Reg.SEC_TAMPCFG 0 _).exec_registerWrite s data hit serves,
      State.tampcfgWrite_clears (s := s.calm) field clears]
    exact congrArg Host.Outcome.next (State.settled_of_quiet _ rfl)
  case accepted =>
    refine ⟨_, (named ▸ ruled_tampcfg : RuledReg addr.toNat Reg.SEC_TAMPCFG 0 _).exec_registerWrite s data hit serves, ?_⟩
    rw [State.tampcfgWrite_accepted (s := s.calm) small free]
    refine ⟨State.en_accepted small _ rfl, ?_⟩
    have written : Kept s (s.calm.wr SEC_TAMPCFG.EN data.toNat) := State.wr_kept _ _ _ ⟨rfl, List.prefix_rfl, Nat.le_refl _, id⟩
    exact State.answered_settled St.OK (State.tampShow_kept (State.tamperAct_kept _ written))

end Sys2Proof.Machine

/-! Suspend, resume, wake, periodic entries and orphaning (R313, R323 to R328). -/

namespace Sys2Proof.Machine

section Bus

variable {s : State} (runs : s.usbOn = true)
include runs

theorem State.suspend_awake (q : Nat) (awake : s.on USB_STATUS.SUSPENDED = false) : s.suspend q = (s.abortAll.busSuspend).busRsp q St.OK 0 := by
  unfold State.suspend
  rw [if_neg (by simp [runs]), if_neg (by simp [awake])]

theorem State.suspend_suspended (q : Nat) (suspended : s.on USB_STATUS.SUSPENDED = true) : s.suspend q = s.busRsp q St.STATE 0 := by
  unfold State.suspend
  rw [if_neg (by simp [runs]), if_pos suspended]

theorem State.resume_refused (q : Nat) (refused : s.on USB_STATUS.SUSPENDED = false ∨ s.usb.resume = 1) : s.resume q = s.busRsp q St.STATE 0 := by
  unfold State.resume
  rw [if_neg (by simp [runs]), if_pos refused]

theorem State.resume_suspended (q : Nat) (suspended : s.on USB_STATUS.SUSPENDED = true) (idle : s.usb.resume = 0) :
    s.resume q = (s.modUsb (fun u => { u with resume := 1, resumeSeq := q })).emit (.act "usb resume" []) := by
  unfold State.resume
  rw [if_neg (by simp [runs]), if_neg (by simp [suspended, idle])]
  dsimp only
  rw [if_neg (by simp [idle])]

omit runs in
theorem State.busResumed_host (host : s.usb.resume = 1) : s.busResumed = (((s.wr USB_STATUS.RUN 1).wr USB_STATUS.SUSPENDED 0).modUsb (fun u =>
    { u with resume := 0, wakers := 0 })).busRsp s.usb.resumeSeq St.OK s.usb.wakers := by
  unfold State.busResumed
  rw [if_neg (by simp [host])]
  exact if_pos host

omit runs in
theorem State.portResumed_host (k : Nat) (host : NMap.get s.usb.portResume 0 k = 1) : s.portResumed k =
    (((s.modUsb (fun u => { u with portResume := NMap.set u.portResume 0 k 0 })).wr USB_PORT.SUSPEND 0 k).changeBit k 2 false) := by
  simp only [State.portResumed, host]
  rfl

variable {k : Nat}

/-- A device's wake of a suspended bus starts the resume (R324). -/
theorem State.remoteWake_starts (connected : s.on USB_PORT.CONNECT k = true) (suspended : s.on USB_STATUS.SUSPENDED = true)
    (idle : s.usb.resume = 0) : s.remoteWake k = ((((s.modUsb (fun u => { u with wakers := u.wakers ||| 2 ^ k, resume := 2 })).wr
      USB_PORT.WAKE 1 k).portChg k true false).raise Ev.USB_REMOTE_WAKE k) := by
  have begun : s.modUsb (fun u => { u with wakers := u.wakers ||| 2 ^ k, resume := if u.resume = 0 then 2 else u.resume }) =
      s.modUsb (fun u => { u with wakers := u.wakers ||| 2 ^ k, resume := 2 }) :=
    congrArg (fun r => s.modUsb (fun u => { u with wakers := u.wakers ||| 2 ^ k, resume := r })) (if_pos idle)
  unfold State.remoteWake
  rw [if_neg (by simp [runs, connected]), if_pos suspended]
  dsimp only
  rw [begun, if_neg (by simp [idle])]

/-- One that meets the host's resume is a collision (R324). -/
theorem State.remoteWake_collides (connected : s.on USB_PORT.CONNECT k = true) (suspended : s.on USB_STATUS.SUSPENDED = true)
    (host : s.usb.resume = 1) : s.remoteWake k = (s.modUsb (fun u => { u with wakers := u.wakers ||| 2 ^ k })).wakeCollides k := by
  have kept : s.modUsb (fun u => { u with wakers := u.wakers ||| 2 ^ k, resume := if u.resume = 0 then 2 else u.resume }) =
      s.modUsb (fun u => { u with wakers := u.wakers ||| 2 ^ k }) :=
    congrArg (fun r => s.modUsb (fun u => { u with wakers := u.wakers ||| 2 ^ k, resume := r })) (if_neg (by simp [host]))
  unfold State.remoteWake
  rw [if_neg (by simp [runs, connected]), if_pos suspended]
  dsimp only
  rw [kept, if_pos host]

omit runs in
theorem State.remoteWake_awake (awake : s.on USB_STATUS.SUSPENDED = false) (active : s.on USB_PORT.SUSPEND k = false) : s.remoteWake k = s := by
  unfold State.remoteWake
  split
  · rfl
  · rw [if_neg (by simp [awake]), if_neg (by simp [active])]

theorem State.orphanTimeout_orphan (orphan : s.on USB_STATUS.ORPHAN = true) : s.orphanTimeout =
    ((((s.entries.foldl (fun t i => t.unload i) s).modUsb (fun u => { u with bursts := [], dones := [] })).wr USB_STATUS.NEXT_BSEQ 0).busSuspend).raise
      Ev.USB_ORPHAN := if_neg (by simp [runs, orphan])

end Bus

section Entries

variable {s : State} (runs : s.usbOn = true) (q : Nat)
include runs

theorem State.pload_checked (b : List Byte) : s.pload q b = (if firstStatus (s.ploadChecks b) = St.OK then (s.loadEntry b).periodicFit else s).rteSend
    (rteMessage 8 q 0 (le 1 (firstStatus (s.ploadChecks b)))) := if_neg (by simp [runs])

theorem State.punload_valid {i : Nat} (low : i < 64) (valid : s.on USB_PENT0.VALID i = true) :
    s.punload q i = (s.unload i).rteSend (rteMessage 8 q 0 (le 1 St.OK)) := by
  unfold State.punload
  rw [if_neg (by simp [runs]), if_pos ⟨low, valid⟩]

theorem State.punload_other {i : Nat} (other : 64 ≤ i ∨ s.on USB_PENT0.VALID i = false) :
    s.punload q i = s.rteSend (rteMessage 8 q 0 (le 1 St.VALUE)) := by
  unfold State.punload
  rw [if_neg (by simp [runs]), if_neg]
  rintro ⟨low, valid⟩
  exact other.elim (absurd low ∘ Nat.not_lt.mpr) (by simp [valid])

end Entries

section Frames

variable {s : State}

/-- The hub in microframe `u` (R313). -/
abbrev State.inFrame (s : State) (u : Nat) : State := s.wr USB_UFRAME.UFRAME u

theorem State.entries_inFrame (u : Nat) : (s.inFrame u).entries = s.entries :=
  List.filter_congr fun _ _ => State.on_wr_ne _ _ _ _ _ _ (by decide)

theorem State.pent_inFrame (u i : Nat) : (s.inFrame u).pent i = s.pent i := by
  unfold State.pent
  simp (disch := decide) only [State.rd_wr_ne]

/-- A record that enters the transmit queue, or is dropped, unloads no entry (R330). -/
theorem State.entries_recordSend (b : List Byte) : (s.recordSend b).entries = s.entries := by
  have valid (i : Nat) : (s.recordSend b).on USB_PENT0.VALID i = s.on USB_PENT0.VALID i := by
    unfold State.recordSend
    split
    · dsimp only
      split
      · exact (State.on_raiseOnce _ _ _ _ _ _ (by decide)).trans (State.on_bump_ne _ _ _ _ _ _ (by decide))
      · split
        · show (State.queueFlits _ _ _ _ _ _).offWire.on _ _ = s.offWire.on _ _
          rw [State.offWire_queueFlits]
        · exact State.on_bump_ne _ _ _ _ _ _ (by decide)
    · rfl
  exact List.filter_congr fun i _ => valid i

/-- What the device of an entry does. -/
def deviceAct (ents codes : List Nat) (datas : List (List Byte)) (i : Nat) : Nat × List Byte :=
  if ents.contains i then (codes.getD (ents.idxOf i) 9, datas.getD (ents.idxOf i) []) else (9, [])

theorem deviceAct_one (i c : Nat) (d : List (List Byte)) : deviceAct [i] [c] d i = (c, d.getD 0 []) := by
  simp [deviceAct]

/-- The microframe after `s`'s (R313). -/
def State.nextFrame (s : State) : Nat := (s.rd USB_UFRAME.UFRAME + 1) % 16384

variable (runs : s.usbOn = true) (sof : s.on USB_STATUS.RUN = true) (ents codes : List Nat) (datas : List (List Byte))
include runs sof

theorem State.microframe_running : s.microframe ents codes datas =
    let v := s.inFrame s.nextFrame
    let w := if s.nextFrame % 1024 = 0 then v.drew.recordSend (recordBytes 2 0 s.nextFrame 0 [] ++ le 8 v.now) else v
    w.entries.foldl (fun t i => t.periodicRun s.nextFrame i (deviceAct ents codes datas i)) w := if_neg (by simp [runs, sof])

/-- With no entry loaded, every 1,024th microframe sends its frame-time record and nothing else (R313). -/
theorem State.microframe_timed (timed : s.nextFrame % 1024 = 0) (none : s.entries = []) : s.microframe ents codes datas =
    (s.inFrame s.nextFrame).drew.recordSend (recordBytes 2 0 s.nextFrame 0 [] ++ le 8 (s.inFrame s.nextFrame).now) := by
  have unloaded (b : List Byte) : ((s.inFrame s.nextFrame).drew.recordSend b).entries = [] :=
    (State.entries_recordSend b).trans ((State.entries_inFrame s.nextFrame).trans none)
  rw [State.microframe_running runs sof]
  dsimp only
  rw [if_pos timed, unloaded]
  rfl

theorem State.microframe_plain (plain : s.nextFrame % 1024 ≠ 0) : s.microframe ents codes datas =
    s.entries.foldl (fun t i => t.periodicRun s.nextFrame i (deviceAct ents codes datas i)) (s.inFrame s.nextFrame) := by
  rw [State.microframe_running runs sof]
  dsimp only
  rw [if_neg plain, State.entries_inFrame]

theorem State.microframe_one {i : Nat} (plain : s.nextFrame % 1024 ≠ 0) (one : s.entries = [i]) : s.microframe ents codes datas =
    (s.inFrame s.nextFrame).periodicRun s.nextFrame i (deviceAct ents codes datas i) := by
  rw [State.microframe_plain runs sof ents codes datas plain, one]
  rfl

end Frames

section PeriodicEntry

variable {s : State} {u i : Nat}

/-- An entry that has started (R326). -/
def State.entryStarted (s : State) (i : Nat) : State := s.modUsb (fun v => { v with started := NMap.set v.started false i true })

theorem State.periodicRun_due (out : Nat × List Byte) (valid : s.on USB_PENT0.VALID i = true) (starts : s.rd USB_PENT2.START i = u)
    (due : (s.pent i).runs u = true) (active : s.on USB_PORT.SUSPEND (s.rd USB_PENT0.PORT i) = false) : s.periodicRun u i out =
    if s.on USB_PENT0.DIR i then (s.entryStarted i).runIn i u out.1 out.2 else (s.entryStarted i).runOut i u out.1 := by
  have go : (NMap.get s.usb.started false i || s.rd USB_PENT2.START i == u) = true := by rw [starts, beq_self_eq_true, Bool.or_true]
  have now : ¬(((s.entryStarted i).pent i).runs u = false ∨ (s.entryStarted i).on USB_PORT.SUSPEND ((s.entryStarted i).rd USB_PENT0.PORT i) = true) := by
    rintro (idle | suspended)
    · exact Bool.false_ne_true (idle.symm.trans due)
    · exact Bool.false_ne_true (active.symm.trans suspended)
  unfold State.periodicRun
  rw [if_neg (by rw [valid, go]; decide)]
  exact if_neg now

theorem State.runIn_whole {d : List Byte} (whole : d.length = (s.pent i).mult * (s.pent i).mps) :
    s.runIn i u 0 d = s.recordSend (recordBytes 0 i u 0 d) := by
  have all : d.take ((s.pent i).mult * (s.pent i).mps) = d := List.take_of_length_le (Nat.le_of_eq whole)
  simp only [State.runIn, all, whole, Nat.lt_irrefl, if_false]

theorem State.runOut_held {r : List Byte} (held : s.usb.recs = [⟨i, u, r⟩]) : s.runOut i u 0 =
    (s.modUsb (fun x => { x with recs := [] })).emit (.act "usb out" ([i, u] ++ r.map (·.toNat))) := by
  have found : takeFirst (fun (r : OutRec) => r.entry == i && r.uframe == u) s.usb.recs = some (⟨i, u, r⟩, []) := by
    rw [held]
    simp [takeFirst]
  simp only [State.runOut, found]
  rfl

theorem State.runOut_under (iso : s.on USB_PENT0.TYPE i = true) (empty : s.usb.recs = []) :
    s.runOut i u 0 = (s.bump USB_POUNDER.COUNT).bump USB_PENT3.MISS i := by
  have none : takeFirst (fun (r : OutRec) => r.entry == i && r.uframe == u) s.usb.recs = Option.none := by
    rw [empty]
    rfl
  simp only [State.runOut, none]
  exact if_pos iso

end PeriodicEntry

section OutRecords

variable {s : State} (runs : s.usbOn = true) (b : List Byte)
include runs

theorem State.outRecord_lost : s.outRecord b true = s.bump USB_POLOSS.COUNT := by
  unfold State.outRecord
  dsimp only
  rw [if_neg (by simp [runs])]
  rfl

/-- The record of an OUT entry (R328). -/
theorem State.outRecord_entry (typ : byteAt b 0 = 1) (valid : s.on USB_PENT0.VALID (byteAt b 1 % 64) = true)
    (out : s.on USB_PENT0.DIR (byteAt b 1 % 64) = false) : s.outRecord b false =
    let i := byteAt b 1 % 64
    let u := leAt b 2 2 % 16384
    let ahead := (u + 16384 - s.rd USB_UFRAME.UFRAME) % 16384
    let held := s.usb.recs.filter (fun r => r.entry == i)
    if ahead < 2 ∨ 1024 < ahead then s.bump USB_POLATE.COUNT
    else if s.rd USB_PENT2.DEPTH i ≤ held.length ∨ held.any (fun r => r.uframe == u) then s.bump USB_POOVR.COUNT
    else s.modUsb (fun v => { v with recs := v.recs ++ [⟨i, u, (b.drop 8).take (leAt b 4 2 % 4096)⟩] }) := by
  unfold State.outRecord
  dsimp only
  rw [if_neg (by simp [runs]), if_neg Bool.false_ne_true, if_neg (by simp [typ, valid, out])]

end OutRecords

section UsbCommands

variable (s : State) (q : Fin 256)

theorem exec_suspend : exec (.suspend q) s = .next (s.suspend q.val) := rfl
theorem exec_resume : exec (.resume q) s = .next (s.resume q.val) := rfl
theorem exec_resumeDone (t : Fin 5) : exec (.resumeDone t) s =
    .next (if s.usbOn = false then s else if t.val = 4 then s.busResumed else s.portResumed t.val) := rfl
theorem exec_remoteWake (k : Fin 4) : exec (.remoteWake k) s = .next (s.remoteWake k.val) := rfl
theorem exec_pload (b : List Byte) : exec (.pload q b) s = .next (s.pload q.val b) := rfl
theorem exec_punload (i : Fin 256) : exec (.punload q i) s = .next (s.punload q.val i.val) := rfl
theorem exec_microframeStart (l m : List Nat) (d : List (List Byte)) : exec (.microframeStart l m d) s = .next (s.microframe l m d) := rfl
theorem exec_outRecordReceive (b : List Byte) (lost : Bool) : exec (.outRecordReceive b lost) s = .next (s.outRecord b lost) := rfl
theorem exec_orphanTimeout : exec .orphanTimeout s = .next s.orphanTimeout := rfl

end UsbCommands

section DueEntry

variable {s : State} {i : Nat} (runs : s.usbOn = true) (sof : s.on USB_STATUS.RUN = true) (one : s.entries = [i])
  (plain : s.nextFrame % 1024 ≠ 0) (starts : s.rd USB_PENT2.START i = s.nextFrame) (due : (s.pent i).runs s.nextFrame = true)
  (active : s.on USB_PORT.SUSPEND (s.rd USB_PENT0.PORT i) = false)
include runs sof one plain starts due active

/-- The one entry that is loaded runs when it is due (R326). -/
theorem State.microframe_due (c : Nat) (d : List (List Byte)) : s.microframe [i] [c] d =
    if s.on USB_PENT0.DIR i then ((s.inFrame s.nextFrame).entryStarted i).runIn i s.nextFrame c (d.getD 0 [])
    else ((s.inFrame s.nextFrame).entryStarted i).runOut i s.nextFrame c := by
  have keeps (f : Field) (other : USB_UFRAME.UFRAME.id ≠ f.id) (j : Nat) : (s.inFrame s.nextFrame).rd f j = s.rd f j := State.rd_wr_ne _ _ _ _ _ _ other
  have keepsOn (f : Field) (other : USB_UFRAME.UFRAME.id ≠ f.id) (j : Nat) : (s.inFrame s.nextFrame).on f j = s.on f j := State.on_of_rd (keeps f other j)
  have mem : i ∈ s.entries := one ▸ List.mem_singleton_self i
  have valid : s.on USB_PENT0.VALID i = true := (List.mem_filter.mp mem).2
  rw [State.microframe_one runs sof _ _ _ plain one, deviceAct_one, State.periodicRun_due _ ((keepsOn _ (by decide) i).trans valid)
    ((keeps _ (by decide) i).trans starts) (by rw [State.pent_inFrame, due]) (by rw [keeps _ (by decide), keepsOn _ (by decide), active]),
    keepsOn _ (by decide)]

end DueEntry

/-- The time of a frame-time record does not depend on which of two free values that follow each other it is taken from. -/
def freeTimesAgree : Prop := ∀ n, Config.freeValue n % 5120 = Config.freeValue (n + 1) % 5120

theorem State.now_drew (agree : freeTimesAgree) (s : State) : s.drew.now = s.now :=
  congrArg (fun f => (s.timeAtSlot0 + f) % 2 ^ 64) (agree s.fresh).symm

theorem usbPeriodic_of_freeTimesAgree (agree : freeTimesAgree) : Obligations.UsbPeriodic := by
  refine ⟨fun s q runs => ⟨fun suspended => ?twice, fun awake none => ?suspends, fun b awake one => ?aborts, fun refused => ?resumeRefused,
      fun suspended idle => ?resumes, fun host => ?resumed, fun k host => ?portResumed, fun k connected suspended idle => ?wakes,
      fun k connected suspended host => ?collides, fun k awake active => ?awake⟩,
    fun s q b runs => ⟨fun st fails bad => ?ploadFails, fun passes => ?ploads⟩,
    fun s q i runs => ⟨fun low valid => ?unloads, fun other => ?unloadsNone⟩,
    fun s l m d runs sof => ⟨fun none plain => ?frame, fun none timed => ?timed, fun i a one plain starts due active =>
      ⟨fun into whole => ?inEntry, fun r out held => ?outEntry, fun out iso empty => ?under⟩⟩,
    fun s b runs => ⟨?lost, fun typ valid out => ⟨fun late => ?late, fun near far full => ?overrun, fun near far room new => ?kept⟩⟩,
    fun s runs => ⟨fun linked => ?linked, fun orphan => ?orphan⟩⟩
  case twice => rw [exec_suspend, State.suspend_suspended runs _ suspended]
  case suspends =>
    have same : s.abortAll = s := by
      unfold State.abortAll
      rw [none]
      rfl
    rw [exec_suspend, State.suspend_awake runs _ awake, same]
  case aborts =>
    have ended : s.abortAll = s.burstAbort := by
      unfold State.abortAll
      rw [one]
      rfl
    rw [exec_suspend, State.suspend_awake runs _ awake, ended]
    simp only [State.burstAbort, one]
  case resumeRefused => rw [exec_resume, State.resume_refused runs _ refused]
  case resumes => rw [exec_resume, State.resume_suspended runs _ suspended idle]
  case resumed =>
    rw [exec_resumeDone, if_neg (by simp [runs]), ← State.busResumed_host host]
    rfl
  case portResumed =>
    rw [exec_resumeDone, if_neg (by simp [runs]), ← State.portResumed_host k.val host]
    exact congrArg Host.Outcome.next (if_neg (Nat.ne_of_lt k.isLt))
  case wakes => rw [exec_remoteWake, State.remoteWake_starts runs connected suspended idle]
  case collides =>
    rw [exec_remoteWake, State.remoteWake_collides runs connected suspended host]
    rfl
  case awake => rw [exec_remoteWake, State.remoteWake_awake awake active]
  case ploadFails => rw [exec_pload, State.pload_checked runs, fails, if_neg bad]
  case ploads => rw [exec_pload, State.pload_checked runs, passes, if_pos rfl]
  case unloads => rw [exec_punload, State.punload_valid runs _ low valid]
  case unloadsNone => rw [exec_punload, State.punload_other runs _ other]
  case frame =>
    rw [exec_microframeStart, State.microframe_plain runs sof _ _ _ plain, none]
    rfl
  case timed =>
    rw [exec_microframeStart, State.microframe_timed runs sof _ _ _ timed none, ← State.now_drew agree]
    rfl
  case inEntry =>
    have whole' : a.length = (((s.inFrame s.nextFrame).entryStarted i).pent i).mult * (((s.inFrame s.nextFrame).entryStarted i).pent i).mps := by
      rw [show ((s.inFrame s.nextFrame).entryStarted i).pent i = s.pent i from State.pent_inFrame _ i, whole]
    rw [exec_microframeStart, State.microframe_due runs sof one plain starts due active, if_pos into]
    exact congrArg Host.Outcome.next (State.runIn_whole whole')
  case outEntry =>
    rw [exec_microframeStart, State.microframe_due runs sof one plain starts due active, if_neg (by simp [out])]
    exact congrArg Host.Outcome.next (State.runOut_held held)
  case under =>
    have iso' : ((s.inFrame s.nextFrame).entryStarted i).on USB_PENT0.TYPE i = true := (State.on_wr_ne _ _ _ _ _ _ (by decide)).trans iso
    rw [exec_microframeStart, State.microframe_due runs sof one plain starts due active, if_neg (by simp [out])]
    exact congrArg Host.Outcome.next (State.runOut_under iso' empty)
  case lost => rw [exec_outRecordReceive, State.outRecord_lost runs]
  case late => rw [exec_outRecordReceive, State.outRecord_entry runs b typ valid out, if_pos late]
  case overrun =>
    rw [exec_outRecordReceive, State.outRecord_entry runs b typ valid out, if_neg (by omega), if_pos (.inl full)]
  case kept =>
    have free : ¬(s.rd USB_PENT2.DEPTH (byteAt b 1 % 64) ≤ (s.usb.recs.filter (fun r => r.entry == byteAt b 1 % 64)).length ∨
        (s.usb.recs.filter (fun r => r.entry == byteAt b 1 % 64)).any (fun r => r.uframe == leAt b 2 2 % 16384) = true) := by
      rintro (full | taken)
      · exact absurd room (Nat.not_lt.mpr full)
      · obtain ⟨r, mem, same⟩ := List.any_eq_true.mp taken
        exact new r mem (beq_iff_eq.mp same)
    rw [exec_outRecordReceive, State.outRecord_entry runs b typ valid out, if_neg (by omega)]
    exact congrArg Host.Outcome.next (if_neg free)
  case linked => exact congrArg Host.Outcome.next (if_pos (.inr linked))
  case orphan => rw [exec_orphanTimeout, State.orphanTimeout_orphan runs orphan]

section FrameTime

variable {s : State} {p x : Nat}

theorem flitPayloads_one {b : List Byte} (some_ : b ≠ []) (short : b.length ≤ 24) : flitPayloads b = [fit 24 b] := by
  cases b with
  | nil => exact absurd rfl some_
  | cons y r =>
    have none : (y :: r).drop 24 = [] := List.drop_of_length_le short
    have rest : chunks 24 r.length ([] : List Byte) = [] := by cases r.length <;> rfl
    simp only [flitPayloads, List.length_cons, chunks, List.isEmpty_cons, Bool.false_eq_true, if_false, none, rest, List.take_of_length_le short,
      List.map_cons, List.map_nil]

/-- A record of one flit that enters an empty transmit queue is what the queue then holds (R330). -/
theorem State.txq_recordSend (up : s.upPort = some p) (tunnel : s.tixAt 0x35 = some x) (sends : s.canSend p x = true) (empty : (s.lk p).txq = [])
    {b : List Byte} (some_ : b ≠ []) (short : b.length ≤ 24) : ((s.recordSend b).lk p).txq.map (fun i => i.payload) = [fit 24 b] := by
  have waits : (s.isoWaiting p x + [fit 24 b].length) * 24 ≤ 32768 := by
    unfold State.isoWaiting
    rw [empty]
    show (0 + 1) * 24 ≤ 32768
    decide
  have queued (i : TxItem) : ((s.queueTx p i).lk p).txq = [i] := by
    unfold State.queueTx
    rw [State.lk_modLk_same, empty]
    rfl
  unfold State.recordSend
  simp only [up, tunnel, sends, Bool.true_eq_false, if_false, flitPayloads_one some_ short]
  rw [if_pos waits]
  exact congrArg (List.map fun i => i.payload) (queued _)

theorem length_recordBytes (ptype entry uframe pstat : Nat) (d : List Byte) : (recordBytes ptype entry uframe pstat d).length = 8 + d.length := by
  simp only [recordBytes, List.length_append, length_le]

/-- A record that carries a time shows it. -/
theorem fit_time_inj {h : List Byte} (header : h.length = 8) {a c : Nat} (same : fit 24 (h ++ le 8 a) = fit 24 (h ++ le 8 c)) :
    a % 2 ^ 64 = c % 2 ^ 64 := by
  have size (v : Nat) : (h ++ le 8 v).length = 16 := by rw [List.length_append, length_le, header]
  have whole (v : Nat) : (h ++ le 8 v).take 24 = h ++ le 8 v := List.take_of_length_le (by rw [size]; decide)
  unfold fit at same
  rw [whole, whole] at same
  have times : le 8 a = le 8 c := List.append_cancel_left (List.append_inj_left same ((size a).trans (size c).symm))
  have shown := congrArg (fun l => leAt l 0 8) times
  rwa [leAt_le, leAt_le] at shown

/-- A node in microframe 1,023 without periodic entries. Its ISO tunnel owns slot 5 of the ACTIVE uplink at port 2. -/
def beforeFrameTime : State :=
  { ((((((((State.reset.wr USB_CTRL.EN 1).wr USB_STATUS.RUN 1).wr USB_UFRAME.UFRAME 1023).wr PLN_LSTAT.UPSTREAM 1 2).wr PLN_LSTAT.BOOT 0 2).wr
      JXK_STATUS.STATE 6 2).wr TUN_ENT0.VALID 1 18).wr TUN_ENT1.EP_A 0x35 18).wr TUN_ENT1.EP_B 2 18 with
    planStore := NMap.set [] 0 (planKey 2 0 0 5) 18 }

/-- A hub whose next free value is the `n`th. -/
def State.freshAt (s : State) (n : Nat) : State := { s with fresh := n }

theorem State.usbOn_freshAt (s : State) (n : Nat) : (s.freshAt n).usbOn = s.usbOn := rfl
theorem State.on_freshAt (s : State) (n : Nat) (f : Field) (i : Nat) : (s.freshAt n).on f i = s.on f i := rfl
theorem State.nextFrame_freshAt (s : State) (n : Nat) : (s.freshAt n).nextFrame = s.nextFrame := rfl
theorem State.entries_freshAt (s : State) (n : Nat) : (s.freshAt n).entries = s.entries := rfl
theorem State.upPort_freshAt (s : State) (n : Nat) : (s.freshAt n).upPort = s.upPort := rfl
theorem State.tixAt_freshAt (s : State) (n ep : Nat) : (s.freshAt n).tixAt ep = s.tixAt ep := rfl
theorem State.canSend_freshAt (s : State) (n p x : Nat) : (s.freshAt n).canSend p x = s.canSend p x := rfl
theorem State.lk_freshAt (s : State) (n p : Nat) : (s.freshAt n).lk p = s.lk p := rfl
theorem State.drew_inFrame_freshAt (s : State) (n u : Nat) : ((s.freshAt n).inFrame u).drew = (s.inFrame u).freshAt (n + 1) := rfl

/-- What `beforeFrameTime` sends in its next microframe, were the time it gives `t`. -/
def frameTimeSent (n t : Nat) : State :=
  ((beforeFrameTime.freshAt n).inFrame 1024).drew.recordSend (recordBytes 2 0 1024 0 [] ++ le 8 t)

theorem frameTimeSent_inj {n t u : Nat} (same : frameTimeSent n t = frameTimeSent n u) : t % 2 ^ 64 = u % 2 ^ 64 := by
  have up : (beforeFrameTime.inFrame 1024).upPort = some 2 := by decide +kernel
  have tunnel : (beforeFrameTime.inFrame 1024).tixAt 0x35 = some 18 := by decide +kernel
  have sends : (beforeFrameTime.inFrame 1024).canSend 2 18 = true := by decide +kernel
  have empty : ((beforeFrameTime.inFrame 1024).lk 2).txq = [] := by decide +kernel
  have header : (recordBytes 2 0 1024 0 []).length = 8 := length_recordBytes ..
  have size (v : Nat) : (recordBytes 2 0 1024 0 [] ++ le 8 v).length = 16 := by rw [List.length_append, header, length_le]
  have payload (v : Nat) : ((frameTimeSent n v).lk 2).txq.map (fun i => i.payload) = [fit 24 (recordBytes 2 0 1024 0 [] ++ le 8 v)] := by
    unfold frameTimeSent
    rw [State.drew_inFrame_freshAt]
    exact State.txq_recordSend ((State.upPort_freshAt ..).trans up) ((State.tixAt_freshAt ..).trans tunnel) ((State.canSend_freshAt ..).trans sends)
      ((congrArg Link.txq (State.lk_freshAt ..)).trans empty) (List.ne_nil_of_length_pos (by rw [size]; decide)) (by rw [size]; decide)
  have sent := payload t
  rw [same, payload u] at sent
  exact (fit_time_inj header (List.singleton_inj.mp sent)).symm

theorem State.timeAtSlot0_beforeFrameTime : beforeFrameTime.timeAtSlot0 = 0 := by decide +kernel

/-- At the start of time, now is what the free value says. -/
theorem State.now_freshAt {s : State} (zero : s.timeAtSlot0 = 0) (n u : Nat) : ((s.freshAt n).inFrame u).now = Config.freeValue n % 5120 := by
  have start : ((s.freshAt n).inFrame u).timeAtSlot0 = 0 := zero
  have small : Config.freeValue n % 5120 < 2 ^ 64 := lt_trans (Nat.mod_lt _ (by decide)) (by decide)
  unfold State.now
  rw [start, Nat.zero_add]
  exact Nat.mod_eq_of_lt small

theorem State.now_drew_freshAt {s : State} (zero : s.timeAtSlot0 = 0) (n u : Nat) :
    ((s.freshAt n).inFrame u).drew.now = Config.freeValue (n + 1) % 5120 := State.now_freshAt zero (n + 1) u

/-- The statement hangs on the free values alone, of which the model says nothing (log entry 3): its clause for the frame-time record takes the time
from the free value after the one that `State.microframe` takes it from. Every other clause holds. -/
theorem usbPeriodic_iff_freeTimesAgree : Obligations.UsbPeriodic ↔ freeTimesAgree := by
  refine ⟨fun holds n => ?_, usbPeriodic_of_freeTimesAgree⟩
  obtain ⟨-, -, -, frames, -⟩ := holds
  have runs : (beforeFrameTime.freshAt n).usbOn = true := (State.usbOn_freshAt ..).trans (by decide +kernel)
  have sof : (beforeFrameTime.freshAt n).on USB_STATUS.RUN = true := (State.on_freshAt ..).trans (by decide +kernel)
  have next : (beforeFrameTime.freshAt n).nextFrame = 1024 := (State.nextFrame_freshAt ..).trans (by decide +kernel)
  have none : (beforeFrameTime.freshAt n).entries = [] := (State.entries_freshAt ..).trans (by decide +kernel)
  obtain ⟨-, claim, -⟩ := frames (beforeFrameTime.freshAt n) [] [] [] runs sof
  have sent := State.microframe_timed runs sof [] [] [] (by rw [next]) none
  have claimed := Host.Outcome.next.inj ((exec_microframeStart ..).symm.trans (claim none (by rw [← State.nextFrame, next])))
  rw [← State.nextFrame, next] at claimed
  rw [next] at sent
  have times := frameTimeSent_inj (n := n) (sent.symm.trans claimed)
  rw [State.now_freshAt State.timeAtSlot0_beforeFrameTime, State.now_drew_freshAt State.timeAtSlot0_beforeFrameTime] at times
  have small (m : Nat) : Config.freeValue m % 5120 < 2 ^ 64 := lt_trans (Nat.mod_lt _ (by decide)) (by decide)
  rwa [Nat.mod_eq_of_lt (small n), Nat.mod_eq_of_lt (small (n + 1))] at times

end FrameTime

end Sys2Proof.Machine
